-- ==== Sys2Proof/Word.lean ====
section
/-! DEFINITION. The word types of the AV-5120 block and the shape of its sparse tables. -/
namespace Sys2Proof

/-- One byte of a request, completion, datagram or frame (00 R8). -/
abbrev Byte := BitVec 8

/-- One 32-bit word of a register, descriptor or record (00 R8, R10). -/
abbrev Word := BitVec 32

/-- A sparse table: what a key not listed holds is the default its reader names. -/
abbrev Tab (α : Type) := List (Nat × α)

/-- A byte memory in canonical form: addresses strictly rising, only written bytes listed. -/
abbrev Mem := List (Nat × Byte)

end Sys2Proof
end

