-- ==== Sys2Proof/Syntax.lean ====
section
/-! DEFINITION. The commands of the block: the one inductive `Instr`, a constructor for each row of
spec/opcode_table.json in the table's order, and the data its operands are made of. -/
namespace Sys2Proof

/-- An IP source or destination address (02 R35, R546). -/
structure IpAddr where
  v6 : Bool := false
  addr : Nat := 0
  deriving DecidableEq, Repr

/-- A mailbox request in execution: the header of 02 R42, its payload from byte 16 on, and where it came
from. `port` is 0 for PCIe, 1 and 2 for Ethernet ports 0 and 1. `serial` is its place among the requests that
its mailbox admitted, which tells two requests with one opcode and TAG apart (02 R45; model's own, log 5). -/
structure Request where
  queue : Nat := 16
  serial : Nat := 0
  part : Nat := 2
  port : Nat := 0
  src : IpAddr := {}
  sport : Nat := 0
  opcode : Nat := 0
  cont : Nat := 0
  tag : Nat := 0
  payload : List Byte := []
  deriving DecidableEq, Repr

/-- A UDP datagram to destination port 45120 (02 R60): source, whether it is a fragment, whether its
checksum is right, and its bytes. -/
structure Datagram where
  src : IpAddr := {}
  sport : Nat := 0
  fragment : Bool := false
  checksumOk : Bool := true
  bytes : List Byte := []
  deriving DecidableEq, Repr

/-- The non-Creel frames of 15 R433. -/
inductive AuxKind where
  | arp | neighbour | ptp | other
  deriving DecidableEq, Repr

/-- A collect record of one axis (03 R79). -/
structure CollectRec where
  fb0 : Int := 0
  fb1 : Int := 0
  astat : BitVec 16 := 0
  temp : Int := 0
  lim : Nat := 0
  deriving DecidableEq, Repr

/-- A collect slot as it came back in one copy (03 R78): `crcOk` says whether its SCRC held, `late` whether
it came after the window-open moment (01 R29). -/
structure SlotRx where
  node : Nat := 1
  flags : BitVec 8 := 0
  seq : Nat := 0
  crcOk : Bool := true
  late : Bool := false
  recs : List CollectRec := []
  blocks : List (BitVec 64) := []
  deriving DecidableEq, Repr

/-- One copy of a collect or merged frame returned to a module port (03 R75, R80). `fromWest` is the port
the copy left from; `endNs` is the arrival of its last slot data from the instant named in 03 R84. -/
structure RingCopy where
  ring : Nat := 0
  fromWest : Bool := false
  hcrcOk : Bool := true
  cycle : Nat := 0
  table : Nat := 0
  loopClk : Nat := 0
  endNs : Nat := 0
  cut : Bool := false
  slots : List SlotRx := []
  deriving DecidableEq, Repr

/-- A service segment (03 R77). -/
structure ServiceSeg where
  node : Nat := 0
  op : Nat := 0
  index : Nat := 0
  data : List Byte := []
  crcOk : Bool := true
  deriving DecidableEq, Repr

/-- A deliver slot as it passes a member (03 R78): `crcOk` says whether its SCRC held. -/
structure DeliverRx where
  node : Nat := 1
  flags : BitVec 8 := 0
  seq : Nat := 0
  crcOk : Bool := true
  payload : List Byte := []
  deriving DecidableEq, Repr

/-- An ordered-set block as it is received or sent (03 R73). -/
structure SetBlock where
  d1 : Nat := 0
  d2 : Nat := 255
  d3 : Nat := 0
  ext : Nat := 0
  deriving DecidableEq, Repr

/-- Ordered sets as they are received in a gap (03 R73, R74): whether at the west port, and their blocks, oldest first. -/
structure SetsIn where
  west : Bool := false
  blocks : List SetBlock := []
  deriving DecidableEq, Repr

/-- A frame of another leader as it reaches a port of the module (03 R75): its header; `arrive`, the clocks of 1.28 ns from the
module's latest instant to its start block; `back`, that it comes back on the other fibre of a healed ring; its deliver service
segment; whether NODE of its collect service segment is 00h; its slots; and the ordered sets received in the gap before it. -/
structure FrameHeader where
  hcrcOk : Bool := true
  ftype : Nat := 1
  info : Nat := 4
  table : Nat := 0
  cycle : Nat := 0
  leader : Nat := 0
  loopDly : Nat := 0xFFFF
  arrive : Nat := 0
  back : Bool := false
  svc : ServiceSeg := {}
  ansFree : Bool := true
  slots : List SlotRx := []
  dslots : List DeliverRx := []
  sets : List SetBlock := []
  deriving DecidableEq, Repr

/-- The two safety channels (10). -/
inductive Chan where
  | core | scarp
  deriving DecidableEq, Repr

/-- The scope of a trip (10 R283). -/
inductive Scope where
  | shaft (n : Nat)
  | module
  deriving DecidableEq, Repr

/-- Where a safe link frame came from: local link SPLn, or trunk safe link TSLn (10 R291, 14 R419). -/
inductive LinkSrc where
  | spl (n : Nat)
  | tsl (n : Nat)
  deriving DecidableEq, Repr

/-- What 10 R295 can lose. -/
inductive LinkLoss where
  | stream (l : LinkSrc) (b : Bool)
  | car (n : Nat)
  deriving DecidableEq, Repr

/-- Front ends behind an isolator bridge (11 R319). -/
inductive FrontEnd where
  | di | dout
  | ai (n : Nat) | sd (n : Nat) | qa (n : Nat) | pwm (n : Nat) | stp (n : Nat)
  deriving DecidableEq, Repr

/-- The sender of a heartbeat that is missed or received (13 R380). -/
inductive HbFrom where
  | partner
  | witness
  | pairActive (k : Nat)
  | pairStandby (k : Nat)
  deriving DecidableEq, Repr

/-- A heartbeat as received (13 R380). -/
structure Heartbeat where
  member : Nat := 0
  role : Nat := 0
  hflags : BitVec 8 := 0
  cycle : Nat := 0
  ckwin : Nat := 0
  jseq : Nat := 0
  target : Nat := 0
  decl : Nat := 0
  crcOk : Bool := true
  deriving DecidableEq, Repr

/-- Why the summit core of an active sets FAILED (13 R382). -/
inductive FailCause where
  | stakeWatchdog | stoppedWeaver | ringFault | eccError
  deriving DecidableEq, Repr

/-- A TIME record (14 R408). -/
structure TimeRec where
  ncycle : Nat := 0
  master : Nat := 0
  depth : Nat := 0
  tflags : BitVec 8 := 0
  offset : Int := 0
  utcoff : Int := 0
  deriving DecidableEq, Repr

/-- One remote-segment entry of a ZONE-DOWN record (14 R413). -/
structure ZoneDownEntry where
  axis : Nat := 0
  force : Int := 0
  angle : Word := 0
  tabPos : Int := 0
  vel : Int := 0
  deriving DecidableEq, Repr

/-- One axis entry of a ZONE-UP record (14 R413). -/
structure ZoneUpAxis where
  axis : Nat := 0
  role : Nat := 0
  temp : Int := 0
  ilimEff : Int := 0
  astat : BitVec 16 := 0
  deriving DecidableEq, Repr

/-- The bodies of the records of trunk slots and side-link record frames (14 R403). -/
inductive RecBody where
  | time (t : TimeRec)
  | heartbeat (h : Heartbeat)
  | safe (tsl : Nat) (streamB : Bool) (frame : List Byte)
  | zoneDown (shaft part last : Nat) (entries : List ZoneDownEntry)
  | zoneUp (shaft : Nat) (downMissing : Bool) (part last : Nat) (axes : List ZoneUpAxis)
      (halls : List (Nat × BitVec 64))
  | linkTime (m : Int)
  | unknown (type : Nat)
  deriving DecidableEq, Repr

/-- A record with its addressee (14 R403). -/
structure TrunkRec where
  dest : Nat := 0xFFFF
  body : RecBody := .unknown 0
  deriving DecidableEq, Repr

/-- What a bulk frame carries (14 R399). -/
inductive BulkKind where
  | checkpoint | journal | configCopy
  deriving DecidableEq, Repr

/-- An axis record of a checkpoint (13 R376): the state of law and supervision. -/
structure CkAxis where
  axis : Nat := 0
  state : Nat := 0
  i : Int := 0
  df : Int := 0
  ePrev : Int := 0
  yPrev : Int := 0
  oPrev : Int := 0
  hi : Bool := false
  dwell : Nat := 65535
  satHi : Bool := false
  satLo : Bool := false
  staleRun : Nat := 0
  m1 : Int := 0
  m2 : Int := 0
  rf : Int := 0
  o1 : Int := 0
  o2 : Int := 0
  cnt : List Nat := []
  causes : BitVec 19 := 0
  deriving DecidableEq, Repr

/-- A car record of a checkpoint (13 R376): fusion state with its runs of windows, car-law integrator, mass, reference, predicted
and drawn energy of the journey, the shares by segment, miss count and car state with its brake. -/
structure CkCar where
  car : Nat := 0
  state : Nat := 0
  placed : Bool := false
  p : Int := 0
  v : Int := 0
  rail : Int := 0
  src : Nat := 0
  i : Int := 0
  f : Int := 0
  mass : Int := 0
  refP : Int := 0
  refV : Int := 0
  refA : Int := 0
  ePred : Int := 0
  dBase : Int := 0
  drawn0 : Int := 0
  missCnt : Nat := 0
  known : Bool := false
  pPred : Int := 0
  rseq : Option Nat := none
  plaus : Nat := 0
  railBad : Nat := 0
  railGood : Nat := 0
  railRun : Nat := 0
  noneRun : Nat := 0
  railHold : Bool := false
  fAvail : Int := 0
  fNow : Int := 0
  ledger : Int := 0
  brakeReq : Bool := false
  braking : Bool := false
  holding : Bool := false
  shares : List (Nat × Int) := []
  deriving DecidableEq, Repr

/-- A shaft record of a checkpoint (13 R376): energy ledger, drawn-energy accumulator, rescue state. -/
structure CkShaft where
  shaft : Nat := 0
  drawn : Int := 0
  ebms : Int := 0
  bmsDrawn : Int := 0
  failDrawn : Int := 0
  rescue : Bool := false
  deriving DecidableEq, Repr

/-- A checkpoint as it reaches the standby (13 R376, R379). -/
structure CheckpointIn where
  window : Nat := 0
  inTime : Bool := true
  crcOk : Bool := true
  jseq : Nat := 0
  levels : List Nat := []
  safetyCrc : Word := 0
  sameConfig : Bool := true
  axes : List CkAxis := []
  cars : List CkCar := []
  shafts : List CkShaft := []
  deriving DecidableEq, Repr

/-- A stop of a stop list as a journal entry carries it (13 R377): landing, park, direction, pick-ups, drops. -/
structure JournalStop where
  landing : Nat := 0
  park : Bool := false
  dir : Nat := 0
  picks : List Nat := []
  drops : List Nat := []
  deriving DecidableEq, Repr

/-- A call as a journal entry carries it (13 R377, R391). -/
structure JournalCall where
  part : Nat := 2
  kind : Nat := 0
  shafts : BitVec 8 := 0
  src : Nat := 0
  dst : Nat := 0xFF
  only : Nat := 0
  pass : Nat := 1
  access : Bool := false
  client : Nat := 0
  state : Nat := 0
  car : Nat := 0xFF
  submittedNs : Nat := 0
  deriving DecidableEq, Repr

/-- What a journal entry carries (13 R377): an accepted command that changes configuration; a Crest plan or replan as the
phases of its profile (duration, acceleration at its ends, speed and position at its start); a car or door state change; a
door move record; a Traverse commit. -/
inductive JournalChange where
  | none
  | command (r : Request)
  | plan (car kind landing start blend : Nat) (target : Int) (phases : List (Nat × Int × Int × Int × Int))
  | carState (car state cause : Nat)
  | doorState (door state : Nat)
  | doorMove (axis : Nat) (target vp a j : Int) (blend ns : Nat)
  | call (id : Nat) (c : JournalCall)
  | stops (car : Nat) (l : List JournalStop)
  deriving DecidableEq, Repr

/-- A CAN frame (12 R353): identifier with IDE and RTR, FD flags and data. -/
structure CanFrame where
  id : Nat := 0
  ide : Bool := false
  rtr : Bool := false
  fdf : Bool := false
  brs : Bool := false
  esi : Bool := false
  data : List Byte := []
  deriving DecidableEq, Repr

/-- A drive's SMART / Health log as read (17 R470). -/
structure SmartLog where
  pctUsed : Nat := 0
  spare : Nat := 100
  unitsWritten : Nat := 0
  mediaErr : Nat := 0
  deriving DecidableEq, Repr

/-- What a drive shows when it reports ready (17 R468, R469). -/
structure DriveInfo where
  capacity : Nat := 0
  headerSerial : Option Nat := none
  stripes : Nat := 0
  writeMBs : Nat := 0
  deriving DecidableEq, Repr

/-- An event on its way to the recorder and to the event queues (17 R457, 02 R544): record source, code,
subject and VALUE, the cycle it reports, the class whose queues take it (or none) with the payload fields
of its class's event table (offset, width, value), whether it writes a record, and the partitions it is
addressed to when it is of class 15h. -/
structure Event where
  source : Nat := 0
  code : Nat := 0
  subject : Nat := 0
  value : Int := 0
  cycle : Nat := 0
  cls : Option Nat := none
  fields : List (Nat × Nat × Int) := []
  record : Bool := true
  dropped : Bool := false
  owner : Option Nat := none
  deriving DecidableEq, Repr

/-- The measurements of 20 R516 and R526. -/
structure Measures where
  base : Int := 0
  die : Int := 0
  volts : Nat := 0
  watts : Nat := 0
  mains : Bool := true
  dcin : Bool := false
  fieldOk : Bool := true
  fieldLim : Bool := false
  storOk : Bool := true
  deriving DecidableEq, Repr

/-- A leap second announced or learned (14 R549): the value of TAI − UTC and the time from which it holds. -/
structure Leap where
  value : Int := 37
  fromNs : Nat := 0
  deriving DecidableEq, Repr

/-- A PTP message as the master takes it (14 R406, R549). -/
structure PtpMsg where
  offsetNs : Int := 0
  utcValid : Bool := false
  utcOff : Int := 37
  leap : Option Leap := none
  deriving DecidableEq, Repr

/-- The wake sources of S3 (16 R448). -/
inductive WakeSrc where
  | ring (r : Nat)
  | ethernet (port : Nat)
  | can (ch : Nat)
  deriving DecidableEq, Repr

/-- A port that can gain block lock (03 R99, 14 R397). -/
inductive LanePort where
  | ring (r : Nat) (west : Bool)
  | side (n : Nat)
  deriving DecidableEq, Repr

/-- A command: one thing that happens to the module, whole and indivisible (the operation table; 95). -/
inductive Instr where
  | powerGood (fselExt : Bool) (slot : BitVec 3) (carrier : Bool)
  | mainsInRange (dc : Bool)
  | scarpResetRelease
  | controllerResetRelease
  | trustedImageVerified (rtcNs : Nat)
  | canStart
  | appStart (lpddrTrained : Bool)
  | rootPortRelease
  | safetyHandshake (selfTestsPass : Bool)
  | weaverLoad (weaversStart : Bool)
  | creelOpen
  | motionFloor
  | mrstNAssert
  | mrstNRelease
  | summitWatchdog
  | stakeWatchdog
  | fatalControllerFault
  | pcieHotReset
  | powerFailWarning
  | loadShed
  | powerGoodFall
  | mainsReturn
  | tempSample (m : Measures)
  | thermalRestart
  | field24vLoss
  | field24vRestore
  | cagePowerMeasure (cage drawMw : Nat)
  | opticInsert (cage : Nat)
  | opticRemove (cage : Nat)
  | cageOverLimit (cage : Nat)
  | storageOvercurrent
  | storageRetry
  | synciEdge (timeNs : Nat)
  | creelDatagram (port : Nat) (d : Datagram)
  | managementRead (port : Nat) (d : Datagram)
  | managementWrite (port : Nat) (d : Datagram)
  | ethernetAuxFrame (port : Nat) (kind : AuxKind)
  | dbSubmit (part : Nat) (value : BitVec 64) (entries : List (List Byte))
  | dbComphead (part : Nat) (value : BitVec 64)
  | dbFaultCountRead (part : Nat)
  | registerWrite (part offset width : Nat) (value : BitVec 64)
  | sysSupplyW1cWrite (part : Nat) (value : Word)
  | recCursorSeqWrite (part : Nat) (value : Word)
  | ctrValLowRead (part j : Nat)
  | ctrBwPeakRead (part port : Nat) (tx : Bool)
  | dbgWhaltWrite (part : Nat) (hi : Bool) (value : Word)
  | dbgChaltWrite (part : Nat) (value : Word)
  | dbgCtrlReset (part : Nat) (value : Word)
  | dbgMemDataRead (part : Nat)
  | dbgMemDataWrite (part : Nat) (value : Word)
  | dbgImgStart (part : Nat) (value : Word)
  | dbgImgDataWrite (part : Nat) (value : Word)
  | dbgImgCommit (part : Nat) (value : Word)
  | tokenRefill
  | creelHandover
  | commandTimeout (queue tag : Nat)
  | sysIdent (r : Request)
  | sysState (r : Request)
  | sysTimeGet (r : Request)
  | sysSubscribe (r : Request)
  | sysUnsubscribe (r : Request)
  | sysAppRestart (r : Request)
  | appRestarted (timeUs : Nat)
  | partInfo (r : Request)
  | partStats (r : Request)
  | queueCreate (r : Request)
  | queueDelete (r : Request)
  | queueBucketSet (r : Request)
  | queueRekey (r : Request)
  | axisStatus (r : Request)
  | axisDescLoad (r : Request)
  | axisCoefWrite (r : Request)
  | axisBankSelect (r : Request)
  | axisTableLoad (r : Request)
  | axisEnable (r : Request)
  | axisDisable (r : Request)
  | tuneCaptureRead (r : Request)
  | tuneInjectStart (r : Request)
  | tuneInjectStop (r : Request)
  | tuneCaptureArm (r : Request)
  | profileStatus (r : Request)
  | energyStatus (r : Request)
  | profileLimitsSet (r : Request)
  | energyReserveSet (r : Request)
  | carStatus (r : Request)
  | segmentStatus (r : Request)
  | shaftConfigLoad (r : Request)
  | carInspectMove (r : Request)
  | carStop (r : Request)
  | doorStatus (r : Request)
  | edgeStatus (r : Request)
  | doorOpen (r : Request)
  | doorClose (r : Request)
  | doorLearn (r : Request)
  | doorPolicySet (r : Request)
  | callStatus (r : Request)
  | carStoplist (r : Request)
  | callSubmit (r : Request) (policy : Option Nat)
  | callCancel (r : Request)
  | safetyStatus (r : Request)
  | safetyConfigCrc (r : Request)
  | safetyChangelogRead (r : Request)
  | safetySessionOpen (r : Request)
  | safetyConfigWrite (r : Request)
  | safetySessionClose (r : Request)
  | dioRead (r : Request)
  | aiRead (r : Request)
  | qencRead (r : Request)
  | dioWrite (r : Request)
  | dioSafeSet (r : Request)
  | pwmConfig (r : Request)
  | stepMove (r : Request)
  | stepStop (r : Request)
  | canStatus (r : Request)
  | canRxRead (r : Request)
  | canConfig (r : Request)
  | canSend (r : Request)
  | canBusoffRecover (r : Request)
  | canWakeSet (r : Request)
  | ringStatus (r : Request)
  | ringNodes (r : Request)
  | ringConfig (r : Request)
  | redStatus (r : Request)
  | redRoleRequest (r : Request)
  | powerStatus (r : Request)
  | powerLevelRequest (r : Request)
  | powerSleepRequest (r : Request)
  | recStatus (r : Request)
  | storeHealth (r : Request)
  | recTriggerSet (r : Request)
  | recCursorSet (r : Request)
  | ctrRead (r : Request)
  | ctrThresholdSet (r : Request)
  | ctrWindowSet (r : Request)
  | debugStatus (r : Request)
  | debugAuth (r : Request)
  | debugClose (r : Request)
  | debugSessionExpiry
  | nonceExpiry
  | authLockoutEnd
  | instant (failed : List FrontEnd)
  | collectCopyRx (c : RingCopy)
  | windowOpen
  | slotMiss (weaver slot : Nat)
  | carCutoff (car : Nat)
  | releasePhase
  | serviceAnswerRx (ring : Nat) (seg : ServiceSeg)
  | serviceRetry (ring : Nat)
  | coldstartListenEnd (ring : Nat)
  | coldstartRx (ring : Nat) (sets : SetsIn)
  | coldstartLead (ring : Nat)
  | leaderFrameRx (ring : Nat) (h : FrameHeader)
  | memberIntegrate (ring : Nat)
  | localFault (ring : Nat) (west : Bool)
  | spandownRx (ring : Nat) (west : Bool) (blocks : List SetBlock)
  | ringHeal (ring : Nat)
  | spanLockHold (ring : Nat) (west : Bool)
  | spanupRx (ring : Nat) (west : Bool) (blocks : List SetBlock)
  | closearmCheck (ring : Nat)
  | closeTarget (ring : Nat)
  | recloseRetry (ring : Nat)
  | scarpStopInject
  | safeInputSample (core scarp : BitVec 32) (coreRb scarpRb : BitVec 24)
  | monitorPointSample (coreMv scarpMv : List Nat)
  | safeLinkFrameRx (ch : Chan) (l : LinkSrc) (streamB : Bool) (bytes : List Byte)
  | safeLinkLost (ch : Chan) (what : LinkLoss)
  | crossChannelExchange (coreDevPpm scarpDevPpm : Nat)
  | crossMismatch
  | otherChannelLoss (ch : Chan)
  | tripRequestRx (ch : Chan) (scope : Scope) (cause : Nat)
  | switchTest (ch : Chan) (line : Nat) (readsOff : Bool)
  | stoLineLimit (line : Nat)
  | ss1End (ch : Chan) (shaft : Nat)
  | brakeFeedbackTimeout (ch : Chan) (car : Nat)
  | resetDisagree (ch : Chan) (scope : Scope)
  | sessionIdleClose
  | passwordLockoutEnd
  | pairSafeFrameRx (ch : Chan) (bytes : List Byte)
  | pairExchangeLoss (ch : Chan) (sixteen : Bool)
  | heartbeatMiss (sender : HbFrom)
  | heartbeatRx (h : Heartbeat)
  | failedSet (cause : FailCause)
  | replayComplete
  | takeoverCycle
  | heartbeatPathFault (pair : Nat)
  | checkpointTake
  | checkpointRx (c : CheckpointIn)
  | journalEntryRx (jseq : Nat) (change : JournalChange)
  | handoverTarget
  | rejoinCopyDone
  | sideRecordFrameRx (link member : Nat) (m : Int) (crcOk : Bool) (recs : List TrunkRec)
  | bulkFrameRx (link : Nat) (kind : BulkKind)
  | trunkSlotRx (ring member : Nat) (recs : List TrunkRec)
  | ptpMessage (p : PtpMsg)
  | timeSourceLoss
  | backupMasterTakeover
  | zoneDownMissing (axis : Nat)
  | zoneUpMissing (shaft partner : Nat)
  | preparingRampDone (car : Nat)
  | brakeReleaseFeedback (car : Nat)
  | brktTimeout (car : Nat)
  | weighingEnd (car : Nat)
  | prestartRetry (car : Nat)
  | stopHoldEnd (car : Nat)
  | brakeEngagedFeedback (car : Nat)
  | rescueEnd (shaft : Nat)
  | inspectionHoldExpiry (car : Nat)
  | inspectionBrakeDelay (car : Nat)
  | bmsReport (shaft : Nat)
  | bmsStale (shaft : Nat)
  | doorEvaluation (door : Nat)
  | doorEvalLate (door : Nat)
  | dwellExpiry (door : Nat)
  | blocked30s (door : Nat)
  | blocked180s (door : Nat)
  | nudgeStart (door : Nat)
  | openRetry (door : Nat)
  | edgeRefStore (door : Nat)
  | policyDeadline
  | callReevalTimer (call : Nat)
  | unassignedTimeout (call : Nat)
  | callDiscard (call : Nat)
  | motionUpdateApply
  | diSample (raw : BitVec 48)
  | doOverload (n : Nat)
  | doSilence
  | aiConversion (n : Nat) (code : Int) (atInstant : Bool)
  | aiOvercurrent (n : Nat)
  | aiReconnect (n : Nat)
  | sdFilterOutput (n sum : Nat) (run64 : Bool)
  | sdOcOutput (n : Nat) (vf : Int)
  | sdStuckLine (n : Nat)
  | quadSample (n : Nat) (a b z : Bool)
  | quadLineLow (n : Nat)
  | pwmPeriod (n tp : Nat)
  | stepPulse (n : Nat)
  | stepRateUpdate (n : Nat)
  | stepSearchExhausted (n : Nat)
  | canFrameRx (ch : Nat) (f : CanFrame) (sofNs : Nat)
  | canBusIdle (ch : Nat)
  | canTxSuccess (ch sofNs : Nat)
  | canCollision (ch : Nat)
  | canBackoffEnd (obj : Nat)
  | canBusOff (ch : Nat)
  | canRecoveryDone (ch : Nat)
  | canWake (ch : Nat)
  | canReferenceDue (ch : Nat)
  | canDrain (ch count : Nat)
  | objWord0Read (obj : Nat)
  | objWord22Read (obj : Nat)
  | objLockExpiry (obj : Nat)
  | objArm (obj : Nat) (f : CanFrame)
  | recEventIntake (timeNs : Nat) (ext : Option Event)
  | recSealTimer
  | recPageSpill (drive : Nat)
  | nvmeFlushTimer
  | nvmeFlushDone (drive : Nat)
  | nvmeWriteDone (drive us : Nat) (ok : Bool)
  | smartPoll (drive : Nat) (log : SmartLog)
  | driveAttach (drive : Nat) (info : DriveInfo)
  | driveFail (drive reason : Nat)
  | mirrorProgram (pulses : Nat) (readBackOk : Bool)
  | traceHoldExpiry (hold : Nat)
  | bandwidthWindowEnd (port txBytes rxBytes : Nat)
  | pmbusAck (basket : Nat)
  | pmbusTimeout (basket : Nat)
  | s3StageEnd (flushDone : Bool)
  | s3Wake (src : WakeSrc)
  | s3RailsUp (digestsMatch : Bool)
  | s3ReturnCreelOpen (us : Nat)
  | remoteFaultRx (ring : Nat) (west : Bool)
  | blockLockGained (port : LanePort)
  | sideLinkDown (link : Nat)
  | pcieLinkUp
  | ptpUnavailable
  | registerRead (part offset width : Nat)
  | ctrValHighRead (part j : Nat)
  | canErrorDetected (ch : Nat) (transmitting : Bool)
  | safetyCoreFault
  | scarpInternalFault
  | configStoreDone
  | jtagInstruction (code : Nat)
  deriving DecidableEq, Repr

end Sys2Proof
end

