-- ==== Sys2Proof/Config.lean ====
section
/-! DEFINITION. What an implementation fixes and what the spec leaves open: constants without a body, so that nothing can
be proved of the values they take. The counter field `free` of the state is what they are applied to. -/
namespace Sys2Proof.Config

/-- SYS.SERIAL.NUM, as printed on the rating plate (00 R5). -/
opaque serial : Nat

/-- Build number of the images as shipped, by KIND (00 R5, 18 R478). -/
opaque build : Nat → Nat

/-- A 64-bit queue key from the summit core's random source (02 R37). -/
opaque key : Nat → Nat

/-- A 256-bit nonce from the summit core's random source (18 R489). -/
opaque nonce : Nat → Nat

/-- A 32-bit Thepaif session identifier (10 R311). -/
opaque session : Nat → Nat

/-- A byte of memory or a processor register that the debug window reads and whose content the spec does not give
(18 R487): space, unit, address. -/
opaque memByte : Nat → Nat → Nat → BitVec 8

/-- A byte of a host ring that no command carries (02 R58): draw, entry, byte. -/
opaque hostByte : Nat → Nat → Nat → BitVec 8

/-- A time within a span that the spec only bounds, or an estimate it does not fix (02 R69, 15 R424). -/
opaque estimate : Nat → Nat

/-- The retry-after of a call refused at the limit (02 R69), estimated from how long ago the latest calls completed. -/
opaque callRetry : List Nat → Nat

/-- A choice among several that the spec leaves to firmware or to an implementation. -/
opaque choice : Nat → Nat

/-- Whether a signature of a token verifies (18 R489): key and slot hash, nonce, signed bytes, signature bytes. -/
opaque tokenOk : Nat → Nat → Nat → List (BitVec 8) → List (BitVec 8) → Bool

/-- Hash fused at manufacture in a slot of a key (18 R476): key, slot. -/
opaque keyHash : Nat → Nat → Nat

/-- SHA-384 of a byte string (18 R476). -/
opaque sha384 : List (BitVec 8) → Nat

/-- Whether a P-384 signature verifies over bytes with a public key (18 R476). -/
opaque ecdsaOk : List (BitVec 8) → List (BitVec 8) → List (BitVec 8) → Bool

/-- A byte of the factory safety image, whose layout is Thepaif's (10 R309). -/
opaque factoryByte : Nat → BitVec 8

/-- The offset of the first fault that the check of a safety image finds, if one (10 R309, R314): the layout is Thepaif's. -/
opaque imageFault : List (BitVec 8) → Option Nat

/-- What a parameter of a safety image decodes to (10 R309): image, parameter, index. -/
opaque imageParam : List (BitVec 8) → Nat → Nat → Nat

/-- What a field of a manifest body decodes to (18 R481): body, field, index. -/
opaque manifestField : List (BitVec 8) → Nat → Nat → Nat

/-- The salted hash of a password (10 R311): salt, bytes. -/
opaque passwordHash : Nat → List (BitVec 8) → Nat

/-- Whether an NVMe, NOR or fuse operation of the module succeeds where a command does not say (18 R482). -/
opaque deviceOk : Nat → Bool

/-- What a field of the DATA of a service answer decodes to (03 R77): operation, data bytes, field. -/
opaque serviceField : Nat → List (BitVec 8) → Nat → Nat

/-- A byte of the DATA of a service transaction or answer, which the spec leaves to the operation (03 R77): operation, node,
table or draw, byte. -/
opaque serviceByte : Nat → Nat → Nat → Nat → BitVec 8

/-- What the replay form of the programs, which the spec does not write out, leaves in a field of an axis or car record
(13 R387): draw, axis (or 1,024 + car), field. -/
opaque replayed : Nat → Nat → Nat → Int

/-- A time offset that the module measures and no command carries (14 R408, R411): draw. -/
opaque timeOffset : Nat → Int

/-- ILIMeff ÷ FCONST of a remote segment, in 0.01 N: its FCONST stands in the partner and no record carries it (07 R208,
14 R413): zone partner, axis, ILIMeff. -/
opaque zoneForce : Nat → Nat → Int → Int

end Sys2Proof.Config
end

