-- ==== Sys2Proof/Machine/StateHost.lean ====
section
/-! DEFINITION. State of the host side: partitions, Creel queues, doorbells, the register windows of counters and
debug (02, 18, 19). Each field's comment gives its width, the file and rule that name it, and its reset value. -/
namespace Sys2Proof.Machine

/-- A source prefix of a partition's filter (02 R35). -/
structure IpPrefix where
  /-- 128 or 32 bits; 02 R35; reset from the manifest -/
  addr : Nat := 0
  /-- 0–128; 02 R35; reset from the manifest -/
  len : Nat := 0
  deriving DecidableEq, Repr

/-- The attributes of a partition (02 R35). -/
structure Partition where
  /-- 8 bits (0–3, FFh for partitions 0 and 1); 02 R35 R548; reset from the manifest -/
  binding : Nat := 0xFF
  /-- 0–4 prefixes; 02 R35; reset from the manifest -/
  filter6 : List IpPrefix := []
  /-- 0–4 prefixes; 02 R35; reset from the manifest -/
  filter4 : List IpPrefix := []
  /-- 17 bits; 02 R35; reset from the manifest -/
  qrights : BitVec 17 := 0
  /-- 17 bits; 02 R35; reset from the manifest -/
  arights : BitVec 17 := 0
  /-- 1 bit; 02 R35; reset from the manifest -/
  mgmt : Bool := false
  /-- 1 bit; 02 R35; reset from the manifest -/
  global : Bool := false
  /-- 1 bit; 02 R36; reset from the manifest -/
  supervisor : Bool := false
  /-- 1–65,536; 02 R35; reset from the manifest -/
  qlimit : Nat := 1
  /-- 16–268,435,456; 02 R35; reset from the manifest -/
  quota : Nat := 16
  /-- 16–4,000,000; 02 R35; reset from the manifest -/
  rateCeil : Nat := 16
  /-- 1–4,096; 02 R35; reset from the manifest -/
  quantum : Nat := 1
  deriving DecidableEq, Repr

/-- What Creel keeps for one partition (02 R66, 19 R503, R510, 17 R463). -/
structure PartSt where
  /-- 11 counters of 48 bits at 3C0h + k, k = 0–10; 19 R503, 02 R66; reset 0 -/
  cnt : Tab Nat := []
  /-- 16 bits; 02 R66 opcode of the last clamp; reset 0 -/
  lastOp : Nat := 0
  /-- 16 bits; 02 R66 offset of the last clamped field; reset 0 -/
  lastOff : Nat := 0
  /-- 32 bits and beyond; 02 R51 deficit; reset 0 -/
  deficit : Nat := 0
  /-- 20 bits; 02 R51 queue served last; reset 0 -/
  lastQ : Nat := 0
  /-- 2 bits; 19 R510 CTR.SEL.BANK; reset 0 -/
  selBank : Nat := 0
  /-- 1 bit; 19 R510 CTR.SEL.VIEW; reset 0 -/
  selView : Bool := false
  /-- word index and 32 bits; 19 R511 latched high half; reset none -/
  latch : Option (Nat × Nat) := none
  /-- 32 bits; 17 R463 REC.CURSOR.SEQ; reset 0 -/
  cursor : Nat := 0
  /-- 2 bits; 17 R463 REC.WIN.SOURCE; reset 0 -/
  winSource : Nat := 0
  /-- 0–126; 17 R463 REC.WIN.VALID of sources 1 and 2; reset 0 -/
  winValid : Nat := 0
  /-- up to 4,032 bytes; 17 R467 staged window; reset empty -/
  staged : List Byte := []
  deriving DecidableEq, Repr

/-- A completion or an event entry (02 R43, R544): header fields, and payload fields as (offset, width, value). -/
structure Completion where
  /-- 16 bits; 02 R43; reset none written -/
  opcode : Nat := 0
  /-- 8 bits; 02 R43 CODE; reset none written -/
  code : Nat := 0
  /-- 0–15; 02 R43 CONT; reset none written -/
  cont : Nat := 0
  /-- 32 bits; 02 R43 TAG; reset none written -/
  tag : Nat := 0
  /-- 32 bits; 02 R43 DETAIL; reset none written -/
  detail : Nat := 0
  /-- payload fields (offset, width in bytes, value); 02 R43; reset none written -/
  fields : List (Nat × Nat × Int) := []
  deriving DecidableEq, Repr

/-- Where a request stands (02 R45, R47). -/
inductive Phase where
  | waiting
  | started
  | done (c : Completion)
  deriving DecidableEq, Repr

/-- An admitted request of a mailbox (02 R47). -/
structure Slot where
  /-- the request; 02 R42; reset none -/
  req : Request := {}
  /-- waiting, started or answered; 02 R45; reset none -/
  phase : Phase := .waiting
  /-- 1–16 entries reserved in the completion ring; 02 R47; reset none -/
  reserve : Nat := 1
  deriving DecidableEq, Repr

/-- A mailbox (under its even request queue number) or an event queue (02 R37 to R51, R544 to R547). -/
structure Queue where
  /-- 12 bits; 02 R34; reset by creation -/
  part : Nat := 2
  /-- 1 bit: event queue; 02 R64 KIND; reset by creation -/
  event : Bool := false
  /-- 4–16; 02 R64; reset by creation -/
  depthLog2 : Nat := 4
  /-- 0–3; 02 R64 TRANSPORT; reset by creation -/
  transport : Nat := 0
  /-- 0–63 or FFh; 02 R64 VECTOR; reset by creation -/
  vector : Nat := 0xFF
  /-- 16–4,000,000; 02 R50; reset by creation -/
  rate : Nat := 16
  /-- 16–65,536; 02 R50; reset by creation -/
  burst : Nat := 16
  /-- entries; 02 R50; reset full -/
  tokens : Nat := 16
  /-- millionths; 02 R50; reset 0 -/
  acc : Nat := 0
  /-- 64 bits; 02 R37; reset by creation -/
  key : BitVec 64 := 0
  /-- 64 bits; 02 R64 HOSTREQ; reset by creation -/
  hostReq : Nat := 0
  /-- 64 bits; 02 R64 HOSTCMP; reset by creation -/
  hostCmp : Nat := 0
  /-- 16 bits; 02 R58 index one past the last entry the host announced; reset 0 -/
  tail : Nat := 0
  /-- entries announced and not yet taken from the host ring, oldest first; 02 R47 R58; reset empty -/
  hostRing : List (List Byte) := []
  /-- admitted requests, oldest first; 02 R45 R47; reset empty -/
  slots : List Slot := []
  /-- completions or events written and not yet consumed, oldest first; 02 R47 R40; reset empty -/
  comps : List Completion := []
  /-- 16 bits; 02 R58 index one past the last entry consumed; reset 0 -/
  head : Nat := 0
  /-- 0–15: entries of the oldest unconsumed completion already consumed; 02 R58; reset 0 -/
  headRem : Nat := 0
  /-- 32 bits; 02 R544 event sequence number; reset 0 (none offered) -/
  evSeq : Nat := 0
  /-- 32 bits; 02 R40 R544 events dropped since the last posted; reset 0 -/
  dropped : Nat := 0
  /-- 17 bits; 02 R546 CLASSES after the commands executed; reset 0 -/
  classes : BitVec 17 := 0
  /-- 17 bits; 02 R546 subscriptions in force: of the commands whose completions are written; reset 0 -/
  inForce : BitVec 17 := 0
  /-- address; 02 R546; reset none set -/
  dest : IpAddr := {}
  /-- 16 bits; 02 R546; reset 0 -/
  dport : Nat := 0
  /-- 0–2 (1, 2 Ethernet 0, 1): port at which the latest sys.subscribe arrived; 02 R61; reset 0 -/
  evPort : Nat := 0
  /-- 32 bits; 02 R61 number of the last datagram sent for the queue of this number; reset 0 -/
  seq : Nat := 0
  /-- 32 bits; 02 R61 number of the last datagram sent for the completion queue, n + 1; reset 0 -/
  cseq : Nat := 0
  /-- requests admitted so far: the serial of the next; 02 R45, the model's own (DESIGN CHOICE 5); reset 0 -/
  admitted : Nat := 0
  /-- 1 bit: entries wait in LPDDR5 for the endpoint, their vector not raised; 02 R41, 15 R428; reset 0 -/
  unraised : Bool := false
  /-- 1 bit; 02 R65 deletion begun; reset 0 -/
  deleting : Bool := false
  deriving DecidableEq, Repr

/-- A datagram the module sent (02 R60, R61, R62). -/
structure DatagramOut where
  /-- 1–2; 02 R61; reset none sent -/
  port : Nat := 1
  /-- address; 02 R61; reset none sent -/
  dst : IpAddr := {}
  /-- 16 bits; 02 R61; reset none sent -/
  dport : Nat := 0
  /-- 02h or 05h; 02 R60 TYPE; reset none sent -/
  type : Nat := 2
  /-- 20 bits; 02 R60 QUEUE; reset none sent -/
  queue : Nat := 0
  /-- 32 bits; 02 R61 SEQ; reset none sent -/
  seq : Nat := 0
  /-- 32 bits; 02 R60 GAP; reset none sent -/
  gap : Nat := 0
  /-- entries; 02 R60; reset none sent -/
  comps : List Completion := []
  /-- management body: offset, count, words read; 02 R62; reset none sent -/
  mgmt : Option (Nat × Nat × List Nat) := none
  deriving DecidableEq, Repr

/-- The host interface (02). -/
structure HostSt where
  /-- partition table, by number; 02 R34 R35; reset empty until the manifest is taken (R36) -/
  parts : Tab Partition := []
  /-- per-partition counters and views, by number; 02 R66, 19 R503; reset 0 -/
  stats : Tab PartSt := []
  /-- module-sum instance of 3C0h + k; 19 R503; reset 0 -/
  modSum : Tab Nat := []
  /-- queues, by number (mailboxes under the request queue); 02 R37; reset none -/
  queues : Tab Queue := []
  /-- 12 bits; 02 R51 partition in its turn of the round; reset 0 -/
  drrPart : Nat := 0
  /-- 32 bits; 02 R57 DB.FAULT.COUNT; reset 0 -/
  faultCount : Nat := 0
  /-- 20 bits; 02 R57 DB.FAULT.QUEUE; reset 0 -/
  faultQueue : Nat := 0
  /-- 64 bits; 02 R57 DB.BOOTSQ.BASE; reset 0 -/
  bootSq : Nat := 0
  /-- 64 bits; 02 R57 DB.BOOTCQ.BASE; reset 0 -/
  bootCq : Nat := 0
  /-- 64 counts: messages raised, by vector; 02 R41; reset 0 -/
  msix : Tab Nat := []
  /-- completions, newest first, of requests given as commands without a hand-over and of mailboxes since removed; DESIGN CHOICE 5; reset empty -/
  direct : List (Nat × Completion) := []
  /-- datagrams sent, newest first; 02 R61; reset none -/
  sent : List DatagramOut := []
  /-- 64 bits: data of the latest register read; 02 R54 R545; reset 0 -/
  readData : BitVec 64 := 0
  deriving DecidableEq, Repr

/-- One threshold counter (19 R505, R506). -/
structure Threshold where
  /-- 1 bit; 19 R506; reset 0 -/
  enable : Bool := false
  /-- 8 bits; 19 R505 SOURCE; reset 01h (DESIGN CHOICE 10) -/
  source : Nat := 1
  /-- 32 bits; 19 R505 INSTANCE; reset 0 (DESIGN CHOICE 10) -/
  inst : Nat := 0
  /-- 32 bits; 19 R505 N; reset 0 (DESIGN CHOICE 10) -/
  level : Nat := 0
  deriving DecidableEq, Repr

/-- One port of the port-bytes group (19 R508, R509, R510). -/
structure PortBw where
  /-- 0–1,023; 19 R509 remainder of bytes sent; reset 0 -/
  txRem : Nat := 0
  /-- 0–1,023; 19 R509 remainder of bytes received; reset 0 -/
  rxRem : Nat := 0
  /-- 1–1,000,000 µs; 19 R509 W; reset 1,000 -/
  window : Nat := 1000
  /-- 32 bits; 19 R510 TXWIN; reset 0 -/
  txWin : Nat := 0
  /-- 32 bits; 19 R510 RXWIN; reset 0 -/
  rxWin : Nat := 0
  /-- 32 bits; 19 R510 TXPEAK; reset 0 -/
  txPeak : Nat := 0
  /-- 32 bits; 19 R510 RXPEAK; reset 0 -/
  rxPeak : Nat := 0
  deriving DecidableEq, Repr

/-- The counter set (19). -/
structure CtrSt where
  /-- 960 counters of 48 bits at 000h–3BFh; 19 R501 R502; reset 0 -/
  cnt : Tab Nat := []
  /-- T0–T31; 19 R506; reset disabled -/
  thr : Tab Threshold := []
  /-- P0–P3 of partition p at 4p + k; 19 R506; reset disabled -/
  pthr : Tab Threshold := []
  /-- counts of P0–P3 of partition p at 4p + k; 19 R503 R506; reset 0 -/
  pcnt : Tab Nat := []
  /-- 17 ports; 19 R509; reset W 1,000 and 0 -/
  bw : Tab PortBw := []
  /-- ctr.threshold.set waiting for the release phase: request, counter 0–35, setting; 19 R507; reset none -/
  thrPend : List (Request × Nat × Threshold) := []
  /-- ctr.window.set waiting for the release phase: request, ports, W; 19 R509; reset none -/
  bwPend : List (Request × List Nat × Nat) := []
  deriving DecidableEq, Repr

/-- Who holds the debug interface and how (18 R489 to R491). -/
inductive DbgLevel where
  | closed | observe | intrusive | imgGrant
  deriving DecidableEq, Repr

/-- Debug access (18). -/
structure DbgSt where
  /-- closed, OBSERVE, INTRUSIVE or image grant; 18 R491 R498 DBG.STATE.LEVEL; reset closed -/
  level : DbgLevel := .closed
  /-- 12 bits; 18 R498 DBG.STATE.HOLDER; reset 0 -/
  holder : Nat := 0
  /-- 1 bit; 18 R489 lock-out; reset 0 -/
  lockout : Bool := false
  /-- consecutive tokens denied; 18 R489; reset 0 -/
  denied : Nat := 0
  /-- 32 bits; 18 R498 DBG.COUNT, sessions and grants opened; reset 0 -/
  opened : Nat := 0
  /-- 16 bits; 18 R498 DBG.AUTHFAIL.SIG; reset 0 -/
  sigFail : Nat := 0
  /-- 16 bits; 18 R498 DBG.AUTHFAIL.ADDR; reset 0 -/
  addrFail : Nat := 0
  /-- 64 bits: calendar time at which the lock-out ends; 18 R489; reset 0 -/
  lockEnd : Nat := 0
  /-- 4 bits: KIND of the update grant; 18 R482; reset 0 -/
  grantKind : Nat := 0
  /-- the nonce in force; 18 R489; reset none -/
  nonce : Option Nat := none
  /-- 64 bits; 18 R498 DBG.EXPIRE; reset 0 -/
  expire : Nat := 0
  /-- 64 bits; 18 R498 DBG.WHALT as last written; a request for a sleeping weaver waits (18 R496); reset 0 -/
  whalt : BitVec 64 := 0
  /-- 32 bits; 18 R498 DBG.CHALT; reset 0 -/
  chalt : BitVec 32 := 0
  /-- weavers that were halted in the session and wait for a reload; 18 R494; reset none -/
  reload : BitVec 64 := 0
  /-- debug.close requests that wait for the reload release phase; 18 R499; reset none -/
  closing : List Request := []
  /-- 1 bit; 18 R494 the safety core was halted in the session; reset 0 -/
  safetyHalted : Bool := false
  /-- 64 bits; 18 R498 DBG.MEM.ADDR; reset 0 -/
  memAddr : Nat := 0
  /-- 4 bits; 18 R498 DBG.MEM.SPACE; reset 0 -/
  memSpace : Nat := 0
  /-- 6 bits; 18 R498 DBG.MEM.UNIT; reset 0 -/
  memUnit : Nat := 0
  /-- LPDDR5 bytes written; 01 R18, 18 R487; reset none listed -/
  lpddr : Mem := []
  /-- weaver local memory bytes written, at unit × 2¹⁹ + address; 01 R17, 18 R487; reset none listed -/
  wlocal : Mem := []
  /-- core registers written, at unit × 2¹⁶ + number; 18 R487; reset none listed -/
  coreRegs : Tab Nat := []
  /-- 8 bits; 18 R498 DBG.IMG.KIND; reset 0 -/
  imgKind : Nat := 0
  /-- 32 bits; 18 R498 DBG.IMG.OFFSET; reset 0 -/
  imgOffset : Nat := 0
  /-- 8 bits; 18 R498 DBG.IMG.STATUS; reset 0 -/
  imgStatus : Nat := 0
  /-- image words received, newest first; 18 R482; reset none -/
  imgWords : List Nat := []
  /-- 1 bit: START has been given under the grant; 18 R482; reset 0 -/
  imgStarted : Bool := false
  deriving DecidableEq, Repr

end Sys2Proof.Machine
end

