-- ==== Sys2Proof/Machine/StateSys.lean ====
section
/-! DEFINITION. State of the module as a whole: supply, start-up and reset, signed images and keys, power states, the
recorder (15, 16, 17, 18, 20). Each field's comment gives its width, file and rule, and its reset value. -/
namespace Sys2Proof.Machine

/-- Whether a die is powered and out of reset (15 R422, R423, R428). -/
inductive Die where
  | unpowered | inReset | running
  deriving DecidableEq, Repr

/-- A cage of X18 or X19 (20 R523, R524). -/
structure Cage where
  /-- 1 bit; 20 R524 an optic is fitted; reset false (DESIGN CHOICE 11) -/
  fitted : Bool := false
  /-- 1 bit; 20 R524; reset false -/
  powered : Bool := false
  /-- mW as measured, 0 before; 20 R524; reset 0 -/
  draw : Nat := 0
  /-- 1 bit: switched off for its own limit until the optic is replaced; 20 R523; reset false -/
  blocked : Bool := false
  deriving DecidableEq, Repr

/-- Supply, temperature, slot and sync (20). -/
structure SupplySt where
  /-- 1 bit; 20 R526 MAINS; reset 0 -/
  mains : Bool := false
  /-- 1 bit; 20 R526 DCIN; reset 0 -/
  dcin : Bool := false
  /-- 1 bit: bulk capacitor charging or charged; 20 R520; reset 0 -/
  bulk : Bool := false
  /-- 1 bit: logic output in regulation; 15 R422; reset 0 -/
  good : Bool := false
  /-- 1 bit; 20 R526 PFW; reset 0 -/
  pfw : Bool := false
  /-- 1 bit; 20 R526 PFWSEEN; reset 0 -/
  pfwSeen : Bool := false
  /-- 1 bit: field 24 V and storage 12 V shed; 20 R521; reset 0 -/
  shed : Bool := false
  /-- 1 bit; 20 R526 FIELDOK; reset 0 -/
  fieldOk : Bool := false
  /-- 1 bit; 20 R526 FIELDEXT; reset 0 -/
  fieldExt : Bool := false
  /-- 1 bit; 20 R526 FIELDLIM; reset 0 -/
  fieldLim : Bool := false
  /-- 1 bit; 20 R526 FIELDLOSS; reset 0 -/
  fieldLoss : Bool := false
  /-- 1 bit: F24 below 18 V and not yet above 20 V for 100 ms; 20 R525; reset 1 (no field output before power good) -/
  f24Low : Bool := true
  /-- 1 bit; 20 R526 STOROK; reset 0 -/
  storOk : Bool := false
  /-- 1 bit: storage output switched off for overcurrent; 20 R523; reset 0 -/
  storTrip : Bool := false
  /-- 1 bit; 20 R526 OVERTEMP; reset 0 -/
  overTemp : Bool := false
  /-- 1 bit: every output off for temperature; 20 R516; reset 0 -/
  thermal : Bool := false
  /-- 1 bit; 20 R526 CAGEOFF; reset 0 -/
  cageOff : Bool := false
  /-- 16 bits; 20 R526 SYS.INPUT.VOLTS; reset 0 -/
  volts : Nat := 0
  /-- 16 bits; 20 R526 SYS.INPUT.WATTS; reset 0 -/
  watts : Nat := 0
  /-- 16 bits signed, 0.1 °C; 20 R526 SYS.TEMP.BASE; reset 0 -/
  base : Int := 0
  /-- 16 bits signed, 0.1 °C; 20 R526 SYS.TEMP.DIE; reset 0 -/
  die : Int := 0
  /-- 3 bits; 20 R526 SYS.SLOT.NUM; reset 0 -/
  slot : BitVec 3 := 0
  /-- 1 bit; 20 R526 SYS.SLOT.CARRIER; reset 0 -/
  carrier : Bool := false
  /-- 64 bits; 20 R526 SYS.SYNC.TIME; reset 0 -/
  syncTime : Nat := 0
  /-- 32 bits; 20 R526 SYS.SYNC.COUNT; reset 0 -/
  syncCount : Nat := 0
  /-- SYNCO pulses sent (one per instant); 20 R527; reset 0 -/
  syncOut : Nat := 0
  /-- 10 cages in the order of 20 R524; reset empty cages (DESIGN CHOICE 11) -/
  cages : Tab Cage := []
  deriving DecidableEq, Repr

/-- What the manifest body declares (18 R481). -/
structure Manifest where
  /-- partition table; 02 R34 R35; factory value 02 R36 -/
  parts : Tab Partition := []
  /-- shafts declared, bit n for shaft n; 07 R194; factory none (DESIGN CHOICE 12) -/
  shafts : BitVec 8 := 0
  /-- zone partners of this module's shafts, by 8 × shaft + partner: member; 14 R412; factory none -/
  zonePartners : Tab Nat := []
  /-- zone shafts of this module, by number: home member and home shaft; 14 R412; factory none -/
  zoneShafts : Tab (Nat × Nat) := []
  /-- member identifier of this module; 13 R372, 14 R405; factory 1 (DESIGN CHOICE 12) -/
  member : Nat := 1
  /-- partner member, 0 none; 13 R372; factory 0 -/
  partner : Nat := 0
  /-- witness member, 0 none; 13 R372; factory 0 -/
  witness : Nat := 0
  /-- 1 bit: side link of the pair; 13 R372; factory 0 -/
  pairLink : Nat := 0
  /-- pairs this module witnesses: (active, standby) members; 13 R372; factory none -/
  witnessed : List (Nat × Nat) := []
  /-- time master member, 0 none; 14 R406; factory 0 -/
  master : Nat := 0
  /-- backup master member, 0 none; 14 R406; factory 0 -/
  backup : Nat := 0
  /-- 1 bit: the body meets the checks of its content; 18 R481; factory true -/
  ok : Bool := true
  deriving DecidableEq, Repr

/-- A copy of an image in NOR: what its header says and what its verification finds (18 R478, R479). -/
structure ImgCopy where
  /-- 1 bit: erased or not programmed; 18 R482; factory false -/
  erased : Bool := false
  /-- 8 bytes right; 18 R478 MAGIC; factory true -/
  magic : Bool := true
  /-- 8 bits; 18 R478 KIND; factory its place -/
  kind : Nat := 1
  /-- 0–63; 18 R478 SVN; factory 0 (DESIGN CHOICE 12) -/
  svn : Nat := 0
  /-- 8 bits; 18 R478 LINE; factory 03h -/
  line : Nat := 3
  /-- 0–3; 18 R478 MINSLOT; factory 0 (DESIGN CHOICE 12) -/
  minSlot : Nat := 0
  /-- 32 bits; 18 R478 BUILD; factory free (Config.build) -/
  build : Nat := 0
  /-- 32 bits; 18 R478 SERIAL; factory 0 (any module) -/
  serial : Nat := 0
  /-- 64 bits; 18 R478 LENGTH; factory 0 (DESIGN CHOICE 12) -/
  length : Nat := 0
  /-- slot of the required key PUBKEY hashes to, none if no slot; 18 R477; factory slot 0 -/
  keySlot : Option Nat := some 0
  /-- 1 bit: SIGNATURE verifies with PUBKEY and DIGEST is that of the body; 18 R479; factory true -/
  sigOk : Bool := true
  /-- 384 bits: the digest; 18 R478; factory 0 (no body is listed) -/
  digest : Nat := 0
  /-- what the body of a manifest declares; 18 R481; factory none -/
  manifest : Option Manifest := none
  /-- leap seconds that the body of a trusted image lists, at most 64; 14 R549; factory none (PRESUMED 15) -/
  leaps : List Leap := []
  deriving DecidableEq, Repr

/-- One key of the key store (18 R476, R477). -/
structure KeySlots where
  /-- 4 bits; 18 R476 slots programmed; reset as fused -/
  programmed : BitVec 4 := 0
  /-- 4 bits; 18 R476 slots revoked; reset as fused -/
  revoked : BitVec 4 := 0
  /-- 0–3; 18 R477 minimum slot; reset as fused -/
  minSlot : Nat := 0
  /-- slot hashes taken from a token; 18 R485; reset none -/
  hashes : Tab Nat := []
  deriving DecidableEq, Repr

/-- The lifecycle states (18 R484). -/
inductive Lifecycle where
  | blank | provisioned | field | returned
  deriving DecidableEq, Repr

/-- Start-up, reset, identification and the boot images (00 R5, 02 R56, 15, 18). -/
structure SysSt where
  /-- unpowered, in reset or running; 15 R423 R428; reset unpowered -/
  ctl : Die := .unpowered
  /-- unpowered, in reset or running; 15 R423 R428; reset unpowered -/
  scarp : Die := .unpowered
  /-- 1 bit: MRST_N asserted; 15 R430; reset 0 -/
  mrst : Bool := false
  /-- 1 bit: start-up stopped; 15 R426; reset 0 -/
  stopped : Bool := false
  /-- 4 bits; 02 R56 SYS.STATE.STAGE; reset 0 -/
  stage : Nat := 0
  /-- 2 bits; 02 R56 SYS.STATE.RATE; reset 01b -/
  rate : Nat := 1
  /-- rate of the latest ring.config that waits to land; 03 R109 R110; reset none -/
  rateNext : Option Nat := none
  /-- 1 bit; 02 R56 SYS.STATE.SAFE; reset 0 -/
  safe : Bool := false
  /-- 1 bit; 02 R56 SYS.STATE.CREEL; reset 0 -/
  creel : Bool := false
  /-- 1 bit: the ring island time base runs (first instant at 90 ms); 15 R423; reset 0 -/
  timeBase : Bool := false
  /-- 1 bit: 1,000 ms since the Scarp die's reset release have passed; 15 R434; reset 0 -/
  floor : Bool := false
  /-- 8 bits; 00 R5 R6 SYS.FWLINE.TRUSTED; reset 00h until verified and started -/
  fwTrusted : Nat := 0
  /-- 8 bits; 00 R5 R6 SYS.FWLINE.APP; reset 00h until verified and started -/
  fwApp : Nat := 0
  /-- 8 bits; 00 R5 R6 SYS.FWLINE.SAFETY; reset 00h until verified and started -/
  fwSafety : Nat := 0
  /-- 32 bits; 00 R5 SYS.FWBUILD.APP; reset the build of the application as shipped -/
  fwBuild : Nat := Config.build 2
  /-- 1 bit: an image fell back to its second copy, which delays the start; 15 R424; reset 0 -/
  fell : Bool := false
  /-- 8 bits; 15 R427 SYS.RESET.CAUSE; reset 01h -/
  cause : Nat := 1
  /-- 8 bits; 15 R427 SYS.RESET.COUNT; reset 00h -/
  count : Nat := 0
  /-- 8 bits; 15 R427 SYS.RESET.BOOTFAIL; reset 00h -/
  bootFail : Nat := 0
  /-- 16 bits; 15 R427 SYS.STAGETIME.MS; reset 0 -/
  stageMs : Nat := 0
  /-- 4 bits; 15 R427 SYS.STAGETIME.STAGE; reset 0 -/
  stageAt : Nat := 0
  /-- 16 bits; 15 R427 SYS.APPRST.COUNT; reset 0 -/
  appRst : Nat := 0
  /-- the sys.app.restart in progress; 15 R432; reset none -/
  restart : Option Request := none
  /-- 0 copy 0, 1 copy 1, 2 held image; 15 R432; reset 0 -/
  appCopy : Nat := 0
  /-- 384 bits: digest recorded of the held application image; 15 R432; reset none -/
  heldApp : Option Nat := none
  /-- trusted, application, safety, manifest (1–4): copies 0 and 1, at 2·kind + copy; 18 R478, 15 R425; reset factory images -/
  images : Tab ImgCopy := []
  /-- 64 fuses per KIND, as a number; 18 R480 minimum SVN; reset 0 -/
  minSvn : Tab Nat := []
  /-- keys GRK, GAK, GSK, GDK, IMK, IDK (0–5); 18 R476; reset GRK to GDK slot 0 programmed -/
  keys : Tab KeySlots := []
  /-- LC fuses; 18 R484; reset BLANK (DESIGN CHOICE 12: as shipped) -/
  lc : Lifecycle := .blank
  /-- the manifest in force; 18 R481; reset none until verified -/
  manifest : Manifest := {}
  /-- events to be recorded after the next start: reset and debug causes; 15 R429, 18 R500; reset none -/
  bootEvents : List Event := []
  /-- SVN, MINSLOT and key slot with which each KIND was started, at its KIND; 18 R477 R480; reset none -/
  startedSvn : Tab (Nat × Nat) := []
  /-- 1 bit: PCIe link up; 15 R423; reset 0 -/
  pcieUp : Bool := false
  /-- 1 bit: endpoint configuration lost until the host enables bus mastering again; 15 R428; reset 0 -/
  pcieQuiet : Bool := false
  /-- 1 bit: NVMe root ports out of reset; 15 R423; reset 0 -/
  rootPorts : Bool := false
  /-- 1 bit: Ethernet cages enabled; 15 R423; reset 0 -/
  ethOn : Bool := false
  /-- answered and dropped non-Creel frames, at 2·port + (0 answered, 1 dropped); 15 R433; reset 0 -/
  aux : Tab Nat := []
  /-- IEEE 1149.1 instruction register, by the number of its instruction; 18 R497; reset BYPASS (DESIGN CHOICE 12) -/
  jtag : Nat := 0
  /-- part number and step that the latest IDCODE returned; 18 R497; reset none read -/
  idcode : Nat := 0
  deriving DecidableEq, Repr

/-- A level change in progress (16 R440, R441). -/
structure LevelChange where
  /-- the request to answer; 16 R453; reset none in progress -/
  req : Request := {}
  /-- 8 bits: baskets that change; 16 R453; reset none in progress -/
  mask : BitVec 8 := 0
  /-- 0–3: new level; 16 R453; reset none in progress -/
  level : Nat := 0
  /-- 8 bits: baskets raised (voltage first); 16 R440; reset none in progress -/
  raised : BitVec 8 := 0
  /-- 8 bits: rails whose acknowledgement is awaited; 16 R440; reset none in progress -/
  awaiting : BitVec 8 := 0
  /-- 8 bits: rails whose VOUT_COMMAND was written a second time; 16 R441; reset none in progress -/
  again : BitVec 8 := 0
  /-- 1 bit: dividers changed; 16 R440; reset none in progress -/
  changed : Bool := false
  /-- cycle of the release phase of the change; 16 R440; reset none in progress -/
  cycle : Nat := 0
  deriving DecidableEq, Repr

/-- Performance levels and sleep states (16). -/
structure PowSt where
  /-- 4 bits; 16 R451 POW.STATE.MODE; reset 0 -/
  mode : Nat := 0
  /-- 4 bits; 16 R451 POW.STATE.STAGE; reset 0 -/
  stage : Nat := 0
  /-- 8 bits; 16 R451 LASTABORT; reset 0 -/
  lastAbort : Nat := 0
  /-- 8 bits; 16 R451 LASTREF; reset 0 -/
  lastRef : Nat := 0
  /-- 8 bits; 16 R451 WAKESRC; reset 0 -/
  wakeSrc : Nat := 0
  /-- 2 bits per basket; 16 R451 POW.LEVEL.BASKET; reset P0 -/
  level : Tab Nat := []
  /-- 8 bits; 16 R451 PMBFAULT; reset 0 -/
  pmbFault : BitVec 8 := 0
  /-- 2 bits per island (0–7 baskets, 8 Traverse); 16 R451 POW.ISLAND.SLEEP; reset 0 -/
  sleep : Tab Nat := []
  /-- rail voltage last written, as a level 0–3, per basket; 16 R440; reset P0 -/
  rail : Tab Nat := []
  /-- 32 bits; 16 R451 RETURN.US; reset 0 -/
  returnUs : Nat := 0
  /-- 32 bits; 16 R451 ENTRIES; reset 0 -/
  entries : Nat := 0
  /-- 32 bits; 16 R451 ABORTS; reset 0 -/
  aborts : Nat := 0
  /-- 32 bits each, codes 01h–0Ch; 16 R451 REFUSE; reset 0 -/
  refuse : Tab Nat := []
  /-- 32 bits each, codes 10h–14h; 16 R451 ABORT; reset 0 -/
  abort : Tab Nat := []
  /-- the level change in progress; 16 R440; reset none -/
  change : Option LevelChange := none
  /-- level requests that wait for it, oldest first; 16 R439; reset none -/
  levelQ : List Request := []
  /-- 1 bit: the module is in S3; 16 R442; reset 0 -/
  asleep : Bool := false
  /-- island requests waiting for the release phase: request, island, state; 16 R454; reset none -/
  islands : List (Request × Nat × Nat) := []
  /-- 8 bits: FLAGS of the S3 request; 16 R454; reset 0 -/
  flags : BitVec 8 := 0
  /-- cause of an abort latched during the entry; 16 R446; reset none -/
  latched : Option Nat := none
  /-- events of the entry held until Creel is open; 16 R446 R456; reset none -/
  held : List Event := []
  deriving DecidableEq, Repr

/-- A head record (17 R459). -/
structure Record where
  /-- 64 bits; 17 R459 TIME; reset none written -/
  time : Nat := 0
  /-- 32 bits; 17 R459 SEQ; reset none written -/
  seq : Nat := 0
  /-- 32 bits; 17 R459 CYCLE; reset none written -/
  cycle : Nat := 0
  /-- 8 bits; 17 R459 SOURCE; reset none written -/
  source : Nat := 0
  /-- 8 bits; 17 R459 CODE; reset none written -/
  code : Nat := 0
  /-- 16 bits; 17 R459 SUBJECT; reset none written -/
  subject : Nat := 0
  /-- 1 bit; 17 R459 FLAGS[0]; reset none written -/
  isOpen : Bool := true
  /-- 2 bits; 17 R459 FLAGS[3:2]; reset none written -/
  quality : Nat := 0
  /-- 1 bit; 17 R459 FLAGS[4]; reset none written -/
  snapFail : Bool := false
  /-- 32 bits; 17 R459 REPEAT; reset none written -/
  repeats : Nat := 1
  /-- 32 bits; 17 R459 VALUE; reset none written -/
  value : Int := 0
  /-- 32 bits; 17 R459 LASTVALUE; reset none written -/
  lastValue : Int := 0
  /-- 32 bits, µs; 17 R459 LASTDELTA; reset none written -/
  lastDelta : Nat := 0
  /-- 0–16 words; 17 R459 SNAP; reset none written -/
  snaps : List Nat := []
  deriving DecidableEq, Repr

/-- A ring slot (17 R458, R459). -/
inductive RecSlot where
  | head (r : Record)
  | ext (seq headSeq : Nat) (snaps : List Nat)
  deriving DecidableEq, Repr

/-- A trigger (17 R462). -/
structure Trigger where
  /-- 8 bits; 17 R462 SOURCE; reset none set -/
  source : Nat := 0
  /-- 8 bits (FFh any); 17 R462 CODE; reset none set -/
  code : Nat := 0
  /-- 1 bit; 17 R462 suppress; reset none set -/
  suppress : Bool := false
  /-- 1 bit; 17 R462 hold trace; reset none set -/
  hold : Bool := false
  /-- 0–600 s; 17 R473 PRE; reset none set -/
  pre : Nat := 0
  /-- 0–600 s; 17 R473 POST; reset none set -/
  post : Nat := 0
  /-- 1–90; 17 R473 HOLDDAYS; reset none set -/
  days : Nat := 1
  /-- 0–16 selectors of 16 bits; 17 R462; reset none set -/
  sels : List (BitVec 16) := []
  deriving DecidableEq, Repr

/-- The trace setting (17 R465). -/
structure TraceSet where
  /-- 0–2; 17 R465; reset 0 -/
  mode : Nat := 0
  /-- 2–256; 17 R465; reset 32 -/
  dec : Nat := 32
  /-- traced axes, ascending; 17 R465; reset none -/
  axes : List Nat := []
  deriving DecidableEq, Repr

/-- A trace row (17 R465), its fields in the order of the table. -/
structure TraceRow where
  /-- 16 bits; 17 R465 the axis; reset none -/
  axis : Nat := 0
  /-- 32 bits; 17 R465; reset none -/
  ref : Int := 0
  /-- 32 bits; 17 R465; reset none -/
  fb : Int := 0
  /-- 32 bits; 17 R465; reset none -/
  out : Int := 0
  /-- 32 bits; 17 R465; reset none -/
  fb1 : Int := 0
  /-- 16 bits; 17 R465; reset none -/
  astat : BitVec 16 := 0
  /-- 8 bits; 17 R465; reset none -/
  flags : Nat := 0
  /-- 8 bits; 17 R465; reset none -/
  state : Nat := 0
  /-- 32 bits; 17 R465; reset none -/
  integ : Int := 0
  /-- 32 bits; 17 R465; reset none -/
  rf : Int := 0
  /-- 32 bits; 17 R465; reset none -/
  share : Int := 0
  deriving DecidableEq, Repr

/-- The rows of one traced cycle (17 R465, R466). -/
structure TraceCycle where
  /-- 64 bits; 17 R469 cycle; reset none -/
  cycle : Nat := 0
  /-- 64 bits; 17 R469 calendar time; reset none -/
  time : Nat := 0
  /-- rows in ascending axis order; 17 R465; reset none -/
  rows : List TraceRow := []
  /-- 0–3: the drive that holds it; 17 R469; reset none -/
  drive : Nat := 0
  deriving DecidableEq, Repr

/-- A drive on a root port (17 R468 to R470). -/
structure Drive where
  /-- 0–3; 17 R470 STATE; reset 0 absent -/
  state : Nat := 0
  /-- 0–255; 17 R470 PCTUSED; reset 0 -/
  pct : Nat := 0
  /-- %; 17 R470 SPARE; reset 0 -/
  spare : Nat := 0
  /-- bytes; 17 R469 CAPACITY; reset 0 -/
  capacity : Nat := 0
  /-- stripes of the drive; 17 R469; reset 0 -/
  stripes : Nat := 0
  /-- bytes; 17 R470 WRITTEN; reset 0 -/
  written : Nat := 0
  /-- 32 bits; 17 R470 MEDIAERR; reset 0 -/
  mediaErr : Nat := 0
  /-- µs; 17 R470 P99; reset 0 -/
  p99 : Nat := 0
  /-- completion times of the window in progress; 17 R470; reset none -/
  times : List Nat := []
  /-- 32 bits; 17 R470 SLOW99; reset 0 -/
  slow99 : Nat := 0
  /-- hour (of calendar time) whose slow window posted event 03h, plus 1; 17 R470; reset 0 -/
  slowHour : Nat := 0
  /-- second (of calendar time) of the window in progress; 17 R470; reset 0 -/
  window : Nat := 0
  /-- stripes retired; 17 R470 RETIRED; reset none -/
  retired : Nat := 0
  /-- event-log stripes marked retired in the header map; 17 R469 R470; reset none -/
  bad : List Nat := []
  /-- 32 bits; 17 R470 VERIFYFAIL; reset 0 -/
  verifyFail : Nat := 0
  /-- 1 bit: the write in progress has been tried once after a mismatch; 17 R470; reset 0 -/
  retried : Bool := false
  /-- slots of pages written and not yet acknowledged, by page, oldest first; 17 R469; reset none -/
  writing : List (Nat × List RecSlot) := []
  /-- slots of pages acknowledged and not yet flushed; 17 R468; reset none -/
  unflushed : List (Nat × List RecSlot) := []
  /-- 1 bit: a Flush is outstanding; 17 R468; reset 0 -/
  flushing : Bool := false
  /-- sequence numbers of the slots the outstanding Flush covers: newest; 17 R468; reset 0 -/
  flushSeq : Nat := 0
  /-- next stripe of the event log; 17 R469; reset 0 -/
  stripe : Nat := 0
  /-- MB/s of sustained writing; 17 R468; reset 0 -/
  mbs : Nat := 0
  /-- event pages held by the drive (page number, slots), newest first; 17 R469; reset none -/
  pages : List (Nat × List RecSlot) := []
  deriving DecidableEq, Repr

/-- A NOR mirror sector (17 R471). -/
structure Sector where
  /-- erase count; 17 R471; reset 0 -/
  erases : Nat := 0
  /-- 1 bit; 17 R471; reset false -/
  retired : Bool := false
  /-- 1 bit: event 08h posted for it; 17 R471; reset false -/
  slow : Bool := false
  /-- records programmed in it, 0–1,023; 17 R471; reset 0 -/
  used : Nat := 0
  deriving DecidableEq, Repr

/-- A trace hold (17 R466). -/
structure Hold where
  /-- ns; 17 R466 held from; reset none -/
  fromNs : Nat := 0
  /-- ns; 17 R466 held to; reset none -/
  toNs : Nat := 0
  /-- days; 17 R466; reset none -/
  days : Nat := 1
  deriving DecidableEq, Repr

/-- The recorder Cairn (17). -/
structure RecSt where
  /-- 1 bit: records are taken (from 35 ms); 15 R433; reset 0 -/
  running : Bool := false
  /-- intake queue, at most 256, oldest first; 17 R457; reset empty -/
  intake : List Event := []
  /-- events dropped since the last record; 17 R457; reset 0 -/
  dropPend : Nat := 0
  /-- 32 bits; 17 R463 REC.DROP.COUNT; reset 0 -/
  drop : Nat := 0
  /-- 65,536 slots at SEQ mod 65,536; 17 R458; reset empty -/
  ring : Tab RecSlot := []
  /-- 32 bits; 17 R463 REC.RING.NEWEST; reset 0 -/
  newest : Nat := 0
  /-- 32 bits; 17 R463 REC.RING.OLDEST; reset 0 -/
  oldest : Nat := 0
  /-- 32 bits: SEQ of the next slot; 17 R458; reset 2²⁴ -/
  next : Nat := 16777216
  /-- slots written and not yet given to a drive, oldest first; 17 R469; reset none -/
  unspilled : List Nat := []
  /-- 32 bits; 17 R463 REC.SPILL.SEQ; reset 0 -/
  spill : Nat := 0
  /-- 32 bits; 17 R463 REC.MIRROR.SEQ; reset 0 -/
  mirror : Nat := 0
  /-- sealed head records waiting for the mirror, oldest first; 17 R471; reset none -/
  unmirrored : List Record := []
  /-- records in the mirror, newest first; 17 R471; reset none -/
  mirrored : List Record := []
  /-- 64 sectors; 17 R471; reset erased -/
  sectors : Tab Sector := []
  /-- sector being programmed; 17 R471; reset 0 -/
  sector : Nat := 0
  /-- 1 bit; 17 R463 MIRRORFAIL; reset 0 -/
  mirrorFail : Bool := false
  /-- slow programs; 17 R470 SLOWPROG; reset 0 -/
  slowProg : Nat := 0
  /-- 32 bits; 17 R463 REC.LOST.COUNT; reset 0 -/
  lost : Nat := 0
  /-- 1 bit: event 07h posted since the last loss began; 17 R475; reset 0 -/
  losing : Bool := false
  /-- triggers; 17 R462; reset none -/
  triggers : List Trigger := []
  /-- trace setting in force; 17 R465; reset off -/
  trace : TraceSet := {}
  /-- trace settings waiting for the release phase, with their requests; 17 R473; reset none -/
  tracePend : List (Request × TraceSet) := []
  /-- cycles of rows waiting in the staging region, oldest first; 17 R466; reset none -/
  staging : List TraceCycle := []
  /-- cycles of rows on the drives, newest first; 17 R469; reset none -/
  stored : List TraceCycle := []
  /-- 32 bits; 17 R474 cycles dropped; reset 0 -/
  traceDrop : Nat := 0
  /-- 1 bit: a dropped cycle waits for the gap map of the next stripe index; 17 R466; reset 0 -/
  gap : Bool := false
  /-- trace holds, oldest first, at most 16; 17 R466; reset none -/
  holds : List Hold := []
  /-- four drives; 17 R470; reset absent -/
  drives : Tab Drive := []
  /-- drive that takes the next page; 17 R469; reset 0 -/
  turn : Nat := 0
  /-- 64 bits: number of the last event page; 17 R469; reset 0 -/
  page : Nat := 0
  /-- 384 bits: hash-chain value; 17 R469, 01 R21; reset 0 (DESIGN CHOICE 13) -/
  chain : Nat := 0
  deriving DecidableEq, Repr

end Sys2Proof.Machine
end

