-- ==== Sys2Proof/Machine/StateRing.lean ====
section
/-! DEFINITION. State of the Jorric rings, side links, time and redundancy (03, 13, 14). Each field's comment gives its
width, file and rule, and its reset value. -/
namespace Sys2Proof.Machine

/-- What a ring does (03 ring.status STATE). -/
inductive RingState where
  | off | listening | contending | leading | following | sleeping
  deriving DecidableEq, Repr

/-- An entry of the slot table (03 R109): a node or trunk member. -/
structure NodeEntry where
  /-- 8 bits; 03 R109 KIND; reset none configured -/
  kind : Nat := 0
  /-- 8 bits; 03 R109 AXES; reset none configured -/
  axes : Nat := 0
  /-- 8 bits; 03 R109 NBLK; reset none configured -/
  nblk : Nat := 0
  /-- 16 bits; 03 R109 FIRSTAXIS; reset none configured -/
  first : Nat := 0
  /-- 1–32 blocks on a trunk ring; 14 R401 TLEN; reset none configured -/
  tlen : Nat := 0
  deriving DecidableEq, Repr

/-- A ring configuration (03 R109, R110). -/
structure RingCfg where
  /-- 0 axis, 1 trunk, 2 off; 03 R109 MODE; reset off -/
  mode : Nat := 2
  /-- [0] re-close enabled, [1] cold-start capable; 03 R109 FLAGS; reset 0 -/
  flags : Nat := 0
  /-- 16 bits; 03 R109 MEMBERID; reset 0 -/
  member : Nat := 0
  /-- 16 bits; 03 R109 TABLEID; reset 0 -/
  table : Nat := 0
  /-- m; 03 R109 FIBRE; reset 0 -/
  fibre : Nat := 0
  /-- 0–15; 14 R401 TRUNK; reset 0 -/
  trunk : Nat := 0
  /-- slot table, addresses 1, 2, … in ring order; 03 R109; reset empty -/
  entries : List NodeEntry := []
  deriving DecidableEq, Repr

/-- What the module holds of a node (03 R78 to R80, R111). -/
structure NodeSt where
  /-- 8 bits; 03 R78 slot FLAGS as last received; reset 0 -/
  flags : BitVec 8 := 0
  /-- 8 bits; 03 R80 SEQ as last received; reset 0 -/
  seq : Nat := 0
  /-- 1 bit; 01 R29, 03 R80 stale; reset 1 (nothing received yet) -/
  stale : Bool := true
  /-- records of its axes; 03 R79; reset none -/
  recs : List CollectRec := []
  /-- node blocks; 03 R78; reset none -/
  blocks : List (BitVec 64) := []
  /-- 16 bits; 03 R111 EMPTY; reset 0 -/
  empty : Nat := 0
  /-- 16 bits; 03 R111 CRCERR; reset 0 -/
  crcErr : Nat := 0
  /-- 16 bits; 03 R111 STALE; reset 0 -/
  staleCnt : Nat := 0
  /-- 16 bits; 03 R111 DLY_E; reset FFFFh not reported -/
  dlyE : Nat := 0xFFFF
  /-- 16 bits; 03 R111 DLY_W; reset FFFFh not reported -/
  dlyW : Nat := 0xFFFF
  /-- 16 bits; 03 R111 PROFILE; reset 0 -/
  profile : Nat := 0
  /-- 1 bit: reported as not answering service transactions; 03 R77; reset 0 -/
  silent : Bool := false
  /-- 1 bit: has answered a service transaction; 03 R77; reset 0 -/
  answered : Bool := false
  deriving DecidableEq, Repr

/-- A service transaction (03 R77). -/
structure ServiceSt where
  /-- 8 bits; 03 R77 NODE; reset none -/
  node : Nat := 0
  /-- 8 bits; 03 R77 OP; reset none -/
  op : Nat := 0
  /-- 16 bits; 03 R77 INDEX; reset none -/
  index : Nat := 0
  /-- 24 bytes; 03 R77 DATA; reset none -/
  data : List Byte := []
  /-- 1 bit: still to be sent, or sent again, in a deliver segment; 03 R77; reset 1 -/
  fresh : Bool := true
  /-- retries made; 03 R77; reset 0 -/
  tries : Nat := 0
  deriving DecidableEq, Repr

/-- The ordered sets a module sends (03 R73, R74): STOP with its source, RELEASE with its cycle, SPANDOWN and SPANUP with the
sender's address and the side, CLOSE with its target, COLDSTART with the member identifier, SLEEP, WAKE with the sender's address
and member identifier. -/
inductive OrdSet where
  | stop (src : Nat) | release (cycle : Nat) | spandown (addr : Nat) (west : Bool) | spanup (addr : Nat) (west : Bool)
  | close (target : Nat) | coldstart (id : Nat) | sleep | wake (addr id : Nat)
  deriving DecidableEq, Repr

/-- The images of one cycle of an axis ring that a standby captures (13 R378). -/
structure CycleImage where
  /-- low 32 bits of the cycle; 13 R378; reset none -/
  cycle : Nat := 0
  /-- 1 bit: the frames of the cycle are merged ones; 13 R378; reset 0 -/
  merged : Bool := false
  /-- collect slots as they passed, by node address; 13 R378; reset none -/
  collect : Tab SlotRx := []
  /-- deliver slots as they passed, by node address; 13 R378; reset none -/
  deliver : Tab DeliverRx := []
  deriving DecidableEq, Repr

/-- One ring (03). A span is numbered by the node before it, seen from the east port: span 0 lies at the module's east port,
span n at its west port. -/
structure RingSt where
  /-- 3 bits; 03 ring.status STATE; reset off -/
  state : RingState := .off
  /-- configuration in force; 03 R109; reset off -/
  cfg : RingCfg := {}
  /-- 16 bits; 03 ring.status LEADER; reset 0 -/
  leader : Nat := 0
  /-- 16 bits; 03 R84 LOOP_E; reset FFFFh not measured -/
  loopE : Nat := 0xFFFF
  /-- 16 bits; 03 R84 LOOP_W; reset FFFFh not measured -/
  loopW : Nat := 0xFFFF
  /-- 16 bits; 03 R84 LASTSLOT; reset 0 -/
  lastSlot : Nat := 0
  /-- ns: latest collect completion of the second in progress; 03 R84; reset 0 -/
  slotMax : Nat := 0
  /-- ns: collect completion of the latest window; 19 R505 source 09h; reset 0 -/
  slotEnd : Nat := 0
  /-- 1 bit: block lock held east; 03 R95 R99; reset 0 -/
  eastUp : Bool := false
  /-- 1 bit: block lock held west; 03 R95 R99; reset 0 -/
  westUp : Bool := false
  /-- 1 bit: Remote Fault received east; 03 R95; reset 0 -/
  remoteE : Bool := false
  /-- 1 bit: Remote Fault received west; 03 R95; reset 0 -/
  remoteW : Bool := false
  /-- 1 bit: Remote Fault sent toward the east span; 03 R95; reset 0 -/
  rfE : Bool := false
  /-- 1 bit: Remote Fault sent toward the west span; 03 R95; reset 0 -/
  rfW : Bool := false
  /-- 1 bit; 02 R56, 03 R96 healed; reset 0 -/
  healed : Bool := false
  /-- 1 bit: a heal waits for the next instant; 03 R95 R551; reset 0 -/
  healDue : Bool := false
  /-- cycle in which the ring first reported healed; 03 R96; reset none -/
  healCycle : Option Nat := none
  /-- cycle of the last re-close, whose window is in bank H; 03 R101; reset none -/
  recloseCycle : Option Nat := none
  /-- failed spans; 03 R95 R98; reset none -/
  failed : List Nat := []
  /-- spans whose loop-backs stand, failed or up again; 03 R99 R100; reset none -/
  loops : List Nat := []
  /-- 1 bit: every failed span is up again while re-closing is disabled; 03 R99; reset 0 -/
  upKept : Bool := false
  /-- reports to send in the next gap; 03 R73 R95 R99; reset none -/
  guardQ : List OrdSet := []
  /-- target cycle of a re-close; 03 R99 to R101; reset none -/
  closeAt : Option Nat := none
  /-- first of the two cycles in whose gaps CLOSE with target 0 is sent; 03 R100; reset none -/
  closeZero : Option Nat := none
  /-- cancelled target after which the ring island tries again; 03 R100; reset none -/
  closeRetry : Option Nat := none
  /-- 1 bit: stopped for a duplicate identifier; 03 R92; reset 0 -/
  duplicate : Bool := false
  /-- cycles spent in the present cold start; 03 R91, 20 R531; reset 0 -/
  coldAge : Nat := 0
  /-- good consecutive cycles of integration, 0–8; 03 R93; reset 0 -/
  good : Nat := 0
  /-- CYCLE of the last good frame; 03 R93; reset none -/
  lastCycle : Option Nat := none
  /-- 1 bit: integrated as a member; 03 R93; reset 0 -/
  integrated : Bool := false
  /-- nodes, by address; 03 R80 R111; reset none received -/
  nodes : Tab NodeSt := []
  /-- copies received for the next window; 03 R80; reset none -/
  copies : List RingCopy := []
  /-- 1 bit: a copy left the east port for the next window; 03 R97; reset 0 -/
  sentE : Bool := false
  /-- 1 bit: a copy left the west port for the next window; 03 R97; reset 0 -/
  sentW : Bool := false
  /-- low 32 bits: CYCLE of the collect or merged frame last sent; 03 R75 R97; reset 0 -/
  sentCycle : Nat := 0
  /-- bytes of the latest frame sent from the east port; 03 R75 R77 R78; reset none -/
  frameE : List Byte := []
  /-- bytes of the latest frame sent from the west port; 03 R75 R77 R78; reset none -/
  frameW : List Byte := []
  /-- CYCLE and arrival, in 10 ps of the own time base, of the latest frame that left the leader's east port; 03 R87; reset none -/
  arrE : Option (Nat × Int) := none
  /-- the same of the latest frame that left the leader's west port; 03 R87; reset none -/
  arrW : Option (Nat × Int) := none
  /-- 10 ps: delay from the leader's east port; 03 R87; reset none derived -/
  delayE : Option Int := none
  /-- 10 ps: delay from the leader's west port; 03 R87; reset none derived -/
  delayW : Option Int := none
  /-- 10 ps: instant of the ring as derived, less the own instant; 03 R88; reset none derived -/
  phase : Option Int := none
  /-- slot-table entry received as a member; 03 R93; reset none -/
  slotEntry : Option ServiceSeg := none
  /-- answer that the module owes as a member, and CYCLE of the transaction; 03 R77; reset none -/
  answer : Option (Nat × ServiceSt) := none
  /-- answer last written as a member; 03 R77; reset none -/
  answerOut : Option ServiceSt := none
  /-- own slot of a trunk ring as last written; 03 R78, 14 R402; reset none -/
  slotOut : List Byte := []
  /-- 1 bit: the next own slot carries INTEG; 03 R93; reset 0 -/
  integDue : Bool := false
  /-- 1 bit: SLEEP was received as a member; 03 R105; reset 0 -/
  slept : Bool := false
  /-- captured images, newest first, at most 64; 13 R378; reset none -/
  images : List CycleImage := []
  /-- ordered sets forwarded, newest first: west port of departure, block; 03 R74; reset none -/
  fwd : List (Bool × SetBlock) := []
  /-- the service transaction in progress; 03 R77; reset none -/
  service : Option ServiceSt := none
  /-- service transactions waiting, oldest first; 03 R77; reset none -/
  serviceQ : List ServiceSt := []
  /-- guards left in which RELEASE is sent; 03 R104; reset 0 -/
  releaseN : Nat := 0
  /-- guards left in which SLEEP is sent; 03 R105; reset 0 -/
  sleepN : Nat := 0
  /-- intervals left in which WAKE is sent; 03 R105; reset 0 -/
  wakeN : Nat := 0
  /-- ordered sets sent, newest first, each with its number of blocks; 03 R73 R74 R102; reset none -/
  out : List (OrdSet × Nat) := []
  /-- ring.config requests waiting for the release phase: request, configuration, rate; 03 R110; reset none -/
  cfgPend : List (Request × RingCfg × Nat) := []
  /-- landed ring.config requests waiting for the first frame, or for the ring to be off: request and completion fields; 03 R110; reset none -/
  cfgWait : List Request := []
  deriving DecidableEq, Repr

/-- A side link (14 R397 to R400). -/
structure LinkSt where
  /-- 1 bit; 14 R397; reset down -/
  up : Bool := false
  /-- 16 bits signed, clocks: own measurement m; 14 R400; reset 0 -/
  m : Int := 0
  /-- 1 bit: an own measurement and the partner's are held; 14 R400; reset 0 -/
  valid : Bool := false
  /-- half clocks: instant of this module less the partner's; 14 R400 phase; reset 0 -/
  phase2 : Int := 0
  /-- half clocks; 14 R400 delay; reset 0 -/
  delay2 : Int := 0
  /-- bulk frames received: checkpoints, journal, configuration copies; 14 R399; reset 0 -/
  bulk : Tab Nat := []
  deriving DecidableEq, Repr

/-- What a module can follow in time (14 R409): nothing, itself, a trunk ring or a side link. -/
inductive TimeSrc where
  | none | self | ring (r : Nat) | side (n : Nat)
  deriving DecidableEq, Repr

/-- A TIME record as held for the choice of a reference (14 R409). -/
structure TimeHeard where
  /-- where it came from; 14 R409; reset none -/
  src : TimeSrc := .none
  /-- member that wrote it; 14 R409; reset none -/
  member : Nat := 0
  /-- the record; 14 R408; reset none -/
  body : TimeRec := {}
  /-- cycle in which it came; 14 R409; reset none -/
  cycle : Nat := 0
  deriving DecidableEq, Repr

/-- The time of the module (14 R405 to R411, R549). -/
structure TimeSt where
  /-- 64 bits ns: calendar time of the latest instant; 14 R405; reset 0 (DESIGN CHOICE 14) -/
  now : Nat := 0
  /-- 64 bits: number of the cycle in progress; 14 R405; reset 0 (DESIGN CHOICE 14) -/
  cycle : Nat := 0
  /-- 1 bit: the release phase of the cycle in progress has passed; 01 R28; reset 0 -/
  released : Bool := false
  /-- 1 bit: instants are taken; 15 R423; reset 0 -/
  running : Bool := false
  /-- calendar time of the next instant when it is not one cycle time away; 03 R110, 14 R407; reset none -/
  next : Option Nat := none
  /-- 16 bits: member followed as master; 14 R411 MASTER; reset 0 -/
  master : Nat := 0
  /-- 8 bits: hops from the master; 14 R411 DEPTH; reset FFh (free running) -/
  depth : Nat := 0xFF
  /-- 0 free running, 1 acquiring, 2 synchronised, 3 master on PTP, 4 master on RTC; 14 R411 TSTATE; reset 0 -/
  tstate : Nat := 0
  /-- 1 bit: no frame is sent before the next instant; 03 R110; reset 0 -/
  gap : Bool := false
  /-- source followed; 14 R409; reset none -/
  src : TimeSrc := .none
  /-- ns signed: latest offset from the source; 14 R411 OFFSET; reset 0 -/
  offset : Int := 0
  /-- clocks signed: offset that the time base has still to take up; 14 R407; reset 0 -/
  err : Int := 0
  /-- s signed: TAI − UTC in force; 14 R549; reset 37 (PRESUMED 15) -/
  utcOff : Int := 37
  /-- leap-second table kept in NOR, newest first, at most 64; 14 R549; reset empty -/
  leaps : List Leap := []
  /-- 1 bit: this module is the time master in force; 14 R406; reset 0 -/
  isMaster : Bool := false
  /-- 16 bits; 14 R411 SOURCE, member of the reference; reset 0 -/
  srcMember : Nat := 0
  /-- cycles of the last second in which the time base was trimmed or corrected; 14 R411 TRIMS; reset none -/
  trims : List Nat := []
  /-- 1 bit: PTP is available to the master; 14 R406; reset 0 -/
  ptp : Bool := false
  /-- TIME records of the sources heard; 14 R409; reset none -/
  heard : List TimeHeard := []
  deriving DecidableEq, Repr

/-- What the home module holds of a zone partner (14 R413, R416). -/
structure ZoneUpSt where
  /-- axis entries of the latest ZONE-UP; 14 R413; reset none -/
  axes : List ZoneUpAxis := []
  /-- Hall entries of the latest ZONE-UP: first axis of the node, block; 14 R413; reset none -/
  halls : List (Nat × BitVec 64) := []
  /-- 1 bit: every segment of the partner is missing; 14 R416; reset 1 (nothing received) -/
  missing : Bool := true
  /-- consecutive records missing or with bit 24 set; 14 R416; reset 0 -/
  bad : Nat := 0
  /-- path of the latest ZONE-UP; 14 R412 R414; reset none -/
  src : TimeSrc := .none
  deriving DecidableEq, Repr

/-- Records sent and exchanged with other modules (14 R402, R403, R413, R418). -/
structure MultiSt where
  /-- records committed at the latest release phase, by trunk ring 0–3 and side link 4–5; 14 R402 R399; reset none -/
  sent : Tab (List TrunkRec) := []
  /-- zone partners by 8 × shaft + partner; 14 R413; reset none received -/
  zoneUp : Tab ZoneUpSt := []
  /-- windows without a ZONE-DOWN entry, by axis; 14 R416; reset 0 -/
  downMiss : Tab Nat := []
  /-- 1 bit: a ZONE-DOWN entry was missing in this cycle, by zone shaft; 14 R413; reset 0 -/
  upFlag : Tab Bool := []
  /-- zone segments named in the latest ZONE-DOWN, by zone shaft; 14 R414; reset none -/
  named : Tab (List Nat) := []
  /-- zone segments named in the ZONE-DOWN before, by zone shaft; 14 R414; reset none -/
  wasNamed : Tab (List Nat) := []
  /-- SAFE frames to publish at the next release phase: ring, record; 14 R418; reset none -/
  publish : List (Nat × TrunkRec) := []
  deriving DecidableEq, Repr

/-- The role of a module (13 R372); `undecided` is a paired module before R394 gives it a role. -/
inductive Role where
  | solo | active | standby | fenced | withdrawn | takingOver | undecided
  deriving DecidableEq, Repr

/-- Redundancy (13). -/
structure RedSt where
  /-- role; 13 R372 R394; reset SOLO -/
  role : Role := .solo
  /-- 8 bits: first condition that failed; 13 red.status INELIG; reset 0 -/
  inelig : Nat := 0
  /-- 32 bits: consecutive good checkpoints; 13 R379 GOODCK; reset 0 -/
  goodCk : Nat := 0
  /-- 32 bits: checkpoints not good; 13 red.status BADCK; reset 0 -/
  badCk : Nat := 0
  /-- window of the latest checkpoint sent or held; 13 R379 CKWIN; reset 0 -/
  ckWin : Nat := 0
  /-- window of the latest good checkpoint; 13 R379; reset none -/
  goodWin : Option Nat := none
  /-- 32 bits: newest journal entry; 13 R377 JSEQ; reset 0 -/
  jseq : Nat := 0
  /-- the latest good checkpoint; 13 R379 R387; reset none -/
  checkpoint : Option CheckpointIn := none
  /-- 1 bit: the safety exchange was lost since the previous good checkpoint; 13 R379; reset 0 -/
  exchLost : Bool := false
  /-- 32 bits: switch-overs; 13 red.status SWITCHOVERS; reset 0 -/
  switchovers : Nat := 0
  /-- cycle of the last take-over; 13 red.status SWCYCLE; reset 0 -/
  swCycle : Nat := 0
  /-- gap of the last switch-over, cycles; 13 red.status LASTGAP; reset 0 -/
  lastGap : Nat := 0
  /-- cycle of the last frame seen from the partner, and its ring; 13 R383 R395; reset none -/
  partnerFrame : Option (Nat × Nat) := none
  /-- cycle in which the partner's heartbeat last came; 13 R381 R395; reset none -/
  partnerSeen : Option Nat := none
  /-- cycle in which the witness's heartbeat last came; 13 R381; reset none -/
  witnessSeen : Option Nat := none
  /-- consecutive heartbeats missed from the partner; 13 R381; reset 0 -/
  missPartner : Nat := 0
  /-- consecutive heartbeats missed from the witness; 13 R381; reset 0 -/
  missWitness : Nat := 0
  /-- 32 bits: heartbeats missed from the partner, or by witnessed pair 1–4 from its active; 13 red.status HBMISS; reset 0 -/
  hbMiss : Tab Nat := []
  /-- consecutive heartbeats missed, by witnessed pair at 2k (active) and 2k + 1 (standby); 13 R381; reset 0 -/
  missPairs : Tab Nat := []
  /-- latest heartbeats of witnessed pairs, by pair at 2k (active) and 2k + 1 (standby), k = 1–4; 13 R381; reset none -/
  pairHb : Tab Heartbeat := []
  /-- member a witnessed pair's declaration names, by pair, 0 none; 13 R381; reset 0 -/
  declared : Tab Nat := []
  /-- seconds of a refused declaration, by pair; 13 R386; reset 0 -/
  pathSecs : Tab Nat := []
  /-- 1 bit: FAILED is set; 13 R382; reset 0 -/
  failed : Bool := false
  /-- cause of the fence that the next instant brings; 13 R384; reset none -/
  fenceDue : Option Nat := none
  /-- 1 bit: speculative take-over runs; 13 R387; reset 0 -/
  speculative : Bool := false
  /-- 1 bit: replay complete; 13 R387; reset 0 -/
  replayed : Bool := false
  /-- 1 bit: a declaration names the active and was accepted; 13 R383; reset 0 -/
  confirmed : Bool := false
  /-- cycle of the last window of the active's outputs; 13 R388; reset 0 -/
  lastWindow : Nat := 0
  /-- target cycle of a planned hand-over; 13 R393; reset none -/
  target : Option Nat := none
  /-- the red.role.request in progress; 13 R395; reset none -/
  request : Option Request := none
  /-- 1 bit: configuration and journal are being copied from the active; 13 R394; reset 0 -/
  joining : Bool := false
  /-- heartbeats of the latest release phase, to the own pair at 0 and to witnessed pair k at k; 13 R380; reset none sent -/
  sent : Tab Heartbeat := []
  /-- the latest checkpoint sent; 13 R376; reset none sent -/
  ckOut : Option CheckpointIn := none
  /-- latest heartbeat of the partner; 13 R380; reset none -/
  partnerHb : Option Heartbeat := none
  /-- latest heartbeat of the witness; 13 R380; reset none -/
  witnessHb : Option Heartbeat := none
  /-- member seen as the active of a witnessed pair when not the one the manifest names first; 13 R381; reset none -/
  pairAct : Tab Nat := []
  /-- 1 bit: the declaration being received has been refused and reported; 13 R383; reset 0 -/
  declRefused : Bool := false
  /-- red.status as of the latest release phase, by SELECT; 13 red.status; reset none taken -/
  snap : Tab (List (Nat × Nat × Int)) := []
  /-- journal entries received: their numbers, newest first; 13 R377; reset none -/
  journal : List Nat := []
  deriving DecidableEq, Repr

end Sys2Proof.Machine
end

