-- ==== Sys2Proof/Machine/StateProfile.lean ====
section
/-! DEFINITION. The form of a motion profile (06 R168 to R172), used by cars and doors. -/
namespace Sys2Proof.Machine

/-- One phase of a profile: a blend of the acceleration from `a0` to `a1`, or a hold when they are equal. -/
structure ProfPhase where
  /-- ns; 06 R168; reset none planned -/
  dur : Nat := 0
  /-- nm/s²; 06 R169; reset none planned -/
  a0 : Int := 0
  /-- nm/s²; 06 R169; reset none planned -/
  a1 : Int := 0
  /-- nm/s at the start of the phase; 06 R168; reset none planned -/
  v0 : Int := 0
  /-- nm at the start of the phase; 06 R168; reset none planned -/
  p0 : Int := 0
  deriving DecidableEq, Repr

/-- A profile (06 R168): its phases, the window of journey time 0, the blend and the target at which it ends. -/
structure Profile where
  /-- phases in order; 06 R168; reset none planned -/
  phases : List ProfPhase := []
  /-- cycle of journey time 0; 06 R168 ns, 08 R235 NS; reset none planned -/
  start : Nat := 0
  /-- 0 sinusoidal, 1 polynomial; 06 R169; reset none planned -/
  blend : Nat := 0
  /-- ns; 06 R170 T; reset none planned -/
  total : Nat := 0
  /-- µm: reference for t ≥ T; 06 R168; reset none planned -/
  target : Int := 0
  deriving DecidableEq, Repr

/-- A door move record (08 R235). -/
structure DoorMove where
  /-- µm; 08 R235 target position; reset none -/
  target : Int := 0
  /-- µm/s; 08 R235 VP; reset none -/
  vp : Int := 0
  /-- µm/s²; 08 R235 A; reset none -/
  a : Int := 0
  /-- mm/s³; 08 R235 J; reset none -/
  j : Int := 0
  /-- 0, 1; 08 R235 blend; reset none -/
  blend : Nat := 0
  /-- start cycle; 08 R235 NS; reset none -/
  ns : Nat := 0
  deriving DecidableEq, Repr

end Sys2Proof.Machine
end

