-- ==== Sys2Proof/Machine/StateAxis.lean ====
section
/-! DEFINITION. State of axes, weavers, supervision and tuning (04, 05). Each field's comment gives its width, file and
rule, and its reset value. -/
namespace Sys2Proof.Machine

/-- The axis states (04 R146 to R149). -/
inductive AxisState where
  | unloaded | disabled | enabled | holding | fault
  deriving DecidableEq, Repr

/-- An axis descriptor: 64 words of 32 bits, word w at offset 4w, unlisted words 0 (04 R119). -/
abbrev Desc := Tab Word

/-- The reset values of a descriptor: VERSION 01h and STALELIM 4 (04 R119). -/
def resetDesc : Desc := [(0, 0x01000000), (1, 0x400)]

/-- What a tune.inject.start starts (05 R160). -/
structure InjectSpec where
  /-- 0–3; 05 R160 SIGNAL; reset idle -/
  signal : Nat := 0
  /-- 0 reference, 1 output; 05 R160 POINT; reset idle -/
  point : Nat := 0
  /-- 7–16; 05 R160 ORDER; reset idle -/
  order : Nat := 7
  /-- 32 bits; 05 R160 AMPL; reset idle -/
  ampl : Int := 0
  /-- 32 bits; 05 R160 inc(F0); reset idle -/
  inc0 : Nat := 0
  /-- 32 bits; 05 R160 inc(F1); reset idle -/
  inc1 : Nat := 0
  /-- executions; 05 R160 DURATION, or of the settle and measure phases; reset idle -/
  duration : Nat := 0
  /-- executions of the settle phase; 05 R160; reset idle -/
  settle : Nat := 0
  /-- 1–65,535; 05 R160 HOLD; reset idle -/
  hold : Nat := 1
  deriving DecidableEq, Repr

/-- What a tune.capture.arm arms (05 R165, R166). -/
structure CaptureSpec where
  /-- 1–16 channels: (axis, signal); 05 R166; reset none -/
  chans : List (Nat × Nat) := []
  /-- 0–5; 05 R166 TRIGGER; reset none -/
  trigger : Nat := 0
  /-- 05 R166 TCHAN; reset none -/
  tchan : Nat := 0
  /-- 05 R166 EDGE; reset none -/
  edge : Nat := 0
  /-- 05 R166 TAXIS; reset none -/
  taxis : Nat := 0
  /-- 05 R166 TVALUE; reset none -/
  tvalue : Int := 0
  /-- 05 R166 PRE; reset none -/
  pre : Nat := 0
  /-- 05 R166 DECIM; reset none -/
  decim : Nat := 1
  deriving DecidableEq, Repr

/-- What a staged write does when it lands (01 R32, 04 R132, R138, R147, R148, 05 R161, R166, R121). `word` carries the
words of one axis.coef.write that have not landed, as an unbroken group. -/
inductive Staged where
  | words (ws : List (Nat × Word))
  | bank (b : Nat)
  | desc (d : Desc)
  | enable
  | disable
  | tableSwap (base : Int) (sh count : Nat)
  | injectStart (s : InjectSpec) (eff : List (Nat × Nat × Int))
  | injectStop
  | aux (v : Int)
  | doorMove (m : DoorMove)
  | flim (v : Option Word)
  deriving DecidableEq, Repr

/-- A staged write, with the request that waits for its completion (01 R32). -/
structure StagedWrite where
  /-- what lands; 01 R32; reset none -/
  what : Staged := .disable
  /-- the request to answer when it has landed; 02 R67; reset none -/
  req : Option Request := none
  /-- completion fields prepared at execution; 02 R67; reset none -/
  eff : List (Nat × Nat × Int) := []
  /-- place in the order of arrival at the staging ports; 01 R32; reset none -/
  ord : Nat := 0
  deriving DecidableEq, Repr

/-- Entries of an axis.table.load on the bulk path (04 R132). -/
structure BulkWrite where
  /-- (index, value); 04 R132; reset none -/
  entries : List (Nat × Int) := []
  /-- the request to answer; 04 R132; reset none -/
  req : Request := {}
  /-- completion fields; 04 R132; reset none -/
  eff : List (Nat × Nat × Int) := []
  /-- BASE and SHIFT of a commit; 04 R132; reset none -/
  commit : Option (Int × Nat) := none
  /-- place in the order of arrival at the staging ports; 01 R32; reset none -/
  ord : Nat := 0
  deriving DecidableEq, Repr

/-- A position-table page (04 R130). -/
structure TablePage where
  /-- 32 bits; 04 R130 base; reset 0 -/
  base : Int := 0
  /-- 0–20; 04 R130 sh; reset 0 -/
  sh : Nat := 0
  /-- 1,024 entries of 32 bits, unlisted 0; 04 R130; reset 0 -/
  e : Tab Int := []
  deriving DecidableEq, Repr

/-- The state of a law (04 R124 to R128). -/
structure LawSt where
  /-- 64 bits; 04 R124 i; reset 0 -/
  i : Int := 0
  /-- 32 bits; 04 R124 df; reset 0 -/
  df : Int := 0
  /-- 32 bits; 04 R124 e_prev; reset 0 -/
  ePrev : Int := 0
  /-- 32 bits; 04 R124 y_prev; reset 0 -/
  yPrev : Int := 0
  /-- 1 bit; 04 R125 sat_hi; reset 0 -/
  satHi : Bool := false
  /-- 1 bit; 04 R125 sat_lo; reset 0 -/
  satLo : Bool := false
  /-- 1 bit; 04 R127 hi; reset 0 -/
  hi : Bool := false
  /-- 0–65,535; 04 R127 dwell; reset 65,535 -/
  dwell : Nat := 65535
  /-- 32 bits; 04 R128 o_prev; reset 0 -/
  oPrev : Int := 0
  /-- 1 bit: first execution after enable seeds the derivative; 04 R148; reset 0 -/
  seed : Bool := false
  /-- 32 bits: FB0 of the last execution; 04 R121 STATESEL 03h; reset 0 -/
  fb0Prev : Int := 0
  deriving DecidableEq, Repr

/-- Supervision of an axis (05 R151 to R159). -/
structure SupSt where
  /-- 32 bits; 05 R151 m1; reset 0 -/
  m1 : Int := 0
  /-- 32 bits; 05 R151 m2; reset 0 -/
  m2 : Int := 0
  /-- 32 bits; 05 R151 rf; reset 0 -/
  rf : Int := 0
  /-- 32 bits; 05 R151 o1; reset 0 -/
  o1 : Int := 0
  /-- 32 bits; 05 R151 o2; reset 0 -/
  o2 : Int := 0
  /-- executions in which the residual tests stay suspended; 05 R152; reset 0 -/
  settle : Nat := 0
  /-- 3 counts of 8 bits, note, degrade, trip; 05 R153; reset 0 -/
  cnt : Tab Nat := []
  /-- 19 causes, bit c − 1; 05 R154; reset 0 -/
  causes : BitVec 19 := 0
  /-- consecutive executions in which the condition of cause c held; 05 R154; reset 0 -/
  bad : Tab Nat := []
  /-- consecutive executions in which the clearing condition of cause c held; 05 R154; reset 0 -/
  good : Tab Nat := []
  /-- executions, counted from the newest, in which spikes fell, within 1,024; 05 R154 R155; reset none -/
  spikes : List Nat := []
  /-- 0–3; 05 R157 level in force; reset 0 -/
  level : Nat := 0
  /-- cause reported; 05 R158; reset 0 -/
  cause : Nat := 0
  /-- cycle of the last level change; 05 R166; reset 0 -/
  lastChange : Nat := 0
  /-- 32 bits; 05 R166 NOTES; reset 0 -/
  notes : Nat := 0
  /-- 32 bits; 05 R166 DEGRADES; reset 0 -/
  degrades : Nat := 0
  /-- 32 bits; 05 R166 TRIPS; reset 0 -/
  trips : Nat := 0
  deriving DecidableEq, Repr

/-- An injection (05 R160 to R163). -/
structure InjectSt where
  /-- 0 idle, 1 running, 2 ended, 3 stopped; 05 R166 INJ; reset 0 -/
  state : Nat := 0
  /-- what runs; 05 R160; reset idle -/
  spec : InjectSpec := {}
  /-- 32 bits; 05 R160 phase; reset 0 -/
  phase : Nat := 0
  /-- up to 16 bits; 05 R160 shift register; reset 0 -/
  lfsr : Nat := 0
  /-- executions injected; 05 R160 j; reset 0 -/
  j : Nat := 0
  /-- 32 bits: value of the next execution; 05 R160 g; reset 0 -/
  g : Int := 0
  deriving DecidableEq, Repr

/-- A deliver record (03 R79): REF0 to REF2 and the ACMD bits enable and hold. -/
structure DeliverRec where
  /-- 32 bits; 03 R79 REF0; reset 0 -/
  ref0 : Int := 0
  /-- 32 bits; 03 R79 REF1; reset 0 -/
  ref1 : Int := 0
  /-- 32 bits; 03 R79 REF2; reset 0 -/
  ref2 : Int := 0
  /-- 1 bit; 03 R79 ACMD enable; reset 0 -/
  enable : Bool := false
  /-- 1 bit; 03 R79 ACMD hold; reset 0 -/
  hold : Bool := false
  /-- 8 bits: record sequence; 03 R79 SUBSEQ; reset 0 -/
  subseq : Nat := 0
  deriving DecidableEq, Repr

/-- A share record (04 Car-level programs, 07): what the car-level program gives a segment axis. -/
structure Share where
  /-- 32 bits, 0.01 N; 07 R210; reset 0 -/
  force : Int := 0
  /-- 32 bits; 07 R207 electrical angle; reset 0 -/
  angle : Nat := 0
  /-- 32 bits, µm; 04 R130 position relative to the segment origin; reset 0 -/
  pos : Int := 0
  /-- 32 bits, µm/s; 04 R131 velocity; reset 0 -/
  vel : Int := 0
  deriving DecidableEq, Repr

/-- The snapshot of axis.status (04 R149), taken at the release phase. -/
structure AxisSnap where
  /-- 3 bits; 04 R149 STATE; reset 0 -/
  state : Nat := 0
  /-- 2 bits: supervision level committed; 05 R157; reset 0 -/
  level : Nat := 0
  /-- 8 bits; 04 R149 BANK; reset 0 -/
  bank : Nat := 0
  /-- 8 bits; 04 R149 FLAGS; reset 0 -/
  flags : Nat := 0
  /-- 32 bits; 04 R149 OUTPUT; reset 0 -/
  out : Int := 0
  /-- 32 bits; 04 R149 FEEDBACK; reset 0 -/
  fb : Int := 0
  /-- 16 bits; 04 R149 ASTAT; reset 0 -/
  astat : BitVec 16 := 0
  /-- 8 bits; 04 R149 STALERUN; reset 0 -/
  staleRun : Nat := 0
  /-- 32 bits; 04 R149 STALES; reset 0 -/
  staleCnt : Nat := 0
  /-- 32 bits; 04 R149 SATS; reset 0 -/
  satCnt : Nat := 0
  /-- 32 bits; 04 R149 CLAMPS; reset 0 -/
  clampCnt : Nat := 0
  /-- 32 bits; 04 R149 LATES; reset 0 -/
  lateCnt : Nat := 0
  deriving DecidableEq, Repr

/-- An axis (04, 05). -/
structure AxisSt where
  /-- 3 bits; 04 axis states; reset UNLOADED -/
  state : AxisState := .unloaded
  /-- 256 bytes: the descriptor held by the weaver; 04 R119; reset VERSION 01h, STALELIM 4, else 0 -/
  desc : Desc := resetDesc
  /-- 256 bytes: the descriptor master; 01 R18 R22; reset as the descriptor -/
  master : Desc := resetDesc
  /-- 1 bit: a descriptor master exists; 04 R112; reset 0 -/
  hasMaster : Bool := false
  /-- law state; 04 R124; reset 0 -/
  law : LawSt := {}
  /-- supervision; 05 R151; reset 0 -/
  sup : SupSt := {}
  /-- injection; 05 R160; reset idle -/
  inj : InjectSt := {}
  /-- two position-table pages; 04 R130; reset 0 -/
  page0 : TablePage := {}
  /-- second page; 04 R130; reset 0 -/
  page1 : TablePage := {}
  /-- staged writes, oldest first; 01 R32; reset none -/
  staged : List StagedWrite := []
  /-- table loads waiting on the bulk path, oldest first; 04 R132; reset none -/
  bulk : List BulkWrite := []
  /-- axis.table.load requests held back behind a commit; 04 R132; reset none -/
  held : List Request := []
  /-- 0 A, 1 B, 2 H: bank in use in the last window; 04 R136; reset 0 -/
  bankUse : Nat := 0
  /-- 1 bit: active page; 04 R130; reset 0 -/
  page : Bool := false
  /-- 8 bits; 04 R134 STALERUN; reset 0 -/
  staleRun : Nat := 0
  /-- 1 bit: stale in the last window; 04 R149; reset 0 -/
  stale : Bool := false
  /-- 32 bits; 04 R149 STALECNT; reset 0 -/
  staleCnt : Nat := 0
  /-- 32 bits; 04 R149 SATCNT; reset 0 -/
  satCnt : Nat := 0
  /-- 32 bits; 04 R149 CLAMPCNT; reset 0 -/
  clampCnt : Nat := 0
  /-- 32 bits; 04 R149 LATECNT; reset 0 -/
  lateCnt : Nat := 0
  /-- 1 bit: late release in the present cycle; 01 R31; reset 0 -/
  late : Bool := false
  /-- 1 bit: integrator at a clamp; 04 R149; reset 0 -/
  clamped : Bool := false
  /-- 32 bits: reference of the last execution; 17 R465; reset 0 -/
  lastR : Int := 0
  /-- 32 bits: feedback of the last execution; 04 R149; reset 0 -/
  lastY : Int := 0
  /-- 32 bits: error of the last execution; 05 R164; reset 0 -/
  lastE : Int := 0
  /-- 32 bits: output before limits of the last execution; 05 R164; reset 0 -/
  lastU : Int := 0
  /-- 32 bits: output of the last execution; 04 R149; reset 0 -/
  lastO : Int := 0
  /-- 32 bits: table term of the last execution; 05 R164; reset 0 -/
  lastT : Int := 0
  /-- 32 bits: injected value of the last execution; 05 R164; reset 0 -/
  lastG : Int := 0
  /-- 16 bits; 04 R149 ASTAT; reset 0 -/
  astat : BitVec 16 := 0
  /-- 1 bit: law executed in the last window; 17 R465; reset 0 -/
  executed : Bool := false
  /-- 1 bit: an execution in the last window, the held output of a HOLDING axis included; 05 R164; reset 0 -/
  ran : Bool := false
  /-- an output written too late for its cycle, which goes into the following cycle's image; 01 R31; reset none -/
  lateOut : Option DeliverRec := none
  /-- release-buffer entry; 01 R31; reset 0 -/
  release : DeliverRec := {}
  /-- deliver-image entry; 01 R31; reset 0 -/
  deliver : DeliverRec := {}
  /-- 32 bits; 04 R121 auxiliary setpoint; reset 0 -/
  aux : Int := 0
  /-- share exchange entry as written by the car-level program; 04 R115; reset 0 -/
  shareNext : Share := {}
  /-- share record in the input image; 04 R115; reset 0 -/
  share : Share := {}
  /-- door move in force, as a profile of the weaver; 08 R235; reset none -/
  move : Profile := {}
  /-- door moves that wait for their NS, in its order; 08 R235; reset none -/
  moveNext : List DoorMove := []
  /-- 1 bit: a law has executed since the descriptor was loaded; 05 R155; reset 0 -/
  seen : Bool := false
  /-- snapshot of the latest release phase; 04 R149; reset 0 -/
  snap : AxisSnap := {}
  deriving DecidableEq, Repr

/-- A weaver (04 R142 to R145). -/
structure WeaverSt where
  /-- consecutive windows with a missed slot; 04 R142; reset 0 -/
  miss : Nat := 0
  /-- 1 bit: a slot missed in this cycle; 04 R142; reset 0 -/
  missed : Bool := false
  /-- 1 bit: stopped by its basket; 04 R142; reset 0 -/
  stopped : Bool := false
  /-- end of the last program of the last window, ticks; 19 R505; reset 0 -/
  ticks : Nat := 0
  deriving DecidableEq, Repr

/-- The tuning capture (05 R164 to R167). -/
structure CaptureSt where
  /-- 0 idle, 1 armed, 2 triggered, 3 complete, 4 aborted; 05 R167; reset 0 -/
  state : Nat := 0
  /-- what is armed; 05 R166; reset none -/
  spec : CaptureSpec := {}
  /-- samples by channel, newest first; 05 R164; reset none -/
  samples : Tab (List Int) := []
  /-- samples of the pre-trigger area held at the trigger, by channel; 05 R165; reset none -/
  validPre : Tab Nat := []
  /-- cycle of sample 0, by channel; 05 R165; reset none -/
  cycle0 : Tab Nat := []
  /-- executions since the last sample, by channel; 05 R165; reset 0 -/
  skip : Tab Nat := []
  /-- divider of the axis, by channel; 05 R167; reset none -/
  div : Tab Nat := []
  /-- STATE of the content of a channel that the capture in force does not name; 05 R165 R167; reset 0 -/
  kept : Tab Nat := []
  /-- PRE and DECIM of each channel's content, with its channel; 05 R165; reset none -/
  form : Tab (Nat × Nat) := []
  /-- previous value of the channel or input tested; 05 R165; reset none -/
  prev : Option Int := none
  deriving DecidableEq, Repr

/-- The envelope of an axis (01 R21, R22): trusted firmware holds it. -/
structure Envelope where
  /-- mA; 01 R21; reset 2³¹ − 1 (DESIGN CHOICE 16) -/
  current : Int := 2147483647
  /-- 0.01 N; 01 R21; reset 2³¹ − 1 (DESIGN CHOICE 16) -/
  force : Int := 2147483647
  /-- µm/s; 01 R21; reset 2³¹ − 1 (DESIGN CHOICE 16) -/
  speed : Int := 2147483647
  deriving DecidableEq, Repr

/-- Weavers, axes and tuning (04, 05). -/
structure LoopSt where
  /-- axes by number; 04; reset UNLOADED -/
  axes : Tab AxisSt := []
  /-- 64 weavers; 04; reset running -/
  weavers : Tab WeaverSt := []
  /-- envelope table by axis; 01 R21; reset open (DESIGN CHOICE 16) -/
  envelope : Tab Envelope := []
  /-- tuning capture; 05; reset idle -/
  capture : CaptureSt := {}
  /-- the tune.capture.arm that waits for the release phase; 05 R166; reset none -/
  capPend : List (Request × CaptureSpec × List (Nat × Nat × Int)) := []
  /-- staged writes that have arrived so far (the model's numbering of their order); 01 R32; reset 0 -/
  arrivals : Nat := 0
  /-- 64 bits: cycle of the most recent release phase; 04 R149 CYCLE; reset 0 -/
  snapCycle : Nat := 0
  deriving DecidableEq, Repr

end Sys2Proof.Machine
end

