-- ==== Sys2Proof/Machine/StateMotion.lean ====
section
/-! DEFINITION. State of shafts, cars, energy and dispatch (06, 07, 09). Each field's comment gives its
width, file and rule, and its reset value. -/
namespace Sys2Proof.Machine

/-- The car states (07 table "Car states"). -/
inductive CarState where
  | outOfService | idle | preparing | weighing | moving | stopping | stopped | tripped | inspection
  deriving DecidableEq, Repr

/-- A bank of the car parameter block (07 R207). -/
structure CarBank where
  /-- 32 bits; 07 R207 KP; reset none loaded -/
  kp : Int := 0
  /-- 32 bits; 07 R207 KV; reset none loaded -/
  kv : Int := 0
  /-- 32 bits; 07 R207 KI; reset none loaded -/
  ki : Int := 0
  /-- 0 to 2³¹ − 1; 07 R207 IMAX; reset none loaded -/
  imax : Int := 0
  /-- 32 bits; 07 R207 FFK; reset none loaded -/
  ffk : Int := 0
  /-- 32 bits; 07 R207 SHIFTS; reset none loaded -/
  shifts : Nat := 0
  deriving DecidableEq, Repr

/-- A car of a shaft configuration (07 section 3). -/
structure CarCfg where
  /-- 0–63; 07 R196 CAR; reset none loaded -/
  car : Nat := 0
  /-- 0–7; 07 R196 ORDER; reset none loaded -/
  order : Nat := 0
  /-- 0–63; 07 section 3 WEAVER; reset none loaded -/
  weaver : Nat := 0
  /-- 0–7; 07 section 3 WPOS; reset none loaded -/
  wpos : Nat := 0
  /-- 0–3; 07 section 3 CNRING; reset none loaded -/
  cnRing : Nat := 0
  /-- 1–128; 07 section 3 CNADDR; reset none loaded -/
  cnAddr : Nat := 1
  /-- axis or FFFFh; 07 section 3 DOORAXIS; reset none loaded -/
  doorAxis : Nat := 0xFFFF
  /-- kg; 07 section 3 MASS0; reset none loaded -/
  mass0 : Nat := 100
  /-- kg; 07 section 3 PAYLOAD; reset none loaded -/
  payload : Nat := 0
  /-- µm/s; 07 section 3 VCAR; reset none loaded -/
  vcar : Int := 100000
  /-- µm; 07 section 3 HEIGHT; reset none loaded -/
  height : Int := 1000000
  /-- µm; 07 section 3 TRACKLEN; reset none loaded -/
  track : Int := 400000
  /-- µm; 07 section 3 TOFF; reset none loaded -/
  toff : Int := 0
  /-- bank N; 07 R207; reset none loaded -/
  bankN : CarBank := {}
  /-- bank H; 07 R207; reset none loaded -/
  bankH : CarBank := {}
  deriving DecidableEq, Repr

/-- Section 0 of a shaft configuration (07). -/
structure ShaftGeo where
  /-- µm; 07 Z0; reset none loaded -/
  z0 : Int := 0
  /-- µm; 07 SEGLEN; reset none loaded -/
  segLen : Int := 200000
  /-- 2–512; 07 NSEG; reset none loaded -/
  nSeg : Nat := 2
  /-- 2–255; 07 NLAND; reset none loaded -/
  nLand : Nat := 2
  /-- 1–8; 07 NCAR; reset none loaded -/
  nCar : Nat := 1
  /-- µm per turn; 07 POLEPITCH; reset none loaded -/
  pole : Int := 10000
  /-- µm; 07 RAMP; reset none loaded -/
  ramp : Int := 1000
  /-- µm; 07 GAPMIN; reset none loaded -/
  gapMin : Int := 800000
  /-- µm; 07 ZMIN; reset none loaded -/
  zMin : Int := 0
  /-- µm; 07 ZMAX; reset none loaded -/
  zMax : Int := 0
  /-- µm; 07 DZONE; reset none loaded -/
  dZone : Int := 10000
  /-- 0.01 N; 07 FSEG; reset none loaded -/
  fSeg : Int := 100000
  /-- µm/s²; 07 ASTOP; reset none loaded -/
  aStop : Int := 500000
  /-- mm/s³; 07 JSTOP; reset none loaded -/
  jStop : Int := 100
  /-- J; 07 RESMIN; reset none loaded -/
  resMin : Int := 0
  /-- µm; 07 PTOL; reset none loaded -/
  pTol : Int := 1000
  /-- µm; 07 HWIN; reset none loaded -/
  hWin : Int := 1000
  /-- ms; 07 BRKT; reset none loaded -/
  brkt : Nat := 50
  /-- 0–10; 07 VSH; reset none loaded -/
  vsh : Nat := 0
  /-- °C; 07 THOT; reset none loaded -/
  tHot : Int := 0
  /-- °C; 07 TMAX; reset none loaded -/
  tMax : Int := 1
  /-- windows; 07 RAILMISS; reset none loaded -/
  railMiss : Nat := 16
  deriving DecidableEq, Repr

/-- A segment of a shaft configuration (07 section 2): AXIS as written (bit 15 remote) and ANGOFF. -/
structure SegCfg where
  /-- 16 bits; 07 AXIS, 14 R412; reset none loaded -/
  axis : Nat := 0
  /-- 32 bits; 07 ANGOFF; reset none loaded -/
  ang : Nat := 0
  deriving DecidableEq, Repr

/-- A shaft configuration (07 R194 to R198). -/
structure ShaftCfg where
  /-- section 0; 07; reset none loaded -/
  geo : ShaftGeo := {}
  /-- landing positions, µm; 07 section 1; reset none loaded -/
  lands : Tab Int := []
  /-- segments; 07 section 2; reset none loaded -/
  segs : Tab SegCfg := []
  /-- cars by ORDER; 07 section 3; reset none loaded -/
  cars : Tab CarCfg := []
  deriving DecidableEq, Repr

/-- A pending copy (07 R227). -/
structure ShaftPend where
  /-- 1 bit: section 0 written; 07 R227; reset empty -/
  geo : Bool := false
  /-- what was written; 07 R227; reset empty -/
  cfg : ShaftCfg := {}
  /-- gains-only car sections: car, banks N and H; 07 R227; reset empty -/
  gains : Tab (CarBank × CarBank) := []
  deriving DecidableEq, Repr

/-- Journey limits of a shaft (06 R173). -/
structure Limits where
  /-- 0, 1; 06 R173 BLEND; reset none set -/
  blend : Nat := 0
  /-- µm/s; 06 R173 VMAX; reset none set -/
  v : Int := 100000
  /-- µm/s²; 06 R173 AMAX; reset none set -/
  a : Int := 100000
  /-- mm/s³; 06 R173 JMAX; reset none set -/
  j : Int := 100
  /-- µm/s; 06 R173 VINSP; reset none set -/
  vInsp : Int := 1000
  /-- µm/s; 06 R173 VRES; reset none set -/
  vRes : Int := 100000
  deriving DecidableEq, Repr

/-- The energy model of a shaft (06 R190). -/
structure EnergyCfg where
  /-- 0–2; 06 R190 KIND; reset none set -/
  kind : Nat := 2
  /-- 0–15; 06 R190 VCH; reset none set -/
  vch : Nat := 0
  /-- 0–15; 06 R190 ICH; reset none set -/
  ich : Nat := 1
  /-- Q16.16 mV; 06 R190 VGAIN; reset none set -/
  vgain : Nat := 1
  /-- Q16.16 mA; 06 R190 IGAIN; reset none set -/
  igain : Int := 1
  /-- J; 06 R190 RESERVE; reset none set -/
  reserve : Int := 0
  /-- mF; 06 R190 CAP; reset none set -/
  cap : Nat := 1
  /-- mV; 06 R190 VMIN; reset none set -/
  vmin : Nat := 0
  /-- ‰; 06 R190 ETAM; reset none set -/
  etaM : Nat := 1000
  /-- ‰; 06 R190 ETAG; reset none set -/
  etaG : Nat := 0
  /-- %; 06 R190 RGMARGIN; reset none set -/
  rgMargin : Nat := 0
  /-- ms; 06 R190 BMSAGE; reset none set -/
  bmsAge : Nat := 100
  /-- W per car; 06 R190 PAUX; reset none set -/
  paux : Nat := 0
  /-- 0.01 N; 06 R190 FRIC; reset none set -/
  fric : Nat := 0
  /-- J; 06 R190 KMIN; reset none set -/
  kmin : Int := 0
  /-- µm/s²; 06 R190 GRAV; reset none set -/
  grav : Int := 9810000
  deriving DecidableEq, Repr

/-- What Crest keeps of a shaft's store (06 R175, R176, R187, R191). -/
structure EnergySt where
  /-- mV; 06 R175 Vdc; reset 0 -/
  vdc : Int := 0
  /-- mA; 06 R175 Idc; reset 0 -/
  idc : Int := 0
  /-- 10⁻¹⁵ J: energy drawn; 06 R175; reset 0 -/
  drawn : Int := 0
  /-- J: usable energy of the latest BMS report; 06 R175 EBMS; reset 0 -/
  ebms : Int := 0
  /-- cycle of that report; 06 R175; reset none received -/
  bmsCycle : Option Nat := none
  /-- 10⁻¹⁵ J: energy drawn at that report; 06 R175; reset 0 -/
  bmsDrawn : Int := 0
  /-- 1 bit; 06 R176 BMS stale; reset 1 (none received) -/
  bmsStale : Bool := true
  /-- a decoded report waiting for the release phase: usable energy J, cycle of receipt, energy drawn at it; 06 section "The
  energy model"; reset none -/
  bmsPend : Option (Int × Nat × Int) := none
  /-- 1 bit: a fresh report has landed and ends the stale condition at the next cycle; 06 R176; reset 0 -/
  bmsFresh : Bool := false
  /-- energy drawn (10⁻¹⁵ J) after the latest instants, newest first, at most 512 cycles; 06 R175; reset none -/
  hist : List (Nat × Int) := []
  /-- 1 bit; 06 R176 input failed; reset 0 -/
  failed : Bool := false
  /-- 10⁻¹⁵ J: predicted draw since an input failed; 06 R176; reset 0 -/
  failDrawn : Int := 0
  /-- 32 bits; 06 R191 REFUSED; reset 0 -/
  refused : Nat := 0
  /-- 32 bits; 06 R191 REDUCED; reset 0 -/
  reduced : Nat := 0
  /-- 16 bits; 06 R191 REPLANS; reset 0 -/
  replans : Nat := 0
  /-- 16 bits; 06 R191 RESCUES; reset 0 -/
  rescues : Nat := 0
  /-- 1 bit: rescue sequence; 06 R186; reset 0 -/
  rescue : Bool := false
  /-- snapshot of energy.status; 06 R191; reset none taken -/
  snap : List (Nat × Nat × Int) := []
  deriving DecidableEq, Repr

/-- A segment under allocation (07 R205, R208 to R211). -/
structure SegSt where
  /-- 0–4; 07 segment.status ROLE; reset 0 -/
  role : Nat := 0
  /-- 0–63, FFh none; 07 segment.status CAR; reset FFh -/
  car : Nat := 0xFF
  /-- units of 2⁻⁴⁰; 07 R208 w; reset 0 -/
  weight : Int := 0
  /-- 0.01 N; 07 R208 c; reset 0 -/
  cap : Int := 0
  /-- 0.01 N; 07 R211 share as written; reset 0 -/
  share : Int := 0
  /-- 32 bits; 07 R204 angle as written; reset 0 -/
  angle : Nat := 0
  /-- µm; 07 R211; reset 0 -/
  pos : Int := 0
  /-- µm/s; 07 R211; reset 0 -/
  vel : Int := 0
  /-- consecutive windows with the angle beyond 1/32 turn; 07 R205; reset 0 -/
  angBad : Nat := 0
  /-- consecutive windows below 1/64 turn; 07 R205; reset 0 -/
  angGood : Nat := 0
  /-- 1 bit: cap reduced to a quarter; 07 R205; reset 0 -/
  angLim : Bool := false
  deriving DecidableEq, Repr

/-- A shaft (06, 07). -/
structure ShaftSt where
  /-- configuration in force; 07 R194; reset none committed -/
  cfg : Option ShaftCfg := none
  /-- pending copy; 07 R227; reset empty -/
  pend : ShaftPend := {}
  /-- commits waiting for the release phase: request, configuration, gains only; 07 R227; reset none -/
  commits : List (Request × ShaftCfg × Bool) := []
  /-- journey limits; 06 R174; reset none set -/
  limits : Option Limits := none
  /-- profile.limits.set waiting for the release phase; 06 R173; reset none -/
  limPend : List (Request × Limits) := []
  /-- energy model; 06 R190; reset none set -/
  energy : Option EnergyCfg := none
  /-- energy.reserve.set waiting for the release phase; 06 R190; reset none -/
  enPend : List (Request × EnergyCfg) := []
  /-- store; 06 R175; reset 0 -/
  en : EnergySt := {}
  /-- segments by index; 07 R208; reset none under a car -/
  segs : Tab SegSt := []
  /-- 1 bit: in inspection at the latest release phase; 07 R226; reset 0 -/
  insp : Bool := false
  /-- landings reported as not proven locked with no car in their door zone; 08 R251; reset none -/
  unlocked : List Nat := []
  deriving DecidableEq, Repr

/-- What a journey is (06 R192 STATE, 07 R222, R226). -/
inductive JourneyKind where
  | normal | reduced | minEnergy | rescue | back | inspection
  deriving DecidableEq, Repr

/-- A journey in progress or being started (06 R168 to R185). -/
structure Journey where
  /-- kind; 06 R192; reset none -/
  kind : JourneyKind := .normal
  /-- the profile; 06 R168; reset none -/
  prof : Profile := {}
  /-- 0–254; 06 R192 LANDING; reset none -/
  landing : Nat := 0
  /-- limits with which it was planned; 06 R174; reset none -/
  lim : Limits := {}
  /-- mJ; 06 R180 Epred; reset none -/
  ePred : Int := 0
  /-- mJ drawn by prediction before the profile in force; 06 R185; reset none -/
  dBase : Int := 0
  /-- 10⁻¹⁵ J: the shaft's energy drawn at the first window; 06 R178; reset none -/
  drawn0 : Int := 0
  /-- 1 bit: replanned; 06 R192 FLAGS[3]; reset none -/
  replanned : Bool := false
  /-- first window of the journey; 06 R192 START; reset none -/
  first : Nat := 0
  /-- numerator of the projection factor; 06 R184 k; reset none -/
  kNum : Int := 1
  /-- denominator of the projection factor; 06 R184 k; reset none -/
  kDen : Int := 1
  /-- 1 bit: started with a capped peak velocity; 06 R181; reset none -/
  reduced : Bool := false
  /-- 1 bit: its target is Crest's own choice, not a stop of the list; 06 R185 R188; reset none -/
  chosen : Bool := false
  /-- head of the stop list when the target was last set or the head last answered; 06 R188; reset none -/
  seen : Option Nat := none
  deriving DecidableEq, Repr

/-- An inspection move (07 R226). -/
structure InspMove where
  /-- 1 bit: down; 07 DIR; reset none -/
  down : Bool := false
  /-- ms; 07 HOLDMS; reset none -/
  holdMs : Nat := 50
  /-- µm: position at the first command; 07 DIST; reset none -/
  from_ : Int := 0
  /-- µm; 07 DIST; reset none -/
  dist : Int := 0
  /-- 1 bit: decelerating to rest; 07 R226; reset none -/
  ending : Bool := false
  /-- the first command, while the start sequence runs; 07 R228; reset none -/
  req : Option Request := none
  deriving DecidableEq, Repr

/-- A car (06, 07). -/
structure CarSt where
  /-- 4 bits; 07 table "Car states"; reset OUT_OF_SERVICE -/
  state : CarState := .outOfService
  /-- 0–7; 07 car.status CAUSE; reset 0 -/
  cause : Nat := 0
  /-- 1 bit: brake release requested; 07 R218; reset 0 -/
  brakeReq : Bool := false
  /-- 1 bit: predicted position taken from the rail since the latest commit or car trip; 07 R201; reset 0 -/
  placed : Bool := false
  /-- 1 bit: position known since the latest commit, so that p_last is; 07 R201; reset 0 -/
  known : Bool := false
  /-- 1 bit: restored at a start and STOPPED until its first good rail reading; 15 R431; reset 0 -/
  restored : Bool := false
  /-- µm; 07 R201 p; reset 0 -/
  p : Int := 0
  /-- µm/s; 07 R201 v; reset 0 -/
  v : Int := 0
  /-- µm; 07 R201 p_pred; reset 0 -/
  pPred : Int := 0
  /-- 0–2; 07 SRC; reset 0 -/
  src : Nat := 0
  /-- µm; 07 RAIL; reset 0 -/
  rail : Int := 0
  /-- 16 bits: RSEQ of the previous window; 07 R200; reset none read -/
  rseq : Option Nat := none
  /-- µm: p − rail; 07 DEV; reset 0 -/
  dev : Int := 0
  /-- windows; 07 R202 PTOL exceeded in a row; reset 0 -/
  plaus : Nat := 0
  /-- windows in a row with the rail not good; 07 R202; reset 0 -/
  railBad : Nat := 0
  /-- windows in a row with the rail good; 07 R202; reset 0 -/
  railGood : Nat := 0
  /-- 1 bit: rail reported not good, and no new start until it is good again; 07 R202; reset 0 -/
  railHold : Bool := false
  /-- windows in a row with src = rail; 07 R202; reset 0 -/
  railRun : Nat := 0
  /-- windows in a row with src = none; 07 R202; reset 0 -/
  noneRun : Nat := 0
  /-- count of Hall readings discarded outside HWIN, saturating at 32 bits; 07 R201; reset 0 -/
  hallDrop : Nat := 0
  /-- 0.01 N; 07 R206 st.i; reset 0 -/
  i : Int := 0
  /-- 0.01 N; 07 R206 f; reset 0 -/
  f : Int := 0
  /-- 0.01 N signed: force not allocated; 07 R209; reset 0 -/
  short : Int := 0
  /-- kg; 07 R206 m, 06 R177; reset 0 -/
  mass : Int := 0
  /-- 0.01 N: sum of F in weighing; 06 R177; reset 0 -/
  wSum : Int := 0
  /-- 0–64: windows weighed; 06 R177; reset 0 -/
  wCount : Nat := 0
  /-- 0.01 N; 07 R214 Favail; reset 0 -/
  fAvail : Int := 0
  /-- 0.01 N; 07 R208 favail_now; reset 0 -/
  fNow : Int := 0
  /-- µm: reference; 06 R168 p; reset 0 -/
  refP : Int := 0
  /-- µm/s; 06 R168 v; reset 0 -/
  refV : Int := 0
  /-- µm/s²; 06 R168 a; reset 0 -/
  refA : Int := 0
  /-- the journey; 06; reset none -/
  journey : Option Journey := none
  /-- the stop planner's profile; 07 R219; reset none -/
  stopProf : Option Profile := none
  /-- cycle in which PREPARING began; 07 R218; reset 0 -/
  prepCycle : Nat := 0
  /-- state to which an abandoned start or an ended inspection move returns; 07 R218 R222; reset IDLE -/
  back : CarState := .idle
  /-- kind and landing of the start in progress; 07 R218; reset none -/
  starting : Option (JourneyKind × Nat) := none
  /-- cycle from which f ramps to 0, and f then; 07 R218 R220; reset none -/
  ramp : Option (Nat × Int) := none
  /-- 1 bit: the profile has ended and the car is held; 07 R220; reset 0 -/
  holding : Bool := false
  /-- 1 bit: the brake has been requested and engaged feedback is awaited; 07 R220 R221; reset 0 -/
  braking : Bool := false
  /-- 1 bit: segment axes are set DISABLED at the next release phase; 07 R221 R229; reset 0 -/
  axesOff : Bool := false
  /-- 1 bit: to be taken out of service once at rest; 07 R229; reset 0 -/
  takeOut : Bool := false
  /-- cause of a controlled stop asked for, and its cycle; 07 R219 R229; reset none -/
  stopReq : Option (Nat × Nat) := none
  /-- 1 bit: retry waits for 1 s; 06 R182; reset 0 -/
  retryWait : Bool := false
  /-- 1 bit: last start refused; 06 R192 FLAGS[1]; reset 0 -/
  lastRefused : Bool := false
  /-- µm: claim; 07 R223 lo; reset 0 -/
  lo : Int := 0
  /-- µm: claim; 07 R223 hi; reset 0 -/
  hi : Int := 0
  /-- µm; 07 HEADROOM; reset 0 -/
  headroom : Int := 0
  /-- 1 bit; 07 R224 separation-limited; reset 0 -/
  sepLim : Bool := false
  /-- 1 bit; 04 R143 missed-deadline flag; reset 0 -/
  missed : Bool := false
  /-- consecutive abandoned programs; 04 R144; reset 0 -/
  missCnt : Nat := 0
  /-- 1 bit: program abandoned in this window; 04 R143; reset 0 -/
  cut : Bool := false
  /-- 1 bit: stop mode; 04 R144; reset 0 -/
  stopMode : Bool := false
  /-- segments whose axes the car holds under it; 07 R211; reset none -/
  under : List Nat := []
  /-- the inspection move; 07 R226; reset none -/
  insp : Option InspMove := none
  /-- target landing handed over by Traverse; 09 R270; reset none -/
  target : Option Nat := none
  /-- 1 bit: a stop is being served at the landing; 09 R270; reset 0 -/
  serving : Bool := false
  /-- causes recorded during the controlled stop in progress; 07 R219; reset none -/
  seconds : List Nat := []
  /-- mJ: entry of the shaft's ledger; 06 R179; reset 0 -/
  ledger : Int := 0
  /-- 1 bit: every proof of its claim held at the latest evaluation of a door of its shaft; 08 R251; reset 0 -/
  proven : Bool := false
  /-- snapshot of car.status; 07 section "car.status"; reset none taken -/
  snap : List (Nat × Nat × Int) := []
  deriving DecidableEq, Repr

/-- Shafts, cars and energy (06, 07). -/
structure MotionSt where
  /-- shafts 0–7; 07; reset none -/
  shafts : Tab ShaftSt := []
  /-- cars by number; 07; reset none -/
  cars : Tab CarSt := []
  deriving DecidableEq, Repr

/-- The call states (09 R259). -/
inductive CallState where
  | unassigned | assigned | onBoard | completed | cancelled | abandoned
  deriving DecidableEq, Repr

/-- A call (09 R259, R260). -/
structure Call where
  /-- 12 bits; 09 R260; reset none -/
  part : Nat := 2
  /-- 0–3; 09 KIND; reset none -/
  kind : Nat := 0
  /-- 8 bits; 02 R69 SHAFTS; reset none -/
  shafts : BitVec 8 := 0
  /-- 0–254; 09 FROM; reset none -/
  src : Nat := 0
  /-- 0–254 or FFh; 09 TO; reset none -/
  dst : Nat := 0xFF
  /-- 0–63: car of a car call; 02 R69; reset none -/
  only : Nat := 0
  /-- 1–16; 09 PASSENGERS; reset none -/
  pass : Nat := 1
  /-- 1 bit: accessible service; 02 R69; reset none -/
  access : Bool := false
  /-- 32 bits; 09 CLIENT; reset none -/
  client : Nat := 0
  /-- 0–5; 09 R259; reset none -/
  state : CallState := .unassigned
  /-- 0–63 or FFh; 09 CAR; reset none -/
  car : Nat := 0xFF
  /-- 8 bits; 09 REASSIGNS; reset none -/
  reassigns : Nat := 0
  /-- 0–13; 09 REASON; reset none -/
  reason : Nat := 0
  /-- ms; 09 WAIT; reset none -/
  wait : Nat := 0xFFFFFFFF
  /-- ns of submission; 09 AGE; reset none -/
  at_ : Nat := 0
  /-- ns of the pick-up; 09 R278; reset none -/
  boardAt : Nat := 0
  /-- 1 bit: its car is at its pick-up, event 04h posted; 09 R278; reset none -/
  met : Bool := false
  deriving DecidableEq, Repr

/-- A stop of a car's list (09 R270). -/
structure Stop where
  /-- 0–254; 09 car.stoplist LANDING; reset none -/
  landing : Nat := 0
  /-- 1 bit; 09 R271 park; reset none -/
  park : Bool := false
  /-- 0 none, 1 up, 2 down; 09 DIR; reset none -/
  dir : Nat := 0
  /-- calls picked up; 09; reset none -/
  picks : List Nat := []
  /-- calls dropped; 09; reset none -/
  drops : List Nat := []
  /-- µs of calendar time: estimated arrival; 09 ETA; reset none -/
  eta : Nat := 0
  /-- µs; 09 SEPWAIT; reset none -/
  sepWait : Nat := 0
  deriving DecidableEq, Repr

/-- What the motion side reports to Traverse (09 R269). -/
inductive Update where
  | arrived (car landing : Nat)
  | departed (car : Nat)
  | doorOpen (car landing : Nat)
  | returned (car reason : Nat)
  | noInsert (car landing : Nat)
  | committed (shaft : Nat)
  | inspection (shaft : Nat)
  | beyond (car landing : Nat) (down : Bool)
  | doorHeld (car : Nat)
  deriving DecidableEq, Repr

/-- A candidate of an evaluation (09 R266): a feasible car, its figures and the stop lists it would give. -/
structure Cand where
  /-- 0–63; 09 R266; reset none published -/
  car : Nat := 0
  /-- µs; 09 R266 WAIT; reset none published -/
  wait : Nat := 0
  /-- µs; 09 R266 RIDE; reset none published -/
  ride : Nat := 0
  /-- µs; 09 R266 DELAY; reset none published -/
  delay : Nat := 0
  /-- µs; 09 R266 MAXDELAY; reset none published -/
  maxDelay : Nat := 0
  /-- passengers; 09 R266 LOAD; reset none published -/
  load : Nat := 0
  /-- 0–2; 09 R266 STOPS; reset none published -/
  stops : Nat := 0
  /-- park moves; 09 R266 PARKS; reset none published -/
  parks : Nat := 0
  /-- µs; 09 R266 SEPWAIT; reset none published -/
  sepWait : Nat := 0
  /-- stop lists by car, park stops included; 09 R266 R271; reset none published -/
  lists : List (Nat × List Stop) := []
  deriving DecidableEq, Repr

/-- Dispatch (09). -/
structure DispSt where
  /-- calls by identifier; 09 R259; reset none -/
  calls : Tab Call := []
  /-- 32 bits: identifier of the next call; 02 R69 CALL; reset 1 (DESIGN CHOICE 18) -/
  next : Nat := 1
  /-- stop lists by car, current target first; 09 R270; reset empty -/
  lists : Tab (List Stop) := []
  /-- what the motion side reported and Traverse has not applied, oldest first; 09 R269; reset none -/
  updates : List Update := []
  /-- the call being served, whose policy choice is due: request, call, candidates; 09 R268; reset none -/
  serving : Option (Request × Nat × List Cand) := none
  /-- submissions handed over while a call is served, oldest first, with the policy's choice; 09 R267; reset none -/
  waiting : List (Request × Option Nat) := []
  /-- landing at which a car last arrived; 09 R274; reset none -/
  lastLand : Tab Nat := []
  /-- µs: its latest arrival; 09 R265; reset none -/
  arrAt : Tab Nat := []
  /-- cycle of the latest update; 09 R275 CYCLE; reset 0 -/
  cycle : Nat := 0
  /-- µs of calendar time of the latest update; 09 car.stoplist ETA; reset 0 -/
  upAt : Nat := 0
  /-- cars available at the latest update; 09 R261 R263; reset none -/
  avail : List Nat := []
  /-- UNASSIGNED calls that became due while a call was served; 09 R261 R267; reset none -/
  due : List Nat := []
  /-- 1 bit: an update was put off while a call was served; 09 R269; reset 0 -/
  owed : Bool := false
  /-- cancels waiting for the next update: request, call; 09 R276; reset none -/
  cancels : List (Request × Nat) := []
  /-- times of the latest completed calls, newest first, at most 16; 02 R69; reset none -/
  doneAt : List Nat := []
  deriving DecidableEq, Repr

end Sys2Proof.Machine
end

