-- ==== Sys2Proof/Machine/StateDoor.lean ====
section
/-! DEFINITION. State of doors (08). Each field's comment gives its width, file and rule, and its reset value. -/
namespace Sys2Proof.Machine

/-- The door states (08 table "Door states"). -/
inductive DoorState where
  | outOfService | notLearned | closed | opening | opened | closing | reopening | nudging | held | learning | fault
  deriving DecidableEq, Repr

/-- An edge channel's place (08 section 2). -/
structure EdgeCfg where
  /-- 0–3; 08 RING; reset none -/
  ring : Nat := 0
  /-- 1–128; 08 NODE; reset none -/
  node : Nat := 1
  /-- 0–2: block; 08 SEL; reset none -/
  block : Nat := 0
  /-- 0–2: channel; 08 SEL; reset none -/
  chan : Nat := 0
  deriving DecidableEq, Repr

/-- A door definition (08 door.policy.set). -/
structure DoorDef where
  /-- 1–3; 08 KIND; reset none -/
  kind : Nat := 1
  /-- 0–7 or FFh; 08 SHAFT; reset none -/
  shaft : Nat := 0xFF
  /-- 0–254 or FFh; 08 LANDING; reset none -/
  landing : Nat := 0xFF
  /-- 0–63 or FFh; 08 CAR; reset none -/
  car : Nat := 0xFF
  /-- 08 AXIS0; reset none -/
  axis0 : Nat := 0
  /-- axis or FFFFh; 08 AXIS1; reset none -/
  axis1 : Nat := 0xFFFF
  /-- 0–63 or FFh; 08 GROUP; reset none -/
  group : Nat := 0xFF
  /-- 0–4; 08 NEDGE; reset none -/
  nEdge : Nat := 0
  /-- kg; 08 MASS; reset none -/
  mass : Nat := 1
  /-- µm; 08 STROKE; reset none -/
  stroke : Int := 100000
  /-- µm/s; 08 VOPEN; default 400,000 -/
  vOpen : Int := 400000
  /-- µm/s; 08 VCLOSE; default 300,000 -/
  vClose : Int := 300000
  /-- µm/s²; 08 AOPEN; default 800,000 -/
  aOpen : Int := 800000
  /-- µm/s²; 08 ACLOSE; default 600,000 -/
  aClose : Int := 600000
  /-- µm/s²; 08 AREV; default 2,000,000 -/
  aRev : Int := 2000000
  /-- mm/s³; 08 JDOOR; default 8,000 -/
  j : Int := 8000
  /-- 0, 1; 08 BLEND; default 0 -/
  blend : Nat := 0
  /-- 1–16; 08 OBN; default 2 -/
  obn : Nat := 2
  /-- ms; 08 DWELL; default 3,000 -/
  dwell : Nat := 3000
  /-- 0.01 N; 08 FPC; default 15,000 -/
  fpc : Int := 15000
  /-- mJ; 08 EMAX; default 10,000 -/
  eMax : Nat := 10000
  /-- 0.01 N; 08 FDEV; default 6,000 -/
  fDev : Int := 6000
  /-- µm; 08 PERRTOL; default 20,000 -/
  perrTol : Int := 20000
  /-- µm; 08 COUPTOL; default 15,000 -/
  coupTol : Int := 15000
  /-- µm/s; 08 VLEARN; default 100,000 -/
  vLearn : Int := 100000
  /-- µm/s²; 08 ALEARN; default 300,000 -/
  aLearn : Int := 300000
  /-- 0.01 N; 08 HOLDF; default 3,000 -/
  holdF : Int := 3000
  /-- counts; 08 THR; default 400 -/
  thr : Int := 400
  /-- counts; 08 REFTOL; default 300 -/
  refTol : Int := 300
  /-- counts; 08 NOISE; default 40 -/
  noise : Int := 40
  /-- 4–16; 08 DSH; default 10 -/
  dsh : Nat := 10
  /-- edge channels; 08 section 2; reset none -/
  edges : List EdgeCfg := []
  /-- 1 bit; 08 FLAGS nudging enabled; reset none -/
  nudge : Bool := false
  /-- 0–47 or FFh; 08 REOPEN0; reset none -/
  reopen0 : Nat := 0xFF
  /-- 0–47 or FFh; 08 REOPEN1; reset none -/
  reopen1 : Nat := 0xFF
  /-- 0–23 or FFh; 08 NUDGEDO; reset none -/
  nudgeDo : Nat := 0xFF
  /-- 0.01 N; 08 FNUDGE; default 10,000 -/
  fNudge : Int := 10000
  /-- mJ; 08 ENUDGE; default 4,000 -/
  eNudge : Nat := 4000
  /-- µm/s; 08 VNUDGE; reset none -/
  vNudge : Int := 10000
  /-- 00h–3Fh or FFh; 08 ENABLEIN; reset none -/
  enableIn : Nat := 0xFF
  /-- 0–23 or FFh; 08 CLOSEDDO; reset none -/
  closedDo : Nat := 0xFF
  deriving DecidableEq, Repr

/-- An edge channel (08 R246). -/
structure EdgeSt where
  /-- 8 bits; 08 R246 ch.seq; reset none read -/
  seq : Option Nat := none
  /-- 0–255; 08 R246 ch.miss; reset 0 -/
  miss : Nat := 0
  /-- 1 bit; 08 R246 ch.armed; reset 0 -/
  armed : Bool := false
  /-- 1 bit; 08 R246 ch.fault; reset 0 -/
  fault : Bool := false
  /-- 1 bit; 08 R246 ch.seeded; reset 0 -/
  seeded : Bool := false
  /-- counts; 08 R246 ch.base; reset 0 -/
  base : Int := 0
  /-- counts; 08 R246 ch.ref; reset the stored reference -/
  ref : Int := 0
  /-- executions; 08 R246 ch.steady; reset 0 -/
  steady : Nat := 0
  /-- 1 bit; 08 R246 ch.det; reset 0 -/
  det : Bool := false
  /-- counts: last count; 08 edge.status COUNT; reset 0 -/
  count : Nat := 0
  /-- 8 bits; 08 edge.status re-seeds; reset 0 -/
  reseeds : Nat := 0
  /-- counts: reference as stored in NOR; 08 R246; reset none stored -/
  stored : Option Int := none
  deriving DecidableEq, Repr

/-- Learned data of an axis (08 R240, R243, R244): 256 bins per direction. -/
structure Learned where
  /-- 0.01 N by bin, opening; 08 R240; reset none learned -/
  open_ : Tab Int := []
  /-- 0.01 N by bin, closing; 08 R240; reset none learned -/
  close : Tab Int := []
  /-- as recorded by door.learn, opening; 08 R243; reset none learned -/
  open0 : Tab Int := []
  /-- as recorded by door.learn, closing; 08 R243; reset none learned -/
  close0 : Tab Int := []
  /-- kg; 08 R244 MASSL; reset none learned -/
  mass : Nat := 0
  deriving DecidableEq, Repr

/-- What the door engine keeps for an axis of a door (08 R240, R243, R244). -/
structure DoorAxis where
  /-- consecutive executions in which T1 held; 08 R240; reset 0 -/
  t1 : Nat := 0
  /-- consecutive executions in which T2 held; 08 R240; reset 0 -/
  t2 : Nat := 0
  /-- consecutive executions in which T3 held; 08 R240; reset 0 -/
  t3 : Nat := 0
  /-- consecutive executions in which T7 held; 08 R240; reset 0 -/
  t7 : Nat := 0
  /-- µm: position of the previous execution; 08 R240 T7; reset none -/
  last : Option Int := none
  /-- stale executions since that position; 08 R240 T7; reset 0 -/
  gap : Nat := 0
  /-- force sums and counts of the move in progress, by bin; 08 R243 R244; reset none -/
  sums : Tab (Int × Nat) := []
  /-- force sums and counts of learning, opening; 08 R244; reset none -/
  lOpen : Tab (Int × Nat) := []
  /-- force sums and counts of learning, closing; 08 R244; reset none -/
  lClose : Tab (Int × Nat) := []
  /-- kg sums and counts of the moving mass found while learning; 08 R244; reset none -/
  lMass : Int × Nat := (0, 0)
  /-- 0.01 N: force at the start of the acceleration blend in progress; 08 R244; reset 0 -/
  f0 : Int := 0
  /-- learned data; 08 R244; reset none -/
  learned : Option Learned := none
  deriving DecidableEq, Repr

/-- What the door image holds of an axis of a door (08 R232, R240). -/
structure DoorAxImg where
  /-- µm; 08 R231 FB0; reset none taken -/
  p : Int := 0
  /-- 0.01 N; 08 R231 FB1; reset none taken -/
  f : Int := 0
  /-- µm; 08 R240 REF0 of the same execution; reset none taken -/
  ref : Int := 0
  /-- 1 bit: the axis was stale; 08 R240; reset none taken -/
  stale : Bool := true
  /-- 1 bit: ASTAT INREF; 04 R135; reset none taken -/
  inref : Bool := false
  deriving DecidableEq, Repr

/-- The door image of one window (08 R232). -/
structure DoorImg where
  /-- cycle of the window; 08 R232; reset none taken -/
  cycle : Nat := 0
  /-- axes AXIS0 and AXIS1; 08 R232; reset none taken -/
  ax : List DoorAxImg := []
  /-- blocks of the edge channels, and whether their node was stale; 08 R245 R246; reset none taken -/
  blocks : List (BitVec 64 × Bool) := []
  deriving DecidableEq, Repr

/-- A door (08). -/
structure DoorSt where
  /-- definition in force; 08 R231; reset none committed -/
  def_ : Option DoorDef := none
  /-- pending copy; 08 R254; reset defaults -/
  pend : DoorDef := {}
  /-- sections written, bit n for section n; 08 R254; reset 0 -/
  written : BitVec 4 := 0
  /-- commits waiting for the release phase; 08 R254; reset none -/
  commits : List (Request × DoorDef) := []
  /-- 4 bits; 08 table "Door states"; reset OUT_OF_SERVICE -/
  state : DoorState := .outOfService
  /-- 1 bit: in service; 08 R238 R256; reset 0 -/
  service : Bool := false
  /-- images not yet evaluated, oldest first; 08 R232 R233; reset none taken -/
  imgs : List DoorImg := []
  /-- image of the latest evaluation; 08 R232; reset none taken -/
  img : DoorImg := {}
  /-- start cycle of the latest move record; 08 R235 NS; reset 0 -/
  ns : Nat := 0
  /-- 1 bit: the latest move is a stop short of its end; 08 R241; reset 0 -/
  stopping : Bool := false
  /-- 1 bit: a test has held in the move in progress; 08 R243; reset 0 -/
  testHeld : Bool := false
  /-- 1 bit: an axis has tripped, the other is to be disabled at rest; 08 R241; reset 0 -/
  tripped : Bool := false
  /-- 1 bit: its car has left the door zone with the door open; 08 R251; reset 0 -/
  left : Bool := false
  /-- 1 bit: the pending close was asked for by door.close; 08 R251 R256; reset 0 -/
  cmdClose : Bool := false
  /-- axis AXIS0; 08 R240; reset 0 -/
  x0 : DoorAxis := {}
  /-- axis AXIS1; 08 R240; reset 0 -/
  x1 : DoorAxis := {}
  /-- edge channels; 08 R246; reset unseeded -/
  edges : List EdgeSt := []
  /-- executions for which every channel has been valid; 08 R238; reset 0 -/
  clear : Nat := 0
  /-- 1 bit; 08 FLAGS close pending; reset 0 -/
  closePend : Bool := false
  /-- 1 bit; 08 FLAGS close blocked; reset 0 -/
  blocked : Bool := false
  /-- ns; 08 R248 blocked time; reset 0 -/
  blockNs : Nat := 0
  /-- 1 bit: reported held to Traverse; 08 R248; reset 0 -/
  heldRep : Bool := false
  /-- 1 bit; 08 FLAGS hold open; reset 0 -/
  holdOpen : Bool := false
  /-- 1 bit; 08 FLAGS rescue hold; reset 0 -/
  rescue : Bool := false
  /-- 1 bit; 08 FLAGS nudging armed: NUDGEDO is set and 3 s run; reset 0 -/
  nudgeArm : Bool := false
  /-- 1 bit: NUDGEDO is set by this door; 08 R249; reset 0 -/
  nudgeOut : Bool := false
  /-- 1 bit; 08 FLAGS relearn advised; reset 0 -/
  relearn : Bool := false
  /-- 1 bit; 08 FLAGS reference close due; reset 1 (power-up, 08 R239) -/
  refClose : Bool := true
  /-- 0–3; 08 FAILOPEN; reset 0 -/
  failOpen : Nat := 0
  /-- 1 bit: an obstructed open is to be retried after 2 s; 08 R241; reset 0 -/
  retry : Bool := false
  /-- 0–7; 08 LASTTEST; reset 0 -/
  lastTest : Nat := 0
  /-- 32 bits; 08 OBSTR; reset 0 -/
  obstr : Nat := 0
  /-- 32 bits; 08 LATE; reset 0 -/
  late : Nat := 0
  /-- consecutive late evaluations; 08 R233; reset 0 -/
  lateRun : Nat := 0
  /-- consecutive evaluations in time; 08 R233; reset 0 -/
  okRun : Nat := 0
  /-- 1 bit: held for late evaluations; 08 R233; reset 0 -/
  lateHold : Bool := false
  /-- 1 bit: this evaluation is late; 08 R233; reset 0 -/
  lateNow : Bool := false
  /-- 1 bit: last move opened; 08 FLEARN; reset 0 -/
  opening : Bool := false
  /-- learning moves left; 08 R244; reset 0 -/
  learnLeft : Nat := 0
  /-- 1–8; 08 R244 CYCLES; reset 0 -/
  learnCycles : Nat := 0
  /-- executions at OPEN while learning; 08 R244; reset 0 -/
  learnWait : Nat := 0
  /-- 1 bit: a test other than T1 held while learning; 08 R244; reset 0 -/
  learnBad : Bool := false
  /-- sums of the counts of the last 1 s at OPEN, by channel, and their number; 08 R244; reset none -/
  learnRef : Tab (Int × Nat) := []
  /-- counts: mean of the latest last 1 s at OPEN, by channel; 08 R244; reset none -/
  learnMean : Tab Int := []
  /-- consecutive executions with the coupling beyond COUPTOL; 08 R236; reset 0 -/
  coupBad : Nat := 0
  /-- signed 0.01 N: hold force applied at OPEN, CLOSED and HELD; 08 HOLDF; reset 0 -/
  hold : Int := 0
  /-- ns of the latest store of a reference; 08 R246; reset none -/
  refAt : Option Nat := none
  deriving DecidableEq, Repr

end Sys2Proof.Machine
end

