-- ==== Sys2Proof/Machine/StateSafety.lean ====
section
/-! DEFINITION. State of the two safety channels (10). Each field's comment gives its width, file and rule, and its
reset value. -/
namespace Sys2Proof.Machine

/-- One safe input pair's parameters (10 R287, R289, R309). -/
structure PairCfg where
  /-- 0–2; 10 R287 TYPE; factory 0 -/
  type : Nat := 0
  /-- 0–9; 10 R289 FUNC; factory 0 unused -/
  func : Nat := 0
  /-- 1 bit: scope module; 10 R289; factory 0 -/
  module : Bool := false
  /-- 8 bits: shafts of the scope; 10 R289; factory none -/
  shafts : BitVec 8 := 0
  /-- group of functions 7 and 8; 10 R289; factory 0 -/
  group : Nat := 0
  /-- µs, 250–20,000; 10 R287 FILT; factory 3,000 -/
  filt : Nat := 3000
  /-- µs, 2,000–500,000; 10 R287 DISC; factory 20,000 -/
  disc : Nat := 20000
  deriving DecidableEq, Repr

/-- One monitoring point's parameters (10 R290). -/
structure PointCfg where
  /-- 0 unused, 1 DC, 2 AC; 10 R290; factory unused -/
  mode : Nat := 0
  /-- 1 bit: scope module; 10 R290; factory 0 -/
  module : Bool := false
  /-- 8 bits: shafts of the scope; 10 R290; factory none -/
  shafts : BitVec 8 := 0
  /-- µs; 10 R290 CFILT; factory 5,000 -/
  cfilt : Nat := 5000
  deriving DecidableEq, Repr

/-- A safe link's parameters (10 R309, 14 R418, R419). -/
structure LinkCfg where
  /-- 16 bits; 10 R309 SRCID A; factory none -/
  srcA : Nat := 0
  /-- 16 bits; 10 R309 SRCID B; factory none -/
  srcB : Nat := 0
  /-- cars carried; 10 R309; factory none -/
  cars : List Nat := []
  /-- lock records carried: shaft, base; 10 R309; factory none -/
  locks : List (Nat × Nat) := []
  /-- 1 bit: door-only group record carried; 10 R309; factory 0 -/
  groups : Bool := false
  /-- trunk rings of stream A and B of a trunk safe link; 14 R419; factory 0 -/
  rings : Nat × Nat := (0, 0)
  /-- trunk safe link, plane-A ring and plane-B ring on which it is published; 14 R418; factory none -/
  publish : Option (Nat × Nat × Nat) := none
  deriving DecidableEq, Repr

/-- A car in the safety configuration (10 R309). -/
structure SafeCar where
  /-- 0–63; 10 R309; factory none -/
  car : Nat := 0
  /-- 0–7; 10 R309 ORDER; factory none -/
  order : Nat := 0
  /-- µm; 10 R309 H; factory none -/
  h : Int := 0
  /-- 0–3; 10 R309 brake group; factory none -/
  brake : Nat := 0
  /-- 0–7, or 8 + n for trunk safe link n; 10 R309 link; factory none -/
  link : Nat := 0
  deriving DecidableEq, Repr

/-- A shaft in the safety configuration (10 R309). -/
structure SafeShaft where
  /-- cars in ascending ORDER; 10 R309; factory none -/
  cars : List SafeCar := []
  /-- µm; 10 R309 LP; factory none -/
  lp : List Int := []
  /-- pair of function 6; 10 R309; factory none -/
  reset : Option Nat := none
  /-- pair of function 3; 10 R309; factory none -/
  insp : Option Nat := none
  /-- pair of function 4; 10 R309; factory none -/
  up : Option Nat := none
  /-- pair of function 5; 10 R309; factory none -/
  down : Option Nat := none
  /-- µm/s, 0 off; 10 R309 VSL; factory 0 -/
  vsl : Int := 0
  /-- µm/s; 10 R309 VSLI; factory 630,000 -/
  vsli : Int := 630000
  /-- 1 bit; 10 R309 SLSR; factory 0 -/
  slsr : Bool := false
  /-- µm/s, 0 off; 10 R309 VAOS; factory 0 -/
  vaos : Int := 0
  /-- µm; 10 R309 ZSLO; factory none -/
  zslo : Int := 0
  /-- µm; 10 R309 ZSHI; factory none -/
  zshi : Int := 0
  /-- µm/s²; 10 R309 ATSD; factory 1,000,000 -/
  atsd : Int := 1000000
  /-- µm/s; 10 R309 VTSD0; factory 300,000 -/
  vtsd0 : Int := 300000
  /-- µm; 10 R309 UCMZ; factory 100,000 -/
  ucmz : Int := 100000
  /-- µm/s²; 10 R309 ASAFE; factory 3,000,000 -/
  asafe : Int := 3000000
  /-- ms; 10 R309 TRS; factory 300 -/
  trs : Int := 300
  /-- µm; 10 R309 SGAP; factory 2,000,000 -/
  sgap : Int := 2000000
  /-- µm/s²; 10 R309 ASS1; factory 400,000 -/
  ass1 : Int := 400000
  /-- µm/s; 10 R309 VSS1TOL; factory 300,000 -/
  vss1tol : Int := 300000
  /-- ms; 10 R309 TSS1; factory 20,000 -/
  tss1 : Nat := 20000
  /-- µm/s; 10 R309 VSTILL; factory 10,000 -/
  vstill : Int := 10000
  /-- µm; 10 R309 SDITOL; factory 10,000 -/
  sditol : Int := 10000
  /-- ms; 10 R309 BFBT; factory 300 -/
  bfbt : Nat := 300
  /-- causes whose scope is the module; 10 R298, R309; factory 07h -/
  module : List Nat := [7]
  deriving DecidableEq, Repr

/-- The parameters of a safety image (10 R309). -/
structure SafetyCfg where
  /-- 16 pairs; 10 R309; factory unused -/
  pairs : Tab PairCfg := []
  /-- 4 monitoring points; 10 R309; factory unused -/
  points : Tab PointCfg := []
  /-- drive group of an axis; 10 R284 R309; factory none -/
  axisGroup : Tab Nat := []
  /-- shaft of a drive group, 8 for the module; 10 R284 R309; factory module -/
  groupShaft : Tab Nat := []
  /-- pair of function 6; 10 R309 module reset input; factory none -/
  modReset : Option Nat := none
  /-- links 0–7, trunk safe links at 8 + n; 10 R309, 14 R418 R419; factory none -/
  links : Tab LinkCfg := []
  /-- 2–8; 10 R309 LINKTO; factory 3 -/
  linkTo : Nat := 3
  /-- µm; 10 R309 LINKTOL; factory 10,000 -/
  linkTol : Int := 10000
  /-- µm/s; 10 R309 LINKVTOL; factory 50,000 -/
  linkVtol : Int := 50000
  /-- shafts configured; 10 R309; factory none -/
  shafts : Tab SafeShaft := []
  /-- source identifier of the partner's channel of the same kind; 13 R375; factory 0 -/
  pairSrc : Nat := 0
  deriving DecidableEq, Repr

/-- A safe input pair in a channel (10 R287, R288). -/
structure PairSt where
  /-- 1 bit: filtered contact A, closed; 10 R287; reset 0 -/
  a : Bool := false
  /-- 1 bit: filtered contact B, closed; 10 R287; reset 0 -/
  b : Bool := false
  /-- µs for which contact A's level has differed from its filtered one; 10 R287; reset 0 -/
  tA : Nat := 0
  /-- µs for which contact B's level has differed from its filtered one; 10 R287; reset 0 -/
  tB : Nat := 0
  /-- µs; 10 R288 pr.dt; reset 0 -/
  dt : Nat := 0
  /-- 1 bit; 10 R288 pr.armed; reset 1 -/
  armed : Bool := true
  /-- 1 bit; 10 R288 pr.fault; reset 0 -/
  fault : Bool := false
  /-- 1 bit; 10 R288 pr.closed; reset 0 -/
  closed : Bool := false
  deriving DecidableEq, Repr

/-- A reset pair in a channel (10 R305). -/
structure ResetSt where
  /-- µs; 10 R305 rs.closed_t; reset 0 -/
  closedT : Nat := 0
  /-- µs; 10 R305 rs.open_t; reset 0 -/
  openT : Nat := 0
  /-- 1 bit; 10 R305 rs.armed; reset 0 -/
  armed : Bool := false
  /-- 1 bit; 10 R305 rs.stuck; reset 0 -/
  stuck : Bool := false
  /-- 1 bit: the press in progress began after SYS.STATE.SAFE read 1; 10 R307; reset 0 -/
  afterSafe : Bool := false
  deriving DecidableEq, Repr

/-- A monitoring point in a channel (10 R290). -/
structure PointSt where
  /-- 1 bit; 10 R290 present; reset 0 -/
  present : Bool := false
  /-- µs below 10 V, or without a peak above 18 V; 10 R290; reset 0 -/
  low : Nat := 0
  deriving DecidableEq, Repr

/-- A car record as held for one stream (10 R293). -/
structure CarRec where
  /-- 8 bits; 10 R293 STATUS; reset 0 -/
  status : BitVec 8 := 0
  /-- µm; 10 R293 POS; reset 0 -/
  pos : Int := 0
  /-- µm/s; 10 R293 VEL; reset 0 -/
  vel : Int := 0
  deriving DecidableEq, Repr

/-- A stream of a safe link in a channel (10 R294 to R296). -/
structure StreamSt where
  /-- 16 bits: last accepted SEQ; 10 R294; reset none -/
  seq : Option Nat := none
  /-- 1 bit: lost; 10 R295; reset 1 -/
  lost : Bool := true
  /-- consecutive accepted frames, up to 255; 10 R308; reset 0 -/
  good : Nat := 0
  /-- records of the last accepted frame: car, record; 10 R296; reset none -/
  cars : List (Nat × CarRec) := []
  /-- lock words of the last accepted frame: shaft, base, 64 bits; 10 R296; reset none -/
  locks : List (Nat × Nat × BitVec 64) := []
  /-- 64 bits; 10 R293 PROOF of the last accepted frame; reset none -/
  proof : Option (BitVec 64) := none
  deriving DecidableEq, Repr

/-- What a channel keeps between evaluations of a car on one stream (10 R295, R298, R301). -/
structure SafeEval where
  /-- position at the last change of the direction inputs; 10 R298 SDI; reset none -/
  sdiRef : Option Int := none
  /-- direction inputs at that change (up, down); 10 R298 SDI; reset none held -/
  sdiIn : Bool × Bool := (false, false)
  /-- landing in whose door zone the car was; 10 R301; reset none -/
  zone : Option Nat := none
  deriving DecidableEq, Repr

/-- What a channel holds of a car (10 R295, R298 to R301). -/
structure SafeCarSt where
  /-- record of stream A; 10 R293; reset none -/
  recA : Option CarRec := none
  /-- record of stream B; 10 R293; reset none -/
  recB : Option CarRec := none
  /-- frame periods without a usable record in stream A; 10 R295; reset 0 -/
  missA : Nat := 0
  /-- frame periods without a usable record in stream B; 10 R295; reset 0 -/
  missB : Nat := 0
  /-- 1 bit: missing for LINKTO periods; 10 R295; reset 0 -/
  lost : Bool := false
  /-- evaluation on stream A; 10 R295; reset none made -/
  evA : SafeEval := {}
  /-- evaluation on stream B; 10 R295; reset none made -/
  evB : SafeEval := {}
  /-- 1 bit: brake failed, no grant until a reset; 10 R300; reset 0 -/
  brakeFail : Bool := false
  deriving DecidableEq, Repr

/-- Safe stop 1 of a shaft in a channel (10 R299). -/
structure Ss1St where
  /-- 1 bit: in progress; 10 R299; reset 0 -/
  on : Bool := false
  /-- µs of the channel's clock: t0; 10 R299; reset 0 -/
  t0 : Nat := 0
  /-- cause of the demand; 10 R299; reset 0 -/
  cause : Nat := 0
  /-- velocity at t0, by car; 10 R299 v0; reset none -/
  v0 : Tab Int := []
  /-- consecutive frames of stream A at standstill; 10 R299; reset 0 -/
  stillA : Nat := 0
  /-- consecutive frames of stream B at standstill; 10 R299; reset 0 -/
  stillB : Nat := 0
  /-- 1 bit: a demand of module scope holds; 10 R289 R299; reset 0 -/
  module : Bool := false
  deriving DecidableEq, Repr

/-- One safety channel (10). -/
structure ChanSt where
  /-- 1 bit: channel runs; 10 R316 CHSTATE; reset 0 -/
  running : Bool := false
  /-- bytes of the configuration copy that differ from the factory image; 10 R310; reset none -/
  image : Tab Byte := []
  /-- parameters of the copy; 10 R309; factory values -/
  cfg : SafetyCfg := {}
  /-- µs the channel has evaluated; 10 R280 R299; reset 0 -/
  clk : Nat := 0
  /-- causes latched with module scope, the first one first; 10 R283; reset none -/
  modTrip : List Nat := []
  /-- causes latched, by shaft; 10 R283; reset none -/
  shaftTrip : Tab (List Nat) := []
  /-- causes cleared by the last reset edge, by shaft, 8 for the module; 10 R306; reset none -/
  cleared : Tab (List Nat) := []
  /-- causes in demand by the latest evaluation, by 2 × shaft + stream; 10 R298 R306; reset none -/
  demand : Tab (List Nat) := []
  /-- 16 pairs; 10 R288; reset open -/
  pairs : Tab PairSt := []
  /-- reset pairs; 10 R305; reset unarmed -/
  resets : Tab ResetSt := []
  /-- reset pairs whose edge waits for the 1,000 ms floor, each with whether its press began after SYS.STATE.SAFE read 1; 10 R307; reset none -/
  edges : List (Nat × Bool) := []
  /-- 4 points; 10 R290; reset absent -/
  points : Tab PointSt := []
  /-- streams, at 2 × link + (0 A, 1 B); 10 R294; reset lost -/
  streams : Tab StreamSt := []
  /-- consecutive pairs of frames that differ, by link; 10 R296; reset 0 -/
  differ : Tab Nat := []
  /-- consecutive pairs of frames that agree, by link; 10 R308; reset 0 -/
  agree : Tab Nat := []
  /-- cars; 10 R293; reset none -/
  cars : Tab SafeCarSt := []
  /-- landing locks by 8 × shaft + 2 × (BASE / 64) + stream, 64 bits; 10 R293; reset 0 -/
  locks : Tab (BitVec 64) := []
  /-- group proofs by stream, 64 bits; 10 R293; reset 0 -/
  proof : Tab (BitVec 64) := []
  /-- safe stop 1, by shaft; 10 R299; reset none -/
  ss1 : Tab Ss1St := []
  /-- 24 bits: read-back of the latest sample, STO0A, STO0B, … SBC3B; 10 R279; reset 0 -/
  readback : BitVec 24 := 0
  /-- deviations of the other channel's latest 16 exchange periods, ppm; 10 R282; reset none -/
  dev : List Nat := []
  /-- 1 bit: every output off for loss of the pair exchange; 13 R375; reset 0 -/
  pairOff : Bool := false
  /-- 16 bits: last accepted SEQ of the pair exchange; 13 R375; reset none -/
  pairSeq : Option Nat := none
  /-- consecutive accepted pair frames, up to 255; 13 R375; reset 0 -/
  pairGood : Nat := 0
  /-- 1 bit: the partner's CRC differs from this channel's; 13 R375; reset 0 -/
  pairCrcDiff : Bool := false
  deriving DecidableEq, Repr

/-- A change-log entry (10 R315). -/
structure LogEntry where
  /-- 64 bits; 10 R315 TIME; reset none -/
  time : Nat := 0
  /-- 32 bits; 10 R315 SEQ; reset none -/
  seq : Nat := 0
  /-- 1–5; 10 R315 TYPE; reset none -/
  type : Nat := 0
  /-- 16 bytes; 10 R315 USER; reset none -/
  user : List Byte := []
  /-- 32 bits; 10 R315 OLDCRC; reset none -/
  oldCrc : Nat := 0
  /-- 32 bits; 10 R315 NEWCRC; reset none -/
  newCrc : Nat := 0
  deriving DecidableEq, Repr

/-- An open Thepaif session (10 R312, R313). -/
structure Session where
  /-- 32 bits; 10 R312 SESSION; reset none open -/
  id : Nat := 0
  /-- 16 bytes; 10 R312 USER; reset none open -/
  user : List Byte := []
  /-- 12–64 bytes; 10 R312 NEWPW; reset none open -/
  newPw : Option (List Byte) := none
  /-- bytes of the pending image that differ from the factory image; 10 R313; reset none open -/
  pending : Tab Byte := []
  deriving DecidableEq, Repr

/-- The safety image as published at the latest release phase (10 R285). -/
structure SafeImage where
  /-- 8 bits, by drive group; 10 R285 PERMIT; reset 0 -/
  permit : BitVec 8 := 0
  /-- 8 bits, by shaft; 10 R285 SS1REQ; reset 0 -/
  ss1 : BitVec 8 := 0
  /-- 8 bits, by shaft; 10 R285 INSP; reset 0 -/
  insp : BitVec 8 := 0
  /-- 8 bits, by shaft; 10 R285 INSPUP; reset 0 -/
  up : BitVec 8 := 0
  /-- 8 bits, by shaft; 10 R285 INSPDN; reset 0 -/
  down : BitVec 8 := 0
  /-- 8 bits, by shaft; 10 R285 RESETDUE; reset 0 -/
  due : BitVec 8 := 0
  /-- 8 bits, by shaft: a trip is latched or a module trip; 10 R286; reset 0 -/
  trip : BitVec 8 := 0
  /-- 64 bits, by car; 10 R285 BRKGRANT; reset 0 -/
  grant : BitVec 64 := 0
  /-- 64 bits, by car; 10 R285 BRKREL; reset 0 -/
  rel : BitVec 64 := 0
  /-- 64 bits, by car; 10 R285 BRKENG; reset 0 -/
  eng : BitVec 64 := 0
  /-- 64 bits, by car; 10 R285 CDCLOSED; reset 0 -/
  cd : BitVec 64 := 0
  /-- 256 bits, by shaft; 10 R285 LDLOCKED; reset 0 -/
  ld : Tab Nat := []
  /-- 64 bits, by door-only group; 10 R285 GRPPROOF; reset 0 -/
  proof : BitVec 64 := 0
  deriving DecidableEq, Repr

/-- The safety channels and the safety gate (10). -/
structure SafetySt where
  /-- safety core; 10; reset not running -/
  core : ChanSt := {}
  /-- Scarp die; 10; reset not running -/
  scarp : ChanSt := {}
  /-- safety image; 10 R285; reset 0 -/
  image : SafeImage := {}
  /-- safety.status as of the latest release phase; 10 R316; reset none taken -/
  snap : Option (List (Nat × Nat × Int)) := none
  /-- 64 bits; 10 R316 TRIPTIME; reset 0 -/
  tripTime : Nat := 0
  /-- 1 bit: a CRC disagreement or failed copy at the last start; 10 R308 R310; reset 0 -/
  crcBad : Bool := false
  /-- 1 bit: the safety island sleeps; 10 R308 cause 19h; reset 0 -/
  asleep : Bool := false
  /-- the open session; 10 R312; reset none -/
  session : Option Session := none
  /-- salt and hash of the safety password; 10 R311; reset none set -/
  password : Option (Nat × Nat) := none
  /-- 0–4: consecutive wrong passwords; 10 R311; reset 0 -/
  wrong : Nat := 0
  /-- calendar time at which the lock-out ends; 10 R311; reset no lock-out -/
  lockEnd : Option Nat := none
  /-- change log, newest first, at most 1,024; 10 R315; reset empty -/
  log : List LogEntry := []
  /-- 32 bits: SEQ of the next entry; 10 R315; reset 1 (DESIGN CHOICE 17) -/
  logSeq : Nat := 1
  deriving DecidableEq, Repr

end Sys2Proof.Machine
end

