-- ==== Sys2Proof/Machine/StateField.lean ====
section
/-! DEFINITION. State of field inputs and outputs and of the CAN channels (11, 12). Each field's comment gives its width,
file and rule, and its reset value. -/
namespace Sys2Proof.Machine

/-- A digital input (11 R322, R323). -/
structure DiSt where
  /-- µs, 0–65,535; 11 R322 FILT; reset 3,000 -/
  filt : Nat := 3000
  /-- 0 to FILT; 11 R322 c; reset 0 -/
  c : Nat := 0
  /-- 1 bit: filtered state; 11 R322; reset 0 -/
  state : Bool := false
  /-- 16 bits, wraps; 11 R323 rising edges; reset 0 -/
  edges : Nat := 0
  /-- 16 bits: rising edges as of the latest instant; 11 dio.read EDGES; reset 0 -/
  edgesInst : Nat := 0
  deriving DecidableEq, Repr

/-- An analogue input (11 R327, R328). -/
structure AiSt where
  /-- 0–2; 11 R327 MODE; reset 0 -/
  mode : Nat := 0
  /-- 16 bits signed: latest instant conversion; 11 R328; reset 0 (DESIGN CHOICE 20) -/
  code : Int := 0
  /-- codes of the last 1 ms, newest first; 11 R328; reset none -/
  hist : List Int := []
  /-- consecutive conversions with the fault condition; 11 R327; reset 0 -/
  bad : Nat := 0
  /-- consecutive conversions without it; 11 R327; reset 0 -/
  good : Nat := 0
  /-- 1 bit: in fault; 11 R327; reset 0 -/
  fault : Bool := false
  /-- 1 bit: burden open; 11 R327; reset 0 -/
  open_ : Bool := false
  deriving DecidableEq, Repr

/-- A sigma-delta input (11 R329 to R331). -/
structure SdSt where
  /-- 10–25; 11 R329 CLKDIV; reset 10 (DESIGN CHOICE 20) -/
  clkDiv : Nat := 10
  /-- 5–8; 11 pwm.config OSRLOG2; reset 5 (DESIGN CHOICE 20) -/
  osr : Nat := 5
  /-- 0–15; 11 R329 DELAY; reset 0 (DESIGN CHOICE 20) -/
  delay : Nat := 0
  /-- 8–32; 11 R330 OSRF; reset 8 (DESIGN CHOICE 20) -/
  osrf : Nat := 8
  /-- 1–8; 11 R330 OCN; reset 1 (DESIGN CHOICE 20) -/
  ocn : Nat := 1
  /-- 0–3 or FFh; 11 R330 OCSET; reset FFh (DESIGN CHOICE 20) -/
  ocset : Nat := 0xFF
  /-- 0 to 2²³; 11 R330 OCTH; reset 0 (DESIGN CHOICE 20) -/
  octh : Int := 0
  /-- latest output; 11 R329 v; reset 0 (DESIGN CHOICE 20) -/
  v : Int := 0
  /-- output taken at the latest instant; 11 R318; reset 0 (DESIGN CHOICE 20) -/
  inst : Int := 0
  /-- consecutive over-current outputs; 11 R330; reset 0 -/
  above : Nat := 0
  /-- 1 bit: faulty; 11 R331; reset 0 -/
  fault : Bool := false
  /-- consecutive outputs without a run of 64; 11 R331; reset 0 -/
  good : Nat := 0
  deriving DecidableEq, Repr

/-- A line filter of a quadrature input: accepted level, candidate level and how long it has been stable (11). -/
structure LineFilt where
  /-- 1 bit: accepted level; 11; reset 0 (DESIGN CHOICE 20) -/
  level : Bool := false
  /-- samples for which the other level has been stable; 11; reset 0 -/
  run : Nat := 0
  deriving DecidableEq, Repr

/-- A quadrature input (11 R332 to R334). -/
structure QaSt where
  /-- 0–7; 11 FLT; reset 0 (DESIGN CHOICE 20) -/
  flt : Nat := 0
  /-- 1 bit; 11 R332 FLAGS[0] reverse; reset 0 (DESIGN CHOICE 20) -/
  reverse : Bool := false
  /-- 1 bit; 11 R334 FLAGS[1] reset armed; reset 0 -/
  armed : Bool := false
  /-- 32 bits; 11 R334 ZEROVAL; reset 0 (DESIGN CHOICE 20) -/
  zeroVal : Int := 0
  /-- 32 bits; 11 R332 st.count; reset 0 -/
  count : Int := 0
  /-- 32 bits: count latched at the latest instant; 11 R318; reset 0 -/
  inst : Int := 0
  /-- 32 bits; 11 R334 INDEX; reset 0 (DESIGN CHOICE 20) -/
  index : Int := 0
  /-- 1 bit; 11 R334 INDEXSEEN; reset 0 -/
  indexSeen : Bool := false
  /-- 32 bits, wraps; 11 R332 st.illegal; reset 0 -/
  illegal : Nat := 0
  /-- 16 bits, saturating; 11 qenc.read FAULTS; reset 0 -/
  faults : Nat := 0
  /-- 0–1,024; 11 R332 st.since; reset 1,024 -/
  since : Nat := 1024
  /-- 1 bit; 11 R333 encoder fault; reset 0 -/
  fault : Bool := false
  /-- 1 bit: QA or QB below 200 mV; 11 R333; reset 0 -/
  lineLow : Bool := false
  /-- filter of A; 11; reset low -/
  fa : LineFilt := {}
  /-- filter of B; 11; reset low -/
  fb : LineFilt := {}
  /-- filter of Z; 11; reset low -/
  fz : LineFilt := {}
  deriving DecidableEq, Repr

/-- Configuration of a PWM set (11 pwm.config TARGET 0). -/
structure PwmCfg where
  /-- 0–3; 11 R336 MODE; reset 0 -/
  mode : Nat := 0
  /-- 1–6; 11 R335 MULT; reset 1 (DESIGN CHOICE 20) -/
  mult : Nat := 1
  /-- 1–8; 11 R335 DIVN; reset 1 (DESIGN CHOICE 20) -/
  divn : Nat := 1
  /-- 0–7 or FFh; 11 SDIN; reset FFh (DESIGN CHOICE 20) -/
  sdin : Nat := 0xFF
  /-- ns; 11 DEADT; reset 52 (DESIGN CHOICE 20) -/
  deadt : Nat := 52
  /-- ns; 11 MINP; reset 52 (DESIGN CHOICE 20) -/
  minp : Nat := 52
  /-- axis or FFFFh; 11 AXU; reset FFFFh (DESIGN CHOICE 20) -/
  axu : Nat := 0xFFFF
  /-- axis or FFFFh; 11 AXV; reset FFFFh (DESIGN CHOICE 20) -/
  axv : Nat := 0xFFFF
  /-- axis or FFFFh; 11 AXW; reset FFFFh (DESIGN CHOICE 20) -/
  axw : Nat := 0xFFFF
  deriving DecidableEq, Repr

/-- What a leg does in a period, in field-island clocks: high-side on, low-side on (11 R338). -/
structure LegOut where
  /-- clocks; 11 R338; reset 0 -/
  high : Nat := 0
  /-- clocks; 11 R338; reset 0 -/
  low : Nat := 0
  deriving DecidableEq, Repr

/-- A PWM set (11 R335 to R339). -/
structure PwmSt where
  /-- configuration; 11 R344; reset mode 0 -/
  cfg : PwmCfg := {}
  /-- latched outputs of AXU, AXV, AXW applied at the latest instant; 11 R335; reset 0 -/
  u : List Int := [0, 0, 0]
  /-- carries of legs U, V, W in clocks; 11 R338 leg.carry; reset 0 -/
  carry : List Int := [0, 0, 0]
  /-- what the legs do in the latest period; 11 R338; reset off -/
  legs : List LegOut := [{}, {}, {}]
  /-- 1 bit: over-current trip; 11 R330; reset 0 -/
  oc : Bool := false
  /-- 1 bit: gates switched in the latest period; 11 R339; reset 0 -/
  on : Bool := false
  /-- 1 bit: a clamp of R336 acts; 11 R339 ILIMIT; reset 0 -/
  clamp : Bool := false
  /-- 1 bit: local band law high; 11 R337; reset 0 -/
  hi : Bool := false
  /-- output of the local band law for the next period; 11 R337; reset 0 (DESIGN CHOICE 20) -/
  ub : Int := 0
  /-- 0–65,535 periods: local dwell; 11 R337; reset 65,535 (DEDUCED from 04 R127) -/
  dwell : Nat := 65535
  deriving DecidableEq, Repr

/-- What a step output does (11 qenc.read STATE). -/
inductive StepState where
  | idle | moving | referencing | decelerating | axisDriven
  deriving DecidableEq, Repr

/-- A step.move (11 R342, R346). -/
structure StepMove where
  /-- 0 absolute, 1 relative, 2 reference; 11 MODE; reset none -/
  mode : Nat := 0
  /-- 0–47; 11 DI; reset none -/
  di : Nat := 0
  /-- 0 rising, 1 falling; 11 EDGE; reset none -/
  edge : Nat := 0
  /-- steps; 11 TARGET as an end position, or the longest search in MODE 2; reset none -/
  target : Int := 0
  /-- steps/s; 11 VMAX; reset none -/
  vmax : Nat := 1
  /-- steps/s²; 11 ACC; reset none -/
  acc : Nat := 1
  /-- steps; 11 REFPOS; reset none -/
  refPos : Int := 0
  deriving DecidableEq, Repr

/-- A step output (11 R340 to R347). -/
structure StpSt where
  /-- ns, 100–10,000; 11 R340 PW; reset 250 -/
  pw : Nat := 250
  /-- 32 bits: steps emitted; 11 R341; reset 0 (DESIGN CHOICE 20) -/
  pos : Int := 0
  /-- state; 11 qenc.read STATE; reset idle -/
  state : StepState := .idle
  /-- 1 bit; 11 R343 POSUNKNOWN; reset 1 -/
  unknown : Bool := true
  /-- 10⁻⁶ steps/s: present rate; 11 R342; reset 0 -/
  rate : Nat := 0
  /-- 1 bit: direction of travel, down; 11 R340 DIR; reset 0 -/
  down : Bool := false
  /-- the move in progress; 11 R342; reset none -/
  move : StepMove := {}
  /-- 1 bit: a landed move that starts at the next instant; 11 R342; reset 0 -/
  start : Bool := false
  /-- steps an axis-driven output has still to emit in the cycles up to the next applying instant; 11 R341; reset 0 -/
  due : Int := 0
  /-- steps carried under the rate limit; 11 R341; reset 0 -/
  carried : Int := 0
  /-- u of the previous applying instant; 11 R341 u_prev; reset 0 -/
  uPrev : Int := 0
  /-- steps of the search made; 11 R346; reset 0 -/
  searched : Nat := 0
  deriving DecidableEq, Repr

/-- What a pwm.config lands (11 R344). -/
inductive FieldCfg where
  | pwm (n : Nat) (c : PwmCfg)
  | sd (n clkDiv osr delay osrf ocn ocset : Nat) (octh : Int)
  | ai (n mode : Nat)
  | qa (n flt : Nat) (reverse armed : Bool) (zeroVal : Int)
  | di (first : Nat) (filt : List Nat)
  deriving DecidableEq, Repr

/-- Field I/O (11). -/
structure FieldSt where
  /-- 1 bit: front ends powered from the field 24 V supply; 11 R320; reset 0 -/
  on : Bool := false
  /-- digital inputs; 11 R322; reset filter 3,000 µs, off -/
  di : Tab DiSt := []
  /-- 48 bits: filtered states at the latest instant; 11 R318 R323; reset 0 -/
  diInst : BitVec 48 := 0
  /-- 24 bits: commanded states; 11 R345 DOCMD; reset 0 (DESIGN CHOICE 20) -/
  doCmd : BitVec 24 := 0
  /-- 24 bits: states at the terminals; 11 R345 DOACT; reset 0 -/
  doOut : BitVec 24 := 0
  /-- commanded states, states at the terminals and OVERLOAD as of the latest instant; 11 dio.read; reset 0 -/
  doInst : BitVec 24 × BitVec 24 × BitVec 24 := (0, 0, 0)
  /-- 24 bits; 11 R325 OVERLOAD; reset 0 -/
  overload : BitVec 24 := 0
  /-- 24 bits: overloaded outputs commanded 0 since; 11 R325; reset 0 -/
  zeroed : BitVec 24 := 0
  /-- 24 bits: owned by a door function; 11 R324; reset 0 -/
  doorOwned : BitVec 24 := 0
  /-- writes waiting for the release phase: request, mask, value; 11 R345; reset none -/
  doPend : List (Option Request × BitVec 24 × BitVec 24) := []
  /-- 24 bits: safe pattern of the front end; 11 R326; reset 0 -/
  pattern : BitVec 24 := 0
  /-- ms: silence time of the front end; 11 R326 TSILENT; reset 100 -/
  tSilent : Nat := 100
  /-- pattern and time kept in NOR; 11 R326; reset none stored -/
  patternNor : Option (BitVec 24 × Nat) := none
  /-- dio.safe.set waiting for the next instant; 11 R345; reset none -/
  safePend : List (Request × BitVec 24 × Nat) := []
  /-- 1 bit: the pattern is in force; 11 R326; reset 0 -/
  silent : Bool := false
  /-- ns: latest valid bridge frame of the output front end; 11 R326; reset 0 (DESIGN CHOICE 20) -/
  lastFrame : Nat := 0
  /-- 1 bit: pattern in force since the last read; 11 dio.read FLAGS[1]; reset 0 -/
  wasSilent : Bool := false
  /-- consecutive failed frames by front end: DI 0, DO 1, AI 2 on, SD 18 on, QA 26 on, PWM 34 on, STP 38 on; 11 R319; reset 0 -/
  fails : Tab Nat := []
  /-- analogue inputs; 11; reset mode 0 -/
  ai : Tab AiSt := []
  /-- sigma-delta inputs; 11; reset (DESIGN CHOICE 20) -/
  sd : Tab SdSt := []
  /-- quadrature inputs; 11; reset count 0 -/
  qa : Tab QaSt := []
  /-- PWM sets; 11; reset mode 0 -/
  pwm : Tab PwmSt := []
  /-- step outputs; 11; reset POSUNKNOWN -/
  stp : Tab StpSt := []
  /-- configurations waiting for the release phase, with completion fields; 11 R344; reset none -/
  cfgPend : List (Request × FieldCfg × List (Nat × Nat × Int)) := []
  /-- moves waiting for the release phase: output, PW, move; 11 R342; reset none -/
  movePend : List (Nat × Nat × StepMove) := []
  deriving DecidableEq, Repr

/-- Bit timing and flags of a channel (12 can.config section 0); defaults are the factory configuration of R350. -/
structure CanCfg where
  /-- 0–4; 12 R351 MODE; factory 1 (DESIGN CHOICE 21) -/
  mode : Nat := 1
  /-- 1 bit: termination; 12 FLAGS[0]; factory 0 (DESIGN CHOICE 21) -/
  term : Bool := false
  /-- 1 bit: FD transmission; 12 FLAGS[1]; factory 0 (DESIGN CHOICE 21) -/
  fd : Bool := false
  /-- 1 bit: TDC; 12 FLAGS[2]; factory 1 -/
  tdc : Bool := true
  /-- 1–32; 12 NBRP; factory 1 -/
  nbrp : Nat := 1
  /-- 12 NSJW; factory 32 -/
  nsjw : Nat := 32
  /-- 2–256; 12 NTSEG1; factory 127 -/
  ntseg1 : Nat := 127
  /-- 2–128; 12 NTSEG2; factory 32 -/
  ntseg2 : Nat := 32
  /-- 1–32; 12 DBRP; factory 1 -/
  dbrp : Nat := 1
  /-- 1–32; 12 DTSEG1; factory 29 -/
  dtseg1 : Nat := 29
  /-- 1–16; 12 DTSEG2; factory 10 -/
  dtseg2 : Nat := 10
  /-- 12 DSJW; factory 10 -/
  dsjw : Nat := 10
  /-- 0–127; 12 TDCO; factory 30 -/
  tdco : Nat := 30
  deriving DecidableEq, Repr

/-- Wake setting of a channel (12 R370). -/
structure WakeCfg where
  /-- 0–2; 12 WMODE; reset 0 -/
  wmode : Nat := 0
  /-- 0–8; 12 WDLC; reset 0 -/
  wdlc : Nat := 0
  /-- 1 bit; 12 FLAGS[0] IDE; reset 0 -/
  ide : Bool := false
  /-- 29 bits; 12 WID; reset 0 -/
  wid : Nat := 0
  /-- 29 bits; 12 WMASK; reset 0 -/
  wmask : Nat := 0
  /-- 64 bits; 12 DMASK; reset 0 -/
  dmask : Nat := 0
  deriving DecidableEq, Repr

/-- Assignment of a message object (12 can.config section 1). -/
structure ObjCfg where
  /-- 0–7; 12 CHAN; reset 0 -/
  chan : Nat := 0
  /-- 0 unused, 1 receive, 2 transmit; 12 KIND; reset 0 (DESIGN CHOICE 21) -/
  kind : Nat := 0
  /-- [1:0] IDE, [3:2] format; 12 MATCH; reset 0 -/
  match_ : Nat := 0
  /-- 29 bits; 12 ID; reset 0 -/
  id : Nat := 0
  /-- 29 bits; 12 MASK; reset 0 -/
  mask : Nat := 0
  deriving DecidableEq, Repr

/-- A reference message (12 can.config section 2). -/
structure RefCfg where
  /-- 1 bit; 12 ENABLE; reset 0 -/
  enable : Bool := false
  /-- 0 classical, 1 FD; 12 FORMAT; reset 0 -/
  format : Nat := 0
  /-- 1 bit; 12 IDE; reset 0 -/
  ide : Bool := false
  /-- 0–127; 12 OBJ; reset 0 -/
  obj : Nat := 0
  /-- identifier; 12 REFID; reset 0 -/
  id : Nat := 0
  /-- ms; 12 PERIOD; reset 1 -/
  period : Nat := 1
  deriving DecidableEq, Repr

/-- A BMS map (12 can.config section 3). -/
structure BmsMap where
  /-- 1 bit; 12 ENABLE; reset 0 -/
  enable : Bool := false
  /-- 0–127; 12 OBJ; reset 0 -/
  obj : Nat := 0
  /-- 2, 4; 12 WIDTH; reset 2 -/
  width : Nat := 2
  /-- 12 OFFSET; reset 0 -/
  offset : Nat := 0
  /-- 1 bit: big-endian; 12 ORDER; reset 0 -/
  big : Bool := false
  /-- Q16.16 J; 12 SCALE; reset 1 -/
  scale : Nat := 1
  deriving DecidableEq, Repr

/-- What can.config has accepted and NOR keeps (12 R352, R366). -/
structure CanNor where
  /-- channels; 12 R352; reset none stored: factory configuration -/
  chans : Tab CanCfg := []
  /-- objects; 12 R366; reset none stored -/
  objs : Tab ObjCfg := []
  /-- reference messages by channel; 12 R366; reset none stored -/
  refs : Tab RefCfg := []
  /-- BMS maps by shaft; 12 R366; reset none stored -/
  bms : Tab BmsMap := []
  /-- wake settings by channel; 12 R370; reset none stored -/
  wakes : Tab WakeCfg := []
  deriving DecidableEq, Repr

/-- A receive entry (12 R353). -/
structure CanEntry where
  /-- ns; 12 TIME; reset none -/
  time : Nat := 0
  /-- 12 CYCLE; reset none -/
  cycle : Nat := 0
  /-- the frame; 12; reset none -/
  frame : CanFrame := {}
  /-- 1 bit; 12 FLAGS[3] transmitted; reset none -/
  tx : Bool := false
  /-- 1 bit; 12 FLAGS[4] stored before the application firmware; reset none -/
  early : Bool := false
  /-- capturing object or FFh; 12 OBJ FLAGS[5]; reset none -/
  obj : Nat := 0xFF
  /-- 0–7; 12 CHAN; reset none -/
  chan : Nat := 0
  /-- 32 bits; 12 SEQ; reset none -/
  seq : Nat := 0
  /-- energy drawn by each shaft (10⁻¹⁵ J) at the cycle of receipt; 06 R175; reset none -/
  drawn : Tab Int := []
  deriving DecidableEq, Repr

/-- A message object (12 R356 to R360). -/
structure CanObj where
  /-- assignment; 12 can.config; reset unused -/
  cfg : ObjCfg := {}
  /-- words 0 to 21; 12; reset zero -/
  entry : CanEntry := {}
  /-- 1 bit; 12 OBJ.STAT.NEW; reset 0 -/
  new_ : Bool := false
  /-- 1 bit; 12 OBJ.STAT.OVR; reset 0 -/
  ovr : Bool := false
  /-- 1 bit; 12 OBJ.STAT.LOCKEXP; reset 0 -/
  lockExp : Bool := false
  /-- 1 bit: read lock held; 12 R357; reset 0 -/
  locked : Bool := false
  /-- one-frame shadow; 12 R357; reset empty -/
  shadow : Option CanEntry := none
  /-- 1 bit; 12 OBJ.STAT.PEND; reset 0 -/
  pend : Bool := false
  /-- 1 bit; 12 OBJ.STAT.INTX; reset 0 -/
  intx : Bool := false
  /-- 4 bits; 12 OBJ.STAT.COLL; reset 0 -/
  coll : Nat := 0
  /-- nominal bit times of the delay in force; 12 R360 B; reset none -/
  backoff : Option Nat := none
  /-- 1 bit: a new delay is drawn at the next bus idle; 12 R360; reset 0 -/
  redraw : Bool := false
  /-- frame that replaces the pending one after the attempt, with the request it completes; 12 R367; reset none -/
  next : Option (CanFrame × Option Request) := none
  /-- request to complete on transmission; 12 R367; reset none -/
  req : Option Request := none
  deriving DecidableEq, Repr

/-- A CAN channel (12). -/
structure CanChan where
  /-- timing and mode in force; 12 R352; reset factory -/
  cfg : CanCfg := {}
  /-- configuration that waits for bus idle; 12 R351 R366; reset none -/
  cfgNext : Option CanCfg := none
  /-- 1 bit: the controller runs; 12 R352; reset 0 -/
  on : Bool := false
  /-- wake setting; 12 R370; reset WMODE 0 -/
  wake : WakeCfg := {}
  /-- 1 bit: transceiver in low-power mode; 12 R362; reset 0 -/
  asleep : Bool := false
  /-- 1 bit: woken since the last status; 12 can.status FLAGS[3]; reset 0 -/
  woken : Bool := false
  /-- 1 bit: woken in MODE 4, MODE 1 at the first bus idle; 12 R363; reset 0 -/
  waking : Bool := false
  /-- 1 bit; 12 R361 bus-off; reset 0 -/
  busOff : Bool := false
  /-- 1 bit: recovering; 12 R361; reset 0 -/
  recovering : Bool := false
  /-- can.busoff.recover in progress; 12 R369; reset none -/
  recReq : Option Request := none
  /-- 0–256; 12 can.status TEC; reset 0 -/
  tec : Nat := 0
  /-- 0–255; 12 can.status REC; reset 0 -/
  rec_ : Nat := 0
  /-- counts 0 to 8 of can.status and skips at 9, 32-bit saturating; 12 can.status COUNTS, SKIPS; reset 0 -/
  cnt : Tab Nat := []
  /-- 32 bits; 12 R353 SEQ of the next frame; reset 0 (DESIGN CHOICE 21) -/
  seq : Nat := 0
  /-- software-owned entries, oldest first, at most 4,096; 12 R354; reset none -/
  ring : List CanEntry := []
  /-- history, newest first, at most 65,536; 12 R355; reset none -/
  hist : List CanEntry := []
  /-- 16-bit LFSR; 12 R360; reset seeded at start -/
  lfsr : Nat := 0
  /-- reference message; 12 R364; reset disabled -/
  ref : RefCfg := {}
  /-- TIME and CYCLE of the previous reference message; 12 R364; reset none sent -/
  refLast : Option (Nat × Nat) := none
  /-- 16 bits: reference messages sent; 12 R364; reset 0 -/
  refSeq : Nat := 0
  /-- mode before S3; 12 R363; reset none -/
  before : Option Nat := none
  deriving DecidableEq, Repr

/-- What lands for a channel at a release phase (12 R366, R370). -/
inductive CanPend where
  | chan (n : Nat) (c : CanCfg)
  | obj (n : Nat) (c : ObjCfg)
  | ref (n : Nat) (c : RefCfg)
  | bms (h : Nat) (c : BmsMap)
  | wake (n : Nat) (c : WakeCfg)
  deriving DecidableEq, Repr

/-- CAN (12). -/
structure CanSt where
  /-- 1 bit: transmission released; 12 R352; reset 0 -/
  tx : Bool := false
  /-- 1 bit: the drain runs; 12 R355; reset 0 -/
  drain : Bool := false
  /-- channels; 12; reset off until 60 ms -/
  chans : Tab CanChan := []
  /-- message objects; 12; reset unused -/
  objs : Tab CanObj := []
  /-- BMS maps by shaft; 12 R365; reset disabled -/
  bms : Tab BmsMap := []
  /-- BMS reports rejected, by shaft; 12 R365; reset 0 -/
  bmsRej : Tab Nat := []
  /-- stored configuration; 12 R352; reset none stored -/
  stored : CanNor := {}
  /-- configurations waiting for the release phase, with completion fields; 12 R366; reset none -/
  cfgPend : List (Request × CanPend × List (Nat × Nat × Int)) := []
  deriving DecidableEq, Repr

end Sys2Proof.Machine
end

