-- ==== Sys2Proof/Machine/StateNor.lean ====
section
/-! DEFINITION. The configuration the application firmware stores in NOR (15 R550). Each field's comment gives its width,
file and rule, and its reset value. -/
namespace Sys2Proof.Machine

/-- A configuration on its way to NOR (15 R550). -/
inductive StoreItem where
  | ring (r : Nat) (c : RingCfg)
  | rate (n : Nat)
  | axis (a : Nat) (d : Desc)
  | table (a : Nat) (page0 page1 : TablePage) (active : Bool)
  | trace (t : TraceSet)
  | triggers (l : List Trigger)
  | shaft (h : Nat) (c : ShaftCfg)
  | limits (h : Nat) (m : Limits)
  | energy (h : Nat) (c : EnergyCfg)
  | door (d : Nat) (c : DoorDef)
  | learned (d : Nat) (l0 l1 : Option Learned)
  | edgeRefs (d : Nat) (l : List (Option Int))
  | service (d : Nat) (on : Bool)
  | field (c : FieldCfg)
  | pattern (p : BitVec 24) (t : Nat)
  | can (c : CanPend)
  deriving DecidableEq, Repr

/-- The NOR configuration area (15 R550). -/
structure NorSt where
  /-- ring configurations; 15 R550; reset none stored -/
  rings : Tab RingCfg := []
  /-- 2 bits: cycle rate; 15 R550; reset 01b -/
  rate : Nat := 1
  /-- axis descriptors; 15 R550; reset none stored -/
  axes : Tab Desc := []
  /-- position tables: both pages and which is active; 15 R550; reset none stored -/
  tables : Tab (TablePage × TablePage × Bool) := []
  /-- trace settings; 15 R550; reset off -/
  trace : TraceSet := {}
  /-- triggers; 15 R550; reset none -/
  triggers : List Trigger := []
  /-- shaft configurations; 15 R550; reset none stored -/
  shafts : Tab ShaftCfg := []
  /-- journey limits by shaft; 15 R550; reset none stored -/
  limits : Tab Limits := []
  /-- energy models by shaft; 15 R550; reset none stored -/
  energies : Tab EnergyCfg := []
  /-- door definitions; 15 R550; reset none stored -/
  doors : Tab DoorDef := []
  /-- learned data of the axes of a door; 08 R244; reset none stored -/
  learned : Tab (Option Learned × Option Learned) := []
  /-- references of the edge channels of a door; 08 R244 R246; reset none stored -/
  edgeRefs : Tab (List (Option Int)) := []
  /-- service state of a door; 15 R431; reset out of service -/
  services : Tab Bool := []
  /-- PWM configurations; 15 R550; reset none stored -/
  pwms : Tab PwmCfg := []
  /-- field configurations other than PWM, newest last, one per target; 15 R550; reset none stored -/
  fields : List FieldCfg := []
  /-- stores not completed, oldest first; 15 R550; reset none -/
  queue : List StoreItem := []
  deriving DecidableEq, Repr

end Sys2Proof.Machine
end

