-- ==== Sys2Proof/Machine/State.lean ====
section
/-! DEFINITION. The state of the block: everything the spec gives it, and the queue of waiting commands; the reasons a
step can stop; the state after reset. -/
namespace Sys2Proof.Machine

/-- The reasons a step can stop with a fault: none is raised, since no command of the spec stops the block. -/
inductive Fault where
  /-- Raised by nothing: the spec gives each command an effect. Safe: it only stops. -/
  | none
  deriving DecidableEq, Repr

/-- The reasons a step can be refused. -/
inductive Refusal where
  /-- Raised by Dispatch for a command without a meaning, named by its mnemonic. Safe: it only stops. -/
  | notModelled (mnemonic : String)
  deriving DecidableEq, Repr

/-- The block's state. -/
structure State where
  /-- commands waiting, first in first out; the model's own queue; reset empty -/
  pending : List Instr := []
  /-- counter of free values drawn; the model's own field, not the spec's; reset 0 (DESIGN CHOICE 1) -/
  free : Nat := 0
  /-- supply and measurements; 20; reset unpowered -/
  supply : SupplySt := {}
  /-- start-up, reset and images; 15, 18; reset unpowered -/
  sys : SysSt := {}
  /-- power states; 16; reset running at P0 -/
  pow : PowSt := {}
  /-- host interface; 02; reset empty -/
  host : HostSt := {}
  /-- counter set; 19; reset 0 -/
  ctr : CtrSt := {}
  /-- debug; 18; reset closed -/
  dbg : DbgSt := {}
  /-- recorder; 17; reset empty -/
  cairn : RecSt := {}
  /-- rings J0–J3; 03; reset off -/
  rings : Tab RingSt := []
  /-- side links SL0, SL1; 14; reset down -/
  links : Tab LinkSt := []
  /-- time; 14; reset 0 -/
  time : TimeSt := {}
  /-- records exchanged with other modules; 14; reset none -/
  multi : MultiSt := {}
  /-- redundancy; 13; reset single -/
  red : RedSt := {}
  /-- weavers, axes, tuning; 04, 05; reset unloaded -/
  loop : LoopSt := {}
  /-- shafts, cars, energy; 06, 07; reset none -/
  motion : MotionSt := {}
  /-- dispatch; 09; reset empty -/
  disp : DispSt := {}
  /-- doors by number; 08; reset none -/
  doors : Tab DoorSt := []
  /-- safety channels; 10; reset not running -/
  safety : SafetySt := {}
  /-- field I/O; 11; reset off -/
  field : FieldSt := {}
  /-- CAN; 12; reset off -/
  can : CanSt := {}
  /-- stored configuration; 15 R550; reset none stored -/
  nor : NorSt := {}
  deriving DecidableEq, Repr

/-- The images as shipped: both copies of the trusted, application and safety images (18 R476, R478, R484). -/
def factoryImages : Tab ImgCopy :=
  [2, 3, 4, 5, 6, 7].map fun n => (n, { kind := n / 2, build := Config.build (n / 2) })

/-- The module right after reset, as 15 R422 begins: no supply output in regulation, both dies without power, NOR and fuses
as shipped. -/
def State.reset : State :=
  { sys := { images := factoryImages, keys := [0, 1, 2, 3].map fun n => (n, { programmed := 1 }) } }

end Sys2Proof.Machine
end

