-- ==== Sys2Proof/Machine/Operands.lean ====
section
/-! DEFINITION. The forms operands take: sparse tables, bytes of requests, signed and unsigned fields, ranges and
enumerated fields (00 R8, 02 R42 to R53). -/
namespace Sys2Proof.Machine

variable {α β : Type}

/-- What a sparse table holds at a key. -/
def tabGet (t : Tab α) (d : α) (k : Nat) : α :=
  match t with
  | [] => d
  | (j, v) :: r => if j = k then v else tabGet r d k

/-- Whether a sparse table lists a key. -/
def tabHas (t : Tab α) (k : Nat) : Bool :=
  match t with
  | [] => false
  | (j, _) :: r => j == k || tabHas r k

/-- A sparse table with one key written; keys stay in rising order. -/
def tabSet (t : Tab α) (k : Nat) (v : α) : Tab α :=
  match t with
  | [] => [(k, v)]
  | (j, w) :: r => if k < j then (k, v) :: (j, w) :: r else if k = j then (k, v) :: r else (j, w) :: tabSet r k v

/-- A sparse table without a key. -/
def tabDel (t : Tab α) (k : Nat) : Tab α := t.filter fun p => p.1 != k

/-- A sparse table with the value at one key changed. -/
def tabMod (t : Tab α) (d : α) (k : Nat) (f : α → α) : Tab α := tabSet t k (f (tabGet t d k))

/-- A count that rises by `n` and stops at `m` (19 R501). -/
def satAdd (m a n : Nat) : Nat := min (a + n) m

/-- 2⁴⁸ − 1. -/
def max48 : Nat := 281474976710655
/-- 2³² − 1. -/
def max32 : Nat := 4294967295

/-- The signed value of the low 32 bits of a number (00 R8). -/
def toI32 (n : Nat) : Int := if n % 4294967296 < 2147483648 then (n % 4294967296 : Nat) else ((n % 4294967296 : Nat) : Int) - 4294967296

/-- The low 32 bits of a signed value as a number (00 R8). -/
def toU32 (x : Int) : Nat := (x % 4294967296).toNat

/-- The low 16 bits of a signed value as a signed value. -/
def toI16 (n : Nat) : Int := if n % 65536 < 32768 then (n % 65536 : Nat) else ((n % 65536 : Nat) : Int) - 65536

/-- Bits [hi:lo] of a number, given as low bit and width. -/
def bitsOf (n lo w : Nat) : Nat := n / 2 ^ lo % 2 ^ w

/-- 1 for true, 0 for false. -/
def b2n (b : Bool) : Nat := if b then 1 else 0

/-- One bit of a number. -/
def bitAt (n i : Nat) : Bool := n / 2 ^ i % 2 == 1

/-- The number whose bits a list gives, least significant first. -/
def ofBits : List Bool → Nat
  | [] => 0
  | b :: r => b2n b + 2 * ofBits r

/-- Byte `i` of a byte string; bytes beyond its end are zero (02 R44). -/
def byteAt (p : List Byte) (i : Nat) : Nat := (p.getD i 0).toNat

/-- A little-endian field of `w` bytes (00 R8). -/
def leAt (p : List Byte) (i : Nat) : Nat → Nat
  | 0 => 0
  | w + 1 => byteAt p i + 256 * leAt p (i + 1) w

/-- A big-endian field of `w` bytes (IP headers, 00 R8). -/
def beAt (p : List Byte) (i : Nat) : Nat → Nat
  | 0 => 0
  | w + 1 => byteAt p i * 256 ^ w + beAt p (i + 1) w

/-- Little-endian bytes of a value. -/
def leBytes : Nat → Nat → List Byte
  | 0, _ => []
  | w + 1, n => BitVec.ofNat 8 n :: leBytes w (n / 256)

/-- A request field: `w` bytes at offset `off` of the first entry (02 R42). -/
def rq (r : Request) (off w : Nat) : Nat := leAt r.payload (off - 16) w

/-- A signed 32-bit request field. -/
def rqI (r : Request) (off : Nat) : Int := toI32 (rq r off 4)

/-- The bytes of a request from an offset, `n` of them, missing ones zero (02 R44). -/
def rqBytes (r : Request) (off n : Nat) : List Byte :=
  (List.range n).map fun i => r.payload.getD (off - 16 + i) 0

/-- A value held within limits (02 R52). -/
def clampN (lo hi v : Nat) : Nat := if v < lo then lo else if hi < v then hi else v

/-- A signed value held within limits (02 R52). -/
def clampI (lo hi v : Int) : Int := if v < lo then lo else if hi < v then hi else v

/-- The offset of a clamped field, when its value is outside its limits (02 R52). -/
def clampedN (off lo hi v : Nat) : List Nat := if v < lo ∨ hi < v then [off] else []

/-- The offset of a clamped signed field, when its value is outside its limits (02 R52). -/
def clampedI (off : Nat) (lo hi v : Int) : List Nat := if v < lo ∨ hi < v then [off] else []

/-- The lowest offset among the checks that fail (02 R46 step 9). -/
def firstBad : List (Nat × Bool) → Option Nat
  | [] => none
  | (off, ok) :: r =>
    match firstBad r with
    | none => if ok then none else some off
    | some b => if ok then some b else some (min off b)

/-- The bit of the rights masks for a class (02 R35, R62): 17 when the class is not one of the catalogue. -/
def classBit (c : Nat) : Nat :=
  match c with
  | 0x00 => 0 | 0x01 => 1 | 0x10 => 2 | 0x11 => 3 | 0x12 => 4 | 0x13 => 5 | 0x14 => 6 | 0x15 => 7
  | 0x20 => 8 | 0x30 => 9 | 0x31 => 10 | 0x40 => 11 | 0x50 => 12 | 0x60 => 13 | 0x70 => 14 | 0x71 => 15
  | 0x7F => 16 | _ => 17

/-- The opcodes of the catalogue (02). -/
def knownOpcodes : List Nat :=
  [0x0001, 0x0002, 0x0003, 0x0010, 0x0011, 0x0020, 0x0101, 0x0102, 0x0110, 0x0111, 0x0112, 0x0113,
   0x1001, 0x1010, 0x1011, 0x1012, 0x1013, 0x1020, 0x1021, 0x1101, 0x1110, 0x1111, 0x1120,
   0x1201, 0x1202, 0x1210, 0x1211, 0x1301, 0x1302, 0x1310, 0x1320, 0x1321,
   0x1401, 0x1402, 0x1410, 0x1411, 0x1420, 0x1430] ++
  [0x1501, 0x1502, 0x1510, 0x1511, 0x2001, 0x2002, 0x2003, 0x2010, 0x2011, 0x2012,
   0x3001, 0x3002, 0x3003, 0x3010, 0x3011, 0x3020, 0x3030, 0x3031, 0x3101, 0x3102, 0x3110, 0x3111, 0x3120, 0x3130,
   0x4001, 0x4002, 0x4010, 0x5001, 0x5010, 0x6001, 0x6010, 0x6011, 0x7001, 0x7002, 0x7010, 0x7011,
   0x7101, 0x7110, 0x7111, 0x7F01, 0x7F10, 0x7F11]

/-- Whether an opcode is a query command (02): the low byte lies below 10h. -/
def isQuery (op : Nat) : Bool := op % 256 < 0x10

/-- The classes that post events (02 R546). -/
def eventClasses : List Nat := [0x11, 0x12, 0x13, 0x14, 0x15, 0x20, 0x30, 0x31, 0x50, 0x60, 0x70, 0x7F]

end Sys2Proof.Machine
end

