-- ==== Sys2Proof/Machine/Arith.lean ====
section
/-! DEFINITION. Fixed-point arithmetic of the weavers and the numerical functions the spec names: mulsh and saturation
(04 R118), sine, integer roots (05 R160, 06). -/
namespace Sys2Proof.Machine

/-- sat32 (04 R118). -/
def sat32 (x : Int) : Int := max (-2147483648) (min 2147483647 x)
/-- sat64 (04 R118). -/
def sat64 (x : Int) : Int := max (-9223372036854775808) (min 9223372036854775807 x)
/-- mulsh (04 R118): exact product, rounded to nearest with ties toward positive infinity. -/
def mulsh (k x : Int) (s : Nat) : Int := (k * x + (if s = 0 then 0 else 2 ^ (s - 1))) / 2 ^ s
/-- Arithmetic shift right. -/
def asr (x : Int) (s : Nat) : Int := x / 2 ^ s
/-- A sum into a 64-bit accumulator: every addition saturates (04 R118). -/
def sumSat (l : List Int) : Int := l.foldl (fun a x => sat64 (a + x)) 0
/-- Magnitude. -/
def iabs (x : Int) : Int := if x < 0 then -x else x
/-- Sign: −1, 0 or 1. -/
def isign (x : Int) : Int := if x < 0 then -1 else if x = 0 then 0 else 1
/-- Quotient rounded up, of non-negative numbers. -/
def ceilDiv (a b : Nat) : Nat := (a + b - 1) / b
/-- Quotient rounded to nearest, ties up. -/
def roundDiv (a : Int) (b : Nat) : Int := (2 * a + b) / (2 * b)

/-- The greatest integer whose square does not exceed `n`, by bisection over `k` bits. -/
def sqrtBits (n : Nat) : Nat → Nat → Nat
  | 0, r => r
  | k + 1, r => let r' := r + 2 ^ k; sqrtBits n k (if r' * r' ≤ n then r' else r)
/-- Integer square root of a number below 2¹²⁸. -/
def isqrt (n : Nat) : Nat := sqrtBits n 64 0

/-- The greatest integer whose cube does not exceed `n`, by bisection over `k` bits. -/
def cbrtBits (n : Nat) : Nat → Nat → Nat
  | 0, r => r
  | k + 1, r => let r' := r + 2 ^ k; cbrtBits n k (if r' * r' * r' ≤ n then r' else r)
/-- Integer cube root of a number below 2¹⁴⁴. -/
def icbrt (n : Nat) : Nat := cbrtBits n 48 0

/-- 2π in units of 2⁻⁴⁰. -/
def twoPi40 : Nat := 6908435304727

/-- sin x for 0 ≤ x ≤ π/2, x and result in units of 2⁻⁴⁰, by the Taylor polynomial of degree 15. -/
def sinPoly (x : Int) : Int :=
  let x2 := asr (x * x) 40
  let step := fun (acc : Int) (d : Int) => 1099511627776 - asr (x2 * acc) 40 / d
  asr (x * (step (step (step (step (step (step (step 1099511627776 210) 156) 110) 72) 42) 20) 6)) 40

/-- sin of a 32-bit fraction of a turn, in units of 2⁻⁴⁰. -/
def sinTurn (phi : Nat) : Int :=
  let q := phi % 4294967296 / 1073741824
  let f := phi % 1073741824
  let ang := fun (n : Nat) => ((n * twoPi40 / 4294967296 : Nat) : Int)
  match q with
  | 0 => sinPoly (ang f)
  | 1 => sinPoly (ang (1073741824 - f))
  | 2 => - sinPoly (ang f)
  | _ => - sinPoly (ang (1073741824 - f))

/-- cos of a 32-bit fraction of a turn, in units of 2⁻⁴⁰. -/
def cosTurn (phi : Nat) : Int := sinTurn (phi + 1073741824)

/-- Entry `k` of the 1,024-entry sine table, in units of 2⁻³⁰ (05 R160). -/
def sinEntry (k : Nat) : Int := asr (sinTurn (k % 1024 * 4194304) + 512) 10

/-- The table sine of a phase by linear interpolation, in units of 2⁻³⁰ (05 R160). -/
def sinTable (phi : Nat) : Int :=
  let k := phi % 4294967296 / 4194304
  let f := phi % 4194304
  sinEntry k + mulsh (sinEntry (k + 1) - sinEntry k) f 22

/-- One byte taken into a CRC-32C remainder, bit by bit, least significant first. -/
def crcByte (c b : Nat) : Nat :=
  (List.range 8).foldl (fun a _ => if a % 2 = 1 then Nat.xor (a / 2) 0x82F63B78 else a / 2) (Nat.xor c b)

/-- CRC-32C of a byte string (17 R459, 03 R75). -/
def crc32c (l : List Byte) : Nat :=
  Nat.xor (l.foldl (fun c b => crcByte c b.toNat) 0xFFFFFFFF) 0xFFFFFFFF

end Sys2Proof.Machine
end

