-- ==== Sys2Proof/Machine/Ops.lean ====
section
/-! DEFINITION. The shared operations of the block: components of the state, free values, counters, events, mailbox
completions, the checks of the stake cores, time and places of axes. -/
namespace Sys2Proof.Machine

/-! ### Components -/

/-- A state whose host interface is changed. -/
def State.onHost (s : State) (f : HostSt → HostSt) : State := { s with host := f s.host }
/-- A state whose counter set is changed. -/
def State.onCtr (s : State) (f : CtrSt → CtrSt) : State := { s with ctr := f s.ctr }
/-- A state whose start-up part is changed. -/
def State.onSys (s : State) (f : SysSt → SysSt) : State := { s with sys := f s.sys }
/-- A state whose supply is changed. -/
def State.onSupply (s : State) (f : SupplySt → SupplySt) : State := { s with supply := f s.supply }
/-- A state whose power part is changed. -/
def State.onPow (s : State) (f : PowSt → PowSt) : State := { s with pow := f s.pow }
/-- A state whose debug part is changed. -/
def State.onDbg (s : State) (f : DbgSt → DbgSt) : State := { s with dbg := f s.dbg }
/-- A state whose recorder is changed. -/
def State.onRec (s : State) (f : RecSt → RecSt) : State := { s with cairn := f s.cairn }
/-- A state whose time is changed. -/
def State.onTime (s : State) (f : TimeSt → TimeSt) : State := { s with time := f s.time }
/-- A state whose redundancy part is changed. -/
def State.onRed (s : State) (f : RedSt → RedSt) : State := { s with red := f s.red }
/-- A state whose loops are changed. -/
def State.onLoop (s : State) (f : LoopSt → LoopSt) : State := { s with loop := f s.loop }
/-- A state whose shafts and cars are changed. -/
def State.onMotion (s : State) (f : MotionSt → MotionSt) : State := { s with motion := f s.motion }
/-- A state whose dispatch is changed. -/
def State.onDisp (s : State) (f : DispSt → DispSt) : State := { s with disp := f s.disp }
/-- A state whose safety channels are changed. -/
def State.onSafety (s : State) (f : SafetySt → SafetySt) : State := { s with safety := f s.safety }
/-- A state whose field part is changed. -/
def State.onField (s : State) (f : FieldSt → FieldSt) : State := { s with field := f s.field }
/-- A state whose CAN part is changed. -/
def State.onCan (s : State) (f : CanSt → CanSt) : State := { s with can := f s.can }

/-- A state with the records of other modules changed. -/
def State.onMulti (s : State) (f : MultiSt → MultiSt) : State := { s with multi := f s.multi }

/-- A landed configuration waits for its store in NOR (15 R550). -/
def store (s : State) (i : StoreItem) : State := { s with nor := { s.nor with queue := s.nor.queue ++ [i] } }

/-- A ring; a ring not listed is off (03). -/
def State.ring (s : State) (r : Nat) : RingSt := tabGet s.rings {} r
/-- A state with one ring changed. -/
def State.onRing (s : State) (r : Nat) (f : RingSt → RingSt) : State := { s with rings := tabMod s.rings {} r f }
/-- A side link; one not listed is down (14). -/
def State.link (s : State) (n : Nat) : LinkSt := tabGet s.links {} n
/-- A state with one side link changed. -/
def State.onLink (s : State) (n : Nat) (f : LinkSt → LinkSt) : State := { s with links := tabMod s.links {} n f }
/-- An axis; an axis not listed is UNLOADED (04 R112). -/
def State.axis (s : State) (a : Nat) : AxisSt := tabGet s.loop.axes {} a
/-- A state with one axis changed. -/
def State.onAxis (s : State) (a : Nat) (f : AxisSt → AxisSt) : State :=
  s.onLoop fun l => { l with axes := tabMod l.axes {} a f }
/-- A weaver; one not listed runs (04 R142). -/
def State.weaver (s : State) (w : Nat) : WeaverSt := tabGet s.loop.weavers {} w
/-- A state with one weaver changed. -/
def State.onWeaver (s : State) (w : Nat) (f : WeaverSt → WeaverSt) : State :=
  s.onLoop fun l => { l with weavers := tabMod l.weavers {} w f }
/-- A door; one not listed is not configured (08). -/
def State.door (s : State) (d : Nat) : DoorSt := tabGet s.doors {} d
/-- A state with one door changed. -/
def State.onDoor (s : State) (d : Nat) (f : DoorSt → DoorSt) : State := { s with doors := tabMod s.doors {} d f }
/-- A partition of the table; one not listed is not defined (02 R34). -/
def State.part (s : State) (p : Nat) : Partition := tabGet s.host.parts {} p
/-- What Creel keeps for a partition. -/
def State.pstat (s : State) (p : Nat) : PartSt := tabGet s.host.stats {} p
/-- A state with what Creel keeps for a partition changed. -/
def State.onPstat (s : State) (p : Nat) (f : PartSt → PartSt) : State :=
  s.onHost fun h => { h with stats := tabMod h.stats {} p f }
/-- A queue by number. -/
def State.queue (s : State) (q : Nat) : Queue := tabGet s.host.queues {} q
/-- A state with one queue changed. -/
def State.onQueue (s : State) (q : Nat) (f : Queue → Queue) : State :=
  s.onHost fun h => { h with queues := tabMod h.queues {} q f }

/-- A left fold of a state over a list. -/
def State.each {α : Type} (s : State) (l : List α) (f : State → α → State) : State := l.foldl f s

/-! ### Counters (19) -/

/-- A counter of the global set raised by `n` (19 R501). -/
def bump (s : State) (i : Nat) (n : Nat := 1) : State :=
  s.onCtr fun c => { c with cnt := tabMod c.cnt 0 i fun v => satAdd max48 v n }

/-- Counter `k` of a ring (19 R502). -/
def cRing (r k : Nat) : Nat := 32 * r + k
/-- Counter `k` of a side link. -/
def cSide (n k : Nat) : Nat := 0x80 + 8 * n + k
/-- Byte counter of a port: sent, or received. -/
def cBytes (p : Nat) (rx : Bool) : Nat := 0x90 + 2 * p + b2n rx
/-- Counter `k` of Creel and host. -/
def cCreel (k : Nat) : Nat := 0xC0 + k
/-- Counter `k` of a basket. -/
def cBasket (b k : Nat) : Nat := 0x100 + 32 * b + k
/-- Counter `k` of a shaft. -/
def cShaft (h k : Nat) : Nat := 0x200 + 16 * h + k
/-- Counter `k` of doors and dispatch. -/
def cDoor (k : Nat) : Nat := 0x280 + k
/-- Counter `k` of a CAN channel. -/
def cCan (c k : Nat) : Nat := 0x2C0 + 8 * c + k
/-- Threshold counter. -/
def cThr (k : Nat) : Nat := 0x300 + k
/-- Counter `k` of field I/O. -/
def cField (k : Nat) : Nat := 0x320 + k
/-- Counter `k` of the recorder. -/
def cRec (k : Nat) : Nat := 0x340 + k
/-- Counter at offset `c` of power. -/
def cPow (c : Nat) : Nat := 0x360 + c
/-- Counter `k` of memory, redundancy and safety. -/
def cMem (k : Nat) : Nat := 0x380 + k

/-- Partition counter 3C0h + `k` of a partition and its module sum raised by `n` (19 R503). -/
def bumpPart (s : State) (p k : Nat) (n : Nat := 1) : State :=
  (s.onPstat p fun t => { t with cnt := tabMod t.cnt 0 k fun v => satAdd max48 v n }).onHost fun h =>
    { h with modSum := tabMod h.modSum 0 k fun v => satAdd max48 v n }

/-! ### Events (17 R457, 02 R544) -/

/-- An event enters the recorder intake. With 256 entries waiting to be recorded it is dropped as a record and counted
(17 R457), and is still posted (02 R544). While the controller die is unpowered or in reset there is no recorder. -/
def raise (s : State) (e : Event) : State :=
  let e := { e with cycle := s.time.cycle }
  if s.sys.ctl ≠ .running then s
  else if e.record ∧ 256 ≤ (s.cairn.intake.filter fun x => x.record && !x.dropped).length then
    bump (s.onRec fun c => { c with
      intake := c.intake ++ [{ e with dropped := true }], drop := satAdd max32 c.drop 1,
      dropPend := c.dropPend + 1 }) (cRec 1)
  else s.onRec fun c => { c with intake := c.intake ++ [e] }

/-- An event of a class whose payload carries CODE at 16, SUBJECT at 18–19, the cycle at 20–23 and VALUE at 24–27
(17 R475, 18 R500). -/
def codeEvent (s : State) (cls source code subject : Nat) (value : Int) : State :=
  raise s { source, code, subject, value, cls := some cls,
            fields := [(16, 1, code), (18, 2, subject), (20, 4, (s.time.cycle : Int)), (24, 4, value)] }

/-- An event of class 60h (16 R456): CODE at 16, the cycle at 20–23, VALUE at 24–27; recorded under source 0Dh. -/
def powEvent (s : State) (code subject : Nat) (value : Int) : State :=
  raise s { source := 0x0D, code, subject, value, cls := some 0x60,
            fields := [(16, 1, code), (20, 4, (s.time.cycle : Int)), (24, 4, value)] }

/-- The weavers of an island that wakes and that a halt request waits for are halted, with their events (18 R493, R496,
R500); the STOP of R493 is being injected already, under the trip 15h of the session (18 R492). -/
def haltWoken (s : State) (i : Nat) : State :=
  s.each ((List.range 8).filter fun k => decide (i < 8) && s.dbg.whalt.getLsbD (8 * i + k)) fun s k =>
    (codeEvent s 0x7F 0x0F 5 (8 * i + k) 1).onDbg fun d => { d with reload := d.reload ||| BitVec.ofNat 64 (2 ^ (8 * i + k)) }

/-- An island enters or leaves S1 or S2, with its event (16 R443, R456): 0–7 basket, 8 Traverse. -/
def setSleep (s : State) (i st : Nat) : State :=
  if tabGet s.pow.sleep 0 i = st then s
  else
    let s := powEvent (s.onPow fun w => { w with sleep := tabSet w.sleep i st }) 6 i ((i + 16 * st : Nat) : Int)
    if st = 0 then haltWoken s i else s

/-- A record without an event (17 R460). -/
def recordOnly (s : State) (source code subject : Nat) (value : Int) : State :=
  raise s { source, code, subject, value }

/-! ### Time and places -/

/-- Length of a cycle in ns by the code of SYS.STATE.RATE (01 R28). -/
def cycleNs (rate : Nat) : Nat := match rate with | 0 => 62500 | 1 => 31250 | _ => 15625
/-- Cycles in a second. -/
def cyclesPerS (rate : Nat) : Nat := match rate with | 0 => 16000 | 1 => 32000 | _ => 64000
/-- Cycles in a ms. -/
def cyclesPerMs (rate : Nat) : Nat := match rate with | 0 => 16 | 1 => 32 | _ => 64
/-- Module limit on axes at a rate (03 R82, 04 R112). -/
def axisLimit (rate : Nat) : Nat := match rate with | 0 => 1024 | 1 => 512 | _ => 256
/-- Compute window in ns (01 R28). -/
def windowNs (rate : Nat) : Nat := match rate with | 0 => 20000 | 1 => 10000 | _ => 5000

/-- Basket clock at a level, in quarters of a GHz: 4, 3.2, 2, 1 as tenths of MHz (16 R437). -/
def clockMHz (level : Nat) : Nat := match level with | 0 => 1000 | 1 => 800 | 2 => 500 | _ => 250

/-- 11.52 ns in thousandths of a basket clock. -/
def crossMilli (level : Nat) : Nat := 1152 * clockMHz level / 100

/-- Compute window in basket clocks. -/
def windowTicks (rate level : Nat) : Nat := windowNs rate * clockMHz level / 1000

/-- Cut-off of the car-level programs in basket clocks (04 R143, 16 R438). -/
def cutOff (rate level : Nat) : Nat := windowTicks rate level - 9 - (crossMilli level + 999) / 1000

/-- Whether a weaver with `slots` occupied slots and `cars` car-level programs meets 04 R116 and R145 at a level. -/
def weaverFits (rate level slots cars : Nat) : Bool :=
  decide ((slots * 1244 + cars * 2488 + 9) * 1000 + crossMilli level ≤ windowTicks rate level * 1000) &&
  (cars == 0 || decide (slots * 1244 + cars * 2488 + cars * 1864 ≤ cutOff rate level))

/-- Weaver of an axis (04 R112). -/
def weaverOf (a : Nat) : Nat := a % 64
/-- Basket of an axis (04 R112). -/
def basketOf (a : Nat) : Nat := a % 64 / 8

/-- Level of a basket (16 R437). -/
def levelOf (s : State) (b : Nat) : Nat := tabGet s.pow.level 0 b

/-- Slowest level a basket may come to with the level change in progress, against which a configuration is checked
(16 R439). -/
def planLevel (s : State) (b : Nat) : Nat :=
  match s.pow.change with
  | some c => if c.mask.getLsbD b then max (levelOf s b) c.level else levelOf s b
  | none => levelOf s b

/-! ### Descriptor fields (04 R119, R120) -/

/-- Word `i` of a descriptor (offset 4i). -/
def dw (d : Desc) (i : Nat) : Nat := (tabGet d 0 i).toNat
/-- Word `i` as a signed value. -/
def dwI (d : Desc) (i : Nat) : Int := toI32 (dw d i)
/-- DESC.ID.LAW. -/
def dLaw (d : Desc) : Nat := bitsOf (dw d 0) 0 8
/-- DESC.ID.KIND. -/
def dKind (d : Desc) : Nat := bitsOf (dw d 0) 8 8
/-- Whether a KIND is a door kind (04 R114). -/
def isDoorKind (k : Nat) : Bool := k == 2 || k == 3 || k == 4
/-- DESC.ID.DIVM1. -/
def dDivM1 (d : Desc) : Nat := bitsOf (dw d 0) 16 4
/-- Sub-rate divider (04 R114). -/
def dDiv (d : Desc) : Nat := dDivM1 d + 1
/-- DESC.ID.PHASE. -/
def dPhase (d : Desc) : Nat := bitsOf (dw d 0) 20 4
/-- Bit `i` of DESC.OPT. -/
def dOpt (d : Desc) (i : Nat) : Bool := bitAt (dw d 1) i
/-- DESC.OPT.STALELIM. -/
def dStaleLim (d : Desc) : Nat := bitsOf (dw d 1) 8 5
/-- DESC.BANK.SEL. -/
def dSel (d : Desc) : Nat := bitsOf (dw d 2) 0 2
/-- DESC.SRC.FB. -/
def dFb (d : Desc) : Nat := bitsOf (dw d 3) 0 8
/-- DESC.SRC.REF. -/
def dRef (d : Desc) : Nat := bitsOf (dw d 3) 8 8
/-- DESC.SRC.OUT. -/
def dOut (d : Desc) : Nat := bitsOf (dw d 3) 16 8
/-- DESC.SRC.CHAN. -/
def dChan (d : Desc) : Nat := bitsOf (dw d 3) 24 8
/-- Word `w` of bank `b` (0 A, 1 B, 2 H). -/
def dBank (d : Desc) (b w : Nat) : Int := dwI d (16 + 12 * b + w)
/-- Shift `k` of a bank (words 9 and 10). -/
def dShift (d : Desc) (b k : Nat) : Nat :=
  if k < 6 then bitsOf (dw d (16 + 12 * b + 9)) (5 * k) 5 else bitsOf (dw d (16 + 12 * b + 10)) 0 5

/-! ### Free values -/

/-- The next free value's index, and the state with the counter advanced. -/
def draw (s : State) : Nat × State := (s.free, { s with free := s.free + 1 })

end Sys2Proof.Machine
end

