-- ==== Sys2Proof/Machine/HostOps.lean ====
section
/-! DEFINITION. Mailbox operations: answering a request, the stake cores' checks of 02 R46 steps 7 to 10, posting events,
and what Creel counts as room (02 R45 to R47, R52, R61, R544). -/
namespace Sys2Proof.Machine

/-- Continuation entries of a completion that reaches byte `n` (02 R43). -/
def contFor (n : Nat) : Nat := (n + 63) / 64 - 1

/-- Entries a request occupies: one when its CONT is malformed (02 R44). -/
def reqEntries (r : Request) : Nat := if 15 < r.cont then 1 else 1 + r.cont

/-- Continuation entries of the largest completion an opcode can receive for a request, as its completion layout gives them
(02 R47). -/
def maxCont (r : Request) : Nat :=
  match r.opcode with
  | 0x0101 => 2
  | 0x1101 => if rq r 16 1 == 0 then contFor (32 + 4 * clampN 1 248 (rq r 18 2)) else 0
  | 0x1302 => contFor (24 + 16 * clampN 1 60 (rq r 20 1))
  | 0x1310 => match rq r 17 1 with
    | 0 => contFor 92
    | 1 => contFor (28 + 4 * clampN 1 (clampN 1 240 (255 - rq r 24 1)) (rq r 25 1))
    | 2 => contFor (28 + 8 * clampN 1 (clampN 1 120 (512 - rq r 24 2)) (rq r 26 2))
    | 3 => contFor 108
    | _ => 0
  | 0x1410 => if bitAt (rq r 18 1) 0 then contFor (16 + 512) else 0
  | 0x1411 => if bitAt (rq r 18 1) 0 then contFor (16 + 512) else 0
  | 0x1430 => if rq r 18 1 = 1 then contFor 80 else 0
  | 0x1502 => contFor (32 + 16 * clampN 1 62 (rq r 18 1))
  | 0x2003 => contFor (32 + 48 * clampN 1 20 (rq r 20 1))
  | 0x3020 => if rq r 16 1 = 4 then contFor (28 + 2 * clampN 1 (min 24 (48 - rq r 24 1)) (rq r 25 1)) else 0
  | 0x3002 => contFor (24 + 8 * clampN 1 (clampN 1 16 (16 - rq r 16 1)) (rq r 17 1))
  | 0x3102 => if rq r 16 1 = 0 then contFor (32 + 88 * clampN 1 11 (rq r 18 1)) else contFor (32 + 88)
  | 0x4001 => 1
  | 0x4002 => contFor (24 + 16 * clampN 1 62 (rq r 18 1))
  | 0x6001 => 1
  | 0x7010 => if rq r 16 1 = 0 then contFor (32 + 2 * clampN 0 16 (rq r 23 1)) else 2
  | 0x7101 => contFor (24 + 8 * clampN 1 (clampN 1 120 (1024 - rq r 16 2)) (rq r 18 1))
  | _ => 0

/-- Entries of the largest completion an opcode can receive for a request (02 R47). -/
def maxEntries (r : Request) : Nat := if 15 < r.cont then 1 else 1 + maxCont r

/-- The byte a list of completion fields reaches. -/
def fieldsEnd (l : List (Nat × Nat × Int)) : Nat := l.foldl (fun n f => max n (f.1 + f.2.1)) 0

/-- Entries a completion takes (02 R43, R47). -/
def compEntries (c : Completion) : Nat := 1 + c.cont

/-- Depth of a queue. -/
def depthOf (q : Queue) : Nat := 2 ^ q.depthLog2

/-- Request entries that have not begun service (02 R47). -/
def waitingEntries (q : Queue) : Nat :=
  (q.slots.filter fun x => x.phase == .waiting).foldl (fun n x => n + reqEntries x.req) 0

/-- Entries reserved for completions not yet written: the whole reservation, or one entry for those that ended with a code
other than OK (02 R47). -/
def reservedEntries (q : Queue) : Nat :=
  q.slots.foldl (fun n x => n + match x.phase with
    | .done c => if c.code = 0 then x.reserve else 1
    | _ => x.reserve) 0

/-- Completion entries written and not yet consumed. -/
def unconsumed (q : Queue) : Nat := q.comps.foldl (fun n c => n + compEntries c) 0 - q.headRem

/-- Whether a mailbox admits a request at step 4 (02 R47): one whose completion alone is larger than the ring waits only for
the mailbox to hold no other reservation. -/
def hasRoom (q : Queue) (r : Request) : Bool :=
  let n := maxEntries r
  let d := depthOf q - 1
  decide (waitingEntries q + reqEntries r ≤ d) &&
  (decide (unconsumed q + reservedEntries q + n ≤ d) ||
   (decide (d < n) && reservedEntries q == 0))

/-- A message-signalled interrupt of a vector (02 R41). -/
def raiseVector (s : State) (v : Nat) : State :=
  if v < 64 then bump (s.onHost fun h => { h with msix := tabMod h.msix 0 v (· + 1) }) (cCreel 7) else s

/-- A write burst adds entries to a queue's host ring: its vector is raised, or the entries wait in LPDDR5 until the endpoint
has bus mastering (02 R41, 15 R428). -/
def raiseQueue (s : State) (qn : Nat) : State :=
  if s.sys.pcieUp ∧ ¬ s.sys.pcieQuiet then raiseVector s (s.queue qn).vector
  else s.onQueue qn fun q => { q with unraised := true }

/-- A datagram leaves for the queue of a number, numbered in that queue's own sequence; a mailbox holds the sequences of both
its queues (02 R61). -/
def sendDatagram (s : State) (n : Nat) (d : DatagramOut) : State :=
  if tabHas s.host.queues n then
    let k := ((s.queue n).seq + 1) % 4294967296
    (s.onQueue n fun q => { q with seq := k }).onHost fun h => { h with sent := { d with queue := n, seq := k } :: h.sent }
  else
    let k := ((s.queue (n - 1)).cseq + 1) % 4294967296
    (s.onQueue (n - 1) fun q => { q with cseq := k }).onHost fun h =>
      { h with sent := { d with queue := n, seq := k } :: h.sent }

/-- The leading answered requests of a mailbox, and the rest. -/
def splitDone : List Slot → List (Request × Completion) × List Slot
  | [] => ([], [])
  | x :: r =>
    match x.phase with
    | .done c => let (d, t) := splitDone r; ((x.req, c) :: d, t)
    | _ => ([], x :: r)

/-- A deleted mailbox is removed; what its host ring holds stays where the host reads it (02 R65). -/
def removeQueue (s : State) (qn : Nat) : State :=
  s.onHost fun h => { h with
    direct := (s.queue qn).comps.reverse.map (fun c => (qn, c)) ++ h.direct, queues := tabDel h.queues qn }

/-- The address of a sys.subscribe (02 R546), in the byte order of its IP header. -/
def subAddr (r : Request) : IpAddr :=
  if rq r 21 1 = 6 then { v6 := true, addr := beAt r.payload 8 16 } else { v6 := false, addr := beAt r.payload 8 4 }

/-- What comes into force with a completion's writing: a subscription or its end (02 R546), and a new key (02 R65). -/
def whenWritten (s : State) (r : Request) (c : Completion) : State :=
  let n := rq r 16 4
  if c.code ≠ 0 ∨ !tabHas s.host.queues n then s
  else match r.opcode with
  | 0x0010 =>
    let f := rq r 21 1
    s.onQueue n fun q => { q with
      inForce := q.inForce ||| BitVec.ofNat 17 (2 ^ classBit (rq r 20 1))
      dest := if f = 0 then q.dest else subAddr r
      dport := if f = 0 then q.dport else rq r 22 2
      evPort := r.port }
  | 0x0011 =>
    s.onQueue n fun q => { q with
      inForce := if rq r 20 1 = 0xFF then 0 else q.inForce &&& ~~~ BitVec.ofNat 17 (2 ^ classBit (rq r 20 1)) }
  | 0x0113 =>
    match c.fields.find? fun x => x.1 == 32 with
    | some x => s.onQueue n fun q => { q with key := BitVec.ofInt 64 x.2.2 }
    | none => s
  | _ => s

/-- Writes the completions that ring order lets out (02 R45), by DMA or in datagrams (02 R61), and removes a deleted
mailbox whose started requests are answered (02 R65). -/
def flushQueue (s : State) (qn : Nat) : State :=
  let q := s.queue qn
  let (d, rest) := splitDone q.slots
  if d.isEmpty then
    if q.deleting ∧ rest.isEmpty then removeQueue s qn else s
  else
    let s := s.onQueue qn fun q => { q with slots := rest }
    let s :=
      if q.transport = 0 then
        raiseQueue (s.onQueue qn fun q => { q with comps := q.comps ++ d.map (·.2) }) qn
      else
        s.each d fun s (r, c) =>
          sendDatagram s (qn + 1) { port := r.port, dst := r.src, dport := r.sport, type := 2, comps := [c] }
    let s := s.each d fun s (r, c) => whenWritten s r c
    if q.deleting ∧ rest.isEmpty then removeQueue s qn else s

/-- Whether a slot holds a request: the one of its opcode, TAG and serial number. -/
def isSlotOf (r : Request) (x : Slot) : Bool :=
  x.phase == .started && x.req.tag == r.tag && x.req.opcode == r.opcode && x.req.serial == r.serial

/-- A started request answered (02 R45). -/
def markDone (l : List Slot) (r : Request) (c : Completion) : List Slot :=
  match l with
  | [] => []
  | x :: t => if isSlotOf r x then { x with phase := .done c } :: t else x :: markDone t r c

/-- Whether a mailbox holds a request that has begun service. -/
def hasStarted (q : Queue) (r : Request) : Bool := q.slots.any (isSlotOf r)

/-- The queue of a request that a journal entry carries: no completion is written for it (13 R377). -/
def journalQueue : Nat := 1048576

/-- A request is answered: its completion takes its place in ring order (02 R45); a request given without a hand-over is
answered directly. Codes DENIED, NO_SUCH and TIMEOUT are counted for the partition (19 R503). -/
def answer (s : State) (r : Request) (c : Completion) : State :=
  if r.queue = journalQueue then s
  else
  let c := { c with opcode := r.opcode, tag := r.tag }
  let s := match c.code with
    | 4 => bumpPart s r.part 6
    | 5 => bumpPart s r.part 5
    | 6 => bumpPart s r.part 7
    | _ => s
  if hasStarted (s.queue r.queue) r then
    flushQueue (s.onQueue r.queue fun q => { q with slots := markDone q.slots r c }) r.queue
  else whenWritten (s.onHost fun h => { h with direct := (r.queue, c) :: h.direct }) r c

/-- Completion OK (02 R45 code 00h). -/
def ok (s : State) (r : Request) (fields : List (Nat × Nat × Int) := []) (detail : Nat := 0) (cont : Nat := 0) : State :=
  answer s r { code := 0, fields, detail, cont := max cont (contFor (fieldsEnd fields)) }
/-- Completion REFUSED, with a retry-after or 0 in DETAIL. -/
def refused (s : State) (r : Request) (detail : Nat := 0) (fields : List (Nat × Nat × Int) := []) : State :=
  answer s r { code := 2, detail, fields }
/-- Completion NOT_READY. -/
def notReady (s : State) (r : Request) : State := answer s r { code := 3 }
/-- Completion NO_SUCH, with the offset of the failing field in DETAIL. -/
def noSuch (s : State) (r : Request) (off : Nat) : State := answer s r { code := 4, detail := off }
/-- Completion DENIED. -/
def denied (s : State) (r : Request) : State := answer s r { code := 5 }
/-- Completion TIMEOUT. -/
def timedOut (s : State) (r : Request) : State := answer s r { code := 6 }

/-- Whether a partition holds the right of an opcode's class (02 R35, R46 step 7). -/
def hasRight (s : State) (p op : Nat) : Bool :=
  let b := classBit (op / 256)
  let t := s.part p
  if isQuery op then t.qrights.getLsbD b else t.arights.getLsbD b

/-- Clamped fields counted, the last one kept (02 R52). -/
def noteClamps (s : State) (r : Request) (offs : List Nat) : State :=
  match offs.getLast? with
  | none => s
  | some o => (bumpPart s r.part 2 offs.length).onPstat r.part fun t => { t with lastOp := r.opcode, lastOff := o }

/-- Steps 7 to 11 of 02 R46: right, readiness, enumerated fields, clamped fields, execution. -/
def serve (s : State) (r : Request) (op : Nat) (ready : Bool) (bad : Option Nat) (clamps : List Nat)
    (run : Request → State → State) : State :=
  let r := { r with opcode := op }
  if !hasRight s r.part op then denied s r
  else if !ready then notReady s r
  else match bad with
    | some o => noSuch s r o
    | none => run r (noteClamps s r clamps)

/-- Whether an event queue takes an event (02 R546, 09 R278). -/
def takesEvent (s : State) (q : Queue) (e : Event) (cls : Nat) : Bool :=
  q.event && !q.deleting && q.inForce.getLsbD (classBit cls) &&
  (match e.owner with | none => true | some p => q.part == p || (s.part q.part).supervisor)

/-- An event is offered to one event queue: posted, or dropped and counted when the queue is full (02 R40, R544). -/
def offerEvent (s : State) (qn : Nat) (e : Event) (cls : Nat) : State :=
  let q := s.queue qn
  let n := if q.evSeq + 1 = 4294967296 then 1 else q.evSeq + 1
  let c : Completion := { opcode := cls * 256, tag := n, detail := q.dropped, fields := e.fields }
  if q.transport ≠ 0 then
    let s := bumpPart (s.onQueue qn fun q => { q with evSeq := n, dropped := 0 }) q.part 8
    sendDatagram s qn { port := if q.transport = 3 then q.evPort else q.transport, dst := q.dest, dport := q.dport,
                        type := 2, gap := q.dropped, comps := [c] }
  else if unconsumed q + 1 ≤ depthOf q - 1 then
    raiseQueue (bumpPart (s.onQueue qn fun q => { q with evSeq := n, dropped := 0, comps := q.comps ++ [c] }) q.part 8) qn
  else
    bump (bumpPart (s.onQueue qn fun q => { q with evSeq := n, dropped := satAdd max32 q.dropped 1 }) q.part 9) (cCreel 8)

/-- An event is posted to every event queue that takes it (02 R544). -/
def postEvent (s : State) (e : Event) : State :=
  match e.cls with
  | none => s
  | some cls => s.each (s.host.queues.filter fun p => takesEvent s p.2 e cls) fun s p => offerEvent s p.1 e cls

end Sys2Proof.Machine
end

