-- ==== Sys2Proof/Machine/SafetyOps.lean ====
section
/-! DEFINITION. Shared operations of the safety channels (10): trips and their latches, output lines, the proofs taken from
safe records, the clearing of causes, stop injection, the safety image and the fields of safety.status. -/
namespace Sys2Proof.Machine

/-! ### The channels -/

/-- A safety channel. -/
def State.chan (s : State) : Chan → ChanSt
  | .core => s.safety.core
  | .scarp => s.safety.scarp
/-- A state with one safety channel changed. -/
def State.onChan (s : State) (c : Chan) (f : ChanSt → ChanSt) : State :=
  s.onSafety fun y => match c with
    | .core => { y with core := f y.core }
    | .scarp => { y with scarp := f y.scarp }

/-- The other channel. -/
def otherChan : Chan → Chan
  | .core => .scarp
  | .scarp => .core
/-- CHANNEL of an event (10 R317). -/
def chanNo : Chan → Nat
  | .core => 1
  | .scarp => 2
/-- A scope as a number: the shaft, or 8 for the module. -/
def scopeNo : Scope → Nat
  | .shaft n => n
  | .module => 8

/-- An event of class 20h with its record (10 R317): scope 0–7, or 8 for the module. -/
def safetyEvent (s : State) (code scope cause channel : Nat) (value : Int) : State :=
  let sc := if 8 ≤ scope then 0xFF else scope
  raise s { source := 0x0A, code, subject := sc * 256 + channel, value, cls := some 0x20,
            fields := [(16, 1, code), (17, 1, sc), (18, 1, cause), (19, 1, channel), (20, 4, (s.time.cycle : Int)),
                       (24, 4, value)] }

/-- The shafts of a channel's configuration. -/
def cfgShafts (c : ChanSt) : List Nat := (List.range 8).filter fun h => tabHas c.cfg.shafts h
/-- A shaft of a channel's configuration. -/
def cfgShaft (c : ChanSt) (h : Nat) : SafeShaft := tabGet c.cfg.shafts {} h
/-- The causes latched for a scope. -/
def latchOf (c : ChanSt) (scope : Nat) : List Nat := if 8 ≤ scope then c.modTrip else tabGet c.shaftTrip [] scope
/-- A channel with the causes latched for a scope replaced. -/
def setLatch (c : ChanSt) (scope : Nat) (l : List Nat) : ChanSt :=
  if 8 ≤ scope then { c with modTrip := l } else { c with shaftTrip := tabSet c.shaftTrip scope l }

/-- A trip is latched in a channel's memory, without an event. -/
def latchQuiet (s : State) (c : Chan) (scope cause : Nat) : State :=
  let x := s.chan c
  if !x.running || (latchOf x scope).contains cause then s
  else (s.onChan c fun x => setLatch x scope (latchOf x scope ++ [cause])).onSafety fun y => { y with tripTime := s.time.now }

/-- A channel latches a trip of a scope with a cause, and reports it with the car concerned (10 R283, R317). -/
def latchTrip (s : State) (c : Chan) (scope cause car : Nat) : State :=
  let x := s.chan c
  if !x.running || (latchOf x scope).contains cause then s
  else safetyEvent (latchQuiet s c scope cause) 1 scope cause (chanNo c) (car : Int)

/-- Both channels latch a module trip (10 R308, R312, R537). -/
def tripModule (s : State) (cause : Nat) : State :=
  let fresh := (s.safety.core.running && !s.safety.core.modTrip.contains cause) ||
    (s.safety.scarp.running && !s.safety.scarp.modTrip.contains cause)
  let s := latchQuiet (latchQuiet s .core 8 cause) .scarp 8 cause
  if fresh then safetyEvent s 1 8 cause 3 255 else s

/-! ### Records and proofs (10 R293, R300, R301) -/

/-- Whether a car record carries a usable position (10 R295). -/
def recValid (r : CarRec) : Bool := r.status.getLsbD 0 && !r.status.getLsbD 5
/-- CDCLOSED of a record: both car-door bits (10 R293). -/
def recClosed (r : CarRec) : Bool := r.status.getLsbD 1 && r.status.getLsbD 4
/-- What a channel holds of a car. -/
def safeCarOf (c : ChanSt) (car : Nat) : SafeCarSt := tabGet c.cars {} car
/-- The record of a car in a stream (false A, true B). -/
def recOf (c : ChanSt) (b : Bool) (car : Nat) : Option CarRec :=
  if b then (safeCarOf c car).recB else (safeCarOf c car).recA
/-- Whether landing `i` of a shaft is proven locked in a stream. -/
def lockedIn (c : ChanSt) (b : Bool) (h i : Nat) : Bool :=
  (tabGet c.locks 0 (8 * h + 2 * (i / 64) + b2n b)).getLsbD (i % 64)

/-- The car below and above a car of a shaft in ORDER. -/
def neighbours (l : List SafeCar) (car : Nat) : Option SafeCar × Option SafeCar :=
  match l with
  | [] => (none, none)
  | [_] => (none, none)
  | x :: y :: r =>
    if x.car = car then (none, some y)
    else if y.car = car then (some x, r.head?)
    else neighbours (y :: r) car

/-- The band of a car in a stream: from the top of the car below to the car above, or to the ends of the shaft (10 R300). -/
def bandOf (c : ChanSt) (b : Bool) (sh : SafeShaft) (car : Nat) : Int × Int :=
  let (below, above) := neighbours sh.cars car
  let lo := match below with
    | none => sh.zslo
    | some k => match recOf c b k.car with | some r => r.pos + k.h | none => sh.zslo
  let hi := match above with
    | none => sh.zshi
    | some k => match recOf c b k.car with | some r => r.pos | none => sh.zshi
  (lo, hi)

/-- The landings of a car's band in a stream. -/
def bandLandings (c : ChanSt) (b : Bool) (sh : SafeShaft) (car : Nat) : List Nat :=
  let (lo, hi) := bandOf c b sh car
  (List.range sh.lp.length).filter fun i => decide (lo ≤ sh.lp.getD i 0) && decide (sh.lp.getD i 0 ≤ hi)

/-- The landing nearest to a position. -/
def nearest (lp : List Int) (p : Int) : Option Nat :=
  (List.range lp.length).foldl (fun a i => match a with
    | none => some i
    | some j => if iabs (p - lp.getD i 0) < iabs (p - lp.getD j 0) then some i else some j) none

/-- The landing in whose door zone a position lies (10 R301). -/
def zoneOf (sh : SafeShaft) (p : Int) : Option Nat :=
  match nearest sh.lp p with
  | some i => if iabs (p - sh.lp.getD i 0) ≤ sh.ucmz then some i else none
  | none => none

/-- The shaft of a car in a channel's configuration, with the car's entry. -/
def shaftOfCar (c : ChanSt) (car : Nat) : Option (Nat × SafeCar) :=
  (cfgShafts c).findSome? fun h => ((cfgShaft c h).cars.find? fun k => k.car == car).map fun k => (h, k)

/-- The shafts that use a link: those of its cars and of its lock records (10 R295). -/
def shaftsOfLink (c : ChanSt) (l : Nat) : List Nat :=
  (cfgShafts c).filter fun h =>
    ((cfgShaft c h).cars.any fun k => k.link == l) || ((tabGet c.cfg.links {} l).locks.any fun x => x.1 == h)

/-- The links that a shaft uses. -/
def linksOfShaft (c : ChanSt) (h : Nat) : List Nat :=
  (c.cfg.links.map (·.1)).filter fun l => (shaftsOfLink c l).contains h

/-! ### Output lines (10 R279, R283, R284, R300) -/

/-- Whether a channel may energise any output: it runs, the handshake has completed, no cause without a latch holds, and the
field 24 V is present (10 R307, R308, 20 R525). -/
def chanEnabled (s : State) (c : Chan) : Bool :=
  let x := s.chan c
  x.running && s.sys.safe && !s.safety.asleep && !x.pairOff && !s.supply.f24Low && x.modTrip.isEmpty

/-- Whether a car runs a journey (07): it is MOVING or STOPPING, or makes an inspection move (07 R226). -/
def runsJourney (s : State) (car : Nat) : Bool :=
  let k := tabGet s.motion.cars {} car
  k.state == .moving || k.state == .stopping || (k.state == .inspection && k.journey.isSome)

/-- BRKGRANT of a car in a channel (10 R300). -/
def grantOf (s : State) (c : Chan) (car : Nat) : Bool :=
  let x := s.chan c
  match shaftOfCar x car with
  | none => false
  | some (h, _) =>
    let sh := cfgShaft x h
    (tabGet s.motion.cars {} car).brakeReq && x.running && x.modTrip.isEmpty && (latchOf x h).isEmpty &&
    !(safeCarOf x car).brakeFail &&
    [false, true].all fun b =>
      match recOf x b car with
      | none => false
      | some r => recClosed r && (bandLandings x b sh car).all fun i => lockedIn x b h i

/-- The cars of a brake group in a channel's configuration, with their shafts. -/
def groupCars (x : ChanSt) (n : Nat) : List (Nat × Nat) :=
  (cfgShafts x).flatMap fun h => ((cfgShaft x h).cars.filter fun k => k.brake == n).map fun k => (h, k.car)

/-- Whether a channel closes its switches of a drive group (10 R284, R309). -/
def stoOn (s : State) (c : Chan) (n : Nat) : Bool :=
  let x := s.chan c
  let h := tabGet x.cfg.groupShaft 8 n
  chanEnabled s c && (x.cfg.axisGroup.any fun p => p.2 == n) && (decide (8 ≤ h) || (latchOf x h).isEmpty)

/-- Whether a channel closes its switches of a brake group (10 R300). -/
def sbcOn (s : State) (c : Chan) (n : Nat) : Bool :=
  let x := s.chan c
  let l := groupCars x n
  chanEnabled s c && (l.all fun p => (latchOf x p.1).isEmpty) && l.any fun p => grantOf s c p.2 || runsJourney s p.2

/-- Whether a channel closes its switch of a line: 0–15 STO0A, STO0B, …, 16–23 SBC0A, SBC0B, …. -/
def lineOn (s : State) (c : Chan) (l : Nat) : Bool := if l < 16 then stoOn s c (l / 2) else sbcOn s c ((l - 16) / 2)

/-- Whether a line is energised: both switches closed (10 R279). -/
def lineLive (s : State) (l : Nat) : Bool := lineOn s .core l && lineOn s .scarp l

/-- The drive groups whose STO outputs are energised (10 R316 STO). -/
def stoByte (s : State) : Nat := ofBits ((List.range 8).map fun n => stoOn s .core n && stoOn s .scarp n)
/-- The brake groups energised (10 R316 SBC). -/
def sbcByte (s : State) : Nat := ofBits ((List.range 4).map fun n => sbcOn s .core n && sbcOn s .scarp n)

/-- Whether a read-back shows a line energised while commanded off, or off while both channels command it on (10 R308). -/
def readbackBad (s : State) (c : Chan) (rb : BitVec 24) : Bool :=
  (List.range 24).any fun l =>
    let own := lineOn s c l
    (!own && rb.getLsbD l) || (own && lineOn s (otherChan c) l && !rb.getLsbD l)

/-! ### Causes and their clearing (10 R298, R306, R308) -/

/-- Whether the feedback of a car's brake disagrees with itself or with its group in some stream (10 R300). -/
def brakeBad (s : State) (c : Chan) (k : SafeCar) : Bool :=
  let x := s.chan c
  let group := sbcOn s c k.brake
  [false, true].any fun b =>
    match recOf x b k.car with
    | none => false
    | some r => (r.status.getLsbD 2 == r.status.getLsbD 3) || (!group && !r.status.getLsbD 3)

/-- Whether a pair's or point's scope covers a shaft, or the module (8). -/
def inScope (module : Bool) (shafts : BitVec 8) (scope : Nat) : Bool :=
  if 8 ≤ scope then module else module || shafts.getLsbD scope

/-- Whether the compared items of the channels' status words differ, trip latches aside (10 R282). -/
def wordsDiffer (s : State) : Bool :=
  let a := s.safety.core
  let b := s.safety.scarp
  (List.range 16).any (fun p => (tabGet a.pairs {} p).closed != (tabGet b.pairs {} p).closed ||
    (tabGet a.pairs {} p).fault != (tabGet b.pairs {} p).fault) ||
  (List.range 4).any (fun p => (tabGet a.points {} p).present != (tabGet b.points {} p).present) ||
  (List.range 48).any (fun k => (tabGet a.streams {} k).lost != (tabGet b.streams {} k).lost) ||
  (List.range 16).any (fun k => decide (tabGet a.demand [] k ≠ tabGet b.demand [] k)) ||
  decide (a.image ≠ b.image)

/-- Whether the trip latches of the channels differ (10 R282). -/
def latchesDiffer (s : State) : Bool :=
  (List.range 9).any fun h => decide (latchOf s.safety.core h ≠ latchOf s.safety.scarp h)

/-- Whether a cause of a trip has cleared in a channel, so that a reset edge may clear it (10 R306 to R308). -/
def causeCleared (s : State) (c : Chan) (scope cause : Nat) (afterSafe : Bool) : Bool :=
  let x := s.chan c
  let shafts := if 8 ≤ scope then cfgShafts x else [scope]
  match cause with
  | 0x01 => x.cfg.pairs.all fun p =>
      !((p.2.func == 1 || p.2.func == 2) && (inScope p.2.module p.2.shafts scope || (decide (8 ≤ scope) &&
          (cfgShafts x).any fun h => p.2.shafts.getLsbD h && (cfgShaft x h).module.contains 1))) ||
      (tabGet x.pairs {} p.1).closed
  | 0x02 => x.cfg.points.all fun p => !(p.2.mode != 0 && inScope p.2.module p.2.shafts scope) || (tabGet x.points {} p.1).present
  | 0x0A => true
  | 0x0B => shafts.all fun h => (cfgShaft x h).cars.all fun k => !brakeBad s c k
  | 0x0C => shafts.all fun h =>
      ((linksOfShaft x h).all fun l => [0, 1].all fun b =>
        let t := tabGet x.streams {} (2 * l + b)
        !t.lost && decide (x.cfg.linkTo ≤ t.good)) && (cfgShaft x h).cars.all fun k => !(safeCarOf x k.car).lost
  | 0x0D => shafts.all fun h => (linksOfShaft x h).all fun l => decide (16 ≤ tabGet x.agree 0 l)
  | 0x0E => true
  | 0x10 => x.readback == 0
  | 0x11 => !wordsDiffer s
  | 0x12 => s.safety.core.running && s.sys.safe && !s.dbg.chalt.getLsbD 8
  | 0x13 => false
  | 0x14 => !s.safety.crcBad
  | 0x15 => s.dbg.level != .intrusive
  | 0x16 => s.safety.session.isNone
  | 0x17 => afterSafe && s.sys.safe && !s.safety.crcBad
  | 0x18 => !(s.loop.weavers.any fun w => w.2.stopped)
  | _ => shafts.all fun h => [0, 1].all fun b => !(tabGet x.demand [] (2 * h + b)).contains cause

/-- The causes of a scope that have not cleared. -/
def openCauses (s : State) (c : Chan) (scope : Nat) (afterSafe : Bool) : List Nat :=
  (latchOf (s.chan c) scope).filter fun k => !causeCleared s c scope k afterSafe

/-- A channel clears the trip latch of a scope, or reports the first cause present (10 R306, R317). -/
def clearScope (s : State) (c : Chan) (scope : Nat) (afterSafe : Bool) : State :=
  let l := latchOf (s.chan c) scope
  if l.isEmpty then s
  else match openCauses s c scope afterSafe with
    | k :: _ => safetyEvent s 3 scope k (chanNo c) 0
    | [] =>
      let s := safetyEvent s 2 scope (l.headD 0) (chanNo c) 0
      let s := s.onChan c fun x => { setLatch x scope [] with cleared := tabSet x.cleared scope l }
      let s := s.onChan c fun x => { x with
        cars := (if 8 ≤ scope then x.cars else x.cars).map fun p =>
          (p.1, if 8 ≤ scope ∨ (cfgShaft x scope).cars.any (fun k => k.car == p.1) then { p.2 with brakeFail := false } else p.2) }
      if scope = 8 ∧ c = .scarp then
        s.each ((s.rings.filter fun p => p.2.state != .off && p.2.state != .sleeping).map (·.1)) fun s r =>
          s.onRing r fun g => { g with releaseN := 8 }
      else s

/-- A reset edge on a pair acts in a channel (10 R306): the module reset input clears the module trip and every shaft trip,
a shaft's reset input that shaft's. Whether its press began after SYS.STATE.SAFE read 1 decides for cause 17h (10 R307). -/
def resetEdge (s : State) (c : Chan) (p : Nat) (after : Bool) : State :=
  let x := s.chan c
  if x.cfg.modReset = some p then (List.range 9).foldr (fun h s => clearScope s c h after) s
  else s.each ((cfgShafts x).filter fun h => (cfgShaft x h).reset == some p) fun s h => clearScope s c h after

/-! ### Safe stop 1 (10 R299) -/

/-- Velocity of a car in a channel: that of stream A, else of stream B. -/
def safeVel (x : ChanSt) (car : Nat) : Int :=
  match recOf x false car, recOf x true car with
  | some r, _ => r.vel
  | none, some r => r.vel
  | none, none => 0

/-- A safe stop 1 of a shaft begins in a channel, with its event (10 R299, R317); a shaft already tripped or stopping needs
none. -/
def startSs1 (s : State) (c : Chan) (h cause : Nat) : State :=
  let x := s.chan c
  if !x.running || (tabGet x.ss1 {} h).on || !(latchOf x h).isEmpty || !x.modTrip.isEmpty then s
  else
    let l := (cfgShaft x h).cars.map fun k => (k.car, safeVel x k.car)
    let fast := l.foldl (fun a p => if iabs a < iabs p.2 then p.2 else a) 0
    safetyEvent (s.onChan c fun x => { x with ss1 := tabSet x.ss1 h { on := true, t0 := x.clk, cause, v0 := l } })
      0x0B h cause (chanNo c) fast

/-- A safe stop 1 in progress in a shaft is also that of a demand of module scope (10 R289). -/
def markSs1 (s : State) (c : Chan) (h : Nat) : State :=
  if (tabGet (s.chan c).ss1 {} h).on then
    s.onChan c fun x => { x with ss1 := tabMod x.ss1 {} h fun t => { t with module := true } }
  else s

/-- Whether a channel runs a safe stop 1 of a demand of module scope. -/
def moduleSs1 (x : ChanSt) : Bool := x.ss1.any fun p => p.2.on && p.2.module

/-- A channel whose safe stop 1 of a shaft is over. -/
def ss1Off (h : Nat) (x : ChanSt) : ChanSt := { x with ss1 := tabMod x.ss1 {} h fun t => { t with on := false } }

/-- The scope of the trip that ends a safe stop 1 of a shaft (10 R299): one of module scope trips the module when its bound is
violated, or with the last shaft that stops; a shaft that stops before that trips alone. -/
def ss1Scope (x : ChanSt) (h cause : Nat) : Nat :=
  if ((tabGet x.ss1 {} h).module && (cause == 0x0A || !moduleSs1 (ss1Off h x))) || (cfgShaft x h).module.contains cause then 8 else h

/-- The safe stop 1 of a shaft is over: a trip follows (10 R299). -/
def endSs1 (s : State) (c : Chan) (h cause : Nat) : State :=
  latchTrip (s.onChan c (ss1Off h)) c (ss1Scope (s.chan c) h cause) cause 255

/-! ### Stop injection and faults -/

/-- The Scarp die drives the stop selection of every lane: STOP on each lit ring, counted (03 R102, 10 R304). -/
def sendStop (s : State) : State :=
  s.each ((s.rings.filter fun p => p.2.state != .off && p.2.state != .sleeping).map (·.1)) fun s r =>
    bump (s.onRing r fun g => { g with out := (.stop 1, 64) :: g.out }) (cRing r 15)

/-- A halt by the debug unit reaches the Scarp die: module trip 15h, STOP on every lane (10 R304, R308, 18 R493). -/
def injectStop (s : State) : State :=
  let s := latchTrip s .scarp 8 0x15 255
  if s.safety.scarp.running then sendStop s else s

/-- A basket stops a weaver (04 R142, R144): it counts as a halted weaver, and the Scarp die latches module trip 18h. -/
def stopWeaver (s : State) (w : Nat) : State :=
  if (s.weaver w).stopped then s
  else
    let s := latchTrip (s.onWeaver w fun x => { x with stopped := true }) .scarp 8 0x18 w
    if s.safety.scarp.running then sendStop s else s

/-- FAILED is set on an active: it is fenced from its next instant (13 R382). -/
def setFailed (s : State) : State :=
  if s.red.role = .active then
    s.onRed fun d => { d with failed := true, fenceDue := if d.fenceDue = none then some 1 else d.fenceDue }
  else s

/-- A weaver fault (04 R142, R144, 13 R382): the basket stops the weaver, the module has failed. -/
def weaverFault (s : State) (w : Nat) : State := if (s.weaver w).stopped then s else setFailed (stopWeaver s w)

/-- The safety core halts with a module trip 12h, which the Scarp die latches on the loss of its heartbeat (10 R308). -/
def haltCore (s : State) : State :=
  let s := tripModule s 0x12
  (s.onChan .core fun x => { x with running := false }).onSys fun y => { y with safe := false }

/-- The state in which a channel starts: every latch, filter and record cleared, its copy of the configuration kept. -/
def freshChan (x : ChanSt) (trips : List Nat) : ChanSt := { running := true, image := x.image, cfg := x.cfg, modTrip := trips }

/-! ### Motion and log -/

/-- Whether a car or a door is in a state named in 10 R312. -/
def inMotion (s : State) : Bool :=
  (s.motion.cars.any fun c => [CarState.preparing, .weighing, .moving, .stopping, .inspection].contains c.2.state) ||
  s.doors.any fun d => [DoorState.opening, .closing, .reopening, .nudging].contains d.2.state

/-- Whether a shaft is in inspection operation in a channel (10 R289). -/
def inspOf (x : ChanSt) (h : Nat) : Bool :=
  match (cfgShaft x h).insp with
  | some p => !(tabGet x.pairs {} p).closed
  | none => false
/-- Whether a direction input of a shaft is held in a channel: up, down. -/
def dirOf (x : ChanSt) (h : Nat) : Bool × Bool :=
  let held := fun (p : Option Nat) => match p with | some p => (tabGet x.pairs {} p).closed | none => false
  (held (cfgShaft x h).up, held (cfgShaft x h).down)

/-- Whether a shaft is in inspection stop (10 R316). -/
def shaftInspStop (s : State) (h : Nat) : Bool :=
  [Chan.core, .scarp].all fun c =>
    let x := s.chan c
    inspOf x h && !(dirOf x h).1 && !(dirOf x h).2 &&
    (cfgShaft x h).cars.all fun k => [false, true].all fun b =>
      match recOf x b k.car with | some r => decide (iabs r.vel ≤ (cfgShaft x h).vstill) | none => false

/-- Whether every configured shaft is in inspection stop (18 R490). -/
def inspectionStop (s : State) : Bool := (cfgShafts s.safety.core).all fun h => shaftInspStop s h

/-- Whether the change log holds an entry of type 1. -/
def logHasCommit (s : State) : Bool := s.safety.log.any fun e => e.type == 1

/-- An entry is written to the change log, which keeps the newest 1,024 (10 R315). -/
def logWrite (s : State) (type : Nat) (user : List Byte) (old new : Nat) : State :=
  s.onSafety fun y => { y with
    log := ({ time := s.time.now, seq := y.logSeq, type, user, oldCrc := old, newCrc := new } :: y.log).take 1024
    logSeq := y.logSeq + 1 }

/-! ### The configuration image (10 R309, R310) -/

/-- The 16,384 bytes of an image: the factory image with the bytes written over it. -/
def imageBytes (t : Tab Byte) : List Byte := (List.range 16384).map fun i => tabGet t (Config.factoryByte i) i
/-- CRC-32C of an image. -/
def imageCrc (t : Tab Byte) : Nat := crc32c (imageBytes t)

/-- The signed value of a decoded parameter. -/
def imgI (img : List Byte) (p i : Nat) : Int := toI32 (Config.imageParam img p i)
/-- A decoded pair number, none when it is not 0–15. -/
def imgPair (img : List Byte) (p i : Nat) : Option Nat :=
  let v := Config.imageParam img p i
  if v < 16 then some v else none

/-- Parameters of pair `i` (10 R309). -/
def imgPairCfg (img : List Byte) (i : Nat) : PairCfg :=
  let p := fun n => Config.imageParam img n i
  { type := p 0, func := p 1, module := p 2 == 1, shafts := BitVec.ofNat 8 (p 3), group := p 4, filt := p 5, disc := p 6 }
/-- Parameters of monitoring point `i`. -/
def imgPoint (img : List Byte) (i : Nat) : PointCfg :=
  let p := fun n => Config.imageParam img n i
  { mode := p 8, module := p 9 == 1, shafts := BitVec.ofNat 8 (p 10), cfilt := p 11 }
/-- Parameters of link `i`: 0–7 local, 8–23 trunk safe links (10 R309, 14 R418, R419). -/
def imgLink (img : List Byte) (i : Nat) : LinkCfg :=
  let p := fun n => Config.imageParam img n i
  { srcA := p 16, srcB := p 17
    cars := (List.range 14).filterMap fun k => let v := Config.imageParam img 18 (16 * i + k); if v < 64 then some v else none
    locks := (List.range 14).filterMap fun k =>
      let v := Config.imageParam img 19 (16 * i + k); if v < 32 then some (v / 4, v % 4 * 64) else none
    groups := p 20 == 1, rings := (p 21 % 4, p 22 % 4)
    publish := if p 23 < 16 then some (p 23, p 24 % 4, p 25 % 4) else none }
/-- Parameters of shaft `h` (10 R309). -/
def imgShaft (img : List Byte) (h : Nat) : SafeShaft :=
  let v := fun n => imgI img n h
  let car := fun k : Nat =>
    let q := fun n => Config.imageParam img n (8 * h + k)
    ({ car := q 32 % 64, order := k, h := imgI img 33 (8 * h + k), brake := q 34 % 4, link := q 35 % 24 } : SafeCar)
  { cars := (List.range (Config.imageParam img 36 h % 9)).map car
    lp := (List.range (Config.imageParam img 37 h % 256)).map fun i => imgI img 38 (256 * h + i)
    reset := imgPair img 39 h, insp := imgPair img 40 h, up := imgPair img 41 h, down := imgPair img 42 h
    vsl := v 43, vsli := v 44, slsr := Config.imageParam img 45 h == 1, vaos := v 46, zslo := v 47, zshi := v 48
    atsd := v 49, vtsd0 := v 50, ucmz := v 51, asafe := v 52, trs := v 53, sgap := v 54, ass1 := v 55, vss1tol := v 56
    tss1 := Config.imageParam img 57 h, vstill := v 58, sditol := v 59, bfbt := Config.imageParam img 60 h
    module := (List.range 16).filter fun k => bitAt (Config.imageParam img 61 h) k }

/-- The parameters that an image holds; its layout is Thepaif's (10 R309). -/
def decodeImage (img : List Byte) : SafetyCfg :=
  { pairs := (List.range 16).map fun i => (i, imgPairCfg img i)
    points := (List.range 4).map fun i => (i, imgPoint img i)
    axisGroup := (List.range 1024).filterMap fun a => let v := Config.imageParam img 12 a; if v < 8 then some (a, v) else none
    groupShaft := (List.range 8).map fun n => (n, min (Config.imageParam img 13 n) 8)
    modReset := imgPair img 14 0
    links := (List.range 24).filterMap fun i => let l := imgLink img i; if l.srcA = 0 then none else some (i, l)
    linkTo := Config.imageParam img 26 0, linkTol := imgI img 27 0, linkVtol := imgI img 28 0
    shafts := (List.range 8).filterMap fun h => if Config.imageParam img 31 h = 1 then some (h, imgShaft img h) else none
    pairSrc := Config.imageParam img 29 0 }

/-- Whether a pair's type suits its function, and its times lie in their ranges (10 R287, R289). -/
def pairOk (p : PairCfg) : Bool :=
  (p.func == 0 || (decide (p.func ≤ 9) && decide (p.type ≤ 2) &&
    (if [1, 2, 3, 7, 8].contains p.func then decide (p.type ≤ 1) else if [4, 5, 6].contains p.func then p.type == 2 else true))) &&
  decide (250 ≤ p.filt) && decide (p.filt ≤ 20000) && p.filt % 250 == 0 && decide (2000 ≤ p.disc) && decide (p.disc ≤ 500000)

/-- Whether a value lies in a range. -/
def within (lo hi v : Int) : Bool := decide (lo ≤ v) && decide (v ≤ hi)
/-- Whether a list of positions rises strictly. -/
def risesI : List Int → Bool
  | a :: b :: r => decide (a < b) && risesI (b :: r)
  | _ => true

/-- Whether a shaft's parameters lie in their ranges (10 R309). -/
def shaftOk (h : SafeShaft) : Bool :=
  (h.cars.all fun k => within 1000000 20000000 k.h) && risesI h.lp && decide (h.lp.length ≤ 255) &&
  (h.vsl == 0 || within 100000 20000000 h.vsl) && within 10000 630000 h.vsli &&
  (h.vaos == 0 || within 100000 23000000 h.vaos) && decide (h.zslo < h.zshi) && within 100000 3000000 h.atsd &&
  within 0 1000000 h.vtsd0 && within 20000 300000 h.ucmz && within 500000 10000000 h.asafe && within 10 2000 h.trs &&
  within 100000 50000000 h.sgap && within 100000 2000000 h.ass1 && within 10000 2000000 h.vss1tol &&
  within 100 60000 h.tss1 && within 1000 50000 h.vstill && within 1000 100000 h.sditol && within 50 1000 h.bfbt

/-- Whether a reset, inspection or direction input names a pair of its function (10 R309). -/
def inputOk (c : SafetyCfg) (p : Option Nat) (func : Nat) : Bool :=
  match p with | none => true | some n => (tabGet c.pairs {} n).func == func

/-- Whether the parameters of an image meet their ranges (10 R289, R309). -/
def cfgOk (c : SafetyCfg) : Bool :=
  (c.pairs.all fun p => pairOk p.2) &&
  (c.points.all fun p => decide (p.2.mode ≤ 2) && (p.2.mode != 1 || within 2000 20000 p.2.cfilt)) &&
  inputOk c c.modReset 6 && within 2 8 c.linkTo && within 1000 100000 c.linkTol && within 1000 500000 c.linkVtol &&
  (c.links.all fun l => within 1 65535 l.2.srcA && within 1 65535 l.2.srcB &&
    decide (l.2.cars.length + l.2.locks.length + b2n l.2.groups ≤ 14)) &&
  c.shafts.all fun h => shaftOk h.2 && inputOk c h.2.reset 6 && inputOk c h.2.insp 3 && inputOk c h.2.up 4 &&
    inputOk c h.2.down 5

/-! ### The safety image and safety.status (10 R285, R316) -/

/-- A number whose bits are those on which both channels agree at 1. -/
def bothBits (n : Nat) (f : Chan → Nat → Bool) : Nat := ofBits ((List.range n).map fun i => f .core i && f .scarp i)

/-- Whether every latched cause of a shaft has cleared and one is latched. -/
def resetDue (s : State) (c : Chan) (h : Nat) : Bool :=
  !(latchOf (s.chan c) h).isEmpty && (openCauses s c h true).isEmpty

/-- A bit of a car's STATUS held in both streams of a channel. -/
def bothStreams (x : ChanSt) (car : Nat) (f : CarRec → Bool) : Bool :=
  [false, true].all fun b => match recOf x b car with | some r => f r | none => false

/-- Whether a door-only group is proven by its pair and its group records, each where configured (10 R285, R289). -/
def groupProof (x : ChanSt) (g : Nat) : Bool :=
  let pair := x.cfg.pairs.find? fun p => p.2.func == 7 && p.2.group == g
  let link := x.cfg.links.any fun l => l.2.groups
  (pair.isSome || link) && (match pair with | some p => (tabGet x.pairs {} p.1).closed | none => true) &&
  (!link || [0, 1].all fun b => (tabGet x.proof 0 b).getLsbD g)

/-- LDLOCKED of landing `i` in a channel: both streams (10 R285). -/
def lockedBoth (x : ChanSt) (h i : Nat) : Bool :=
  decide (i < (cfgShaft x h).lp.length) && lockedIn x false h i && lockedIn x true h i

/-- The safety image as both channels give it now (10 R285). -/
def imageOf (s : State) : SafeImage :=
  let c := s.chan
  { permit := BitVec.ofNat 8 (bothBits 8 (stoOn s))
    ss1 := BitVec.ofNat 8 (bothBits 8 fun k h => (tabGet (c k).ss1 {} h).on)
    insp := BitVec.ofNat 8 (bothBits 8 fun k h => inspOf (c k) h)
    up := BitVec.ofNat 8 (bothBits 8 fun k h => (dirOf (c k) h).1)
    down := BitVec.ofNat 8 (bothBits 8 fun k h => (dirOf (c k) h).2)
    due := BitVec.ofNat 8 (bothBits 8 fun k h => resetDue s k h)
    trip := BitVec.ofNat 8 (ofBits ((List.range 8).map fun h =>
      !(latchOf (c .core) h).isEmpty || !(latchOf (c .scarp) h).isEmpty || !(c .core).modTrip.isEmpty || !(c .scarp).modTrip.isEmpty))
    grant := BitVec.ofNat 64 (bothBits 64 fun k n => grantOf s k n)
    rel := BitVec.ofNat 64 (bothBits 64 fun k n => bothStreams (c k) n fun r => r.status.getLsbD 2)
    eng := BitVec.ofNat 64 (bothBits 64 fun k n => bothStreams (c k) n fun r => r.status.getLsbD 3)
    cd := BitVec.ofNat 64 (bothBits 64 fun k n => bothStreams (c k) n recClosed)
    ld := (cfgShafts (c .core)).map fun h => (h, bothBits 255 fun k i => lockedBoth (c k) h i)
    proof := BitVec.ofNat 64 (bothBits 64 fun k g => groupProof (c k) g) }

/-- SHSTATE of a shaft (10 R316). -/
def shState (s : State) (h : Nat) : Nat :=
  let a := s.safety.core
  let b := s.safety.scarp
  if !tabHas a.cfg.shafts h then 0
  else if !(latchOf a h).isEmpty || !(latchOf b h).isEmpty then
    (if (openCauses s .core h true).isEmpty && (openCauses s .scarp h true).isEmpty then 2 else 1)
  else if (tabGet a.ss1 {} h).on || (tabGet b.ss1 {} h).on then 3
  else if inspOf a h && inspOf b h then (if shaftInspStop s h then 6 else 5)
  else 4

/-- MCAUSE (10 R308, R316): the first cause latched for the module, else the cause that holds the outputs off without a latch. -/
def moduleCause (s : State) : Nat :=
  match s.safety.core.modTrip ++ s.safety.scarp.modTrip with
  | k :: _ => k
  | [] => if s.safety.asleep then 0x19 else if s.safety.core.pairOff || s.safety.scarp.pairOff then 0x1A else 0

/-- The first cause of either channel's latch of a scope. -/
def firstCause (s : State) (scope : Nat) : Nat :=
  (latchOf s.safety.core scope ++ latchOf s.safety.scarp scope).headD 0

/-- Whether a channel accepts both streams of a configured link (10 R316 LINKS). -/
def linkAccepted (s : State) (c : Chan) (l : Nat) : Bool :=
  tabHas (s.chan c).cfg.links l && [0, 1].all fun b =>
    let t := tabGet (s.chan c).streams {} (2 * l + b)
    t.seq.isSome && !t.lost

/-- The fields of safety.status (10 R316). -/
def statusFields (s : State) : List (Nat × Nat × Int) :=
  let a := s.safety.core
  let b := s.safety.scarp
  let tripped := !a.modTrip.isEmpty || !b.modTrip.isEmpty
  let mstate := if !s.sys.safe && s.sys.bootFail == 0 then 0 else if s.safety.session.isSome then 3 else if tripped then 1 else 2
  let ch := b2n a.running + 2 * b2n b.running + 4 * b2n s.sys.safe + 8 * b2n (decide (a.image = b.image) && !s.safety.crcBad) +
    16 * b2n (tripped && (openCauses s .core 8 true).isEmpty && (openCauses s .scarp 8 true).isEmpty)
  let pairBits := fun f => bothBits 16 fun k p => f (tabGet (s.chan k).pairs {} p)
  [(16, 1, (mstate : Int)), (17, 1, (ch : Int)), (18, 1, ((b2n (!a.modTrip.isEmpty) + 2 * b2n (!b.modTrip.isEmpty) : Nat) : Int)),
   (19, 1, (moduleCause s : Int)), (20, 1, (stoByte s : Int)), (21, 1, (sbcByte s : Int)),
   (22, 1, (bothBits 4 fun k p => (tabGet (s.chan k).points {} p).present : Nat)),
   (24, 2, (pairBits (·.closed) : Nat)),
   (26, 2, (ofBits ((List.range 16).map fun p => (tabGet a.pairs {} p).fault || (tabGet b.pairs {} p).fault) : Nat)),
   (28, 1, (bothBits 8 (linkAccepted s) : Nat))] ++
  ((List.range 8).map fun h => (32 + h, 1, (shState s h : Int))) ++
  ((List.range 8).map fun h => (40 + h, 1, (firstCause s h : Int))) ++
  [(48, 8, (s.safety.tripTime : Int)), (56, 4, ((s.time.cycle % 4294967296 : Nat) : Int)), (60, 4, (imageCrc a.image : Int))]

/-- The safety image is published and the fields of safety.status are taken, at a release phase (10 R285, R316). -/
def publishSafety (s : State) : State :=
  s.onSafety fun y => { y with image := imageOf s, snap := some (statusFields s) }

end Sys2Proof.Machine
end

