-- ==== Sys2Proof/Machine/CairnOps.lean ====
section
/-! DEFINITION. Operations of the recorder (17): the bytes of a record, the ring, writing and sealing records. -/
namespace Sys2Proof.Machine

/-- Little-endian words of a list of snapshots, zero-filled to `n` (17 R459). -/
def snapBytes (l : List Nat) (off n : Nat) : List Byte :=
  (List.range n).flatMap fun i => leBytes 4 (l.getD (off + i) 0)

/-- The 64 bytes of a slot (17 R459). -/
def slotBytes (x : RecSlot) : List Byte :=
  let body := match x with
    | .head r =>
      leBytes 8 r.time ++ leBytes 4 r.seq ++ leBytes 4 r.cycle ++ leBytes 1 r.source ++ leBytes 1 r.code ++
      leBytes 2 r.subject ++
      leBytes 1 (b2n r.isOpen + 2 * b2n (4 < r.snaps.length) + 4 * r.quality + 16 * b2n r.snapFail) ++
      leBytes 1 r.snaps.length ++ leBytes 2 0 ++ leBytes 4 r.repeats ++ leBytes 4 (toU32 r.value) ++
      leBytes 4 (toU32 r.lastValue) ++ leBytes 4 r.lastDelta ++ snapBytes r.snaps 0 4 ++ leBytes 4 0
    | .ext seq hseq snaps =>
      snapBytes snaps 0 2 ++ leBytes 4 seq ++ leBytes 4 hseq ++ leBytes 1 0xFF ++ leBytes 3 0 ++ snapBytes snaps 2 10
  body ++ leBytes 4 (crc32c body)

/-- The slot of the ring at SEQ mod 65,536, 64 zero bytes when never written (17 R464). -/
def ringSlotBytes (s : State) (seq : Nat) : List Byte :=
  if tabHas s.cairn.ring (seq % 65536) then slotBytes (tabGet s.cairn.ring (.ext 0 0 []) (seq % 65536))
  else leBytes 64 0

/-- SEQ after another (17 R458). -/
def nextSeq (n : Nat) : Nat := if n = max32 then 1 else n + 1

/-- SEQ of a slot. -/
def slotSeq : RecSlot → Nat
  | .head r => r.seq
  | .ext q _ _ => q

/-- A slot is written to the ring: what it overwrites unspilled is lost and counted (17 R458, R463). -/
def writeSlot (s : State) (x : RecSlot) : State :=
  let q := slotSeq x
  let k := q % 65536
  let above := tabHas s.cairn.ring k
  let oldSeq := slotSeq (tabGet s.cairn.ring x k)
  let lost := above && s.cairn.unspilled.contains oldSeq
  let s := s.onRec fun c =>
    { c with
      ring := tabSet c.ring k x
      newest := q
      next := nextSeq q
      oldest := if c.oldest = 0 then q else if above then slotSeq (tabGet c.ring x ((k + 1) % 65536)) else c.oldest
      unspilled := if lost then c.unspilled.filter (· != oldSeq) else c.unspilled
      lost := if lost then satAdd max32 c.lost 1 else c.lost
      losing := lost }
  if lost then bump s (cRec 0) else s

/-- The newest head record, when it is open. -/
def openHead (s : State) : Option Record :=
  (s.cairn.ring.filterMap fun p => match p.2 with
    | .head r => if r.isOpen then some r else none
    | _ => none).head?

/-- The open record is sealed: it waits for the mirror and, with its extension, for the store (17 R461, R469, R471). -/
def sealOpen (s : State) : State :=
  match openHead s with
  | none => s
  | some r =>
    let r' := { r with isOpen := false }
    s.onRec fun c => { c with
      ring := tabSet c.ring (r.seq % 65536) (.head r')
      unmirrored := c.unmirrored ++ [r']
      unspilled := c.unspilled ++ (if 4 < r.snaps.length then [r.seq, nextSeq r.seq] else [r.seq]) }

/-- Time quality of a record for a TSTATE (17 R459, 14 R411): free running, RTC, synchronised, master on PTP. -/
def timeQuality (tstate : Nat) : Nat := match tstate with | 2 => 2 | 3 => 3 | 4 => 1 | _ => 0

/-- A new record is written: the one open before is sealed (17 R457, R459, R461). -/
def writeRecord (s : State) (t : Nat) (e : Event) (snaps : List Nat) (snapFail : Bool) : State :=
  let s := sealOpen s
  let q := s.cairn.next
  let r : Record := { time := t / 2 * 2, seq := q, cycle := e.cycle % 4294967296, source := e.source, code := e.code,
                      subject := e.subject, quality := timeQuality s.time.tstate, snapFail, value := e.value,
                      lastValue := e.value, snaps }
  let s := writeSlot s (.head r)
  if 4 < snaps.length then writeSlot s (.ext (nextSeq q) q (snaps.drop 4)) else s

/-- A repeat of the open record (17 R461). -/
def repeatRecord (s : State) (r : Record) (t : Nat) (e : Event) : State :=
  s.onRec fun c => { c with
    ring := tabSet c.ring (r.seq % 65536) (.head { r with
      repeats := satAdd max32 r.repeats 1, lastValue := e.value, lastDelta := min ((t - r.time) / 1000) max32 }) }

/-- The trigger of a source and code: its own, or that of its source with CODE FFh (17 R462). -/
def triggerOf (s : State) (source code : Nat) : Option Trigger :=
  match s.cairn.triggers.find? fun t => t.source == source && t.code == code with
  | some t => some t
  | none => s.cairn.triggers.find? fun t => t.source == source && t.code == 0xFF

/-- Sources that are always recorded (17 R460). -/
def alwaysRecorded (source : Nat) : Bool := [0x01, 0x02, 0x03, 0x0A, 0x0D].contains source

/-- An event of the recorder itself (17 R475). -/
def recEvent (s : State) (code subject : Nat) (value : Int) : State := codeEvent s 0x70 0x10 code subject value

/-- The CAIRN trace state shown in REC.STATE.TRACE (17 R463). -/
def traceState (s : State) : Nat := s.cairn.trace.mode

/-- Whether a drive is ready or worn. -/
def driveReady (d : Drive) : Bool := d.state == 1 || d.state == 2

/-- A drive; one not listed is absent (17 R470). -/
def State.drive (s : State) (n : Nat) : Drive := tabGet s.cairn.drives {} n
/-- A state with one drive changed. -/
def State.onDrive (s : State) (n : Nat) (f : Drive → Drive) : State :=
  s.onRec fun c => { c with drives := tabMod c.drives {} n f }

/-- The drives that are ready or worn. -/
def readyDrives (s : State) : List Nat := (List.range 4).filter fun n => driveReady (s.drive n)
/-- Whether a drive is worn. -/
def anyWorn (s : State) : Bool := (List.range 4).any fun n => (s.drive n).state == 2

/-- Whether the drives fitted meet the sustained write rate of 17 R468: each at least 600 MB/s over their number. -/
def drivesMeet (s : State) : Bool :=
  let l := readyDrives s
  !l.isEmpty && l.all fun n => decide (600 ≤ (s.drive n).mbs * l.length)

end Sys2Proof.Machine
end

