-- ==== Sys2Proof/Machine/Registers.lean ====
section
/-! DEFINITION. The register space: what each 32-bit word reads as, the access rights of the windows, and the reads that
act (00 R5, R11 to R13, 02 R54 to R57, R545, 15 R427, 16 R451, 17 R463, 18 R498, 19 R510, 20 R526). -/
namespace Sys2Proof.Machine

/-- SYS.STATE.HEALED: one bit per ring (02 R56). -/
def healedBits (s : State) : Nat := ofBits ((List.range 4).map fun r => (s.ring r).healed)

/-- SYS.STATE (02 R56). -/
def sysStateWord (s : State) : Nat :=
  s.sys.stage + 16 * s.sys.rate + 256 * healedBits s + 65536 * b2n s.sys.safe + 131072 * b2n s.sys.creel

/-- The identification registers (00 R5), `i` = 0 to 3. -/
def identWord (s : State) (i : Nat) : Nat :=
  match i with
  | 0 => 0x51202112
  | 1 => s.sys.fwTrusted * 16777216 + s.sys.fwApp * 65536 + s.sys.fwSafety * 256
  | 2 => s.sys.fwBuild
  | _ => Config.serial % 4294967296

/-- SYS.SUPPLY (20 R526). -/
def supplyWord (s : State) : Nat :=
  let u := s.supply
  ofBits [u.mains, u.pfw, u.fieldOk, u.fieldExt, u.fieldLim, u.storOk, u.dcin, false, u.pfwSeen, u.fieldLoss, u.overTemp, u.cageOff]

/-- Low or high word of a 64-bit value. -/
def half (v : Nat) (hi : Bool) : Nat := (if hi then v / 4294967296 else v) % 4294967296

/-- The words of the status block (00 R5, 02 R56, 15 R427, 20 R526). -/
def statusWord (s : State) (off : Nat) : Nat :=
  let u := s.supply
  match off with
  | 0x00 => identWord s 0 | 0x04 => identWord s 1 | 0x08 => identWord s 2 | 0x0C => identWord s 3
  | 0x10 => sysStateWord s
  | 0x14 => s.sys.cause + 256 * s.sys.count + 65536 * s.sys.bootFail
  | 0x18 => s.sys.stageMs + 65536 * s.sys.stageAt
  | 0x1C => s.sys.appRst
  | 0x20 => toU32 u.base % 65536 + 65536 * (toU32 u.die % 65536)
  | 0x24 => supplyWord s
  | 0x28 => u.volts % 65536 + 65536 * (u.watts % 65536)
  | 0x2C => u.slot.toNat + 8 * b2n u.carrier
  | 0x30 => half u.syncTime false | 0x34 => half u.syncTime true
  | 0x38 => u.syncCount
  | _ => 0

/-- Whether counter `i` is visible to a partition (19 R504). -/
def ctrVisible (s : State) (p i : Nat) : Bool := decide (0x3C0 ≤ i) || (s.part p).global

/-- Sum of partition threshold counter `k` over the partitions (19 R506). -/
def pthrSum (s : State) (k : Nat) : Nat :=
  min ((s.ctr.pcnt.filter fun x => x.1 % 4 == k).foldl (fun n x => n + x.2) 0) max48

/-- Counter `i` in a partition's view: its own, or the module sum (19 R501 to R506). -/
def ctrValue (s : State) (p : Nat) (sum : Bool) (i : Nat) : Nat :=
  if i < 0x3C0 then (if (s.part p).global then tabGet s.ctr.cnt 0 i else 0)
  else if 0x3FC ≤ i then
    (if sum then pthrSum s (i - 0x3FC) else tabGet s.ctr.pcnt 0 (4 * p + (i - 0x3FC)))
  else if sum then tabGet s.host.modSum 0 (i - 0x3C0) else tabGet (s.pstat p).cnt 0 (i - 0x3C0)

/-- CTR.VAL of counter `i`: the count, and the not-visible bit 48 (19 R510). -/
def ctrWord (s : State) (p : Nat) (sum : Bool) (i : Nat) : Nat :=
  ctrValue s p sum i + (if ctrVisible s p i then 0 else 281474976710656)

/-- A port's bandwidth measurements (19 R509). -/
def State.port (s : State) (p : Nat) : PortBw := tabGet s.ctr.bw {} p

/-- The words of the counter window, as read without acting (19 R510). -/
def counterWord (s : State) (p off : Nat) : Nat :=
  let t := s.pstat p
  let seesGlobal := (s.part p).global
  if off = 0x3000 then t.selBank + 4 * b2n t.selView
  else if off = 0x3004 then b2n seesGlobal
  else if 0x3100 ≤ off ∧ off < 0x3100 + 16 * 17 then
    let b := s.port ((off - 0x3100) / 16)
    if !seesGlobal then 0
    else match (off - 0x3100) % 16 / 4 with
      | 0 => b.txWin | 1 => b.rxWin | 2 => b.txPeak | _ => b.rxPeak
  else if 0x3800 ≤ off ∧ off < 0x4000 then
    let j := (off - 0x3800) / 8
    let hi := off % 8 = 4
    match t.latch with
    | some (k, v) => if hi ∧ k = j then v else half (ctrWord s p t.selView (256 * t.selBank + j)) hi
    | none => half (ctrWord s p t.selView (256 * t.selBank + j)) hi
  else 0

/-- POW.LEVEL.BASKET (16 R451). -/
def levelBits (s : State) : Nat := (List.range 8).foldr (fun b n => levelOf s b + 4 * n) 0
/-- POW.ISLAND.SLEEP (16 R451). -/
def sleepBits (s : State) : Nat := (List.range 9).foldr (fun b n => tabGet s.pow.sleep 0 b + 4 * n) 0

/-- The words of the power window (16 R451). -/
def powerWord (s : State) (off : Nat) : Nat :=
  let w := s.pow
  match off with
  | 0x4000 => w.mode + 16 * w.stage + 256 * w.lastAbort + 65536 * w.lastRef + 16777216 * w.wakeSrc
  | 0x4004 => levelBits s + 65536 * w.pmbFault.toNat
  | 0x4008 => sleepBits s
  | 0x400C => w.returnUs
  | 0x4010 => w.entries
  | 0x4014 => w.aborts
  | _ =>
    if 0x4018 ≤ off ∧ off ≤ 0x4044 then tabGet w.refuse 0 ((off - 0x4018) / 4 + 1)
    else if 0x4048 ≤ off ∧ off ≤ 0x4058 then tabGet w.abort 0 ((off - 0x4048) / 4 + 0x10)
    else 0

/-- REC.STATE (17 R463). -/
def recStateWord (s : State) : Nat :=
  ofBits ((List.range 4).map fun n => driveReady (s.drive n)) +
  16 * ofBits ((List.range 4).map fun n => (s.drive n).state == 2) + 256 * traceState s + 1024 * b2n s.cairn.mirrorFail

/-- The words of the recorder window for a partition (17 R463). -/
def recorderWord (s : State) (p off : Nat) : Nat :=
  let t := s.pstat p
  let c := s.cairn
  match off with
  | 0x2000 => t.cursor | 0x2004 => c.newest | 0x2008 => c.oldest | 0x200C => c.spill | 0x2010 => c.mirror
  | 0x2014 => t.winSource + 256 * (if t.winSource = 0 then 63 else t.winValid)
  | 0x2018 => c.lost | 0x201C => c.drop | 0x2020 => recStateWord s
  | _ =>
    if 0x2040 ≤ off ∧ off < 0x3000 then
      let i := off - 0x2040
      if t.winSource = 0 then leAt (ringSlotBytes s (t.cursor + i / 64)) (i % 64) 4
      else leAt t.staged i 4
    else 0

/-- DBG.STATE.LEVEL (18 R498). -/
def levelCode : DbgLevel → Nat
  | .closed => 0 | .observe => 1 | .intrusive => 2 | .imgGrant => 3

/-- Code of a lifecycle state (18 R498). -/
def lcCode : Lifecycle → Nat
  | .blank => 0 | .provisioned => 1 | .field => 2 | .returned => 3

/-- Weavers of baskets that run, which a halt can reach (18 R496). -/
def haltable (s : State) : Nat := ofBits ((List.range 64).map fun w => tabGet s.pow.sleep 0 (w / 8) == 0)

/-- Weavers halted: those of a running basket that a halt request names, and those their basket stopped (18 R493, R496,
04 R142). -/
def haltedWeavers (s : State) : BitVec 64 :=
  (s.dbg.whalt &&& BitVec.ofNat 64 (haltable s)) ||| BitVec.ofNat 64 (ofBits ((List.range 64).map fun w => (s.weaver w).stopped))

/-- The words of the debug window as the holder or the port at the session's level reads them (18 R498). -/
def debugWord (s : State) (off : Nat) : Nat :=
  let d := s.dbg
  match off with
  | 0x5000 => levelCode d.level + 4 * lcCode s.sys.lc + 16 * b2n d.lockout + 256 * d.holder
  | 0x5004 => half d.whalt.toNat false | 0x5008 => half d.whalt.toNat true
  | 0x500C => d.chalt.toNat
  | 0x5010 => half (haltedWeavers s).toNat false | 0x5014 => half (haltedWeavers s).toNat true
  | 0x5018 => d.chalt.toNat
  | 0x5020 => half d.expire false | 0x5024 => half d.expire true
  | 0x5028 => d.opened
  | 0x502C => d.sigFail + 65536 * d.addrFail
  | 0x5030 => half d.memAddr false | 0x5034 => half d.memAddr true
  | 0x5038 => d.memSpace + 16 * d.memUnit
  | 0x5040 => d.imgKind
  | 0x5044 => d.imgOffset
  | 0x504C => d.imgStatus
  | _ => 0

/-- Whether a debug register is read at CLOSED level (18 R487): DBG.STATE, DBG.COUNT, DBG.AUTHFAIL. -/
def closedDebugReg (off : Nat) : Bool := [0x5000, 0x5028, 0x502C].contains off

/-- Whether a partition holds the debug interface (18 R491). -/
def isHolder (s : State) (p : Nat) : Bool := s.dbg.level != .closed && s.dbg.holder == p

/-- The class whose query right a window needs (02 R55), none for the status block and the doorbells. -/
def windowClass (off : Nat) : Option Nat :=
  match off / 4096 with
  | 2 => some 0x70 | 3 => some 0x71 | 4 => some 0x60 | 5 => some 0x7F | _ => none

/-- Whether a partition reaches the window of an offset (02 R55); partition 0 is the trusted firmware. -/
def canReach (s : State) (p off : Nat) : Bool :=
  match windowClass off with
  | none => true
  | some c => p == 0 || (s.part p).qrights.getLsbD (classBit c)

/-- An ignored access counted in DB.FAULT (02 R57). -/
def countFault (s : State) : State :=
  bump (s.onHost fun h => { h with faultCount := satAdd max32 h.faultCount 1 }) (cCreel 5)

/-- A byte the debug window reads: written through it, or free (18 R487). -/
def memByteAt (s : State) (space unit addr : Nat) : Nat :=
  let free := Config.memByte space unit addr
  (match space with
   | 0 => tabGet s.dbg.lpddr free addr
   | 1 => tabGet s.dbg.wlocal free (unit * 524288 + addr)
   | _ => free).toNat

/-- The LPDDR5 region of an address, 0–7 in the order of 01 R18; 8 beyond the 32 GiB. -/
def lpddrRegion (addr : Nat) : Nat :=
  if addr < 0x10000000 then 0 else if addr < 0x20000000 then 1 else if addr < 0x40000000 then 2
  else if addr < 0x80000000 then 3 else if addr < 0x100000000 then 4 else if addr < 0x200000000 then 5
  else if addr < 0x400000000 then 6 else if addr < 0x800000000 then 7 else 8

/-- The islands that may read or write an LPDDR5 region (01 R18), numbered in the order of the table of 01 R14 (DESIGN
CHOICE 76): stake 8, summit 9, safety 10, Creel 11, ring 13, host 14, recorder 17. -/
def regionIslands (write : Bool) : Nat → List Nat
  | 0 => [9] | 1 => [10] | 2 => if write then [8] else [8, 9] | 3 => [8, 13] | 4 => [14, 8]
  | 5 => if write then [17, 13] else [17, 9] | 6 => [8] | 7 => [11] | _ => []

/-- An access of an island that the memory island refuses is recorded and counted (01 R18, 17 R460, 19 R502). -/
def regionViolation (s : State) (island : Nat) (write : Bool) (addr : Nat) : State :=
  if (regionIslands write (lpddrRegion addr)).contains island then s
  else bump (recordOnly s 3 1 island (toI32 addr)) (cMem 8)

/-- Whether an address of the debug window exists and is reached at the levels of 18 R487: LPDDR5 but the trusted region,
weaver local memory, core registers but those of the summit core outside BLANK and RETURNED. -/
def memReadable (s : State) (space unit addr : Nat) : Bool :=
  match space with
  | 0 => decide (0x10000000 ≤ addr) && decide (addr + 4 ≤ 0x800000000)
  | 1 => decide (unit < 64) && decide (addr + 4 ≤ 524288)
  | 2 => decide (unit < 8)
  | 3 => true
  | 4 => true
  | _ => false

/-- Whether the island of an address sleeps in S1 or S2: its registers read 0 (18 R496). -/
def memAsleep (s : State) (space unit : Nat) : Bool :=
  space == 1 && tabGet s.pow.sleep 0 (unit / 8) != 0

/-- The word at the debug window's address (18 R487, R488). -/
def memWord (s : State) : Nat :=
  let d := s.dbg
  if memAsleep s d.memSpace d.memUnit then 0
  else if d.memSpace = 0 ∨ d.memSpace = 1 then
    (List.range 4).foldr (fun i n => memByteAt s d.memSpace d.memUnit (d.memAddr + i) + 256 * n) 0
  else tabGet s.dbg.coreRegs
    ((List.range 4).foldr (fun i n => memByteAt s d.memSpace d.memUnit (4 * d.memAddr + i) + 256 * n) 0)
    (d.memSpace * 4294967296 + d.memUnit * 67108864 + d.memAddr)

/-- A read of DBG.MEM.DATA at OBSERVE or INTRUSIVE: the word, or 0 and a counted refusal; the address advances by 4
(18 R487, R488, R498). An LPDDR5 access that is refused is the host island's (01 R18, DESIGN CHOICE 76). -/
def readMemData (s : State) (p : Nat) : Nat × State :=
  if isHolder s p ∧ (s.dbg.level = .observe ∨ s.dbg.level = .intrusive) then
    let okAddr := memReadable s s.dbg.memSpace s.dbg.memUnit s.dbg.memAddr
    let v := if okAddr then memWord s else 0
    let s := if !okAddr && s.dbg.memSpace == 0 then regionViolation s 14 false s.dbg.memAddr else s
    (v, s.onDbg fun d => { d with
      memAddr := (d.memAddr + 4) % 18446744073709551616
      addrFail := if okAddr then d.addrFail else satAdd 65535 d.addrFail 1 })
  else (0, s)

/-- One 32-bit read by a partition, with what the read does: RC fields clear, CTR.VAL halves latch, DBG.MEM.DATA advances
(00 R11, R12, 02 R55, 18 R487, 19 R511). The word at offset 4k is named by its byte offset. -/
def readWord (s : State) (p off : Nat) : Nat × State :=
  if !canReach s p off then (0, countFault s)
  else match off / 4096 with
  | 0 => (statusWord s off, s)
  | 1 =>
    match off with
    | 0x1010 => (s.host.faultCount, s.onHost fun h => { h with faultCount := 0 })
    | 0x1014 => (s.host.faultQueue, s)
    | 0x1018 => (half s.host.bootSq false, s) | 0x101C => (half s.host.bootSq true, s)
    | 0x1020 => (half s.host.bootCq false, s) | 0x1024 => (half s.host.bootCq true, s)
    | _ => (0, s)
  | 2 => (recorderWord s p off, s)
  | 3 =>
    let v := counterWord s p off
    if 0x3100 ≤ off ∧ off < 0x3100 + 16 * 17 ∧ (s.part p).global ∧ 2 ≤ (off - 0x3100) % 16 / 4 then
      let n := (off - 0x3100) / 16
      (v, s.onCtr fun c => { c with bw := tabMod c.bw {} n fun b =>
        if (off - 0x3100) % 16 / 4 = 2 then { b with txPeak := 0 } else { b with rxPeak := 0 } })
    else if 0x3800 ≤ off then
      if off % 8 = 0 then
        let t := s.pstat p
        let j := (off - 0x3800) / 8
        (v, s.onPstat p fun t' => { t' with latch := some (j, half (ctrWord s p t.selView (256 * t.selBank + j)) true) })
      else
        match (s.pstat p).latch with
        | some (k, _) => (v, if k = (off - 0x3800) / 8 then s.onPstat p fun t => { t with latch := none } else s)
        | none => (v, s)
    else (v, s)
  | 4 => (powerWord s off, s)
  | 5 =>
    if off = 0x503C then readMemData s p
    else if isHolder s p ∨ closedDebugReg off then (debugWord s off, s)
    else (0, s)
  | _ => (0, s)

/-- A 64-bit read: two 32-bit reads in ascending order, or one access to one coherent value of CTR.VAL (02 R545,
19 R511). -/
def readWide (s : State) (p off : Nat) : Nat × State :=
  if 0x3800 ≤ off ∧ off < 0x4000 then
    if !canReach s p off then (0, countFault s)
    else (ctrWord s p (s.pstat p).selView (256 * (s.pstat p).selBank + (off - 0x3800) / 8), s)
  else
    let (a, s) := readWord s p off
    let (b, s) := readWord s p (off + 4)
    (a + 4294967296 * b, s)

/-- Whether an access has a width of 32 or 64 bits and is aligned to it (02 R545). -/
def goodAccess (off width : Nat) : Bool := (width == 32 && off % 4 == 0) || (width == 64 && off % 8 == 0)

/-- A read of the register space by a partition (02 R545). -/
def readReg (s : State) (p off width : Nat) : Nat × State :=
  if !goodAccess off width then (0, countFault s)
  else if width = 64 then readWide s p off else readWord s p off

end Sys2Proof.Machine
end

