-- ==== Sys2Proof/Machine/ResetOps.lean ====
section
/-! DEFINITION. What a controller-die reset and the loss of the logic output clear and keep (15 R428, R429, R431, 18 R491),
and what start-up stopped holds (15 R426). -/
namespace Sys2Proof.Machine

/-- What of a partition's counts stays through a controller-die reset (15 R429, 19 R503). -/
def keepPart (t : PartSt) : PartSt := { cnt := t.cnt }

/-- What of the counter set stays: the counts; threshold counters are disabled and windows start anew (19 R507, R510). -/
def keepCtr (c : CtrSt) : CtrSt :=
  { cnt := c.cnt, pcnt := c.pcnt, bw := c.bw.map fun p => (p.1, { txRem := p.2.txRem, rxRem := p.2.rxRem }) }

/-- What of a drive stays while its port is in reset: its content and its counts (15 R429, 17 R470). -/
def keepDrive (d : Drive) : Drive :=
  { capacity := d.capacity, stripes := d.stripes, written := d.written, mediaErr := d.mediaErr, pct := d.pct,
    spare := d.spare, slow99 := d.slow99, retired := d.retired, bad := d.bad, verifyFail := d.verifyFail, pages := d.pages,
    stripe := d.stripe, mbs := d.mbs }

/-- What of the recorder stays: counters, REC.STATE, the mirror, the drives' content (15 R429, 17 R463). -/
def keepRec (c : RecSt) : RecSt :=
  { drop := c.drop, lost := c.lost, mirrored := c.mirrored, sectors := c.sectors, sector := c.sector,
    mirrorFail := c.mirrorFail, slowProg := c.slowProg, traceDrop := c.traceDrop, stored := c.stored, holds := c.holds,
    drives := c.drives.map fun p => (p.1, keepDrive p.2), page := c.page, chain := c.chain }

/-- What of the power part stays: the saturating counters (16 R451). -/
def keepPow (w : PowSt) : PowSt :=
  { entries := w.entries, aborts := w.aborts, refuse := w.refuse, abort := w.abort }

/-- What of the debug part stays: the counters (18 R498). -/
def keepDbg (d : DbgSt) : DbgSt := { opened := d.opened, sigFail := d.sigFail, addrFail := d.addrFail }

/-- What of shafts and cars stays: the counts of energy.status, cleared only by power removal (06 R191). -/
def keepMotion (m : MotionSt) : MotionSt :=
  { shafts := m.shafts.map fun (p : Nat × ShaftSt) =>
      (p.1, { en := { refused := p.2.en.refused, reduced := p.2.en.reduced, replans := p.2.en.replans, rescues := p.2.en.rescues } }) }
/-- What of the safety channels stays through a controller-die reset: the Scarp die, which latches 12h on the loss of the
safety core's heartbeat, and what the two NOR devices hold (10 R308, R310, R315, 15 R428). -/
def keepSafety (m : SafetySt) : SafetySt :=
  { core := { image := m.core.image, cfg := m.core.cfg }
    scarp := if m.scarp.running && !m.scarp.modTrip.contains 0x12 then { m.scarp with modTrip := m.scarp.modTrip ++ [0x12] }
             else m.scarp
    password := m.password, log := m.log, logSeq := m.logSeq }

/-- What of the safety channels outlasts the logic output: what the two NOR devices hold (10 R310, R315). -/
def norSafety (m : SafetySt) : SafetySt :=
  { core := { image := m.core.image, cfg := m.core.cfg }, scarp := { image := m.scarp.image, cfg := m.scarp.cfg }
    password := m.password, log := m.log, logSeq := m.logSeq }

/-- What of field I/O stays: the output front end, which the field supply powers, with its pattern, silence time and
states; commanded states are 0, filters and counts start anew (11 R320, R326, 15 R433, R550). -/
def keepField (f : FieldSt) : FieldSt :=
  { on := f.on, doOut := f.doOut, overload := f.overload, zeroed := f.overload, pattern := f.pattern, tSilent := f.tSilent
    silent := f.silent, wasSilent := f.wasSilent, lastFrame := f.lastFrame, patternNor := f.patternNor }

/-- What of CAN stays: the counts, cleared only by power removal, and what NOR holds; the channels are off (12, 15 R430). -/
def keepCan (c : CanSt) : CanSt :=
  { chans := c.chans.map fun (p : Nat × CanChan) => (p.1, { cnt := p.2.cnt }), bmsRej := c.bmsRej, stored := c.stored }

/-- Cages that are dark are powered again in order, but for one switched off for its own limit (20 R523, R524). -/
def repower (l : Tab Cage) : Tab Cage :=
  l.map fun (p : Nat × Cage) => (p.1, if p.2.fitted && !p.2.powered && !p.2.blocked then { p.2 with powered := true, draw := 0 } else p.2)

/-- An event of the debug chapter kept until the recorder runs again (18 R500). -/
def bootDebug (code subject : Nat) (value : Int) : Event :=
  { source := 0x0F, code, subject, value, cls := some 0x7F,
    fields := [(16, 1, code), (18, 2, subject), (20, 4, 0), (24, 4, value)] }

/-- The controller die goes into reset: every island is cleared, the retention domain, NOR, fuses and the Scarp die are kept
(15 R428, R429). The reset and the end of a debug session are recorded after the restart. -/
def ctlReset (s : State) (cause : Nat) (ev : List Event := []) : State :=
  let y := s.sys
  let ended := if s.dbg.level = .closed then [] else [bootDebug 2 s.dbg.holder 4]
  { pending := s.pending
    free := s.free
    supply := { s.supply with cages := repower s.supply.cages }
    sys := { ctl := .inReset, scarp := y.scarp, mrst := y.mrst, floor := y.floor, cause, count := min (y.count + 1) 255,
             stageMs := y.stageMs, stageAt := y.stageAt, appRst := y.appRst, images := y.images, minSvn := y.minSvn,
             keys := y.keys, lc := y.lc, aux := y.aux, fwBuild := y.fwBuild,
             bootEvents := y.bootEvents ++ [{ source := 1, code := cause, subject := cause }] ++ ended ++ ev }
    pow := keepPow s.pow
    host := { stats := s.host.stats.map fun p => (p.1, keepPart p.2), modSum := s.host.modSum }
    ctr := keepCtr s.ctr
    dbg := keepDbg s.dbg
    cairn := keepRec s.cairn
    loop := { envelope := s.loop.envelope }
    motion := keepMotion s.motion
    safety := keepSafety s.safety
    field := keepField s.field
    can := keepCan s.can
    time := { leaps := s.time.leaps }
    nor := { s.nor with queue := [] } }

/-- The logic output is lost: only NOR, fuses, the drives' content, the level of MRST_N and an output front end that an external
field supply feeds outlast it (11 R320, R326, 15 R428 cause 01h, R429). -/
def logicLoss (s : State) : State :=
  let y := s.sys
  { pending := s.pending
    free := s.free
    supply := { mains := s.supply.mains, thermal := s.supply.thermal, base := 0, die := 0,
                cages := s.supply.cages.map fun p => (p.1, { fitted := p.2.fitted }) }
    sys := { mrst := y.mrst, images := y.images, minSvn := y.minSvn, keys := y.keys, lc := y.lc, fwBuild := y.fwBuild,
             bootEvents := [{ source := 1, code := 1, subject := 1 }] }
    cairn := { mirrored := s.cairn.mirrored, sectors := s.cairn.sectors, sector := s.cairn.sector,
               stored := s.cairn.stored, holds := s.cairn.holds,
               drives := s.cairn.drives.map fun p => (p.1, { keepDrive p.2 with slow99 := 0, verifyFail := 0 }),
               page := s.cairn.page, chain := s.cairn.chain }
    safety := norSafety s.safety
    time := { leaps := s.time.leaps }
    field := if s.supply.fieldExt then keepField s.field else { patternNor := s.field.patternNor }
    can := { stored := s.can.stored }
    nor := { s.nor with queue := [] }
    loop := { envelope := s.loop.envelope } }

/-- Start-up stops: BOOTFAIL is set and the state of 15 R426 is held. -/
def bootStop (s : State) (code : Nat) : State :=
  let s := if 6 ≤ code then s else s.onCan fun c => { c with chans := c.chans.map fun (p : Nat × CanChan) => (p.1, { p.2 with on := false }) }
  recordOnly (s.onSys fun y => { y with stopped := true, bootFail := code, ethOn := y.ethOn && decide (6 ≤ code) })
    2 2 code 0

/-- STAGE and SYS.STAGETIME change together (15 R424, R427). -/
def setStage (s : State) (n ms : Nat) : State :=
  s.onSys fun y => { y with stage := n, stageMs := min ms 65535, stageAt := n }

end Sys2Proof.Machine
end

