-- ==== Sys2Proof/Machine/DebugOps.lean ====
section
/-! DEFINITION. Debug sessions, grants, halts and images (18): the shared operations behind the debug window and the debug
commands. -/
namespace Sys2Proof.Machine

/-- An event of class 7Fh with its record of source 0Fh (18 R500). -/
def dbgEvent (s : State) (code subject : Nat) (value : Int) : State := codeEvent s 0x7F 0x0F code subject value

/-- A key of the key store (18 R476): 0 GRK, 1 GAK, 2 GSK, 3 GDK, 4 IMK, 5 IDK. -/
def State.key (s : State) (k : Nat) : KeySlots := tabGet s.sys.keys {} k

/-- Key that signs an image of a KIND (18 R476, R479). -/
def keyOfKind (kind : Nat) : Nat := match kind with | 1 => 0 | 2 => 1 | 3 => 2 | _ => 4

/-- Hash held by a slot of a key. -/
def slotHash (s : State) (k slot : Nat) : Nat := tabGet (s.key k).hashes (Config.keyHash k slot) slot

/-- Whether a slot of a key is accepted (18 R477): programmed, not revoked, no lower than the minimum. -/
def slotOk (s : State) (k slot : Nat) : Bool :=
  let x := s.key k
  decide (slot < 4) && x.programmed.getLsbD slot && !x.revoked.getLsbD slot && decide (x.minSlot ≤ slot)

/-- Limit on the body length of a KIND (18 R479). -/
def lengthLimit (kind : Nat) : Nat :=
  match kind with | 1 => 8388608 | 2 => 67108864 | 3 => 4194304 | _ => 262144

/-- An image copy; copies not listed are erased (18 R478). -/
def imgAt (s : State) (kind copy : Nat) : ImgCopy := tabGet s.sys.images { erased := true } (2 * kind + copy)
/-- A state with an image copy replaced. -/
def setImg (s : State) (kind copy : Nat) (c : ImgCopy) : State :=
  s.onSys fun y => { y with images := tabSet y.images (2 * kind + copy) c }

/-- What verification of a copy finds, as a code of DBG.IMG.STATUS: 3 verified, 4 signature or key, 5 SVN, 6 length or
kind (18 R479, R498). -/
def verifyCode (s : State) (kind : Nat) (c : ImgCopy) : Nat :=
  if c.erased ∨ ¬ c.magic ∨ c.kind ≠ kind ∨ lengthLimit kind < c.length then 6
  else if c.svn < tabGet s.sys.minSvn 0 kind then 5
  else if (c.serial == 0 || c.serial == Config.serial) && c.sigOk && c.keySlot.any (slotOk s (keyOfKind kind)) then 3
  else 4

/-- Whether an image copy verifies (18 R479). -/
def verifies (s : State) (kind copy : Nat) : Bool := verifyCode s kind (imgAt s kind copy) == 3

/-- The bytes of the words received, oldest first. -/
def imgBytes (words : List Nat) : List Byte := words.reverse.flatMap (leBytes 4)

/-- Prefixes a manifest body declares for a partition's filter of a family (18 R481; the layout is Thepaif's). -/
def manifestPrefixes (body : List Byte) (field i : Nat) : List IpPrefix :=
  (List.range (Config.manifestField body field i % 5)).map fun j =>
    { addr := Config.manifestField body (field + 1) (4 * i + j), len := Config.manifestField body (field + 2) (4 * i + j) }

/-- A partition a manifest body declares (18 R481). -/
def manifestPart (body : List Byte) (i : Nat) : Partition :=
  let f := fun k => Config.manifestField body k i
  { binding := f 2, filter6 := manifestPrefixes body 20 i, filter4 := manifestPrefixes body 23 i,
    qrights := BitVec.ofNat 17 (f 3), arights := BitVec.ofNat 17 (f 4), mgmt := f 5 == 1, global := f 6 == 1,
    supervisor := f 7 == 1, qlimit := f 8, quota := f 9, rateCeil := f 10, quantum := f 11 }

/-- Whether a partition's attributes lie within the ranges of 02 R35. -/
def partOk (p : Partition) : Bool :=
  decide (p.binding ≤ 3) && decide (1 ≤ p.qlimit ∧ p.qlimit ≤ 65536) && decide (16 ≤ p.quota ∧ p.quota ≤ 268435456) &&
  decide (16 ≤ p.rateCeil ∧ p.rateCeil ≤ 4000000) && decide (1 ≤ p.quantum ∧ p.quantum ≤ 4096) &&
  p.filter6.all (fun x => decide (x.len ≤ 128)) && p.filter4.all (fun x => decide (x.len ≤ 32))

/-- What a manifest body declares (18 R481). It passes its own check with attributes in range (02 R35), one supervisor
partition, and no other partition bound to the PCIe endpoint (02 R36). -/
def manifestOf (body : List Byte) : Manifest :=
  let f := fun k => Config.manifestField body k 0
  let ps : Tab Partition := (List.range (f 0 % 4095)).foldl (fun t i =>
    tabSet t (Config.manifestField body 1 i % 4096) (manifestPart body i)) []
  { parts := ps, shafts := BitVec.ofNat 8 (f 12), member := f 13, partner := f 14, witness := f 15, pairLink := f 16 % 2,
    master := f 17, backup := f 18,
    witnessed := (List.range (f 19 % 5)).map fun i =>
      (Config.manifestField body 40 i, Config.manifestField body 41 i),
    zonePartners := (List.range 64).filterMap fun i =>
      let m := Config.manifestField body 42 i
      if m = 0 then none else some (i, m)
    zoneShafts := (List.range 8).filterMap fun z =>
      let m := Config.manifestField body 43 z
      if m = 0 then none else some (z, m, Config.manifestField body 44 z % 8)
    ok := ps.all (fun x => partOk x.2 && decide (2 ≤ x.1) && (x.2.binding != 0 || x.2.supervisor)) &&
      (ps.filter fun x => x.2.supervisor).length == 1 }

/-- The leap seconds that a trusted body lists (14 R549; the layout is Thepaif's). -/
def leapsOf (body : List Byte) : List Leap :=
  (List.range (Config.manifestField body 50 0 % 65)).map fun i =>
    { value := Config.manifestField body 51 i % 65536, fromNs := Config.manifestField body 52 i }

/-- An image copy read from its bytes (18 R478). -/
def parseImg (s : State) (l : List Byte) : ImgCopy :=
  let kind := byteAt l 8
  let len := leAt l 20 8
  let body := (l.drop 512).take len
  let pub := (l.drop 176).take 96
  let k := keyOfKind kind
  { magic := l.take 8 == [0x47, 0x41, 0x4C, 0x49, 0x4D, 0x47, 0x30, 0x31]
    kind, svn := byteAt l 9, line := byteAt l 10, minSlot := byteAt l 11, build := leAt l 12 4, serial := leAt l 16 4
    length := len
    keySlot := (List.range 4).find? fun i => slotHash s k i == Config.sha384 pub
    sigOk := Config.ecdsaOk pub (l.take 80) ((l.drop 80).take 96) && leAt l 32 48 == Config.sha384 body
    digest := leAt l 32 48
    manifest := if kind = 4 then some (manifestOf body) else none
    leaps := if kind = 1 then leapsOf body else [] }

/-- A processor halt reaches the Scarp die, which injects STOP (18 R493). -/
def haltEvents (s : State) (base : Nat) (was now : Nat) (n : Nat) : State :=
  s.each (List.range n) fun s i =>
    if bitAt now i && !bitAt was i then dbgEvent s 5 (base + i) 1
    else if bitAt was i && !bitAt now i then dbgEvent s 5 (base + i) 0 else s

/-- The halt requests of all weavers are set (18 R493, R498): a rising bit halts the weaver, unless its basket sleeps
(18 R496), and reaches the Scarp die. -/
def setWhalt (s : State) (v : Nat) : State :=
  let was := Nat.land s.dbg.whalt.toNat (haltable s)
  let now := Nat.land v (haltable s)
  let rising := (List.range 64).any fun i => bitAt now i && !bitAt was i
  let s := haltEvents s 0 was now 64
  let s := s.onDbg fun d => { d with whalt := BitVec.ofNat 64 v, reload := d.reload ||| BitVec.ofNat 64 now }
  if rising then injectStop s else s

/-- The halt requests of stake cores, the safety core and the summit core are set (18 R493, R498). -/
def setChalt (s : State) (v : Nat) : State :=
  let was := s.dbg.chalt.toNat
  let free := s.sys.lc = .blank ∨ s.sys.lc = .returned
  let now := v % 512 + (if bitAt v 9 ∧ free then 512 else 0)
  let s := haltEvents s 0x100 (was % 256) (now % 256) 8
  let s := haltEvents s 0x200 (was / 256 % 2) (now / 256 % 2) 1
  let s := haltEvents s 0x300 (was / 512) (now / 512) 1
  let s := s.onDbg fun d => { d with chalt := BitVec.ofNat 32 now, safetyHalted := d.safetyHalted || bitAt now 8 }
  if bitAt now 8 && !bitAt was 8 then haltCore (injectStop s) else s

/-- A debug reset (18 R495): cause 06h; event 07h is recorded after it. -/
def debugReset (s : State) (reason : Nat) (more : List Event := []) : State :=
  ctlReset s 6 (more ++ [bootDebug 7 s.dbg.holder reason])

/-- The session or grant ends (18 R491, R494, R483): stake cores resume, halted weavers wait for their reload, other halt
requests end, and a session in which the safety core was halted ends in a debug reset. -/
def endSession (s : State) (why : Nat) : State :=
  if s.dbg.level = .closed then s
  else if s.dbg.level = .intrusive ∧ s.dbg.safetyHalted then
    debugReset (s.onDbg fun d => { d with level := .closed }) 2 [bootDebug 2 s.dbg.holder why]
  else
    let s := dbgEvent s 2 s.dbg.holder why
    let s := if s.dbg.level = .intrusive then setChalt s 0 else s
    (s.onDbg fun d => { d with
      level := .closed, holder := 0, expire := 0, grantKind := 0, imgStarted := false, whalt := d.whalt &&& d.reload }).onSys fun y =>
      { y with jtag := if 3 ≤ y.jtag then 0 else y.jtag }

/-- Register DBG.IMG.CTRL under an update grant (18 R482): START erases copy 1 of the granted KIND, COMMIT verifies it,
programs copy 0 and ends the grant. -/
def imgCtrl (s : State) (v : Nat) : State :=
  let kind := v % 16
  let s := s.onDbg fun d => { d with imgKind := kind }
  let s :=
    if bitAt v 4 then
      if kind = s.dbg.grantKind then
        (setImg s kind 1 { erased := true }).onDbg fun d => { d with imgOffset := 0, imgWords := [], imgStarted := true, imgStatus := 1 }
      else s.onDbg fun d => { d with imgStatus := 6 }
    else s
  if bitAt v 5 then
    let k := s.dbg.grantKind
    let c := parseImg s (imgBytes s.dbg.imgWords)
    let code := if s.dbg.imgStarted ∧ kind = k then verifyCode s k c else 6
    let s := if s.dbg.imgStarted then setImg s k 1 c else s
    let s := if code = 3 then dbgEvent (setImg s k 0 c) 8 k c.svn else s
    (endSession s 1).onDbg fun d => { d with imgStatus := code, imgWords := [] }
  else s

/-- An image word at the offset, which advances by 4 (18 R482). -/
def imgData (s : State) (v : Nat) : State :=
  if s.dbg.imgStarted then
    s.onDbg fun d => { d with imgWords := v % 4294967296 :: d.imgWords, imgOffset := (d.imgOffset + 4) % 4294967296, imgStatus := 1 }
  else s

/-- Whether an INTRUSIVE write reaches an address (18 R487, R488): weaver local memory, and LPDDR5 but the trusted and
safety regions. -/
def memWritable (s : State) : Bool :=
  let d := s.dbg
  match d.memSpace with
  | 0 => decide (0x20000000 ≤ d.memAddr) && decide (d.memAddr + 4 ≤ 0x800000000)
  | 1 => decide (d.memAddr + 4 ≤ 524288) && !memAsleep s 1 d.memUnit
  | _ => false

/-- Four bytes written to a canonical memory. -/
def memPut (m : Mem) (a v : Nat) : Mem :=
  (List.range 4).foldl (fun m i => tabSet m (a + i) (BitVec.ofNat 8 (v / 256 ^ i))) m

/-- A write of DBG.MEM.DATA at INTRUSIVE (18 R487, R488): stored where allowed, otherwise ignored and counted; the address
advances by 4. -/
def writeMemData (s : State) (v : Nat) : State :=
  let okAddr := memWritable s
  let s := if !okAddr && s.dbg.memSpace == 0 then regionViolation s 14 true s.dbg.memAddr else s
  s.onDbg fun d => { d with
    lpddr := if okAddr ∧ d.memSpace = 0 then memPut d.lpddr d.memAddr v else d.lpddr
    wlocal := if okAddr ∧ d.memSpace = 1 then memPut d.wlocal (d.memUnit * 524288 + d.memAddr) v else d.wlocal
    memAddr := (d.memAddr + 4) % 18446744073709551616
    addrFail := if okAddr then d.addrFail else satAdd 65535 d.addrFail 1 }

/-- A write of a debug register by a partition (18 R491, R498): only from the holder and at the level given, otherwise
ignored and counted. Writes to read-only registers are ignored (00 R11). -/
def writeDebug (s : State) (p off v : Nat) : State :=
  let lv := if isHolder s p then s.dbg.level else .closed
  let intrusive := lv == .intrusive
  let session := intrusive || lv == .observe
  let put (okW : Bool) (t : State) : State := if okW then t else countFault s
  match off with
  | 0x5004 => put intrusive (setWhalt s (v + 4294967296 * half s.dbg.whalt.toNat true))
  | 0x5008 => put intrusive (setWhalt s (half s.dbg.whalt.toNat false + 4294967296 * v))
  | 0x500C => put intrusive (setChalt s v)
  | 0x501C => put intrusive (if v % 2 = 1 then debugReset s 1 else s)
  | 0x5030 => put session (s.onDbg fun d => { d with memAddr := d.memAddr / 4294967296 * 4294967296 + v })
  | 0x5034 => put session (s.onDbg fun d => { d with memAddr := v * 4294967296 + d.memAddr % 4294967296 })
  | 0x5038 => put session (s.onDbg fun d => { d with memSpace := v % 16, memUnit := v / 16 % 64 })
  | 0x503C => put intrusive (writeMemData s v)
  | 0x5040 => put (lv == .imgGrant) (imgCtrl s v)
  | 0x5048 => put (lv == .imgGrant) (imgData s v)
  | _ => s

end Sys2Proof.Machine
end

