-- ==== Sys2Proof/Machine/Profile.lean ====
section
/-! DEFINITION. Motion profiles of cars and doors: blends, planning from rest and from a moving state, stopping points,
evaluation (06 R168 to R172). Inside a profile positions are nm, velocities nm/s, accelerations nm/s², times ns. -/
namespace Sys2Proof.Machine

/-! ### Blends (06 R169) -/

/-- κ of a blend, in units of 10⁻¹². -/
def kappa (blend : Nat) : Nat := if blend = 0 then 1570796326795 else 2187500000000
/-- Duration of a blend over `da` nm/s² at `j` mm/s³, in ns: κ |Δa| / J. -/
def blendNs (blend : Nat) (da j : Int) : Nat := kappa blend * da.natAbs / (j.natAbs * 1000000000)

/-- ∫σ over [0, x] of a blend, x and result in units of 2⁻⁴⁰. -/
def sigma1 (blend : Nat) (x : Int) : Int :=
  if blend = 0 then
    x / 2 - sinTurn (x.toNat / 512) * 1099511627776 / twoPi40
  else
    let m := fun (a b : Int) => asr (a * b) 40
    let x2 := m x x
    let x4 := m x2 x2
    let x5 := m x4 x
    m x5 (7 * 1099511627776 - m x (14 * 1099511627776 - m x (10 * 1099511627776 - m x (5 * 549755813888))))

/-- ∬σ over [0, x] of a blend, x and result in units of 2⁻⁴⁰. -/
def sigma2 (blend : Nat) (x : Int) : Int :=
  let m := fun (a b : Int) => asr (a * b) 40
  if blend = 0 then
    m x x / 4 + (cosTurn (x.toNat / 512) - 1099511627776) * 55701909777 / 1099511627776
  else
    let x2 := m x x
    let x4 := m x2 x2
    let x6 := m x4 x2
    m x6 (1282763565739 - m x (2199023255552 - m x (1374389534720 - m x 305419896604)))

/-- σ of a blend, x and result in units of 2⁻⁴⁰ (06 R169). -/
def sigma (blend : Nat) (x : Int) : Int :=
  let m := fun (a b : Int) => asr (a * b) 40
  if blend = 0 then (1099511627776 - cosTurn (x.toNat / 512)) / 2
  else
    let x2 := m x x
    let x4 := m x2 x2
    m x4 (35 * 1099511627776 - m x (84 * 1099511627776 - m x (70 * 1099511627776 - 20 * x)))

/-- State of a profile: position nm, velocity nm/s, acceleration nm/s². -/
structure Kin where
  p : Int := 0
  v : Int := 0
  a : Int := 0
  deriving DecidableEq, Repr

/-- The state `t` ns into a phase (06 R168, R169). -/
def phaseAt (blend : Nat) (f : ProfPhase) (t : Nat) : Kin :=
  let n : Int := t
  let d : Int := f.dur
  let base : Kin := { p := f.p0 + f.v0 * n / 1000000000 + f.a0 * n * n / 2000000000000000000
                      v := f.v0 + f.a0 * n / 1000000000, a := f.a0 }
  if f.a0 = f.a1 ∨ f.dur = 0 then base
  else
    let x := n * 1099511627776 / d
    let da := f.a1 - f.a0
    { p := base.p + asr (da * d / 1000000000 * d / 1000000000 * sigma2 blend x) 40
      v := base.v + asr (da * d / 1000000000 * sigma1 blend x) 40
      a := f.a0 + asr (da * sigma blend x) 40 }

/-- The state at the end of a phase. -/
def phaseEnd (blend : Nat) (f : ProfPhase) : Kin :=
  let k := phaseAt blend f f.dur
  -- a blend changes the velocity by the mean of its accelerations times its duration (06 R169)
  { k with v := f.v0 + (f.a0 + f.a1) * (f.dur : Int) / 2000000000, a := f.a1 }

/-- Phases from a state: each starts where the one before it ends. Phases of no length are skipped. -/
def chainPhases (blend : Nat) (k : Kin) : List (Nat × Int × Int) → List ProfPhase
  | [] => []
  | (0, _, _) :: r => chainPhases blend k r
  | (d, a0, a1) :: r =>
    let f : ProfPhase := { dur := d, a0, a1, v0 := k.v, p0 := k.p }
    f :: chainPhases blend (phaseEnd blend f) r

/-- The state at the end of a list of phases that starts at `k`. -/
def chainEnd (blend : Nat) (k : Kin) (l : List ProfPhase) : Kin :=
  match l.getLast? with
  | none => k
  | some f => phaseEnd blend f

/-- Total duration of a list of phases. -/
def totalNs (l : List ProfPhase) : Nat := l.foldl (fun n f => n + f.dur) 0

/-! ### Planning from rest (06 R170) -/

/-- What R170 gives: peak velocity, acceleration, and the durations of blend, hold and cruise. -/
structure Sizing where
  vp : Int := 0
  a : Int := 0
  tb : Nat := 0
  ta : Nat := 0
  tc : Nat := 0
  deriving DecidableEq, Repr

/-- The journey of distance `s` nm from rest (06 R170), with velocity `v` nm/s, acceleration `a` nm/s², jerk `j` mm/s³. -/
def sizing (blend : Nat) (s v a j : Int) : Sizing :=
  let tbOf := fun (x : Int) => blendNs blend x j
  let nohold := fun (x : Int) (vp : Int) => decide (vp * 1000000000 < x * (tbOf x : Int))
  let ar := if nohold a v then (isqrt (v.toNat * (j.toNat * 1000000) * 1000000000000 / kappa blend) : Int) else a
  let ar := max 1 ar
  let tb := tbOf ar
  let acc := fun (vp ar : Int) (tb : Nat) => vp * 1000000000 / ar + (tb : Int)
  let z : Sizing :=
    if s * 1000000000 < v * acc v ar tb then
      let root := isqrt (tb * tb + (4 * s.toNat * 1000000000000000000 / ar.toNat))
      let vp := ar * ((root : Int) - tb) / 2000000000
      if nohold ar vp then
        let ar := max 1 (icbrt (s.toNat * (j.toNat * 1000000) * (j.toNat * 1000000) * 1000000000000 / kappa blend
          * 1000000000000 / kappa blend / 2) : Int)
        let tb := tbOf ar
        { vp := ar * (tb : Int) / 1000000000, a := ar, tb }
      else { vp, a := ar, tb }
    else { vp := v, a := ar, tb }
  let vp := max 1 z.vp
  { z with vp, ta := (vp * 1000000000 / z.a - (z.tb : Int)).toNat
           tc := ((s - vp * acc vp z.a z.tb / 1000000000) * 1000000000 / vp).toNat }

/-- Total time of a journey from rest, in ns (06 R170 t_total). -/
def restNs (blend : Nat) (s v a j : Int) : Nat :=
  let z := sizing blend s v a j
  2 * (z.tb + z.ta + z.tb) + z.tc

/-- The seven phases of a journey from rest, in the direction of `dir`. -/
def restPhases (blend : Nat) (p s v a j dir : Int) : List ProfPhase :=
  let z := sizing blend s v a j
  let x := dir * z.a
  chainPhases blend { p } [(z.tb, 0, x), (z.ta, x, x), (z.tb, x, 0), (z.tc, 0, 0), (z.tb, 0, -x), (z.ta, -x, -x), (z.tb, -x, 0)]

/-! ### Planning from a moving state (06 R171, R172) -/

/-- The phases that bring velocity and acceleration `v0`, `a0` to `vp` and 0, all positive in the direction of travel: a blend
from `a0` to the acceleration of the hold, at most `a` either way, the hold, a blend to 0. -/
def speedChange (blend : Nat) (v0 a0 vp a j : Int) : List (Nat × Int × Int) :=
  let jn := j * 1000000
  let c := fun (x : Int) => x * (kappa blend : Int) / (jn * 1000000000000)
  let v1 := v0 + c (a0 * a0) * (if a0 < 0 then -1 else 1) / 2
  let dv := vp - v0
  let half := 2 * jn * 1000000000000 * dv / (kappa blend : Int)
  if v1 ≤ vp then
    let x := min a (isqrt ((half + a0 * a0) / 2).toNat : Int)
    let rest := dv - (c (if x < a0 then a0 * a0 - x * x else x * x - a0 * a0) + c (x * x)) / 2
    [(blendNs blend (x - a0) j, a0, x), (if x = 0 then 0 else (rest * 1000000000 / x).toNat, x, x), (blendNs blend x j, x, 0)]
  else
    let x := min a (isqrt ((a0 * a0 - half) / 2).toNat : Int)
    let rest := dv - (c (if a0 < -x then x * x - a0 * a0 else a0 * a0 - x * x) - c (x * x)) / 2
    [(blendNs blend (x + a0) j, a0, -x), (if x = 0 then 0 else (-rest * 1000000000 / x).toNat, -x, -x), (blendNs blend x j, -x, 0)]

/-- A state seen in its direction of travel. -/
def turnKin (dir : Int) (k : Kin) : Kin := { p := dir * k.p, v := dir * k.v, a := dir * k.a }

/-- The phases of a stop from a moving state, in its own direction of travel (06 R172). -/
def stopPhases (blend : Nat) (k : Kin) (a j : Int) : List ProfPhase := chainPhases blend k (speedChange blend k.v k.a 0 a j)

/-- The phases that go by peak velocity `vp` and stop, with a cruise of `tc`. -/
def viaPhases (blend : Nat) (k : Kin) (vp a j : Int) (tc : Nat) : List ProfPhase :=
  chainPhases blend k (speedChange blend k.v k.a vp a j ++ [(tc, 0, 0)] ++ speedChange blend vp 0 0 a j)

/-- The greatest peak velocity from `lo` on, by bisection, whose profile without cruise does not pass `s`. -/
def peakBits (blend : Nat) (k : Kin) (a j : Int) (s : Int) : Nat → Int → Int → Int
  | 0, lo, _ => lo
  | n + 1, lo, hi =>
    let mid := (lo + hi) / 2
    if (chainEnd blend k (viaPhases blend k mid a j 0)).p ≤ s then peakBits blend k a j s n mid hi
    else peakBits blend k a j s n lo mid

/-- The velocity of a state once its acceleration has blended to zero; positive in the direction of travel. -/
def coastSpeed (blend : Nat) (k : Kin) (j : Int) : Int :=
  max 0 (chainEnd blend k (chainPhases blend k [(blendNs blend k.a j, k.a, 0)])).v

/-- The least deceleration from `lo` to `hi`, by bisection, whose stop does not pass `s`. -/
def decelBits (blend : Nat) (k : Kin) (j : Int) (s : Int) : Nat → Int → Int → Int
  | 0, _, hi => hi
  | n + 1, lo, hi =>
    let mid := (lo + hi) / 2
    if (chainEnd blend k (stopPhases blend k mid j)).p ≤ s then decelBits blend k j s n lo mid
    else decelBits blend k j s n mid hi

/-- The phases from a moving state to rest at `s`, the peak velocity limited to `v` (06 R171); positive in the direction of
travel. A target short of the place where the car would stop if its acceleration first blended to zero is reached by a stop of
reduced deceleration (DESIGN CHOICE, log 80). -/
def movePhases (blend : Nat) (k : Kin) (s v a j : Int) : List ProfPhase :=
  let ends := fun (vp : Int) => (chainEnd blend k (viaPhases blend k vp a j 0)).p
  let low := min v (coastSpeed blend k j)
  if ends v ≤ s then viaPhases blend k v a j ((s - ends v) * 1000000000 / max 1 v).toNat
  else if ends low ≤ s then
    let vp := peakBits blend k a j s 40 low v
    viaPhases blend k vp a j (if 0 < vp then ((s - ends vp) * 1000000000 / vp).toNat else 0)
  else stopPhases blend k (decelBits blend k j s 40 0 a) j

/-- Phases seen again upward, for a direction of travel. -/
def turnPhases (dir : Int) (l : List ProfPhase) : List ProfPhase :=
  l.map fun f => { f with a0 := dir * f.a0, a1 := dir * f.a1, v0 := dir * f.v0, p0 := dir * f.p0 }

/-! ### Profiles -/

/-- A profile from its phases. -/
def mkProfile (blend start : Nat) (target : Int) (l : List ProfPhase) : Profile :=
  { phases := l, start, blend, total := totalNs l, target }

/-- The state `t` ns into a list of phases. -/
def phasesAt (blend : Nat) (l : List ProfPhase) (t : Nat) (dflt : Kin) : Kin :=
  match l with
  | [] => dflt
  | [f] => phaseAt blend f (min t f.dur)
  | f :: g :: r => if t < f.dur then phaseAt blend f t else phasesAt blend (g :: r) (t - f.dur) dflt

/-- The state of a profile at journey time `t` ns; from T on, its target at rest (06 R168). -/
def profAt (q : Profile) (t : Nat) : Kin :=
  if q.total ≤ t then { p := q.target * 1000 } else phasesAt q.blend q.phases t { p := q.target * 1000 }

/-- A quantity in thousandths rounded to nearest. -/
def roundK (x : Int) : Int := roundDiv x 1000

/-- The reference of a profile at journey time `t` ns: µm, µm/s, µm/s² (06 R168). -/
def refAt (q : Profile) (t : Nat) : Int × Int × Int :=
  let k := profAt q t
  (roundK k.p, roundK k.v, roundK k.a)

/-- A profile from rest at `p` µm to `target` µm (06 R170), limits in µm/s, µm/s², mm/s³. -/
def planRest (blend start : Nat) (p target v a j : Int) : Profile :=
  let dir := isign (target - p)
  mkProfile blend start target (restPhases blend (p * 1000) (iabs (target - p) * 1000) (v * 1000) (a * 1000) j dir)

/-- A profile from a moving state to rest at `target` µm (06 R171). -/
def planMove (blend start : Nat) (k : Kin) (target v a j : Int) : Profile :=
  let dir := if k.v = 0 then isign (target * 1000 - k.p) else isign k.v
  let q := turnKin dir k
  mkProfile blend start target (turnPhases dir (movePhases blend q (dir * target * 1000) (v * 1000) (a * 1000) j))

/-- The profile that stops from a moving state (06 R172, 07 R219). -/
def planStop (blend start : Nat) (k : Kin) (a j : Int) : Profile :=
  let dir := if k.v < 0 then -1 else 1
  let l := turnPhases dir (stopPhases blend (turnKin dir k) (a * 1000) j)
  mkProfile blend start (roundK (chainEnd blend k l).p) l

/-- The stopping point of a moving state, in µm (06 R172). -/
def stopPoint (blend : Nat) (k : Kin) (a j : Int) : Int := (planStop blend 0 k a j).target

/-- The profile that a door move record starts from a state (08 R235, 06 R170 to R172): from rest, from a moving state, to a
stop, or through rest and back when the target lies behind the stopping point. -/
def planDoor (blend start : Nat) (k : Kin) (target v a j : Int) : Profile :=
  if k.v = 0 ∧ k.a = 0 then planRest blend start (roundK k.p) target v a j
  else
    let q := planStop blend start k a j
    if q.target = target then q
    else if (if k.v < 0 then decide (target ≤ q.target) else decide (q.target ≤ target)) then planMove blend start k target v a j
    else
      let e := chainEnd blend k q.phases
      let dir := isign (target - q.target)
      mkProfile blend start target (q.phases ++ restPhases blend e.p (iabs (target - q.target) * 1000) (v * 1000) (a * 1000) j dir)

/-- Whether a target is reachable: at or beyond the stopping point in the direction of travel (06 R172). -/
def reachable (blend : Nat) (k : Kin) (target a j : Int) : Bool :=
  let s := stopPoint blend k a j
  if k.v < 0 then decide (target ≤ s) else if 0 < k.v then decide (s ≤ target) else true

end Sys2Proof.Machine
end

