-- ==== Sys2Proof/Machine/Ties.lean ====
section
/-! DEFINITION. Questions that one part of the block asks of another: where an axis is carried, what an input reads, what the
safety image permits. -/
namespace Sys2Proof.Machine

/-! ### Shafts and cars -/

/-- A shaft; one not listed has no configuration (07 R194). -/
def State.shaft (s : State) (h : Nat) : ShaftSt := tabGet s.motion.shafts {} h
/-- A state with one shaft changed. -/
def State.onShaft (s : State) (h : Nat) (f : ShaftSt → ShaftSt) : State :=
  s.onMotion fun m => { m with shafts := tabMod m.shafts {} h f }
/-- A car; one not listed is OUT_OF_SERVICE. -/
def State.car (s : State) (n : Nat) : CarSt := tabGet s.motion.cars {} n
/-- A state with one car changed. -/
def State.onCar (s : State) (n : Nat) (f : CarSt → CarSt) : State :=
  s.onMotion fun m => { m with cars := tabMod m.cars {} n f }

/-- What a car-level program works on: its shaft, the configuration in force and the car's section. -/
structure CarCtx where
  h : Nat := 0
  cfg : ShaftCfg := {}
  c : CarCfg := {}
  deriving DecidableEq, Repr

/-- The cars of a configuration, by ORDER. -/
def cfgCars (cfg : ShaftCfg) : List CarCfg := cfg.cars.map (·.2)

/-- Every committed car with its place, by shaft and ORDER. -/
def allCars (s : State) : List CarCtx :=
  s.motion.shafts.flatMap fun p => match p.2.cfg with
    | none => []
    | some cfg => (cfgCars cfg).map fun c => { h := p.1, cfg, c }

/-- Every car as the accepted commits leave them, those that wait for their release phase included (16 R439). -/
def nextCars (s : State) : List CarCtx :=
  s.motion.shafts.flatMap fun p =>
    match (match p.2.commits.getLast? with | some x => some x.2.1 | none => p.2.cfg) with
    | none => []
    | some cfg => (cfgCars cfg).map fun c => { h := p.1, cfg, c }

/-- The place of a committed car (07 R196). -/
def carCtx (s : State) (n : Nat) : Option CarCtx := (allCars s).find? fun x => x.c.car == n
/-- The cars of a shaft. -/
def shaftCars (s : State) (h : Nat) : List CarCtx := (allCars s).filter fun x => x.h == h

/-! ### Axes and their nodes -/

/-- The node that carries an axis: ring, index in the slot table, record within the slot (03 R79, R109). -/
def axisNode (s : State) (a : Nat) : Option (Nat × Nat × Nat) :=
  (List.range 4).findSome? fun r =>
    let c := (s.ring r).cfg
    if c.mode = 0 then
      (List.range c.entries.length).findSome? fun i =>
        match c.entries[i]? with
        | some e => if e.first ≤ a ∧ a < e.first + e.axes then some (r, i, a - e.first) else none
        | none => none
    else none

/-- What the module holds of the node at index `i` of a slot table (address i + 1). -/
def nodeOf (s : State) (r i : Nat) : NodeSt := tabGet (s.ring r).nodes {} (i + 1)

/-- Whether the axes of a ring are in bank H in this cycle (01 R33, 03 R96, R101). -/
def inBankH (s : State) (r : Nat) : Bool := (s.ring r).healed || (s.ring r).recloseCycle == some s.time.cycle

/-- Whether an axis is in bank H for its ring in this cycle (01 R33). -/
def axisHealed (s : State) (a : Nat) : Bool :=
  match axisNode s a with | some (r, _, _) => inBankH s r | none => false

/-- Whether the module originates frames when its ring leads (13 R372, R385). -/
def originates (s : State) : Bool :=
  match s.red.role with | .solo | .active | .takingOver | .undecided => true | _ => false

/-! ### Staging (01 R32) -/

/-- A staged write goes to the end of its axis's list, and behind every write that has arrived before it. -/
def stage (s : State) (a : Nat) (w : StagedWrite) : State :=
  (s.onLoop fun l => { l with arrivals := l.arrivals + 1 }).onAxis a fun x =>
    { x with staged := x.staged ++ [{ w with ord := s.loop.arrivals }] }

/-! ### Field inputs and outputs (11) -/

/-- A digital input; one not configured has the reset filter. -/
def State.di (s : State) (n : Nat) : DiSt := tabGet s.field.di {} n
/-- An analogue input. -/
def State.ai (s : State) (n : Nat) : AiSt := tabGet s.field.ai {} n
/-- A sigma-delta input. -/
def State.sd (s : State) (n : Nat) : SdSt := tabGet s.field.sd {} n
/-- A quadrature input. -/
def State.qa (s : State) (n : Nat) : QaSt := tabGet s.field.qa {} n
/-- A PWM set. -/
def State.pwm (s : State) (n : Nat) : PwmSt := tabGet s.field.pwm {} n
/-- A step output. -/
def State.stp (s : State) (n : Nat) : StpSt := tabGet s.field.stp {} n
/-- A state with one digital input changed. -/
def State.onDi (s : State) (n : Nat) (f : DiSt → DiSt) : State := s.onField fun x => { x with di := tabMod x.di {} n f }
/-- A state with one analogue input changed. -/
def State.onAi (s : State) (n : Nat) (f : AiSt → AiSt) : State := s.onField fun x => { x with ai := tabMod x.ai {} n f }
/-- A state with one sigma-delta input changed. -/
def State.onSd (s : State) (n : Nat) (f : SdSt → SdSt) : State := s.onField fun x => { x with sd := tabMod x.sd {} n f }
/-- A state with one quadrature input changed. -/
def State.onQa (s : State) (n : Nat) (f : QaSt → QaSt) : State := s.onField fun x => { x with qa := tabMod x.qa {} n f }
/-- A state with one PWM set changed. -/
def State.onPwm (s : State) (n : Nat) (f : PwmSt → PwmSt) : State := s.onField fun x => { x with pwm := tabMod x.pwm {} n f }
/-- A state with one step output changed. -/
def State.onStp (s : State) (n : Nat) (f : StpSt → StpSt) : State := s.onField fun x => { x with stp := tabMod x.stp {} n f }

/-- Index of a front end among the 46 (11 R319). -/
def frontIndex (f : FrontEnd) : Nat :=
  match f with
  | .di => 0 | .dout => 1 | .ai n => 2 + n | .sd n => 18 + n | .qa n => 26 + n | .pwm n => 34 + n | .stp n => 38 + n
/-- Whether a front end is unpowered or its latest frame failed (11 R319, R320). -/
def frontFailed (s : State) (i : Nat) : Bool := !s.field.on || decide (0 < tabGet s.field.fails 0 i)
/-- Whether sixteen consecutive frames of a front end have failed (11 R319). -/
def frontDead (s : State) (i : Nat) : Bool := decide (16 ≤ tabGet s.field.fails 0 i)

/-- Value of a field input by SRC.FB code, and whether the input failed in this window (04 R121, R133, 11 R318 to R320). -/
def fieldFb (s : State) (code : Nat) : Int × Bool :=
  if 0x10 ≤ code ∧ code ≤ 0x17 then ((s.qa (code - 0x10)).inst, frontFailed s (26 + (code - 0x10)))
  else if 0x20 ≤ code ∧ code ≤ 0x2F then ((s.ai (code - 0x20)).code, frontFailed s (2 + (code - 0x20)))
  else if 0x30 ≤ code ∧ code ≤ 0x37 then ((s.sd (code - 0x30)).inst, frontFailed s (18 + (code - 0x30)))
  else (0, false)
/-- Encoder fault of the quadrature input a code names (05 R154 cause 05h, 11 R319, R333). -/
def encFault (s : State) (code : Nat) : Bool :=
  decide (0x10 ≤ code ∧ code ≤ 0x17) && ((s.qa (code - 0x10)).fault || frontDead s (26 + (code - 0x10)))
/-- Whether 1,024 samples have passed without an illegal transition (05 R154, 11 R333). -/
def encClear (s : State) (code : Nat) : Bool := decide ((s.qa (code - 0x10)).since = 1024)
/-- Fault of an analogue input (11 R319, R327). -/
def aiFault (s : State) (n : Nat) : Bool := (s.ai n).fault || frontDead s (2 + n)
/-- Input fault of the analogue or sigma-delta input a code names (05 R154 cause 06h, 11 R319, R327, R331). -/
def inFault (s : State) (code : Nat) : Bool :=
  (decide (0x20 ≤ code ∧ code ≤ 0x2F) && aiFault s (code - 0x20)) ||
  (decide (0x30 ≤ code ∧ code ≤ 0x37) && ((s.sd (code - 0x30)).fault || frontDead s (18 + (code - 0x30))))
/-- Filtered state of a digital input at the latest instant (11 R318, R323). -/
def diState (s : State) (n : Nat) : Bool := s.field.diInst.getLsbD n

/-- Whether an axis keeps the divider rule of a PWM set (11 R335). -/
def dividerOk (s : State) (divn a : Nat) : Bool := decide (divn ≤ 1) || dDiv (s.axis a).desc % divn == 0
/-- The driving axes of a PWM configuration (11 R336). -/
def pwmAxes (c : PwmCfg) : List Nat :=
  (match c.mode with | 0 => [] | 3 => [c.axu, c.axv, c.axw] | _ => [c.axu]).filter (· != 0xFFFF)
/-- ASTAT of an axis whose output is on the field island (11 R339). -/
def fieldAstat (s : State) (d : Desc) : BitVec 16 :=
  let o := dOut d
  BitVec.ofNat 16 (
    if 0x10 ≤ o ∧ o ≤ 0x13 then
      let p := s.pwm (o - 0x10)
      ofBits [p.on, p.clamp, false, false, false, p.oc || (pwmAxes p.cfg).any fun a => !dividerOk s p.cfg.divn a]
    else
      let p := s.stp (o - 0x20)
      ofBits [p.due != 0 || p.carried != 0, p.carried != 0])

/-! ### Safety permissions -/

/-- PERMIT of an axis's drive group in the safety image; an axis without a group has none (04 R148, 10 R284, R285). -/
def permitOf (s : State) (a : Nat) : Bool :=
  tabHas s.safety.core.cfg.axisGroup a && s.safety.image.permit.getLsbD (tabGet s.safety.core.cfg.axisGroup 8 a)
/-- Whether the STO outputs of an axis's drive group are energised (05 R154 cause 0Eh, 10 R279). -/
def stoOut (s : State) (a : Nat) : Bool :=
  tabHas s.safety.core.cfg.axisGroup a &&
  (let n := tabGet s.safety.core.cfg.axisGroup 8 a; stoOn s .core n && stoOn s .scarp n)
/-- The shaft and segment of a segment axis, where a configuration in force names it (07 R197). -/
def segPlace (s : State) (a : Nat) : Option (Nat × Nat) :=
  s.motion.shafts.findSome? fun p => match p.2.cfg with
    | none => none
    | some c => (c.segs.find? fun g => g.2.axis == a).map fun g => (p.1, g.1)

/-- The car over a segment axis as the latest car-level program wrote it (07 R211). -/
def segCarOf (s : State) (a : Nat) : Option Nat :=
  match segPlace s a with
  | none => none
  | some (h, j) => let g : SegSt := tabGet (s.shaft h).segs {} j; if g.car < 64 then some g.car else none

/-- Whether an axis is a segment axis whose car is in stop mode (04 R144, R148). -/
def segCarStop (s : State) (a : Nat) : Bool :=
  match segCarOf s a with | some n => (s.car n).stopMode | none => false
/-- The missed-deadline flag of the car over a segment axis (04 axis.status FLAGS[6]). -/
def segCarMissed (s : State) (a : Nat) : Bool :=
  match segCarOf s a with | some n => (s.car n).missed | none => false
/-- Whether the shaft of a segment axis is in inspection operation (05 R161, 07 R226). -/
def shaftInspectionOf (s : State) (a : Nat) : Bool :=
  match segPlace s a with | some (h, _) => s.safety.image.insp.getLsbD h | none => false
/-- Whether the door of a door-kind axis is out of service; an axis of no door is (05 R161, 08 R256). -/
def doorOut (s : State) (a : Nat) : Bool :=
  !s.doors.any fun p => match p.2.def_ with
    | some d => (d.axis0 == a || d.axis1 == a) && p.2.service
    | none => false
/-- The reference of a door axis: its move record evaluated in this window (04 R123, 08 R235). -/
def doorRef (s : State) (a : Nat) : Int × Int × Int :=
  refAt (s.axis a).move ((s.time.cycle - (s.axis a).move.start) * cycleNs s.sys.rate)
/-- Whether the Hall block of the segment node carrying an axis reports an array fault (05 R154 cause 13h, 07 R202). -/
def hallBad (s : State) (a : Nat) : Bool :=
  dKind (s.axis a).desc == 1 && (match axisNode s a with
    | some (r, i, _) => ((nodeOf s r i).blocks.getD 0 0).getLsbD 42
    | none => false)
/-- Whether DESC.SRC.CHAN names a configured car, or a zone shaft that the manifest declares (04 R147, 07 R198, 14 R412). -/
def carConfigured (s : State) (c : Nat) : Bool :=
  if c < 64 then (carCtx s c).isSome else decide (0x40 ≤ c) && tabHas s.sys.manifest.zoneShafts (c - 0x40)
/-- Car-level programs on a weaver (04 R115). -/
def carsOn (s : State) (w : Nat) : Nat := ((nextCars s).filter fun x => x.c.weaver == w).length
/-- Whether the module has a shaft configured: its manifest declares one (00 R1, 07 R194). -/
def shaftConfigured (s : State) : Bool := s.sys.manifest.shafts != 0
/-- Whether a shaft is declared by the manifest (07 R194). -/
def declaredShaft (s : State) (h : Nat) : Bool := decide (h < 8) && s.sys.manifest.shafts.getLsbD h
/-- Whether a declared shaft has its configuration committed (07 R194). -/
def committedShaft (s : State) (h : Nat) : Bool := declaredShaft s h && (s.shaft h).cfg.isSome
/-- Whether a car number is that of a committed car (07 R196). -/
def knownCar (s : State) (n : Nat) : Bool := (carCtx s n).isSome
/-- Whether action commands of classes 10h to 15h, 30h, 31h and 40h are taken: not on a FENCED module or a STANDBY
(13 R384, R391). -/
def actReady (s : State) : Bool := s.red.role != .fenced && s.red.role != .standby
/-- Every CAN channel goes to MODE 2 at its next bus idle, its own mode kept (13 R384, R391). -/
def quietCan (s : State) : State :=
  s.onCan fun x => { x with chans := x.chans.map fun p =>
    (p.1, { p.2 with cfgNext := some (p.2.cfgNext.getD { p.2.cfg with mode := p.2.before.getD p.2.cfg.mode }) }) }
/-- Every CAN channel returns to its own mode at the first bus idle (13 R391). -/
def wakeCan (s : State) : State :=
  s.onCan fun x => { x with chans := x.chans.map fun p =>
    (p.1, { p.2 with cfgNext := some (p.2.cfgNext.getD { p.2.cfg with mode := p.2.before.getD p.2.cfg.mode }), before := none }) }
/-- The module becomes STANDBY (13 R391, R394): CAN goes quiet, the count of good checkpoints starts at 0. -/
def becomeStandby (s : State) (joining : Bool) : State :=
  quietCan (s.onRed fun d => { d with role := .standby, goodCk := 0, goodWin := none, joining, exchLost := false })
/-- A wake event of S3 (16 R446, R448): latched during the entry, the start of the return in S3, ignored otherwise. -/
def s3Wake (s : State) (src cause : Nat) : State :=
  let w := s.pow
  if w.mode ≠ 1 then s
  else if w.asleep then s.onPow fun w => { w with mode := 2, stage := 0, asleep := false, wakeSrc := src, latched := none }
  else s.onPow fun w => { w with latched := some (w.latched.getD cause), wakeSrc := src }
/-- Whether the weavers are loaded (15 R426). -/
def loopReady (s : State) : Bool := decide (4 ≤ s.sys.stage)

end Sys2Proof.Machine
end

