-- ==== Sys2Proof/Machine/LoopOps.lean ====
section
/-! DEFINITION. Staging, landing and checks of axes (04), and the supervision causes (05): the shared operations behind the
axis and tuning commands and the cycle. -/
namespace Sys2Proof.Machine

/-! ### Occupancy of weavers (04 R112 to R116, R145, 16 R438) -/

/-- Axes that a ring configuration uses. -/
def ringAxes (c : RingCfg) : List Nat :=
  if c.mode = 0 then c.entries.flatMap fun e => (List.range e.axes).map (e.first + ·) else []

/-- The configuration of a ring as the accepted requests leave it (16 R439): that of the latest that waits, else the one in
force. -/
def ringNext (s : State) (r : Nat) : RingCfg := match (s.ring r).cfgPend.getLast? with | some x => x.2.1 | none => (s.ring r).cfg

/-- The rate as the accepted requests leave it (16 R439). -/
def nextRate (s : State) : Nat := s.sys.rateNext.getD s.sys.rate

/-- Axes that are loaded, or have a descriptor on its way. -/
def loadedAxes (s : State) : List Nat :=
  (s.loop.axes.filter fun x => x.2.state != .unloaded || x.2.staged.any fun w => match w.what with | .desc _ => true | _ => false).map (·.1)

/-- Axes whose slot is occupied: used by a ring configuration, loaded, or with a descriptor on its way (04 R112). -/
def occupied (s : State) : List Nat := (List.range 4).flatMap (fun r => ringAxes (s.ring r).cfg) ++ loadedAxes s

/-- The occupied slots as the accepted requests leave them (16 R439). -/
def nextOccupied (s : State) : List Nat := (List.range 4).flatMap (fun r => ringAxes (ringNext s r)) ++ loadedAxes s

/-- Occupied slots of a weaver: the highest slot among `axes`, plus 1 (04 R115). -/
def slotsOf (axes : List Nat) (w : Nat) : Nat :=
  axes.foldl (fun n a => if a % 64 = w then max n (a / 64 + 1) else n) 0

/-- Whether every weaver of a basket meets 04 R116 and R145 at a level with given axes and cars per weaver (16 R438). -/
def basketFits (rate level b : Nat) (axes : List Nat) (cars : Nat → Nat) : Bool :=
  (List.range 8).all fun i => weaverFits rate level (slotsOf axes (8 * b + i)) (cars (8 * b + i))

/-- Whether every basket fits at its present level. -/
def allFit (s : State) (rate : Nat) (axes : List Nat) (cars : Nat → Nat) : Bool :=
  (List.range 8).all fun b => basketFits rate (planLevel s b) b axes cars

/-! ### Descriptor checks (04 R121, R129, R147, 01 R22) -/

/-- The envelope of an axis (01 R21). -/
def envOf (s : State) (a : Nat) : Envelope := tabGet s.loop.envelope {} a

/-- Whether the output of a descriptor is a current (04 R129): segment, or auxiliary on a ring node. -/
def outIsCurrent (d : Desc) : Bool := (dKind d == 1 || dKind d == 6) && dOut d == 0
/-- Whether it is a force: a door kind. -/
def outIsForce (d : Desc) : Bool := isDoorKind (dKind d) && dOut d == 0

/-- Limit on the magnitude of OUTMAX and OUTMIN, when the output's quantity has one (04 R129). -/
def outEnvelope (s : State) (a : Nat) (d : Desc) : Option Int :=
  if outIsCurrent d then some (envOf s a).current else if outIsForce d then some (envOf s a).force else none

/-- Defined codes of SRC.FB (04 R121). -/
def okFb (c : Nat) : Bool := decide (c ≤ 2) || (decide (0x10 ≤ c) && decide (c ≤ 0x17)) ||
  (decide (0x20 ≤ c) && decide (c ≤ 0x2F)) || (decide (0x30 ≤ c) && decide (c ≤ 0x37))
/-- Defined codes of SRC.OUT (04 R121). -/
def okOut (c : Nat) : Bool := c == 0 || (decide (0x10 ≤ c) && decide (c ≤ 0x13)) || (decide (0x20 ≤ c) && decide (c ≤ 0x27))

/-- The offset of the failing field of a descriptor, the lowest, if one fails (04 R147). Of a pair in the wrong order the lower
limit is the failing field: OUTMIN, or IMIN of the bank (DESIGN CHOICE, log 77). -/
def descBad (s : State) (a : Nat) (d : Desc) : Option Nat :=
  let e := envOf s a
  let law := dLaw d
  let outOk := fun (i : Nat) => match outEnvelope s a d with | some m => decide (iabs (dwI d i) ≤ m) | none => true
  let imOk := fun (b : Nat) => law == 0 || law == 3 || decide (dBank d b 8 ≤ dBank d b 7)
  firstBad (
    [(0x00, decide (law ≤ 3)), (0x01, decide (1 ≤ dKind d ∧ dKind d ≤ 6)),
     (0x02, decide (dPhase d ≤ (if isDoorKind (dKind d) ∧ dDivM1 d = 0 then 7 else dDivM1 d))),
     (0x05, decide (3 ≤ dStaleLim d ∧ dStaleLim d ≤ 16)), (0x08, decide (dSel d ≤ 1)),
     (0x0C, okFb (dFb d)), (0x0D, decide (dRef d ≤ 3)), (0x0E, okOut (dOut d)),
     (0x0F, dRef d != 1 || carConfigured s (dChan d)),
     (0x10, outOk 4), (0x14, outOk 5 && decide (dwI d 5 ≤ dwI d 4)),
     (0x18, decide (0 ≤ dwI d 6 ∧ dwI d 6 ≤ e.current)), (0x1C, decide (0 ≤ dwI d 7 ∧ dwI d 7 ≤ e.force)),
     (0x20, decide (0 ≤ dwI d 8 ∧ dwI d 8 ≤ e.speed))] ++
    (List.range 4).map (fun i => (0x38 + i, decide (bitsOf (dw d 14) (8 * i) 8 ≤ 7))) ++
    [(0x60, imOk 0), (0x90, imOk 1), (0xC0, imOk 2)])

/-- Writable bits of a descriptor word (04 R119, R120, 05 R150); writes to the others are ignored (00 R13). -/
def descMask (i : Nat) : Word :=
  match i with
  | 0 => 0x00FFFFFF | 1 => 0x00001F3F | 2 => 3 | 11 => 0x1F | 60 => 0xFF7FFFFF
  | 25 => 0x3FFFFFFF | 37 => 0x3FFFFFFF | 49 => 0x3FFFFFFF | 26 => 0x1F | 38 => 0x1F | 50 => 0x1F
  | _ => 0xFFFFFFFF

/-- A descriptor as it is taken: a door kind with DIVM1 0 runs at divider 8 (04 R114), VERSION is 01h, reserved bits read 0. -/
def normDesc (d : Desc) : Desc :=
  let d := if isDoorKind (dKind d) ∧ dDivM1 d = 0 then tabSet d 0 (tabGet d 0 0 ||| 0x00070000) else d
  let d := d.map fun p => (p.1, p.2 &&& descMask p.1)
  tabSet d 0 (tabGet d 0 0 ||| 0x01000000)

/-- Whether a load of an axis keeps 04 R116 and R145. -/
def loadFits (s : State) (a : Nat) : Bool := allFit s (nextRate s) (a :: nextOccupied s) (carsOn s)

/-- An axis given a descriptor: DISABLED, or UNLOADED with LAW 00h; law, supervision, injection and counts start anew; table
pages stay (04 R147, R149). A FAULT axis becomes DISABLED too: R147 says so of every load, though R148 and 05 R157 let only
axis.enable leave FAULT (DESIGN CHOICE, log 77). -/
def loadAxis (x : AxisSt) (d : Desc) : AxisSt :=
  let d := normDesc d
  { state := if dLaw d = 0 then .unloaded else .disabled
    desc := d, master := d, hasMaster := true
    page0 := x.page0, page1 := x.page1, page := x.page, staged := x.staged, bulk := x.bulk, held := x.held
    inj := { state := if x.inj.state = 1 then 3 else x.inj.state }
    bankUse := x.bankUse, staleRun := x.staleRun, stale := x.stale, release := { subseq := x.release.subseq }
    deliver := x.deliver, share := x.share, shareNext := x.shareNext, snap := x.snap }

/-! ### Injection and supervision events -/

/-- A supervision event (05 R159): class 11h, record of source 04h with the cause as code. -/
def supEvent (s : State) (a level prev cause : Nat) (value : Int) : State :=
  raise s { source := 4, code := cause, subject := a, value, cls := some 0x11,
            fields := [(16, 4, a), (20, 1, level), (21, 1, prev), (22, 1, cause), (24, 4, s.time.cycle), (28, 4, value)] }

/-- A running injection stops, or ends when its duration has run, with its event (05 R160, R163). -/
def endInjection (s : State) (a : Nat) (stopped : Bool) : State :=
  let x := s.axis a
  if x.inj.state = 1 then
    let early := stopped && decide (x.inj.j < x.inj.spec.duration)
    let s := s.onAxis a fun x => { x with inj := { x.inj with state := if early then 3 else 2, g := 0 } }
    supEvent s a x.sup.level x.sup.level (if early then 0x81 else 0x80) x.inj.j
  else s

/-- An axis leaves ENABLED or HOLDING without a fault: output 0, ACMD enable 0, integrator 0, injection stopped
(04 R146, R148, 05 R163). -/
def disableAxis (s : State) (a : Nat) : State :=
  match (s.axis a).state with
  | .enabled | .holding =>
    (endInjection s a true).onAxis a fun x =>
      { x with state := .disabled, law := { x.law with i := 0, oPrev := 0 } }
  | _ => s

/-- Level of a cause (05 R154): 1 note, 2 degrade, 3 trip. -/
def causeLevel (c : Nat) : Nat :=
  match c with
  | 0x01 | 0x0A | 0x0C | 0x0D | 0x11 | 0x13 => 1
  | 0x02 | 0x0B | 0x0F => 2
  | _ => 3

/-- Whether a cause is active. -/
def causeOn (m : BitVec 19) (c : Nat) : Bool := m.getLsbD (c - 1)

/-- Level of an axis: the highest among its active causes (05 R154). -/
def levelOfCauses (m : BitVec 19) : Nat :=
  (List.range 19).foldl (fun n i => if m.getLsbD i then max n (causeLevel (i + 1)) else n) 0

/-- Lowest active cause at a level (05 R158). -/
def lowestCause (m : BitVec 19) (lv : Nat) : Nat :=
  match (List.range 19).find? fun i => m.getLsbD i && causeLevel (i + 1) == lv with
  | some i => i + 1
  | none => 0

/-- VALUE of a supervision event (05 R159). -/
def causeValue (x : AxisSt) (c : Nat) : Int :=
  if c ≤ 3 then x.sup.rf else if 7 ≤ c ∧ c ≤ 0x0E then (x.astat.toNat : Int)
  else if c = 0x0F ∨ c = 0x10 then (x.staleRun : Int) else 0

/-- The causes of an axis become `m`: activations are counted, and a fall counts for the level it falls to (DEDUCED, log 77);
a change of level is posted, and a trip sets the axis to FAULT with output 0 (05 R157 to R159). -/
def setCauses (s : State) (a : Nat) (m : BitVec 19) : State :=
  let x := s.axis a
  let was := x.sup.causes
  let fresh := (List.range 19).filter fun i => m.getLsbD i && !was.getLsbD i
  let prev := x.sup.level
  let now := levelOfCauses m
  let rep := if now = 0 then lowestCause was prev else lowestCause m now
  let b := basketOf a
  let s := s.each fresh fun s i => bump s (cBasket b (7 + causeLevel (i + 1)))
  let s := if now < prev ∧ 0 < now ∧ !fresh.any (fun i => causeLevel (i + 1) == now) then bump s (cBasket b (7 + now)) else s
  let cntL := fun lv => (fresh.filter fun i => causeLevel (i + 1) == lv).length
  let s := s.onAxis a fun x => { x with sup := { x.sup with
    causes := m
    notes := satAdd max32 x.sup.notes (cntL 1), degrades := satAdd max32 x.sup.degrades (cntL 2)
    trips := satAdd max32 x.sup.trips (cntL 3)
    level := now, cause := if now = prev then x.sup.cause else (if now = 0 then 0 else rep)
    lastChange := if now = prev then x.sup.lastChange else s.time.cycle } }
  let s := if now = prev then s else supEvent s a now prev rep (causeValue x rep)
  let s := s.each (fresh.filter fun i => now == prev || i + 1 != rep) fun s i =>
    recordOnly s 4 (i + 1) a (causeValue x (i + 1))
  if now = 3 ∧ prev ≠ 3 then
    (endInjection s a true).onAxis a fun x => { x with
      state := if x.state = .unloaded then .unloaded else .fault, law := { x.law with i := 0, oPrev := 0 }, lastO := 0
      release := { x.release with enable := false, hold := false } }
  else s

/-- A cause is activated by an event outside an execution (05 R154: late release, missed slot). -/
def activate (s : State) (a c : Nat) : State :=
  if (s.axis a).state = .unloaded then s else setCauses s a ((s.axis a).sup.causes ||| BitVec.ofNat 19 (2 ^ (c - 1)))

/-! ### Conditions of enable and injection (04 R148, 05 R161) -/

/-- Every cause of an axis ends with the descriptor that is replaced, and its level with them (04 R147, 05 R159; log 77). -/
def dropCauses (s : State) (a : Nat) : State := setCauses s a 0

/-- Whether every latched cause of a FAULT axis has met its clearing condition (05 R154, R157). -/
def latchesClear (s : State) (a : Nat) : Bool :=
  let x := s.axis a
  let m := x.sup.causes
  let astat := x.astat.toNat
  (!causeOn m 0x05 || (!encFault s (dFb x.desc) && encClear s (dFb x.desc))) &&
  (!causeOn m 0x06 || !inFault s (dFb x.desc)) &&
  (!causeOn m 0x07 || !bitAt astat 4) && (!causeOn m 0x08 || !bitAt astat 5) && (!causeOn m 0x09 || !bitAt astat 3) &&
  (!causeOn m 0x0E || tabGet x.sup.bad 0 0x0E == 0) && (!causeOn m 0x10 || !x.stale) &&
  (!causeOn m 0x12 || !(s.weaver (weaverOf a)).stopped)

/-- Whether motion is permitted in the lifecycle state and after the floor (15 R434, 18 R484). -/
def motionAllowed (s : State) : Bool :=
  s.sys.floor && s.sys.safe && (s.sys.lc == .provisioned || s.sys.lc == .field)

/-- Whether a segment axis belongs to a committed shaft, where this module declares shafts, or to a zone (07 R194, 14 R412). -/
def segCommitted (s : State) (a : Nat) : Bool :=
  let d := (s.axis a).desc
  dKind d != 1 || !shaftConfigured s || (segPlace s a).isSome || (dRef d == 1 && decide (0x40 ≤ dChan d))

/-- Whether an axis may be enabled (04 R148, 07 R194). -/
def mayEnable (s : State) (a : Nat) : Bool :=
  let x := s.axis a
  x.state != .unloaded && dLaw x.desc != 0 && (x.state != .fault || latchesClear s a) &&
  permitOf s a && motionAllowed s && !segCarStop s a && segCommitted s a

/-- Whether the shaft or the door of an axis lets it be injected: a segment's shaft is in inspection operation, a door is out of
service (05 R161, R163). -/
def injectPlace (s : State) (a : Nat) : Bool :=
  (dKind (s.axis a).desc != 1 || shaftInspectionOf s a) && (!isDoorKind (dKind (s.axis a).desc) || doorOut s a)

/-- Whether an injection may start (05 R161). -/
def mayInject (s : State) (a : Nat) : Bool :=
  let x := s.axis a
  dOpt x.desc 4 && x.state == .enabled && x.sup.level != 3 && x.inj.state != 1 && x.bankUse != 2 &&
  injectPlace s a

/-! ### The generator (05 R160) -/

/-- Taps of the PRBS polynomials, as stages (05 R160). -/
def prbsTaps (order : Nat) : List Nat :=
  match order with
  | 7 => [7, 6] | 8 => [8, 6, 5, 4] | 9 => [9, 5] | 10 => [10, 7] | 11 => [11, 9]
  | 12 => [12, 11, 10, 4] | 13 => [13, 12, 11, 8] | 14 => [14, 13, 12, 2] | 15 => [15, 14] | _ => [16, 15, 13, 4]

/-- One step of the Fibonacci shift register. -/
def prbsStep (order r : Nat) : Nat :=
  let fb := (prbsTaps order).foldl (fun n t => (n + r / 2 ^ (t - 1)) % 2) 0
  (2 * r + fb) % 2 ^ order

/-- The value of a signal at a phase and register. -/
def genValue (c : InjectSpec) (phase lfsr : Nat) : Int :=
  match c.signal with
  | 0 => c.ampl
  | 2 => if bitAt lfsr (c.order - 1) then c.ampl else - c.ampl
  | _ => sat32 (mulsh c.ampl (sinTable phase) 30)

/-- A started generator holds its first value (05 R160, R161). -/
def primeInject (c : InjectSpec) : InjectSt :=
  { state := 1, spec := c, phase := 0, lfsr := 2 ^ c.order - 1, j := 0, g := genValue c 0 (2 ^ c.order - 1) }

/-- The generator after one injected execution (05 R160). -/
def advanceInject (i : InjectSt) : InjectSt :=
  let c := i.spec
  let inc := if c.signal = 1 then
      ((c.inc0 : Int) + ((c.inc1 : Int) - c.inc0) * i.j / (max c.duration 1 : Nat)) else (c.inc0 : Int)
  let phase := (((i.phase : Int) + inc) % 4294967296).toNat
  let lfsr := if c.signal = 2 ∧ (i.j + 1) % max c.hold 1 = 0 then prbsStep c.order i.lfsr else i.lfsr
  { i with phase, lfsr, j := i.j + 1, g := genValue c phase lfsr }

/-! ### Staging (01 R32) -/

/-- Whether a table exchange of an axis is pending (04 R132). -/
def swapPending (x : AxisSt) : Bool :=
  x.bulk.any (fun b => b.commit.isSome) || x.staged.any fun w => match w.what with | .tableSwap .. => true | _ => false

end Sys2Proof.Machine
end

