-- ==== Sys2Proof/Machine/Law.lean ====
section
/-! DEFINITION. One execution of a per-axis program (04 R123 to R134), its model and supervision (05 R151 to R158) and its
test signal (05 R160). -/
namespace Sys2Proof.Machine

/-- What a program reads before its law (04 R123 step 1 and 2). -/
structure AxisIn where
  /-- feedback y after FBINV -/
  y : Int := 0
  /-- SRC.FB value before FBINV -/
  raw : Int := 0
  fb0 : Int := 0
  fb1 : Int := 0
  astat : BitVec 16 := 0
  stale : Bool := false
  r : Int := 0
  v : Int := 0
  acc : Int := 0
  bank : Nat := 0
  deriving DecidableEq, Repr

/-- The input of an axis from the frozen image (04 R121, R123, R133, R136). -/
def axisIn (s : State) (a : Nat) : AxisIn :=
  let x := s.axis a
  let d := x.desc
  let node := axisNode s a
  let nd := match node with | some (r, i, _) => nodeOf s r i | none => {}
  let rec1 := match node with | some (_, _, k) => nd.recs.getD k {} | none => {}
  let fb := dFb d
  let (raw, failed) := match fb with
    | 0 => ((0 : Int), false) | 1 => (rec1.fb0, false) | 2 => (rec1.fb1, false) | _ => fieldFb s fb
  let stale := (node.isSome && nd.stale) || failed
  let (r, v, acc) := match dRef d with
    | 1 => (sat32 (mulsh (dwI d 10) x.share.force (bitsOf (dw d 11) 0 5)), x.share.vel, 0)
    | 2 => if x.move.phases.isEmpty then (if dOpt d 5 then sat32 (-raw) else raw, 0, 0) else doorRef s a
    | 3 => (x.aux, 0, 0)
    | _ => (0, 0, 0)
  { y := if dOpt d 5 then sat32 (-raw) else raw, raw, fb0 := rec1.fb0, fb1 := rec1.fb1, stale,
    astat := if dOut d = 0 then rec1.astat else fieldAstat s d, r, v, acc, bank := if axisHealed s a then 2 else dSel d }

/-- The active page of an axis (04 R130). -/
def activePage (x : AxisSt) : TablePage := if x.page then x.page1 else x.page0

/-- The table value at a position (04 R130). -/
def tableValue (g : TablePage) (p : Int) : Int :=
  let q := p - g.base
  if q ≤ 0 then tabGet g.e 0 0
  else
    let k := (asr q g.sh).toNat
    if 1023 ≤ k then tabGet g.e 0 1023
    else tabGet g.e 0 k + mulsh (tabGet g.e 0 (k + 1) - tabGet g.e 0 k) (q - (k : Int) * 2 ^ g.sh) g.sh

/-- The table term T(p) (04 R130). -/
def tableTerm (x : AxisSt) (i : AxisIn) : Int :=
  if !dOpt x.desc 0 then 0
  else
    let p := if dKind x.desc = 1 then x.share.pos else if isDoorKind (dKind x.desc) then (if dFb x.desc = 1 then i.y else i.fb0) else i.raw
    sat32 (mulsh (dBank x.desc i.bank 6) (tableValue (activePage x) p) (dShift x.desc i.bank 6))

/-- The friction term (04 R131). -/
def frictionTerm (d : Desc) (v : Int) : Int :=
  if !dOpt d 1 || decide (iabs v ≤ (dw d 13 : Int)) then 0 else dwI d 12 * isign v

/-- Conditional integration and clamp (04 R124): whether the integrator may advance is `go`. -/
def integrate (l : LawSt) (go : Bool) (e k1 : Int) (s1 : Nat) (imax imin : Int) : Int :=
  let i := if go && !(l.satHi && decide (0 < e)) && !(l.satLo && decide (e < 0)) then sat64 (l.i + mulsh k1 e s1) else l.i
  max (min i imax) imin

/-- The PID law (04 R124): output before the added terms of the sum, and the law state after it. -/
def pidLaw (x : AxisSt) (i : AxisIn) (tab fric : Int) : Int × LawSt :=
  let d := x.desc
  let k := dBank d i.bank
  let sh := dShift d i.bank
  let l := x.law
  let e := sat32 (i.r - i.y)
  let l := if l.seed then { l with ePrev := e, yPrev := i.y, df := 0, seed := false } else l
  let dx := if dOpt d 2 then l.yPrev - i.y else e - l.ePrev
  let df := if i.stale then l.df else sat32 (l.df + mulsh (k 5) (dx - l.df) (sh 5))
  let int := integrate l (!i.stale) e (k 1) (sh 1) (k 7) (k 8)
  let u := sumSat [mulsh (k 0) e (sh 0), int, mulsh (k 2) df (sh 2), mulsh (k 3) i.v (sh 3), mulsh (k 4) i.acc (sh 4), tab,
    fric, k 11]
  (u, { l with i := int, df, ePrev := if i.stale then l.ePrev else e, yPrev := if i.stale then l.yPrev else i.y })

/-- A state source of the state-feedback law (04 R121 STATESEL). -/
def stateSource (x : AxisSt) (i : AxisIn) (code : Nat) : Int :=
  match code with
  | 1 => i.fb0 | 2 => i.fb1 | 3 => sat32 (i.fb0 - x.law.fb0Prev) | 4 => x.sup.m1 | 5 => x.sup.m2 | 6 => i.r | 7 => i.v
  | _ => 0

/-- The state-feedback law (04 R126). -/
def stateLaw (x : AxisSt) (i : AxisIn) (tab fric : Int) : Int × LawSt :=
  let d := x.desc
  let k := dBank d i.bank
  let sh := dShift d i.bank
  let st := fun n => stateSource x i (bitsOf (dw d 14) (8 * n) 8)
  let e0 := sat32 (i.r - st 0)
  let int := integrate x.law (!i.stale) e0 (k 1) (sh 1) (k 7) (k 8)
  let u := sumSat [mulsh (k 0) i.r (sh 0), -mulsh (k 2) (st 0) (sh 2), -mulsh (k 3) (st 1) (sh 3),
    -mulsh (k 4) (st 2) (sh 4), -mulsh (k 5) (st 3) (sh 5), int, tab, fric, k 11]
  (u, { x.law with i := int, seed := false })

/-- The band law (04 R127). -/
def bandLaw (x : AxisSt) (i : AxisIn) : Int × LawSt :=
  let k := dBank x.desc i.bank
  let e := sat32 (i.r - i.y)
  let dwell := min (x.law.dwell + 1) 65535
  let may := !i.stale && decide (k 4 ≤ (dwell : Int))
  let l := x.law
  let l := if may && !l.hi && decide (k 2 < e) then { l with hi := true, dwell := 0 }
    else if may && l.hi && decide (e < -(k 3)) then { l with hi := false, dwell := 0 }
    else { l with dwell }
  (sat64 ((if l.hi then k 0 else k 1) + k 11), l)

/-- The limit of step 2 of 04 R128, degraded under 05 R157, when the output's quantity has one. -/
def stepLimit (x : AxisSt) : Option Int :=
  let d := x.desc
  let f := fun (m : Int) => if x.sup.level = 2 then m * (bitsOf (dw d 60) 19 4 + 1) / 16 else m
  if outIsCurrent d then some (f (dwI d 6)) else if outIsForce d then some (f (dwI d 7)) else none

/-- Limits and slew (04 R128): the output, and whether a stage reduced or increased it. -/
def limitOut (x : AxisSt) (u : Int) : Int × Bool × Bool :=
  let d := x.desc
  let u1 := max (min u (dwI d 4)) (dwI d 5)
  let u2 := match stepLimit x with | some m => max (min u1 m) (-m) | none => u1
  let sl := (dw d 9 : Int)
  let u3 := if sl = 0 then u2 else max (min u2 (x.law.oPrev + sl)) (x.law.oPrev - sl)
  let o := sat32 u3
  (o, decide (u1 < u) || decide (u2 < u1) || decide (u3 < u2) || decide (o < u3),
   decide (u < u1) || decide (u1 < u2) || decide (u2 < u3) || decide (u3 < o))

/-- The plant model and the residual filter (05 R151). -/
def runModel (x : AxisSt) (i : AxisIn) (o : Int) : SupSt :=
  let p := x.sup
  let d := x.desc
  if !dOpt d 3 || i.stale then p
  else
    let w := fun n => dwI d (52 + n)
    let sa := bitsOf (dw d 60) 0 5
    let sb := bitsOf (dw d 60) 5 5
    let sl := bitsOf (dw d 60) 10 5
    let u := if i.bank = 2 ∧ dDiv d = 1 then p.o2 else p.o1
    let res := sat32 (i.y - p.m1)
    { p with
      rf := p.rf + asr (min (iabs res) 2147483647 - p.rf) (bitsOf (dw d 60) 15 4)
      m1 := sat32 (mulsh (w 0) p.m1 sa + mulsh (w 1) p.m2 sa + mulsh (w 4) u sb + mulsh (w 6) res sl)
      m2 := sat32 (mulsh (w 2) p.m1 sa + mulsh (w 3) p.m2 sa + mulsh (w 5) u sb + mulsh (w 7) res sl)
      o2 := p.o1, o1 := o }

/-- Threshold of a residual level (05 R150, R153): 1 note, 2 degrade, 3 trip; the latter two doubled in bank H. -/
def residualThr (d : Desc) (bank lv : Nat) : Nat :=
  let t := dw d (60 + lv)
  if lv ≠ 1 ∧ bank = 2 then min (2 * t) max32 else t

/-- PERSIST, 0 taken as 1 (05 R150). -/
def persist (d : Desc) : Nat := max 1 (bitsOf (dw d 60) 24 8)

/-- Whether an execution makes the residual tests: fresh, ENABLED, past the settle count (05 R152, R153). -/
def residualTested (x : AxisSt) (p : SupSt) (i : AxisIn) : Bool :=
  dOpt x.desc 3 && !i.stale && x.state == .enabled && p.settle == 0

/-- The threshold counts after an execution (05 R153). -/
def residualCounts (x : AxisSt) (p : SupSt) (i : AxisIn) : Tab Nat :=
  if !residualTested x p i then p.cnt
  else
    [1, 2, 3].foldl (fun t lv =>
      let thr := residualThr x.desc i.bank lv
      tabSet t lv (if thr ≠ 0 ∧ (thr : Int) < p.rf then min (tabGet p.cnt 0 lv + 1) 255 else 0)) []

/-- What supervision finds in one execution: the condition of each cause, how many consecutive executions it needs, and
the clearing condition with its count (05 R154); a count 0 latches. -/
structure CauseRule where
  code : Nat
  cond : Bool
  need : Nat
  clear : Bool
  hold : Nat
  deriving DecidableEq, Repr

/-- Twice the distance of VLIM in one execution, rounded up (05 R155). -/
def spikeLimit (d : Desc) (rate : Nat) : Nat := ceilDiv (2 * (dwI d 8).toNat * dDiv d * cycleNs rate) 1000000000

/-- Whether a descriptor has position feedback for the spike test (05 R155). -/
def spikeTested (d : Desc) : Bool :=
  decide (0 < dwI d 8) && ((isDoorKind (dKind d) && dFb d == 1) || (decide (0x10 ≤ dFb d) && decide (dFb d ≤ 0x17)))

/-- The rules of an execution for the axis in its state, fresh or stale (05 R154). -/
def causeRules (s : State) (a : Nat) (x : AxisSt) (p : SupSt) (i : AxisIn) (tested holding : Bool) : List CauseRule :=
  let d := x.desc
  let b := fun n => i.astat.getLsbD n
  let per := persist d
  let c := fun lv => tested && decide (per ≤ tabGet p.cnt 0 lv)
  let rfLow := fun lv => decide (p.rf ≤ (dw d (60 + lv) : Int) / 2)
  let onNode := (axisNode s a).isSome
  (if i.stale then [] else
    [⟨0x01, c 1, 1, rfLow 1, 1024⟩, ⟨0x02, c 2, 1, rfLow 2, 4096⟩, ⟨0x03, c 3, 1, false, 0⟩]) ++
  [⟨0x04, decide (2 ≤ p.spikes.length), 1, false, 0⟩,
   ⟨0x05, encFault s (dFb d), 1, false, 0⟩, ⟨0x06, inFault s (dFb d), 1, false, 0⟩] ++
  (if i.stale ∨ dOut d = 0 then [] else [⟨0x08, b 5, 1, false, 0⟩, ⟨0x0D, b 1, 1024, !b 1, 1024⟩]) ++
  (if i.stale ∨ ¬ onNode ∨ dOut d ≠ 0 then [] else
  [⟨0x07, b 4, 2, false, 0⟩, ⟨0x08, b 5, 1, false, 0⟩, ⟨0x09, b 3, 1, false, 0⟩, ⟨0x0A, b 2, 1, !b 2, 1024⟩,
   ⟨0x0B, b 6, 16, !b 6, 1024⟩, ⟨0x0C, b 7, 1, !b 7, 1024⟩, ⟨0x0D, b 1, 1024, !b 1, 1024⟩,
   ⟨0x0E, b 8 == stoOut s a, 16, false, 0⟩, ⟨0x13, hallBad s a, 1, !hallBad s a, 1024⟩]) ++
  [⟨0x0F, holding, 1, !holding, 1⟩]

/-- Counts and flags after one rule (05 R154). -/
def applyRule (p : SupSt) (r : CauseRule) : SupSt :=
  let bad := if r.cond then min (tabGet p.bad 0 r.code + 1) 65535 else 0
  let good := if r.clear then min (tabGet p.good 0 r.code + 1) 65535 else 0
  let bit := BitVec.ofNat 19 (2 ^ (r.code - 1))
  { p with
    bad := tabSet p.bad r.code bad, good := tabSet p.good r.code good
    causes := if r.cond && decide (r.need ≤ bad) then p.causes ||| bit
      else if r.hold ≠ 0 ∧ r.hold ≤ good then p.causes &&& ~~~ bit else p.causes }

/-- The record of a deliver slot by kind (04 R122). -/
def deliverOf (x : AxisSt) (i : AxisIn) (o : Int) (enable hold : Bool) (subseq : Nat) : DeliverRec :=
  let d := x.desc
  let vl := dwI d 8
  match dKind d with
  | 1 => { ref0 := 0, ref1 := o, ref2 := toI32 x.share.angle, enable, hold, subseq }
  | 6 => { ref0 := 0, ref1 := o, ref2 := 0, enable, hold, subseq }
  | 5 => { ref0 := 0, ref1 := o, ref2 := 0, enable, hold, subseq }
  | _ => { ref0 := i.r, ref1 := o, ref2 := max (min i.v vl) (-vl), enable, hold, subseq }

/-- The stale counts of a window (04 R134): STALERUN, STALECNT and the basket's counter. -/
def countStale (s : State) (a : Nat) (i : AxisIn) : State :=
  let s := if i.stale then bump s (cBasket (basketOf a) 0) else s
  s.onAxis a fun x => { x with
    stale := i.stale, astat := i.astat, staleRun := if i.stale then min (x.staleRun + 1) 255 else 0
    staleCnt := if i.stale then satAdd max32 x.staleCnt 1 else x.staleCnt, executed := false
    state := if x.state = .holding ∧ ¬ i.stale then .enabled else x.state }

/-- The causes with cause 0Fh as the state has it (05 R154). -/
def holdMask (m : BitVec 19) (on : Bool) : BitVec 19 := if on then m ||| 0x4000 else m &&& ~~~ 0x4000

/-- An execution of the law of a loaded axis (04 R123), with input `i` and the causes `m0` that the rest of its program leaves:
all that become active in the execution are set at once (05 R158). -/
def execLaw (s : State) (a : Nat) (i : AxisIn) (m0 : BitVec 19) : State :=
  let x := s.axis a
  let d := x.desc
  let enabled := x.state = .enabled
  -- the injection that has reached its end stops before this execution (05 R160)
  let s := if x.inj.state = 1 ∧ x.inj.spec.duration ≤ x.inj.j then endInjection s a false else s
  -- one whose shaft has left inspection, or whose door is back in service, is stopped (05 R163)
  let s := if injectPlace s a then s else endInjection s a true
  let x := s.axis a
  let run := x.inj.state = 1
  let i0 := i
  let i := if run ∧ x.inj.spec.point = 0 then { i with r := sat32 (i.r + x.inj.g) } else i
  let tab := tableTerm x i
  let terms := match dLaw d with
    | 1 => pidLaw x i tab (frictionTerm d i.v)
    | 2 => stateLaw x i tab (frictionTerm d i.v)
    | _ => bandLaw x i
  let u := terms.1
  let l := terms.2
  let uIn := if run ∧ x.inj.spec.point = 1 then sat64 (u + x.inj.g) else u
  let out := if enabled then limitOut x uIn else (0, false, false)
  let o := out.1
  let down := out.2.1
  let up := out.2.2
  let ilim := i.astat.getLsbD 1
  let clampHit := dLaw d ≠ 3 ∧ (l.i = dBank d i.bank 7 ∨ l.i = dBank d i.bank 8)
  let l := if enabled then
      { l with satHi := down || (ilim && decide (0 < o)), satLo := up || (ilim && decide (o < 0)), oPrev := o,
               fb0Prev := i.fb0 }
    else { l with i := 0, oPrev := 0, fb0Prev := i.fb0 }
  let sat := enabled ∧ (down ∨ up)
  let b := basketOf a
  let s := if sat then bump s (cBasket b 1) else s
  let s := if enabled ∧ clampHit then bump s (cBasket b 2) else s
  let p := runModel x i o
  let spike := !i.stale && x.seen && spikeTested d && decide ((spikeLimit d s.sys.rate : Int) < iabs (i.y - x.lastY))
  let p := { p with spikes := ((if spike then [0] else []) ++ (x.sup.spikes.map (· + 1))).filter (· < 1024) }
  let s := if spike then bump s (cBasket b 12) else s
  let tested := residualTested x p i
  let p := { p with cnt := residualCounts x p i, settle := p.settle - 1 }
  let p' := (causeRules s a x p i tested false).foldl applyRule { p with causes := m0 }
  let s := s.onAxis a fun x => { x with
    law := l, sup := { p' with causes := x.sup.causes }, seen := true, executed := true, ran := true, bankUse := i.bank
    satCnt := if sat then satAdd max32 x.satCnt 1 else x.satCnt
    clampCnt := if enabled ∧ clampHit then satAdd max32 x.clampCnt 1 else x.clampCnt, clamped := decide (enabled ∧ clampHit)
    lastR := i.r, lastY := i.y, lastE := sat32 (i.r - i.y), lastU := uIn, lastO := o, lastT := tab
    lastG := if run then x.inj.g else 0
    inj := if run then advanceInject x.inj else x.inj
    release := deliverOf x i0 o enabled false ((x.release.subseq + 1) % 256) }
  let s := setCauses s a p'.causes
  -- a trip writes output 0 in this execution (05 R157)
  if (s.axis a).state = .fault then
    s.onAxis a fun x => { x with release := { deliverOf x i0 0 false false x.release.subseq with ref1 := 0 } }
  else s

/-- The record of an axis tripped in this window: output 0, ACMD enable 0 (05 R157). -/
def tripOut (s : State) (a : Nat) : State :=
  s.onAxis a fun x => { x with release := { x.release with ref1 := 0, enable := false, hold := false } }

/-- A window that finds an enabled axis stale beyond STALELIM (04 R134): HOLDING repeats the last output with hold set, and
at STALELIM + 16 the axis is disabled with cause 10h; a fault of its field input trips it as in any window (05 R154). The
causes `m0` are those that the rest of the program leaves; the repeated output is an execution to the capture (05 R164). -/
def holdAxis (s : State) (a : Nat) (i : AxisIn) (m0 : BitVec 19) : State :=
  let x := s.axis a
  if dStaleLim x.desc + 16 ≤ x.staleRun then tripOut (setCauses s a (m0 ||| 0x8000)) a
  else if encFault s (dFb x.desc) then tripOut (setCauses s a (m0 ||| 0x10)) a
  else if inFault s (dFb x.desc) then tripOut (setCauses s a (m0 ||| 0x20)) a
  else
    let s := if x.state = .enabled then
        (endInjection s a true).onAxis a fun x => { x with state := .holding }
      else s
    let x := s.axis a
    let r := match stepLimit x with | some m => max (min x.release.ref1 m) (-m) | none => x.release.ref1
    let due := decide (s.time.cycle % dDiv x.desc = dPhase x.desc)
    setCauses (s.onAxis a fun x => { x with
      release := { x.release with ref1 := r, enable := true, hold := true }, lastO := r, law := { x.law with oPrev := r }
      lastY := if due then i.y else x.lastY, ran := due }) a (holdMask m0 true)

/-- The profile of a move record that takes over in the window of `cycle`, from the profile in force and the position at rest
when none is, with the period of the axis in cycles and the cycle time (08 R235). -/
def nextProfile (cyc div cycle : Nat) (p0 : Int) (q : Profile) (m : DoorMove) : Profile :=
  let k : Kin := if q.phases.isEmpty then { p := p0 * 1000 } else profAt q ((cycle - div - q.start) * cyc)
  planDoor m.blend cycle k m.target m.vp m.a m.j

/-- A door move whose start cycle has come takes over, from the reference state of the previous execution (08 R235, 06 R171). -/
def startMove (s : State) (a : Nat) : State :=
  let x := s.axis a
  let due := x.moveNext.filter fun m => decide (m.ns ≤ s.time.cycle)
  if due.isEmpty then s
  else
    let q := due.foldl (nextProfile (cycleNs s.sys.rate) (dDiv x.desc) s.time.cycle x.lastY) x.move
    s.onAxis a fun x => { x with move := q, moveNext := x.moveNext.filter fun m => decide (s.time.cycle < m.ns) }

/-- One per-axis program (04 R112 to R114, R123, R133 to R137) in the window of the present cycle. -/
def axisProgram (s : State) (a : Nat) : State :=
  let x := s.axis a
  let w := s.weaver (weaverOf a)
  if x.state = .unloaded ∨ w.stopped ∨ s.dbg.whalt.getLsbD (weaverOf a) then s
  else
    let s := startMove s a
    let x := s.axis a
    let i := axisIn s a
    -- cause 11h is judged in every window (05 R154); what it finds is set with the rest of the execution
    let p := applyRule x.sup ⟨0x11, x.late, 1, !x.late, 1024⟩
    let s := countStale (s.onAxis a fun x => { x with sup := { p with causes := x.sup.causes } }) a i
    let x := s.axis a
    let s := if (i.bank = 2) ≠ (x.bankUse = 2) then
        s.onAxis a fun x => { x with bankUse := i.bank, sup := { x.sup with settle := 16 } }
      else s
    if (x.state = .enabled ∨ x.state = .holding) ∧ dStaleLim x.desc < x.staleRun then holdAxis s a i p.causes
    else
      let m := holdMask p.causes false
      if s.time.cycle % dDiv x.desc = dPhase x.desc then execLaw s a i m
      else (setCauses s a m).onAxis a fun x =>
        if x.state = .enabled ∨ x.state = .holding then x
        else { x with release := { x.release with ref1 := 0, enable := false, hold := false } }

end Sys2Proof.Machine
end

