-- ==== Sys2Proof/Machine/Landing.lean ====
section
/-! DEFINITION. Landing of staged writes at the release phase (01 R32, 02 R67, R68, 04 R132, R138, R147, R148, 05 R161, R166)
and the axis.table.load that commits hold back. -/
namespace Sys2Proof.Machine

/-- DETAIL of an axis write: the low 32 bits of the cycle (02 R43). -/
def cycleDetail (s : State) : Nat := s.time.cycle % 4294967296

/-- A staged write's request is answered. -/
def landed (s : State) (w : StagedWrite) (fields : List (Nat × Nat × Int)) : State :=
  match w.req with | some r => ok s r fields (cycleDetail s) | none => s

/-- The staged write's request is refused at its landing. -/
def landRefused (s : State) (w : StagedWrite) : State := match w.req with | some r => refused s r | none => s

/-- A word lands in the descriptor, and alone in its master, which is stored (02 R67, R68, 15 R550): what else is in force for
a while, such as a nudging force, is not configured. -/
def landWord (s : State) (a i : Nat) (v : Word) : State :=
  store (s.onAxis a fun x => { x with desc := tabSet x.desc i v, master := tabSet x.master i v })
    (.axis a (tabSet (s.axis a).master i v))

/-- The causes that do not latch (05 R154): they end by their own rule, whatever is enabled. -/
def unlatched : BitVec 19 := 0x55E03

/-- An enabled axis (04 R148, R125, R127, 05 R152, R157); the spikes counted so far no longer count. -/
def enableAxis (x : AxisSt) : AxisSt :=
  { x with
    state := .enabled
    law := { x.law with i := 0, satHi := false, satLo := false, hi := false, dwell := 65535, oPrev := 0, seed := true }
    sup := { x.sup with m1 := x.lastY, m2 := 0, o1 := 0, o2 := 0, rf := 0, settle := 16, cnt := [], spikes := [] } }

/-- The over-current latch of the PWM set an axis drives clears when its enable lands (11 R339). -/
def clearOc (s : State) (a : Nat) : State :=
  let o := dOut (s.axis a).desc
  if 0x10 ≤ o ∧ o ≤ 0x13 then s.onPwm (o - 0x10) fun p => { p with oc := false } else s

/-- What a staged write does when it lands (its axis's list already without it). -/
def land (s : State) (a : Nat) (w : StagedWrite) : State :=
  match w.what with
  | .words [] => landed s w w.eff
  | .words ((i, v) :: rest) =>
    let s := landWord s a i v
    if rest.isEmpty then landed s w w.eff
    else s.onAxis a fun x => { x with staged := { w with what := .words rest } :: x.staged }
  | .bank b =>
    let s := landWord s a 2 (BitVec.ofNat 32 b)
    let healed := axisHealed s a
    landed s w [(16, 4, (a : Int)), (20, 1, b), (21, 1, if healed then 2 else b), (22, 1, b)]
  | .desc d =>
    let s := dropCauses (endInjection s a true) a
    let s := s.onAxis a fun x => loadAxis x d
    landed (store s (.axis a (s.axis a).desc)) w [(16, 2, 0xFFFF)]
  | .enable =>
    if mayEnable s a then
      landed (clearOc ((setCauses s a ((s.axis a).sup.causes &&& unlatched)).onAxis a enableAxis) a) w []
    else landRefused s w
  | .disable => landed (disableAxis s a) w []
  | .tableSwap base sh _ =>
    let s := s.onAxis a fun x =>
      if x.page then { x with page0 := { x.page0 with base, sh }, page := false }
      else { x with page1 := { x.page1 with base, sh }, page := true }
    let x := s.axis a
    landed (store s (.table a x.page0 x.page1 x.page)) w w.eff
  | .injectStart c eff =>
    if mayInject s a then
      landed (bump (s.onAxis a fun x => { x with inj := primeInject c }) (cBasket (basketOf a) 11)) w eff
    else landRefused s w
  | .injectStop => landed (endInjection s a true) w []
  | .aux v => landed (s.onAxis a fun x => { x with aux := v }) w []
  | .flim v => landed (s.onAxis a fun x => { x with desc := tabSet x.desc 7 (v.getD (tabGet x.master 0 7)) }) w []
  | .doorMove m => landed (s.onAxis a fun x => { x with moveNext := (x.moveNext.filter fun n => decide (n.ns < m.ns)) ++ [m] }) w []

/-- At most one staged write of an axis lands, the oldest (01 R32). -/
def landOne (s : State) (a : Nat) : State :=
  match (s.axis a).staged with
  | [] => s
  | w :: rest =>
    let s := s.onAxis a fun x => { x with staged := rest }
    bump (land s a w) (cBasket (basketOf a) 7)

/-- Entries written to the inactive page (04 R132). -/
def writeEntries (x : AxisSt) (es : List (Nat × Int)) : AxisSt :=
  let put := fun (g : TablePage) => { g with e := es.foldl (fun t p => tabSet t p.1 p.2) g.e }
  if x.page then { x with page0 := put x.page0 } else { x with page1 := put x.page1 }

/-- The bulk path of an axis at a release phase (04 R132): all waiting entries are written; a commit posts its exchange. -/
def landBulk (s : State) (a : Nat) : State :=
  let l := (s.axis a).bulk
  let s := s.onAxis a fun x => { x with bulk := [] }
  s.each l fun s b =>
    let s := s.onAxis a fun x => writeEntries x b.entries
    match b.commit with
    | none => ok s b.req b.eff (cycleDetail s)
    | some (base, sh) => stage s a { what := .tableSwap base sh b.entries.length, req := some b.req, eff := b.eff }

/-- The shift held by the inactive page (04 R132). -/
def inactiveShift (x : AxisSt) : Nat := if x.page then x.page0.sh else x.page1.sh

/-- Execution of an axis.table.load whose fields are checked (04 R132). -/
def runTableLoad (s : State) (r : Request) : State :=
  let a := rq r 16 4
  let first := rq r 20 2
  let n := min (clampN 0 244 (rq r 22 2)) (1024 - first)
  let commit := rq r 24 1 == 1
  let sh := clampN 0 20 (rq r 25 1)
  let x := s.axis a
  if swapPending x then s.onAxis a fun x => { x with held := x.held ++ [r] }
  else
    let es := (List.range n).map fun i => (first + i, rqI r (32 + 4 * i))
    let eff := [(16, 1, (n : Int)), (17, 1, ((if commit then sh else inactiveShift x : Nat) : Int))]
    (s.onLoop fun l => { l with arrivals := l.arrivals + 1 }).onAxis a fun x => { x with bulk := x.bulk ++
      [{ entries := es, req := r, eff, commit := if commit then some (rqI r 28, sh) else none, ord := s.loop.arrivals }] }

/-- Table loads held back behind a commit are served once it has landed (04 R132). -/
def releaseHeld (s : State) (a : Nat) : State :=
  let l := (s.axis a).held
  if l.isEmpty ∨ swapPending (s.axis a) then s
  else (s.onAxis a fun x => { x with held := [] }).each l runTableLoad

/-- The capture in force gives way (05 R165 to R167): its channels keep what they hold, ABORTED if it still ran. A channel
without sample 0 has no CYCLE0, and what reads there is free (log 78). -/
def leaveCapture (s : State) : State :=
  let c := s.loop.capture
  let idx := List.range c.spec.chans.length
  let (k, s) := draw s
  s.onLoop fun l => { l with capture := { l.capture with
    state := if c.state = 1 ∨ c.state = 2 then 4 else c.state
    kept := idx.foldl (fun t i => tabSet t i (if c.state = 1 ∨ c.state = 2 then 4 else c.state)) l.capture.kept
    validPre := if c.state = 1 then
        idx.foldl (fun t i => tabSet t i (tabGet l.capture.samples [] i).length) l.capture.validPre
      else l.capture.validPre
    cycle0 := idx.foldl (fun t i => if tabHas t i then t else tabSet t i (Config.estimate (16 * k + i))) l.capture.cycle0 } }

/-- An armed capture lands (05 R166): one that runs is aborted, channels not named keep their content. -/
def landCapture (s : State) : State :=
  s.each s.loop.capPend (fun s x =>
    let (r, c, eff) := x
    let n := c.chans.length
    let idx := List.range n
    let s := (leaveCapture s).onLoop fun l => { l with
      capPend := []
      capture := { l.capture with
        state := 1, spec := c, prev := none
        samples := idx.foldl (fun t k => tabSet t k []) l.capture.samples
        validPre := idx.foldl (fun t k => tabSet t k 0) l.capture.validPre
        cycle0 := idx.foldl (fun t k => tabDel t k) l.capture.cycle0
        skip := idx.foldl (fun t k => tabSet t k 0) l.capture.skip
        div := idx.foldl (fun t k => tabSet t k (dDiv (s.axis (c.chans.getD k (0, 0)).1).desc)) l.capture.div
        form := idx.foldl (fun t k => tabSet t k (c.pre, c.decim)) l.capture.form } }
    ok s r eff (cycleDetail s))

/-- The place in the order of arrival of the oldest write that an axis has staged. -/
def arrivalOf (x : AxisSt) : Nat :=
  match x.staged.map (·.ord) ++ x.bulk.map (·.ord) with
  | [] => 0
  | n :: l => l.foldl min n

/-- Pairs in rising order of their first members. -/
def byFirst (l : List (Nat × Nat)) : List (Nat × Nat) :=
  l.foldr (fun p t => (t.takeWhile fun q => decide (q.1 < p.1)) ++ p :: t.dropWhile fun q => decide (q.1 < p.1)) []

/-- Every axis that has something staged, in the order in which the oldest of it arrived (01 R32). -/
def stagedAxes (s : State) : List Nat :=
  (byFirst ((s.loop.axes.filter fun x => !x.2.staged.isEmpty || !x.2.bulk.isEmpty || !x.2.held.isEmpty).map
    fun x => (arrivalOf x.2, x.1))).map (·.2)

/-- All that lands for axes at a release phase: one staged write per axis, the bulk path, an armed capture. -/
def landAll (s : State) : State :=
  landCapture (s.each (stagedAxes s) fun s a =>
    let sw := swapPending (s.axis a)
    let s := landBulk (landOne s a) a
    if sw then releaseHeld s a else s)

end Sys2Proof.Machine
end

