-- ==== Sys2Proof/Machine/Axis.lean ====
section
/-! DEFINITION. Meanings of the axis class 10h (02 R67, R68, 04). -/
namespace Sys2Proof.Machine

/-- Whether an axis number lies below the module limit at the rate in force (04 R112). -/
def okAxis (s : State) (a : Nat) : Bool := decide (a < axisLimit s.sys.rate)

/-- AXIS_STATUS (04 R149): the snapshot of the most recent release phase. -/
def execAxisStatus (r : Request) (s : State) : Host.Outcome State Fault Refusal :=
  let a := rq r 16 4
  .next (serve s r 0x1001 (loopReady s) (firstBad [(16, okAxis s a)]) [] fun r s =>
    let x := s.axis a
    let n := x.snap
    ok s r [(16, 4, (a : Int)), (20, 1, n.state), (21, 1, dLaw x.desc), (22, 1, n.bank), (23, 1, n.flags), (24, 4, n.out),
      (28, 4, n.fb), (32, 2, n.astat.toNat), (34, 1, n.staleRun), (36, 4, s.loop.snapCycle % 4294967296), (40, 4, n.staleCnt),
      (44, 4, n.satCnt), (48, 4, n.clampCnt), (52, 4, n.lateCnt), (56, 4, dw x.desc 15)])

/-- The 64 words of a descriptor in a request, from byte 32 (04 axis.desc.load). -/
def descOf (r : Request) : Desc :=
  (List.range 64).foldr (fun i t => if rq r (32 + 4 * i) 4 = 0 then t else (i, BitVec.ofNat 32 (rq r (32 + 4 * i) 4)) :: t) []

/-- AXIS_DESC_LOAD (04 R147): checked against code, envelope and occupancy, then one staged write; a sleeping basket is
first returned to running (16 R443). -/
def execAxisDescLoad (r : Request) (s : State) : Host.Outcome State Fault Refusal :=
  let a := rq r 16 4
  .next (serve s r 0x1010 (loopReady s && actReady s) (firstBad [(16, okAxis s a)]) [] fun r s =>
    let d := descOf r
    let st := (s.axis a).state
    if st = .enabled ∨ st = .holding then refused s r 0 [(16, 2, 0xFFFE)]
    else
      match descBad s a d with
      | some o => refused s r 0 [(16, 2, (o : Int))]
      | none =>
        if !loadFits s a then refused s r 0 [(16, 2, 0xFFFE)]
        else stage (setSleep s (basketOf a) 0) a { what := .desc d, req := some r })

/-- Descriptor word of a coefficient word offset (04 R138), if it is one. -/
def coefIndex (bank off : Nat) : Option Nat :=
  if off ≤ 11 then some (16 + 12 * bank + off) else if 16 ≤ off ∧ off ≤ 21 then some (off - 12) else none

/-- The range of a coefficient word (04 R119, R120, R129): bank words of the band law, limits within the envelope, any
value otherwise. -/
def coefRange (s : State) (a off : Nat) : Int × Int :=
  let d := (s.axis a).desc
  let e := envOf s a
  let full := ((-2147483648 : Int), (2147483647 : Int))
  if off ≤ 11 then
    if dLaw d = 3 ∧ (off = 2 ∨ off = 3) then (0, 2147483647)
    else if dLaw d = 3 ∧ off = 4 then (0, 65535) else full
  else match off with
    | 16 | 17 => match outEnvelope s a d with | some m => (-m, m) | none => full
    | 18 => (0, e.current) | 19 => (0, e.force) | 20 => (0, e.speed) | _ => full

/-- The effective value of a coefficient word: within its range, reserved bits of shift words zero (02 R52, 04 R120). -/
def coefValue (s : State) (a off : Nat) (v : Int) : Int :=
  let g := coefRange s a off
  let w := clampI g.1 g.2 v
  if dLaw (s.axis a).desc = 3 then w
  else if off = 9 then ((toU32 w % 1073741824 : Nat) : Int) else if off = 10 then ((toU32 w % 32 : Nat) : Int) else w

/-- AXIS_COEF_WRITE (02 R67, 04 R138): up to four words, one staged group. -/
def execAxisCoefWrite (r : Request) (s : State) : Host.Outcome State Fault Refusal :=
  let a := rq r 16 4
  let bank := rq r 20 1
  let n := clampN 1 4 (rq r 21 1)
  let idx := List.range n
  let off := fun i => rq r (24 + 8 * i) 2
  let bad := firstBad ([(16, okAxis s a), (20, decide (bank ≤ 2) || idx.all fun i => decide (16 ≤ off i))] ++
    idx.map fun i => (24 + 8 * i, (coefIndex bank (off i)).isSome))
  let clamps := clampedN 21 1 4 (rq r 21 1) ++ idx.flatMap fun i =>
    clampedI (28 + 8 * i) (coefRange s a (off i)).1 (coefRange s a (off i)).2 (rqI r (28 + 8 * i))
  .next (serve s r 0x1011 (loopReady s && actReady s) bad clamps fun r s =>
    if (s.axis a).state = .unloaded then refused s r
    else
      let eff := fun i => coefValue s a (off i) (rqI r (28 + 8 * i))
      let ws := idx.map fun i => ((coefIndex bank (off i)).getD 0, BitVec.ofInt 32 (eff i))
      let fields := [(16, 4, (a : Int)), (20, 1, (bank : Int)), (21, 1, (n : Int))] ++
        idx.flatMap fun i => [(24 + 8 * i, 2, (off i : Int)), (28 + 8 * i, 4, eff i)]
      stage s a { what := .words ws, req := some r, eff := fields })

/-- AXIS_BANK_SELECT (02 R68): one staged write. -/
def execAxisBankSelect (r : Request) (s : State) : Host.Outcome State Fault Refusal :=
  let a := rq r 16 4
  let bank := rq r 20 1
  .next (serve s r 0x1012 (loopReady s && actReady s) (firstBad [(16, okAxis s a), (20, decide (bank ≤ 2))]) [] fun r s =>
    if bank = 2 ∨ (s.axis a).state = .unloaded then refused s r
    else stage s a { what := .bank bank, req := some r })

/-- AXIS_TABLE_LOAD (04 R132): entries to the inactive page by the bulk path; a commit exchanges the pages. -/
def execAxisTableLoad (r : Request) (s : State) : Host.Outcome State Fault Refusal :=
  let a := rq r 16 4
  let first := rq r 20 2
  let commit := rq r 24 1
  .next (serve s r 0x1013 (loopReady s && actReady s)
    (firstBad [(16, okAxis s a), (20, decide (first ≤ 1023)), (24, decide (commit ≤ 1))])
    (clampedN 22 0 (min 244 (1024 - first)) (rq r 22 2) ++ (if commit = 1 then clampedN 25 0 20 (rq r 25 1) else []))
    fun r s => runTableLoad s r)

/-- AXIS_ENABLE (04 R148): refused, or OK at once, or one staged write whose conditions are checked again. -/
def execAxisEnable (r : Request) (s : State) : Host.Outcome State Fault Refusal :=
  let a := rq r 16 4
  .next (serve s r 0x1020 (loopReady s && actReady s) (firstBad [(16, okAxis s a)]) [] fun r s =>
    let x := s.axis a
    if (x.state = .enabled ∨ x.state = .holding) ∧ x.staged = [] then ok s r
    else if !mayEnable s a then refused s r
    else stage s a { what := .enable, req := some r })

/-- AXIS_DISABLE (04 R148): one staged write, whatever the state of the axis. -/
def execAxisDisable (r : Request) (s : State) : Host.Outcome State Fault Refusal :=
  let a := rq r 16 4
  .next (serve s r 0x1021 (loopReady s && actReady s) (firstBad [(16, okAxis s a)]) [] fun r s =>
    stage s a { what := .disable, req := some r })

end Sys2Proof.Machine
end

