-- ==== Sys2Proof/Machine/SafeFuncs.lean ====
section
/-! DEFINITION. What the safety channels evaluate: safe inputs, reset pairs and monitoring points (10 R287 to R290, R305), safe
link frames and the safe functions (10 R291 to R303). -/
namespace Sys2Proof.Machine

/-! ### Safe inputs (10 R287 to R289) -/

/-- A contact after one sample: its filtered level, and the time for which its level has differed from it (10 R287). -/
def filterContact (filt : Nat) (level now : Bool) (t : Nat) : Bool × Nat :=
  if now = level then (level, 0) else if filt ≤ t + 50 then (now, 0) else (level, t + 50)

/-- A pair after one sample of its contacts (10 R287, R288). -/
def evalPair (c : PairCfg) (p : PairSt) (rawA rawB : Bool) : PairSt :=
  let (fa, tA) := filterContact c.filt p.a rawA p.tA
  let (fb, tB) := filterContact c.filt p.b rawB p.tB
  let a := fa
  let b := if c.type = 1 then !fb else fb
  let p := { p with a := fa, b := fb, tA, tB }
  let p :=
    if a = b then
      { p with dt := 0, armed := p.armed || !a, fault := p.fault && !(a && (p.armed || !a)) }
    else
      let dt := p.dt + 50
      if c.disc < dt then { p with dt, fault := true, armed := false } else { p with dt }
  { p with closed := a && b && !p.fault }

/-- A reset pair after one sample (10 R305): its new state, whether the stuck event is raised, whether the edge acts. -/
def evalReset (t : ResetSt) (r safe : Bool) : ResetSt × Bool × Bool :=
  if r then
    let closedT := t.closedT + 50
    let stuckNow := decide (5000000 < closedT) && !t.stuck
    ({ t with closedT, openT := 0, stuck := t.stuck || stuckNow, afterSafe := if t.closedT = 0 then safe else t.afterSafe },
     stuckNow, false)
  else
    let edge := t.armed && !t.stuck && decide (100000 ≤ t.closedT) && decide (t.closedT ≤ 3000000)
    let openT := t.openT + 50
    let free := decide (100000 ≤ openT)
    ({ t with closedT := 0, openT, armed := t.armed || free, stuck := t.stuck && !free }, false, edge)

/-- The scopes of a pair or point: the module, or its shafts. -/
def scopesOf (module : Bool) (shafts : BitVec 8) : List Nat :=
  if module then [8] else (List.range 8).filter fun h => shafts.getLsbD h

/-- A safe stop 1 of module scope begins in every shaft that runs none (10 R289, R299). -/
def ss1All (s : State) (c : Chan) : State :=
  s.each (cfgShafts (s.chan c)) fun s h => markSs1 (startSs1 s c h 1) c h
/-- With no shaft in a safe stop 1 of module scope, the module trips. -/
def tripUnstopped (s : State) (c : Chan) : State := if moduleSs1 (s.chan c) then s else latchTrip s c 8 1 255

/-- The demand of an open pair (10 R289): function 1 trips its scope, function 2 begins a safe stop 1 of its shafts, or of
every shaft; with none that can stop, the module trips. -/
def pairDemand (s : State) (c : Chan) (p : Nat) : State :=
  let k := tabGet (s.chan c).cfg.pairs {} p
  if (tabGet (s.chan c).pairs {} p).closed then s
  else if k.func = 1 then s.each (scopesOf k.module k.shafts) fun s h => latchTrip s c h 1 255
  else if k.func = 2 then
    if k.module then tripUnstopped (ss1All s c) c
    else s.each (scopesOf false k.shafts) fun s h => startSs1 s c h 1
  else s

/-- One sample of pair `p` in a channel: the pair, its discrepancy event and its demand (10 R288, R289, R317). -/
def samplePair (c : Chan) (raw : BitVec 32) (s : State) (p : Nat) : State :=
  let x := s.chan c
  let was := tabGet x.pairs {} p
  let now := evalPair (tabGet x.cfg.pairs {} p) was (raw.getLsbD (2 * p)) (raw.getLsbD (2 * p + 1))
  let s := s.onChan c fun x => { x with pairs := tabSet x.pairs p now }
  let s := if now.fault ∧ ¬ was.fault then bump (safetyEvent s 0x0A 8 0x0E (chanNo c) p) (cMem 15) else s
  pairDemand s c p

/-- The scope of a reset pair: the shaft whose reset input it is, else the module (10 R306, R317). -/
def resetScope (x : ChanSt) (p : Nat) : Nat :=
  if x.cfg.modReset = some p then 8 else ((cfgShafts x).find? fun h => (cfgShaft x h).reset == some p).getD 8

/-- One sample of a reset pair: an edge acts at once, or at the 1,000 ms floor (10 R305 to R307). -/
def sampleReset (c : Chan) (s : State) (p : Nat) : State :=
  let x := s.chan c
  let (t, stuck, edge) := evalReset (tabGet x.resets {} p) (tabGet x.pairs {} p).closed s.sys.safe
  let s := s.onChan c fun x => { x with resets := tabSet x.resets p t }
  let s := if stuck then safetyEvent s 4 (resetScope x p) 0 (chanNo c) p else s
  if !edge then s
  else if s.sys.floor then resetEdge s c p t.afterSafe
  else s.onChan c fun x => { x with edges := x.edges ++ [(p, t.afterSafe)] }

/-- One 50 µs sample of a channel: read-back, pairs, reset pairs (10 R280, R287, R288, R305, R308). -/
def sampleSafety (s : State) (c : Chan) (raw : BitVec 32) (rb : BitVec 24) : State :=
  if !(s.chan c).running then s
  else
    let bad := readbackBad s c rb
    let s := s.onChan c fun x => { x with clk := x.clk + 50, readback := rb }
    let s := if bad then latchTrip s c 8 0x10 255 else s
    let s := s.each (List.range 16) (samplePair c raw)
    s.each ((List.range 16).filter fun p => (tabGet (s.chan c).cfg.pairs {} p).func == 6) (sampleReset c)

/-! ### Monitoring points (10 R290) -/

/-- A monitoring point after one 50 µs sample of its voltage in mV. -/
def evalPoint (k : PointCfg) (p : PointSt) (mv : Nat) : PointSt :=
  if k.mode = 1 then
    if 18000 < mv then { present := true, low := 0 }
    else if mv < 10000 then { present := p.present && decide (p.low + 50 < k.cfilt), low := p.low + 50 }
    else { p with low := 0 }
  else if 18000 < mv then { present := true, low := 0 }
  else { present := p.present && decide (p.low + 50 < 25000), low := p.low + 50 }

/-- One sample of the monitoring points in a channel: an absent point trips its scope (10 R290). -/
def samplePoints (s : State) (c : Chan) (mv : List Nat) : State :=
  if !(s.chan c).running then s
  else s.each ((List.range 4).filter fun p => (tabGet (s.chan c).cfg.points {} p).mode != 0) fun s p =>
    let k := tabGet (s.chan c).cfg.points {} p
    let t := evalPoint k (tabGet (s.chan c).points {} p) (mv.getD p 0)
    let s := s.onChan c fun x => { x with points := tabSet x.points p t }
    if t.present then s else s.each (scopesOf k.module k.shafts) fun s h => latchTrip s c h 2 255

/-! ### Safe link frames (10 R291 to R296) -/

/-- A record of a safe link frame, the complement of stream B removed (10 R293). -/
inductive SafeRec where
  | car (n : Nat) (r : CarRec)
  | locks (shaft base : Nat) (w : BitVec 64)
  | groups (w : BitVec 64)
  | pair (module : Nat) (shafts : List Nat) (crc : Nat)
  | other
  deriving DecidableEq, Repr

/-- The record at byte `i` of a frame (10 R293, 13 R375). -/
def safeRecAt (bytes : List Byte) (b : Bool) (i : Nat) : SafeRec :=
  let l := (bytes.drop i).map fun x => if b then ~~~x else x
  match byteAt l 0 with
  | 1 => .car (byteAt l 1) { status := BitVec.ofNat 8 (byteAt l 2), pos := toI32 (leAt l 4 4), vel := toI32 (leAt l 8 4) }
  | 2 => .locks (byteAt l 1) (byteAt l 2) (BitVec.ofNat 64 (leAt l 4 8))
  | 3 => .groups (BitVec.ofNat 64 (leAt l 4 8))
  | 4 => .pair (byteAt l 1) ((List.range 8).map fun h => byteAt l (2 + h)) (leAt l 10 4)
  | _ => .other

/-- The records of a frame (10 R292). -/
def safeRecs (bytes : List Byte) (b : Bool) : List SafeRec :=
  (List.range (byteAt bytes 6)).map fun k => safeRecAt bytes b (8 + 16 * k)

/-- Whether a frame is complete with the right SYNC and length (14 R418). -/
def frameComplete (bytes : List Byte) : Bool :=
  byteAt bytes 0 == 0x7E && bytes.length == 12 + 16 * byteAt bytes 6

/-- The checks of 10 R294 that do not depend on SEQ's history: layout, FCRC, SRCID, stream. -/
def frameOk (bytes : List Byte) (src : Nat) (b : Bool) : Bool :=
  let n := byteAt bytes 6
  frameComplete bytes && byteAt bytes 1 == 1 && decide (1 ≤ n) && decide (n ≤ 14) &&
  leAt bytes (8 + 16 * n) 4 == crc32c (bytes.take (8 + 16 * n)) && leAt bytes 2 2 == src && src != 0 &&
  (byteAt bytes 7 % 2 == b2n b)

/-- Whether SEQ continues a stream: one more than the last, or the stream has timed out (10 R294). -/
def seqOk (last : Option Nat) (lost : Bool) (seq : Nat) : Bool :=
  lost || match last with | none => true | some q => seq == (q + 1) % 65536

/-- Whether the configuration assigns a record to a link (10 R294). -/
def assigned (k : LinkCfg) : SafeRec → Bool
  | .car n _ => k.cars.contains n
  | .locks h b _ => k.locks.contains (h, b)
  | .groups _ => k.groups
  | _ => false

/-- Whether two records of the same kind and identity differ beyond the tolerances (10 R296). -/
def recsDiffer (c : SafetyCfg) : SafeRec → SafeRec → Bool
  | .car n r, .car m q => n == m &&
      (decide (c.linkTol < iabs (r.pos - q.pos)) || decide (c.linkVtol < iabs (r.vel - q.vel)) ||
       [1, 2, 3, 4].any fun i => r.status.getLsbD i != q.status.getLsbD i)
  | .locks h b w, .locks g d v => h == g && b == d && w != v
  | .groups w, .groups v => w != v
  | _, _ => false

/-- The records of the last accepted frame of a stream. -/
def streamRecs (t : StreamSt) : List SafeRec :=
  (t.cars.map fun p => .car p.1 p.2) ++ (t.locks.map fun p => .locks p.1 p.2.1 p.2.2) ++
  (match t.proof with | some w => [.groups w] | none => [])

/-- A channel takes one assigned record of a stream (10 R293, R295). -/
def takeRec (b : Bool) (x : ChanSt) : SafeRec → ChanSt
  | .car n r =>
    let k := safeCarOf x n
    let miss := if recValid r then 0 else (if b then k.missB else k.missA) + 1
    let k := if b then { k with missB := miss } else { k with missA := miss }
    let k := if !recValid r then k else if b then { k with recB := some r } else { k with recA := some r }
    { x with cars := tabSet x.cars n { k with lost := k.lost && (decide (0 < k.missA) || decide (0 < k.missB)) } }
  | .locks h base w => { x with locks := tabSet x.locks (8 * h + 2 * (base / 64) + b2n b) w }
  | .groups w => { x with proof := tabSet x.proof (b2n b) w }
  | _ => x

/-- A car of a link of which an accepted frame carries no record is missing in that stream for the period (10 R295). -/
def missCar (b : Bool) (x : ChanSt) (n : Nat) : ChanSt :=
  { x with cars := tabMod x.cars {} n fun k => if b then { k with missB := k.missB + 1 } else { k with missA := k.missA + 1 } }

/-! ### Safe functions (10 R298 to R303) -/

/-- The stopping allowance of a velocity toward a neighbour, in µm × 2 × ASAFE × 1,000 (10 R303). -/
def allowance (sh : SafeShaft) (v : Int) : Int := if v ≤ 0 then 0 else v * sh.trs * 2 * sh.asafe + v * v * 1000

/-- Whether two neighbours are closer than the separation envelope allows (10 R303): all terms times 2 × ASAFE × 1,000. -/
def tooClose (sh : SafeShaft) (k : SafeCar) (lo hi : CarRec) : Bool :=
  let scale := 2 * sh.asafe * 1000
  decide ((hi.pos - (lo.pos + k.h)) * scale - allowance sh lo.vel - allowance sh (-hi.vel) < sh.sgap * scale)

/-- Whether a speed toward an end exceeds the terminal slow-down limit over the room left (10 R298). -/
def terminalFast (sh : SafeShaft) (v room : Int) : Bool :=
  let a := v - sh.vtsd0
  decide (0 < a) && decide (2 * sh.atsd * max 0 room < a * a)

/-- The direction reference of a car after an evaluation in inspection (10 R298 SDI). -/
def sdiStep (k : SafeEval) (insp : Bool) (dirs : Bool × Bool) (p : Int) : SafeEval :=
  if !insp then { k with sdiRef := none }
  else if k.sdiRef.isNone ∨ k.sdiIn ≠ dirs then { k with sdiRef := some p, sdiIn := dirs } else k

/-- Whether a car moved against the direction inputs (10 R298 SDI). -/
def sdiBad (sh : SafeShaft) (k : SafeEval) (p : Int) : Bool :=
  match k.sdiRef with
  | none => false
  | some r =>
    match k.sdiIn with
    | (true, false) => decide (sh.sditol < r - p)
    | (false, true) => decide (sh.sditol < p - r)
    | _ => decide (sh.sditol < iabs (p - r))

/-- What a channel keeps of a car's evaluations on a stream (false A, true B). -/
def evalOf (k : SafeCarSt) (b : Bool) : SafeEval := if b then k.evB else k.evA

/-- The causes that a car's record in a stream puts in demand (10 R298, R301, R303), after `k` has been stepped. -/
def carDemands (x : ChanSt) (b : Bool) (h : Nat) (sh : SafeShaft) (c : SafeCar) (r : CarRec) (wasZone : Option Nat) : List Nat :=
  let p := r.pos
  let v := r.vel
  let insp := inspOf x h
  let lim := if insp then sh.vsli else sh.vsl
  let zone := zoneOf sh p
  let inSomeZone := fun i => sh.cars.any fun q => match recOf x b q.car with
    | some t => decide (zoneOf sh t.pos = some i) | none => false
  let above := (neighbours sh.cars c.car).2
  (if lim ≠ 0 ∧ lim < iabs v then [3] else []) ++
  (if p < sh.zslo ∨ sh.zshi < p + c.h then [4] else []) ++
  (if insp && sdiBad sh (evalOf (safeCarOf x c.car) b) p then [5] else []) ++
  (if (zone.isNone && !recClosed r) ||
      (match wasZone with
       | some l => decide (zone ≠ some l) && (!recClosed r || !lockedIn x b h l)
       | none => false) then [6] else []) ++
  (if sh.vaos ≠ 0 ∧ sh.vaos < v then [7] else []) ++
  (if (decide (0 < v) && terminalFast sh v (sh.zshi - p - c.h)) || (decide (v < 0) && terminalFast sh (-v) (p - sh.zslo))
   then [8] else []) ++
  (match above with
   | none => []
   | some q => match recOf x b q.car with
     | some t => if tooClose sh c r t then [9] else []
     | none => []) ++
  (if sh.vstill < iabs v ∧ (bandLandings x b sh c.car).any (fun i => !lockedIn x b h i && !inSomeZone i) then [0x0F] else [])

/-- A demand acts: a safe stop 1 where SLSR asks for it, else a trip of the function's scope (10 R298). -/
def actDemand (c : Chan) (h car : Nat) (s : State) (cause : Nat) : State :=
  let sh := cfgShaft (s.chan c) h
  if cause = 3 ∧ sh.slsr then startSs1 s c h 3
  else latchTrip s c (if sh.module.contains cause then 8 else h) cause car

/-- Whether a car breaks the bound of its shaft's safe stop 1 (10 R299), in µm/s times 1,000,000. -/
def ss1Broken (x : ChanSt) (sh : SafeShaft) (t : Ss1St) (car : Nat) (v : Int) : Bool :=
  decide ((iabs (tabGet t.v0 0 car) + sh.vss1tol) * 1000000 - sh.ass1 * ((x.clk - t.t0 : Nat) : Int) < iabs v * 1000000)

/-- Safe stop 1 of a shaft on an accepted frame: standstill counted, the bound watched (10 R299). -/
def watchSs1 (s : State) (c : Chan) (b : Bool) (h : Nat) : State :=
  let x := s.chan c
  let sh := cfgShaft x h
  let t := tabGet x.ss1 {} h
  if !t.on then s
  else
    let vels := sh.cars.filterMap fun k => (recOf x b k.car).map fun r => (k.car, r.vel)
    if vels.any fun p => ss1Broken x sh t p.1 p.2 then endSs1 s c h 0x0A
    else
      let still := vels.all fun p => decide (iabs p.2 ≤ sh.vstill)
      s.onChan c fun x =>
        { x with ss1 := tabSet x.ss1 h (if b then { t with stillB := if still then t.stillB + 1 else 0 } else { t with stillA := if still then t.stillA + 1 else 0 }) }

/-- The safe functions of one shaft are evaluated on the records of one stream (10 R295, R298 to R303). -/
def evalShaft (c : Chan) (b : Bool) (s : State) (h : Nat) : State :=
  let sh := cfgShaft (s.chan c) h
  let was := sh.cars.map fun k => (k.car, (evalOf (safeCarOf (s.chan c) k.car) b).zone)
  let s := s.onChan c fun x => { x with
    cars := sh.cars.foldl (fun t k => match recOf x b k.car with
      | none => t
      | some r => tabMod t {} k.car fun y =>
          let e := { sdiStep (evalOf y b) (inspOf x h) (dirOf x h) r.pos with zone := zoneOf sh r.pos }
          if b then { y with evB := e } else { y with evA := e }) x.cars }
  let x := s.chan c
  let dem := sh.cars.flatMap fun k => match recOf x b k.car with
    | none => []
    | some r => (carDemands x b h sh k r (tabGet was none k.car)).map fun d => (k.car, d)
  let s := s.onChan c fun x => { x with demand := tabSet x.demand (2 * h + b2n b) (dem.map (·.2)) }
  let s := s.each dem fun s p => actDemand c h p.1 s p.2
  watchSs1 s c b h

/-- Number of a link in the configuration: 0–7 local, 8 + n trunk safe link. -/
def linkNo : LinkSrc → Nat
  | .spl n => n
  | .tsl n => 8 + n

/-- A frame that a channel has accepted: its records are taken, compared with the other stream's, and the safe functions of
the link's shafts evaluated (10 R293 to R303). -/
def acceptFrame (s : State) (c : Chan) (l : Nat) (b : Bool) (bytes : List Byte) : State :=
  let k := tabGet (s.chan c).cfg.links {} l
  let all := safeRecs bytes b
  let recs := all.filter (assigned k)
  let seq := leAt bytes 4 2
  let s := bump s (cMem 14) (all.length - recs.length)
  let st : StreamSt :=
    { seq := some seq, lost := false, good := min 255 ((tabGet (s.chan c).streams {} (2 * l + b2n b)).good + 1)
      cars := recs.filterMap fun r => match r with | .car n x => some (n, x) | _ => none
      locks := recs.filterMap fun r => match r with | .locks h d w => some (h, d, w) | _ => none
      proof := recs.findSome? fun r => match r with | .groups w => some w | _ => none }
  let absent := k.cars.filter fun n => !st.cars.any fun p => p.1 == n
  let s := s.onChan c fun x => absent.foldl (missCar b) (recs.foldl (takeRec b) { x with streams := tabSet x.streams (2 * l + b2n b) st })
  let x := s.chan c
  let o := tabGet x.streams {} (2 * l + b2n (!b))
  let paired := o.seq == some seq && !o.lost
  let diff := (streamRecs st).any fun r => (streamRecs o).any fun q => recsDiffer x.cfg r q
  let s := if !paired then s else s.onChan c fun x => { x with
    differ := tabSet x.differ l (if diff then tabGet x.differ 0 l + 1 else 0)
    agree := tabSet x.agree l (if diff then 0 else min 255 (tabGet x.agree 0 l + 1)) }
  let s := if 2 ≤ tabGet (s.chan c).differ 0 l then
      s.each (shaftsOfLink (s.chan c) l) fun s h => latchTrip s c h 0x0D 255
    else s
  let s := s.each (absent ++ (st.cars.filter fun p => !recValid p.2).map (·.1)) fun s n =>
    let y := safeCarOf (s.chan c) n
    if (s.chan c).cfg.linkTo ≤ max y.missA y.missB then
      let s := s.onChan c fun x => { x with cars := tabMod x.cars {} n fun y => { y with lost := true } }
      match shaftOfCar (s.chan c) n with
      | some (h, _) => latchTrip s c h 0x0C n
      | none => s
    else s
  s.each (shaftsOfLink (s.chan c) l) (evalShaft c b)

/-- A frame of a safe link reaches a channel (10 R294, R295): checked, then accepted or discarded and counted. -/
def safeFrame (s : State) (c : Chan) (l : Nat) (b : Bool) (bytes : List Byte) : State :=
  let x := s.chan c
  if !x.running then s
  else
    let k := tabGet x.cfg.links {} l
    let t := tabGet x.streams {} (2 * l + b2n b)
    if frameOk bytes (if b then k.srcB else k.srcA) b && seqOk t.seq t.lost (leAt bytes 4 2) then acceptFrame s c l b bytes
    else bump s (cMem 13)

/-- A complete frame of a published link waits to be written in a SAFE record (14 R418). -/
def publishFrame (s : State) (l : LinkSrc) (b : Bool) (bytes : List Byte) : State :=
  match l with
  | .tsl _ => s
  | .spl n =>
    match (tabGet s.safety.core.cfg.links {} n).publish with
    | none => s
    | some (t, ra, rb) =>
      if frameComplete bytes then
        s.onMulti fun m => { m with publish := m.publish ++ [(if b then rb else ra, { body := .safe t b bytes })] }
      else s

end Sys2Proof.Machine
end

