-- ==== Sys2Proof/Machine/MotionOps.lean ====
section
/-! DEFINITION. Shared operations of shafts and cars (06, 07): places, claims, energy, the position fusion, the car law and
the force allocation. -/
namespace Sys2Proof.Machine

/-! ### Places and events -/

/-- An event of class 13h (07 R230). -/
def carEvent (s : State) (car h code : Nat) (value : Int) : State :=
  raise s { source := 6, code, subject := car, value, cls := some 0x13,
            fields := [(16, 1, (car : Int)), (17, 1, (h : Int)), (18, 1, (code : Int)), (20, 4, (s.time.cycle : Int)), (24, 4, value)] }
/-- An event of class 12h (06 R193). -/
def crestEvent (s : State) (car h code : Nat) (value : Int) : State :=
  raise s { source := 5, code, subject := car, value, cls := some 0x12,
            fields := [(16, 1, (car : Int)), (17, 1, (h : Int)), (18, 1, (code : Int)), (20, 4, (s.time.cycle : Int)), (24, 4, value)] }

/-- The motion side reports to Traverse (09 R269). -/
def report (s : State) (u : Update) : State := s.onDisp fun d => { d with updates := d.updates ++ [u] }

/-- Position of a landing (07 R195). -/
def landPos (cfg : ShaftCfg) (l : Nat) : Int := tabGet cfg.lands 0 l
/-- The landings of a configuration. -/
def landings (cfg : ShaftCfg) : List Nat := List.range cfg.geo.nLand

/-- The landing in whose door zone a position lies (08 R251). -/
def landingAt (cfg : ShaftCfg) (p : Int) : Option Nat :=
  (landings cfg).find? fun l => decide (iabs (p - landPos cfg l) ≤ cfg.geo.dZone)

/-- Journey time of a window, in ns (06 R168). -/
def profTime (s : State) (q : Profile) : Nat := (s.time.cycle - q.start) * cycleNs s.sys.rate
/-- The state of a profile in this window. -/
def profNow (s : State) (q : Profile) : Kin := profAt q (profTime s q)

/-- The journey limits of a shaft with a blend, when none are set (06 R174). -/
def limitsOf (s : State) (h : Nat) : Limits := (s.shaft h).limits.getD {}
/-- The limits of a journey whose first window is the next one: those that land at this cycle's release phase too (06 R174). -/
def limitsNext (s : State) (h : Nat) : Option Limits :=
  let t := s.shaft h
  if s.time.released then t.limits else match t.limPend.getLast? with | some e => some e.2 | none => t.limits

/-! ### Claims (07 R223) -/

/-- The reference of a car as a kinematic state. -/
def refKin (k : CarSt) : Kin := { p := k.refP * 1000, v := k.refV * 1000, a := k.refA * 1000 }

/-- The deceleration and jerk at which a car would stop at present: those of its journey, or ASTOP and JSTOP (07 R223). -/
def decel (x : CarCtx) (k : CarSt) : Nat × Int × Int :=
  match k.journey with
  | some j => (j.lim.blend, j.lim.a, j.lim.j)
  | none => (0, x.cfg.geo.aStop, x.cfg.geo.jStop)

/-- A car's stopping point at its present deceleration (06 R172, 07 R223). -/
def carStop (x : CarCtx) (k : CarSt) : Int :=
  match k.stopProf with
  | some q => q.target
  | none =>
    if k.refV = 0 ∧ k.refA = 0 then k.refP
    else let (b, a, j) := decel x k; stopPoint b (refKin k) a j

/-- The claim of a car toward a target (07 R223). -/
def claimTo (x : CarCtx) (k : CarSt) (t : Int) : Int × Int :=
  let s := carStop x k
  (min k.refP (min t s), max k.refP (max t s) + x.c.height)

/-- The claim of a car (07 R223). -/
def claimOf (x : CarCtx) (k : CarSt) : Int × Int :=
  claimTo x k (match k.journey with | some j => j.prof.target | none => k.refP)

/-- The cars below and above a car of its shaft. -/
def carsBeside (x : CarCtx) : Option CarCfg × Option CarCfg :=
  ((cfgCars x.cfg).find? fun c => c.order + 1 == x.c.order, (cfgCars x.cfg).find? fun c => c.order == x.c.order + 1)

/-- The least distance of a claim to its neighbours' committed claims, less GAPMIN (07 HEADROOM); 2³¹ − 1 with none. -/
def headroomOf (s0 : State) (x : CarCtx) (lo hi : Int) : Int :=
  let (b, a) := carsBeside x
  let below := match b with | some c => lo - (s0.car c.car).hi - x.cfg.geo.gapMin | none => 2147483647
  let above := match a with | some c => (s0.car c.car).lo - hi - x.cfg.geo.gapMin | none => 2147483647
  min below above

/-- Whether a claim keeps the rule of 07 R223 against both neighbours and the ends of the shaft. -/
def claimOk (s0 : State) (x : CarCtx) (c : Int × Int) : Bool :=
  decide (0 ≤ headroomOf s0 x c.1 c.2) && decide (x.cfg.geo.zMin ≤ c.1) && decide (c.2 ≤ x.cfg.geo.zMax)

/-- Whether a stopping point keeps the rule against the neighbour in the direction of travel (07 R224). -/
def stopClear (s0 : State) (x : CarCtx) (dir stop : Int) : Bool :=
  let (b, a) := carsBeside x
  if 0 < dir then match a with | some c => decide (stop + x.c.height + x.cfg.geo.gapMin ≤ (s0.car c.car).lo) | none => true
  else match b with | some c => decide ((s0.car c.car).hi + x.cfg.geo.gapMin ≤ stop) | none => true

/-! ### Energy (06 R175 to R184) -/

/-- The available energy of a shaft's store, in J (06 R175); while an input has failed a bank is taken to give what the
journeys are predicted to draw (R176). -/
def eAvail (s : State) (h : Nat) : Int :=
  let t := s.shaft h
  match t.energy with
  | none => 0
  | some c =>
    let v := t.en.vdc
    if c.kind = 2 ∨ v < c.vmin then 0
    else if c.kind = 0 then t.en.ebms - (t.en.drawn - t.en.bmsDrawn) / 1000000000000000
    else (c.cap : Int) * (v * v - (c.vmin * c.vmin : Nat)) / 2000000000 - t.en.failDrawn / 1000000000000000

/-- Predicted energy in mJ of a run of distance `dz` nm between two speeds in nm/s, with mass `m` kg (06 R178). -/
def groupMj (c : EnergyCfg) (m dz v0 v1 : Int) : Int :=
  let w := m * c.grav * dz / 1000000000000 + m * (v1 * v1 - v0 * v0) / 2000000000000000 + (c.fric : Int) * iabs dz / 100000000
  if 0 ≤ w then w * 1000 / (c.etaM : Int) else w * (c.etaG : Int) * (100 - (c.rgMargin : Int)) / 100000

/-- The sense of a phase: 1 when the speed rises, −1 when it falls, 0 when it holds. -/
def phaseSense (blend : Nat) (f : ProfPhase) : Int := isign (iabs (phaseEnd blend f).v - iabs f.v0)

/-- The phase groups of a profile: start state, end state, duration (06 R178). -/
def phaseGroups (blend : Nat) : List ProfPhase → List (Int × Kin × Kin × Nat)
  | [] => []
  | f :: r =>
    let e := phaseEnd blend f
    let g := phaseSense blend f
    match phaseGroups blend r with
    | (g', _, e', d') :: t => if g = g' then (g, { p := f.p0, v := f.v0 }, e', f.dur + d') :: t
                              else (g, { p := f.p0, v := f.v0 }, e, f.dur) :: (g', { p := e.p, v := e.v }, e', d') :: t
    | [] => [(g, { p := f.p0, v := f.v0 }, e, f.dur)]

/-- Predicted energy of a profile without PAUX, up to `t` ns and position `p` nm, in mJ: whole groups, and the group in
progress in proportion to the distance travelled in it (06 R178). -/
def groupsMj (c : EnergyCfg) (m : Int) (p : Int) (t : Nat) : List (Int × Kin × Kin × Nat) → Int
  | [] => 0
  | (_, a, b, d) :: r =>
    let e := groupMj c m (b.p - a.p) a.v b.v
    if d ≤ t then e + groupsMj c m p (t - d) r
    else if b.p = a.p then 0 else e * (p - a.p) / (b.p - a.p)

/-- The predicted draw of a profile up to journey time `t` ns, in mJ (06 R178). -/
def drawMj (c : EnergyCfg) (m : Int) (q : Profile) (t : Nat) : Int :=
  groupsMj c m (profAt q t).p t (phaseGroups q.blend q.phases) + (c.paux : Int) * (min t q.total : Nat) / 1000000

/-- The predicted energy of a profile, in mJ (06 R178). -/
def predMj (c : EnergyCfg) (m : Int) (q : Profile) : Int := drawMj c m q q.total

/-- The measured draw of a journey, in mJ (06 R178). -/
def measMj (s : State) (h : Nat) (j : Journey) : Int := ((s.shaft h).en.drawn - j.drawn0) / 1000000000000
/-- The predicted draw of a journey up to this window, in mJ. -/
def predNow (s : State) (c : EnergyCfg) (m : Int) (j : Journey) : Int := j.dBase + drawMj c m j.prof (profTime s j.prof)

/-- The energy drawn after the instant of a cycle, from those held (06 R175). -/
def drawnAt (e : EnergySt) (n : Nat) : Int :=
  match e.hist.find? fun p => decide (p.1 ≤ n) with
  | some p => p.2
  | none => match e.hist.getLast? with | some p => p.2 | none => e.drawn

/-- What remains of a journey's predicted energy in this window, in mJ: its entry of the ledger (06 R179). -/
def ledgerMj (s : State) (h : Nat) (k : CarSt) : Int :=
  match (s.shaft h).energy, k.journey with
  | some c, some j => max 0 (j.ePred - predNow s c k.mass j)
  | _, _ => 0

/-- The committed ledger sum of the cars of a shaft other than one, in mJ (06 R179). -/
def ledgerOthers (s : State) (h car : Nat) : Int :=
  (shaftCars s h).foldl (fun n x => if x.c.car = car then n else n + (s.car x.c.car).ledger) 0

/-- Whether the BMS is stale or an input of the store has failed (06 R176). -/
def storeBad (s : State) (h : Nat) : Bool :=
  match (s.shaft h).energy with
  | some c => (s.shaft h).en.failed || (c.kind == 0 && (s.shaft h).en.bmsStale)
  | none => false

/-- E_avail − RESERVE − L in mJ for a car (06 R180, R184). -/
def marginMj (s0 s : State) (h car : Nat) : Int :=
  match (s.shaft h).energy with
  | some c => (eAvail s h - c.reserve) * 1000 - ledgerOthers s0 h car
  | none => 0

/-! ### Segments and their nodes (07 R198, R199, 14 R412) -/

/-- Whether a segment is remote (14 R412). -/
def isRemote (axis : Nat) : Bool := decide (0x8000 ≤ axis)
/-- The zone partner of a remote segment, and its axis there. -/
def remoteOf (axis : Nat) : Nat × Nat := (axis / 1024 % 8, axis % 1024)

/-- Origin of segment `j` (07 R195). -/
def segOrigin (g : ShaftGeo) (j : Nat) : Int := g.z0 + j * g.segLen
/-- The length of a track at `p` that lies over segment `j` (07 R208). -/
def overlap (x : CarCtx) (p : Int) (j : Nat) : Int :=
  let a := p + x.c.toff
  let z := segOrigin x.cfg.geo j
  max 0 (min (a + x.c.track) (z + x.cfg.geo.segLen) - max a z)
/-- The segments under the track of a car at `p`. -/
def underTrack (x : CarCtx) (p : Int) : List Nat :=
  (List.range x.cfg.geo.nSeg).filter fun j => decide (0 < overlap x p j)
/-- Axis of a segment. -/
def segAxis (x : CarCtx) (j : Nat) : Nat := (tabGet x.cfg.segs {} j).axis

/-- What the module holds of a zone partner of a shaft. -/
def zoneOfShaft (s : State) (h n : Nat) : ZoneUpSt := tabGet s.multi.zoneUp {} (8 * h + n)

/-- A Hall block as read: position of the track origin from the node's first segment, confidence, flags, angle (07 R199). -/
def hallFields (b : BitVec 64) : Int × Nat × Nat × Nat :=
  (toI32 b.toNat, bitsOf b.toNat 32 8, bitsOf b.toNat 40 8, bitsOf b.toNat 48 16)

/-- The segment nodes of a car's shaft: segment index of the node's first segment, last segment, ring, Hall block, fresh,
and age in cycles of the samples (07 R199, R201, 14 R413). A remote node's samples are one cycle old. -/
def hallNodes (s : State) (x : CarCtx) (segs : List Nat) : List (Nat × Nat × Option Nat × BitVec 64 × Bool) :=
  (segs.foldl (fun l j =>
    let ax := segAxis x j
    if isRemote ax then
      let (n, a) := remoteOf ax
      let z := zoneOfShaft s x.h n
      match z.halls.find? fun q => decide (q.1 ≤ a) && decide (a < q.1 + 8) with
      | some (f, b) =>
        let j0 := j - (a - f)
        if l.any fun e => e.1 == j0 then l else l ++ [(j0, j, none, b, !z.missing)]
      | none => l
    else
      match axisNode s ax with
      | some (r, i, k) =>
        let j0 := j - k
        let nd := nodeOf s r i
        if l.any fun e => e.1 == j0 then l else l ++ [(j0, j, some r, nd.blocks.getD 0 0, !nd.stale)]
      | none => l) [])

/-! ### Fusion (07 R201, R202) -/

/-- The rings that carry segments. -/
def segRings (s : State) (x : CarCtx) (segs : List Nat) : List Nat :=
  segs.filterMap fun j => if isRemote (segAxis x j) then none else (axisNode s (segAxis x j)).map (·.1)
/-- Whether some ring carrying the car's segment axes is healed in this cycle (07 R201, R207). -/
def carHealed (s : State) (x : CarCtx) (segs : List Nat) : Bool := (segRings s x segs).any fun r => inBankH s r

/-- The segments within HWIN of the track at the predicted position (07 R201). -/
def nearSegs (x : CarCtx) (p : Int) : List Nat :=
  let w := x.cfg.geo.hWin
  (List.range x.cfg.geo.nSeg).filter fun j =>
    let z := segOrigin x.cfg.geo j
    decide (p + x.c.toff - w ≤ z + x.cfg.geo.segLen) && decide (z ≤ p + x.c.toff + x.c.track + w)

/-- The code-rail block of a car's node: the block, and whether its node is fresh (07 R200). -/
def railBlock (s : State) (x : CarCtx) : BitVec 64 × Bool :=
  let nd := tabGet (s.ring x.c.cnRing).nodes {} x.c.cnAddr
  (nd.blocks.getD 0 0, !nd.stale)

/-- Whether a reading is good (07 R200). -/
def railGoodNow (s : State) (x : CarCtx) (k : CarSt) : Bool :=
  let (b, fresh) := railBlock s x
  fresh && b.getLsbD 40 && !b.getLsbD 41 && !b.getLsbD 42 && k.rseq != some (bitsOf b.toNat 48 16)

/-- v × n cycles in µm. -/
def drift (s : State) (v : Int) (n : Int) : Int := n * v * (cycleNs s.sys.rate : Int) / 1000000000

/-- The age of a node's samples against the reference instant, in cycles (07 R199, R201, 14 R413). -/
def hallAge (s : State) (healed : Bool) (ring : Option Nat) : Int :=
  match ring with
  | none => if healed then 0 else 1
  | some r => if healed && !inBankH s r then -1 else 0

/-- A Hall reading that fusion takes: its confidence and the position it gives (07 R201). -/
def hallReading (s : State) (x : CarCtx) (k : CarSt) (pPred : Int) (healed : Bool)
    (nd : Nat × Nat × Option Nat × BitVec 64 × Bool) : Option (Nat × Int) :=
  let (j0, _, ring, b, fresh) := nd
  let (xrel, qual, fl, _) := hallFields b
  if fresh && bitAt fl 0 && !bitAt fl 2 && !bitAt fl 3 && decide (0 < qual) then
    let p := segOrigin x.cfg.geo j0 + xrel - x.c.toff + drift s k.v (hallAge s healed ring)
    if iabs (p - pPred) ≤ x.cfg.geo.hWin then some (qual, p) else none
  else none

/-- Whether a Hall reading is valid and lies outside HWIN (07 R201). -/
def hallOutside (s : State) (x : CarCtx) (k : CarSt) (pPred : Int) (healed : Bool)
    (nd : Nat × Nat × Option Nat × BitVec 64 × Bool) : Bool :=
  let (_, qual, fl, _) := hallFields nd.2.2.2.1
  nd.2.2.2.2 && bitAt fl 0 && !bitAt fl 2 && !bitAt fl 3 && decide (0 < qual) && (hallReading s x k pPred healed nd).isNone

/-- The predicted position with which a program fuses: from the rail on the first program after a commit or a car trip that has
a good reading (07 R201). -/
def fusePred (s : State) (x : CarCtx) (k : CarSt) : Int :=
  if k.placed || !railGoodNow s x k then k.pPred else toI32 (railBlock s x).1.toNat

/-- Fusion of a car's position in this window (07 R201, R202). On the first program that knows the position p_last is that
position, so that v stays (DESIGN CHOICE, log 80). -/
def fuse (s : State) (x : CarCtx) (k : CarSt) : CarSt :=
  let (rb, _) := railBlock s x
  let good := railGoodNow s x k
  let rail := toI32 rb.toNat
  let known := k.known || good
  let pPred := fusePred s x k
  let segs := nearSegs x pPred
  let healed := carHealed s x segs
  let railAge : Int := if healed && !inBankH s x.c.cnRing then -1 else if !healed && inBankH s x.c.cnRing then 1 else 0
  let nodes := hallNodes s x segs
  let (sw, sx) := nodes.foldl (fun (a : Int × Int) nd =>
    match hallReading s x k pPred healed nd with
    | some (q, p) => (a.1 + q, a.2 + q * p)
    | none => a) (0, 0)
  let (p, src) :=
    if known && decide (0 < sw) then (sx / sw, 1)
    else if good then (rail + drift s k.v railAge, 2)
    else (pPred, 0)
  let v := k.v + asr ((p - (if k.known then k.p else p)) * 1000000000 / (cycleNs s.sys.rate : Int) - k.v) x.cfg.geo.vsh
  let railRef := rail + drift s k.v railAge
  { k with
    placed := k.placed || good, known, p, v, pPred := p + drift s v 1, src
    rail := if good then rail else k.rail, dev := if good then p - railRef else k.dev
    rseq := some (bitsOf rb.toNat 48 16)
    hallDrop := satAdd max32 k.hallDrop (nodes.filter (hallOutside s x k pPred healed)).length
    plaus := if src = 1 ∧ good ∧ x.cfg.geo.pTol < iabs (p - railRef) then k.plaus + 1 else 0
    railBad := if good then 0 else k.railBad + 1
    railGood := if good then k.railGood + 1 else 0
    railRun := if src = 2 then k.railRun + 1 else 0
    noneRun := if src = 0 then k.noneRun + 1 else 0 }

/-! ### The car law (07 R206, R207) -/

/-- The force of the car law before the caps, and its integrator (07 R206). -/
def carLaw (b : CarBank) (grav : Int) (k : CarSt) : Int × Int :=
  let sh := fun n => bitsOf b.shifts (5 * n) 5
  let e := k.refP - k.p
  let ff := mulsh b.ffk (k.mass * (k.refA + grav) / 10000) (sh 3)
  let i := if k.short ≠ 0 ∧ isign e = isign k.short then k.i else max (min (k.i + mulsh b.ki e (sh 2)) b.imax) (-b.imax)
  (sat32 (ff + mulsh b.kp e (sh 0) + mulsh b.kv (k.refV - k.v) (sh 1) + i), i)

/-! ### Allocation (07 R208 to R211) -/

/-- The role, collect record and effective current limit of a segment axis of this module (07 R208, R210). -/
def localRole (s : State) (ax : Nat) : Nat × CollectRec × Int :=
  let y := s.axis ax
  let (fl, rec_, carried) := match axisNode s ax with
    | some (r, i, k) => ((nodeOf s r i).flags, (nodeOf s r i).recs.getD k {}, true)
    | none => (0, {}, false)
  let gone := fl.getLsbD 2 || fl.getLsbD 3 || !carried
  let role := if gone then 4 else match y.snap.state with
    | 2 => if y.snap.level = 3 then 4 else if y.snap.level = 2 then 2 else 1
    | 3 => 3
    | _ => 4
  let ilim := dwI y.desc 6
  (role, rec_, if y.snap.level = 2 then ilim * (bitsOf (dw y.desc 60) 19 4 + 1) / 16 else ilim)

/-- The role, temperature, TTRIP and effective current limit of a segment (07 R208, R210, 14 R413). -/
def segState (s : State) (x : CarCtx) (j : Nat) : Nat × Int × Bool × Int :=
  let ax := segAxis x j
  if isRemote ax then
    let (n, a) := remoteOf ax
    let z := zoneOfShaft s x.h n
    match (if z.missing then none else z.axes.find? fun e => e.axis == a) with
    | some e => (e.role, e.temp, e.astat.getLsbD 3, e.ilimEff)
    | none => (4, 0, false, 0)
  else
    let (role, rec_, ilim) := localRole s ax
    (role, rec_.temp, rec_.astat.getLsbD 3, ilim)

/-- The force in 0.01 N that an effective current limit gives on a segment, at most FSEG: ILIMeff ÷ FCONST (07 R208). The FCONST
of a remote segment is in the partner's descriptor: a free value (log 80). -/
def segForce (s : State) (x : CarCtx) (j : Nat) (ilim : Int) : Int :=
  let ax := segAxis x j
  if isRemote ax then min x.cfg.geo.fSeg (iabs (Config.zoneForce (8 * x.h + (remoteOf ax).1) (remoteOf ax).2 ilim))
  else
    let d := (s.axis ax).desc
    if dwI d 10 = 0 then x.cfg.geo.fSeg else min x.cfg.geo.fSeg (iabs (ilim * 2 ^ bitsOf (dw d 11) 0 5 / dwI d 10))

/-- The thermal factor of a segment, in units of 2⁻²⁰ (07 R208). -/
def thermal (g : ShaftGeo) (temp : Int) (ttrip : Bool) : Int :=
  if ttrip then 0 else if temp ≤ g.tHot then 1048576 else if g.tMax ≤ temp then 262144
  else 1048576 - 786432 * (temp - g.tHot) / (g.tMax - g.tHot)

/-- The raised-cosine window of o/RAMP, in units of 2⁻⁴⁰ (07 R208). -/
def raised (o ramp : Int) : Int := (1099511627776 - cosTurn ((min o ramp) * 2147483648 / max 1 ramp).toNat) / 2

/-- Weight and cap of a segment with overlap `o` (07 R208); the quarter of R205 is taken of ILIMeff. -/
def weightCap (s : State) (x : CarCtx) (o : Int) (j : Nat) : Nat × Int × Int :=
  let g := x.cfg.geo
  let (role, temp, ttrip, ilim) := segState s x j
  let tau := thermal g temp ttrip
  let f := segForce s x j (if (tabGet (s.shaft x.h).segs {} j).angLim then ilim / 4 else ilim)
  (role, raised o g.ramp * tau / 1048576, if role = 1 ∨ role = 2 then f * o / g.segLen * tau / 1048576 else 0)

/-- One pass of the division of a force (07 R209): segments as (index, weight, cap). -/
def allocPass (rest : Int) (l : List (Nat × Int × Int)) : List (Nat × Int × Int) :=
  let ws := l.foldl (fun n e => n + e.2.1) 0
  l.filter fun e => decide (e.2.2 * ws < iabs (rest * e.2.1))

/-- The division of a force over the segments in allocation (07 R209): shares of clipped segments, what remains, and the
segments that divide it; at most `n` passes. -/
def allocLoop : Nat → Int → List (Nat × Int × Int) → List (Nat × Int) → List (Nat × Int) × Int × List (Nat × Int × Int)
  | 0, rest, l, acc => (acc, rest, l)
  | n + 1, rest, l, acc =>
    let above := allocPass rest l
    if above.isEmpty then (acc, rest, l)
    else
      let acc := acc ++ above.map fun e => (e.1, isign rest * e.2.2)
      let rest' := above.foldl (fun r e => r - isign rest * e.2.2) rest
      allocLoop n rest' (l.filter fun e => !above.any fun o => o.1 == e.1) acc

/-- Shares of a force, rounded to 0.01 N with the remainder on the largest weight, and the shortfall (07 R209). -/
def allocate (rest : Int) (l : List (Nat × Int × Int)) : List (Nat × Int) × Int :=
  let (acc, rest, l) := allocLoop 6 rest l []
  let ws := l.foldl (fun n e => n + e.2.1) 0
  if l.isEmpty ∨ ws = 0 then (acc ++ l.map (fun e => (e.1, 0)), rest)
  else if !(allocPass rest l).isEmpty then (acc ++ l.map (fun e => (e.1, isign rest * e.2.2)), l.foldl (fun r e => r - isign rest * e.2.2) rest)
  else
    let sh := l.map fun e => (e.1, roundDiv (rest * e.2.1) ws.toNat)
    let left := sh.foldl (fun r e => r - e.2) rest
    let big := l.foldl (fun (a : Nat × Int) e => if a.2 < e.2.1 then (e.1, e.2.1) else a) (0, -1)
    (acc ++ sh.map fun e => if e.1 = big.1 then (e.1, e.2 + left) else e, 0)

/-- The cap sum of a car at a position with the present roles and temperatures (07 R208, R214). -/
def capSum (s : State) (x : CarCtx) (p : Int) : Int :=
  (underTrack x p).foldl (fun n j => n + (weightCap s x (overlap x p j) j).2.2) 0

/-- F_avail: the least cap sum from here to the stopping point, at steps of SEGLEN ÷ 4, at most 32 (07 R214). -/
def availForce (s : State) (x : CarCtx) (k : CarSt) : Int :=
  let here := capSum s x k.p
  if k.refV = 0 then here
  else
    let step := max 1 (x.cfg.geo.segLen / 4)
    let dir := isign k.refV
    let n := min 32 (iabs (carStop x k - k.p) / step).toNat
    (List.range n).foldl (fun (m : Int) (i : Nat) => min m (capSum s x (k.p + dir * step * (i + 1)))) here

/-- Gravity of a shaft (06 GRAV); its default before energy.reserve.set. -/
def gravOf (s : State) (h : Nat) : Int := match (s.shaft h).energy with | some c => c.grav | none => 9810000

/-- The electrical angle of a segment for an extrapolated position (07 R204). -/
def segAngle (x : CarCtx) (pExt : Int) (j : Nat) : Nat :=
  let d := pExt + x.c.toff - segOrigin x.cfg.geo j
  ((d * 4294967296 / max 1 x.cfg.geo.pole + ((tabGet x.cfg.segs {} j).ang : Int)) % 4294967296).toNat

/-- The extrapolated position (07 R204). -/
def extrapolate (s : State) (k : CarSt) (healed : Bool) : Int :=
  let n : Int := (if healed then 3 else 2) * (cycleNs s.sys.rate : Int)
  k.p + k.v * n / 1000000000 + k.refA * n / 1000000000 * n / 2000000000

end Sys2Proof.Machine
end

