-- ==== Sys2Proof/Machine/Crest.lean ====
section
/-! DEFINITION. Crest (06) and the start, stop and trip of cars (07 R218 to R225): what happens to a car, and the decisions of
its car-level program about its journey. -/
namespace Sys2Proof.Machine

/-- Whether a car is under way or being started or stopped. -/
def carBusy (k : CarSt) : Bool := [CarState.preparing, .weighing, .moving, .stopping, .inspection].contains k.state
/-- Whether a car is at rest under its brake: IDLE, STOPPED, TRIPPED with its brake engaged, or out of service. -/
def carAtRest (k : CarSt) : Bool := [CarState.idle, .stopped, .outOfService].contains k.state || (k.state == .tripped && !k.braking)

/-- Whether a car is moving: a journey or stop not yet at its end, or a trip whose brake is not yet engaged (06 R187). -/
def carMoving (k : CarSt) : Bool :=
  ([CarState.moving, .stopping, .inspection].contains k.state && !k.holding && !k.braking) || (k.state == .tripped && k.braking)
/-- Whether energy.status reports a shaft as low: no car is moving and E_avail is below RESERVE (06 R187, R191). -/
def shaftLow (s : State) (h : Nat) : Bool :=
  match (s.shaft h).energy with
  | none => false
  | some c => !(s.shaft h).en.rescue && c.kind != 2 && !((shaftCars s h).any fun x => carMoving (s.car x.c.car)) && decide (eAvail s h < c.reserve)

/-! ### Stops and trips (07 R219 to R221) -/

/-- The answer of a car.inspect.move whose start sequence fails (07 R228). -/
def failInspect (s : State) (n : Nat) : State :=
  match (s.car n).insp with
  | some m => match m.req with
    | some r => refused (s.onCar n fun k => { k with insp := none }) r
    | none => s
  | none => s

/-- A car trips (07 R221, R230): brake at once, reference frozen, every stop returned. -/
def tripCar (s : State) (x : CarCtx) (cause : Nat) : State :=
  let n := x.c.car
  if (s.car n).state = .tripped then s
  else
    let s := (failInspect s n).onCar n fun k => { k with
      state := .tripped, cause, brakeReq := false, braking := true, holding := false, placed := false, restored := false
      refP := k.p, refV := 0, refA := 0
      journey := none, stopProf := none, starting := none, insp := none, stopReq := none, serving := false, stopMode := false }
    report (carEvent (bump s (cShaft x.h 6)) n x.h 3 cause) (.returned n 6)

/-- The reference of a car in this window, unrounded: that of its stop profile or journey (06 R171, 07 R219). -/
def planKin (s : State) (k : CarSt) : Kin :=
  match k.stopProf, k.journey with
  | some q, _ => profNow s q
  | none, some j => profNow s j.prof
  | none, none => refKin k

/-- The deceleration that F_avail leaves above gravity, in µm/s² (06 R188, 07 R220). -/
def spareRate (s : State) (x : CarCtx) (k : CarSt) : Int := k.fAvail * 1000000 / (105 * max 1 k.mass) - gravOf s x.h

/-- The deceleration of a controlled stop from velocity `v`: ASTOP, or what F_avail allows a car moving down; none below
0.1 m/s² (07 R220). -/
def stopRate (s : State) (x : CarCtx) (k : CarSt) (v : Int) : Option Int :=
  let most := spareRate s x k
  if 0 ≤ v ∨ x.cfg.geo.aStop ≤ most then some x.cfg.geo.aStop
  else if most < 100000 then none else some most

/-- A controlled stop begins (07 R219, R220, R230); during STOPPING a second cause is recorded only. That of a safe stop 1 has
no code, 0 here, and leaves CAUSE as it is (10 R285, R299). -/
def stopCar (s0 s : State) (x : CarCtx) (cause : Nat) : State :=
  let n := x.c.car
  let k := s.car n
  let sep := cause == 6
  match k.state with
  | .stopping => recordOnly s 6 1 n cause
  | .moving | .inspection =>
    if k.holding then s
    else match stopRate s x k (planKin s k).v with
      | none => tripCar s x (if cause = 0 then k.cause else cause)
      | some a =>
        let cause := if cause = 0 then k.cause else cause
        let q := planStop (limitsOf s x.h).blend s.time.cycle (planKin s k) a x.cfg.geo.jStop
        let dir := if (planKin s k).v < 0 then -1 else 1
        if sep && !stopClear s0 x dir q.target then tripCar s x cause
        else
          let s := s.onCar n fun k => { k with
            state := .stopping, cause, stopProf := some q, journey := none, insp := none, stopMode := true, stopReq := none, serving := false
            seconds := [] }
          report (carEvent (bump s (cShaft x.h 5)) n x.h 1 cause) (.returned n 6)
  | _ => s

/-- A second cause found in a window of a controlled stop is recorded once in it (07 R219). -/
def secondCause (s : State) (x : CarCtx) (cause : Nat) : State :=
  let n := x.c.car
  let k := s.car n
  if k.cause = cause ∨ k.seconds.contains cause then s
  else recordOnly (s.onCar n fun k => { k with seconds := k.seconds ++ [cause] }) 6 1 n cause

/-- Whether V_dc is below VMIN while the shaft is in rescue (06 R186). -/
def rescueVolts (s : State) (h : Nat) : Bool :=
  match (s.shaft h).energy with
  | some c => (s.shaft h).en.rescue && decide ((s.shaft h).en.vdc < c.vmin)
  | none => false

/-- A window of a controlled stop: a stopping point that breaks the separation rule trips the car (07 R224); other causes that
appear are recorded (07 R219). -/
def watchStop (s0 s : State) (x : CarCtx) : State :=
  let n := x.c.car
  let k := s.car n
  match k.stopProf with
  | none => s
  | some q =>
    let v := (profNow s q).v
    if k.holding || k.braking || v == 0 then s
    else if !stopClear s0 x (if v < 0 then -1 else 1) q.target then
      let s := s.onCar n fun k => { k with sepLim := true }
      tripCar (if k.sepLim then s else carEvent (bump s (cShaft x.h 10)) n x.h 0x0A k.headroom) x 6
    else
      let s := s.onCar n fun k => { k with sepLim := false }
      let s := if spareRate s x k < 100000 then secondCause s x 5 else s
      if rescueVolts s x.h then secondCause s x 7 else s

/-! ### Landings a car can go to -/

/-- The direction of travel toward a target in µm: that of the velocity, at rest toward the target. -/
def travel (k : Kin) (t : Int) : Int := if k.v < 0 ∨ (k.v = 0 ∧ t * 1000 < k.p) then -1 else 1

/-- The landings ahead of a moving car that it can reach, nearest first (06 R172, R185). -/
def aheadLandings (x : CarCtx) (dir : Int) (blend : Nat) (k : Kin) (a j : Int) : List Nat :=
  let l := (landings x.cfg).filter fun l =>
    reachable blend k (landPos x.cfg l) a j && decide (0 ≤ dir * (landPos x.cfg l * 1000 - k.p))
  if dir < 0 then l.reverse else l

/-- The speed in µm/s at which a moving car is held: that which it has once its acceleration has blended to zero (06 R185). -/
def heldSpeed (dir : Int) (blend : Nat) (k : Kin) (j : Int) : Int := max 1 (coastSpeed blend (turnKin dir k) j / 1000)

/-- The head of a car's stop list as the motion side takes it: the next stop when the first is served already (09 R270). -/
def headOf (s : State) (n : Nat) : Option Stop :=
  let l := tabGet s.disp.lists [] n
  if (s.car n).serving then l[1]? else l.head?
/-- The landing of that stop. -/
def headLanding (s : State) (n : Nat) : Option Nat := (headOf s n).map (·.landing)

/-- A replanned journey to a landing from the reference in this window (06 R171); one of minimum energy never raises the
velocity (06 R189). Another landing than its target is Crest's own choice (06 R188). -/
def replan (s : State) (x : CarCtx) (j : Journey) (k : Kin) (l : Nat) : Journey :=
  let v := if j.kind = .minEnergy ∨ j.kind = .rescue then
      min j.lim.v (heldSpeed (travel k j.prof.target) j.lim.blend k j.lim.j) else j.lim.v
  { j with prof := planMove j.lim.blend s.time.cycle k (landPos x.cfg l) v j.lim.a j.lim.j, landing := l, replanned := true
           chosen := j.chosen || l != j.landing, seen := headLanding s x.c.car }

/-- The predicted energy of a journey whose profile has just been replanned: what it has drawn by prediction, and the new
profile (06 R178). -/
def repriced (s : State) (x : CarCtx) (m : Int) (old j : Journey) : Journey :=
  match (s.shaft x.h).energy with
  | none => j
  | some c => let b := predNow s c m old; { j with dBase := b, ePred := b + predMj c m j.prof }

/-! ### Energy (06 R184 to R187) -/

/-- The projection factor as a fraction (06 R184); frozen while an input has failed (R176). -/
def projFactor (s : State) (x : CarCtx) (c : EnergyCfg) (m : Int) (j : Journey) : Int × Int :=
  let pred := predNow s c m j
  let meas := measMj s x.h j
  if (s.shaft x.h).en.failed then (j.kNum, j.kDen)
  else if pred < c.kmin * 1000 ∨ pred ≤ 0 ∨ meas ≤ pred then (1, 1)
  else if 4 * pred ≤ meas then (4, 1) else (meas, pred)

/-- The projection factor of a running journey is formed in each of its windows (06 R184). -/
def formFactor (s : State) (x : CarCtx) : State :=
  let k := s.car x.c.car
  match (s.shaft x.h).energy, k.journey with
  | some c, some j =>
    let f := projFactor s x c k.mass j
    s.onCar x.c.car fun k => { k with journey := some { j with kNum := f.1, kDen := f.2 } }
  | _, _ => s

/-- Whether the cover condition holds for a journey with a remaining energy in mJ (06 R184). -/
def covered (s0 s : State) (x : CarCtx) (j : Journey) (remain : Int) : Bool :=
  decide (j.kNum * remain ≤ marginMj s0 s x.h x.c.car * j.kDen)

/-- The rescue sequence begins for a shaft (06 R186, R193). -/
def beginRescue (s : State) (h car : Nat) : State :=
  if (s.shaft h).en.rescue then s
  else
    let s := s.onShaft h fun t => { t with en := { t.en with rescue := true, rescues := satAdd 65535 t.en.rescues 1 } }
    let s := crestEvent (bump s (cShaft h 4)) car h 4 (eAvail s h)
    s.each (shaftCars s h) fun s y => report s (.returned y.c.car 5)

/-- A journey replanned as a minimum-energy journey (06 R185), its velocity also limited to VRES in rescue (R186). -/
def minEnergy (s : State) (x : CarCtx) (k : CarSt) (j : Journey) (rescue : Bool) : Option Journey :=
  let q := profNow s j.prof
  let dir := travel q j.prof.target
  let top := heldSpeed dir j.lim.blend q j.lim.j
  let lim := { j.lim with v := min j.lim.v (if rescue then min top j.lim.vRes else top) }
  let own := dir * landPos x.cfg j.landing
  match aheadLandings x dir j.lim.blend q j.lim.a j.lim.j with
  | [] => none
  | l :: _ =>
    let l := if own < dir * landPos x.cfg l then j.landing else l
    let n := replan s x { j with lim, kind := if rescue then .rescue else .minEnergy } q l
    some (match (s.shaft x.h).energy with
      | none => n
      | some c => let d := measMj s x.h j; { n with dBase := d, ePred := d + predMj c k.mass n.prof })

/-- A minimum-energy replan is made and reported (06 R185, R193); `old` is the journey replanned. -/
def goMinEnergy (s : State) (x : CarCtx) (old j : Journey) : State :=
  let n := x.c.car
  let down := decide (travel (profNow s old.prof) old.prof.target < 0)
  let s := s.onCar n fun k => { k with journey := some j }
  let s := s.onShaft x.h fun t => { t with en := { t.en with replans := satAdd 65535 t.en.replans 1 } }
  let s := bump (bump s (cShaft x.h 3)) (cBasket (x.c.weaver / 8) 6)
  report (crestEvent s n x.h 3 j.landing) (.beyond n j.landing down)

/-- The cover test of a running journey (06 R184 to R186). -/
def coverTest (s0 s : State) (x : CarCtx) : State :=
  let k := s.car x.c.car
  match (s.shaft x.h).energy, k.journey with
  | some c, some j =>
    if c.kind = 2 ∨ (s.shaft x.h).en.rescue ∨ j.kind = .rescue ∨ j.kind = .inspection then s
    else if covered s0 s x j (j.ePred - predNow s c k.mass j) then s
    else if j.kind = .minEnergy then beginRescue s x.h x.c.car
    else match minEnergy s x k j false with
      | none => s
      | some n =>
        let s := goMinEnergy s x j n
        if covered s0 s x n (n.ePred - n.dBase) then s else beginRescue s x.h x.c.car
  | _, _ => s

/-! ### Triggers of a running journey (06 R188, R189) -/

/-- Rescue, first of the triggers (06 R186): a journey not yet of minimum energy is replanned; with Vdc below VMIN the car
stops. -/
def rescueTrigger (s0 s : State) (x : CarCtx) (j : Journey) : Option State :=
  if !(s.shaft x.h).en.rescue then none
  else if rescueVolts s x.h then some (stopCar s0 s x 7)
  else if j.kind = .minEnergy ∨ j.kind = .rescue ∨ j.kind = .inspection then none
  else (minEnergy s x (s.car x.c.car) j true).map fun n => goMinEnergy s x j n

/-- Whether a car's running journey becomes separation-limited in this window, travelling in a direction (07 R224, R225). -/
def newlyLimited (s0 : State) (x : CarCtx) (dir : Int) : Bool :=
  let k := s0.car x.c.car
  match k.journey with
  | none => false
  | some j =>
    let q := profNow s0 j.prof
    !k.sepLim && decide (0 < q.v * dir) && !stopClear s0 x dir (stopPoint j.lim.blend q j.lim.a j.lim.j)

/-- Separation (07 R224, R225): replan to the nearest landing that is reachable and clear, else a controlled stop. -/
def separationTrigger (s0 s : State) (x : CarCtx) (j : Journey) : Option State :=
  let k := s.car x.c.car
  let q := profNow s j.prof
  let dir := if q.v < 0 then -1 else 1
  if q.v = 0 ∨ stopClear s0 x dir (stopPoint j.lim.blend q j.lim.a j.lim.j) then none
  else
    let behind := if 0 < dir then (carsBeside x).1 else (carsBeside x).2
    let waits := match behind with | none => false | some c => newlyLimited s0 { x with c := c } dir
    if !k.sepLim && waits then none
    else
      let s := s.onCar x.c.car fun k => { k with sepLim := true }
      let s := if k.sepLim then s else carEvent (bump s (cShaft x.h 10)) x.c.car x.h 0x0A k.headroom
      match (aheadLandings x dir j.lim.blend q j.lim.a j.lim.j).find? fun l => stopClear s0 x dir (landPos x.cfg l) with
      | some l =>
        let n := repriced s x k.mass j (replan s x j q l)
        some (crestEvent (s.onCar x.c.car fun k => { k with journey := some n }) x.c.car x.h 9 l)
      | none => some (stopCar s0 s x 6)

/-- Available force (06 R188): replan with A reduced, else a controlled stop. -/
def forceTrigger (s0 s : State) (x : CarCtx) (j : Journey) : Option State :=
  let k := s.car x.c.car
  let g := gravOf s x.h
  if k.mass * (j.lim.a + g) * 105 ≤ k.fAvail * 1000000 then none
  else
    let a := spareRate s x k
    if a < 100000 then some (stopCar s0 s x 5)
    else
      let q := profNow s j.prof
      let lim := { j.lim with a }
      let tgt := landPos x.cfg j.landing
      let l := if j.kind = .inspection ∨ reachable lim.blend q tgt a lim.j then some j.landing
               else (aheadLandings x (travel q j.prof.target) lim.blend q a lim.j).head?
      match l with
      | none => some (stopCar s0 s x 5)
      | some l =>
        let n := if j.kind = .inspection then
            { j with lim, prof := planMove lim.blend s.time.cycle q j.prof.target lim.v a lim.j, replanned := true }
          else replan s x { j with lim } q l
        let n := repriced s x k.mass j n
        some (crestEvent (s.onCar x.c.car fun k => { k with journey := some n }) x.c.car x.h 8 a)

/-- Target withdrawn, or a stop inserted ahead of it (06 R188, 09 R269, R270): a target that was a stop of the list and is none
any more; a head of the list not seen before that lies short of the target. A rescue keeps its profile (06 R186). -/
def targetTrigger (s : State) (x : CarCtx) (j : Journey) : State :=
  let n := x.c.car
  let q := profNow s j.prof
  let dir := travel q j.prof.target
  let put := fun (i : Journey) => s.onCar n fun k => { k with journey := some i }
  let go := fun (l : Nat) (chosen : Bool) => put { repriced s x (s.car n).mass j (replan s x j q l) with chosen }
  if [JourneyKind.back, .inspection, .rescue].contains j.kind || (s.shaft x.h).en.rescue then s
  else if !j.chosen && !((tabGet s.disp.lists [] n).any fun t => t.landing == j.landing) then
    match (aheadLandings x dir j.lim.blend q j.lim.a j.lim.j).head? with
    | some l => go l true
    | none => s
  else match headLanding s n with
    | none => s
    | some l =>
      if l = j.landing ∨ j.seen = some l then s
      else if dir * j.prof.target ≤ dir * landPos x.cfg l then put { j with seen := some l }
      else if reachable j.lim.blend q (landPos x.cfg l) j.lim.a j.lim.j then go l false
      else report (put { j with seen := some l }) (.noInsert n l)

/-- The triggers of a running journey in their order: at most one replan in a window (06 R189). -/
def triggers (s0 s : State) (x : CarCtx) : State :=
  let k := s.car x.c.car
  match k.journey with
  | none => s
  | some j =>
    match rescueTrigger s0 s x j with
    | some t => t
    | none =>
      match k.stopReq with
      | some (c, n) => if n < s.time.cycle then stopCar s0 s x c else s
      | none =>
        match separationTrigger s0 s x j with
        | some t => t
        | none =>
          let s := s.onCar x.c.car fun k => { k with sepLim := false }
          match forceTrigger s0 s x j with
          | some t => t
          | none =>
            let before := j.prof
            let s := coverTest s0 s x
            match (s.car x.c.car).journey with
            | some j' => if j'.prof ≠ before then s else targetTrigger s x j'
            | none => s

/-! ### Starts (06 R180 to R183, 07 R218, R222, R223) -/

/-- Whether the car door is proven closed and every landing door in the window of a claim proven locked (08 R251). -/
def startProof (s : State) (x : CarCtx) (c : Int × Int) : Bool :=
  let im := s.safety.image
  im.cd.getLsbD x.c.car &&
  (landings x.cfg).all fun l =>
    let p := landPos x.cfg l
    !(decide (c.1 - x.cfg.geo.gapMin < p) && decide (p < c.2 + x.cfg.geo.gapMin)) || bitAt (tabGet im.ld 0 x.h) l

/-- Whether both channels permit motion of a shaft: no trip, no safe stop 1 (07 R218, 10 R285). -/
def safetyPermits (s : State) (h : Nat) : Bool := !s.safety.image.trip.getLsbD h && !s.safety.image.ss1.getLsbD h

/-- A car begins PREPARING (07 R218): its segment axes are to be enabled, its reference is its position. -/
def beginStart (s : State) (x : CarCtx) (kind : JourneyKind) (l : Nat) : State :=
  let n := x.c.car
  let s := s.onCar n fun k => { k with
    state := .preparing, back := if k.state = .inspection then k.back else k.state, prepCycle := s.time.cycle, starting := some (kind, l)
    refP := k.p, refV := 0, refA := 0, i := 0, journey := none, ramp := none, holding := false, braking := false, wSum := 0, wCount := 0 }
  let under := underTrack x (s.car n).p
  s.each under fun s j =>
    let a := segAxis x j
    let y := s.axis a
    if isRemote a || y.state == .enabled || y.state == .holding || (y.staged.any fun w => w.what == .enable) then s
    else stage s a { what := .enable }

/-- The brake is applied again and the car returns to IDLE after its feedback (07 R218, R223); from an inspection move to what it
was before (DEDUCED, log 80). A car.inspect.move whose start sequence fails is answered (07 R228). -/
def abandonStart (s : State) (x : CarCtx) : State :=
  (failInspect s x.c.car).onCar x.c.car fun k => { k with
    brakeReq := false, braking := true, starting := none, insp := none
    back := match k.starting with | some (.inspection, _) => k.back | _ => .idle }

/-- Limits of a start: those of the shaft, VRES for a return and in rescue, VINSP for an inspection move (06 R173, 07 R222). -/
def startLimits (s : State) (x : CarCtx) (kind : JourneyKind) : Limits :=
  let m := (limitsNext s x.h).getD {}
  match kind with
  | .back => { m with v := m.vRes }
  | .inspection => { m with v := m.vInsp }
  | _ => m

/-- The target of a start: the landing's position, or the farthest position an inspection move may take (07 R226). -/
def startTarget (s0 : State) (x : CarCtx) (k : CarSt) (kind : JourneyKind) (l : Nat) : Int :=
  match kind, k.insp with
  | .inspection, some m =>
    let (b, a) := carsBeside x
    let top := match a with | some c => (s0.car c.car).lo - x.cfg.geo.gapMin | none => x.cfg.geo.zMax
    let bot := match b with | some c => (s0.car c.car).hi + x.cfg.geo.gapMin | none => x.cfg.geo.zMin
    if m.down then min k.refP (max (m.from_ - m.dist) (max bot x.cfg.geo.zMin))
    else max k.refP (min (m.from_ + m.dist) (min top x.cfg.geo.zMax - x.c.height))
  | _, _ => landPos x.cfg l

/-- The result of the checks at the end of weighing (06 R180, R181, 07 R223). -/
inductive StartCheck where
  | go (j : Journey)
  | energy (short : Int)
  | separation (head : Int)
  | arrived
  deriving DecidableEq, Repr

/-- The checks of a start against the committed state (06 R180, R181, R187, 07 R223): separation, then the energy of the journey
at full and at capped velocity. Its predicted energy is formed for every store (06 R178, R179). -/
def checkStart (s : State) (x : CarCtx) (k : CarSt) (kind : JourneyKind) (l : Nat) : StartCheck :=
  let t := startTarget s x k kind l
  let lim := startLimits s x kind
  let cl := claimTo x k t
  let en := (s.shaft x.h).energy
  let plan := fun (v : Int) => planRest lim.blend (s.time.cycle + 1) k.refP t v lim.a lim.j
  let price := fun (v : Int) => match en with | some c => predMj c k.mass (plan v) | none => 0
  let mk := fun (kind : JourneyKind) (v : Int) (reduced : Bool) => StartCheck.go
    { kind, prof := plan v, landing := l, lim := { lim with v }, ePred := price v, drawn0 := (s.shaft x.h).en.drawn
      first := s.time.cycle + 1, reduced }
  if iabs (t - k.refP) < 1 then .arrived
  else if !claimOk s x cl then .separation (headroomOf s x cl.1 cl.2)
  else if kind = .inspection then mk kind lim.v false
  else match limitsNext s x.h, en with
    | none, _ => .energy 0
    | some m, some c =>
      let margin := marginMj s s x.h x.c.car
      let pass := fun (v : Int) =>
        (!shaftLow s x.h && decide (price v ≤ margin)) || (decide (price v < 0) && decide (0 < eAvail s x.h))
      let short := StartCheck.energy ((margin - price lim.v) / 1000)
      if (s.shaft x.h).en.rescue then short
      else if c.kind = 2 then mk kind lim.v false
      else if storeBad s x.h then short
      else if pass lim.v then mk kind lim.v false
      else match ((List.range 12).map fun (i : Nat) => min lim.v (m.v * (15 - (i : Int)) / 16)).find? pass with
        | some v => mk (if kind = .normal then .reduced else kind) v true
        | none => short
    | some _, none => if (s.shaft x.h).en.rescue then .energy 0 else mk kind lim.v false

/-- A journey starts in the next window (06 R168, R174, R179, R181, 07 R218). An inspection move whose HOLDMS has run out already
stays at rest (07 R226). -/
def startJourney (s : State) (x : CarCtx) (j : Journey) : State :=
  let n := x.c.car
  let insp := j.kind == .inspection
  let spent := match (s.car n).insp with | some m => m.ending | none => false
  let j := { j with
    seen := headLanding s n
    prof := if insp && spent then planStop j.lim.blend j.first (refKin (s.car n)) j.lim.a j.lim.j else j.prof
    ePred := if insp && spent then 0 else j.ePred }
  let s := s.onCar n fun k => { k with
    state := if insp then .inspection else .moving, journey := some j, starting := none, lastRefused := false, wCount := 0
    ledger := max 0 j.ePred }
  let s := if insp then s else bump s (cShaft x.h 0)
  let s := if j.reduced then
      crestEvent (bump (s.onShaft x.h fun t => { t with en := { t.en with reduced := satAdd max32 t.en.reduced 1 } }) (cShaft x.h 2)) n x.h 2 j.lim.v
    else s
  let s := match (s.car n).insp with
    | some m => match m.req with
      | some r =>
        ok (s.onCar n fun k => { k with insp := some { m with req := none } }) r
          [(18, 2, (m.holdMs : Int)), (20, 4, m.dist)] (j.first % 4294967296)
      | none => s
    | none => s
  if insp ∨ j.kind = .back then s else report s (.departed n)

/-- A start is refused for energy (06 R182, R193). -/
def refuseEnergy (s : State) (x : CarCtx) (short : Int) : State :=
  let n := x.c.car
  let s := (abandonStart s x).onCar n fun k => { k with retryWait := true, lastRefused := true }
  let s := bump (s.onShaft x.h fun t => { t with en := { t.en with refused := satAdd max32 t.en.refused 1 } }) (cShaft x.h 1)
  report (crestEvent s n x.h 1 short) (.returned n 1)

/-- The mass that weighing gives (06 R177): the mean force over gravity, at least the empty mass. -/
def weighedMass (s : State) (x : CarCtx) (k : CarSt) : Int :=
  max (roundDiv (k.wSum * 10000) (64 * (max 1 (gravOf s x.h)).toNat)) x.c.mass0

/-- Whether another car of the shaft has started in this cycle, or a lower-numbered one whose checks pass waits (06 R183). -/
def startTaken (s : State) (x : CarCtx) : Bool :=
  (shaftCars s x.h).any fun y =>
    let k := s.car y.c.car
    y.c.car != x.c.car &&
    ((match k.journey with | some j => j.first == s.time.cycle + 1 && j.kind != .inspection | none => false) ||
     (decide (y.c.car < x.c.car) && k.state == .weighing && decide (64 ≤ k.wCount) && !k.braking && !k.retryWait &&
      match k.starting with
      | some (.inspection, _) => false
      | some (kind, l) => (match checkStart s y { k with mass := weighedMass s y k } kind l with | .go _ => true | _ => false)
      | none => false))

/-- The end of weighing (06 R177, R180 to R183, 07 R223, R226): the journey starts, waits for another of its shaft or for the
retry second, or is refused; in inspection operation none starts. -/
def endWeighing (s : State) (x : CarCtx) : State :=
  let n := x.c.car
  let s := s.onCar n fun k => { k with mass := weighedMass s x k }
  let k := s.car n
  match k.starting with
  | none => abandonStart s x
  | some (kind, l) =>
    if kind ≠ .inspection && s.safety.image.insp.getLsbD x.h then abandonStart s x
    else if kind ≠ .inspection && (startTaken s x || k.retryWait) then s
    else match checkStart s x k kind l with
      | .go j => startJourney s x j
      | .arrived => abandonStart s x
      | .energy e => refuseEnergy s x e
      | .separation h =>
        let s := (abandonStart s x).onCar n fun k => { k with back := .idle }
        report (carEvent s n x.h 0x0C h) (.returned n 3)

/-- Whether a door is that of a car at a position, or of the landing in whose door zone the car stands (08 R236, R251). -/
def isCarsDoor (x : CarCtx) (p : Int) (c : DoorDef) : Bool :=
  (c.kind == 1 && c.car == x.c.car) || (c.kind == 2 && c.shaft == x.h && landingAt x.cfg p == some c.landing)

/-- Whether a door of the car, or of its landing, is opening: the opening takes precedence over a start (08 R251). -/
def doorsOpening (s : State) (x : CarCtx) (k : CarSt) : Bool :=
  s.doors.any fun d => match d.2.def_ with
    | some c => isCarsDoor x k.p c && (d.2.state == .opening || d.2.state == .reopening)
    | none => false

/-- Whether a car may leave IDLE for a stop (07 R202, R218, 06 R182, R186, 08 R251, 09 R270). -/
def mayStart (s : State) (x : CarCtx) (k : CarSt) : Bool :=
  k.placed && !k.railHold && safetyPermits s x.h && !k.braking && !doorsOpening s x k

/-- Crest requests the start of an IDLE car that has a stop to serve, when proofs and permissions allow; a stop at the car's
own position is an arrival (06 R168, 07 R218, 08 R251). -/
def tryStart (s : State) (x : CarCtx) : State :=
  let n := x.c.car
  let k := s.car n
  if k.state ≠ .idle then s
  else
      if s.safety.image.insp.getLsbD x.h || (s.shaft x.h).en.rescue || k.retryWait then s
      else
        let l := tabGet s.disp.lists [] n
        if k.serving && (match l.head? with | some t => !t.picks.isEmpty || !t.drops.isEmpty | none => false) then s
        else match headOf s n with
          | none => s
          | some t =>
            let p := landPos x.cfg t.landing
            if iabs (p - k.p) < 1 then
              if k.serving || s.disp.updates.contains (.arrived n t.landing) then s
              else report (s.onCar n fun k => { k with serving := !t.park }) (.arrived n t.landing)
            else if mayStart s x k && startProof s x (claimTo x { k with refP := k.p, refV := 0, refA := 0 } p) then
              beginStart s x .normal t.landing
            else s

end Sys2Proof.Machine
end

