-- ==== Sys2Proof/Machine/CarProgram.lean ====
section
/-! DEFINITION. The car-level program of one window (04 R115, R143, 07): fusion and its supervision, the reference, the car
law, the allocation, commutation and the share records, the claim and the snapshots. -/
namespace Sys2Proof.Machine

/-- m × g in 0.01 N (07 R218). -/
def weight (s : State) (x : CarCtx) (k : CarSt) : Int := k.mass * gravOf s x.h / 10000

/-! ### Position sources (07 R202) -/

/-- The reactions of 07 R202 to the state of the position sources, after fusion. -/
def superviseSources (s0 s : State) (x : CarCtx) : State :=
  let n := x.c.car
  let k := s.car n
  let s := if k.railBad = x.cfg.geo.railMiss then
      carEvent (s.onCar n fun k => { k with railHold := true }) n x.h 8 k.railBad
    else if k.railHold ∧ 64 ≤ k.railGood then
      carEvent (s.onCar n fun k => { k with railHold := false }) n x.h 9 0
    else s
  if k.state = .outOfService ∨ !k.known then s
  else
    let s := if k.plaus = 16 then carEvent (bump s (cShaft x.h 9)) n x.h 7 k.dev else s
    if 3 ≤ k.noneRun then tripCar s x 4
    else if k.plaus = 16 ∨ (16 ≤ k.plaus ∧ k.state ≠ .stopping) then stopCar s0 s x 3
    else if k.railRun = 32 ∨ (32 ≤ k.railRun ∧ k.state ≠ .stopping) then stopCar s0 s x 4
    else s

/-! ### Commutation check (07 R205) -/

/-- The commutation check of one segment node whose Hall block fusion used with the car as `k0` (07 R205). -/
def checkAngle (s : State) (x : CarCtx) (k0 : CarSt) (healed : Bool) (nd : Nat × Nat × Option Nat × BitVec 64 × Bool) : State :=
  let k := s.car x.c.car
  match hallReading s x k0 (fusePred s x k0) healed nd with
  | none => s
  | some _ =>
    let (j, _, ring, b, _) := nd
    let g : SegSt := tabGet (s.shaft x.h).segs {} j
    let at_ := k.p - drift s k.v (hallAge s healed ring)
    let d := ((bitsOf b.toNat 48 16 * 65536 : Nat) : Int) - (segAngle x at_ j : Int)
    let d := d % 4294967296
    let d := min d (4294967296 - d)
    let bad := if 134217728 < d then g.angBad + 1 else 0
    let good := if d < 67108864 then g.angGood + 1 else 0
    let g' := { g with angBad := bad, angGood := good, angLim := (g.angLim || decide (16 ≤ bad)) && decide (good < 1024) }
    let s := s.onShaft x.h fun t => { t with segs := tabSet t.segs j g' }
    if bad = 16 ∧ !g.angLim then carEvent s x.c.car x.h 6 j else s

/-- The commutation check of every node that fusion used with the car as `k0` (07 R205). -/
def checkAngles (s : State) (x : CarCtx) (k0 : CarSt) : State :=
  let segs := nearSegs x (fusePred s x k0)
  let healed := carHealed s x segs
  if (s.car x.c.car).src = 1 then s.each (hallNodes s x segs) fun s nd => checkAngle s x k0 healed nd else s

/-! ### Reference and force (06 R168, 07 R206, R218 to R221) -/

/-- A force that falls linearly to 0 over 20 ms (07 R218, R220). -/
def rampForce (s : State) (k : CarSt) : Int × Option (Nat × Int) :=
  match k.ramp with
  | none => (0, none)
  | some (c0, f0) =>
    let t := (s.time.cycle - c0) * cycleNs s.sys.rate
    if 20000000 ≤ t then (0, none) else (f0 * (20000000 - (t : Int)) / 20000000, k.ramp)

/-- The car law with the bank in use, limited to the present caps (07 R206, R207). -/
def lawForce (s : State) (x : CarCtx) (k : CarSt) (healed : Bool) : CarSt :=
  let (f, i) := carLaw (if healed then x.c.bankH else x.c.bankN) (gravOf s x.h) k
  { k with i, f := max (min f k.fNow) (-k.fNow) }

/-- The reference of a profile in this window, and whether it has ended (06 R168). -/
def follow (s : State) (k : CarSt) (q : Profile) : CarSt × Bool :=
  let t := profTime s q
  let (p, v, a) := refAt q t
  ({ k with refP := p, refV := v, refA := a }, decide (q.total ≤ t))

/-- The arrival of a journey at its end (06 R168, 07 R222, 09 R269): the brake is requested, the landing is reported. -/
def arrive (s : State) (x : CarCtx) (j : Journey) : State :=
  let n := x.c.car
  let head := headOf s n
  let s := s.onCar n fun k => { k with journey := none, brakeReq := false, braking := true }
  match j.kind with
  | .inspection => s
  | .back => carEvent s n x.h 0x0E j.landing
  | _ => report (s.onCar n fun k => { k with serving := match head with | some t => t.landing == j.landing && !t.park | none => false })
      (.arrived n j.landing)

/-- Reference and force of a window by the car's state (06 R168, 07 R206, R218 to R221, R226). -/
def driveCar (s : State) (x : CarCtx) (healed : Bool) : State :=
  let n := x.c.car
  let k := s.car n
  let put := fun (k : CarSt) => s.onCar n fun _ => k
  match k.state with
  | .outOfService | .idle | .stopped =>
    let (f, ramp) := rampForce s k
    put { k with f, ramp, i := 0, refP := k.p, refV := 0, refA := 0 }
  | .preparing =>
    let t : Int := ((s.time.cycle - k.prepCycle) * cycleNs s.sys.rate : Nat)
    let f := weight s x k * min t 20000000 / 20000000
    put { k with f := max (min f k.fNow) (-k.fNow) }
  | .weighing =>
    let k := lawForce s x k healed
    put (if k.wCount < 64 ∧ !k.braking then { k with wSum := k.wSum + k.f, wCount := k.wCount + 1 } else k)
  | .moving | .inspection =>
    match k.journey with
    | none => put (lawForce s x k healed)
    | some j =>
      let (k, above) := follow s k j.prof
      let s := put (lawForce s x k healed)
      if !above then s
      else if j.kind = .inspection then s.onCar n fun k => { k with holding := true }
      else arrive s x j
  | .stopping =>
    match k.stopProf with
    | none => put (lawForce s x k healed)
    | some q =>
      let (k, above) := follow s k q
      put { lawForce s x k healed with holding := k.holding || above }
  | .tripped =>
    if !k.braking then put { k with f := 0, i := 0, ramp := none }
    else if k.src = 0 then put { k with f := max (min (weight s x k) k.fNow) (-k.fNow) }
    else put (lawForce s x k healed)

/-! ### Allocation and shares (07 R208 to R215) -/

/-- The share records of a window (07 R211): a record for each segment under the track, one with force 0 for each that has
left it. -/
def writeShares (s : State) (x : CarCtx) (healed : Bool) (segs : List (Nat × Nat × Int × Int × Int)) : State :=
  let n := x.c.car
  let k := s.car n
  let ext := extrapolate s k healed
  let put := fun (s : State) (j : Nat) (g : SegSt) =>
    let a := segAxis x j
    let s := s.onShaft x.h fun t => { t with segs := tabSet t.segs j g }
    if isRemote a then s
    else s.onAxis a fun y => { y with shareNext := { force := g.share, angle := g.angle, pos := g.pos, vel := g.vel } }
  let s := s.each (k.under.filter fun j => !segs.any fun e => e.1 == j) fun s j =>
    let g : SegSt := tabGet (s.shaft x.h).segs {} j
    put s j { g with role := 0, car := 0xFF, weight := 0, cap := 0, share := 0 }
  let s := s.each segs fun s e =>
    let (j, role, w, c, share) := e
    let g : SegSt := tabGet (s.shaft x.h).segs {} j
    let s := if g.car = n ∧ g.role ≠ 0 ∧ g.role ≠ 4 ∧ role = 4 then carEvent (bump s (cShaft x.h 7)) n x.h 4 j
      else if g.car = n ∧ g.role = 4 ∧ role ≠ 4 then carEvent s n x.h 5 j else s
    put s j { g with role, car := n, weight := w, cap := c, share, angle := segAngle x ext j,
                     pos := ext + x.c.toff - segOrigin x.cfg.geo j, vel := k.v }
  s.onCar n fun k => { k with under := segs.map (·.1) }

/-- The division of the car's force among the segments under its track (07 R209 to R211), and the available force (R214). -/
def allocCar (s : State) (x : CarCtx) (healed : Bool) : State :=
  let n := x.c.car
  let k := s.car n
  let segs := (underTrack x k.p).map fun j => (j, weightCap s x (overlap x k.p j) j)
  let held := (segs.filter fun e => e.2.1 == 3).map fun e =>
    let g : SegSt := tabGet (s.shaft x.h).segs {} e.1
    (e.1, if g.car = n then g.share else 0)
  let rest := held.foldl (fun r e => r - e.2) k.f
  let (sh, short) := allocate rest ((segs.filter fun e => e.2.1 == 1 || e.2.1 == 2).map fun e => (e.1, e.2.2.1, e.2.2.2))
  let all := held ++ sh
  let share := fun (j : Nat) => match all.find? fun e => e.1 == j with | some e => e.2 | none => 0
  let s := writeShares s x healed (segs.map fun e => (e.1, e.2.1, e.2.2.1, e.2.2.2, share e.1))
  let s := if short = 0 then s
    else if k.short = 0 then carEvent (bump s (cShaft x.h 8)) n x.h 0x0D (iabs short) else bump s (cShaft x.h 8)
  s.onCar n fun k => { k with short, fAvail := availForce s x k }

/-! ### Snapshots (06 R191, R192, 07 car.status) -/

/-- Code of a car state (07 table "Car states"). -/
def carStateCode (k : CarState) : Nat :=
  match k with
  | .outOfService => 0 | .idle => 1 | .preparing => 2 | .weighing => 3 | .moving => 4 | .stopping => 5 | .stopped => 6
  | .tripped => 7 | .inspection => 8

/-- The snapshot of car.status (07). -/
def carSnap (s : State) (x : CarCtx) : List (Nat × Nat × Int) :=
  let n := x.c.car
  let k := s.car n
  let healed := carHealed s x (nearSegs x k.p)
  let land := landingAt x.cfg k.p
  let flags := ofBits [land.isSome, healed, k.missed, s.safety.image.eng.getLsbD n, decide (0 < k.plaus), decide (0 < k.railBad),
    k.sepLim, decide (k.short ≠ 0)]
  [(16, 1, (n : Int)), (17, 1, (x.h : Int)), (18, 1, (carStateCode k.state : Int)), (19, 1, (flags : Int)), (20, 4, k.p), (24, 4, k.v),
   (28, 4, k.f), (32, 4, k.fAvail), (36, 4, k.rail), (40, 4, k.dev), (44, 1, (k.src : Int)), (45, 1, ((underTrack x k.p).length : Int)),
   (46, 1, ((land.getD 0xFF : Nat) : Int)), (47, 1, (k.cause : Int)), (48, 4, ((s.time.cycle % 4294967296 : Nat) : Int)),
   (52, 4, k.headroom), (56, 4, k.mass)]

/-- STATE of profile.status (06 R192). -/
def profState (k : CarSt) : Nat :=
  match k.state, k.journey with
  | .stopping, _ => 6
  | .weighing, _ => 1
  | .moving, some j => match j.kind with | .minEnergy => 4 | .rescue => 5 | _ => if j.reduced then 3 else 2
  | .inspection, some _ => 2
  | _, _ => 0

/-- What profile.status carries of a car (06 R192); KPM to the nearest thousandth (DEDUCED, log 80). -/
def profFields (s : State) (x : CarCtx) : List (Nat × Nat × Int) :=
  let n := x.c.car
  let k := s.car n
  let healed := carHealed s x (nearSegs x k.p)
  let j := k.journey.getD {}
  let running := k.journey.isSome
  let q := match k.stopProf with | some q => q | none => j.prof
  let trem := if running ∨ k.stopProf.isSome then ceilDiv (q.total - profTime s q) 1000000 else 0
  let flags := ofBits [k.missed, k.lastRefused, healed, running && j.replanned]
  [(16, 1, (n : Int)), (17, 1, (profState k : Int)), (18, 1, (flags : Int)),
   (19, 1, ((if running then j.lim.blend else (limitsOf s x.h).blend : Nat) : Int)),
   (20, 4, if running ∨ k.stopProf.isSome then q.target else k.refP), (24, 4, k.refP), (28, 4, k.refV), (32, 4, k.refA),
   (36, 4, (trem : Int)), (40, 4, j.ePred / 1000), (44, 4, if running then measMj s x.h j / 1000 else 0),
   (48, 2, roundDiv (j.kNum * 1000) j.kDen.toNat),
   (50, 1, ((if running then j.landing else (landingAt x.cfg k.refP).getD 0 : Nat) : Int)), (52, 4, k.mass),
   (56, 4, ((j.first % 4294967296 : Nat) : Int))]

/-! ### The program -/

/-- A controlled stop asked for while the car is at rest (07 R219, R229): a start under way is abandoned, and with nothing to
stop the stop mode of 04 R144 ends (DESIGN CHOICE, log 77). -/
def stopStart (s : State) (x : CarCtx) : State :=
  let n := x.c.car
  let k := s.car n
  match k.stopReq with
  | none => s
  | some _ =>
    let s := s.onCar n fun k => { k with stopReq := none, stopMode := false }
    match k.state with
    | .preparing | .weighing => report (abandonStart s x) (.returned n 6)
    | _ => s

/-- The decisions of a window by state: projection factor and triggers of a running journey, the watch over a controlled stop, a
start of an idle car. -/
def decideCar (s0 s : State) (x : CarCtx) : State :=
  let k := s.car x.c.car
  match k.state with
  | .moving | .inspection => if k.braking || k.holding then s else triggers s0 (formFactor s x) x
  | .stopping => match k.stopReq with
    | some (c, _) => watchStop s0 (stopCar s0 (s.onCar x.c.car fun k => { k with stopReq := none }) x c) x
    | none => watchStop s0 s x
  | .idle => tryStart (stopStart s x) x
  | _ => stopStart s x

/-- The car trips when no profile can hold it: F_avail below 1.05 m g with the brake released (07 R214). -/
def holdTest (s : State) (x : CarCtx) : State :=
  let k := s.car x.c.car
  if carBusy k ∧ k.brakeReq ∧ k.fAvail * 1000000 < 105 * k.mass * gravOf s x.h then tripCar s x 5 else s

/-- The claim of a window (07 R223). -/
def claimCar (s0 s : State) (x : CarCtx) : State :=
  s.onCar x.c.car fun k =>
    let (lo, hi) := claimOf x k
    { k with lo, hi, headroom := headroomOf s0 x lo hi }

/-- A restored car's first good rail reading ends its wait (15 R431): IDLE within DZONE of a landing, else STOPPED, CAUSE 0. -/
def placeRestored (x : CarCtx) (k : CarSt) : CarSt :=
  if k.restored ∧ k.placed then
    { k with restored := false, cause := 0
             state := if k.state = .stopped ∧ (landingAt x.cfg k.rail).isSome then .idle else k.state }
  else k

/-- The car-level program of a window, committed: `s0` is the state as committed at the previous release phase (04 R143,
07 R194 to R226). -/
def carProgram (s0 s : State) (x : CarCtx) : State :=
  let n := x.c.car
  let k0 := s.car n
  let s := s.onCar n fun k => placeRestored x { fuse s x k with missed := false, missCnt := 0 }
  let s := superviseSources s0 (checkAngles s x k0) x
  let s := decideCar s0 s x
  let healed := carHealed s x (nearSegs x (s.car n).p)
  let s := s.onCar n fun k => { k with fNow := capSum s x k.p }
  let s := holdTest (allocCar (driveCar s x healed) x healed) x
  let s := claimCar s0 s x
  s.onCar n fun k => { k with ledger := ledgerMj s x.h k }

/-- Whether the weaver of a car's program runs (04 R142, 18 R487). -/
def carRuns (s : State) (x : CarCtx) : Bool :=
  loopReady s && !(s.weaver x.c.weaver).stopped && !s.dbg.whalt.getLsbD x.c.weaver

/-- The car-level programs of a window take effect at its release phase, but for those that were cut off (04 R143, R144). -/
def runCars (s0 : State) : State :=
  s0.each (allCars s0) fun s x =>
    if !carRuns s x then s
    else if (s.car x.c.car).cut then s.onCar x.c.car fun k => { k with cut := false }
    else carProgram s0 s x

end Sys2Proof.Machine
end

