-- ==== Sys2Proof/Machine/ShaftConfig.lean ====
section
/-! DEFINITION. shaft.config.load (07 R194 to R198, R227, 14 R414): the pending copy, the checks of a commit, its landing. -/
namespace Sys2Proof.Machine

/-! ### Sections 0 to 3 -/

/-- Clamped fields of section 0: offset, low, high, value, signed where the range is (07 section 0). -/
def geoFields (r : Request) : List (Nat × Nat × Nat × Nat) :=
  let seg := clampN 200000 4000000 (rq r 28 4)
  let hot := clampN 0 126 (rq r 88 1)
  [(28, 200000, 4000000, rq r 28 4), (32, 2, 512, rq r 32 2), (34, 2, 255, rq r 34 1), (35, 1, 8, rq r 35 1),
   (36, 10000, 1000000, rq r 36 4), (40, 1000, min 2000000 (seg / 2), rq r 40 4), (44, 800000, 200000000, rq r 44 4),
   (56, 10000, 300000, rq r 56 4), (60, 100000, 10000000, rq r 60 4), (64, 500000, 2500000, rq r 64 4),
   (68, 100, 20000, rq r 68 4), (72, 0, 2147483647, rq r 72 4), (76, 1000, 100000, rq r 76 4), (80, 1000, 200000, rq r 80 4),
   (84, 50, 500, rq r 84 2), (86, 0, 10, rq r 86 1), (88, 0, 126, rq r 88 1), (89, hot + 1, 127, rq r 89 1),
   (90, 16, 4096, rq r 90 2)]

/-- The effective value of a clamped field in a list of them. -/
def fieldEff (l : List (Nat × Nat × Nat × Nat)) (off : Nat) : Nat :=
  match l.find? fun e => e.1 == off with | some (_, lo, hi, v) => clampN lo hi v | none => 0
/-- The offsets clamped in a list of fields. -/
def fieldClamps (l : List (Nat × Nat × Nat × Nat)) : List Nat := l.flatMap fun (o, lo, hi, v) => clampedN o lo hi v

/-- The geometry that section 0 gives. -/
def geoOf (r : Request) : ShaftGeo :=
  let f := fieldEff (geoFields r)
  { z0 := rqI r 24, segLen := f 28, nSeg := f 32, nLand := f 34, nCar := f 35, pole := f 36, ramp := f 40, gapMin := f 44
    zMin := rqI r 48, zMax := rqI r 52, dZone := f 56, fSeg := f 60, aStop := f 64, jStop := f 68, resMin := f 72, pTol := f 76
    hWin := f 80, brkt := f 84, vsh := f 86, tHot := f 88, tMax := f 89, railMiss := f 90 }

/-- Bytes of fields whose widths follow their ranges, as a completion returns them (07 R227). -/
def geoEff (r : Request) : List (Nat × Nat × Int) :=
  let w := fun (o : Nat) => if o = 32 ∨ o = 84 ∨ o = 90 then 2 else if o = 34 ∨ o = 35 ∨ o = 86 ∨ o = 88 ∨ o = 89 then 1 else 4
  [(24, 4, rqI r 24), (48, 4, rqI r 48), (52, 4, rqI r 52)] ++
  (geoFields r).map fun (o, lo, hi, v) => (o, w o, (clampN lo hi v : Int))

/-- A bank of section 3 from byte `o` (07 R207); IMAX clamped. -/
def bankAt (r : Request) (o : Nat) : CarBank :=
  { kp := rqI r o, kv := rqI r (o + 4), ki := rqI r (o + 8), imax := min (rq r (o + 12) 4) 2147483647, ffk := rqI r (o + 16)
    shifts := rq r (o + 20) 4 % 1048576 }
/-- What a completion returns of a bank. -/
def bankEff (b : CarBank) (o : Nat) : List (Nat × Nat × Int) :=
  [(o, 4, b.kp), (o + 4, 4, b.kv), (o + 8, 4, b.ki), (o + 12, 4, b.imax), (o + 16, 4, b.ffk), (o + 20, 4, b.shifts)]

/-- Clamped fields of section 3 (07). -/
def carFields (r : Request) : List (Nat × Nat × Nat × Nat) :=
  [(36, 100, 100000, rq r 36 4), (40, 0, 100000, rq r 40 4), (44, 100000, 20000000, rq r 44 4),
   (48, 1000000, 20000000, rq r 48 4), (52, 400000, 20000000, rq r 52 4)]
/-- Clamped fields of the banks. -/
def imaxFields (r : Request) : List (Nat × Nat × Nat × Nat) := [(72, 0, 2147483647, rq r 72 4), (96, 0, 2147483647, rq r 96 4)]

/-- The car that section 3 gives. -/
def carOf (r : Request) : CarCfg :=
  let f := fieldEff (carFields r)
  { car := rq r 24 1, order := rq r 25 1, weaver := rq r 27 1, wpos := rq r 28 1, cnRing := rq r 29 1, cnAddr := rq r 30 1
    doorAxis := rq r 32 2, mass0 := f 36, payload := f 40, vcar := f 44, height := f 48, track := f 52, toff := rqI r 56
    bankN := bankAt r 60, bankH := bankAt r 84 }

/-- What section 3 returns. -/
def carEff (r : Request) : List (Nat × Nat × Int) :=
  let c := carOf r
  let gains := bitAt (rq r 26 1) 0
  [(24, 1, (c.car : Int)), (26, 1, (b2n gains : Int))] ++
  (if gains then [] else
    [(25, 1, (c.order : Int)), (27, 1, (c.weaver : Int)), (28, 1, (c.wpos : Int)), (29, 1, (c.cnRing : Int)), (30, 1, (c.cnAddr : Int)),
     (32, 2, (c.doorAxis : Int)), (36, 4, (c.mass0 : Int)), (40, 4, (c.payload : Int)), (44, 4, c.vcar), (48, 4, c.height),
     (52, 4, c.track), (56, 4, c.toff)]) ++ bankEff c.bankN 60 ++ bankEff c.bankH 84

/-- Whether an AXIS value of section 2 names an axis below the module limit, or a remote segment of a declared partner
(07 section 2, 14 R412). -/
def okSegAxis (s : State) (h a : Nat) : Bool :=
  decide (a < axisLimit s.sys.rate) ||
  (isRemote a && bitsOf a 13 2 == 0 && tabHas s.sys.manifest.zonePartners (8 * h + (remoteOf a).1))

/-- Number of cars that ORDER may index: NCAR of the pending geometry, else of the one in force (07 section 3). -/
def orderLimit (s : State) (h : Nat) : Nat :=
  let t := s.shaft h
  if t.pend.geo then t.pend.cfg.geo.nCar else match t.cfg with | some c => c.geo.nCar | none => 8

/-- Effective COUNT of sections 1 and 2. -/
def loadCount (r : Request) : Nat :=
  if rq r 17 1 = 1 then clampN 1 (min 240 (255 - rq r 24 1)) (rq r 25 1) else clampN 1 (min 120 (512 - rq r 24 2)) (rq r 26 2)

/-- Enumerated fields of shaft.config.load (07). -/
def shaftLoadBad (s : State) (r : Request) : Option Nat :=
  let h := rq r 16 1
  let sec := rq r 17 1
  let base := [(16, declaredShaft s h), (17, decide (sec ≤ 5))]
  firstBad (base ++ match sec with
    | 1 => [(24, decide (rq r 24 1 ≤ 254))]
    | 2 => (24, decide (rq r 24 2 ≤ 511)) ::
        (if rq r 24 2 ≤ 511 then (List.range (loadCount r)).map fun i => (28 + 8 * i, okSegAxis s h (rq r (28 + 8 * i) 2)) else [])
    | 3 =>
      if bitAt (rq r 26 1) 0 then
        [(24, decide (rq r 24 1 ≤ 63) && (match carCtx s (rq r 24 1) with | some x => x.h == h | none => false))]
      else
        [(24, decide (rq r 24 1 ≤ 63)), (25, decide (rq r 25 1 < orderLimit s h)), (27, decide (rq r 27 1 ≤ 63)),
         (28, decide (rq r 28 1 ≤ 7)), (29, decide (rq r 29 1 ≤ 3)), (30, decide (1 ≤ rq r 30 1 ∧ rq r 30 1 ≤ 128)),
         (32, decide (rq r 32 2 < axisLimit s.sys.rate) || rq r 32 2 == 0xFFFF)]
    | _ => [])

/-- Clamped fields of shaft.config.load (07). -/
def shaftLoadClamps (r : Request) : List Nat :=
  match rq r 17 1 with
  | 0 => fieldClamps (geoFields r)
  | 1 => clampedN 25 1 (min 240 (255 - rq r 24 1)) (rq r 25 1)
  | 2 => clampedN 26 1 (min 120 (512 - rq r 24 2)) (rq r 26 2)
  | 3 => (if bitAt (rq r 26 1) 0 then [] else fieldClamps (carFields r)) ++ fieldClamps (imaxFields r)
  | _ => []

/-- The pending copy after a section 0 to 3 (07 R227). -/
def pendSection (p : ShaftPend) (r : Request) : ShaftPend :=
  let n := loadCount r
  match rq r 17 1 with
  | 0 => { p with geo := true, cfg := { p.cfg with geo := geoOf r } }
  | 1 => { p with cfg := { p.cfg with
      lands := (List.range n).foldl (fun t i => tabSet t (rq r 24 1 + i) (rqI r (28 + 4 * i))) p.cfg.lands } }
  | 2 => { p with cfg := { p.cfg with
      segs := (List.range n).foldl (fun t i => tabSet t (rq r 24 2 + i)
        { axis := rq r (28 + 8 * i) 2, ang := rq r (32 + 8 * i) 4 }) p.cfg.segs } }
  | _ =>
    let c := carOf r
    if bitAt (rq r 26 1) 0 then
      match p.cfg.cars.find? fun e => e.2.car == c.car with
      | some (o, d) => { p with cfg := { p.cfg with cars := tabSet p.cfg.cars o { d with bankN := c.bankN, bankH := c.bankH } } }
      | none => { p with gains := tabSet p.gains c.car (c.bankN, c.bankH) }
    else { p with gains := tabDel p.gains c.car, cfg := { p.cfg with cars := tabSet p.cfg.cars c.order c } }

/-- What a section 0 to 3 returns (07 R227). -/
def sectionEff (r : Request) : List (Nat × Nat × Int) :=
  let n := loadCount r
  match rq r 17 1 with
  | 0 => geoEff r
  | 1 => [(24, 1, (rq r 24 1 : Int)), (25, 1, (n : Int))] ++ (List.range n).map fun i => (28 + 4 * i, 4, rqI r (28 + 4 * i))
  | 2 => [(24, 2, (rq r 24 2 : Int)), (26, 2, (n : Int))] ++ (List.range n).flatMap fun i =>
      [(28 + 8 * i, 2, (rq r (28 + 8 * i) 2 : Int)), (32 + 8 * i, 4, (rq r (32 + 8 * i) 4 : Int))]
  | _ => carEff r

/-! ### Section 4 (07 R197, R198, R227, 04 R116, R145, 14 R412, R414) -/

/-- Bytes of the zone records between a shaft with `n` cars and a partner: down, and up, tested with 6 segments and 6 segment
nodes under every car (14 R413, R414). -/
def zoneBytes (n : Nat) : Nat × Nat :=
  (ceilDiv (6 * n) 12 * 8 + 20 * (6 * n), ceilDiv (12 * n) 20 * 8 + 12 * (12 * n))

/-- Whether the zone records between a shaft with `n` cars and one of its partners fit their path in every cycle (14 R414): a
trunk slot of the least TLEN of the ring, with a TIME and a HEARTBEAT record, or the record frame of the side link, with LINKTIME
besides. The path is the one on which the partner's latest ZONE-UP record came (DEDUCED, log 80). -/
def zonePathFits (s : State) (h n partner : Nat) : Bool :=
  let (d, u) := zoneBytes n
  let need := max d u
  match (zoneOfShaft s h partner).src with
  | .ring r =>
    let c := (s.ring r).cfg
    c.mode == 1 && decide (8 + 20 + 36 + need ≤ 8 * c.entries.foldl (fun m e => min m e.tlen) 32)
  | .side l => (s.link l).up && decide (16 + 4 + 20 + 36 + 8 + need ≤ 1024)
  | _ => false

/-- Whether a segment may take its axis (07 R197, R198, 14 R412): local, on a ring as a node of kind 1 whose axes are
consecutive segments; remote, reported by the partner. -/
def segOk (s : State) (h : Nat) (cfg : ShaftCfg) (j : Nat) : Bool :=
  let a := (tabGet cfg.segs {} j).axis
  let axisOf := fun (i : Nat) => (tabGet cfg.segs {} i).axis
  let once := ((List.range cfg.geo.nSeg).filter fun i => axisOf i == a).length == 1
  once && if isRemote a then
    (zoneOfShaft s h (remoteOf a).1).axes.any fun e => e.axis == (remoteOf a).2
  else match axisNode s a with
    | none => false
    | some (r, i, k) =>
      match (s.ring r).cfg.entries[i]? with
      | none => false
      | some e =>
        e.kind == 1 && decide (k ≤ j) && decide (j - k + e.axes ≤ cfg.geo.nSeg) &&
        (List.range e.axes).all (fun q => axisOf (j - k + q) == e.first + q) &&
        (let d := (s.axis a).desc
         (s.axis a).state == .unloaded || dRef d != 1 || (cfgCars cfg).any fun c => c.car == dChan d) &&
        !s.motion.shafts.any fun p => p.1 != h && match p.2.cfg with
          | some o => o.segs.any fun g => g.2.axis == a
          | none => false

/-- Whether a segment axis of a shaft is at rest for a commit (07 R227); a remote one by its role in ZONE-UP: active, degraded and
held axes are not (07 R210, 14 R413). -/
def segIdle (s : State) (h a : Nat) : Bool :=
  if isRemote a then
    match (zoneOfShaft s h (remoteOf a).1).axes.find? fun e => e.axis == (remoteOf a).2 with
    | some e => e.role != 1 && e.role != 2 && e.role != 3
    | none => true
  else [AxisState.disabled, .fault, .unloaded].contains (s.axis a).state

/-- The conditions of a commit: section, index, offset of the field, and whether it holds (07 R227). -/
def commitChecks (s : State) (h : Nat) (p : ShaftPend) : List (Nat × Nat × Nat × Bool) :=
  let cfg := p.cfg
  let g := cfg.geo
  let cars := cfgCars cfg
  let lands := List.range g.nLand
  let segs := List.range g.nSeg
  let old := match (s.shaft h).cfg with | some c => c.segs | none => []
  let others := (nextCars s).filter fun x => x.h != h
  let carsAt := fun (w : Nat) => (others.filter fun x => x.c.weaver == w).length + (cars.filter fun c => c.weaver == w).length
  let axisOf := fun (j : Nat) => (tabGet cfg.segs {} j).axis
  [(0, 0, 24, p.geo)] ++
  lands.map (fun l => (1, l, 28, tabHas cfg.lands l)) ++
  segs.map (fun j => (2, j, 28, tabHas cfg.segs j)) ++
  (List.range g.nCar).map (fun o => (3, o, 24, tabHas cfg.cars o)) ++
  [(0, 0, 44, decide (4 * g.segLen ≤ g.gapMin)), (0, 0, 52, decide (g.zMin < g.zMax))] ++
  lands.map (fun l => (1, l, 28, decide (g.zMin ≤ tabGet cfg.lands 0 l) &&
    (l == 0 || decide (tabGet cfg.lands 0 (l - 1) < tabGet cfg.lands 0 l)) &&
    cars.all fun c => decide (tabGet cfg.lands 0 l + c.height ≤ g.zMax))) ++
  segs.map (fun j => (2, j, 28, segOk s h cfg j)) ++
  segs.map (fun j => (2, j, 28, segIdle s h (axisOf j))) ++
  old.map (fun e => (2, e.1, 28, segIdle s h e.2.axis)) ++
  segs.map (fun j => (2, j, 28, !isRemote (axisOf j) || zonePathFits s h cars.length (remoteOf (axisOf j)).1)) ++
  cars.flatMap (fun c =>
    [(3, c.order, 24, ((cars.filter fun d => d.car == c.car).length == 1) && !others.any fun x => x.c.car == c.car),
     (3, c.order, 27, basketFits (nextRate s) (planLevel s (c.weaver / 8)) (c.weaver / 8) (nextOccupied s) carsAt),
     (3, c.order, 30, match (s.ring c.cnRing).cfg.entries[c.cnAddr - 1]? with
       | some e => (s.ring c.cnRing).cfg.mode == 0 && e.kind == 2
       | none => false),
     (3, c.order, 52, decide (2 * g.segLen ≤ c.track ∧ c.track ≤ 5 * g.segLen)),
     (3, c.order, 56, decide (g.z0 ≤ g.zMin + c.toff) && decide (g.zMax + c.toff + c.track ≤ g.z0 + g.nSeg * g.segLen))])

/-- A pending copy that holds only gains-only car sections (07 R227). -/
def gainsOnly (p : ShaftPend) : Bool :=
  !p.geo && p.cfg.lands.isEmpty && p.cfg.segs.isEmpty && p.cfg.cars.isEmpty && !p.gains.isEmpty

/-- A configuration with the banks of gains-only sections (07 R227). -/
def withGains (cfg : ShaftCfg) (gains : Tab (CarBank × CarBank)) : ShaftCfg :=
  { cfg with cars := cfg.cars.map fun e =>
    if tabHas gains e.2.car then
      let b := tabGet gains ({}, {}) e.2.car
      (e.1, { e.2 with bankN := b.1, bankH := b.2 })
    else e }

/-- A configuration without what lies beyond its NLAND, NSEG and NCAR. -/
def trimCfg (c : ShaftCfg) : ShaftCfg :=
  { c with lands := c.lands.filter fun e => decide (e.1 < c.geo.nLand), segs := c.segs.filter fun e => decide (e.1 < c.geo.nSeg)
           cars := c.cars.filter fun e => decide (e.1 < c.geo.nCar) }

/-- Section 4 (07 R227): checked, then one staged write of the whole configuration. -/
def runCommit (s : State) (r : Request) (h : Nat) : State :=
  let t := s.shaft h
  let p := { t.pend with cfg := trimCfg t.pend.cfg }
  let accept := fun (cfg : ShaftCfg) (only : Bool) =>
    s.onShaft h fun t => { t with pend := {}, commits := t.commits ++ [(r, cfg, only)] }
  match gainsOnly t.pend, t.cfg with
  | true, some c => accept (withGains c t.pend.gains) true
  | _, _ =>
    match (commitChecks s h p).find? fun c => !c.2.2.2 with
    | some (sec, i, off, _) => refused s r 0 [(16, 1, (sec : Int)), (18, 2, (i : Int)), (20, 2, (off : Int))]
    | none => accept (withGains p.cfg p.gains) false

/-- SHAFT_CONFIG_LOAD (07 R227). -/
def execShaftConfigLoad (r : Request) (s : State) : Host.Outcome State Fault Refusal :=
  let h := rq r 16 1
  .next (serve s r 0x1310 (shaftConfigured s && loopReady s && actReady s) (shaftLoadBad s r) (shaftLoadClamps r) fun r s =>
    match rq r 17 1 with
    | 4 => runCommit s r h
    | 5 => ok (s.onShaft h fun t => { t with pend := {} }) r
    | _ => ok (s.onShaft h fun t => { t with pend := pendSection t.pend r }) r
        ([(16, 1, (h : Int)), (17, 1, (rq r 17 1 : Int))] ++ sectionEff r))

/-- A commit lands (07 R227): every car in IDLE with its mass reset, Traverse told; gains alone change only the banks. -/
def landCommit (s : State) (h : Nat) (r : Request) (cfg : ShaftCfg) (only : Bool) : State :=
  let s' := s.onShaft h fun t => { t with cfg := some cfg, segs := if only then t.segs else [] }
  let s' := if only then s'
    else
      let old := match (s.shaft h).cfg with | some c => (cfgCars c).map CarCfg.car | none => []
      let s' := s'.onMotion fun m => { m with cars := old.foldl tabDel m.cars }
      report (s'.each (cfgCars cfg) fun s (c : CarCfg) => s.onCar c.car fun _ => { state := .idle, mass := c.mass0 + c.payload / 2 })
        (.committed h)
  ok (store s' (.shaft h cfg)) r [] (cycleDetail s')

end Sys2Proof.Machine
end

