-- ==== Sys2Proof/Machine/Motion.lean ====
section
/-! DEFINITION. Meanings of the profile, shaft and car classes 12h and 13h and of the moments of a car (06, 07). -/
namespace Sys2Proof.Machine

/-- Whether the motion classes are served (00 R1, 15 R426). -/
def motionReady (s : State) : Bool := shaftConfigured s && loopReady s

/-! ### Status -/

/-- PROFILE_STATUS (06 R192). -/
def execProfileStatus (r : Request) (s : State) : Host.Outcome State Fault Refusal :=
  let n := rq r 16 1
  .next (serve s r 0x1201 (motionReady s) (firstBad [(16, knownCar s n)]) [] fun r s =>
    ok s r (match carCtx s n with | some x => profFields s x | none => []))

/-- The snapshot of energy.status (06 R191). -/
def energySnap (s : State) (h : Nat) : List (Nat × Nat × Int) :=
  let t := s.shaft h
  let e := t.en
  let cars := shaftCars s h
  let c := t.energy.getD {}
  let ledger := cars.foldl (fun (n : Int) x => n + (s.car x.c.car).ledger) 0
  let minRun := cars.any fun x => match (s.car x.c.car).journey with | some j => j.kind == .minEnergy | none => false
  let st := if t.energy.isNone then 0 else if e.rescue then 4 else if minRun then 3
    else if shaftLow s h then 2 else 1
  let age := match e.bmsCycle with | some n => min 65535 ((s.time.cycle - n) / cyclesPerMs s.sys.rate) | none => 65535
  let flags := ofBits [c.kind == 0 && e.bmsStale && t.energy.isSome, t.energy.isSome && decide (e.vdc < c.vmin), e.failed]
  [(16, 1, (h : Int)), (17, 1, ((if t.energy.isSome then c.kind else 0xFF : Nat) : Int)), (18, 1, ((st : Nat) : Int)), (19, 1, (flags : Int)),
   (20, 4, eAvail s h), (24, 4, c.reserve), (28, 4, ledger / 1000), (32, 4, e.ebms), (36, 2, (age : Int)), (40, 4, e.vdc),
   (44, 4, e.idc), (48, 4, e.vdc * e.idc / 1000000), (52, 4, (e.refused : Int)), (56, 4, (e.reduced : Int)),
   (60, 2, (e.replans : Int)), (62, 2, (e.rescues : Int))]

/-- ENERGY_STATUS (06 R191): the snapshot of the latest release phase. -/
def execEnergyStatus (r : Request) (s : State) : Host.Outcome State Fault Refusal :=
  let h := rq r 16 1
  .next (serve s r 0x1202 (motionReady s) (firstBad [(16, committedShaft s h)]) [] fun r s => ok s r (s.shaft h).en.snap)

/-- CAR_STATUS (07): the snapshot of the latest release phase. -/
def execCarStatus (r : Request) (s : State) : Host.Outcome State Fault Refusal :=
  let n := rq r 16 1
  .next (serve s r 0x1301 (motionReady s) (firstBad [(16, knownCar s n)]) [] fun r s => ok s r (s.car n).snap)

/-- Temperature of a segment in its latest fresh collect record, or its zone's entry (07 R208, 14 R413). -/
def segTemp (s : State) (h : Nat) (cfg : ShaftCfg) (j : Nat) : Int := (segState s { h, cfg } j).2.1

/-- SEGMENT_STATUS (07). -/
def execSegmentStatus (r : Request) (s : State) : Host.Outcome State Fault Refusal :=
  let h := rq r 16 1
  let first := rq r 18 2
  let cfg := (s.shaft h).cfg.getD {}
  let most := min 60 (cfg.geo.nSeg - first)
  let n := min (clampN 1 60 (rq r 20 1)) most
  .next (serve s r 0x1302 (motionReady s) (firstBad [(16, committedShaft s h), (18, decide (first ≤ 511))])
    (clampedN 20 (min 1 most) most (rq r 20 1)) fun r s =>
      ok s r ((16, 1, (n : Int)) :: (List.range n).flatMap fun i =>
        let j := first + i
        let g : SegSt := tabGet (s.shaft h).segs {} j
        let o := 24 + 16 * i
        [(o, 2, (j : Int)), (o + 2, 2, ((tabGet cfg.segs {} j).axis : Int)), (o + 4, 1, (g.role : Int)), (o + 5, 1, (g.car : Int)),
         (o + 6, 1, roundDiv (g.weight * 255) 1099511627776), (o + 7, 1, segTemp s h cfg j), (o + 8, 4, g.share), (o + 12, 4, g.cap)])
        0 (contFor (24 + 16 * n)))

/-! ### Limits and energy model -/

/-- Fields of profile.limits.set that are clamped (06 R173). -/
def limitFields (s : State) (r : Request) : List (Nat × Nat × Nat × Nat) :=
  let cfg := (s.shaft (rq r 16 1)).cfg.getD {}
  let top := (cfgCars cfg).foldl (fun m c => min m c.vcar.toNat) 20000000
  let v := clampN 100000 top (rq r 20 4)
  [(20, 100000, top, rq r 20 4), (24, 100000, 2500000, rq r 24 4), (28, 100, 10000, rq r 28 4), (32, 1000, 630000, rq r 32 4),
   (36, 100000, v, rq r 36 4)]

/-- PROFILE_LIMITS_SET (06 R173): one staged write. -/
def execProfileLimitsSet (r : Request) (s : State) : Host.Outcome State Fault Refusal :=
  let h := rq r 16 1
  .next (serve s r 0x1210 (motionReady s && actReady s) (firstBad [(16, committedShaft s h), (17, decide (rq r 17 1 ≤ 1))])
    (fieldClamps (limitFields s r)) fun r s =>
      let f := fun (o : Nat) => (fieldEff (limitFields s r) o : Int)
      s.onShaft h fun t => { t with limPend := t.limPend ++
        [(r, { blend := rq r 17 1, v := f 20, a := f 24, j := f 28, vInsp := f 32, vRes := f 36 })] })

/-- Limits land (06 R173, R174). -/
def landLimits (s : State) (h : Nat) (r : Request) (m : Limits) : State :=
  ok (store (s.onShaft h fun t => { t with limits := some m }) (.limits h m)) r
    [(16, 1, (h : Int)), (17, 1, (m.blend : Int)), (20, 4, m.v), (24, 4, m.a), (28, 4, m.j), (32, 4, m.vInsp), (36, 4, m.vRes)]
    (cycleDetail s)

/-- Fields of energy.reserve.set that are clamped (06 R190), but for IGAIN. -/
def energyFields (s : State) (r : Request) : List (Nat × Nat × Nat × Nat) :=
  let res := ((s.shaft (rq r 16 1)).cfg.getD {}).geo.resMin.toNat
  [(20, 1, 4294967295, rq r 20 4), (28, res, 2147483647, rq r 28 4), (32, 1, 10000000, rq r 32 4), (36, 0, 1500000, rq r 36 4),
   (40, 500, 1000, rq r 40 2), (42, 0, 1000, rq r 42 2), (44, 0, 100, rq r 44 1), (46, 100, 10000, rq r 46 2),
   (48, 0, 100000, rq r 48 4), (52, 0, 10000000, rq r 52 4), (56, 0, 2147483647, rq r 56 4), (60, 9760000, 9840000, rq r 60 4)]

/-- ENERGY_RESERVE_SET (06 R190). -/
def execEnergyReserveSet (r : Request) (s : State) : Host.Outcome State Fault Refusal :=
  let h := rq r 16 1
  .next (serve s r 0x1211 (motionReady s && actReady s)
    (firstBad [(16, committedShaft s h), (17, decide (rq r 17 1 ≤ 2)), (18, decide (rq r 18 1 ≤ 15)),
               (19, decide (rq r 19 1 ≤ 15) && rq r 19 1 != rq r 18 1)])
    (fieldClamps (energyFields s r) ++ (if rq r 24 4 = 0 then [24] else [])) fun r s =>
      let f := fun (o : Nat) => fieldEff (energyFields s r) o
      s.onShaft h fun t => { t with enPend := t.enPend ++
        [(r, { kind := rq r 17 1, vch := rq r 18 1, ich := rq r 19 1, vgain := f 20, igain := if rq r 24 4 = 0 then 1 else rqI r 24
               reserve := f 28, cap := f 32, vmin := f 36, etaM := f 40, etaG := f 42, rgMargin := f 44, bmsAge := f 46
               paux := f 48, fric := f 52, kmin := f 56, grav := f 60 })] })

/-- An energy model lands (06 R190). -/
def landEnergy (s : State) (h : Nat) (r : Request) (c : EnergyCfg) : State :=
  ok (store (s.onShaft h fun t => { t with energy := some c }) (.energy h c)) r
    [(16, 1, (h : Int)), (17, 1, (c.kind : Int)), (18, 1, (c.vch : Int)), (19, 1, (c.ich : Int)), (20, 4, (c.vgain : Int)), (24, 4, c.igain),
     (28, 4, c.reserve), (32, 4, (c.cap : Int)), (36, 4, (c.vmin : Int)), (40, 2, (c.etaM : Int)), (42, 2, (c.etaG : Int)),
     (44, 1, (c.rgMargin : Int)), (46, 2, (c.bmsAge : Int)), (48, 4, (c.paux : Int)), (52, 4, (c.fric : Int)), (56, 4, c.kmin),
     (60, 4, c.grav)] (cycleDetail s)

/-- A BMS report that waits lands (06 R175, R176). -/
def landBms (e : EnergySt) : EnergySt :=
  match e.bmsPend with
  | some (j, n, d) => { e with ebms := j, bmsCycle := some n, bmsDrawn := d, bmsFresh := true, bmsPend := none }
  | none => e

/-- What waits of a shaft lands at a release phase, oldest first (06 R173, R175, R190, 07 R227). -/
def landShaft (s : State) (h : Nat) : State :=
  let t := s.shaft h
  if t.commits.isEmpty && t.limPend.isEmpty && t.enPend.isEmpty && t.en.bmsPend.isNone then s
  else
    let s := s.onShaft h fun t => { t with commits := [], limPend := [], enPend := [], en := landBms t.en }
    let s := s.each t.commits fun s x => landCommit s h x.1 x.2.1 x.2.2
    let s := s.each t.limPend fun s x => landLimits s h x.1 x.2
    s.each t.enPend fun s x => landEnergy s h x.1 x.2

/-! ### car.stop (07 R222, R229) -/

/-- Whether the cause of a car's stop or trip persists (07 R222): the source that raised it, or a trip or safe stop of the
safety channels. -/
def causePersists (s : State) (x : CarCtx) (k : CarSt) : Bool :=
  !safetyPermits s x.h || match k.cause with
    | 2 => k.missed
    | 3 => decide (0 < k.plaus)
    | 4 => k.src != 1
    | 5 => decide (spareRate s x k < 100000)
    | 6 => decide (k.headroom < 0)
    | 7 => match (s.shaft x.h).energy with | some c => decide ((s.shaft x.h).en.vdc < c.vmin) | none => false
    | _ => false

/-- Whether the local segment axes under a car are enabled (07 R222). -/
def axesEnabled (s : State) (x : CarCtx) (k : CarSt) : Bool :=
  (underTrack x k.p).all fun j => isRemote (segAxis x j) || (s.axis (segAxis x j)).state == .enabled

/-- The nearest landing whose claim meets 07 R223 (R222). -/
def nearestLanding (s : State) (x : CarCtx) (k : CarSt) : Option Nat :=
  (landings x.cfg).foldl (fun (best : Option Nat) l =>
    let d := fun (m : Nat) => iabs (landPos x.cfg m - k.p)
    if !claimOk s x (claimTo x { k with refP := k.p, refV := 0, refA := 0, journey := none, stopProf := none } (landPos x.cfg l)) then best
    else match best with
      | none => some l
      | some m => if d l < d m then some l else best) none

/-- The landing to which car.stop MODE 1 would take a car, if it may resume (07 R222, R229): STOPPED, TRIPPED with its axes
enabled, or out of service away from a door zone. -/
def resumeTo (s : State) (x : CarCtx) : Option Nat :=
  let k := s.car x.c.car
  let held := k.state == .stopped || (k.state == .tripped && !k.braking && axesEnabled s x k) ||
    (k.state == .outOfService && (landingAt x.cfg k.p).isNone && axesEnabled s x k)
  if !held || causePersists s x k || !k.placed || k.railHold || s.safety.image.insp.getLsbD x.h then none
  else match nearestLanding s x k with
    | none => none
    | some l =>
      if startProof s x (claimTo x { k with refP := k.p, refV := 0, refA := 0, journey := none, stopProf := none } (landPos x.cfg l))
      then some l else none

/-- A car resumes (07 R222). -/
def resumeCar (s : State) (x : CarCtx) (l : Nat) : State :=
  let n := x.c.car
  let s := s.onCar n fun k => { k with stopMode := false, stopProf := none, missed := false, missCnt := 0 }
  if iabs (landPos x.cfg l - (s.car n).p) < 1 then carEvent (s.onCar n fun k => { k with state := .idle }) n x.h 0x0E l
  else beginStart s x .back l

/-- A car at rest is taken out of service (07 R229). -/
def takeOutCar (s : State) (x : CarCtx) : State :=
  let n := x.c.car
  if (s.car n).state = .outOfService then s
  else report (s.onCar n fun k => { k with
      state := .outOfService, axesOff := true, takeOut := false, serving := false, starting := none, insp := none, stopMode := false
      ramp := some (s.time.cycle, k.f) })
    (.returned n 7)

/-- MODE 0, 2 and 3 on a car (07 R229). -/
def stopMode (s : State) (x : CarCtx) (mode : Nat) : State :=
  let n := x.c.car
  let k := s.car n
  match mode with
  | 0 => match k.state with
    | .moving | .inspection =>
      if k.journey.isNone || k.holding then s else s.onCar n fun k => { k with stopReq := some (1, s.time.cycle) }
    | _ => s
  | 2 => match k.state with
    | .moving | .inspection | .stopping =>
      s.onCar n fun k => { k with takeOut := true, stopReq := if k.journey.isSome then some (1, s.time.cycle) else k.stopReq }
    | .preparing | .weighing => (abandonStart s x).onCar n fun k => { k with takeOut := true }
    | .tripped => if k.braking then s.onCar n fun k => { k with takeOut := true } else takeOutCar s x
    | _ => takeOutCar s x
  | _ => if k.state = .outOfService then
      carEvent (s.onCar n fun k => { k with state := .idle }) n x.h 0x0E ((landingAt x.cfg k.p).getD 0xFF)
    else s

/-- CAR_STOP (07 R229). -/
def execCarStop (r : Request) (s : State) : Host.Outcome State Fault Refusal :=
  let n := rq r 16 1
  let h := rq r 17 1
  let mode := rq r 18 1
  .next (serve s r 0x1321 (motionReady s && actReady s)
    (firstBad [(16, n == 0xFF || (decide (n ≤ 63) && knownCar s n)), (17, n != 0xFF || declaredShaft s h), (18, decide (mode ≤ 3))]) []
    fun r s =>
      let cars := if n = 0xFF then shaftCars s h else (allCars s).filter fun x => x.c.car == n
      let done := fun (s : State) =>
        let st := fun (x : CarCtx) => (carStateCode (s.car x.c.car).state : Int)
        ok s r ((16, 1, match cars with | x :: _ => st x | [] => 0) ::
          if n = 0xFF then (List.range cars.length).flatMap fun i => match cars[i]? with | some x => [(17 + i, 1, st x)] | none => []
          else [])
      match mode with
      | 1 => if cars.all fun x => (resumeTo s x).isSome then
               done (s.each cars fun s x => match resumeTo s x with | some l => resumeCar s x l | none => s)
             else refused s r
      | 3 => if cars.all fun x => (s.car x.c.car).state != .outOfService || (landingAt x.cfg (s.car x.c.car).p).isSome then
               done (s.each cars fun s x => stopMode s x 3)
             else refused s r
      | m => done (s.each cars fun s x => stopMode s x m))

/-! ### car.inspect.move (07 R226, R228) -/

/-- The first command of an inspection move, or an extension (07 R226, R228). -/
def runInspect (s : State) (r : Request) (x : CarCtx) : State :=
  let n := x.c.car
  let k := s.car n
  let down := rq r 17 1 == 1
  let hold := clampN 50 500 (rq r 18 2)
  let dist : Int := clampN 1000 2147483647 (rq r 20 4)
  let eff := [(18, 2, (hold : Int)), (20, 4, dist)]
  let extend := fun (m : InspMove) =>
    let rest := decide (k.refV = 0) && k.holding
    if m.down ≠ down ∧ !rest then refused s r
    else
      let m' := { m with down, holdMs := hold, dist, ending := false, from_ := if rest then k.refP else m.from_ }
      let s := s.onCar n fun k => { k with insp := some m', holding := false }
      let s := match k.state, k.journey with
        | .inspection, some j =>
          let t := startTarget s x (s.car n) .inspection 0
          if !rest && t = j.prof.target then s
          else s.onCar n fun k => { k with journey := some (repriced s x k.mass j { j with
            prof := planMove j.lim.blend s.time.cycle (profNow s j.prof) t j.lim.v j.lim.a j.lim.j }) }
        | _, _ => s
      ok s r eff (cycleDetail s)
  let start := fun (_ : Unit) =>
    let m : InspMove := { down, holdMs := hold, from_ := k.p, dist, req := some r }
    let k' := { k with insp := some m, refP := k.p, refV := 0, refA := 0, journey := none, stopProf := none }
    let cl := claimTo x k' (startTarget s x k' .inspection 0)
    if !mayStart s x { k with braking := false } || !startProof s x cl then refused s r
    else if !claimOk s x cl then refused (carEvent s n x.h 0x0C (headroomOf s x cl.1 cl.2)) r
    else beginStart (s.onCar n fun k => { k with insp := some m }) x .inspection 0
  if !s.safety.image.insp.getLsbD x.h || (limitsNext s x.h).isNone then refused s r
  else match k.state with
    | .idle | .stopped => start ()
    | .inspection => if k.braking then start () else match k.insp with
      | some m => extend m
      | none => refused s r
    | .preparing | .weighing => match k.insp with
      | some m => extend m
      | none => refused s r
    | _ => refused s r

/-- CAR_INSPECT_MOVE (07 R226, R228). -/
def execCarInspectMove (r : Request) (s : State) : Host.Outcome State Fault Refusal :=
  let n := rq r 16 1
  .next (serve s r 0x1320 (motionReady s && actReady s)
    (firstBad [(16, decide (n ≤ 63) && knownCar s n), (17, decide (rq r 17 1 ≤ 1))])
    (clampedN 18 50 500 (rq r 18 2) ++ clampedN 20 1000 2147483647 (rq r 20 4)) fun r s =>
      match carCtx s n with
      | some x => runInspect s r x
      | none => refused s r)

/-! ### Moments of a car -/

/-- What follows on a car whose place is known; a car of no shaft has no moments. -/
def onCarCtx (s : State) (n : Nat) (f : CarCtx → State) : State := match carCtx s n with | some x => f x | none => s

/-- CAR_CUTOFF (04 R143, R144, 07 R215): the program of this window is abandoned; the third in a row stops the car, one in
stop mode stops its weaver. -/
def execCarCutoff (car : Nat) (s : State) : Host.Outcome State Fault Refusal :=
  .next (onCarCtx s car fun x =>
    let k := s.car car
    if k.cut then s
    else
      let cnt := min 255 (k.missCnt + 1)
      let s := bump (s.onCar car fun k => { k with cut := true, missed := true, missCnt := cnt }) (cBasket (x.c.weaver / 8) 5)
      if k.stopMode then weaverFault s x.c.weaver
      else if 3 ≤ cnt then s.onCar car fun k => { k with stopReq := some (2, s.time.cycle), stopMode := true }
      else s)

/-- PREPARING_RAMP_DONE (07 R218): the force holds the weight, brake release is requested. -/
def execPreparingRampDone (car : Nat) (s : State) : Host.Outcome State Fault Refusal :=
  .next (if (s.car car).state = .preparing ∧ !(s.car car).braking then s.onCar car fun k => { k with brakeReq := true } else s)

/-- BRAKE_RELEASE_FEEDBACK (07 R218): the car is weighed. -/
def execBrakeReleaseFeedback (car : Nat) (s : State) : Host.Outcome State Fault Refusal :=
  let k := s.car car
  .next (if k.state = .preparing ∧ k.brakeReq ∧ s.safety.image.rel.getLsbD car then
    s.onCar car fun k => { k with state := .weighing, wSum := 0, wCount := 0 } else s)

/-- BRKT_TIMEOUT (07 R218, R221): release feedback missing, or a tripped car's axes are disabled without engaged feedback. -/
def execBrktTimeout (car : Nat) (s : State) : Host.Outcome State Fault Refusal :=
  .next (onCarCtx s car fun x =>
    let k := s.car car
    match k.state with
    | .preparing =>
      if k.brakeReq then
        report (carEvent (abandonStart s x) car x.h 0x0B x.cfg.geo.brkt) (.returned car 2)
      else s
    | .tripped =>
      if k.braking then
        let s := s.onCar car fun k => { k with braking := false, axesOff := true }
        if k.takeOut then takeOutCar s x else s
      else s
    | _ => s)

/-- WEIGHING_END (06 R177, R180 to R183, 07 R223). -/
def execWeighingEnd (car : Nat) (s : State) : Host.Outcome State Fault Refusal :=
  .next (onCarCtx s car fun x =>
    let k := s.car car
    if k.state = .weighing ∧ 64 ≤ k.wCount ∧ !k.braking then endWeighing s x else s)

/-- PRESTART_RETRY (06 R182). -/
def execPrestartRetry (car : Nat) (s : State) : Host.Outcome State Fault Refusal :=
  .next (s.onCar car fun k => { k with retryWait := false })

/-- STOP_HOLD_END (07 R220): 250 ms after a controlled stop's profile has ended, the brake is requested. -/
def execStopHoldEnd (car : Nat) (s : State) : Host.Outcome State Fault Refusal :=
  let k := s.car car
  .next (if k.state = .stopping ∧ k.holding then s.onCar car fun k => { k with brakeReq := false, braking := true, holding := false } else s)

/-- A car at rest under its engaged brake is IDLE, or returns to what it was before a start (07 R218, R226). -/
def backToRest (s : State) (x : CarCtx) (st : CarState) : State :=
  let n := x.c.car
  let s := s.onCar n fun k => { k with
    state := st, braking := false, journey := none, starting := none, insp := none, holding := false, back := .idle
    ramp := some (s.time.cycle, k.f) }
  if (s.car n).takeOut then takeOutCar s x else s

/-- BRAKE_ENGAGED_FEEDBACK (07 R218, R220, R221). -/
def execBrakeEngagedFeedback (car : Nat) (s : State) : Host.Outcome State Fault Refusal :=
  .next (onCarCtx s car fun x =>
    let k := s.car car
    if !k.braking || !s.safety.image.eng.getLsbD car then s
    else match k.state with
      | .stopping =>
        let s := s.onCar car fun k => { k with
          state := .stopped, braking := false, stopProf := none, ramp := some (s.time.cycle, k.f) }
        let s := carEvent s car x.h 2 k.p
        if k.takeOut then takeOutCar s x else s
      | .tripped =>
        let s := s.onCar car fun k => { k with braking := false, axesOff := true }
        if k.takeOut then takeOutCar s x else s
      | .preparing | .weighing | .inspection => backToRest s x k.back
      | .moving => backToRest s x .idle
      | _ => s.onCar car fun k => { k with braking := false })

/-- RESCUE_END (06 R187). -/
def execRescueEnd (shaft : Nat) (s : State) : Host.Outcome State Fault Refusal :=
  let t := s.shaft shaft
  .next (match t.energy with
    | none => s
    | some c =>
      if t.en.rescue && ((shaftCars s shaft).all fun x => carAtRest (s.car x.c.car)) &&
          decide (11 * c.reserve ≤ 10 * eAvail s shaft) then
        crestEvent (s.onShaft shaft fun t => { t with en := { t.en with rescue := false } }) 0xFF shaft 5 (eAvail s shaft)
      else s)

/-- INSPECTION_HOLD_EXPIRY (07 R226): the car decelerates at A to rest. -/
def execInspectionHoldExpiry (car : Nat) (s : State) : Host.Outcome State Fault Refusal :=
  let k := s.car car
  .next (onCarCtx s car fun x => match k.state, k.insp, k.journey with
    | .inspection, some m, some j =>
      if m.ending || k.holding then s
      else
        let q := planStop j.lim.blend s.time.cycle (profNow s j.prof) j.lim.a j.lim.j
        s.onCar car fun k => { k with
          insp := some { m with ending := true }, journey := some (repriced s x k.mass j { j with prof := q }) }
    | .preparing, some m, _ | .weighing, some m, _ => s.onCar car fun k => { k with insp := some { m with ending := true } }
    | _, _, _ => s)

/-- INSPECTION_BRAKE_DELAY (07 R226): 250 ms at rest, the brake is applied. -/
def execInspectionBrakeDelay (car : Nat) (s : State) : Host.Outcome State Fault Refusal :=
  let k := s.car car
  .next (if k.state = .inspection ∧ k.holding then s.onCar car fun k => { k with brakeReq := false, braking := true } else s)

/-- BMS_STALE (06 R176, R193): the latest report is older than BMSAGE. -/
def execBmsStale (shaft : Nat) (s : State) : Host.Outcome State Fault Refusal :=
  let t := s.shaft shaft
  .next (match t.energy with
    | none => s
    | some c =>
      if c.kind ≠ 0 ∨ t.en.bmsStale then s
      else
        let age := match t.en.bmsCycle with | some n => (s.time.cycle - n) / cyclesPerMs s.sys.rate | none => 0
        crestEvent (bump (s.onShaft shaft fun t => { t with en := { t.en with bmsStale := true } }) (cShaft shaft 11)) 0xFF shaft 6 age)

end Sys2Proof.Machine
end

