-- ==== Sys2Proof/Machine/FieldOps.lean ====
section
/-! DEFINITION. Shared operations of the field island (11): what happens at the instant and at the release phase, stops of step
outputs, PWM periods, and the energy inputs of 06 R175. -/
namespace Sys2Proof.Machine

/-- A field event (11 R348): class 30h, record of source 09h. -/
def fieldEvent (s : State) (code chan : Nat) (value : Int) : State :=
  raise s { source := 9, code, subject := chan, value, cls := some 0x30,
            fields := [(16, 1, (chan : Int)), (17, 1, (code : Int)), (20, 4, (s.time.cycle : Int)), (24, 4, value)] }

/-- The cycle whose release phase comes next (01 R28). -/
def nextRelease (s : State) : Nat := s.time.cycle + b2n s.time.released

/-! ### Digital outputs (11 R324 to R326) -/

/-- A write of commanded states is latched (11 R325, R345): an overload clears when its output is commanded 0 and then 1. -/
def latchDo (f : FieldSt) (mask value : BitVec 24) : FieldSt :=
  let cmd := (f.doCmd &&& ~~~ mask) ||| (value &&& mask)
  let zeroed := f.zeroed ||| (f.overload &&& mask &&& ~~~ value)
  let clear := f.overload &&& zeroed &&& mask &&& value
  { f with doCmd := cmd, zeroed := zeroed &&& ~~~ clear, overload := f.overload &&& ~~~ clear }

/-- Waiting writes of outputs latch at the release phase (11 R345). -/
def landDo (s : State) : State :=
  let l := s.field.doPend
  if l.isEmpty then s
  else
    let s := s.onField fun f => l.foldl (fun f w => latchDo f w.2.1 w.2.2) { f with doPend := [] }
    s.each l fun s w => match w.1 with
      | some r => ok s r [(16, 3, (s.field.doCmd.toNat : Int))] (s.time.cycle % 4294967296)
      | none => s

/-- The output front end at an instant with a valid frame (11 R318, R326, R345); a FENCED or STANDBY module holds its outputs
at 0 (13 R384, R391). -/
def instantDo (s : State) : State :=
  let l := s.field.safePend
  let quiet := (s.time.now - s.field.lastFrame) / 1000000
  let s := if s.field.silent then fieldEvent s 2 0 quiet else s
  let s := s.onField fun f =>
    let f := l.foldl (fun f w => { f with pattern := w.2.1, tSilent := w.2.2 }) { f with safePend := [], silent := false }
    { f with doOut := if actReady s then f.doCmd &&& ~~~ f.overload else 0, lastFrame := s.time.now }
  s.each l fun s w => ok (store s (.pattern w.2.1 w.2.2)) w.1 [(16, 3, (w.2.1.toNat : Int)), (20, 2, (w.2.2 : Int))]

/-! ### Step outputs (11 R340 to R347) -/

/-- Whether an output is driven by an axis: the axis that names it (11 section "Step outputs"). -/
def stepAxis (s : State) (n : Nat) : Option Nat :=
  (s.loop.axes.find? fun x => x.2.state != .unloaded && dOut x.2.desc == 0x20 + n).map (·.1)

/-- Steps per second at most (11 R340). -/
def stepLimitRate (pw : Nat) : Nat := min 2000000 (1000000000 / (2 * max 1 pw))

/-- Whether steps are being emitted or carried. -/
def stepBusy (p : StpSt) : Bool := p.due != 0 || p.carried != 0 || p.state == .moving || p.state == .referencing || p.state == .decelerating

/-- A stop at once (11 R343): the position is lost when steps were being emitted or carried. -/
def stopAtOnce (s : State) (n : Nat) : State :=
  let p := s.stp n
  let lost := stepBusy p
  let s := s.onStp n fun p => { p with
    state := .idle, due := 0, carried := 0, rate := 0, start := false, unknown := p.unknown || lost }
  if lost then fieldEvent (bump s (cField 10)) 0x0A n p.pos else s

/-- A step output at an instant (11 R341 to R343). -/
def instantStep (s : State) (n : Nat) : State :=
  let p := s.stp n
  if frontFailed s (38 + n) then stopAtOnce s n
  else match stepAxis s n with
    | none => if p.state = .axisDriven then stopAtOnce s n else if p.start then s.onStp n fun p => { p with start := false } else s
    | some a =>
      let x := s.axis a
      if x.state ≠ .enabled ∧ x.state ≠ .holding then
        if p.state = .axisDriven then stopAtOnce s n else s
      else if !x.executed then s
      else
        let uPrev := if p.state = .axisDriven then p.uPrev else p.pos
        let want := x.deliver.ref1 - uPrev + p.due + p.carried
        let most : Int := stepLimitRate p.pw * (dDiv x.desc * cycleNs s.sys.rate) / 1000000000
        let due := max (min want most) (-most)
        s.onStp n fun p => { p with state := .axisDriven, uPrev := x.deliver.ref1, due, carried := want - due }

/-- A step.move lands (11 R342, R346). -/
def landMove (s : State) (n pw : Nat) (m : StepMove) : State :=
  s.onStp n fun p =>
    if m.mode = 3 then { p with pw, pos := m.refPos, uPrev := m.refPos, unknown := false }
    else
      let target := if m.mode = 1 then p.pos + m.target else m.target
      { p with pw, move := { m with target }, start := true, rate := 0, searched := 0
               down := if m.mode = 2 then decide (m.target < 0) else decide (target < p.pos)
               state := if m.mode = 2 then .referencing else .moving }

/-! ### Configurations land (11 R344) -/

/-- A field configuration takes effect. -/
def landField1 (s : State) (c : FieldCfg) : State :=
  match c with
  | .pwm n c => s.onPwm n fun p => { p with cfg := c }
  | .sd n clkDiv osr delay osrf ocn ocset octh => s.onSd n fun p => { p with clkDiv, osr, delay, osrf, ocn, ocset, octh, above := 0 }
  | .ai n mode => s.onAi n fun p => { p with mode, bad := 0, hist := [] }
  | .qa n flt reverse armed zeroVal => s.onQa n fun p => { p with flt, reverse, armed, zeroVal }
  | .di first filt => s.each (List.range filt.length) fun s i =>
      let v := filt.getD i 0
      s.onDi (first + i) fun p => { p with filt := v, c := min p.c v }

/-- What waits for the field island lands at a release phase. -/
def landField (s : State) : State :=
  let s := landDo s
  let l := s.field.cfgPend
  let m := s.field.movePend
  let s := if l.isEmpty && m.isEmpty then s else s.onField fun f => { f with cfgPend := [], movePend := [] }
  let s := s.each l fun s x => ok (store (landField1 s x.2.1) (.field x.2.1)) x.1 x.2.2 (s.time.cycle % 4294967296)
  s.each m fun s x => landMove s x.1 x.2.1 x.2.2

/-! ### The instant (11 R318 to R320) -/

/-- An encoder fault is raised with its event (11 R333). -/
def encoderFault (s : State) (n : Nat) : State :=
  let q := s.qa n
  if q.fault then s
  else fieldEvent (bump (s.onQa n fun q => { q with fault := true, faults := satAdd 65535 q.faults 1 }) (cField 2)) 3 n q.illegal

/-- A sigma-delta input becomes faulty, or its count to clearing starts again (11 R331). -/
def sdFaulty (s : State) (n : Nat) : State :=
  if (s.sd n).fault then s.onSd n fun p => { p with good := 0 }
  else fieldEvent (bump (s.onSd n fun p => { p with fault := true, good := 0 }) (cField 5)) 7 n 0

/-- An analogue input becomes faulty (11 R327). -/
def aiFaulty (s : State) (n : Nat) : State :=
  if (s.ai n).fault then s.onAi n fun p => { p with good := 0 }
  else fieldEvent (bump (s.onAi n fun p => { p with fault := true, good := 0 }) (cField 4)) 5 n (s.ai n).code

/-- The faults that sixteen failed frames of a front end make (11 R319). -/
def deadFront (s : State) (i : Nat) : State :=
  if 2 ≤ i ∧ i < 18 then aiFaulty s (i - 2)
  else if 26 ≤ i ∧ i < 34 then encoderFault s (i - 26)
  else s

/-- The frame of a front end at an instant: failed or good (11 R319); one failed frame makes a sigma-delta input faulty
(11 R331). -/
def frontFrame (s : State) (i : Nat) (bad : Bool) : State :=
  let n := tabGet s.field.fails 0 i
  if bad then
    let s := bump (s.onField fun f => { f with fails := tabSet f.fails i (min 65535 (n + 1)) }) (cField 9)
    if 18 ≤ i ∧ i < 26 then sdFaulty s (i - 18)
    else if n = 15 then deadFront s i else s
  else if n = 0 then s
  else s.onField fun f => { f with fails := tabDel f.fails i }

/-- Whether all six gates of a set are low (11 R339). -/
def gatesLow (s : State) (n : Nat) : Bool :=
  let p := s.pwm n
  let l := pwmAxes p.cfg
  l.isEmpty || p.oc || frontFailed s (34 + n) ||
  l.any fun a => ((s.axis a).state != .enabled && (s.axis a).state != .holding) || !dividerOk s p.cfg.divn a

/-- A set with its gates forced low (11 R338, R339). -/
def pwmLow (p : PwmSt) : PwmSt := { p with carry := [0, 0, 0], legs := [{}, {}, {}], on := false, clamp := false }

/-- A PWM set at an instant: the latched outputs of its axes; gates forced low lose their carries (11 R335, R338, R339). -/
def instantPwm (s : State) (n : Nat) : State :=
  let c := (s.pwm n).cfg
  let u := fun (a : Nat) => (s.axis a).deliver.ref1
  if frontFailed s (34 + n) then s.onPwm n pwmLow
  else if gatesLow s n then s.onPwm n fun p => { pwmLow p with u := [u c.axu, u c.axv, u c.axw] }
  else s.onPwm n fun p => { p with u := [u c.axu, u c.axv, u c.axw] }

/-- The field island at an instant: frames, latched inputs, applied outputs (11 R318, R319, R326, R335, R341). -/
def instantField (s : State) (failed : List FrontEnd) : State :=
  let bad := failed.map frontIndex
  let s := s.each (List.range 46) fun s i => frontFrame s i (!s.field.on || bad.contains i)
  if !s.field.on then s
  else
    let s := if frontFailed s 0 then s
      else s.onField fun f => { f with
        diInst := BitVec.ofNat 48 (ofBits ((List.range 48).map fun n => (tabGet f.di {} n).state))
        di := f.di.map fun x => (x.1, { x.2 with edgesInst := x.2.edges }) }
    let s := if frontFailed s 1 then s else instantDo s
    let s := s.onField fun f => { f with doInst := (f.doCmd, f.doOut, f.overload) }
    let s := s.each (s.field.qa.map (·.1)) fun s n => if frontFailed s (26 + n) then s else s.onQa n fun q => { q with inst := q.count }
    let s := s.each (s.field.sd.map (·.1)) fun s n => if frontFailed s (18 + n) then s else s.onSd n fun q => { q with inst := q.v }
    let s := s.each (s.field.pwm.map (·.1)) instantPwm
    s.each (List.range 8) instantStep

/-- The front ends lose their supply (11 R320): outputs off; what the chapter gives a front end at its reset it starts with
when the supply returns. -/
def fieldOff (s : State) : State :=
  let s := s.each (List.range 8) stopAtOnce
  s.onField fun f => { f with
    on := false, doOut := 0, overload := 0, doInst := (f.doCmd, 0, 0), zeroed := 0, silent := false, pattern := 0, tSilent := 100, fails := [], diInst := 0
    di := f.di.map fun x => (x.1, { edges := x.2.edges, edgesInst := x.2.edgesInst })
    ai := f.ai.map fun x => (x.1, { code := x.2.code })
    sd := f.sd.map fun x => (x.1, { x.2 with above := 0, fault := false, good := 0 })
    qa := f.qa.map fun x => (x.1, { flt := x.2.flt, reverse := x.2.reverse, zeroVal := x.2.zeroVal, illegal := x.2.illegal, faults := x.2.faults })
    pwm := f.pwm.map fun x => (x.1, { x.2 with carry := [0, 0, 0], legs := [{}, {}, {}], on := false, clamp := false })
    stp := f.stp.map fun x => (x.1, { x.2 with pw := 250, unknown := true, rate := 0 }) }

/-! ### PWM periods (11 R336 to R338) -/

/-- One leg in a period of `tp` clocks (11 R338): what it does, its carry, and whether it counts a dead-time drop or a
suppression. -/
def legPeriod (cmd tp : Int) (dt minp carry : Int) : LegOut × Int × Bool × Bool :=
  let w := max 0 (min (cmd * tp / 65536 + carry) tp)
  let lo := tp - w
  if w ≤ dt then ({ low := tp.toNat }, 0, true, false)
  else if w - dt < minp then ({ low := tp.toNat }, w, false, true)
  else if lo ≤ dt then ({ high := tp.toNat }, 0, true, false)
  else if lo - dt < minp then ({ high := tp.toNat }, -lo, false, true)
  else ({ high := (w - dt).toNat, low := (lo - dt).toNat }, 0, false, false)

/-- The local band law of mode 2 in one period (11 R337, 04 R127): high state, dwell, and the output for the next period. -/
def pwmBand (s : State) (p : PwmSt) : Bool × Nat × Int :=
  let x := s.axis p.cfg.axu
  let b := if axisHealed s p.cfg.axu then 2 else dSel x.desc
  let q := s.sd p.cfg.sdin
  let e := sat32 (x.lastR - q.v)
  let dwell := min (p.dwell + 1) 65535
  let may := !(q.fault || frontFailed s (18 + p.cfg.sdin)) && decide (dBank x.desc b 4 ≤ (dwell : Int))
  let (hi, dwell) := if may && !p.hi && decide (dBank x.desc b 2 < e) then (true, 0)
    else if may && p.hi && decide (e < -(dBank x.desc b 3)) then (false, 0) else (p.hi, dwell)
  (hi, dwell, sat32 ((if hi then dBank x.desc b 0 else dBank x.desc b 1) + dBank x.desc b 11))

/-- A PWM period of a set (11 R335 to R339). -/
def pwmPeriod (s : State) (n tp : Nat) : State :=
  let p := s.pwm n
  if gatesLow s n then s.onPwm n pwmLow
  else
    let (hi, dwell, ub) := if p.cfg.mode = 2 then pwmBand s p else (p.hi, p.dwell, p.ub)
    let raw := fun (i : Nat) => if p.cfg.mode = 2 then p.ub else p.u.getD i 0
    let lim := fun (i : Nat) => if p.cfg.mode = 3 then clampI 0 65536 (raw i) else clampI (-65536) 65536 (raw i)
    let legs := if p.cfg.mode = 3 then [0, 1, 2] else [0, 1]
    let used := if p.cfg.mode = 3 then [0, 1, 2] else [0]
    let cmd := fun (i : Nat) => if p.cfg.mode = 3 then lim i else if i = 0 then (65536 + lim 0) / 2 else (65536 - lim 0) / 2
    let outs := legs.map fun i => legPeriod (cmd i) tp ((p.cfg.deadt : Int) / 4) ((p.cfg.minp : Int) / 4) (p.carry.getD i 0)
    let drops := (outs.filter fun o => o.2.2.1).length
    let supp := (outs.filter fun o => o.2.2.2).length
    let pad := fun {α : Type} (d : α) (l : List α) => if l.length = 2 then l ++ [d] else l
    let s := bump (bump s (cField 7) supp) (cField 8) drops
    s.onPwm n fun p => { p with
      hi, dwell, ub, on := true, clamp := used.any fun i => decide (lim i ≠ raw i)
      legs := pad {} (outs.map (·.1)), carry := pad 0 (outs.map fun o => o.2.1) }

/-! ### Energy inputs (06 R175, R176) -/

/-- Predicted draw of the running journeys of a shaft over one cycle, in 10⁻¹⁵ J (06 R176). -/
def predictedDraw (s : State) (h : Nat) (c : EnergyCfg) : Int :=
  (shaftCars s h).foldl (fun (n : Int) x => match (s.car x.c.car).journey with
    | some j =>
      let m := (s.car x.c.car).mass
      let t := profTime s j.prof
      n + (drawMj c m j.prof t - drawMj c m j.prof (t - cycleNs s.sys.rate)) * 1000000000000
    | none => n) 0

/-- The store of a shaft at an instant: voltage, current, energy drawn, the end of a stale condition (06 R175, R176). -/
def instantEnergy (s : State) (h : Nat) : State :=
  match (s.shaft h).energy with
  | none => s
  | some c =>
    let failed := aiFault s c.vch || aiFault s c.ich
    let v := (s.ai c.vch).code * (c.vgain : Int) / 65536
    let i := (s.ai c.ich).code * c.igain / 65536
    let drawn := if failed then predictedDraw s h c else v * i * (cycleNs s.sys.rate : Int)
    let sum := (s.shaft h).en.drawn + drawn
    let fresh := (s.shaft h).en.bmsFresh && (s.shaft h).en.bmsStale
    let s := s.onShaft h fun t => { t with en := { t.en with
      bmsFresh := false, bmsStale := t.en.bmsStale && !t.en.bmsFresh, hist := ((s.time.cycle, sum) :: t.en.hist).take 512
      failed, vdc := if failed then t.en.vdc else v, idc := if failed then t.en.idc else i, drawn := sum
      failDrawn := if failed then t.en.failDrawn + drawn else 0 } }
    if fresh then crestEvent s 0xFF h 7 0 else s

end Sys2Proof.Machine
end

