-- ==== Sys2Proof/Machine/Can.lean ====
section
/-! DEFINITION. CAN FD (12): the receive rings, message objects, transmission, and the meanings of class 31h and of the moments
of a channel. -/
namespace Sys2Proof.Machine

/-! ### Places, events, counts -/

/-- A channel. -/
def State.ch (s : State) (n : Nat) : CanChan := tabGet s.can.chans {} n
/-- A state with one channel changed. -/
def State.onCh (s : State) (n : Nat) (f : CanChan → CanChan) : State := s.onCan fun c => { c with chans := tabMod c.chans {} n f }
/-- A message object. -/
def State.obj (s : State) (k : Nat) : CanObj := tabGet s.can.objs {} k
/-- A state with one message object changed. -/
def State.onObj (s : State) (k : Nat) (f : CanObj → CanObj) : State := s.onCan fun c => { c with objs := tabMod c.objs {} k f }

/-- A CAN event (12 R371): class 31h, record of source 0Bh. -/
def canEvent (s : State) (code chan : Nat) (value : Int) : State :=
  raise s { source := 0x0B, code, subject := chan, value, cls := some 0x31,
            fields := [(16, 1, (chan : Int)), (17, 1, (code : Int)), (20, 4, (s.time.cycle : Int)), (24, 4, value)] }

/-- A count of can.status and, where it has one, its counter of the global set (12 can.status, 19 R502). -/
def countCan (s : State) (n k : Nat) : State :=
  let s := s.onCh n fun c => { c with cnt := tabMod c.cnt 0 k fun v => satAdd max32 v 1 }
  match k with
  | 2 => bump s (cCan n 4) | 3 => bump s (cCan n 0) | 4 => bump s (cCan n 1) | 5 => bump s (cCan n 2) | 6 => bump s (cCan n 3)
  | 7 => bump s (cCan n 5) | 8 => bump s (cCan n 6) | 9 => bump s (cCan n 7) | _ => s

/-- The objects assigned to a channel, with a kind. -/
def objsOf (s : State) (n kind : Nat) : List Nat :=
  (s.can.objs.filter fun x => x.2.cfg.kind == kind && x.2.cfg.chan == n).map (·.1)
/-- Whether an object is owned by the application firmware: named by an enabled reference message or BMS map (12 R366). -/
def objOwned (s : State) (k : Nat) : Bool :=
  (s.can.chans.any fun x => x.2.ref.enable && x.2.ref.obj == k) || s.can.bms.any fun x => x.2.enable && x.2.obj == k

/-- Whether a channel takes part in the bus (12 R351, R352, R361, R362). -/
def chListens (c : CanChan) : Bool := c.on && !c.asleep && !c.busOff && c.cfg.mode != 0 && c.cfg.mode != 4
/-- Whether a channel sends frames of its own (12 R351, R352, R361). -/
def chSends (s : State) (n : Nat) : Bool := chListens (s.ch n) && (s.ch n).cfg.mode == 1 && s.can.tx

/-! ### Receive storage and objects (12 R353 to R357) -/

/-- Whether a receive object's filter matches a frame (12 R356). -/
def objMatches (c : ObjCfg) (f : CanFrame) : Bool :=
  Nat.land (Nat.xor f.id c.id) c.mask == 0 &&
  (match c.match_ % 4 with | 0 => !f.ide | 1 => f.ide | _ => true) &&
  (match c.match_ / 4 % 4 with | 1 => !f.fdf | 2 => f.fdf | _ => true)

/-- A frame is captured by an object: into its shadow while the read lock is held (12 R357, R365). -/
def capture (s : State) (k : Nat) (e : CanEntry) : State :=
  let o := s.obj k
  let overrun := fun (s : State) => canEvent (countCan s o.cfg.chan 7) 7 o.cfg.chan k
  if o.locked then
    let s' := s.onObj k fun o => { o with shadow := some e, ovr := o.ovr || o.shadow.isSome }
    if o.shadow.isSome then overrun s' else s'
  else
    let s' := s.onObj k fun o => { o with entry := e, new_ := true }
    if o.new_ && objOwned s k then overrun s' else s'

/-- A frame goes to the receive ring; with 4,096 entries software-owned it is dropped and counted (12 R353, R354). -/
def storeFrame (s : State) (n : Nat) (e : CanEntry) : State :=
  let full := decide (4096 ≤ (s.ch n).ring.length)
  let e := { e with chan := n, seq := (s.ch n).seq, early := decide (s.sys.stage < 2) }
  let s := s.onCh n fun c => { c with seq := (c.seq + 1) % 4294967296, ring := if full then c.ring else c.ring ++ [e] }
  if full then canEvent (countCan s n 2) 6 n 1 else s

/-- The cycle in whose period a time falls (12 R353, 14 R405). -/
def cycleAt (s : State) (ns : Nat) : Nat := ns / cycleNs s.sys.rate

/-- Error counters of a channel after an error (12 R359): error passive is reported. -/
def addError (s : State) (n tec rec_ : Nat) : State :=
  let c := s.ch n
  let was := decide (128 ≤ c.tec) || decide (128 ≤ c.rec_)
  let t := min 256 (c.tec + tec)
  let r := min 255 (c.rec_ + rec_)
  let s := s.onCh n fun c => { c with tec := t, rec_ := r }
  if !was && (decide (128 ≤ t) || decide (128 ≤ r)) then canEvent s 1 n t else s

/-- A frame starts on a channel: it ends the delays of the armed objects other than the one that sends it (12 R360). -/
def endDelays (s : State) (n : Nat) (sender : Option Nat) : State :=
  s.each (objsOf s n 2) fun s k =>
    if (s.obj k).backoff.isSome ∧ sender ≠ some k then s.onObj k fun o => { o with backoff := none, redraw := true } else s

/-- CAN_FRAME_RX (12 R353, R354, R356, R360). -/
def execCanFrameRx (ch : Nat) (f : CanFrame) (sofNs : Nat) (s : State) : Host.Outcome State Fault Refusal :=
  .next (if 8 ≤ ch ∨ !chListens (s.ch ch) then s
    else
      let hit := (objsOf s ch 1).find? fun k => objMatches (s.obj k).cfg f
      let e : CanEntry := { time := sofNs, cycle := cycleAt s sofNs, frame := f, obj := hit.getD 0xFF, chan := ch, seq := (s.ch ch).seq
                            early := decide (s.sys.stage < 2)
                            drawn := s.motion.shafts.map fun p => (p.1, drawnAt p.2.en (cycleAt s sofNs)) }
      let s := s.onCh ch fun c => { c with rec_ := if 127 < c.rec_ then 127 else c.rec_ - 1 }
      let s := endDelays s ch none
      let s := countCan (storeFrame s ch e) ch 0
      match hit with | some k => capture s k e | none => s)

/-- CAN_DRAIN (12 R355). -/
def execCanDrain (ch count : Nat) (s : State) : Host.Outcome State Fault Refusal :=
  .next (if !s.can.drain ∨ 8 ≤ ch then s
    else s.onCh ch fun c => { c with
      ring := c.ring.drop count, hist := ((c.ring.take count).reverse ++ c.hist).take 65536 })

/-- OBJ_WORD0_READ (12 R357). -/
def execObjWord0Read (obj : Nat) (s : State) : Host.Outcome State Fault Refusal :=
  .next (if 128 ≤ obj then s else s.onObj obj fun o => { o with locked := true, lockExp := false })

/-- The shadow moves into an object (12 R357). -/
def takeShadow (o : CanObj) : CanObj :=
  match o.shadow with
  | some e => { o with entry := e, new_ := true, shadow := none }
  | none => o

/-- OBJ_WORD22_READ (12 R357): the lock is released, NEW and OVR clear, the shadow moves in; after an expired lock nothing is
released. -/
def execObjWord22Read (obj : Nat) (s : State) : Host.Outcome State Fault Refusal :=
  .next (if 128 ≤ obj then s
    else s.onObj obj fun o =>
      if o.locked then takeShadow { o with locked := false, new_ := false, ovr := false }
      else { o with ovr := false, lockExp := false })

/-- OBJ_LOCK_EXPIRY (12 R357). -/
def execObjLockExpiry (obj : Nat) (s : State) : Host.Outcome State Fault Refusal :=
  .next (if (s.obj obj).locked then
    countCan (s.onObj obj fun o => takeShadow { o with locked := false, lockExp := true }) (s.obj obj).cfg.chan 8 else s)

/-! ### Transmission (12 R358 to R361) -/

/-- An object is armed with a frame (12 R358, R360, R367). -/
def armObj (s : State) (k : Nat) (f : CanFrame) (r : Option Request) : State :=
  let o := s.obj k
  let same := o.entry.frame.id == f.id && o.entry.frame.ide == f.ide
  let wait := match r with | some q => bitAt (rq q 17 1) 1 | none => false
  let s := s.onObj k fun o => { o with
    pend := true, intx := false, next := none, coll := if same then o.coll else 0, backoff := if same then o.backoff else none
    entry := { o.entry with frame := f }, req := if wait then r else none }
  match r with
  | some q => if wait then s else ok s q [(16, 1, (f.data.length : Int))]
  | none => s

/-- The end of an attempt: a waiting replacement takes its place (12 R367). -/
def endAttempt (s : State) (k : Nat) : State :=
  match (s.obj k).next with
  | some (f, r) => armObj (s.onObj k fun o => { o with intx := false }) k f r
  | none => s.onObj k fun o => { o with intx := false }

/-- The order of arbitration of a frame (12 R358). -/
def arbKey (f : CanFrame) : Nat :=
  if f.ide then f.id / 262144 * 1048576 + 524288 + f.id % 262144 * 2 + b2n f.rtr else f.id * 1048576 + b2n f.rtr

/-- A delay in nominal bit times, from the channel's LFSR (12 R360); the LFSR's polynomial and seeding are not given: its next
value is a free value. -/
def drawBackoff (s : State) (k : Nat) : State :=
  let n := (s.obj k).cfg.chan
  let (i, s) := draw s
  let v := Config.choice i % 65536
  countCan ((s.onCh n fun c => { c with lfsr := v }).onObj k fun o => { o with backoff := some (v % 16), redraw := false }) n 5

/-- The armed object that a channel offers: the lowest identifier, ties to the lowest number (12 R358). -/
def offered (s : State) (n : Nat) : Option Nat :=
  ((objsOf s n 2).filter fun k => (s.obj k).pend && (s.obj k).backoff.isNone).foldl (fun (b : Option Nat) k =>
    match b with
    | none => some k
    | some j => if arbKey (s.obj k).entry.frame < arbKey (s.obj j).entry.frame then some k else some j) none

/-- A change of mode or timing takes effect at bus idle (12 R351, R363, R366); a FENCED or STANDBY module stays in MODE 2
(13 R384, R391). -/
def applyCan (s : State) (n : Nat) : State :=
  s.onCh n fun c =>
    let c := match c.cfgNext with
      | some g =>
        if actReady s then { c with cfg := g, cfgNext := none, asleep := g.mode == 4 }
        else { c with cfg := { g with mode := 2 }, cfgNext := none, asleep := false, before := some g.mode }
      | none => c
    if c.waking then { c with waking := false, asleep := false, cfg := { c.cfg with mode := 1 } } else c

/-- CAN_BUS_IDLE (12 R351, R358, R360). -/
def execCanBusIdle (ch : Nat) (s : State) : Host.Outcome State Fault Refusal :=
  .next (if 8 ≤ ch ∨ !(s.ch ch).on then s
    else
      let s := s.each ((objsOf s ch 2).filter fun k => (s.obj k).intx) endAttempt
      let s := applyCan s ch
      let s := s.each ((objsOf s ch 2).filter fun k => (s.obj k).redraw) drawBackoff
      if !chSends s ch then s
      else match offered s ch with
        | some k => endDelays (s.onObj k fun o => { o with intx := true }) ch (some k)
        | none => s)

/-- The object whose attempt is in progress on a channel. -/
def inTx (s : State) (n : Nat) : Option Nat := (objsOf s n 2).find? fun k => (s.obj k).intx

/-! ### Reference messages (12 R364) -/

/-- The payload of a reference message (12 R364). -/
def refPayload (s : State) (n : Nat) : List Byte :=
  let c := s.ch n
  let (t, cyc) := c.refLast.getD (0, 0)
  leBytes 4 (t / 1000000000) ++ leBytes 4 (t % 1000000000) ++
  if c.ref.format = 0 then []
  else leBytes 4 cyc ++ leBytes 2 c.refSeq ++ leBytes 1 (b2n (decide (2 ≤ s.time.tstate))) ++ leBytes 1 0

/-- CAN_TX_SUCCESS (12 R353, R358, R364, R367): a reference message that waited for the end of this attempt names this frame as
its previous one. -/
def execCanTxSuccess (ch sofNs : Nat) (s : State) : Host.Outcome State Fault Refusal :=
  .next (match inTx s ch with
    | none => s
    | some k =>
      let o := s.obj k
      let e : CanEntry := { time := sofNs, cycle := cycleAt s sofNs, frame := o.entry.frame, tx := true, chan := ch, seq := (s.ch ch).seq }
      let s := countCan (storeFrame s ch e) ch 1
      let s := s.onCh ch fun c => { c with
        tec := c.tec - 1
        refLast := if c.ref.enable ∧ c.ref.obj = k then some (sofNs, cycleAt s sofNs) else c.refLast
        refSeq := if c.ref.enable ∧ c.ref.obj = k then (c.refSeq + 1) % 65536 else c.refSeq }
      let s := s.onObj k fun o => { o with pend := false, intx := false, coll := 0, backoff := none, redraw := false, req := none, next := none }
      let s := match o.req with
        | some r => ok s r [(16, 1, (o.entry.frame.data.length : Int)), (24, 8, (sofNs : Int))]
        | none => s
      match o.next with
      | some (f, r) => armObj s k (if (s.ch ch).ref.enable ∧ (s.ch ch).ref.obj = k then { f with data := refPayload s ch } else f) r
      | none => s)

/-- CAN_COLLISION (12 R359, R360): the third collision of a run posts its event, each further one raises the repeat count of its
record. -/
def execCanCollision (ch : Nat) (s : State) : Host.Outcome State Fault Refusal :=
  .next (match inTx s ch with
    | none => s
    | some k =>
      let f := (s.obj k).entry.frame
      let n := min 15 ((s.obj k).coll + 1)
      let s := countCan (countCan (s.onObj k fun o => { o with coll := n, intx := false }) ch 3) ch 4
      let s := addError s ch 8 0
      let id := ((f.id + (if f.ide then 536870912 else 0) : Nat) : Int)
      let s := if n < 3 then s
        else if n = 3 then canEvent (drawBackoff s k) 4 ch id
        else recordOnly (drawBackoff s k) 0x0B 4 ch id
      endAttempt s k)

/-- CAN_BACKOFF_END (12 R360). -/
def execCanBackoffEnd (obj : Nat) (s : State) : Host.Outcome State Fault Refusal :=
  .next (if (s.obj obj).backoff.isNone then s else s.onObj obj fun o => { o with backoff := none })

/-- CAN_ERROR_DETECTED (12 R359, R371): an error outside a collision. -/
def execCanErrorDetected (ch : Nat) (transmitting : Bool) (s : State) : Host.Outcome State Fault Refusal :=
  .next (if 8 ≤ ch ∨ !chListens (s.ch ch) then s
    else
      let s := countCan s ch 3
      if transmitting then
        let s := addError s ch 8 0
        match inTx s ch with | some k => endAttempt s k | none => s
      else addError (endDelays s ch none) ch 0 1)

/-- CAN_BUS_OFF (12 R361, R364). -/
def execCanBusOff (ch : Nat) (s : State) : Host.Outcome State Fault Refusal :=
  .next (if 8 ≤ ch ∨ !chListens (s.ch ch) then s
    else
      let tec := (s.ch ch).tec
      let s := match inTx s ch with | some k => endAttempt s k | none => s
      canEvent (countCan (s.onCh ch fun c => { c with busOff := true, recovering := false, refLast := none }) ch 6) 2 ch tec)

/-- CAN_RECOVERY_DONE (12 R361, R369). -/
def execCanRecoveryDone (ch : Nat) (s : State) : Host.Outcome State Fault Refusal :=
  let c := s.ch ch
  .next (if !c.recovering then s
    else
      let s := s.onCh ch fun c => { c with busOff := false, recovering := false, recReq := none, tec := 0, rec_ := 0 }
      match c.recReq with
      | some r => ok s r
      | none => canEvent s 3 ch 0)

/-- CAN_WAKE (12 R362, R363): in S3, and while it is entered, a wake source of the module (16 R448). -/
def execCanWake (ch : Nat) (s : State) : Host.Outcome State Fault Refusal :=
  let c := s.ch ch
  .next (if !c.asleep ∨ c.wake.wmode = 0 then s
    else if s.pow.mode = 1 then s3Wake (s.onCh ch fun c => { c with woken := true }) 3 0x12
    else canEvent (s.onCh ch fun c => { c with woken := true, waking := c.cfg.mode == 4 }) 5 ch c.wake.wmode)

/-- OBJ_ARM (12 R358). -/
def execObjArm (obj : Nat) (f : CanFrame) (s : State) : Host.Outcome State Fault Refusal :=
  .next (if (s.obj obj).cfg.kind ≠ 2 then s
    else if (s.obj obj).intx then s.onObj obj fun o => { o with next := some (f, none) }
    else armObj s obj f none)

/-! ### Reference messages due (12 R364) -/

/-- CAN_REFERENCE_DUE (12 R361, R364). -/
def execCanReferenceDue (ch : Nat) (s : State) : Host.Outcome State Fault Refusal :=
  let c := s.ch ch
  .next (if 8 ≤ ch ∨ !c.ref.enable ∨ !s.can.tx ∨ !chListens c ∨ (c.ref.format = 0 ∧ s.time.tstate < 2) then s
    else
      let f : CanFrame := { id := c.ref.id, ide := c.ref.ide, fdf := c.ref.format == 1, brs := c.ref.format == 1, data := refPayload s ch }
      let o := s.obj c.ref.obj
      let s := if o.pend then countCan s ch 9 else s
      if o.intx then s.onObj c.ref.obj fun o => { o with next := some (f, none) } else armObj s c.ref.obj f none)

/-! ### BMS reports (06 R175, R176, 12 R365) -/

/-- BMS_REPORT (12 R365): the report is posted as a staged write with its cycle of receipt (06 R175). -/
def execBmsReport (shaft : Nat) (s : State) : Host.Outcome State Fault Refusal :=
  let m : BmsMap := tabGet s.can.bms {} shaft
  let o := s.obj m.obj
  let d := o.entry.frame.data
  let raw := if m.big then beAt d m.offset m.width else leAt d m.offset m.width
  .next (if !m.enable ∨ !o.new_ then s
    else
      let s := s.onObj m.obj fun o => { o with new_ := false }
      if d.length < m.offset + m.width ∨ raw = 256 ^ m.width - 1 then
        canEvent (s.onCan fun c => { c with bmsRej := tabMod c.bmsRej 0 shaft fun v => satAdd max32 v 1 }) 8 o.cfg.chan shaft
      else
        s.onShaft shaft fun t => { t with en := { t.en with
          bmsPend := some (min (raw * m.scale / 65536) 2147483647, o.entry.cycle, tabGet o.entry.drawn t.en.drawn shaft) } })

/-! ### Commands -/

/-- STATE of can.status (12). -/
def canStateCode (c : CanChan) : Nat :=
  if !c.on ∨ c.cfg.mode = 0 then 0 else if c.recovering then 4 else if c.busOff then 3 else if c.asleep then 5
  else if 128 ≤ c.tec ∨ 128 ≤ c.rec_ then 2 else 1

/-- CAN_STATUS (12); the measured loop delay is a free value. -/
def execCanStatus (r : Request) (s : State) : Host.Outcome State Fault Refusal :=
  let n := rq r 16 1
  .next (serve s r 0x3101 true (firstBad [(16, decide (n ≤ 7))]) [] fun r s =>
    let c := s.ch n
    let (i, s) := draw s
    let flags := ofBits [c.cfg.fd, c.cfg.term, s.can.tx, c.woken]
    ok (s.onCh n fun c => { c with woken := false }) r
      ([(16, 1, (n : Int)), (17, 1, (c.cfg.mode : Int)), (18, 1, (canStateCode c : Int)), (19, 1, (flags : Int)), (20, 1, ((min c.tec 255 : Nat) : Int)),
        (21, 1, (c.rec_ : Int)), (22, 2, ((Config.estimate i % 65536 : Nat) : Int))] ++
       (List.range 10).map fun k => (24 + 4 * k, 4, ((tabGet c.cnt 0 k : Nat) : Int))))

/-- Bytes 0 to 87 of a receive entry at an offset of a completion (12 R353). -/
def entryFields (o : Nat) (e : CanEntry) : List (Nat × Nat × Int) :=
  let f := e.frame
  let flags := ofBits [f.fdf, f.brs, f.esi, e.tx, e.early, e.obj != 0xFF]
  [(o, 8, (e.time : Int)), (o + 8, 4, ((e.cycle % 4294967296 : Nat) : Int)),
   (o + 12, 4, ((f.id + b2n f.ide * 536870912 + b2n f.rtr * 1073741824 : Nat) : Int)), (o + 16, 1, (f.data.length : Int)), (o + 17, 1, (flags : Int)),
   (o + 18, 1, (e.obj : Int)), (o + 19, 1, (e.chan : Int)), (o + 20, 4, (e.seq : Int))] ++
  (List.range f.data.length).map fun i => (o + 24 + i, 1, ((byteAt f.data i : Nat) : Int))

/-- Whether a software filter of can.rx.read matches (12 R368). -/
def rxMatches (r : Request) (nf : Nat) (f : CanFrame) : Bool :=
  nf == 0 || (List.range nf).any fun i =>
    let fid := rq r (28 + 8 * i) 4
    Nat.land (Nat.xor f.id (fid % 536870912)) (rq r (32 + 8 * i) 4 % 536870912) == 0 && bitAt fid 29 == f.ide

/-- The scan of a history from a place in it: entries taken, and the number scanned (12 R368). -/
def rxScan (r : Request) (nf : Nat) : Nat → Nat → List CanEntry → List CanEntry × Nat
  | _, _, [] => ([], 0)
  | 0, _, _ => ([], 0)
  | _, 0, _ => ([], 0)
  | want + 1, lim + 1, e :: rest =>
    if rxMatches r nf e.frame then let (l, n) := rxScan r nf want lim rest; (e :: l, n + 1)
    else let (l, n) := rxScan r nf (want + 1) lim rest; (l, n + 1)

/-- Whether SEQ `a` comes before `b` in sequence order of a wrapping number. -/
def seqBefore (a b : Nat) : Bool := decide (0 < (b + 4294967296 - a) % 4294967296 ∧ (b + 4294967296 - a) % 4294967296 < 2147483648)

/-- CAN_RX_READ (12 R368). -/
def execCanRxRead (r : Request) (s : State) : Host.Outcome State Fault Refusal :=
  let kind := rq r 16 1
  let n := rq r 17 1
  let nf := clampN 0 4 (rq r 19 1)
  let clamps := (if kind = 0 then clampedN 18 1 11 (rq r 18 1) else []) ++ clampedN 19 0 4 (rq r 19 1) ++ clampedN 24 1 65536 (rq r 24 4)
  .next (serve s r 0x3102 true (firstBad [(16, decide (kind ≤ 1)), (17, decide (n < if kind = 0 then 8 else 128))]) clamps fun r s =>
    if kind = 0 then
      let h := (s.ch n).hist.reverse
      let from_ := rq r 20 4
      let old := match h.head? with | some e => e.seq | none => (s.ch n).seq
      let gap := !h.isEmpty && seqBefore from_ old
      let (l, k) := rxScan r nf (clampN 1 11 (rq r 18 1)) (clampN 1 65536 (rq r 24 4)) (h.dropWhile fun e => seqBefore e.seq from_)
      let next := ((if gap then old else from_) + k) % 4294967296
      let next := match (h.dropWhile fun e => seqBefore e.seq from_)[k - 1]? with
        | some e => if k = 0 then next else (e.seq + 1) % 4294967296
        | none => next
      ok s r ([(16, 1, (l.length : Int)), (17, 1, (b2n gap : Int)), (20, 4, (next : Int)), (24, 4, (old : Int))] ++
        (List.range l.length).flatMap fun i => entryFields (32 + 88 * i) (l.getD i {})) 0 (contFor (32 + 88 * l.length))
    else
      let o := s.obj n
      let mine := !objOwned s n
      let s := if o.locked then s else s.onObj n fun o => { o with new_ := o.new_ && !mine, ovr := false }
      ok s r ([(16, 1, 1), (17, 1, ((2 * b2n o.new_ : Nat) : Int))] ++ entryFields 32 o.entry) 0 1)

/-- The channel configuration of a request (12 can.config section 0). -/
def canCfgOf (r : Request) : CanCfg :=
  let f := rq r 25 1
  let t2 := clampN 2 128 (rq r 30 1)
  let d2 := clampN 1 16 (rq r 33 1)
  { mode := rq r 24 1, term := bitAt f 0, fd := bitAt f 1, tdc := bitAt f 2, nbrp := clampN 1 32 (rq r 26 1)
    nsjw := clampN 1 t2 (rq r 27 1), ntseg1 := clampN 2 256 (rq r 28 2), ntseg2 := t2, dbrp := clampN 1 32 (rq r 31 1)
    dtseg1 := clampN 1 32 (rq r 32 1), dtseg2 := d2, dsjw := clampN 1 d2 (rq r 34 1), tdco := clampN 0 127 (rq r 35 1) }

/-- Quanta of the nominal and of the data bit, in CAN clocks (12 R350). -/
def nominalClks (c : CanCfg) : Nat := c.nbrp * (1 + c.ntseg1 + c.ntseg2)
/-- Data bit in CAN clocks. -/
def dataClks (c : CanCfg) : Nat := c.dbrp * (1 + c.dtseg1 + c.dtseg2)
/-- Whether the rates are valid (12 R350). -/
def ratesOk (c : CanCfg) : Bool :=
  decide (20000 * nominalClks c ≤ 80000000 ∧ 80000000 ≤ 1000000 * nominalClks c) &&
  decide (500000 * dataClks c ≤ 80000000 ∧ 80000000 ≤ 8000000 * dataClks c) && decide (dataClks c ≤ nominalClks c)

/-- What a section of can.config gives (12). -/
def canPendOf (r : Request) : CanPend :=
  let i := rq r 17 1
  match rq r 16 1 with
  | 0 => .chan i (canCfgOf r)
  | 1 => .obj i { chan := rq r 24 1, kind := rq r 25 1, match_ := rq r 26 1, id := rq r 28 4 % 536870912, mask := rq r 32 4 % 536870912 }
  | 2 => .ref i { enable := rq r 24 1 == 1, format := rq r 25 1, ide := rq r 26 1 == 1, obj := rq r 27 1, id := rq r 28 4
                  period := clampN 1 1000 (rq r 32 2) }
  | _ => .bms i { enable := rq r 24 1 == 1, obj := rq r 25 1, width := rq r 26 1, offset := rq r 27 1, big := rq r 28 1 == 1
                  scale := clampN 1 4294967295 (rq r 32 4) }

/-- The effective values of a section (12 R366). -/
def canEff (r : Request) : List (Nat × Nat × Int) :=
  [(16, 1, (rq r 16 1 : Int)), (17, 1, (rq r 17 1 : Int)), (24, 1, (rq r 24 1 : Int))] ++ match canPendOf r with
  | .chan _ c => [(25, 1, ((ofBits [c.term, c.fd, c.tdc] : Nat) : Int)), (26, 1, (c.nbrp : Int)), (27, 1, (c.nsjw : Int)), (28, 2, (c.ntseg1 : Int)),
      (30, 1, (c.ntseg2 : Int)), (31, 1, (c.dbrp : Int)), (32, 1, (c.dtseg1 : Int)), (33, 1, (c.dtseg2 : Int)), (34, 1, (c.dsjw : Int)), (35, 1, (c.tdco : Int))]
  | .obj _ c => [(25, 1, (c.kind : Int)), (26, 1, (c.match_ : Int)), (28, 4, (c.id : Int)), (32, 4, (c.mask : Int))]
  | .ref _ c => [(25, 1, (c.format : Int)), (26, 1, (b2n c.ide : Int)), (27, 1, (c.obj : Int)), (28, 4, (c.id : Int)), (32, 2, (c.period : Int))]
  | .bms _ c => [(25, 1, (c.obj : Int)), (26, 1, (c.width : Int)), (27, 1, (c.offset : Int)), (28, 1, (b2n c.big : Int)), (32, 4, (c.scale : Int))]
  | .wake _ _ => []

/-- Enumerated fields of can.config (12). -/
def canConfigBad (s : State) (r : Request) : Option Nat :=
  let i := rq r 17 1
  firstBad ((16, decide (rq r 16 1 ≤ 3)) :: match rq r 16 1 with
    | 0 => [(17, decide (i ≤ 7)), (24, decide (rq r 24 1 ≤ 4))]
    | 1 => [(17, decide (i ≤ 127)), (24, decide (rq r 24 1 ≤ 7)), (25, decide (rq r 25 1 ≤ 2)),
            (26, rq r 25 1 != 1 || (decide (rq r 26 1 % 4 ≤ 2) && decide (rq r 26 1 / 4 ≤ 2)))]
    | 2 => [(17, decide (i ≤ 7)), (24, decide (rq r 24 1 ≤ 1)), (25, decide (rq r 25 1 ≤ 1)), (26, decide (rq r 26 1 ≤ 1)), (27, decide (rq r 27 1 ≤ 127)),
            (28, decide (rq r 28 4 ≤ if rq r 26 1 = 1 then 0x1FFFFFFF else 0x7FF))]
    | 3 => [(17, declaredShaft s i), (24, decide (rq r 24 1 ≤ 1)), (25, decide (rq r 25 1 ≤ 127)), (26, rq r 26 1 == 2 || rq r 26 1 == 4),
            (27, decide (rq r 27 1 + rq r 26 1 ≤ 64)), (28, decide (rq r 28 1 ≤ 1))]
    | _ => [])

/-- Clamped fields of can.config (12). -/
def canConfigClamps (r : Request) : List Nat :=
  match rq r 16 1 with
  | 0 => clampedN 26 1 32 (rq r 26 1) ++ clampedN 27 1 (clampN 2 128 (rq r 30 1)) (rq r 27 1) ++ clampedN 28 2 256 (rq r 28 2) ++
      clampedN 30 2 128 (rq r 30 1) ++ clampedN 31 1 32 (rq r 31 1) ++ clampedN 32 1 32 (rq r 32 1) ++ clampedN 33 1 16 (rq r 33 1) ++
      clampedN 34 1 (clampN 1 16 (rq r 33 1)) (rq r 34 1) ++ clampedN 35 0 127 (rq r 35 1)
  | 2 => clampedN 32 1 1000 (rq r 32 2)
  | 3 => clampedN 32 1 4294967295 (rq r 32 4)
  | _ => []

/-- The configuration of a channel that is in force, or that waits for bus idle (12 R351, R366). -/
def cfgDue (c : CanChan) : CanCfg := c.cfgNext.getD c.cfg

/-- What a configuration does when it lands (12 R364, R366, R370). -/
def landCan1 (s : State) (c : CanPend) : State :=
  match c with
  | .chan n g => s.onCh n fun x => { x with cfgNext := some g, refLast := none }
  | .obj k g => s.onObj k fun _ => { cfg := g }
  | .ref n g => s.onCh n fun x => { x with ref := g, refLast := none }
  | .bms h g => s.onCan fun x => { x with bms := tabSet x.bms h g }
  | .wake n g => s.onCh n fun x => { x with wake := g }

/-- The state that the accepted sections before a request leave (12 R366): what a request is checked against. -/
def canPlanned (s : State) : State := s.each s.can.cfgPend fun s x => landCan1 s x.2.1

/-- Whether can.config is refused (12 R366). -/
def canRefused (s : State) (c : CanPend) : Bool :=
  let used := fun (k : Nat) (ref : Nat → Bool) (bms : Nat → Bool) =>
    (s.can.chans.any fun x => x.2.ref.enable && x.2.ref.obj == k && !ref x.1) || s.can.bms.any fun x => x.2.enable && x.2.obj == k && !bms x.1
  match c with
  | .chan n g => !ratesOk g || (g.mode == 4 && (s.ch n).wake.wmode == 0)
  | .obj k _ => objOwned s k
  | .ref n g => (s.obj g.obj).cfg.kind != 2 || (s.obj g.obj).cfg.chan != n || (g.format == 1 && !(cfgDue (s.ch n)).fd) ||
      used g.obj (fun i => i == n) (fun _ => false)
  | .bms h g => (s.obj g.obj).cfg.kind != 1 || used g.obj (fun _ => false) (fun i => i == h)
  | .wake n g => (cfgDue (s.ch n)).mode == 4 ||
      (g.wmode == 2 && !List.contains [640, 320, 160, 80] (nominalClks (cfgDue (s.ch n))))

/-- CAN_CONFIG (12 R366). -/
def execCanConfig (r : Request) (s : State) : Host.Outcome State Fault Refusal :=
  .next (serve s r 0x3110 (actReady s) (canConfigBad s r) (canConfigClamps r) fun r s =>
    let c := canPendOf r
    if canRefused (canPlanned s) c then refused s r else s.onCan fun x => { x with cfgPend := x.cfgPend ++ [(r, c, canEff r)] })

/-- CAN_WAKE_SET (12 R370). -/
def execCanWakeSet (r : Request) (s : State) : Host.Outcome State Fault Refusal :=
  let n := rq r 16 1
  let w : WakeCfg := { wmode := rq r 17 1, wdlc := clampN 0 8 (rq r 18 1), ide := bitAt (rq r 19 1) 0, wid := rq r 20 4 % 536870912
                       wmask := rq r 24 4 % 536870912, dmask := rq r 28 8 }
  .next (serve s r 0x3130 (actReady s) (firstBad [(16, decide (n ≤ 7)), (17, decide (rq r 17 1 ≤ 2))]) (clampedN 18 0 8 (rq r 18 1)) fun r s =>
    if canRefused (canPlanned s) (.wake n w) then refused s r
    else s.onCan fun x => { x with cfgPend := x.cfgPend ++ [(r, .wake n w,
      [(16, 1, (n : Int)), (17, 1, (w.wmode : Int)), (18, 1, (w.wdlc : Int)), (19, 1, (b2n w.ide : Int)), (20, 4, (w.wid : Int)), (24, 4, (w.wmask : Int)),
       (28, 8, (w.dmask : Int))])] })

/-- What waits of CAN lands at a release phase. -/
def landCan (s : State) : State :=
  let l := s.can.cfgPend
  if l.isEmpty then s
  else (s.onCan fun x => { x with cfgPend := [] }).each l fun s x => ok (store (landCan1 s x.2.1) (.can x.2.1)) x.1 x.2.2 (s.time.cycle % 4294967296)

/-- Lengths of FD frames (12 can.send LEN). -/
def fdLen (n : Nat) : Nat := if n ≤ 8 then n else if n ≤ 12 then 12 else if n ≤ 16 then 16 else if n ≤ 20 then 20 else if n ≤ 24 then 24
  else if n ≤ 32 then 32 else if n ≤ 48 then 48 else 64

/-- CAN_SEND (12 R367). -/
def execCanSend (r : Request) (s : State) : Host.Outcome State Fault Refusal :=
  let k := rq r 16 1
  let fl := rq r 17 1
  let fdf := bitAt fl 2
  let most := if fdf then 64 else 8
  let len := if fdf then fdLen (rq r 18 1) else min 8 (rq r 18 1)
  let f : CanFrame := { id := rq r 20 4, ide := bitAt fl 5, rtr := bitAt fl 4, fdf, brs := bitAt fl 3 && fdf
                        data := (rqBytes r 24 (min len (rq r 18 1))) ++ List.replicate (len - rq r 18 1) 0 }
  .next (serve s r 0x3111 (actReady s)
    (firstBad [(16, decide (k ≤ 127)), (20, decide (f.id ≤ if f.ide then 0x1FFFFFFF else 0x7FF))]) (clampedN 18 0 most (rq r 18 1)) fun r s =>
      let o := s.obj k
      let c := s.ch o.cfg.chan
      if o.cfg.kind ≠ 2 ∨ objOwned s k ∨ c.cfg.mode ≠ 1 ∨ !c.on ∨ c.busOff ∨ !s.can.tx ∨ (fdf ∧ (!c.cfg.fd ∨ f.rtr)) ∨ (o.pend ∧ !bitAt fl 0) then
        refused s r
      else if o.intx then s.onObj k fun o => { o with next := some (f, some r) }
      else armObj s k f (some r))

/-- CAN_BUSOFF_RECOVER (12 R361, R369). -/
def execCanBusoffRecover (r : Request) (s : State) : Host.Outcome State Fault Refusal :=
  let n := rq r 16 1
  .next (serve s r 0x3120 (actReady s) (firstBad [(16, decide (n ≤ 7))]) [] fun r s =>
    let c := s.ch n
    if !c.busOff ∨ c.recovering then refused s r
    else
      let s := if bitAt (rq r 17 1) 0 then s.each (objsOf s n 2) fun s k => s.onObj k fun o => { o with pend := false, intx := false, next := none, req := none }
        else s
      s.onCh n fun c => { c with recovering := true, recReq := some r })

end Sys2Proof.Machine
end

