-- ==== Sys2Proof/Machine/CreelOps.lean ====
section
/-! DEFINITION. Creel's admission, metering and hand-over, doorbells, datagrams, and writes of the register space (02). -/
namespace Sys2Proof.Machine

/-! ### Writes of the register space -/

/-- A write of one 32-bit word by a partition (00 R11, 02 R55, R57, 17 R463, 18 R498, 19 R510, 20 R526): stored, acted on,
ignored, or ignored and counted. -/
def writeWord (s : State) (p off v : Nat) : State :=
  if !canReach s p off then countFault s
  else match off / 4096 with
  | 0 =>
    if off = 0x24 then
      if (s.part p).supervisor then
        s.onSupply fun u => { u with
          pfwSeen := u.pfwSeen && !bitAt v 8, fieldLoss := u.fieldLoss && !bitAt v 9,
          overTemp := u.overTemp && !bitAt v 10, cageOff := u.cageOff && !bitAt v 11 }
      else countFault s
    else s
  | 1 =>
    match off with
    | 0x1000 => countFault s | 0x1004 => countFault s | 0x1008 => countFault s | 0x100C => countFault s
    | 0x1018 => s.onHost fun h => { h with bootSq := h.bootSq / 4294967296 * 4294967296 + v }
    | 0x101C => s.onHost fun h => { h with bootSq := v * 4294967296 + h.bootSq % 4294967296 }
    | 0x1020 => s.onHost fun h => { h with bootCq := h.bootCq / 4294967296 * 4294967296 + v }
    | 0x1024 => s.onHost fun h => { h with bootCq := v * 4294967296 + h.bootCq % 4294967296 }
    | _ => s
  | 2 => if off = 0x2000 then s.onPstat p fun t => { t with cursor := v, winSource := 0 } else s
  | 3 =>
    if off = 0x3000 then
      s.onPstat p fun t => { t with selBank := v % 4, selView := bitAt v 2 && ((s.part p).global || t.selView) }
    else s
  | 5 => writeDebug s p off v
  | _ => s

/-! ### Room, tokens and admission -/

/-- Retry-after of a BUSY in µs: the time until the bucket holds `n` tokens, at least 1 (02 R50). -/
def retryAfter (q : Queue) (n : Nat) : Nat :=
  max 1 (((n - q.tokens) * 1000000 - q.acc + q.rate - 1) / q.rate)

/-- A Creel request admitted during stage 1 of an S3 entry latches its abort (16 R446). -/
def abortEntry (s : State) (cause : Nat) : State :=
  if s.pow.mode = 1 ∧ s.pow.stage ≤ 3 ∧ s.pow.latched = none then s.onPow fun w => { w with latched := some cause } else s

/-- Steps 4 and 5 of 02 R46 for one request of a mailbox: no room (false, unchanged), admitted, or answered BUSY. -/
def admitRequest (s : State) (qn : Nat) (r : Request) : Bool × State :=
  let q := s.queue qn
  let n := reqEntries r
  if !hasRoom q r then (false, s)
  else if n ≤ q.tokens then
    let s := s.onQueue qn fun q => { q with
      tokens := q.tokens - n, admitted := q.admitted + 1
      slots := q.slots ++ [{ req := { r with serial := q.admitted }, reserve := maxEntries r }] }
    let s := bumpPart s q.part 0 n
    (true, if s.pow.stage = 1 then abortEntry s 0x13 else s)
  else
    let c : Completion := { opcode := r.opcode, code := 1, tag := r.tag, detail := retryAfter q n }
    let s := s.onQueue qn fun q => { q with slots := q.slots ++ [{ req := r, phase := .done c, reserve := 1 }] }
    (true, flushQueue (bumpPart s q.part 1) qn)

/-- A request read from the entries it occupies (02 R42). -/
def readRequest (qn part port sport : Nat) (src : IpAddr) (es : List (List Byte)) : Request :=
  let e := es.headD []
  { queue := qn, part, port, src, sport, opcode := leAt e 0 2, cont := byteAt e 2, tag := leAt e 4 4,
    payload := e.drop 16 ++ (es.drop 1).flatten }

/-- The whole requests at the front of a list of entries, each with the entries it takes (02 R44, R58); `strict` stops at
a malformed CONT, as a datagram does. -/
def splitRequests (strict : Bool) : Nat → List (List Byte) → Option (List (List (List Byte)))
  | _, [] => some []
  | 0, _ => none
  | k + 1, e :: rest =>
    let c := byteAt e 2
    let n := if 15 < c then 1 else 1 + c
    if strict && decide (15 < c) then none
    else if rest.length + 1 < n then none
    else (splitRequests strict k ((e :: rest).drop n)).map fun l => (e :: rest).take n :: l

/-- Creel takes whole requests from a host ring while it has room for them (02 R47, R58). -/
def pullHost (qn : Nat) : Nat → State → State
  | 0, s => s
  | k + 1, s =>
    let q := s.queue qn
    match q.hostRing with
    | [] => s
    | e :: _ =>
      let n := if 15 < byteAt e 2 then 1 else 1 + byteAt e 2
      if q.hostRing.length < n then s
      else
        let (taken, s') := admitRequest s qn (readRequest qn q.part 0 0 {} (q.hostRing.take n))
        if taken then pullHost qn k (s'.onQueue qn fun q => { q with hostRing := q.hostRing.drop n }) else s

/-! ### Doorbells -/

/-- A doorbell is ignored and counted, its queue named (02 R57, R58). -/
def ignoreDoorbell (s : State) (qn : Nat) : State :=
  (countFault s).onHost fun h => { h with faultQueue := qn }

/-- A mailbox or event queue that exists and is not being deleted. -/
def liveQueue (s : State) (qn : Nat) : Bool := tabHas s.host.queues qn && !(s.queue qn).deleting

/-- Whether a PCIe queue is named with its key tag (02 R46 step 2, R58). -/
def doorOk (s : State) (qn tag : Nat) : Bool :=
  liveQueue s qn && (s.queue qn).transport == 0 && (s.queue qn).key.toNat % 65536 == tag

/-- `n` entries of a host ring: those a command carries, then free ones (02 R58). -/
def hostEntries (k n : Nat) (l : List (List Byte)) : List (List Byte) :=
  l.take n ++ (List.range (n - l.length)).map fun i => (List.range 64).map fun j => Config.hostByte k i j

/-- DB.SUBMIT (02 R57, R58): the entries from the old TAIL to the new are announced and whole requests taken. What an entry
holds that the command does not carry is free. -/
def doSubmit (s : State) (part : Nat) (v : Nat) (entries : List (List Byte)) : State :=
  let qn := bitsOf v 0 20
  let tail := bitsOf v 32 16
  let tag := bitsOf v 48 16
  if !s.sys.creel then bump (ignoreDoorbell s qn) (cCreel 2)
  else if !doorOk s qn tag || (s.queue qn).event then bumpPart (ignoreDoorbell s qn) part 3
  else
    let q := s.queue qn
    let d := depthOf q
    let n := (tail + d - q.tail) % d
    if d ≤ tail ∨ d - 1 < q.hostRing.length + n ∨ (qn = 16 ∧ (s.host.bootSq = 0 ∨ s.host.bootCq = 0)) then
      ignoreDoorbell s qn
    else
      let (k, s) := draw s
      let s := s.onQueue qn fun q => { q with tail, hostRing := q.hostRing ++ hostEntries k n entries }
      pullHost qn (q.hostRing.length + n) s

/-- Completions consumed by `k` more entries (02 R58). -/
def consume : Nat → Nat → List Completion → Nat × List Completion
  | _, k, [] => (k, [])
  | rem, k, c :: r =>
    if compEntries c ≤ rem + k then consume 0 (rem + k - compEntries c) r else (rem + k, c :: r)

/-- DB.COMPHEAD (02 R57, R58): entries are consumed, and requests that waited for room are taken. -/
def doCompHead (s : State) (part : Nat) (v : Nat) : State :=
  let cq := bitsOf v 0 20
  let head := bitsOf v 32 16
  let tag := bitsOf v 48 16
  let qn := if tabHas s.host.queues cq ∧ (s.queue cq).event then cq else if cq % 2 = 1 then cq - 1 else 1048576
  if !s.sys.creel then bump (ignoreDoorbell s cq) (cCreel 2)
  else if !doorOk s qn tag then bumpPart (ignoreDoorbell s cq) part 3
  else
    let q := s.queue qn
    let d := depthOf q
    let n := (head + d - q.head) % d
    if d ≤ head ∨ unconsumed q < n ∨ (qn = 16 ∧ (s.host.bootSq = 0 ∨ s.host.bootCq = 0)) then ignoreDoorbell s cq
    else
      let (rem, comps) := consume q.headRem n q.comps
      let s := s.onQueue qn fun q => { q with head, headRem := rem, comps }
      if q.event then s else pullHost qn q.hostRing.length s

/-- A write of the register space by a partition (02 R545, R57): one access for the registers of one 64-bit value, two 32-bit
accesses in ascending order for the others. A 64-bit write to DB.SUBMIT is a doorbell whose entries no command carries. -/
def writeReg (s : State) (p off width v : Nat) : State :=
  if !goodAccess off width then countFault s
  else if width = 64 then
    if off = 0x1000 then doSubmit s p v []
    else if off = 0x1008 then doCompHead s p v
    else if 0x3800 ≤ off ∧ off < 0x4000 then writeWord s p off (v % 4294967296)
    else writeWord (writeWord s p off (v % 4294967296)) p (off + 4) (v / 4294967296 % 4294967296)
  else writeWord s p off (v % 4294967296)

/-! ### Datagrams -/

/-- Whether an address lies within a source filter (02 R35). -/
def inFilter (p : Partition) (a : IpAddr) : Bool :=
  if a.v6 then p.filter6.any fun x => a.addr / 2 ^ (128 - x.len) == x.addr / 2 ^ (128 - x.len)
  else p.filter4.any fun x => a.addr / 2 ^ (32 - x.len) == x.addr / 2 ^ (32 - x.len)

/-- Whether a binding or transport accepts an Ethernet port (1 or 2). -/
def covers (t port : Nat) : Bool := t == port || t == 3

/-- The partitions bound to a port whose filter accepts a source (02 R46 step 1). -/
def acceptors (s : State) (port : Nat) (a : IpAddr) : List Nat :=
  (s.host.parts.filter fun p => covers p.2.binding port && p.2.binding != 0 && inFilter p.2 a).map (·.1)

/-- Whether a datagram is well formed for its TYPE (02 R60, R62). A datagram of TYPE 02h or 05h, which only the module sends,
or of an undefined TYPE is not: the spec gives it no fate (DESIGN CHOICE 74). -/
def wellFormedDatagram (d : Datagram) : Bool :=
  let b := d.bytes
  let type := byteAt b 1
  let n := leAt b 2 2
  let words := leAt b 34 2
  let off := leAt b 32 2
  !d.fragment && d.checksumOk && decide (32 ≤ b.length) && byteAt b 0 == 1 &&
  match type with
  | 1 => decide (1 ≤ n ∧ n ≤ 16) && b.length == 32 + 64 * n &&
      (splitRequests true 16 ((List.range n).map fun i => (b.drop (32 + 64 * i)).take 64)).isSome
  | 3 => n == 0 && b.length == 36 && decide (1 ≤ words ∧ words ≤ 64) && off % 4 == 0 && decide (off + 4 * words ≤ 65536)
  | 4 => n == 0 && decide (1 ≤ words ∧ words ≤ 64) && b.length == 36 + 4 * words && off % 4 == 0 &&
      decide (off + 4 * words ≤ 65536)
  | _ => false

/-- Management accesses of `n` words from an offset, reading (02 R62). -/
def mgmtRead (p : Nat) : Nat → Nat → State → List Nat × State
  | 0, _, s => ([], s)
  | k + 1, off, s =>
    let (v, s) := readWord s p off
    let (l, s) := mgmtRead p k (off + 4) s
    (v :: l, s)

/-- Management accesses of words from an offset, writing (02 R62). -/
def mgmtWrite (p : Nat) : List Nat → Nat → State → State
  | [], _, s => s
  | v :: r, off, s => mgmtWrite p r (off + 4) (writeWord s p off v)

/-- The queue a datagram names: a mailbox under either of its numbers for management, its request number for requests. -/
def namedQueue (s : State) (type n : Nat) : Nat :=
  if type ≠ 1 ∧ n % 2 = 1 ∧ ¬ tabHas s.host.queues n then n - 1 else n

/-- A Creel datagram of any type passes the order of admission (02 R46, R60, R62). -/
def datagramIn (s : State) (port : Nat) (d : Datagram) : State :=
  let b := d.bytes
  let type := byteAt b 1
  let acc := acceptors s port d.src
  let qn := namedQueue s type (leAt b 4 4 % 1048576)
  let q := s.queue qn
  if !wellFormedDatagram d then bump s (cCreel (port - 1))
  else if !s.sys.creel then bump s (cCreel (port + 2))
  else if acc.isEmpty then bump s (cCreel (port - 1))
  else if !(liveQueue s qn && acc.contains q.part && covers q.transport port && q.key.toNat == leAt b 8 8 &&
      (type != 1 || !q.event) && (type == 1 || (s.part q.part).mgmt)) then
    bumpPart s (if liveQueue s qn ∧ acc.contains q.part then q.part else acc.headD 0) 3
  else if type = 1 then
    let es := (List.range (leAt b 2 2)).map fun i => (b.drop (32 + 64 * i)).take 64
    s.each ((splitRequests true 16 es).getD []) fun s l =>
      let (taken, s') := admitRequest s qn (readRequest qn q.part port d.sport d.src l)
      if taken then s' else bumpPart s q.part 4
  else
    let off := leAt b 32 2
    let n := leAt b 34 2
    let (ws, s) := if type = 3 then mgmtRead q.part n off s
      else ([], mgmtWrite q.part ((List.range n).map fun i => leAt b (36 + 4 * i) 4) off s)
    let s := bump (bumpPart s q.part 10) (cCreel 9)
    sendDatagram s (leAt b 4 4 % 1048576) { port, dst := d.src, dport := d.sport, type := 5, mgmt := some (off, n, ws) }

/-! ### Tokens and hand-over -/

/-- Every request queue's bucket after one more µs (02 R50). -/
def refill (q : Queue) : Queue :=
  if q.event then q
  else
    let a := q.acc + q.rate
    { q with tokens := min (q.tokens + a / 1000000) q.burst, acc := a % 1000000 }

/-- The first request of a mailbox that has not begun service. -/
def firstWaiting (q : Queue) : Option Request := (q.slots.find? fun x => x.phase == .waiting).map (·.req)

/-- That request begins service. -/
def startFirst : List Slot → List Slot
  | [] => []
  | x :: r => if x.phase = .waiting then { x with phase := .started } :: r else x :: startFirst r

/-- Whether a partition has a request waiting. -/
def partWaiting (s : State) (p : Nat) : Bool :=
  s.host.queues.any fun x => x.2.part == p && !x.2.event && (firstWaiting x.2).isSome

/-- The queue of a partition served next: ascending after the one served last, wrapping (02 R51). -/
def nextQueue (s : State) (p : Nat) : Option Nat :=
  let l := (s.host.queues.filter fun x => x.2.part == p && !x.2.event && (firstWaiting x.2).isSome).map (·.1)
  match l.find? fun n => decide ((s.pstat p).lastQ < n) with
  | some n => some n
  | none => l.head?

/-- Cost in entries of the request a partition would hand over next. -/
def nextCost (s : State) (p : Nat) : Nat :=
  match nextQueue s p with
  | none => 0
  | some n => match firstWaiting (s.queue n) with | none => 0 | some r => reqEntries r

/-- The partition whose turn it is by deficit round-robin (02 R51): the present one while its deficit covers its next
request; then each waiting partition in turn, its quantum added. -/
def drrPick : Nat → State → Option Nat × State
  | 0, s => (none, s)
  | k + 1, s =>
    let p := s.host.drrPart
    if partWaiting s p ∧ 2 ≤ p ∧ nextCost s p ≤ (s.pstat p).deficit then (some p, s)
    else
      let s := if partWaiting s p then s else s.onPstat p fun t => { t with deficit := 0 }
      let l := (s.host.parts.filter fun x => decide (2 ≤ x.1) && partWaiting s x.1).map (·.1)
      match (l.find? fun n => decide (p < n)) with
      | some n => drrPick k ((s.onPstat n fun t => { t with deficit := t.deficit + (s.part n).quantum }).onHost fun h => { h with drrPart := n })
      | none =>
        match l.head? with
        | none => (none, s)
        | some n => drrPick k ((s.onPstat n fun t => { t with deficit := t.deficit + (s.part n).quantum }).onHost fun h => { h with drrPart := n })

/-- One whole request of a partition goes to the stake cores; step 6 of 02 R46 answers an unknown one. -/
def handOver (s : State) (p : Nat) : State :=
  match nextQueue s p with
  | none => s
  | some n =>
    match firstWaiting (s.queue n) with
    | none => s
    | some r =>
      let s := s.onQueue n fun q => { q with slots := startFirst q.slots }
      let s := s.onPstat p fun t => { t with lastQ := n, deficit := t.deficit - reqEntries r }
      let s := if partWaiting s p then s else s.onPstat p fun t => { t with deficit := 0 }
      let s := bump s (cCreel 6) (reqEntries r)
      if 15 < r.cont then noSuch s r 2
      else if !knownOpcodes.contains r.opcode then noSuch s r 0
      else if depthOf (s.queue n) - 1 < maxEntries r then refused s r
      else s

/-- Creel takes what the mailboxes written over PCIe announce and now have room for (02 R47, R58). -/
def pullAll (s : State) : State :=
  s.each ((s.host.queues.filter fun p => !p.2.event && !p.2.deleting && !p.2.hostRing.isEmpty).map (·.1)) fun s qn =>
    pullHost qn (s.queue qn).hostRing.length s

/-- Creel hands over one whole request: partitions 0 and 1 first, then by deficit round-robin (02 R51); none while the
application restarts (15 R432) or Creel is closed. -/
def handOverNext (s : State) : State :=
  if !s.sys.creel ∨ s.sys.restart.isSome then s
  else
  let s := pullAll s
  if partWaiting s 0 then handOver s 0
  else if partWaiting s 1 then handOver s 1
  else
    match drrPick (17 * (s.host.parts.length + 1)) s with
    | (some p, s) => handOver s p
    | (none, s) => s

end Sys2Proof.Machine
end

