-- ==== Sys2Proof/Machine/DoorOps.lean ====
section
/-! DEFINITION. Shared operations of the door engine (08): door images, moves, permissions, obstruction tests, edges, learning. -/
namespace Sys2Proof.Machine

/-- A door event (08 R258): class 14h, record of source 07h. -/
def doorEvent (s : State) (d code : Nat) (value : Int) : State :=
  raise s { source := 7, code, subject := d, value, cls := some 0x14,
            fields := [(16, 2, (d : Int)), (18, 1, (code : Int)), (20, 4, (s.time.cycle : Int)), (24, 4, value)] }

/-! ### Places -/

/-- The axes of a door (08 R231). -/
def doorAxes (c : DoorDef) : List Nat := if c.axis1 = 0xFFFF then [c.axis0] else [c.axis0, c.axis1]
/-- Committed doors, in door order. -/
def liveDoors (s : State) : List (Nat × DoorDef) := s.doors.filterMap fun p => p.2.def_.map fun c => (p.1, c)
/-- What the engine keeps of an axis of a door, by its index. -/
def doorAxis (t : DoorSt) (i : Nat) : DoorAxis := if i = 0 then t.x0 else t.x1
/-- A door with what it keeps of an axis changed. -/
def onDoorAxis (t : DoorSt) (i : Nat) (f : DoorAxis → DoorAxis) : DoorSt :=
  if i = 0 then { t with x0 := f t.x0 } else { t with x1 := f t.x1 }
/-- Indexes of a door's axes. -/
def axisIdx (c : DoorDef) : List Nat := List.range (doorAxes c).length
/-- Divider and phase of a door (08 R231). -/
def doorDiv (s : State) (c : DoorDef) : Nat × Nat := let d := (s.axis c.axis0).desc; (dDiv d, dPhase d)
/-- Execution period of a door, in ns. -/
def doorPeriod (s : State) (c : DoorDef) : Nat := (doorDiv s c).1 * cycleNs s.sys.rate
/-- Executions of a door in a number of ms. -/
def doorRuns (s : State) (c : DoorDef) (ms : Nat) : Nat := ms * 1000000 / max 1 (doorPeriod s c)

/-- The car that a car door or landing door has to do with: its car, or one IDLE in the zone of its landing, else any there. -/
def doorCar (s : State) (c : DoorDef) : Option CarCtx :=
  if c.kind = 1 then carCtx s c.car
  else if c.kind = 2 then
    let there := (shaftCars s c.shaft).filter fun x => (s.car x.c.car).placed && landingAt x.cfg (s.car x.c.car).p == some c.landing
    match there.find? fun x => (s.car x.c.car).state == .idle with
    | some x => some x
    | none => there.head?
  else none
/-- The shaft of a door. -/
def doorShaft (s : State) (c : DoorDef) : Option Nat :=
  if c.kind = 1 then (carCtx s c.car).map (·.h) else if c.kind = 2 then some c.shaft else none
/-- The landing in whose zone a door's car stands. -/
def doorLanding (s : State) (c : DoorDef) : Option Nat :=
  match doorCar s c with | some x => landingAt x.cfg (s.car x.c.car).p | none => none
/-- The other door of a pair: the landing door a car door serves, or the car door at a landing (08 R236). -/
def doorPartner (s : State) (c : DoorDef) : Option (Nat × DoorDef) :=
  match doorCar s c with
  | none => none
  | some x => (liveDoors s).find? fun e => e.2.kind != c.kind && e.2.kind != 3 && isCarsDoor x (s.car x.c.car).p e.2

/-- Whether a door is in inspection operation: its shaft is (08 R251). -/
def doorInsp (s : State) (c : DoorDef) : Bool := match doorShaft s c with | some h => s.safety.image.insp.getLsbD h | none => false
/-- The members of a door-only group (08 R252). -/
def groupDoors (s : State) (g : Nat) : List (Nat × DoorDef) := (liveDoors s).filter fun e => e.2.kind == 3 && e.2.group == g
/-- Whether the enable input of a door's group is active (08 R252): a safe input closed in both channels, a digital input. -/
def enableActive (s : State) (c : DoorDef) : Bool :=
  if c.enableIn = 0xFF then true
  else if c.enableIn < 0x10 then (tabGet s.safety.core.pairs {} c.enableIn).closed && (tabGet s.safety.scarp.pairs {} c.enableIn).closed
  else diState s (c.enableIn - 0x10)
/-- The proof of a door (08 R250). -/
def doorProof (s : State) (c : DoorDef) : Bool :=
  let im := s.safety.image
  match c.kind with
  | 1 => im.cd.getLsbD c.car
  | 2 => bitAt (tabGet im.ld 0 c.shaft) c.landing
  | _ => im.proof.getLsbD c.group
/-- Whether every axis of a door is ENABLED. -/
def axesOn (s : State) (c : DoorDef) : Bool := (doorAxes c).all fun a => (s.axis a).state == .enabled

/-- The landings of a shaft not proven locked, with no car in their door zone (08 R251). -/
def unlockedLandings (s : State) (h : Nat) : List Nat :=
  match (s.shaft h).cfg with
  | none => []
  | some cfg => (landings cfg).filter fun l =>
      !bitAt (tabGet s.safety.image.ld 0 h) l &&
      !(shaftCars s h).any fun x => (s.car x.c.car).placed && decide (iabs ((s.car x.c.car).p - landPos cfg l) ≤ cfg.geo.dZone)

/-- Whether 08 R251 and R252 permit a door to open. -/
def mayOpen (s : State) (c : DoorDef) : Bool :=
  if c.kind = 3 then enableActive s c
  else match doorCar s c with
    | none => false
    | some x =>
      let k := s.car x.c.car
      k.state == .idle && k.placed && s.safety.image.eng.getLsbD x.c.car && axesOn s c && (unlockedLandings s x.h).isEmpty &&
      (match landingAt x.cfg k.p with | some l => c.kind == 1 || l == c.landing | none => false)

/-- Whether a door is moving by its state. -/
def doorMoving (t : DoorSt) : Bool := [DoorState.opening, .closing, .reopening, .nudging, .learning].contains t.state
/-- Whether a door at rest stands out of service (08 table "Door states", code 0). -/
def outOfServiceRest (t : DoorSt) : Bool :=
  !t.service && [DoorState.outOfService, .closed, .opened, .held].contains t.state
/-- Code of a door state (08 table "Door states"). -/
def doorCode (t : DoorSt) : Nat :=
  if outOfServiceRest t then 0
  else match t.state with
    | .outOfService => 0 | .notLearned => 1 | .closed => 2 | .opening => 3 | .opened => 4 | .closing => 5 | .reopening => 6
    | .nudging => 7 | .held => 8 | .learning => 9 | .fault => 10

/-! ### Moves (08 R235 to R237) -/

/-- √(2 × E ÷ MASS) in whole µm/s for an energy in mJ and a mass in kg (08 R237). -/
def energySpeed (e m : Nat) : Nat := isqrt (2 * e * 1000000000 / max 1 m)
/-- VP of a move, capped (08 R237). -/
def doorVp (c : DoorDef) (v : Int) : Int := max 1 (min v (energySpeed c.eMax c.mass))

/-- The first executing window at least 2 cycles after the release phase at which a record is posted (08 R236). -/
def doorNs (s : State) (c : DoorDef) : Nat :=
  let (dv, ph) := doorDiv s c
  let n := nextRelease s + 2
  n + (ph + dv - n % dv) % dv

/-- The profile that an axis follows once the records posted before a cycle have taken over. -/
def moveAt (s : State) (a cycle : Nat) : Profile :=
  let x := s.axis a
  let q := (x.staged.filterMap fun w => match w.what with | .doorMove m => some m | _ => none)
  (x.moveNext ++ q).foldl (fun p m => if m.ns < cycle then nextProfile (cycleNs s.sys.rate) (dDiv x.desc) m.ns x.lastY p m else p) x.move

/-- A move record is posted for an axis (08 R235). -/
def postMove (s : State) (a : Nat) (m : DoorMove) : State := stage s a { what := .doorMove m }

/-- The NS of doors that move together: the latest of theirs (08 R236, R253). -/
def sharedNs (s : State) (l : List (Nat × DoorDef)) : Nat := l.foldl (fun n e => max n (doorNs s e.2)) 0

/-- Move records are posted for every axis of a door, with one NS, VP capped for the direction (08 R235 to R237). -/
def moveDoor (s : State) (d : Nat) (c : DoorDef) (ns : Nat) (target v a : Int) : State :=
  let vp := doorVp c (min v (if 0 < target then c.vOpen else c.vClose))
  let s := s.each (doorAxes c) fun s ax => postMove s ax { target, vp, a, j := c.j, blend := c.blend, ns }
  s.onDoor d fun t => { t with
    ns, stopping := false, testHeld := false, tripped := false, opening := decide (0 < target)
    x0 := { t.x0 with t1 := 0, t2 := 0, t3 := 0, sums := [] }
    x1 := { t.x1 with t1 := 0, t2 := 0, t3 := 0, sums := [] } }

/-- An axis stops at a deceleration: a record whose target is its stopping point (08 R235, 06 R172); one at rest needs none,
unless a record that has not started is to be called off. -/
def stopAxis (s : State) (a : Nat) (c : DoorDef) : State :=
  let ns := doorNs s c
  let q := moveAt s a ns
  let x := s.axis a
  let ahead := x.moveNext.any (fun m => decide (ns ≤ m.ns)) ||
    x.staged.any fun w => match w.what with | .doorMove m => decide (ns ≤ m.ns) | _ => false
  if q.phases.isEmpty ∧ !ahead then s
  else
    let k : Kin := if q.phases.isEmpty then { p := x.lastY * 1000 } else profAt q ((ns - dDiv x.desc - q.start) * cycleNs s.sys.rate)
    if k.v = 0 ∧ k.a = 0 ∧ !ahead then s
    else postMove s a { target := stopPoint c.blend k c.aRev c.j, vp := doorVp c (roundK (iabs k.v)), a := c.aRev, j := c.j, blend := c.blend, ns }

/-- A door stops at AREV (08 R241). -/
def stopDoorAxes (s : State) (d : Nat) (c : DoorDef) : State :=
  (s.each (doorAxes c) fun s a => stopAxis s a c).onDoor d fun t => { t with stopping := true }

/-- A digital output owned by a door function is commanded (08 R249, R252, 11 R345). -/
def doorOutput (s : State) (n : Nat) (on : Bool) : State :=
  if 24 ≤ n then s
  else
    let bit := BitVec.ofNat 24 (2 ^ n)
    let now := s.field.doPend.foldl (fun v w => if w.2.1.getLsbD n then w.2.2.getLsbD n else v) (s.field.doCmd.getLsbD n)
    if now = on then s else s.onField fun f => { f with doPend := f.doPend ++ [(none, bit, if on then bit else 0)] }

/-- Nudging ends (08 R249): FLIM is restored. -/
def endNudge (s : State) (d : Nat) (c : DoorDef) : State :=
  let s := if (s.door d).state = .nudging then s.each (doorAxes c) fun s a => stage s a { what := .flim none } else s
  s.onDoor d fun t => { t with nudgeArm := false }

/-- NUDGEDO is cleared, the door CLOSED or reopening (08 R249). -/
def clearNudgeDo (s : State) (d : Nat) (c : DoorDef) : State :=
  if (s.door d).nudgeOut then (doorOutput s c.nudgeDo false).onDoor d fun t => { t with nudgeOut := false } else s

/-- A door whose learning is broken off keeps its previous data (08 R244). -/
def leaveLearning (t : DoorSt) : DoorSt :=
  if t.state = .learning then
    { t with learnLeft := 0, learnMean := [], edges := t.edges.map fun e => { e with ref := e.stored.getD 0 } } else t

/-- A door comes to rest short of its ends (08 table "Door states"). -/
def holdDoor (s : State) (d : Nat) (c : DoorDef) : State :=
  (stopDoorAxes (endNudge s d c) d c).onDoor d fun t => { leaveLearning t with state := .held, hold := c.holdF }

/-- A door goes to FAULT (08 table "Door states"): a moving one stops at AREV. -/
def faultDoor (s : State) (d : Nat) (c : DoorDef) : State :=
  let s := endNudge s d c
  let s := if doorMoving (s.door d) then stopDoorAxes s d c else s
  s.onDoor d fun t => { leaveLearning t with state := .fault, hold := 0, refClose := true, closePend := false, cmdClose := false, retry := false, learnLeft := 0 }

/-- An opening starts at NS (08 R235, R249, R255); a closing door is reversed. -/
def startOpen (s : State) (d : Nat) (c : DoorDef) (ns : Nat) (st : DoorState) : State :=
  let closing := (s.door d).state == .closing || (s.door d).state == .nudging
  let s := clearNudgeDo (endNudge s d c) d c
  (moveDoor s d c ns c.stroke c.vOpen (if closing then c.aRev else c.aOpen)).onDoor d fun t => { t with
    state := st, hold := 0, retry := false, left := false }

/-- The peak velocity of a close that a reference close due limits to VLEARN (08 R239). -/
def closeSpeed (s : State) (d : Nat) (c : DoorDef) (v : Int) : Int := if (s.door d).refClose then min c.vLearn v else v

/-- A close starts at NS (08 R238, R239): the blocked time restarts. -/
def beginClose (s : State) (d : Nat) (c : DoorDef) (ns : Nat) : State :=
  (moveDoor s d c ns 0 (closeSpeed s d c c.vClose) c.aClose).onDoor d fun t => { t with
    state := .closing, hold := 0, closePend := false, cmdClose := false, blocked := false, blockNs := 0, heldRep := false, retry := false }

/-- A nudging close starts at NS with FLIM at FNUDGE (08 R239, R249): the blocked time restarts. -/
def nudgeDoor (s : State) (d : Nat) (c : DoorDef) (ns : Nat) : State :=
  let s := s.each (doorAxes c) fun s a => stage s a { what := .flim (some (BitVec.ofInt 32 c.fNudge)) }
  let v := closeSpeed s d c (min c.vNudge (energySpeed c.eNudge c.mass : Int))
  (moveDoor s d c ns 0 v c.aClose).onDoor d fun t => { t with
    state := .nudging, hold := 0, nudgeArm := false, closePend := false, cmdClose := false, blocked := false, blockNs := 0, heldRep := false
    retry := false }

/-- A reversal to STROKE with deceleration AREV (08 R241): REOPENING, a close pending. -/
def reverseDoor (s : State) (d : Nat) (c : DoorDef) : State :=
  let was := (s.door d).state
  (startOpen s d c (doorNs s c) .reopening).onDoor d fun t => { t with closePend := true, blockNs := if was = .nudging then 0 else t.blockNs }

/-! ### The door image (08 R232) -/

/-- What the image takes of an axis. -/
def axImg (s : State) (a : Nat) : DoorAxImg :=
  let x := s.axis a
  let r := match axisNode s a with | some (r, i, k) => (nodeOf s r i).recs.getD k {} | none => {}
  { p := r.fb0, f := r.fb1, ref := x.release.ref0, stale := x.stale || (axisNode s a).isNone, inref := x.astat.getLsbD 11 }

/-- The image of a door in the window of this cycle. -/
def doorImg (s : State) (c : DoorDef) : DoorImg :=
  { cycle := s.time.cycle, ax := (doorAxes c).map (axImg s)
    blocks := c.edges.map fun e =>
      let nd := tabGet (s.ring e.ring).nodes {} e.node
      (nd.blocks.getD e.block 0, nd.stale) }

/-- The door images of a window: of every door whose axes execute in it. -/
def takeDoorImages (s : State) : State :=
  s.each (liveDoors s) fun s e =>
    let (dv, ph) := doorDiv s e.2
    if (s.axis e.2.axis0).state != .unloaded && s.time.cycle % dv == ph then
      s.onDoor e.1 fun t => { t with imgs := t.imgs ++ [doorImg s e.2] }
    else s

/-! ### Edges (08 R245 to R247) -/

/-- One evaluation of an edge channel (08 R246). -/
def edgeStep (c : DoorDef) (nclean : Nat) (ch : Nat) (blk : BitVec 64) (stale : Bool) (e : EdgeSt) : EdgeSt :=
  let b := blk.toNat
  let seq := bitsOf b 56 8
  let bad := bitAt b (48 + ch)
  if stale ∨ e.seq = some seq ∨ bad then
    let miss := min (e.miss + 1) 255
    if 16 < miss ∨ bad then { e with miss, armed := false, fault := true } else { e with miss }
  else
    let n : Int := (bitsOf b (16 * ch) 16 : Nat)
    let e := { e with seq := some seq, miss := 0, fault := false, count := n.toNat }
    if !e.seeded then { e with base := n, seeded := true, steady := 0 }
    else
      let dlt := n - e.base
      if dlt < -c.noise then { e with base := n, steady := 0, armed := false, det := false, reseeds := min (e.reseeds + 1) 255 }
      else
        let det := e.armed && decide (c.thr < dlt)
        let steady := if !det && decide (iabs dlt ≤ c.noise) then min (e.steady + 1) nclean else 0
        let armed := e.armed || (decide (iabs (e.base - e.ref) ≤ c.refTol) && decide (nclean ≤ steady))
        let e := { e with det, steady, armed }
        if armed && !det then
          let base := e.base + asr (n - e.base) c.dsh
          { e with base, ref := base }
        else e

/-- Whether a channel is valid (08 R247). -/
def edgeValid (e : EdgeSt) : Bool := e.armed && !e.fault

/-- The edges of a door in one evaluation (08 R246), with event 0Dh for a new fault. -/
def evalEdges (s : State) (d : Nat) (c : DoorDef) (im : DoorImg) : State :=
  let s := s.each (List.range c.edges.length) fun s i =>
    let e := (s.door d).edges.getD i {}
    let b := im.blocks.getD i (0, true)
    let e' := edgeStep c (doorRuns s c 500) ((c.edges.getD i {}).chan) b.1 b.2 e
    let s := s.onDoor d fun t => { t with edges := t.edges.set i e' }
    if e'.fault && !e.fault then doorEvent (bump s (cDoor 4)) d 0x0D i else s
  s.onDoor d fun t => { t with clear := if t.edges.all edgeValid then min (t.clear + 1) (doorRuns s c 2000) else 0 }

/-- Whether a reopening input is active (08 T6). -/
def reopenActive (s : State) (c : DoorDef) : Bool :=
  (decide (c.reopen0 < 48) && diState s c.reopen0) || (decide (c.reopen1 < 48) && diState s c.reopen1)

/-! ### Learned force (08 R240, R243, R244) -/

/-- The bin of a position (08 R240). -/
def binOf (c : DoorDef) (p : Int) : Nat := min 255 (p * 256 / max 1 c.stroke).toNat

/-- The learned force at a position: between the two nearest bins, whose places are their middles (08 R240). -/
def learnedAt (c : DoorDef) (l : Tab Int) (p : Int) : Int :=
  let st := max 1 c.stroke
  let num := 512 * p - st
  let i := num / (2 * st)
  if num < 0 then tabGet l 0 0
  else if 255 ≤ i then tabGet l 0 255
  else
    let a := tabGet l 0 i.toNat
    a + (tabGet l 0 (i.toNat + 1) - a) * (num - 2 * st * i) / (2 * st)

/-- A force taken into the sum of its bin. -/
def addBin (t : Tab (Int × Nat)) (b : Nat) (f : Int) : Tab (Int × Nat) :=
  tabMod t (0, 0) b fun e => (e.1 + f, e.2 + 1)

/-- The means of the bins, a bin without a sample like the one before it. -/
def binMeans (t : Tab (Int × Nat)) : Tab Int :=
  let first := match t with | (_, e) :: _ => roundDiv e.1 (max 1 e.2) | [] => 0
  ((List.range 256).foldl (fun (a : Tab Int × Int) b =>
    let v := match tabGet t (0, 0) b with | (_, 0) => a.2 | (f, n) => roundDiv f n
    (a.1 ++ [(b, v)], v)) ([], first)).1

/-- The drift of learned bins after a move without a test (08 R243). -/
def driftBins (c : DoorDef) (sums : Tab (Int × Nat)) (l l0 : Tab Int) : Tab Int :=
  sums.foldl (fun t e =>
    let v := tabGet t 0 e.1
    let b := tabGet l0 0 e.1
    let w := v + (roundDiv e.2.1 (max 1 e.2.2) - v) / 32
    tabSet t e.1 (max (b - c.fDev / 2) (min (b + c.fDev / 2) w))) l

/-- Bins held at an edge of their range (08 R243). -/
def edgeBins (c : DoorDef) (l l0 : Tab Int) : Nat :=
  (l.filter fun e => decide (c.fDev / 2 ≤ iabs (e.2 - tabGet l0 0 e.1))).length

/-- The end of an opening or closing without a test (08 R243). -/
def learnDrift (s : State) (d : Nat) (c : DoorDef) : State :=
  let t := s.door d
  if t.testHeld then s
  else
    s.each (axisIdx c) fun s i =>
      let y := doorAxis (s.door d) i
      match y.learned with
      | none => s
      | some l =>
        let l := if t.opening then { l with open_ := driftBins c y.sums l.open_ l.open0 }
          else { l with close := driftBins c y.sums l.close l.close0 }
        let n := edgeBins c l.open_ l.open0 + edgeBins c l.close l.close0
        let s := s.onDoor d fun t => onDoorAxis t i fun y => { y with learned := some l, sums := [] }
        if 32 ≤ n ∧ !(s.door d).relearn then doorEvent (s.onDoor d fun t => { t with relearn := true }) d 0x0B n else s

/-- The learned force of an axis for a direction at a position; none without learned data. -/
def axisLearned (c : DoorDef) (y : DoorAxis) (opening : Bool) (p : Int) : Option Int :=
  y.learned.map fun l => learnedAt c (if opening then l.open_ else l.close) p

/-! ### Obstruction tests (08 R240) -/

/-- ½ × MASS × v² in whole mJ for a change of position in µm over a period in ns. -/
def moveMj (c : DoorDef) (dp : Int) (ns : Nat) : Int :=
  (c.mass : Int) * dp * dp * 1000000000 / (2 * (max 1 ns : Nat) * (max 1 ns : Nat))
/-- Whether that energy is above 1.1 × EMAX (08 T7), without rounding. -/
def energyAbove (c : DoorDef) (dp : Int) (ns : Nat) : Bool :=
  decide (22 * (c.eMax : Int) * (max 1 ns : Nat) * (max 1 ns : Nat) < 10000000000 * (c.mass : Int) * dp * dp)

/-- The tests of one axis: its counts, the tests that hold, and the kinetic energy (08 R240); the forces of the move in
progress are taken into its sums (08 R243). -/
def axisTests (c : DoorDef) (y : DoorAxis) (im : DoorAxImg) (opening nudging sum : Bool) (ns : Nat) : DoorAxis × List Nat × Int :=
  if im.stale then ({ y with gap := y.gap + 1 }, [], 0)
  else
    let fpc := if nudging then c.fNudge else c.fpc
    let c1 := match axisLearned c y opening im.p with
      | some fl => if opening then decide (c.fDev < im.f - fl) else decide (c.fDev < fl - im.f)
      | none => false
    let c2 := decide (9 * fpc ≤ 10 * (if opening then im.f else -im.f))
    let c3 := decide (c.perrTol < iabs (im.ref - im.p))
    let dp := match y.last with | some q => im.p - q | none => 0
    let e := moveMj c dp (ns * (y.gap + 1))
    let c7 := energyAbove c dp (ns * (y.gap + 1))
    let n := fun (on : Bool) (k : Nat) => if on then min (k + 1) 255 else 0
    let y := { y with t1 := n c1 y.t1, t2 := n c2 y.t2, t3 := n c3 y.t3, t7 := n c7 y.t7, last := some im.p, gap := 0
                      sums := if sum then addBin y.sums (binOf c im.p) im.f else y.sums }
    (y, (if c.obn ≤ y.t1 then [1] else []) ++ (if c.obn ≤ y.t2 then [2] else []) ++ (if c.obn ≤ y.t3 then [3] else []) ++
        (if c.obn ≤ y.t7 then [7] else []), e)

/-- Tests 4 to 6 of a closing door (08 R240). -/
def closingTests (s : State) (c : DoorDef) (t : DoorSt) : List Nat :=
  (if t.edges.any (·.det) then [4] else []) ++ (if t.edges.any fun e => !edgeValid e then [5] else []) ++
  (if reopenActive s c then [6] else [])

end Sys2Proof.Machine
end

