-- ==== Sys2Proof/Machine/DoorEval.lean ====
section
/-! DEFINITION. One evaluation of a door (08 R232): edges, obstruction tests and reactions, arrivals, learning, interlocks,
openings and closes. -/
namespace Sys2Proof.Machine

/-! ### Learning (08 R244) -/

/-- The acceleration blends of a profile: start, end, change of acceleration; at most the first two. -/
def accelBlends (q : Profile) : List (Int × Int × Int) :=
  let l := q.phases.foldl (fun (a : List (Int × Int × Int) × Int) f =>
    (if f.a0 = f.a1 then a.1 else a.1 ++ [(a.2, a.2 + f.dur, f.a1 - f.a0)], a.2 + f.dur)) ([], 0)
  l.1.take 2

/-- The moving mass from the force change across the acceleration blends (08 R244): between two executions of a move. -/
def massStep (q : Profile) (t0 t1 : Int) (f : Int) (y : DoorAxis) : DoorAxis :=
  (accelBlends q).foldl (fun y b =>
    let y := if t0 < b.1 ∧ b.1 ≤ t1 then { y with f0 := f } else y
    if t0 < b.2.1 ∧ b.2.1 ≤ t1 ∧ b.2.2 ≠ 0 then
      { y with lMass := (y.lMass.1 + (f - y.f0) * 10000000 / b.2.2, y.lMass.2 + 1) } else y) y

/-- What learning takes from an execution of a moving axis. -/
def learnStep (s : State) (c : DoorDef) (t : DoorSt) (a : Nat) (cycle : Nat) (im : DoorAxImg) (y : DoorAxis) : DoorAxis :=
  if im.stale ∨ 2 * t.learnCycles < t.learnLeft then y
  else
    let q := (s.axis a).move
    let t1 : Int := ((cycle : Int) - q.start) * cycleNs s.sys.rate
    let y := massStep q (t1 - doorPeriod s c) t1 im.f y
    if t.opening then { y with lOpen := addBin y.lOpen (binOf c im.p) im.f } else { y with lClose := addBin y.lClose (binOf c im.p) im.f }

/-- The learned mass of an axis: the mean of its samples (08 R244). -/
def massOf (y : DoorAxis) : Nat := (roundDiv y.lMass.1 (max 1 y.lMass.2)).toNat

/-- Learning fails (08 R244): FAULT, event 05h with the failing condition; the previous data stay. -/
def learnFail (s : State) (d : Nat) (c : DoorDef) (why : Nat) : State := doorEvent (faultDoor s d c) d 5 why

/-- The reference of a channel as learned: its mean count over the last 1 s at OPEN (08 R244). -/
def learnedRef (t : DoorSt) (i : Nat) : Int := tabGet t.learnMean (t.edges.getD i {}).ref i

/-- Learning ends (08 R244): its conditions are tested and the learned data replaced. -/
def learnEnd (s : State) (d : Nat) (c : DoorDef) : State :=
  let t := s.door d
  let mass := (axisIdx c).foldl (fun n i => n + massOf (doorAxis t i)) 0
  if 2 * mass < c.mass ∨ c.mass < mass then learnFail s d c 2
  else if (List.range t.edges.length).any fun i => decide (learnedRef t i < 0) || decide (65535 - c.thr < learnedRef t i) then learnFail s d c 3
  else
    let fix := fun (y : DoorAxis) =>
      let o := binMeans y.lOpen
      let k := binMeans y.lClose
      { y with learned := some { open_ := o, close := k, open0 := o, close0 := k, mass := massOf y }, lOpen := [], lClose := [], lMass := (0, 0) }
    let s := s.onDoor d fun t =>
      let t := (axisIdx c).foldl (fun t i => onDoorAxis t i fix) t
      { t with state := .closed, service := false, refClose := true, relearn := false, hold := -c.holdF
               edges := (List.range t.edges.length).map fun i => { t.edges.getD i {} with ref := learnedRef t i, stored := some (learnedRef t i) }
               learnMean := [] }
    let t := s.door d
    let s := store (store (store s (.learned d t.x0.learned t.x1.learned)) (.edgeRefs d (t.edges.map (·.stored)))) (.service d false)
    doorEvent s d 4 mass

/-- Learning at an end of its travel (08 R244): at OPEN the edge references are taken over 1 s, then the next move starts. -/
def learnArrive (s : State) (d : Nat) (c : DoorDef) (im : DoorImg) : State :=
  let t := s.door d
  if t.opening then
    let need := doorRuns s c 1000
    if c.edges.isEmpty ∨ need < t.learnWait then
      (moveDoor s d c (doorNs s c) 0 c.vLearn c.aLearn).onDoor d fun t => { t with learnLeft := t.learnLeft - 1, learnWait := 0, learnRef := [] }
    else
      let counts := (List.range c.edges.length).map fun i => ((t.edges.getD i {}).count, (im.blocks.getD i (0, true)).2)
      let sums := (List.range c.edges.length).foldl (fun r i =>
        let e := counts.getD i (0, true)
        if e.2 then r else addBin r i e.1) t.learnRef
      let means := sums.map fun e => (e.1, roundDiv e.2.1 (max 1 e.2.2))
      s.onDoor d fun t => { t with
        learnWait := t.learnWait + 1, learnRef := sums
        learnMean := if t.learnWait + 1 ≤ need then t.learnMean else means
        edges := if t.learnWait + 1 ≤ need then t.edges
          else (List.range t.edges.length).map fun i => let e := t.edges.getD i {}; { e with ref := tabGet means e.ref i } }
  else
    let s := s.onDoor d fun t => { t with learnLeft := t.learnLeft - 1 }
    if (s.door d).learnLeft = 0 then learnEnd s d c else moveDoor s d c (doorNs s c) c.stroke c.vLearn c.aLearn

/-! ### Tests and reactions (08 R240, R241) -/

/-- The reaction to the tests that hold, in rising order (08 R241). -/
def react (s : State) (d : Nat) (c : DoorDef) (hits : List Nat) (energy : Int) : State :=
  let t := s.door d
  let first := hits.headD 0
  let pair := doorPartner s c
  let onPair := fun (s : State) (f : State → Nat → DoorDef → State) (l : List DoorState) =>
    match pair with
    | some (e, b) => if l.contains (s.door e).state && !(s.door e).stopping then f s e b else s
    | none => s
  if t.state = .learning then if hits = [1] then s else learnFail s d c 1
  else if hits.contains 7 then
    let s := onPair (faultDoor s d c) holdDoor [.opening, .reopening, .closing, .nudging]
    doorEvent s d (if first = 7 then 3 else if t.opening then 2 else 1) (if first = 7 then energy else if t.opening then t.failOpen else first)
  else if t.opening then
    let n := min 3 (t.failOpen + 1)
    let s := s.onDoor d fun t => { t with failOpen := n }
    let s := onPair s holdDoor [.opening, .reopening]
    let s := if n = 3 then faultDoor s d c else (holdDoor s d c).onDoor d fun t => { t with retry := true }
    doorEvent s d 2 n
  else
    let s := onPair (reverseDoor s d c) reverseDoor [.closing, .nudging]
    doorEvent (bump s (cDoor 1)) d 1 first

/-- Whether an axis is in a profile at the window of a cycle. -/
def axisMoves (s : State) (a cycle : Nat) : Bool :=
  let q := (s.axis a).move
  !q.phases.isEmpty && decide (q.start ≤ cycle) && !decide (q.total ≤ (cycle - q.start) * cycleNs s.sys.rate)
/-- Whether a moving door travels in the opening direction at the window of a cycle; at rest, that of its latest record. -/
def travelsOpen (s : State) (c : DoorDef) (t : DoorSt) (cycle : Nat) : Bool :=
  match (doorAxes c).find? fun a => axisMoves s a cycle with
  | none => t.opening
  | some a =>
    let q := (s.axis a).move
    let v := (profAt q ((cycle - q.start) * cycleNs s.sys.rate)).v
    if 0 < v then true else if v < 0 then false else t.opening

/-- Whether a test that holds has a reaction in the state of a door (08 R241): a door already reversing or stopping has made
its own. -/
def reacts (t : DoorSt) (opens : Bool) (test : Nat) : Bool :=
  match t.state with
  | .fault => false
  | .learning => true
  | .opening | .reopening => test == 7 || (opens && !t.stopping && decide (test ≤ 3))
  | .closing | .nudging => test == 7 || (!opens && !t.stopping)
  | _ => test == 7

/-- An axis not moving has no previous position (08 T7). -/
def restAxis (y : DoorAxis) : DoorAxis := { y with last := none, gap := 0, t7 := 0 }

/-- The obstruction tests of an evaluation and their reaction (08 R240, R241): of a door in a move, or still in the profile of
the record before, or stopping. -/
def evalTests (s : State) (d : Nat) (c : DoorDef) (im : DoorImg) : State :=
  let t := s.door d
  let now := doorMoving t && !t.stopping && decide (t.ns ≤ im.cycle)
  if !now ∧ !(doorAxes c).any fun a => axisMoves s a im.cycle then s.onDoor d fun t => { t with x0 := restAxis t.x0, x1 := restAxis t.x1 }
  else
    let ns := doorPeriod s c
    let nudging := t.state == .nudging
    let opens := travelsOpen s c t im.cycle
    let (t', hits, e) := (axisIdx c).foldl (fun (a : DoorSt × List Nat × Int) i =>
      let x := im.ax.getD i {}
      let (y, h, e) := axisTests c (doorAxis a.1 i) x opens nudging (now && opens == t.opening) ns
      let y := if now ∧ t.state = .learning then learnStep s c t ((doorAxes c).getD i 0) im.cycle x y else y
      (onDoorAxis a.1 i fun _ => y, a.2.1 ++ h, max a.2.2 e)) (t, [], 0)
    let held := hits ++ (if opens || nudging then [] else closingTests s c t)
    let hits := (List.range 8).filter fun n => held.contains n && reacts t opens n
    let s := s.onDoor d fun _ => { t' with testHeld := t'.testHeld || (now && !held.isEmpty) }
    if hits.isEmpty then s
    else
      let s := s.onDoor d fun t => { t with obstr := satAdd max32 t.obstr hits.length, lastTest := hits.headD 0, testHeld := true }
      let s := bump s (cDoor 0) hits.length
      react (if hits.contains 7 then bump s (cDoor 2) else s) d c hits e

/-- A tripped axis puts the door in FAULT; the other axis stops at AREV and is disabled once at rest (08 R241). -/
def evalTrips (s : State) (d : Nat) (c : DoorDef) : State :=
  let trip := fun (a : Nat) => (s.axis a).sup.level == 3
  if !(doorAxes c).any trip then s
  else if !(s.door d).tripped then
    (if (s.door d).state = .fault then stopDoorAxes s d c else faultDoor s d c).onDoor d fun t => { t with tripped := true }
  else
    s.each (doorAxes c) fun s a =>
      let x := s.axis a
      let q := x.move
      let rest := x.moveNext.isEmpty && !(x.staged.any fun w => match w.what with | .doorMove _ => true | _ => false) &&
        decide (q.total ≤ (s.time.cycle - q.start) * cycleNs s.sys.rate)
      if trip a || !rest || x.state != .enabled || (x.staged.any fun w => w.what == .disable) then s
      else stage s a { what := .disable }

/-! ### Arrivals -/

/-- Whether every axis of a door has ended its move within INREF (08 table "Door states", 04 R135). -/
def hasArrived (s : State) (c : DoorDef) (im : DoorImg) : Bool :=
  (axisIdx c).all fun i =>
    let x := s.axis ((doorAxes c).getD i 0)
    let y := im.ax.getD i {}
    x.moveNext.isEmpty && !(x.staged.any fun w => match w.what with | .doorMove _ => true | _ => false) &&
    decide (x.move.total ≤ (im.cycle - x.move.start) * cycleNs s.sys.rate) && y.inref && !y.stale

/-- A door reaches OPEN (08 R238, 09 R269). -/
def reachOpen (s : State) (d : Nat) (c : DoorDef) : State :=
  let s := (learnDrift s d c).onDoor d fun t => { t with state := .opened, failOpen := 0, hold := c.holdF }
  match doorCar s c with
  | some x =>
    let car := c.kind == 1 || !(liveDoors s).any fun e => e.2.kind == 1 && e.2.car == x.c.car
    match landingAt x.cfg (s.car x.c.car).p with
    | some l => if car then report s (.doorOpen x.c.car l) else s
    | none => s
  | none => s

/-- A door reaches CLOSED (08 R239, R248, R249). -/
def reachClosed (s : State) (d : Nat) (c : DoorDef) : State :=
  (clearNudgeDo (endNudge (learnDrift s d c) d c) d c).onDoor d fun t => { t with
    state := if (axisIdx c).all fun i => (doorAxis t i).learned.isSome then .closed else .notLearned
    hold := -c.holdF, refClose := false, closePend := false, cmdClose := false, blocked := false, blockNs := 0, heldRep := false }

/-- The arrival of a moving door (08 table "Door states"). -/
def evalArrival (s : State) (d : Nat) (c : DoorDef) (im : DoorImg) : State :=
  let t := s.door d
  if !doorMoving t ∨ t.stopping ∨ im.cycle < t.ns ∨ !hasArrived s c im then s
  else match t.state with
    | .learning => learnArrive s d c im
    | .opening | .reopening => reachOpen s d c
    | _ => reachClosed s d c

/-- The coupling of a car door and its landing door (08 R236), in the car door's evaluation. -/
def evalCoupling (s : State) (d : Nat) (c : DoorDef) (im : DoorImg) : State :=
  if c.kind ≠ 1 then s
  else match doorPartner s c with
    | none => s
    | some (e, b) =>
      let t := s.door d
      let u := s.door e
      let up := fun (x : DoorSt) => x.state == .opening || x.state == .reopening
      let down := fun (x : DoorSt) => x.state == .closing || x.state == .nudging
      match (u.imgs ++ [u.img]).find? fun i => i.cycle == im.cycle with
      | some o =>
        let diff := iabs ((im.ax.getD 0 {}).p - (o.ax.getD 0 {}).p)
        let together := ((up t && up u) || (down t && down u)) && !t.stopping && !u.stopping && decide (t.ns ≤ im.cycle) && decide (u.ns ≤ im.cycle)
        let n := if together ∧ c.coupTol < diff then t.coupBad + 1 else 0
        let s := s.onDoor d fun t => { t with coupBad := n }
        if n < 2 then s
        else doorEvent (bump (holdDoor (holdDoor (s.onDoor d fun t => { t with coupBad := 0 }) d c) e b) (cDoor 3)) d 0x0A diff
      | none => s

/-! ### Interlocks (08 R251, R252) -/

/-- The interlocks of a shaft as a door's evaluation decides them (08 R251): landing doors not proven locked, proofs lost. -/
def evalLocks (s : State) (d h : Nat) : State :=
  let open_ := unlockedLandings s h
  let was := (s.shaft h).unlocked
  let s := s.onShaft h fun t => { t with unlocked := open_ }
  let s := s.each (open_.filter fun l => !was.contains l) fun s l => doorEvent s d 8 l
  let s := if open_.isEmpty then s else s.each (shaftCars s h) fun s x => stopMode s x 0
  s.each (shaftCars s h) fun s x =>
    let k := s.car x.c.car
    let proven := startProof s x (k.lo, k.hi)
    let s' := s.onCar x.c.car fun k => { k with proven }
    if k.proven && !proven && k.state != .idle then doorEvent (stopMode s' x 0) d 7 x.c.car else s'

/-- Whether a door stands or moves elsewhere than at CLOSED: one that is to be HELD when its car leaves the door zone. -/
def notAtClosed (t : DoorSt) : Bool := doorMoving t || t.state == .opened || t.state == .held

/-- A car that leaves the door zone with its door not proven closed (08 R251): its doors and the landing's are HELD. -/
def evalLeft (s : State) (d : Nat) (c : DoorDef) : State :=
  if c.kind ≠ 1 then s
  else match carCtx s c.car with
    | none => s
    | some x =>
      let k := s.car c.car
      let out := k.placed && (landingAt x.cfg k.p).isNone && !s.safety.image.cd.getLsbD c.car
      if !out ∨ (s.door d).left then s.onDoor d fun t => { t with left := out }
      else
        let near := (landings x.cfg).foldl (fun (b : Nat) l =>
          if iabs (landPos x.cfg l - k.p) < iabs (landPos x.cfg b - k.p) then l else b) 0
        let s := (if notAtClosed (s.door d) then holdDoor s d c else s).onDoor d fun t => { t with left := true }
        let s := s.each ((liveDoors s).filter fun e => e.2.kind == 2 && e.2.shaft == x.h && e.2.landing == near && notAtClosed (s.door e.1))
          fun s e => holdDoor s e.1 e.2
        doorEvent s d 9 c.car

/-- Loss of the enable input of a door-only group (08 R252). -/
def evalEnable (s : State) (d : Nat) (c : DoorDef) : State :=
  if c.kind ≠ 3 ∨ enableActive s c then s
  else match (s.door d).state with
    | .opening | .reopening => holdDoor s d c
    | .learning => if (s.door d).opening then holdDoor s d c else s
    | .opened => s.onDoor d fun t => { t with closePend := true }
    | _ => s

/-- The closed-and-locked output of a group (08 R252). -/
def evalGroup (s : State) (c : DoorDef) : State :=
  if c.kind ≠ 3 then s
  else
    let l := groupDoors s c.group
    match l.head? with
    | some (_, b) => doorOutput s b.closedDo ((l.all fun e => doorCode (s.door e.1) == 2) && s.safety.image.proof.getLsbD c.group)
    | none => s

/-! ### Openings and closes (08 R238, R248, R251) -/

/-- Whether the car of a door wants its doors open: a stop with calls is served, or the rescue sequence has brought it to a
landing (08 R251, 09 R270). -/
def wantsOpen (s : State) (x : CarCtx) : Bool :=
  let k := s.car x.c.car
  match landingAt x.cfg k.p with
  | none => false
  | some l => k.state == .idle &&
    ((s.shaft x.h).en.rescue || (k.serving && match (tabGet s.disp.lists [] x.c.car).head? with
      | some t => t.landing == l && (!t.picks.isEmpty || !t.drops.isEmpty)
      | none => false))

/-- Whether a car that would start waits for its doors (08 R251). -/
def startWaits (s : State) (x : CarCtx) : Bool :=
  let k := s.car x.c.car
  k.state == .idle && !wantsOpen s x && match headOf s x.c.car with
    | some t => decide (1 ≤ iabs (landPos x.cfg t.landing - k.p)) && !startProof s x (claimTo x { k with refP := k.p, refV := 0, refA := 0 } (landPos x.cfg t.landing))
    | none => false

/-- Whether a door may be opened by the engine: in service, at rest, not held for lateness or a retry. -/
def engineOpens (s : State) (d : Nat) (c : DoorDef) : Bool :=
  let t := s.door d
  t.service && (t.state == .closed || t.state == .held) && !t.lateHold && !t.retry && !t.left && mayOpen s c

/-- The openings of the engine (08 R236, R251). -/
def evalOpen (s : State) (d : Nat) (c : DoorDef) : State :=
  match doorCar s c with
  | none => s
  | some x =>
    if doorInsp s c || !wantsOpen s x || !engineOpens s d c then s
    else
      let s := match doorPartner s c with
        | some (e, b) => if engineOpens s e b then startOpen s e b (doorNs s b) .opening else s
        | none => s
      startOpen s d c (doorNs s c) .opening

/-- What blocks a pending close (08 R238, R247): a channel, another cause, or nothing. -/
inductive CloseBlock where
  | none | channel (i : Nat) | other
  deriving DecidableEq, Repr

/-- What of 08 R238 blocks a pending close of a door. -/
def closeBlock (s : State) (c : DoorDef) (t : DoorSt) : CloseBlock :=
  match (List.range t.edges.length).find? fun i => let e := t.edges.getD i {}; e.det || !edgeValid e with
  | some i => .channel i
  | none =>
    if !t.edges.isEmpty ∧ t.clear < doorRuns s c 2000 then .other
    else if reopenActive s c || t.holdOpen || t.rescue || t.state == .reopening then .other else .none

/-- Whether a pending close may start now (08 R233, R238, R249, R251). -/
def closeReady (s : State) (c : DoorDef) (t : DoorSt) : Bool :=
  t.closePend && closeBlock s c t == .none && axesOn s c && !t.lateHold && !t.nudgeArm &&
  (t.cmdClose || (t.service && !doorInsp s c)) && [DoorState.opened, .held, .outOfService, .notLearned].contains t.state

/-- The doors whose close starts with that of a door, at one NS: the other door of its pair, which waits for its own close to
be pending, and the members of its group that have one pending (08 R236, R253). -/
def closeMates (s : State) (d : Nat) (c : DoorDef) : List (Nat × DoorDef) :=
  let able := fun (e : Nat × DoorDef) => e.1 != d && axesOn s e.2 && !(s.door e.1).lateHold
  let pending := fun (e : Nat × DoorDef) => (s.door e.1).closePend && [DoorState.opened, .held].contains (s.door e.1).state
  let comes := fun (e : Nat × DoorDef) =>
    (s.door e.1).service && !doorInsp s e.2 && [DoorState.opened, .opening, .reopening].contains (s.door e.1).state
  if c.kind = 3 then (if c.group = 0xFF then [] else (groupDoors s c.group).filter fun e => able e && pending e)
  else (doorPartner s c).toList.filter fun e => able e && (pending e || comes e)

/-- The close sequencing and the blocked time of an evaluation (08 R238, R248). -/
def evalClose (s : State) (d : Nat) (c : DoorDef) : State :=
  let s := match doorCar s c with
    | some x =>
      if c.kind ≠ 3 ∧ (s.door d).service ∧ ((s.door d).state = .held ∨ (s.door d).state = .opened ∧ !(s.car x.c.car).serving) ∧
          !(s.door d).retry ∧ !doorInsp s c ∧ startWaits s x then
        s.onDoor d fun t => { t with closePend := true } else s
    | none => s
  let t := s.door d
  if !t.closePend then s.onDoor d fun t => { t with blocked := false }
  else if t.state = .closed then s.onDoor d fun t => { t with closePend := false, cmdClose := false, blocked := false, blockNs := 0, heldRep := false }
  else
    let mates := closeMates s d c
    if closeReady s c t && mates.all fun e => closeReady s e.2 (s.door e.1) then
      let l := (d, c) :: mates
      let ns := sharedNs s l
      s.each l fun s e => beginClose s e.1 e.2 ns
    else
      let blocked := closeBlock s c t != .none
      let add := if t.service ∧ blocked then doorPeriod s c else 0
      s.onDoor d fun t => { t with blocked, blockNs := min 180000000000 (t.blockNs + add) }

/-- The rescue hold of a door (08 R251): it ends with the rescue, a close pending. -/
def evalRescue (s : State) (d : Nat) (c : DoorDef) : State :=
  let on := match doorShaft s c with | some h => (s.shaft h).en.rescue | none => false
  s.onDoor d fun t => { t with rescue := on, closePend := t.closePend || (t.rescue && !on && t.state == .opened && t.service) }

/-- The count of evaluations in time (08 R233). -/
def evalTimely (s : State) (d : Nat) : State :=
  s.onDoor d fun t =>
    if t.lateNow then { t with lateNow := false, okRun := 0 }
    else
      let n := min 16 (t.okRun + 1)
      { t with lateRun := 0, okRun := n, lateHold := t.lateHold && decide (n < 16), closePend := t.closePend || (t.lateHold && decide (16 ≤ n)) }

/-- One evaluation of a door from an image (08 R232). -/
def evalDoor (s : State) (d : Nat) (c : DoorDef) (im : DoorImg) : State :=
  let s := s.onDoor d fun t => { t with img := im }
  let s := evalEdges s d c im
  let s := evalCoupling (evalTests s d c im) d c im
  let s := evalArrival (evalTrips s d c) d c im
  let s := match doorShaft s c with | some h => evalLocks s d h | none => s
  let s := evalEnable (evalLeft s d c) d c
  let s := evalOpen (evalTimely (evalRescue s d c) d) d c
  evalGroup (evalClose s d c) c

end Sys2Proof.Machine
end

