-- ==== Sys2Proof/Machine/Doors.lean ====
section
/-! DEFINITION. Meanings of the door class 14h and of the moments of a door (08). -/
namespace Sys2Proof.Machine

/-- Whether a door number names a committed door. -/
def knownDoor (s : State) (d : Nat) : Bool := (s.door d).def_.isSome

/-! ### Status -/

/-- DOOR_STATUS (08). -/
def execDoorStatus (r : Request) (s : State) : Host.Outcome State Fault Refusal :=
  let d := rq r 16 2
  .next (serve s r 0x1401 (loopReady s) (firstBad [(16, knownDoor s d)]) [] fun r s =>
    let t := s.door d
    let c := t.def_.getD {}
    let y := t.img.ax.getD 0 {}
    let flags := ofBits [t.closePend, t.blocked, doorProof s c, t.holdOpen, t.rescue, t.nudgeArm, t.relearn, t.refClose]
    let mass := (axisIdx c).foldl (fun n i => n + match (doorAxis t i).learned with | some l => l.mass | none => 0) 0
    ok s r [(16, 2, (d : Int)), (18, 1, (doorCode t : Int)), (19, 1, (flags : Int)), (20, 4, y.p), (24, 4, y.f),
      (28, 4, (axisLearned c t.x0 t.opening y.p).getD 0), (32, 4, ((t.blockNs / 1000000 : Nat) : Int)), (36, 1, (t.lastTest : Int)),
      (37, 1, (t.failOpen : Int)), (40, 4, (t.obstr : Int)), (44, 4, (t.late : Int)), (48, 4, ((mass : Nat) : Int)),
      (52, 4, ((t.img.cycle % 4294967296 : Nat) : Int))])

/-- STATE of edge.status (08). -/
def edgeCode (e : EdgeSt) : Nat :=
  if e.fault then 4 else if !e.seeded then 0 else if !e.armed then 1 else if e.det then 3 else 2

/-- EDGE_STATUS (08 R247). -/
def execEdgeStatus (r : Request) (s : State) : Host.Outcome State Fault Refusal :=
  let d := rq r 16 2
  .next (serve s r 0x1402 (loopReady s) (firstBad [(16, knownDoor s d)]) [] fun r s =>
    let l := (s.door d).edges
    ok s r ((16, 1, (l.length : Int)) :: (List.range l.length).flatMap fun i =>
      let e := l.getD i {}
      let o := 24 + 8 * i
      [(o, 2, (e.count : Int)), (o + 2, 2, e.base), (o + 4, 2, e.ref), (o + 6, 1, (edgeCode e : Int)), (o + 7, 1, (e.reseeds : Int))]))

/-! ### door.open, door.close, door.learn (08 R255 to R257) -/

/-- The doors that a request names: one door, or the members of a group with FLAGS[0]. -/
def namedDoors (s : State) (r : Request) : List (Nat × DoorDef) :=
  let n := rq r 16 2
  if bitAt (rq r 18 1) 0 then (if n ≤ 63 then groupDoors s n else [])
  else match (s.door n).def_ with | some c => [(n, c)] | none => []

/-- Completion fields of a door command: the state of each door named, in door order. -/
def doorStates (s : State) (l : List (Nat × DoorDef)) : List (Nat × Nat × Int) :=
  (List.range l.length).map fun i => (16 + i, 1, (doorCode (s.door (l.getD i (0, {})).1) : Int))

/-- Whether door.open is taken for a door (08 R255). -/
def openable (s : State) (d : Nat) (c : DoorDef) : Bool :=
  let t := s.door d
  t.state != .fault && t.state != .learning && t.state != .notLearned && (t.state == .opened || mayOpen s c)

/-- door.open on a door (08 R255), moved at NS. -/
def openDoor (s : State) (d : Nat) (c : DoorDef) (ns : Nat) (hold : Bool) : State :=
  match (s.door d).state with
  | .opened => s
  | .opening | .reopening => s.onDoor d fun t => { t with holdOpen := hold, closePend := false, cmdClose := false }
  | _ => (startOpen s d c ns .opening).onDoor d fun t => { t with
      holdOpen := hold, closePend := false, cmdClose := false, blocked := false }

/-- The doors that move with those that door.open names: the other door of a pair, in service, that is not open (08 R236). -/
def openMates (s : State) (l : List (Nat × DoorDef)) : List (Nat × DoorDef) :=
  l.flatMap fun e => (doorPartner s e.2).toList.filter fun b =>
    (s.door e.1).state != .opened && (s.door b.1).service && openable s b.1 b.2 &&
    [DoorState.closed, .held, .closing, .nudging].contains (s.door b.1).state

/-- DOOR_OPEN (08 R253, R255). -/
def execDoorOpen (r : Request) (s : State) : Host.Outcome State Fault Refusal :=
  .next (serve s r 0x1410 (loopReady s && actReady s) (firstBad [(16, !(namedDoors s r).isEmpty)]) [] fun r s =>
    let l := namedDoors s r
    if l.all fun e => openable s e.1 e.2 then
      let mates := openMates s l
      let ns := sharedNs s l
      let s := s.each l fun s e => openDoor s e.1 e.2 ns (bitAt (rq r 18 1) 1)
      let s := s.each mates fun s e => openDoor s e.1 e.2 ns false
      let ns := match l with | e :: _ => (s.door e.1).ns | [] => 0
      ok s r (doorStates s l) (ns % 4294967296) (contFor (16 + l.length))
    else refused s r)

/-- Whether door.close with a MODE is taken for a door (08 R256, R257). -/
def closeable (s : State) (d : Nat) (c : DoorDef) (mode : Nat) : Bool :=
  let t := s.door d
  t.state != .learning &&
  match mode with
  | 0 => true
  | 1 => t.service && (t.state == .closed || t.state == .opened)
  | 2 => t.state == .fault && axesOn s c
  | _ => outOfServiceRest t && (axisIdx c).all fun i => (doorAxis t i).learned.isSome

/-- door.close on a door (08 R256); MODE 1 and 3 change its stored service state (15 R431). -/
def closeDoor (s : State) (d : Nat) (mode : Nat) : State :=
  let s := match mode with | 0 | 2 => s | m => store s (.service d (m != 1))
  s.onDoor d fun t =>
    match mode with
    | 0 => { t with holdOpen := false, closePend := true, cmdClose := true }
    | 1 => { t with service := false, closePend := false, cmdClose := false, holdOpen := false, blocked := false, heldRep := false }
    | 2 => { t with state := .held, closePend := true, cmdClose := true, refClose := true, failOpen := 0, tripped := false, left := false }
    | _ =>
      if t.state = .closed ∨ t.state = .opened then { t with service := true }
      else { t with service := true, state := .held, closePend := true }

/-- DOOR_CLOSE (08 R253, R256). -/
def execDoorClose (r : Request) (s : State) : Host.Outcome State Fault Refusal :=
  let mode := rq r 19 1
  .next (serve s r 0x1411 (loopReady s && actReady s) (firstBad [(16, !(namedDoors s r).isEmpty), (19, decide (mode ≤ 3))]) [] fun r s =>
    let l := namedDoors s r
    if l.all fun e => closeable s e.1 e.2 mode then
      let s := s.each l fun s e => closeDoor s e.1 mode
      let blocked := match l with
        | [e] => if bitAt (rq r 18 1) 0 then [] else
            [(17, 1, (b2n ((s.door e.1).closePend && closeBlock s e.2 (s.door e.1) != .none) : Int))]
        | _ => []
      ok s r (doorStates s l ++ blocked) 0 (contFor (16 + l.length))
    else refused s r)

/-- DOOR_LEARN (08 R244, R257). -/
def execDoorLearn (r : Request) (s : State) : Host.Outcome State Fault Refusal :=
  let d := rq r 16 2
  .next (serve s r 0x1420 (loopReady s && actReady s) (firstBad [(16, knownDoor s d)]) (clampedN 18 1 8 (rq r 18 1)) fun r s =>
    let t := s.door d
    let c := t.def_.getD {}
    let n := clampN 1 8 (rq r 18 1)
    if (outOfServiceRest t || t.state == .notLearned || t.state == .fault) && axesOn s c && mayOpen s c && !doorInsp s c then
      let y := t.img.ax.getD 0 {}
      let whole := t.state == .closed || (y.inref && decide (iabs y.p * 256 ≤ c.stroke))
      let s := (moveDoor (clearNudgeDo (endNudge s d c) d c) d c (doorNs s c) c.stroke c.vLearn c.aLearn).onDoor d fun t => { t with
        state := .learning, service := false, hold := 0, learnCycles := n, learnLeft := if whole then 2 * n else 2 * n + 2
        learnWait := 0, learnRef := [], learnMean := [], closePend := false, cmdClose := false, retry := false
        x0 := { t.x0 with lOpen := [], lClose := [], lMass := (0, 0) }, x1 := { t.x1 with lOpen := [], lClose := [], lMass := (0, 0) } }
      ok s r [(16, 1, (n : Int))]
    else refused s r)

/-! ### door.policy.set (08 R231, R237, R254) -/

/-- Clamped fields of a section: offset, width, low, high, value. -/
def policyFields (p : DoorDef) (r : Request) : List (Nat × Nat × Nat × Nat × Nat) :=
  let f := fun (o w lo hi : Nat) => (o, w, lo, hi, rq r o w)
  match rq r 18 1 with
  | 0 => [f 29 1 0 4, f 32 4 1 5000, f 36 4 100000 20000000]
  | 1 =>
    let vc := clampN 10000 2000000 (rq r 24 4)
    let ac := clampN 50000 5000000 (rq r 32 4)
    let fpc := clampN 1000 200000 (rq r 48 4)
    [f 20 4 10000 2000000, f 24 4 10000 2000000, f 28 4 50000 5000000, f 32 4 50000 5000000, f 36 4 100000 10000000,
     f 40 4 100 100000, f 45 1 1 16, f 46 2 500 60000, f 48 4 1000 200000, f 52 4 100 200000, f 56 4 500 100000,
     f 60 4 1000 200000, f 64 4 1000 100000, f 68 4 10000 vc, f 72 4 50000 ac, f 76 4 0 fpc]
  | 2 =>
    let thr := clampN 16 32767 (rq r 20 2)
    [f 20 2 16 32767, f 22 2 8 thr, f 24 2 1 (thr / 2), f 26 1 4 16]
  | 3 => [f 24 4 1000 p.fpc.toNat, f 28 4 100 p.eMax, f 32 4 10000 p.vClose.toNat]
  | _ => []

/-- The effective value of a clamped field of a section. -/
def policyEff (l : List (Nat × Nat × Nat × Nat × Nat)) (off : Nat) : Nat :=
  match l.find? fun e => e.1 == off with | some (_, _, lo, hi, v) => clampN lo hi v | none => 0

/-- The edge channel that bytes of section 2 name. -/
def edgeCfgOf (r : Request) (i : Nat) : EdgeCfg :=
  let sel := rq r (30 + 4 * i) 1
  { ring := rq r (28 + 4 * i) 1, node := rq r (29 + 4 * i) 1, block := bitsOf sel 0 2, chan := bitsOf sel 2 2 }

/-- The entry of a node in a ring's slot table. -/
def nodeEntry (s : State) (r n : Nat) : Option NodeEntry := if n = 0 then none else (s.ring r).cfg.entries[n - 1]?

/-- The enumerated fields of an edge channel (08 section 2). -/
def edgeEnums (s : State) (e : EdgeCfg) (i : Nat) : List (Nat × Bool) :=
  let n := nodeEntry s e.ring e.node
  [(28 + 4 * i, decide (e.ring ≤ 3)),
   (29 + 4 * i, decide (1 ≤ e.node ∧ e.node ≤ 128) && match n with | some x => x.kind == 2 || x.kind == 3 | none => false),
   (30 + 4 * i, decide (e.block ≤ 2 ∧ e.chan ≤ 2) && match n with | some x => decide (e.block < x.nblk) | none => false)]

/-- Enumerated fields of a section (08 sections 0 to 3). -/
def policyEnums (s : State) (p : DoorDef) (r : Request) : List (Nat × Bool) :=
  let lim := axisLimit s.sys.rate
  let orFF := fun (o m : Nat) => (o, decide (rq r o 1 ≤ m) || rq r o 1 == 0xFF)
  match rq r 18 1 with
  | 0 => [(20, decide (1 ≤ rq r 20 1 ∧ rq r 20 1 ≤ 3)), orFF 21 7, (22, true), orFF 23 63, (24, decide (rq r 24 2 < lim)),
          (26, decide (rq r 26 2 < lim) || rq r 26 2 == 0xFFFF), orFF 28 63]
  | 1 => [(44, decide (rq r 44 1 ≤ 1))]
  | 2 => (List.range p.nEdge).flatMap fun i => edgeEnums s (edgeCfgOf r i) i
  | 3 => [orFF 21 47, orFF 22 47, orFF 23 23, (36, decide (rq r 36 1 ≤ 0x3F) || rq r 36 1 == 0xFF), orFF 37 23]
  | _ => []

/-- A pending copy with a section written (08 R254). -/
def policyWrite (p : DoorDef) (r : Request) (f : Nat → Nat) : DoorDef :=
  match rq r 18 1 with
  | 0 => { p with kind := rq r 20 1, shaft := rq r 21 1, landing := rq r 22 1, car := rq r 23 1, axis0 := rq r 24 2, axis1 := rq r 26 2
                  group := rq r 28 1, nEdge := f 29, mass := f 32, stroke := f 36 }
  | 1 => { p with vOpen := f 20, vClose := f 24, aOpen := f 28, aClose := f 32, aRev := f 36, j := f 40, blend := rq r 44 1, obn := f 45
                  dwell := f 46, fpc := f 48, eMax := f 52, fDev := f 56, perrTol := f 60, coupTol := f 64, vLearn := f 68
                  aLearn := f 72, holdF := f 76 }
  | 2 => { p with thr := f 20, refTol := f 22, noise := f 24, dsh := f 26, edges := (List.range 4).map (edgeCfgOf r) }
  | _ => { p with nudge := bitAt (rq r 20 1) 0, reopen0 := rq r 21 1, reopen1 := rq r 22 1, nudgeDo := rq r 23 1, fNudge := f 24
                  eNudge := f 28, vNudge := f 32, enableIn := rq r 36 1, closedDo := rq r 37 1 }

/-- What a section's completion returns besides its clamped fields (08 R254). -/
def policyPlain (p : DoorDef) (r : Request) : List (Nat × Nat × Int) :=
  let b := fun (o w : Nat) => (o, w, (rq r o w : Int))
  match rq r 18 1 with
  | 0 => [b 20 1, b 21 1, b 22 1, b 23 1, b 24 2, b 26 2, b 28 1]
  | 1 => [b 44 1]
  | 2 => (List.range p.nEdge).flatMap fun i => [b (28 + 4 * i) 1, b (29 + 4 * i) 1, b (30 + 4 * i) 1]
  | 3 => [(20, 1, (rq r 20 1 % 2 : Nat)), b 21 1, b 22 1, b 23 1, b 36 1, b 37 1]
  | _ => []

/-- Committed doors, each with the definition of its latest commit accepted, landed or not (08 R254, 16 R439). -/
def comingDoors (s : State) : List (Nat × DoorDef) :=
  s.doors.filterMap fun p => (match p.2.commits.getLast? with | some x => some x.2 | none => p.2.def_).map fun c => (p.1, c)

/-- The conditions of a commit (08 R232, R236, R237, R254), in the rule's order: section, offset, and whether it holds. -/
def commitRules (s : State) (d : Nat) : List (Nat × Nat × Bool) :=
  let t := s.door d
  let c := t.pend
  let kind := c.kind + 1
  let dsc := fun (a : Nat) => (s.axis a).desc
  let vl : Int := energySpeed c.eMax c.mass
  let two := c.axis1 != 0xFFFF
  let others := (comingDoors s).filter fun e => e.1 != d
  let own := fun (a : Nat) => !others.any fun e => (doorAxes e.2).contains a
  let dv := dDiv (dsc c.axis0)
  [(4, 16, t.def_.isNone || outOfServiceRest t || t.state == .notLearned || t.state == .fault),
   (0, 24, dKind (dsc c.axis0) == kind && decide (2 ≤ dv)),
   (0, 26, !two || (dKind (dsc c.axis1) == kind && dDiv (dsc c.axis1) == dv && dPhase (dsc c.axis1) == dPhase (dsc c.axis0) && c.axis1 != c.axis0)),
   (0, 24, c.kind == 3 || others.all fun e => e.2.kind == 3 || doorShaft s e.2 != doorShaft s c || (doorShaft s c).isNone ||
      (dDiv (dsc e.2.axis0) == dv && dPhase (dsc e.2.axis0) == dPhase (dsc c.axis0))),
   (1, 52, (doorAxes c).all fun a => decide (dwI (dsc a) 8 ≤ vl)),
   (1, 48, (doorAxes c).all fun a => decide (dwI (dsc a) 7 ≤ c.fpc)),
   (0, 24, c.kind != 1 || match carCtx s c.car with | some x => x.c.doorAxis == c.axis0 | none => false),
   (0, 22, c.kind != 2 || (committedShaft s c.shaft && decide (c.landing < ((s.shaft c.shaft).cfg.getD {}).geo.nLand))),
   (0, 24, own c.axis0), (0, 26, !two || own c.axis1)] ++
  ((List.range 4).map fun i => (i, 18, t.written.getLsbD i)) ++
  (List.range c.nEdge).flatMap fun i => (edgeEnums s (c.edges.getD i {}) i).map fun e => (2, e.1, e.2)

/-- DOOR_POLICY_SET (08 R254). -/
def execDoorPolicySet (r : Request) (s : State) : Host.Outcome State Fault Refusal :=
  let d := rq r 16 2
  let sec := rq r 18 1
  let p := (s.door d).pend
  let l := policyFields p r
  .next (serve s r 0x1430 (loopReady s && actReady s)
    (firstBad ([(16, decide (d ≤ 511)), (18, decide (sec ≤ 5))] ++ policyEnums s p r)) (l.flatMap fun e => clampedN e.1 e.2.2.1 e.2.2.2.1 e.2.2.2.2)
    fun r s =>
      match sec with
      | 4 => match (commitRules s d).find? fun e => !e.2.2 with
        | some (k, o, _) => refused s r 0 [(16, 1, (k : Int)), (18, 2, (o : Int))]
        | none => s.onDoor d fun t => { t with commits := t.commits ++ [(r, { t.pend with edges := t.pend.edges.take t.pend.nEdge })], pend := {}, written := 0 }
      | 5 => ok (s.onDoor d fun t => { t with pend := {}, written := 0 }) r
      | k => ok (s.onDoor d fun t => { t with pend := policyWrite t.pend r (policyEff l), written := t.written ||| BitVec.ofNat 4 (2 ^ k) }) r
          (policyPlain p r ++ l.map fun e => (e.1, e.2.1, (clampN e.2.2.1 e.2.2.2.1 e.2.2.2.2 : Int))))

/-- Outputs owned by the door functions of the committed doors (11 R324). -/
def ownedOutputs (s : State) : BitVec 24 :=
  (liveDoors s).foldl (fun m e => [e.2.nudgeDo, e.2.closedDo].foldl (fun m n => if n < 24 then m ||| BitVec.ofNat 24 (2 ^ n) else m) m) 0

/-- A commit lands (08 R254): edges restart unseeded, ownership of outputs is taken. -/
def landDoor (s : State) (d : Nat) (r : Request) (c : DoorDef) : State :=
  let t := s.door d
  let changed := match t.def_ with | some b => b.axis0 != c.axis0 || b.axis1 != c.axis1 || b.stroke != c.stroke | none => true
  let refs := tabGet s.nor.edgeRefs [] d
  let known := !changed && (axisIdx c).all fun i => (doorAxis t i).learned.isSome
  let s := s.onDoor d fun t => { t with
    def_ := some c, state := if changed then .notLearned else if known ∧ (t.state = .closed ∨ t.state = .opened) then t.state else .outOfService
    service := false, imgs := []
    x0 := if changed then {} else { learned := t.x0.learned }, x1 := if changed then {} else { learned := t.x1.learned }
    edges := (List.range c.edges.length).map fun i => let v := if changed then none else refs.getD i none; { ref := v.getD 0, stored := v }
    clear := 0, closePend := false, cmdClose := false, blocked := false, blockNs := 0, refClose := true }
  let s := match t.def_ with | some b => clearNudgeDo s d b | none => s
  let s := s.onField fun f => { f with doorOwned := ownedOutputs s }
  let s := store (store s (.door d c)) (.service d false)
  let s := if changed then store (store s (.learned d none none)) (.edgeRefs d []) else s
  ok s r [] (cycleDetail s)

/-- Door commits land at a release phase. -/
def landDoors (s : State) : State :=
  s.each (s.doors.filter fun p => !p.2.commits.isEmpty) fun s p =>
    (s.onDoor p.1 fun t => { t with commits := [] }).each p.2.commits fun s x => landDoor s p.1 x.1 x.2

/-! ### Moments of a door -/

/-- What follows for a committed door; a door not committed has no moments. -/
def onLive (s : State) (d : Nat) (f : DoorDef → State) : State := match (s.door d).def_ with | some c => f c | none => s

/-- DOOR_EVALUATION (08 R232): the oldest image not yet evaluated. -/
def execDoorEvaluation (door : Nat) (s : State) : Host.Outcome State Fault Refusal :=
  .next (onLive s door fun c =>
    match (s.door door).imgs with
    | [] => s
    | im :: rest => evalDoor (s.onDoor door fun t => { t with imgs := rest }) door c im)

/-- DOOR_EVAL_LATE (08 R233): the deadline of the oldest evaluation has passed. -/
def execDoorEvalLate (door : Nat) (s : State) : Host.Outcome State Fault Refusal :=
  .next (onLive s door fun c =>
    let t := s.door door
    if t.imgs.isEmpty || t.lateNow then s
    else
      let n := satAdd max32 t.lateRun 1
      let s := s.onDoor door fun t => { t with late := satAdd max32 t.late 1, lateRun := n, lateNow := true, okRun := 0 }
      if n ≠ 3 then s
      else
        let s := if doorMoving t then holdDoor s door c else s
        doorEvent (s.onDoor door fun t => { t with lateHold := true, retry := false }) door 0x0E 3)

/-- DWELL_EXPIRY (08 R238): a door in service has been at OPEN for DWELL. -/
def execDwellExpiry (door : Nat) (s : State) : Host.Outcome State Fault Refusal :=
  .next (onLive s door fun c =>
    let t := s.door door
    if t.state = .opened ∧ t.service ∧ !doorInsp s c then s.onDoor door fun t => { t with closePend := true } else s)

/-- BLOCKED_30S (08 R248): persistent obstruction, reported to Traverse. -/
def execBlocked30s (door : Nat) (s : State) : Host.Outcome State Fault Refusal :=
  .next (onLive s door fun c =>
    let t := s.door door
    if t.closePend ∧ t.service ∧ 30000000000 ≤ t.blockNs ∧ !t.heldRep then
      let s := doorEvent (s.onDoor door fun t => { t with heldRep := true }) door 6
        (match closeBlock s c t with | .channel i => (i : Int) | _ => 0xFF)
      match doorCar s c with | some x => report s (.doorHeld x.c.car) | none => s
    else s)

/-- Whether a door may close by nudging (08 R233, R249): in service, OPEN or HELD, a close pending, not in rescue or inspection. -/
def nudgeable (s : State) (d : Nat) (c : DoorDef) : Bool :=
  let t := s.door d
  t.closePend && t.service && c.nudge && !t.rescue && !t.holdOpen && !doorInsp s c && !t.lateHold && (t.state == .opened || t.state == .held)

/-- Nudging begins (08 R249): NUDGEDO is set, 3 s run. -/
def armNudge (s : State) (d : Nat) (c : DoorDef) : State :=
  doorEvent (bump (doorOutput (s.onDoor d fun t => { t with nudgeArm := true, nudgeOut := true }) c.nudgeDo true) (cDoor 5)) d 0x0C c.fNudge

/-- BLOCKED_180S (08 R248, R249): nudging begins where it is enabled; the other door of a pair takes part (08 R236). -/
def execBlocked180s (door : Nat) (s : State) : Host.Outcome State Fault Refusal :=
  .next (onLive s door fun c =>
    let t := s.door door
    if nudgeable s door c ∧ 180000000000 ≤ t.blockNs ∧ !t.nudgeArm then
      let mates := (doorPartner s c).toList.filter fun e => nudgeable s e.1 e.2 && !(s.door e.1).nudgeArm
      s.each ((door, c) :: mates) fun s e => armNudge s e.1 e.2
    else s)

/-- NUDGE_START (08 R249): the nudging close starts with FLIM at FNUDGE, and with it that of its pair or group (08 R236, R253). -/
def execNudgeStart (door : Nat) (s : State) : Host.Outcome State Fault Refusal :=
  .next (onLive s door fun c =>
    if (s.door door).nudgeArm then
      if nudgeable s door c ∧ axesOn s c then
        let mates := closeMates s door c
        let nudged := mates.filter fun e => (s.door e.1).nudgeArm && nudgeable s e.1 e.2
        let closed := mates.filter fun e => closeReady s e.2 (s.door e.1)
        let ns := sharedNs s ((door, c) :: nudged ++ closed)
        let s := s.each closed fun s e => beginClose s e.1 e.2 ns
        s.each ((door, c) :: nudged) fun s e => nudgeDoor s e.1 e.2 ns
      else endNudge s door c
    else s)

/-- OPEN_RETRY (08 R241): 2 s after an obstructed open. -/
def execOpenRetry (door : Nat) (s : State) : Host.Outcome State Fault Refusal :=
  .next (onLive s door fun c =>
    let t := s.door door
    if t.retry ∧ t.state = .held ∧ !t.lateHold ∧ !doorInsp s c ∧ mayOpen s c then
      let s := match doorPartner s c with
        | some (e, b) => if (s.door e).state = .held ∧ !(s.door e).lateHold ∧ mayOpen s b then startOpen s e b (doorNs s b) .opening else s
        | none => s
      startOpen s door c (doorNs s c) .opening
    else s)

/-- EDGE_REF_STORE (08 R246): at most once per hour, references that have moved by more than NOISE. -/
def execEdgeRefStore (door : Nat) (s : State) : Host.Outcome State Fault Refusal :=
  .next (onLive s door fun c =>
    let t := s.door door
    let due := match t.refAt with | some n => decide (n + 3600000000000 ≤ s.time.now) | none => true
    let moved := fun (e : EdgeSt) => e.seeded && match e.stored with | some v => decide (c.noise < iabs (e.ref - v)) | none => e.armed
    if due && t.edges.any moved then
      let s := s.onDoor door fun t => { t with
        refAt := some s.time.now, edges := t.edges.map fun e => if moved e then { e with stored := some e.ref } else e }
      store s (.edgeRefs door ((s.door door).edges.map (·.stored)))
    else s)

end Sys2Proof.Machine
end

