-- ==== Sys2Proof/Machine/Plan.lean ====
section
/-! DEFINITION. The plan of Traverse (09): reach, capacity, the time model, the play of stop lists with separation, insertions
and candidate figures. -/
namespace Sys2Proof.Machine

/-! ### Calls, cars and availability -/

/-- A call; one not listed is unknown. -/
def State.call (s : State) (i : Nat) : Call := tabGet s.disp.calls {} i
/-- A state with one call changed. -/
def State.onCall (s : State) (i : Nat) (f : Call → Call) : State := s.onDisp fun d => { d with calls := tabMod d.calls {} i f }
/-- The stop list of a car (09 R270). -/
def stopList (s : State) (n : Nat) : List Stop := tabGet s.disp.lists [] n
/-- A state with the stop list of a car changed. -/
def setList (s : State) (n : Nat) (l : List Stop) : State := s.onDisp fun d => { d with lists := tabSet d.lists n l }
/-- Whether a call is outstanding (09 R259). -/
def outstanding (c : Call) : Bool := c.state == .unassigned || c.state == .assigned || c.state == .onBoard
/-- Calendar time in µs. -/
def nowUs (s : State) : Nat := s.time.now / 1000

/-- The positions a car can reach (09 R262). -/
def reachOf (x : CarCtx) : Int × Int :=
  let g := x.cfg.geo
  let sum := fun (p : CarCfg → Bool) => ((cfgCars x.cfg).filter p).foldl (fun n c => n + (c.height + g.gapMin)) 0
  (g.zMin + sum fun c => decide (c.order < x.c.order), g.zMax - x.c.height - sum fun c => decide (x.c.order < c.order))
/-- Whether a landing lies in a car's reach (09 R262). -/
def landReach (x : CarCtx) (l : Nat) : Bool :=
  let (lo, hi) := reachOf x
  let p := landPos x.cfg l
  decide (l < x.cfg.geo.nLand) && decide (lo ≤ p) && decide (p ≤ hi)
/-- Capacity in passengers (09 R264). -/
def capacity (x : CarCtx) : Nat := max 1 (x.c.payload / 75)

/-- Whether a door of a car is reported held (08 R248). -/
def carHeld (s : State) (x : CarCtx) : Bool := s.doors.any fun d => match d.2.def_ with
  | some c => d.2.heldRep && isCarsDoor x (s.car x.c.car).p c
  | none => false
/-- AVAIL of car.stoplist: 0, or the first failed condition of 09 R263. -/
def availOf (s : State) (x : CarCtx) : Nat :=
  let k := s.car x.c.car
  if !List.contains [CarState.idle, .preparing, .weighing, .moving] k.state then 1
  else if s.safety.image.insp.getLsbD x.h || (s.shaft x.h).en.rescue || shaftLow s x.h then 2
  else if (s.shaft x.h).limits.isNone then 3
  else if carHeld s x then 4 else 0

/-- Whether a shaft belongs to a call's shaft set (02 R69). -/
def inSet (c : Call) (h : Nat) : Bool := c.shafts == 0 || c.shafts.getLsbD h
/-- The cars that may serve a call by its kind and shaft set. -/
def callCars (s : State) (c : Call) : List CarCtx := (allCars s).filter fun x => inSet c x.h && (c.kind != 2 || x.c.car == c.only)
/-- Whether a car has both ends of a call in its reach (09 R262). -/
def reaches (x : CarCtx) (c : Call) : Bool := landReach x c.src && (c.kind != 3 || landReach x c.dst)
/-- The direction in which a call leaves its pick-up: 1 up, 2 down. -/
def callDir (x : CarCtx) (c : Call) : Nat :=
  match c.kind with
  | 0 => 1 | 1 => 2
  | _ => if landPos x.cfg c.src < landPos x.cfg c.dst then 1 else 2

/-! ### The time model (09 R265), in µs -/

/-- TSTART. -/
def tStart (s : State) (x : CarCtx) : Nat := 20000 + x.cfg.geo.brkt * 1000 + 64 * cycleNs s.sys.rate / 1000
/-- Journey time over a distance in µm. -/
def journeyUs (s : State) (h : Nat) (dz : Int) : Nat :=
  let m := limitsOf s h
  if dz = 0 then 0 else restNs m.blend (iabs dz * 1000) (m.v * 1000) (m.a * 1000) m.j / 1000
/-- The definition of a car's door. -/
def carDoorDef (s : State) (n : Nat) : Option DoorDef := ((liveDoors s).find? fun e => e.2.kind == 1 && e.2.car == n).map (·.2)
/-- Stop time at a landing, from arrival to the start of the next journey. -/
def stopUs (s : State) (x : CarCtx) (access : Bool) : Nat :=
  270000 + tStart s x + match carDoorDef s x.c.car with
  | some c =>
    restNs c.blend (c.stroke * 1000) (c.vOpen * 1000) (c.aOpen * 1000) c.j / 1000 +
    restNs c.blend (c.stroke * 1000) (c.vClose * 1000) (c.aClose * 1000) c.j / 1000 + c.dwell * 1000 * (if access then 2 else 1)
  | none => 0
/-- Whether a stop holds a call with accessible service. -/
def stopAccess (s : State) (t : Stop) : Bool := (t.picks ++ t.drops).any fun i => (s.call i).access
/-- Time from arrival at a stop to the next departure. -/
def dwellUs (s : State) (x : CarCtx) (t : Stop) : Nat := if t.park then tStart s x else stopUs s x (stopAccess s t)

/-! ### The play (09 R271) -/

/-- A car in the play: where it is or goes, its claim and until when, its next departure, its stops. -/
structure PlanCar where
  x : CarCtx := {}
  z : Int := 0
  lo : Int := 0
  hi : Int := 0
  till : Nat := 0
  ready : Nat := 0
  left : List Stop := []
  done : List Stop := []
  sep : Nat := 0
  waits : Bool := false
  parkable : Bool := false
  deriving DecidableEq, Repr

/-- Time at which a moving car is at rest at a landing: its journey there, or the journey replanned to it (06 R171). -/
def movingUs (s : State) (x : CarCtx) (l : Nat) : Nat :=
  let k := s.car x.c.car
  match k.journey with
  | none => nowUs s
  | some j =>
    let t := profTime s j.prof
    if j.landing = l then nowUs s + (j.prof.total - t) / 1000
    else nowUs s + (planMove j.lim.blend s.time.cycle (profAt j.prof t) (landPos x.cfg l) j.lim.v j.lim.a j.lim.j).total / 1000

/-- A car as the play begins, with a stop list. -/
def planInit (s : State) (x : CarCtx) (l : List Stop) : PlanCar :=
  let n := x.c.car
  let k := s.car n
  let now := nowUs s
  let rest := fun (ready : Nat) (done left : List Stop) =>
    ({ x, z := k.p, lo := k.p, hi := k.p + x.c.height, till := 0, ready, left, done
       parkable := k.state == .idle && l.isEmpty && availOf s x == 0 } : PlanCar)
  match k.state, l with
  | .moving, t :: r =>
    let a := movingUs s x t.landing
    let z := landPos x.cfg t.landing
    { x, z, lo := min k.lo z, hi := max k.hi (z + x.c.height), till := a, ready := a + dwellUs s x t, left := r
      done := [{ t with eta := a, sepWait := 0 }] }
  | .moving, [] =>
    match k.journey with
    | some j => { rest (now + tStart s x) [] [] with z := j.prof.target, lo := k.lo, hi := k.hi, till := now + (j.prof.total - profTime s j.prof) / 1000 }
    | none => rest (now + tStart s x) [] []
  | .preparing, _ | .weighing, _ =>
    let past := (s.time.cycle - k.prepCycle) * cycleNs s.sys.rate / 1000
    rest (now + (tStart s x - past)) [] l
  | .idle, t :: r =>
    if k.serving then
      let a := tabGet s.disp.arrAt now n
      rest (max (now + tStart s x) (a + dwellUs s x t)) [{ t with eta := a, sepWait := 0 }] r
    else rest (now + tStart s x) [] l
  | _, _ => rest (now + tStart s x) [] l

/-- A claim of a car in the play at a time: that of its journey, then its place at rest. -/
def planClaim (p : PlanCar) (t : Nat) : Int × Int := if t < p.till then (p.lo, p.hi) else (p.z, p.z + p.x.c.height)

/-- Whether the claim of a car keeps 07 R223 against another's. -/
def planClear (p q : PlanCar) (c d : Int × Int) : Bool :=
  let g := p.x.cfg.geo.gapMin
  if p.x.c.order < q.x.c.order then decide (c.2 + g ≤ d.1) else decide (d.2 + g ≤ c.1)

/-- The nearest landing in a car's reach at which its claim clears another claim (09 R271). -/
def parkLanding (p q : PlanCar) (c : Int × Int) : Option Nat :=
  (landings q.x.cfg).foldl (fun (b : Option Nat) l =>
    let z := landPos q.x.cfg l
    if !landReach q.x l || !planClear p q c (z, z + q.x.c.height) then b
    else match b with
      | none => some l
      | some m => if iabs (z - q.z) < iabs (landPos q.x.cfg m - q.z) then some l else b) none

/-- What one step of the play finds. -/
inductive PlayStep where
  | go (l : List PlanCar)
  | park (car landing : Nat)
  | done
  | stuck
  deriving DecidableEq, Repr

/-- A list of planning cars with one car changed. -/
def putCar (l : List PlanCar) (p : PlanCar) : List PlanCar := l.map fun q => if q.x.c.car = p.x.c.car then p else q

/-- One step of the play: the earliest departure that is not waiting on another car (09 R271). -/
def playStep (s : State) (l : List PlanCar) : PlayStep :=
  let open_ := l.filter fun p => !p.left.isEmpty
  if open_.isEmpty then .done
  else
    match (open_.filter fun p => !p.waits).foldl (fun (b : Option PlanCar) p =>
        match b with | none => some p | some q => if p.ready < q.ready then some p else b) none with
    | none => .stuck
    | some p =>
      match p.left with
      | [] => .stuck
      | t :: r =>
        let z := landPos p.x.cfg t.landing
        let c := (min p.z z, max p.z z + p.x.c.height)
        let beside := l.filter fun q => q.x.c.order + 1 == p.x.c.order || p.x.c.order + 1 == q.x.c.order
        match beside.find? fun q => !planClear p q c (planClaim q p.ready) with
        | none =>
          let a := if z = p.z then p.ready - tStart s p.x else p.ready + journeyUs s p.x.h (z - p.z)
          let p := { p with z, lo := c.1, hi := c.2, till := a, ready := a + dwellUs s p.x t, left := r, sep := 0
                            done := p.done ++ [{ t with eta := a, sepWait := p.sep }] }
          .go ((putCar l p).map fun q => { q with waits := false })
        | some q =>
          if p.ready < q.till then .go (putCar l { p with ready := q.till, sep := p.sep + (q.till - p.ready) })
          else if !q.left.isEmpty then .go (putCar l { p with waits := true })
          else if !q.parkable then .stuck
          else match parkLanding p q c with
            | some m => .park q.x.c.car m
            | none => .stuck

/-- The play of a shaft to its end, with what it still may do as fuel. -/
def playLoop (s : State) : Nat → List PlanCar → PlayStep
  | 0, _ => .stuck
  | n + 1, l => match playStep s l with
    | .go l => playLoop s n l
    | .done => .go l
    | x => x

/-- A plan of a shaft with given stop lists: park stops are added for neighbours with nothing to do (09 R271). -/
def playShaft (s : State) (h : Nat) : Nat → List (Nat × List Stop) → Option (List (Nat × List Stop))
  | 0, _ => none
  | n + 1, lists =>
    let cars := (shaftCars s h).map fun x => planInit s x (match lists.find? fun e => e.1 == x.c.car with | some e => e.2 | none => [])
    let fuel := 64 + 32 * lists.foldl (fun m e => m + e.2.length) 0
    match playLoop s fuel cars with
    | .go l => some (l.map fun p => (p.x.c.car, p.done))
    | .park c m => playShaft s h n (lists.map fun e => if e.1 = c then (c, { landing := m, park := true } :: e.2) else e)
    | _ => none

/-- The stop lists of a shaft as they stand. -/
def shaftLists (s : State) (h : Nat) : List (Nat × List Stop) := (shaftCars s h).map fun x => (x.c.car, stopList s x.c.car)

/-! ### Insertions (09 R264, R266) -/

/-- The stops from index `k` on into which a call may go: those at its landing it may join, and a new stop at every place, as
(index, list). -/
def placements (l : List Stop) (k : Nat) (landing : Nat) (join : Stop → Option Stop) (new : Stop) (first : Nat) : List (Nat × List Stop) :=
  (List.range (l.length + 1)).flatMap fun i =>
    if i < k then []
    else
      (match l[i]? with
        | some t => if t.landing = landing ∧ !t.park then (match join t with | some u => [(i, l.set i u)] | none => []) else []
        | none => []) ++
      (if first ≤ i then [(i, l.take i ++ new :: l.drop i)] else [])

/-- A stop that also picks up a call leaving in a direction. -/
def joinPick (id dir : Nat) (t : Stop) : Option Stop :=
  if t.dir = 0 ∨ t.dir = dir then some { t with dir, picks := t.picks ++ [id] } else none
/-- A stop that also drops a call. -/
def joinDrop (id : Nat) (t : Stop) : Option Stop := some { t with drops := t.drops ++ [id] }

/-- Whether a list's order keeps the departure directions of its stops, and no landing follows itself. -/
def dirsOk (x : CarCtx) : List Stop → Bool
  | a :: b :: r =>
    let d := landPos x.cfg b.landing - landPos x.cfg a.landing
    d != 0 && (a.dir == 0 || (a.dir == 1 && decide (0 < d)) || (a.dir == 2 && decide (d < 0))) && dirsOk x (b :: r)
  | _ => true

/-- Passengers that a call counts (09 R264): those of destination calls. -/
def passOf (s : State) (i : Nat) : Nat := if (s.call i).kind = 3 then (s.call i).pass else 0
/-- Passengers on board of a car now. -/
def onBoardNow (s : State) (n : Nat) : Nat :=
  s.disp.calls.foldl (fun m e => if e.2.state == .onBoard && e.2.car == n then m + (if e.2.kind = 3 then e.2.pass else 0) else m) 0
/-- Passengers on board after each stop of a list. -/
def loads (s : State) : Nat → List Stop → List Nat
  | _, [] => []
  | m, t :: r =>
    let m := m - t.drops.foldl (fun a i => a + passOf s i) 0 + t.picks.foldl (fun a i => a + passOf s i) 0
    m :: loads s m r

/-- The first place at which a stop may be inserted: behind a stop being served; ahead of a moving car's target only beyond its
stopping point (09 R264). -/
def insertFrom (s : State) (x : CarCtx) (landing : Nat) : Nat :=
  let k := s.car x.c.car
  if k.serving then 1
  else match k.state with
    | .moving =>
      let p := landPos x.cfg landing
      let stop := carStop x k + k.v / 500
      if (if 0 ≤ k.refV then decide (stop < p) else decide (p < stop)) then 0 else 1
    | _ => 0

/-- Whether a list is one that a car can be given (09 R264), the separation plan apart. -/
def listOk (s : State) (x : CarCtx) (l : List Stop) : Bool :=
  decide (l.length ≤ 128) && (l.all fun t => landReach x t.landing) && dirsOk x l &&
  ((loads s (onBoardNow s x.c.car) l).all fun m => decide (m ≤ capacity x))

/-- Whether a list holds a call like another, its stops still ahead: of one kind, from and to the same landings (09 R260). -/
def hasTwin (s : State) (id : Nat) (l : List Stop) : Bool :=
  let c := s.call id
  l.any fun t => (t.picks ++ if c.kind = 2 then t.drops else []).any fun i =>
    i != id && (s.call i).kind == c.kind && (s.call i).src == c.src && (s.call i).dst == c.dst

/-- The lists that carry a call, in list order (09 R264, R266); a call like one in the list attaches to its stops where it can
(09 R260). -/
def insertions (s : State) (x : CarCtx) (id : Nat) : List (List Stop) :=
  let c := s.call id
  let l := stopList s x.c.car
  let drop := fun (k : Nat) (l : List Stop) (at_ : Nat) => (
    placements l k at_ (joinDrop id) { landing := at_, drops := [id] } (max k (insertFrom s x at_)) : List (Nat × List Stop))
  let all : List (List Stop) := match c.kind, c.state with
    | 2, _ => (drop 0 l c.src).map (·.2)
    | 3, .onBoard => (drop 0 l c.dst).map (·.2)
    | 3, _ =>
      let d := callDir x c
      (placements l 0 c.src (joinPick id d) { landing := c.src, dir := d, picks := [id] } (insertFrom s x c.src)).flatMap fun e =>
        (drop (e.1 + 1) e.2 c.dst).map (·.2)
    | _, _ =>
      let d := callDir x c
      (placements l 0 c.src (joinPick id d) { landing := c.src, dir := d, picks := [id] } (insertFrom s x c.src)).map (·.2)
  let fit := all.filter (listOk s x)
  let attached := if hasTwin s id l then fit.filter fun m => m.length == l.length else []
  if attached.isEmpty then fit else attached

/-- Arrival at the stop where a call is picked up, and where it is completed, in a planned list. -/
def callTimes (c : Call) (l : List Stop) (id : Nat) : Nat × Nat :=
  let pick := (l.find? fun t => t.picks.contains id || (c.kind == 2 && t.drops.contains id)).map (·.eta)
  let drop := (l.find? fun t => t.drops.contains id).map (·.eta)
  (pick.getD 0, (if c.kind = 3 then drop else pick).getD 0)

/-- The calls of a list. -/
def listCalls (l : List Stop) : List Nat := (l.flatMap fun t => t.picks ++ t.drops).foldl (fun a i => if a.contains i then a else a ++ [i]) []

/-- A list of a planned shaft. -/
def planned (p : List (Nat × List Stop)) (n : Nat) : List Stop := match p.find? fun e => e.1 == n with | some e => e.2 | none => []

/-- The figures of one insertion, if the separation plan can be resolved (09 R266, R271). -/
def figures (s : State) (x : CarCtx) (id : Nat) (old : List Stop) (l : List Stop) : Option Cand :=
  let lists := (shaftLists s x.h).map fun e => if e.1 = x.c.car then (e.1, l) else e
  (playShaft s x.h 9 lists).map fun p =>
    let new := planned p x.c.car
    let c := s.call id
    let (a, b) := callTimes c new id
    let adds := ((listCalls old).filter (· != id)).map fun i => (callTimes (s.call i) new i).2 - (callTimes (s.call i) old i).2
    let parked := fun (m : List (Nat × List Stop)) => m.foldl (fun n e => n + (e.2.filter (·.park)).length) 0
    let waits := fun (m : List Stop) => m.foldl (fun n t => n + t.sepWait) 0
    { car := x.c.car, wait := a - nowUs s, ride := if c.kind = 3 then b - a else 0, delay := adds.foldl (· + ·) 0, maxDelay := adds.foldl max 0
      load := (loads s (onBoardNow s x.c.car) new).foldl max 0, stops := l.length - (stopList s x.c.car).length
      parks := parked p - parked lists, sepWait := waits new - waits old, lists := p }

/-- Milliseconds of a number of µs, rounded up (09 R265). -/
def msUp (us : Nat) : Nat := min max32 (ceilDiv us 1000)
/-- Cost of an insertion: WAIT + RIDE + DELAY, in µs (09 R266). -/
def candCost (c : Cand) : Nat := c.wait + c.ride + c.delay
/-- Cost of a candidate to the factory policy, from the figures published (09 R265, R268). -/
def policyCost (c : Cand) : Nat := msUp c.wait + msUp c.ride + msUp c.delay

/-- The best insertion of a call in a car (09 R266): the least cost, the first in list order. -/
def bestFor (s : State) (x : CarCtx) (id : Nat) : Option Cand :=
  let old := match playShaft s x.h 9 (shaftLists s x.h) with | some p => planned p x.c.car | none => stopList s x.c.car
  (insertions s x id).foldl (fun (b : Option Cand) l =>
    match figures s x id old l, b with
    | none, _ => b
    | some c, none => some c
    | some c, some d => if candCost c < candCost d then some c else b) none

/-- The candidates of a call (09 R263, R264, R273): the available cars of its set, but for one car and one shaft. -/
def candidates (s : State) (id : Nat) (noCar noShaft : Option Nat) : List Cand :=
  ((callCars s (s.call id)).filter fun x => reaches x (s.call id) && availOf s x == 0 && some x.c.car != noCar && some x.h != noShaft).filterMap
    fun x => bestFor s x id

/-- The candidate with the least value, the lowest car number if several tie. -/
def leastCand (f : Cand → Nat) (l : List Cand) : Option Cand :=
  l.foldl (fun (b : Option Cand) c => match b with
    | none => some c
    | some d => if f c < f d ∨ (f c = f d ∧ c.car < d.car) then some c else b) none

end Sys2Proof.Machine
end

