-- ==== Sys2Proof/Machine/Counters.lean ====
section
/-! DEFINITION. The counter commands, what they land at the release phase, and the samples of the threshold counters (19). -/
namespace Sys2Proof.Machine

/-- CTR_READ (19 R504, R512): COUNT counters from FIRST, each as CTR.VAL. -/
def execCtrRead (r : Request) (s : State) : Host.Outcome State Fault Refusal :=
  let first := rq r 16 2
  let top := min 120 (1024 - first)
  let n := clampN 1 top (rq r 18 1)
  let view := rq r 19 1
  .next (serve s r 0x7101 true (firstBad [(16, decide (first ≤ 1023)), (19, decide (view ≤ 1))]) [] fun r s =>
    if view = 1 ∧ ¬ (s.part r.part).global then denied s r
    else
      let s := noteClamps s r (clampedN 18 1 top (rq r 18 1))
      ok s r ([(16, 1, (n : Int)), (20, 4, ((s.time.cycle % 4294967296 : Nat) : Int))] ++
        (List.range n).map fun i => (24 + 8 * i, 8, ((ctrWord s r.part (view == 1) (first + i) : Nat) : Int)))
        0 (contFor (24 + 8 * n)))

/-- Largest N of an occupancy source (19 R505). -/
def thrMax (source : Nat) : Nat :=
  match source with
  | 1 => 65535 | 2 => 268435456 | 3 => max32 | 4 => 4096 | 5 => 256 | 6 => 4096 | 7 => 16384 | 8 => 20000 | _ => 65535

/-- Whether INSTANCE names an object of the source (19 R505); a partition's own counter only its own (R506). -/
def thrInstance (s : State) (own : Option Nat) (source inst : Nat) : Bool :=
  match source with
  | 1 => liveQueue s inst && own.all (fun p => (s.queue inst).part == p)
  | 2 => tabHas s.host.parts inst && own.all (fun p => inst == p)
  | 4 => decide (inst < 8)
  | 8 => decide (inst < 64)
  | 9 => decide (inst < 4)
  | _ => inst == 0

/-- CTR_THRESHOLD_SET (19 R506, R507): the setting waits for the release phase. -/
def execCtrThresholdSet (r : Request) (s : State) : Host.Outcome State Fault Refusal :=
  let k := rq r 16 1
  let en := rq r 17 1
  let src := rq r 18 1
  let own := if 32 ≤ k then some r.part else none
  let foreign := decide (32 ≤ k) && decide (3 ≤ src)
  .next (serve s r 0x7110 true
    (firstBad [(16, decide (k ≤ 35)), (17, decide (en ≤ 1)), (18, decide (1 ≤ src ∧ src ≤ 9)),
               (20, foreign || thrInstance s own src (rq r 20 4))]) [] fun r s =>
      if (k < 32 ∧ ¬ (s.part r.part).global) ∨ foreign then denied s r
      else
        let s := noteClamps s r (clampedN 24 0 (thrMax src) (rq r 24 4))
        s.onCtr fun c => { c with thrPend := c.thrPend ++
          [(r, k, { enable := en == 1, source := src, inst := rq r 20 4, level := clampN 0 (thrMax src) (rq r 24 4) })] })

/-- CTR_WINDOW_SET (19 R509): the window length waits for the release phase. -/
def execCtrWindowSet (r : Request) (s : State) : Host.Outcome State Fault Refusal :=
  let p := rq r 16 1
  .next (serve s r 0x7111 true (firstBad [(16, decide (p ≤ 16) || p == 0xFF)]) [] fun r s =>
    if ¬ (s.part r.part).global then denied s r
    else
      let s := noteClamps s r (clampedN 20 1 1000000 (rq r 20 4))
      s.onCtr fun c => { c with bwPend := c.bwPend ++
        [(r, if p = 0xFF then List.range 17 else [p], clampN 1 1000000 (rq r 20 4))] })

/-- BANDWIDTH_WINDOW_END (19 R509, R510): the window's bytes go to the byte counters in units of 1,024, with the remainder
carried, and are posted in units of 64. -/
def execBandwidthWindowEnd (port txBytes rxBytes : Nat) (s0 : State) : Host.Outcome State Fault Refusal :=
  let b := s0.port port
  let s := bump s0 (cBytes port false) ((b.txRem + txBytes) / 1024)
  let s := bump s (cBytes port true) ((b.rxRem + rxBytes) / 1024)
  let tx := min max32 (txBytes / 64)
  let rx := min max32 (rxBytes / 64)
  .next (if 17 ≤ port then s0 else s.onCtr fun c => { c with bw := tabMod c.bw {} port fun b =>
    { b with txRem := (b.txRem + txBytes) % 1024, rxRem := (b.rxRem + rxBytes) % 1024, txWin := tx, rxWin := rx,
             txPeak := max b.txPeak tx, rxPeak := max b.rxPeak rx } })

/-- Entries of a partition that wait for hand-over (19 R505 source 02h). -/
def handoverWaiting (s : State) (p : Nat) : Nat :=
  (s.host.queues.filter fun x => x.2.part == p && !x.2.event).foldl (fun n x => n + waitingEntries x.2) 0

/-- MiB of the staging region in use (19 R505 source 06h, 17 R466): 32 bytes a row. -/
def stagingMiB (s : State) : Nat := (s.cairn.staging.foldl (fun n c => n + c.rows.length) 0) * 32 / 1048576

/-- An occupancy as sampled at the release phase (19 R505). -/
def occupancy (s : State) (source inst : Nat) : Nat :=
  match source with
  | 1 => let q := s.queue inst; if liveQueue s inst then q.hostRing.length + waitingEntries q + unconsumed q else 0
  | 2 => handoverWaiting s inst
  | 3 => (s.host.queues.filter fun x => !x.2.event).foldl (fun n x => n + waitingEntries x.2) 0
  | 4 => (tabGet s.can.chans {} inst).ring.length
  | 5 => (s.cairn.intake.filter fun x => x.record && !x.dropped).length
  | 6 => stagingMiB s
  | 7 => (s.disp.calls.filter fun e => outstanding e.2).length
  | 8 => (s.weaver inst).ticks
  | _ => (s.ring inst).slotEnd

/-- Whether a threshold counter counts in this cycle (19 R505, R506): enabled, and the occupancy strictly above N. -/
def thrCounts (s : State) (t : Threshold) : Bool := t.enable && decide (t.level < occupancy s t.source t.inst)

/-- One sample of every threshold counter (19 R505, R506). -/
def sampleThresholds (s : State) : State :=
  let t := s.ctr.thr.filter fun x => thrCounts s x.2
  let p := s.ctr.pthr.filter fun x => thrCounts s x.2
  (s.each t fun s x => bump s (cThr x.1)).onCtr fun c =>
    { c with pcnt := p.foldl (fun m x => tabMod m 0 x.1 fun v => satAdd max48 v 1) c.pcnt }

/-- One landed ctr.threshold.set: the counter keeps its count, which the completion returns (19 R507). -/
def landThreshold (s : State) (x : Request × Nat × Threshold) : State :=
  let (r, k, t) := x
  let value := if k < 32 then tabGet s.ctr.cnt 0 (cThr k) else tabGet s.ctr.pcnt 0 (4 * r.part + (k - 32))
  let s := s.onCtr fun c =>
    if k < 32 then { c with thr := tabSet c.thr k t } else { c with pthr := tabSet c.pthr (4 * r.part + (k - 32)) t }
  ok s r [(16, 1, (k : Int)), (17, 1, b2n t.enable), (18, 1, t.source), (20, 4, t.inst), (24, 4, t.level), (32, 8, value)]
    (s.time.cycle % 4294967296)

/-- One landed ctr.window.set: the windows in progress are discarded (19 R509). -/
def landWindow (s : State) (x : Request × List Nat × Nat) : State :=
  let (r, ps, w) := x
  let s := s.onCtr fun c => { c with bw := ps.foldl (fun t p => tabMod t {} p fun b => { b with window := w }) c.bw }
  ok s r [(20, 4, (w : Int))] (s.time.cycle % 4294967296)

/-- The release phase of the counter set: settings land, then every enabled threshold counter takes its sample (19 R507). -/
def landCounters (s : State) : State :=
  let t := s.ctr.thrPend
  let w := s.ctr.bwPend
  let s := s.onCtr fun c => { c with thrPend := [], bwPend := [] }
  sampleThresholds ((s.each t landThreshold).each w landWindow)

end Sys2Proof.Machine
end

