-- ==== Sys2Proof/Machine/Creel.lean ====
section
/-! DEFINITION. Meanings of the commands of Creel and of the register space (02, 17 R463, 18 R498, 19 R510, R511, 20 R526). -/
namespace Sys2Proof.Machine

/-- CREEL_DATAGRAM (02 R60, R46). -/
def execCreelDatagram (port : Nat) (d : Datagram) (s : State) : Host.Outcome State Fault Refusal :=
  .next (datagramIn s port d)

/-- MANAGEMENT_READ (02 R62). -/
def execManagementRead (port : Nat) (d : Datagram) (s : State) : Host.Outcome State Fault Refusal :=
  .next (datagramIn s port d)

/-- MANAGEMENT_WRITE (02 R62). -/
def execManagementWrite (port : Nat) (d : Datagram) (s : State) : Host.Outcome State Fault Refusal :=
  .next (datagramIn s port d)

/-- ETHERNET_AUX_FRAME (15 R433): ARP, neighbour discovery and PTP are answered from 90 ms (STAGE 2), all other traffic that
is no Creel datagram is dropped and counted. -/
def execEthernetAuxFrame (port : Nat) (kind : AuxKind) (s : State) : Host.Outcome State Fault Refusal :=
  let answered := s.sys.ethOn ∧ 2 ≤ s.sys.stage ∧ kind ≠ .other
  .next (s.onSys fun y => { y with aux := tabMod y.aux 0 (2 * port + b2n (!decide answered)) (satAdd max48 · 1) })

/-- DB_SUBMIT (02 R57, R58). -/
def execDbSubmit (part : Nat) (value : BitVec 64) (entries : List (List Byte)) (s : State) :
    Host.Outcome State Fault Refusal :=
  .next (doSubmit s part value.toNat entries)

/-- DB_COMPHEAD (02 R57, R58). -/
def execDbComphead (part : Nat) (value : BitVec 64) (s : State) : Host.Outcome State Fault Refusal :=
  .next (doCompHead s part value.toNat)

/-- The data of a read is kept where the reader takes it. -/
def keepRead (x : Nat × State) : State := x.2.onHost fun h => { h with readData := BitVec.ofNat 64 x.1 }

/-- DB_FAULT_COUNT_READ (02 R57, 00 R11): returned, then cleared. -/
def execDbFaultCountRead (part : Nat) (s : State) : Host.Outcome State Fault Refusal :=
  .next (keepRead (readReg s part 0x1010 32))

/-- REGISTER_WRITE (00 R11, R13, 02 R545). -/
def execRegisterWrite (part offset width : Nat) (value : BitVec 64) (s : State) : Host.Outcome State Fault Refusal :=
  .next (writeReg s part offset width value.toNat)

/-- REGISTER_READ (00 R11, R13, 02 R545). -/
def execRegisterRead (part offset width : Nat) (s : State) : Host.Outcome State Fault Refusal :=
  .next (keepRead (readReg s part offset width))

/-- SYS_SUPPLY_W1C_WRITE (20 R526). -/
def execSysSupplyW1cWrite (part : Nat) (value : Word) (s : State) : Host.Outcome State Fault Refusal :=
  .next (writeReg s part 0x24 32 value.toNat)

/-- REC_CURSOR_SEQ_WRITE (17 R463). -/
def execRecCursorSeqWrite (part : Nat) (value : Word) (s : State) : Host.Outcome State Fault Refusal :=
  .next (writeReg s part 0x2000 32 value.toNat)

/-- CTR_VAL_LOW_READ (19 R511): the low half of word `j`; the high half is latched. -/
def execCtrValLowRead (part j : Nat) (s : State) : Host.Outcome State Fault Refusal :=
  .next (keepRead (readReg s part (0x3800 + 8 * (j % 256)) 32))

/-- CTR_VAL_HIGH_READ (19 R511): the latched high half of word `j`, or the current one. -/
def execCtrValHighRead (part j : Nat) (s : State) : Host.Outcome State Fault Refusal :=
  .next (keepRead (readReg s part (0x3804 + 8 * (j % 256)) 32))

/-- CTR_BW_PEAK_READ (19 R510): TXPEAK or RXPEAK of a port, returned and then cleared. -/
def execCtrBwPeakRead (part port : Nat) (tx : Bool) (s : State) : Host.Outcome State Fault Refusal :=
  .next (keepRead (readReg s part (if tx then 0x3108 + 16 * port else 0x310C + 16 * port) 32))

/-- DBG_WHALT_WRITE (18 R493, R498). -/
def execDbgWhaltWrite (part : Nat) (hi : Bool) (value : Word) (s : State) : Host.Outcome State Fault Refusal :=
  .next (writeReg s part (if hi then 0x5008 else 0x5004) 32 value.toNat)

/-- DBG_CHALT_WRITE (18 R493, R498). -/
def execDbgChaltWrite (part : Nat) (value : Word) (s : State) : Host.Outcome State Fault Refusal :=
  .next (writeReg s part 0x500C 32 value.toNat)

/-- DBG_CTRL_RESET (18 R495). -/
def execDbgCtrlReset (part : Nat) (value : Word) (s : State) : Host.Outcome State Fault Refusal :=
  .next (writeReg s part 0x501C 32 value.toNat)

/-- DBG_MEM_DATA_READ (18 R487, R488). -/
def execDbgMemDataRead (part : Nat) (s : State) : Host.Outcome State Fault Refusal :=
  .next (keepRead (readReg s part 0x503C 32))

/-- DBG_MEM_DATA_WRITE (18 R487, R488). -/
def execDbgMemDataWrite (part : Nat) (value : Word) (s : State) : Host.Outcome State Fault Refusal :=
  .next (writeReg s part 0x503C 32 value.toNat)

/-- DBG_IMG_START (18 R482): a write of DBG.IMG.CTRL with START. -/
def execDbgImgStart (part : Nat) (value : Word) (s : State) : Host.Outcome State Fault Refusal :=
  .next (writeReg s part 0x5040 32 (value ||| 0x10).toNat)

/-- DBG_IMG_DATA_WRITE (18 R482). -/
def execDbgImgDataWrite (part : Nat) (value : Word) (s : State) : Host.Outcome State Fault Refusal :=
  .next (writeReg s part 0x5048 32 value.toNat)

/-- DBG_IMG_COMMIT (18 R482): a write of DBG.IMG.CTRL with COMMIT. -/
def execDbgImgCommit (part : Nat) (value : Word) (s : State) : Host.Outcome State Fault Refusal :=
  .next (writeReg s part 0x5040 32 (value ||| 0x20).toNat)

/-- TOKEN_REFILL (02 R50). -/
def execTokenRefill (s : State) : Host.Outcome State Fault Refusal :=
  .next (s.onHost fun h => { h with queues := h.queues.map fun x => (x.1, refill x.2) })

/-- CREEL_HANDOVER (02 R51). -/
def execCreelHandover (s : State) : Host.Outcome State Fault Refusal :=
  .next (handOverNext s)

end Sys2Proof.Machine
end

