-- ==== Sys2Proof/Machine/Field.lean ====
section
/-! DEFINITION. Meanings of the field class 30h and of the moments of the field island (11). -/
namespace Sys2Proof.Machine

/-! ### Digital inputs and outputs -/

/-- One sample of an input's filter (11 R322, R323). -/
def diStep (p : DiSt) (raw : Bool) : DiSt :=
  let c := if p.filt = 0 then 0 else if raw then min (p.c + 1) p.filt else p.c - 1
  let st := if p.filt = 0 then raw else if c = p.filt then true else if c = 0 then false else p.state
  { p with c, state := st, edges := if st && !p.state then (p.edges + 1) % 65536 else p.edges }

/-- A reference move that finds its edge (11 R346). -/
def refFound (s : State) (n di : Nat) (rise : Bool) : State :=
  let p := s.stp n
  if p.state = .referencing ∧ !p.start ∧ p.move.di = di ∧ (p.move.edge = 0) = rise then
    fieldEvent (s.onStp n fun p => { p with pos := p.move.refPos, unknown := false, state := .decelerating }) 0x0B n p.move.refPos
  else s

/-- DI_SAMPLE (11 R322, R323, R346): every input is sampled once. -/
def execDiSample (raw : BitVec 48) (s : State) : Host.Outcome State Fault Refusal :=
  .next (if !s.field.on then s
    else (List.range 48).foldl (fun s n =>
      let was := (s.di n).state
      let now := diStep (s.di n) (raw.getLsbD n)
      let s := s.onDi n fun _ => now
      if was = now.state then s else s.each (List.range 8) fun s o => refFound s o n now.state) s)

/-- DO_OVERLOAD (11 R325). -/
def execDoOverload (n : Nat) (s : State) : Host.Outcome State Fault Refusal :=
  let b : BitVec 24 := BitVec.ofNat 24 (2 ^ (n % 24))
  .next (if 24 ≤ n ∨ !s.field.on ∨ s.field.overload.getLsbD n then s
    else fieldEvent (bump (s.onField fun f => { f with
      overload := f.overload ||| b, zeroed := f.zeroed &&& ~~~ b, doOut := f.doOut &&& ~~~ b }) (cField 0)) 1 n 0)

/-- DO_SILENCE (11 R326): every output takes its pattern bit. -/
def execDoSilence (s : State) : Host.Outcome State Fault Refusal :=
  .next (if !s.field.on ∨ s.field.silent then s
    else bump (s.onField fun f => { f with silent := true, wasSilent := true, doOut := f.pattern &&& ~~~ f.overload }) (cField 1))

/-- DIO_READ (11): a snapshot of the latest instant. -/
def execDioRead (r : Request) (s : State) : Host.Outcome State Fault Refusal :=
  let first := rq r 16 1
  .next (serve s r 0x3001 true (firstBad [(16, decide (first ≤ 47))]) [] fun r s =>
    let f := s.field
    ok (s.onField fun f => { f with wasSilent := f.silent }) r
      ([(16, 6, (f.diInst.toNat : Int)), (22, 3, (f.doInst.1.toNat : Int)), (25, 3, (f.doInst.2.1.toNat : Int)), (28, 3, (f.doInst.2.2.toNat : Int)),
        (31, 1, ((b2n (!f.on) + 2 * b2n f.wasSilent : Nat) : Int))] ++
       (List.range 16).map fun i => (32 + 2 * i, 2, if first + i < 48 then ((s.di (first + i)).edgesInst : Int) else 0)))

/-- DIO_WRITE (11 R345). -/
def execDioWrite (r : Request) (s : State) : Host.Outcome State Fault Refusal :=
  .next (serve s r 0x3010 (actReady s) none [] fun r s =>
    let mask := BitVec.ofNat 24 (rq r 16 3)
    if mask &&& s.field.doorOwned ≠ 0 then refused s r
    else s.onField fun f => { f with doPend := f.doPend ++ [(some r, mask, BitVec.ofNat 24 (rq r 20 3))] })

/-- DIO_SAFE_SET (11 R326, R345): kept in NOR, written to the front end at the next instant. -/
def execDioSafeSet (r : Request) (s : State) : Host.Outcome State Fault Refusal :=
  .next (serve s r 0x3011 (actReady s) none (clampedN 20 1 1000 (rq r 20 2)) fun r s =>
    let p := BitVec.ofNat 24 (rq r 16 3)
    let t := clampN 1 1000 (rq r 20 2)
    s.onField fun f => { f with safePend := f.safePend ++ [(r, p, t)] })

/-! ### Analogue and sigma-delta inputs -/

/-- The fault condition of a mode (11 R327). -/
def aiBad (mode : Nat) (code : Int) : Bool :=
  match mode with
  | 0 => decide (code = -32768) || decide (code = 32767)
  | 1 => decide (code < -1333)
  | _ => decide (code < 4800) || decide (28000 < code)

/-- AI_CONVERSION (11 R327, R328). -/
def execAiConversion (n : Nat) (code : Int) (atInstant : Bool) (s : State) : Host.Outcome State Fault Refusal :=
  let p := s.ai n
  let c := clampI (-32768) 32767 code
  .next (if 16 ≤ n ∨ !s.field.on then s
    else
      let bad := if aiBad p.mode c then min (p.bad + 1) 65535 else 0
      let good := if aiBad p.mode c then 0 else min (p.good + 1) 65535
      let keep := if s.sys.rate = 2 then 64 else 96
      let p' := { p with hist := (c :: p.hist).take keep, bad, good, code := if atInstant && !frontFailed s (2 + n) then c else p.code }
      if !p.fault && decide (16 ≤ bad) then fieldEvent (bump (s.onAi n fun _ => { p' with fault := true }) (cField 4)) 5 n c
      else if p.fault && !p.open_ && decide (1024 ≤ good) then fieldEvent (s.onAi n fun _ => { p' with fault := false }) 6 n c
      else s.onAi n fun _ => p')

/-- AI_OVERCURRENT (11 R327): the burden opens. -/
def execAiOvercurrent (n : Nat) (s : State) : Host.Outcome State Fault Refusal :=
  let p := s.ai n
  .next (if 16 ≤ n ∨ !s.field.on ∨ p.mode = 0 then s
    else
      let s := s.onAi n fun p => { p with open_ := true, fault := true, good := 0 }
      if p.fault then s else fieldEvent (bump s (cField 4)) 5 n p.code)

/-- AI_RECONNECT (11 R327): the burden is reconnected as a retry. -/
def execAiReconnect (n : Nat) (s : State) : Host.Outcome State Fault Refusal :=
  .next (if (s.ai n).open_ then s.onAi n fun p => { p with open_ := false, good := 0 } else s)

/-- AI_READ (11). -/
def execAiRead (r : Request) (s : State) : Host.Outcome State Fault Refusal :=
  let first := rq r 16 1
  let n := clampN 1 (16 - first) (rq r 17 1)
  .next (serve s r 0x3002 true (firstBad [(16, decide (first ≤ 15))]) (clampedN 17 1 (16 - first) (rq r 17 1)) fun r s =>
    ok s r ([(16, 1, (n : Int)), (20, 4, ((s.time.cycle % 4294967296 : Nat) : Int))] ++ (List.range n).flatMap fun i =>
      let p := s.ai (first + i)
      let o := 24 + 8 * i
      let mean := if p.hist.isEmpty then p.code else p.hist.foldl (fun (a : Int) c => a + c) 0 / p.hist.length
      let flags := b2n (aiFault s (first + i)) + 2 * b2n p.open_ + 4 * b2n (frontFailed s (2 + first + i))
      [(o, 2, p.code), (o + 2, 2, mean), (o + 4, 1, (p.mode : Int)), (o + 5, 1, ((flags : Nat) : Int))])
      0 (contFor (24 + 8 * n)))

/-- SD_FILTER_OUTPUT (11 R329, R331). -/
def execSdFilterOutput (n sum : Nat) (run64 : Bool) (s : State) : Host.Outcome State Fault Refusal :=
  let p := s.sd n
  let o3 : Int := 2 ^ (3 * p.osr)
  let good := if run64 then 0 else min (p.good + 1) 65535
  .next (if 8 ≤ n ∨ !s.field.on then s
    else s.onSd n fun p => { p with
      v := ((sum : Int) - o3 / 2) * 16777216 / o3, good
      fault := p.fault && decide (good < 1024) })

/-- SD_OC_OUTPUT (11 R330): OCN consecutive outputs above OCTH latch an over-current trip. -/
def execSdOcOutput (n : Nat) (vf : Int) (s : State) : Host.Outcome State Fault Refusal :=
  let p := s.sd n
  let above := if p.octh ≠ 0 ∧ p.octh < iabs vf then min (p.above + 1) 255 else 0
  .next (if 8 ≤ n ∨ !s.field.on then s
    else
      let s := s.onSd n fun p => { p with above }
      if p.ocn ≤ above ∧ p.ocset < 4 ∧ !(s.pwm p.ocset).oc then
        fieldEvent (bump (s.onPwm p.ocset fun w => { w with oc := true, on := false, carry := [0, 0, 0], legs := [{}, {}, {}] })
          (cField 6)) 8 p.ocset (iabs vf)
      else s)

/-- SD_STUCK_LINE (11 R331). -/
def execSdStuckLine (n : Nat) (s : State) : Host.Outcome State Fault Refusal :=
  .next (if 8 ≤ n ∨ !s.field.on then s
    else sdFaulty s n)

/-! ### Quadrature inputs -/

/-- One sample of a line filter (11 section "Quadrature inputs"). -/
def lineStep (flt : Nat) (f : LineFilt) (raw : Bool) : LineFilt :=
  if raw = f.level then { f with run := 0 } else if flt ≤ f.run then { level := raw } else { f with run := f.run + 1 }

/-- Place of a pair (A, B) in the sequence 00, 10, 11, 01 (11 R332). -/
def quadIndex (a b : Bool) : Nat := match a, b with | false, false => 0 | true, false => 1 | true, true => 2 | false, true => 3

/-- A signed 32-bit count that wraps. -/
def wrap32 (x : Int) : Int := toI32 (toU32 x)

/-- QUAD_SAMPLE (11 R332 to R334). -/
def execQuadSample (n : Nat) (a b z : Bool) (s : State) : Host.Outcome State Fault Refusal :=
  let q := s.qa n
  let fa := lineStep q.flt q.fa a
  let fb := lineStep q.flt q.fb b
  let fz := lineStep q.flt q.fz z
  let ca := fa.level != q.fa.level
  let cb := fb.level != q.fb.level
  let up := (quadIndex fa.level fb.level + 4 - quadIndex q.fa.level q.fb.level) % 4 == 1
  let d : Int := if up != q.reverse then 1 else -1
  let illegal := ca && cb
  let count := if ca != cb then wrap32 (q.count + d) else q.count
  let zed := fz.level && !q.fz.level
  .next (if 8 ≤ n ∨ !s.field.on then s
    else
      let s := s.onQa n fun q => { q with
        fa, fb, fz, lineLow := false, illegal := if illegal then (q.illegal + 1) % 4294967296 else q.illegal
        since := min ((if illegal then 0 else q.since) + 1) 1024
        index := if zed then count else q.index, indexSeen := q.indexSeen || zed
        count := if zed && q.armed then q.zeroVal else count, armed := q.armed && !zed }
      let s := if illegal then bump s (cField 3) else s
      let s := if illegal && decide (q.since < 1024) then encoderFault s n else s
      let q := s.qa n
      if q.fault && decide (q.since = 1024) && !frontFailed s (26 + n) then fieldEvent (s.onQa n fun q => { q with fault := false }) 4 n q.illegal else s)

/-- QUAD_LINE_LOW (11 R333). -/
def execQuadLineLow (n : Nat) (s : State) : Host.Outcome State Fault Refusal :=
  .next (if 8 ≤ n ∨ !s.field.on then s else encoderFault (s.onQa n fun q => { q with lineLow := true }) n)

/-- Code of a step state (11 qenc.read). -/
def stepCode (k : StepState) : Nat := match k with | .idle => 0 | .moving => 1 | .referencing => 2 | .decelerating => 3 | .axisDriven => 4

/-- QENC_READ (11). -/
def execQencRead (r : Request) (s : State) : Host.Outcome State Fault Refusal :=
  let kind := rq r 16 1
  let n := rq r 17 1
  .next (serve s r 0x3003 true (firstBad [(16, decide (kind ≤ 1)), (17, decide (n ≤ 7))]) [] fun r s =>
    let cyc : Int := ((s.time.cycle % 4294967296 : Nat) : Int)
    if kind = 0 then
      let q := s.qa n
      let flags := ofBits [q.indexSeen, q.fault || frontDead s (26 + n), q.lineLow, q.armed]
      ok s r [(16, 4, q.inst), (20, 4, q.index), (24, 1, (flags : Int)), (26, 4, (q.illegal : Int)), (30, 2, (q.faults : Int)), (32, 4, cyc)]
    else
      let p := s.stp n
      let st := if (stepAxis s n).isSome then StepState.axisDriven else p.state
      ok s r [(16, 4, p.pos), (20, 4, p.move.target), (24, 1, (stepCode st : Int)),
        (25, 1, ((b2n p.unknown + 2 * b2n (p.carried != 0) : Nat) : Int)), (26, 4, ((p.rate / 1000000 : Nat) : Int)), (32, 4, cyc)])

/-! ### PWM -/

/-- PWM_PERIOD (11 R335 to R339): a period of `tp` field-island clocks begins. -/
def execPwmPeriod (n tp : Nat) (s : State) : Host.Outcome State Fault Refusal :=
  .next (if 4 ≤ n ∨ !s.field.on then s else pwmPeriod s n tp)

/-- A time rounded up to 4 ns (11 R344). -/
def up4 (n : Nat) : Nat := (n + 3) / 4 * 4

/-- The PWM configuration of a request (11 TARGET 0). -/
def pwmOf (r : Request) : PwmCfg :=
  { mode := rq r 24 1, mult := clampN 1 6 (rq r 25 1), divn := clampN 1 8 (rq r 26 1), sdin := rq r 27 1
    deadt := up4 (clampN 50 5000 (rq r 28 2)), minp := up4 (clampN 50 5000 (rq r 30 2))
    axu := rq r 32 2, axv := rq r 34 2, axw := rq r 36 2 }

/-- Whether a carrier meets 11 R335 and R344. -/
def pwmOk (s : State) (c : PwmCfg) : Bool :=
  let rate := cyclesPerS s.sys.rate
  (c.mult == 1 || c.divn == 1) && decide (8000 * c.divn ≤ rate * c.mult ∧ rate * c.mult ≤ 100000 * c.divn) &&
  decide (2 * (c.deadt + c.minp) * (rate * c.mult) ≤ 1000000000 * c.divn) && (c.mode != 2 || c.sdin != 0xFF) &&
  ([c.axu, c.axv, c.axw].filter (· != 0xFFFF)).all (dividerOk s c.divn)

/-- Whether an ENABLED or HOLDING axis reads or drives an object, by SRC.FB or SRC.OUT code (11 R344). -/
def fieldBusy (s : State) (fb out : Nat) : Bool :=
  s.loop.axes.any fun x => (x.2.state == .enabled || x.2.state == .holding) &&
    ((fb != 0 && dFb x.2.desc == fb) || (out != 0 && dOut x.2.desc == out))

/-- Whether the band law of a set whose AXU is ENABLED or HOLDING reads a sigma-delta input (11 R337, R344). -/
def bandReads (s : State) (i : Nat) : Bool :=
  s.field.pwm.any fun p => p.2.cfg.mode == 2 && p.2.cfg.sdin == i &&
    ((s.axis p.2.cfg.axu).state == .enabled || (s.axis p.2.cfg.axu).state == .holding)

/-- The enumerated fields of pwm.config (11). -/
def pwmConfigBad (s : State) (r : Request) : Option Nat :=
  let t := rq r 16 1
  let i := rq r 17 1
  let okA := fun (o : Nat) => decide (rq r o 2 < axisLimit s.sys.rate) || rq r o 2 == 0xFFFF
  firstBad ((16, decide (t ≤ 4)) :: match t with
    | 0 => [(17, decide (i ≤ 3)), (24, decide (rq r 24 1 ≤ 3)), (27, decide (rq r 27 1 ≤ 7) || rq r 27 1 == 0xFF), (32, okA 32), (34, okA 34), (36, okA 36)]
    | 1 => [(17, decide (i ≤ 7)), (29, decide (rq r 29 1 ≤ 3) || rq r 29 1 == 0xFF)]
    | 2 => [(17, decide (i ≤ 15)), (24, decide (rq r 24 1 ≤ 2))]
    | 3 => [(17, decide (i ≤ 7))]
    | 4 => [(24, decide (rq r 24 1 ≤ 47))]
    | _ => [])

/-- The clamped fields of pwm.config (11). -/
def pwmConfigClamps (r : Request) : List Nat :=
  match rq r 16 1 with
  | 0 => clampedN 25 1 6 (rq r 25 1) ++ clampedN 26 1 8 (rq r 26 1) ++ clampedN 28 50 5000 (rq r 28 2) ++ clampedN 30 50 5000 (rq r 30 2)
  | 1 => clampedN 24 10 25 (rq r 24 1) ++ clampedN 25 5 8 (rq r 25 1) ++ clampedN 26 0 15 (rq r 26 1) ++ clampedN 27 8 32 (rq r 27 1) ++
      clampedN 28 1 8 (rq r 28 1) ++ clampedN 32 0 8388608 (rq r 32 4)
  | 3 => clampedN 24 0 7 (rq r 24 1)
  | 4 => clampedN 25 1 (min 24 (48 - rq r 24 1)) (rq r 25 1)
  | _ => []

/-- What a pwm.config posts, its effective values, and whether it is refused (11 R344). -/
def fieldCfgOf (s : State) (r : Request) : FieldCfg × List (Nat × Nat × Int) × Bool :=
  let i := rq r 17 1
  let c1 := fun (o lo hi : Nat) => clampN lo hi (rq r o 1)
  match rq r 16 1 with
  | 0 =>
    let c := pwmOf r
    (.pwm i c, [(24, 1, (c.mode : Int)), (25, 1, (c.mult : Int)), (26, 1, (c.divn : Int)), (27, 1, (c.sdin : Int)), (28, 2, (c.deadt : Int)),
      (30, 2, (c.minp : Int)), (32, 2, (c.axu : Int)), (34, 2, (c.axv : Int)), (36, 2, (c.axw : Int))],
     fieldBusy s 0 (0x10 + i) || !pwmOk s c)
  | 1 =>
    let th := clampN 0 8388608 (rq r 32 4)
    (.sd i (c1 24 10 25) (c1 25 5 8) (c1 26 0 15) (c1 27 8 32) (c1 28 1 8) (rq r 29 1) th,
     [(24, 1, (c1 24 10 25 : Int)), (25, 1, (c1 25 5 8 : Int)), (26, 1, (c1 26 0 15 : Int)), (27, 1, (c1 27 8 32 : Int)), (28, 1, (c1 28 1 8 : Int)),
      (29, 1, (rq r 29 1 : Int)), (32, 4, (th : Int))], fieldBusy s (0x30 + i) 0 || bandReads s i)
  | 2 => (.ai i (rq r 24 1), [(24, 1, (rq r 24 1 : Int))], fieldBusy s (0x20 + i) 0)
  | 3 =>
    let f := rq r 25 1
    (.qa i (c1 24 0 7) (bitAt f 0) (bitAt f 1) (rqI r 28), [(24, 1, (c1 24 0 7 : Int)), (25, 1, ((f % 4 : Nat) : Int)), (28, 4, rqI r 28)],
     fieldBusy s (0x10 + i) 0)
  | _ =>
    let first := rq r 24 1
    let n := clampN 1 (min 24 (48 - first)) (rq r 25 1)
    let l := (List.range n).map fun k => rq r (28 + 2 * k) 2
    (.di first l, [(24, 1, (first : Int)), (25, 1, (n : Int))] ++ (List.range n).map fun k => (28 + 2 * k, 2, (l.getD k 0 : Int)), false)

/-- PWM_CONFIG (11 R344). -/
def execPwmConfig (r : Request) (s : State) : Host.Outcome State Fault Refusal :=
  .next (serve s r 0x3020 (actReady s) (pwmConfigBad s r) (pwmConfigClamps r) fun r s =>
    let (c, eff, no) := fieldCfgOf s r
    if no then refused s r
    else s.onField fun f => { f with cfgPend := f.cfgPend ++ [(r, c, [(16, 1, (rq r 16 1 : Int)), (17, 1, (rq r 17 1 : Int))] ++ eff)] })

/-! ### Step outputs -/

/-- STEP_MOVE (11 R342, R346). -/
def execStepMove (r : Request) (s : State) : Host.Outcome State Fault Refusal :=
  let n := rq r 16 1
  let mode := rq r 17 1
  let pw := up4 (clampN 100 10000 (rq r 32 2))
  let top := stepLimitRate pw
  let vmax := clampN 1 top (rq r 24 4)
  let acc := clampN 1 100000000 (rq r 28 4)
  .next (serve s r 0x3030 (actReady s)
    (firstBad [(16, decide (n ≤ 7)), (17, decide (mode ≤ 3)), (18, mode != 2 || decide (rq r 18 1 ≤ 47)), (19, mode != 2 || decide (rq r 19 1 ≤ 1))])
    (clampedN 24 1 top (rq r 24 4) ++ clampedN 28 1 100000000 (rq r 28 4) ++ clampedN 32 100 10000 (rq r 32 2)) fun r s =>
      let p := s.stp n
      let ax := stepAxis s n
      let busy := stepBusy p || p.start || s.field.movePend.any fun x => x.1 == n
      let driven : Bool := match ax with | some a => (s.axis a).state != AxisState.disabled | none => false
      if (mode ≤ 2 ∧ (ax.isSome ∨ busy)) ∨ (mode ≤ 1 ∧ p.unknown) ∨ (mode = 3 ∧ (busy ∨ driven)) then refused s r
      else
        let m : StepMove := { mode, di := rq r 18 1, edge := rq r 19 1, target := rqI r 20, vmax, acc, refPos := rqI r 36 }
        ok (s.onField fun f => { f with movePend := f.movePend ++ [(n, pw, m)] }) r
          [(16, 1, (n : Int)), (17, 1, (mode : Int)), (18, 1, (m.di : Int)), (19, 1, (m.edge : Int)), (20, 4, m.target), (24, 4, (vmax : Int)),
           (28, 4, (acc : Int)), (32, 2, (pw : Int)), (36, 4, m.refPos)] (nextRelease s % 4294967296))

/-- STEP_STOP (11 R347). -/
def execStepStop (r : Request) (s : State) : Host.Outcome State Fault Refusal :=
  let n := rq r 16 1
  .next (serve s r 0x3031 (actReady s) (firstBad [(16, decide (n ≤ 7)), (17, decide (rq r 17 1 ≤ 1))]) [] fun r s =>
    if (stepAxis s n).isSome then refused s r
    else
      let p := s.stp n
      let s := s.onField fun f => { f with movePend := f.movePend.filter fun x => x.1 != n }
      if !stepBusy p then ok s r
      else if p.start then ok (s.onStp n fun p => { p with state := .idle, start := false }) r
      else if rq r 17 1 = 0 then ok (stopAtOnce s n) r
      else ok (s.onStp n fun p => { p with state := .decelerating }) r)

/-- Whether the axis that drives an output is ENABLED or HOLDING (11 R343). -/
def stepDriven (s : State) (n : Nat) : Bool :=
  match stepAxis s n with
  | some a => (s.axis a).state == .enabled || (s.axis a).state == .holding
  | none => false

/-- STEP_PULSE (11 R340 to R342): a pulse leaves and the position counter advances. -/
def execStepPulse (n : Nat) (s : State) : Host.Outcome State Fault Refusal :=
  let p := s.stp n
  let d : Int := if p.down then -1 else 1
  .next (if 8 ≤ n ∨ frontFailed s (38 + n) ∨ p.start then s
    else match p.state with
      | .axisDriven => if p.due = 0 ∨ !stepDriven s n then s
        else s.onStp n fun p => { p with pos := wrap32 (p.pos + isign p.due), due := p.due - isign p.due, down := decide (p.due < 0) }
      | .moving => if p.pos = p.move.target then s else s.onStp n fun p => { p with pos := wrap32 (p.pos + d) }
      | .referencing => s.onStp n fun p => { p with pos := wrap32 (p.pos + d), searched := p.searched + 1 }
      | .decelerating => s.onStp n fun p => { p with pos := wrap32 (p.pos + d) }
      | .idle => s)

/-- A move ends at rest (11 R346). -/
def moveEnded (s : State) (n : Nat) : State :=
  fieldEvent (s.onStp n fun p => { p with state := .idle, rate := 0 }) 9 n (s.stp n).pos

/-- STEP_RATE_UPDATE (11 R342, R346): the rate rises by ACC, holds at VMAX, or falls to rest on the target. -/
def execStepRateUpdate (n : Nat) (s : State) : Host.Outcome State Fault Refusal :=
  let p := s.stp n
  let up := min (p.rate + p.move.acc) (p.move.vmax * 1000000)
  let dn := p.rate - p.move.acc
  let left := (p.move.target - p.pos).natAbs
  .next (if 8 ≤ n ∨ p.start then s
    else match p.state with
      | .moving =>
        if left = 0 then moveEnded s n
        else if 2 * p.move.acc * left * 1000000000000 ≤ p.rate * p.rate then
          s.onStp n fun p => { p with rate := max (min p.rate 1000000) dn }
        else s.onStp n fun p => { p with rate := up }
      | .referencing => s.onStp n fun p => { p with rate := up }
      | .decelerating => if p.rate ≤ p.move.acc then moveEnded s n else s.onStp n fun p => { p with rate := dn }
      | _ => s)

/-- STEP_SEARCH_EXHAUSTED (11 R346). -/
def execStepSearchExhausted (n : Nat) (s : State) : Host.Outcome State Fault Refusal :=
  let p := s.stp n
  .next (if p.state = .referencing ∧ !p.start ∧ p.move.target.natAbs ≤ p.searched then
    fieldEvent (s.onStp n fun p => { p with state := .decelerating }) 0x0C n p.pos else s)

end Sys2Proof.Machine
end

