-- ==== Sys2Proof/Machine/Tuning.lean ====
section
/-! DEFINITION. The tuning class 11h: test signals and capture (05 R160 to R167). -/
namespace Sys2Proof.Machine

/-! ### Capture in the window (05 R164, R165) -/

/-- FLAGS of axis.status (04 R149). -/
def axisFlags (s : State) (a : Nat) : Nat :=
  let x := s.axis a
  ofBits [x.stale, x.law.satHi, x.law.satLo, x.clamped, x.late, !x.staged.isEmpty, segCarMissed s a]

/-- Code of an axis state (04 axis.status). -/
def stateCode : AxisState → Nat
  | .unloaded => 0 | .disabled => 1 | .enabled => 2 | .holding => 3 | .fault => 4

/-- The value of a capture signal of an axis (05 R164). -/
def captureValue (s : State) (a sig : Nat) : Int :=
  let x := s.axis a
  let m := dOpt x.desc 3
  let node := axisNode s a
  let rec1 := match node with | some (r, i, k) => (nodeOf s r i).recs.getD k {} | none => {}
  match sig with
  | 0 => x.lastR | 1 => x.lastY | 2 => x.lastE | 3 => sat32 x.lastU | 4 => x.lastO
  | 5 => x.lastG | 6 => sat32 x.law.i
  | 7 => if m then x.sup.m1 else 0 | 8 => if m then x.sup.m2 else 0 | 9 => if m then x.sup.rf else 0
  | 10 => rec1.fb0 | 11 => rec1.fb1
  | 12 => toI32 (x.astat.toNat + 65536 * axisFlags s a + 16777216 * x.sup.level)
  | 13 => if dKind x.desc = 1 then x.share.force else 0
  | _ => x.lastT

/-- Whether an edge selection (0 rising, 1 falling, 2 either) takes a crossing. -/
def takesEdge (edge : Nat) (rising falling : Bool) : Bool :=
  match edge with | 0 => rising | 1 => falling | _ => rising || falling

/-- Whether a capture channel has a sample due in this window: its axis has executed and the decimation lets it (05 R165). -/
def sampleDue (s : State) (k : Nat) : Bool :=
  let c := s.loop.capture
  (s.axis (c.spec.chans.getD k (0, 0)).1).ran && decide (c.spec.decim ≤ tabGet c.skip 0 k + 1)

/-- Whether the armed capture's trigger fires in this window (05 R165, R166). -/
def triggerFires (s : State) : Bool :=
  let c := s.loop.capture
  let p := c.spec
  let x := s.axis p.taxis
  match p.trigger with
  | 0 => true
  | 1 => x.executed && x.inj.state == 1 && x.inj.j == 1
  | 2 =>
    let ch := p.chans.getD p.tchan (0, 0)
    let v := captureValue s ch.1 ch.2
    sampleDue s p.tchan && decide (p.pre ≤ (tabGet c.samples [] p.tchan).length) &&
    match c.prev with
    | none => false
    | some q => takesEdge p.edge (decide (q < p.tvalue ∧ p.tvalue ≤ v)) (decide (p.tvalue < q ∧ v ≤ p.tvalue))
  | 3 => decide (p.tvalue ≤ (x.sup.level : Int))
  | 4 =>
    match c.prev with
    | none => false
    | some q => takesEdge p.edge (q == 0 && diState s p.tchan) (q == 1 && !diState s p.tchan)
  | _ => x.executed && x.inj.state == 1 && x.inj.spec.signal == 3 && x.inj.j == x.inj.spec.settle + 1

/-- One channel takes a sample when its axis has executed and the decimation lets it. -/
def sampleChannel (s : State) (k : Nat) : State :=
  let c := s.loop.capture
  let ch := c.spec.chans.getD k (0, 0)
  let x := s.axis ch.1
  let l := tabGet c.samples [] k
  let total := tabGet c.validPre 0 k + (65536 - c.spec.pre)
  let first := c.state = 2 ∧ tabHas c.cycle0 k = false
  if !x.ran ∨ (c.state = 2 ∧ total ≤ l.length ∧ ¬ first) then s
  else if ¬ first ∧ tabGet c.skip 0 k + 1 < c.spec.decim then
    s.onLoop fun t => { t with capture := { t.capture with skip := tabSet t.capture.skip k (tabGet t.capture.skip 0 k + 1) } }
  else
    let v := captureValue s ch.1 ch.2
    let l' := if c.state = 1 then (v :: l).take c.spec.pre else v :: l
    s.onLoop fun t => { t with capture := { t.capture with
      samples := tabSet t.capture.samples k l'
      skip := tabSet t.capture.skip k 0
      cycle0 := if first then tabSet t.capture.cycle0 k s.time.cycle
        else t.capture.cycle0 } }

/-- The armed or triggered capture in the window of this cycle: the trigger is tested, channels sample, and the capture is
complete when every channel holds sample 65,535 − PRE (05 R165). -/
def captureWindow (s : State) : State :=
  let c := s.loop.capture
  if c.state ≠ 1 ∧ c.state ≠ 2 then s
  else
    let fires := c.state = 1 ∧ triggerFires s
    let due := sampleDue s c.spec.tchan
    let idx := List.range c.spec.chans.length
    let s := if fires then s.onLoop fun t => { t with capture := { t.capture with
        state := 2
        validPre := idx.foldl (fun v k => tabSet v k (tabGet t.capture.samples [] k).length) t.capture.validPre } }
      else s
    let s := s.each idx fun s k => sampleChannel s k
    let c := s.loop.capture
    let done := c.state = 2 ∧ idx.all fun k =>
      decide (tabGet c.validPre 0 k + (65536 - c.spec.pre) ≤ (tabGet c.samples [] k).length)
    let ch := c.spec.chans.getD c.spec.tchan (0, 0)
    s.onLoop fun t => { t with capture := { t.capture with
      state := if done then 3 else t.capture.state
      prev := if c.spec.trigger = 4 then some (b2n (diState s c.spec.tchan) : Nat)
        else if due then some (captureValue s ch.1 ch.2) else t.capture.prev } }

/-! ### Commands -/

/-- STATE of a channel (05 R165, R167): that of the capture which names it, or that in which its content was left (DEDUCED,
log 78). -/
def channelState (s : State) (ch : Nat) : Nat :=
  let c := s.loop.capture
  if ch < c.spec.chans.length then c.state else tabGet c.kept 0 ch

/-- TUNE_CAPTURE_READ (05 R167). -/
def execTuneCaptureRead (r : Request) (s : State) : Host.Outcome State Fault Refusal :=
  let kind := rq r 16 1
  let ch := rq r 17 1
  let a := rq r 24 4
  .next (serve s r 0x1101 (loopReady s)
    (firstBad [(16, decide (kind ≤ 1)), (17, kind != 0 || decide (ch ≤ 15)), (24, kind != 1 || okAxis s a)])
    (if kind = 0 then clampedN 18 1 248 (rq r 18 2) ++
      clampedI 20 (-((tabGet s.loop.capture.validPre 0 ch : Nat) : Int))
        (65535 - (((tabGet s.loop.capture.form (0, 1) ch).1 : Nat) : Int)) (rqI r 20) else []) fun r s =>
    if kind = 1 then
      let x := s.axis a
      let p := x.sup
      ok s r [(16, 4, (a : Int)), (20, 1, p.level), (21, 1, p.cause), (22, 1, x.inj.state), (24, 4, p.rf), (28, 4, p.m1),
        (32, 4, p.m2), (36, 4, p.lastChange % 4294967296), (40, 4, p.notes), (44, 4, p.degrades), (48, 4, p.trips),
        (52, 2, p.spikes.length), (54, 2, p.causes.toNat % 65536)]
    else
      let c := s.loop.capture
      let vp := tabGet c.validPre 0 ch
      let l := (tabGet c.samples [] ch).reverse
      let (pre, decim) := tabGet c.form (0, 1) ch
      let st := channelState s ch
      if st ≠ 3 ∧ st ≠ 4 then refused s r
      else
        let first := clampI (-(vp : Int)) (65535 - (pre : Int)) (rqI r 20)
        let avail := ((l.length : Int) - vp - first).toNat
        let n := min (clampN 1 248 (rq r 18 2)) avail
        let s := if avail < rq r 18 2 ∧ 1 ≤ rq r 18 2 ∧ rq r 18 2 ≤ 248 then noteClamps s r [18] else s
        ok s r ([(16, 1, (st : Int)), (17, 1, (ch : Int)), (18, 2, (n : Int)), (20, 4, first),
          (24, 4, ((tabGet c.cycle0 0 ch % 4294967296 : Nat) : Int)), (28, 2, (decim : Int)), (30, 1, ((tabGet c.div 1 ch : Nat) : Int))] ++
          (List.range n).map fun (i : Nat) => (32 + 4 * i, 4, l.getD (first + vp + i).toNat 0)) 0 (contFor (32 + 4 * n)))

/-- The phase increment of a frequency in mHz at divider `d` (05 R160). -/
def incOf (rate d f : Nat) : Nat := (roundDiv ((f * 4294967296 * d : Nat) : Int) (1000 * cyclesPerS rate)).toNat
/-- The effective frequency of an increment in mHz, rounded (05 R160). -/
def freqOf (rate d inc : Nat) : Int := roundDiv ((inc * 1000 * cyclesPerS rate : Nat) : Int) (d * 4294967296)

/-- TUNE_INJECT_START (05 R160, R161). -/
def execTuneInjectStart (r : Request) (s : State) : Host.Outcome State Fault Refusal :=
  let a := rq r 16 4
  let sig := rq r 20 1
  let pt := rq r 21 1
  let x := s.axis a
  let d := x.desc
  let div := dDiv d
  let fMax := 400 * cyclesPerS s.sys.rate / div
  let lim : Int := if pt = 0 then 2147483647 else if outIsForce d then dwI d 7 else if outIsCurrent d then dwI d 6 else 2147483647
  let inc := fun off => incOf s.sys.rate div (clampN 1 fMax (rq r off 4))
  let clamps := (if sig = 2 then clampedN 22 7 16 (rq r 22 1) else []) ++ clampedI 24 (-lim) lim (rqI r 24) ++
    clampedN 28 1 fMax (rq r 28 4) ++ (if sig = 1 then clampedN 32 1 fMax (rq r 32 4) else []) ++
    (if sig = 3 then clampedN 42 1 65535 (rq r 42 2) else clampedN 36 1 2147483647 (rq r 36 4)) ++
    (if sig = 2 then clampedN 44 1 65535 (rq r 44 2) else [])
  .next (serve s r 0x1110 (loopReady s && actReady s)
    (firstBad [(16, okAxis s a), (20, decide (sig ≤ 3)), (21, decide (pt ≤ 1))]) clamps fun r s =>
    if !mayInject s a then refused s r
    else
      let i0 := max 1 (inc 28)
      let settle := rq r 40 2
      let meas := clampN 1 65535 (rq r 42 2)
      let c : InjectSpec :=
        { signal := sig, point := pt, order := clampN 7 16 (rq r 22 1), ampl := clampI (-lim) lim (rqI r 24)
          inc0 := inc 28, inc1 := inc 32
          duration := if sig = 3 then ceilDiv ((settle + meas) * 4294967296) i0 else clampN 1 2147483647 (rq r 36 4)
          settle := ceilDiv (settle * 4294967296) i0, hold := clampN 1 65535 (rq r 44 2) }
      let eff := [(16, 4, (a : Int)), (20, 1, (sig : Int)), (21, 1, (pt : Int)), (22, 1, (c.order : Int)), (24, 4, c.ampl),
        (28, 4, freqOf s.sys.rate div c.inc0), (32, 4, freqOf s.sys.rate div c.inc1), (36, 4, (c.duration : Int)),
        (40, 2, (settle : Int)), (42, 2, (meas : Int)), (44, 2, (c.hold : Int))]
      stage s a { what := .injectStart c eff, req := some r })

/-- TUNE_INJECT_STOP (05 R162): one staged write. -/
def execTuneInjectStop (r : Request) (s : State) : Host.Outcome State Fault Refusal :=
  let a := rq r 16 4
  .next (serve s r 0x1111 (loopReady s && actReady s) (firstBad [(16, okAxis s a)]) [] fun r s =>
    stage s a { what := .injectStop, req := some r })

/-- TUNE_CAPTURE_ARM (05 R166). -/
def execTuneCaptureArm (r : Request) (s : State) : Host.Outcome State Fault Refusal :=
  let n := clampN 1 16 (rq r 16 1)
  let trig := rq r 17 1
  let tchan := rq r 18 1
  let edge := rq r 19 1
  let taxis := rq r 20 4
  let idx := List.range n
  let chans := idx.map fun i => (rq r (48 + 8 * i) 4, rq r (52 + 8 * i) 1)
  let bad := firstBad ([(17, decide (trig ≤ 5)),
      (18, (trig != 2 || decide (tchan < n)) && (trig != 4 || decide (tchan < 48))),
      (19, (trig != 2 && trig != 4) || decide (edge ≤ 2)),
      (20, (trig != 1 && trig != 3 && trig != 5) || okAxis s taxis)] ++
    idx.flatMap fun i => [(48 + 8 * i, okAxis s (rq r (48 + 8 * i) 4)), (52 + 8 * i, decide (rq r (52 + 8 * i) 1 ≤ 0x0E))])
  let clamps := clampedN 16 1 16 (rq r 16 1) ++
    (if trig = 3 then clampedI 24 1 3 (rqI r 24) else []) ++ clampedN 30 1 65535 (rq r 30 2)
  .next (serve s r 0x1120 (loopReady s && actReady s) bad clamps fun r s =>
    let st := s.loop.capture.state
    if ((st = 1 ∨ st = 2) ∧ rq r 32 1 % 2 = 0) ∨ chans.any (fun c => !dOpt (s.axis c.1).desc 4) then refused s r
    else
      let pre := rq r 28 2
      let decim := clampN 1 65535 (rq r 30 2)
      let c : CaptureSpec :=
        { chans, trigger := trig, tchan, edge, taxis
          tvalue := if trig = 3 then clampI 1 3 (rqI r 24) else rqI r 24, pre, decim }
      let eff := [(16, 1, (n : Int)), (18, 2, (pre : Int)), (20, 2, (decim : Int))]
      s.onLoop fun l => { l with capPend := l.capPend ++ [(r, c, eff)] })

end Sys2Proof.Machine
end

