-- ==== Sys2Proof/Machine/RingFrames.lean ====
section
/-! DEFINITION. What the Jorric rings carry (03 R73 to R79, R87, R88, 13 R378): ordered-set blocks, the bytes of the frames that
a leader sends, the delays and the instant that a member derives, and the images that a standby captures. -/
namespace Sys2Proof.Machine

/-! ### Ordered sets (03 R73) -/

/-- A block whose D2 is the complement of D1 (03 R73). -/
def mkBlock (d1 d3 ext : Nat) : SetBlock := { d1, d2 := 255 - d1, d3, ext }

/-- The block of an ordered set (03 table "Jorric ordered sets"). -/
def setBlock : OrdSet → SetBlock
  | .stop src => mkBlock 1 src 0
  | .release c => mkBlock 2 0 (c % 268435456)
  | .spandown a w => mkBlock 3 a (b2n w)
  | .spanup a w => mkBlock 4 a (b2n w)
  | .close t => mkBlock 5 0 (t % 268435456)
  | .coldstart id => mkBlock 6 0 (id % 65536)
  | .wake a id => mkBlock 7 a (id % 65536)
  | .sleep => mkBlock 8 0 0

/-- Blocks in which an ordered set is sent in a gap (03 R73, R102). -/
def inFour (x : OrdSet) : OrdSet × Nat := (x, 4)

/-- Whether D2 of a block matches its D1; a block that does not match is discarded (03 R73). -/
def blockOk (b : SetBlock) : Bool := b.d1 + b.d2 == 255

/-- The sets that a receiver acts on: the second of two consecutive identical copies, the first of STOP (03 R73). -/
def settled : Option (SetBlock × Nat) → List SetBlock → List SetBlock
  | _, [] => []
  | p, b :: l =>
    let n := match p with | some (x, n) => if x = b then n + 1 else 1 | none => 1
    if n = (if b.d1 = 1 then 1 else 2) then b :: settled (some (b, n)) l else settled (some (b, n)) l

/-- The sets acted on in a sequence of received blocks (03 R73); discarded blocks do not part two copies (DESIGN CHOICE, log 79). -/
def actedOn (l : List SetBlock) : List SetBlock := settled none (l.filter blockOk)

/-! ### The own place on a ring (03 R73, R81, 13 R373) -/

/-- The entry that is this module as a member, 0 none (DESIGN CHOICE, log 29): the first of kind 4; of a pair on an axis ring,
the member with the higher identifier takes the second. -/
def ownEntry (m : Manifest) (c : RingCfg) : Nat :=
  let l := (List.range c.entries.length).filterMap fun i => if (c.entries.getD i {}).kind = 4 then some (i + 1) else none
  if c.mode ≠ 1 ∧ m.partner ≠ 0 ∧ m.partner < m.member then l.getD 1 (l.headD 0) else l.headD 0

/-- The address with which this module sends ordered sets (03 R73): 00h when it leads, else that of its entry. -/
def ownAddr (s : State) (g : RingSt) : Nat := if g.state = .leading then 0 else ownEntry s.sys.manifest g.cfg

/-- The addresses that have a slot: partner nodes of an axis ring (03 R81), the other members of a trunk ring (14 R402). -/
def slotNodes (s : State) (c : RingCfg) : List Nat :=
  (List.range c.entries.length).filterMap fun i =>
    if (if c.mode = 1 then i + 1 = ownEntry s.sys.manifest c else (c.entries.getD i {}).kind = 4) then none else some (i + 1)

/-! ### Frames sent (03 R75, R77 to R79, R94) -/

/-- Bytes of a signed value. -/
def intBytes (w : Nat) (v : Int) : List Byte := leBytes w (v % (256 ^ w : Nat)).toNat

/-- A byte string closed by its CRC-32C (03 R75, R77, R78). -/
def sealed (l : List Byte) : List Byte := l ++ leBytes 4 (crc32c l)

/-- The header of a frame as it leaves a port (03 R75). -/
def headerBytes (s : State) (r : Nat) (west : Bool) (ftype : Nat) : List Byte :=
  let g := s.ring r
  sealed (leBytes 1 ftype ++ leBytes 1 (r % 4 + 4 * s.sys.rate + 16 * b2n west + 32 * b2n g.healed + 64 * (g.cfg.mode % 2)) ++
    leBytes 2 g.cfg.table ++ leBytes 4 s.time.cycle ++ leBytes 2 g.leader ++ leBytes 2 (if west then g.loopW else g.loopE))

/-- A service segment (03 R77): a transaction, or NODE 00h. -/
def segBytes (q : Option ServiceSt) : List Byte :=
  sealed (match q with
    | some q => leBytes 1 q.node ++ leBytes 1 q.op ++ leBytes 2 q.index ++ (q.data ++ leBytes 24 0).take 24
    | none => leBytes 28 0)

/-- The transaction that the deliver segment of this cycle carries (03 R77). -/
def dueService (g : RingSt) : Option ServiceSt := g.service.filter (·.fresh)

/-- A slot of `len` 8-byte blocks (03 R78). -/
def slotBytesOf (node flags len seq : Nat) (payload : List Byte) : List Byte :=
  sealed (leBytes 1 node ++ leBytes 1 flags ++ leBytes 1 len ++ leBytes 1 seq ++ (payload ++ leBytes (8 * len) 0).take (8 * len - 8))

/-- A deliver record (03 R79). -/
def deliverRecBytes (d : DeliverRec) : List Byte :=
  intBytes 4 d.ref0 ++ intBytes 4 d.ref1 ++ intBytes 4 d.ref2 ++ leBytes 1 (ofBits [d.enable, d.hold]) ++ leBytes 1 d.subseq ++ leBytes 2 0

/-- Whether an axis is ENABLED or HOLDING. -/
def axisLive (s : State) (a : Nat) : Bool := (s.axis a).state == .enabled || (s.axis a).state == .holding

/-- FLAGS of a node's deliver slot (03 R78, R94, 04 R146): VALID once the weavers are loaded, ENABLE while an axis of the node is
ENABLED or HOLDING. -/
def deliverFlags (s : State) (e : NodeEntry) : Nat :=
  ofBits [loopReady s, (List.range e.axes).any fun k => axisLive s (e.first + k)]

/-- The deliver slot of an entry of an axis ring (03 R78, R79); a member module has none. -/
def deliverSlot (s : State) (i : Nat) (e : NodeEntry) : List Byte :=
  if e.kind = 4 then []
  else slotBytesOf (i + 1) (deliverFlags s e) (1 + 2 * e.axes) s.time.cycle
    ((List.range e.axes).flatMap fun k => deliverRecBytes (s.axis (e.first + k)).deliver)

/-- The deliver slots of a ring; a trunk ring has none (14 R402). -/
def deliverSlots (s : State) (c : RingCfg) : List Byte :=
  if c.mode = 1 then [] else (List.range c.entries.length).flatMap fun i => deliverSlot s i (c.entries.getD i {})

/-- A number of bytes rounded up to whole 8-byte blocks. -/
def blocks8 (n : Nat) : Nat := (n + 7) / 8 * 8

/-- Collect slot bytes of an entry (03 R81, 14 R401). -/
def collectBytes (mode : Nat) (e : NodeEntry) : Nat :=
  if mode = 1 then 8 * e.tlen else if e.kind = 4 then 0 else blocks8 (8 + 12 * e.axes + 8 * e.nblk)

/-- The collect slots of a ring as the leader sends them: pre-filled, its own slot of a trunk ring written (03 "Slots", 14 R402). -/
def collectSlots (s : State) (g : RingSt) : List Byte :=
  (List.range g.cfg.entries.length).flatMap fun i =>
    let len := collectBytes g.cfg.mode (g.cfg.entries.getD i {}) / 8
    if len = 0 then []
    else if g.cfg.mode = 1 ∧ i + 1 = ownEntry s.sys.manifest g.cfg ∧ g.slotOut ≠ [] then g.slotOut
    else slotBytesOf (i + 1) 0 len 0 []

/-- A frame as it leaves a port (03 "Frames"): FTYPE 1 collect, 2 deliver, 3 merged. -/
def frameBytes (s : State) (r : Nat) (west : Bool) (ftype : Nat) : List Byte :=
  let g := s.ring r
  headerBytes s r west ftype ++
  (if ftype = 1 then [] else segBytes (dueService g) ++ deliverSlots s g.cfg) ++
  (if ftype = 2 then [] else segBytes none ++ collectSlots s g)

/-! ### The instant as a member derives it (03 R87, R88) -/

/-- Departure offset from T0 of a frame, in ns (03 R85, R88). -/
def departNs (rate ftype : Nat) : Int :=
  if ftype = 1 then (match rate with | 0 => 1000 | 1 => 500 | _ => 250) else match rate with | 0 => 41000 | 1 => 20500 | _ => 10250

/-- The delay from the port a copy left from. -/
def delayOf (g : RingSt) (west : Bool) : Option Int := if west then g.delayW else g.delayE

/-- The delays of a member from the arrivals of a frame (03 R87, 13 R390): from both copies of a collect frame, or, before it has
a delay for that port, from the outgoing and the return pass of a merged frame. A LOOPDLY of FFFFh keeps them. The loop delay is
that of the later copy (DESIGN CHOICE, log 79). -/
def takeDelays (g : RingSt) (h : FrameHeader) (t : Int) : RingSt :=
  let w := bitAt h.info 4
  let l : Int := 128 * h.loopDly
  let known := h.loopDly ≠ 0xFFFF
  if h.back then
    match (if w then g.arrW else g.arrE) with
    | some (c, out) =>
      if c = h.cycle ∧ known ∧ h.ftype = 3 ∧ (¬ g.integrated ∨ (delayOf g w).isNone) then
        let d := (l - (t - out)) / 2
        if w then { g with delayW := some d } else { g with delayE := some d }
      else g
    | none => g
  else
    let g' := if w then { g with arrW := some (h.cycle, t) } else { g with arrE := some (h.cycle, t) }
    match (if w then g.arrE else g.arrW) with
    | some (c, u) =>
      if c = h.cycle ∧ known ∧ h.ftype = 1 then
        let dE := (l - (if w then t - u else u - t)) / 2
        { g' with delayE := some dE, delayW := some (l - dE) }
      else g'
    | none => g'

/-- A difference of instants taken to the nearest cycle of `c`. -/
def wrapNear (c d : Int) : Int := (d + c / 2) % c - c / 2

/-- A member places the ring's instant (03 R88): the arrival less the departure offset less the delay for the port the copy left
from; a returning copy does not place it. -/
def placeInstant (s : State) (g : RingSt) (h : FrameHeader) : RingSt :=
  match delayOf g (bitAt h.info 4) with
  | some d => if h.back then g
    else { g with phase := some (wrapNear (100 * cycleNs s.sys.rate) (128 * h.arrive - 100 * departNs s.sys.rate h.ftype - d)) }
  | none => g

/-! ### The images that a standby captures (13 R378) -/

/-- The nodes whose slots a copy carries when it passes the member at `own`: of a copy from the east port those before it, from the
west port those behind it, on its way out; the others on its way back (13 R378). -/
def passedNode (own : Nat) (west back : Bool) (n : Nat) : Bool := (decide (n < own) != west) != back

/-- A frame enters the images of its cycle (13 R378): at most 64 cycles are kept. -/
def captureFrame (own : Nat) (h : FrameHeader) (l : List CycleImage) : List CycleImage :=
  let m := (l.find? (·.cycle == h.cycle)).getD { cycle := h.cycle }
  let m := { m with
    merged := m.merged || h.ftype == 3
    collect := if h.ftype = 2 then m.collect else (h.slots.filter fun x => passedNode own (bitAt h.info 4) h.back x.node).foldl
      (fun t x => tabSet t x.node x) m.collect
    deliver := if h.ftype = 1 ∨ h.back then m.deliver else h.dslots.foldl (fun t x => tabSet t x.node x) m.deliver }
  (m :: l.filter (·.cycle != h.cycle)).take 64

/-- The partner nodes of an axis ring. -/
def partnerNodes (c : RingCfg) : List Nat :=
  (List.range c.entries.length).filterMap fun i => if (c.entries.getD i {}).kind = 4 then none else some (i + 1)

/-- Whether the deliver image of a window is complete with every slot CRC correct (13 R378, R387). -/
def deliverWhole (g : RingSt) (w : Nat) : Bool :=
  match g.images.find? (·.cycle == w % 4294967296) with
  | some m => (partnerNodes g.cfg).all fun n => tabHas m.deliver n && (tabGet m.deliver {} n).crcOk
  | none => false

/-- Whether the collect image of a window is complete with every slot CRC correct: that of its cycle, or on a healed ring that of
the merged frame before (03 R85, 13 R378). -/
def collectWhole (g : RingSt) (w : Nat) : Bool :=
  let whole := fun (m : CycleImage) => (partnerNodes g.cfg).all fun n => tabHas m.collect n && (tabGet m.collect {} n).crcOk
  match g.images.find? (·.cycle == w % 4294967296), g.images.find? (·.cycle == (w + 4294967295) % 4294967296) with
  | some m, p => if m.merged ∨ m.collect.isEmpty then (match p with | some q => q.merged && whole q | none => false) else whole m
  | none, _ => false

/-- Whether a window is captured on every axis ring (13 R378). -/
def windowCaptured (s : State) (w : Nat) : Bool :=
  (List.range 4).all fun r => (s.ring r).cfg.mode != 0 || (deliverWhole (s.ring r) w && collectWhole (s.ring r) w)

/-- The last window after `base`, at most 32 later, whose deliver image was captured complete on every axis ring, else `base`
(13 R387). -/
def lastCaptured (s : State) (base : Nat) : Nat :=
  (List.range 32).foldl (fun m i =>
    if (List.range 4).all fun r => (s.ring r).cfg.mode != 0 || deliverWhole (s.ring r) (base + i + 1) then base + i + 1 else m) base

end Sys2Proof.Machine
end

