-- ==== Sys2Proof/Machine/RingOps.lean ====
section
/-! DEFINITION. Operations of the Jorric rings (03): budget, capacity, healing and re-closing, cold start, service
transactions, the copies of a cycle and the frozen image. -/
namespace Sys2Proof.Machine

/-! ### Budget and capacity (03 R81 to R83, 14 R401) -/

/-- Entry limit of a slot table at a rate (03 R81, 14 R404). -/
def entryLimit (mode rate : Nat) : Nat :=
  let n := match rate with | 0 => 128 | 1 => 64 | _ => 32
  if mode = 1 then min n 64 else n
/-- Limit on the summed slot bytes (03 R81). -/
def slotLimit (rate : Nat) : Nat := match rate with | 0 => 6080 | 1 => 3008 | _ => 1472
/-- Loop fibre limit in m (03 R81). -/
def fibreLimit (rate : Nat) : Nat := match rate with | 0 => 2000 | 1 => 1000 | _ => 500
/-- Budget in ns (03 R83). -/
def ringBudget (rate : Nat) : Nat := match rate with | 0 => 20000 | 1 => 10000 | _ => 5000

/-- Deliver slot bytes of an entry (03 R81, 14 R402). -/
def deliverBytes (mode : Nat) (e : NodeEntry) : Nat :=
  if mode = 1 ∨ e.kind = 4 then 0 else 8 + 16 * e.axes

/-- Sum of a measure over a slot table. -/
def sumEntries (c : RingCfg) (f : NodeEntry → Nat) : Nat := c.entries.foldl (fun n e => n + f e) 0

/-- The budget sum of a configuration for frames of `bytes` slot bytes, in ns rounded up (03 R83, 14 R401). -/
def budgetSum (c : RingCfg) (bytes : Nat) : Nat :=
  let stations := if c.mode = 1 then 8000 * c.entries.length
    else 8000 + sumEntries c fun e => if e.kind = 4 then 8000 else if e.kind = 2 then 46000 else 6000
  (stations + 490 * c.fibre + 32 * (bytes + 64) + 99) / 100

/-- The axes that a slot table lists, whether its ring is on or off (03 R109). -/
def tableAxes (c : RingCfg) : List Nat :=
  if c.mode = 1 then [] else c.entries.flatMap fun e => (List.range e.axes).map (e.first + ·)

/-- Whether a configuration keeps 03 R81 to R83 at a rate, but for the sum over rings. -/
def ringFits (rate : Nat) (c : RingCfg) : Bool :=
  let cb := sumEntries c (collectBytes c.mode)
  let db := sumEntries c (deliverBytes c.mode)
  decide (budgetSum c cb ≤ ringBudget rate) && decide (budgetSum c db ≤ ringBudget rate) &&
  decide (cb ≤ slotLimit rate) && decide (db ≤ slotLimit rate) && decide (c.entries.length ≤ entryLimit c.mode rate) &&
  decide (c.fibre ≤ fibreLimit rate) && (tableAxes c).all fun a => decide (a < axisLimit rate)

/-- Whether any axis of the module is ENABLED or HOLDING. -/
def anyLive (s : State) : Bool := s.loop.axes.any fun x => x.2.state == .enabled || x.2.state == .holding

/-- The axes of the other rings. -/
def otherAxes (s : State) (r : Nat) : List Nat := ((List.range 4).filter (· != r)).flatMap fun k => ringAxes (ringNext s k)

/-- Whether R109 refuses a configuration of a ring at a rate, or 16 R439 and 14 R401 do. -/
def ringRefused (s : State) (r : Nat) (c : RingCfg) (rate : Nat) : Bool :=
  let others := (List.range 4).filter (· != r)
  !ringFits rate c ||
  decide (axisLimit rate < (tableAxes c ++ otherAxes s r).length) ||
  (tableAxes c).any (otherAxes s r).contains ||
  (tableAxes c ++ ringAxes (s.ring r).cfg ++ ringAxes (ringNext s r)).any (axisLive s) ||
  (rate != nextRate s && (anyLive s || others.any fun k => (ringNext s k).mode != 2 && !ringFits rate (ringNext s k))) ||
  (c.mode == 1 && (c.entries.isEmpty || decide (2 ≤ (others.filter fun k => (ringNext s k).mode == 1).length))) ||
  !allFit s rate (ringAxes c ++ otherAxes s r ++ loadedAxes s) (carsOn s)

/-! ### Spans, healing and re-closing (03 R95 to R101, R551) -/

/-- The span that an address and side name (03 R73): 00h is the leading module, other addresses are nodes in ring order. -/
def spanOf (c : RingCfg) (addr : Nat) (west : Bool) : Nat :=
  if addr = 0 then (if west then c.entries.length else 0) else if west then addr - 1 else addr

/-- Whether a module port of a ring is up (03 R95): block lock and no Remote Fault. -/
def portUp (g : RingSt) (west : Bool) : Bool := if west then g.westUp && !g.remoteW else g.eastUp && !g.remoteE

/-- Whether a ring takes part in traffic. -/
def ringLive (g : RingSt) : Bool := g.state == .leading || g.state == .following

/-- A list with an element once. -/
def addOnce (l : List Nat) (k : Nat) : List Nat := if l.contains k then l else l ++ [k]

/-- A re-close in progress is cancelled (03 R100). The leader sends CLOSE with target 0 in the gaps of two cycles, of cycles r − 2
and r − 1 when CLOSEARM is missing (`retry`), else of the two that follow this one, and counts it; a member discards its target. -/
def cancelClose (s : State) (r : Nat) (retry : Bool) : State :=
  match (s.ring r).closeAt with
  | none => s
  | some t =>
    if (s.ring r).state ≠ .leading then s.onRing r fun g => { g with closeAt := none }
    else bump (s.onRing r fun g => { g with
      closeAt := none, closeZero := some (if retry then s.time.cycle else s.time.cycle + 1)
      closeRetry := if retry then some t else none }) (cRing r 14)

/-- A span of a ring fails (03 R95, R98, R100). -/
def failSpan (s : State) (r k : Nat) : State :=
  (cancelClose s r false).onRing r fun g => { g with
    failed := addOnce g.failed k, loops := addOnce g.loops k, upKept := false, closeRetry := none
    healDue := g.healDue || (ringLive g && !g.healed) }

/-- The re-close of a led ring starts: the target lies 16 cycles after cycle `n` (03 R99). -/
def startClose (s : State) (r n : Nat) : State :=
  if (s.ring r).state ≠ .leading then s
  else s.onRing r fun g => { g with closeAt := some (n + 16), upKept := false, closeRetry := none }

/-- A failed span is up again (03 R98, R99): once none is down, the leader starts the re-close, or keeps the SPANUP for a later
configuration. -/
def spanUp (s : State) (r k : Nat) : State :=
  let g := s.ring r
  if !g.failed.contains k then s
  else
    let s := s.onRing r fun g => { g with failed := g.failed.filter (· != k) }
    if (s.ring r).failed.isEmpty ∧ g.healed then
      if bitAt g.cfg.flags 0 then startClose s r (s.time.cycle + 1) else s.onRing r fun g => { g with upKept := true }
    else s

/-- Whether this module reports its own failed spans on a ring (03 R95, R551): as leader, or as a member once integrated. -/
def reportsSpans (g : RingSt) : Bool := g.state == .leading || (g.state == .following && g.integrated)

/-- A module port of a ring fails (03 R95): the module loops back there and sends SPANDOWN. -/
def portFails (s : State) (r : Nat) (west : Bool) : State :=
  if (s.ring r).state = .off then s
  else
    let a := ownAddr s (s.ring r)
    let s := s.onRing r fun g => { g with
      guardQ := if reportsSpans g then g.guardQ ++ [.spandown a west] else g.guardQ
      loopE := if west then g.loopE else 0xFFFF, loopW := if west then 0xFFFF else g.loopW }
    failSpan s r (spanOf (s.ring r).cfg a west)

/-- Loss of block lock or Local Fault at a module port (03 R95, R108): a lit port sends Remote Fault toward the span. -/
def loseLock (s : State) (r : Nat) (west : Bool) : State :=
  let g := s.ring r
  let lit := g.state != .off
  let s := if (if west then g.westUp else g.eastUp) then bump s (cRing r (if west then 10 else 9)) else s
  portFails (s.onRing r fun g =>
    if west then { g with westUp := false, remoteW := false, rfW := lit } else { g with eastUp := false, remoteE := false, rfE := lit })
    r west

/-- The ring reports healed (03 R96): injections on its axes stop (05 R163), no collect frame is sent. -/
def healRing (s : State) (r : Nat) : State :=
  let g := s.ring r
  if g.healDue ∧ ringLive g then
    let s := s.each (ringAxes g.cfg) fun s a => endInjection s a true
    bump (s.onRing r fun g => { g with
      healed := true, healDue := false, healCycle := some s.time.cycle, recloseCycle := none, sentE := false, sentW := false
      copies := [] }) (cRing r 12)
  else s

/-- The loop-back nodes of a span: the entries on either side of it, the module itself being none. -/
def loopNodes (c : RingCfg) (k : Nat) : List Nat :=
  (if k = 0 then [] else [k]) ++ (if k = c.entries.length then [] else [k + 1])

/-- Whether CLOSEARM was seen from every loop-back node (03 R100). A member module on an axis ring has no slot to carry the flag and
counts as armed (DESIGN CHOICE, log 79). -/
def allArmed (g : RingSt) : Bool :=
  g.loops.all fun k => (loopNodes g.cfg k).all fun n =>
    (g.cfg.mode != 1 && (g.cfg.entries.getD (n - 1) {}).kind == 4) || ((tabGet g.nodes {} n).flags.getLsbD 7 && !(tabGet g.nodes {} n).stale)

/-- The ring changes from merged to intact operation (03 R101). -/
def recloseRing (s : State) (r : Nat) : State :=
  bump (s.onRing r fun g => { g with
    healed := false, loops := [], closeAt := none, healCycle := none, recloseCycle := some s.time.cycle }) (cRing r 13)

/-! ### Cold start and leading (03 R90 to R94) -/

/-- The service transactions a leader runs for a slot table (03 R77, R93): slot entry, identify and delays of each entry but its
own, in table order, once (DESIGN CHOICE, log 79: no rule says which transactions run or when). -/
def initialService (s : State) (c : RingCfg) : List ServiceSt :=
  let own := if c.mode = 1 ∨ s.sys.manifest.partner ≠ 0 then ownEntry s.sys.manifest c else 0
  (List.range c.entries.length).flatMap fun i =>
    if i + 1 = own then []
    else [3, 1, 2].map fun op =>
      { node := i + 1, op, index := if op = 3 then c.table else 0
        data := (List.range 24).map fun k => Config.serviceByte op (i + 1) c.table k }

/-- The spans at the module's own ports that are down, the module's address being `addr` (03 R95, R551). -/
def ownDown (g : RingSt) (addr : Nat) : List Nat :=
  (if portUp g false then [] else [spanOf g.cfg addr false]) ++ (if portUp g true then [] else [spanOf g.cfg addr true])

/-- SPANDOWN for each own port that is down (03 R551). -/
def reportDown (g : RingSt) (addr : Nat) : List OrdSet :=
  (if portUp g false then [] else [.spandown addr false]) ++ (if portUp g true then [] else [.spandown addr true])

/-- The ring is led by this module from its next instant (03 R91, R551): it starts intact, with the spans at the module's own
ports that are down counted as failed. -/
def leadRing (s : State) (r : Nat) : State :=
  s.onRing r fun g => { g with
    state := .leading, leader := g.cfg.member, integrated := true, serviceQ := initialService s g.cfg, service := none
    failed := ownDown g 0, loops := ownDown g 0, healed := false, healCycle := none, upKept := false
    guardQ := g.guardQ ++ reportDown g 0, loopE := 0xFFFF, loopW := 0xFFFF
    closeAt := none, closeRetry := none, healDue := !(ownDown g 0).isEmpty }

/-- The ring stops leading or following and listens anew (03 R91). -/
def listenRing (g : RingSt) : RingSt :=
  { g with state := .listening, coldAge := 0, good := 0, lastCycle := none, integrated := false, sentE := false, sentW := false, copies := []
           slept := false }

/-- Whether a ring takes frames of another leader: it is lit and not led by this module; one that has received SLEEP listens for
them too (03 R105). -/
def hearsFrames (g : RingSt) : Bool :=
  g.state == .listening || g.state == .contending || g.state == .following || (g.state == .sleeping && g.slept)

/-- A frame of another leader with a good header ends cold start: the ring is followed, healed as its RINGINFO says when it is the
first, and integration counts (03 R91, R93, R551). -/
def followRing (s : State) (g : RingSt) (h : FrameHeader) : RingSt :=
  let run := g.state = .following ∧ h.table = g.cfg.table ∧ (g.lastCycle = some ((h.cycle + 4294967295) % 4294967296) ∨ g.lastCycle = some h.cycle)
  let step := if g.lastCycle = some h.cycle then 0 else 1
  let first := g.state != .following
  let own := if first then ownDown g (ownEntry s.sys.manifest g.cfg) else []
  { g with
    state := .following, slept := false, leader := h.leader, lastCycle := some h.cycle
    good := if run then min (g.good + step) 8 else if h.table = g.cfg.table then 1 else 0
    healed := if first then bitAt h.info 5 else g.healed
    failed := own.foldl addOnce g.failed, loops := own.foldl addOnce g.loops
    healDue := g.healDue || (first && !bitAt h.info 5 && !own.isEmpty) }

/-- The transaction that a frame's deliver segment addresses to the module as a member (03 R77, R93): its slot-table entry is
kept, and an answer is owed. The DATA of an answer is free (R77 leaves it to the operation). -/
def hearService (own : Nat) (g : RingSt) (h : FrameHeader) (k : Nat) : RingSt :=
  if h.svc.crcOk ∧ own ≠ 0 ∧ h.svc.node = own ∧ 1 ≤ h.svc.op ∧ h.svc.op ≤ 5 then
    { g with
      slotEntry := if h.svc.op = 3 then some h.svc else g.slotEntry
      answer := some (h.cycle, { node := own, op := h.svc.op + 0x80, index := h.svc.index
                                 data := (List.range 24).map fun i => Config.serviceByte (h.svc.op + 0x80) own k i }) }
  else g

/-- The answer owed is written in the collect segment of a cycle from n + 1 to n + 4 whose NODE is 00h (03 R77). -/
def writeAnswer (g : RingSt) (h : FrameHeader) : RingSt :=
  match g.answer with
  | some (n, a) =>
    let late := (h.cycle + 4294967296 - n) % 4294967296
    if 4 < late then { g with answer := none }
    else if h.ftype ≠ 2 ∧ h.ansFree ∧ 1 ≤ late then { g with answer := none, answerOut := some a }
    else g
  | none => g

/-- A frame of another leader reaches the module as a member (03 R76, R77, R87, R88, R93, 13 R378): one of another TABLE only ends
cold start; a standby captures the images of an axis ring. -/
def followFrame (s : State) (r : Nat) (h : FrameHeader) : State :=
  if !hearsFrames (s.ring r) then s
  else
    let (k, s) := draw s
    let own := ownEntry s.sys.manifest (s.ring r).cfg
    let t : Int := 128 * h.arrive + 100 * cycleNs s.sys.rate * s.time.cycle
    s.onRing r fun g =>
      let g := followRing s g h
      if h.table ≠ g.cfg.table then g
      else
        let g := writeAnswer (hearService own (placeInstant s (takeDelays g h t) h) h k) h
        if s.red.role = .standby ∧ g.cfg.mode = 0 then { g with images := captureFrame own h g.images } else g

/-- A ring's requests that wait for the first frame of a landed configuration are answered with that frame's cycle (03 R110). -/
def answerCfg (s : State) (r cycle : Nat) : State :=
  let l := (s.ring r).cfgWait
  (s.onRing r fun g => { g with cfgWait := [] }).each l fun s q =>
    let c := (s.ring r).cfg
    let cb := sumEntries c (collectBytes c.mode)
    let db := sumEntries c (deliverBytes c.mode)
    ok s q [(16, 4, (c.fibre : Int)), (20, 1, c.entries.length), (24, 4, budgetSum c cb), (28, 4, budgetSum c db),
      (32, 2, cb), (34, 2, db)] (cycle % 4294967296)

/-! ### Landing of a configuration (03 R110) -/

/-- The module's rate changes (03 R110, 14 R405): the next instant falls at the first multiple of the new cycle time not
earlier than the end of the cycle in progress, and cycles are numbered at the new cycle time. -/
def changeRate (s : State) (n : Nat) : State :=
  if n = s.sys.rate then s
  else
    let stop := s.time.now + cycleNs s.sys.rate
    let c := cycleNs n
    (store (s.onSys fun y => { y with rate := n }) (.rate n)).onTime fun t => { t with
      next := some ((stop + c - 1) / c * c), gap := true }

/-- One accepted ring.config lands (03 R110). One with FLAGS[0] = 0 that lands during a re-close cancels it, counted, and keeps the
SPANUP (DESIGN CHOICE, log 79). -/
def landRingCfg (s : State) (r : Nat) (q : Request) (c : RingCfg) : State :=
  let s := store s (.ring r c)
  let g := s.ring r
  let led := ringLive g
  let west := fun (k : Nat) => if k = g.cfg.entries.length then c.entries.length else k
  let s := s.onRing r fun g => { g with cfg := c, failed := g.failed.map west, loops := g.loops.map west, cfgWait := g.cfgWait ++ [q], nodes := [], copies := [], duplicate := false,
                                        service := none, serviceQ := [], answer := none, slotEntry := none, images := [], delayE := none, delayW := none, phase := none
                                        sentE := false, sentW := false }
  if c.mode = 2 then s.onRing r fun g => { g with sleepN := 8 }
  else
    let s :=
      if led then s.onRing r fun g => { g with
        good := 0, lastCycle := none, integrated := decide (g.state = .leading)
        leader := if g.state = .leading then c.member else g.leader
        serviceQ := if g.state = .leading then initialService s c else [] }
      else s.onRing r fun g => listenRing { g with failed := [], loops := [], healed := false, healDue := false, sleepN := 0 }
    let g := s.ring r
    if bitAt c.flags 0 ∧ g.upKept ∧ g.healed ∧ g.failed = [] then startClose s r (s.time.cycle + 1)
    else if g.state = .leading ∧ ¬ bitAt c.flags 0 ∧ (g.closeAt.isSome ∨ g.closeRetry.isSome) then
      (cancelClose s r false).onRing r fun g => { g with closeRetry := none, upKept := true }
    else s

/-- All ring.configs that wait land, ring by ring, at the rate of the latest accepted one (03 R110). -/
def landRings (s : State) : State :=
  let s := match s.sys.rateNext with
    | some n => changeRate (s.onSys fun y => { y with rateNext := none }) n
    | none => s
  s.each (List.range 4) fun s r =>
    let l := (s.ring r).cfgPend
    if l.isEmpty then s
    else (s.onRing r fun g => { g with cfgPend := [] }).each l fun s x => landRingCfg s r x.1 x.2.1

/-! ### The copies of a cycle and the image (03 R80, R84, R97, R108, 01 R29) -/

/-- Whether a copy belongs to the window to come (03 R80, R97): the frame last sent, from a port it left. -/
def copyDue (g : RingSt) (c : RingCopy) : Bool :=
  (if c.fromWest then g.sentW else g.sentE) && (!c.hcrcOk || c.cycle == g.sentCycle)

/-- A returned copy of a led ring (03 R76, R80, R84, R97, R102, R108): one that comes after its window-open moment counts its slots
as late and is not used. -/
def takeCopy (s : State) (c : RingCopy) : State :=
  let r := c.ring
  let g := s.ring r
  if g.state ≠ .leading then s
  else
    let w := c.fromWest
    if !c.hcrcOk then
      bump (s.onRing r fun g => { g with copies := if copyDue g c then g.copies ++ [{ c with slots := [] }] else g.copies }) (cRing r (if w then 3 else 2))
    else if !copyDue g c then bump s (cRing r 7) (if c.table = g.cfg.table then c.slots.length else 0)
    else if c.table ≠ g.cfg.table then s.onRing r fun g => { g with copies := g.copies ++ [{ c with slots := [] }] }
    else
      let bad := (c.slots.filter fun x => !x.crcOk && !x.late).map (·.node)
      let gone := if c.cut then (slotNodes s g.cfg).filter fun n => !c.slots.any (·.node == n) else []
      let late := (c.slots.filter (·.late)).length
      let s := bump (bump s (cRing r (if w then 6 else 5)) (bad.length + gone.length)) (cRing r 7) late
      s.onRing r fun g => { g with
        copies := g.copies ++ [{ c with slots := c.slots.filter fun x => !x.late }]
        loopE := if w then g.loopE else c.loopClk, loopW := if w then c.loopClk else g.loopW
        slotEnd := max g.slotEnd c.endNs, slotMax := max g.slotMax c.endNs
        nodes := (bad ++ gone).foldl (fun t n => tabMod t {} n fun x => { x with crcErr := satAdd 65535 x.crcErr 1 }) g.nodes }

/-- The slot of a node in a copy. -/
def slotIn (c : RingCopy) (n : Nat) : Option SlotRx := c.slots.find? (·.node == n)

/-- Whether a slot qualifies (03 R80): VALID, a correct SCRC, SEQ the low byte of CYCLE. -/
def qualifies (c : RingCopy) (x : SlotRx) : Bool := x.flags.getLsbD 0 && x.crcOk && x.seq == c.cycle % 256

/-- The slot used for a node: of the copy that left the east port first (03 R80). -/
def pickSlot (l : List RingCopy) (n : Nat) : Option SlotRx :=
  let best := fun (w : Bool) => (l.filter (·.fromWest == w)).findSome? fun c =>
    match slotIn c n with | some x => if qualifies c x then some x else none | none => none
  match best false with | some x => some x | none => best true

/-- Whether a copy shows a node's slot empty (03 R108 SLOT_EMPTY). -/
def emptySlot (l : List RingCopy) (n : Nat) : Bool :=
  l.any fun c => match slotIn c n with | some x => x.crcOk && !x.flags.getLsbD 0 | none => false

/-- One node of the image at the window-open moment (03 R80, R94, 01 R29): fresh, or stale with its previous values. -/
def freezeNode (l : List RingCopy) (blind : Bool) (x : NodeSt) (n : Nat) : NodeSt :=
  match (if blind then none else pickSlot l n) with
  | some v => { x with flags := v.flags, seq := v.seq, recs := v.recs, blocks := v.blocks, stale := false }
  | none => { x with stale := true, staleCnt := satAdd 65535 x.staleCnt 1
                     empty := if emptySlot l n then satAdd 65535 x.empty 1 else x.empty }

/-- The image of a ring is frozen (03 R80, R96, R97, R108). -/
def freezeRing (s : State) (r : Nat) : State :=
  let g := s.ring r
  if g.state ≠ .leading then
    s.onRing r fun g => { g with nodes := g.nodes.map fun x => (x.1, { x.2 with stale := true }), copies := [] }
  else
    let blind := g.healCycle = some s.time.cycle
    let nodes := slotNodes s g.cfg
    let l := g.copies
    let stale := nodes.filter fun n => blind || (pickSlot l n).isNone
    let empty := stale.filter fun n => !blind && emptySlot l n
    let missE := g.sentE && !l.any (fun c => !c.fromWest)
    let missW := g.sentW && !l.any (fun c => c.fromWest)
    let s := bump (bump (bump (bump s (cRing r 0) (b2n missE)) (cRing r 1) (b2n missW)) (cRing r 8) stale.length) (cRing r 4) empty.length
    s.onRing r fun g => { g with
      nodes := nodes.foldl (fun t n => tabMod t {} n fun x => freezeNode l blind x n) g.nodes
      copies := [], sentE := false, sentW := false
      loopE := if missE then 0xFFFF else g.loopE, loopW := if missW then 0xFFFF else g.loopW }

/-! ### The gaps of a cycle (03 R73, R99, R100, R102, R104, R105) -/

/-- The ordered sets that a lit ring sends in the gap of this cycle (03 R73, R99, R100, R102, R104, R105). Only a leader sends
RELEASE while the trip state is clear, and CLOSE. -/
def guardSets (s : State) (stop : Bool) (g : RingSt) : List OrdSet :=
  let c := s.time.cycle
  (if stop then [.stop 2] else []) ++ g.guardQ ++
  (if 0 < g.releaseN ∧ !stop then [.release c] else []) ++
  (match g.closeAt with | some t => if g.state = .leading ∧ c + 2 ≤ t ∧ t ≤ c + 16 then [.close t] else [] | none => []) ++
  (match g.closeZero with | some z => if z ≤ c ∧ c ≤ z + 1 then [.close 0] else [] | none => []) ++
  (if g.state = .contending ∧ originates s then [.coldstart g.cfg.member] else []) ++
  (if 0 < g.wakeN then [.wake (if g.integrated then ownAddr s g else 0xFF) g.cfg.member] else []) ++
  (if 0 < g.sleepN then [.sleep] else [])

/-- The gap of this cycle on a ring: its ordered sets go out, 4 times each, and what remains is counted down; after the eighth SLEEP
the ring sleeps or goes off, after the eighth WAKE it starts cold (03 R73, R104, R105, R110). -/
def guardRing (s : State) (stop : Bool) (r : Nat) : State :=
  let g := s.ring r
  let lit := (g.state ≠ .off ∧ g.state ≠ .sleeping) ∨ 0 < g.wakeN
  if ¬ lit ∧ g.sleepN = 0 then s
  else
    let sets := if lit then guardSets s stop g else []
    let last := g.sleepN = 1
    let woken := g.wakeN = 1
    let s := if stop ∧ lit then bump s (cRing r 15) else s
    let s := s.onRing r fun g => { g with
      guardQ := [], releaseN := if stop then 0 else g.releaseN - 1, closeZero := g.closeZero.filter fun z => decide (s.time.cycle ≤ z)
      sleepN := g.sleepN - 1, wakeN := g.wakeN - 1, out := (sets.map inFour).reverse ++ g.out }
    if last ∧ g.cfg.mode = 2 then
      answerCfg (s.onRing r fun g => { g with state := .off, eastUp := false, westUp := false, rfE := false, rfW := false, healed := false
                                              healDue := false, failed := [], loops := [], closeAt := none }) r s.time.cycle
    else if last then s.onRing r fun g => { g with state := .sleeping }
    else if woken then s.onRing r listenRing
    else s

/-- The service transaction of a cycle starts when none is in progress (03 R77). -/
def startService (g : RingSt) : RingSt :=
  match g.service, g.serviceQ with
  | none, q :: rest => if g.state = .leading then { g with service := some q, serviceQ := rest } else g
  | _, _ => g

/-- A frame leaves the ports of a led ring (03 R75, R85, R95): both of an intact ring, the working ones of a healed ring. Collect and
merged frames are expected back; the transaction of a deliver segment is sent. -/
def sendFrame (s : State) (r ftype : Nat) : State :=
  let g := s.ring r
  let e := !g.healed || portUp g false
  let w := !g.healed || portUp g true
  s.onRing r fun g => { g with
    frameE := if e then frameBytes s r false ftype else [], frameW := if w then frameBytes s r true ftype else []
    sentE := if ftype = 2 then g.sentE else e, sentW := if ftype = 2 then g.sentW else w
    sentCycle := if ftype = 2 then g.sentCycle else s.time.cycle % 4294967296
    service := if ftype = 1 then g.service else g.service.map fun q => { q with fresh := false } }

/-- Whether this module sends the frames of a ring now (03 R110, 13 R385). -/
def sendsFrames (s : State) (r : Nat) : Bool := (s.ring r).state == .leading && originates s && !s.time.gap

/-- The first frame after a landing answers the ring.config that landed (03 R110): on an intact ring the deliver frame of its own
release phase, on a healed ring the merged one, after a change of rate the first frame of the new rate (DESIGN CHOICE, log 79). A
ring that goes off is answered after its eighth SLEEP. -/
def answerLed (s : State) (r : Nat) : State := if (s.ring r).cfg.mode = 2 then s else answerCfg s r s.time.cycle

/-- What a ring does at the instant (01 R28, 03 R84, R85, R110): the collect frame leaves both ports of an intact led ring,
and LASTSLOT follows the second. -/
def ringInstant (s : State) (r : Nat) : State :=
  let g := s.ring r
  let second := s.time.cycle % cyclesPerS s.sys.rate = 0
  let s := s.onRing r fun g => { g with
    lastSlot := if second then g.slotMax else g.lastSlot, slotMax := if second then 0 else g.slotMax, slotEnd := 0,
    coldAge := if g.state = .listening ∨ g.state = .contending then g.coldAge + 1 else 0 }
  if sendsFrames s r ∧ ¬ g.healed then answerLed (sendFrame s r 1) r else s

/-- What a ring does at the release phase (03 R85, R101): the deliver frame leaves both ports of an intact led ring, the merged frame
each working port of a healed one. -/
def ringRelease (s : State) (r : Nat) : State :=
  let g := s.ring r
  let s := s.onRing r startService
  if sendsFrames s r then answerLed (sendFrame s r (if g.healed then 3 else 2)) r else s

/-! ### Ordered sets received (03 R73, R74, R91, R92, R95, R99, R100, R105, R108) -/

/-- A COLDSTART with an identifier (03 R91, R92): a lower one is yielded to, the module's own stops it. -/
def hearColdstart (s : State) (r id : Nat) : State :=
  let g := s.ring r
  if id = g.cfg.member ∧ (g.state = .contending ∨ g.state = .listening) then
    bump (s.onRing r fun g => { g with state := .listening, duplicate := true }) (cRing r 17)
  else if id < g.cfg.member ∧ g.state = .contending then s.onRing r fun g => { g with state := .listening }
  else s

/-- What an ordered set does at the module (03 table "Jorric ordered sets"): as leader it acts on SPANDOWN and SPANUP, as a member on
CLOSE, SLEEP and WAKE too. STOP and RELEASE act on gates, which a module has none of. -/
def takeSet (s : State) (r : Nat) (b : SetBlock) : State :=
  let g := s.ring r
  if g.state = .off then s
  else if b.d1 = 3 then failSpan (bump s (cRing r 11)) r (spanOf g.cfg b.d3 (bitAt b.ext 0))
  else if b.d1 = 4 then spanUp s r (spanOf g.cfg b.d3 (bitAt b.ext 0))
  else if b.d1 = 5 ∧ g.state = .following then
    s.onRing r fun g => { g with
      closeAt := if b.ext = 0 then none else some (s.time.cycle + (b.ext + 268435456 - s.time.cycle % 268435456) % 268435456) }
  else if b.d1 = 6 then hearColdstart s r (b.ext % 65536)
  else if b.d1 = 7 ∧ g.state = .sleeping ∧ g.slept then s.onRing r listenRing
  else if b.d1 = 8 ∧ g.state = .following then s.onRing r fun g => { g with state := .sleeping, slept := true }
  else s

/-- A member forwards a set on the same path, or round the loop where it loops back (03 R74); the leader, at which the paths end,
does not (DEDUCED, log 79). -/
def forwardSet (g : RingSt) (west : Bool) (b : SetBlock) : RingSt :=
  if g.state = .leading ∨ g.state = .off then g
  else { g with fwd := ((if portUp g (!west) then !west else west), b) :: g.fwd }

/-- Blocks received at a port of a ring (03 R73, R74): each set is forwarded; those received twice in a row, STOP once, are acted on. -/
def receiveSets (s : State) (r : Nat) (west : Bool) (l : List SetBlock) : State :=
  let s := s.onRing r fun g => (l.filter blockOk).foldl (fun g b => forwardSet g west b) g
  s.each (actedOn l) fun s b => takeSet s r b

end Sys2Proof.Machine
end

