-- ==== Sys2Proof/Machine/Ring.lean ====
section
/-! DEFINITION. Meanings of the ring class 40h and of the events on the rings (03). -/
namespace Sys2Proof.Machine

/-- Code of a ring state (03 ring.status). -/
def ringStateCode : RingState → Nat
  | .off => 0 | .listening => 1 | .contending => 2 | .leading => 3 | .following => 4 | .sleeping => 5

/-- Whether nodes of a ring are cut off between two failures (03 R98). -/
def splitRing (g : RingSt) : Bool := decide (2 ≤ g.failed.length)

/-- RING_STATUS (03 R84, R108). -/
def execRingStatus (r : Request) (s : State) : Host.Outcome State Fault Refusal :=
  let n := rq r 16 1
  .next (serve s r 0x4001 true (firstBad [(16, decide (n ≤ 3))]) [] fun r s =>
    let g := s.ring n
    let up := (g.nodes.filter fun x => !x.2.stale).length
    let cnt := fun k => ((tabGet s.ctr.cnt 0 (cRing n k) % 4294967296 : Nat) : Int)
    ok s r ([(16, 1, (ringStateCode g.state : Int)), (17, 1, g.cfg.mode),
      (18, 1, ofBits [g.healed, portUp g false, portUp g true, g.closeAt.isSome || g.closeRetry.isSome, splitRing g]),
      (19, 1, up), (20, 2, g.leader), (22, 2, g.cfg.table), (24, 2, g.loopE), (26, 2, g.loopW),
      (28, 2, if g.state = .leading then g.lastSlot else 0)] ++
      ([4, 7, 5, 6, 8, 0, 1, 2, 3, 12, 15].zipIdx.map fun x => (32 + 4 * x.2, 4, cnt x.1))) 0 1)

/-- STATE of a node (03 ring.nodes): a node that is stale, or that does not answer service transactions, is silent, whatever its last
flags were; a member module of an axis ring, which has no slot, runs once it has answered (DEDUCED, log entry 36). -/
def nodeState (g : RingSt) (n : Nat) : Nat :=
  let x := tabGet g.nodes {} n
  let lo := g.failed.foldl min g.cfg.entries.length
  let hi := g.failed.foldl max 0
  if g.state = .sleeping then 7
  else if splitRing g ∧ lo < n ∧ n ≤ hi then 6
  else if x.silent then 0
  else if g.cfg.mode ≠ 1 ∧ (g.cfg.entries.getD (n - 1) {}).kind = 4 then 2 * b2n x.answered
  else if x.stale then 0
  else if x.flags.getLsbD 3 then 5
  else if x.flags.getLsbD 2 then 4
  else if x.flags.getLsbD 1 then 3
  else if x.flags.getLsbD 6 then 1
  else 2

/-- RING_NODES (03 R111). -/
def execRingNodes (r : Request) (s : State) : Host.Outcome State Fault Refusal :=
  let n := rq r 16 1
  let first := rq r 17 1
  let c := clampN 1 62 (rq r 18 1)
  .next (serve s r 0x4002 true (firstBad [(16, decide (n ≤ 3)), (17, decide (1 ≤ first ∧ first ≤ 128))])
    (clampedN 18 1 62 (rq r 18 1)) fun r s =>
      let g := s.ring n
      ok s r ((16, 1, (c : Int)) :: (List.range c).flatMap fun i =>
        let a := first + i
        let o := 24 + 16 * i
        let x := tabGet g.nodes {} a
        match g.cfg.entries[a - 1]? with
        | none => [(o, 1, (a : Int)), (o + 1, 1, 0)]
        | some e =>
          [(o, 1, (a : Int)), (o + 1, 1, e.kind), (o + 2, 1, nodeState g a), (o + 3, 1, x.flags.toNat), (o + 4, 2, x.dlyE),
           (o + 6, 2, x.dlyW), (o + 8, 2, x.profile), (o + 10, 2, x.empty), (o + 12, 2, x.crcErr), (o + 14, 2, x.staleCnt)])
        0 (contFor (24 + 16 * c)))

/-- The slot table of a ring.config request (03 R109, 14 R401). -/
def cfgEntries (r : Request) (mode n : Nat) : List NodeEntry :=
  (List.range n).map fun i =>
    let f := fun k w => rq r (32 + 6 * i + k) w
    if mode = 1 then { kind := f 1 1, tlen := f 2 1 } else { kind := f 1 1, axes := f 2 1, nblk := f 3 1, first := f 4 2 }

/-- RING_CONFIG (03 R109, R110, 14 R401): checked, then waits for the release phase. -/
def execRingConfig (r : Request) (s : State) : Host.Outcome State Fault Refusal :=
  let ring := rq r 16 1
  let mode := rq r 17 1
  let rate := rq r 18 1
  let n := clampN 0 (entryLimit mode rate) (rq r 28 1)
  let f := fun i k w => rq r (32 + 6 * i + k) w
  let bad := firstBad ([(16, decide (ring ≤ 3)), (17, decide (mode ≤ 2)), (18, decide (rate ≤ 2)), (20, rq r 20 2 != 0),
      (22, rq r 22 2 != 0), (29, mode != 1 || decide (rq r 29 1 ≤ 15))] ++
    (List.range n).flatMap fun i =>
      [(32 + 6 * i, f i 0 1 == i + 1),
       (33 + 6 * i, if mode = 1 then f i 1 1 == 4 else decide (1 ≤ f i 1 1 ∧ f i 1 1 ≤ 5)),
       (34 + 6 * i, if mode = 1 then decide (1 ≤ f i 2 1 ∧ f i 2 1 ≤ 32)
          else if f i 1 1 = 4 then f i 2 1 == 0 else decide (f i 2 1 ≤ 4)),
       (35 + 6 * i, mode == 1 || decide (f i 3 1 ≤ 3))])
  .next (serve s r 0x4010 (actReady s) bad
    (clampedN 24 0 (fibreLimit rate) (rq r 24 4) ++ clampedN 28 0 (entryLimit mode rate) (rq r 28 1)) fun r s =>
      let c : RingCfg :=
        { mode, flags := rq r 19 1 % 4, member := rq r 20 2, table := rq r 22 2
          fibre := clampN 0 (fibreLimit rate) (rq r 24 4), trunk := rq r 29 1 % 16, entries := cfgEntries r mode n }
      if ringRefused s ring c rate then refused s r
      else
        let s := s.each ((ringAxes c).map basketOf).eraseDups fun s b => setSleep s b 0
        (s.onRing ring fun g => { g with cfgPend := g.cfgPend ++ [(r, c, rate)] }).onSys fun y => { y with rateNext := some rate })

/-- COLLECT_COPY_RX (03 R80, 01 R29). -/
def execCollectCopyRx (c : RingCopy) (s : State) : Host.Outcome State Fault Refusal := .next (takeCopy s c)

/-- SERVICE_ANSWER_RX (03 R77): the answer of the addressed node ends the transaction; what it reports is kept. -/
def execServiceAnswerRx (ring : Nat) (seg : ServiceSeg) (s : State) : Host.Outcome State Fault Refusal :=
  .next (match (s.ring ring).service with
    | none => s
    | some q =>
      if seg.crcOk ∧ seg.node = q.node ∧ (seg.op = q.op + 0x80 ∨ seg.op = 0xFF) then
        let f := fun k => Config.serviceField q.op seg.data k % 65536
        s.onRing ring fun g => { g with
          service := none
          nodes := tabMod g.nodes {} q.node fun x =>
            if seg.op = 0x81 then { x with profile := f 0, silent := false, answered := true }
            else if seg.op = 0x82 then { x with dlyE := f 0, dlyW := f 1, silent := false, answered := true }
            else { x with silent := false, answered := true } }
      else s)

/-- SERVICE_RETRY (03 R77, R108): a second and third try, then the node is reported as not answering. -/
def execServiceRetry (ring : Nat) (s : State) : Host.Outcome State Fault Refusal :=
  .next (match (s.ring ring).service with
    | none => s
    | some q =>
      if q.tries < 2 then s.onRing ring fun g => { g with service := some { q with tries := q.tries + 1, fresh := true } }
      else bump (s.onRing ring fun g => { g with
        service := none, nodes := tabMod g.nodes {} q.node fun x => { x with silent := true } }) (cRing ring 18))

/-- COLDSTART_LISTEN_END (03 R91, R92, 13 R385): a listening member that may contend begins to. -/
def execColdstartListenEnd (ring : Nat) (s : State) : Host.Outcome State Fault Refusal :=
  let g := s.ring ring
  .next (if g.state = .listening ∧ bitAt g.cfg.flags 1 ∧ ¬ g.duplicate ∧ originates s then
      s.onRing ring fun g => { g with state := .contending }
    else s)

/-- COLDSTART_RX (03 R73, R74, R91, R92): COLDSTART blocks at a port; a lower identifier is yielded to, the module's own stops it. -/
def execColdstartRx (ring : Nat) (sets : SetsIn) (s : State) : Host.Outcome State Fault Refusal :=
  .next (receiveSets s ring sets.west (sets.blocks.filter (·.d1 == 6)))

/-- COLDSTART_LEAD (03 R91, R551, 13 R394): a contending member leads; of a pair it becomes ACTIVE. -/
def execColdstartLead (ring : Nat) (s : State) : Host.Outcome State Fault Refusal :=
  .next (if (s.ring ring).state = .contending ∧ originates s then
      (bump (leadRing s ring) (cRing ring 16)).onRed fun d => { d with role := if d.role = .undecided then .active else d.role }
    else s)

/-- A frame whose LEADER is the partner (13 R383, R384, R394): an undecided module becomes STANDBY, an active is fenced. -/
def seePartner (s : State) (ring : Nat) : State :=
  let s := s.onRed fun d => { d with
    partnerFrame := some (s.time.cycle, ring)
    fenceDue := if d.role = .active then (if d.fenceDue = none then some 3 else d.fenceDue) else d.fenceDue }
  if s.red.role = .undecided then becomeStandby s true else s

/-- A standby's own instant follows that of an axis ring as it derives it (13 R390). -/
def followInstant (s : State) (ring : Nat) : State :=
  match (s.ring ring).phase with
  | some p => if s.red.role = .standby ∧ (s.ring ring).cfg.mode = 0 then s.onTime fun t => { t with err := p / 128 } else s
  | none => s

/-- LEADER_FRAME_RX (03 R73, R76, R87, R88, R91, R93, R110, 13 R378, R383, R384, R390, R394): the ordered sets before the frame, then
the frame as a member takes it. -/
def execLeaderFrameRx (ring : Nat) (h : FrameHeader) (s : State) : Host.Outcome State Fault Refusal :=
  let s := receiveSets s ring (bitAt h.info 4 == h.back) h.sets
  .next (if !h.hcrcOk then s
    else
      let s := if s.sys.manifest.partner ≠ 0 ∧ h.leader = s.sys.manifest.partner then seePartner s ring else s
      let s := followInstant (followFrame s ring h) ring
      if (s.ring ring).state = .following ∧ h.table = (s.ring ring).cfg.table then answerCfg s ring h.cycle else s)

/-- MEMBER_INTEGRATE (03 R93, R551): eight good consecutive cycles have been followed; SPANDOWN goes out for an own span that is
down, and the first own slot of a trunk ring carries INTEG. -/
def execMemberIntegrate (ring : Nat) (s : State) : Host.Outcome State Fault Refusal :=
  let g := s.ring ring
  .next (if g.state = .following ∧ g.good = 8 ∧ ¬ g.integrated then
      s.onRing ring fun g => { g with
        integrated := true, integDue := true, guardQ := g.guardQ ++ reportDown g (ownAddr s g) } else s)

/-- LOCAL_FAULT (03 R95, R108). -/
def execLocalFault (ring : Nat) (west : Bool) (s : State) : Host.Outcome State Fault Refusal := .next (loseLock s ring west)

/-- REMOTE_FAULT_RX (03 R95): the span counts as failed. -/
def execRemoteFaultRx (ring : Nat) (west : Bool) (s : State) : Host.Outcome State Fault Refusal :=
  .next (portFails (s.onRing ring fun g => if west then { g with remoteW := true } else { g with remoteE := true }) ring west)

/-- SPANDOWN_RX (03 R73, R74, R95, R98, R100, R108): SPANDOWN blocks at a port. -/
def execSpandownRx (ring : Nat) (west : Bool) (blocks : List SetBlock) (s : State) : Host.Outcome State Fault Refusal :=
  .next (receiveSets s ring west (blocks.filter (·.d1 == 3)))

/-- RING_HEAL (03 R96, 01 R33). -/
def execRingHeal (ring : Nat) (s : State) : Host.Outcome State Fault Refusal := .next (healRing s ring)

/-- SPAN_LOCK_HOLD (03 R99): a module-side failed span has held block lock for 1 s; SPANUP is sent. -/
def execSpanLockHold (ring : Nat) (west : Bool) (s : State) : Host.Outcome State Fault Refusal :=
  let g := s.ring ring
  let a := ownAddr s g
  let k := spanOf g.cfg a west
  .next (if portUp g west ∧ g.failed.contains k then
      spanUp (s.onRing ring fun g => { g with guardQ := g.guardQ ++ [.spanup a west] }) ring k
    else s)

/-- SPANUP_RX (03 R73, R74, R98, R99): SPANUP blocks at a port. -/
def execSpanupRx (ring : Nat) (west : Bool) (blocks : List SetBlock) (s : State) : Host.Outcome State Fault Refusal :=
  .next (receiveSets s ring west (blocks.filter (·.d1 == 4)))

/-- CLOSEARM_CHECK (03 R100): in window r − 2, a loop-back node without CLOSEARM cancels the re-close. -/
def execClosearmCheck (ring : Nat) (s : State) : Host.Outcome State Fault Refusal :=
  let g := s.ring ring
  .next (if g.state = .leading ∧ g.closeAt = some (s.time.cycle + 2) ∧ ¬ allArmed g then cancelClose s ring true else s)

/-- CLOSE_TARGET (03 R101). -/
def execCloseTarget (ring : Nat) (s : State) : Host.Outcome State Fault Refusal :=
  .next (if (s.ring ring).closeAt = some s.time.cycle then recloseRing s ring else s)

/-- RECLOSE_RETRY (03 R100): the first cycle that begins 1 s after the cancelled target. -/
def execRecloseRetry (ring : Nat) (s : State) : Host.Outcome State Fault Refusal :=
  let g := s.ring ring
  .next (match g.closeRetry with
    | some t => if g.state = .leading ∧ g.healed ∧ g.failed = [] ∧ bitAt g.cfg.flags 0 then startClose s ring (max (t + cyclesPerS s.sys.rate) s.time.cycle) else s
    | none => s)

/-- BLOCK_LOCK_GAINED (03 R95, R99, 14 R397): a lit ring port or a side link counts as up. -/
def execBlockLockGained (port : LanePort) (s : State) : Host.Outcome State Fault Refusal :=
  .next (match port with
    | .ring r w =>
      if (s.ring r).state = .off then s
      else s.onRing r fun g => if w then { g with westUp := true, remoteW := false, rfW := false } else { g with eastUp := true, remoteE := false, rfE := false }
    | .side n => if 2 ≤ s.sys.stage then s.onLink n fun l => { l with up := true } else s)

end Sys2Proof.Machine
end

