-- ==== Sys2Proof/Machine/SafetyCmd.lean ====
section
/-! DEFINITION. Meanings of the safety commands: safe inputs and links, exchange between the channels, faults, resets (10),
the pair exchange (13 R375), and the class 20h (02 R67, 10 R311 to R316). -/
namespace Sys2Proof.Machine

/-- SCARP_STOP_INJECT (03 R102): while the Scarp die's trip state holds, STOP leaves on every lit lane. -/
def execScarpStopInject (s : State) : Host.Outcome State Fault Refusal :=
  .next (if s.safety.scarp.modTrip.isEmpty then s else sendStop s)

/-- SAFE_INPUT_SAMPLE (10 R280, R288): one 50 µs sample of both channels. Bit 2n of a contact word is contact A of pair n,
bit 2n + 1 contact B, 1 closed. -/
def execSafeInputSample (core scarp : BitVec 32) (coreRb scarpRb : BitVec 24) (s : State) :
    Host.Outcome State Fault Refusal :=
  .next (sampleSafety (sampleSafety s .core core coreRb) .scarp scarp scarpRb)

/-- MONITOR_POINT_SAMPLE (10 R290): one 50 µs sample of the four points, in mV, by each channel. -/
def execMonitorPointSample (coreMv scarpMv : List Nat) (s : State) : Host.Outcome State Fault Refusal :=
  .next (samplePoints (samplePoints s .core coreMv) .scarp scarpMv)

/-- SAFE_LINK_FRAME_RX (10 R294 to R303, 14 R418): a frame at a channel's receiver; the core's reception of a local frame is
the one that publishes it. -/
def execSafeLinkFrameRx (ch : Chan) (l : LinkSrc) (streamB : Bool) (bytes : List Byte) (s : State) :
    Host.Outcome State Fault Refusal :=
  let s := if ch = .core then publishFrame s l streamB bytes else s
  .next (safeFrame s ch (linkNo l) streamB bytes)

/-- SAFE_LINK_LOST (10 R295): a stream or a car is lost, and the shafts concerned trip with cause 0Ch. -/
def execSafeLinkLost (ch : Chan) (what : LinkLoss) (s : State) : Host.Outcome State Fault Refusal :=
  let x := s.chan ch
  .next (match what with
    | .stream l b =>
      let n := linkNo l
      if !x.running || !tabHas x.cfg.links n then s
      else
        let s := s.onChan ch fun x => { x with streams := tabMod x.streams {} (2 * n + b2n b) fun t => { t with lost := true, good := 0 } }
        s.each (shaftsOfLink x n) fun s h => latchTrip s ch h 0x0C 255
    | .car n =>
      match shaftOfCar x n with
      | none => s
      | some (h, _) =>
        if !x.running then s
        else latchTrip (s.onChan ch fun x => { x with cars := tabMod x.cars {} n fun y => { y with lost := true } }) ch h 0x0C n)

/-- The mean deviation of 16 exchange periods above 2 % (10 R282). -/
def clockBad (l : List Nat) : Bool := l.length == 16 && decide (16 * 20000 < l.foldl (· + ·) 0)

/-- CROSS_CHANNEL_EXCHANGE (10 R282): each channel times the other's period, in ppm of deviation; a mean above 2 % over 16
exchanges is a fault of the other channel. -/
def execCrossChannelExchange (coreDevPpm scarpDevPpm : Nat) (s : State) : Host.Outcome State Fault Refusal :=
  if s.safety.core.running ∧ s.safety.scarp.running then
    let s := s.onChan .core fun x => { x with dev := (coreDevPpm :: x.dev).take 16 }
    let s := s.onChan .scarp fun x => { x with dev := (scarpDevPpm :: x.dev).take 16 }
    let s := if clockBad s.safety.core.dev then latchTrip s .core 8 0x13 255 else s
    .next (if clockBad s.safety.scarp.dev then latchTrip s .scarp 8 0x12 255 else s)
  else .next s

/-- Whether a reset in one channel waits for the other channel's within its 200 ms (10 R306). -/
def resetPending (s : State) : Bool :=
  (s.safety.core.cleared.any fun p => !p.2.isEmpty) || s.safety.scarp.cleared.any fun p => !p.2.isEmpty

/-- CROSS_MISMATCH (10 R282, R306): a difference of the compared items that persisted for 1 ms trips the module, except that of
trip latches while a reset waits for the other channel. -/
def execCrossMismatch (s : State) : Host.Outcome State Fault Refusal :=
  .next (if wordsDiffer s || (latchesDiffer s && !resetPending s) then tripModule s 0x11 else s)

/-- OTHER_CHANNEL_LOSS (10 R282, R308): a channel has missed the other's heartbeat for 500 µs. -/
def execOtherChannelLoss (ch : Chan) (s : State) : Host.Outcome State Fault Refusal :=
  .next (latchTrip s ch 8 (match ch with | .core => 0x13 | .scarp => 0x12) 255)

/-- TRIP_REQUEST_RX (10 R283): a trip of the other channel is latched with the same scope and cause. -/
def execTripRequestRx (ch : Chan) (scope : Scope) (cause : Nat) (s : State) : Host.Outcome State Fault Refusal :=
  .next (latchTrip s ch (scopeNo scope) cause 255)

/-- SWITCH_TEST (10 R281, R308): a channel opens its switch of an energised line and checks the read-back. -/
def execSwitchTest (ch : Chan) (line : Nat) (readsOff : Bool) (s : State) : Host.Outcome State Fault Refusal :=
  .next (if line < 24 ∧ lineLive s line ∧ ¬ readsOff then latchTrip s ch 8 0x10 255 else s)

/-- STO_LINE_LIMIT (21 R537): an energised line in limit for 100 µs opens its switches; both channels trip. -/
def execStoLineLimit (line : Nat) (s : State) : Host.Outcome State Fault Refusal :=
  .next (if line < 24 ∧ lineLive s line then tripModule s 0x10 else s)

/-- SS1_END (10 R299): standstill in 4 consecutive frames of a stream, or TSS1 from the demand; STO and SBC follow. -/
def execSs1End (ch : Chan) (shaft : Nat) (s : State) : Host.Outcome State Fault Refusal :=
  let x := s.chan ch
  let t := tabGet x.ss1 {} shaft
  .next (if t.on ∧ (4 ≤ t.stillA ∨ 4 ≤ t.stillB ∨ t.t0 + 1000 * (cfgShaft x shaft).tss1 ≤ x.clk)
    then endSs1 s ch shaft t.cause else s)

/-- BRAKE_FEEDBACK_TIMEOUT (10 R300): a brake whose feedback has been inconsistent for BFBT has failed. -/
def execBrakeFeedbackTimeout (ch : Chan) (car : Nat) (s : State) : Host.Outcome State Fault Refusal :=
  let x := s.chan ch
  .next (match shaftOfCar x car with
    | none => s
    | some (h, k) =>
      if x.running && brakeBad s ch k then
        latchTrip (s.onChan ch fun x => { x with cars := tabMod x.cars {} car fun y => { y with brakeFail := true } }) ch
          (if (cfgShaft x h).module.contains 0x0B then 8 else h) 0x0B car
      else s)

/-- RESET_DISAGREE (10 R306, R317): the other channel has not cleared a latch that this one cleared 200 ms ago; it is latched
again. -/
def execResetDisagree (ch : Chan) (scope : Scope) (s : State) : Host.Outcome State Fault Refusal :=
  let n := scopeNo scope
  let l := tabGet (s.chan ch).cleared [] n
  let s1 := s.onChan ch fun x => { x with cleared := tabDel x.cleared n }
  let other := latchOf (s.chan (otherChan ch)) n
  .next (if l.any other.contains then
      let s1 := s1.onChan ch fun x => setLatch x n (latchOf x n ++ l.filter fun k => !(latchOf x n).contains k)
      let pair := if n = 8 then (s.chan ch).cfg.modReset else (cfgShaft (s.chan ch) n).reset
      safetyEvent s1 5 n (l.headD 0) (chanNo ch) ((pair.getD 255 : Nat) : Int)
    else s1)

/-- SAFETY_CORE_FAULT (10 R308): the safety core halts, module trip 12h. -/
def execSafetyCoreFault (s : State) : Host.Outcome State Fault Refusal :=
  .next (if s.safety.core.running then haltCore s else s)

/-- SCARP_INTERNAL_FAULT (10 R308): parity within the Scarp die, module trip 13h. -/
def execScarpInternalFault (s : State) : Host.Outcome State Fault Refusal :=
  .next (latchTrip s .scarp 8 0x13 255)

/-! ### The pair exchange (13 R375) -/

/-- Whether the module originates frames on an axis ring: LEADING (13 R375). -/
def isLeading (s : State) : Bool :=
  originates s && s.rings.any fun p => p.2.cfg.mode == 0 && p.2.state == .leading

/-- An event of class 50h with its record (13 R396): CODE, MEMBER, cycle, VALUE. -/
def redEvent (s : State) (code member : Nat) (value : Int) : State := codeEvent s 0x50 0x0C code member value

/-- PAIR_SAFE_FRAME_RX (13 R375): the partner's status frame is checked and the trips it names are adopted. -/
def execPairSafeFrameRx (ch : Chan) (bytes : List Byte) (s : State) : Host.Outcome State Fault Refusal :=
  let x := s.chan ch
  if !x.running || s.sys.manifest.partner == 0 then .next s
  else if frameOk bytes x.cfg.pairSrc (byteAt bytes 7 % 2 == 1) && seqOk x.pairSeq (x.pairGood == 0) (leAt bytes 4 2) then
    match (safeRecs bytes (byteAt bytes 7 % 2 == 1)).head? with
    | some (.pair m l crc) =>
      let good := min 255 (x.pairGood + 1)
      let s := s.onChan ch fun x => { x with
        pairSeq := some (leAt bytes 4 2), pairGood := good, pairCrcDiff := crc != imageCrc x.image
        pairOff := x.pairOff && decide (good < x.cfg.linkTo) }
      let s := if m = 0 then s else latchTrip s ch 8 m 255
      .next (s.each (List.range 8) fun s h => if l.getD h 0 = 0 then s else latchTrip s ch h (l.getD h 0) 255)
    | _ => .next (bump s (cMem 14))
  else .next (bump s (cMem 13))

/-- PAIR_EXCHANGE_LOSS (13 R375): no frame for LINKTO periods is reported; for 16 periods, on a module that does not lead,
every output of the channel opens. -/
def execPairExchangeLoss (ch : Chan) (sixteen : Bool) (s : State) : Host.Outcome State Fault Refusal :=
  let x := s.chan ch
  if !x.running || s.sys.manifest.partner == 0 then .next s
  else
    let s1 := (s.onChan ch fun x => { x with pairGood := 0, pairOff := x.pairOff || (sixteen && !isLeading s) }).onRed fun r =>
      { r with exchLost := true }
    .next (if sixteen then s1 else redEvent s1 0x0B s.sys.manifest.partner (chanNo ch))

/-! ### Class 20h -/

/-- SAFETY_STATUS (10 R316): the state of the channels at the latest release phase. -/
def execSafetyStatus (r : Request) (s : State) : Host.Outcome State Fault Refusal :=
  .next (serve s r 0x2001 true none [] fun r s => ok s r (s.safety.snap.getD (statusFields s)))

/-- The newest change-log entry of type 1. -/
def lastCommit (s : State) : Option LogEntry := s.safety.log.find? fun e => e.type == 1

/-- SAFETY_CONFIG_CRC (10 R316). -/
def execSafetyConfigCrc (r : Request) (s : State) : Host.Outcome State Fault Refusal :=
  .next (serve s r 0x2002 true none [] fun r s =>
    let pend := match s.safety.session with | some x => imageCrc x.pending | none => 0
    let c := (lastCommit s).getD {}
    ok s r [(16, 4, (imageCrc s.safety.core.image : Int)), (20, 4, (imageCrc s.safety.scarp.image : Int)), (24, 4, (pend : Int)),
      (28, 8, (c.time : Int)), (36, 4, (c.seq : Int))])

/-- The fields of a change-log entry at an offset (10 R315). -/
def logFields (off : Nat) (e : LogEntry) : List (Nat × Nat × Int) :=
  [(off, 8, (e.time : Int)), (off + 8, 4, (e.seq : Int)), (off + 12, 1, (e.type : Int)),
   (off + 16, 16, (leAt e.user 0 16 : Int)), (off + 32, 4, (e.oldCrc : Int)), (off + 36, 4, (e.newCrc : Int))]

/-- SAFETY_CHANGELOG_READ (10 R316): COUNT entries from FIRST, clamped up to the oldest held. -/
def execSafetyChangelogRead (r : Request) (s : State) : Host.Outcome State Fault Refusal :=
  let log := s.safety.log.reverse
  let oldest := (log.head?.getD {}).seq
  let newest := (s.safety.log.head?.getD {}).seq
  .next (serve s r 0x2003 true none
    ((if rq r 16 4 < oldest then [16] else []) ++ clampedN 20 1 20 (rq r 20 1)) fun r s =>
    let first := max oldest (rq r 16 4)
    let l := (log.filter fun e => decide (first ≤ e.seq)).take (clampN 1 20 (rq r 20 1))
    ok s r ([(16, 1, (l.length : Int)), (20, 4, (oldest : Int)), (24, 4, (newest : Int))] ++
      (List.range l.length).flatMap fun i => logFields (32 + 48 * i) (l.getD i {})) 0 (contFor (32 + 48 * l.length)))

/-- Whether a password consists of printable ASCII (10 R311). -/
def printable (l : List Byte) : Bool := l.all fun b => decide (0x20 ≤ b.toNat) && decide (b.toNat ≤ 0x7E)

/-- A wrong password (10 R311, R317): counted, reported; the fifth in a row locks sessions out for 900 s. -/
def wrongPassword (s : State) (user : List Byte) : State :=
  let n := s.safety.wrong + 1
  let s := safetyEvent (s.onSafety fun y => { y with wrong := n }) 8 8 0 3 ((5 - n : Nat) : Int)
  if n < 5 then s
  else
    let s := s.onSafety fun y => { y with wrong := 0, lockEnd := some (s.time.now + 900000000000) }
    logWrite (safetyEvent s 9 8 0 3 900) 3 user 0 0

/-- A session opens (10 R312): both channels take a module trip with cause 16h. -/
def openSession (s : State) (r : Request) (user : List Byte) (newPw : Option (List Byte)) : State :=
  let (k, s) := draw s
  let id := Config.session k % 4294967296
  let s := s.onSafety fun y => { y with wrong := 0, session := some { id, user, newPw, pending := y.core.image } }
  let s := safetyEvent (tripModule s 0x16) 6 8 0 3 (id : Int)
  ok s r [(16, 4, (id : Int)), (20, 4, (imageCrc s.safety.core.image : Int)), (24, 1, 5)]

/-- SAFETY_SESSION_OPEN (10 R311, R312, 18 R484). -/
def execSafetySessionOpen (r : Request) (s : State) : Host.Outcome State Fault Refusal :=
  .next (serve s r 0x2010 true none [] fun r s =>
    let user := rqBytes r 16 16
    let pwLen := rq r 32 1
    let setNew := bitAt (rq r 33 1) 0
    let newLen := rq r 34 1
    let pw := rqBytes r 36 pwLen
    let newPw := rqBytes r 100 newLen
    let newBad := setNew && (decide (newLen < 12) || decide (64 < newLen) || !printable newPw)
    if s.sys.lc = .blank ∨ s.sys.lc = .returned then refused s r
    else match s.safety.lockEnd with
      | some t => refused s r (min ((t - s.time.now) / 1000) max32)
      | none =>
        if s.safety.session.isSome || inMotion s then refused s r
        else if (pwLen != 0 && (decide (pwLen < 12) || decide (64 < pwLen))) || newBad then denied s r
        else match s.safety.password with
          | none => if setNew then openSession s r user (some newPw) else denied s r
          | some (salt, hash) =>
            if pwLen != 0 && Config.passwordHash salt pw == hash then openSession s r user (if setNew then some newPw else none)
            else denied (wrongPassword s user) r)

/-- The open session, when a request names it. -/
def namedSession (s : State) (id : Nat) : Option Session := s.safety.session.filter fun x => x.id == id

/-- SAFETY_CONFIG_WRITE (10 R313): bytes go to the pending image. -/
def execSafetyConfigWrite (r : Request) (s : State) : Host.Outcome State Fault Refusal :=
  let off := rq r 20 4
  let lim := min 960 (16384 - off)
  let open_ := namedSession s (rq r 16 4)
  .next (serve s r 0x2011 true (if open_.isSome then firstBad [(20, decide (off ≤ 16383))] else none)
    (if open_.isSome then clampedN 24 1 lim (rq r 24 2) else []) fun r s =>
    match open_ with
    | none => denied s r
    | some x =>
      let len := clampN 1 lim (rq r 24 2)
      let pend := (List.range len).foldl (fun t i => tabSet t (off + i) (r.payload.getD (16 + i) 0)) x.pending
      ok (s.onSafety fun y => { y with session := some { x with pending := pend } }) r [(16, 2, (len : Int))])

/-- The offset of the first fault that the check of a pending image finds, if one (10 R309, R314): Thepaif's layout, then the
ranges of the parameters it holds. -/
def pendingFault (t : Tab Byte) (k : Nat) : Option Nat :=
  let img := imageBytes t
  match Config.imageFault img with
  | some o => some o
  | none => if cfgOk (decodeImage img) then none else some (Config.choice k % 16384)

/-- A commit that passed its checks (10 R314): both copies stored, log entries written, the session ended. -/
def commitSession (s : State) (x : Session) (crc : Nat) : State :=
  let old := imageCrc s.safety.core.image
  let cfg := decodeImage (imageBytes x.pending)
  let s := s.onSafety fun y => { y with
    core := { y.core with image := x.pending, cfg }, scarp := { y.scarp with image := x.pending, cfg }
    session := none, crcBad := false }
  let s := logWrite s 1 x.user old crc
  match x.newPw with
  | none => s
  | some p =>
    let (k, s) := draw s
    let salt := Config.session k
    logWrite (s.onSafety fun y => { y with password := some (salt, Config.passwordHash salt p) }) 2 x.user 0 0

/-- SAFETY_SESSION_CLOSE (10 R314): discards, or checks and commits. -/
def execSafetySessionClose (r : Request) (s : State) : Host.Outcome State Fault Refusal :=
  let action := rq r 20 1
  let crc := rq r 24 4
  let open_ := namedSession s (rq r 16 4)
  .next (serve s r 0x2012 true (if open_.isSome then firstBad [(20, decide (action ≤ 1))] else none) [] fun r s =>
    match open_ with
    | none => denied s r
    | some x =>
      if action = 0 then
        ok (safetyEvent (s.onSafety fun y => { y with session := none }) 7 8 0 3 0) r
      else
        let (k, s) := draw s
        match pendingFault x.pending k with
        | some o => refused s r 0 [(16, 1, 3), (20, 4, (o : Int))]
        | none =>
          if imageCrc x.pending ≠ crc then refused s r 0 [(16, 1, 1)]
          else
            let seq := s.safety.logSeq
            let s := safetyEvent (commitSession s x crc) 7 8 0 3 1
            ok s r [(16, 4, (crc : Int)), (20, 4, (seq : Int))])

/-- SESSION_IDLE_CLOSE (10 R312): a session with no command for 30 min closes without commit. -/
def execSessionIdleClose (s : State) : Host.Outcome State Fault Refusal :=
  .next (if s.safety.session.isSome then safetyEvent (s.onSafety fun y => { y with session := none }) 7 8 0 3 0 else s)

/-- PASSWORD_LOCKOUT_END (10 R311). -/
def execPasswordLockoutEnd (s : State) : Host.Outcome State Fault Refusal :=
  .next (s.onSafety fun y => { y with lockEnd := none })

end Sys2Proof.Machine
end

