-- ==== Sys2Proof/Machine/Traverse.lean ====
section
/-! DEFINITION. Meanings of the dispatch class 15h and of the moments of a call (09). -/
namespace Sys2Proof.Machine

/-! ### Events and states of calls (09 R259, R278) -/

/-- Code of a call state (09 table "Call states"). -/
def callCode (c : CallState) : Nat :=
  match c with | .unassigned => 0 | .assigned => 1 | .onBoard => 2 | .completed => 3 | .cancelled => 4 | .abandoned => 5

/-- A dispatch event (09 R278): class 15h, to the call's partition and the supervisor; 03h and 07h write a record. -/
def callEvent (s : State) (id code car landing : Nat) (value : Nat) : State :=
  let c := s.call id
  raise (bump s (cDoor 6)) { source := 8, code, subject := if car < 64 then car else 0xFFFF, value, cls := some 0x15
                             record := code == 3 || code == 7, owner := some c.part
                             fields := [(16, 4, (id : Int)), (20, 1, (code : Int)), (21, 1, (car : Int)), (22, 1, (landing : Int)), (23, 1, (c.reason : Int)),
                               (24, 4, (c.client : Int)), (28, 4, (value : Int)), (32, 4, (s.time.cycle : Int))] }

/-- Milliseconds since a call was submitted. -/
def callAge (s : State) (c : Call) : Nat := min max32 ((s.time.now - c.at_) / 1000000)

/-- A list without some calls: stops left without calls go, but for park stops and the stop being served (09 R270). -/
def stripList (serving : Bool) (ids : List Nat) (l : List Stop) : List Stop :=
  let l := l.map fun t => { t with picks := t.picks.filter fun i => !ids.contains i, drops := t.drops.filter fun i => !ids.contains i }
  (List.range l.length).filterMap fun i =>
    match l[i]? with
    | some t => if t.park || !t.picks.isEmpty || !t.drops.isEmpty || (serving && i == 0) then some t else none
    | none => none

/-- Calls leave the stop list of a car (09 R270). -/
def dropCalls (s : State) (n : Nat) (ids : List Nat) : State :=
  setList s n (stripList (s.car n).serving ids (stopList s n))

/-- A call ends ABANDONED (09 R259, R274, R278). -/
def abandonCall (s : State) (id reason : Nat) : State :=
  let c := s.call id
  let s := s.onCall id fun c => { c with state := .abandoned, reason }
  callEvent (bump s (cDoor 10)) id 7 c.car (if c.car < 64 then tabGet s.disp.lastLand 0xFF c.car else 0xFF) (callAge s c)

/-- A call has no car (09 R261). -/
def unassignCall (s : State) (id : Nat) : State :=
  let s := s.onCall id fun c => { c with state := .unassigned, car := 0xFF, wait := max32, reason := if c.reason = 0 then 11 else c.reason }
  callEvent (bump s (cDoor 9)) id 3 0xFF (s.call id).src 0

/-- An insertion is committed (09 R266, R268, R271): the stop lists of the shaft, the call's car and wait. -/
def assignCall (s : State) (id : Nat) (c : Cand) : State :=
  let s := s.each c.lists fun s e => setList s e.1 e.2
  let was := s.call id
  let s := s.onCall id fun k => { k with state := if k.state = .onBoard then .onBoard else .assigned, car := c.car, wait := msUp c.wait }
  callEvent s id (if was.reassigns = 0 then 1 else 2) c.car was.src (msUp c.wait)

/-! ### Plans as of the latest update (09 R275, R277) -/

/-- The estimates of a shaft's stop lists anew; lists whose plan cannot be resolved keep theirs. -/
def refreshShaft (s : State) (h : Nat) : State :=
  let lists := shaftLists s h
  if lists.all fun e => e.2.isEmpty then s
  else match playShaft s h 1 lists with
    | none => s
    | some p =>
      let s := s.each p fun s e => setList s e.1 e.2
      s.each p fun s e => s.each e.2 fun s t => s.each (t.picks ++ t.drops.filter fun i => (s.call i).kind == 2) fun s i =>
        s.onCall i fun c => { c with wait := if c.wait = 0 then 0 else msUp (t.eta - nowUs s) }

/-! ### Submission (02 R69, 09 R259 to R268) -/

/-- The completion of call.submit (02 R69). -/
def submitDone (s : State) (r : Request) (id : Nat) : State :=
  let c := s.call id
  ok s r [(16, 4, (id : Int)), (20, 1, (c.car : Int)), (21, 1, (c.pass : Int)), (24, 4, (c.wait : Int))]

/-- The call that a request makes. -/
def callOf (s : State) (r : Request) : Call :=
  let k := rq r 16 1
  { part := r.part, kind := k, shafts := BitVec.ofNat 8 (rq r 17 1), src := rq r 18 1, dst := if k = 3 then rq r 19 1 else 0xFF
    only := if k = 2 then rq r 20 1 else 0, pass := clampN 1 16 (rq r 21 1), access := bitAt (rq r 22 1) 0, client := rq r 24 4, at_ := s.time.now }

/-- A call is made and evaluated (09 R268): the policy's choice, its fallback when it chose an infeasible car, or the wait for
its deadline. -/
def runSubmit (s : State) (r : Request) (policy : Option Nat) : State :=
  let c := callOf s r
  if 16384 ≤ (s.disp.calls.filter fun e => outstanding e.2).length then
    refused (bump s (cDoor 8)) r (100000 + Config.callRetry (s.disp.doneAt.map fun t => s.time.now - t) % 9900001)
  else if !(callCars s c).any fun x => reaches x c then refused (bump s (cDoor 8)) r
  else
    let id := s.disp.next
    let s := s.onDisp fun d => { d with next := if id + 1 = 4294967296 then 1 else id + 1, calls := tabSet d.calls id c }
    let cands := candidates s id none none
    if cands.isEmpty then submitDone (unassignCall s id) r id
    else match policy with
      | none => s.onDisp fun d => { d with serving := some (r, id, cands) }
      | some n =>
        match cands.find? fun c => c.car == n with
        | some c => submitDone (assignCall s id c) r id
        | none => match leastCand (·.wait) cands with
          | some c => submitDone (assignCall (bump s (cDoor 7)) id c) r id
          | none => s

/-- Submissions handed over meanwhile are served in order (09 R267), as far as the list is long. -/
def runWaiting : Nat → State → State
  | 0, s => s
  | n + 1, s =>
    match s.disp.serving, s.disp.waiting with
    | none, e :: rest => runWaiting n (runSubmit (s.onDisp fun d => { d with waiting := rest }) e.1 e.2)
    | _, _ => s

/-- The shafts a call may name: those with a configuration, by its set. -/
def setShafts (s : State) (m : Nat) : List Nat := (List.range 8).filter fun h => committedShaft s h && (m == 0 || bitAt m h)
/-- Whether a landing exists in a shaft of a set. -/
def landingKnown (s : State) (m l : Nat) : Bool := (setShafts s m).any fun h => decide (l < ((s.shaft h).cfg.getD {}).geo.nLand)

/-- CALL_SUBMIT (02 R69, 09 R261, R262, R267, R268), with the policy's choice if it makes one in time. -/
def execCallSubmit (r : Request) (policy : Option Nat) (s : State) : Host.Outcome State Fault Refusal :=
  let k := rq r 16 1
  let m := rq r 17 1
  .next (serve s r 0x1510 (motionReady s && actReady s)
    (firstBad [(16, decide (k ≤ 3)), (17, (List.range 8).all fun h => !bitAt m h || declaredShaft s h), (18, landingKnown s m (rq r 18 1)),
               (19, k != 3 || landingKnown s m (rq r 19 1)), (20, k != 2 || (decide (rq r 20 1 ≤ 63) && knownCar s (rq r 20 1)))])
    (clampedN 21 1 16 (rq r 21 1)) fun r s =>
      if s.disp.serving.isSome then s.onDisp fun d => { d with waiting := d.waiting ++ [(r, policy)] } else runSubmit s r policy)

/-! ### Queries and cancel (09 R260, R275 to R277) -/

/-- Whether a partition may address a call (09 R260). -/
def mayAddress (s : State) (p id : Nat) : Bool := tabHas s.disp.calls id && ((s.call id).part == p || (s.part p).supervisor)

/-- CALL_STATUS (09 R275). -/
def execCallStatus (r : Request) (s : State) : Host.Outcome State Fault Refusal :=
  let id := rq r 16 4
  .next (serve s r 0x1501 (motionReady s) (firstBad [(16, mayAddress s r.part id)]) [] fun r s =>
    let c := s.call id
    ok s r [(16, 4, (id : Int)), (20, 1, (c.kind : Int)), (21, 1, (callCode c.state : Int)), (22, 1, (c.car : Int)), (23, 1, (c.src : Int)),
      (24, 1, (c.dst : Int)), (25, 1, (c.pass : Int)), (26, 1, (c.reassigns : Int)), (27, 1, (c.reason : Int)), (28, 4, (c.client : Int)),
      (32, 4, (c.wait : Int)), (36, 4, (callAge s c : Int)), (40, 4, ((s.disp.cycle % 4294967296 : Nat) : Int))])

/-- CALL_CANCEL (09 R276): settled at the next update of Traverse. -/
def execCallCancel (r : Request) (s : State) : Host.Outcome State Fault Refusal :=
  let id := rq r 16 4
  .next (serve s r 0x1511 (motionReady s && actReady s) (firstBad [(16, mayAddress s r.part id)]) [] fun r s =>
    match (s.call id).state with
    | .unassigned | .assigned => s.onDisp fun d => { d with cancels := d.cancels ++ [(r, id)] }
    | .cancelled => ok s r [(16, 1, (4 : Int))]
    | _ => refused s r)

/-- CAR_STOPLIST (09 R277): the list as of the latest update. -/
def execCarStoplist (r : Request) (s : State) : Host.Outcome State Fault Refusal :=
  let n := rq r 16 1
  let first := rq r 17 1
  let l := stopList s n
  let most := min 62 (l.length - first)
  let cnt := min (clampN 1 62 (rq r 18 1)) most
  .next (serve s r 0x1502 (motionReady s) (firstBad [(16, decide (n ≤ 63) && knownCar s n), (17, decide (first ≤ 127))])
    (clampedN 18 (min 1 most) most (rq r 18 1)) fun r s =>
      match carCtx s n with
      | none => noSuch s r 16
      | some x =>
        let load := loads s (onBoardNow s n) l
        let pas := fun (ids : List Nat) => ids.foldl (fun a i => a + (if (s.call i).kind = 2 then 0 else (s.call i).pass)) 0
        ok s r ([(16, 1, (n : Int)), (17, 1, (x.h : Int)), (18, 1, (cnt : Int)), (19, 1, (l.length : Int)),
          (20, 4, ((s.disp.cycle % 4294967296 : Nat) : Int)), (24, 1, (min 255 (capacity x) : Nat)), (25, 1, (onBoardNow s n : Int)), (26, 1, (availOf s x : Int))] ++
          (List.range cnt).flatMap fun j =>
            let i := first + j
            let t := l.getD i {}
            let o := 32 + 16 * j
            let fl := ofBits [!t.picks.isEmpty, !t.drops.isEmpty, t.park, stopAccess s t, i == 0, decide (0 < t.sepWait)]
            [(o, 1, (t.landing : Int)), (o + 1, 1, (fl : Int)), (o + 2, 1, (t.dir : Int)), (o + 3, 1, (pas t.picks : Int)), (o + 4, 1, (pas t.drops : Int)),
             (o + 5, 1, (load.getD i 0 : Int)), (o + 6, 2, ((t.picks.length + t.drops.length : Nat) : Int)), (o + 8, 4, (msUp (t.eta - s.disp.upAt) : Int)),
             (o + 12, 4, (msUp t.sepWait : Int))]) 0 (contFor (32 + 16 * cnt)))

/-! ### Returned calls (09 R273) -/

/-- A call to be evaluated again: the call, a car and a shaft it is excluded from, or the one car it stays with; whether it was
UNASSIGNED and became due. -/
structure Again where
  id : Nat := 0
  noCar : Option Nat := none
  noShaft : Option Nat := none
  only : Option Nat := none
  due : Bool := false
  deriving DecidableEq, Repr

/-- Calls leave the stops of a car that a test selects: those waiting for pick-up, and those on board with car calls. -/
def takeStops (s : State) (n : Nat) (sel : Stop → Bool) : State × List Nat × List Nat :=
  let l := (stopList s n).filter sel
  let picks := l.flatMap (·.picks)
  let drops := (l.flatMap (·.drops)).filter fun i => (s.call i).kind == 2 || (s.call i).state == .onBoard
  (dropCalls s n (picks ++ drops), picks, drops)

/-- Calls become UNASSIGNED for an evaluation that a return causes (09 R273). -/
def returnCalls (s : State) (ids : List Nat) (reason : Nat) : State :=
  s.each ids fun s i => s.onCall i fun c => { c with
    state := if c.state = .onBoard then .onBoard else .unassigned, reason, reassigns := satAdd 255 c.reassigns 1, met := false
    wait := if c.state = .onBoard then 0 else max32 }

/-- A car's list is returned whole (09 R273): pick-ups are evaluated again, the rest is abandoned. -/
def returnAll (s : State) (n reason : Nat) (noCar noShaft : Option Nat) : State × List Again :=
  let (s, picks, drops) := takeStops s n fun _ => true
  let s := s.each drops fun s i => abandonCall s i reason
  (setList (returnCalls s picks reason) n [], picks.map fun id => { id, noCar, noShaft })

/-- A start that was refused returns the car's target (09 R273). -/
def returnHead (s : State) (n reason : Nat) (noCar : Option Nat) : State × List Again :=
  match headOf s n with
  | none => (s, [])
  | some t =>
    let (s, picks, drops) := takeStops s n fun u => u.landing == t.landing && u.picks == t.picks && u.drops == t.drops
    let s := setList s n ((stopList s n).filter fun u => !(u.park && u.landing == t.landing))
    (returnCalls (returnCalls s picks reason) drops reason, (picks.map fun id => ({ id, noCar } : Again)) ++ drops.map fun id => { id, only := some n })

/-- A call is COMPLETED at a landing (09 R259, R278). -/
def completeCall (s : State) (i n l : Nat) : State :=
  let c := s.call i
  let ride := if c.kind = 3 then (s.time.now - c.boardAt) / 1000000 else 0
  let s := (s.onCall i fun c => { c with state := .completed, wait := 0 }).onDisp fun d => { d with doneAt := (s.time.now :: d.doneAt).take 16 }
  callEvent s i 5 n l ride

/-- The car of a call is at its pick-up: event 04h, once (09 R278). -/
def meetCall (s : State) (i n : Nat) : State :=
  if (s.call i).met then s
  else callEvent (s.onCall i fun c => { c with wait := 0, met := true }) i 4 n (s.call i).src (callAge s (s.call i))

/-- The calls of the stop being served as its doors reach OPEN (09 table "Call kinds", R278): a destination call picked up stays
in the list until its drop. -/
def serveStop (s : State) (n : Nat) : State :=
  match stopList s n with
  | [] => s
  | t :: _ =>
    let s := s.each t.drops fun s i => completeCall s i n t.landing
    let s := s.each t.picks fun s i =>
      let s := meetCall s i n
      if (s.call i).kind = 3 then s.onCall i fun c => { c with state := .onBoard, boardAt := s.time.now, wait := 0 } else completeCall s i n t.landing
    setList s n ({ t with picks := [], drops := [] } :: (stopList s n).tail)

/-- A car arrives at a landing (09 R269, R278). -/
def applyArrived (s : State) (n l : Nat) : State :=
  let s := s.onDisp fun d => { d with lastLand := tabSet d.lastLand n l, arrAt := tabSet d.arrAt n (nowUs s) }
  match stopList s n with
  | t :: r =>
    if t.landing ≠ l then s
    else if t.park then setList s n r
    else s.each t.picks fun s i => meetCall s i n
  | [] => s

/-- One change on the motion side is applied (09 R269, R273). -/
def applyUpdate (s : State) (u : Update) : State × List Again :=
  match u with
  | .arrived n l => (applyArrived s n l, [])
  | .departed n =>
    if (s.car n).serving then ((setList s n (stopList s n).tail).onCar n fun k => { k with serving := false }, []) else (s, [])
  | .doorOpen n l => (match stopList s n with
    | t :: _ => if (s.car n).serving ∧ t.landing = l then serveStop s n else s
    | [] => s, [])
  | .returned n reason =>
    match reason with
    | 1 | 2 => returnHead s n reason (some n)
    | 3 => returnHead s n 3 none
    | 5 => returnAll s n 5 none ((carCtx s n).map (·.h))
    | r => returnAll s n r (some n) none
  | .noInsert n l =>
    let sel := (stopList s n).find? fun u => u.landing == l
    let (s, picks, drops) := takeStops s n fun u => some u == sel
    (returnCalls (returnCalls s picks 9) drops 9, (picks.map fun id => ({ id } : Again)) ++ drops.map fun id => { id, only := some n })
  | .beyond n l down =>
    match carCtx s n with
    | none => (s, [])
    | some x =>
      let far := fun (t : Stop) => if down then decide (landPos x.cfg t.landing < landPos x.cfg l) else decide (landPos x.cfg l < landPos x.cfg t.landing)
      let picks := ((stopList s n).filter far).flatMap (·.picks)
      (returnCalls (dropCalls s n picks) picks 4, picks.map fun id => { id })
  | .doorHeld n =>
    let here := (carCtx s n).bind fun x => landingAt x.cfg (s.car n).p
    let picks := ((stopList s n).filter fun t => some t.landing != here).flatMap (·.picks)
    (returnCalls (dropCalls s n picks) picks 8, picks.map fun id => { id, noCar := some n })
  | .inspection h =>
    (shaftCars s h).foldl (fun (a : State × List Again) x => let (s, l) := returnAll a.1 x.c.car 10 none (some h); (s, a.2 ++ l)) (s, [])
  | .committed h =>
    -- the cars that the calls and lists name: those of the former configuration of the shaft too
    let cars := (s.disp.lists.map (·.1)).filter fun n => match carCtx s n with | some x => x.h == h | none => true
    let (s, l) := cars.foldl (fun (a : State × List Again) n => let (s, l) := returnAll a.1 n 13 none none; (s, a.2 ++ l)) (s, [])
    let lost := fun (s : State) (i : Nat) => !(callCars s (s.call i)).any fun x => reaches x (s.call i)
    let free := (s.disp.calls.filter fun e => e.2.state == .unassigned && inSet e.2 h).map (·.1)
    (s.each (free.filter (lost s)) fun s i => abandonCall s i 13, l.filter fun a => !lost s a.id)

/-- A call that stays with its car goes back into its list (09 R273): where it costs least, else at the end. One whose stop
could not be inserted is reported as reassigned. -/
def keepCall (s : State) (id n : Nat) : State :=
  let c := s.call id
  let s : State := match (match carCtx s n with | some x => bestFor s x id | none => none) with
    | some b => s.each b.lists fun s e => setList s e.1 e.2
    | none => setList s n (stopList s n ++ [{ landing := if c.kind = 3 then c.dst else c.src, drops := [id] }])
  let s := s.onCall id fun c => { c with state := if c.state = .onBoard then .onBoard else .assigned }
  if c.reason = 9 then callEvent s id 2 n c.src (s.call id).wait else s

/-- A returned or UNASSIGNED call is evaluated (09 R261, R267, R273): the factory policy chooses. A call cancelled or completed
meanwhile is not. -/
def evaluateAgain (s : State) (a : Again) : State :=
  let c := s.call a.id
  match a.only with
  | some n => if c.state = .unassigned ∨ c.state = .onBoard then keepCall s a.id n else s
  | none =>
    if c.state ≠ .unassigned then s
    else match leastCand policyCost (candidates s a.id a.noCar a.noShaft) with
      | some b => assignCall s a.id b
      | none => if a.due then s else unassignCall s a.id

/-- Whether a call was submitted before another (09 R267). -/
def earlier (s : State) (a b : Again) : Bool :=
  let x := s.call a.id
  let y := s.call b.id
  decide (x.at_ < y.at_) || (x.at_ == y.at_ && decide (a.id ≤ b.id))

/-- A call put in its place in the order of submission. -/
def insertAgain (s : State) (a : Again) : List Again → List Again
  | [] => [a]
  | b :: r => if earlier s a b then a :: b :: r else b :: insertAgain s a r

/-- A cancel is settled after the completions of its update (09 R276). -/
def settleCancel (s : State) (r : Request) (id : Nat) : State :=
  let c := s.call id
  match c.state with
  | .unassigned | .assigned =>
    let s := if c.car < 64 then dropCalls s c.car [id] else s
    let s := s.onCall id fun c => { c with state := .cancelled }
    ok (callEvent (bump s (cDoor 11)) id 6 c.car c.src 0) r [(16, 1, (4 : Int))]
  | .cancelled => ok s r [(16, 1, (4 : Int))]
  | _ => refused s r

/-- Whether the doors of a car serving a stop are OPEN: its car door, or the landing door where it has none. -/
def stopOpen (s : State) (x : CarCtx) : Bool :=
  let k := s.car x.c.car
  let own := s.doors.filter fun d => match d.2.def_ with | some c => c.kind == 1 && c.car == x.c.car | none => false
  let land := s.doors.filter fun d => match d.2.def_ with | some c => c.kind == 2 && isCarsDoor x k.p c | none => false
  let l := if own.isEmpty then land else own
  l.all fun d => d.2.state == .opened

/-- The cars available for new assignments (09 R263). -/
def availCars (s : State) : List Nat := ((allCars s).filter fun x => availOf s x == 0).map fun x => x.c.car

/-- The UNASSIGNED calls to be evaluated again: those that became due, and those of whose set a car has become available (09 R261). -/
def dueCalls (s : State) (fresh : List Nat) : List Again :=
  (s.disp.calls.filter fun e => e.2.state == .unassigned &&
    (s.disp.due.contains e.1 || (callCars s e.2).any fun x => fresh.contains x.c.car)).map fun e => { id := e.1, due := true }

/-- Calls are evaluated again in the order of their submission (09 R267). -/
def evaluateAll (s : State) (l : List Again) : State :=
  s.each (l.foldl (fun m a => insertAgain s a m) []) evaluateAgain

/-- The calls that became due while a call was served (09 R261, R267). -/
def runDue (s : State) : State := evaluateAll (s.onDisp fun d => { d with due := [] }) (dueCalls s [])

/-- Traverse applies what the motion side has reported, completions, cancels, and the calls to evaluate again (09 R261, R267,
R269, R270, R273, R276); not while a call is being served. -/
def applyMotion (s : State) : State :=
  if s.disp.serving.isSome then s.onDisp fun d => { d with owed := true }
  else
    let (s, l) := s.disp.updates.foldl (fun (a : State × List Again) u => let (s, m) := applyUpdate a.1 u; (s, a.2 ++ m))
      (s.onDisp fun d => { d with updates := [], owed := false }, [])
    let s := s.each (allCars s) fun s x =>
      let k := s.car x.c.car
      if k.state == .idle && k.serving && stopOpen s x then serveStop s x.c.car else s
    let cancels := s.disp.cancels
    let s := (s.onDisp fun d => { d with cancels := [] }).each cancels fun s e => settleCancel s e.1 e.2
    let cars := availCars s
    let due := (dueCalls s (cars.filter fun n => !s.disp.avail.contains n)).filter fun a => !l.any fun b => b.id == a.id
    let s := evaluateAll (s.onDisp fun d => { d with due := [], avail := cars }) (l ++ due)
    let s := s.onDisp fun d => { d with cycle := s.time.cycle, upAt := nowUs s }
    s.each (List.range 8) refreshShaft

/-- POLICY_DEADLINE (09 R268): no choice within 800 µs; the feasible car with the least WAIT takes the call. -/
def execPolicyDeadline (s : State) : Host.Outcome State Fault Refusal :=
  .next (match s.disp.serving with
    | none => s
    | some (r, id, cands) =>
      let s := bump (s.onDisp fun d => { d with serving := none }) (cDoor 7)
      let s := match leastCand (·.wait) cands with
        | some c => submitDone (assignCall s id c) r id
        | none => submitDone (unassignCall s id) r id
      let s := if s.disp.owed then applyMotion s else runDue s
      runWaiting s.disp.waiting.length s)

/-- MOTION_UPDATE_APPLY (09 R269). -/
def execMotionUpdateApply (s : State) : Host.Outcome State Fault Refusal := .next (applyMotion s)

/-- Whether a committed shaft configuration is among what the motion side reports: Traverse takes it at the release phase at
which it lands (07 R227). -/
def commitReported (s : State) : Bool := s.disp.updates.any fun u => match u with | .committed _ => true | _ => false

/-- CALL_REEVAL_TIMER (09 R261): at once, or after the call being served (09 R267). -/
def execCallReevalTimer (call : Nat) (s : State) : Host.Outcome State Fault Refusal :=
  .next (if (s.call call).state ≠ .unassigned ∨ !tabHas s.disp.calls call then s
    else if s.disp.serving.isSome then (if s.disp.due.contains call then s else s.onDisp fun d => { d with due := d.due ++ [call] })
    else evaluateAgain s { id := call, due := true })

/-- UNASSIGNED_TIMEOUT (09 R261): 600 s without a car. -/
def execUnassignedTimeout (call : Nat) (s : State) : Host.Outcome State Fault Refusal :=
  .next (if tabHas s.disp.calls call ∧ (s.call call).state = .unassigned then abandonCall s call 12 else s)

/-- CALL_DISCARD (09 R259): 60 s in a final state. -/
def execCallDiscard (call : Nat) (s : State) : Host.Outcome State Fault Refusal :=
  .next (if tabHas s.disp.calls call ∧ !outstanding (s.call call) then s.onDisp fun d => { d with calls := tabDel d.calls call } else s)

end Sys2Proof.Machine
end

