-- ==== Sys2Proof/Machine/RedOps.lean ====
section
/-! DEFINITION. Operations of redundancy (13): roles, heartbeats, the witness, checkpoints, the journal, fencing and
take-over. -/
namespace Sys2Proof.Machine

/-- Whether the module belongs to a pair (13 R372). -/
def paired (s : State) : Bool := s.sys.manifest.partner != 0

/-- Code of a role (13 R372); a paired module without a role yet reads 0 (DESIGN CHOICE 31). -/
def roleCode : Role → Nat
  | .solo => 0 | .active => 1 | .standby => 2 | .fenced => 3 | .withdrawn => 4 | .takingOver => 5 | .undecided => 0

/-- Whether this standby is eligible (13 R379). -/
def selfEligible (s : State) : Bool := s.red.role == .standby && decide (10000 ≤ s.red.goodCk)

/-- A flag of the latest heartbeat of the partner, when that of the latest cycle arrived. -/
def partnerFlag (s : State) (i : Nat) : Bool :=
  match s.red.partnerHb with | some h => s.red.missPartner == 0 && h.hflags.getLsbD i | none => false

/-- Whether the standby of the pair is eligible as this module knows it: its own count, or the flag of the partner's latest
heartbeat (13 R379, R380). -/
def standbyEligible (s : State) : Bool := if s.red.role = .active then partnerFlag s 1 else selfEligible s

/-- Whether the partner's heartbeat of the latest cycle arrived (13 R380). -/
def partnerHeard (s : State) : Bool := s.red.partnerHb.isSome && s.red.missPartner == 0
/-- Whether the witness's heartbeat of the latest cycle arrived (13 R380). -/
def witnessHeard (s : State) : Bool := s.red.witnessHb.isSome && s.red.missWitness == 0

/-- A witnessed pair by its number 1–4: the members the manifest names (13 R372). -/
def witnessedPair (s : State) (k : Nat) : Option (Nat × Nat) := if k = 0 then none else s.sys.manifest.witnessed[k - 1]?

/-- Active and standby of a witnessed pair as last seen: first as the manifest names them, then by the ROLE of heartbeats. -/
def pairMembers (s : State) (k : Nat) : Option (Nat × Nat) :=
  (witnessedPair s k).map fun p => if tabGet s.red.pairAct p.1 k = p.2 then (p.2, p.1) else p

/-! ### Heartbeats sent (13 R380) -/

/-- The heartbeat of this release phase to the other two modules of a pair: of its own at 0, of a witnessed one at its number. -/
def heartbeatOut (s : State) (k : Nat) : Heartbeat :=
  let d := s.red
  if k = 0 then
    { member := s.sys.manifest.member, role := roleCode d.role
      hflags := BitVec.ofNat 8 (ofBits [d.failed, selfEligible s, d.target.isSome, d.role == .fenced, partnerHeard s, witnessHeard s])
      cycle := s.time.cycle % 4294967296, ckwin := d.ckWin % 4294967296, jseq := d.jseq
      target := (d.target.getD 0) % 4294967296 }
  else
    { member := s.sys.manifest.member, role := 0x80, hflags := 0, cycle := s.time.cycle % 4294967296
      decl := tabGet d.declared 0 k }

/-- The heartbeats of a release phase (13 R380). -/
def sendHeartbeats (s : State) : State :=
  let own := if paired s then [0] else []
  let wit := (List.range 4).filterMap fun i => if (witnessedPair s (i + 1)).isSome then some (i + 1) else none
  s.onRed fun d => { d with sent := (own ++ wit).map fun k => (k, heartbeatOut s k) }

/-! ### The witness (13 R381) -/

/-- The witness declares the active of a pair failed, when the standby's heartbeat of the latest cycle arrived with the
eligible flag (13 R381). -/
def declare (s : State) (k : Nat) : State :=
  match pairMembers s k with
  | none => s
  | some (a, _) =>
    let hb := tabGet s.red.pairHb {} (2 * k + 1)
    if tabHas s.red.pairHb (2 * k + 1) && tabGet s.red.missPairs 0 (2 * k + 1) == 0 && hb.hflags.getLsbD 1 &&
        tabGet s.red.declared 0 k == 0 then
      redEvent (s.onRed fun d => { d with declared := tabSet d.declared k a, pathSecs := tabSet d.pathSecs k 0 }) 2 a
        ((tabGet s.red.missPairs 0 (2 * k) : Nat) : Int)
    else s

/-- A declaration ends: the new active was heard, or the active's heartbeats resumed (13 R381). -/
def undeclare (s : State) (k : Nat) : State :=
  s.onRed fun d => { d with declared := tabDel d.declared k, pathSecs := tabDel d.pathSecs k }

/-! ### Fencing (13 R382, R384) -/

/-- The led rings are listened to as a member: the module only forwards (13 R384, 03 R107). -/
def forwardOnly (s : State) : State :=
  s.each (List.range 4) fun s r => s.onRing r fun g => if g.state = .leading then listenRing g else g

/-- The fence (13 R384): frames end, outputs go to 0, CAN to MODE 2; a planned hand-over completes TIMEOUT (13 R395). -/
def fence (s : State) (cause : Nat) : State :=
  let s1 := forwardOnly (s.onRed fun d => { d with role := .fenced, fenceDue := none, target := none, request := none })
  let s1 := redEvent (quietCan s1) 8 s.sys.manifest.member cause
  match s.red.request with
  | some r => timedOut s1 r
  | none => s1

/-! ### Checkpoints (13 R376, R379) -/

/-- The axis record of a checkpoint (13 R376). -/
def ckAxis (s : State) (a : Nat) : CkAxis :=
  let x := s.axis a
  { axis := a, state := stateCode x.state, i := x.law.i, df := x.law.df, ePrev := x.law.ePrev, yPrev := x.law.yPrev
    oPrev := x.law.oPrev, hi := x.law.hi, dwell := x.law.dwell, satHi := x.law.satHi, satLo := x.law.satLo
    staleRun := x.staleRun, m1 := x.sup.m1, m2 := x.sup.m2, rf := x.sup.rf, o1 := x.sup.o1, o2 := x.sup.o2
    cnt := [tabGet x.sup.cnt 0 0, tabGet x.sup.cnt 0 1, tabGet x.sup.cnt 0 2], causes := x.sup.causes }

/-- The car record of a checkpoint (13 R376). -/
def ckCar (s : State) (x : CarCtx) : CkCar :=
  let n := x.c.car
  let k := s.car n
  let j := k.journey.getD {}
  { car := n, known := k.known, pPred := k.pPred, rseq := k.rseq, plaus := k.plaus, railBad := k.railBad, railGood := k.railGood
    railRun := k.railRun, noneRun := k.noneRun, railHold := k.railHold, fAvail := k.fAvail, fNow := k.fNow, ledger := k.ledger
    brakeReq := k.brakeReq, braking := k.braking, holding := k.holding
    shares := k.under.map fun g => (g, (tabGet (s.shaft x.h).segs {} g).share)
    state := carStateCode k.state, placed := k.placed, p := k.p, v := k.v, rail := k.rail, src := k.src, i := k.i
    f := k.f, mass := k.mass, refP := k.refP, refV := k.refV, refA := k.refA, ePred := j.ePred, dBase := j.dBase, drawn0 := j.drawn0
    missCnt := k.missCnt }

/-- The shaft record of a checkpoint (13 R376). -/
def ckShaft (s : State) (h : Nat) : CkShaft :=
  let e := (s.shaft h).en
  { shaft := h, drawn := e.drawn, ebms := e.ebms, bmsDrawn := e.bmsDrawn, failDrawn := e.failDrawn, rescue := e.rescue }

/-- The checkpoint of the window of this cycle (13 R376). -/
def checkpointOf (s : State) : CheckpointIn :=
  { window := s.time.cycle, jseq := s.red.jseq, levels := (List.range 8).map (levelOf s)
    safetyCrc := BitVec.ofNat 32 (imageCrc s.safety.core.image)
    axes := (s.loop.axes.filter fun p => p.2.state != .unloaded).map fun p => ckAxis s p.1
    cars := (allCars s).map (ckCar s)
    shafts := ((List.range 8).filter (committedShaft s)).map (ckShaft s) }

/-- Whether every configured axis ring of the module names member modules in its table (13 R373). -/
def memberRings (s : State) : Bool :=
  (List.range 4).all fun r => (s.ring r).cfg.mode != 0 || (s.ring r).cfg.entries.any (·.kind == 4)

/-- The first condition of 13 R379 or R373 that a checkpoint fails, 0 when it is good; that both modules run the same builds, rate
and ring configurations comes with it. -/
def ckFault (s : State) (c : CheckpointIn) : Nat :=
  let d := s.red
  if !c.inTime then 1
  else if !c.crcOk then 2
  else if (match d.goodWin with | some w => c.window != w + 32 | none => false) then 3
  else if d.jseq < c.jseq then 4
  else if !(List.range 32).all (fun i => windowCaptured s (c.window - i)) then 5
  else if c.safetyCrc.toNat != imageCrc s.safety.core.image || s.safety.core.pairCrcDiff || s.safety.scarp.pairCrcDiff ||
      !memberRings s || !c.sameConfig then 6
  else if d.exchLost then 7
  else 0

/-- The levels and sleep states a standby takes from a checkpoint header (13 R387, 16 R439). -/
def takeLevels (s : State) (l : List Nat) : State :=
  let s := s.onPow fun w => { w with level := (List.range 8).map fun b => (b, l.getD b 0), rail := (List.range 8).map fun b => (b, l.getD b 0) }
  s.each (List.range 8) fun s b => setSleep s b 0

/-- A checkpoint is judged (13 R379, R396). -/
def judgeCheckpoint (s : State) (c : CheckpointIn) : State :=
  let self := s.sys.manifest.member
  let k := ckFault s c
  if k = 0 then
    let n := satAdd max32 s.red.goodCk 1
    let s := s.onRed fun d => { d with
      goodCk := n, inelig := 0, ckWin := c.window, goodWin := some c.window, checkpoint := some c, exchLost := false }
    let s := takeLevels s c.levels
    if n = 10000 then redEvent s 4 self n else s
  else
    let was := decide (10000 ≤ s.red.goodCk)
    let s := bump (s.onRed fun d => { d with
      goodCk := 0, inelig := k, badCk := satAdd max32 d.badCk 1, goodWin := none, exchLost := false }) (cMem 10)
    if was then redEvent s 5 self k else s

/-! ### The journal (13 R377, R391) -/

/-- A configuration command of the journal, run by its opcode. -/
def runJournalled (r : Request) (s : State) : State :=
  let go := fun (f : Request → State → Host.Outcome State Fault Refusal) => match f r s with | .next t => t | _ => s
  match r.opcode with
  | 0x1010 => go execAxisDescLoad | 0x1011 => go execAxisCoefWrite | 0x1012 => go execAxisBankSelect
  | 0x1013 => go execAxisTableLoad | 0x1020 => go execAxisEnable | 0x1021 => go execAxisDisable
  | 0x1210 => go execProfileLimitsSet | 0x1211 => go execEnergyReserveSet | 0x1310 => go execShaftConfigLoad
  | 0x1110 => go execTuneInjectStart | 0x1111 => go execTuneInjectStop
  | 0x1430 => go execDoorPolicySet | 0x3010 => go execDioWrite | 0x3011 => go execDioSafeSet
  | 0x3020 => go execPwmConfig | 0x3110 => go execCanConfig | 0x3130 => go execCanWakeSet | 0x4010 => go execRingConfig
  | _ => s

/-- A command of the active applied on the standby: with every right, in the active's role, without a completion. -/
def applyCommand (s : State) (r : Request) : State :=
  let all : Partition := { qrights := BitVec.ofNat 17 131071, arights := BitVec.ofNat 17 131071, supervisor := true, global := true }
  let t := runJournalled { r with queue := journalQueue, part := 0 }
    ((s.onRed fun d => { d with role := .solo }).onHost fun h => { h with parts := tabSet h.parts 0 all })
  { t with host := s.host, red := s.red }

/-- The car state of a code (07 table "Car states"). -/
def carStateOf (n : Nat) : CarState :=
  match n with
  | 1 => .idle | 2 => .preparing | 3 => .weighing | 4 => .moving | 5 => .stopping | 6 => .stopped | 7 => .tripped
  | 8 => .inspection | _ => .outOfService
/-- The door state of a code (08 table "Door states"). -/
def doorStateOf (n : Nat) : DoorState :=
  match n with
  | 1 => .notLearned | 2 => .closed | 3 => .opening | 4 => .opened | 5 => .closing | 6 => .reopening | 7 => .nudging
  | 8 => .held | 9 => .learning | 10 => .fault | _ => .outOfService
/-- The axis state of a code (04 R149). -/
def axisStateOf (n : Nat) : AxisState :=
  match n with | 1 => .disabled | 2 => .enabled | 3 => .holding | 4 => .fault | _ => .unloaded
/-- The call state of a code (09 R259). -/
def callStateOf (n : Nat) : CallState :=
  match n with | 1 => .assigned | 2 => .onBoard | 3 => .completed | 4 => .cancelled | 5 => .abandoned | _ => .unassigned
/-- The kind of journey of a journalled plan (06 R192): 2 normal, 3 reduced, 4 minimum energy, 5 rescue; kind 8 is a plan of the
stop planner (07 R219). -/
def journeyKindOf (n : Nat) : JourneyKind :=
  match n with | 3 => .reduced | 4 => .minEnergy | 5 => .rescue | 6 => .back | 7 => .inspection | _ => .normal

/-- What a journal entry changes on the standby (13 R377, R391). -/
def applyChange (s : State) (c : JournalChange) : State :=
  match c with
  | .none => s
  | .command r => applyCommand s r
  | .plan n kind landing start blend target l =>
    let prof : Profile := { start, blend, target, total := l.foldl (fun t f => t + f.1) 0
                            phases := l.map fun f => { dur := f.1, a0 := f.2.1, a1 := f.2.2.1, v0 := f.2.2.2.1, p0 := f.2.2.2.2 } }
    s.onCar n fun k =>
      if kind = 8 then { k with stopProf := some prof }
      else match k.journey with
        | some j => if j.landing = landing ∧ kind ≠ 2 then { k with journey := some { j with kind := journeyKindOf kind, prof, replanned := true } }
            else { k with journey := some { kind := journeyKindOf kind, landing, first := start, reduced := kind == 3, prof } }
        | none => { k with journey := some { kind := journeyKindOf kind, landing, first := start, reduced := kind == 3, prof } }
  | .carState n st cause => s.onCar n fun k => { k with state := carStateOf st, cause }
  | .doorState d st => s.onDoor d fun t => { t with state := doorStateOf st }
  | .doorMove a target vp ac j blend ns => s.onAxis a fun x => { x with moveNext := x.moveNext ++ [{ target, vp, a := ac, j, blend, ns }] }
  | .call id e =>
    (s.onCall id fun _ => {
      part := e.part, kind := e.kind, shafts := e.shafts, src := e.src, dst := e.dst, only := e.only, pass := e.pass
      access := e.access, client := e.client, state := callStateOf e.state, car := e.car, at_ := e.submittedNs }).onDisp fun d =>
        { d with next := max d.next (id + 1) }
  | .stops n l => setList s n (l.map fun t => { landing := t.landing, park := t.park, dir := t.dir, picks := t.picks, drops := t.drops })

/-- JSEQ advanced over the entries received without a gap. -/
def advanceJseq (l : List Nat) : Nat → Nat → Nat
  | 0, q => q
  | n + 1, q => if l.contains (q + 1) then advanceJseq l n (q + 1) else q

/-! ### Take-over (13 R387, R388, R391) -/

/-- The value of a field after the replay: that of the checkpoint when no window lies between, else free (13 R387, log entry
65). -/
def afterReplay (go : Bool) (k unit field : Nat) (v : Int) : Int := if go then Config.replayed k unit field else v
/-- The same for a count. -/
def natReplay (go : Bool) (k unit field v : Nat) : Nat := if go then (Config.replayed k unit field).toNat else v
/-- The same for a bit. -/
def bitReplay (go : Bool) (k unit field : Nat) (v : Bool) : Bool := if go then Config.replayed k unit field % 2 == 1 else v

/-- An axis takes its checkpoint record, brought up to window L (13 R387). -/
def loadCkAxis (s : State) (k : Nat) (go : Bool) (c : CkAxis) : State :=
  let u := c.axis
  let causes := if go then BitVec.ofInt 19 (Config.replayed k u 11) else c.causes
  s.onAxis u fun x => { x with
    state := axisStateOf (if go then 1 + natReplay go k u 10 0 % 4 else c.state)
    law := { x.law with
      i := sat64 (afterReplay go k u 0 c.i), df := sat32 (afterReplay go k u 1 c.df)
      ePrev := sat32 (afterReplay go k u 2 c.ePrev), yPrev := sat32 (afterReplay go k u 3 c.yPrev)
      oPrev := sat32 (afterReplay go k u 4 c.oPrev), hi := bitReplay go k u 12 c.hi
      dwell := min 65535 (natReplay go k u 13 c.dwell), satHi := bitReplay go k u 14 c.satHi, satLo := bitReplay go k u 15 c.satLo }
    staleRun := min 255 (natReplay go k u 16 c.staleRun)
    sup := { x.sup with
      m1 := sat32 (afterReplay go k u 5 c.m1), m2 := sat32 (afterReplay go k u 6 c.m2)
      rf := sat32 (afterReplay go k u 7 c.rf), o1 := sat32 (afterReplay go k u 8 c.o1)
      o2 := sat32 (afterReplay go k u 9 c.o2), causes
      cnt := (List.range 3).map fun i => (i, natReplay go k u (17 + i) (c.cnt.getD i 0))
      level := levelOfCauses causes } }

/-- A car takes its checkpoint record, brought up to window L (13 R387); with windows between, its state is the one of the
journal. -/
def loadCkCar (s : State) (k : Nat) (go : Bool) (c : CkCar) : State :=
  let u := 1024 + c.car
  let s := s.onCar c.car fun y => { y with
    state := if go then y.state else carStateOf c.state
    placed := bitReplay go k u 8 c.placed, known := bitReplay go k u 9 c.known, src := natReplay go k u 10 c.src % 3
    mass := sat32 (afterReplay go k u 11 c.mass), missCnt := natReplay go k u 12 c.missCnt
    journey := y.journey.map fun j => { j with
      ePred := afterReplay go k u 13 c.ePred, dBase := afterReplay go k u 14 c.dBase, drawn0 := afterReplay go k u 15 c.drawn0 }
    p := sat32 (afterReplay go k u 0 c.p), v := sat32 (afterReplay go k u 1 c.v), rail := sat32 (afterReplay go k u 2 c.rail)
    i := sat32 (afterReplay go k u 3 c.i), f := sat32 (afterReplay go k u 4 c.f), refP := sat32 (afterReplay go k u 5 c.refP)
    refV := sat32 (afterReplay go k u 6 c.refV), refA := sat32 (afterReplay go k u 7 c.refA)
    pPred := sat32 (afterReplay go k u 16 c.pPred), rseq := if go then some (natReplay go k u 17 0 % 65536) else c.rseq
    plaus := natReplay go k u 18 c.plaus, railBad := natReplay go k u 19 c.railBad, railGood := natReplay go k u 20 c.railGood
    railRun := natReplay go k u 21 c.railRun, noneRun := natReplay go k u 22 c.noneRun, railHold := bitReplay go k u 23 c.railHold
    fAvail := afterReplay go k u 24 c.fAvail, fNow := afterReplay go k u 25 c.fNow, ledger := afterReplay go k u 26 c.ledger
    brakeReq := bitReplay go k u 27 c.brakeReq, braking := bitReplay go k u 28 c.braking, holding := bitReplay go k u 29 c.holding
    under := c.shares.map (·.1) }
  match carCtx s c.car with
  | none => s
  | some x => s.onShaft x.h fun t => { t with segs := c.shares.foldl (fun l g =>
      tabMod l {} g.1 fun q => { q with share := afterReplay go k u (32 + g.1) g.2 }) t.segs }

/-- A shaft takes its checkpoint record, brought up to window L (13 R376, R387). -/
def loadCkShaft (s : State) (k : Nat) (go : Bool) (c : CkShaft) : State :=
  let u := 1088 + c.shaft
  s.onShaft c.shaft fun t => { t with en := { t.en with
    drawn := afterReplay go k u 0 c.drawn, ebms := afterReplay go k u 1 c.ebms, bmsDrawn := afterReplay go k u 2 c.bmsDrawn
    failDrawn := afterReplay go k u 3 c.failDrawn, rescue := bitReplay go k u 4 c.rescue } }

/-- The state that the replay leaves is put in force (13 R387, R388). -/
def loadCheckpoint (s : State) (last : Nat) : State :=
  match s.red.checkpoint with
  | none => s
  | some c =>
    let (k, s) := draw s
    let go := decide (c.window < last)
    let s := s.each c.axes fun s x => loadCkAxis s k go x
    let s := s.each c.cars fun s x => loadCkCar s k go x
    s.each c.shafts fun s x => loadCkShaft s k go x

/-- The module originates on every lit ring from this cycle (13 R388): a collect frame on an intact ring, a merged frame on a
healed one, whose nodes are stale in this window; LOOPDLY is FFFFh. -/
def leadAll (s : State) : State :=
  s.each (List.range 4) fun s r =>
    let g := s.ring r
    if g.cfg.mode = 2 ∨ g.state = .off ∨ g.state = .sleeping then s
    else
      let s := s.onRing r fun g => { g with
        state := .leading, leader := g.cfg.member, integrated := true, loopE := 0xFFFF, loopW := 0xFFFF
        service := none, serviceQ := initialService s g.cfg, copies := [], sentE := false, sentW := false
        healCycle := if g.healed then some s.time.cycle else g.healCycle }
      if g.healed then s else sendFrame s r 1

/-! ### Status (13 red.status) -/

/-- red.status of the own pair (13). -/
def redStatusOwn (s : State) : List (Nat × Nat × Int) :=
  let d := s.red
  let m := s.sys.manifest
  let fl := ofBits [standbyEligible s, d.target.isSome, partnerHeard s, witnessHeard s,
    decide (0 < s.safety.core.pairGood) && decide (0 < s.safety.scarp.pairGood), d.confirmed]
  [(16, 1, (roleCode d.role : Int)), (17, 1, fl), (18, 1, d.inelig), (19, 1, min d.lastGap 255), (20, 2, m.member), (22, 2, m.partner),
   (24, 2, m.witness), (28, 4, d.goodCk), (32, 4, d.ckWin % 4294967296), (36, 4, d.jseq), (40, 4, d.switchovers),
   (44, 4, d.swCycle % 4294967296), (48, 4, d.badCk), (52, 4, ((tabGet d.hbMiss 0 0 : Nat) : Int)), (56, 4, s.time.cycle % 4294967296)]

/-- red.status of a witnessed pair (13). -/
def redStatusPair (s : State) (k : Nat) : List (Nat × Nat × Int) :=
  let d := s.red
  let (a, b) := (pairMembers s k).getD (0, 0)
  let ha := tabGet d.pairHb {} (2 * k)
  let hb := tabGet d.pairHb {} (2 * k + 1)
  let heard := fun i => tabHas d.pairHb i && tabGet d.missPairs 0 i == 0
  let fl := ofBits [heard (2 * k + 1) && hb.hflags.getLsbD 1, heard (2 * k) && ha.hflags.getLsbD 2, heard (2 * k), heard (2 * k + 1),
    false, tabGet d.declared 0 k != 0]
  [(16, 1, (0x80 : Int)), (17, 1, fl), (20, 2, s.sys.manifest.member), (22, 2, a), (24, 2, b), (32, 4, ha.ckwin), (36, 4, ha.jseq),
   (52, 4, ((tabGet d.hbMiss 0 k : Nat) : Int)), (56, 4, s.time.cycle % 4294967296)]

/-- red.status of every SELECT that names a pair, at the release phase (13 red.status). -/
def redSnap (s : State) : State :=
  s.onRed fun d => { d with snap := (0, redStatusOwn s) :: ((List.range 4).filterMap fun i =>
    if (witnessedPair s (i + 1)).isSome then some (i + 1, redStatusPair s (i + 1)) else none) }

end Sys2Proof.Machine
end

