-- ==== Sys2Proof/Machine/Redundancy.lean ====
section
/-! DEFINITION. The commands of redundancy (13): status, role requests, heartbeats, checkpoints, journal, take-over and
hand-over. -/
namespace Sys2Proof.Machine

/-- RED_STATUS (13 R372 red.status): the own or a witnessed pair, at the most recent release phase. -/
def execRedStatus (r : Request) (s : State) : Host.Outcome State Fault Refusal :=
  let k := rq r 16 1
  .next (serve s r 0x5001 true
    (firstBad [(16, k == 0 || (decide (k ≤ 4) && (witnessedPair s k).isSome))]) [] fun r s =>
      ok s r (if tabHas s.red.snap k then tabGet s.red.snap [] k else if k = 0 then redStatusOwn s else redStatusPair s k))

/-- The target cycle of a planned hand-over for a request: 64 to 32,000 cycles ahead, the earliest for 0 (13 red.role.request). -/
def handoverAhead (s : State) (target : Nat) : Nat :=
  if target = 0 then 64 else clampN 64 32000 ((target + 4294967296 - s.time.cycle % 4294967296) % 4294967296)

/-- Whether a planned hand-over may begin (13 R395). -/
def mayHandOver (s : State) : Bool :=
  s.red.role == .active && partnerFlag s 1 && witnessHeard s && s.red.target.isNone &&
  (List.range 4).all (fun r => !(s.ring r).healed && (s.ring r).closeAt.isNone) &&
  s.safety.core.modTrip.isEmpty && s.safety.scarp.modTrip.isEmpty

/-- Whether neither a heartbeat nor a frame of the partner has come for 1 s (13 R395). -/
def partnerSilent (s : State) : Bool :=
  let old := fun (c : Option Nat) => match c with | some c => decide (c + cyclesPerS s.sys.rate ≤ s.time.cycle) | none => true
  old s.red.partnerSeen && old (s.red.partnerFrame.map (·.1))

/-- A car as a commit leaves it (13 R395, 07 R227): out of service until R222 resumes it. -/
def coldCar (c : CarCfg) : CarSt := { state := .outOfService, mass := c.mass0 + c.payload / 2 }

/-- ACTION 3 (13 R395): every ring starts cold under R91, every axis is DISABLED, the module is ACTIVE. -/
def startAsActive (s : State) : State :=
  let s := s.each (s.loop.axes.map (·.1)) fun s a => if (s.axis a).state = .unloaded then s else disableAxis s a
  let s := s.each (allCars s) fun s x => s.onCar x.c.car fun _ => coldCar x.c
  let s := s.each (List.range 4) fun s r => s.onRing r fun g =>
    if g.cfg.mode = 2 ∨ g.state = .off ∨ g.state = .sleeping then g else listenRing g
  wakeCan (s.onRed fun d => { d with role := .active, failed := false, fenceDue := none, confirmed := false, speculative := false })

/-- The role a module takes when it leaves FENCED or WITHDRAWN (13 R394): STANDBY when its partner leads. -/
def rejoinRole (s : State) : State :=
  let leads := (match s.red.partnerFrame with | some (c, _) => decide (s.time.cycle ≤ c + 2) | none => false) ||
    (partnerHeard s && (match s.red.partnerHb with | some h => h.role == 1 | none => false))
  let s := s.onRed fun d => { d with role := .undecided, failed := false, fenceDue := none }
  if leads then becomeStandby s true else wakeCan s

/-- RED_ROLE_REQUEST (13 R372, R393 to R395). -/
def execRedRoleRequest (r : Request) (s : State) : Host.Outcome State Fault Refusal :=
  let action := rq r 16 1
  let target := rq r 20 4
  let ahead := handoverAhead s target
  .next (serve s r 0x5010 (paired s) (firstBad [(16, decide (action ≤ 3))])
    (if action = 0 ∧ target ≠ 0 ∧ (target + 4294967296 - s.time.cycle % 4294967296) % 4294967296 ≠ ahead then [20] else []) fun r s =>
      let done := fun (s : State) => ok s r [(17, 1, (roleCode s.red.role : Int))]
      match action with
      | 0 => if mayHandOver s then s.onRed fun d => { d with target := some (s.time.cycle + ahead), request := some r } else refused s r
      | 1 => if s.red.role = .standby then done (s.onRed fun d => { d with role := .withdrawn, goodCk := 0, speculative := false })
             else refused s r
      | 2 => if s.red.role = .fenced ∨ s.red.role = .withdrawn then done (rejoinRole s) else refused s r
      | _ => if (s.red.role = .standby ∨ s.red.role = .fenced ∨ s.red.role = .withdrawn) ∧ partnerSilent s then done (startAsActive s)
             else refused s r)

/-- A speculative take-over begins (13 R387): the latest good checkpoint is loaded and the windows up to the last captured one
are replayed. -/
def speculate (s : State) : State :=
  if s.red.checkpoint.isNone then s
  else
    let base := s.red.goodWin.getD s.red.ckWin
    s.onRed fun d => { d with speculative := true, replayed := false, lastWindow := max base (min (lastCaptured s base) (s.time.cycle - 1)) }

/-- A heartbeat of the partner is missed (13 R381, R386, R387): a standby that misses the first begins a speculative
take-over; an active that misses two reports its partner lost. -/
def missPartner (s : State) : State :=
  let n := s.red.missPartner + 1
  let s := bump (s.onRed fun d => { d with missPartner := n, hbMiss := tabMod d.hbMiss 0 0 fun v => satAdd max32 v 1 }) (cMem 11)
  if s.red.role = .standby ∧ n = 1 then speculate s
  else if s.red.role = .active ∧ n = 2 then redEvent s 7 s.sys.manifest.partner 0 else s

/-- HEARTBEAT_MISS (13 R380, R381, R386, R387): a heartbeat has not arrived by the window-open moment of the next cycle. -/
def execHeartbeatMiss (sender : HbFrom) (s : State) : Host.Outcome State Fault Refusal :=
  .next (match sender with
    | .partner => if paired s then missPartner s else s
    | .witness =>
      if paired s && s.sys.manifest.witness != 0 then
        let n := s.red.missWitness + 1
        let s := s.onRed fun d => { d with missWitness := n }
        if n = 2 then redEvent s 6 s.sys.manifest.witness 0 else s
      else s
    | .pairActive k =>
      if (witnessedPair s k).isSome then
        let n := tabGet s.red.missPairs 0 (2 * k) + 1
        let s := s.onRed fun d => { d with
          missPairs := tabSet d.missPairs (2 * k) n, hbMiss := tabMod d.hbMiss 0 k fun v => satAdd max32 v 1 }
        if 2 ≤ n then declare s k else s
      else s
    | .pairStandby k =>
      if (witnessedPair s k).isSome then s.onRed fun d => { d with missPairs := tabMod d.missPairs 0 (2 * k + 1) (· + 1) } else s)

/-- A heartbeat of the partner is taken (13 R380, R387, R393, R394). -/
def takePartner (s : State) (h : Heartbeat) : State :=
  let s := s.onRed fun d => { d with
    partnerSeen := some s.time.cycle, missPartner := 0, partnerHb := some h
    speculative := d.speculative && d.confirmed
    target := if d.role = .standby then
        (if h.hflags.getLsbD 2 && h.target != 0 then
          some (s.time.cycle + (h.target + 4294967296 - s.time.cycle % 4294967296) % 4294967296) else none)
      else d.target }
  if s.red.role = .undecided ∧ h.role = 1 then becomeStandby s true else s

/-- A standby acts on a declaration (13 R383, R387): after a heartbeat with FAILED, none of which was missed, the replay begins
here. -/
def confirmFailed (s : State) : State :=
  (if s.red.speculative then s else speculate s).onRed fun d => { d with confirmed := true }

/-- A heartbeat of the witness is taken, with the declaration it may carry (13 R383, R384, R396). -/
def takeWitness (s : State) (h : Heartbeat) : State :=
  let m := s.sys.manifest
  let s := s.onRed fun d => { d with
    witnessSeen := some s.time.cycle, missWitness := 0, witnessHb := some h, declRefused := d.declRefused && h.decl != 0 }
  if h.decl = 0 then s
  else if h.decl = m.member then
    if s.red.role = .active then s.onRed fun d => { d with fenceDue := if d.fenceDue = none then some 2 else d.fenceDue } else s
  else if h.decl = m.partner ∧ s.red.role = .standby then
    match s.red.partnerFrame with
    | some (c, ring) =>
      if s.time.cycle ≤ c + 2 then
        if s.red.declRefused then s else redEvent (s.onRed fun d => { d with declRefused := true }) 3 m.partner ring
      else confirmFailed s
    | none => confirmFailed s
  else s

/-- A heartbeat of a module of a witnessed pair is taken (13 R381). -/
def takePair (s : State) (h : Heartbeat) (k : Nat) : State :=
  match pairMembers s k with
  | none => s
  | some (a, b) =>
    if h.member = a then
      let s := s.onRed fun d => { d with pairHb := tabSet d.pairHb (2 * k) h, missPairs := tabSet d.missPairs (2 * k) 0 }
      if h.hflags.getLsbD 0 then declare s k else undeclare s k
    else if h.role = 1 ∨ h.role = 5 then
      let s := s.onRed fun d => { d with
        pairAct := tabSet d.pairAct k b, pairHb := tabSet (tabDel d.pairHb (2 * k + 1)) (2 * k) h
        missPairs := tabSet (tabSet d.missPairs (2 * k) 0) (2 * k + 1) 0 }
      undeclare s k
    else s.onRed fun d => { d with pairHb := tabSet d.pairHb (2 * k + 1) h, missPairs := tabSet d.missPairs (2 * k + 1) 0 }

/-- HEARTBEAT_RX (13 R380, R381, R383, R384, R394). -/
def heartbeatIn (s : State) (h : Heartbeat) : State :=
  let m := s.sys.manifest
  if !h.crcOk then s
  else if paired s && h.member == m.partner then takePartner s h
  else if paired s && h.member == m.witness then takeWitness s h
  else s.each [1, 2, 3, 4] fun s k =>
    match witnessedPair s k with
    | some (a, b) => if h.member = a ∨ h.member = b then takePair s h k else s
    | none => s

/-- HEARTBEAT_RX (13 R380): a heartbeat from the partner, the witness or a module of a witnessed pair. -/
def execHeartbeatRx (h : Heartbeat) (s : State) : Host.Outcome State Fault Refusal := .next (heartbeatIn s h)

/-- FAILED_SET (13 R382, R384): the summit core of an active sets FAILED, whatever the cause. -/
def execFailedSet (cause : FailCause) (s : State) : Host.Outcome State Fault Refusal :=
  .next (match cause with
    | .stakeWatchdog => setFailed s
    | .stoppedWeaver => setFailed s
    | .ringFault => setFailed s
    | .eccError => setFailed (bump s (cMem 9)))

/-- REPLAY_COMPLETE (13 R387): the standby has replayed the windows up to the last complete capture. -/
def execReplayComplete (s : State) : Host.Outcome State Fault Refusal :=
  .next (if s.red.role = .standby ∧ s.red.speculative then s.onRed fun d => { d with replayed := true } else s)

/-- TAKEOVER_CYCLE (13 R388, R389, R391): the first instant after declaration and replay; the standby originates on every ring. -/
def execTakeoverCycle (s : State) : Host.Outcome State Fault Refusal :=
  .next (if s.red.role = .standby ∧ s.red.speculative ∧ s.red.replayed ∧ s.red.confirmed then
      let t := s.time.cycle
      let s := leadAll (loadCheckpoint s s.red.lastWindow)
      wakeCan (s.onRed fun d => { d with
        role := .takingOver, speculative := false, replayed := false, confirmed := false, goodCk := 0, target := none
        switchovers := satAdd max32 d.switchovers 1, swCycle := t, lastGap := t - d.lastWindow }) |> fun s => bump s (cMem 12)
    else s)

/-- The instant after a take-over cycle (13 R388): the module is ACTIVE, event 01h with the gap. -/
def finishTakeover (s : State) : State :=
  if s.red.role = .takingOver ∧ s.red.swCycle < s.time.cycle then
    redEvent (s.onRed fun d => { d with role := .active }) 1 s.sys.manifest.partner s.red.lastGap
  else s

/-- HEARTBEAT_PATH_FAULT (13 R386): event 0Ah once a second while the declaration stands without a take-over. -/
def execHeartbeatPathFault (pair : Nat) (s : State) : Host.Outcome State Fault Refusal :=
  .next (match pairMembers s pair with
    | none => s
    | some (a, _) =>
      if tabGet s.red.declared 0 pair = 0 then s
      else
        let n := tabGet s.red.pathSecs 0 pair + 1
        redEvent (s.onRed fun d => { d with pathSecs := tabSet d.pathSecs pair n }) 0x0A a n)

/-- CHECKPOINT_TAKE (13 R376, R393): at the release phase of every 32nd window, and of the second window before a hand-over. -/
def execCheckpointTake (s : State) : Host.Outcome State Fault Refusal :=
  .next (if s.red.role = .active ∧ (s.time.cycle % 32 = 0 ∨ s.red.target = some (s.time.cycle + 2)) then
      let c := checkpointOf s
      s.onRed fun d => { d with ckWin := s.time.cycle, ckOut := some c }
    else s)

/-- CHECKPOINT_RX (13 R379, R387, R393): a checkpoint is judged by a standby that is not copying; that of the second window
before a hand-over is held besides. -/
def execCheckpointRx (c : CheckpointIn) (s : State) : Host.Outcome State Fault Refusal :=
  .next (if s.red.role ≠ .standby ∨ s.red.joining then s
    else if s.red.target = some (c.window + 2) ∧ c.window % 32 ≠ 0 then
      if c.inTime ∧ c.crcOk then s.onRed fun d => { d with ckWin := c.window, checkpoint := some c } else s
    else judgeCheckpoint s c)

/-- JOURNAL_ENTRY_RX (13 R377): the change is applied and the entry counted; JSEQ follows the entries held without a gap. -/
def execJournalEntryRx (jseq : Nat) (change : JournalChange) (s : State) : Host.Outcome State Fault Refusal :=
  .next (if s.red.role ≠ .standby ∨ s.red.journal.contains jseq ∨ jseq ≤ s.red.jseq then s
    else (applyChange s change).onRed fun d =>
      let l := jseq :: d.journal
      let q := advanceJseq l l.length d.jseq
      { d with jseq := q, journal := l.filter fun e => decide (q < e) })

/-- HANDOVER_TARGET (13 R386, R393, R395, R396): at the target cycle the standby leads and the former active forwards; a standby
that has missed the active's latest heartbeat abandons the hand-over. -/
def execHandoverTarget (s : State) : Host.Outcome State Fault Refusal :=
  let t := s.time.cycle
  .next (if s.red.target ≠ some t then s
    else if s.red.role = .active then
      let q := s.red.request
      let s := s.onRed fun d => { d with target := none, request := none }
      let s := redEvent (becomeStandby (forwardOnly s) false) 9 s.sys.manifest.partner ((t % 4294967296 : Nat) : Int)
      match q with
      | some r => ok s r [(17, 1, (2 : Int)), (20, 4, ((t % 4294967296 : Nat) : Int))] (t % 4294967296)
      | none => s
    else if s.red.role = .standby ∧ s.red.missPartner ≠ 0 then s.onRed fun d => { d with target := none }
    else if s.red.role = .standby then
      let s := leadAll (loadCheckpoint s (t - 1))
      let s := wakeCan (s.onRed fun d => { d with role := .active, target := none, goodCk := 0, speculative := false })
      redEvent s 9 s.sys.manifest.member ((t % 4294967296 : Nat) : Int)
    else s)

/-- REJOIN_COPY_DONE (13 R394): configuration and journal state are copied; good checkpoints count from here. -/
def execRejoinCopyDone (s : State) : Host.Outcome State Fault Refusal :=
  .next (if s.red.role = .standby ∧ s.red.joining then
      s.onRed fun d => { d with
        joining := false, goodCk := 0, goodWin := none, journal := []
        jseq := match d.partnerHb with | some h => h.jseq | none => d.jseq }
    else s)

end Sys2Proof.Machine
end

