-- ==== Sys2Proof/Machine/MultiOps.lean ====
section
/-! DEFINITION. Operations between modules (14): system time and its references, leap seconds, side links, trunk records,
zone records and safe data. -/
namespace Sys2Proof.Machine

/-- A counter of R421 of a trunk ring or side link (14 R421, 19 R502). -/
def bumpPath (s : State) (src : TimeSrc) (k : Nat) : State :=
  match src with
  | .ring r => bump s (cRing r (19 + k))
  | .side n => bump s (cSide n k)
  | _ => s

/-- A record of source "system time" (17 R460, 14 R421, R549). -/
def timeRecord (s : State) (code subject : Nat) (value : Int) : State := recordOnly s 0x0E code subject value

/-- The time changes: a new reference, TSTATE or master writes its record, a new reference is counted (14 R421). -/
def setTime (s : State) (f : TimeSt → TimeSt) : State :=
  let old := s.time
  let s := s.onTime f
  let t := s.time
  let s := if old.src ≠ t.src ∨ old.srcMember ≠ t.srcMember then bumpPath (timeRecord s 1 t.srcMember t.srcMember) t.src 4 else s
  let s := if old.tstate ≠ t.tstate then timeRecord s 2 t.tstate t.tstate else s
  if old.master ≠ t.master then timeRecord s 3 t.master t.master else s

/-! ### Leap seconds (14 R549) -/

/-- TAI − UTC in force at a calendar time: the entry of the latest time not after it (14 R549). -/
def utcAt (l : List Leap) (now : Nat) (dflt : Int) : Int :=
  match (l.filter fun e => decide (e.fromNs ≤ now)).foldl (fun (b : Option Leap) e =>
      match b with | some x => if x.fromNs < e.fromNs then some e else b | none => some e) none with
  | some e => e.value
  | none => dflt

/-- A value is added to the leap-second table, kept in NOR, and recorded (14 R549). -/
def addLeap (s : State) (e : Leap) : State :=
  if s.time.leaps.contains e then s
  else
    let s := s.onTime fun t =>
      let l := (e :: t.leaps).take 64
      { t with leaps := l, utcOff := utcAt l t.now t.utcOff }
    timeRecord s 4 ((e.value % 65536).toNat) e.value

/-- A value of TAI − UTC is learned: one that differs from the value in force is added from now on (14 R549). -/
def learnUtc (s : State) (v : Int) : State := if v = s.time.utcOff then s else addLeap s { value := v, fromNs := s.time.now }

/-! ### References (14 R406 to R409) -/

/-- Whether a source still counts: its path stands and its DEPTH leaves room for a hop (14 R409). -/
def sourceOk (s : State) (h : TimeHeard) : Bool :=
  decide (h.body.depth ≤ 14) && decide (s.time.cycle ≤ h.cycle + 32) &&
  (match h.src with
   | .ring r => (s.ring r).cfg.mode == 1 && ringLive (s.ring r)
   | .side n => (s.link n).up
   | _ => false)

/-- Whether a source is preferred: lowest DEPTH, then one naming the manifest master, then the lowest member (14 R409). -/
def sourceBefore (s : State) (a b : TimeHeard) : Bool :=
  let key := fun (h : TimeHeard) => (h.body.depth, (b2n (h.body.master != s.sys.manifest.master), h.member))
  let (da, oa, ma) := key a
  let (db, ob, mb) := key b
  decide (da < db) || (da == db && (decide (oa < ob) || (oa == ob && decide (ma < mb))))

/-- The best source held (14 R409). -/
def bestSource (s : State) : Option TimeHeard :=
  (s.time.heard.filter (sourceOk s)).foldl (fun b h => match b with | some x => if sourceBefore s h x then some h else b | none => some h) none

/-- The reference's instant less the own, in half clocks of 1.28 ns (14 R400, R408, R409): a leader of a trunk ring from OFFSET, a
member from the ring's instant as it derives it (03 R88), a side link from its phase. -/
def refOffset (s : State) (h : TimeHeard) : Option Int :=
  match h.src with
  | .ring r => if (s.ring r).state = .leading then some (-2 * h.body.offset) else (s.ring r).phase.map (· / 64)
  | .side n => if (s.link n).valid then some (- (s.link n).phase2) else none
  | _ => none

/-- A module follows a source (14 R407, R408, R409): depth, master and TSTATE follow it; without a live axis an offset of more
than 1 µs or another numbering is corrected in one cycle, otherwise the time base is trimmed. -/
def followSource (s : State) (h : TimeHeard) : State :=
  let cyc := cycleNs s.sys.rate
  let agree := s.time.cycle == h.body.ncycle || s.time.cycle == h.body.ncycle + 1
  let (k, s) := draw s
  let off2 := refOffset s h
  let ns := match off2 with | some o => roundDiv (o * 64) 100 | none => sat32 (Config.timeOffset k)
  let far := match off2 with | some o => decide (156250 < iabs (o * 100)) | none => false
  let free := !anyLive s
  let jump := free && (!agree || far)
  let clocks := match off2 with | some o => (if iabs o ≤ 2 then 0 else o / 2) | none => 0
  let s := setTime s fun t => { t with
    src := h.src, srcMember := h.member, master := h.body.master, depth := h.body.depth + 1
    tstate := if agree then 2 else 1, offset := ns, err := if jump then 0 else clocks
    next := if jump && !agree then some ((h.body.ncycle + 2) * cyc) else t.next }
  let s := if jump then bumpPath s h.src 5 else s
  learnUtc s h.body.utcoff

/-- A module without a source runs free on its own oscillator, keeping its numbering (14 R409). -/
def freeRun (s : State) : State :=
  setTime s fun t => { t with src := .none, srcMember := 0, master := 0, depth := 0xFF, tstate := 0, err := 0 }

/-- The module acts as time master: on PTP when it has it, else on its RTC (14 R406, R411). -/
def actMaster (s : State) : State :=
  setTime s fun t => { t with
    isMaster := true, src := .self, srcMember := 0, master := s.sys.manifest.member, depth := 0, tstate := if t.ptp then 3 else 4, err := 0 }

/-- The reference is chosen anew (14 R406, R409). -/
def chooseSource (s : State) : State :=
  match bestSource s with
  | some h => followSource s h
  | none => if s.sys.manifest.master = s.sys.manifest.member then actMaster s else freeRun s

/-- A TIME record is taken (14 R406, R408, R409). A returned master follows the backup that acts. -/
def timeIn (s : State) (src : TimeSrc) (member : Nat) (b : TimeRec) : State :=
  let m := s.sys.manifest
  let h : TimeHeard := { src, member, body := b, cycle := s.time.cycle }
  let s := s.onTime fun t => { t with heard := h :: t.heard.filter fun x => x.src != src || x.member != member }
  if s.time.isMaster then
    if m.master = m.member ∧ b.tflags.getLsbD 2 ∧ b.master = m.backup ∧ m.backup ≠ m.member then
      chooseSource (s.onTime fun t => { t with isMaster := false })
    else s
  else chooseSource s

/-- The TIME record that this module writes on a ring or side link, when its reference lies elsewhere (14 R408). -/
def timeOut (s : State) (path : TimeSrc) : Option TimeRec × State :=
  let t := s.time
  if t.src = .none ∨ t.src = path then (none, s)
  else
    let relay := match t.heard.find? fun h => h.src == t.src && h.member == t.srcMember with | some h => h.body.tflags.toNat % 8 | none => 0
    let own := if t.isMaster then ofBits [t.tstate == 3, t.tstate == 4, s.sys.manifest.master != s.sys.manifest.member] else relay
    let (k, s') := draw s
    let (off, s) := match path with
      | .ring r => if (s.ring r).state = .leading then ((0 : Int), s)
        else match (s.ring r).phase with
          | some p => (roundDiv p 128, s)
          | none => (sat32 (Config.timeOffset k), s')
      | _ => (0, s)
    (some { ncycle := t.cycle, master := t.master, depth := t.depth, tflags := BitVec.ofNat 8 (own + 8 * b2n (decide (2 ≤ t.tstate)))
            offset := off, utcoff := t.utcOff }, s)

/-! ### Zones (14 R412 to R416) -/

/-- The instant of another member of a trunk ring less the own, in clocks, from the OFFSET of its TIME record on that ring and the
own derivation of the ring's instant (03 R88, 14 R408); none while it writes no TIME record there. -/
def memberOffset (s : State) (r member : Nat) : Option Int :=
  match s.time.heard.find? fun h => h.src == .ring r && h.member == member with
  | none => none
  | some h =>
    if (s.ring r).state = .leading then some (-h.body.offset) else (s.ring r).phase.map fun p => roundDiv p 128 - h.body.offset

/-- Whether zone records are exchanged with a member over a path: both synchronised, instants at most 250 ns apart as far as they
are known (14 R415). -/
def zoneOpen (s : State) (src : TimeSrc) (member : Nat) : Bool :=
  decide (2 ≤ s.time.tstate) &&
  (match s.time.heard.find? fun h => h.member == member with | some h => h.body.tflags.getLsbD 3 | none => true) &&
  (match src with
   | .side n => (s.link n).valid && decide (iabs (s.link n).phase2 * 64 ≤ 25000)
   | .ring r => (match memberOffset s r member with | some d => decide (iabs d * 128 ≤ 25000) | none => true)
   | _ => true)

/-- The zone shaft that a ZONE-DOWN of a home member means: by its own number, or by the home's shaft number (DESIGN CHOICE 33). -/
def zoneShaftOf (s : State) (member shaft : Nat) : Option Nat :=
  let l := s.sys.manifest.zoneShafts
  if (tabGet l (0, 0) shaft).1 = member ∧ tabHas l shaft then some shaft
  else (l.find? fun e => e.2 == (member, shaft)).map (·.1)

/-- The home shaft and partner that a ZONE-UP of a member means (DESIGN CHOICE 33). -/
def zonePartnerOf (s : State) (member shaft : Nat) : Option Nat :=
  let l := (s.sys.manifest.zonePartners.filter fun e => e.2 == member).map (·.1)
  match l.find? fun k => k / 8 == shaft with
  | some k => some k
  | none => l.head?

/-- A ZONE-DOWN record gives zone axes their share records (14 R413, R415). -/
def zoneDownIn (s : State) (src : TimeSrc) (member shaft part : Nat) (entries : List ZoneDownEntry) : State :=
  match zoneShaftOf s member shaft with
  | none => s
  | some z =>
    if !zoneOpen s src member then bumpPath s src 0
    else
      let s := if part = 0 then s.onMulti fun m => { m with
          wasNamed := tabSet m.wasNamed z (tabGet m.named [] z), named := tabSet m.named z [], upFlag := tabDel m.upFlag z } else s
      s.each entries fun s e =>
        let s := s.onAxis e.axis fun x => { x with
          shareNext := { force := e.force, angle := e.angle.toNat, pos := e.tabPos, vel := e.vel } }
        s.onMulti fun m => { m with
          downMiss := tabDel m.downMiss e.axis, named := tabMod m.named [] z fun l => if l.contains e.axis then l else l ++ [e.axis] }

/-- A zone partner of the home module changed. -/
def onZoneUp (s : State) (k : Nat) (f : ZoneUpSt → ZoneUpSt) : State :=
  s.onMulti fun m => { m with zoneUp := tabMod m.zoneUp {} k f }

/-- A ZONE-UP record gives the home module axis states and Hall blocks (14 R413, R415, R416). -/
def zoneUpIn (s : State) (src : TimeSrc) (member shaft : Nat) (flag : Bool) (part : Nat) (axes : List ZoneUpAxis)
    (halls : List (Nat × BitVec 64)) : State :=
  let s := if flag then bumpPath s src 1 else s
  match zonePartnerOf s member shaft with
  | none => s
  | some k =>
    if !zoneOpen s src member then onZoneUp (bumpPath s src 0) k fun z => { z with missing := true }
    else onZoneUp s k fun z =>
      let z := if part = 0 then { z with axes := [], halls := [], bad := if flag then z.bad + 1 else 0, src } else z
      { z with axes := z.axes ++ axes, halls := z.halls ++ halls, missing := if flag then z.missing || decide (2 ≤ z.bad) else false }

/-- A list cut into parts of `n`, at least one part. -/
def partsOf {α : Type} (n : Nat) (l : List α) : List (List α) :=
  (List.range (max 1 (ceilDiv l.length n))).map fun i => (l.drop (n * i)).take n

/-- The ZONE-DOWN records of a cycle to one partner (14 R413, R414): the remote segments under cars, in ascending axis number. -/
def zoneDownOut (s : State) (k member : Nat) : List TrunkRec :=
  let h := k / 8
  let n := k % 8
  match (s.shaft h).cfg with
  | none => []
  | some cfg =>
    let l := (s.shaft h).segs.filterMap fun e =>
      let ax := (tabGet cfg.segs {} e.1).axis
      if isRemote ax ∧ (remoteOf ax).1 = n ∧ e.2.car ≠ 0xFF then
        some ({ axis := (remoteOf ax).2, force := e.2.share, angle := BitVec.ofNat 32 e.2.angle, tabPos := e.2.pos
                vel := e.2.vel } : ZoneDownEntry)
      else none
    let l := (l.foldl (fun t e => tabSet t e.axis e) ([] : Tab ZoneDownEntry)).map (·.2)
    let ps := partsOf 12 l
    (List.range ps.length).map fun i => { dest := member, body := .zoneDown h i (ps.length - 1) (ps.getD i []) }

/-- The ZONE-UP records of a cycle to the home of a zone shaft (14 R413, R414, R416): the axes named and those released, and the
Hall blocks of their nodes. -/
def zoneUpOut (s : State) (z home : Nat) : List TrunkRec :=
  let named := tabGet s.multi.named [] z
  let gone := (tabGet s.multi.wasNamed [] z).filter fun a => !named.contains a
  let axes := ((named ++ gone).foldl (fun t a => tabSet t a a) ([] : Tab Nat)).map (·.2)
  let up : List (ZoneUpAxis ⊕ (Nat × BitVec 64)) := axes.map fun a =>
    let (role, r, ilim) := localRole s a
    .inl { axis := a, role, temp := r.temp, ilimEff := ilim, astat := r.astat }
  let nodes := (named.filterMap fun a => axisNode s a).foldl (fun t e => tabSet t (e.1 * 256 + e.2.1) (e.1, e.2.1)) ([] : Tab (Nat × Nat))
  let hl : List (ZoneUpAxis ⊕ (Nat × BitVec 64)) := nodes.map fun e =>
    .inr (((s.ring e.2.1).cfg.entries.getD e.2.2 {}).first, (nodeOf s e.2.1 e.2.2).blocks.getD 0 0)
  let ps := partsOf 20 (up ++ hl)
  (List.range ps.length).map fun i =>
    let p := ps.getD i []
    { dest := home
      body := .zoneUp z (tabGet s.multi.upFlag false z) i (ps.length - 1)
        (p.filterMap fun e => match e with | .inl x => some x | .inr _ => none)
        (p.filterMap fun e => match e with | .inr x => some x | .inl _ => none) }

/-- The zone records of a cycle, none while not synchronised (14 R413, R415). -/
def zoneRecords (s : State) : List TrunkRec :=
  if s.time.tstate < 2 then []
  else (s.sys.manifest.zonePartners.flatMap fun e => zoneDownOut s e.1 e.2) ++
    s.sys.manifest.zoneShafts.flatMap fun e => zoneUpOut s e.1 e.2.1

/-! ### Records received and sent (14 R399, R402, R403, R418, R419) -/

/-- A SAFE record reaches both channels as a frame of a trunk safe link whose stream has its ring (14 R419). -/
def safeIn (s : State) (r tsl : Nat) (b : Bool) (frame : List Byte) : State :=
  let s := bumpPath s (.ring r) 3
  s.each [Chan.core, Chan.scarp] fun s c =>
    let k := tabGet (s.chan c).cfg.links {} (8 + tsl)
    if tabHas (s.chan c).cfg.links (8 + tsl) ∧ (if b then k.rings.2 else k.rings.1) = r then safeFrame s c (8 + tsl) b frame else s

/-- A record of a trunk slot or side-link record frame is delivered, unless it is addressed elsewhere or unknown (14 R403). -/
def takeRecord (src : TimeSrc) (member : Nat) (s : State) (t : TrunkRec) : State :=
  if t.dest ≠ 0xFFFF ∧ t.dest ≠ s.sys.manifest.member then s
  else match t.body with
    | .time b => timeIn s src member b
    | .heartbeat h => heartbeatIn s h
    | .safe tsl b frame => match src with | .ring r => safeIn s r tsl b frame | _ => s
    | .zoneDown shaft part _ l => zoneDownIn s src member shaft part l
    | .zoneUp shaft flag part _ axes halls => zoneUpIn s src member shaft flag part axes halls
    | .linkTime v => match src with
      | .side n => s.onLink n fun l => { l with valid := true, phase2 := v - l.m, delay2 := v + l.m }
      | _ => s
    | .unknown _ => s

/-- The heartbeats of this release phase, each to the other two modules of its pair (13 R380). -/
def heartbeatRecords (s : State) : List TrunkRec :=
  s.red.sent.flatMap fun e =>
    let dests := if e.1 = 0 then [s.sys.manifest.partner, s.sys.manifest.witness]
      else match witnessedPair s e.1 with | some (a, b) => [a, b] | none => []
    (dests.filter (· != 0)).map fun m => { dest := m, body := .heartbeat e.2 }

/-- The records of one path, with the TIME record when one is due. -/
def pathRecords (s : State) (path : TimeSrc) (own : List TrunkRec) (common : List TrunkRec) : List TrunkRec × State :=
  let (t, s) := timeOut s path
  ((match t with | some b => [{ dest := 0xFFFF, body := .time b }] | none => []) ++ common ++ own, s)

/-- Bytes of a record with its header (14 R403, R408, R413). -/
def recBytes : RecBody → Nat
  | .time _ => 20 | .heartbeat _ => 36 | .linkTime _ => 8 | .unknown _ => 4
  | .safe _ _ f => 8 + ceilDiv f.length 4 * 4
  | .zoneDown _ _ _ l => 8 + 20 * l.length
  | .zoneUp _ _ _ _ a h => 8 + 12 * (a.length + h.length)

/-- Whether a record is a zone record (14 R413). -/
def isZoneRec : RecBody → Bool
  | .zoneDown _ _ _ _ => true | .zoneUp _ _ _ _ _ _ => true | _ => false

/-- The records that fit a space, and how many parts of zone records do not (14 R414): every other record goes first. -/
def fitRecords (room : Nat) (l : List TrunkRec) : List TrunkRec × Nat :=
  let rest := l.filter fun t => !isZoneRec t.body
  let used := rest.foldl (fun n t => n + recBytes t.body) 0
  let (kept, _, out) := (l.filter fun t => isZoneRec t.body).foldl (fun (k : List TrunkRec × Nat × Nat) t =>
    if k.2.1 + recBytes t.body ≤ room then (k.1 ++ [t], k.2.1 + recBytes t.body, k.2.2) else (k.1, k.2.1, k.2.2 + 1)) ([], used, 0)
  (rest ++ kept, out)

/-- A record as bytes: TYPE, WORDS, DEST and its body (14 R403, R408, R413, 13 R380). -/
def recordBytes (t : TrunkRec) : List Byte :=
  let (type, body) : Nat × List Byte := match t.body with
    | .time b => (1, leBytes 8 b.ncycle ++ leBytes 2 b.master ++ leBytes 1 b.depth ++ leBytes 1 b.tflags.toNat ++ intBytes 2 b.offset ++
        intBytes 2 b.utcoff)
    | .heartbeat h => (2, sealed (leBytes 2 h.member ++ leBytes 1 h.role ++ leBytes 1 h.hflags.toNat ++ leBytes 4 h.cycle ++ leBytes 4 h.ckwin ++
        leBytes 4 h.jseq ++ leBytes 4 h.target ++ leBytes 2 h.decl ++ leBytes 6 0))
    | .safe tsl b f => (3, leBytes 4 (tsl % 16 + 16 * b2n b) ++ (f ++ leBytes (ceilDiv f.length 4 * 4 - f.length) 0))
    | .zoneDown h i n l => (4, leBytes 4 (h % 256 + 256 * l.length + 65536 * (i % 16) + 1048576 * (n % 16)) ++ l.flatMap fun e =>
        leBytes 2 e.axis ++ leBytes 2 0 ++ intBytes 4 e.force ++ leBytes 4 e.angle.toNat ++ intBytes 4 e.tabPos ++ intBytes 4 e.vel)
    | .zoneUp h fl i n a hl => (5, leBytes 4 (h % 256 + 256 * a.length + 65536 * hl.length + 16777216 * b2n fl + 33554432 * (i % 8) +
        268435456 * (n % 8)) ++
        (a.flatMap fun e => leBytes 2 e.axis ++ leBytes 1 e.role ++ intBytes 1 e.temp ++ intBytes 4 e.ilimEff ++ leBytes 2 e.astat.toNat ++ leBytes 2 0) ++
        hl.flatMap fun e => leBytes 2 e.1 ++ leBytes 2 0 ++ leBytes 8 e.2.toNat)
    | .linkTime v => (6, intBytes 4 v)
    | .unknown k => (k, [])
  leBytes 1 type ++ leBytes 1 (body.length / 4) ++ leBytes 2 t.dest ++ body

/-- FLAGS of the own slot of a trunk ring (03 table "Slot flags"): VALID, LOOPBACK, INTEG, CLOSEARM. -/
def ownFlags (s : State) (g : RingSt) : Nat :=
  let back := (ownDown g (ownEntry s.sys.manifest g.cfg)).length != 0 || (g.loops.any fun k => (loopNodes g.cfg k).contains (ownEntry s.sys.manifest g.cfg))
  1 + 16 * b2n back + 64 * b2n g.integDue + 128 * b2n (back && g.closeAt.isSome)

/-- The own collect slot of a trunk ring with the records committed (03 R78, R93, 14 R402): written by a leader, and by a member once
it has integrated. -/
def writeTrunkSlot (s : State) (r : Nat) (l : List TrunkRec) : State :=
  s.onRing r fun g =>
    if g.state = .leading ∨ g.integrated then
      let own := ownEntry s.sys.manifest g.cfg
      let seq := s.time.cycle + (if g.healed then 0 else 1)
      { g with
        slotOut := slotBytesOf own (ownFlags s g) (g.cfg.entries.getD (own - 1) {}).tlen (seq % 256) (l.flatMap recordBytes)
        integDue := false }
    else g

/-- Records go out on a path with a space; each part that does not fit is counted (14 R414, R421). -/
def sendOn (s : State) (i room : Nat) (l : List TrunkRec) : State :=
  (bump s (if i < 4 then cRing i 19 else cSide (i - 4) 0) (fitRecords room l).2).onMulti fun m => { m with
    sent := tabSet m.sent i (fitRecords room l).1 }

/-- Bytes for records in a trunk slot: that of the least TLEN of the ring (14 R401, R404). -/
def trunkRoom (c : RingCfg) : Nat := 8 * c.entries.foldl (fun m e => min m e.tlen) 32 - 8

/-- The records committed at this release phase, on every trunk ring and side link (14 R399, R402, R418). -/
def sendRecords (s : State) : State :=
  let common := heartbeatRecords s ++ zoneRecords s
  let pub := s.multi.publish
  let s := s.onMulti fun m => { m with publish := [], sent := [], upFlag := [] }
  let s := s.each (List.range 4) fun s r =>
    if (s.ring r).cfg.mode = 1 ∧ ((s.ring r).state = .leading ∨ ((s.ring r).state = .following ∧ (s.ring r).integrated)) then
      let safe := (pub.filter fun e => e.1 == r).map (·.2)
      let (l, s) := pathRecords s (.ring r) safe common
      let s := s.each safe fun s _ => bumpPath s (.ring r) 2
      let s := sendOn s r (trunkRoom (s.ring r).cfg) l
      writeTrunkSlot s r (tabGet s.multi.sent [] r)
    else s
  s.each [0, 1] fun s n =>
    if (s.link n).up then
      let (l, s) := pathRecords s (.side n) [{ dest := 0xFFFF, body := .linkTime (s.link n).m }] common
      sendOn s (4 + n) (1024 - 20) l
    else s

/-! ### The time base at the instant (14 R405 to R407, R549) -/

/-- Cycles in which a master's slew of 10 ppm amounts to one clock of 1.28 ns (14 R406). -/
def slewCycles (rate : Nat) : Nat := match rate with | 0 => 3 | 1 => 5 | _ => 9

/-- One adjustment at the cycle boundary: at most 2 clocks, a master at most 10 ppm (14 R406, R407). -/
def trimTime (s : State) : State :=
  s.onTime fun t =>
    let lim : Int := if t.isMaster then (if t.cycle % slewCycles s.sys.rate = 0 then 1 else 0) else 2
    let d := clampI (-lim) lim t.err
    let keep := t.trims.filter fun c => decide (t.cycle < c + cyclesPerS s.sys.rate)
    { t with err := t.err - d, trims := if d = 0 then keep else t.cycle :: keep }

end Sys2Proof.Machine
end

