-- ==== Sys2Proof/Machine/RecOps.lean ====
section
/-! DEFINITION. Operations of the recorder (17): intake with snapshots and holds, pages and flushes, drives and their wear, the
NOR mirror, trace rows. -/
namespace Sys2Proof.Machine

/-! ### Intake (17 R457, R461, R462) -/

/-- What a snapshot selector reads, whether it could be read, and the state after (17 R462, 19 R504). -/
def readSel (s : State) (sel : BitVec 16) : Nat × Bool × State :=
  let k := sel.toNat % 16384
  let i := k % 1024
  match sel.toNat / 16384 with
  | 0 => let (v, s) := readWord s 0 (4 * k); (v, true, s)
  | 3 => (0, false, s)
  | m =>
    let c := if i < 0x3C0 then tabGet s.ctr.cnt 0 i
      else if 0x3FC ≤ i then pthrSum s (i - 0x3FC) else tabGet s.host.modSum 0 (i - 0x3C0)
    (if m = 1 then half c false else half c true, true, s)

/-- Snapshots of a record, one after another: values, whether one failed, and the state after (17 R457). -/
def readSels : List (BitVec 16) → State → List Nat × Bool × State
  | [], s => ([], false, s)
  | x :: r, s =>
    let (v, good, s) := readSel s x
    let (l, bad, s) := readSels r s
    (v :: l, !good || bad, s)

/-- Bytes of trace a second at the setting in force (17 R465). -/
def traceRate (s : State) : Nat :=
  let t := s.cairn.trace
  if t.mode = 0 then 0
  else t.axes.length * cyclesPerS s.sys.rate * 32 / (if t.mode = 2 then t.dec else 1)

/-- Trace capacity in bytes: what the ready drives hold beyond header and event log (17 R469). -/
def traceCapacity (s : State) : Nat :=
  (readyDrives s).foldl (fun n d => n + ((s.drive d).capacity - 68719476736 - 4194304)) 0

/-- Bytes the holds cover (17 R466). -/
def holdBytes (s : State) (l : List Hold) : Nat :=
  l.foldl (fun n h => n + (h.toNs - h.fromNs) * traceRate s / 1000000000) 0

/-- The oldest holds are released until the limits of 17 R466 are met; the newest stays. -/
def trimHolds : Nat → State → State
  | 0, s => s
  | k + 1, s =>
    let l := s.cairn.holds
    if 1 < l.length ∧ (16 < l.length ∨ traceCapacity s < 50 * holdBytes s l) then
      let s := s.onRec fun c => { c with holds := c.holds.drop 1 }
      trimHolds k (recEvent s 0x0C 0xFFFF (s.cairn.holds.length : Nat))
    else s

/-- A hold-trace trigger marks the trace around an event (17 R466). -/
def holdTrace (s : State) (g : Trigger) (t : Nat) : State :=
  trimHolds 17 (s.onRec fun c => { c with holds := c.holds ++
    [{ fromNs := t - g.pre * 1000000000, toNs := t + g.post * 1000000000, days := g.days }] })

/-- A record of a new event, or one more occurrence of the open record (17 R457, R461). -/
def recordEvent (s : State) (t : Nat) (e : Event) (sels : List (BitVec 16)) : State :=
  let fresh := fun (s : State) =>
    let (l, bad, s) := readSels sels s
    let was := s.cairn.losing
    let s := writeRecord s t e l bad
    if s.cairn.losing ∧ ¬ was then recEvent s 7 0xFFFF (s.cairn.lost : Nat) else s
  match openHead s with
  | none => fresh s
  | some r =>
    if r.source = e.source ∧ r.code = e.code ∧ r.subject = e.subject ∧ t < r.time + 1000000000 then repeatRecord s r t e
    else fresh s

/-- The events dropped at intake are recorded, and event 0Bh posted (17 R457, R475). -/
def recordDrops (s : State) (t : Nat) : State :=
  if s.cairn.dropPend = 0 then s
  else
    let n := s.cairn.dropPend
    let e : Event := { source := 0x10, code := 0x0B, subject := 0xFFFF, value := (n : Int), cycle := s.time.cycle, cls := some 0x70,
                       fields := [(16, 1, 0x0B), (18, 2, 0xFFFF), (20, 4, (s.time.cycle : Int)), (24, 4, (n : Int))] }
    postEvent (recordEvent (s.onRec fun c => { c with dropPend := 0 }) t e []) e

/-- An event leaves the intake: posted, recorded unless dropped or suppressed, and its trace held (17 R457, R460, R462). -/
def takeEvent (s : State) (t : Nat) (e : Event) : State :=
  let g := triggerOf s e.source e.code
  let s := postEvent s e
  if !e.record || e.dropped then s
  else
    let s := recordDrops s t
    let s := match g with
      | some x => if x.hold ∧ s.cairn.trace.mode ≠ 0 then holdTrace s x t else s
      | none => s
    if g.any (·.suppress) && !alwaysRecorded e.source then s
    else recordEvent s t e ((g.map (·.sels)).getD [])

/-! ### Pages, drives and the flush (17 R468 to R470) -/

/-- The drive that takes the next page or stripe (17 R469): the next one in turn that is ready. -/
def turnDrive (s : State) : Option Nat :=
  ((List.range 4).map fun i => (s.cairn.turn + i) % 4).find? fun n => driveReady (s.drive n)

/-- The ring slots of the oldest waiting sealed slots, 63 at most (17 R469). -/
def nextPage (s : State) : List RecSlot :=
  (s.cairn.unspilled.take 63).map fun q => tabGet s.cairn.ring (.ext q 0 []) (q % 65536)

/-- Bytes of the 63 slots of a page, the missing ones zero (17 R469). -/
def pageBytes (l : List RecSlot) : List Byte := l.flatMap slotBytes ++ leBytes (64 * (63 - l.length)) 0

/-- An event page is given to a drive: numbered, chained by the summit core, written to the drive (17 R469). -/
def spillPage (s : State) (n : Nat) : State :=
  let l := nextPage s
  if l.isEmpty then s
  else
    let page := s.cairn.page + 1
    let s := s.onRec fun c => { c with
      page, unspilled := c.unspilled.drop 63, turn := (n + 1) % 4
      chain := Config.sha384 (leBytes 48 c.chain ++ pageBytes l) }
    s.onDrive n fun d => { d with writing := d.writing ++ [(page, l)] }

/-- Every waiting slot goes to the ready drives in turn (17 R472). -/
def spillAll : Nat → State → State
  | 0, s => s
  | k + 1, s =>
    if s.cairn.unspilled.isEmpty then s
    else match turnDrive s with | some n => spillAll k (spillPage s n) | none => s

/-- Rows that the trace region holds at most. -/
def traceRows (s : State) : Nat := traceCapacity s / 32

/-- Whether a stored cycle is held (17 R466). -/
def heldCycle (s : State) (c : TraceCycle) : Bool := s.cairn.holds.any fun h => decide (h.fromNs ≤ c.time ∧ c.time ≤ h.toNs)

/-- The oldest stored cycles that are not held give way, oldest first in `l`, until `over` rows are free. -/
def dropOldest (s : State) : Nat → List TraceCycle → List TraceCycle
  | _, [] => []
  | above, c :: r =>
    if above = 0 then c :: r
    else if heldCycle s c then c :: dropOldest s above r
    else dropOldest s (above - c.rows.length) r

/-- Staged rows are streamed to a drive as whole cycles (17 R466, R469). -/
def spillTrace (s : State) (n : Nat) : State :=
  if s.cairn.staging.isEmpty then s
  else
    let all := (s.cairn.staging.map fun c => { c with drive := n }).reverse ++ s.cairn.stored
    let rows := all.foldl (fun n c => n + c.rows.length) 0
    s.onRec fun c => { c with
      staging := [], gap := false
      stored := if traceRows s < rows then (dropOldest s (rows - traceRows s) all.reverse).reverse else all }

/-- Flush is issued to a drive: it covers the writes completed so far (17 R468). -/
def issueFlush (s : State) (n : Nat) : State :=
  s.onDrive n fun d =>
    if d.flushing || !driveReady d then d
    else { d with flushing := true, unflushed := [],
                  flushSeq := d.unflushed.foldl (fun q p => p.2.foldl (fun _ x => slotSeq x) q) 0 }

/-- Flush is issued to every ready drive (17 R468). -/
def flushAll (s : State) : State := s.each (List.range 4) issueFlush

/-- The later of two sequence numbers in the wrapping order (17 R458). -/
def laterSeq (a b : Nat) : Nat := if (b + 4294967296 - a) % 4294967296 < 2147483648 then b else a

/-- The trace changes to decimated at DEC 32, or stays at its DEC if larger; event 06h (17 R470). -/
def reduceTrace (s : State) (subject : Nat) : State :=
  if s.cairn.trace.mode = 0 then s
  else
    let dec := if s.cairn.trace.mode = 2 then max 32 s.cairn.trace.dec else 32
    recEvent (s.onRec fun c => { c with trace := { c.trace with mode := 2, dec } }) 6 subject dec

/-- A drive is failed: its content is abandoned, what it had not acknowledged goes to the others (17 R469, R470). -/
def failDrive (s : State) (n reason : Nat) : State :=
  let back := (s.drive n).writing.flatMap fun p => p.2.map slotSeq
  let s := s.onDrive n fun d => { d with state := 3, writing := [], unflushed := [], flushing := false, pages := [], times := [] }
  let s := s.onRec fun c => { c with unspilled := back ++ c.unspilled, stored := c.stored.filter fun t => t.drive != n }
  let s := recEvent s 5 n reason
  if drivesMeet s then s else reduceTrace s 0xFFFF

/-- The first stripe of the event log from `k` on that the map does not skip, within a number of tries (17 R470). -/
def skipStripes (bad : List Nat) : Nat → Nat → Nat
  | 0, k => k
  | n + 1, k => if bad.contains k then skipStripes bad n ((k + 1) % 16384) else k

/-- The stripe after the one being written, retired ones skipped (17 R469, R470). -/
def nextStripe (d : Drive) : Nat := skipStripes d.bad d.bad.length ((d.stripe + 1) % 16384)

/-- The stripe being written is retired, and skipped from then on; a drive that retires more than 1 % of its stripes fails (17 R470). -/
def retireStripe (s : State) (n : Nat) : State :=
  let d := s.drive n
  let s := s.onDrive n fun d => { d with retired := d.retired + 1, bad := d.stripe :: d.bad, stripe := nextStripe { d with bad := d.stripe :: d.bad }, retried := false }
  let s := recEvent (bump s (cRec 7)) 4 n d.stripe
  if d.stripes < 100 * (d.retired + 1) then failDrive s n 3 else s

/-- A list of times in rising order. -/
def insertTime (x : Nat) : List Nat → List Nat
  | [] => [x]
  | y :: r => if x ≤ y then x :: y :: r else y :: insertTime x r

/-- The 99th percentile of completion times (17 R470): the least one that 99 % do not exceed. -/
def p99Of (l : List Nat) : Nat :=
  (l.foldl (fun a x => insertTime x a) []).getD ((99 * l.length + 99) / 100 - 1) 0

/-- A write's completion time is taken up; at the turn of the second the window before is judged (17 R470). -/
def timeWrite (s : State) (n us : Nat) : State :=
  let d := s.drive n
  let sec := s.time.now / 1000000000
  if sec = d.window then s.onDrive n fun d => { d with times := us :: d.times }
  else
    let p := p99Of d.times
    let slow := decide (2000 < p)
    let hour := sec / 3600 + 1
    let s := s.onDrive n fun d => { d with
      times := [us], window := sec, p99 := p
      slow99 := if slow then satAdd max32 d.slow99 1 else d.slow99
      slowHour := if slow then hour else d.slowHour }
    if !slow then s
    else
      let s := bump s (cRec (3 + n))
      if d.slowHour = hour then s else recEvent s 3 n p

/-- Steps of the wear warning at a Percentage Used: none below 80 %, one more at each further 5 % (17 R470). -/
def wearSteps (pct : Nat) : Nat := if pct < 80 then 0 else (pct - 80) / 5 + 1

/-! ### The NOR mirror (17 R471) -/

/-- A mirror sector; one not listed is erased and never used. -/
def State.sector (s : State) (k : Nat) : Sector := tabGet s.cairn.sectors {} k
/-- A state with one sector changed. -/
def State.onSector (s : State) (k : Nat) (f : Sector → Sector) : State :=
  s.onRec fun c => { c with sectors := tabMod c.sectors {} k f }
/-- Mirror sectors that are not retired. -/
def usableSectors (s : State) : List Nat := (List.range 64).filter fun k => !(s.sector k).retired

/-- The sector after the present one that is not retired, erased for use; what it held leaves the mirror (17 R471). -/
def nextSector (s : State) : State :=
  match ((List.range 64).map fun i => (s.cairn.sector + 1 + i) % 64).find? fun k => !(s.sector k).retired with
  | none => s
  | some k =>
    let s := (s.onSector k fun x => { x with erases := x.erases + 1, used := 0 }).onRec fun c => { c with sector := k }
    s.onRec fun c => { c with mirrored := c.mirrored.take (c.sectors.foldl (fun n x => n + x.2.used) 0) }

/-- The sector being programmed is retired; with fewer than 5 left the mirror stops (17 R471). -/
def retireSector (s : State) : State :=
  let k := s.cairn.sector
  let s := logWrite (bump (s.onSector k fun x => { x with retired := true }) (cRec 11)) 4 (leBytes 16 0) 0 0
  let s := recEvent s 9 k ((s.sector k).erases : Nat)
  let n := (usableSectors s).length
  if n < 5 then recEvent (s.onRec fun c => { c with mirrorFail := true }) 0x0A 0xFFFF n else nextSector s

/-- Sealed records beyond what 4,000 a second can program within 100 ms are never mirrored (17 R471). -/
def shedMirror (s : State) : State :=
  let n := s.cairn.unmirrored.length
  let keep := if s.cairn.mirrorFail then 0 else 400
  if n ≤ keep then s
  else bump (s.onRec fun c => { c with unmirrored := c.unmirrored.drop (n - keep) }) (cRec 10) (n - keep)

/-- A page of up to 4 records is programmed and read back (17 R471): under a flood the newest first. -/
def programPage (s : State) (pulses : Nat) (good : Bool) : State :=
  let flood := decide (400 < s.cairn.unmirrored.length)
  let s := shedMirror s
  let l := s.cairn.unmirrored
  if s.cairn.mirrorFail ∨ l = [] then s
  else
    let s := if 1023 ≤ (s.sector s.cairn.sector).used then nextSector s else s
    let k := s.cairn.sector
    let n := min (min 4 l.length) (1023 - (s.sector k).used)
    let page := if flood then l.drop (l.length - n) else l.take n
    let rest := if flood then l.take (l.length - n) else l.drop n
    let slow := decide (16 < pulses)
    let first := !(s.sector k).slow
    let s := if slow then
        bump ((s.onSector k fun x => { x with slow := true }).onRec fun c => { c with slowProg := satAdd max32 c.slowProg 1 }) (cRec 9)
      else s
    let s := if slow ∧ first then recEvent s 8 k pulses else s
    if good then
      (s.onSector k fun x => { x with used := x.used + n }).onRec fun c => { c with
        unmirrored := rest, mirrored := page.reverse ++ c.mirrored
        mirror := page.foldl (fun q r => if q = 0 then r.seq else laterSeq q r.seq) c.mirror }
    else retireSector s

/-- Up to `n` pages are programmed at the power-fail warning (17 R472). -/
def programPages : Nat → State → State
  | 0, s => s
  | n + 1, s => if s.cairn.unmirrored.isEmpty then s else programPages n (programPage s 0 true)

/-- What Cairn does at the power-fail warning (17 R472): the open record is sealed, up to 64 records are programmed, the event
pages are written and flushed, rows in staging are lost. -/
def cairnPowerFail (s : State) : State :=
  let s := programPages 16 (sealOpen s)
  let s := spillAll 1041 s
  flushAll (s.onRec fun c => { c with staging := [] })

/-! ### The trace (17 R465, R466) -/

/-- Whether rows are traced (17 R466): a drive is ready, STAGE 4, no power-fail warning, no S3 entry beyond stage 1. -/
def tracing (s : State) : Bool :=
  s.cairn.trace.mode != 0 && !(readyDrives s).isEmpty && loopReady s && !s.supply.pfw &&
  !(s.pow.mode == 1 && decide (2 ≤ s.pow.stage))

/-- A trace row as the ring island copies it (17 R465). -/
def traceRow (s : State) (a : Nat) : TraceRow :=
  let x := s.axis a
  { axis := a, ref := x.lastR, fb := x.lastY, out := x.lastO, fb1 := captureValue s a 11, astat := x.astat, flags := axisFlags s a
    state := stateCode x.state + 8 * x.sup.level + 32 * x.bankUse + 128 * b2n x.executed
    integ := sat32 x.law.i, rf := x.sup.rf
    share := if dKind x.desc = 1 then x.share.force else 0 }

/-- Whether the present cycle is traced (17 R465). -/
def cycleTraced (s : State) : Bool :=
  tracing s && (s.cairn.trace.mode == 1 || s.time.cycle % s.cairn.trace.dec == 0)

/-- The rows of the cycle enter the staging region, or the whole cycle is dropped (17 R465, R466). -/
def traceRowCopy (s : State) : State :=
  if !cycleTraced s then s
  else
    let used := s.cairn.staging.foldl (fun n c => n + c.rows.length) 0
    if 134217728 < used + s.cairn.trace.axes.length then
      bump (s.onRec fun c => { c with gap := true, traceDrop := satAdd max32 c.traceDrop 1 }) (cRec 2)
    else s.onRec fun c => { c with staging := c.staging ++
      [{ cycle := s.time.cycle, time := s.time.now, rows := c.trace.axes.map (traceRow s) }] }

/-- Bytes of a trace row (17 R465). -/
def rowBytes (r : TraceRow) : List Byte :=
  leBytes 4 (toU32 r.ref) ++ leBytes 4 (toU32 r.fb) ++ leBytes 4 (toU32 r.out) ++ leBytes 4 (toU32 r.fb1) ++
  leBytes 2 r.astat.toNat ++ leBytes 1 r.flags ++ leBytes 1 r.state ++ leBytes 4 (toU32 r.integ) ++ leBytes 4 (toU32 r.rf) ++
  leBytes 4 (toU32 r.share)

/-- The effective values of a trace setting at their request offsets (17 R473). -/
def traceFields (t : TraceSet) : List (Nat × Nat × Int) :=
  [(16, 1, 1), (20, 1, (t.mode : Int)), (22, 2, t.dec)] ++
  (List.range 128).map fun i => (24 + i, 1, ((ofBits ((List.range 8).map fun b => t.axes.contains (8 * i + b)) : Nat) : Int))

/-- The release phase of the recorder: a trace setting lands and is stored (17 R473, 15 R550). -/
def landTrace (s : State) : State :=
  let l := s.cairn.tracePend
  (s.onRec fun c => { c with tracePend := [] }).each l fun s x =>
    ok (store (s.onRec fun c => { c with trace := x.2 }) (.trace x.2)) x.1 (traceFields x.2) (s.time.cycle % 4294967296) 2

end Sys2Proof.Machine
end

