-- ==== Sys2Proof/Machine/StoreOps.lean ====
section
/-! DEFINITION. The NOR configuration area of the application firmware (15 R550): what a completed store leaves there. -/
namespace Sys2Proof.Machine

/-- What a field configuration configures: kind of input, number, and how many. -/
def fieldTarget (c : FieldCfg) : Nat × Nat × Nat :=
  match c with
  | .pwm n _ => (0, n, 1) | .sd n _ _ _ _ _ _ _ => (1, n, 1) | .ai n _ => (2, n, 1) | .qa n _ _ _ _ => (3, n, 1)
  | .di first l => (4, first, l.length)

/-- A CAN configuration kept in NOR (12 R352, R366, R370). -/
def storeCan (c : CanNor) (p : CanPend) : CanNor :=
  match p with
  | .chan n x => { c with chans := tabSet c.chans n x }
  | .obj n x => { c with objs := tabSet c.objs n x }
  | .ref n x => { c with refs := tabSet c.refs n x }
  | .bms n x => { c with bms := tabSet c.bms n x }
  | .wake n x => { c with wakes := tabSet c.wakes n x }

/-- The NOR configuration area after one store (15 R550). -/
def norAfter (n : NorSt) (i : StoreItem) : NorSt :=
  match i with
  | .ring r c => { n with rings := tabSet n.rings r c }
  | .rate v => { n with rate := v }
  | .axis a d => { n with axes := tabSet n.axes a d }
  | .table a p q b => { n with tables := tabSet n.tables a (p, q, b) }
  | .trace t => { n with trace := t }
  | .triggers l => { n with triggers := l }
  | .shaft h c => { n with shafts := tabSet n.shafts h c }
  | .limits h m => { n with limits := tabSet n.limits h m }
  | .energy h c => { n with energies := tabSet n.energies h c }
  | .door d c => { n with doors := tabSet n.doors d c }
  | .learned d a b => { n with learned := tabSet n.learned d (a, b) }
  | .edgeRefs d l => { n with edgeRefs := tabSet n.edgeRefs d l }
  | .service d b => { n with services := tabSet n.services d b }
  | .field (.pwm k c) => { n with pwms := tabSet n.pwms k c }
  | .field c => { n with fields := (n.fields.filter fun x => fieldTarget x != fieldTarget c) ++ [c] }
  | .pattern _ _ => n
  | .can _ => n

/-- A store completes: the configuration survives a reset or a power loss from now on (15 R550). -/
def applyStore (s : State) (i : StoreItem) : State :=
  let s := { s with nor := norAfter s.nor i }
  match i with
  | .pattern p t => s.onField fun f => { f with patternNor := some (p, t) }
  | .can c => s.onCan fun x => { x with stored := storeCan x.stored c }
  | _ => s

/-- The oldest store that waits completes. -/
def storeDone (s : State) : State :=
  match s.nor.queue with
  | [] => s
  | i :: rest => applyStore { s with nor := { s.nor with queue := rest } } i

/-- Every store that waits completes, as at stage 1 of an S3 entry (16 R445). -/
def storeAll (s : State) : State :=
  s.nor.queue.foldl applyStore { s with nor := { s.nor with queue := [] } }

/-- CONFIG_STORE_DONE (15 R550). -/
def execConfigStoreDone (s : State) : Host.Outcome State Fault Refusal := .next (storeDone s)

end Sys2Proof.Machine
end

