-- ==== Sys2Proof/Machine/PowOps.lean ====
section
/-! DEFINITION. Changes of level, refusals, the entry into S3, its abort and the return (16). -/
namespace Sys2Proof.Machine

/-! ### Refusals (16 R444, R452) -/

/-- A refusal is counted under its refuser, and event 03h or 07h is posted (16 R452, R456). -/
def powRefuse (s : State) (code event subject : Nat) : State :=
  let s := bump (s.onPow fun w => { w with refuse := tabMod w.refuse 0 code fun v => satAdd max32 v 1, lastRef := code }) (cPow code)
  powEvent s event subject code

/-- A power request is refused: the refuser at byte 17 (16 R453, R454). -/
def powRefused (s : State) (r : Request) (code event subject : Nat) (more : List (Nat × Nat × Int) := []) : State :=
  refused (powRefuse s code event subject) r 0 ((17, 1, (code : Int)) :: more)

/-- Whether a weaver of a basket is halted (18 R493). -/
def basketHalted (s : State) (b : Nat) : Bool := (List.range 8).any fun i => (haltedWeavers s).getLsbD (8 * b + i)

/-- Whether an island may sleep in S1 or S2 (16 R443): 0–7 basket, 8 Traverse. -/
def maySleep (s : State) (i : Nat) : Bool :=
  if i < 8 then !(s.loop.axes.any fun x => basketOf x.1 == i && (x.2.state != .unloaded || x.2.staged.any fun w =>
      match w.what with | .desc _ => true | _ => false)) && !((nextCars s).any fun x => x.c.weaver / 8 == i)
  else !shaftConfigured s

/-- The S3 refusers in the order of 16 R444, each with its condition. -/
def refuserList (s : State) (linkOk : Bool) : List (Nat × Bool) :=
  let me := s.sys.manifest.member
  [(1, (allCars s).any fun x => !List.contains [CarState.idle, .stopped, .outOfService] (s.car x.c.car).state),
   (2, s.loop.axes.any fun x => x.2.state == .enabled || x.2.state == .holding),
   (3, s.doors.any fun d => [DoorState.opening, .closing, .reopening, .nudging, .held, .learning].contains d.2.state),
   (4, s.disp.calls.any fun c => outstanding c.2),
   (5, (List.range 8).any fun n => [StepState.moving, .referencing, .decelerating].contains (s.stp n).state),
   (6, s.dbg.level == .intrusive),
   (7, s.sys.manifest.partner != 0),
   (8, s.safety.session.isSome),
   (9, (List.range 4).any (fun r => (s.ring r).cfg.mode == 1) || s.sys.manifest.master == me || s.sys.manifest.backup == me),
   (0x0A, s.sys.pcieUp && !linkOk)]

/-- The first S3 refuser that holds (16 R444). -/
def s3Refuser (s : State) (linkOk : Bool) : Option Nat := ((refuserList s linkOk).find? fun x => x.2).map (·.1)

/-! ### Levels (16 R438 to R441) -/

/-- Baskets a mask names. -/
def named (m : BitVec 8) : List Nat := (List.range 8).filter fun b => m.getLsbD b

/-- The refuser of a basket for a level, if one holds (16 R438, R441, R453, 18 R493). -/
def levelRefuser (s : State) (lvl b : Nat) : Option Nat :=
  if basketHalted s b then some 6
  else if tabGet s.pow.sleep 0 b ≠ 0 ∨ ¬ basketFits (nextRate s) lvl b (nextOccupied s) (carsOn s) then some 0x0B
  else if lvl < levelOf s b ∧ s.pow.pmbFault.getLsbD b then some 0x0C
  else none

/-- A mask of baskets. -/
def maskOf (l : List Nat) : BitVec 8 := BitVec.ofNat 8 (ofBits ((List.range 8).map l.contains))

/-- The completion of a level request (16 R453). -/
def levelDone (s : State) (r : Request) (cycle : Nat) : State :=
  ok s r [(20, 2, (levelBits s : Int))] (cycle % 4294967296)

/-- Execution of a level request when no change is in progress (16 R439, R440, R453). -/
def runLevel (s : State) (r : Request) : State :=
  let mask := BitVec.ofNat 8 (rq r 16 1)
  let lvl := rq r 17 1
  let l := named mask
  if s.red.role = .standby then powRefused s r 7 7 (l.headD 0xFF) [(18, 1, (l.headD 0 : Nat))]
  else
    match l.findSome? fun b => (levelRefuser s lvl b).map fun k => (b, k) with
    | some (b, k) => powRefused s r k 7 b [(18, 1, (b : Int))]
    | none =>
      let ch := l.filter fun b => levelOf s b != lvl
      if ch.isEmpty then levelDone s r s.time.cycle
      else
        let up := maskOf (ch.filter fun b => decide (lvl < levelOf s b))
        s.onPow fun w => { w with
          rail := (named up).foldl (fun t b => tabSet t b lvl) w.rail
          change := some { req := r, mask := maskOf ch, level := lvl, raised := up, awaiting := up } }

/-- Level requests that waited are executed in order until one starts a change (16 R439). -/
def nextLevel : Nat → State → State
  | 0, s => s
  | k + 1, s =>
    match s.pow.change, s.pow.levelQ with
    | none, r :: rest => nextLevel k (runLevel (s.onPow fun w => { w with levelQ := rest }) r)
    | _, _ => s

/-- The change in progress is over; the next request is executed. -/
def endChange (s : State) : State :=
  nextLevel s.pow.levelQ.length (s.onPow fun w => { w with change := none })

/-- The dividers change at the release phase once every raised rail is acknowledged; lowered rails are written (16 R440). -/
def landLevel (s : State) : State :=
  match s.pow.change with
  | none => s
  | some c =>
    if c.changed || c.awaiting != 0 then s
    else
      let down := c.mask &&& ~~~ c.raised
      let s := s.onPow fun w => { w with
        level := (named c.mask).foldl (fun t b => tabSet t b c.level) w.level
        rail := (named down).foldl (fun t b => tabSet t b c.level) w.rail
        change := some { c with changed := true, cycle := s.time.cycle, awaiting := down } }
      let s := powEvent s 1 0xFF ((c.mask.toNat + 256 * c.level : Nat) : Int)
      if down = 0 then endChange (levelDone s c.req s.time.cycle) else s

/-- A rail acknowledges (16 R440). -/
def ackRail (s : State) (b : Nat) : State :=
  match s.pow.change with
  | none => s
  | some c =>
    if !c.awaiting.getLsbD b then s
    else
      let left := c.awaiting &&& ~~~ BitVec.ofNat 8 (2 ^ b)
      let s := s.onPow fun w => { w with change := some { c with awaiting := left } }
      if c.changed ∧ left = 0 then endChange (levelDone s c.req c.cycle) else s

/-- A PMBus timeout is counted; the basket's fault bit is latched with event 02h (16 R441, R445). -/
def pmbFault (s : State) (b : Nat) : State :=
  let s := bump s (cPow 0x1A)
  if b < 8 then
    if s.pow.pmbFault.getLsbD b then s
    else powEvent (s.onPow fun w => { w with pmbFault := w.pmbFault ||| BitVec.ofNat 8 (2 ^ b) }) 2 b b
  else powEvent s 2 0xFF 0xFF

/-- No acknowledgement after 5 ms (16 R441): a raise is given up, a lowered rail is written once more. -/
def railTimeout (s : State) (b : Nat) : State :=
  if s.pow.mode = 2 then
    if b < 8 then (pmbFault s b).onPow fun w => { w with level := tabSet w.level b 3 } else pmbFault s b
  else if s.pow.mode = 1 then
    if s.pow.stage = 4 ∧ ¬ s.pow.asleep then
      (bump s (cPow 0x1A)).onPow fun w => { w with
        held := w.held ++ [{ source := 0x0D, code := 2, subject := min b 0xFF, value := ((if b < 8 then b else 0xFF : Nat) : Int), cls := some 0x60,
                             fields := [(16, 1, 2), (24, 4, ((if b < 8 then b else 0xFF : Nat) : Int))] }] }
    else s
  else
    match s.pow.change with
    | none => s
    | some c =>
      if !c.awaiting.getLsbD b then s
      else if !c.changed then
        let s := (pmbFault s b).onPow fun w => { w with rail := (named c.raised).foldl (fun t k => tabSet t k (levelOf s k)) w.rail }
        endChange (timedOut s c.req)
      else if c.again.getLsbD b then endChange (timedOut (pmbFault s b) c.req)
      else (pmbFault s b).onPow fun w => { w with change := some { c with again := c.again ||| BitVec.ofNat 8 (2 ^ b) } }

/-! ### Islands in S1 and S2 (16 R443, R454) -/

/-- Island requests land at the release phase. -/
def landIslands (s : State) : State :=
  let l := s.pow.islands
  (s.onPow fun w => { w with islands := [] }).each l fun s x =>
    let (r, i, st) := x
    if st ≠ 0 ∧ ¬ maySleep s i then powRefused s r 2 7 i
    else ok (setSleep s i st) r [(16, 1, (st : Int))] (s.time.cycle % 4294967296)

/-! ### Entry into S3 (16 R445, R446) -/

/-- Drives lose their supply while nothing is owed to them: what they had not acknowledged waits again. -/
def drivesOff (s : State) : State :=
  s.each (readyDrives s) fun s n =>
    let back := (s.drive n).writing.flatMap fun p => p.2.map slotSeq
    (s.onDrive n fun d => { d with state := 0, writing := [], unflushed := [], flushing := false, times := [] }).onRec fun c =>
      { c with unspilled := back ++ c.unspilled }

/-- CAN channels go to low power with their wake modes, or off (16 R445, 12 R362). -/
def canSleep (s : State) : State :=
  s.onCan fun x => { x with chans := x.chans.map fun p =>
    (p.1, { p.2 with before := some p.2.cfg.mode, asleep := p.2.wake.wmode != 0, on := p.2.on && p.2.wake.wmode != 0 }) }

/-- CAN channels resume the modes they had, at the first bus idle (16 R445, R449, 12 R363). -/
def canRestore (s : State) : State :=
  s.onCan fun x => { x with chans := x.chans.map fun p =>
    match p.2.before with
    | none => p
    | some m => (p.1, { p.2 with before := none, on := true, waking := false
                                 cfgNext := some (p.2.cfgNext.getD { p.2.cfg with mode := m }) }) }

/-- Stage 1 begins: configuration is stored, the ring is spilled and flushed (16 R445). -/
def s3Stage1 (s : State) (flags : Nat) : State :=
  let s := s.onPow fun w => { w with mode := 1, stage := 1, flags := BitVec.ofNat 8 flags, latched := none, asleep := false }
  flushAll (spillAll 1041 (storeAll s))

/-- Stage 2: Creel closes, CAN and Ethernet wait for wake events, storage is off, an OBSERVE session ends (16 R445). -/
def s3Stage2 (s : State) : State :=
  let s := canSleep (drivesOff (s.onPow fun w => { w with stage := 2 }))
  let s := (s.onSys fun y => { y with creel := false, ethOn := false }).onSupply fun u => { u with storOk := false }
  endSession s 3

/-- Stage 3: the safety island announces sleep, each axis ring sends SLEEP, side links go dark (16 R445, 03 R105, 10 R308). -/
def s3Stage3 (s : State) : State :=
  let s := (s.onPow fun w => { w with stage := 3 }).onSafety fun y => { y with asleep := true }
  let s := s.onSys fun y => { y with safe := false }
  { s with rings := s.rings.map fun (p : Nat × RingSt) => if p.2.state = RingState.off then p else (p.1, { p.2 with sleepN := 8 })
           links := s.links.map fun p => (p.1, { p.2 with up := false, valid := false }) }

/-- Stage 4: islands enter S2, frames and instants stop, step positions are lost, the PCIe link is down (16 R445, R447,
R450). -/
def s3Stage4 (s : State) : State :=
  let s := s.onPow fun w => { w with stage := 4, sleep := (List.range 9).map fun i => (i, 2) }
  let s := (s.onTime fun t => { t with running := false }).onSys fun y =>
    { y with timeBase := false, pcieQuiet := true, pcieUp := false }
  let s := { s with rings := s.rings.map fun (p : Nat × RingSt) => if p.2.state = RingState.off then p else (p.1, { p.2 with state := .sleeping, sleepN := 0 }) }
  s.onField fun f => { f with
    stp := (List.range 8).map fun n => (n, { (tabGet f.stp {} n) with unknown := true, state := .idle, rate := 0, due := 0, carried := 0, start := false })
    pwm := f.pwm.map fun (x : Nat × PwmSt) => (x.1, { x.2 with on := false, legs := [{}, {}, {}] }) }

/-- Storage, CAN, Ethernet and Creel are as before the entry (16 R446). -/
def undoStage2 (s : State) : State :=
  ((canRestore s).onSys fun y => { y with creel := true, ethOn := true }).onSupply fun u => { u with storOk := true }

/-- Each ring sends WAKE in 8 cycle-length intervals; the last starts it cold (03 R105, 16 R446, R449). -/
def wakeRings (s : State) : State :=
  { s with rings := s.rings.map fun (p : Nat × RingSt) =>
      if p.2.state = RingState.sleeping ∨ 0 < p.2.sleepN then (p.1, { p.2 with state := .sleeping, slept := false, wakeN := 8, sleepN := 0 }) else p }

/-- The entry is abandoned at an abort point (16 R446, R452): the work listed is undone, the cause counted, event 04h. -/
def abortS3 (s : State) (point cause : Nat) (refuser : Option Nat) : State :=
  let s := match refuser with
    | some k => bump (s.onPow fun w => { w with refuse := tabMod w.refuse 0 k fun v => satAdd max32 v 1 }) (cPow k)
    | none => s
  let s := if 2 ≤ point then undoStage2 s else s
  let s := if point = 3 then wakeRings s else s
  let s := bump (bump (s.onPow fun w => { w with
    mode := 0, stage := 0, latched := none, held := [], lastAbort := point, lastRef := cause
    aborts := satAdd max32 w.aborts 1, abort := tabMod w.abort 0 cause fun v => satAdd max32 v 1 }) (cPow cause)) (cPow 0x19)
  powEvent s 4 0xFF ((cause + 256 * point : Nat) : Int)

/-- S3 is reached; a wake event of stage 4 starts the return at once (16 R446). -/
def enterS3 (s : State) : State :=
  bump (s.onPow fun w =>
    let w := { w with entries := satAdd max32 w.entries 1 }
    if w.latched.isSome then { w with mode := 2, stage := 0, latched := none } else { w with asleep := true }) (cPow 0x18)

/-- A stage of the entry ends at its abort point (16 R445, R446). -/
def endStage (s : State) (flushDone : Bool) : State :=
  let linkOk := s.pow.flags.getLsbD 0
  match s.pow.stage with
  | 1 =>
    match s.pow.latched, s3Refuser s linkOk with
    | some c, _ => abortS3 s 1 c none
    | none, some k => abortS3 s 1 0x13 (some k)
    | none, none => if flushDone then s3Stage2 s else abortS3 s 1 0x14 none
  | 2 =>
    match s.pow.latched, s3Refuser s linkOk with
    | some c, _ => abortS3 s 2 c none
    | none, some k => abortS3 s 2 0x13 (some k)
    | none, none => s3Stage3 s
  | 3 => match s.pow.latched with | some c => abortS3 s 3 c none | none => s3Stage4 s
  | _ => enterS3 s

/-! ### Return from S3 (16 R449, R450) -/

/-- Edge channels restart unseeded, and each door's first close is a reference close (08 R239, R246, 16 R450, 15 R432). -/
def unseedEdges (s : State) : State :=
  { s with doors := s.doors.map fun d => (d.1, { d.2 with
      edges := d.2.edges.map fun e => { ref := e.stored.getD 0, stored := e.stored, reseeds := e.reseeds }, clear := 0 }) }
/-- Each door's next close is a reference close (08 R239). -/
def refCloses (s : State) : State := { s with doors := s.doors.map fun d => (d.1, { d.2 with refClose := true }) }

/-- Rails are up: islands run, the images' digests are held against those of the entry, the time base runs from a cycle
boundary, rings wake, CAN and storage return, the application resumes (16 R449). -/
def railsUp (s : State) : State :=
  let (k, s) := draw s
  let s := s.onPow fun w => { w with sleep := (List.range 9).map fun i => (i, 0) }
  let c := cycleNs s.sys.rate
  let s := (s.onTime fun t => { t with running := true, next := some ((t.now / c + 1 + Config.estimate k) * c) }).onSys fun y =>
    { y with timeBase := true, stage := 2 }
  refCloses (unseedEdges ((canRestore (wakeRings s)).onSupply fun u => { u with storOk := true }))

end Sys2Proof.Machine
end

