-- ==== Sys2Proof/Machine/Cycle.lean ====
section
/-! DEFINITION. The cycle: the instant, the window and the release phase (01 R28 to R32), a missed slot (04 R142). -/
namespace Sys2Proof.Machine

/-! ### The instant -/

/-- The instant: the calendar time of the time base, one cycle after the last or at its next given instant (14 R405). -/
def nextInstant (s : State) : State :=
  s.onTime fun t =>
    let c := cycleNs s.sys.rate
    let now := t.next.getD (t.now + c)
    { t with now, cycle := now / c, next := none, released := false, gap := false }

/-- What comes about at the instant (01 R28, 03 R95 R96, 11 R318, 13 R384 R388, 14 R407 R549, 20 R527). -/
def takeInstant (s : State) (failed : List FrontEnd) : State :=
  let s := match s.red.fenceDue with | some c => fence s c | none => s
  let s := trimTime (finishTakeover (nextInstant s))
  let s := s.onTime fun t => { t with utcOff := utcAt t.leaps t.now t.utcOff }
  let s := s.each (List.range 4) fun s r => ringInstant (healRing s r) r
  let s := instantField s failed
  let s := s.each (List.range 8) instantEnergy
  s.onSupply fun u => { u with syncOut := u.syncOut + 1 }

/-- INSTANT (01 R28). -/
def execInstant (failed : List FrontEnd) (s : State) : Host.Outcome State Fault Refusal :=
  .next (if s.time.running then takeInstant s failed else s)

/-! ### The window -/

/-- Whether the weaver of a basket island that is powered (16 R443). -/
def basketAwake (s : State) (b : Nat) : Bool := tabGet s.pow.sleep 0 b == 0

/-- Whether a ring configuration or a field assignment uses an axis; the slot of one that neither uses stays idle (04 R112). -/
def slotUsed (s : State) (a : Nat) : Bool := (axisNode s a).isSome || dOut (s.axis a).desc != 0

/-- The axes whose programs run in the window, in ascending order (04 R112, 13 R372). -/
def windowAxes (s : State) : List Nat :=
  (List.range (axisLimit s.sys.rate)).filter fun a => (s.axis a).state != .unloaded && slotUsed s a && basketAwake s (basketOf a)

/-- The weaver counts of a new window: misses in a row (04 R142). -/
def weaverWindow (s : State) : State :=
  s.each (List.range 64) fun s w => s.onWeaver w fun x => { x with miss := if x.missed then x.miss else 0, missed := false }

/-- The per-axis programs of a window, with the share records of the window before (04 R115, R123). -/
def runAxes (s : State) : State :=
  let s := s.onLoop fun l => { l with axes := l.axes.map fun (p : Nat × AxisSt) => (p.1, { p.2 with share := p.2.shareNext, executed := false, ran := false }) }
  s.each (windowAxes s) axisProgram

/-- What the window has seen of late releases of the cycle before is over with its programs and its samples (01 R31, 04 R149). -/
def endWindow (s : State) : State :=
  s.onLoop fun l => { l with axes := l.axes.map fun (p : Nat × AxisSt) => (p.1, { p.2 with late := false }) }

/-- WINDOW_OPEN (01 R28, R29, 05 R165, 08 R232): the image is frozen, the programs run, the capture samples. -/
def execWindowOpen (s : State) : Host.Outcome State Fault Refusal :=
  .next (if ¬ s.time.running then s
    else
      let s := s.each (List.range 4) freezeRing
      if loopReady s ∧ originates s then takeDoorImages (endWindow (captureWindow (runAxes (weaverWindow s))))
      else s)

/-- A late output of an axis (01 R31, 04 R142): its deliver record repeats the previous one, the late one waits for the
following cycle's image. -/
def lateRelease (x : AxisSt) : AxisSt :=
  { x with
    lateOut := if x.lateOut.isNone then some x.release else x.lateOut, release := x.deliver
    late := true, lateCnt := satAdd max32 x.lateCnt 1 }

/-- The slot-miss event (04 R142, 05 R154): cause 12h, whose axis names the weaver and the slot; where the cause is active
already, or the slot's axis has no descriptor, a record of the same form alone (DESIGN CHOICE, log 77). The trip clears ACMD
enable in the repeated record, whose references stay (DESIGN CHOICE, log 77). -/
def slotMissEvent (s : State) (a : Nat) : State :=
  let x := s.axis a
  if x.state = .unloaded ∨ causeOn x.sup.causes 0x12 then recordOnly s 4 0x12 a 0
  else (activate s a 0x12).onAxis a fun x => { x with
    lateOut := x.lateOut.map fun r => { r with ref1 := 0, enable := false, hold := false } }

/-- SLOT_MISS (04 R142, 13 R382): the occupied slot's axis repeats its previous output with the late-release flag; in a second
window in a row the weaver is stopped. -/
def execSlotMiss (weaver slot : Nat) (s : State) : Host.Outcome State Fault Refusal :=
  let a := 64 * slot + weaver
  .next (if 64 ≤ weaver ∨ ¬ s.time.running ∨ s.time.released ∨ !(occupied s).contains a then s
    else
      let s := bump (bump (s.onAxis a lateRelease) (cBasket (weaver / 8) 3)) (cBasket (weaver / 8) 4)
      let s := slotMissEvent s a
      let w := s.weaver weaver
      let n := if w.missed then w.miss else w.miss + 1
      let s := s.onWeaver weaver fun w => { w with missed := true, miss := n }
      if 2 ≤ n then weaverFault s weaver else s)

/-! ### The release phase -/

/-- The release buffer is latched into the deliver image; what was written too late goes into the buffer for the next one
(01 R31). -/
def latchRelease (s : State) : State :=
  s.onLoop fun l => { l with axes := l.axes.map fun (p : Nat × AxisSt) =>
    if p.2.state = .unloaded then p
    else (p.1, { p.2 with deliver := p.2.release, release := p.2.lateOut.getD p.2.release, lateOut := none }) }

/-- The segment axes of a car that is to be without drive are set DISABLED (07 R221, R229). -/
def carAxesOff (s : State) : State :=
  s.each (allCars s) fun s x =>
    if (s.car x.c.car).axesOff then
      (s.each ((s.car x.c.car).under.map (segAxis x)) fun s a => if isRemote a then s else disableAxis s a).onCar x.c.car
        fun k => { k with axesOff := false }
    else s

/-- A car of a shaft that the safety channels trip (10 R286): TRIPPED as by 07 R221, its CAUSE kept (log 37). -/
def safetyTripCar (s : State) (x : CarCtx) : State := tripCar s x (s.car x.c.car).cause

/-- A car of a shaft in safe stop 1 makes a controlled stop, or abandons its start (10 R285, R299, 07 R218, R219). -/
def ss1Car (s : State) (x : CarCtx) : State :=
  let k := s.car x.c.car
  let go := match k.state with
    | .moving | .inspection => k.journey.isSome && !k.holding
    | .preparing | .weighing => !k.braking
    | _ => false
  if go && k.stopReq.isNone then s.onCar x.c.car fun k => { k with stopReq := some (0, s.time.cycle) } else s

/-- The safety image is published, and the motion side follows it (04 R146, 10 R285, R286, 07 R226). -/
def safetyPublish (s : State) : State :=
  let was := s.safety.image
  let s := publishSafety s
  let s := s.each (s.loop.axes.map (·.1)) fun s a => if axisLive s a && !permitOf s a then disableAxis s a else s
  s.each (List.range 8) fun s h =>
    let trip := s.safety.image.trip.getLsbD h && !was.trip.getLsbD h
    let insp := s.safety.image.insp.getLsbD h
    let s := if trip then s.each (shaftCars s h) safetyTripCar else s
    let s := if s.safety.image.ss1.getLsbD h then s.each (shaftCars s h) ss1Car else s
    if (s.shaft h).insp = insp then s
    else
      let s := s.onShaft h fun t => { t with insp }
      if insp then report s (.inspection h) else s

/-- The snapshot of an axis (04 R149). -/
def axisSnap (s : State) (a : Nat) (x : AxisSt) : AxisSnap :=
  { state := stateCode x.state, level := x.sup.level
    bank := x.bankUse + 4 * dSel x.desc + 16 * b2n x.page, flags := axisFlags s a, out := x.lastO, fb := x.lastY
    astat := x.astat, staleRun := x.staleRun, staleCnt := x.staleCnt, satCnt := x.satCnt, clampCnt := x.clampCnt
    lateCnt := x.lateCnt }

/-- The snapshots of a release phase (04 R149, 06 R191, 07 car.status, 13 red.status). -/
def takeSnaps (s : State) : State :=
  let s := s.onLoop fun l => { l with
    axes := l.axes.map fun (p : Nat × AxisSt) => (p.1, { p.2 with snap := axisSnap s p.1 p.2 }), snapCycle := s.time.cycle }
  let s := s.each (allCars s) fun s x => s.onCar x.c.car fun k => { k with snap := carSnap s x }
  redSnap (s.each (List.range 8) fun s h =>
    if committedShaft s h then s.onShaft h fun t => { t with en := { t.en with snap := energySnap s h } } else s)

/-! ### Loading weavers (01 R22, 18 R494) -/

/-- Axes are loaded from their descriptor masters in ascending order; one that fails its checks is UNLOADED and recorded
(01 R22). -/
def loadMasters (s : State) (sel : Nat → Bool) : State :=
  let axes := (List.range (axisLimit s.sys.rate)).filter fun a => sel a && (s.axis a).hasMaster
  let s := s.each axes fun s a => (dropCauses (endInjection s a true) a).onAxis a fun x => { x with state := .unloaded }
  s.each axes fun s a =>
    let d := (s.axis a).master
    if (descBad s a d).isNone && loadFits s a then s.onAxis a fun x => loadAxis x d
    else recordOnly s 2 3 a 0

/-- Weavers that were halted in a debug session are reloaded once it has ended, and its close completes (18 R494, R499). -/
def debugReload (s : State) : State :=
  if s.dbg.reload = 0 ∨ s.dbg.level = .intrusive then s
  else
    let m := s.dbg.reload
    let l := s.dbg.closing
    let s := s.onDbg fun d => { d with reload := 0, closing := [], whalt := 0 }
    (loadMasters s fun a => m.getLsbD (weaverOf a)).each l fun s r => ok s r [] (cycleDetail s)

/-- What waits lands, island by island (01 R32, 03 R110, 06 R173, 07 R227, 08 R254, 11 R344, 12 R366, 16 R440 R454, 17 R473,
19 R507 R509). -/
def landEverything (s : State) : State :=
  let s := landRings (landAll s)
  let s := s.each (List.range 8) landShaft
  let s := if commitReported s then applyMotion s else s
  landTrace (landCounters (landIslands (landLevel (landCan (landField (landDoors s))))))

/-- What the ring island sends: ordered sets of the guard, frames of healed rings, records and heartbeats (03 R73, R85, R102,
13 R380, 14 R402). -/
def sendRelease (s : State) : State :=
  let stop := s.safety.scarp.running && !s.safety.scarp.modTrip.isEmpty
  (sendRecords (sendHeartbeats s)).each (List.range 4) fun s r => ringRelease (guardRing s stop r) r

/-- The journal sequence of an active module rises with the entries of the cycle, whose number no command says (13 R377). -/
def journalCycle (s : State) : State :=
  if s.red.role = .active then
    let (k, s) := draw s
    s.onRed fun d => { d with jseq := min max32 (d.jseq + Config.estimate k) }
  else s

/-- Whether a car's program has taken a segment as lost, and whether Crest has replanned it, between two states (04 R115). -/
def redistributed (s0 s : State) (x : CarCtx) : Bool :=
  (s.car x.c.car).under.any fun j => (tabGet (s.shaft x.h).segs {} j).role == 4 && (tabGet (s0.shaft x.h).segs {} j).role != 4
def replannedIn (s0 s : State) (x : CarCtx) : Bool :=
  match (s0.car x.c.car).journey, (s.car x.c.car).journey with
  | some a, some b => a.prof != b.prof
  | _, _ => false

/-- Length of a car-level program in ticks (04 R115): in stop mode at most 1,400, else the nominal length with at most 620 more
in a cycle that redistributes and 1,244 more in one that replans. What it takes of each is free. -/
def carTicks (s0 s : State) (k : Nat) (x : CarCtx) : Nat :=
  let free := Config.estimate (64 * k + x.c.car)
  if (s0.car x.c.car).stopMode then free % 1401
  else 2488 + free % ((if redistributed s0 s x then 620 else 0) + (if replannedIn s0 s x then 1244 else 0) + 1)

/-- The end of the last program of the window on every weaver (04 R115, 19 R505), from the state before the car-level programs
and the one after them. -/
def weaverTicks (s0 s : State) : State :=
  let (k, s) := draw s
  let occ := occupied s
  s.each (List.range 64) fun s w =>
    let cars := if basketAwake s (w / 8) then (allCars s).filter fun x => x.c.weaver == w && carRuns s x else []
    s.onWeaver w fun x => { x with
      ticks := if x.stopped then 0 else cars.foldl (fun t y => t + carTicks s0 s k y) (slotsOf occ w * 1244) }

/-- The release phase (01 R31). -/
def takeRelease (s : State) : State :=
  let s := if originates s then weaverTicks s (runCars s) else s
  let s := landEverything (carAxesOff (latchRelease s))
  let s := takeSnaps (safetyPublish (debugReload s))
  let s := journalCycle (sendRelease (traceRowCopy s))
  s.onTime fun t => { t with released := true }

/-- RELEASE_PHASE (01 R31). -/
def execReleasePhase (s : State) : Host.Outcome State Fault Refusal :=
  .next (if s.time.running ∧ ¬ s.time.released then takeRelease s else s)

end Sys2Proof.Machine
end

