-- ==== Sys2Proof/Machine/Debug.lean ====
section
/-! DEFINITION. Meanings of the debug commands (18). -/
namespace Sys2Proof.Machine

/-- DEBUG_STATUS (18 R499): words 5000h to 502Ch as the partition reads them. -/
def execDebugStatus (r : Request) (s : State) : Host.Outcome State Fault Refusal :=
  .next (serve s r 0x7F01 true none [] fun r s =>
    ok s r ((List.range 12).map fun i =>
      let off := 0x5000 + 4 * i
      (16 + 4 * i, 4, (((if isHolder s r.part || closedDebugReg off then debugWord s off else 0 : Nat)) : Int))))

/-! ### debug.auth (18 R485, R489 to R492) -/

/-- What a STEP 1 asks for: PURPOSE, LEVEL, TARGET. -/
structure AuthAsk where
  purpose : Nat
  level : Nat
  target : Nat
  deriving DecidableEq, Repr

/-- The key that the lifecycle state, PURPOSE and LEVEL require (18 R485, R482, R490): none, IDK (0) or GDK (1). -/
def authKey (lc : Lifecycle) (a : AuthAsk) : Option Nat :=
  match a.purpose with
  | 0 => match lc with
    | .blank => none
    | .provisioned => if a.level = 1 then none else some 0
    | .field => some 0
    | .returned => some 1
  | _ => match lc with | .blank => some 1 | .returned => some 1 | _ => some 0

/-- The bytes a token signs after the nonce (18 R489): the serial, bytes 16–31, bytes 128–223. -/
def authBytes (r : Request) : List Byte := leBytes 4 Config.serial ++ rqBytes r 16 16 ++ rqBytes r 128 96

/-- Whether a STEP 1 is authenticated (18 R489, R477). -/
def authOk (s : State) (r : Request) (a : AuthAsk) : Bool :=
  match s.dbg.nonce with
  | none => false
  | some n =>
    match authKey s.sys.lc a with
    | none => true
    | some sel =>
      let k := if sel = 0 then 5 else 3
      rq r 24 1 == sel && (List.range 4).any fun i => slotOk s k i && Config.tokenOk k (slotHash s k i) n (authBytes r) (rqBytes r 32 96)

/-- Whether every defined door is out of service, closed or open (18 R490). -/
def doorsQuiet (s : State) : Bool :=
  s.doors.all fun d => d.2.def_.isNone || [DoorState.outOfService, .closed, .opened].contains d.2.state

/-- The further conditions of 18 R482, R485, R490 and R491. -/
def authConditions (s : State) (r : Request) (a : AuthAsk) : Bool :=
  let free := s.dbg.level == .closed
  match a.purpose with
  | 0 =>
    free && (a.level == 1 || ((s.part r.part).supervisor && (match s.sys.lc with
      | .provisioned => !inMotion s
      | .field => stoByte s == 0 && (if (cfgShafts s.safety.core).isEmpty then doorsQuiet s else inspectionStop s)
      | _ => true)))
  | 1 => match s.sys.lc, a.target with
    | .blank, 1 => true
    | .provisioned, 2 => (verifies s 4 0 || verifies s 4 1) && logHasCommit s
    | .provisioned, 3 => !inMotion s
    | .field, 3 => !inMotion s
    | _, _ => false
  | _ => free && s.sys.lc != .returned && ((a.target != 1 && a.target != 3) || stoByte s == 0)

/-- A STEP 1 is denied and counted; the fifth in a row locks authentication out for 900 s (18 R489, R500). -/
def authDenied (s : State) (r : Request) : State :=
  let n := s.dbg.denied + 1
  let s := s.onDbg fun d => { d with sigFail := satAdd 65535 d.sigFail 1, denied := n }
  let s := dbgEvent s 3 r.part n
  let s := if n < 5 then s
    else dbgEvent (s.onDbg fun d => { d with lockout := true, denied := 0, lockEnd := s.time.now + 900000000000 }) 4 r.part 900
  denied s r

/-- A session or grant opens (18 R491, R492, R500): its completion carries what was granted. -/
def openDebug (s : State) (r : Request) (a : AuthAsk) : State :=
  let dur := clampN 60 86400 (rq r 20 4)
  let s := noteClamps s r (clampedN 20 60 86400 (rq r 20 4))
  let lv : DbgLevel := if a.purpose = 2 then .imgGrant else if a.level = 1 then .observe else .intrusive
  let expire := s.time.now + dur * 1000000000
  let s := s.onDbg fun d => { d with
    level := lv, holder := r.part, opened := satAdd max32 d.opened 1, expire, denied := 0, safetyHalted := false
    grantKind := if a.purpose = 2 then a.target else 0, imgStarted := false, imgStatus := 0, imgWords := [] }
  let s := dbgEvent s 1 r.part (if a.purpose = 2 then 16 + a.target else a.level)
  let s := if lv = .intrusive then tripModule s 0x15 else s
  ok s r [(16, 1, (levelCode lv : Int)), (17, 1, lcCode s.sys.lc), (20, 4, dur), (24, 8, expire)]

/-- What the transition to RETURNED erases (18 R486). -/
def eraseReturned (s : State) : State :=
  let s := setImg (setImg s 4 0 { erased := true }) 4 1 { erased := true }
  let s := (s.onField fun f => { f with patternNor := none }).onCan fun c => { c with stored := {} }
  let s := s.onSafety fun y => { y with
    core := { y.core with image := [], cfg := {} }, scarp := { y.scarp with image := [], cfg := {} }, password := none }
  { (s.onTime fun t => { t with leaps := [] }) with nor := {} }

/-- Slot 0 of a key is fused from the token's payload (18 R485). -/
def fuseKey (s : State) (k off : Nat) (r : Request) : State :=
  s.onSys fun y => { y with keys := tabMod y.keys {} k fun x =>
    { x with programmed := x.programmed ||| 1, hashes := tabSet x.hashes 0 (leAt (rqBytes r off 48) 0 48) } }

/-- A lifecycle transition, which ends in a debug reset (18 R485, R486, R495). -/
def changeLifecycle (s : State) (r : Request) (target : Nat) : State :=
  let was := lcCode s.sys.lc
  let s := match target with
    | 1 => fuseKey (fuseKey s 4 128 r) 5 176 r
    | 3 => eraseReturned s
    | _ => s
  let lc : Lifecycle := match target with | 1 => .provisioned | 2 => .field | _ => .returned
  debugReset (s.onSys fun y => { y with lc }) 3 [bootDebug 6 target was]

/-- DEBUG_AUTH (18 R489, R490, R496): a nonce, or a token checked. -/
def execDebugAuth (r : Request) (s : State) : Host.Outcome State Fault Refusal :=
  let step := rq r 16 1
  let a : AuthAsk := { purpose := rq r 17 1, level := rq r 18 1, target := rq r 19 1 }
  .next (serve s r 0x7F10 true
    (firstBad [(16, decide (step ≤ 1)), (17, decide (a.purpose ≤ 2)), (18, a.purpose != 0 || a.level == 1 || a.level == 2),
               (19, a.purpose == 0 || decide (1 ≤ a.target ∧ a.target ≤ (if a.purpose = 1 then 3 else 4))),
               (24, decide (rq r 24 1 ≤ 1))]) [] fun r s =>
      if s.dbg.lockout then refused s r (min max32 ((s.dbg.lockEnd - s.time.now) / 1000))
      else if s.pow.mode = 1 then refused s r
      else if step = 0 then
        let (k, s) := draw s
        let n := Config.nonce k % 2 ^ 256
        ok (s.onDbg fun d => { d with nonce := some n }) r [(16, 32, (n : Int))]
      else
        let good := authOk s r a
        let s := s.onDbg fun d => { d with nonce := none }
        if !good then authDenied s r
        else if !authConditions s r a then refused s r
        else if a.purpose = 1 then changeLifecycle s r a.target
        else openDebug s r a)

/-- DEBUG_CLOSE (18 R494, R499): the holder ends its session; weavers that were halted are reloaded at the next release
phase, with which the close completes; a close that leads to a debug reset has no completion. -/
def execDebugClose (r : Request) (s : State) : Host.Outcome State Fault Refusal :=
  .next (serve s r 0x7F11 true none [] fun r s =>
    if s.dbg.level = .closed then ok s r
    else if s.dbg.holder ≠ r.part then denied s r
    else if s.dbg.level = .intrusive ∧ s.dbg.safetyHalted then endSession s 1
    else
      let s := endSession s 1
      if s.dbg.reload = 0 then ok s r else s.onDbg fun d => { d with closing := d.closing ++ [r] })

/-- DEBUG_SESSION_EXPIRY (18 R491). -/
def execDebugSessionExpiry (s : State) : Host.Outcome State Fault Refusal := .next (endSession s 2)

/-- NONCE_EXPIRY (18 R489). -/
def execNonceExpiry (s : State) : Host.Outcome State Fault Refusal := .next (s.onDbg fun d => { d with nonce := none })

/-- AUTH_LOCKOUT_END (18 R489). -/
def execAuthLockoutEnd (s : State) : Host.Outcome State Fault Refusal :=
  .next (s.onDbg fun d => { d with lockout := false, denied := 0, lockEnd := 0 })

/-- JTAG_INSTRUCTION (18 R497): 0 BYPASS, 1 IDCODE, 2 DEBUG; 3 SAMPLE, 4 PRELOAD and 5 EXTEST only in BLANK and RETURNED
during an INTRUSIVE session; every other code selects BYPASS. IDCODE returns the part number and the step (00 R5). -/
def execJtagInstruction (code : Nat) (s : State) : Host.Outcome State Fault Refusal :=
  let scan := (s.sys.lc = .blank ∨ s.sys.lc = .returned) ∧ s.dbg.level = .intrusive
  .next (s.onSys fun y => { y with
    jtag := if code ≤ 2 ∨ (code ≤ 5 ∧ scan) then code else 0, idcode := if code = 1 then identWord s 0 / 256 else y.idcode })

end Sys2Proof.Machine
end

