-- ==== Sys2Proof/Machine/Multi.lean ====
section
/-! DEFINITION. The commands between modules (14): side-link frames, trunk slots, PTP, loss of a reference, zone records. -/
namespace Sys2Proof.Machine

/-- SIDE_RECORD_FRAME_RX (14 R397, R399, R400, R403): the records of a frame whose CRC holds; `m` is the own measurement. -/
def execSideRecordFrameRx (link member : Nat) (m : Int) (crcOk : Bool) (recs : List TrunkRec) (s : State) :
    Host.Outcome State Fault Refusal :=
  .next (if link < 2 ∧ (s.link link).up ∧ crcOk then
      (s.onLink link fun l => { l with m := m }).each recs (takeRecord (.side link) member)
    else s)

/-- BULK_FRAME_RX (14 R399): what the frame carries is taken by CHECKPOINT_RX, JOURNAL_ENTRY_RX and REJOIN_COPY_DONE. -/
def execBulkFrameRx (link : Nat) (kind : BulkKind) (s : State) : Host.Outcome State Fault Refusal :=
  .next (if link < 2 ∧ (s.link link).up then
      s.onLink link fun l => { l with
        bulk := tabMod l.bulk 0 (match kind with | .checkpoint => 0 | .journal => 1 | .configCopy => 2) (· + 1) }
    else s)

/-- TRUNK_SLOT_RX (14 R402, R403): the records of another member's collect slot. -/
def execTrunkSlotRx (ring member : Nat) (recs : List TrunkRec) (s : State) : Host.Outcome State Fault Refusal :=
  .next (if (s.ring ring).cfg.mode = 1 ∧ ringLive (s.ring ring) then s.each recs (takeRecord (.ring ring) member) else s)

/-- PTP_MESSAGE (14 R406, R549): the master disciplines its calendar time and learns TAI − UTC. -/
def execPtpMessage (p : PtpMsg) (s : State) : Host.Outcome State Fault Refusal :=
  .next (if s.time.isMaster then
      let s := setTime s fun t => { t with ptp := true, tstate := 3, offset := p.offsetNs, err := roundDiv (p.offsetNs * 100) 128 }
      let s := if p.utcValid then learnUtc s p.utcOff else s
      match p.leap with
      | some l => if p.utcValid then addLeap s l else s
      | none => s
    else s)

/-- PTP_UNAVAILABLE (14 R406, R411, R421): the master falls back to its RTC. -/
def execPtpUnavailable (s : State) : Host.Outcome State Fault Refusal :=
  .next (if s.time.isMaster ∧ s.time.ptp then setTime s fun t => { t with ptp := false, tstate := 4, err := 0 } else s)

/-- TIME_SOURCE_LOSS (14 R409, R421): nothing from the reference for 32 cycles; another is chosen, or the module runs free. -/
def execTimeSourceLoss (s : State) : Host.Outcome State Fault Refusal :=
  .next (if s.time.src = .none ∨ s.time.src = .self then s
    else chooseSource (s.onTime fun t => { t with heard := t.heard.filter fun h => h.src != t.src || h.member != t.srcMember }))

/-- BACKUP_MASTER_TAKEOVER (14 R406, R421): no TIME record naming the master for 1 s; the backup acts as master. -/
def execBackupMasterTakeover (s : State) : Host.Outcome State Fault Refusal :=
  let m := s.sys.manifest
  .next (if m.backup ≠ 0 ∧ m.backup = m.member ∧ ¬ s.time.isMaster then actMaster s else s)

/-- ZONE_DOWN_MISSING (14 R416): a zone axis keeps its share in two windows, then uses 0. -/
def execZoneDownMissing (axis : Nat) (s : State) : Host.Outcome State Fault Refusal :=
  let c := dChan (s.axis axis).desc
  .next (if (s.axis axis).state = .unloaded ∨ dRef (s.axis axis).desc ≠ 1 ∨ c < 0x40 then s
    else
      let n := tabGet s.multi.downMiss 0 axis + 1
      let s := s.onMulti fun m => { m with downMiss := tabSet m.downMiss axis n, upFlag := tabSet m.upFlag (c - 0x40) true }
      if 3 ≤ n then s.onAxis axis fun x => { x with shareNext := { x.shareNext with force := 0 } } else s)

/-- ZONE_UP_MISSING (14 R416): two consecutive ZONE-UP records of a partner are missing or flagged; its segments are missing. -/
def execZoneUpMissing (shaft partner : Nat) (s : State) : Host.Outcome State Fault Refusal :=
  .next (if tabHas s.sys.manifest.zonePartners (8 * shaft + partner) ∧ partner < 8 then
      onZoneUp s (8 * shaft + partner) fun z => { z with bad := max 2 (z.bad + 1), missing := true }
    else s)

/-- SIDE_LINK_DOWN (14 R397, R409): records stop and a reference through the link is replaced; the loss is counted. -/
def execSideLinkDown (link : Nat) (s : State) : Host.Outcome State Fault Refusal :=
  .next (if link < 2 ∧ (s.link link).up then
      let s := bump (s.onLink link fun l => { bulk := l.bulk }) (cSide link 6)
      let s := s.onTime fun t => { t with heard := t.heard.filter fun h => h.src != .side link }
      if s.time.src = .side link then chooseSource s else s
    else s)

end Sys2Proof.Machine
end

