-- ==== Sys2Proof/Machine/Power.lean ====
section
/-! DEFINITION. Meanings of the power commands and of the moments of a level change, of the entry into S3 and of the return
(16). -/
namespace Sys2Proof.Machine

/-- POWER_STATUS (16 R455): words 4000h to 4058h. -/
def execPowerStatus (r : Request) (s : State) : Host.Outcome State Fault Refusal :=
  .next (serve s r 0x6001 true none [] fun r s =>
    ok s r ((List.range 23).map fun i => (16 + 4 * i, 4, ((powerWord s (0x4000 + 4 * i) : Nat) : Int))) 0 1)

/-- POWER_LEVEL_REQUEST (16 R439, R453): executed, or waiting behind the change in progress. -/
def execPowerLevelRequest (r : Request) (s : State) : Host.Outcome State Fault Refusal :=
  .next (serve s r 0x6010 true (firstBad [(16, rq r 16 1 != 0), (17, decide (rq r 17 1 ≤ 3))]) [] fun r s =>
    if s.pow.change.isSome then s.onPow fun w => { w with levelQ := w.levelQ ++ [r] } else runLevel s r)

/-- A request for an island (16 R443, R454, 18 R493). -/
def sleepIsland (s : State) (r : Request) (i st : Nat) : State :=
  if tabGet s.pow.sleep 0 i = st then ok s r [(16, 1, (st : Int))] (s.time.cycle % 4294967296)
  else if i < 8 ∧ basketHalted s i then powRefused s r 6 7 i
  else if st ≠ 0 ∧ ¬ maySleep s i then powRefused s r 2 7 i
  else s.onPow fun w => { w with islands := w.islands ++ [(r, i, st)] }

/-- A request for S3 (16 R444, R445). -/
def sleepModule (s : State) (r : Request) : State :=
  if s.pow.mode ≠ 0 then ok s r
  else
    match s3Refuser s (bitAt (rq r 19 1) 0) with
    | some k => powRefused s r k 3 0xFF
    | none => s3Stage1 (ok s r) (rq r 19 1)

/-- POWER_SLEEP_REQUEST (16 R454). -/
def execPowerSleepRequest (r : Request) (s : State) : Host.Outcome State Fault Refusal :=
  let t := rq r 16 1
  let i := rq r 17 1
  let st := rq r 18 1
  .next (serve s r 0x6011 true
    (firstBad [(16, decide (t ≤ 2)), (17, t != 0 || decide (i ≤ 7)), (18, if t = 2 then st == 3 else decide (st ≤ 2))]) [] fun r s =>
      match t with
      | 0 => sleepIsland s r i st
      | 1 => sleepIsland s r 8 st
      | _ => sleepModule s r)

/-- PMBUS_ACK (16 R440). -/
def execPmbusAck (basket : Nat) (s : State) : Host.Outcome State Fault Refusal := .next (ackRail s basket)

/-- PMBUS_TIMEOUT (16 R441, R445, R449). -/
def execPmbusTimeout (basket : Nat) (s : State) : Host.Outcome State Fault Refusal := .next (railTimeout s basket)

/-- S3_STAGE_END (16 R445, R446). -/
def execS3StageEnd (flushDone : Bool) (s : State) : Host.Outcome State Fault Refusal :=
  .next (if s.pow.mode = 1 ∧ ¬ s.pow.asleep then endStage s flushDone else s)

/-- S3_WAKE (16 R446, R448): a ring port, an Ethernet port that the request enabled, a CAN channel with a wake mode. -/
def execS3Wake (src : WakeSrc) (s : State) : Host.Outcome State Fault Refusal :=
  .next (match src with
    | .ring _ => s3Wake s 1 0x10
    | .ethernet p => if s.pow.flags.getLsbD (p + 1) ∧ p < 2 then s3Wake s 2 0x11 else s
    | .can c => if (s.ch c).wake.wmode ≠ 0 then s3Wake (s.onCh c fun x => { x with woken := true }) 3 0x12 else s)

/-- S3_RAILS_UP (16 R449): a digest that differs is a fatal controller fault. -/
def execS3RailsUp (digestsMatch : Bool) (s : State) : Host.Outcome State Fault Refusal :=
  .next (if s.pow.mode ≠ 2 then s else if digestsMatch then railsUp s else ctlReset s 5)

/-- S3_RETURN_CREEL_OPEN (16 R449, R450, R456): Creel is open, STAGE 5; the return is reported, then what the entry held. -/
def execS3ReturnCreelOpen (us : Nat) (s : State) : Host.Outcome State Fault Refusal :=
  .next (if s.pow.mode ≠ 2 then s
    else
      let (k, s) := draw s
      let s := (setStage s 5 (Config.estimate k)).onSys fun y => { y with creel := true, ethOn := true }
      let held := s.pow.held
      let s := s.onPow fun w => { w with mode := 0, returnUs := min us max32, held := [] }
      (powEvent s 5 0xFF (min us max32)).each held raise)

end Sys2Proof.Machine
end

