-- ==== Sys2Proof/Machine/Recorder.lean ====
section
/-! DEFINITION. Meanings of the recorder's commands (17). -/
namespace Sys2Proof.Machine

/-- REC_STATUS (17 R474). -/
def execRecStatus (r : Request) (s : State) : Host.Outcome State Fault Refusal :=
  .next (serve s r 0x7001 true none [] fun r s =>
    let c := s.cairn
    let n := (usableSectors s).length
    ok s r [(16, 4, (c.newest : Int)), (20, 4, c.oldest), (24, 4, c.spill), (28, 4, c.mirror), (32, 4, c.lost),
      (36, 4, c.drop), (40, 1, c.trace.mode), (41, 1, c.holds.length), (42, 2, c.trace.dec), (44, 2, c.trace.axes.length),
      (46, 1, n), (47, 1, ((64 - n : Nat) : Int)), (48, 8, ((((c.stored.getLast?).map (·.time)).getD 0 : Nat) : Int)),
      (56, 4, c.traceDrop), (60, 4, ((c.sectors.foldl (fun m x => max m x.2.erases) 0 : Nat) : Int))])

/-- STORE_HEALTH (17 R470, R474). -/
def execStoreHealth (r : Request) (s : State) : Host.Outcome State Fault Refusal :=
  let n := rq r 16 1
  .next (serve s r 0x7002 true (firstBad [(16, decide (n ≤ 3))]) [] fun r s =>
    let d := s.drive n
    ok s r [(16, 1, (d.state : Int)), (17, 1, d.pct), (18, 1, d.spare), (20, 8, d.capacity), (28, 8, d.written),
      (36, 4, d.mediaErr), (40, 4, d.p99), (44, 4, d.slow99), (48, 4, d.retired), (52, 4, d.verifyFail),
      (56, 4, s.cairn.slowProg)])

/-- The trigger a request describes (17 R473). -/
def triggerOfReq (r : Request) : Trigger :=
  { source := rq r 20 1, code := rq r 21 1, suppress := bitAt (rq r 22 1) 0, hold := bitAt (rq r 22 1) 1
    pre := clampN 0 600 (rq r 24 2), post := clampN 0 600 (rq r 26 2), days := clampN 1 90 (rq r 28 1)
    sels := (List.range (clampN 0 16 (rq r 23 1))).map fun i => BitVec.ofNat 16 (rq r (32 + 2 * i) 2) }

/-- Section 0 of rec.trigger.set (17 R462, R473): the trigger of a pair is set and stored. -/
def setTrigger (s : State) (r : Request) : State :=
  let g := triggerOfReq r
  if g.suppress ∧ alwaysRecorded g.source then refused s r
  else
    let l := (s.cairn.triggers.filter fun x => !(x.source == g.source && x.code == g.code)) ++ [g]
    let s := store (s.onRec fun c => { c with triggers := l }) (.triggers l)
    ok s r ([(16, 1, 0), (20, 1, (g.source : Int)), (21, 1, g.code), (22, 1, b2n g.suppress + 2 * b2n g.hold),
      (23, 1, g.sels.length), (24, 2, g.pre), (26, 2, g.post), (28, 1, g.days)] ++
      (List.range g.sels.length).map fun i => (32 + 2 * i, 2, (((g.sels.getD i 0).toNat : Nat) : Int)))

/-- Axes a request selects; bits of axes without a descriptor are ignored (17 R473). -/
def tracedAxes (s : State) (r : Request) : List Nat :=
  (List.range 1024).filter fun a => bitAt (rq r (24 + a / 8) 1) (a % 8) && (s.axis a).hasMaster

/-- Section 1 of rec.trigger.set (17 R473): the setting waits for the release phase. -/
def setTrace (s : State) (r : Request) : State :=
  let mode := rq r 20 1
  let none_ := (readyDrives s).isEmpty
  if (mode = 1 ∧ anyWorn s) ∨ (!none_ && !drivesMeet s) ∨ (none_ ∧ mode ≠ 0) then refused s r
  else
    s.onRec fun c => { c with tracePend := c.tracePend ++
      [(r, { mode, dec := clampN 2 256 (rq r 22 2), axes := tracedAxes s r })] }

/-- REC_TRIGGER_SET (17 R462, R465, R473). -/
def execRecTriggerSet (r : Request) (s : State) : Host.Outcome State Fault Refusal :=
  let sec := rq r 16 1
  let v := rq r 20 1
  .next (serve s r 0x7010 true
    (firstBad [(16, decide (sec ≤ 1)), (20, if sec = 0 then decide (1 ≤ v ∧ v ≤ 0x10) else sec != 1 || decide (v ≤ 2))])
    (if sec = 0 then clampedN 23 0 16 (rq r 23 1) ++ clampedN 24 0 600 (rq r 24 2) ++ clampedN 26 0 600 (rq r 26 2) ++
      clampedN 28 1 90 (rq r 28 1) else clampedN 22 2 256 (rq r 22 2)) fun r s => if sec = 0 then setTrigger s r else setTrace s r)

/-- TIME of a head slot. -/
def slotTime : RecSlot → Option Nat
  | .head r => some r.time
  | .ext _ _ _ => none

/-- A list without its front up to the first element that qualifies. -/
def dropUntil {α : Type} (f : α → Bool) : List α → List α
  | [] => []
  | x :: r => if f x then x :: r else dropUntil f r

/-- Pages of every ready drive, in rising page number, put in one at a time. -/
def insertPage (p : Nat × List RecSlot) : List (Nat × List RecSlot) → List (Nat × List RecSlot)
  | [] => [p]
  | q :: r => if p.1 ≤ q.1 then p :: q :: r else q :: insertPage p r

/-- The event pages of the store, in rising page number: the newest 64 GiB of each drive (17 R469). -/
def storePages (s : State) : List (Nat × List RecSlot) :=
  ((readyDrives s).flatMap fun n => (s.drive n).pages.take 16777216).foldl (fun l p => insertPage p l) []

/-- Event slots of the store from a SEQ or a TIME on (17 R458, R467): for a SEQ, from the newest page that holds it. -/
def storeSlots (s : State) (mode seq t : Nat) : List RecSlot :=
  let ps := storePages s
  let all := ps.flatMap (·.2)
  if mode = 1 then dropUntil (fun x => (slotTime x).any fun v => decide (t ≤ v)) all
  else
    match ps.reverse.find? fun p => p.2.any fun x => slotSeq x == seq with
    | some p => dropUntil (fun x => slotSeq x == seq) ((ps.filter fun q => decide (p.1 ≤ q.1)).flatMap (·.2))
    | none => dropUntil (fun x => decide (seq ≤ slotSeq x)) all

/-- Every `step`-th element of a list. -/
def everyNth {α : Type} (step : Nat) : Nat → List α → List α
  | _, [] => []
  | 0, x :: r => x :: everyNth step (step - 1) r
  | k + 1, _ :: r => everyNth step k r

/-- Stored rows of an axis from a calendar time on, each with its cycle (17 R467). -/
def storeRows (s : State) (a t step : Nat) : List (Nat × TraceRow) :=
  (everyNth step 0 ((s.cairn.stored.reverse.filter fun c => decide (t ≤ c.time)).filterMap fun c =>
    (c.rows.find? fun x => x.axis == a).map fun x => (c.cycle, x))).take 126

/-- Content is staged into a partition's window (17 R467, R474). -/
def stageWindow (s : State) (r : Request) (source first n : Nat) (bytes : List Byte) (more : List (Nat × Nat × Int)) : State :=
  let s := s.onPstat r.part fun t => { t with winSource := source, winValid := n, staged := bytes }
  ok s r ([(16, 1, (source : Int)), (17, 1, rq r 17 1)] ++ more ++ [(36, 4, (first : Int)), (40, 1, n)])

/-- SEQ of the first head in the ring with TIME at or after `t`, the next SEQ to come when there is none (17 R474). -/
def ringAfter (s : State) (t : Nat) : Nat :=
  let l := s.cairn.ring.filterMap fun p => match p.2 with
    | .head r => if t ≤ r.time then some r.seq else none
    | _ => none
  match l with
  | [] => s.cairn.next
  | q :: r => r.foldl (fun a b => if laterSeq a b = b then a else b) q

/-- REC_CURSOR_SET (17 R463, R467, R474). -/
def execRecCursorSet (r : Request) (s : State) : Host.Outcome State Fault Refusal :=
  let src := rq r 16 1
  let mode := rq r 17 1
  let a := rq r 18 2
  let t := rq r 24 8
  let step := clampN 1 1048576 (rq r 32 4)
  .next (serve s r 0x7011 (src == 0 || decide (2 < src) || !(readyDrives s).isEmpty)
    (firstBad [(16, decide (src ≤ 2)), (17, if src = 2 then mode == 1 else decide (mode ≤ 1)),
               (18, src != 2 || s.cairn.trace.axes.contains a)])
    (if src = 2 then clampedN 32 1 1048576 (rq r 32 4) else []) fun r s =>
      if src = 0 then
        let q := if mode = 0 then rq r 20 4 else ringAfter s t
        let s := s.onPstat r.part fun p => { p with cursor := q, winSource := 0 }
        ok s r [(16, 1, 0), (17, 1, (mode : Int)), (20, 4, rq r 20 4), (24, 8, t), (36, 4, q), (40, 1, 63)]
      else if src = 1 then
        let l := (storeSlots s mode (rq r 20 4) t).take 63
        stageWindow s r 1 ((l.head?.map slotSeq).getD 0) l.length (l.flatMap slotBytes) [(20, 4, (rq r 20 4 : Int)), (24, 8, t)]
      else
        let l := storeRows s a t step
        stageWindow s r 2 ((l.head?.map (·.1)).getD 0 % 4294967296) l.length (l.flatMap fun x => rowBytes x.2)
          [(18, 2, (a : Int)), (24, 8, t), (32, 4, step)])

/-- What a memory fault counts beside its event (19 R502, 01 R18, R19). A corrected error, which makes no record, is given as
an event of source 03h with CODE 00h and its region 0–7 as SUBJECT (DESIGN CHOICE 76). -/
def countMemory (s : State) (e : Event) : State :=
  if e.source ≠ 3 then s
  else if e.code = 0 then bump s (cMem (e.subject % 8))
  else bump s (cMem (if e.code = 1 then 8 else 9))

/-- REC_EVENT_INTAKE (17 R457, 02 R544): an event of a source that no command stands for joins the intake; the oldest entry
leaves it, is posted, and is recorded with the calendar time of receipt. -/
def execRecEventIntake (timeNs : Nat) (ext : Option Event) (s : State) : Host.Outcome State Fault Refusal :=
  let s := match ext with
    | some e => if e.source = 3 ∧ e.code = 0 then countMemory s e else raise (countMemory s e) e
    | none => s
  .next (if !s.cairn.running then s
    else match s.cairn.intake with
      | [] => s
      | e :: rest => takeEvent (s.onRec fun c => { c with intake := rest }) timeNs e)

/-- REC_SEAL_TIMER (17 R461). -/
def execRecSealTimer (s : State) : Host.Outcome State Fault Refusal := .next (sealOpen s)

/-- REC_PAGE_SPILL (17 R469): the waiting slots, 63 at most, go to the drive whose turn it is; staged rows are streamed. -/
def execRecPageSpill (drive : Nat) (s : State) : Host.Outcome State Fault Refusal :=
  .next (if turnDrive s = some drive then spillTrace (spillPage s drive) drive else s)

/-- NVME_FLUSH_TIMER (17 R468). -/
def execNvmeFlushTimer (s : State) : Host.Outcome State Fault Refusal := .next (flushAll s)

/-- NVME_FLUSH_DONE (17 R468): the slots written before the Flush count in REC.SPILL.SEQ. -/
def execNvmeFlushDone (drive : Nat) (s : State) : Host.Outcome State Fault Refusal :=
  let d := s.drive drive
  .next (if d.flushing then
      (s.onDrive drive fun d => { d with flushing := false, flushSeq := 0 }).onRec fun c => { c with
        spill := if d.flushSeq = 0 then c.spill else if c.spill = 0 then d.flushSeq else laterSeq c.spill d.flushSeq }
    else s)

/-- NVME_WRITE_DONE (17 R470): the oldest write of a drive completes; on a worn drive `ok` is the comparison of what is read
back. A mismatch is tried once more; a write error, or a second mismatch, retires the stripe and the page is written again. -/
def execNvmeWriteDone (drive us : Nat) (ok : Bool) (s : State) : Host.Outcome State Fault Refusal :=
  let d := s.drive drive
  .next (match d.writing with
    | [] => s
    | p :: rest =>
      let s := timeWrite s drive us
      if ok then
        s.onDrive drive fun d => { d with
          writing := rest, unflushed := d.unflushed ++ [p], pages := p :: d.pages, retried := false
          stripe := if (d.pages.length + 1) % 1024 = 0 then nextStripe d else d.stripe }
      else if d.state = 2 then
        let s := bump (s.onDrive drive fun d => { d with verifyFail := satAdd max32 d.verifyFail 1 }) (cRec 8)
        if d.retried then retireStripe s drive else s.onDrive drive fun d => { d with retried := true }
      else retireStripe s drive)

/-- SMART_POLL (17 R470): wear is read; warnings from 80 % in steps of 5 %, and above 100 % the drive is worn. -/
def execSmartPoll (drive : Nat) (log : SmartLog) (s : State) : Host.Outcome State Fault Refusal :=
  let d := s.drive drive
  let pct := min 255 log.pctUsed
  .next (if !driveReady d then s
    else
      let s := s.onDrive drive fun d => { d with
        pct, spare := log.spare, written := log.unitsWritten * 512000, mediaErr := log.mediaErr % 4294967296 }
      let s := if wearSteps d.pct < wearSteps pct then recEvent s 1 drive pct else s
      if 100 < pct ∧ d.state = 1 then
        reduceTrace (recEvent (s.onDrive drive fun d => { d with state := 2 }) 2 drive pct) drive
      else s)

/-- DRIVE_ATTACH (17 R468, R469, 15 R433): from the release of the root ports on, a drive of 0.5 to 16 TB is taken; one
whose header is absent or foreign is formatted. -/
def execDriveAttach (drive : Nat) (info : DriveInfo) (s : State) : Host.Outcome State Fault Refusal :=
  .next (if !s.sys.rootPorts ∨ 3 < drive ∨ info.capacity < 500000000000 ∨ 16000000000000 < info.capacity then s
    else
      let own := info.headerSerial == some Config.serial
      let s := if own then s else s.onRec fun c => { c with stored := c.stored.filter fun t => t.drive != drive }
      let s := s.onDrive drive fun d =>
        if own then { d with state := if 100 < d.pct then 2 else 1, capacity := info.capacity, stripes := info.stripes,
                             mbs := info.writeMBs }
        else { state := 1, capacity := info.capacity, stripes := info.capacity / 4194304, mbs := info.writeMBs,
               slow99 := d.slow99, verifyFail := d.verifyFail }
      if own then s else recEvent s 0x0D drive ((info.capacity / 1000000000 : Nat) : Int))

/-- DRIVE_FAIL (17 R470). -/
def execDriveFail (drive reason : Nat) (s : State) : Host.Outcome State Fault Refusal :=
  .next (if driveReady (s.drive drive) then failDrive s drive reason else s)

/-- MIRROR_PROGRAM (17 R471). -/
def execMirrorProgram (pulses : Nat) (readBackOk : Bool) (s : State) : Host.Outcome State Fault Refusal :=
  .next (programPage s pulses readBackOk)

/-- TRACE_HOLD_EXPIRY (17 R466): a hold has reached its HOLDDAYS. -/
def execTraceHoldExpiry (hold : Nat) (s : State) : Host.Outcome State Fault Refusal :=
  .next (s.onRec fun c => { c with holds := c.holds.eraseIdx hold })

end Sys2Proof.Machine
end

