-- ==== Sys2Proof/Machine/Startup.lean ====
section
/-! DEFINITION. Start-up from power good to the first motion: reset releases, verified images, restored configuration,
handshake, weavers, Creel (15 R422 to R434, R550). -/
namespace Sys2Proof.Machine

/-! ### Stage times and images -/

/-- A stage is reached at a time that the spec gives as a moment (`lo = hi`) or bounds, later when an image fell back
(15 R423, R424). -/
def reachStage (s : State) (n lo hi : Nat) : State :=
  let (k, s) := draw s
  let late := if s.sys.fell then 100 else 0
  setStage s n (lo + Config.estimate k % (hi - lo + late + 1))

/-- The copy of an image that start-up takes: copy 0, else copy 1, else none (15 R425, 18 R479). -/
def bootCopy (s : State) (kind : Nat) : Option Nat :=
  if verifies s kind 0 then some 0 else if verifies s kind 1 then some 1 else none

/-- The record of a fallback to copy 1 (15 R425, 17 R460); `subject` 0 trusted, 1 untrusted, 2 safety. -/
def fellBack (s : State) (copy subject : Nat) : State :=
  if copy = 0 then s else recordOnly (s.onSys fun y => { y with fell := true }) 2 1 subject 0

/-- An image is started: its security version, minimum slot and line are those in use (18 R477, R480). -/
def noteStarted (s : State) (kind copy : Nat) : State :=
  let c := imgAt s kind copy
  s.onSys fun y => { y with startedSvn := tabSet y.startedSvn kind (c.svn, c.minSlot) }

/-- Whether the manifest copies are verified in the lifecycle state in force (18 R479). -/
def usesManifest (s : State) : Bool := s.sys.lc == .provisioned || s.sys.lc == .field

/-- The supervisor partition of the factory manifest (02 R36). -/
def factorySupervisor : Partition :=
  { binding := 0, qrights := 0x1FFFF, arights := 0x1FFFF, mgmt := true, global := true, supervisor := true
    qlimit := 65536, quota := 268435456, rateCeil := 4000000, quantum := 4096 }

/-- The factory manifest: partition 2 as supervisor, no Ethernet partition (02 R36). -/
def factoryManifest : Manifest := { parts := [(2, factorySupervisor)] }

/-- Partitions 0 and 1, which accept no traffic from outside (02 R34). The spec gives none of their attributes but the
binding FFh: every right, and the least of each range otherwise, are the model's (DESIGN CHOICE 75). -/
def internalPartition : Partition :=
  { binding := 0xFF, qrights := 0x1FFFF, arights := 0x1FFFF, mgmt := true, global := true }

/-- The bootstrap mailbox of the supervisor partition: depth 64, key zero, rate 4,000,000, burst 64 (02 R59). -/
def bootMailbox (part : Nat) : Queue :=
  { part, depthLog2 := 6, transport := 0, vector := 0xFF, rate := 4000000, burst := 64, tokens := 64, key := 0 }

/-- The manifest that start-up takes: none when no copy verifies or its content fails (15 R426, 18 R481). -/
def bootManifest (s : State) : Option (Nat × Manifest) :=
  if usesManifest s then
    match bootCopy s 4 with
    | none => none
    | some c => let m := (imgAt s 4 c).manifest.getD factoryManifest; if m.ok then some (c, m) else none
  else some (0, factoryManifest)

/-! ### Supply, resets and the boot ROM -/

/-- POWER_GOOD (15 R422, R428, 20 R523, R524): both dies are in reset, FSEL and the slot straps are read, the cages are powered
in order. -/
def execPowerGood (fselExt : Bool) (slot : BitVec 3) (carrier : Bool) (s : State) : Host.Outcome State Fault Refusal :=
  .next (if s.supply.good ∨ s.supply.thermal then s
    else
      let s := s.onSupply fun u => { u with
        good := true, shed := false, fieldExt := fselExt, f24Low := fselExt && !s.field.on, slot, carrier, cages := repower u.cages }
      let s := s.onSys fun y => { y with
        ctl := .inReset, scarp := .inReset, cause := 1, count := 0
        bootEvents := if y.bootEvents.isEmpty then [{ source := 1, code := 1, subject := 1 }] else y.bootEvents }
      s.onField fun f => { f with on := !fselExt || f.on })

/-- MAINS_IN_RANGE (20 R519, R520): the bulk capacitor charges and the converters start. -/
def execMainsInRange (dc : Bool) (s : State) : Host.Outcome State Fault Refusal :=
  .next (if s.supply.good then s else s.onSupply fun u => { u with mains := true, dcin := dc, bulk := true })

/-- SCARP_RESET_RELEASE (15 R423, 10 R307): the Scarp die runs in the power-up module trip, cause 17h. -/
def execScarpResetRelease (s : State) : Host.Outcome State Fault Refusal :=
  .next (if s.supply.good ∧ s.sys.scarp = .inReset then
      (s.onSys fun y => { y with scarp := .running }).onSafety fun y => { y with scarp := freshChan y.scarp [0x17] }
    else s)

/-- CONTROLLER_RESET_RELEASE (15 R423): the boot ROM starts, STAGE 0. -/
def execControllerResetRelease (s : State) : Host.Outcome State Fault Refusal :=
  .next (if s.supply.good ∧ s.sys.ctl = .inReset ∧ ¬ s.sys.mrst then s.onSys fun y => { y with ctl := .running, stage := 0 } else s)

/-- SEQ of the first record after a start: the newest of the mirror rounded up to a multiple of 2²⁴, plus 2²⁴ (17 R458). -/
def firstSeq (s : State) : Nat :=
  let newest := s.cairn.mirrored.foldl (fun q r => if q = 0 then r.seq else laterSeq q r.seq) 0
  let n := ((newest + 16777215) / 16777216 * 16777216 + 16777216) % 4294967296
  if n = 0 then 1 else n

/-- The newest of the leap-second table held in NOR and the one the trusted image carries: the one whose latest entry is later
(14 R549). -/
def newestLeaps (held image : List Leap) : List Leap :=
  let latest := fun (l : List Leap) => l.foldl (fun m e => max m (e.fromNs + 1)) 0
  if latest held < latest image then image else held

/-- The trusted firmware runs: STAGE 1, calendar time with its leap seconds, Ethernet cages, the recorder with the records of the
reset (14 R549, 15 R423, R429, R433). -/
def trustedRuns (s : State) (copy rtcNs : Nat) : State :=
  let c := imgAt s 1 copy
  let s := s.onSys fun y => { y with fwTrusted := c.line, ethOn := true }
  let s := (noteStarted s 1 copy).onTime fun t =>
    let l := newestLeaps t.leaps c.leaps
    { t with now := rtcNs, leaps := l, utcOff := utcAt l rtcNs t.utcOff }
  let s := s.onRec fun r => { r with running := true, next := firstSeq s }
  let l := s.sys.bootEvents
  let s := (s.onSys fun y => { y with bootEvents := [] }).each l raise
  reachStage (fellBack s copy 0) 1 35 35

/-- TRUSTED_IMAGE_VERIFIED (15 R423, R425, R426): both copies failing stops start-up with BOOTFAIL 01h. -/
def execTrustedImageVerified (rtcNs : Nat) (s : State) : Host.Outcome State Fault Refusal :=
  .next (if s.sys.ctl ≠ .running ∨ s.sys.stage ≠ 0 ∨ s.sys.stopped then s
    else match bootCopy s 1 with
      | some c => trustedRuns s c rtcNs
      | none => bootStop s 1)

/-- A CAN channel in its stored mode and bit timing, receiving; its LFSR is seeded from the serial number (12 R352, R360). -/
def startChannel (s : State) (n : Nat) : State :=
  let (k, s) := draw s
  s.onCan fun c => { c with chans := tabMod c.chans {} n fun x =>
    { cfg := tabGet c.stored.chans {} n, on := true, cnt := x.cnt, lfsr := Config.choice k % 65536 } }

/-- CAN_START (12 R352, 15 R423). -/
def execCanStart (s : State) : Host.Outcome State Fault Refusal :=
  .next (if s.sys.ctl ≠ .running ∨ s.sys.stage ≠ 1 ∨ s.sys.stopped then s else s.each (List.range 8) startChannel)

/-! ### The application starts -/

/-- The partition table, shafts and members of the manifest are in force (02 R34 to R36, R59, 18 R481). -/
def takeManifest (s : State) (m : Manifest) : State :=
  let s := s.onSys fun y => { y with manifest := m }
  s.onHost fun h => { h with
    parts := (0, internalPartition) :: (1, internalPartition) :: m.parts
    queues := match m.parts.find? fun p => p.2.supervisor && p.2.binding == 0 with
      | some p => tabSet h.queues 0x10 (bootMailbox p.1)
      | none => h.queues }

/-- Stored ring configurations are taken and their ports lit: cold start (03 R91, 15 R423, R550). -/
def lightRings (s : State) : State :=
  let s := s.onSys fun y => { y with rate := s.nor.rate }
  s.each s.nor.rings fun s p => s.onRing p.1 fun g => if p.2.mode = 2 then g else listenRing { g with cfg := p.2 }

/-- The safety core starts with the trips the Scarp die holds (10 R283, R308, 15 R433). -/
def startCore (s : State) : State :=
  s.onSafety fun y => { y with core := { freshChan y.core y.scarp.modTrip with shaftTrip := y.scarp.shaftTrip } }

/-- The application and safety firmware run: STAGE 2, rings lit, the first instant taken (15 R423). -/
def applicationRuns (s : State) (app safe : Nat) : State :=
  let a := imgAt s 2 app
  let b := imgAt s 3 safe
  let s := noteStarted (noteStarted (fellBack (fellBack s app 1) safe 2) 2 app) 3 safe
  let s := s.onSys fun y => { y with
    fwApp := a.line, fwSafety := b.line, fwBuild := a.build, appCopy := app, heldApp := some a.digest, timeBase := true }
  let s := startCore (lightRings s)
  let s := s.onRed fun d => { d with role := if s.sys.manifest.partner = 0 then .solo else .undecided }
  let s := if s.sys.manifest.master = s.sys.manifest.member then actMaster s else s
  let (k, s) := draw s
  let c := cycleNs s.sys.rate
  let t0 := s.time.now + 55000000 + (if s.sys.fell then Config.estimate k % 100000001 else 0)
  let s := s.onTime fun t => { t with running := true, next := some ((t0 + c - 1) / c * c) }
  takeInstant (reachStage (s.onCan fun x => { x with drain := true }) 2 90 90) []

/-- APP_START (15 R423, R425, R426, 18 R481). -/
def execAppStart (lpddrTrained : Bool) (s : State) : Host.Outcome State Fault Refusal :=
  .next (if s.sys.ctl ≠ .running ∨ s.sys.stage ≠ 1 ∨ s.sys.stopped then s
    else if !lpddrTrained then bootStop s 2
    else match bootManifest s with
      | none => bootStop s 3
      | some (mc, m) =>
        let (k, s) := draw s
        let s := fellBack (if usesManifest s then noteStarted s 4 mc else s) mc (Config.choice k % 65536)
        let s := takeManifest s m
        match bootCopy s 2, bootCopy s 3 with
        | none, _ => bootStop s 4
        | some _, none => bootStop s 5
        | some a, some b => applicationRuns s a b)

/-- ROOT_PORT_RELEASE (15 R423, R433). -/
def execRootPortRelease (s : State) : Host.Outcome State Fault Refusal :=
  .next (if s.sys.ctl = .running ∧ 2 ≤ s.sys.stage then s.onSys fun y => { y with rootPorts := true } else s)

/-- PCIE_LINK_UP (15 R423, R428): requests to BAR0 are answered, and the host's bus mastering ends the wait of
completions: each queue's burst raises its vector (02 R41). -/
def execPcieLinkUp (s : State) : Host.Outcome State Fault Refusal :=
  .next (if s.sys.ctl = .running then
      let s := s.onSys fun y => { y with pcieUp := true, pcieQuiet := false }
      s.each ((s.host.queues.filter fun x => x.2.unraised).map (·.1)) fun s qn =>
        raiseVector (s.onQueue qn fun q => { q with unraised := false }) (s.queue qn).vector
    else s)

/-! ### Handshake, weavers, Creel -/

/-- Whether the handshake of the channels succeeds (10 R310): self-tests pass, the configuration CRCs are equal and both copies
pass their own check. -/
def handshakeOk (s : State) (selfTestsPass : Bool) : Bool :=
  selfTestsPass && imageCrc s.safety.core.image == imageCrc s.safety.scarp.image && cfgOk s.safety.core.cfg && cfgOk s.safety.scarp.cfg

/-- The handshake fails: module trip 14h in both channels, a change-log entry for CRCs that differ (10 R308, R310, R315). -/
def handshakeFails (s : State) : State :=
  let a := imageCrc s.safety.core.image
  let b := imageCrc s.safety.scarp.image
  let s := tripModule (s.onSafety fun y => { y with crcBad := true }) 0x14
  bootStop (if a = b then s else logWrite s 5 [] a b) 6

/-- The channels' handshake at a start, at the return from S3, or after an abandoned entry (10 R308, R310, 15 R423, 16 R446,
R449). -/
def execSafetyHandshake (selfTestsPass : Bool) (s : State) : Host.Outcome State Fault Refusal :=
  let starting := decide (s.pow.mode = 0) && s.sys.stage == 2
  let returning := decide (s.pow.mode = 2) && s.sys.stage == 2
  let resuming := decide (s.pow.mode = 0) && decide (3 ≤ s.sys.stage) && s.safety.asleep
  let safe := fun (s : State) => (s.onSys fun y => { y with safe := true }).onSafety fun y => { y with asleep := false, crcBad := false }
  .next (if s.sys.ctl ≠ .running ∨ s.sys.stopped ∨ ¬ (starting ∨ returning ∨ resuming) then s
    else if !handshakeOk s selfTestsPass then handshakeFails s
    else if resuming then safe s
    else if returning then (let (k, s) := draw s; safe (setStage s 3 (Config.estimate k)))
    else reachStage (safe s) 3 90 200)

/-- Stored axis descriptors and position tables are the masters (01 R18, 15 R550). -/
def restoreAxes (s : State) : State :=
  let s := s.each s.nor.axes fun s p => s.onAxis p.1 fun x => { x with master := p.2, hasMaster := true }
  s.each s.nor.tables fun s p => s.onAxis p.1 fun x => { x with page0 := p.2.1, page1 := p.2.2.1, page := p.2.2.2 }

/-- Stored shafts: every car STOPPED until its first good rail reading (15 R431). -/
def restoreShafts (s : State) : State :=
  let s := s.each (s.nor.shafts.filter fun p => declaredShaft s p.1) fun s p =>
    (s.onShaft p.1 fun t => { t with cfg := some p.2 }).each (cfgCars p.2) fun s (c : CarCfg) =>
      s.onCar c.car fun _ => { coldCar c with state := .stopped, restored := true }
  let s := s.each s.nor.limits fun s p => s.onShaft p.1 fun t => { t with limits := some p.2 }
  s.each s.nor.energies fun s p => s.onShaft p.1 fun t => { t with energy := some p.2 }

/-- A stored door returns in its stored service state, at rest, edges unseeded, its first close a reference close (15 R431,
08 R239, R246). -/
def restoreDoor (s : State) (d : Nat) (c : DoorDef) : State :=
  let (l0, l1) := tabGet s.nor.learned (none, none) d
  let refs := tabGet s.nor.edgeRefs [] d
  let known := l0.isSome && (c.axis1 == 0xFFFF || l1.isSome)
  let service := known && tabGet s.nor.services false d
  s.onDoor d fun _ =>
    { def_ := some c, service, closePend := service, x0 := { learned := l0 }, x1 := { learned := l1 }
      state := if !known then .notLearned else if service then .held else .outOfService
      edges := (List.range c.edges.length).map fun i => let v := refs.getD i none; { ref := v.getD 0, stored := v } }

/-- Stored doors, with the outputs they own (11 R324). -/
def restoreDoors (s : State) : State :=
  let s := s.each s.nor.doors fun s p => restoreDoor s p.1 p.2
  s.onField fun f => { f with doorOwned := ownedOutputs s }

/-- Stored field configurations, the safe pattern and its time (11 R326, R344, 15 R423). -/
def restoreField (s : State) : State :=
  let s := s.each s.nor.pwms fun s p => landField1 s (.pwm p.1 p.2)
  let s := s.each s.nor.fields landField1
  match s.field.patternNor with
  | some (p, t) => if s.field.on then s.onField fun f => { f with pattern := p, tSilent := t } else s
  | none => s

/-- Stored CAN objects, reference messages, BMS maps and wake settings (12 R352, R366, R370). -/
def restoreCan (s : State) : State :=
  let c := s.can.stored
  let s := s.each c.objs fun s p => landCan1 s (.obj p.1 p.2)
  let s := s.each c.refs fun s p => landCan1 s (.ref p.1 p.2)
  let s := s.each c.bms fun s p => landCan1 s (.bms p.1 p.2)
  s.each c.wakes fun s p => landCan1 s (.wake p.1 p.2)

/-- The stored configurations other than the rings (15 R423, R550). -/
def restoreAll (s : State) : State :=
  let s := restoreCan (restoreField (restoreDoors (restoreShafts (restoreAxes s))))
  s.onRec fun c => { c with trace := s.nor.trace, triggers := s.nor.triggers }

/-- WEAVER_LOAD (01 R22, 15 R423, R426, R550, 16 R449): a weaver that fails its start check stops start-up. -/
def execWeaverLoad (weaversStart : Bool) (s : State) : Host.Outcome State Fault Refusal :=
  .next (if s.sys.ctl ≠ .running ∨ s.sys.stage ≠ 3 ∨ s.sys.stopped then s
    else if s.pow.mode = 2 then (let (k, s) := draw s; setStage (loadMasters s fun _ => true) 4 (Config.estimate k))
    else if s.pow.mode ≠ 0 then s
    else if !weaversStart then bootStop s 7
    else reachStage (loadMasters (restoreAll s) fun _ => true) 4 200 350)

/-- In FIELD the minimum security version and slot of an image that reached STAGE 5 rise, and lower slots are revoked
(18 R477, R480, R500). -/
def raiseMinimums (s : State) (kind : Nat) : State :=
  if s.sys.lc ≠ .field ∨ !tabHas s.sys.startedSvn kind then s
  else
    let (svn, slot) := tabGet s.sys.startedSvn (0, 0) kind
    let k := keyOfKind kind
    let s := if tabGet s.sys.minSvn 0 kind < svn then
        codeEvent (s.onSys fun y => { y with minSvn := tabSet y.minSvn kind svn }) 0x7F 0x0F 9 kind svn
      else s
    if (s.key k).minSlot < slot then
      codeEvent (s.onSys fun y => { y with keys := tabMod y.keys {} k fun x =>
        { x with minSlot := slot, revoked := x.revoked ||| BitVec.ofNat 4 (2 ^ slot - 1) } }) 0x7F 0x0F 9 (0x10 + k) slot
    else s

/-- CREEL_OPEN (02 R48, 12 R352, 15 R423, R426): STAGE 5, unless start-up has stopped in a state in which Creel opens. -/
def execCreelOpen (s : State) : Host.Outcome State Fault Refusal :=
  let held := s.sys.stopped && decide (6 ≤ s.sys.bootFail)
  .next (if s.sys.ctl ≠ .running ∨ s.sys.creel ∨ s.pow.mode ≠ 0 ∨ ¬ (s.sys.stage = 4 ∨ held) then s
    else
      let s := (s.onSys fun y => { y with creel := true }).onCan fun c => { c with tx := true }
      if s.sys.stopped then s else (reachStage s 5 400 400).each [1, 2, 3, 4] raiseMinimums)

/-- MOTION_FLOOR (10 R307, 15 R423): 1,000 ms after the Scarp die's reset release, reset edges accepted before take effect. -/
def execMotionFloor (s : State) : Host.Outcome State Fault Refusal :=
  .next (if s.sys.scarp ≠ .running ∨ s.sys.floor then s
    else
      let s := s.onSys fun y => { y with floor := true }
      s.each [Chan.core, Chan.scarp] fun s c =>
        let l := (s.chan c).edges
        (s.onChan c fun x => { x with edges := [] }).each l fun s e => resetEdge s c e.1 e.2)

/-! ### Reset sources (15 R428, R430) -/

/-- MRST_N_ASSERT (15 R430): the controller die is in reset while it lasts. -/
def execMrstNAssert (s : State) : Host.Outcome State Fault Refusal :=
  .next (if s.sys.mrst then s
    else
      let s := if s.supply.good then ctlReset s 2 else s
      s.onSys fun y => { y with mrst := true })

/-- MRST_N_RELEASE (15 R430): start-up runs anew once the controller die's reset is released. -/
def execMrstNRelease (s : State) : Host.Outcome State Fault Refusal := .next (s.onSys fun y => { y with mrst := false })

/-- SUMMIT_WATCHDOG (15 R428, 18 R493): not while the summit core is halted in a debug session. -/
def execSummitWatchdog (s : State) : Host.Outcome State Fault Refusal :=
  .next (if s.sys.ctl = .running ∧ !s.dbg.chalt.getLsbD 9 then ctlReset s 3 else s)

/-- STAKE_WATCHDOG (13 R382, 15 R428, 18 R493): an application that runs and no stake core of which is halted; a paired ACTIVE
sets FAILED first. -/
def execStakeWatchdog (s : State) : Host.Outcome State Fault Refusal :=
  .next (if s.sys.ctl = .running ∧ s.sys.fwApp ≠ 0 ∧ s.dbg.chalt.toNat % 256 = 0 then ctlReset (setFailed s) 4 else s)

/-- FATAL_CONTROLLER_FAULT (15 R428). -/
def execFatalControllerFault (s : State) : Host.Outcome State Fault Refusal :=
  .next (if s.sys.ctl = .running then ctlReset s 5 else s)

/-- PCIE_HOT_RESET (15 R428): only the endpoint configuration is lost; completions wait until bus mastering is enabled. -/
def execPcieHotReset (s : State) : Host.Outcome State Fault Refusal :=
  .next (s.onSys fun y => { y with pcieUp := false, pcieQuiet := true })

/-! ### sys.app.restart (15 R432) -/

/-- Whether sys.app.restart is refused (15 R432): a car or door in motion, a Thepaif session, a paired module that is neither
FENCED nor WITHDRAWN. -/
def restartRefused (s : State) : Bool :=
  inMotion s || s.doors.any (fun d => d.2.state == .learning) || s.safety.session.isSome ||
  (s.sys.manifest.partner != 0 && s.red.role != .fenced && s.red.role != .withdrawn)

/-- Whether the debug window has written into the application's region of LPDDR5 (01 R18). -/
def appWritten (s : State) : Bool := s.dbg.lpddr.any fun c => decide (8589934592 ≤ c.1 ∧ c.1 < 17179869184)

/-- The application is restarted from a copy, or from the held image (15 R432). -/
def beginRestart (s : State) (r : Request) (copy : Nat) : State :=
  let s := s.onSys fun y => { y with
    restart := some r, appCopy := copy, heldApp := if copy = 2 then y.heldApp else some (imgAt s 2 copy).digest
    fwApp := if copy = 2 then y.fwApp else (imgAt s 2 copy).line, fwBuild := if copy = 2 then y.fwBuild else (imgAt s 2 copy).build }
  s.onCan fun c => { c with drain := false }

/-- SYS_APP_RESTART (15 R432): with both copies failing, the held image is checked against its recorded digest; a difference
resets the controller die with cause 05h. -/
def execSysAppRestart (r : Request) (s : State) : Host.Outcome State Fault Refusal :=
  .next (serve s r 0x0020 true none [] fun r s =>
    if restartRefused s then refused s r
    else match bootCopy s 2 with
      | some 0 => beginRestart s r 0
      | some _ => beginRestart (recordOnly s 2 1 1 0) r 1
      | none =>
        let (k, s) := draw s
        if !appWritten s || Config.deviceOk k then beginRestart (recordOnly s 2 4 1 0) r 2 else ctlReset s 5)

/-- APP_RESTARTED (15 R432, 12 R355): the application serves requests again. -/
def execAppRestarted (timeUs : Nat) (s : State) : Host.Outcome State Fault Refusal :=
  .next (match s.sys.restart with
    | none => s
    | some r =>
      let s := s.onSys fun y => { y with restart := none, appRst := satAdd 65535 y.appRst 1 }
      let s := unseedEdges (s.onCan fun c => { c with drain := true })
      ok s r [(16, 1, (s.sys.appCopy : Int))] (min timeUs max32))

end Sys2Proof.Machine
end

