-- ==== Sys2Proof/Machine/Supply.lean ====
section
/-! DEFINITION. Supply, temperature, cages, storage output and sync (20). -/
namespace Sys2Proof.Machine

/-! ### Input and outputs -/

/-- The field 24 V bus falls: front ends lose their supply, both channels treat the lines as commanded off (20 R525). -/
def fieldFalls (s : State) : State :=
  fieldOff (s.onSupply fun u => { u with f24Low := true, fieldOk := false, fieldLoss := true })

/-- The storage output is off: drives lose their supply (20 R521, R523). -/
def storageOff (s : State) : State := drivesOff (s.onSupply fun u => { u with storOk := false })

/-- POWER_FAIL_WARNING (20 R521, 17 R472). -/
def execPowerFailWarning (s : State) : Host.Outcome State Fault Refusal :=
  .next (if ¬ s.supply.good then s.onSupply fun u => { u with mains := false }
    else
      let s := s.onSupply fun u => { u with mains := false, pfw := true, pfwSeen := true }
      if s.cairn.running then cairnPowerFail s else s)

/-- LOAD_SHED (20 R521): the internal field output and the storage output are switched off. -/
def execLoadShed (s : State) : Host.Outcome State Fault Refusal :=
  .next (if ¬ s.supply.pfw ∨ s.supply.shed then s
    else
      let s := s.onSupply fun u => { u with shed := true }
      storageOff (if s.supply.fieldExt then s else fieldFalls s))

/-- POWER_GOOD_FALL (15 R428, 20 R521): both dies lose their supply. -/
def execPowerGoodFall (s : State) : Host.Outcome State Fault Refusal :=
  .next (if s.supply.good then logicLoss s else s)

/-- MAINS_RETURN (20 R522): the warning clears, shed outputs restart, the trace resumes after a gap. -/
def execMainsReturn (s : State) : Host.Outcome State Fault Refusal :=
  .next (if ¬ s.supply.good ∨ ¬ s.supply.pfw then s
    else
      let shed := s.supply.shed
      let s := s.onSupply fun u => { u with pfw := false, mains := true, shed := false, storOk := u.storOk || shed }
      let s := if shed ∧ ¬ s.supply.fieldExt then s.onField fun f => { f with on := true } else s
      if s.cairn.trace.mode = 0 then s else s.onRec fun c => { c with gap := true })

/-- TEMP_SAMPLE (20 R516, R526): the measured fields; above 85 °C OVERTEMP sets; at 105 °C or 125 °C every output is off. -/
def execTempSample (m : Measures) (s : State) : Host.Outcome State Fault Refusal :=
  .next (if ¬ s.supply.good then s
    else
      let s := s.onSupply fun u => { u with
        base := m.base, die := m.die, volts := m.volts, watts := m.watts, mains := m.mains, dcin := m.dcin, fieldOk := m.fieldOk
        fieldLim := m.fieldLim, storOk := m.storOk, overTemp := u.overTemp || decide (850 < m.base) }
      if 1050 ≤ m.base ∨ 1250 ≤ m.die then logicLoss (s.onSupply fun u => { u with thermal := true }) else s)

/-- THERMAL_RESTART (20 R516): the base plate is at 95 °C with mains in range. -/
def execThermalRestart (s : State) : Host.Outcome State Fault Refusal :=
  .next (if s.supply.thermal ∧ s.supply.mains then s.onSupply fun u => { u with thermal := false } else s)

/-- FIELD_24V_LOSS (20 R525, R526). -/
def execField24vLoss (s : State) : Host.Outcome State Fault Refusal :=
  .next (if s.supply.good then fieldFalls s else s.onField fun f => { patternNor := f.patternNor })

/-- FIELD_24V_RESTORE (20 R525, 11 R320): the lines can be energised again, the front ends rejoin. -/
def execField24vRestore (s : State) : Host.Outcome State Fault Refusal :=
  .next (if s.supply.good then
      (s.onSupply fun u => { u with f24Low := false, fieldOk := true }).onField fun f => { f with on := true }
    else s)

/-! ### Cages (20 R523, R524) -/

/-- A cage in the order of 20 R524; one not listed is empty. -/
def State.cage (s : State) (n : Nat) : Cage := tabGet s.supply.cages {} n
/-- A state with one cage changed. -/
def State.onCage (s : State) (n : Nat) (f : Cage → Cage) : State :=
  s.onSupply fun u => { u with cages := tabMod u.cages {} n f }

/-- mW measured of every cage but one (20 R524). -/
def otherDraw (s : State) (n : Nat) : Nat :=
  s.supply.cages.foldl (fun t p => if p.1 = n ∨ ¬ p.2.powered then t else t + p.2.draw) 0

/-- Limit of a cage in mW: SFP28 cages 0–7, SFP+ cages 8 and 9 (20 R523). -/
def cageLimit (n : Nat) : Nat := if n < 8 then 1500 else 1200

/-- The port of a cage goes dark: a ring port fails as a span (03 R95, 20 R530). -/
def portDark (s : State) (n : Nat) : State := if n < 8 then loseLock s (n / 2) (n % 2 == 1) else s

/-- CAGE_POWER_MEASURE (20 R524): a cage that brings the total above 12 W is switched off again. -/
def execCagePowerMeasure (cage drawMw : Nat) (s : State) : Host.Outcome State Fault Refusal :=
  .next (if 10 ≤ cage ∨ ¬ (s.cage cage).powered then s
    else if 12000 < otherDraw s cage + drawMw then
      portDark ((s.onCage cage fun c => { c with powered := false, draw := 0 }).onSupply fun u => { u with cageOff := true }) cage
    else s.onCage cage fun c => { c with draw := drawMw })

/-- OPTIC_INSERT (20 R524): powered only if the measured total leaves room for the cage's limit. -/
def execOpticInsert (cage : Nat) (s : State) : Host.Outcome State Fault Refusal :=
  .next (if 10 ≤ cage ∨ (s.cage cage).fitted then s
    else s.onCage cage fun _ =>
      { fitted := true, powered := s.supply.good && decide (otherDraw s cage + cageLimit cage ≤ 12000) })

/-- OPTIC_REMOVE (20 R524, R530): the port fails as a span, dark cages are powered again in order. -/
def execOpticRemove (cage : Nat) (s : State) : Host.Outcome State Fault Refusal :=
  .next (if 10 ≤ cage ∨ ¬ (s.cage cage).fitted then s
    else
      let lit := (s.cage cage).powered
      let s := s.onCage cage fun _ => {}
      let s := if lit then portDark s cage else s
      if s.supply.good then s.onSupply fun u => { u with cages := repower u.cages } else s)

/-- CAGE_OVER_LIMIT (20 R523): off until its optic is replaced. -/
def execCageOverLimit (cage : Nat) (s : State) : Host.Outcome State Fault Refusal :=
  .next (if 10 ≤ cage ∨ ¬ (s.cage cage).powered then s
    else portDark ((s.onCage cage fun c => { c with powered := false, draw := 0, blocked := true }).onSupply fun u =>
      { u with cageOff := true }) cage)

/-! ### Storage output and sync -/

/-- STORAGE_OVERCURRENT (20 R523). -/
def execStorageOvercurrent (s : State) : Host.Outcome State Fault Refusal :=
  .next (if s.supply.good then storageOff (s.onSupply fun u => { u with storTrip := true }) else s)

/-- STORAGE_RETRY (20 R523). -/
def execStorageRetry (s : State) : Host.Outcome State Fault Refusal :=
  .next (if s.supply.storTrip then s.onSupply fun u => { u with storTrip := false, storOk := true } else s)

/-- SYNCI_EDGE (20 R526, R527): time-stamped with 4 ns resolution and counted. -/
def execSynciEdge (timeNs : Nat) (s : State) : Host.Outcome State Fault Refusal :=
  .next (if s.sys.ctl = .running then
      s.onSupply fun u => { u with syncTime := timeNs / 4 * 4, syncCount := (u.syncCount + 1) % 4294967296 }
    else s)

end Sys2Proof.Machine
end

