-- ==== Sys2Proof/Machine/System.lean ====
section
/-! DEFINITION. Meanings of the system, partition and queue classes (02 R63 to R66, R546 to R548, 14 R411, 15 R432). -/
namespace Sys2Proof.Machine

/-- SYS_IDENT (02 R63): the identification registers at bytes 16–31. -/
def execSysIdent (r : Request) (s : State) : Host.Outcome State Fault Refusal :=
  .next (serve s r 0x0001 true none [] fun r s =>
    ok s r ((List.range 4).map fun i => (16 + 4 * i, 4, (identWord s i : Int))))

/-- SYS_STATE (02 R63): SYS.STATE at bytes 16–19. -/
def execSysState (r : Request) (s : State) : Host.Outcome State Fault Refusal :=
  .next (serve s r 0x0002 true none [] fun r s => ok s r [(16, 4, (sysStateWord s : Int))])

/-- SRCKIND and SRCPORT of 14 R411. -/
def srcCode (t : TimeSt) : Nat × Nat :=
  match t.src with
  | .ring r => (1, r) | .side n => (2, n) | .self => (if t.tstate = 3 then 3 else 0, 0) | .none => (0, 0)

/-- SYS_TIME_GET (14 R411): the snapshot of the latest instant. -/
def execSysTimeGet (r : Request) (s : State) : Host.Outcome State Fault Refusal :=
  .next (serve s r 0x0003 true none [] fun r s =>
    let t := s.time
    ok s r [(16, 8, (t.now : Int)), (24, 8, t.cycle), (32, 2, t.master), (34, 1, t.depth), (35, 1, t.tstate),
      (36, 2, t.srcMember), (38, 1, (srcCode t).1), (39, 1, (srcCode t).2), (40, 4, t.offset), (44, 2, t.utcOff),
      (48, 4, t.trims.length)])

/-- Whether an event queue of the requesting partition is named at byte 16 (02 R546). -/
def ownEventQueue (s : State) (r : Request) : Bool :=
  let n := rq r 16 4
  liveQueue s n && (s.queue n).event && (s.queue n).part == r.part

/-- Whether a mailbox by its request queue, or an event queue, of the requesting partition is named at byte 16 (02 R547). -/
def ownQueue (s : State) (r : Request) : Bool :=
  let n := rq r 16 4
  liveQueue s n && (s.queue n).part == r.part

/-- Whether an address is unicast (02 R546): neither multicast, broadcast nor unspecified. -/
def isUnicast (a : IpAddr) : Bool :=
  if a.v6 then a.addr != 0 && a.addr / 2 ^ 120 != 255
  else a.addr != 0 && decide (a.addr / 2 ^ 24 < 224)

/-- Whether FAMILY and ADDRESS suit a queue's transport (02 R546). -/
def familySuits (q : Queue) (r : Request) : Bool :=
  let f := rq r 21 1
  if q.transport = 0 then f == 0 else (f == 4 || f == 6) && isUnicast (subAddr r)

/-- SYS_SUBSCRIBE (02 R546); the subscription and its address come into force with the completion (`whenWritten`). -/
def execSysSubscribe (r : Request) (s : State) : Host.Outcome State Fault Refusal :=
  .next (serve s r 0x0010 true none [] fun r s =>
    let cls := rq r 20 1
    let n := rq r 16 4
    let f := rq r 21 1
    if classBit cls < 17 ∧ ¬ (s.part r.part).qrights.getLsbD (classBit cls) then denied s r
    else
      match firstBad [(16, ownEventQueue s r), (20, eventClasses.contains cls), (21, familySuits (s.queue n) r),
                      (22, f == 0 || rq r 22 2 != 0)] with
      | some o => noSuch s r o
      | none =>
        let s := s.onQueue n fun q => { q with classes := q.classes ||| BitVec.ofNat 17 (2 ^ classBit cls) }
        ok s r [(16, 4, (n : Int)), (20, 4, (s.queue n).classes.toNat)])

/-- SYS_UNSUBSCRIBE (02 R546); the subscription ends with the completion (`whenWritten`). -/
def execSysUnsubscribe (r : Request) (s : State) : Host.Outcome State Fault Refusal :=
  let cls := rq r 20 1
  .next (serve s r 0x0011 true (firstBad [(16, ownEventQueue s r), (20, cls == 0xFF || eventClasses.contains cls)]) []
    fun r s =>
      let n := rq r 16 4
      let s := s.onQueue n fun q => { q with
        classes := if cls = 0xFF then 0 else q.classes &&& ~~~ BitVec.ofNat 17 (2 ^ classBit cls) }
      ok s r [(16, 4, (n : Int)), (20, 4, (s.queue n).classes.toNat)])

/-- Queues a partition holds, counted as in 02 R38. -/
def queuesHeld (s : State) (p : Nat) : Nat :=
  (s.host.queues.filter fun x => x.2.part == p).foldl (fun n x => n + if x.2.event then 1 else 2) 0

/-- Ring entries a partition holds, counted as in 02 R38. -/
def entriesHeld (s : State) (p : Nat) : Nat :=
  (s.host.queues.filter fun x => x.2.part == p).foldl (fun n x => n + (if x.2.event then 1 else 2) * depthOf x.2) 0

/-- A value whose little-endian bytes are another's big-endian bytes (IP headers, 00 R8). -/
def swapBytes : Nat → Nat → Nat
  | 0, _ => 0
  | w + 1, v => v / 256 ^ w % 256 + 256 * swapBytes w v

/-- A partition's source filter as part.info returns it: a PCIe partition has none (02 R35, R548). -/
def filterOf (p : Partition) : List IpPrefix × List IpPrefix :=
  if p.binding = 0 then ([], []) else (p.filter6, p.filter4)

/-- Fields of a partition's source filter (02 part.info). -/
def filterFields (p : Partition) : List (Nat × Nat × Int) :=
  (List.range 4).flatMap (fun i => match (filterOf p).1[i]? with
    | some x => [(64 + 20 * i, 16, (swapBytes 16 x.addr : Int)), (80 + 20 * i, 1, x.len)]
    | none => []) ++
  (List.range 4).flatMap (fun i => match (filterOf p).2[i]? with
    | some x => [(144 + 8 * i, 4, (swapBytes 4 x.addr : Int)), (148 + 8 * i, 1, x.len)]
    | none => [])

/-- The partition a part.info names: FFFFh is the issuing one. -/
def partNamed (r : Request) : Nat := if rq r 16 2 = 0xFFFF then r.part else rq r 16 2

/-- PART_INFO (02 R548). -/
def execPartInfo (r : Request) (s : State) : Host.Outcome State Fault Refusal :=
  let n := partNamed r
  .next (serve s r 0x0101 true
    (firstBad [(16, tabHas s.host.parts n && (n == r.part || (s.part r.part).supervisor))]) [] fun r s =>
      let p := s.part n
      ok s r ([(16, 2, (n : Int)), (18, 1, p.binding), (19, 1, b2n p.mgmt + 2 * b2n p.global + 4 * b2n p.supervisor),
        (20, 4, p.qrights.toNat), (24, 4, p.arights.toNat), (28, 4, p.qlimit), (32, 4, p.quota), (36, 4, p.rateCeil),
        (40, 2, p.quantum), (42, 1, (filterOf p).1.length), (43, 1, (filterOf p).2.length), (44, 4, queuesHeld s n),
        (48, 4, entriesHeld s n)] ++ filterFields p) 0 2)

/-- PART_STATS (02 R66). -/
def execPartStats (r : Request) (s : State) : Host.Outcome State Fault Refusal :=
  .next (serve s r 0x0102 true none [] fun r s =>
    let t := s.pstat r.part
    ok s r ((List.range 5).map (fun k => (16 + 8 * k, 8, ((tabGet t.cnt 0 k : Nat) : Int))) ++
      [(56, 2, (t.lastOp : Int)), (58, 2, t.lastOff)]))

/-- The lowest even queue number that is free for two queues, from 12h on (02 R37; which one is the summit core's choice). -/
def freeNumber (s : State) : Nat :=
  (s.host.queues.foldl (fun n x => if x.1 = n then n + 2 else n) 0x12)

/-- QUEUE_CREATE (02 R64, R38). For an event queue, whose RATE and BURST are ignored, the completion returns 0 in both
(DESIGN CHOICE 74). -/
def execQueueCreate (r : Request) (s : State) : Host.Outcome State Fault Refusal :=
  let kind := rq r 16 1
  let tr := rq r 18 1
  let vec := rq r 19 1
  .next (serve s r 0x0110 true
    (firstBad [(16, decide (kind ≤ 1)), (18, decide (tr ≤ 3)), (19, tr != 0 || decide (vec ≤ 63) || vec == 0xFF)]) []
    fun r s =>
      let p := s.part r.part
      let mail := kind == 0
      let dl := clampN 4 16 (rq r 17 1)
      let rate := clampN 16 p.rateCeil (rq r 20 4)
      let burst := clampN 16 (2 ^ dl) (rq r 24 4)
      let req := rq r 32 8
      let cmp := rq r 40 8
      if !(tr == p.binding || (p.binding == 3 && decide (1 ≤ tr))) then denied s r
      else
        let s := noteClamps s r (clampedN 17 4 16 (rq r 17 1) ++
          (if mail then clampedN 20 16 p.rateCeil (rq r 20 4) ++ clampedN 24 16 (2 ^ dl) (rq r 24 4) else []))
        let n := freeNumber s
        if (tr = 0 ∧ (req % 64 ≠ 0 ∨ (mail ∧ cmp % 64 ≠ 0))) ∨
           p.qlimit < queuesHeld s r.part + (if mail then 2 else 1) ∨
           p.quota < entriesHeld s r.part + (if mail then 2 else 1) * 2 ^ dl ∨ 1048574 < n then refused s r
        else
          let (i, s) := draw s
          let key := BitVec.ofNat 64 (Config.key i)
          let q : Queue :=
            { part := r.part, event := !mail, depthLog2 := dl, transport := tr, vector := if tr = 0 then vec else 0xFF,
              rate := if mail then rate else 16, burst := if mail then burst else 16,
              tokens := if mail then burst else 16, key,
              hostReq := if tr = 0 then req else 0, hostCmp := if tr = 0 ∧ mail then cmp else 0 }
          let s := s.onHost fun h => { h with queues := tabSet h.queues n q }
          ok s r [(16, 4, (n : Int)), (20, 1, dl), (24, 4, if mail then rate else 0), (28, 4, if mail then burst else 0),
                  (32, 8, key.toNat)])

/-- A holder that has no queue left loses its session (18 R491). -/
def dropHolder (s : State) (p : Nat) : State :=
  if s.dbg.level ≠ .closed ∧ s.dbg.holder = p ∧ ¬ s.host.queues.any (fun x => x.2.part == p && !x.2.deleting) then
    endSession s 5
  else s

/-- QUEUE_DELETE (02 R65); a partition left with nothing waiting has no deficit (02 R51). -/
def execQueueDelete (r : Request) (s : State) : Host.Outcome State Fault Refusal :=
  .next (serve s r 0x0111 true (firstBad [(16, ownQueue s r)]) [] fun r s =>
    let n := rq r 16 4
    let ev := (s.queue n).event
    let s := s.onQueue n fun q => { q with
      deleting := true, hostRing := [], slots := q.slots.filter fun x => x.phase != .waiting }
    let s := if partWaiting s r.part then s else s.onPstat r.part fun t => { t with deficit := 0 }
    let s := if ev then removeQueue s n else flushQueue s n
    dropHolder (ok s r [(16, 4, (n : Int))]) r.part)

/-- QUEUE_BUCKET_SET (02 R547). RATE and BURST outside their ranges are not counted as clamped when the command names an
event queue and is REFUSED (DESIGN CHOICE 74). -/
def execQueueBucketSet (r : Request) (s : State) : Host.Outcome State Fault Refusal :=
  let n := rq r 16 4
  let ceil := (s.part r.part).rateCeil
  let d := depthOf (s.queue n)
  let ev := (s.queue n).event
  .next (serve s r 0x0112 true (firstBad [(16, ownQueue s r)])
    (if ev then [] else clampedN 20 16 ceil (rq r 20 4) ++ clampedN 24 16 d (rq r 24 4)) fun r s =>
      if ev then refused s r
      else
        let rate := clampN 16 ceil (rq r 20 4)
        let burst := clampN 16 d (rq r 24 4)
        let s := s.onQueue n fun q => { q with rate, burst, tokens := min q.tokens burst }
        ok s r [(16, 4, (n : Int)), (20, 4, rate), (24, 4, burst)])

/-- QUEUE_REKEY (02 R65, R547); the key comes into force with the completion (`whenWritten`). -/
def execQueueRekey (r : Request) (s : State) : Host.Outcome State Fault Refusal :=
  .next (serve s r 0x0113 true (firstBad [(16, ownQueue s r)]) [] fun r s =>
    let n := rq r 16 4
    let (i, s) := draw s
    ok s r [(16, 4, (n : Int)), (32, 8, (BitVec.ofNat 64 (Config.key i)).toNat)])

end Sys2Proof.Machine
end

