-- ==== Sys2Proof/Machine/Timeout.lean ====
section
/-! DEFINITION. A command that is unfinished at its limit (02 R49): its request is answered TIMEOUT wherever it waits, and what
it has begun goes on without a completion. -/
namespace Sys2Proof.Machine

/-- The request of a pair. -/
abbrev reqOf {α : Type} (x : Request × α) : Request := x.1

/-- The requests that wait in the axes, the capture and the rings. -/
def loopReqs (s : State) : List Request :=
  (s.loop.axes.flatMap fun p => p.2.staged.filterMap (·.req) ++ p.2.bulk.map (·.req) ++ p.2.held) ++
  s.loop.capPend.map reqOf ++ (s.rings.flatMap fun p => p.2.cfgPend.map reqOf ++ p.2.cfgWait)

/-- The requests that wait in shafts, cars, doors and dispatch. -/
def motionReqs (s : State) : List Request :=
  (s.motion.shafts.flatMap fun p => p.2.commits.map reqOf ++ p.2.limPend.map reqOf ++ p.2.enPend.map reqOf) ++
  (s.motion.cars.filterMap fun p => p.2.insp.bind (·.req)) ++ (s.doors.flatMap fun p => p.2.commits.map reqOf) ++
  (s.disp.serving.map reqOf).toList ++ s.disp.waiting.map reqOf ++ s.disp.cancels.map reqOf

/-- The requests that wait in the field and CAN islands. -/
def ioReqs (s : State) : List Request :=
  s.field.doPend.filterMap (·.1) ++ s.field.safePend.map reqOf ++ s.field.cfgPend.map reqOf ++ s.can.cfgPend.map reqOf ++
  (s.can.objs.flatMap fun p => p.2.req.toList ++ (p.2.next.bind (·.2)).toList) ++ s.can.chans.filterMap fun p => p.2.recReq

/-- The requests that wait in the rest of the module. -/
def moduleReqs (s : State) : List Request :=
  (s.pow.change.map (·.req)).toList ++ s.pow.levelQ ++ s.pow.islands.map reqOf ++ s.red.request.toList ++ s.sys.restart.toList ++
  s.cairn.tracePend.map reqOf ++ s.ctr.thrPend.map reqOf ++ s.ctr.bwPend.map reqOf ++ s.dbg.closing

/-- Every request that has begun execution and waits for its completion. -/
def waitingReqs (s : State) : List Request := loopReqs s ++ motionReqs s ++ ioReqs s ++ moduleReqs s

/-- The requests of axes, capture and rings changed. -/
def mapLoopReqs (s : State) (f : Request → Request) : State :=
  let s := s.onLoop fun l => { l with
    axes := l.axes.map fun (p : Nat × AxisSt) => (p.1, { p.2 with
      staged := p.2.staged.map fun w => { w with req := w.req.map f }
      bulk := p.2.bulk.map fun w => { w with req := f w.req }
      held := p.2.held.map f })
    capPend := l.capPend.map fun x => (f x.1, x.2) }
  { s with rings := s.rings.map fun (p : Nat × RingSt) =>
      (p.1, { p.2 with cfgPend := p.2.cfgPend.map (fun x => (f x.1, x.2)), cfgWait := p.2.cfgWait.map f }) }

/-- The requests of shafts, cars, doors and dispatch changed. -/
def mapMotionReqs (s : State) (f : Request → Request) : State :=
  let s := s.onMotion fun m => { m with
    shafts := m.shafts.map fun (p : Nat × ShaftSt) => (p.1, { p.2 with
      commits := p.2.commits.map (fun x => (f x.1, x.2)), limPend := p.2.limPend.map (fun x => (f x.1, x.2))
      enPend := p.2.enPend.map fun x => (f x.1, x.2) })
    cars := m.cars.map fun (p : Nat × CarSt) => (p.1, { p.2 with insp := p.2.insp.map fun i => { i with req := i.req.map f } }) }
  let s := s.onDisp fun d => { d with
    serving := d.serving.map (fun x => (f x.1, x.2)), waiting := d.waiting.map (fun x => (f x.1, x.2))
    cancels := d.cancels.map fun x => (f x.1, x.2) }
  { s with doors := s.doors.map fun (p : Nat × DoorSt) => (p.1, { p.2 with commits := p.2.commits.map fun x => (f x.1, x.2) }) }

/-- The requests of the field and CAN islands changed. -/
def mapIoReqs (s : State) (f : Request → Request) : State :=
  (s.onField fun d => { d with
    doPend := d.doPend.map (fun x => (x.1.map f, x.2)), safePend := d.safePend.map (fun x => (f x.1, x.2))
    cfgPend := d.cfgPend.map fun x => (f x.1, x.2) }).onCan fun c => { c with
    cfgPend := c.cfgPend.map (fun x => (f x.1, x.2))
    objs := c.objs.map fun (p : Nat × CanObj) =>
      (p.1, { p.2 with req := p.2.req.map f, next := p.2.next.map fun n => (n.1, n.2.map f) })
    chans := c.chans.map fun (p : Nat × CanChan) => (p.1, { p.2 with recReq := p.2.recReq.map f }) }

/-- The requests of the rest of the module changed. -/
def mapModuleReqs (s : State) (f : Request → Request) : State :=
  let s := s.onPow fun w => { w with
    change := w.change.map (fun c => { c with req := f c.req }), levelQ := w.levelQ.map f
    islands := w.islands.map fun x => (f x.1, x.2) }
  let s := (s.onRed fun d => { d with request := d.request.map f }).onSys fun y => { y with restart := y.restart.map f }
  ((s.onRec fun c => { c with tracePend := c.tracePend.map fun x => (f x.1, x.2) }).onCtr fun c => { c with
    thrPend := c.thrPend.map (fun x => (f x.1, x.2)), bwPend := c.bwPend.map fun x => (f x.1, x.2) }).onDbg fun d =>
    { d with closing := d.closing.map f }

/-- A request is answered no more: its landing writes no completion. -/
def forget (q : Request) (r : Request) : Request := if r = q then { r with queue := journalQueue } else r

/-- COMMAND_TIMEOUT (02 R49): the oldest unfinished command of a queue with a tag completes with TIMEOUT. -/
def execCommandTimeout (queue tag : Nat) (s : State) : Host.Outcome State Fault Refusal :=
  let waits := (waitingReqs s).find? fun r => r.queue == queue && r.tag == tag
  let started := ((s.queue queue).slots.find? fun x => x.phase == .started && x.req.tag == tag).map (·.req)
  .next (match waits, started with
    | some r, _ =>
      let f := forget r
      timedOut (mapModuleReqs (mapIoReqs (mapMotionReqs (mapLoopReqs s f) f) f) f) r
    | none, some r => timedOut s { r with queue }
    | none, none => s)

end Sys2Proof.Machine
end

