-- ==== Sys2Proof/Machine/Dispatch.lean ====
section
/-! DEFINITION. The effect of a command on everything but the queue: one arm per command, each one call of its meaning. -/
namespace Sys2Proof.Machine

def exec (i : Instr) (s : State) : Host.Outcome State Fault Refusal :=
  match i with
  | .powerGood fselExt slot carrier => Sys2Proof.Machine.execPowerGood fselExt slot carrier s
  | .mainsInRange dc => Sys2Proof.Machine.execMainsInRange dc s
  | .scarpResetRelease => Sys2Proof.Machine.execScarpResetRelease s
  | .controllerResetRelease => Sys2Proof.Machine.execControllerResetRelease s
  | .trustedImageVerified rtcNs => Sys2Proof.Machine.execTrustedImageVerified rtcNs s
  | .canStart => Sys2Proof.Machine.execCanStart s
  | .appStart lpddrTrained => Sys2Proof.Machine.execAppStart lpddrTrained s
  | .rootPortRelease => Sys2Proof.Machine.execRootPortRelease s
  | .safetyHandshake selfTestsPass => Sys2Proof.Machine.execSafetyHandshake selfTestsPass s
  | .weaverLoad weaversStart => Sys2Proof.Machine.execWeaverLoad weaversStart s
  | .creelOpen => Sys2Proof.Machine.execCreelOpen s
  | .motionFloor => Sys2Proof.Machine.execMotionFloor s
  | .mrstNAssert => Sys2Proof.Machine.execMrstNAssert s
  | .mrstNRelease => Sys2Proof.Machine.execMrstNRelease s
  | .summitWatchdog => Sys2Proof.Machine.execSummitWatchdog s
  | .stakeWatchdog => Sys2Proof.Machine.execStakeWatchdog s
  | .fatalControllerFault => Sys2Proof.Machine.execFatalControllerFault s
  | .pcieHotReset => Sys2Proof.Machine.execPcieHotReset s
  | .powerFailWarning => Sys2Proof.Machine.execPowerFailWarning s
  | .loadShed => Sys2Proof.Machine.execLoadShed s
  | .powerGoodFall => Sys2Proof.Machine.execPowerGoodFall s
  | .mainsReturn => Sys2Proof.Machine.execMainsReturn s
  | .tempSample m => Sys2Proof.Machine.execTempSample m s
  | .thermalRestart => Sys2Proof.Machine.execThermalRestart s
  | .field24vLoss => Sys2Proof.Machine.execField24vLoss s
  | .field24vRestore => Sys2Proof.Machine.execField24vRestore s
  | .cagePowerMeasure cage drawMw => Sys2Proof.Machine.execCagePowerMeasure cage drawMw s
  | .opticInsert cage => Sys2Proof.Machine.execOpticInsert cage s
  | .opticRemove cage => Sys2Proof.Machine.execOpticRemove cage s
  | .cageOverLimit cage => Sys2Proof.Machine.execCageOverLimit cage s
  | .storageOvercurrent => Sys2Proof.Machine.execStorageOvercurrent s
  | .storageRetry => Sys2Proof.Machine.execStorageRetry s
  | .synciEdge timeNs => Sys2Proof.Machine.execSynciEdge timeNs s
  | .creelDatagram port d => Sys2Proof.Machine.execCreelDatagram port d s
  | .managementRead port d => Sys2Proof.Machine.execManagementRead port d s
  | .managementWrite port d => Sys2Proof.Machine.execManagementWrite port d s
  | .ethernetAuxFrame port kind => Sys2Proof.Machine.execEthernetAuxFrame port kind s
  | .dbSubmit part value entries => Sys2Proof.Machine.execDbSubmit part value entries s
  | .dbComphead part value => Sys2Proof.Machine.execDbComphead part value s
  | .dbFaultCountRead part => Sys2Proof.Machine.execDbFaultCountRead part s
  | .registerWrite part offset width value => Sys2Proof.Machine.execRegisterWrite part offset width value s
  | .sysSupplyW1cWrite part value => Sys2Proof.Machine.execSysSupplyW1cWrite part value s
  | .recCursorSeqWrite part value => Sys2Proof.Machine.execRecCursorSeqWrite part value s
  | .ctrValLowRead part j => Sys2Proof.Machine.execCtrValLowRead part j s
  | .ctrBwPeakRead part port tx => Sys2Proof.Machine.execCtrBwPeakRead part port tx s
  | .dbgWhaltWrite part hi value => Sys2Proof.Machine.execDbgWhaltWrite part hi value s
  | .dbgChaltWrite part value => Sys2Proof.Machine.execDbgChaltWrite part value s
  | .dbgCtrlReset part value => Sys2Proof.Machine.execDbgCtrlReset part value s
  | .dbgMemDataRead part => Sys2Proof.Machine.execDbgMemDataRead part s
  | .dbgMemDataWrite part value => Sys2Proof.Machine.execDbgMemDataWrite part value s
  | .dbgImgStart part value => Sys2Proof.Machine.execDbgImgStart part value s
  | .dbgImgDataWrite part value => Sys2Proof.Machine.execDbgImgDataWrite part value s
  | .dbgImgCommit part value => Sys2Proof.Machine.execDbgImgCommit part value s
  | .tokenRefill => Sys2Proof.Machine.execTokenRefill s
  | .creelHandover => Sys2Proof.Machine.execCreelHandover s
  | .commandTimeout queue tag => Sys2Proof.Machine.execCommandTimeout queue tag s
  | .sysIdent r => Sys2Proof.Machine.execSysIdent r s
  | .sysState r => Sys2Proof.Machine.execSysState r s
  | .sysTimeGet r => Sys2Proof.Machine.execSysTimeGet r s
  | .sysSubscribe r => Sys2Proof.Machine.execSysSubscribe r s
  | .sysUnsubscribe r => Sys2Proof.Machine.execSysUnsubscribe r s
  | .sysAppRestart r => Sys2Proof.Machine.execSysAppRestart r s
  | .appRestarted timeUs => Sys2Proof.Machine.execAppRestarted timeUs s
  | .partInfo r => Sys2Proof.Machine.execPartInfo r s
  | .partStats r => Sys2Proof.Machine.execPartStats r s
  | .queueCreate r => Sys2Proof.Machine.execQueueCreate r s
  | .queueDelete r => Sys2Proof.Machine.execQueueDelete r s
  | .queueBucketSet r => Sys2Proof.Machine.execQueueBucketSet r s
  | .queueRekey r => Sys2Proof.Machine.execQueueRekey r s
  | .axisStatus r => Sys2Proof.Machine.execAxisStatus r s
  | .axisDescLoad r => Sys2Proof.Machine.execAxisDescLoad r s
  | .axisCoefWrite r => Sys2Proof.Machine.execAxisCoefWrite r s
  | .axisBankSelect r => Sys2Proof.Machine.execAxisBankSelect r s
  | .axisTableLoad r => Sys2Proof.Machine.execAxisTableLoad r s
  | .axisEnable r => Sys2Proof.Machine.execAxisEnable r s
  | .axisDisable r => Sys2Proof.Machine.execAxisDisable r s
  | .tuneCaptureRead r => Sys2Proof.Machine.execTuneCaptureRead r s
  | .tuneInjectStart r => Sys2Proof.Machine.execTuneInjectStart r s
  | .tuneInjectStop r => Sys2Proof.Machine.execTuneInjectStop r s
  | .tuneCaptureArm r => Sys2Proof.Machine.execTuneCaptureArm r s
  | .profileStatus r => Sys2Proof.Machine.execProfileStatus r s
  | .energyStatus r => Sys2Proof.Machine.execEnergyStatus r s
  | .profileLimitsSet r => Sys2Proof.Machine.execProfileLimitsSet r s
  | .energyReserveSet r => Sys2Proof.Machine.execEnergyReserveSet r s
  | .carStatus r => Sys2Proof.Machine.execCarStatus r s
  | .segmentStatus r => Sys2Proof.Machine.execSegmentStatus r s
  | .shaftConfigLoad r => Sys2Proof.Machine.execShaftConfigLoad r s
  | .carInspectMove r => Sys2Proof.Machine.execCarInspectMove r s
  | .carStop r => Sys2Proof.Machine.execCarStop r s
  | .doorStatus r => Sys2Proof.Machine.execDoorStatus r s
  | .edgeStatus r => Sys2Proof.Machine.execEdgeStatus r s
  | .doorOpen r => Sys2Proof.Machine.execDoorOpen r s
  | .doorClose r => Sys2Proof.Machine.execDoorClose r s
  | .doorLearn r => Sys2Proof.Machine.execDoorLearn r s
  | .doorPolicySet r => Sys2Proof.Machine.execDoorPolicySet r s
  | .callStatus r => Sys2Proof.Machine.execCallStatus r s
  | .carStoplist r => Sys2Proof.Machine.execCarStoplist r s
  | .callSubmit r policy => Sys2Proof.Machine.execCallSubmit r policy s
  | .callCancel r => Sys2Proof.Machine.execCallCancel r s
  | .safetyStatus r => Sys2Proof.Machine.execSafetyStatus r s
  | .safetyConfigCrc r => Sys2Proof.Machine.execSafetyConfigCrc r s
  | .safetyChangelogRead r => Sys2Proof.Machine.execSafetyChangelogRead r s
  | .safetySessionOpen r => Sys2Proof.Machine.execSafetySessionOpen r s
  | .safetyConfigWrite r => Sys2Proof.Machine.execSafetyConfigWrite r s
  | .safetySessionClose r => Sys2Proof.Machine.execSafetySessionClose r s
  | .dioRead r => Sys2Proof.Machine.execDioRead r s
  | .aiRead r => Sys2Proof.Machine.execAiRead r s
  | .qencRead r => Sys2Proof.Machine.execQencRead r s
  | .dioWrite r => Sys2Proof.Machine.execDioWrite r s
  | .dioSafeSet r => Sys2Proof.Machine.execDioSafeSet r s
  | .pwmConfig r => Sys2Proof.Machine.execPwmConfig r s
  | .stepMove r => Sys2Proof.Machine.execStepMove r s
  | .stepStop r => Sys2Proof.Machine.execStepStop r s
  | .canStatus r => Sys2Proof.Machine.execCanStatus r s
  | .canRxRead r => Sys2Proof.Machine.execCanRxRead r s
  | .canConfig r => Sys2Proof.Machine.execCanConfig r s
  | .canSend r => Sys2Proof.Machine.execCanSend r s
  | .canBusoffRecover r => Sys2Proof.Machine.execCanBusoffRecover r s
  | .canWakeSet r => Sys2Proof.Machine.execCanWakeSet r s
  | .ringStatus r => Sys2Proof.Machine.execRingStatus r s
  | .ringNodes r => Sys2Proof.Machine.execRingNodes r s
  | .ringConfig r => Sys2Proof.Machine.execRingConfig r s
  | .redStatus r => Sys2Proof.Machine.execRedStatus r s
  | .redRoleRequest r => Sys2Proof.Machine.execRedRoleRequest r s
  | .powerStatus r => Sys2Proof.Machine.execPowerStatus r s
  | .powerLevelRequest r => Sys2Proof.Machine.execPowerLevelRequest r s
  | .powerSleepRequest r => Sys2Proof.Machine.execPowerSleepRequest r s
  | .recStatus r => Sys2Proof.Machine.execRecStatus r s
  | .storeHealth r => Sys2Proof.Machine.execStoreHealth r s
  | .recTriggerSet r => Sys2Proof.Machine.execRecTriggerSet r s
  | .recCursorSet r => Sys2Proof.Machine.execRecCursorSet r s
  | .ctrRead r => Sys2Proof.Machine.execCtrRead r s
  | .ctrThresholdSet r => Sys2Proof.Machine.execCtrThresholdSet r s
  | .ctrWindowSet r => Sys2Proof.Machine.execCtrWindowSet r s
  | .debugStatus r => Sys2Proof.Machine.execDebugStatus r s
  | .debugAuth r => Sys2Proof.Machine.execDebugAuth r s
  | .debugClose r => Sys2Proof.Machine.execDebugClose r s
  | .debugSessionExpiry => Sys2Proof.Machine.execDebugSessionExpiry s
  | .nonceExpiry => Sys2Proof.Machine.execNonceExpiry s
  | .authLockoutEnd => Sys2Proof.Machine.execAuthLockoutEnd s
  | .instant failed => Sys2Proof.Machine.execInstant failed s
  | .collectCopyRx c => Sys2Proof.Machine.execCollectCopyRx c s
  | .windowOpen => Sys2Proof.Machine.execWindowOpen s
  | .slotMiss weaver slot => Sys2Proof.Machine.execSlotMiss weaver slot s
  | .carCutoff car => Sys2Proof.Machine.execCarCutoff car s
  | .releasePhase => Sys2Proof.Machine.execReleasePhase s
  | .serviceAnswerRx ring seg => Sys2Proof.Machine.execServiceAnswerRx ring seg s
  | .serviceRetry ring => Sys2Proof.Machine.execServiceRetry ring s
  | .coldstartListenEnd ring => Sys2Proof.Machine.execColdstartListenEnd ring s
  | .coldstartRx ring sets => Sys2Proof.Machine.execColdstartRx ring sets s
  | .coldstartLead ring => Sys2Proof.Machine.execColdstartLead ring s
  | .leaderFrameRx ring h => Sys2Proof.Machine.execLeaderFrameRx ring h s
  | .memberIntegrate ring => Sys2Proof.Machine.execMemberIntegrate ring s
  | .localFault ring west => Sys2Proof.Machine.execLocalFault ring west s
  | .spandownRx ring west blocks => Sys2Proof.Machine.execSpandownRx ring west blocks s
  | .ringHeal ring => Sys2Proof.Machine.execRingHeal ring s
  | .spanLockHold ring west => Sys2Proof.Machine.execSpanLockHold ring west s
  | .spanupRx ring west blocks => Sys2Proof.Machine.execSpanupRx ring west blocks s
  | .closearmCheck ring => Sys2Proof.Machine.execClosearmCheck ring s
  | .closeTarget ring => Sys2Proof.Machine.execCloseTarget ring s
  | .recloseRetry ring => Sys2Proof.Machine.execRecloseRetry ring s
  | .scarpStopInject => Sys2Proof.Machine.execScarpStopInject s
  | .safeInputSample core scarp coreRb scarpRb => Sys2Proof.Machine.execSafeInputSample core scarp coreRb scarpRb s
  | .monitorPointSample coreMv scarpMv => Sys2Proof.Machine.execMonitorPointSample coreMv scarpMv s
  | .safeLinkFrameRx ch l streamB bytes => Sys2Proof.Machine.execSafeLinkFrameRx ch l streamB bytes s
  | .safeLinkLost ch what => Sys2Proof.Machine.execSafeLinkLost ch what s
  | .crossChannelExchange coreDevPpm scarpDevPpm => Sys2Proof.Machine.execCrossChannelExchange coreDevPpm scarpDevPpm s
  | .crossMismatch => Sys2Proof.Machine.execCrossMismatch s
  | .otherChannelLoss ch => Sys2Proof.Machine.execOtherChannelLoss ch s
  | .tripRequestRx ch scope cause => Sys2Proof.Machine.execTripRequestRx ch scope cause s
  | .switchTest ch line readsOff => Sys2Proof.Machine.execSwitchTest ch line readsOff s
  | .stoLineLimit line => Sys2Proof.Machine.execStoLineLimit line s
  | .ss1End ch shaft => Sys2Proof.Machine.execSs1End ch shaft s
  | .brakeFeedbackTimeout ch car => Sys2Proof.Machine.execBrakeFeedbackTimeout ch car s
  | .resetDisagree ch scope => Sys2Proof.Machine.execResetDisagree ch scope s
  | .sessionIdleClose => Sys2Proof.Machine.execSessionIdleClose s
  | .passwordLockoutEnd => Sys2Proof.Machine.execPasswordLockoutEnd s
  | .pairSafeFrameRx ch bytes => Sys2Proof.Machine.execPairSafeFrameRx ch bytes s
  | .pairExchangeLoss ch sixteen => Sys2Proof.Machine.execPairExchangeLoss ch sixteen s
  | .heartbeatMiss sender => Sys2Proof.Machine.execHeartbeatMiss sender s
  | .heartbeatRx h => Sys2Proof.Machine.execHeartbeatRx h s
  | .failedSet cause => Sys2Proof.Machine.execFailedSet cause s
  | .replayComplete => Sys2Proof.Machine.execReplayComplete s
  | .takeoverCycle => Sys2Proof.Machine.execTakeoverCycle s
  | .heartbeatPathFault pair => Sys2Proof.Machine.execHeartbeatPathFault pair s
  | .checkpointTake => Sys2Proof.Machine.execCheckpointTake s
  | .checkpointRx c => Sys2Proof.Machine.execCheckpointRx c s
  | .journalEntryRx jseq change => Sys2Proof.Machine.execJournalEntryRx jseq change s
  | .handoverTarget => Sys2Proof.Machine.execHandoverTarget s
  | .rejoinCopyDone => Sys2Proof.Machine.execRejoinCopyDone s
  | .sideRecordFrameRx link member m crcOk recs => Sys2Proof.Machine.execSideRecordFrameRx link member m crcOk recs s
  | .bulkFrameRx link kind => Sys2Proof.Machine.execBulkFrameRx link kind s
  | .trunkSlotRx ring member recs => Sys2Proof.Machine.execTrunkSlotRx ring member recs s
  | .ptpMessage p => Sys2Proof.Machine.execPtpMessage p s
  | .timeSourceLoss => Sys2Proof.Machine.execTimeSourceLoss s
  | .backupMasterTakeover => Sys2Proof.Machine.execBackupMasterTakeover s
  | .zoneDownMissing axis => Sys2Proof.Machine.execZoneDownMissing axis s
  | .zoneUpMissing shaft partner => Sys2Proof.Machine.execZoneUpMissing shaft partner s
  | .preparingRampDone car => Sys2Proof.Machine.execPreparingRampDone car s
  | .brakeReleaseFeedback car => Sys2Proof.Machine.execBrakeReleaseFeedback car s
  | .brktTimeout car => Sys2Proof.Machine.execBrktTimeout car s
  | .weighingEnd car => Sys2Proof.Machine.execWeighingEnd car s
  | .prestartRetry car => Sys2Proof.Machine.execPrestartRetry car s
  | .stopHoldEnd car => Sys2Proof.Machine.execStopHoldEnd car s
  | .brakeEngagedFeedback car => Sys2Proof.Machine.execBrakeEngagedFeedback car s
  | .rescueEnd shaft => Sys2Proof.Machine.execRescueEnd shaft s
  | .inspectionHoldExpiry car => Sys2Proof.Machine.execInspectionHoldExpiry car s
  | .inspectionBrakeDelay car => Sys2Proof.Machine.execInspectionBrakeDelay car s
  | .bmsReport shaft => Sys2Proof.Machine.execBmsReport shaft s
  | .bmsStale shaft => Sys2Proof.Machine.execBmsStale shaft s
  | .doorEvaluation door => Sys2Proof.Machine.execDoorEvaluation door s
  | .doorEvalLate door => Sys2Proof.Machine.execDoorEvalLate door s
  | .dwellExpiry door => Sys2Proof.Machine.execDwellExpiry door s
  | .blocked30s door => Sys2Proof.Machine.execBlocked30s door s
  | .blocked180s door => Sys2Proof.Machine.execBlocked180s door s
  | .nudgeStart door => Sys2Proof.Machine.execNudgeStart door s
  | .openRetry door => Sys2Proof.Machine.execOpenRetry door s
  | .edgeRefStore door => Sys2Proof.Machine.execEdgeRefStore door s
  | .policyDeadline => Sys2Proof.Machine.execPolicyDeadline s
  | .callReevalTimer call => Sys2Proof.Machine.execCallReevalTimer call s
  | .unassignedTimeout call => Sys2Proof.Machine.execUnassignedTimeout call s
  | .callDiscard call => Sys2Proof.Machine.execCallDiscard call s
  | .motionUpdateApply => Sys2Proof.Machine.execMotionUpdateApply s
  | .diSample raw => Sys2Proof.Machine.execDiSample raw s
  | .doOverload n => Sys2Proof.Machine.execDoOverload n s
  | .doSilence => Sys2Proof.Machine.execDoSilence s
  | .aiConversion n code atInstant => Sys2Proof.Machine.execAiConversion n code atInstant s
  | .aiOvercurrent n => Sys2Proof.Machine.execAiOvercurrent n s
  | .aiReconnect n => Sys2Proof.Machine.execAiReconnect n s
  | .sdFilterOutput n sum run64 => Sys2Proof.Machine.execSdFilterOutput n sum run64 s
  | .sdOcOutput n vf => Sys2Proof.Machine.execSdOcOutput n vf s
  | .sdStuckLine n => Sys2Proof.Machine.execSdStuckLine n s
  | .quadSample n a b z => Sys2Proof.Machine.execQuadSample n a b z s
  | .quadLineLow n => Sys2Proof.Machine.execQuadLineLow n s
  | .pwmPeriod n tp => Sys2Proof.Machine.execPwmPeriod n tp s
  | .stepPulse n => Sys2Proof.Machine.execStepPulse n s
  | .stepRateUpdate n => Sys2Proof.Machine.execStepRateUpdate n s
  | .stepSearchExhausted n => Sys2Proof.Machine.execStepSearchExhausted n s
  | .canFrameRx ch f sofNs => Sys2Proof.Machine.execCanFrameRx ch f sofNs s
  | .canBusIdle ch => Sys2Proof.Machine.execCanBusIdle ch s
  | .canTxSuccess ch sofNs => Sys2Proof.Machine.execCanTxSuccess ch sofNs s
  | .canCollision ch => Sys2Proof.Machine.execCanCollision ch s
  | .canBackoffEnd obj => Sys2Proof.Machine.execCanBackoffEnd obj s
  | .canBusOff ch => Sys2Proof.Machine.execCanBusOff ch s
  | .canRecoveryDone ch => Sys2Proof.Machine.execCanRecoveryDone ch s
  | .canWake ch => Sys2Proof.Machine.execCanWake ch s
  | .canReferenceDue ch => Sys2Proof.Machine.execCanReferenceDue ch s
  | .canDrain ch count => Sys2Proof.Machine.execCanDrain ch count s
  | .objWord0Read obj => Sys2Proof.Machine.execObjWord0Read obj s
  | .objWord22Read obj => Sys2Proof.Machine.execObjWord22Read obj s
  | .objLockExpiry obj => Sys2Proof.Machine.execObjLockExpiry obj s
  | .objArm obj f => Sys2Proof.Machine.execObjArm obj f s
  | .recEventIntake timeNs ext => Sys2Proof.Machine.execRecEventIntake timeNs ext s
  | .recSealTimer => Sys2Proof.Machine.execRecSealTimer s
  | .recPageSpill drive => Sys2Proof.Machine.execRecPageSpill drive s
  | .nvmeFlushTimer => Sys2Proof.Machine.execNvmeFlushTimer s
  | .nvmeFlushDone drive => Sys2Proof.Machine.execNvmeFlushDone drive s
  | .nvmeWriteDone drive us ok => Sys2Proof.Machine.execNvmeWriteDone drive us ok s
  | .smartPoll drive log => Sys2Proof.Machine.execSmartPoll drive log s
  | .driveAttach drive info => Sys2Proof.Machine.execDriveAttach drive info s
  | .driveFail drive reason => Sys2Proof.Machine.execDriveFail drive reason s
  | .mirrorProgram pulses readBackOk => Sys2Proof.Machine.execMirrorProgram pulses readBackOk s
  | .traceHoldExpiry hold => Sys2Proof.Machine.execTraceHoldExpiry hold s
  | .bandwidthWindowEnd port txBytes rxBytes => Sys2Proof.Machine.execBandwidthWindowEnd port txBytes rxBytes s
  | .pmbusAck basket => Sys2Proof.Machine.execPmbusAck basket s
  | .pmbusTimeout basket => Sys2Proof.Machine.execPmbusTimeout basket s
  | .s3StageEnd flushDone => Sys2Proof.Machine.execS3StageEnd flushDone s
  | .s3Wake src => Sys2Proof.Machine.execS3Wake src s
  | .s3RailsUp digestsMatch => Sys2Proof.Machine.execS3RailsUp digestsMatch s
  | .s3ReturnCreelOpen us => Sys2Proof.Machine.execS3ReturnCreelOpen us s
  | .remoteFaultRx ring west => Sys2Proof.Machine.execRemoteFaultRx ring west s
  | .blockLockGained port => Sys2Proof.Machine.execBlockLockGained port s
  | .sideLinkDown link => Sys2Proof.Machine.execSideLinkDown link s
  | .pcieLinkUp => Sys2Proof.Machine.execPcieLinkUp s
  | .ptpUnavailable => Sys2Proof.Machine.execPtpUnavailable s
  | .registerRead part offset width => Sys2Proof.Machine.execRegisterRead part offset width s
  | .ctrValHighRead part j => Sys2Proof.Machine.execCtrValHighRead part j s
  | .canErrorDetected ch transmitting => Sys2Proof.Machine.execCanErrorDetected ch transmitting s
  | .safetyCoreFault => Sys2Proof.Machine.execSafetyCoreFault s
  | .scarpInternalFault => Sys2Proof.Machine.execScarpInternalFault s
  | .configStoreDone => Sys2Proof.Machine.execConfigStoreDone s
  | .jtagInstruction code => Sys2Proof.Machine.execJtagInstruction code s

end Sys2Proof.Machine
end

