-- ==== Sys2Proof/Safety.lean ====
section
/-! DEFINITION. What claims are stated about: runs of the block, states with a canonical memory, the parts of the state
that a command may touch. -/
namespace Sys2Proof.Machine

/-- One step of the block from one state to the next. -/
def Steps (s t : State) : Prop := step s = .next t

/-- A run: the states that finitely many steps lead to. -/
inductive Runs : State → State → Prop where
  | here (s : State) : Runs s s
  | more (s t u : State) : Runs s t → Steps t u → Runs s u

/-- Addresses strictly rise: the canonical form of a byte memory. -/
def Mem.wf (m : Mem) : Bool :=
  match m with
  | [] => true
  | [_] => true
  | a :: b :: r => decide (a.1 < b.1) && Mem.wf (b :: r)

/-- The components of the state, in its order. -/
inductive Comp where
  /-- supply and measurements (20) -/
  | supply
  /-- start-up, reset and images (15, 18) -/
  | sys
  /-- power states (16) -/
  | pow
  /-- host interface (02) -/
  | host
  /-- counter set (19) -/
  | ctr
  /-- debug (18) -/
  | dbg
  /-- recorder (17) -/
  | cairn
  /-- rings (03) -/
  | rings
  /-- side links (14) -/
  | links
  /-- time (14) -/
  | time
  /-- records exchanged with other modules (14) -/
  | multi
  /-- redundancy (13) -/
  | red
  /-- weavers, axes and tuning (04, 05) -/
  | loop
  /-- shafts, cars and energy (06, 07) -/
  | motion
  /-- dispatch (09) -/
  | disp
  /-- doors (08) -/
  | doors
  /-- safety channels (10) -/
  | safety
  /-- field inputs and outputs (11) -/
  | field
  /-- CAN (12) -/
  | can
  /-- stored configuration (15) -/
  | nor
  deriving DecidableEq, Repr

/-- A component is the same in two states. -/
def Comp.same (c : Comp) (s t : State) : Prop :=
  match c with
  | .supply => t.supply = s.supply
  | .sys => t.sys = s.sys
  | .pow => t.pow = s.pow
  | .host => t.host = s.host
  | .ctr => t.ctr = s.ctr
  | .dbg => t.dbg = s.dbg
  | .cairn => t.cairn = s.cairn
  | .rings => t.rings = s.rings
  | .links => t.links = s.links
  | .time => t.time = s.time
  | .multi => t.multi = s.multi
  | .red => t.red = s.red
  | .loop => t.loop = s.loop
  | .motion => t.motion = s.motion
  | .disp => t.disp = s.disp
  | .doors => t.doors = s.doors
  | .safety => t.safety = s.safety
  | .field => t.field = s.field
  | .can => t.can = s.can
  | .nor => t.nor = s.nor

/-- Every component but those of `x` is the same in two states, and the commands that wait are the same. -/
def SameBut (x : Comp → Bool) (s t : State) : Prop :=
  t.pending = s.pending ∧ ∀ c, x c = false → c.same s t

/-- A list of components as a set. -/
def among (l : List Comp) (c : Comp) : Bool := l.contains c

/-- Every component. -/
def everything : List Comp :=
  [.supply, .sys, .pow, .host, .ctr, .dbg, .cairn, .rings, .links, .time,
   .multi, .red, .loop, .motion, .disp, .doors, .safety, .field, .can, .nor]

/-- The components a command may change (its frame); a command that can end in a reset of the controller die, or that is a
loss of supply, may change them all. -/
def touched : Instr → List Comp
  | .powerGood _ _ _ => [.supply, .sys, .field]
  | .mainsInRange _ => [.supply]
  | .scarpResetRelease => [.sys, .safety]
  | .controllerResetRelease => [.sys]
  | .trustedImageVerified _ => [.sys, .ctr, .cairn, .time, .can]
  | .canStart => [.can]
  | .appStart _ => [.supply, .sys, .host, .ctr, .cairn, .rings, .time, .red, .loop, .motion, .safety, .field, .can, .nor]
  | .rootPortRelease => [.sys]
  | .safetyHandshake _ => [.sys, .ctr, .cairn, .safety, .can]
  | .weaverLoad _ => [.sys, .ctr, .cairn, .loop, .motion, .doors, .field, .can]
  | .creelOpen => [.sys, .ctr, .cairn, .can]
  | .motionFloor => [.sys, .ctr, .cairn, .rings, .safety]
  | .mrstNAssert => everything
  | .mrstNRelease => [.sys]
  | .summitWatchdog => everything
  | .stakeWatchdog => everything
  | .fatalControllerFault => everything
  | .pcieHotReset => [.sys]
  | .powerFailWarning => [.supply, .ctr, .cairn, .safety]
  | .loadShed => [.supply, .ctr, .cairn, .field]
  | .powerGoodFall => everything
  | .mainsReturn => [.supply, .cairn, .field]
  | .tempSample _ => everything
  | .thermalRestart => [.supply]
  | .field24vLoss => [.supply, .ctr, .cairn, .field]
  | .field24vRestore => [.supply, .field]
  | .cagePowerMeasure _ _ => [.supply, .ctr, .rings]
  | .opticInsert _ => [.supply]
  | .opticRemove _ => [.supply, .ctr, .rings]
  | .cageOverLimit _ => [.supply, .ctr, .rings]
  | .storageOvercurrent => [.supply, .cairn]
  | .storageRetry => [.supply]
  | .synciEdge _ => [.supply]
  | .creelDatagram _ _ => everything
  | .managementRead _ _ => everything
  | .managementWrite _ _ => everything
  | .ethernetAuxFrame _ _ => [.sys]
  | .dbSubmit _ _ _ => [.pow, .host, .ctr]
  | .dbComphead _ _ => [.pow, .host, .ctr]
  | .dbFaultCountRead _ => [.host, .ctr, .dbg, .cairn]
  | .registerWrite _ _ _ _ => everything
  | .sysSupplyW1cWrite _ _ => everything
  | .recCursorSeqWrite _ _ => everything
  | .ctrValLowRead _ _ => [.host, .ctr, .dbg, .cairn]
  | .ctrBwPeakRead _ _ _ => [.host, .ctr, .dbg, .cairn]
  | .dbgWhaltWrite _ _ _ => everything
  | .dbgChaltWrite _ _ => everything
  | .dbgCtrlReset _ _ => everything
  | .dbgMemDataRead _ => [.host, .ctr, .dbg, .cairn]
  | .dbgMemDataWrite _ _ => everything
  | .dbgImgStart _ _ => everything
  | .dbgImgDataWrite _ _ => everything
  | .dbgImgCommit _ _ => everything
  | .tokenRefill => [.host]
  | .creelHandover => [.pow, .host, .ctr]
  | .commandTimeout _ _ => [.sys, .pow, .host, .ctr, .dbg, .cairn, .rings, .red, .loop, .motion, .disp, .doors, .field, .can]
  | .sysIdent _ => [.host, .ctr]
  | .sysState _ => [.host, .ctr]
  | .sysTimeGet _ => [.host, .ctr]
  | .sysSubscribe _ => [.host, .ctr]
  | .sysUnsubscribe _ => [.host, .ctr]
  | .sysAppRestart _ => everything
  | .appRestarted _ => [.sys, .host, .ctr, .doors, .can]
  | .partInfo _ => [.host, .ctr]
  | .partStats _ => [.host, .ctr]
  | .queueCreate _ => [.host, .ctr]
  | .queueDelete _ => everything
  | .queueBucketSet _ => [.host, .ctr]
  | .queueRekey _ => [.host, .ctr]
  | .axisStatus _ => [.host, .ctr]
  | .axisDescLoad _ => [.pow, .host, .ctr, .dbg, .cairn, .loop]
  | .axisCoefWrite _ => [.host, .ctr, .loop]
  | .axisBankSelect _ => [.host, .ctr, .loop]
  | .axisTableLoad _ => [.host, .ctr, .loop]
  | .axisEnable _ => [.host, .ctr, .loop]
  | .axisDisable _ => [.host, .ctr, .loop]
  | .tuneCaptureRead _ => [.host, .ctr]
  | .tuneInjectStart _ => [.host, .ctr, .loop]
  | .tuneInjectStop _ => [.host, .ctr, .loop]
  | .tuneCaptureArm _ => [.host, .ctr, .loop]
  | .profileStatus _ => [.host, .ctr]
  | .energyStatus _ => [.host, .ctr]
  | .profileLimitsSet _ => [.host, .ctr, .motion]
  | .energyReserveSet _ => [.host, .ctr, .motion]
  | .carStatus _ => [.host, .ctr]
  | .segmentStatus _ => [.host, .ctr]
  | .shaftConfigLoad _ => [.host, .ctr, .motion]
  | .carInspectMove _ => [.host, .ctr, .cairn, .loop, .motion]
  | .carStop _ => [.host, .ctr, .cairn, .loop, .motion, .disp]
  | .doorStatus _ => [.host, .ctr]
  | .edgeStatus _ => [.host, .ctr]
  | .doorOpen _ => [.host, .ctr, .loop, .doors, .field]
  | .doorClose _ => [.host, .ctr, .doors, .nor]
  | .doorLearn _ => [.host, .ctr, .loop, .doors, .field]
  | .doorPolicySet _ => [.host, .ctr, .doors]
  | .callStatus _ => [.host, .ctr]
  | .carStoplist _ => [.host, .ctr]
  | .callSubmit _ _ => [.host, .ctr, .cairn, .disp]
  | .callCancel _ => [.host, .ctr, .disp]
  | .safetyStatus _ => [.host, .ctr]
  | .safetyConfigCrc _ => [.host, .ctr]
  | .safetyChangelogRead _ => [.host, .ctr]
  | .safetySessionOpen _ => [.host, .ctr, .cairn, .safety]
  | .safetyConfigWrite _ => [.host, .ctr, .safety]
  | .safetySessionClose _ => [.host, .ctr, .cairn, .safety]
  | .dioRead _ => [.host, .ctr, .field]
  | .aiRead _ => [.host, .ctr]
  | .qencRead _ => [.host, .ctr]
  | .dioWrite _ => [.host, .ctr, .field]
  | .dioSafeSet _ => [.host, .ctr, .field]
  | .pwmConfig _ => [.host, .ctr, .field]
  | .stepMove _ => [.host, .ctr, .field]
  | .stepStop _ => [.host, .ctr, .cairn, .field]
  | .canStatus _ => [.host, .ctr, .can]
  | .canRxRead _ => [.host, .ctr, .can]
  | .canConfig _ => [.host, .ctr, .can]
  | .canSend _ => [.host, .ctr, .can]
  | .canBusoffRecover _ => [.host, .ctr, .can]
  | .canWakeSet _ => [.host, .ctr, .can]
  | .ringStatus _ => [.host, .ctr]
  | .ringNodes _ => [.host, .ctr]
  | .ringConfig _ => [.sys, .pow, .host, .ctr, .dbg, .cairn, .rings]
  | .redStatus _ => [.host, .ctr]
  | .redRoleRequest _ => [.host, .ctr, .cairn, .rings, .red, .loop, .motion, .can]
  | .powerStatus _ => [.host, .ctr]
  | .powerLevelRequest _ => [.pow, .host, .ctr, .cairn]
  | .powerSleepRequest _ => [.pow, .host, .ctr, .cairn, .field, .can, .nor]
  | .recStatus _ => [.host, .ctr]
  | .storeHealth _ => [.host, .ctr]
  | .recTriggerSet _ => [.host, .ctr, .cairn, .nor]
  | .recCursorSet _ => [.host, .ctr]
  | .ctrRead _ => [.host, .ctr]
  | .ctrThresholdSet _ => [.host, .ctr]
  | .ctrWindowSet _ => [.host, .ctr]
  | .debugStatus _ => [.host, .ctr]
  | .debugAuth _ => everything
  | .debugClose _ => everything
  | .debugSessionExpiry => everything
  | .nonceExpiry => [.dbg]
  | .authLockoutEnd => [.dbg]
  | .instant _ => [.supply, .host, .ctr, .cairn, .rings, .time, .red, .loop, .motion, .field, .can, .nor]
  | .collectCopyRx _ => [.ctr, .rings]
  | .windowOpen => [.ctr, .cairn, .rings, .loop, .doors]
  | .slotMiss _ _ => [.ctr, .cairn, .rings, .red, .loop, .safety]
  | .carCutoff _ => [.ctr, .cairn, .rings, .red, .loop, .motion, .safety]
  | .releasePhase => [.sys, .pow, .host, .ctr, .dbg, .cairn, .rings, .time, .multi, .red, .loop, .motion, .disp, .doors, .safety, .field, .can, .nor]
  | .serviceAnswerRx _ _ => [.rings]
  | .serviceRetry _ => [.ctr, .rings]
  | .coldstartListenEnd _ => [.rings]
  | .coldstartRx _ _ => [.ctr, .rings]
  | .coldstartLead _ => [.ctr, .rings, .red]
  | .leaderFrameRx _ _ => [.host, .ctr, .rings, .time, .red, .can]
  | .memberIntegrate _ => [.rings]
  | .localFault _ _ => [.ctr, .rings]
  | .spandownRx _ _ _ => [.ctr, .rings]
  | .ringHeal _ => [.ctr, .cairn, .rings, .loop]
  | .spanLockHold _ _ => [.rings]
  | .spanupRx _ _ _ => [.ctr, .rings]
  | .closearmCheck _ => [.ctr, .rings]
  | .closeTarget _ => [.ctr, .rings]
  | .recloseRetry _ => [.rings]
  | .scarpStopInject => [.ctr, .rings]
  | .safeInputSample _ _ _ _ => [.ctr, .cairn, .rings, .safety]
  | .monitorPointSample _ _ => [.ctr, .cairn, .safety]
  | .safeLinkFrameRx _ _ _ _ => [.ctr, .cairn, .multi, .safety]
  | .safeLinkLost _ _ => [.ctr, .cairn, .safety]
  | .crossChannelExchange _ _ => [.ctr, .cairn, .safety]
  | .crossMismatch => [.ctr, .cairn, .safety]
  | .otherChannelLoss _ => [.ctr, .cairn, .safety]
  | .tripRequestRx _ _ _ => [.ctr, .cairn, .safety]
  | .switchTest _ _ _ => [.ctr, .cairn, .safety]
  | .stoLineLimit _ => [.ctr, .cairn, .safety]
  | .ss1End _ _ => [.ctr, .cairn, .safety]
  | .brakeFeedbackTimeout _ _ => [.ctr, .cairn, .safety]
  | .resetDisagree _ _ => [.ctr, .cairn, .safety]
  | .sessionIdleClose => [.ctr, .cairn, .safety]
  | .passwordLockoutEnd => [.safety]
  | .pairSafeFrameRx _ _ => [.ctr, .cairn, .safety]
  | .pairExchangeLoss _ _ => [.ctr, .cairn, .red, .safety]
  | .heartbeatMiss _ => [.ctr, .cairn, .red]
  | .heartbeatRx _ => [.ctr, .cairn, .red, .can]
  | .failedSet _ => [.ctr, .red]
  | .replayComplete => [.red]
  | .takeoverCycle => [.ctr, .rings, .red, .loop, .motion, .can]
  | .heartbeatPathFault _ => [.ctr, .cairn, .red]
  | .checkpointTake => [.red]
  | .checkpointRx _ => [.pow, .ctr, .dbg, .cairn, .red]
  | .journalEntryRx _ _ => [.sys, .pow, .host, .ctr, .dbg, .cairn, .rings, .red, .loop, .motion, .disp, .doors, .field, .can]
  | .handoverTarget => [.host, .ctr, .cairn, .rings, .red, .loop, .motion, .can]
  | .rejoinCopyDone => [.red]
  | .sideRecordFrameRx _ _ _ _ _ => [.ctr, .cairn, .links, .time, .multi, .red, .loop, .safety, .can]
  | .bulkFrameRx _ _ => [.links]
  | .trunkSlotRx _ _ _ => [.ctr, .cairn, .links, .time, .multi, .red, .loop, .safety, .can]
  | .ptpMessage _ => [.ctr, .cairn, .time]
  | .timeSourceLoss => [.ctr, .cairn, .time]
  | .backupMasterTakeover => [.ctr, .cairn, .time]
  | .zoneDownMissing _ => [.multi, .loop]
  | .zoneUpMissing _ _ => [.multi]
  | .preparingRampDone _ => [.motion]
  | .brakeReleaseFeedback _ => [.motion]
  | .brktTimeout _ => [.host, .ctr, .cairn, .motion, .disp]
  | .weighingEnd _ => [.host, .ctr, .cairn, .motion, .disp]
  | .prestartRetry _ => [.motion]
  | .stopHoldEnd _ => [.motion]
  | .brakeEngagedFeedback _ => [.ctr, .cairn, .motion, .disp]
  | .rescueEnd _ => [.ctr, .cairn, .motion]
  | .inspectionHoldExpiry _ => [.motion]
  | .inspectionBrakeDelay _ => [.motion]
  | .bmsReport _ => [.ctr, .cairn, .motion, .can]
  | .bmsStale _ => [.ctr, .cairn, .motion]
  | .doorEvaluation _ => [.host, .ctr, .cairn, .loop, .motion, .disp, .doors, .field, .nor]
  | .doorEvalLate _ => [.ctr, .cairn, .loop, .doors, .field]
  | .dwellExpiry _ => [.doors]
  | .blocked30s _ => [.ctr, .cairn, .disp, .doors]
  | .blocked180s _ => [.ctr, .cairn, .doors, .field]
  | .nudgeStart _ => [.loop, .doors, .field]
  | .openRetry _ => [.loop, .doors, .field]
  | .edgeRefStore _ => [.doors, .nor]
  | .policyDeadline => [.host, .ctr, .cairn, .motion, .disp]
  | .callReevalTimer _ => [.ctr, .cairn, .disp]
  | .unassignedTimeout _ => [.ctr, .cairn, .disp]
  | .callDiscard _ => [.disp]
  | .motionUpdateApply => [.host, .ctr, .cairn, .motion, .disp]
  | .diSample _ => [.ctr, .cairn, .field]
  | .doOverload _ => [.ctr, .cairn, .field]
  | .doSilence => [.ctr, .field]
  | .aiConversion _ _ _ => [.ctr, .cairn, .field]
  | .aiOvercurrent _ => [.ctr, .cairn, .field]
  | .aiReconnect _ => [.field]
  | .sdFilterOutput _ _ _ => [.field]
  | .sdOcOutput _ _ => [.ctr, .cairn, .field]
  | .sdStuckLine _ => [.ctr, .cairn, .field]
  | .quadSample _ _ _ _ => [.ctr, .cairn, .field]
  | .quadLineLow _ => [.ctr, .cairn, .field]
  | .pwmPeriod _ _ => [.ctr, .field]
  | .stepPulse _ => [.field]
  | .stepRateUpdate _ => [.ctr, .cairn, .field]
  | .stepSearchExhausted _ => [.ctr, .cairn, .field]
  | .canFrameRx _ _ _ => [.ctr, .cairn, .can]
  | .canBusIdle _ => [.host, .ctr, .can]
  | .canTxSuccess _ _ => [.host, .ctr, .cairn, .can]
  | .canCollision _ => [.host, .ctr, .cairn, .can]
  | .canBackoffEnd _ => [.can]
  | .canBusOff _ => [.host, .ctr, .cairn, .can]
  | .canRecoveryDone _ => [.host, .ctr, .cairn, .can]
  | .canWake _ => [.pow, .ctr, .cairn, .can]
  | .canReferenceDue _ => [.host, .ctr, .can]
  | .canDrain _ _ => [.can]
  | .objWord0Read _ => [.can]
  | .objWord22Read _ => [.can]
  | .objLockExpiry _ => [.ctr, .can]
  | .objArm _ _ => [.host, .ctr, .can]
  | .recEventIntake _ _ => [.host, .ctr, .dbg, .cairn]
  | .recSealTimer => [.cairn]
  | .recPageSpill _ => [.cairn]
  | .nvmeFlushTimer => [.cairn]
  | .nvmeFlushDone _ => [.cairn]
  | .nvmeWriteDone _ _ _ => [.ctr, .cairn]
  | .smartPoll _ _ => [.ctr, .cairn]
  | .driveAttach _ _ => [.ctr, .cairn]
  | .driveFail _ _ => [.ctr, .cairn]
  | .mirrorProgram _ _ => [.ctr, .cairn, .safety]
  | .traceHoldExpiry _ => [.cairn]
  | .bandwidthWindowEnd _ _ _ => [.ctr]
  | .pmbusAck _ => [.pow, .host, .ctr, .cairn]
  | .pmbusTimeout _ => [.pow, .host, .ctr, .cairn]
  | .s3StageEnd _ => everything
  | .s3Wake _ => [.pow, .can]
  | .s3RailsUp _ => everything
  | .s3ReturnCreelOpen _ => [.sys, .pow, .ctr, .cairn]
  | .remoteFaultRx _ _ => [.ctr, .rings]
  | .blockLockGained _ => [.rings, .links]
  | .sideLinkDown _ => [.ctr, .cairn, .links, .time]
  | .pcieLinkUp => [.sys, .host, .ctr]
  | .ptpUnavailable => [.ctr, .cairn, .time]
  | .registerRead _ _ _ => [.host, .ctr, .dbg, .cairn]
  | .ctrValHighRead _ _ => [.host, .ctr, .dbg, .cairn]
  | .canErrorDetected _ _ => [.host, .ctr, .cairn, .can]
  | .safetyCoreFault => [.sys, .ctr, .cairn, .safety]
  | .scarpInternalFault => [.ctr, .cairn, .safety]
  | .configStoreDone => [.field, .can, .nor]
  | .jtagInstruction _ => [.sys]

/-- The request a mailbox command executes, with its opcode (02). -/
def requestOf : Instr → Option (Request × Nat)
  | .sysIdent r => some (r, 0x0001)
  | .sysState r => some (r, 0x0002)
  | .sysTimeGet r => some (r, 0x0003)
  | .sysSubscribe r => some (r, 0x0010)
  | .sysUnsubscribe r => some (r, 0x0011)
  | .sysAppRestart r => some (r, 0x0020)
  | .partInfo r => some (r, 0x0101)
  | .partStats r => some (r, 0x0102)
  | .queueCreate r => some (r, 0x0110)
  | .queueDelete r => some (r, 0x0111)
  | .queueBucketSet r => some (r, 0x0112)
  | .queueRekey r => some (r, 0x0113)
  | .axisStatus r => some (r, 0x1001)
  | .axisDescLoad r => some (r, 0x1010)
  | .axisCoefWrite r => some (r, 0x1011)
  | .axisBankSelect r => some (r, 0x1012)
  | .axisTableLoad r => some (r, 0x1013)
  | .axisEnable r => some (r, 0x1020)
  | .axisDisable r => some (r, 0x1021)
  | .tuneCaptureRead r => some (r, 0x1101)
  | .tuneInjectStart r => some (r, 0x1110)
  | .tuneInjectStop r => some (r, 0x1111)
  | .tuneCaptureArm r => some (r, 0x1120)
  | .profileStatus r => some (r, 0x1201)
  | .energyStatus r => some (r, 0x1202)
  | .profileLimitsSet r => some (r, 0x1210)
  | .energyReserveSet r => some (r, 0x1211)
  | .carStatus r => some (r, 0x1301)
  | .segmentStatus r => some (r, 0x1302)
  | .shaftConfigLoad r => some (r, 0x1310)
  | .carInspectMove r => some (r, 0x1320)
  | .carStop r => some (r, 0x1321)
  | .doorStatus r => some (r, 0x1401)
  | .edgeStatus r => some (r, 0x1402)
  | .doorOpen r => some (r, 0x1410)
  | .doorClose r => some (r, 0x1411)
  | .doorLearn r => some (r, 0x1420)
  | .doorPolicySet r => some (r, 0x1430)
  | .callStatus r => some (r, 0x1501)
  | .carStoplist r => some (r, 0x1502)
  | .callSubmit r _ => some (r, 0x1510)
  | .callCancel r => some (r, 0x1511)
  | .safetyStatus r => some (r, 0x2001)
  | .safetyConfigCrc r => some (r, 0x2002)
  | .safetyChangelogRead r => some (r, 0x2003)
  | .safetySessionOpen r => some (r, 0x2010)
  | .safetyConfigWrite r => some (r, 0x2011)
  | .safetySessionClose r => some (r, 0x2012)
  | .dioRead r => some (r, 0x3001)
  | .aiRead r => some (r, 0x3002)
  | .qencRead r => some (r, 0x3003)
  | .dioWrite r => some (r, 0x3010)
  | .dioSafeSet r => some (r, 0x3011)
  | .pwmConfig r => some (r, 0x3020)
  | .stepMove r => some (r, 0x3030)
  | .stepStop r => some (r, 0x3031)
  | .canStatus r => some (r, 0x3101)
  | .canRxRead r => some (r, 0x3102)
  | .canConfig r => some (r, 0x3110)
  | .canSend r => some (r, 0x3111)
  | .canBusoffRecover r => some (r, 0x3120)
  | .canWakeSet r => some (r, 0x3130)
  | .ringStatus r => some (r, 0x4001)
  | .ringNodes r => some (r, 0x4002)
  | .ringConfig r => some (r, 0x4010)
  | .redStatus r => some (r, 0x5001)
  | .redRoleRequest r => some (r, 0x5010)
  | .powerStatus r => some (r, 0x6001)
  | .powerLevelRequest r => some (r, 0x6010)
  | .powerSleepRequest r => some (r, 0x6011)
  | .recStatus r => some (r, 0x7001)
  | .storeHealth r => some (r, 0x7002)
  | .recTriggerSet r => some (r, 0x7010)
  | .recCursorSet r => some (r, 0x7011)
  | .ctrRead r => some (r, 0x7101)
  | .ctrThresholdSet r => some (r, 0x7110)
  | .ctrWindowSet r => some (r, 0x7111)
  | .debugStatus r => some (r, 0x7F01)
  | .debugAuth r => some (r, 0x7F10)
  | .debugClose r => some (r, 0x7F11)
  | _ => none

/-- The commands that can write a register of the register space (02 R54, R62). -/
def writesRegister : Instr → Bool
  | .creelDatagram _ _ => true
  | .managementRead _ _ => true
  | .managementWrite _ _ => true
  | .registerWrite _ _ _ _ => true
  | .sysSupplyW1cWrite _ _ => true
  | .recCursorSeqWrite _ _ => true
  | .dbgWhaltWrite _ _ _ => true
  | .dbgChaltWrite _ _ => true
  | .dbgCtrlReset _ _ => true
  | .dbgMemDataWrite _ _ => true
  | .dbgImgStart _ _ => true
  | .dbgImgDataWrite _ _ => true
  | .dbgImgCommit _ _ => true
  | _ => false

/-- The commands that can take the supply of the controller die away (15 R428, 20 R516). -/
def removesPower : Instr → Bool
  | .powerGoodFall => true
  | .tempSample _ => true
  | _ => false

/-- The commands that can end a latched trip of the Scarp die: a reset edge of a safe input, its effect at the motion floor,
and a start of the die (10 R307). -/
def endsTrips : Instr → Bool
  | .safeInputSample _ _ _ _ => true
  | .motionFloor => true
  | .scarpResetRelease => true
  | .powerGood _ _ _ => true
  | c => removesPower c

/-- The commands that can change what the channels have stored: a commit, and the erasure of a returned module. -/
def storesSafety : Instr → Bool
  | .safetySessionClose _ => true
  | .debugAuth _ => true
  | _ => false

/-- The commands that can change the cycle number: an instant, and what starts the time anew. -/
def setsCycle : Instr → Bool
  | .instant _ => true
  | .debugAuth _ => true
  | .debugClose _ => true
  | .debugSessionExpiry => true
  | .queueDelete _ => true
  | .s3RailsUp _ => true
  | .s3StageEnd _ => true
  | .appStart _ => true
  | .fatalControllerFault => true
  | .mrstNAssert => true
  | .stakeWatchdog => true
  | .summitWatchdog => true
  | .sysAppRestart _ => true
  | c => writesRegister c || removesPower c

/-- The canonical memories and the width of the counters: what every step keeps (18 R487, 19 R501). -/
structure Whole (s : State) : Prop where
  lpddr : Mem.wf s.dbg.lpddr = true
  wlocal : Mem.wf s.dbg.wlocal = true
  width : ∀ i, tabGet s.ctr.cnt 0 i ≤ max48

/-- The entries of a request (02 R42): the header, its reserved bytes, the payload. -/
def entriesOf (r : Request) (b3 : Byte) (b8 : List Byte) : List (List Byte) :=
  (leBytes 2 r.opcode ++ [BitVec.ofNat 8 r.cont, b3] ++ leBytes 4 r.tag ++ b8 ++ r.payload.take 48) ::
    (List.range r.cont).map fun i => (r.payload.drop (48 + 64 * i)).take 64

/-- A request that fits the layout of 02 R42: its header fields within their widths, its payload filling its entries. -/
structure Laid (r : Request) : Prop where
  opcode : r.opcode < 65536
  cont : r.cont ≤ 15
  tag : r.tag < 4294967296
  payload : r.payload.length = 48 + 64 * r.cont

/-- A request with its opcode as served. -/
def withOp (r : Request) (op : Nat) : Request := { r with opcode := op }

/-- A controller-die reset with a cause (15 R428, R429): the die is in reset and the islands are cleared, while the retention domain,
NOR, the fuses and the Scarp die are kept. -/
structure DieReset (cause : Nat) (s t : State) : Prop where
  held : t.sys.ctl = .inReset
  scarp : t.sys.scarp = s.sys.scarp
  cause : t.sys.cause = cause
  count : t.sys.count = min (s.sys.count + 1) 255
  stage : t.sys.stage = 0 ∧ t.sys.bootFail = 0 ∧ t.sys.stopped = false
  retained : t.sys.stageMs = s.sys.stageMs ∧ t.sys.appRst = s.sys.appRst ∧ t.ctr.cnt = s.ctr.cnt
  images : t.sys.images = s.sys.images ∧ t.sys.minSvn = s.sys.minSvn ∧ t.sys.keys = s.sys.keys ∧ t.sys.lc = s.sys.lc
  stored : t.nor = { s.nor with queue := [] } ∧ t.can.stored = s.can.stored ∧ t.field.patternNor = s.field.patternNor
  host : t.host.queues = [] ∧ t.host.parts = []
  session : t.dbg.level = .closed ∧ t.safety.session = none
  safety : t.safety.core.running = false ∧ t.safety.core.image = s.safety.core.image ∧ t.safety.log = s.safety.log
  recorded : t.cairn.sectors = s.cairn.sectors ∧ ∃ l, t.sys.bootEvents = s.sys.bootEvents ++ l
  time : t.time.running = false ∧ t.time.now = 0

/-- Exactly one counter of the counter set counts, once, to its end at most (19 R501). -/
def CountsOne (i : Nat) (s t : State) : Prop :=
  ∀ j, tabGet t.ctr.cnt 0 j = if j = i then satAdd max48 (tabGet s.ctr.cnt 0 j) 1 else tabGet s.ctr.cnt 0 j

/-- Every ring but one is as before. -/
def OtherRings (r : Nat) (s t : State) : Prop := ∀ k, k ≠ r → t.ring k = s.ring k

/-- One staged write goes to the end of an axis's list, behind all that arrived before it; nothing else of the axes and weavers changes (01 R32). -/
structure StagesOn (a : Nat) (w : StagedWrite) (s t : State) : Prop where
  axis : t.axis a = { s.axis a with staged := (s.axis a).staged ++ [{ w with ord := s.loop.arrivals }] }
  others : ∀ k, k ≠ a → t.axis k = s.axis k
  rest : t.loop = { s.loop with axes := t.loop.axes, arrivals := s.loop.arrivals + 1 }

/-- Every car but one is as before. -/
def OtherCars (n : Nat) (s t : State) : Prop := ∀ k, k ≠ n → t.car k = s.car k

/-- Every shaft but one is as before. -/
def OtherShafts (h : Nat) (s t : State) : Prop := ∀ k, k ≠ h → t.shaft k = s.shaft k

/-- Every door but one is as before. -/
def OtherDoors (d : Nat) (s t : State) : Prop := ∀ k, k ≠ d → t.door k = s.door k

/-- A channel has latched a trip of a scope (0–7 a shaft, 8 the module): earlier causes stay, the other scopes and the other channel
are as before (10 R283). -/
structure LatchesTrip (c : Chan) (scope cause : Nat) (s t : State) : Prop where
  latched : cause ∈ latchOf (t.chan c) scope
  kept : ∀ k, k ∈ latchOf (s.chan c) scope → k ∈ latchOf (t.chan c) scope
  others : ∀ n, n ≤ 8 → n ≠ scope → latchOf (t.chan c) n = latchOf (s.chan c) n
  other : t.chan (otherChan c) = s.chan (otherChan c)

end Sys2Proof.Machine
end

