-- ==== Sys2Proof/Certificates/Slice0/Obligations.lean ====
section
/-! DEFINITION. The statements about the block. Most come one family of commands to a statement; each clause completes a command in a
next state that it gives, under conditions on the state and the operands alone. -/
open Sys2Proof Sys2Proof.Machine

/-- A step takes the command at the front of the queue and runs it on the state with the rest of the queue; on an empty queue the block
idles (the model's choice, notes/assumptions/2.md). -/
def Obligations.StepRunsTheFrontCommand : Prop :=
  (∀ (c : Instr) (s : State), step (s.push c) = exec c s) ∧
  (∀ (c : Instr) (l : List Instr) (s : State), s.pending = c :: l → step s = exec c (s.withPending l)) ∧
  ∀ s : State, s.pending = [] → step s = .next s

/-- No command stops the block, and none touches the commands that wait: each answers a next state in which the queue, and every
component the command does not touch (`touched`), are as before. -/
def Obligations.EveryCommandAnswersWithinItsFrame : Prop :=
  ∀ (c : Instr) (s : State), ∃ t, exec c s = .next t ∧ SameBut (among (touched c)) s t

/-- Step 7 of 02 R46: a request of a partition without the right of its opcode's class is answered DENIED, whatever its form. -/
def Obligations.RequestWithoutTheRightIsDenied : Prop :=
  ∀ (c : Instr) (r : Request) (op : Nat) (s : State), requestOf c = some (r, op) → hasRight s r.part op = false →
    exec c s = .next (denied s { r with opcode := op })

/-- The machine right after reset is whole (canonical memories, counts within their width) and at the values the spec gives: both dies
without power, stage 0, Creel closed, the reset and boot registers at 01h and zeros (15 R427), every counter 0 (19 R501),
every STO line off, neither safety channel running, no session of either kind, no queue. -/
def Obligations.ResetIsWhole : Prop :=
  Whole State.reset ∧
  (State.reset.sys.ctl = .unpowered ∧ State.reset.sys.scarp = .unpowered ∧ State.reset.sys.stage = 0 ∧ State.reset.sys.creel = false) ∧
  (statusWord State.reset 0x14 = 1 ∧ statusWord State.reset 0x18 = 0 ∧ statusWord State.reset 0x1C = 0) ∧
  (∀ i, tabGet State.reset.ctr.cnt 0 i = 0) ∧
  (∀ c n, stoOn State.reset c n = false) ∧
  (State.reset.safety.core.running = false ∧ State.reset.safety.scarp.running = false ∧ State.reset.safety.session = none) ∧
  State.reset.dbg.level = .closed ∧ State.reset.host.queues = [] ∧ State.reset.pending = []

/-- Every step keeps the memories of the debug window canonical and every counter within its 48 bits (18 R487, 19 R501). -/
def Obligations.EveryStepKeepsTheStateWhole : Prop :=
  ∀ s t : State, Whole s → step s = .next t → Whole t

/-- A counter of the global set never falls, but when the logic supply is lost (19 R501). -/
def Obligations.CountersFallOnlyWithTheSupply : Prop :=
  ∀ (c : Instr) (s t : State) (i : Nat), exec c s = .next t → removesPower c = false → tabGet s.ctr.cnt 0 i ≤ max48 →
    tabGet s.ctr.cnt 0 i ≤ tabGet t.ctr.cnt 0 i

/-- The memories of the debug window are written only by commands that can write registers; a reset clears them both
(18 R487). -/
def Obligations.DebugMemoriesChangeOnlyByRegisterWrites : Prop :=
  ∀ (c : Instr) (s t : State), exec c s = .next t → writesRegister c = false →
    (t.dbg.lpddr = s.dbg.lpddr ∧ t.dbg.wlocal = s.dbg.wlocal) ∨ (t.dbg.lpddr = [] ∧ t.dbg.wlocal = [])

/-- The lifecycle changes only by debug.auth; minimum security versions and minimum key slots only rise; a revoked slot stays
revoked (18 R477, R480, R485). -/
def Obligations.FusesOnlyBurn : Prop :=
  ∀ (c : Instr) (s t : State), exec c s = .next t →
    ((∀ r, c ≠ .debugAuth r) → t.sys.lc = s.sys.lc) ∧
    (∀ k, tabGet s.sys.minSvn 0 k ≤ tabGet t.sys.minSvn 0 k) ∧
    ∀ k, (s.key k).minSlot ≤ (t.key k).minSlot ∧
      ∀ i, (s.key k).revoked.getLsbD i = true → (t.key k).revoked.getLsbD i = true

/-- A latched trip of the Scarp die stays latched under every command but a reset edge, its effect at the motion floor, a
start of the die and a loss of supply (10 R283, R307). -/
def Obligations.ScarpTripsStayLatched : Prop :=
  ∀ (c : Instr) (s t : State) (n cause : Nat), exec c s = .next t → endsTrips c = false →
    cause ∈ latchOf s.safety.scarp n → cause ∈ latchOf t.safety.scarp n

/-- What the two channels have stored, and the session password, change only by a commit and by the erasure of a returned
module; the change log never loses its numbering (10 R310, R313, R315). -/
def Obligations.StoredSafetyChangesOnlyByCommit : Prop :=
  ∀ (c : Instr) (s t : State), exec c s = .next t →
    (storesSafety c = false → t.safety.core.image = s.safety.core.image ∧ t.safety.scarp.image = s.safety.scarp.image ∧
      t.safety.password = s.safety.password) ∧
    s.safety.logSeq ≤ t.safety.logSeq

/-- The cycle number changes only at an instant, or where the time starts anew (01 R28, 15 R428). -/
def Obligations.CycleNumberMovesOnlyAtInstants : Prop :=
  ∀ (c : Instr) (s t : State), exec c s = .next t → setsCycle c = false → t.time.cycle = s.time.cycle

/-- SYS_IDENT, SYS_STATE, SYS_TIME_GET, PART_INFO and PART_STATS complete OK with the fields of their layouts, of which SYS.STATE is
as 02 R56 gives it. -/
def Obligations.SystemQueriesAnswerTheirFields : Prop :=
  ∀ (r : Request) (s : State),
    (hasRight s r.part 0x0001 = true → exec (.sysIdent r) s = .next (ok s (withOp r 0x0001)
      [(16, 4, (identWord s 0 : Int)), (20, 4, (identWord s 1 : Int)), (24, 4, (identWord s 2 : Int)), (28, 4, (identWord s 3 : Int))])) ∧
    (hasRight s r.part 0x0002 = true → exec (.sysState r) s = .next (ok s (withOp r 0x0002)
      [(16, 4, ((s.sys.stage + 16 * s.sys.rate + 256 * healedBits s + 65536 * b2n s.sys.safe + 131072 * b2n s.sys.creel : Nat) : Int))])) ∧
    (hasRight s r.part 0x0003 = true → exec (.sysTimeGet r) s = .next (ok s (withOp r 0x0003)
      [(16, 8, (s.time.now : Int)), (24, 8, s.time.cycle), (32, 2, s.time.master), (34, 1, s.time.depth), (35, 1, s.time.tstate),
       (36, 2, s.time.srcMember), (38, 1, (srcCode s.time).1), (39, 1, (srcCode s.time).2), (40, 4, s.time.offset),
       (44, 2, s.time.utcOff), (48, 4, s.time.trims.length)])) ∧
    (hasRight s r.part 0x0101 = true → tabHas s.host.parts (partNamed r) = true →
      (partNamed r = r.part ∨ (s.part r.part).supervisor = true) →
      exec (.partInfo r) s = .next (ok s (withOp r 0x0101)
        ([(16, 2, (partNamed r : Int)), (18, 1, (s.part (partNamed r)).binding),
          (19, 1, b2n (s.part (partNamed r)).mgmt + 2 * b2n (s.part (partNamed r)).global + 4 * b2n (s.part (partNamed r)).supervisor),
          (20, 4, (s.part (partNamed r)).qrights.toNat), (24, 4, (s.part (partNamed r)).arights.toNat),
          (28, 4, (s.part (partNamed r)).qlimit), (32, 4, (s.part (partNamed r)).quota), (36, 4, (s.part (partNamed r)).rateCeil),
          (40, 2, (s.part (partNamed r)).quantum), (42, 1, (filterOf (s.part (partNamed r))).1.length),
          (43, 1, (filterOf (s.part (partNamed r))).2.length), (44, 4, queuesHeld s (partNamed r)), (48, 4, entriesHeld s (partNamed r))] ++
          filterFields (s.part (partNamed r))) 0 2)) ∧
    (hasRight s r.part 0x0102 = true → exec (.partStats r) s = .next (ok s (withOp r 0x0102)
      ((List.range 5).map (fun k => (16 + 8 * k, 8, ((tabGet (s.pstat r.part).cnt 0 k : Nat) : Int))) ++
        [(56, 2, ((s.pstat r.part).lastOp : Int)), (58, 2, ((s.pstat r.part).lastOff : Int))])))

/-- SYS_SUBSCRIBE adds its class to the CLASSES of the event queue it names, and SYS_UNSUBSCRIBE removes one class or all; the
completion carries the classes, and with its writing the subscription, with the destination given, comes into force or ends (02 R546). -/
def Obligations.SubscriptionsSetTheClassesOfAnEventQueue : Prop :=
  ∀ (r : Request) (s : State),
    (hasRight s r.part 0x0010 = true → (s.part r.part).qrights.getLsbD (classBit (rq r 20 1)) = true →
      ownEventQueue s r = true → eventClasses.contains (rq r 20 1) = true → familySuits (s.queue (rq r 16 4)) r = true →
      (rq r 21 1 = 0 ∨ rq r 22 2 ≠ 0) →
      ∃ u, exec (.sysSubscribe r) s = .next (ok u (withOp r 0x0010) [(16, 4, (rq r 16 4 : Int)), (20, 4, ((u.queue (rq r 16 4)).classes.toNat : Int))]) ∧
        u.queue (rq r 16 4) = { s.queue (rq r 16 4) with
          classes := (s.queue (rq r 16 4)).classes ||| BitVec.ofNat 17 (2 ^ classBit (rq r 20 1)) } ∧
        (∀ n, n ≠ rq r 16 4 → u.queue n = s.queue n) ∧ SameBut (among [.host]) s u) ∧
    (hasRight s r.part 0x0011 = true → ownEventQueue s r = true → (rq r 20 1 = 0xFF ∨ eventClasses.contains (rq r 20 1) = true) →
      ∃ u, exec (.sysUnsubscribe r) s = .next (ok u (withOp r 0x0011) [(16, 4, (rq r 16 4 : Int)), (20, 4, ((u.queue (rq r 16 4)).classes.toNat : Int))]) ∧
        u.queue (rq r 16 4) = { s.queue (rq r 16 4) with
          classes := if rq r 20 1 = 0xFF then 0
            else (s.queue (rq r 16 4)).classes &&& ~~~ BitVec.ofNat 17 (2 ^ classBit (rq r 20 1)) } ∧
        (∀ n, n ≠ rq r 16 4 → u.queue n = s.queue n) ∧ SameBut (among [.host]) s u) ∧
    ∀ c : Completion, c.code = 0 → tabHas s.host.queues (rq r 16 4) = true →
      (whenWritten s (withOp r 0x0010) c).queue (rq r 16 4) = { s.queue (rq r 16 4) with
        inForce := (s.queue (rq r 16 4)).inForce ||| BitVec.ofNat 17 (2 ^ classBit (rq r 20 1))
        dest := if rq r 21 1 = 0 then (s.queue (rq r 16 4)).dest else subAddr r
        dport := if rq r 21 1 = 0 then (s.queue (rq r 16 4)).dport else rq r 22 2
        evPort := r.port } ∧
      (whenWritten s (withOp r 0x0011) c).queue (rq r 16 4) = { s.queue (rq r 16 4) with
        inForce := if rq r 20 1 = 0xFF then 0
          else (s.queue (rq r 16 4)).inForce &&& ~~~ BitVec.ofNat 17 (2 ^ classBit (rq r 20 1)) }

/-- QUEUE_CREATE gives the lowest free queue number to a queue with a full bucket and a fresh key; QUEUE_BUCKET_SET sets rate and
burst; QUEUE_REKEY gives a fresh key, in force with its completion; QUEUE_DELETE begins the deletion, without the requests that have not begun service
(02 R64, R65, R547). -/
def Obligations.QueueCommandsCreateChangeAndDelete : Prop :=
  ∀ (r : Request) (s : State),
    (hasRight s r.part 0x0110 = true → rq r 16 1 ≤ 1 → rq r 18 1 ≤ 3 → (rq r 18 1 ≠ 0 ∨ rq r 19 1 ≤ 63 ∨ rq r 19 1 = 0xFF) →
      (rq r 18 1 = (s.part r.part).binding ∨ ((s.part r.part).binding = 3 ∧ 1 ≤ rq r 18 1)) →
      (rq r 18 1 = 0 → rq r 32 8 % 64 = 0 ∧ rq r 40 8 % 64 = 0) →
      queuesHeld s r.part + (if rq r 16 1 = 0 then 2 else 1) ≤ (s.part r.part).qlimit →
      entriesHeld s r.part + (if rq r 16 1 = 0 then 2 else 1) * 2 ^ clampN 4 16 (rq r 17 1) ≤ (s.part r.part).quota →
      freeNumber s ≤ 1048574 →
      ∃ u fields, exec (.queueCreate r) s = .next (ok u (withOp r 0x0110) fields) ∧
        (u.queue (freeNumber s)).part = r.part ∧ (u.queue (freeNumber s)).event = (rq r 16 1 != 0) ∧
        (u.queue (freeNumber s)).depthLog2 = clampN 4 16 (rq r 17 1) ∧ (u.queue (freeNumber s)).transport = rq r 18 1 ∧
        (rq r 16 1 = 0 → (u.queue (freeNumber s)).rate = clampN 16 (s.part r.part).rateCeil (rq r 20 4) ∧
          (u.queue (freeNumber s)).tokens = (u.queue (freeNumber s)).burst) ∧
        (u.queue (freeNumber s)).slots = [] ∧ (∀ n, n ≠ freeNumber s → u.queue n = s.queue n) ∧
        (16, 4, (freeNumber s : Int)) ∈ fields ∧ (32, 8, ((u.queue (freeNumber s)).key.toNat : Int)) ∈ fields ∧
        SameBut (among [.host]) s u) ∧
    (hasRight s r.part 0x0112 = true → ownQueue s r = true → (s.queue (rq r 16 4)).event = false →
      ∃ (u : State) (rate burst : Nat), exec (.queueBucketSet r) s = .next (ok u (withOp r 0x0112) [(16, 4, (rq r 16 4 : Int)), (20, 4, (rate : Int)), (24, 4, (burst : Int))]) ∧
        rate = clampN 16 (s.part r.part).rateCeil (rq r 20 4) ∧ burst = clampN 16 (depthOf (s.queue (rq r 16 4))) (rq r 24 4) ∧
        u.queue (rq r 16 4) = { s.queue (rq r 16 4) with rate, burst, tokens := min (s.queue (rq r 16 4)).tokens burst } ∧
        (∀ n, n ≠ rq r 16 4 → u.queue n = s.queue n) ∧ SameBut (among [.host]) s u) ∧
    (hasRight s r.part 0x0113 = true → ownQueue s r = true →
      ∃ (u : State) (key : BitVec 64),
        exec (.queueRekey r) s = .next (ok u (withOp r 0x0113) [(16, 4, (rq r 16 4 : Int)), (32, 8, (key.toNat : Int))]) ∧
        (∀ n, u.queue n = s.queue n) ∧ SameBut (among []) s u ∧
        ∀ (v : State) (c : Completion), c.code = 0 → c.fields = [(16, 4, (rq r 16 4 : Int)), (32, 8, (key.toNat : Int))] →
          tabHas v.host.queues (rq r 16 4) = true →
          (whenWritten v (withOp r 0x0113) c).queue (rq r 16 4) = { v.queue (rq r 16 4) with key } ∧
          ∀ n, n ≠ rq r 16 4 → (whenWritten v (withOp r 0x0113) c).queue n = v.queue n) ∧
    (hasRight s r.part 0x0111 = true → ownQueue s r = true → (s.queue (rq r 16 4)).event = true → s.dbg.level = .closed →
      ∃ u, exec (.queueDelete r) s = .next (ok u (withOp r 0x0111) [(16, 4, (rq r 16 4 : Int))]) ∧
        tabHas u.host.queues (rq r 16 4) = false ∧ (∀ n, n ≠ rq r 16 4 → u.queue n = s.queue n) ∧
        SameBut (among [.host]) s u) ∧
    (hasRight s r.part 0x0111 = true → ownQueue s r = true → (s.queue (rq r 16 4)).event = false →
      (s.queue (rq r 16 4)).slots.all (fun x => x.phase == .waiting || x.phase == .started) = true →
      (s.queue (rq r 16 4)).slots.any (fun x => x.phase == .started) = true → s.dbg.level = .closed →
      ∃ u, exec (.queueDelete r) s = .next (ok u (withOp r 0x0111) [(16, 4, (rq r 16 4 : Int))]) ∧
        u.queue (rq r 16 4) = { s.queue (rq r 16 4) with
          deleting := true, hostRing := [], slots := (s.queue (rq r 16 4)).slots.filter fun x => x.phase != .waiting } ∧
        (∀ n, n ≠ rq r 16 4 → u.queue n = s.queue n) ∧ SameBut (among [.host]) s u)

/-- The checks of a request's enumerated fields name the lowest offset that fails, and a clamped value is the nearest limit
(02 R46 step 9, R52). -/
def Obligations.LowestFailingFieldAndNearestLimit : Prop :=
  (∀ (l : List (Nat × Bool)) (o : Nat), firstBad l = some o ↔ (o, false) ∈ l ∧ ∀ x ∈ l, x.2 = false → o ≤ x.1) ∧
  (∀ l : List (Nat × Bool), firstBad l = none ↔ ∀ x ∈ l, x.2 = true) ∧
  ∀ lo hi v : Nat, lo ≤ hi → lo ≤ clampN lo hi v ∧ clampN lo hi v ≤ hi ∧ (lo ≤ v → v ≤ hi → clampN lo hi v = v) ∧
    (v < lo → clampN lo hi v = lo) ∧ (hi < v → clampN lo hi v = hi)

/-- Within one mailbox completions are written in ring order (02 R45): an answer marks its request; while an older request is
unanswered nothing is written, and otherwise the answered requests at the front of the ring are written, oldest first. -/
def Obligations.CompletionsKeepRingOrder : Prop :=
  ∀ (s : State) (r : Request) (c : Completion), r.queue ≠ journalQueue →
    hasStarted (s.queue r.queue) r = true → (s.queue r.queue).transport = 0 → (s.queue r.queue).deleting = false →
    let l := markDone (s.queue r.queue).slots r { c with opcode := r.opcode, tag := r.tag }
    ((answer s r c).queue r.queue).slots = (splitDone l).2 ∧
    ((answer s r c).queue r.queue).comps = (s.queue r.queue).comps ++ (splitDone l).1.map (·.2) ∧
    (splitDone l).1.map (fun x => some x.2) ++ (splitDone l).2.map (fun x => match x.phase with | .done d => some d | _ => none) =
      l.map (fun x => match x.phase with | .done d => some d | _ => none) ∧
    (∀ x, (splitDone l).2.head? = some x → ∀ d, x.phase ≠ .done d)

/-- An event queue that is full drops the new event and counts it; the next event that fits carries the number of events dropped
before it in its header (02 R40). An event of a queue on PCIe that fits joins the entries written; one of a queue on Ethernet leaves
in a datagram, whose GAP is that number, and is consumed at once, so such a queue is never full (02 R60, R61). -/
def Obligations.FullEventQueueDropsAndCounts : Prop :=
  ∀ (s : State) (n cls : Nat) (e : Event),
    ((s.queue n).transport = 0 → depthOf (s.queue n) - 1 < unconsumed (s.queue n) + 1 →
      ((offerEvent s n e cls).queue n).comps = (s.queue n).comps ∧
      ((offerEvent s n e cls).queue n).dropped = satAdd max32 (s.queue n).dropped 1) ∧
    ((s.queue n).transport = 0 → unconsumed (s.queue n) + 1 ≤ depthOf (s.queue n) - 1 →
      ((offerEvent s n e cls).queue n).dropped = 0 ∧
      ∃ c, ((offerEvent s n e cls).queue n).comps = (s.queue n).comps ++ [c] ∧ c.detail = (s.queue n).dropped ∧
        c.opcode = cls * 256 ∧ c.fields = e.fields) ∧
    ((s.queue n).transport ≠ 0 →
      ((offerEvent s n e cls).queue n).dropped = 0 ∧ ((offerEvent s n e cls).queue n).comps = (s.queue n).comps ∧
      ∃ d c, (offerEvent s n e cls).host.sent = d :: s.host.sent ∧ d.queue = n ∧ d.gap = (s.queue n).dropped ∧ d.comps = [c] ∧
        c.detail = (s.queue n).dropped ∧ c.opcode = cls * 256 ∧ c.fields = e.fields)

/-- TOKEN_REFILL gives every request queue one microsecond of its rate, carrying fractions and stopping at the burst (02 R50). -/
def Obligations.TokenRefillMetersEveryRequestQueue : Prop :=
  ∀ s : State, ∃ t, exec .tokenRefill s = .next t ∧
    (∀ n, (s.queue n).event = false → tabHas s.host.queues n = true →
      (t.queue n).tokens = min ((s.queue n).tokens + ((s.queue n).acc + (s.queue n).rate) / 1000000) (s.queue n).burst ∧
      (t.queue n).acc = ((s.queue n).acc + (s.queue n).rate) % 1000000) ∧
    (∀ n, (s.queue n).event = true → t.queue n = s.queue n) ∧
    (∀ n, (t.queue n).slots = (s.queue n).slots ∧ (t.queue n).comps = (s.queue n).comps) ∧ SameBut (among [.host]) s t

/-- DB_SUBMIT announces entries, of which Creel takes a whole request it has room for, and DB_COMPHEAD consumes completions of a queue
named with its key tag; before Creel opens each is ignored and counted (02 R47, R48, R50, R57, R58). CREEL_HANDOVER lets the first waiting request of partition 0 begin service before all
others (02 R51). -/
def Obligations.DoorbellsAndHandOver : Prop :=
  (∀ (s : State) (part : Nat) (v : BitVec 64) (entries : List (List Byte)), s.sys.creel = false →
    exec (.dbSubmit part v entries) s = .next (bump (ignoreDoorbell s (bitsOf v.toNat 0 20)) (cCreel 2)) ∧
    exec (.dbComphead part v) s = .next (bump (ignoreDoorbell s (bitsOf v.toNat 0 20)) (cCreel 2))) ∧
  (∀ (s : State) (part : Nat) (v : BitVec 64) (entries : List (List Byte)),
    let n := bitsOf v.toNat 0 20
    let tail := bitsOf v.toNat 32 16
    let k := (tail + depthOf (s.queue n) - (s.queue n).tail) % depthOf (s.queue n)
    s.sys.creel = true → doorOk s n (bitsOf v.toNat 48 16) = true → (s.queue n).event = false → tail < depthOf (s.queue n) →
    (s.queue n).hostRing = [] → k ≤ depthOf (s.queue n) - 1 → k ≤ entries.length → (n ≠ 16 ∨ (s.host.bootSq ≠ 0 ∧ s.host.bootCq ≠ 0)) →
    (∀ r, hasRoom { s.queue n with tail, hostRing := entries.take k } r = false) →
    ∃ t, exec (.dbSubmit part v entries) s = .next t ∧ (t.queue n).tail = tail ∧ (t.queue n).hostRing = entries.take k ∧
      ∀ m, m ≠ n → t.queue m = s.queue m) ∧
  (∀ (s : State) (part : Nat) (v : BitVec 64) (e : List Byte),
    let n := bitsOf v.toNat 0 20
    let tail := bitsOf v.toNat 32 16
    let r := readRequest n (s.queue n).part 0 0 {} [e]
    s.sys.creel = true → doorOk s n (bitsOf v.toNat 48 16) = true → (s.queue n).event = false → tail < depthOf (s.queue n) →
    (s.queue n).hostRing = [] → (tail + depthOf (s.queue n) - (s.queue n).tail) % depthOf (s.queue n) = 1 →
    (n ≠ 16 ∨ (s.host.bootSq ≠ 0 ∧ s.host.bootCq ≠ 0)) → byteAt e 2 = 0 →
    hasRoom { s.queue n with tail, hostRing := [e] } r = true → 1 ≤ (s.queue n).tokens →
    ∃ t, exec (.dbSubmit part v [e]) s = .next t ∧
      t.queue n = { s.queue n with
        tail, tokens := (s.queue n).tokens - 1, hostRing := [], admitted := (s.queue n).admitted + 1
        slots := (s.queue n).slots ++ [{ req := { r with serial := (s.queue n).admitted }, reserve := maxEntries r }] } ∧
      ∀ m, m ≠ n → t.queue m = s.queue m) ∧
  (∀ (s : State) (part : Nat) (v : BitVec 64),
    let n := bitsOf v.toNat 0 20
    let head := bitsOf v.toNat 32 16
    let k := (head + depthOf (s.queue n) - (s.queue n).head) % depthOf (s.queue n)
    s.sys.creel = true → tabHas s.host.queues n = true → (s.queue n).event = true → doorOk s n (bitsOf v.toNat 48 16) = true →
    head < depthOf (s.queue n) → k ≤ unconsumed (s.queue n) → (n ≠ 16 ∨ (s.host.bootSq ≠ 0 ∧ s.host.bootCq ≠ 0)) →
    ∃ t, exec (.dbComphead part v) s = .next t ∧ (t.queue n).head = head ∧
      (t.queue n).comps = (consume (s.queue n).headRem k (s.queue n).comps).2 ∧ ∀ m, m ≠ n → t.queue m = s.queue m) ∧
  (∀ (s : State), s.sys.creel = true → s.sys.restart = none → partWaiting (pullAll s) 0 = true →
    exec .creelHandover s = .next (handOver (pullAll s) 0))

/-- A malformed datagram, and one before Creel opens, are dropped and counted for their port; a management read reads the words
named and is answered (02 R46, R48, R62). ETHERNET_AUX_FRAME is counted as answered or dropped (15 R433). -/
def Obligations.DatagramsAreCheckedInOrder : Prop :=
  (∀ (s : State) (port : Nat) (d : Datagram), wellFormedDatagram d = false →
    exec (.creelDatagram port d) s = .next (bump s (cCreel (port - 1))) ∧
    exec (.managementRead port d) s = .next (bump s (cCreel (port - 1))) ∧
    exec (.managementWrite port d) s = .next (bump s (cCreel (port - 1)))) ∧
  (∀ (s : State) (port : Nat) (d : Datagram), wellFormedDatagram d = true → s.sys.creel = false →
    exec (.creelDatagram port d) s = .next (bump s (cCreel (port + 2)))) ∧
  (∀ (s : State) (port : Nat) (d : Datagram),
    let n := namedQueue s (byteAt d.bytes 1) (leAt d.bytes 4 4 % 1048576)
    let p := (s.queue n).part
    wellFormedDatagram d = true → s.sys.creel = true → (acceptors s port d.src).contains p = true → liveQueue s n = true →
    covers (s.queue n).transport port = true → (s.queue n).key.toNat = leAt d.bytes 8 8 →
    (byteAt d.bytes 1 = 1 → (s.queue n).event = false →
      exec (.creelDatagram port d) s = .next (s.each ((splitRequests true 16 ((List.range (leAt d.bytes 2 2)).map fun i =>
          (d.bytes.drop (32 + 64 * i)).take 64)).getD []) fun u l =>
        if (admitRequest u n (readRequest n p port d.sport d.src l)).1 then
          (admitRequest u n (readRequest n p port d.sport d.src l)).2
        else bumpPart u p 4)) ∧
    ((s.part p).mgmt = true → byteAt d.bytes 1 = 3 →
      exec (.managementRead port d) s = .next (sendDatagram (bump (bumpPart
        (mgmtRead p (leAt d.bytes 34 2) (leAt d.bytes 32 2) s).2 p 10) (cCreel 9)) (leAt d.bytes 4 4 % 1048576)
        { port, dst := d.src, dport := d.sport, type := 5,
          mgmt := some (leAt d.bytes 32 2, leAt d.bytes 34 2, (mgmtRead p (leAt d.bytes 34 2) (leAt d.bytes 32 2) s).1) })) ∧
    ((s.part p).mgmt = true → byteAt d.bytes 1 = 4 →
      exec (.managementWrite port d) s = .next (sendDatagram (bump (bumpPart
        (mgmtWrite p ((List.range (leAt d.bytes 34 2)).map fun i => leAt d.bytes (36 + 4 * i) 4) (leAt d.bytes 32 2) s) p 10) (cCreel 9))
        (leAt d.bytes 4 4 % 1048576)
        { port, dst := d.src, dport := d.sport, type := 5, mgmt := some (leAt d.bytes 32 2, leAt d.bytes 34 2, []) }))) ∧
  ∀ (s : State) (port : Nat) (kind : AuxKind), ∃ t, exec (.ethernetAuxFrame port kind) s = .next t ∧
    tabGet t.sys.aux 0 (2 * port + if s.sys.ethOn = true ∧ 2 ≤ s.sys.stage ∧ kind ≠ .other then 0 else 1) =
      satAdd max48 (tabGet s.sys.aux 0 (2 * port + if s.sys.ethOn = true ∧ 2 ≤ s.sys.stage ∧ kind ≠ .other then 0 else 1)) 1

/-- An access of a width other than 32 or 64 bits, or not aligned to its width, changes nothing but the fault count: a read returns
zero (02 R545). A 32-bit read returns the word of its offset with what the read does, zero and counted without the window's right
(02 R55). A read of DB.FAULT.COUNT returns the count, which then is zero (02 R57). -/
def Obligations.RegisterReadsReturnTheirWords : Prop :=
  (∀ (s : State) (p off width : Nat) (v : BitVec 64), goodAccess off width = false →
    (∃ t, exec (.registerRead p off width) s = .next t ∧ t.host.readData = 0 ∧
      t.host.faultCount = satAdd max32 s.host.faultCount 1 ∧ SameBut (among [.host, .ctr]) s t) ∧
    exec (.registerWrite p off width v) s = .next (countFault s)) ∧
  (∀ (s : State) (p off : Nat), off % 4 = 0 → canReach s p off = true →
    ∃ t, exec (.registerRead p off 32) s = .next t ∧ t.host.readData = BitVec.ofNat 64 (readWord s p off).1 ∧
      (off < 4096 → (readWord s p off).1 = statusWord s off ∧ SameBut (among [.host]) s t)) ∧
  (∀ (s : State) (p off : Nat), off % 4 = 0 → canReach s p off = false →
    ∃ t, exec (.registerRead p off 32) s = .next t ∧ t.host.readData = 0 ∧ t.host.faultCount = satAdd max32 s.host.faultCount 1) ∧
  ∀ (s : State) (p : Nat), ∃ t, exec (.dbFaultCountRead p) s = .next t ∧
    t.host.readData = BitVec.ofNat 64 s.host.faultCount ∧ t.host.faultCount = 0 ∧ SameBut (among [.host]) s t

/-- A 64-bit read of a CTR.VAL word returns one coherent value; a read of its low half latches the high half for that partition, the
next read of the high half returns the latched value, and one with no latch pending the current value (19 R511). A read of a port's
TXPEAK or RXPEAK returns it and clears it (19 R510). -/
def Obligations.CounterReadsLatchTheHighHalf : Prop :=
  (∀ (s : State) (p j : Nat), j < 256 → canReach s p 0x3800 = true →
    let w := ctrWord s p (s.pstat p).selView (256 * (s.pstat p).selBank + j)
    (∃ t, exec (.registerRead p (0x3800 + 8 * j) 64) s = .next t ∧ t.host.readData = BitVec.ofNat 64 w) ∧
    (∃ t, exec (.ctrValLowRead p j) s = .next t ∧ t.host.readData = BitVec.ofNat 64 (half w false) ∧
      (t.pstat p).latch = some (j, half w true)) ∧
    (∀ v, (s.pstat p).latch = some (j, v) →
      ∃ t, exec (.ctrValHighRead p j) s = .next t ∧ t.host.readData = BitVec.ofNat 64 v ∧ (t.pstat p).latch = none) ∧
    ((s.pstat p).latch = none →
      ∃ t, exec (.ctrValHighRead p j) s = .next t ∧ t.host.readData = BitVec.ofNat 64 (half w true))) ∧
  ∀ (s : State) (p port : Nat), port < 17 → canReach s p 0x3100 = true → (s.part p).global = true →
    (∃ t, exec (.ctrBwPeakRead p port true) s = .next t ∧ t.host.readData = BitVec.ofNat 64 (s.port port).txPeak ∧
      (t.port port).txPeak = 0 ∧ (t.port port).rxPeak = (s.port port).rxPeak) ∧
    ∃ t, exec (.ctrBwPeakRead p port false) s = .next t ∧ t.host.readData = BitVec.ofNat 64 (s.port port).rxPeak ∧
      (t.port port).rxPeak = 0 ∧ (t.port port).txPeak = (s.port port).txPeak

/-- A register write has the effect of its register: SYS.SUPPLY's sticky bits clear by writing one, for the supervisor; the
recorder cursor; the base addresses of the bootstrap mailbox; reserved offsets ignore it (00 R13, 02 R57, 17 R463, 20 R526). -/
def Obligations.RegisterWritesActOnTheirRegister : Prop :=
  ∀ (s : State) (p : Nat),
    (∀ v : Word, (s.part p).supervisor = true →
      ∃ t, exec (.sysSupplyW1cWrite p v) s = .next t ∧
        t.supply.pfwSeen = (s.supply.pfwSeen && !bitAt v.toNat 8) ∧ t.supply.fieldLoss = (s.supply.fieldLoss && !bitAt v.toNat 9) ∧
        t.supply.overTemp = (s.supply.overTemp && !bitAt v.toNat 10) ∧ t.supply.cageOff = (s.supply.cageOff && !bitAt v.toNat 11) ∧
        SameBut (among [.supply]) s t) ∧
    (∀ v : Word, (s.part p).supervisor = false → exec (.sysSupplyW1cWrite p v) s = .next (countFault s)) ∧
    (∀ v : Word, canReach s p 0x2000 = true →
      ∃ t, exec (.recCursorSeqWrite p v) s = .next t ∧ (t.pstat p).cursor = v.toNat ∧ (t.pstat p).winSource = 0 ∧
        SameBut (among [.host]) s t) ∧
    (∀ v : BitVec 64, ∃ t, exec (.registerWrite p 0x1018 64 v) s = .next t ∧ t.host.bootSq = v.toNat ∧
      SameBut (among [.host]) s t) ∧
    (∀ (v : BitVec 64) (off : Nat), 0x6000 ≤ off → off < 0x10000 → off % 4 = 0 → exec (.registerWrite p off 32 v) s = .next s)

/-- In an INTRUSIVE session, a write by the holder: of DBG.WHALT stores the halt requests, which reach the weavers of running baskets; of DBG.CHALT those of
the cores; of DBG.CTRL.RESET resets the controller die with cause 06h and leaves the Scarp die as it is; of DBG.MEM.DATA stores a word
where writes are allowed and advances the address; a read of DBG.MEM.DATA returns the word and advances (18 R487, R488, R493, R495). -/
def Obligations.DebugWindowActsForTheHolder : Prop :=
  ∀ (s : State) (p : Nat), isHolder s p = true → s.dbg.level = .intrusive → canReach s p 0x5000 = true →
    (∀ v : Word, ∃ t, exec (.dbgWhaltWrite p false v) s = .next t ∧
      t.dbg.whalt = BitVec.ofNat 64 (v.toNat + 4294967296 * half s.dbg.whalt.toNat true) ∧
      haltedWeavers t = (BitVec.ofNat 64 (v.toNat + 4294967296 * half s.dbg.whalt.toNat true) &&& BitVec.ofNat 64 (haltable s)) |||
        BitVec.ofNat 64 (ofBits ((List.range 64).map fun w => (s.weaver w).stopped))) ∧
    (∀ v : Word, ∃ t, exec (.dbgWhaltWrite p true v) s = .next t ∧
      t.dbg.whalt = BitVec.ofNat 64 (half s.dbg.whalt.toNat false + 4294967296 * v.toNat) ∧
      haltedWeavers t = (BitVec.ofNat 64 (half s.dbg.whalt.toNat false + 4294967296 * v.toNat) &&& BitVec.ofNat 64 (haltable s)) |||
        BitVec.ofNat 64 (ofBits ((List.range 64).map fun w => (s.weaver w).stopped))) ∧
    (∀ v : Word, ∃ t, exec (.dbgChaltWrite p v) s = .next t ∧
      t.dbg.chalt = BitVec.ofNat 32 (v.toNat % 512 + if bitAt v.toNat 9 = true ∧ (s.sys.lc = .blank ∨ s.sys.lc = .returned) then 512 else 0)) ∧
    (∀ v : Word, v.toNat % 2 = 1 → ∃ t, exec (.dbgCtrlReset p v) s = .next t ∧ t.sys.ctl = .inReset ∧ t.sys.cause = 6 ∧
      t.sys.scarp = s.sys.scarp ∧ t.dbg.level = .closed) ∧
    (∀ v : Word, ∃ t, exec (.dbgMemDataWrite p v) s = .next t ∧ t.dbg.memAddr = (s.dbg.memAddr + 4) % 18446744073709551616 ∧
      (memWritable s = true → s.dbg.memSpace = 0 → t.dbg.lpddr = memPut s.dbg.lpddr s.dbg.memAddr v.toNat) ∧
      (memWritable s = false → t.dbg.lpddr = s.dbg.lpddr ∧ t.dbg.wlocal = s.dbg.wlocal ∧ t.dbg.addrFail = satAdd 65535 s.dbg.addrFail 1) ∧
      (memWritable s = true → SameBut (among [.dbg]) s t) ∧ SameBut (among [.dbg, .cairn, .ctr]) s t) ∧
    ∃ t, exec (.dbgMemDataRead p) s = .next t ∧ t.dbg.memAddr = (s.dbg.memAddr + 4) % 18446744073709551616 ∧
      (memReadable s s.dbg.memSpace s.dbg.memUnit s.dbg.memAddr = true → t.host.readData = BitVec.ofNat 64 (memWord s)) ∧
      (memReadable s s.dbg.memSpace s.dbg.memUnit s.dbg.memAddr = false → t.host.readData = 0 ∧ t.dbg.addrFail = satAdd 65535 s.dbg.addrFail 1) ∧
      (memReadable s s.dbg.memSpace s.dbg.memUnit s.dbg.memAddr = true → SameBut (among [.dbg, .host]) s t) ∧
      SameBut (among [.dbg, .host, .cairn, .ctr]) s t

/-- Under an update grant, START erases copy 1 of the granted KIND, a data write takes one word at the offset, and COMMIT programs copy
1 with what was received, copy 0 as well if it verifies, and ends the grant (18 R482). -/
def Obligations.UpdateGrantProgramsAnImage : Prop :=
  ∀ (s : State) (p : Nat) (v : Word), isHolder s p = true → s.dbg.level = .imgGrant → canReach s p 0x5000 = true →
    (v.toNat % 16 = s.dbg.grantKind → bitAt v.toNat 5 = false →
      ∃ t, exec (.dbgImgStart p v) s = .next t ∧ t.dbg.imgOffset = 0 ∧ t.dbg.imgWords = [] ∧ t.dbg.imgStarted = true ∧
        t.dbg.imgStatus = 1 ∧ imgAt t s.dbg.grantKind 1 = { erased := true }) ∧
    (s.dbg.imgStarted = true →
      ∃ t, exec (.dbgImgDataWrite p v) s = .next t ∧ t.dbg.imgWords = v.toNat :: s.dbg.imgWords ∧
        t.dbg.imgOffset = (s.dbg.imgOffset + 4) % 4294967296 ∧ SameBut (among [.dbg]) s t) ∧
    (s.dbg.imgStarted = true → v.toNat % 16 = s.dbg.grantKind → bitAt v.toNat 4 = false →
      ∃ t, exec (.dbgImgCommit p v) s = .next t ∧
        imgAt t s.dbg.grantKind 1 = parseImg s (imgBytes s.dbg.imgWords) ∧
        t.dbg.imgStatus = verifyCode s s.dbg.grantKind (parseImg s (imgBytes s.dbg.imgWords)) ∧ t.dbg.level = .closed ∧
        (t.dbg.imgStatus = 3 → imgAt t s.dbg.grantKind 0 = parseImg s (imgBytes s.dbg.imgWords)))

/-- The reset releases and stages of 15 R423, in their order: each command of start-up has its effect where its stage is in force. -/
def Obligations.StartUpReachesItsStages : Prop :=
  ∀ s : State,
    (∀ dc, s.supply.good = false → ∃ t, exec (.mainsInRange dc) s = .next t ∧ t.supply.mains = true ∧ t.supply.dcin = dc ∧
      t.supply.bulk = true ∧ SameBut (among [.supply]) s t) ∧
    (∀ ext slot carrier, s.supply.good = false → s.supply.thermal = false →
      ∃ t, exec (.powerGood ext slot carrier) s = .next t ∧ t.supply.good = true ∧ t.supply.fieldExt = ext ∧ t.supply.slot = slot ∧
        t.supply.carrier = carrier ∧ t.sys.ctl = .inReset ∧ t.sys.scarp = .inReset ∧ t.sys.cause = 1 ∧ t.sys.count = 0 ∧
        t.field.on = (!ext || s.field.on) ∧ SameBut (among [.supply, .sys, .field]) s t) ∧
    (s.supply.good = true → s.sys.scarp = .inReset →
      ∃ t, exec .scarpResetRelease s = .next t ∧ t.sys = { s.sys with scarp := .running } ∧ t.safety.scarp.running = true ∧
        t.safety.scarp.modTrip = [0x17] ∧ t.safety.scarp.cfg = s.safety.scarp.cfg ∧ SameBut (among [.sys, .safety]) s t) ∧
    (s.supply.good = true → s.sys.ctl = .inReset → s.sys.mrst = false →
      ∃ t, exec .controllerResetRelease s = .next t ∧ t.sys = { s.sys with ctl := .running, stage := 0 } ∧ SameBut (among [.sys]) s t) ∧
    (s.sys.ctl = .running → s.sys.stopped = false →
      (∀ rtc, s.sys.stage = 0 → verifies s 1 0 = true →
        ∃ t, exec (.trustedImageVerified rtc) s = .next t ∧ t.sys.stage = 1 ∧ t.sys.fwTrusted = (imgAt s 1 0).line ∧
          t.sys.ethOn = true ∧ t.time.now = rtc ∧ t.cairn.running = true ∧ (s.sys.fell = false → t.sys.stageMs = 35) ∧
          SameBut (among [.sys, .time, .cairn, .ctr]) s t) ∧
      (s.sys.stage = 1 → ∃ t, exec .canStart s = .next t ∧
        (∀ n, n < 8 → (t.ch n).on = true ∧ (t.ch n).cfg = tabGet s.can.stored.chans {} n ∧ (t.ch n).cnt = (s.ch n).cnt) ∧
        SameBut (among [.can]) s t) ∧
      (∀ mc m a b, s.sys.stage = 1 → bootManifest s = some (mc, m) → bootCopy s 2 = some a → bootCopy s 3 = some b →
        ∃ t, exec (.appStart true) s = .next t ∧ t.sys.stage = 2 ∧ t.sys.timeBase = true ∧ t.sys.manifest = m ∧
          t.sys.fwApp = (imgAt s 2 a).line ∧ t.sys.fwSafety = (imgAt s 3 b).line) ∧
      (2 ≤ s.sys.stage → ∃ t, exec .rootPortRelease s = .next t ∧ t.sys = { s.sys with rootPorts := true } ∧ SameBut (among [.sys]) s t) ∧
      (s.sys.stage = 2 → s.pow.mode = 0 → handshakeOk s true = true →
        ∃ t, exec (.safetyHandshake true) s = .next t ∧ t.sys.stage = 3 ∧ t.sys.safe = true ∧ t.safety.asleep = false ∧
          SameBut (among [.sys, .safety]) s t) ∧
      (s.sys.stage = 3 → s.pow.mode = 0 →
        ∃ t, exec (.weaverLoad true) s = .next t ∧ t.sys.stage = 4 ∧ t.sys.manifest = s.sys.manifest ∧
          SameBut (among [.sys, .ctr, .cairn, .loop, .motion, .doors, .field, .can]) s t) ∧
      (s.sys.stage = 4 → s.pow.mode = 0 → s.sys.creel = false →
        ∃ t, exec .creelOpen s = .next t ∧ t.sys.stage = 5 ∧ t.sys.creel = true ∧ t.can.tx = true ∧
          SameBut (among [.sys, .can, .cairn, .ctr]) s t)) ∧
    (s.sys.ctl = .running → ∃ t, exec .pcieLinkUp s = .next t ∧ t.sys = { s.sys with pcieUp := true, pcieQuiet := false } ∧
      (∀ n, (t.queue n).unraised = false ∧ (t.queue n).comps = (s.queue n).comps ∧
        ((s.queue n).unraised = true → (s.queue n).vector < 64 → tabGet s.host.msix 0 (s.queue n).vector < tabGet t.host.msix 0 (s.queue n).vector)) ∧
      SameBut (among [.sys, .host, .ctr]) s t) ∧
    (s.sys.scarp = .running → s.sys.floor = false →
      ∃ t, exec .motionFloor s = .next t ∧ t.sys = { s.sys with floor := true } ∧ SameBut (among [.sys, .ctr, .cairn, .rings, .safety]) s t)

/-- What stops start-up (15 R426): both trusted copies failing 01h, no working memory 02h, no manifest 03h, no application 04h or safety
image 05h, a failed handshake 06h with module trip 14h requested, a weaver that fails its check 07h. -/
def Obligations.StartUpStopsWithItsCode : Prop :=
  ∀ s : State, s.sys.ctl = .running → s.sys.stopped = false →
    (∀ rtc, s.sys.stage = 0 → bootCopy s 1 = none →
      ∃ t, exec (.trustedImageVerified rtc) s = .next t ∧ t.sys.stopped = true ∧ t.sys.bootFail = 1 ∧ t.sys.stage = 0 ∧ t.sys.ethOn = false) ∧
    (s.sys.stage = 1 →
      (∃ t, exec (.appStart false) s = .next t ∧ t.sys.stopped = true ∧ t.sys.bootFail = 2 ∧ t.sys.stage = 1 ∧ t.sys.ethOn = false) ∧
      (bootManifest s = none → ∃ t, exec (.appStart true) s = .next t ∧ t.sys.stopped = true ∧ t.sys.bootFail = 3 ∧ t.sys.stage = 1) ∧
      (∀ x, bootManifest s = some x → bootCopy s 2 = none →
        ∃ t, exec (.appStart true) s = .next t ∧ t.sys.stopped = true ∧ t.sys.bootFail = 4 ∧ t.sys.stage = 1) ∧
      (∀ x a, bootManifest s = some x → bootCopy s 2 = some a → bootCopy s 3 = none →
        ∃ t, exec (.appStart true) s = .next t ∧ t.sys.stopped = true ∧ t.sys.bootFail = 5 ∧ t.sys.stage = 1)) ∧
    (s.sys.stage = 2 → s.pow.mode = 0 →
      ∃ t, exec (.safetyHandshake false) s = .next t ∧ t.sys.stopped = true ∧ t.sys.bootFail = 6 ∧ t.sys.stage = 2 ∧ t.sys.safe = s.sys.safe) ∧
    (s.sys.stage = 3 → s.pow.mode = 0 →
      ∃ t, exec (.weaverLoad false) s = .next t ∧ t.sys.stopped = true ∧ t.sys.bootFail = 7 ∧ t.sys.stage = 3)

/-- The sources of a controller-die reset (15 R428, R430): MRST_N, the watchdogs where nothing they watch is halted (18 R493), a fatal
fault; the release of MRST_N lets start-up run; a PCIe hot reset leaves the die running. -/
def Obligations.ControllerResetsKeepTheRetentionDomain : Prop :=
  ∀ s : State,
    (s.sys.mrst = false → s.supply.good = true →
      ∃ t, exec .mrstNAssert s = .next t ∧ DieReset 2 s t ∧ t.sys.mrst = true) ∧
    (∃ t, exec .mrstNRelease s = .next t ∧ t.sys = { s.sys with mrst := false } ∧ SameBut (among [.sys]) s t) ∧
    (s.sys.ctl = .running →
      (s.dbg.chalt.getLsbD 9 = false → ∃ t, exec .summitWatchdog s = .next t ∧ DieReset 3 s t ∧ t.sys.mrst = s.sys.mrst) ∧
      (s.sys.fwApp ≠ 0 → s.dbg.chalt.toNat % 256 = 0 → ∃ t, exec .stakeWatchdog s = .next t ∧ DieReset 4 s t ∧ t.sys.mrst = s.sys.mrst) ∧
      ∃ t, exec .fatalControllerFault s = .next t ∧ DieReset 5 s t ∧ t.sys.mrst = s.sys.mrst) ∧
    ∃ t, exec .pcieHotReset s = .next t ∧ t.sys = { s.sys with pcieUp := false, pcieQuiet := true } ∧ SameBut (among [.sys]) s t

/-- SYS_APP_RESTART takes copy 0 of the untrusted image, else copy 1, else the held image where it is unchanged, else it resets the
controller die with cause 05h; it is refused as 15 R432 lists. APP_RESTARTED completes it. -/
def Obligations.ApplicationRestartTakesAVerifiedImage : Prop :=
  ∀ (r : Request) (s : State),
    (hasRight s r.part 0x0020 = true →
      (restartRefused s = true → exec (.sysAppRestart r) s = .next (refused s (withOp r 0x0020))) ∧
      (restartRefused s = false →
        (∀ c, bootCopy s 2 = some c → ∃ t, exec (.sysAppRestart r) s = .next t ∧ t.sys.restart = some (withOp r 0x0020) ∧
          t.sys.appCopy = c ∧ t.sys.fwApp = (imgAt s 2 c).line ∧ t.sys.heldApp = some (imgAt s 2 c).digest ∧ t.can.drain = false ∧
          SameBut (among [.sys, .can, .cairn, .ctr]) s t) ∧
        (bootCopy s 2 = none → appWritten s = false → ∃ t, exec (.sysAppRestart r) s = .next t ∧
          t.sys.restart = some (withOp r 0x0020) ∧ t.sys.appCopy = 2 ∧ t.sys.fwApp = s.sys.fwApp ∧
          SameBut (among [.sys, .can, .cairn, .ctr]) s t) ∧
        (bootCopy s 2 = none → appWritten s = true → ∃ t, exec (.sysAppRestart r) s = .next t ∧
          ((t.sys.restart = some (withOp r 0x0020) ∧ t.sys.appCopy = 2) ∨ DieReset 5 s t)))) ∧
    ∀ us, s.sys.restart = some r → ∃ u, exec (.appRestarted us) s = .next (ok u r [(16, 1, (s.sys.appCopy : Int))] (min us max32)) ∧
      u.sys = { s.sys with restart := none, appRst := satAdd 65535 s.sys.appRst 1 } ∧ u.can.drain = true ∧
      SameBut (among [.sys, .can, .doors]) s u

/-- The supply's events (20 R516, R520 to R522, R525, R526): the power-fail warning, load shedding, the fall of the logic output, the return of the mains,
a measurement, the thermal shut-down and its end, and the field 24 V. -/
def Obligations.SupplyEventsSetTheirBits : Prop :=
  ∀ s : State,
    (s.supply.good = true →
      (∃ t, exec .powerFailWarning s = .next t ∧ t.supply = { s.supply with mains := false, pfw := true, pfwSeen := true } ∧
        SameBut (among [.supply, .cairn, .ctr, .safety]) s t) ∧
      (s.supply.pfw = true → s.supply.shed = false → ∃ t, exec .loadShed s = .next t ∧ t.supply.shed = true ∧ t.supply.storOk = false ∧
        (s.supply.fieldExt = false → t.field.on = false ∧ t.field.doOut = 0 ∧ t.supply.fieldLoss = true) ∧
        (s.supply.fieldExt = true → t.field = s.field)) ∧
      (∃ t, exec .powerGoodFall s = .next t ∧ t.sys.ctl = .unpowered ∧ t.sys.scarp = .unpowered ∧ t.supply.good = false ∧ t.ctr.cnt = [] ∧
        t.sys.images = s.sys.images ∧ t.sys.keys = s.sys.keys ∧ t.nor = { s.nor with queue := [] } ∧ t.safety.scarp.modTrip = []) ∧
      (s.supply.pfw = true → ∃ t, exec .mainsReturn s = .next t ∧
        t.supply = { s.supply with pfw := false, mains := true, shed := false, storOk := s.supply.storOk || s.supply.shed } ∧
        (s.supply.shed = true → s.supply.fieldExt = false → t.field.on = true) ∧ (s.cairn.trace.mode ≠ 0 → t.cairn.gap = true) ∧
        SameBut (among [.supply, .field, .cairn]) s t) ∧
      (∀ m, m.base < 1050 → m.die < 1250 → ∃ t, exec (.tempSample m) s = .next t ∧
        t.supply = { s.supply with
          base := m.base, die := m.die, volts := m.volts, watts := m.watts, mains := m.mains, dcin := m.dcin, fieldOk := m.fieldOk
          fieldLim := m.fieldLim, storOk := m.storOk, overTemp := s.supply.overTemp || decide (850 < m.base) } ∧
        SameBut (among [.supply]) s t) ∧
      (∀ m, 1050 ≤ m.base ∨ 1250 ≤ m.die → ∃ t, exec (.tempSample m) s = .next t ∧ t.supply.thermal = true ∧ t.supply.good = false ∧
        t.sys.ctl = .unpowered) ∧
      (∃ t, exec .field24vLoss s = .next t ∧ t.supply = { s.supply with f24Low := true, fieldOk := false, fieldLoss := true } ∧
        t.field.on = false ∧ t.field.doOut = 0 ∧ SameBut (among [.supply, .field, .cairn, .ctr]) s t) ∧
      ∃ t, exec .field24vRestore s = .next t ∧ t.supply = { s.supply with f24Low := false, fieldOk := true } ∧
        t.field = { s.field with on := true } ∧ SameBut (among [.supply, .field]) s t) ∧
    (s.supply.thermal = true → s.supply.mains = true → ∃ t, exec .thermalRestart s = .next t ∧
      t.supply = { s.supply with thermal := false } ∧ SameBut (among [.supply]) s t)

/-- Cages, the storage output and the sync input (20 R523, R524, R526): a cage is powered only where the total leaves room, one that brings it
above 12 W or exceeds its own limit goes dark, a removed optic frees its cage. -/
def Obligations.CagesStayWithinTheirBudget : Prop :=
  ∀ (s : State) (n : Nat), n < 10 →
    ((s.cage n).powered = true →
      (∀ mw, otherDraw s n + mw ≤ 12000 → ∃ t, exec (.cagePowerMeasure n mw) s = .next t ∧ t.cage n = { s.cage n with draw := mw } ∧
        (∀ k, k ≠ n → t.cage k = s.cage k) ∧ SameBut (among [.supply]) s t) ∧
      (∀ mw, 12000 < otherDraw s n + mw → ∃ t, exec (.cagePowerMeasure n mw) s = .next t ∧
        t.cage n = { s.cage n with powered := false, draw := 0 } ∧ t.supply.cageOff = true ∧ (∀ k, k ≠ n → t.cage k = s.cage k) ∧
        SameBut (among [.supply, .rings, .ctr]) s t) ∧
      ∃ t, exec (.cageOverLimit n) s = .next t ∧ t.cage n = { s.cage n with powered := false, draw := 0, blocked := true } ∧
        t.supply.cageOff = true ∧ (∀ k, k ≠ n → t.cage k = s.cage k) ∧ SameBut (among [.supply, .rings, .ctr]) s t) ∧
    ((s.cage n).fitted = false → ∃ t, exec (.opticInsert n) s = .next t ∧ (t.cage n).fitted = true ∧ (t.cage n).blocked = false ∧
      ((t.cage n).powered = true ↔ s.supply.good = true ∧ otherDraw s n + (if n < 8 then 1500 else 1200) ≤ 12000) ∧
      (∀ k, k ≠ n → t.cage k = s.cage k) ∧ SameBut (among [.supply]) s t) ∧
    ((s.cage n).fitted = true → ∃ t, exec (.opticRemove n) s = .next t ∧ (t.cage n).fitted = false ∧ (t.cage n).powered = false ∧
      SameBut (among [.supply, .rings, .ctr]) s t) ∧
    (s.supply.good = true → ∃ t, exec .storageOvercurrent s = .next t ∧ t.supply = { s.supply with storTrip := true, storOk := false } ∧
      SameBut (among [.supply, .cairn]) s t) ∧
    (s.supply.storTrip = true → ∃ t, exec .storageRetry s = .next t ∧ t.supply = { s.supply with storTrip := false, storOk := true } ∧
      SameBut (among [.supply]) s t) ∧
    (s.sys.ctl = .running → ∀ ns, ∃ t, exec (.synciEdge ns) s = .next t ∧
      t.supply = { s.supply with syncTime := ns / 4 * 4, syncCount := (s.supply.syncCount + 1) % 4294967296 } ∧ SameBut (among [.supply]) s t)

/-- RING_STATUS and RING_NODES complete with the state of the ring they name (03 R84, R108, R111), as held. -/
def Obligations.RingQueriesAnswerTheRing : Prop :=
  ∀ (r : Request) (s : State), rq r 16 1 ≤ 3 →
    (hasRight s r.part 0x4001 = true → ∃ fields, exec (.ringStatus r) s = .next (ok s (withOp r 0x4001) fields 0 1) ∧
      (16, 1, (ringStateCode (s.ring (rq r 16 1)).state : Int)) ∈ fields ∧ (17, 1, ((s.ring (rq r 16 1)).cfg.mode : Int)) ∈ fields ∧
      (20, 2, ((s.ring (rq r 16 1)).leader : Int)) ∈ fields ∧ (24, 2, ((s.ring (rq r 16 1)).loopE : Int)) ∈ fields ∧
      (26, 2, ((s.ring (rq r 16 1)).loopW : Int)) ∈ fields ∧
      (72, 4, ((tabGet s.ctr.cnt 0 (cRing (rq r 16 1) 15) % 4294967296 : Nat) : Int)) ∈ fields) ∧
    (hasRight s r.part 0x4002 = true → 1 ≤ rq r 17 1 → rq r 17 1 ≤ 128 →
      ∃ u fields, exec (.ringNodes r) s = .next (ok u (withOp r 0x4002) fields 0 (contFor (24 + 16 * clampN 1 62 (rq r 18 1)))) ∧
        SameBut (among [.host]) s u ∧ (16, 1, (clampN 1 62 (rq r 18 1) : Int)) ∈ fields ∧
        ∀ i, i < clampN 1 62 (rq r 18 1) →
          (24 + 16 * i, 1, ((rq r 17 1 + i : Nat) : Int)) ∈ fields ∧
          ∀ e, (s.ring (rq r 16 1)).cfg.entries[rq r 17 1 + i - 1]? = some e →
            (24 + 16 * i + 1, 1, (e.kind : Int)) ∈ fields ∧
            (24 + 16 * i + 2, 1, (nodeState (s.ring (rq r 16 1)) (rq r 17 1 + i) : Int)) ∈ fields ∧
            (24 + 16 * i + 12, 2, ((tabGet (s.ring (rq r 16 1)).nodes {} (rq r 17 1 + i)).crcErr : Int)) ∈ fields)

/-- RING_CONFIG with every field in its enumeration, and not refused by 03 R109, waits for the release phase with the configuration it gives,
clamped where 03 R81 bounds it; one that is refused changes nothing (03 R109, R110). -/
def Obligations.RingConfigurationsWaitForTheReleasePhase : Prop :=
  ∀ (r : Request) (s : State), hasRight s r.part 0x4010 = true → actReady s = true → rq r 16 1 ≤ 3 → rq r 17 1 ≤ 2 → rq r 18 1 ≤ 2 →
    rq r 20 2 ≠ 0 → rq r 22 2 ≠ 0 → (rq r 17 1 = 1 → rq r 29 1 ≤ 15) →
    (∀ i, i < clampN 0 (entryLimit (rq r 17 1) (rq r 18 1)) (rq r 28 1) →
      rq r (32 + 6 * i + 0) 1 = i + 1 ∧
      (if rq r 17 1 = 1 then rq r (32 + 6 * i + 1) 1 = 4 ∧ 1 ≤ rq r (32 + 6 * i + 2) 1 ∧ rq r (32 + 6 * i + 2) 1 ≤ 32
       else 1 ≤ rq r (32 + 6 * i + 1) 1 ∧ rq r (32 + 6 * i + 1) 1 ≤ 5 ∧ rq r (32 + 6 * i + 3) 1 ≤ 3 ∧
         (rq r (32 + 6 * i + 1) 1 = 4 → rq r (32 + 6 * i + 2) 1 = 0) ∧ (rq r (32 + 6 * i + 1) 1 ≠ 4 → rq r (32 + 6 * i + 2) 1 ≤ 4))) →
    ∃ u : State, ∃ c : RingCfg, SameBut (among [.host]) s u ∧
      c.mode = rq r 17 1 ∧ c.member = rq r 20 2 ∧ c.table = rq r 22 2 ∧ c.fibre = clampN 0 (fibreLimit (rq r 18 1)) (rq r 24 4) ∧
      c.entries.length = clampN 0 (entryLimit (rq r 17 1) (rq r 18 1)) (rq r 28 1) ∧
      (ringRefused u (rq r 16 1) c (rq r 18 1) = true → exec (.ringConfig r) s = .next (refused u (withOp r 0x4010))) ∧
      (ringRefused u (rq r 16 1) c (rq r 18 1) = false → ∃ t, exec (.ringConfig r) s = .next t ∧
        t.ring (rq r 16 1) = { s.ring (rq r 16 1) with cfgPend := (s.ring (rq r 16 1)).cfgPend ++ [(withOp r 0x4010, c, rq r 18 1)] } ∧
        t.sys = { s.sys with rateNext := some (rq r 18 1) } ∧
        OtherRings (rq r 16 1) s t ∧ SameBut (among [.sys, .host, .rings, .pow, .cairn, .ctr, .dbg]) s t)

/-- Copies and service transactions (03 R76, R77, R80, R84, R97, R108): a returned copy of a led ring that its window still awaits is
kept, with the loop time it measured, its errors counted; one that comes after its window counts its slots as late; the answer of the
addressed node ends a transaction; after a second and third try the node is reported as silent. -/
def Obligations.CopiesAndServiceAnswersAreTaken : Prop :=
  ∀ (s : State) (n : Nat),
    (∀ c : RingCopy, (s.ring c.ring).state = .leading →
      (c.hcrcOk = false → copyDue (s.ring c.ring) c = true → ∃ t, exec (.collectCopyRx c) s = .next t ∧
        t.ring c.ring = { s.ring c.ring with copies := (s.ring c.ring).copies ++ [{ c with slots := [] }] } ∧
        CountsOne (cRing c.ring (if c.fromWest then 3 else 2)) s t ∧ OtherRings c.ring s t ∧ SameBut (among [.rings, .ctr]) s t) ∧
      (c.hcrcOk = true → c.table = (s.ring c.ring).cfg.table → copyDue (s.ring c.ring) c = false →
        exec (.collectCopyRx c) s = .next (bump s (cRing c.ring 7) c.slots.length)) ∧
      (c.hcrcOk = true → c.table = (s.ring c.ring).cfg.table → copyDue (s.ring c.ring) c = true → ∃ t, exec (.collectCopyRx c) s = .next t ∧
        (t.ring c.ring).copies = (s.ring c.ring).copies ++ [{ c with slots := c.slots.filter fun x => !x.late }] ∧
        (c.fromWest = false → (t.ring c.ring).loopE = c.loopClk ∧ (t.ring c.ring).loopW = (s.ring c.ring).loopW) ∧
        (c.fromWest = true → (t.ring c.ring).loopW = c.loopClk ∧ (t.ring c.ring).loopE = (s.ring c.ring).loopE) ∧
        OtherRings c.ring s t ∧ SameBut (among [.rings, .ctr]) s t)) ∧
    (∀ (q : ServiceSt) (seg : ServiceSeg), (s.ring n).service = some q → seg.crcOk = true → seg.node = q.node →
      (seg.op = q.op + 0x80 ∨ seg.op = 0xFF) → ∃ t, exec (.serviceAnswerRx n seg) s = .next t ∧ (t.ring n).service = none ∧
        (tabGet (t.ring n).nodes {} q.node).silent = false ∧ (tabGet (t.ring n).nodes {} q.node).answered = true ∧
        (∀ k, k ≠ q.node → tabGet (t.ring n).nodes {} k = tabGet (s.ring n).nodes {} k) ∧
        OtherRings n s t ∧ SameBut (among [.rings]) s t) ∧
    (∀ q : ServiceSt, (s.ring n).service = some q →
      (q.tries < 2 → ∃ t, exec (.serviceRetry n) s = .next t ∧
        t.ring n = { s.ring n with service := some { q with tries := q.tries + 1, fresh := true } } ∧ OtherRings n s t ∧
        SameBut (among [.rings]) s t) ∧
      (2 ≤ q.tries → ∃ t, exec (.serviceRetry n) s = .next t ∧ (t.ring n).service = none ∧
        (tabGet (t.ring n).nodes {} q.node).silent = true ∧ CountsOne (cRing n 18) s t ∧ OtherRings n s t ∧ SameBut (among [.rings, .ctr]) s t))

/-- Cold start (03 R73, R74, R91 to R93): who may contends after listening; a lower identifier, heard twice, is yielded to, the own one
stops the member, and each copy is forwarded; the last one contending leads; a frame of a leader is followed, and eight good consecutive
cycles integrate the member. -/
def Obligations.ColdStartElectsOneLeader : Prop :=
  ∀ (s : State) (n : Nat),
    ((s.ring n).state = .listening → bitAt (s.ring n).cfg.flags 1 = true → (s.ring n).duplicate = false → originates s = true →
      ∃ t, exec (.coldstartListenEnd n) s = .next t ∧ t.ring n = { s.ring n with state := .contending } ∧ OtherRings n s t ∧
        SameBut (among [.rings]) s t) ∧
    ((s.ring n).state = .contending →
      (∀ (west : Bool) (id : Nat), id < 65536 →
        let b := setBlock (.coldstart id)
        let out := if portUp (s.ring n) (!west) then !west else west
        (∃ t, exec (.coldstartRx n ⟨west, [b]⟩) s = .next t ∧ t.ring n = { s.ring n with fwd := (out, b) :: (s.ring n).fwd } ∧
          OtherRings n s t ∧ SameBut (among [.rings]) s t) ∧
        (id < (s.ring n).cfg.member → ∃ t, exec (.coldstartRx n ⟨west, [b, b]⟩) s = .next t ∧
          t.ring n = { s.ring n with state := .listening, fwd := (out, b) :: (out, b) :: (s.ring n).fwd } ∧
          OtherRings n s t ∧ SameBut (among [.rings]) s t) ∧
        (id = (s.ring n).cfg.member → ∃ t, exec (.coldstartRx n ⟨west, [b, b]⟩) s = .next t ∧
          t.ring n = { s.ring n with state := .listening, duplicate := true, fwd := (out, b) :: (out, b) :: (s.ring n).fwd } ∧
          CountsOne (cRing n 17) s t ∧ OtherRings n s t ∧ SameBut (among [.rings, .ctr]) s t) ∧
        ((s.ring n).cfg.member < id → ∃ t, exec (.coldstartRx n ⟨west, [b, b]⟩) s = .next t ∧
          t.ring n = { s.ring n with fwd := (out, b) :: (out, b) :: (s.ring n).fwd } ∧
          OtherRings n s t ∧ SameBut (among [.rings]) s t)) ∧
      (originates s = true → ∃ t, exec (.coldstartLead n) s = .next t ∧ (t.ring n).state = .leading ∧
        (t.ring n).leader = (s.ring n).cfg.member ∧ (t.ring n).integrated = true ∧ (t.ring n).healed = false ∧
        (t.ring n).guardQ = (s.ring n).guardQ ++ reportDown (s.ring n) 0 ∧
        t.red = { s.red with role := if s.red.role = .undecided then .active else s.red.role } ∧
        CountsOne (cRing n 16) s t ∧ OtherRings n s t ∧ SameBut (among [.rings, .ctr, .red]) s t)) ∧
    (∀ h : FrameHeader, h.hcrcOk = false → h.sets = [] →
      ∃ t, exec (.leaderFrameRx n h) s = .next t ∧ t.ring n = s.ring n ∧ OtherRings n s t ∧ SameBut (among [.rings]) s t) ∧
    (∀ h : FrameHeader, h.hcrcOk = true → h.sets = [] → (s.ring n).state = .listening ∨ (s.ring n).state = .contending →
      (s.sys.manifest.partner = 0 ∨ h.leader ≠ s.sys.manifest.partner) →
      ∃ t, exec (.leaderFrameRx n h) s = .next t ∧ (t.ring n).state = .following ∧ (t.ring n).leader = h.leader ∧
        (t.ring n).lastCycle = some h.cycle ∧ (t.ring n).good = (if h.table = (s.ring n).cfg.table then 1 else 0) ∧
        (t.ring n).healed = bitAt h.info 5 ∧ OtherRings n s t ∧ SameBut (among [.rings, .host, .ctr, .time]) s t) ∧
    (∀ h : FrameHeader, h.hcrcOk = true → s.sys.manifest.partner ≠ 0 → h.leader = s.sys.manifest.partner →
      ∃ t, exec (.leaderFrameRx n h) s = .next t ∧ t.red.partnerFrame = some (s.time.cycle, n) ∧
        (s.red.role = .undecided → t.red.role = .standby ∧ t.red.joining = true) ∧
        (s.red.role = .active → t.red.role = .active ∧ t.red.fenceDue.isSome = true)) ∧
    ((s.ring n).state = .following → (s.ring n).good = 8 → (s.ring n).integrated = false → ∃ t, exec (.memberIntegrate n) s = .next t ∧
      t.ring n = { s.ring n with
        integrated := true, integDue := true, guardQ := (s.ring n).guardQ ++ reportDown (s.ring n) (ownAddr s (s.ring n)) } ∧
      OtherRings n s t ∧ SameBut (among [.rings]) s t)

/-- Spans fail, heal, come up and close again (03 R73, R95 to R101): a port that fails loops back, sends Remote Fault and reports its span
down, a span reported down twice in a row counts as failed; a span that is up again leaves the failed ones and, when none is left on a
healed led ring that may re-close, sets the target 16 cycles ahead; a loop-back node without CLOSEARM puts the re-close off; at the target
the ring is intact. -/
def Obligations.SpansFailHealAndClose : Prop :=
  ∀ (s : State) (n : Nat),
    (∀ west : Bool, (s.ring n).state ≠ .off →
      let a := ownAddr s (s.ring n)
      (∃ t, exec (.localFault n west) s = .next t ∧ (t.ring n).failed.contains (spanOf (s.ring n).cfg a west) = true ∧
        portUp (t.ring n) west = false ∧ (if west then (t.ring n).rfW else (t.ring n).rfE) = true ∧
        (if west then (t.ring n).loopW else (t.ring n).loopE) = 0xFFFF ∧ (t.ring n).closeAt = none ∧
        (reportsSpans (s.ring n) = true → OrdSet.spandown a west ∈ (t.ring n).guardQ) ∧
        (ringLive (s.ring n) = true → (s.ring n).healed = false → (t.ring n).healDue = true) ∧
        OtherRings n s t ∧ SameBut (among [.rings, .ctr]) s t) ∧
      ∃ t, exec (.remoteFaultRx n west) s = .next t ∧ (t.ring n).failed.contains (spanOf (s.ring n).cfg a west) = true ∧
        portUp (t.ring n) west = false ∧ OtherRings n s t ∧ SameBut (among [.rings, .ctr]) s t) ∧
    (∀ (addr : Nat) (west port : Bool), (s.ring n).state ≠ .off →
      let b := setBlock (.spandown addr west)
      (∃ t, exec (.spandownRx n port [b]) s = .next t ∧ (t.ring n).failed = (s.ring n).failed ∧
        OtherRings n s t ∧ SameBut (among [.rings]) s t) ∧
      ∃ t, exec (.spandownRx n port [b, b]) s = .next t ∧
        (t.ring n).failed.contains (spanOf (s.ring n).cfg addr west) = true ∧ (t.ring n).loops.contains (spanOf (s.ring n).cfg addr west) = true ∧
        (t.ring n).closeAt = none ∧ tabGet t.ctr.cnt 0 (cRing n 11) = satAdd max48 (tabGet s.ctr.cnt 0 (cRing n 11)) 1 ∧
        OtherRings n s t ∧ SameBut (among [.rings, .ctr]) s t) ∧
    (∀ (addr : Nat) (west port : Bool), (s.ring n).state ≠ .off →
      (s.ring n).failed.contains (spanOf (s.ring n).cfg addr west) = true →
      let b := setBlock (.spanup addr west)
      ∃ t, exec (.spanupRx n port [b, b]) s = .next t ∧
        (t.ring n).failed = (s.ring n).failed.filter (· != spanOf (s.ring n).cfg addr west) ∧
        ((t.ring n).failed = [] → (s.ring n).healed = true → bitAt (s.ring n).cfg.flags 0 = true →
          (t.ring n).closeAt = if (s.ring n).state = .leading then some (s.time.cycle + 17) else (s.ring n).closeAt) ∧
        ((t.ring n).failed = [] → (s.ring n).healed = true → bitAt (s.ring n).cfg.flags 0 = false →
          (t.ring n).upKept = true ∧ (t.ring n).closeAt = (s.ring n).closeAt) ∧
        OtherRings n s t ∧ SameBut (among [.rings]) s t) ∧
    (∀ west : Bool, portUp (s.ring n) west = true →
      let a := ownAddr s (s.ring n)
      (s.ring n).failed.contains (spanOf (s.ring n).cfg a west) = true →
      ∃ t, exec (.spanLockHold n west) s = .next t ∧ (t.ring n).guardQ = (s.ring n).guardQ ++ [.spanup a west] ∧
        (t.ring n).failed.contains (spanOf (s.ring n).cfg a west) = false ∧
        OtherRings n s t ∧ SameBut (among [.rings]) s t) ∧
    ((s.ring n).healDue = true → ringLive (s.ring n) = true → ∃ t, exec (.ringHeal n) s = .next t ∧ (t.ring n).healed = true ∧
      (t.ring n).healDue = false ∧ (t.ring n).healCycle = some s.time.cycle ∧ (t.ring n).failed = (s.ring n).failed ∧
      OtherRings n s t ∧ SameBut (among [.rings, .ctr, .cairn, .loop]) s t) ∧
    ((s.ring n).state = .leading → (s.ring n).closeAt = some (s.time.cycle + 2) →
      (allArmed (s.ring n) = true → exec (.closearmCheck n) s = .next s) ∧
      (allArmed (s.ring n) = false → ∃ t, exec (.closearmCheck n) s = .next t ∧ (t.ring n).closeAt = none ∧
        (t.ring n).closeZero = some s.time.cycle ∧ (t.ring n).closeRetry = some (s.time.cycle + 2) ∧ CountsOne (cRing n 14) s t ∧
        OtherRings n s t ∧ SameBut (among [.rings, .ctr]) s t)) ∧
    ((s.ring n).state ≠ .leading → exec (.closearmCheck n) s = .next s) ∧
    ((s.ring n).closeAt = some s.time.cycle → ∃ t, exec (.closeTarget n) s = .next t ∧ (t.ring n).healed = false ∧ (t.ring n).loops = [] ∧
      (t.ring n).closeAt = none ∧ (t.ring n).recloseCycle = some s.time.cycle ∧ CountsOne (cRing n 13) s t ∧
      OtherRings n s t ∧ SameBut (among [.rings, .ctr]) s t) ∧
    (∀ c : Nat, (s.ring n).state = .leading → (s.ring n).closeRetry = some c → (s.ring n).healed = true → (s.ring n).failed = [] →
      bitAt (s.ring n).cfg.flags 0 = true →
      ∃ t, exec (.recloseRetry n) s = .next t ∧ (t.ring n).closeAt = some (max (c + cyclesPerS s.sys.rate) s.time.cycle + 16) ∧
        (t.ring n).closeRetry = none ∧ OtherRings n s t ∧ SameBut (among [.rings]) s t) ∧
    (∀ west : Bool, (s.ring n).state ≠ .off → ∃ t, exec (.blockLockGained (.ring n west)) s = .next t ∧ portUp (t.ring n) west = true ∧
      portUp (t.ring n) (!west) = portUp (s.ring n) (!west) ∧ OtherRings n s t ∧ SameBut (among [.rings]) s t) ∧
    (2 ≤ s.sys.stage → ∃ t, exec (.blockLockGained (.side n)) s = .next t ∧ t.link n = { s.link n with up := true } ∧
      (∀ k, k ≠ n → t.link k = s.link k) ∧ SameBut (among [.links]) s t)

/-- The axis class (01 R32, 02 R67, R68, 04 R132, R138, R146 to R149): with the right, ready, and for an axis below the module limit, the
status completes with the snapshot; a load, a coefficient write, a bank select, an enable and a disable stage one write of that axis, or are
refused as the rule says; a table load goes to the bulk path, or waits behind a commit. -/
def Obligations.AxisRequestsStageOneWrite : Prop :=
  ∀ (r : Request) (s : State), loopReady s = true → okAxis s (rq r 16 4) = true →
    let a := rq r 16 4
    let x := s.axis a
    (hasRight s r.part 0x1001 = true → ∃ fields, exec (.axisStatus r) s = .next (ok s (withOp r 0x1001) fields) ∧
      (16, 4, (a : Int)) ∈ fields ∧ (20, 1, (x.snap.state : Int)) ∈ fields ∧ (22, 1, (x.snap.bank : Int)) ∈ fields ∧
      (23, 1, (x.snap.flags : Int)) ∈ fields ∧ (24, 4, x.snap.out) ∈ fields ∧ (28, 4, x.snap.fb) ∈ fields ∧
      (34, 1, (x.snap.staleRun : Int)) ∈ fields ∧ (36, 4, ((s.loop.snapCycle % 4294967296 : Nat) : Int)) ∈ fields ∧
      (40, 4, (x.snap.staleCnt : Int)) ∈ fields ∧ (52, 4, (x.snap.lateCnt : Int)) ∈ fields) ∧
    (actReady s = true →
      (hasRight s r.part 0x1010 = true →
        ((x.state = .enabled ∨ x.state = .holding) → exec (.axisDescLoad r) s = .next (refused s (withOp r 0x1010) 0 [(16, 2, 0xFFFE)])) ∧
        (x.state ≠ .enabled → x.state ≠ .holding →
          (∀ o, descBad s a (descOf (withOp r 0x1010)) = some o →
            exec (.axisDescLoad r) s = .next (refused s (withOp r 0x1010) 0 [(16, 2, (o : Int))])) ∧
          (descBad s a (descOf (withOp r 0x1010)) = none → loadFits s a = true → ∃ t, exec (.axisDescLoad r) s = .next t ∧
            StagesOn a { what := .desc (descOf (withOp r 0x1010)), req := some (withOp r 0x1010) } s t ∧
            tabGet t.pow.sleep 0 (basketOf a) = 0 ∧ SameBut (among [.pow, .cairn, .ctr, .dbg, .loop]) s t))) ∧
      (hasRight s r.part 0x1011 = true → rq r 20 1 ≤ 2 → (∀ i, i < clampN 1 4 (rq r 21 1) → (coefIndex (rq r 20 1) (rq r (24 + 8 * i) 2)).isSome = true) →
        (x.state = .unloaded → ∃ u, exec (.axisCoefWrite r) s = .next (refused u (withOp r 0x1011)) ∧ SameBut (among [.host]) s u) ∧
        (x.state ≠ .unloaded → ∃ t eff, exec (.axisCoefWrite r) s = .next t ∧
          StagesOn a { req := some (withOp r 0x1011), eff
                       what := .words ((List.range (clampN 1 4 (rq r 21 1))).map fun i => ((coefIndex (rq r 20 1) (rq r (24 + 8 * i) 2)).getD 0,
                         BitVec.ofInt 32 (coefValue s a (rq r (24 + 8 * i) 2) (rqI r (28 + 8 * i))))) } s t ∧
          (16, 4, (a : Int)) ∈ eff ∧ SameBut (among [.host, .loop]) s t)) ∧
      (hasRight s r.part 0x1012 = true → rq r 20 1 ≤ 2 →
        (rq r 20 1 = 2 ∨ x.state = .unloaded → exec (.axisBankSelect r) s = .next (refused s (withOp r 0x1012))) ∧
        (rq r 20 1 ≠ 2 → x.state ≠ .unloaded → ∃ t, exec (.axisBankSelect r) s = .next t ∧
          StagesOn a { what := .bank (rq r 20 1), req := some (withOp r 0x1012) } s t ∧ SameBut (among [.loop]) s t)) ∧
      (hasRight s r.part 0x1013 = true → rq r 20 2 ≤ 1023 → rq r 24 1 ≤ 1 →
        (swapPending x = true → ∃ t, exec (.axisTableLoad r) s = .next t ∧
          t.axis a = { x with held := x.held ++ [withOp r 0x1013] } ∧ (∀ k, k ≠ a → t.axis k = s.axis k) ∧ SameBut (among [.host, .loop]) s t) ∧
        (swapPending x = false → ∃ t b, exec (.axisTableLoad r) s = .next t ∧
          t.axis a = { x with bulk := x.bulk ++ [b] } ∧ b.req = withOp r 0x1013 ∧
          b.entries = (List.range (min (clampN 0 244 (rq r 22 2)) (1024 - rq r 20 2))).map (fun i => (rq r 20 2 + i, rqI r (32 + 4 * i))) ∧
          b.commit = (if rq r 24 1 = 1 then some (rqI r 28, clampN 0 20 (rq r 25 1)) else none) ∧
          (∀ k, k ≠ a → t.axis k = s.axis k) ∧ SameBut (among [.host, .loop]) s t)) ∧
      (hasRight s r.part 0x1020 = true →
        ((x.state = .enabled ∨ x.state = .holding) → x.staged = [] → exec (.axisEnable r) s = .next (ok s (withOp r 0x1020))) ∧
        (x.state ≠ .enabled → x.state ≠ .holding → mayEnable s a = false → exec (.axisEnable r) s = .next (refused s (withOp r 0x1020))) ∧
        (x.state ≠ .enabled → x.state ≠ .holding → mayEnable s a = true → ∃ t, exec (.axisEnable r) s = .next t ∧
          StagesOn a { what := .enable, req := some (withOp r 0x1020) } s t ∧ SameBut (among [.loop]) s t)) ∧
      (hasRight s r.part 0x1021 = true → ∃ t, exec (.axisDisable r) s = .next t ∧
        StagesOn a { what := .disable, req := some (withOp r 0x1021) } s t ∧ SameBut (among [.loop]) s t))

/-- A missed slot (01 R31, 04 R134, R142, R144): the references of the axis's deliver record are repeated, the late output waits for the
following cycle and a late release is counted; cause 12h becomes active, and the second window in a row with a miss stops the weaver. A slot
that is occupied without a descriptor is counted too; one that is not occupied cannot miss. -/
def Obligations.MissedSlotRepeatsAndStopsTheWeaver : Prop :=
  ∀ (weaver slot : Nat) (s : State),
    ((occupied s).contains (64 * slot + weaver) = false → exec (.slotMiss weaver slot) s = .next s) ∧
    (weaver < 64 → s.time.running = true → s.time.released = false → (occupied s).contains (64 * slot + weaver) = true →
    ∃ t, exec (.slotMiss weaver slot) s = .next t ∧
      (t.axis (64 * slot + weaver)).late = true ∧
      (t.axis (64 * slot + weaver)).lateCnt = satAdd max32 (s.axis (64 * slot + weaver)).lateCnt 1 ∧
      (t.axis (64 * slot + weaver)).release.ref0 = (s.axis (64 * slot + weaver)).deliver.ref0 ∧
      (t.axis (64 * slot + weaver)).release.ref1 = (s.axis (64 * slot + weaver)).deliver.ref1 ∧
      (t.axis (64 * slot + weaver)).release.ref2 = (s.axis (64 * slot + weaver)).deliver.ref2 ∧
      (t.axis (64 * slot + weaver)).lateOut.isSome = true ∧
      ((s.axis (64 * slot + weaver)).state = .unloaded ∨ causeOn (s.axis (64 * slot + weaver)).sup.causes 0x12 = true →
        (t.axis (64 * slot + weaver)).sup = (s.axis (64 * slot + weaver)).sup) ∧
      ((s.axis (64 * slot + weaver)).state ≠ .unloaded → causeOn (s.axis (64 * slot + weaver)).sup.causes 0x12 = false →
        causeOn (t.axis (64 * slot + weaver)).sup.causes 0x12 = true ∧ (t.axis (64 * slot + weaver)).sup.level = 3) ∧
      (t.weaver weaver).missed = true ∧
      (t.weaver weaver).miss = (if (s.weaver weaver).missed then (s.weaver weaver).miss else (s.weaver weaver).miss + 1) ∧
      (2 ≤ (t.weaver weaver).miss → (t.weaver weaver).stopped = true) ∧
      ((t.weaver weaver).miss < 2 → (t.weaver weaver).stopped = (s.weaver weaver).stopped ∧ t.red = s.red) ∧
      (∀ k, k ≠ 64 * slot + weaver → t.axis k = s.axis k) ∧ (∀ k, k ≠ weaver → t.weaver k = s.weaver k))

/-- The tuning class (05 R160 to R162, R166, R167): reading the supervision of an axis or a channel of a complete capture; an injection is
refused where 05 R161 forbids it, else it is staged with its signal, point and clamped amplitude; a stop is staged; an arm waits for the release phase, refused while a capture runs or for an axis without the option. -/
def Obligations.TuningRequestsReadInjectAndArm : Prop :=
  ∀ (r : Request) (s : State), loopReady s = true →
    (hasRight s r.part 0x1101 = true →
      (rq r 16 1 = 1 → okAxis s (rq r 24 4) = true → ∃ u fields, exec (.tuneCaptureRead r) s = .next (ok u (withOp r 0x1101) fields) ∧ SameBut (among [.host]) s u ∧
        (20, 1, ((s.axis (rq r 24 4)).sup.level : Int)) ∈ fields ∧ (21, 1, ((s.axis (rq r 24 4)).sup.cause : Int)) ∈ fields ∧
        (22, 1, ((s.axis (rq r 24 4)).inj.state : Int)) ∈ fields ∧ (24, 4, (s.axis (rq r 24 4)).sup.rf) ∈ fields ∧
        (48, 4, ((s.axis (rq r 24 4)).sup.trips : Int)) ∈ fields) ∧
      (rq r 16 1 = 0 → rq r 17 1 ≤ 15 →
        (channelState s (rq r 17 1) ≠ 3 → channelState s (rq r 17 1) ≠ 4 → ∃ u, exec (.tuneCaptureRead r) s = .next (refused u (withOp r 0x1101)) ∧
          SameBut (among [.host]) s u) ∧
        (channelState s (rq r 17 1) = 3 ∨ channelState s (rq r 17 1) = 4 → ∃ u fields cont,
          exec (.tuneCaptureRead r) s = .next (ok u (withOp r 0x1101) fields 0 cont) ∧
          (16, 1, (channelState s (rq r 17 1) : Int)) ∈ fields ∧ (17, 1, (rq r 17 1 : Int)) ∈ fields ∧ SameBut (among [.host]) s u))) ∧
    (actReady s = true →
      (hasRight s r.part 0x1110 = true → okAxis s (rq r 16 4) = true → rq r 20 1 ≤ 3 → rq r 21 1 ≤ 1 →
        (mayInject s (rq r 16 4) = false → ∃ u, exec (.tuneInjectStart r) s = .next (refused u (withOp r 0x1110)) ∧ SameBut (among [.host]) s u) ∧
        (mayInject s (rq r 16 4) = true → ∃ t c eff, exec (.tuneInjectStart r) s = .next t ∧
          StagesOn (rq r 16 4) { what := .injectStart c eff, req := some (withOp r 0x1110) } s t ∧
          c.signal = rq r 20 1 ∧ c.point = rq r 21 1 ∧ c.order = clampN 7 16 (rq r 22 1) ∧ c.hold = clampN 1 65535 (rq r 44 2) ∧
          (c.point = 0 → c.ampl = clampI (-2147483647) 2147483647 (rqI r 24)) ∧
          (rq r 20 1 ≠ 3 → c.duration = clampN 1 2147483647 (rq r 36 4)) ∧ SameBut (among [.host, .loop]) s t)) ∧
      (hasRight s r.part 0x1111 = true → okAxis s (rq r 16 4) = true → ∃ t, exec (.tuneInjectStop r) s = .next t ∧
        StagesOn (rq r 16 4) { what := .injectStop, req := some (withOp r 0x1111) } s t ∧ SameBut (among [.loop]) s t) ∧
      (hasRight s r.part 0x1120 = true → rq r 17 1 ≤ 5 → (rq r 17 1 = 2 → rq r 18 1 < clampN 1 16 (rq r 16 1)) →
        (rq r 17 1 = 4 → rq r 18 1 < 48) → (rq r 17 1 = 2 ∨ rq r 17 1 = 4 → rq r 19 1 ≤ 2) →
        (rq r 17 1 = 1 ∨ rq r 17 1 = 3 ∨ rq r 17 1 = 5 → okAxis s (rq r 20 4) = true) →
        (∀ i, i < clampN 1 16 (rq r 16 1) → okAxis s (rq r (48 + 8 * i) 4) = true ∧ rq r (52 + 8 * i) 1 ≤ 0x0E) →
        ((s.loop.capture.state = 1 ∨ s.loop.capture.state = 2) → rq r 32 1 % 2 = 0 →
          ∃ u, exec (.tuneCaptureArm r) s = .next (refused u (withOp r 0x1120)) ∧ SameBut (among [.host]) s u) ∧
        ((s.loop.capture.state ≠ 1 ∧ s.loop.capture.state ≠ 2) ∨ rq r 32 1 % 2 = 1 →
          (∀ i, i < clampN 1 16 (rq r 16 1) → dOpt (s.axis (rq r (48 + 8 * i) 4)).desc 4 = true) →
          ∃ t c eff, exec (.tuneCaptureArm r) s = .next t ∧
            t.loop = { s.loop with capPend := s.loop.capPend ++ [(withOp r 0x1120, c, eff)] } ∧
            c.chans = ((List.range (clampN 1 16 (rq r 16 1))).map fun i => (rq r (48 + 8 * i) 4, rq r (52 + 8 * i) 1)) ∧
            c.trigger = rq r 17 1 ∧ c.pre = rq r 28 2 ∧ c.decim = clampN 1 65535 (rq r 30 2) ∧ SameBut (among [.host, .loop]) s t)))

/-- Shaft queries and settings (06 R173, R190 to R192, 07 R227): status requests complete with their snapshots; limits and energy settings wait
for the release phase with their clamped values; sections go to the pending copy, section 4 is refused with its failing field or waits as a
whole, section 5 drops the pending copy. -/
def Obligations.ShaftQueriesAndSettings : Prop :=
  ∀ (r : Request) (s : State), motionReady s = true →
    (hasRight s r.part 0x1201 = true → knownCar s (rq r 16 1) = true →
      (∀ x, carCtx s (rq r 16 1) = some x → exec (.profileStatus r) s = .next (ok s (withOp r 0x1201) (profFields s x)) ∧
        (16, 1, (rq r 16 1 : Int)) ∈ profFields s x) ∧
      (carCtx s (rq r 16 1) = none → exec (.profileStatus r) s = .next (ok s (withOp r 0x1201)))) ∧
    (hasRight s r.part 0x1202 = true → committedShaft s (rq r 16 1) = true →
      exec (.energyStatus r) s = .next (ok s (withOp r 0x1202) (s.shaft (rq r 16 1)).en.snap)) ∧
    (hasRight s r.part 0x1301 = true → knownCar s (rq r 16 1) = true →
      exec (.carStatus r) s = .next (ok s (withOp r 0x1301) (s.car (rq r 16 1)).snap)) ∧
    (hasRight s r.part 0x1302 = true → committedShaft s (rq r 16 1) = true → rq r 18 2 ≤ 511 →
      ∃ u fields n, exec (.segmentStatus r) s = .next (ok u (withOp r 0x1302) fields 0 (contFor (24 + 16 * n))) ∧ SameBut (among [.host]) s u ∧
        n = min (clampN 1 60 (rq r 20 1)) (min 60 (((s.shaft (rq r 16 1)).cfg.getD {}).geo.nSeg - rq r 18 2)) ∧
        (16, 1, (n : Int)) ∈ fields ∧
        ∀ i, i < n → (24 + 16 * i, 2, ((rq r 18 2 + i : Nat) : Int)) ∈ fields ∧
          (24 + 16 * i + 4, 1, ((tabGet (s.shaft (rq r 16 1)).segs {} (rq r 18 2 + i)).role : Int)) ∈ fields ∧
          (24 + 16 * i + 8, 4, (tabGet (s.shaft (rq r 16 1)).segs {} (rq r 18 2 + i)).share) ∈ fields) ∧
    (actReady s = true →
      (hasRight s r.part 0x1210 = true → committedShaft s (rq r 16 1) = true → rq r 17 1 ≤ 1 →
        ∃ t l, exec (.profileLimitsSet r) s = .next t ∧
          t.shaft (rq r 16 1) = { s.shaft (rq r 16 1) with limPend := (s.shaft (rq r 16 1)).limPend ++ [(withOp r 0x1210, l)] } ∧
          l.blend = rq r 17 1 ∧ l.a = clampN 100000 2500000 (rq r 24 4) ∧ l.j = clampN 100 10000 (rq r 28 4) ∧
          l.vInsp = clampN 1000 630000 (rq r 32 4) ∧ l.vRes = clampN 100000 l.v.toNat (rq r 36 4) ∧
          OtherShafts (rq r 16 1) s t ∧ SameBut (among [.host, .motion]) s t) ∧
      (hasRight s r.part 0x1211 = true → committedShaft s (rq r 16 1) = true → rq r 17 1 ≤ 2 → rq r 18 1 ≤ 15 → rq r 19 1 ≤ 15 →
        rq r 19 1 ≠ rq r 18 1 → ∃ t c, exec (.energyReserveSet r) s = .next t ∧
          t.shaft (rq r 16 1) = { s.shaft (rq r 16 1) with enPend := (s.shaft (rq r 16 1)).enPend ++ [(withOp r 0x1211, c)] } ∧
          c.kind = rq r 17 1 ∧ c.vch = rq r 18 1 ∧ c.ich = rq r 19 1 ∧
          c.reserve = clampN ((s.shaft (rq r 16 1)).cfg.getD {}).geo.resMin.toNat 2147483647 (rq r 28 4) ∧
          c.etaM = clampN 500 1000 (rq r 40 2) ∧ c.grav = clampN 9760000 9840000 (rq r 60 4) ∧
          OtherShafts (rq r 16 1) s t ∧ SameBut (among [.host, .motion]) s t) ∧
      (hasRight s r.part 0x1310 = true → shaftLoadBad s r = none →
        (rq r 17 1 ≤ 3 → ∃ u fields, exec (.shaftConfigLoad r) s = .next (ok u (withOp r 0x1310) fields) ∧
          u.shaft (rq r 16 1) = { s.shaft (rq r 16 1) with pend := pendSection (s.shaft (rq r 16 1)).pend (withOp r 0x1310) } ∧
          OtherShafts (rq r 16 1) s u ∧ SameBut (among [.host, .motion]) s u) ∧
        (rq r 17 1 = 4 → gainsOnly (s.shaft (rq r 16 1)).pend = false →
          (∀ sec i off b, (commitChecks s (rq r 16 1) { (s.shaft (rq r 16 1)).pend with cfg := trimCfg (s.shaft (rq r 16 1)).pend.cfg }).find? (fun c => !c.2.2.2) =
              some (sec, i, off, b) →
            exec (.shaftConfigLoad r) s = .next (refused s (withOp r 0x1310) 0 [(16, 1, (sec : Int)), (18, 2, (i : Int)), (20, 2, (off : Int))])) ∧
          ((commitChecks s (rq r 16 1) { (s.shaft (rq r 16 1)).pend with cfg := trimCfg (s.shaft (rq r 16 1)).pend.cfg }).find? (fun c => !c.2.2.2) = none →
            ∃ t, exec (.shaftConfigLoad r) s = .next t ∧
              t.shaft (rq r 16 1) = { s.shaft (rq r 16 1) with
                pend := {}
                commits := (s.shaft (rq r 16 1)).commits ++
                  [(withOp r 0x1310, withGains (trimCfg (s.shaft (rq r 16 1)).pend.cfg) (s.shaft (rq r 16 1)).pend.gains, false)] } ∧
              OtherShafts (rq r 16 1) s t ∧ SameBut (among [.motion]) s t)) ∧
        (rq r 17 1 = 5 → ∃ u, exec (.shaftConfigLoad r) s = .next (ok u (withOp r 0x1310)) ∧
          u.shaft (rq r 16 1) = { s.shaft (rq r 16 1) with pend := {} } ∧ OtherShafts (rq r 16 1) s u ∧ SameBut (among [.motion]) s u)))

/-- car.stop of one car and car.inspect.move (07 R222, R226, R228, R229): MODE 0 asks a moving car to stop, MODE 1 resumes a car that may, MODE 2
takes a car at rest out of service, MODE 3 puts one at a landing back; an inspection move starts where the rules of 07 R226 hold, and is refused
where the shaft is not under inspection, has no limits, or the car is under way, without drive or out of service, or its claim is not free. -/
def Obligations.CarStopModesAndInspectionMoves : Prop :=
  ∀ (r : Request) (s : State) (x : CarCtx), motionReady s = true → actReady s = true → x.c.car = rq r 16 1 → rq r 16 1 ≤ 63 →
    carCtx s (rq r 16 1) = some x → (allCars s).filter (fun y => y.c.car == rq r 16 1) = [x] →
    let n := rq r 16 1
    let k := s.car n
    (hasRight s r.part 0x1321 = true →
      (rq r 18 1 = 0 → (k.state = .moving ∨ k.state = .inspection) → k.journey.isSome = true → k.holding = false →
        ∃ u fields, exec (.carStop r) s = .next (ok u (withOp r 0x1321) fields) ∧
          u.car n = { k with stopReq := some (1, s.time.cycle) } ∧ OtherCars n s u ∧ SameBut (among [.motion]) s u) ∧
      (rq r 18 1 = 1 →
        (resumeTo s x = none → exec (.carStop r) s = .next (refused s (withOp r 0x1321))) ∧
        (∀ l, resumeTo s x = some l → ∃ u fields, exec (.carStop r) s = .next (ok u (withOp r 0x1321) fields) ∧
          (u.car n).state = (if iabs (landPos x.cfg l - k.p) < 1 then .idle else .preparing) ∧ (u.car n).stopMode = false ∧
          (u.car n).missCnt = 0 ∧ OtherCars n s u ∧ SameBut (among [.motion, .loop, .cairn, .ctr]) s u)) ∧
      (rq r 18 1 = 2 → (k.state = .idle ∨ k.state = .stopped) → ∃ u fields, exec (.carStop r) s = .next (ok u (withOp r 0x1321) fields) ∧
          (u.car n).state = .outOfService ∧ (u.car n).axesOff = true ∧ (u.car n).serving = false ∧
          u.disp.updates = s.disp.updates ++ [.returned n 7] ∧ OtherCars n s u ∧ SameBut (among [.motion, .disp]) s u) ∧
      (rq r 18 1 = 3 → k.state = .outOfService →
        ((landingAt x.cfg k.p).isSome = true → ∃ u fields, exec (.carStop r) s = .next (ok u (withOp r 0x1321) fields) ∧
          u.car n = { k with state := .idle } ∧ OtherCars n s u ∧ SameBut (among [.motion, .cairn, .ctr]) s u) ∧
        ((landingAt x.cfg k.p).isSome = false → exec (.carStop r) s = .next (refused s (withOp r 0x1321))))) ∧
    (hasRight s r.part 0x1320 = true → rq r 17 1 ≤ 1 →
      (s.safety.image.insp.getLsbD x.h = false ∨ (limitsNext s x.h).isNone = true ∨
          k.state = .moving ∨ k.state = .stopping ∨ k.state = .tripped ∨ k.state = .outOfService →
        ∃ u, exec (.carInspectMove r) s = .next (refused u (withOp r 0x1320)) ∧ SameBut (among [.host]) s u) ∧
      (s.safety.image.insp.getLsbD x.h = true → (limitsNext s x.h).isSome = true → (k.state = .idle ∨ k.state = .stopped) →
        mayStart s x { k with braking := false } = true →
        ∀ (m : InspMove) (k1 : CarSt),
        m = { down := rq r 17 1 == 1, holdMs := clampN 50 500 (rq r 18 2), from_ := k.p
              dist := clampN 1000 2147483647 (rq r 20 4), req := some (withOp r 0x1320) } →
        k1 = { k with insp := some m, refP := k.p, refV := 0, refA := 0, journey := none, stopProf := none } →
        startProof s x (claimTo x k1 (startTarget s x k1 .inspection 0)) = true →
        (claimOk s x (claimTo x k1 (startTarget s x k1 .inspection 0)) = false →
          ∃ u, exec (.carInspectMove r) s = .next (refused u (withOp r 0x1320)) ∧ SameBut (among [.host, .cairn, .ctr]) s u) ∧
        (claimOk s x (claimTo x k1 (startTarget s x k1 .inspection 0)) = true →
          ∃ t, exec (.carInspectMove r) s = .next t ∧ (t.car n).state = .preparing ∧ (t.car n).back = k.state ∧ (t.car n).insp = some m ∧
            (t.car n).starting = some (.inspection, 0) ∧ OtherCars n s t ∧ SameBut (among [.host, .motion, .loop]) s t)))

/-- The moments of a car (04 R143, R144, 06 R177, R182, 07 R215, R218, R220, R221, R226): a cut-off program counts and the third in a row stops
the car; preparing, release, weighing, start, stop, brake and inspection follow one another as 07 R218 to R221 say. -/
def Obligations.CarMomentsFollowTheStates : Prop :=
  ∀ (n : Nat) (s : State) (x : CarCtx), carCtx s n = some x → x.c.car = n →
    let k := s.car n
    (k.cut = false → k.stopMode = false → k.missCnt ≤ 255 →
      (k.missCnt < 2 → ∃ t, exec (.carCutoff n) s = .next t ∧
        t.car n = { k with cut := true, missed := true, missCnt := k.missCnt + 1 } ∧
        CountsOne (cBasket (x.c.weaver / 8) 5) s t ∧ OtherCars n s t ∧ SameBut (among [.motion, .ctr]) s t) ∧
      (2 ≤ k.missCnt → ∃ t, exec (.carCutoff n) s = .next t ∧
        t.car n = { k with cut := true, missed := true, missCnt := min 255 (k.missCnt + 1), stopReq := some (2, s.time.cycle), stopMode := true } ∧
        CountsOne (cBasket (x.c.weaver / 8) 5) s t ∧ OtherCars n s t ∧ SameBut (among [.motion, .ctr]) s t)) ∧
    (k.cut = false → k.stopMode = true → ∃ t, exec (.carCutoff n) s = .next t ∧ (t.weaver x.c.weaver).stopped = true ∧
      (t.car n).missed = true ∧ OtherCars n s t) ∧
    (k.state = .preparing → k.braking = false → ∃ t, exec (.preparingRampDone n) s = .next t ∧ t.car n = { k with brakeReq := true } ∧
      OtherCars n s t ∧ SameBut (among [.motion]) s t) ∧
    (k.state = .preparing → k.brakeReq = true → s.safety.image.rel.getLsbD n = true → ∃ t, exec (.brakeReleaseFeedback n) s = .next t ∧
      t.car n = { k with state := .weighing, wSum := 0, wCount := 0 } ∧ OtherCars n s t ∧ SameBut (among [.motion]) s t) ∧
    (k.state = .preparing → k.brakeReq = true → ∃ t, exec (.brktTimeout n) s = .next t ∧ (t.car n).braking = true ∧
      (t.car n).brakeReq = false ∧ (t.car n).starting = none ∧ t.disp.updates = s.disp.updates ++ [.returned n 2] ∧ OtherCars n s t) ∧
    (k.state = .tripped → k.braking = true →
      (k.takeOut = false → ∃ t, exec (.brktTimeout n) s = .next t ∧
        t.car n = { k with braking := false, axesOff := true } ∧ OtherCars n s t ∧ SameBut (among [.motion]) s t) ∧
      (k.takeOut = true → ∃ t, exec (.brktTimeout n) s = .next t ∧ (t.car n).state = .outOfService ∧ (t.car n).axesOff = true ∧
        OtherCars n s t ∧ SameBut (among [.motion, .disp]) s t)) ∧
    (∃ t, exec (.prestartRetry n) s = .next t ∧ t.car n = { k with retryWait := false } ∧ OtherCars n s t ∧ SameBut (among [.motion]) s t) ∧
    (k.state = .stopping → k.holding = true → ∃ t, exec (.stopHoldEnd n) s = .next t ∧
      t.car n = { k with brakeReq := false, braking := true, holding := false } ∧ OtherCars n s t ∧ SameBut (among [.motion]) s t) ∧
    (k.braking = true → s.safety.image.eng.getLsbD n = true → k.takeOut = false →
      (k.state = .stopping → ∃ t, exec (.brakeEngagedFeedback n) s = .next t ∧
        t.car n = { k with state := .stopped, braking := false, stopProf := none, ramp := some (s.time.cycle, k.f) } ∧ OtherCars n s t ∧
        SameBut (among [.motion, .cairn, .ctr]) s t) ∧
      (k.state = .tripped → ∃ t, exec (.brakeEngagedFeedback n) s = .next t ∧
        t.car n = { k with braking := false, axesOff := true } ∧ OtherCars n s t ∧ SameBut (among [.motion]) s t) ∧
      ((k.state = .preparing ∨ k.state = .weighing ∨ k.state = .inspection ∨ k.state = .moving) →
        ∃ t, exec (.brakeEngagedFeedback n) s = .next t ∧
          (t.car n).state = (if k.state = .moving then .idle else k.back) ∧ (t.car n).braking = false ∧ (t.car n).journey = none ∧
          OtherCars n s t ∧ SameBut (among [.motion]) s t)) ∧
    (∀ m j, k.state = .inspection → k.insp = some m → k.journey = some j → m.ending = false → k.holding = false →
      ∃ t, exec (.inspectionHoldExpiry n) s = .next t ∧
        t.car n = { k with
          insp := some { m with ending := true }
          journey := some (repriced s x k.mass j
            { j with prof := planStop j.lim.blend s.time.cycle (profNow s j.prof) j.lim.a j.lim.j }) } ∧
        OtherCars n s t ∧ SameBut (among [.motion]) s t) ∧
    (∀ m, (k.state = .preparing ∨ k.state = .weighing) → k.insp = some m → ∃ t, exec (.inspectionHoldExpiry n) s = .next t ∧
      t.car n = { k with insp := some { m with ending := true } } ∧ OtherCars n s t ∧ SameBut (among [.motion]) s t) ∧
    (k.state = .inspection → k.holding = true → ∃ t, exec (.inspectionBrakeDelay n) s = .next t ∧
      t.car n = { k with brakeReq := false, braking := true } ∧ OtherCars n s t ∧ SameBut (among [.motion]) s t) ∧
    (k.state = .weighing → 64 ≤ k.wCount → k.braking = false → ∀ kind l, k.starting = some (kind, l) →
      ∀ s1 : State, s1 = s.onCar n (fun k => { k with mass := weighedMass s x k }) →
      (kind ≠ .inspection → s.safety.image.insp.getLsbD x.h = true → ∃ t, exec (.weighingEnd n) s = .next t ∧
        (t.car n).braking = true ∧ (t.car n).starting = none ∧ OtherCars n s t) ∧
      (kind ≠ .inspection → s.safety.image.insp.getLsbD x.h = false → (startTaken s1 x = true ∨ k.retryWait = true) →
        exec (.weighingEnd n) s = .next s1) ∧
      (kind = .inspection ∨ (s.safety.image.insp.getLsbD x.h = false ∧ startTaken s1 x = false ∧ k.retryWait = false) →
        (∀ j, checkStart s1 x (s1.car n) kind l = .go j → k.insp = none →
          ∃ t, exec (.weighingEnd n) s = .next t ∧ (t.car n).state = (if j.kind = .inspection then .inspection else .moving) ∧
            (t.car n).journey = some { j with seen := headLanding s1 n } ∧ (t.car n).mass = weighedMass s x k ∧ OtherCars n s t) ∧
        (∀ e, checkStart s1 x (s1.car n) kind l = .energy e → ∃ t, exec (.weighingEnd n) s = .next t ∧
          (t.car n).retryWait = true ∧ (t.car n).braking = true ∧ (t.car n).starting = none ∧
          t.disp.updates = s.disp.updates ++ [.returned n 1] ∧ OtherCars n s t)))

/-- The energy store of a shaft (06 R176, R187, R193, 12 R365): a battery report of a mapped object waits with the energy
drawn at its receipt, lands at the release phase and ends a stale state at the next instant; one that is too old marks it stale; rescue ends with every car at rest and the reserve met. -/
def Obligations.EnergyStoresFollowTheirReports : Prop :=
  ∀ (h : Nat) (s : State),
    (∀ (m : BmsMap) (raw : Nat), m = tabGet s.can.bms {} h → m.enable = true → (s.obj m.obj).new_ = true →
      raw = (if m.big then beAt (s.obj m.obj).entry.frame.data m.offset m.width else leAt (s.obj m.obj).entry.frame.data m.offset m.width) →
      m.offset + m.width ≤ (s.obj m.obj).entry.frame.data.length →
      (raw = 256 ^ m.width - 1 → ∃ t, exec (.bmsReport h) s = .next t ∧ (t.obj m.obj).new_ = false ∧
        tabGet t.can.bmsRej 0 h = satAdd max32 (tabGet s.can.bmsRej 0 h) 1 ∧ t.motion = s.motion) ∧
      (raw ≠ 256 ^ m.width - 1 → ∃ t, exec (.bmsReport h) s = .next t ∧ (t.obj m.obj).new_ = false ∧
        (t.shaft h).en = { (s.shaft h).en with
          bmsPend := some (min (raw * m.scale / 65536) 2147483647, (s.obj m.obj).entry.cycle,
            tabGet (s.obj m.obj).entry.drawn (s.shaft h).en.drawn h) } ∧
        landBms (t.shaft h).en = { (s.shaft h).en with
          ebms := min (raw * m.scale / 65536) 2147483647, bmsCycle := some (s.obj m.obj).entry.cycle
          bmsDrawn := tabGet (s.obj m.obj).entry.drawn (s.shaft h).en.drawn h, bmsFresh := true, bmsPend := none } ∧
        OtherShafts h s t ∧ SameBut (among [.motion, .can]) s t)) ∧
    ((s.shaft h).energy.isSome = true → (s.shaft h).en.bmsFresh = true →
      ((instantEnergy s h).shaft h).en.bmsStale = false ∧ ((instantEnergy s h).shaft h).en.bmsFresh = false) ∧
    (∀ c, (s.shaft h).energy = some c →
      (c.kind = 0 → (s.shaft h).en.bmsStale = false → ∃ t, exec (.bmsStale h) s = .next t ∧
        (t.shaft h).en = { (s.shaft h).en with bmsStale := true } ∧ OtherShafts h s t ∧
        SameBut (among [.motion, .cairn, .ctr]) s t) ∧
      ((s.shaft h).en.rescue = true → (∀ x ∈ shaftCars s h, carAtRest (s.car x.c.car) = true) → 11 * (c.reserve : Int) ≤ 10 * eAvail s h →
        ∃ t, exec (.rescueEnd h) s = .next t ∧ (t.shaft h).en = { (s.shaft h).en with rescue := false } ∧ OtherShafts h s t ∧
          SameBut (among [.motion, .cairn, .ctr]) s t))

/-- The door class (08 R231, R253 to R257): the status and the edges as held; door.open starts an opening where 08 R251 and R252 permit it, with
the other door of its pair, and is refused elsewhere; the MODEs of door.close; learning begins out of service with every axis enabled; sections go to the pending copy and a commit
waits for the release phase or is refused with its failing field. -/
def Obligations.DoorRequestsActOnTheDoorNamed : Prop :=
  ∀ (r : Request) (s : State) (c : DoorDef), loopReady s = true →
    let d := rq r 16 2
    let x := s.door d
    (x.def_ = some c →
      (hasRight s r.part 0x1401 = true → ∃ fields, exec (.doorStatus r) s = .next (ok s (withOp r 0x1401) fields) ∧
        (18, 1, (doorCode x : Int)) ∈ fields ∧ (20, 4, (x.img.ax.getD 0 {}).p) ∈ fields ∧ (24, 4, (x.img.ax.getD 0 {}).f) ∈ fields ∧
        (32, 4, ((x.blockNs / 1000000 : Nat) : Int)) ∈ fields ∧ (36, 1, (x.lastTest : Int)) ∈ fields) ∧
      (hasRight s r.part 0x1402 = true → ∃ fields, exec (.edgeStatus r) s = .next (ok s (withOp r 0x1402) fields) ∧
        (16, 1, (x.edges.length : Int)) ∈ fields ∧ ∀ i, i < x.edges.length →
          (24 + 8 * i, 2, ((x.edges.getD i {}).count : Int)) ∈ fields ∧ (24 + 8 * i + 6, 1, (edgeCode (x.edges.getD i {}) : Int)) ∈ fields)) ∧
    (actReady s = true → x.def_ = some c → bitAt (rq r 18 1) 0 = false →
      (hasRight s r.part 0x1410 = true →
        (openable s d c = false → exec (.doorOpen r) s = .next (refused s (withOp r 0x1410))) ∧
        (openable s d c = true → x.state = .opened → ∃ fields det cont, exec (.doorOpen r) s = .next (ok s (withOp r 0x1410) fields det cont)) ∧
        (openable s d c = true → x.state ≠ .opened → x.state ≠ .opening → x.state ≠ .reopening →
          (∀ e ∈ openMates s [(d, c)], e.1 ≠ d) → ∃ u fields det cont,
          exec (.doorOpen r) s = .next (ok u (withOp r 0x1410) fields det cont) ∧ (u.door d).state = .opening ∧
          (u.door d).holdOpen = bitAt (rq r 18 1) 1 ∧ (u.door d).closePend = false ∧ (u.door d).service = x.service ∧
          (u.door d).ns = doorNs s c ∧ det = doorNs s c % 4294967296 ∧
          (∀ e ∈ openMates s [(d, c)], (u.door e.1).state = .opening ∧ (u.door e.1).ns = doorNs s c) ∧
          (∀ k, k ≠ d → (∀ e ∈ openMates s [(d, c)], e.1 ≠ k) → u.door k = s.door k) ∧
          SameBut (among [.doors, .loop, .field]) s u)) ∧
      (hasRight s r.part 0x1411 = true → rq r 19 1 ≤ 3 →
        (closeable s d c (rq r 19 1) = false → exec (.doorClose r) s = .next (refused s (withOp r 0x1411))) ∧
        (closeable s d c (rq r 19 1) = true → ∃ u fields cont, exec (.doorClose r) s = .next (ok u (withOp r 0x1411) fields 0 cont) ∧
          (rq r 19 1 = 0 → u.door d = { x with holdOpen := false, closePend := true, cmdClose := true } ∧ u.nor = s.nor) ∧
          (rq r 19 1 = 1 → (u.door d).service = false ∧ (u.door d).closePend = false ∧ u.nor.queue = s.nor.queue ++ [.service d false]) ∧
          (rq r 19 1 = 2 → (u.door d).state = .held ∧ (u.door d).closePend = true ∧ (u.door d).refClose = true ∧ u.nor = s.nor) ∧
          (rq r 19 1 = 3 → (u.door d).service = true ∧ u.nor.queue = s.nor.queue ++ [.service d true]) ∧
          OtherDoors d s u ∧ SameBut (among [.doors, .nor]) s u))) ∧
    (actReady s = true → x.def_ = some c → hasRight s r.part 0x1420 = true →
      ((outOfServiceRest x = true ∨ x.state = .notLearned ∨ x.state = .fault) → axesOn s c = true → mayOpen s c = true →
        doorInsp s c = false → ∃ u, exec (.doorLearn r) s = .next (ok u (withOp r 0x1420) [(16, 1, (clampN 1 8 (rq r 18 1) : Int))]) ∧
          (u.door d).state = .learning ∧ (u.door d).service = false ∧ (u.door d).learnCycles = clampN 1 8 (rq r 18 1) ∧
          2 * clampN 1 8 (rq r 18 1) ≤ (u.door d).learnLeft ∧ OtherDoors d s u ∧ SameBut (among [.doors, .loop, .host, .field]) s u) ∧
      (axesOn s c = false ∨ mayOpen s c = false ∨ doorInsp s c = true → ∃ u, exec (.doorLearn r) s = .next (refused u (withOp r 0x1420)) ∧ SameBut (among [.host]) s u)) ∧
    (actReady s = true → hasRight s r.part 0x1430 = true → d ≤ 511 →
      (rq r 18 1 ≤ 3 → firstBad ((16, true) :: (18, true) :: policyEnums s x.pend r) = none →
        ∃ u fields, exec (.doorPolicySet r) s = .next (ok u (withOp r 0x1430) fields) ∧
          u.door d = { x with pend := policyWrite x.pend (withOp r 0x1430) (policyEff (policyFields x.pend r))
                              written := x.written ||| BitVec.ofNat 4 (2 ^ rq r 18 1) } ∧
          OtherDoors d s u ∧ SameBut (among [.doors, .host]) s u) ∧
      (rq r 18 1 = 4 →
        (∀ k o b, (commitRules s d).find? (fun e => !e.2.2) = some (k, o, b) →
          exec (.doorPolicySet r) s = .next (refused s (withOp r 0x1430) 0 [(16, 1, (k : Int)), (18, 2, (o : Int))])) ∧
        ((commitRules s d).find? (fun e => !e.2.2) = none → ∃ t, exec (.doorPolicySet r) s = .next t ∧
          t.door d = { x with
            commits := x.commits ++ [(withOp r 0x1430, { x.pend with edges := x.pend.edges.take x.pend.nEdge })], pend := {}, written := 0 } ∧
          OtherDoors d s t ∧ SameBut (among [.doors]) s t)) ∧
      (rq r 18 1 = 5 → ∃ u, exec (.doorPolicySet r) s = .next (ok u (withOp r 0x1430)) ∧
        u.door d = { x with pend := {}, written := 0 } ∧ OtherDoors d s u ∧ SameBut (among [.doors]) s u))

/-- The obstruction tests of a door axis (08 R240): a stale image counts an execution without testing; otherwise T2 counts while the force is at
nine tenths of its limit or above, T3 while the position error exceeds PERRTOL, and a test holds once its count reaches OBN. -/
def Obligations.ObstructionTestsCount : Prop :=
  ∀ (c : DoorDef) (y : DoorAxis) (im : DoorAxImg) (opening nudging sum : Bool) (ns : Nat),
    (im.stale = true → axisTests c y im opening nudging sum ns = ({ y with gap := y.gap + 1 }, [], 0)) ∧
    (im.stale = false →
      (axisTests c y im opening nudging sum ns).1.t2 =
        (if 9 * (if nudging then c.fNudge else c.fpc) ≤ 10 * (if opening then im.f else -im.f) then min (y.t2 + 1) 255 else 0) ∧
      (axisTests c y im opening nudging sum ns).1.t3 = (if c.perrTol < iabs (im.ref - im.p) then min (y.t3 + 1) 255 else 0) ∧
      (2 ∈ (axisTests c y im opening nudging sum ns).2.1 ↔ c.obn ≤ (axisTests c y im opening nudging sum ns).1.t2) ∧
      (3 ∈ (axisTests c y im opening nudging sum ns).2.1 ↔ c.obn ≤ (axisTests c y im opening nudging sum ns).1.t3))

/-- The moments of a committed door (08 R232, R233, R238, R241, R246, R248, R249): the oldest image is evaluated; the third late evaluation in a row
holds the door; a dwell that has run makes a close pending; a door blocked 30 s is reported, one blocked 180 s begins nudging; the nudging close
and the second opening start; edge references that have moved are stored. -/
def Obligations.DoorMomentsFollowTheirTimes : Prop :=
  ∀ (d : Nat) (s : State) (c : DoorDef), (s.door d).def_ = some c →
    let x := s.door d
    (∀ im rest, x.imgs = im :: rest → exec (.doorEvaluation d) s = .next (evalDoor (s.onDoor d fun t => { t with imgs := rest }) d c im)) ∧
    (x.imgs ≠ [] → x.lateNow = false →
      (x.lateRun ≠ 2 → x.lateRun < max32 → ∃ t, exec (.doorEvalLate d) s = .next t ∧
        t.door d = { x with late := satAdd max32 x.late 1, lateRun := x.lateRun + 1, lateNow := true, okRun := 0 } ∧
        OtherDoors d s t ∧ SameBut (among [.doors]) s t) ∧
      (x.lateRun = 2 → ∃ t, exec (.doorEvalLate d) s = .next t ∧ (t.door d).lateHold = true ∧ (t.door d).lateRun = 3 ∧
        (doorMoving x = true → (t.door d).state = .held) ∧ (doorMoving x = false → (t.door d).state = x.state) ∧ OtherDoors d s t)) ∧
    (x.state = .opened → x.service = true → doorInsp s c = false → ∃ t, exec (.dwellExpiry d) s = .next t ∧
      t.door d = { x with closePend := true } ∧ OtherDoors d s t ∧ SameBut (among [.doors]) s t) ∧
    (x.closePend = true → x.service = true →
      (30000000000 ≤ x.blockNs → x.heldRep = false → ∃ t, exec (.blocked30s d) s = .next t ∧ t.door d = { x with heldRep := true } ∧
        (∀ y, doorCar s c = some y → t.disp.updates = s.disp.updates ++ [.doorHeld y.c.car]) ∧ OtherDoors d s t ∧
        SameBut (among [.doors, .disp, .cairn, .ctr]) s t) ∧
      (180000000000 ≤ x.blockNs → nudgeable s d c = true → x.nudgeArm = false → (∀ e, doorPartner s c = some e → e.1 ≠ d) →
        ∃ t, exec (.blocked180s d) s = .next t ∧ t.door d = { x with nudgeArm := true, nudgeOut := true } ∧
        (∀ e, doorPartner s c = some e → nudgeable s e.1 e.2 = true → (t.door e.1).nudgeArm = true) ∧
        (∀ k, k ≠ d → (∀ e, doorPartner s c = some e → e.1 ≠ k) → t.door k = s.door k) ∧
        SameBut (among [.doors, .field, .cairn, .ctr]) s t)) ∧
    (x.nudgeArm = true →
      (nudgeable s d c = true → axesOn s c = true → ∃ t, exec (.nudgeStart d) s = .next t ∧ (t.door d).state = .nudging ∧
        (t.door d).nudgeArm = false ∧ (t.door d).closePend = false ∧ (t.door d).blockNs = 0 ∧
        (∀ k, k ≠ d → (∀ e ∈ closeMates s d c, e.1 ≠ k) → t.door k = s.door k) ∧ SameBut (among [.doors, .loop]) s t) ∧
      (nudgeable s d c = false ∨ axesOn s c = false → ∃ t, exec (.nudgeStart d) s = .next t ∧ t.door d = { x with nudgeArm := false } ∧
        OtherDoors d s t ∧ SameBut (among [.doors, .loop]) s t)) ∧
    (x.retry = true → x.state = .held → x.lateHold = false → doorInsp s c = false → mayOpen s c = true → doorPartner s c = none → ∃ t, exec (.openRetry d) s = .next t ∧
      (t.door d).state = .opening ∧ (t.door d).retry = false ∧ OtherDoors d s t ∧ SameBut (among [.doors, .loop, .field]) s t) ∧
    (∀ e, x.edges = [e] → e.seeded = true → e.stored = none → e.armed = true → x.refAt = none → ∃ t, exec (.edgeRefStore d) s = .next t ∧
      (t.door d).refAt = some s.time.now ∧ (t.door d).edges = [{ e with stored := some e.ref }] ∧
      t.nor.queue = s.nor.queue ++ [.edgeRefs d [some e.ref]] ∧ OtherDoors d s t ∧ SameBut (among [.doors, .nor]) s t)

/-- The dispatch class and the moments of a call (02 R69, 09 R259, R261, R267, R268, R275 to R277): a status and a stop list complete with what
Traverse holds; a submission that finds a car takes the policy's choice, waits for it, or stays unassigned; the deadline gives the call to the
candidate with the least WAIT; a cancel waits for the next update; a call without a car is evaluated again and abandoned at last. -/
def Obligations.CallsAreDispatched : Prop :=
  ∀ (r : Request) (s : State), motionReady s = true →
    (hasRight s r.part 0x1501 = true → mayAddress s r.part (rq r 16 4) = true → ∃ fields,
      exec (.callStatus r) s = .next (ok s (withOp r 0x1501) fields) ∧ (16, 4, (rq r 16 4 : Int)) ∈ fields ∧
      (20, 1, ((s.call (rq r 16 4)).kind : Int)) ∈ fields ∧ (21, 1, (callCode (s.call (rq r 16 4)).state : Int)) ∈ fields ∧
      (22, 1, ((s.call (rq r 16 4)).car : Int)) ∈ fields ∧ (32, 4, ((s.call (rq r 16 4)).wait : Int)) ∈ fields) ∧
    (hasRight s r.part 0x1502 = true → rq r 16 1 ≤ 63 → knownCar s (rq r 16 1) = true → rq r 17 1 ≤ 127 → ∃ u fields cont,
      exec (.carStoplist r) s = .next (ok u (withOp r 0x1502) fields 0 cont) ∧ (16, 1, (rq r 16 1 : Int)) ∈ fields ∧
      (19, 1, ((stopList s (rq r 16 1)).length : Int)) ∈ fields ∧ SameBut (among [.host]) s u) ∧
    (actReady s = true → hasRight s r.part 0x1511 = true → mayAddress s r.part (rq r 16 4) = true →
      ((s.call (rq r 16 4)).state = .unassigned ∨ (s.call (rq r 16 4)).state = .assigned → ∃ t, exec (.callCancel r) s = .next t ∧
        t.disp = { s.disp with cancels := s.disp.cancels ++ [(withOp r 0x1511, rq r 16 4)] } ∧ SameBut (among [.disp]) s t) ∧
      ((s.call (rq r 16 4)).state = .cancelled → exec (.callCancel r) s = .next (ok s (withOp r 0x1511) [(16, 1, 4)])) ∧
      ((s.call (rq r 16 4)).state = .onBoard ∨ (s.call (rq r 16 4)).state = .completed ∨ (s.call (rq r 16 4)).state = .abandoned →
        exec (.callCancel r) s = .next (refused s (withOp r 0x1511)))) ∧
    (∀ policy, actReady s = true → hasRight s r.part 0x1510 = true → rq r 16 1 ≤ 3 →
      (∀ h, h < 8 → bitAt (rq r 17 1) h = true → declaredShaft s h = true) → landingKnown s (rq r 17 1) (rq r 18 1) = true →
      (rq r 16 1 = 3 → landingKnown s (rq r 17 1) (rq r 19 1) = true) → (rq r 16 1 = 2 → rq r 20 1 ≤ 63 ∧ knownCar s (rq r 20 1) = true) →
      (s.disp.serving.isSome = true → ∃ t, exec (.callSubmit r policy) s = .next t ∧
        t.disp = { s.disp with waiting := s.disp.waiting ++ [(withOp r 0x1510, policy)] } ∧ SameBut (among [.disp, .host]) s t) ∧
      (s.disp.serving = none → (s.disp.calls.filter fun e => outstanding e.2).length < 16384 → ∀ y z cands,
        y = noteClamps s (withOp r 0x1510) (clampedN 21 1 16 (rq r 21 1)) →
        ((callCars y (callOf y (withOp r 0x1510))).any fun x => reaches x (callOf y (withOp r 0x1510))) = true →
        z = y.onDisp (fun d => { d with
          next := if y.disp.next + 1 = 4294967296 then 1 else y.disp.next + 1
          calls := tabSet d.calls y.disp.next (callOf y (withOp r 0x1510)) }) →
        cands = candidates z s.disp.next none none →
          (cands = [] → ∃ u fields, exec (.callSubmit r policy) s = .next (ok u (withOp r 0x1510) fields) ∧
            (u.call s.disp.next).state = .unassigned ∧ (u.call s.disp.next).car = 0xFF) ∧
          (cands ≠ [] → policy = none → exec (.callSubmit r policy) s =
            .next (z.onDisp fun d => { d with serving := some (withOp r 0x1510, s.disp.next, cands) })) ∧
          (∀ n c, policy = some n → cands.find? (fun c => c.car == n) = some c → ∃ u fields,
            exec (.callSubmit r policy) s = .next (ok u (withOp r 0x1510) fields) ∧ (u.call s.disp.next).state = .assigned ∧
            (u.call s.disp.next).car = c.car))) ∧
    (s.disp.serving = none → exec .policyDeadline s = .next s) ∧
    (∀ id cands c, s.disp.serving = some (r, id, cands) → s.disp.waiting = [] → s.disp.owed = false → s.disp.due = [] →
      leastCand (·.wait) cands = some c →
      (s.call id).state ≠ .onBoard → ∃ u fields, exec .policyDeadline s = .next (ok u r fields) ∧ u.disp.serving = none ∧
        (u.call id).state = .assigned ∧ (u.call id).car = c.car) ∧
    (∀ id, tabHas s.disp.calls id = true → (s.call id).state = .unassigned →
      (∀ c, s.disp.serving = none → leastCand policyCost (candidates s id none none) = some c →
        ∃ t, exec (.callReevalTimer id) s = .next t ∧ (t.call id).state = .assigned ∧ (t.call id).car = c.car ∧
          SameBut (among [.disp, .cairn, .ctr]) s t) ∧
      (∀ e, s.disp.serving = some e → s.disp.due.contains id = false → exec (.callReevalTimer id) s =
        .next (s.onDisp fun d => { d with due := d.due ++ [id] })) ∧
      ∃ t, exec (.unassignedTimeout id) s = .next t ∧ (t.call id).state = .abandoned ∧ (t.call id).reason = 12 ∧
        (∀ k, k ≠ id → t.call k = s.call k) ∧ SameBut (among [.disp, .cairn, .ctr]) s t) ∧
    (∀ id, tabHas s.disp.calls id = true → outstanding (s.call id) = false → ∃ t, exec (.callDiscard id) s = .next t ∧
      t.disp = { s.disp with calls := tabDel s.disp.calls id } ∧ SameBut (among [.disp]) s t) ∧
    (s.disp.serving = none → ∃ t, exec .motionUpdateApply s = .next t ∧ t.disp.cycle = t.time.cycle ∧ t.time = s.time ∧
      (∀ q id, s.disp.updates = [] → (∀ x ∈ allCars s, (s.car x.c.car).serving = false) → s.disp.cancels = [(q, id)] →
        (s.call id).state = .unassigned ∨ (s.call id).state = .assigned → (t.call id).state = .cancelled))

/-- The queries of the safety class and the sessions that guard its configuration (02 R67, 10 R311 to R316): the status and the log answer
from state; a session opens for the password alone and trips the module; writes reach only the pending image; a close discards or commits it;
a wrong password counts, the fifth locks sessions out for 900 s. -/
def Obligations.SafetySessionsGuardTheConfiguration : Prop :=
  ∀ (r : Request) (s : State),
    (hasRight s r.part 0x2001 = true → exec (.safetyStatus r) s = .next (ok s (withOp r 0x2001) (s.safety.snap.getD (statusFields s)))) ∧
    (hasRight s r.part 0x2002 = true → ∃ fields, exec (.safetyConfigCrc r) s = .next (ok s (withOp r 0x2002) fields) ∧
      (16, 4, (imageCrc s.safety.core.image : Int)) ∈ fields ∧ (20, 4, (imageCrc s.safety.scarp.image : Int)) ∈ fields ∧
      (∀ x, s.safety.session = some x → (24, 4, (imageCrc x.pending : Int)) ∈ fields) ∧
      (s.safety.session = none → (24, 4, 0) ∈ fields)) ∧
    (hasRight s r.part 0x2003 = true → ∃ u fields cont, exec (.safetyChangelogRead r) s = .next (ok u (withOp r 0x2003) fields 0 cont) ∧
      (∀ e l, s.safety.log = l ++ [e] → (20, 4, (e.seq : Int)) ∈ fields) ∧ (∀ e l, s.safety.log = e :: l → (24, 4, (e.seq : Int)) ∈ fields) ∧
      SameBut (among [.host]) s u) ∧
    (hasRight s r.part 0x2010 = true → s.sys.lc ≠ .blank → s.sys.lc ≠ .returned →
      (∀ t, s.safety.lockEnd = some t → exec (.safetySessionOpen r) s =
        .next (refused s (withOp r 0x2010) (min ((t - s.time.now) / 1000) 4294967295))) ∧
      (s.safety.lockEnd = none →
        (s.safety.session.isSome = true ∨ inMotion s = true → exec (.safetySessionOpen r) s = .next (refused s (withOp r 0x2010))) ∧
        (s.safety.session = none → inMotion s = false → (rq r 32 1 = 0 ∨ 12 ≤ rq r 32 1 ∧ rq r 32 1 ≤ 64) →
          (bitAt (rq r 33 1) 0 = true → 12 ≤ rq r 34 1 ∧ rq r 34 1 ≤ 64 ∧ printable (rqBytes r 100 (rq r 34 1)) = true) →
          ((s.safety.password = none ∧ bitAt (rq r 33 1) 0 = true) ∨
            (∃ salt hash, s.safety.password = some (salt, hash) ∧ rq r 32 1 ≠ 0 ∧
              Config.passwordHash salt (rqBytes r 36 (rq r 32 1)) = hash) →
            ∃ u x fields, exec (.safetySessionOpen r) s = .next (ok u (withOp r 0x2010) fields) ∧ u.safety.session = some x ∧
              x.user = rqBytes r 16 16 ∧ x.pending = s.safety.core.image ∧ (16, 4, (x.id : Int)) ∈ fields ∧
              (x.newPw = if bitAt (rq r 33 1) 0 = true then some (rqBytes r 100 (rq r 34 1)) else none) ∧ u.safety.wrong = 0 ∧
              (s.safety.core.running = true → 0x16 ∈ u.safety.core.modTrip) ∧ (s.safety.scarp.running = true → 0x16 ∈ u.safety.scarp.modTrip) ∧
              SameBut (among [.safety, .cairn, .ctr]) s u) ∧
          (∀ salt hash, s.safety.password = some (salt, hash) →
            (rq r 32 1 = 0 ∨ Config.passwordHash salt (rqBytes r 36 (rq r 32 1)) ≠ hash) →
            ∃ u, exec (.safetySessionOpen r) s = .next (denied u (withOp r 0x2010)) ∧
              (s.safety.wrong < 4 → u.safety = { s.safety with wrong := s.safety.wrong + 1 }) ∧
              (s.safety.wrong = 4 → u.safety.wrong = 0 ∧ u.safety.lockEnd = some (s.time.now + 900000000000) ∧ u.safety.session = none ∧
                ∃ e, u.safety.log = (e :: s.safety.log).take 1024 ∧ e.type = 3 ∧ e.user = rqBytes r 16 16 ∧ e.seq = s.safety.logSeq) ∧
              SameBut (among [.safety, .cairn, .ctr]) s u)))) ∧
    (∀ x, s.safety.session = some x → x.id = rq r 16 4 →
      (hasRight s r.part 0x2011 = true → rq r 20 4 ≤ 16383 → ∃ u y, exec (.safetyConfigWrite r) s =
        .next (ok u (withOp r 0x2011) [(16, 2, (clampN 1 (min 960 (16384 - rq r 20 4)) (rq r 24 2) : Int))]) ∧
        u.safety = { s.safety with session := some { x with pending := y } } ∧
        (∀ i, tabGet y (Config.factoryByte i) i =
          if rq r 20 4 ≤ i ∧ i < rq r 20 4 + clampN 1 (min 960 (16384 - rq r 20 4)) (rq r 24 2) then r.payload.getD (16 + (i - rq r 20 4)) 0
          else tabGet x.pending (Config.factoryByte i) i) ∧ SameBut (among [.safety, .host]) s u) ∧
      (hasRight s r.part 0x2012 = true →
        (rq r 20 1 = 0 → ∃ u, exec (.safetySessionClose r) s = .next (ok u (withOp r 0x2012)) ∧
          u.safety = { s.safety with session := none } ∧ SameBut (among [.safety, .cairn, .ctr]) s u) ∧
        (rq r 20 1 = 1 → pendingFault x.pending s.free = none →
          (imageCrc x.pending ≠ rq r 24 4 → ∃ u, exec (.safetySessionClose r) s = .next (refused u (withOp r 0x2012) 0 [(16, 1, 1)]) ∧
            u.safety = s.safety ∧ SameBut (among []) s u) ∧
          (imageCrc x.pending = rq r 24 4 → ∃ u, exec (.safetySessionClose r) s =
            .next (ok u (withOp r 0x2012) [(16, 4, (rq r 24 4 : Int)), (20, 4, (s.safety.logSeq : Int))]) ∧ u.safety.session = none ∧
            u.safety.core.image = x.pending ∧ u.safety.scarp.image = x.pending ∧ u.safety.crcBad = false ∧
            (x.newPw = none → u.safety.password = s.safety.password ∧
              ∃ e, u.safety.log = (e :: s.safety.log).take 1024 ∧ e.type = 1 ∧ e.user = x.user ∧ e.seq = s.safety.logSeq ∧
                e.oldCrc = imageCrc s.safety.core.image ∧ e.newCrc = rq r 24 4) ∧
            (∀ p, x.newPw = some p → ∃ salt, u.safety.password = some (salt, Config.passwordHash salt p)) ∧
            SameBut (among [.safety, .cairn, .ctr]) s u))) ∧
      ∃ u, exec .sessionIdleClose s = .next u ∧ u.safety = { s.safety with session := none } ∧ SameBut (among [.safety, .cairn, .ctr]) s u) ∧
    ∃ u, exec .passwordLockoutEnd s = .next u ∧ u.safety = { s.safety with lockEnd := none } ∧ SameBut (among [.safety]) s u

/-- The faults and demands that trip a safety channel (10 R281 to R283, R290, R294, R295, R299, R300, R304, R306, R308, 13 R375, 21 R537):
each latches its cause in its scope and channel, or in both channels, and leaves the other latches alone. -/
def Obligations.SafetyChannelsLatchTheirTrips : Prop :=
  ∀ (s : State),
    (∀ c, (s.chan c).running = true →
      (∃ t, exec (.otherChannelLoss c) s = .next t ∧ LatchesTrip c 8 (match c with | .core => 0x13 | .scarp => 0x12) s t ∧
        SameBut (among [.safety, .cairn, .ctr]) s t) ∧
      (∀ sc cause, scopeNo sc ≤ 8 → ∃ t, exec (.tripRequestRx c sc cause) s = .next t ∧ LatchesTrip c (scopeNo sc) cause s t ∧
        SameBut (among [.safety, .cairn, .ctr]) s t) ∧
      (∀ line readsOff, line < 24 → lineLive s line = true →
        (readsOff = false → ∃ t, exec (.switchTest c line readsOff) s = .next t ∧ LatchesTrip c 8 0x10 s t ∧
          SameBut (among [.safety, .cairn, .ctr]) s t) ∧
        (readsOff = true → exec (.switchTest c line readsOff) s = .next s)) ∧
      (∀ h, h < 8 → (tabGet (s.chan c).ss1 {} h).on = true →
        (4 ≤ (tabGet (s.chan c).ss1 {} h).stillA ∨ 4 ≤ (tabGet (s.chan c).ss1 {} h).stillB ∨
          (tabGet (s.chan c).ss1 {} h).t0 + 1000 * (cfgShaft (s.chan c) h).tss1 ≤ (s.chan c).clk) →
        ∃ t, exec (.ss1End c h) s = .next t ∧ (tabGet (t.chan c).ss1 {} h).on = false ∧
          LatchesTrip c (ss1Scope (s.chan c) h (tabGet (s.chan c).ss1 {} h).cause) (tabGet (s.chan c).ss1 {} h).cause s t ∧ SameBut (among [.safety, .cairn, .ctr]) s t) ∧
      (∀ car h k, h < 8 → shaftOfCar (s.chan c) car = some (h, k) →
        (brakeBad s c k = true → ∃ t, exec (.brakeFeedbackTimeout c car) s = .next t ∧ (tabGet (t.chan c).cars {} car).brakeFail = true ∧
          LatchesTrip c (if (cfgShaft (s.chan c) h).module.contains 0x0B then 8 else h) 0x0B s t ∧
          SameBut (among [.safety, .cairn, .ctr]) s t) ∧
        ∃ t, exec (.safeLinkLost c (.car car)) s = .next t ∧ (tabGet (t.chan c).cars {} car).lost = true ∧
          LatchesTrip c h 0x0C s t ∧ SameBut (among [.safety, .cairn, .ctr]) s t) ∧
      (∀ l b h, tabHas (s.chan c).cfg.links (linkNo l) = true → shaftsOfLink (s.chan c) (linkNo l) = [h] →
        ∃ t, exec (.safeLinkLost c (.stream l b)) s = .next t ∧ (tabGet (t.chan c).streams {} (2 * linkNo l + b2n b)).lost = true ∧
          LatchesTrip c h 0x0C s t ∧ SameBut (among [.safety, .cairn, .ctr]) s t)) ∧
    (s.safety.scarp.running = true → ∃ t, exec .scarpInternalFault s = .next t ∧ LatchesTrip .scarp 8 0x13 s t ∧
      SameBut (among [.safety, .cairn, .ctr]) s t) ∧
    (s.safety.core.running = true → ∃ t, exec .safetyCoreFault s = .next t ∧ t.safety.core.running = false ∧ t.sys.safe = false ∧
      0x12 ∈ t.safety.core.modTrip ∧ (s.safety.scarp.running = true → 0x12 ∈ t.safety.scarp.modTrip) ∧
      SameBut (among [.safety, .cairn, .ctr, .sys]) s t) ∧
    (∀ line, line < 24 → lineLive s line = true → ∃ t, exec (.stoLineLimit line) s = .next t ∧
      (s.safety.core.running = true → 0x10 ∈ t.safety.core.modTrip) ∧ (s.safety.scarp.running = true → 0x10 ∈ t.safety.scarp.modTrip) ∧
      SameBut (among [.safety, .cairn, .ctr]) s t) ∧
    ((wordsDiffer s = true ∨ latchesDiffer s = true ∧ resetPending s = false) → ∃ t, exec .crossMismatch s = .next t ∧
      (s.safety.core.running = true → 0x11 ∈ t.safety.core.modTrip) ∧ (s.safety.scarp.running = true → 0x11 ∈ t.safety.scarp.modTrip) ∧
      SameBut (among [.safety, .cairn, .ctr]) s t) ∧
    (wordsDiffer s = false → (latchesDiffer s = false ∨ resetPending s = true) → exec .crossMismatch s = .next s) ∧
    (∀ a b, s.safety.core.running = true → s.safety.scarp.running = true → ∃ t, exec (.crossChannelExchange a b) s = .next t ∧
      t.safety.core.dev = (a :: s.safety.core.dev).take 16 ∧ t.safety.scarp.dev = (b :: s.safety.scarp.dev).take 16 ∧
      (clockBad t.safety.core.dev = true → 0x13 ∈ t.safety.core.modTrip) ∧ (clockBad t.safety.core.dev = false → t.safety.core.modTrip = s.safety.core.modTrip) ∧
      (clockBad t.safety.scarp.dev = true → 0x12 ∈ t.safety.scarp.modTrip) ∧ (clockBad t.safety.scarp.dev = false → t.safety.scarp.modTrip = s.safety.scarp.modTrip) ∧
      SameBut (among [.safety, .cairn, .ctr]) s t)

/-- The 50 µs evaluation of the safe inputs (10 R280, R287, R288, R305): each running channel evaluates each pair by its own configuration, and
takes its read-back; the pair program of R288 and the reset program of R305 hold for every pair, state and sample. -/
def Obligations.SafeInputsAreEvaluatedEverySample : Prop :=
  (∀ (core scarp : BitVec 32) (coreRb scarpRb : BitVec 24) (s : State), ∃ t,
    exec (.safeInputSample core scarp coreRb scarpRb) s = .next t ∧
    (∀ c, (s.chan c).running = true → (t.chan c).readback = (match c with | .core => coreRb | .scarp => scarpRb) ∧
      (t.chan c).clk = (s.chan c).clk + 50 ∧ (t.chan c).cfg = (s.chan c).cfg ∧
      ∀ p, p < 16 → tabGet (t.chan c).pairs {} p = evalPair (tabGet (s.chan c).cfg.pairs {} p) (tabGet (s.chan c).pairs {} p)
        ((match c with | .core => core | .scarp => scarp).getLsbD (2 * p)) ((match c with | .core => core | .scarp => scarp).getLsbD (2 * p + 1))) ∧
    (∀ c, (s.chan c).running = false → t.chan c = s.chan c) ∧ SameBut (among [.safety, .rings, .cairn, .ctr]) s t) ∧
  (∀ (k : PairCfg) (p q : PairSt) (ra rb a b : Bool), q = evalPair k p ra rb → a = q.a → b = (if k.type = 1 then !q.b else q.b) →
    (a = b → q.dt = 0 ∧ (a = false → q.armed = true ∧ q.fault = p.fault) ∧
      (a = true → q.armed = p.armed ∧ (p.armed = true → q.fault = false) ∧ (p.armed = false → q.fault = p.fault))) ∧
    (a ≠ b → q.dt = p.dt + 50 ∧ (k.disc < p.dt + 50 → q.fault = true ∧ q.armed = false) ∧
      (p.dt + 50 ≤ k.disc → q.fault = p.fault ∧ q.armed = p.armed)) ∧
    q.closed = (a && b && !q.fault)) ∧
  (∀ (t u : ResetSt) (stuck edge r safe : Bool), (u, stuck, edge) = evalReset t r safe →
    (r = true → u.closedT = t.closedT + 50 ∧ u.openT = 0 ∧ u.armed = t.armed ∧ edge = false ∧
      (stuck = true ↔ 5000000 < t.closedT + 50 ∧ t.stuck = false) ∧ (u.stuck = true ↔ t.stuck = true ∨ 5000000 < t.closedT + 50)) ∧
    (r = false → u.closedT = 0 ∧ u.openT = t.openT + 50 ∧ stuck = false ∧
      (edge = true ↔ t.armed = true ∧ t.stuck = false ∧ 100000 ≤ t.closedT ∧ t.closedT ≤ 3000000) ∧
      (100000 ≤ t.openT + 50 → u.armed = true ∧ u.stuck = false) ∧ (t.openT + 50 < 100000 → u.armed = t.armed ∧ u.stuck = t.stuck)))

/-- What a safety channel takes from its points and links, and gives to the other channel and to the rings (03 R102, 10 R290, R294, R306, 13 R375):
samples of the monitoring points; frames accepted or discarded; STOP while the Scarp trip holds; a latch that the other channel did not clear;
the frames of the pair exchange and their loss. -/
def Obligations.SafetyChannelsTakeFramesAndSendStops : Prop :=
  ∀ (s : State),
    (∀ a b, ∃ t, exec (.monitorPointSample a b) s = .next t ∧ SameBut (among [.safety, .cairn, .ctr]) s t ∧
      (∀ c, (s.chan c).running = false → t.chan c = s.chan c) ∧
      ∀ c p, (s.chan c).running = true →
        (p < 4 → (tabGet (s.chan c).cfg.points {} p).mode ≠ 0 →
          tabGet (t.chan c).points {} p = evalPoint (tabGet (s.chan c).cfg.points {} p) (tabGet (s.chan c).points {} p)
            ((match c with | .core => a | .scarp => b).getD p 0) ∧
          ((tabGet (t.chan c).points {} p).present = false →
            ∀ h ∈ scopesOf (tabGet (s.chan c).cfg.points {} p).module (tabGet (s.chan c).cfg.points {} p).shafts, 2 ∈ latchOf (t.chan c) h)) ∧
        ((tabGet (s.chan c).cfg.points {} p).mode = 0 → tabGet (t.chan c).points {} p = tabGet (s.chan c).points {} p)) ∧
    (∀ c l b bytes k st, (s.chan c).running = true → k = tabGet (s.chan c).cfg.links {} (linkNo l) →
      st = tabGet (s.chan c).streams {} (2 * linkNo l + b2n b) →
      ∃ t, exec (.safeLinkFrameRx c l b bytes) s = .next t ∧ t.chan (otherChan c) = s.chan (otherChan c) ∧
      SameBut (among [.safety, .cairn, .ctr, .multi]) s t ∧ t.multi = (if c = .core then publishFrame s l b bytes else s).multi ∧
      ((frameOk bytes (if b then k.srcB else k.srcA) b && seqOk st.seq st.lost (leAt bytes 4 2)) = false →
        CountsOne (cMem 13) s t ∧ t.safety = s.safety) ∧
      ((frameOk bytes (if b then k.srcB else k.srcA) b && seqOk st.seq st.lost (leAt bytes 4 2)) = true →
        (tabGet (t.chan c).streams {} (2 * linkNo l + b2n b)).seq = some (leAt bytes 4 2) ∧
        (tabGet (t.chan c).streams {} (2 * linkNo l + b2n b)).lost = false ∧
        (tabGet (t.chan c).streams {} (2 * linkNo l + b2n b)).good = min 255 (st.good + 1) ∧
        ∀ n x, safeRecs bytes b = [.car n x] → k.cars.contains n = true → recValid x = true → recOf (t.chan c) b n = some x)) ∧
    (∀ l b bytes, s.safety.scarp.running = false → exec (.safeLinkFrameRx .scarp l b bytes) s = .next s) ∧
    (s.safety.scarp.modTrip ≠ [] → (s.rings.map (·.1)).Nodup → ∃ t, exec .scarpStopInject s = .next t ∧ SameBut (among [.rings, .ctr]) s t ∧
      ∀ r, ((s.ring r).state = .off ∨ (s.ring r).state = .sleeping → t.ring r = s.ring r) ∧
        ((s.ring r).state ≠ .off → (s.ring r).state ≠ .sleeping → t.ring r = { s.ring r with out := (.stop 1, 64) :: (s.ring r).out } ∧
          tabGet t.ctr.cnt 0 (cRing r 15) = satAdd max48 (tabGet s.ctr.cnt 0 (cRing r 15)) 1)) ∧
    (s.safety.scarp.modTrip = [] → exec .scarpStopInject s = .next s) ∧
    (∀ c sc l, scopeNo sc ≤ 8 → tabGet (s.chan c).cleared [] (scopeNo sc) = l → ∃ t, exec (.resetDisagree c sc) s = .next t ∧
      tabGet (t.chan c).cleared [] (scopeNo sc) = [] ∧ t.chan (otherChan c) = s.chan (otherChan c) ∧ SameBut (among [.safety, .cairn, .ctr]) s t ∧
      ((l.any (latchOf (s.chan (otherChan c)) (scopeNo sc)).contains) = true → ∀ k, k ∈ latchOf (t.chan c) (scopeNo sc) ↔
        k ∈ latchOf (s.chan c) (scopeNo sc) ∨ k ∈ l) ∧
      ((l.any (latchOf (s.chan (otherChan c)) (scopeNo sc)).contains) = false → latchOf (t.chan c) (scopeNo sc) = latchOf (s.chan c) (scopeNo sc))) ∧
    (∀ c, (s.chan c).running = true → s.sys.manifest.partner ≠ 0 →
      (∀ bytes, (frameOk bytes (s.chan c).cfg.pairSrc (byteAt bytes 7 % 2 == 1) &&
          seqOk (s.chan c).pairSeq ((s.chan c).pairGood == 0) (leAt bytes 4 2)) = false →
        ∃ t, exec (.pairSafeFrameRx c bytes) s = .next t ∧ CountsOne (cMem 13) s t ∧ SameBut (among [.ctr]) s t) ∧
      (∀ bytes m l crc rest, frameOk bytes (s.chan c).cfg.pairSrc (byteAt bytes 7 % 2 == 1) = true →
        seqOk (s.chan c).pairSeq ((s.chan c).pairGood == 0) (leAt bytes 4 2) = true →
        safeRecs bytes (byteAt bytes 7 % 2 == 1) = .pair m l crc :: rest →
        ∃ t, exec (.pairSafeFrameRx c bytes) s = .next t ∧ (t.chan c).pairSeq = some (leAt bytes 4 2) ∧
          (t.chan c).pairGood = min 255 ((s.chan c).pairGood + 1) ∧ (m ≠ 0 → m ∈ latchOf (t.chan c) 8) ∧
          (∀ h, h < 8 → l.getD h 0 ≠ 0 → l.getD h 0 ∈ latchOf (t.chan c) h) ∧
          ((t.chan c).pairCrcDiff = true ↔ crc ≠ imageCrc (s.chan c).image) ∧
          t.chan (otherChan c) = s.chan (otherChan c) ∧ SameBut (among [.safety, .cairn, .ctr]) s t) ∧
      (∀ sixteen, ∃ t, exec (.pairExchangeLoss c sixteen) s = .next t ∧ (t.chan c).pairGood = 0 ∧ t.red.exchLost = true ∧
        ((t.chan c).pairOff = true ↔ (s.chan c).pairOff = true ∨ sixteen = true ∧ isLeading s = false) ∧
        latchOf (t.chan c) 8 = latchOf (s.chan c) 8 ∧ t.chan (otherChan c) = s.chan (otherChan c) ∧
        SameBut (among [.safety, .red, .cairn, .ctr]) s t)) ∧
    (∀ c bytes sixteen, (s.chan c).running = false ∨ s.sys.manifest.partner = 0 →
      exec (.pairSafeFrameRx c bytes) s = .next s ∧ exec (.pairExchangeLoss c sixteen) s = .next s)

/-- The field class and the samples, conversions and pulses of the field island (11 R322 to R347): reads answer the latched values, writes wait for
the release phase, moves and stops of a step output follow its state, and each sample acts on its own channel by its rule. -/
def Obligations.FieldChannelsFollowTheirSamples : Prop :=
  ∀ (r : Request) (s : State),
    (hasRight s r.part 0x3001 = true → rq r 16 1 ≤ 47 → ∃ u fields, exec (.dioRead r) s = .next (ok u (withOp r 0x3001) fields) ∧
      u.field = { s.field with wasSilent := s.field.silent } ∧ (16, 6, (s.field.diInst.toNat : Int)) ∈ fields ∧
      (22, 3, (s.field.doInst.1.toNat : Int)) ∈ fields ∧ (25, 3, (s.field.doInst.2.1.toNat : Int)) ∈ fields ∧
      (28, 3, (s.field.doInst.2.2.toNat : Int)) ∈ fields ∧ (32, 2, ((s.di (rq r 16 1)).edgesInst : Int)) ∈ fields ∧ SameBut (among [.field]) s u) ∧
    (hasRight s r.part 0x3002 = true → rq r 16 1 ≤ 15 → ∃ u fields cont, exec (.aiRead r) s = .next (ok u (withOp r 0x3002) fields 0 cont) ∧
      (16, 1, (clampN 1 (16 - rq r 16 1) (rq r 17 1) : Int)) ∈ fields ∧ (24, 2, (s.ai (rq r 16 1)).code) ∈ fields ∧ SameBut (among [.host]) s u) ∧
    (hasRight s r.part 0x3003 = true → rq r 17 1 ≤ 7 →
      (rq r 16 1 = 0 → ∃ fields, exec (.qencRead r) s = .next (ok s (withOp r 0x3003) fields) ∧ (16, 4, (s.qa (rq r 17 1)).inst) ∈ fields ∧
        (20, 4, (s.qa (rq r 17 1)).index) ∈ fields) ∧
      (rq r 16 1 = 1 → ∃ fields, exec (.qencRead r) s = .next (ok s (withOp r 0x3003) fields) ∧ (16, 4, (s.stp (rq r 17 1)).pos) ∈ fields)) ∧
    (actReady s = true →
      (hasRight s r.part 0x3010 = true → (BitVec.ofNat 24 (rq r 16 3) &&& s.field.doorOwned = 0 → ∃ t, exec (.dioWrite r) s = .next t ∧
          t.field = { s.field with doPend := s.field.doPend ++ [(some (withOp r 0x3010), BitVec.ofNat 24 (rq r 16 3), BitVec.ofNat 24 (rq r 20 3))] } ∧
          SameBut (among [.field]) s t) ∧
        (BitVec.ofNat 24 (rq r 16 3) &&& s.field.doorOwned ≠ 0 → exec (.dioWrite r) s = .next (refused s (withOp r 0x3010)))) ∧
      (hasRight s r.part 0x3011 = true → ∃ t, exec (.dioSafeSet r) s = .next t ∧
        t.field = { s.field with safePend := s.field.safePend ++ [(withOp r 0x3011, BitVec.ofNat 24 (rq r 16 3), clampN 1 1000 (rq r 20 2))] } ∧
        SameBut (among [.field, .host]) s t) ∧
      (hasRight s r.part 0x3020 = true → pwmConfigBad s r = none →
        (fieldCfgOf s (withOp r 0x3020)).2.2 = false → ∃ t fields, exec (.pwmConfig r) s = .next t ∧
          t.field = { s.field with cfgPend := s.field.cfgPend ++ [(withOp r 0x3020, (fieldCfgOf s (withOp r 0x3020)).1, fields)] } ∧
          SameBut (among [.field, .host]) s t) ∧
      (hasRight s r.part 0x3030 = true → rq r 16 1 ≤ 7 → rq r 17 1 ≤ 3 → (rq r 17 1 = 2 → rq r 18 1 ≤ 47 ∧ rq r 19 1 ≤ 1) →
        (rq r 17 1 ≤ 2 → stepAxis s (rq r 16 1) = none) → (rq r 17 1 ≤ 1 → (s.stp (rq r 16 1)).unknown = false) →
        (∀ a, stepAxis s (rq r 16 1) = some a → (s.axis a).state = .disabled) →
        stepBusy (s.stp (rq r 16 1)) = false → (s.stp (rq r 16 1)).start = false → (∀ m ∈ s.field.movePend, m.1 ≠ rq r 16 1) →
        ∃ u fields m, exec (.stepMove r) s = .next (ok u (withOp r 0x3030) fields (nextRelease s % 4294967296)) ∧
          u.field = { s.field with movePend := s.field.movePend ++ [(rq r 16 1, up4 (clampN 100 10000 (rq r 32 2)), m)] } ∧
          m.mode = rq r 17 1 ∧ m.target = rqI r 20 ∧ m.refPos = rqI r 36 ∧ SameBut (among [.field, .host]) s u) ∧
      (hasRight s r.part 0x3031 = true → rq r 16 1 ≤ 7 → rq r 17 1 ≤ 1 → stepAxis s (rq r 16 1) = none → ∃ u,
        exec (.stepStop r) s = .next (ok u (withOp r 0x3031)) ∧ u.field.movePend = s.field.movePend.filter (fun x => x.1 != rq r 16 1) ∧
        (stepBusy (s.stp (rq r 16 1)) = false → u.stp (rq r 16 1) = s.stp (rq r 16 1)) ∧
        (stepBusy (s.stp (rq r 16 1)) = true → (s.stp (rq r 16 1)).start = true →
          u.stp (rq r 16 1) = { s.stp (rq r 16 1) with state := .idle, start := false }) ∧
        (stepBusy (s.stp (rq r 16 1)) = true → (s.stp (rq r 16 1)).start = false →
          (rq r 17 1 = 0 → (u.stp (rq r 16 1)).state = .idle ∧ (u.stp (rq r 16 1)).unknown = true ∧ (u.stp (rq r 16 1)).rate = 0) ∧
          (rq r 17 1 = 1 → u.stp (rq r 16 1) = { s.stp (rq r 16 1) with state := .decelerating })) ∧
        (∀ k, k ≠ rq r 16 1 → u.stp k = s.stp k) ∧ SameBut (among [.field, .cairn, .ctr]) s u)) ∧
    (s.field.on = true →
      (∀ raw, ∃ t, exec (.diSample raw) s = .next t ∧ (∀ n, n < 48 → t.di n = diStep (s.di n) (raw.getLsbD n)) ∧
        SameBut (among [.field, .cairn, .ctr]) s t) ∧
      (∀ n, n < 24 → s.field.overload.getLsbD n = false → ∃ t, exec (.doOverload n) s = .next t ∧ t.field.overload.getLsbD n = true ∧
        t.field.doOut.getLsbD n = false ∧ t.field.zeroed.getLsbD n = false ∧ SameBut (among [.field, .cairn, .ctr]) s t) ∧
      (s.field.silent = false → ∃ t, exec .doSilence s = .next t ∧ t.field = { s.field with silent := true, wasSilent := true, doOut := s.field.pattern &&& ~~~ s.field.overload } ∧
        CountsOne (cField 1) s t ∧ SameBut (among [.field, .ctr]) s t) ∧
      (∀ n code atInstant, n < 16 → ∃ t, exec (.aiConversion n code atInstant) s = .next t ∧
        (t.ai n).code = (if atInstant = true ∧ frontFailed s (2 + n) = false then clampI (-32768) 32767 code else (s.ai n).code) ∧
        (t.ai n).hist = (clampI (-32768) 32767 code :: (s.ai n).hist).take (if s.sys.rate = 2 then 64 else 96) ∧
        (t.ai n).bad = (if aiBad (s.ai n).mode (clampI (-32768) 32767 code) = true then min ((s.ai n).bad + 1) 65535 else 0) ∧
        ((s.ai n).fault = false → ((t.ai n).fault = true ↔ 16 ≤ (t.ai n).bad)) ∧
        ((s.ai n).fault = true → ((t.ai n).fault = false ↔ (s.ai n).open_ = false ∧ 1024 ≤ (t.ai n).good)) ∧
        (∀ k, k ≠ n → t.ai k = s.ai k) ∧ SameBut (among [.field, .cairn, .ctr]) s t) ∧
      (∀ n, n < 16 → (s.ai n).mode ≠ 0 → ∃ t, exec (.aiOvercurrent n) s = .next t ∧ t.ai n = { s.ai n with open_ := true, fault := true, good := 0 } ∧
        (∀ k, k ≠ n → t.ai k = s.ai k) ∧ SameBut (among [.field, .cairn, .ctr]) s t) ∧
      (∀ n sum run64, n < 8 → ∃ t, exec (.sdFilterOutput n sum run64) s = .next t ∧
        (t.sd n).v = ((sum : Int) - 2 ^ (3 * (s.sd n).osr) / 2) * 16777216 / 2 ^ (3 * (s.sd n).osr) ∧
        (t.sd n).good = (if run64 = true then 0 else min ((s.sd n).good + 1) 65535) ∧
        ((t.sd n).fault = true ↔ (s.sd n).fault = true ∧ (t.sd n).good < 1024) ∧
        (∀ k, k ≠ n → t.sd k = s.sd k) ∧ SameBut (among [.field]) s t) ∧
      (∀ n vf, n < 8 → ∃ t, exec (.sdOcOutput n vf) s = .next t ∧
        (t.sd n).above = (if (s.sd n).octh ≠ 0 ∧ (s.sd n).octh < iabs vf then min ((s.sd n).above + 1) 255 else 0) ∧
        ((s.sd n).ocn ≤ (t.sd n).above → (s.sd n).ocset < 4 → (t.pwm (s.sd n).ocset).oc = true) ∧
        ((t.sd n).above < (s.sd n).ocn → t.field.pwm = s.field.pwm) ∧ SameBut (among [.field, .cairn, .ctr]) s t) ∧
      (∀ n, n < 8 → ∃ t, exec (.sdStuckLine n) s = .next t ∧ t.sd n = { s.sd n with fault := true, good := 0 } ∧
        (∀ k, k ≠ n → t.sd k = s.sd k) ∧ SameBut (among [.field, .cairn, .ctr]) s t) ∧
      (∀ n a b z, n < 8 → ∃ t, exec (.quadSample n a b z) s = .next t ∧
        (t.qa n).fa = lineStep (s.qa n).flt (s.qa n).fa a ∧ (t.qa n).fb = lineStep (s.qa n).flt (s.qa n).fb b ∧
        (t.qa n).fz = lineStep (s.qa n).flt (s.qa n).fz z ∧
        (((t.qa n).fz.level = true → (s.qa n).fz.level = true) →
          let i := quadIndex (s.qa n).fa.level (s.qa n).fb.level
          let j := quadIndex (t.qa n).fa.level (t.qa n).fb.level
          (j = i → (t.qa n).count = (s.qa n).count ∧ (t.qa n).illegal = (s.qa n).illegal) ∧
          (j = (i + 1) % 4 → (t.qa n).count = wrap32 ((s.qa n).count + if (s.qa n).reverse = true then -1 else 1)) ∧
          (j = (i + 3) % 4 → (t.qa n).count = wrap32 ((s.qa n).count + if (s.qa n).reverse = true then 1 else -1)) ∧
          (j = (i + 2) % 4 → (t.qa n).count = (s.qa n).count ∧ (t.qa n).illegal = ((s.qa n).illegal + 1) % 4294967296)) ∧
        (∀ k, k ≠ n → t.qa k = s.qa k) ∧ SameBut (among [.field, .cairn, .ctr]) s t) ∧
      (∀ n, n < 8 → ∃ t, exec (.quadLineLow n) s = .next t ∧ (t.qa n).fault = true ∧ (t.qa n).lineLow = true ∧
        (∀ k, k ≠ n → t.qa k = s.qa k) ∧ SameBut (among [.field, .cairn, .ctr]) s t) ∧
      (∀ n tp, n < 4 → ∃ t, exec (.pwmPeriod n tp) s = .next t ∧
        (gatesLow s n = true → (t.pwm n).on = false ∧ (t.pwm n).legs = [{}, {}, {}] ∧ (t.pwm n).carry = [0, 0, 0]) ∧
        (gatesLow s n = false → (t.pwm n).on = true) ∧ (∀ k, k ≠ n → t.pwm k = s.pwm k) ∧ SameBut (among [.field, .ctr]) s t)) ∧
    (∀ n, (s.ai n).open_ = true → ∃ t, exec (.aiReconnect n) s = .next t ∧ t.ai n = { s.ai n with open_ := false, good := 0 } ∧
      (∀ k, k ≠ n → t.ai k = s.ai k) ∧ SameBut (among [.field]) s t) ∧
    (∀ n, n < 8 → (s.stp n).start = false →
      (frontFailed s (38 + n) = false → ∃ t, exec (.stepPulse n) s = .next t ∧ (∀ k, k ≠ n → t.stp k = s.stp k) ∧ SameBut (among [.field]) s t ∧
        ((s.stp n).state = .moving ∧ (s.stp n).pos ≠ (s.stp n).move.target ∨ (s.stp n).state = .decelerating →
          (t.stp n).pos = wrap32 ((s.stp n).pos + if (s.stp n).down = true then -1 else 1)) ∧
        ((s.stp n).state = .referencing → (t.stp n).pos = wrap32 ((s.stp n).pos + if (s.stp n).down = true then -1 else 1) ∧
          (t.stp n).searched = (s.stp n).searched + 1) ∧
        ((s.stp n).state = .axisDriven → (s.stp n).due ≠ 0 → stepDriven s n = true → (t.stp n).pos = wrap32 ((s.stp n).pos + isign (s.stp n).due) ∧
          (t.stp n).due = (s.stp n).due - isign (s.stp n).due)) ∧
      ∃ t, exec (.stepRateUpdate n) s = .next t ∧ (∀ k, k ≠ n → t.stp k = s.stp k) ∧ SameBut (among [.field, .cairn, .ctr]) s t ∧
        ((s.stp n).state = .moving → (s.stp n).pos = (s.stp n).move.target → (t.stp n).state = .idle ∧ (t.stp n).rate = 0) ∧
        ((s.stp n).state = .moving → (s.stp n).pos ≠ (s.stp n).move.target →
          (s.stp n).rate * (s.stp n).rate < 2 * (s.stp n).move.acc * ((s.stp n).move.target - (s.stp n).pos).natAbs * 1000000000000 →
          t.stp n = { s.stp n with rate := min ((s.stp n).rate + (s.stp n).move.acc) ((s.stp n).move.vmax * 1000000) }) ∧
        ((s.stp n).state = .decelerating →
          ((s.stp n).rate ≤ (s.stp n).move.acc → (t.stp n).state = .idle ∧ (t.stp n).rate = 0) ∧
          ((s.stp n).move.acc < (s.stp n).rate → t.stp n = { s.stp n with rate := (s.stp n).rate - (s.stp n).move.acc }))) ∧
    (∀ n, (s.stp n).state = .referencing → (s.stp n).start = false → (s.stp n).move.target.natAbs ≤ (s.stp n).searched →
      ∃ t, exec (.stepSearchExhausted n) s = .next t ∧ t.stp n = { s.stp n with state := .decelerating } ∧
        (∀ k, k ≠ n → t.stp k = s.stp k) ∧ SameBut (among [.field, .cairn, .ctr]) s t)

/-- The CAN class and the moments of its channels and objects (12 R351 to R370): configurations and sends wait or arm as the rules say; a frame
received is stored and captured; an attempt ends by success, collision, error or bus-off; the read lock, the drain and the references follow. -/
def Obligations.CanChannelsFollowTheirFrames : Prop :=
  ∀ (r : Request) (s : State),
    (hasRight s r.part 0x3101 = true → rq r 16 1 ≤ 7 → ∃ u fields, exec (.canStatus r) s = .next (ok u (withOp r 0x3101) fields) ∧
      (16, 1, (rq r 16 1 : Int)) ∈ fields ∧ (17, 1, ((s.ch (rq r 16 1)).cfg.mode : Int)) ∈ fields ∧
      (18, 1, (canStateCode (s.ch (rq r 16 1)) : Int)) ∈ fields ∧ (20, 1, ((min (s.ch (rq r 16 1)).tec 255 : Nat) : Int)) ∈ fields ∧
      (21, 1, ((s.ch (rq r 16 1)).rec_ : Int)) ∈ fields ∧ u.ch (rq r 16 1) = { s.ch (rq r 16 1) with woken := false } ∧
      (∀ k, k ≠ rq r 16 1 → u.ch k = s.ch k) ∧ SameBut (among [.can]) s u) ∧
    (hasRight s r.part 0x3102 = true →
      (rq r 16 1 = 0 → rq r 17 1 < 8 → ∃ u fields cont, exec (.canRxRead r) s = .next (ok u (withOp r 0x3102) fields 0 cont) ∧ SameBut (among [.host]) s u) ∧
      (rq r 16 1 = 1 → rq r 17 1 < 128 → ∃ u fields cont, exec (.canRxRead r) s = .next (ok u (withOp r 0x3102) fields 0 cont) ∧
        (32, 8, ((s.obj (rq r 17 1)).entry.time : Int)) ∈ fields ∧
        ((s.obj (rq r 17 1)).locked = true → u.obj (rq r 17 1) = s.obj (rq r 17 1)) ∧
        ((s.obj (rq r 17 1)).locked = false → u.obj (rq r 17 1) =
          { s.obj (rq r 17 1) with new_ := (s.obj (rq r 17 1)).new_ && objOwned s (rq r 17 1), ovr := false }) ∧
        (∀ k, k ≠ rq r 17 1 → u.obj k = s.obj k) ∧ SameBut (among [.host, .can]) s u)) ∧
    (actReady s = true →
      (hasRight s r.part 0x3110 = true → canConfigBad s r = none →
        (canRefused (canPlanned s) (canPendOf r) = true → ∃ u, exec (.canConfig r) s = .next (refused u (withOp r 0x3110)) ∧ SameBut (among [.host]) s u) ∧
        (canRefused (canPlanned s) (canPendOf r) = false → ∃ t fields, exec (.canConfig r) s = .next t ∧
          t.can = { s.can with cfgPend := s.can.cfgPend ++ [(withOp r 0x3110, canPendOf r, fields)] } ∧ SameBut (among [.host, .can]) s t)) ∧
      (∀ w : WakeCfg, hasRight s r.part 0x3130 = true → rq r 16 1 ≤ 7 → rq r 17 1 ≤ 2 →
        w = { wmode := rq r 17 1, wdlc := clampN 0 8 (rq r 18 1), ide := bitAt (rq r 19 1) 0, wid := rq r 20 4 % 536870912,
              wmask := rq r 24 4 % 536870912, dmask := rq r 28 8 } → canRefused (canPlanned s) (.wake (rq r 16 1) w) = false →
        ∃ t fields, exec (.canWakeSet r) s = .next t ∧
          t.can = { s.can with cfgPend := s.can.cfgPend ++ [(withOp r 0x3130, .wake (rq r 16 1) w, fields)] } ∧ SameBut (among [.host, .can]) s t) ∧
      (hasRight s r.part 0x3111 = true → rq r 16 1 ≤ 127 → rq r 20 4 ≤ (if bitAt (rq r 17 1) 5 = true then 0x1FFFFFFF else 0x7FF) →
        (s.obj (rq r 16 1)).cfg.kind = 2 → objOwned s (rq r 16 1) = false → s.can.tx = true →
        (s.ch (s.obj (rq r 16 1)).cfg.chan).cfg.mode = 1 → (s.ch (s.obj (rq r 16 1)).cfg.chan).on = true →
        (s.ch (s.obj (rq r 16 1)).cfg.chan).busOff = false →
        (bitAt (rq r 17 1) 2 = true → (s.ch (s.obj (rq r 16 1)).cfg.chan).cfg.fd = true ∧ bitAt (rq r 17 1) 4 = false) →
        ((s.obj (rq r 16 1)).pend = true → bitAt (rq r 17 1) 0 = true) → ∃ f : CanFrame, f.id = rq r 20 4 ∧ f.ide = bitAt (rq r 17 1) 5 ∧
          ((s.obj (rq r 16 1)).intx = true → ∃ t, exec (.canSend r) s = .next t ∧
            t.obj (rq r 16 1) = { s.obj (rq r 16 1) with next := some (f, some (withOp r 0x3111)) } ∧ SameBut (among [.host, .can]) s t) ∧
          ((s.obj (rq r 16 1)).intx = false → ∃ u, (u.obj (rq r 16 1)).pend = true ∧ (u.obj (rq r 16 1)).entry.frame = f ∧
            (u.obj (rq r 16 1)).intx = false ∧ (∀ k, k ≠ rq r 16 1 → u.obj k = s.obj k) ∧ SameBut (among [.host, .can]) s u ∧
            (bitAt (rq r 17 1) 1 = true → exec (.canSend r) s = .next u ∧ (u.obj (rq r 16 1)).req = some (withOp r 0x3111)) ∧
            (bitAt (rq r 17 1) 1 = false → exec (.canSend r) s = .next (ok u (withOp r 0x3111) [(16, 1, (f.data.length : Int))]) ∧
              (u.obj (rq r 16 1)).req = none))) ∧
      (hasRight s r.part 0x3120 = true → rq r 16 1 ≤ 7 → (s.ch (rq r 16 1)).busOff = true → (s.ch (rq r 16 1)).recovering = false →
        ∃ t, exec (.canBusoffRecover r) s = .next t ∧
          t.ch (rq r 16 1) = { s.ch (rq r 16 1) with recovering := true, recReq := some (withOp r 0x3120) } ∧
          (∀ k, k ≠ rq r 16 1 → t.ch k = s.ch k) ∧ (bitAt (rq r 17 1) 0 = false → t.can.objs = s.can.objs) ∧ SameBut (among [.can]) s t)) ∧
    (∀ n, n < 8 → chListens (s.ch n) = true →
      (∀ f sof, ∃ t, exec (.canFrameRx n f sof) s = .next t ∧ (t.ch n).seq = ((s.ch n).seq + 1) % 4294967296 ∧
        ((s.ch n).ring.length < 4096 → ∃ e, (t.ch n).ring = (s.ch n).ring ++ [e] ∧ e.frame = f ∧ e.time = sof ∧ e.seq = (s.ch n).seq ∧ e.chan = n) ∧
        (4096 ≤ (s.ch n).ring.length → (t.ch n).ring = (s.ch n).ring) ∧
        (t.ch n).rec_ = (if 127 < (s.ch n).rec_ then 127 else (s.ch n).rec_ - 1) ∧ SameBut (among [.can, .cairn, .ctr]) s t) ∧
      (∃ t, exec (.canErrorDetected n false) s = .next t ∧ (t.ch n).rec_ = min 255 ((s.ch n).rec_ + 1) ∧ (t.ch n).tec = min 256 (s.ch n).tec) ∧
      (inTx s n = none → ∃ t, exec (.canErrorDetected n true) s = .next t ∧ (t.ch n).tec = min 256 ((s.ch n).tec + 8)) ∧
      (inTx s n = none → ∃ t, exec (.canBusOff n) s = .next t ∧ (t.ch n).busOff = true ∧ (t.ch n).recovering = false ∧
        (t.ch n).refLast = none ∧ SameBut (among [.can, .cairn, .ctr]) s t)) ∧
    (∀ n, n < 8 → (s.ch n).on = true → (∀ k ∈ objsOf s n 2, (s.obj k).intx = false ∧ (s.obj k).redraw = false) → (s.ch n).waking = false →
      (∀ g, (s.ch n).cfgNext = some g → actReady s = true → ∃ t, exec (.canBusIdle n) s = .next t ∧ (t.ch n).cfg = g ∧ (t.ch n).cfgNext = none) ∧
      (∀ k, (s.ch n).cfgNext = none → chSends s n = true → offered s n = some k → ∃ t, exec (.canBusIdle n) s = .next t ∧
        (t.obj k).intx = true ∧ (∀ j, t.ch j = s.ch j) ∧ SameBut (among [.can]) s t)) ∧
    (∀ n k sof, inTx s n = some k → (s.obj k).next = none →
      (∃ t, exec (.canTxSuccess n sof) s = .next t ∧ (t.obj k).pend = false ∧ (t.obj k).intx = false ∧ (t.obj k).coll = 0 ∧ (t.obj k).req = none ∧
        (t.ch n).tec = (s.ch n).tec - 1 ∧ (t.ch n).seq = ((s.ch n).seq + 1) % 4294967296) ∧
      ∃ t, exec (.canCollision n) s = .next t ∧ (t.obj k).intx = false ∧ (t.obj k).coll = min 15 ((s.obj k).coll + 1) ∧
        ((s.obj k).coll < 2 → (t.obj k).backoff = (s.obj k).backoff) ∧
        (2 ≤ (s.obj k).coll → ∃ b, b < 16 ∧ (t.obj k).backoff = some b)) ∧
    (∀ n, (s.ch n).recovering = true → ∃ t, exec (.canRecoveryDone n) s = .next t ∧
      t.ch n = { s.ch n with busOff := false, recovering := false, recReq := none, tec := 0, rec_ := 0 } ∧ (∀ k, k ≠ n → t.ch k = s.ch k)) ∧
    (∀ n, (s.ch n).asleep = true → (s.ch n).wake.wmode ≠ 0 → s.pow.mode ≠ 1 → ∃ t, exec (.canWake n) s = .next t ∧
      t.ch n = { s.ch n with woken := true, waking := (s.ch n).cfg.mode == 4 } ∧ (∀ k, k ≠ n → t.ch k = s.ch k) ∧ SameBut (among [.can, .cairn, .ctr]) s t) ∧
    (∀ n count, n < 8 → s.can.drain = true → ∃ t, exec (.canDrain n count) s = .next t ∧ (t.ch n).ring = (s.ch n).ring.drop count ∧
      (t.ch n).hist = (((s.ch n).ring.take count).reverse ++ (s.ch n).hist).take 65536 ∧ (∀ k, k ≠ n → t.ch k = s.ch k) ∧ SameBut (among [.can]) s t) ∧
    (∀ n, n < 8 → (s.ch n).ref.enable = true → s.can.tx = true → chListens (s.ch n) = true → ((s.ch n).ref.format = 0 → 2 ≤ s.time.tstate) →
      ∃ t, exec (.canReferenceDue n) s = .next t ∧ ((s.obj (s.ch n).ref.obj).intx = false → (t.obj (s.ch n).ref.obj).pend = true ∧
        (t.obj (s.ch n).ref.obj).entry.frame.id = (s.ch n).ref.id ∧ (t.obj (s.ch n).ref.obj).entry.frame.data = refPayload s n)) ∧
    (∀ k f, (s.obj k).cfg.kind = 2 → ∃ t, exec (.objArm k f) s = .next t ∧
      ((s.obj k).intx = true → t.obj k = { s.obj k with next := some (f, none) }) ∧
      ((s.obj k).intx = false → (t.obj k).pend = true ∧ (t.obj k).entry.frame = f ∧ (t.obj k).req = none) ∧
      (∀ j, j ≠ k → t.obj j = s.obj j) ∧ SameBut (among [.can]) s t) ∧
    (∀ k, (s.obj k).backoff.isSome = true → ∃ t, exec (.canBackoffEnd k) s = .next t ∧ t.obj k = { s.obj k with backoff := none } ∧
      (∀ j, j ≠ k → t.obj j = s.obj j) ∧ SameBut (among [.can]) s t) ∧
    (∀ k, k < 128 →
      (∃ t, exec (.objWord0Read k) s = .next t ∧ t.obj k = { s.obj k with locked := true, lockExp := false } ∧ (∀ j, j ≠ k → t.obj j = s.obj j) ∧
        SameBut (among [.can]) s t) ∧
      ∃ t, exec (.objWord22Read k) s = .next t ∧ (∀ j, j ≠ k → t.obj j = s.obj j) ∧ SameBut (among [.can]) s t ∧
        ((s.obj k).locked = false → t.obj k = { s.obj k with ovr := false, lockExp := false }) ∧
        ((s.obj k).locked = true → (t.obj k).locked = false ∧ (t.obj k).ovr = false ∧ (t.obj k).shadow = none ∧
          ((s.obj k).shadow = none → (t.obj k).new_ = false ∧ (t.obj k).entry = (s.obj k).entry) ∧
          (∀ e, (s.obj k).shadow = some e → (t.obj k).new_ = true ∧ (t.obj k).entry = e))) ∧
    (∀ k, (s.obj k).locked = true → ∃ t, exec (.objLockExpiry k) s = .next t ∧ (t.obj k).locked = false ∧ (t.obj k).lockExp = true ∧
      (t.obj k).shadow = none ∧ (∀ j, j ≠ k → t.obj j = s.obj j) ∧ SameBut (among [.can, .ctr]) s t)

/-- Redundancy (13 R372 to R396): the role requests, the counts of heartbeats and checkpoints, the journal, the speculative and the confirmed
take-over, the planned hand-over and the rejoin change the roles as the rules say. -/
def Obligations.RedundancyFollowsItsMoments : Prop :=
  ∀ (r : Request) (s : State),
    (hasRight s r.part 0x5001 = true → (rq r 16 1 = 0 ∨ (rq r 16 1 ≤ 4 ∧ (witnessedPair s (rq r 16 1)).isSome = true)) →
      ∃ fields, exec (.redStatus r) s = .next (ok s (withOp r 0x5001) fields) ∧
        (tabHas s.red.snap (rq r 16 1) = true → fields = tabGet s.red.snap [] (rq r 16 1))) ∧
    (hasRight s r.part 0x5010 = true → paired s = true →
      (rq r 16 1 = 0 → mayHandOver s = true → ∃ t, exec (.redRoleRequest r) s = .next t ∧ 
        t.red = { s.red with target := some (s.time.cycle + handoverAhead s (rq r 20 4)), request := some (withOp r 0x5010) } ∧
         SameBut (among [.host, .red]) s t) ∧
      (rq r 16 1 = 1 →
        (s.red.role = .standby → ∃ u, exec (.redRoleRequest r) s = .next (ok u (withOp r 0x5010) [(17, 1, 4)]) ∧
          u.red = { s.red with role := .withdrawn, goodCk := 0, speculative := false } ∧ SameBut (among [.red]) s u) ∧
        (s.red.role ≠ .standby → exec (.redRoleRequest r) s = .next (refused s (withOp r 0x5010)))) ∧
      (rq r 16 1 = 2 →
        (s.red.role = .fenced ∨ s.red.role = .withdrawn → ∃ u, exec (.redRoleRequest r) s = .next (ok u (withOp r 0x5010) [(17, 1, (roleCode u.red.role : Int))]) ∧
          (u.red.role = .standby ∨ u.red.role = .undecided) ∧ u.red.failed = false ∧ (u.red.role = .standby → u.red.joining = true ∧ u.red.goodCk = 0) ∧
          SameBut (among [.red, .can]) s u) ∧
        (s.red.role ≠ .fenced → s.red.role ≠ .withdrawn → exec (.redRoleRequest r) s = .next (refused s (withOp r 0x5010)))) ∧
      (rq r 16 1 = 3 → (s.red.role = .standby ∨ s.red.role = .fenced ∨ s.red.role = .withdrawn) →
        (partnerSilent s = true → ∃ u, exec (.redRoleRequest r) s = .next (ok u (withOp r 0x5010) [(17, 1, 1)]) ∧ u.red.role = .active ∧ u.red.failed = false) ∧
        (partnerSilent s = false → exec (.redRoleRequest r) s = .next (refused s (withOp r 0x5010))))) ∧
    (paired s = true → ∃ t, exec (.heartbeatMiss .partner) s = .next t ∧ t.red.missPartner = s.red.missPartner + 1 ∧ t.red.role = s.red.role ∧
      (s.red.role = .standby → s.red.missPartner = 0 → s.red.checkpoint.isSome = true → t.red.speculative = true ∧ t.red.replayed = false ∧
        s.red.goodWin.getD s.red.ckWin ≤ t.red.lastWindow ∧ t.red.lastWindow ≤ s.red.goodWin.getD s.red.ckWin + 32) ∧
      (s.red.role ≠ .standby → t.red.speculative = s.red.speculative) ∧ SameBut (among [.red, .ctr, .cairn]) s t) ∧
    (paired s = true → s.sys.manifest.witness ≠ 0 → ∃ t, exec (.heartbeatMiss .witness) s = .next t ∧
      t.red = { s.red with missWitness := s.red.missWitness + 1 } ∧ SameBut (among [.red, .ctr, .cairn]) s t) ∧
    (∀ k, (witnessedPair s k).isSome = true →
      (∃ t, exec (.heartbeatMiss (.pairActive k)) s = .next t ∧ t.red.missPairs = tabSet s.red.missPairs (2 * k) (tabGet s.red.missPairs 0 (2 * k) + 1) ∧
        (tabGet s.red.missPairs 0 (2 * k) = 0 → t.red.declared = s.red.declared) ∧ SameBut (among [.red, .ctr, .cairn]) s t) ∧
      ∃ t, exec (.heartbeatMiss (.pairStandby k)) s = .next t ∧ t.red = { s.red with missPairs := tabMod s.red.missPairs 0 (2 * k + 1) (· + 1) } ∧
        SameBut (among [.red]) s t) ∧
    (∀ h : Heartbeat, (h.crcOk = false → exec (.heartbeatRx h) s = .next s) ∧
      (h.crcOk = true → paired s = true → h.member = s.sys.manifest.partner → ∃ t, exec (.heartbeatRx h) s = .next t ∧ t.red.partnerHb = some h ∧
        t.red.missPartner = 0 ∧ t.red.partnerSeen = some s.time.cycle ∧ SameBut (among [.red, .can]) s t ∧
        (s.red.role = .undecided → h.role = 1 → t.red.role = .standby ∧ t.red.joining = true) ∧ (s.red.role ≠ .undecided → t.red.role = s.red.role)) ∧
      (h.crcOk = true → paired s = true → h.member = s.sys.manifest.witness → s.sys.manifest.witness ≠ s.sys.manifest.partner →
        ∃ t, exec (.heartbeatRx h) s = .next t ∧ t.red.witnessHb = some h ∧ t.red.missWitness = 0 ∧ t.red.role = s.red.role ∧
          (h.decl = 0 → t.red.confirmed = s.red.confirmed ∧ t.red.fenceDue = s.red.fenceDue) ∧
          (h.decl ≠ 0 → h.decl = s.sys.manifest.member → s.red.role = .active → s.red.fenceDue = none → t.red.fenceDue = some 2) ∧
          (h.decl ≠ 0 → h.decl ≠ s.sys.manifest.member → h.decl = s.sys.manifest.partner → s.red.role = .standby → s.red.partnerFrame = none →
            t.red.confirmed = true))) ∧
    (∀ c, (s.red.role = .active → s.red.fenceDue = none → ∃ t, exec (.failedSet c) s = .next t ∧ t.red = { s.red with failed := true, fenceDue := some 1 } ∧
        SameBut (among [.red, .ctr]) s t) ∧
      (s.red.role ≠ .active → ∃ t, exec (.failedSet c) s = .next t ∧ SameBut (among [.ctr]) s t)) ∧
    (s.red.role = .standby → s.red.speculative = true →
      (∃ t, exec .replayComplete s = .next t ∧ t.red = { s.red with replayed := true } ∧ SameBut (among [.red]) s t) ∧
      (s.red.replayed = true → s.red.confirmed = true → ∃ t, exec .takeoverCycle s = .next t ∧ t.red = { s.red with
        role := .takingOver, speculative := false, replayed := false, confirmed := false, goodCk := 0, target := none,
        switchovers := satAdd max32 s.red.switchovers 1, swCycle := s.time.cycle, lastGap := s.time.cycle - s.red.lastWindow })) ∧
    (∀ k a b, pairMembers s k = some (a, b) → tabGet s.red.declared 0 k ≠ 0 → ∃ t, exec (.heartbeatPathFault k) s = .next t ∧
      t.red = { s.red with pathSecs := tabSet s.red.pathSecs k (tabGet s.red.pathSecs 0 k + 1) } ∧ SameBut (among [.red, .ctr, .cairn]) s t) ∧
    (s.red.role = .active → s.time.cycle % 32 = 0 ∨ s.red.target = some (s.time.cycle + 2) → ∃ t, exec .checkpointTake s = .next t ∧
      t.red = { s.red with ckWin := s.time.cycle, ckOut := some (checkpointOf s) } ∧ SameBut (among [.red]) s t) ∧
    (∀ c, s.red.role = .standby → s.red.joining = false → c.window % 32 = 0 →
      (ckFault s c = 0 → ∃ t, exec (.checkpointRx c) s = .next t ∧
        t.red = { s.red with goodCk := satAdd max32 s.red.goodCk 1, inelig := 0, ckWin := c.window, goodWin := some c.window, checkpoint := some c, exchLost := false } ∧
         SameBut (among [.red, .pow, .dbg, .ctr, .cairn]) s t) ∧
      (ckFault s c ≠ 0 → ∃ t, exec (.checkpointRx c) s = .next t ∧ 
        t.red = { s.red with goodCk := 0, inelig := ckFault s c, badCk := satAdd max32 s.red.badCk 1, goodWin := none, exchLost := false } ∧
         SameBut (among [.red, .ctr, .cairn]) s t)) ∧
    (∀ q c, s.red.role = .standby → s.red.journal.contains q = false → s.red.jseq < q → ∃ t, exec (.journalEntryRx q c) s = .next t ∧
      t.red.jseq = advanceJseq (q :: s.red.journal) (q :: s.red.journal).length s.red.jseq ∧ t.red.role = .standby ∧
      (q = s.red.jseq + 1 → s.red.journal = [] → t.red.jseq = q ∧ t.red.journal = [])) ∧
    (s.red.target = some s.time.cycle →
      (s.red.role = .active → ∃ t, exec .handoverTarget s = .next t ∧ t.red.role = .standby ∧ t.red.target = none ∧ t.red.request = none) ∧
      (s.red.role = .standby → s.red.missPartner = 0 → ∃ t, exec .handoverTarget s = .next t ∧ t.red.role = .active ∧ t.red.target = none ∧
        t.red.goodCk = 0) ∧
      (s.red.role = .standby → s.red.missPartner ≠ 0 → exec .handoverTarget s = .next (s.onRed fun d => { d with target := none }))) ∧
    (s.red.role = .standby → s.red.joining = true → ∃ t, exec .rejoinCopyDone s = .next t ∧ t.red.joining = false ∧ t.red.goodCk = 0 ∧
      t.red.goodWin = none ∧ t.red.journal = [] ∧ SameBut (among [.red]) s t)

/-- Between modules (14 R397 to R421, R549): link measurements, records not meant for the module, bulk frames, the time sources and the master,
the leap-second table, and the zone records that fail to come. -/
def Obligations.TimeAndZonesFollowTheirRecords : Prop :=
  ∀ s : State,
    (∀ link member m recs, link < 2 → (s.link link).up = true →
      ((∀ x ∈ recs, (x.dest ≠ 0xFFFF ∧ x.dest ≠ s.sys.manifest.member) ∨ ∃ n, x.body = .unknown n) →
        ∃ t, exec (.sideRecordFrameRx link member m true recs) s = .next t ∧ t.link link = { s.link link with m := m } ∧
          (∀ k, k ≠ link → t.link k = s.link k) ∧ SameBut (among [.links]) s t) ∧
      (∀ v, ∃ t, exec (.sideRecordFrameRx link member m true [{ dest := 0xFFFF, body := .linkTime v }]) s = .next t ∧
        t.link link = { s.link link with m := m, valid := true, phase2 := v - m, delay2 := v + m } ∧ (∀ k, k ≠ link → t.link k = s.link k) ∧
        SameBut (among [.links]) s t) ∧
      exec (.sideRecordFrameRx link member m false recs) s = .next s) ∧
    (∀ link kind, link < 2 → (s.link link).up = true → ∃ t, exec (.bulkFrameRx link kind) s = .next t ∧ t.link link = { s.link link with
        bulk := tabMod (s.link link).bulk 0 (match kind with | .checkpoint => 0 | .journal => 1 | .configCopy => 2) (· + 1) } ∧
      (∀ k, k ≠ link → t.link k = s.link k) ∧ SameBut (among [.links]) s t) ∧
    (∀ ring member, (s.ring ring).cfg.mode = 1 → ringLive (s.ring ring) = true →
      (∀ h, exec (.trunkSlotRx ring member [{ dest := s.sys.manifest.member, body := .heartbeat h }]) s = exec (.heartbeatRx h) s ∧
        (h.crcOk = true → paired s = true → h.member = s.sys.manifest.partner →
          ∃ t, exec (.trunkSlotRx ring member [{ dest := s.sys.manifest.member, body := .heartbeat h }]) s = .next t ∧
            t.red.partnerHb = some h ∧ t.red.missPartner = 0 ∧ t.red.partnerSeen = some s.time.cycle ∧ SameBut (among [.red, .can]) s t)) ∧
      (∀ z p l (e : ZoneDownEntry), zoneShaftOf s member z = some p → zoneOpen s (.ring ring) member = true →
        ∃ t, exec (.trunkSlotRx ring member [{ dest := s.sys.manifest.member, body := .zoneDown z 0 l [e] }]) s = .next t ∧
          (t.axis e.axis).shareNext = { force := e.force, angle := e.angle.toNat, pos := e.tabPos, vel := e.vel } ∧
          (∀ k, k ≠ e.axis → t.axis k = s.axis k) ∧ tabGet t.multi.named [] p = [e.axis] ∧
          tabGet t.multi.wasNamed [] p = tabGet s.multi.named [] p ∧ SameBut (among [.multi, .loop]) s t) ∧
      (∀ z p l e, zoneShaftOf s member z = some p → s.time.tstate < 2 →
        exec (.trunkSlotRx ring member [{ dest := s.sys.manifest.member, body := .zoneDown z 0 l e }]) s = .next (bumpPath s (.ring ring) 0)) ∧
      ∀ recs, (∀ x ∈ recs, (x.dest ≠ 0xFFFF ∧ x.dest ≠ s.sys.manifest.member) ∨ ∃ n, x.body = .unknown n) →
        exec (.trunkSlotRx ring member recs) s = .next s) ∧
    (∀ p : PtpMsg, (s.time.isMaster = false → exec (.ptpMessage p) s = .next s) ∧
      (s.time.isMaster = true → ∃ t, exec (.ptpMessage p) s = .next t ∧ t.time.ptp = true ∧ t.time.tstate = 3 ∧ t.time.offset = p.offsetNs ∧
        (p.utcValid = false → t.time.leaps = s.time.leaps) ∧
        (p.utcValid = true → p.leap = none → p.utcOff = s.time.utcOff → t.time.leaps = s.time.leaps) ∧
        (p.utcValid = true → p.leap = none → p.utcOff ≠ s.time.utcOff → s.time.leaps.contains { value := p.utcOff, fromNs := s.time.now } = false →
          t.time.leaps = ({ value := p.utcOff, fromNs := s.time.now } :: s.time.leaps).take 64) ∧
        SameBut (among [.time, .ctr, .cairn]) s t)) ∧
    (s.time.isMaster = true → s.time.ptp = true → ∃ t, exec .ptpUnavailable s = .next t ∧ t.time = { s.time with ptp := false, tstate := 4, err := 0 } ∧
      SameBut (among [.time, .ctr, .cairn]) s t) ∧
    (s.time.src ≠ .none → s.time.src ≠ .self → (∀ h ∈ s.time.heard, h.src = s.time.src ∧ h.member = s.time.srcMember) →
      (s.sys.manifest.master ≠ s.sys.manifest.member → ∃ t, exec .timeSourceLoss s = .next t ∧ t.time.src = .none ∧ t.time.tstate = 0 ∧
        t.time.depth = 0xFF ∧ t.time.cycle = s.time.cycle ∧ t.time.now = s.time.now ∧ SameBut (among [.time, .ctr, .cairn]) s t) ∧
      (s.sys.manifest.master = s.sys.manifest.member → ∃ t, exec .timeSourceLoss s = .next t ∧ t.time.src = .self ∧ t.time.isMaster = true ∧
        t.time.tstate = (if s.time.ptp = true then 3 else 4) ∧ SameBut (among [.time, .ctr, .cairn]) s t)) ∧
    (s.sys.manifest.backup ≠ 0 → s.sys.manifest.backup = s.sys.manifest.member → s.time.isMaster = false → ∃ t, exec .backupMasterTakeover s = .next t ∧
      t.time.isMaster = true ∧ t.time.src = .self ∧ t.time.depth = 0 ∧ t.time.master = s.sys.manifest.member ∧
      t.time.tstate = (if s.time.ptp = true then 3 else 4) ∧ t.time.cycle = s.time.cycle ∧ SameBut (among [.time, .ctr, .cairn]) s t) ∧
    (∀ a, (s.axis a).state ≠ .unloaded → dRef (s.axis a).desc = 1 → 0x40 ≤ dChan (s.axis a).desc → ∃ t, exec (.zoneDownMissing a) s = .next t ∧
      tabGet t.multi.downMiss 0 a = tabGet s.multi.downMiss 0 a + 1 ∧ tabGet t.multi.upFlag false (dChan (s.axis a).desc - 0x40) = true ∧
      (tabGet s.multi.downMiss 0 a < 2 → t.axis a = s.axis a) ∧
      (2 ≤ tabGet s.multi.downMiss 0 a → (t.axis a).shareNext = { (s.axis a).shareNext with force := 0 }) ∧
      (∀ k, k ≠ a → t.axis k = s.axis k) ∧ SameBut (among [.multi, .loop]) s t) ∧
    (∀ h p, p < 8 → tabHas s.sys.manifest.zonePartners (8 * h + p) = true → ∃ t, exec (.zoneUpMissing h p) s = .next t ∧
      (tabGet t.multi.zoneUp {} (8 * h + p)).missing = true ∧ 2 ≤ (tabGet t.multi.zoneUp {} (8 * h + p)).bad ∧
      (∀ k, k ≠ 8 * h + p → tabGet t.multi.zoneUp {} k = tabGet s.multi.zoneUp {} k) ∧ SameBut (among [.multi]) s t) ∧
    (∀ link, link < 2 → (s.link link).up = true → ∃ t, exec (.sideLinkDown link) s = .next t ∧ t.link link = { bulk := (s.link link).bulk } ∧
      (∀ k, k ≠ link → t.link k = s.link k) ∧ (s.time.src ≠ .side link → CountsOne (cSide link 6) s t ∧
        t.time = { s.time with heard := s.time.heard.filter fun h => h.src != .side link }) ∧
      SameBut (among [.links, .time, .ctr, .cairn]) s t)

/-- Power (16 R438 to R456): the level requests and their rails, the islands, the stages of the entry into S3 with their abort points, the wake
events and the return. -/
def Obligations.PowerLevelsAndSleepFollowTheirStages : Prop :=
  ∀ (r : Request) (s : State),
    (hasRight s r.part 0x6001 = true → exec (.powerStatus r) s = .next (ok s (withOp r 0x6001)
      ((List.range 23).map fun i => (16 + 4 * i, 4, ((powerWord s (0x4000 + 4 * i) : Nat) : Int))) 0 1)) ∧
    (hasRight s r.part 0x6010 = true → rq r 16 1 ≠ 0 → rq r 17 1 ≤ 3 →
      (s.pow.change.isSome = true → ∃ t, exec (.powerLevelRequest r) s = .next t ∧ t.pow = { s.pow with levelQ := s.pow.levelQ ++ [withOp r 0x6010] } ∧
        SameBut (among [.pow]) s t) ∧
      (s.pow.change = none → s.red.role = .standby → ∃ u more, exec (.powerLevelRequest r) s = .next (refused u (withOp r 0x6010) 0 ((17, 1, 7) :: more)) ∧
        u.pow.level = s.pow.level ∧ u.pow.lastRef = 7 ∧ SameBut (among [.pow, .ctr, .cairn]) s u) ∧
      (s.pow.change = none → s.red.role ≠ .standby → (∀ b ∈ named (BitVec.ofNat 8 (rq r 16 1)), levelRefuser s (rq r 17 1) b = none) →
        ((∀ b ∈ named (BitVec.ofNat 8 (rq r 16 1)), levelOf s b = rq r 17 1) → exec (.powerLevelRequest r) s =
          .next (ok s (withOp r 0x6010) [(20, 2, (levelBits s : Int))] (s.time.cycle % 4294967296))) ∧
        (∀ b ∈ named (BitVec.ofNat 8 (rq r 16 1)), levelOf s b ≠ rq r 17 1 → ∃ t c, exec (.powerLevelRequest r) s = .next t ∧ t.pow.change = some c ∧
          c.req = withOp r 0x6010 ∧ c.level = rq r 17 1 ∧ c.changed = false ∧ c.awaiting = c.raised ∧ t.pow.level = s.pow.level ∧ SameBut (among [.pow]) s t))) ∧
    (hasRight s r.part 0x6011 = true →
      (rq r 16 1 ≤ 1 → rq r 17 1 ≤ 7 → rq r 18 1 ≤ 2 → ∀ i, i = (if rq r 16 1 = 0 then rq r 17 1 else 8) →
        (tabGet s.pow.sleep 0 i = rq r 18 1 → exec (.powerSleepRequest r) s =
          .next (ok s (withOp r 0x6011) [(16, 1, (rq r 18 1 : Int))] (s.time.cycle % 4294967296))) ∧
        (tabGet s.pow.sleep 0 i ≠ rq r 18 1 → (i < 8 → basketHalted s i = false) → (rq r 18 1 = 0 ∨ maySleep s i = true) →
          ∃ t, exec (.powerSleepRequest r) s = .next t ∧ t.pow = { s.pow with islands := s.pow.islands ++ [(withOp r 0x6011, i, rq r 18 1)] } ∧
            SameBut (among [.pow]) s t)) ∧
      (rq r 16 1 = 2 → rq r 18 1 = 3 → s.pow.mode = 0 →
        (s3Refuser s (bitAt (rq r 19 1) 0) = none → ∃ t, exec (.powerSleepRequest r) s = .next t ∧ t.pow = { s.pow with
          mode := 1, stage := 1, flags := BitVec.ofNat 8 (rq r 19 1), latched := none, asleep := false }) ∧
        (∀ k, s3Refuser s (bitAt (rq r 19 1) 0) = some k → ∃ u, exec (.powerSleepRequest r) s = .next (refused u (withOp r 0x6011) 0 [(17, 1, (k : Int))]) ∧
          u.pow.mode = 0 ∧ u.pow.lastRef = k ∧ SameBut (among [.pow, .ctr, .cairn]) s u))) ∧
    (∀ c b, s.pow.change = some c → c.awaiting.getLsbD b = true →
      (¬ (c.changed = true ∧ c.awaiting &&& ~~~ BitVec.ofNat 8 (2 ^ b) = 0) → ∃ t, exec (.pmbusAck b) s = .next t ∧
        t.pow = { s.pow with change := some { c with awaiting := c.awaiting &&& ~~~ BitVec.ofNat 8 (2 ^ b) } } ∧ SameBut (among [.pow]) s t) ∧
      (c.changed = true → c.awaiting &&& ~~~ BitVec.ofNat 8 (2 ^ b) = 0 → s.pow.levelQ = [] → ∃ t, exec (.pmbusAck b) s = .next t ∧
        t.pow = { s.pow with change := none } ∧ SameBut (among [.pow, .host, .ctr]) s t) ∧
      (s.pow.mode = 0 → c.changed = false → s.pow.levelQ = [] → b < 8 → ∃ t, exec (.pmbusTimeout b) s = .next t ∧ t.pow.change = none ∧
        t.pow.level = s.pow.level ∧ t.pow.pmbFault.getLsbD b = true ∧ SameBut (among [.pow, .host, .ctr, .cairn]) s t) ∧
      (s.pow.mode = 0 → c.changed = true → c.again.getLsbD b = false → b < 8 → ∃ t, exec (.pmbusTimeout b) s = .next t ∧
        t.pow.change = some { c with again := c.again ||| BitVec.ofNat 8 (2 ^ b) } ∧ t.pow.pmbFault.getLsbD b = true ∧
        SameBut (among [.pow, .ctr, .cairn]) s t)) ∧
    (∀ b, s.pow.mode = 2 → b < 8 → ∃ t, exec (.pmbusTimeout b) s = .next t ∧ tabGet t.pow.level 0 b = 3 ∧ t.pow.pmbFault.getLsbD b = true ∧
      SameBut (among [.pow, .ctr, .cairn]) s t) ∧
    (s.pow.mode = 1 → s.pow.asleep = false →
      (s.pow.stage = 1 → s.pow.latched = none → s3Refuser s (s.pow.flags.getLsbD 0) = none → ∃ t, exec (.s3StageEnd true) s = .next t ∧
        t.pow = { s.pow with stage := 2 } ∧ t.sys.creel = false ∧ t.sys.ethOn = false ∧ t.supply.storOk = false) ∧
      (s.pow.stage = 2 → s.pow.latched = none → s3Refuser s (s.pow.flags.getLsbD 0) = none → ∀ f, ∃ t, exec (.s3StageEnd f) s = .next t ∧
        t.pow = { s.pow with stage := 3 } ∧ t.safety.asleep = true ∧ (∀ p ∈ t.links, p.2.up = false) ∧
        (∀ p ∈ t.rings, p.2.state ≠ .off → p.2.sleepN = 8)) ∧
      (s.pow.stage = 3 → s.pow.latched = none → ∀ f, ∃ t, exec (.s3StageEnd f) s = .next t ∧
        t.pow = { s.pow with stage := 4, sleep := (List.range 9).map fun i => (i, 2) } ∧ t.time.running = false ∧ t.sys.timeBase = false ∧
        t.sys.pcieUp = false ∧ (∀ p ∈ t.rings, p.2.state = .off ∨ p.2.state = .sleeping)) ∧
      (s.pow.stage = 4 → ∀ f, ∃ t, exec (.s3StageEnd f) s = .next t ∧ t.pow.entries = satAdd max32 s.pow.entries 1 ∧
        (s.pow.latched = none → t.pow.asleep = true ∧ t.pow.mode = 1) ∧ (s.pow.latched.isSome = true → t.pow.mode = 2 ∧ t.pow.stage = 0) ∧
        SameBut (among [.pow, .ctr]) s t) ∧
      (∀ c f, s.pow.latched = some c → 1 ≤ s.pow.stage → s.pow.stage ≤ 3 → ∃ t, exec (.s3StageEnd f) s = .next t ∧ t.pow.mode = 0 ∧ t.pow.stage = 0 ∧
        t.pow.latched = none ∧ t.pow.lastAbort = s.pow.stage ∧ t.pow.lastRef = c ∧ t.pow.aborts = satAdd max32 s.pow.aborts 1)) ∧
    (∀ src k w, s.pow.mode = 1 → (match src with | .ring _ => True | .ethernet p => s.pow.flags.getLsbD (p + 1) = true ∧ p < 2 | .can c => (s.ch c).wake.wmode ≠ 0) →
      (k, w) = (match src with | .ring _ => (1, 0x10) | .ethernet _ => (2, 0x11) | .can _ => (3, 0x12)) → ∃ t, exec (.s3Wake src) s = .next t ∧
        (s.pow.asleep = true → t.pow = { s.pow with mode := 2, stage := 0, asleep := false, wakeSrc := k, latched := none }) ∧
        (s.pow.asleep = false → t.pow = { s.pow with latched := some (s.pow.latched.getD w), wakeSrc := k }) ∧ SameBut (among [.pow, .can]) s t ∧
        (match src with | .can c => t.ch c = { s.ch c with woken := true } ∧ (∀ j, j ≠ c → t.ch j = s.ch j) | _ => t.can = s.can)) ∧
    (s.pow.mode = 2 →
      (exec (.s3RailsUp false) s = .next (ctlReset s 5)) ∧
      (∃ t, exec (.s3RailsUp true) s = .next t ∧ t.time.running = true ∧ t.sys.timeBase = true ∧ t.sys.stage = 2 ∧ t.supply.storOk = true ∧
        t.pow.sleep = (List.range 9).map fun i => (i, 0)) ∧
      ∀ us, s.pow.held = [] → ∃ t, exec (.s3ReturnCreelOpen us) s = .next t ∧ t.pow = { s.pow with mode := 0, returnUs := min us max32 } ∧
        t.sys.stage = 5 ∧ t.sys.creel = true ∧ t.sys.ethOn = true ∧ SameBut (among [.sys, .pow, .ctr, .cairn]) s t)

/-- The recorder (17 R457 to R475, 15 R550): its queries, triggers and cursors; what an event leaving the intake writes; sealing, page spill and
flush; the drives and their wear; the NOR mirror, the trace holds and the configuration stores. -/
def Obligations.RecorderKeepsEventsPagesAndDrives : Prop :=
  ∀ (r : Request) (s : State),
    (hasRight s r.part 0x7001 = true → ∃ fields, exec (.recStatus r) s = .next (ok s (withOp r 0x7001) fields) ∧
      (16, 4, (s.cairn.newest : Int)) ∈ fields ∧ (20, 4, (s.cairn.oldest : Int)) ∈ fields ∧ (24, 4, (s.cairn.spill : Int)) ∈ fields ∧
      (28, 4, (s.cairn.mirror : Int)) ∈ fields ∧ (32, 4, (s.cairn.lost : Int)) ∈ fields) ∧
    (hasRight s r.part 0x7002 = true → rq r 16 1 ≤ 3 → ∃ fields, exec (.storeHealth r) s = .next (ok s (withOp r 0x7002) fields) ∧
      (16, 1, ((s.drive (rq r 16 1)).state : Int)) ∈ fields ∧ (17, 1, ((s.drive (rq r 16 1)).pct : Int)) ∈ fields ∧
      (28, 8, ((s.drive (rq r 16 1)).written : Int)) ∈ fields) ∧
    (hasRight s r.part 0x7010 = true →
      (rq r 16 1 = 0 → 1 ≤ rq r 20 1 → rq r 20 1 ≤ 0x10 → (bitAt (rq r 22 1) 0 = false ∨ alwaysRecorded (rq r 20 1) = false) →
        ∃ u fields, exec (.recTriggerSet r) s = .next (ok u (withOp r 0x7010) fields) ∧
          u.cairn.triggers = (s.cairn.triggers.filter fun x => !(x.source == rq r 20 1 && x.code == rq r 21 1)) ++ [triggerOfReq r] ∧
          SameBut (among [.host, .cairn, .nor]) s u) ∧
      (rq r 16 1 = 0 → 1 ≤ rq r 20 1 → rq r 20 1 ≤ 0x10 → bitAt (rq r 22 1) 0 = true → alwaysRecorded (rq r 20 1) = true →
        ∃ u, exec (.recTriggerSet r) s = .next (refused u (withOp r 0x7010)) ∧ SameBut (among [.host]) s u) ∧
      (rq r 16 1 = 1 → rq r 20 1 ≤ 2 → (rq r 20 1 = 1 → anyWorn s = false) →
        (((readyDrives s).isEmpty = true ∧ rq r 20 1 = 0) ∨ ((readyDrives s).isEmpty = false ∧ drivesMeet s = true)) →
        ∃ t w, exec (.recTriggerSet r) s = .next t ∧ t.cairn = { s.cairn with tracePend := s.cairn.tracePend ++ [(withOp r 0x7010, w)] } ∧
          w.mode = rq r 20 1 ∧ w.dec = clampN 2 256 (rq r 22 2) ∧ SameBut (among [.host, .cairn]) s t)) ∧
    (hasRight s r.part 0x7011 = true → (rq r 16 1 = 0 ∨ (readyDrives s).isEmpty = false) →
      (rq r 16 1 = 0 → rq r 17 1 ≤ 1 → ∃ u fields, exec (.recCursorSet r) s = .next (ok u (withOp r 0x7011) fields) ∧
        u.pstat r.part = { s.pstat r.part with
          cursor := if rq r 17 1 = 0 then rq r 20 4 else ringAfter s (rq r 24 8), winSource := 0 } ∧ SameBut (among [.host]) s u) ∧
      (rq r 16 1 = 1 → rq r 17 1 ≤ 1 → ∃ u fields, exec (.recCursorSet r) s = .next (ok u (withOp r 0x7011) fields) ∧
        u.pstat r.part = { s.pstat r.part with
          winSource := 1, winValid := ((storeSlots s (rq r 17 1) (rq r 20 4) (rq r 24 8)).take 63).length,
          staged := ((storeSlots s (rq r 17 1) (rq r 20 4) (rq r 24 8)).take 63).flatMap slotBytes } ∧ SameBut (among [.host]) s u) ∧
      (rq r 16 1 = 2 → rq r 17 1 = 1 → s.cairn.trace.axes.contains (rq r 18 2) = true → ∃ u fields,
        exec (.recCursorSet r) s = .next (ok u (withOp r 0x7011) fields) ∧ (u.pstat r.part).winSource = 2 ∧ (u.pstat r.part).winValid ≤ 126 ∧
        SameBut (among [.host]) s u)) ∧
    (∀ t, s.cairn.running = false → exec (.recEventIntake t none) s = .next s) ∧
    (∀ t e, s.cairn.running = false → e.source = 3 → e.code = 0 → ∃ u, exec (.recEventIntake t (some e)) s = .next u ∧
      CountsOne (cMem (e.subject % 8)) s u ∧ SameBut (among [.ctr]) s u) ∧
    (∀ t e rest, s.cairn.running = true → s.cairn.intake = e :: rest →
      (e.record = false → ∃ u, exec (.recEventIntake t none) s = .next u ∧ u.cairn = { s.cairn with intake := rest } ∧ SameBut (among [.cairn, .host, .ctr]) s u) ∧
      (e.record = true → e.dropped = false → s.cairn.dropPend = 0 → triggerOf s e.source e.code = none → openHead s = none →
        ∃ u h, exec (.recEventIntake t none) s = .next u ∧ u.cairn.newest = s.cairn.next ∧
          tabGet u.cairn.ring (.ext 0 0 []) (s.cairn.next % 65536) = .head h ∧ h.seq = s.cairn.next ∧ h.time = t / 2 * 2 ∧ h.source = e.source ∧
          h.code = e.code ∧ h.subject = e.subject ∧ h.value = e.value ∧ h.repeats = 1) ∧
      (∀ h, e.record = true → e.dropped = false → s.cairn.dropPend = 0 → triggerOf s e.source e.code = none → openHead s = some h →
        h.source = e.source → h.code = e.code → h.subject = e.subject → t < h.time + 1000000000 →
        ∃ u, exec (.recEventIntake t none) s = .next u ∧ u.cairn.newest = s.cairn.newest ∧ tabGet u.cairn.ring (.ext 0 0 []) (h.seq % 65536) =
          .head { h with repeats := satAdd max32 h.repeats 1, lastValue := e.value, lastDelta := min ((t - h.time) / 1000) max32 })) ∧
    (∀ h, openHead s = some h → ∃ t, exec .recSealTimer s = .next t ∧ tabGet t.cairn.ring (.ext 0 0 []) (h.seq % 65536) = .head { h with isOpen := false } ∧
      t.cairn.unmirrored = s.cairn.unmirrored ++ [{ h with isOpen := false }] ∧
      t.cairn.unspilled = s.cairn.unspilled ++ (if 4 < h.snaps.length then [h.seq, nextSeq h.seq] else [h.seq]) ∧ SameBut (among [.cairn]) s t) ∧
    (∀ d, turnDrive s = some d → nextPage s ≠ [] → ∃ t, exec (.recPageSpill d) s = .next t ∧ t.cairn.page = s.cairn.page + 1 ∧
      t.cairn.unspilled = s.cairn.unspilled.drop 63 ∧ t.cairn.turn = (d + 1) % 4 ∧
      t.drive d = { s.drive d with writing := (s.drive d).writing ++ [(s.cairn.page + 1, nextPage s)] } ∧ (∀ k, k ≠ d → t.drive k = s.drive k) ∧
      SameBut (among [.cairn]) s t) ∧
    (∃ t, exec .nvmeFlushTimer s = .next t ∧ (∀ d, d < 4 → driveReady (s.drive d) = true → (t.drive d).flushing = true) ∧ SameBut (among [.cairn]) s t) ∧
    (∀ d, (s.drive d).flushing = true → ∃ t, exec (.nvmeFlushDone d) s = .next t ∧ t.drive d = { s.drive d with flushing := false, flushSeq := 0 } ∧
      t.cairn.spill = (if (s.drive d).flushSeq = 0 then s.cairn.spill else if s.cairn.spill = 0 then (s.drive d).flushSeq
        else laterSeq s.cairn.spill (s.drive d).flushSeq) ∧ SameBut (among [.cairn]) s t) ∧
    (∀ d us p rest, (s.drive d).writing = p :: rest →
      (∃ t, exec (.nvmeWriteDone d us true) s = .next t ∧ (t.drive d).writing = rest ∧ (t.drive d).pages = p :: (s.drive d).pages ∧
        (t.drive d).unflushed = (s.drive d).unflushed ++ [p] ∧ (t.drive d).retried = false) ∧
      ((s.drive d).state = 2 → (s.drive d).retried = false → ∃ t, exec (.nvmeWriteDone d us false) s = .next t ∧ (t.drive d).retried = true ∧
        (t.drive d).writing = p :: rest ∧ (t.drive d).verifyFail = satAdd max32 (s.drive d).verifyFail 1) ∧
      ((s.drive d).state ≠ 2 → ∃ t, exec (.nvmeWriteDone d us false) s = .next t ∧ (t.drive d).retired = (s.drive d).retired + 1)) ∧
    (∀ d log, driveReady (s.drive d) = true → ∃ t, exec (.smartPoll d log) s = .next t ∧ (t.drive d).pct = min 255 log.pctUsed ∧
      (t.drive d).spare = log.spare ∧ (t.drive d).written = log.unitsWritten * 512000 ∧
      (100 < min 255 log.pctUsed → (t.drive d).state = 2) ∧ (min 255 log.pctUsed ≤ 100 → (t.drive d).state = (s.drive d).state)) ∧
    (∀ d info, s.sys.rootPorts = true → d ≤ 3 → 500000000000 ≤ info.capacity → info.capacity ≤ 16000000000000 →
      ∃ t, exec (.driveAttach d info) s = .next t ∧ driveReady (t.drive d) = true ∧ (t.drive d).capacity = info.capacity ∧ (t.drive d).mbs = info.writeMBs ∧
        (info.headerSerial ≠ some Config.serial → (t.drive d).pages = [] ∧ ∀ c ∈ t.cairn.stored, c.drive ≠ d)) ∧
    (∀ d n, driveReady (s.drive d) = true → ∃ t, exec (.driveFail d n) s = .next t ∧ (t.drive d).state = 3 ∧ (t.drive d).writing = [] ∧
      t.cairn.unspilled = ((s.drive d).writing.flatMap fun p => p.2.map slotSeq) ++ s.cairn.unspilled ∧ (∀ c ∈ t.cairn.stored, c.drive ≠ d)) ∧
    (∀ n, n ≤ 16 → s.cairn.mirrorFail = false → s.cairn.unmirrored ≠ [] → s.cairn.unmirrored.length ≤ 400 → (s.sector s.cairn.sector).used + 4 ≤ 1023 →
      (∃ t, exec (.mirrorProgram n true) s = .next t ∧ t.cairn.unmirrored = s.cairn.unmirrored.drop (min 4 s.cairn.unmirrored.length) ∧
        t.cairn.mirrored = (s.cairn.unmirrored.take (min 4 s.cairn.unmirrored.length)).reverse ++ s.cairn.mirrored ∧ SameBut (among [.cairn]) s t) ∧
      ∃ t, exec (.mirrorProgram n false) s = .next t ∧ (t.sector s.cairn.sector).retired = true ∧ t.cairn.unmirrored = s.cairn.unmirrored) ∧
    (∀ k, ∃ t, exec (.traceHoldExpiry k) s = .next t ∧ t.cairn = { s.cairn with holds := s.cairn.holds.eraseIdx k } ∧ SameBut (among [.cairn]) s t) ∧
    (∀ i rest, s.nor.queue = i :: rest → ∃ t, exec .configStoreDone s = .next t ∧ t.nor = norAfter { s.nor with queue := rest } i ∧
      SameBut (among [.nor, .field, .can]) s t)

/-- Debug access (18 R485 to R500): the nonce and the token, what is denied and refused, the session that opens with its trip, the ways it ends,
the lock-out and the JTAG instructions. -/
def Obligations.DebugSessionsOpenAndEnd : Prop :=
  ∀ (r : Request) (s : State),
    (hasRight s r.part 0x7F01 = true → ∃ fields, exec (.debugStatus r) s = .next (ok s (withOp r 0x7F01) fields) ∧ ∀ i, i < 12 →
      (16 + 4 * i, 4, (((if isHolder s r.part || closedDebugReg (0x5000 + 4 * i) then debugWord s (0x5000 + 4 * i) else 0 : Nat)) : Int)) ∈ fields) ∧
    (∀ a : AuthAsk, hasRight s r.part 0x7F10 = true → a = { purpose := rq r 17 1, level := rq r 18 1, target := rq r 19 1 } →
      rq r 16 1 ≤ 1 → a.purpose ≤ 2 → (a.purpose = 0 → a.level = 1 ∨ a.level = 2) →
      (a.purpose ≠ 0 → 1 ≤ a.target ∧ a.target ≤ (if a.purpose = 1 then 3 else 4)) → rq r 24 1 ≤ 1 →
      (s.dbg.lockout = true → exec (.debugAuth r) s = .next (refused s (withOp r 0x7F10) (min max32 ((s.dbg.lockEnd - s.time.now) / 1000)))) ∧
      (s.dbg.lockout = false → s.pow.mode = 1 → exec (.debugAuth r) s = .next (refused s (withOp r 0x7F10))) ∧
      (s.dbg.lockout = false → s.pow.mode ≠ 1 →
        (rq r 16 1 = 0 → ∃ (u : State) (n : Nat), exec (.debugAuth r) s = .next (ok u (withOp r 0x7F10) [(16, 32, (n : Int))]) ∧ n < 2 ^ 256 ∧
          u.dbg = { s.dbg with nonce := some n } ∧ SameBut (among [.dbg]) s u) ∧
        (rq r 16 1 = 1 → authOk s r a = false → ∃ u, exec (.debugAuth r) s = .next (denied u (withOp r 0x7F10)) ∧ u.dbg.nonce = none ∧
          u.dbg.sigFail = satAdd 65535 s.dbg.sigFail 1 ∧ u.dbg.level = s.dbg.level ∧
          (s.dbg.denied < 4 → u.dbg.denied = s.dbg.denied + 1 ∧ u.dbg.lockout = false) ∧
          (4 ≤ s.dbg.denied → u.dbg.lockout = true ∧ u.dbg.lockEnd = s.time.now + 900000000000) ∧ SameBut (among [.dbg, .cairn, .ctr]) s u) ∧
        (rq r 16 1 = 1 → authOk s r a = true → authConditions s r a = false → ∃ u, exec (.debugAuth r) s = .next (refused u (withOp r 0x7F10)) ∧
          u.dbg = { s.dbg with nonce := none } ∧ SameBut (among [.dbg]) s u) ∧
        (rq r 16 1 = 1 → authOk s r a = true → authConditions s r a = true → a.purpose = 1 → ∃ u,
          exec (.debugAuth r) s = .next (changeLifecycle u (withOp r 0x7F10) a.target) ∧ u.dbg = { s.dbg with nonce := none } ∧ SameBut (among [.dbg]) s u) ∧
        (rq r 16 1 = 1 → authOk s r a = true → authConditions s r a = true → a.purpose ≠ 1 → ∃ u fields,
          exec (.debugAuth r) s = .next (ok u (withOp r 0x7F10) fields) ∧ u.dbg.nonce = none ∧ u.dbg.holder = r.part ∧
          u.dbg.opened = satAdd max32 s.dbg.opened 1 ∧ u.dbg.expire = s.time.now + clampN 60 86400 (rq r 20 4) * 1000000000 ∧
          u.dbg.level = (if a.purpose = 2 then .imgGrant else if a.level = 1 then .observe else .intrusive) ∧
          (u.dbg.level = .intrusive → (s.safety.core.running = true → u.safety.core.modTrip.contains 0x15 = true) ∧
            (s.safety.scarp.running = true → u.safety.scarp.modTrip.contains 0x15 = true)) ∧
          (u.dbg.level ≠ .intrusive → u.safety = s.safety) ∧ SameBut (among [.host, .dbg, .cairn, .ctr, .safety]) s u))) ∧
    (hasRight s r.part 0x7F11 = true →
      (s.dbg.level = .closed → exec (.debugClose r) s = .next (ok s (withOp r 0x7F11))) ∧
      (s.dbg.level ≠ .closed → s.dbg.holder ≠ r.part → exec (.debugClose r) s = .next (denied s (withOp r 0x7F11))) ∧
      (s.dbg.level ≠ .closed → s.dbg.holder = r.part → (s.dbg.level = .intrusive → s.dbg.safetyHalted = false) →
        (s.dbg.reload = 0 → ∃ u, exec (.debugClose r) s = .next (ok u (withOp r 0x7F11)) ∧ u.dbg.level = .closed ∧ u.dbg.holder = 0 ∧ u.dbg.grantKind = 0) ∧
        (s.dbg.reload ≠ 0 → ∃ t, exec (.debugClose r) s = .next t ∧ t.dbg.level = .closed ∧ t.dbg.closing = s.dbg.closing ++ [withOp r 0x7F11]))) ∧
    (s.dbg.level ≠ .closed → (s.dbg.level = .intrusive → s.dbg.safetyHalted = false) → ∃ t, exec .debugSessionExpiry s = .next t ∧
      t.dbg.level = .closed ∧ t.dbg.holder = 0 ∧ t.dbg.grantKind = 0 ∧ t.sys.jtag ≤ 2) ∧
    (∃ t, exec .nonceExpiry s = .next t ∧ t.dbg = { s.dbg with nonce := none } ∧ SameBut (among [.dbg]) s t) ∧
    (∃ t, exec .authLockoutEnd s = .next t ∧ t.dbg = { s.dbg with lockout := false, denied := 0, lockEnd := 0 } ∧ SameBut (among [.dbg]) s t) ∧
    (∀ code, ∃ t, exec (.jtagInstruction code) s = .next t ∧ SameBut (among [.sys]) s t ∧ 
      (code ≤ 2 → t.sys = { s.sys with jtag := code, idcode := if code = 1 then identWord s 0 / 256 else s.sys.idcode }) ∧
      (2 < code → (s.sys.lc = .blank ∨ s.sys.lc = .returned) → s.dbg.level = .intrusive → t.sys = { s.sys with jtag := if code ≤ 5 then code else 0 }) ∧
      (2 < code → ¬ ((s.sys.lc = .blank ∨ s.sys.lc = .returned) ∧ s.dbg.level = .intrusive) → t.sys = { s.sys with jtag := 0 }))

/-- The counter set, the cycle and the command limit (19 R504 to R510, 01 R28 to R32, 14 R405, 02 R49): reads and settings, the bandwidth window,
the instant, the window and the release phase, and a command that is unfinished at its limit. -/
def Obligations.CountersCycleAndLimitsFollowTheirRules : Prop :=
  ∀ (r : Request) (s : State),
    (hasRight s r.part 0x7101 = true → rq r 16 2 ≤ 1023 → rq r 19 1 ≤ 1 →
      ((rq r 19 1 = 1 → (s.part r.part).global = true) → ∃ u fields cont, exec (.ctrRead r) s = .next (ok u (withOp r 0x7101) fields 0 cont) ∧
        (∀ i, i < clampN 1 (min 120 (1024 - rq r 16 2)) (rq r 18 1) →
          (24 + 8 * i, 8, ((ctrWord u r.part (rq r 19 1 == 1) (rq r 16 2 + i) : Nat) : Int)) ∈ fields) ∧ SameBut (among [.host]) s u) ∧
      (rq r 19 1 = 1 → (s.part r.part).global = false → exec (.ctrRead r) s = .next (denied s (withOp r 0x7101)))) ∧
    (hasRight s r.part 0x7110 = true → rq r 16 1 ≤ 35 → rq r 17 1 ≤ 1 → 1 ≤ rq r 18 1 → rq r 18 1 ≤ 9 →
      (32 ≤ rq r 16 1 → 3 ≤ rq r 18 1 → exec (.ctrThresholdSet r) s = .next (denied s (withOp r 0x7110))) ∧
      ((rq r 16 1 < 32 ∧ thrInstance s none (rq r 18 1) (rq r 20 4) = true ∧ (s.part r.part).global = true) ∨
        (32 ≤ rq r 16 1 ∧ rq r 18 1 ≤ 2 ∧ thrInstance s (some r.part) (rq r 18 1) (rq r 20 4) = true) →
        ∃ t, exec (.ctrThresholdSet r) s = .next t ∧ t.ctr.thrPend = s.ctr.thrPend ++ [(withOp r 0x7110, rq r 16 1,
          { enable := rq r 17 1 == 1, source := rq r 18 1, inst := rq r 20 4, level := clampN 0 (thrMax (rq r 18 1)) (rq r 24 4) })] ∧
          SameBut (among [.host, .ctr]) s t)) ∧
    (hasRight s r.part 0x7111 = true → (rq r 16 1 ≤ 16 ∨ rq r 16 1 = 0xFF) →
      ((s.part r.part).global = false → exec (.ctrWindowSet r) s = .next (denied s (withOp r 0x7111))) ∧
      ((s.part r.part).global = true → ∃ t, exec (.ctrWindowSet r) s = .next t ∧ t.ctr.bwPend = s.ctr.bwPend ++
        [(withOp r 0x7111, if rq r 16 1 = 0xFF then List.range 17 else [rq r 16 1], clampN 1 1000000 (rq r 20 4))] ∧ SameBut (among [.host, .ctr]) s t)) ∧
    (∀ p tx rx, p < 17 → ∃ t, exec (.bandwidthWindowEnd p tx rx) s = .next t ∧
      tabGet t.ctr.cnt 0 (cBytes p false) = satAdd max48 (tabGet s.ctr.cnt 0 (cBytes p false)) (((s.port p).txRem + tx) / 1024) ∧
      tabGet t.ctr.cnt 0 (cBytes p true) = satAdd max48 (tabGet s.ctr.cnt 0 (cBytes p true)) (((s.port p).rxRem + rx) / 1024) ∧
      (t.port p).txWin = min max32 (tx / 64) ∧ (t.port p).rxWin = min max32 (rx / 64) ∧ (t.port p).txRem = ((s.port p).txRem + tx) % 1024 ∧
      (t.port p).rxRem = ((s.port p).rxRem + rx) % 1024 ∧ (t.port p).txPeak = max (s.port p).txPeak (min max32 (tx / 64)) ∧
      (t.port p).rxPeak = max (s.port p).rxPeak (min max32 (rx / 64)) ∧ SameBut (among [.ctr]) s t) ∧
    (s.time.running = true →
      (∀ l, ∃ t, exec (.instant l) s = .next t ∧ t.time.now = s.time.next.getD (s.time.now + cycleNs s.sys.rate) ∧
        t.time.cycle = t.time.now / cycleNs s.sys.rate ∧ t.time.next = none ∧ t.time.released = false ∧ t.supply.syncOut = s.supply.syncOut + 1) ∧
      (∃ t, exec .windowOpen s = .next t ∧ (∀ k, k < 4 → (s.ring k).state ≠ .leading → t.ring k = { s.ring k with
        nodes := (s.ring k).nodes.map fun x => (x.1, { x.2 with stale := true }), copies := [] }) ∧
        (loopReady s = false ∨ originates s = false → t.loop = s.loop ∧ t.doors = s.doors) ∧ SameBut (among [.rings, .ctr, .cairn, .loop, .doors]) s t) ∧
      (s.time.released = false → ∃ t, exec .releasePhase s = .next t ∧ t.time.released = true ∧ t.time.cycle = s.time.cycle)) ∧
    (∀ q tag x, (waitingReqs s).find? (fun r => r.queue == q && r.tag == tag) = some x → ∃ u, exec (.commandTimeout q tag) s = .next (timedOut u x) ∧
      u.host = s.host ∧ u.safety = s.safety ∧ u.time = s.time ∧ u.supply = s.supply) ∧
    (∀ q tag x, (waitingReqs s).find? (fun r => r.queue == q && r.tag == tag) = none →
      ((s.queue q).slots.find? fun x => x.phase == .started && x.req.tag == tag) = some x → exec (.commandTimeout q tag) s = .next (timedOut s { x.req with queue := q }))

/-- 02 R42 (the requests' layout; reserved bytes 3 and 8–15 may hold anything, 02 R44): a request written out entry by entry reads back
as itself (its admission number, the model's own, aside), field by field and byte by byte; payload offsets count from the start of its first entry; a ring or datagram of whole
requests splits into exactly those requests; and an entry whose CONT is above 15 is no whole request of a datagram and one entry of a
ring. -/
def Obligations.RequestEntriesReadBack : Prop :=
  (∀ (r : Request) (b3 : Byte) (b8 : List Byte), Laid r → b8.length = 8 →
    (entriesOf r b3 b8).length = 1 + r.cont ∧ (∀ e ∈ entriesOf r b3 b8, e.length = 64) ∧
    readRequest r.queue r.part r.port r.sport r.src (entriesOf r b3 b8) = { r with serial := 0 } ∧
    (∀ off w, 16 ≤ off → rq r off w = leAt (entriesOf r b3 b8).flatten off w)) ∧
  (∀ (strict : Bool) (l : List (Request × Byte × List Byte)) (k : Nat), (∀ x ∈ l, Laid x.1 ∧ x.2.2.length = 8) → l.length ≤ k →
    splitRequests strict k (l.map fun x => entriesOf x.1 x.2.1 x.2.2).flatten = some (l.map fun x => entriesOf x.1 x.2.1 x.2.2)) ∧
  (∀ (e : List Byte) (rest : List (List Byte)) (k : Nat), 15 < byteAt e 2 →
    splitRequests true (k + 1) (e :: rest) = none ∧
    splitRequests false (k + 1) (e :: rest) = (splitRequests false k rest).map fun l => [e] :: l)
end

