-- ==== Sys2Proof/Laws/Frame.lean ====
section
/-! SUPPORT. Which components an update leaves alone: the lemmas of `SameBut` for the updates of components. -/

namespace Sys2Proof.Machine

open Sys2Proof

variable {x : Comp → Bool} {s0 s t : State} {α β : Type}

/-- Nothing changed changes no component. -/
theorem SameBut.rfl' : SameBut x s s := ⟨rfl, fun c _ => by cases c <;> rfl⟩

/-- Two updates in a row change no more components than each may. -/
theorem SameBut.trans {u : State} (h : SameBut x s t) (g : SameBut x t u) : SameBut x s u := by
  refine ⟨g.1.trans h.1, fun c hc => ?_⟩
  have h1 := h.2 c hc
  have h2 := g.2 c hc
  cases c <;> exact Eq.trans h2 h1

/-- Fewer components named say more. -/
theorem SameBut.mono {y : Comp → Bool} (h : SameBut x s t) (hxy : ∀ c, x c = true → y c = true) : SameBut y s t :=
  ⟨h.1, fun c hc => h.2 c (by
    cases hx : x c with
    | false => rfl
    | true => rw [hxy c hx] at hc; exact absurd hc (by decide))⟩

/-- An update that leaves every component but those of `x` as it is. -/
theorem SameBut.upd (h : SameBut x s0 s) (g : SameBut x s t) : SameBut x s0 t := h.trans g

theorem SameBut.ite {c : Prop} [Decidable c] {a b : State} (h : SameBut x s0 a) (g : SameBut x s0 b) :
    SameBut x s0 (if c then a else b) := by
  split
  · exact h
  · exact g

theorem State.each_frame {l : List α} {f : State → α → State} (h : SameBut x s0 s)
    (hf : ∀ s a, SameBut x s0 s → SameBut x s0 (f s a)) : SameBut x s0 (s.each l f) := by
  unfold State.each
  induction l generalizing s with
  | nil => exact h
  | cons a l ih => exact ih (hf s a h)

theorem foldl_frame {l : List α} {f : State → α → State} (h : SameBut x s0 s)
    (hf : ∀ s a, SameBut x s0 s → SameBut x s0 (f s a)) : SameBut x s0 (l.foldl f s) := State.each_frame h hf

theorem foldl_frame_fst {l : List α} {f : State × β → α → State × β} {p : State × β} (h : SameBut x s0 p.1)
    (hf : ∀ p a, SameBut x s0 p.1 → SameBut x s0 (f p a).1) : SameBut x s0 (l.foldl f p).1 := by
  induction l generalizing p with
  | nil => exact h
  | cons a l ih => exact ih (hf p a h)

theorem foldr_frame {l : List α} {f : α → State → State} (h : SameBut x s0 s)
    (hf : ∀ a s, SameBut x s0 s → SameBut x s0 (f a s)) : SameBut x s0 (l.foldr f s) := by
  induction l with
  | nil => exact h
  | cons a l ih => exact hf a _ ih

theorem draw_frame {n : Nat} {t : State} (e : draw s = (n, t)) (h : SameBut x s0 s) : SameBut x s0 t := by
  cases e
  exact h.trans ⟨rfl, fun c _ => by cases c <;> rfl⟩

theorem draw_frame_proj (h : SameBut x s0 s) : SameBut x s0 (draw s).2 := draw_frame rfl h

/-- A state that may be there, with no component changed but those of `x`. -/
structure Framed (x : Comp → Bool) (s0 : State) (o : Option State) : Prop where
  all : ∀ t, o = some t → SameBut x s0 t

theorem Framed.some (h : SameBut x s0 t) : Framed x s0 (some t) := ⟨fun _ e => by cases e; exact h⟩
theorem Framed.none : Framed x s0 none := ⟨fun _ e => by cases e⟩
theorem Framed.map {f : α → State} {o : Option α} (h : ∀ a, SameBut x s0 (f a)) : Framed x s0 (o.map f) := by
  cases o with
  | none => exact Framed.none
  | some a => exact Framed.some (h a)

/-- An answer that is a next state with the property `P`. -/
inductive Ends (P : State → Prop) : Host.Outcome State Fault Refusal → Prop where
  | next {t : State} (h : P t) : Ends P (.next t)

/-- What an answer of next has. -/
theorem Ends.holds {P : State → Prop} {t : State} (h : Ends P (.next t)) : P t := by
  cases h with
  | next h => exact h

/-- An answer with a property is a next state. -/
theorem Ends.answers {P : State → Prop} {o : Host.Outcome State Fault Refusal} (h : Ends P o) :
    ∃ t, o = .next t ∧ P t := by
  cases h with
  | next h => exact ⟨_, rfl, h⟩

/-- An update, component by component. -/
theorem SameBut.each (h : SameBut x s0 s) (hp : t.pending = s.pending)
    (h_supply : x .supply = true ∨ t.supply = s.supply)
    (h_sys : x .sys = true ∨ t.sys = s.sys)
    (h_pow : x .pow = true ∨ t.pow = s.pow)
    (h_host : x .host = true ∨ t.host = s.host)
    (h_ctr : x .ctr = true ∨ t.ctr = s.ctr)
    (h_dbg : x .dbg = true ∨ t.dbg = s.dbg)
    (h_cairn : x .cairn = true ∨ t.cairn = s.cairn)
    (h_rings : x .rings = true ∨ t.rings = s.rings)
    (h_links : x .links = true ∨ t.links = s.links)
    (h_time : x .time = true ∨ t.time = s.time)
    (h_multi : x .multi = true ∨ t.multi = s.multi)
    (h_red : x .red = true ∨ t.red = s.red)
    (h_loop : x .loop = true ∨ t.loop = s.loop)
    (h_motion : x .motion = true ∨ t.motion = s.motion)
    (h_disp : x .disp = true ∨ t.disp = s.disp)
    (h_doors : x .doors = true ∨ t.doors = s.doors)
    (h_safety : x .safety = true ∨ t.safety = s.safety)
    (h_field : x .field = true ∨ t.field = s.field)
    (h_can : x .can = true ∨ t.can = s.can)
    (h_nor : x .nor = true ∨ t.nor = s.nor) : SameBut x s0 t :=
  h.trans ⟨hp, fun c hc => by
    have hn : x c ≠ true := by rw [hc]; decide
    cases c
    · exact h_supply.resolve_left hn
    · exact h_sys.resolve_left hn
    · exact h_pow.resolve_left hn
    · exact h_host.resolve_left hn
    · exact h_ctr.resolve_left hn
    · exact h_dbg.resolve_left hn
    · exact h_cairn.resolve_left hn
    · exact h_rings.resolve_left hn
    · exact h_links.resolve_left hn
    · exact h_time.resolve_left hn
    · exact h_multi.resolve_left hn
    · exact h_red.resolve_left hn
    · exact h_loop.resolve_left hn
    · exact h_motion.resolve_left hn
    · exact h_disp.resolve_left hn
    · exact h_doors.resolve_left hn
    · exact h_safety.resolve_left hn
    · exact h_field.resolve_left hn
    · exact h_can.resolve_left hn
    · exact h_nor.resolve_left hn⟩

/-- The same, for a state written out. -/
theorem SameBut.literal {p f v_supply v_sys v_pow v_host v_ctr v_dbg v_cairn v_rings v_links v_time v_multi v_red v_loop v_motion v_disp v_doors v_safety v_field v_can v_nor}
    (hp : p = s.pending)
    (h_supply : x .supply = true ∨ v_supply = s.supply)
    (h_sys : x .sys = true ∨ v_sys = s.sys)
    (h_pow : x .pow = true ∨ v_pow = s.pow)
    (h_host : x .host = true ∨ v_host = s.host)
    (h_ctr : x .ctr = true ∨ v_ctr = s.ctr)
    (h_dbg : x .dbg = true ∨ v_dbg = s.dbg)
    (h_cairn : x .cairn = true ∨ v_cairn = s.cairn)
    (h_rings : x .rings = true ∨ v_rings = s.rings)
    (h_links : x .links = true ∨ v_links = s.links)
    (h_time : x .time = true ∨ v_time = s.time)
    (h_multi : x .multi = true ∨ v_multi = s.multi)
    (h_red : x .red = true ∨ v_red = s.red)
    (h_loop : x .loop = true ∨ v_loop = s.loop)
    (h_motion : x .motion = true ∨ v_motion = s.motion)
    (h_disp : x .disp = true ∨ v_disp = s.disp)
    (h_doors : x .doors = true ∨ v_doors = s.doors)
    (h_safety : x .safety = true ∨ v_safety = s.safety)
    (h_field : x .field = true ∨ v_field = s.field)
    (h_can : x .can = true ∨ v_can = s.can)
    (h_nor : x .nor = true ∨ v_nor = s.nor) (h : SameBut x s0 s) :
    SameBut x s0 ⟨p, f, v_supply, v_sys, v_pow, v_host, v_ctr, v_dbg, v_cairn, v_rings, v_links, v_time, v_multi, v_red, v_loop, v_motion, v_disp, v_doors, v_safety, v_field, v_can, v_nor⟩ :=
  h.each hp h_supply h_sys h_pow h_host h_ctr h_dbg h_cairn h_rings h_links h_time h_multi h_red h_loop h_motion h_disp h_doors h_safety h_field h_can h_nor

theorem State.onHost_frame {f : HostSt → HostSt} (h : SameBut x s0 s) (x_host : x .host = true) : SameBut x s0 (s.onHost f) :=
  h.each rfl (.inr rfl) (.inr rfl) (.inr rfl) (.inl x_host) (.inr rfl) (.inr rfl) (.inr rfl) (.inr rfl) (.inr rfl) (.inr rfl) (.inr rfl) (.inr rfl) (.inr rfl) (.inr rfl) (.inr rfl) (.inr rfl) (.inr rfl) (.inr rfl) (.inr rfl) (.inr rfl)

theorem State.onCtr_frame {f : CtrSt → CtrSt} (h : SameBut x s0 s) (x_ctr : x .ctr = true) : SameBut x s0 (s.onCtr f) :=
  h.each rfl (.inr rfl) (.inr rfl) (.inr rfl) (.inr rfl) (.inl x_ctr) (.inr rfl) (.inr rfl) (.inr rfl) (.inr rfl) (.inr rfl) (.inr rfl) (.inr rfl) (.inr rfl) (.inr rfl) (.inr rfl) (.inr rfl) (.inr rfl) (.inr rfl) (.inr rfl) (.inr rfl)

theorem State.onSys_frame {f : SysSt → SysSt} (h : SameBut x s0 s) (x_sys : x .sys = true) : SameBut x s0 (s.onSys f) :=
  h.each rfl (.inr rfl) (.inl x_sys) (.inr rfl) (.inr rfl) (.inr rfl) (.inr rfl) (.inr rfl) (.inr rfl) (.inr rfl) (.inr rfl) (.inr rfl) (.inr rfl) (.inr rfl) (.inr rfl) (.inr rfl) (.inr rfl) (.inr rfl) (.inr rfl) (.inr rfl) (.inr rfl)

theorem State.onSupply_frame {f : SupplySt → SupplySt} (h : SameBut x s0 s) (x_supply : x .supply = true) : SameBut x s0 (s.onSupply f) :=
  h.each rfl (.inl x_supply) (.inr rfl) (.inr rfl) (.inr rfl) (.inr rfl) (.inr rfl) (.inr rfl) (.inr rfl) (.inr rfl) (.inr rfl) (.inr rfl) (.inr rfl) (.inr rfl) (.inr rfl) (.inr rfl) (.inr rfl) (.inr rfl) (.inr rfl) (.inr rfl) (.inr rfl)

theorem State.onPow_frame {f : PowSt → PowSt} (h : SameBut x s0 s) (x_pow : x .pow = true) : SameBut x s0 (s.onPow f) :=
  h.each rfl (.inr rfl) (.inr rfl) (.inl x_pow) (.inr rfl) (.inr rfl) (.inr rfl) (.inr rfl) (.inr rfl) (.inr rfl) (.inr rfl) (.inr rfl) (.inr rfl) (.inr rfl) (.inr rfl) (.inr rfl) (.inr rfl) (.inr rfl) (.inr rfl) (.inr rfl) (.inr rfl)

theorem State.onDbg_frame {f : DbgSt → DbgSt} (h : SameBut x s0 s) (x_dbg : x .dbg = true) : SameBut x s0 (s.onDbg f) :=
  h.each rfl (.inr rfl) (.inr rfl) (.inr rfl) (.inr rfl) (.inr rfl) (.inl x_dbg) (.inr rfl) (.inr rfl) (.inr rfl) (.inr rfl) (.inr rfl) (.inr rfl) (.inr rfl) (.inr rfl) (.inr rfl) (.inr rfl) (.inr rfl) (.inr rfl) (.inr rfl) (.inr rfl)

theorem State.onRec_frame {f : RecSt → RecSt} (h : SameBut x s0 s) (x_cairn : x .cairn = true) : SameBut x s0 (s.onRec f) :=
  h.each rfl (.inr rfl) (.inr rfl) (.inr rfl) (.inr rfl) (.inr rfl) (.inr rfl) (.inl x_cairn) (.inr rfl) (.inr rfl) (.inr rfl) (.inr rfl) (.inr rfl) (.inr rfl) (.inr rfl) (.inr rfl) (.inr rfl) (.inr rfl) (.inr rfl) (.inr rfl) (.inr rfl)

theorem State.onTime_frame {f : TimeSt → TimeSt} (h : SameBut x s0 s) (x_time : x .time = true) : SameBut x s0 (s.onTime f) :=
  h.each rfl (.inr rfl) (.inr rfl) (.inr rfl) (.inr rfl) (.inr rfl) (.inr rfl) (.inr rfl) (.inr rfl) (.inr rfl) (.inl x_time) (.inr rfl) (.inr rfl) (.inr rfl) (.inr rfl) (.inr rfl) (.inr rfl) (.inr rfl) (.inr rfl) (.inr rfl) (.inr rfl)

theorem State.onRed_frame {f : RedSt → RedSt} (h : SameBut x s0 s) (x_red : x .red = true) : SameBut x s0 (s.onRed f) :=
  h.each rfl (.inr rfl) (.inr rfl) (.inr rfl) (.inr rfl) (.inr rfl) (.inr rfl) (.inr rfl) (.inr rfl) (.inr rfl) (.inr rfl) (.inr rfl) (.inl x_red) (.inr rfl) (.inr rfl) (.inr rfl) (.inr rfl) (.inr rfl) (.inr rfl) (.inr rfl) (.inr rfl)

theorem State.onLoop_frame {f : LoopSt → LoopSt} (h : SameBut x s0 s) (x_loop : x .loop = true) : SameBut x s0 (s.onLoop f) :=
  h.each rfl (.inr rfl) (.inr rfl) (.inr rfl) (.inr rfl) (.inr rfl) (.inr rfl) (.inr rfl) (.inr rfl) (.inr rfl) (.inr rfl) (.inr rfl) (.inr rfl) (.inl x_loop) (.inr rfl) (.inr rfl) (.inr rfl) (.inr rfl) (.inr rfl) (.inr rfl) (.inr rfl)

theorem State.onMotion_frame {f : MotionSt → MotionSt} (h : SameBut x s0 s) (x_motion : x .motion = true) : SameBut x s0 (s.onMotion f) :=
  h.each rfl (.inr rfl) (.inr rfl) (.inr rfl) (.inr rfl) (.inr rfl) (.inr rfl) (.inr rfl) (.inr rfl) (.inr rfl) (.inr rfl) (.inr rfl) (.inr rfl) (.inr rfl) (.inl x_motion) (.inr rfl) (.inr rfl) (.inr rfl) (.inr rfl) (.inr rfl) (.inr rfl)

theorem State.onDisp_frame {f : DispSt → DispSt} (h : SameBut x s0 s) (x_disp : x .disp = true) : SameBut x s0 (s.onDisp f) :=
  h.each rfl (.inr rfl) (.inr rfl) (.inr rfl) (.inr rfl) (.inr rfl) (.inr rfl) (.inr rfl) (.inr rfl) (.inr rfl) (.inr rfl) (.inr rfl) (.inr rfl) (.inr rfl) (.inr rfl) (.inl x_disp) (.inr rfl) (.inr rfl) (.inr rfl) (.inr rfl) (.inr rfl)

theorem State.onSafety_frame {f : SafetySt → SafetySt} (h : SameBut x s0 s) (x_safety : x .safety = true) : SameBut x s0 (s.onSafety f) :=
  h.each rfl (.inr rfl) (.inr rfl) (.inr rfl) (.inr rfl) (.inr rfl) (.inr rfl) (.inr rfl) (.inr rfl) (.inr rfl) (.inr rfl) (.inr rfl) (.inr rfl) (.inr rfl) (.inr rfl) (.inr rfl) (.inr rfl) (.inl x_safety) (.inr rfl) (.inr rfl) (.inr rfl)

theorem State.onField_frame {f : FieldSt → FieldSt} (h : SameBut x s0 s) (x_field : x .field = true) : SameBut x s0 (s.onField f) :=
  h.each rfl (.inr rfl) (.inr rfl) (.inr rfl) (.inr rfl) (.inr rfl) (.inr rfl) (.inr rfl) (.inr rfl) (.inr rfl) (.inr rfl) (.inr rfl) (.inr rfl) (.inr rfl) (.inr rfl) (.inr rfl) (.inr rfl) (.inr rfl) (.inl x_field) (.inr rfl) (.inr rfl)

theorem State.onCan_frame {f : CanSt → CanSt} (h : SameBut x s0 s) (x_can : x .can = true) : SameBut x s0 (s.onCan f) :=
  h.each rfl (.inr rfl) (.inr rfl) (.inr rfl) (.inr rfl) (.inr rfl) (.inr rfl) (.inr rfl) (.inr rfl) (.inr rfl) (.inr rfl) (.inr rfl) (.inr rfl) (.inr rfl) (.inr rfl) (.inr rfl) (.inr rfl) (.inr rfl) (.inr rfl) (.inl x_can) (.inr rfl)

theorem State.onMulti_frame {f : MultiSt → MultiSt} (h : SameBut x s0 s) (x_multi : x .multi = true) : SameBut x s0 (s.onMulti f) :=
  h.each rfl (.inr rfl) (.inr rfl) (.inr rfl) (.inr rfl) (.inr rfl) (.inr rfl) (.inr rfl) (.inr rfl) (.inr rfl) (.inr rfl) (.inl x_multi) (.inr rfl) (.inr rfl) (.inr rfl) (.inr rfl) (.inr rfl) (.inr rfl) (.inr rfl) (.inr rfl) (.inr rfl)

end Sys2Proof.Machine
end

