-- ==== Sys2Proof/Laws/FrameOps.lean ====
section
/-! SUPPORT. The components that an operation may change: the shared operations: events, counters, completions, the safety core, the rings, the registers and resets. Each lemma says that its
operation changes no component but those that `x` names. -/

namespace Sys2Proof.Machine

open Sys2Proof

variable {x : Comp → Bool} {s0 : State}

/-! ## Machine/Ops.lean -/

theorem store_frame {s : State} {a2} (hs : SameBut x s0 s) (x_nor : x .nor = true) : SameBut x s0 (store s a2) := by
  unfold store
  repeat' first
    | with_reducible assumption
    | (extract_lets +onlyGivenNames yy; clear_value yy; revert yy; intro y2)
    | with_reducible refine SameBut.literal rfl (.inr rfl) (.inr rfl) (.inr rfl) (.inr rfl) (.inr rfl) (.inr rfl) (.inr rfl) (.inr rfl) (.inr rfl) (.inr rfl) (.inr rfl) (.inr rfl) (.inr rfl) (.inr rfl) (.inr rfl) (.inr rfl) (.inr rfl) (.inr rfl) (.inr rfl) (.inl x_nor) ?_

theorem State.onRing_frame {s : State} {a2} {a3} (hs : SameBut x s0 s) (x_rings : x .rings = true) : SameBut x s0 (State.onRing s a2 a3) := by
  unfold State.onRing
  repeat' first
    | with_reducible assumption
    | with_reducible refine SameBut.literal rfl (.inr rfl) (.inr rfl) (.inr rfl) (.inr rfl) (.inr rfl) (.inr rfl) (.inr rfl) (.inl x_rings) (.inr rfl) (.inr rfl) (.inr rfl) (.inr rfl) (.inr rfl) (.inr rfl) (.inr rfl) (.inr rfl) (.inr rfl) (.inr rfl) (.inr rfl) (.inr rfl) ?_

theorem State.onLink_frame {s : State} {a2} {a3} (hs : SameBut x s0 s) (x_links : x .links = true) : SameBut x s0 (State.onLink s a2 a3) := by
  unfold State.onLink
  repeat' first
    | with_reducible assumption
    | with_reducible refine SameBut.literal rfl (.inr rfl) (.inr rfl) (.inr rfl) (.inr rfl) (.inr rfl) (.inr rfl) (.inr rfl) (.inr rfl) (.inl x_links) (.inr rfl) (.inr rfl) (.inr rfl) (.inr rfl) (.inr rfl) (.inr rfl) (.inr rfl) (.inr rfl) (.inr rfl) (.inr rfl) (.inr rfl) ?_

theorem State.onAxis_frame {s : State} {a2} {a3} (hs : SameBut x s0 s) (x_loop : x .loop = true) : SameBut x s0 (State.onAxis s a2 a3) := by
  unfold State.onAxis
  repeat' first
    | with_reducible assumption
    | with_reducible apply State.onLoop_frame

theorem State.onWeaver_frame {s : State} {a2} {a3} (hs : SameBut x s0 s) (x_loop : x .loop = true) : SameBut x s0 (State.onWeaver s a2 a3) := by
  unfold State.onWeaver
  repeat' first
    | with_reducible assumption
    | with_reducible apply State.onLoop_frame

theorem State.onDoor_frame {s : State} {a2} {a3} (hs : SameBut x s0 s) (x_doors : x .doors = true) : SameBut x s0 (State.onDoor s a2 a3) := by
  unfold State.onDoor
  repeat' first
    | with_reducible assumption
    | with_reducible refine SameBut.literal rfl (.inr rfl) (.inr rfl) (.inr rfl) (.inr rfl) (.inr rfl) (.inr rfl) (.inr rfl) (.inr rfl) (.inr rfl) (.inr rfl) (.inr rfl) (.inr rfl) (.inr rfl) (.inr rfl) (.inr rfl) (.inl x_doors) (.inr rfl) (.inr rfl) (.inr rfl) (.inr rfl) ?_

theorem State.onPstat_frame {s : State} {a2} {a3} (hs : SameBut x s0 s) (x_host : x .host = true) : SameBut x s0 (State.onPstat s a2 a3) := by
  unfold State.onPstat
  repeat' first
    | with_reducible assumption
    | with_reducible apply State.onHost_frame

theorem State.onQueue_frame {s : State} {a2} {a3} (hs : SameBut x s0 s) (x_host : x .host = true) : SameBut x s0 (State.onQueue s a2 a3) := by
  unfold State.onQueue
  repeat' first
    | with_reducible assumption
    | with_reducible apply State.onHost_frame

theorem bump_frame {s : State} {a2} {a3} (hs : SameBut x s0 s) (x_ctr : x .ctr = true) : SameBut x s0 (bump s a2 a3) := by
  unfold bump
  repeat' first
    | with_reducible assumption
    | with_reducible apply State.onCtr_frame

theorem bumpPart_frame {s : State} {a2} {a3} {a4} (hs : SameBut x s0 s) (x_host : x .host = true) : SameBut x s0 (bumpPart s a2 a3 a4) := by
  unfold bumpPart
  repeat' first
    | with_reducible assumption
    | with_reducible apply State.onHost_frame
    | with_reducible apply State.onPstat_frame

theorem raise_frame {s : State} {a2} (hs : SameBut x s0 s) (x_ctr : x .ctr = true) (x_cairn : x .cairn = true) : SameBut x s0 (raise s a2) := by
  unfold raise
  repeat' first
    | with_reducible assumption
    | with_reducible apply bump_frame
    | with_reducible apply State.onRec_frame
    | (extract_lets +onlyGivenNames yy; dsimp -zeta only [yy]; clear yy)
    | with_reducible apply SameBut.ite

theorem codeEvent_frame {s : State} {a2} {a3} {a4} {a5} {a6} (hs : SameBut x s0 s) (x_ctr : x .ctr = true) (x_cairn : x .cairn = true) : SameBut x s0 (codeEvent s a2 a3 a4 a5 a6) := by
  unfold codeEvent
  repeat' first
    | with_reducible assumption
    | with_reducible apply raise_frame

theorem powEvent_frame {s : State} {a2} {a3} {a4} (hs : SameBut x s0 s) (x_ctr : x .ctr = true) (x_cairn : x .cairn = true) : SameBut x s0 (powEvent s a2 a3 a4) := by
  unfold powEvent
  repeat' first
    | with_reducible assumption
    | with_reducible apply raise_frame

theorem haltWoken_frame {s : State} {a2} (hs : SameBut x s0 s) (x_ctr : x .ctr = true) (x_dbg : x .dbg = true) (x_cairn : x .cairn = true) : SameBut x s0 (haltWoken s a2) := by
  unfold haltWoken
  repeat' first
    | with_reducible assumption
    | with_reducible apply State.each_frame
    | with_reducible apply codeEvent_frame
    | with_reducible apply State.onDbg_frame
    | (intro)
    | with_reducible apply SameBut.ite
    | split

theorem setSleep_frame {s : State} {a2} {a3} (hs : SameBut x s0 s) (x_pow : x .pow = true) (x_ctr : x .ctr = true) (x_dbg : x .dbg = true) (x_cairn : x .cairn = true) : SameBut x s0 (setSleep s a2 a3) := by
  unfold setSleep
  repeat' first
    | with_reducible assumption
    | with_reducible apply powEvent_frame
    | with_reducible apply State.onPow_frame
    | with_reducible apply haltWoken_frame
    | (intro)
    | (extract_lets +onlyGivenNames st; have hst : SameBut x s0 st := ?_; clear_value st; revert st; intro st2 hst2)
    | (extract_lets +onlyGivenNames yy; clear_value yy; revert yy; intro y2)
    | (dsimp -zeta only [st]; clear st)
    | with_reducible apply SameBut.ite
    | split

theorem recordOnly_frame {s : State} {a2} {a3} {a4} {a5} (hs : SameBut x s0 s) (x_ctr : x .ctr = true) (x_cairn : x .cairn = true) : SameBut x s0 (recordOnly s a2 a3 a4 a5) := by
  unfold recordOnly
  repeat' first
    | with_reducible assumption
    | with_reducible apply raise_frame

/-! ## Machine/HostOps.lean -/

theorem raiseVector_frame {s : State} {a2} (hs : SameBut x s0 s) (x_host : x .host = true) (x_ctr : x .ctr = true) : SameBut x s0 (raiseVector s a2) := by
  unfold raiseVector
  repeat' first
    | with_reducible assumption
    | with_reducible apply bump_frame
    | with_reducible apply State.onHost_frame
    | (intro)
    | with_reducible apply SameBut.ite
    | split

theorem raiseQueue_frame {s : State} {a2} (hs : SameBut x s0 s) (x_host : x .host = true) (x_ctr : x .ctr = true) : SameBut x s0 (raiseQueue s a2) := by
  unfold raiseQueue
  repeat' first
    | with_reducible assumption
    | with_reducible apply raiseVector_frame
    | with_reducible apply State.onQueue_frame
    | (intro)
    | with_reducible apply SameBut.ite
    | split

theorem sendDatagram_frame {s : State} {a2} {a3} (hs : SameBut x s0 s) (x_host : x .host = true) : SameBut x s0 (sendDatagram s a2 a3) := by
  unfold sendDatagram
  repeat' first
    | with_reducible assumption
    | with_reducible apply State.onQueue_frame
    | with_reducible apply State.onHost_frame
    | (intro)
    | (extract_lets +onlyGivenNames st; have hst : SameBut x s0 st := ?_; clear_value st; revert st; intro st2 hst2)
    | (extract_lets +onlyGivenNames yy; clear_value yy; revert yy; intro y2)
    | (dsimp -zeta only [st]; clear st)
    | with_reducible apply SameBut.ite
    | split

theorem removeQueue_frame {s : State} {a2} (hs : SameBut x s0 s) (x_host : x .host = true) : SameBut x s0 (removeQueue s a2) := by
  unfold removeQueue
  repeat' first
    | with_reducible assumption
    | with_reducible apply State.onHost_frame

theorem whenWritten_frame {s : State} {a2} {a3} (hs : SameBut x s0 s) (x_host : x .host = true) : SameBut x s0 (whenWritten s a2 a3) := by
  unfold whenWritten
  repeat' first
    | with_reducible assumption
    | with_reducible apply State.onQueue_frame
    | (intro)
    | (extract_lets +onlyGivenNames st; have hst : SameBut x s0 st := ?_; clear_value st; revert st; intro st2 hst2)
    | (extract_lets +onlyGivenNames yy; clear_value yy; revert yy; intro y2)
    | (dsimp -zeta only [st]; clear st)
    | with_reducible apply SameBut.ite
    | split

theorem flushQueue_frame {s : State} {a2} (hs : SameBut x s0 s) (x_host : x .host = true) (x_ctr : x .ctr = true) : SameBut x s0 (flushQueue s a2) := by
  unfold flushQueue
  repeat' first
    | with_reducible assumption
    | with_reducible apply removeQueue_frame
    | with_reducible apply State.onQueue_frame
    | with_reducible apply raiseQueue_frame
    | with_reducible apply State.each_frame
    | with_reducible apply sendDatagram_frame
    | with_reducible apply whenWritten_frame
    | (intro)
    | (extract_lets +onlyGivenNames st; have hst : SameBut x s0 st := ?_; clear_value st; revert st; intro st2 hst2)
    | (extract_lets +onlyGivenNames yy; clear_value yy; revert yy; intro y2)
    | (dsimp -zeta only [st]; clear st)
    | with_reducible apply SameBut.ite
    | split

theorem answer_frame {s : State} {a2} {a3} (hs : SameBut x s0 s) (x_host : x .host = true) (x_ctr : x .ctr = true) : SameBut x s0 (answer s a2 a3) := by
  unfold answer
  repeat' first
    | with_reducible assumption
    | with_reducible apply bumpPart_frame
    | with_reducible apply flushQueue_frame
    | with_reducible apply State.onQueue_frame
    | with_reducible apply whenWritten_frame
    | with_reducible apply State.onHost_frame
    | (intro)
    | (extract_lets +onlyGivenNames st; have hst : SameBut x s0 st := ?_; clear_value st; revert st; intro st2 hst2)
    | (extract_lets +onlyGivenNames yy; clear_value yy; revert yy; intro y2)
    | (dsimp -zeta only [st]; clear st)
    | with_reducible apply SameBut.ite
    | split

theorem ok_frame {s : State} {a2} {a3} {a4} {a5} (hs : SameBut x s0 s) (x_host : x .host = true) (x_ctr : x .ctr = true) : SameBut x s0 (ok s a2 a3 a4 a5) := by
  unfold ok
  repeat' first
    | with_reducible assumption
    | with_reducible apply answer_frame

theorem refused_frame {s : State} {a2} {a3} {a4} (hs : SameBut x s0 s) (x_host : x .host = true) (x_ctr : x .ctr = true) : SameBut x s0 (refused s a2 a3 a4) := by
  unfold refused
  repeat' first
    | with_reducible assumption
    | with_reducible apply answer_frame

theorem notReady_frame {s : State} {a2} (hs : SameBut x s0 s) (x_host : x .host = true) (x_ctr : x .ctr = true) : SameBut x s0 (notReady s a2) := by
  unfold notReady
  repeat' first
    | with_reducible assumption
    | with_reducible apply answer_frame

theorem noSuch_frame {s : State} {a2} {a3} (hs : SameBut x s0 s) (x_host : x .host = true) (x_ctr : x .ctr = true) : SameBut x s0 (noSuch s a2 a3) := by
  unfold noSuch
  repeat' first
    | with_reducible assumption
    | with_reducible apply answer_frame

theorem denied_frame {s : State} {a2} (hs : SameBut x s0 s) (x_host : x .host = true) (x_ctr : x .ctr = true) : SameBut x s0 (denied s a2) := by
  unfold denied
  repeat' first
    | with_reducible assumption
    | with_reducible apply answer_frame

theorem timedOut_frame {s : State} {a2} (hs : SameBut x s0 s) (x_host : x .host = true) (x_ctr : x .ctr = true) : SameBut x s0 (timedOut s a2) := by
  unfold timedOut
  repeat' first
    | with_reducible assumption
    | with_reducible apply answer_frame

theorem noteClamps_frame {s : State} {a2} {a3} (hs : SameBut x s0 s) (x_host : x .host = true) : SameBut x s0 (noteClamps s a2 a3) := by
  unfold noteClamps
  repeat' first
    | with_reducible assumption
    | with_reducible apply State.onPstat_frame
    | with_reducible apply bumpPart_frame
    | split

theorem serve_frame {s : State} {a2} {a3} {a4} {a5} {a6} {a7 : Sys2Proof.Request → Sys2Proof.Machine.State → Sys2Proof.Machine.State} (hs : SameBut x s0 s) (ha7 : ∀ b0 b1, SameBut x s0 b1 → SameBut x s0 (a7 b0 b1)) (x_host : x .host = true) (x_ctr : x .ctr = true) : SameBut x s0 (serve s a2 a3 a4 a5 a6 a7) := by
  unfold serve
  repeat' first
    | with_reducible assumption
    | with_reducible apply ha7
    | with_reducible apply denied_frame
    | with_reducible apply notReady_frame
    | with_reducible apply noSuch_frame
    | with_reducible apply noteClamps_frame
    | (extract_lets +onlyGivenNames yy; clear_value yy; revert yy; intro y2)
    | with_reducible apply SameBut.ite
    | split

theorem offerEvent_frame {s : State} {a2} {a3} {a4} (hs : SameBut x s0 s) (x_host : x .host = true) (x_ctr : x .ctr = true) : SameBut x s0 (offerEvent s a2 a3 a4) := by
  unfold offerEvent
  repeat' first
    | with_reducible assumption
    | with_reducible apply bumpPart_frame
    | with_reducible apply State.onQueue_frame
    | with_reducible apply sendDatagram_frame
    | with_reducible apply raiseQueue_frame
    | with_reducible apply bump_frame
    | (intro)
    | (extract_lets +onlyGivenNames st; have hst : SameBut x s0 st := ?_; clear_value st; revert st; intro st2 hst2)
    | (extract_lets +onlyGivenNames yy; clear_value yy; revert yy; intro y2)
    | (dsimp -zeta only [st]; clear st)
    | with_reducible apply SameBut.ite
    | split

theorem postEvent_frame {s : State} {a2} (hs : SameBut x s0 s) (x_host : x .host = true) (x_ctr : x .ctr = true) : SameBut x s0 (postEvent s a2) := by
  unfold postEvent
  repeat' first
    | with_reducible assumption
    | with_reducible apply State.each_frame
    | with_reducible apply offerEvent_frame
    | (intro)
    | split

/-! ## Machine/SafetyOps.lean -/

theorem State.onChan_frame {s : State} {a2} {a3} (hs : SameBut x s0 s) (x_safety : x .safety = true) : SameBut x s0 (State.onChan s a2 a3) := by
  unfold State.onChan
  repeat' first
    | with_reducible assumption
    | with_reducible apply State.onSafety_frame

theorem safetyEvent_frame {s : State} {a2} {a3} {a4} {a5} {a6} (hs : SameBut x s0 s) (x_ctr : x .ctr = true) (x_cairn : x .cairn = true) : SameBut x s0 (safetyEvent s a2 a3 a4 a5 a6) := by
  unfold safetyEvent
  repeat' first
    | with_reducible assumption
    | with_reducible apply raise_frame

theorem latchQuiet_frame {s : State} {a2} {a3} {a4} (hs : SameBut x s0 s) (x_safety : x .safety = true) : SameBut x s0 (latchQuiet s a2 a3 a4) := by
  unfold latchQuiet
  repeat' first
    | with_reducible assumption
    | with_reducible apply State.onSafety_frame
    | with_reducible apply State.onChan_frame
    | (extract_lets +onlyGivenNames yy; clear_value yy; revert yy; intro y2)
    | with_reducible apply SameBut.ite

theorem latchTrip_frame {s : State} {a2} {a3} {a4} {a5} (hs : SameBut x s0 s) (x_ctr : x .ctr = true) (x_cairn : x .cairn = true) (x_safety : x .safety = true) : SameBut x s0 (latchTrip s a2 a3 a4 a5) := by
  unfold latchTrip
  repeat' first
    | with_reducible assumption
    | with_reducible apply safetyEvent_frame
    | with_reducible apply latchQuiet_frame
    | (extract_lets +onlyGivenNames yy; clear_value yy; revert yy; intro y2)
    | with_reducible apply SameBut.ite

theorem tripModule_frame {s : State} {a2} (hs : SameBut x s0 s) (x_ctr : x .ctr = true) (x_cairn : x .cairn = true) (x_safety : x .safety = true) : SameBut x s0 (tripModule s a2) := by
  unfold tripModule
  repeat' first
    | with_reducible assumption
    | with_reducible apply latchQuiet_frame
    | with_reducible apply safetyEvent_frame
    | (extract_lets +onlyGivenNames st; have hst : SameBut x s0 st := ?_; clear_value st; revert st; intro st2 hst2)
    | (extract_lets +onlyGivenNames yy; clear_value yy; revert yy; intro y2)
    | with_reducible apply SameBut.ite

theorem clearScope_frame {s : State} {a2} {a3} {a4} (hs : SameBut x s0 s) (x_ctr : x .ctr = true) (x_cairn : x .cairn = true) (x_rings : x .rings = true) (x_safety : x .safety = true) : SameBut x s0 (clearScope s a2 a3 a4) := by
  unfold clearScope
  repeat' first
    | with_reducible assumption
    | with_reducible apply safetyEvent_frame
    | with_reducible apply State.onChan_frame
    | with_reducible apply State.each_frame
    | with_reducible apply State.onRing_frame
    | (intro)
    | (extract_lets +onlyGivenNames st; have hst : SameBut x s0 st := ?_; clear_value st; revert st; intro st2 hst2)
    | (extract_lets +onlyGivenNames yy; clear_value yy; revert yy; intro y2)
    | with_reducible apply SameBut.ite
    | split

theorem resetEdge_frame {s : State} {a2} {a3} {a4} (hs : SameBut x s0 s) (x_ctr : x .ctr = true) (x_cairn : x .cairn = true) (x_rings : x .rings = true) (x_safety : x .safety = true) : SameBut x s0 (resetEdge s a2 a3 a4) := by
  unfold resetEdge
  repeat' first
    | with_reducible assumption
    | with_reducible apply clearScope_frame
    | with_reducible apply State.each_frame
    | with_reducible apply foldr_frame
    | (intro)
    | (extract_lets +onlyGivenNames st; have hst : SameBut x s0 st := ?_; clear_value st; revert st; intro st2 hst2)
    | (extract_lets +onlyGivenNames yy; clear_value yy; revert yy; intro y2)
    | (dsimp -zeta only [st]; clear st)
    | with_reducible apply SameBut.ite
    | split

theorem startSs1_frame {s : State} {a2} {a3} {a4} (hs : SameBut x s0 s) (x_ctr : x .ctr = true) (x_cairn : x .cairn = true) (x_safety : x .safety = true) : SameBut x s0 (startSs1 s a2 a3 a4) := by
  unfold startSs1
  repeat' first
    | with_reducible assumption
    | with_reducible apply safetyEvent_frame
    | with_reducible apply State.onChan_frame
    | (extract_lets +onlyGivenNames yy; clear_value yy; revert yy; intro y2)
    | with_reducible apply SameBut.ite

theorem markSs1_frame {s : State} {a2} {a3} (hs : SameBut x s0 s) (x_safety : x .safety = true) : SameBut x s0 (markSs1 s a2 a3) := by
  unfold markSs1
  repeat' first
    | with_reducible assumption
    | with_reducible apply State.onChan_frame
    | with_reducible apply SameBut.ite

theorem endSs1_frame {s : State} {a2} {a3} {a4} (hs : SameBut x s0 s) (x_ctr : x .ctr = true) (x_cairn : x .cairn = true) (x_safety : x .safety = true) : SameBut x s0 (endSs1 s a2 a3 a4) := by
  unfold endSs1
  exact latchTrip_frame (State.onChan_frame hs x_safety) x_ctr x_cairn x_safety

theorem sendStop_frame {s : State} (hs : SameBut x s0 s) (x_ctr : x .ctr = true) (x_rings : x .rings = true) : SameBut x s0 (sendStop s) := by
  unfold sendStop
  repeat' first
    | with_reducible assumption
    | with_reducible apply State.each_frame
    | with_reducible apply bump_frame
    | with_reducible apply State.onRing_frame
    | (intro)
    | with_reducible apply SameBut.ite
    | split

theorem injectStop_frame {s : State} (hs : SameBut x s0 s) (x_ctr : x .ctr = true) (x_cairn : x .cairn = true) (x_rings : x .rings = true) (x_safety : x .safety = true) : SameBut x s0 (injectStop s) := by
  unfold injectStop
  repeat' first
    | with_reducible assumption
    | with_reducible apply latchTrip_frame
    | with_reducible apply sendStop_frame
    | (extract_lets +onlyGivenNames st; have hst : SameBut x s0 st := ?_; clear_value st; revert st; intro st2 hst2)
    | with_reducible apply SameBut.ite

theorem stopWeaver_frame {s : State} {a2} (hs : SameBut x s0 s) (x_ctr : x .ctr = true) (x_cairn : x .cairn = true) (x_rings : x .rings = true) (x_loop : x .loop = true) (x_safety : x .safety = true) : SameBut x s0 (stopWeaver s a2) := by
  unfold stopWeaver
  repeat' first
    | with_reducible assumption
    | with_reducible apply latchTrip_frame
    | with_reducible apply State.onWeaver_frame
    | with_reducible apply sendStop_frame
    | (extract_lets +onlyGivenNames st; have hst : SameBut x s0 st := ?_; clear_value st; revert st; intro st2 hst2)
    | with_reducible apply SameBut.ite

theorem setFailed_frame {s : State} (hs : SameBut x s0 s) (x_red : x .red = true) : SameBut x s0 (setFailed s) := by
  unfold setFailed
  repeat' first
    | with_reducible assumption
    | with_reducible apply State.onRed_frame
    | with_reducible apply SameBut.ite

theorem weaverFault_frame {s : State} {a2} (hs : SameBut x s0 s) (x_ctr : x .ctr = true) (x_cairn : x .cairn = true) (x_rings : x .rings = true) (x_red : x .red = true) (x_loop : x .loop = true) (x_safety : x .safety = true) : SameBut x s0 (weaverFault s a2) := by
  unfold weaverFault
  repeat' first
    | with_reducible assumption
    | with_reducible apply setFailed_frame
    | with_reducible apply stopWeaver_frame
    | (intro)
    | with_reducible apply SameBut.ite
    | split

theorem haltCore_frame {s : State} (hs : SameBut x s0 s) (x_sys : x .sys = true) (x_ctr : x .ctr = true) (x_cairn : x .cairn = true) (x_safety : x .safety = true) : SameBut x s0 (haltCore s) := by
  unfold haltCore
  repeat' first
    | with_reducible assumption
    | with_reducible apply tripModule_frame
    | with_reducible apply State.onSys_frame
    | with_reducible apply State.onChan_frame

theorem logWrite_frame {s : State} {a2} {a3} {a4} {a5} (hs : SameBut x s0 s) (x_safety : x .safety = true) : SameBut x s0 (logWrite s a2 a3 a4 a5) := by
  unfold logWrite
  repeat' first
    | with_reducible assumption
    | with_reducible apply State.onSafety_frame

theorem publishSafety_frame {s : State} (hs : SameBut x s0 s) (x_safety : x .safety = true) : SameBut x s0 (publishSafety s) := by
  unfold publishSafety
  repeat' first
    | with_reducible assumption
    | with_reducible apply State.onSafety_frame

/-! ## Machine/CairnOps.lean -/

theorem writeSlot_frame {s : State} {a2} (hs : SameBut x s0 s) (x_ctr : x .ctr = true) (x_cairn : x .cairn = true) : SameBut x s0 (writeSlot s a2) := by
  unfold writeSlot
  repeat' first
    | with_reducible assumption
    | with_reducible apply State.onRec_frame
    | with_reducible apply bump_frame
    | (extract_lets +onlyGivenNames st; have hst : SameBut x s0 st := ?_; clear_value st; revert st; intro st2 hst2)
    | (extract_lets +onlyGivenNames yy; clear_value yy; revert yy; intro y2)
    | with_reducible apply SameBut.ite

theorem sealOpen_frame {s : State} (hs : SameBut x s0 s) (x_cairn : x .cairn = true) : SameBut x s0 (sealOpen s) := by
  unfold sealOpen
  repeat' first
    | with_reducible assumption
    | with_reducible apply State.onRec_frame
    | split

theorem writeRecord_frame {s : State} {a2} {a3} {a4} {a5} (hs : SameBut x s0 s) (x_ctr : x .ctr = true) (x_cairn : x .cairn = true) : SameBut x s0 (writeRecord s a2 a3 a4 a5) := by
  unfold writeRecord
  repeat' first
    | with_reducible assumption
    | with_reducible apply sealOpen_frame
    | with_reducible apply writeSlot_frame
    | (extract_lets +onlyGivenNames st; have hst : SameBut x s0 st := ?_; clear_value st; revert st; intro st2 hst2)
    | (extract_lets +onlyGivenNames yy; clear_value yy; revert yy; intro y2)
    | with_reducible apply SameBut.ite

theorem repeatRecord_frame {s : State} {a2} {a3} {a4} (hs : SameBut x s0 s) (x_cairn : x .cairn = true) : SameBut x s0 (repeatRecord s a2 a3 a4) := by
  unfold repeatRecord
  repeat' first
    | with_reducible assumption
    | with_reducible apply State.onRec_frame

theorem recEvent_frame {s : State} {a2} {a3} {a4} (hs : SameBut x s0 s) (x_ctr : x .ctr = true) (x_cairn : x .cairn = true) : SameBut x s0 (recEvent s a2 a3 a4) := by
  unfold recEvent
  repeat' first
    | with_reducible assumption
    | with_reducible apply codeEvent_frame

theorem State.onDrive_frame {s : State} {a2} {a3} (hs : SameBut x s0 s) (x_cairn : x .cairn = true) : SameBut x s0 (State.onDrive s a2 a3) := by
  unfold State.onDrive
  repeat' first
    | with_reducible assumption
    | with_reducible apply State.onRec_frame

/-! ## Machine/Registers.lean -/

theorem countFault_frame {s : State} (hs : SameBut x s0 s) (x_host : x .host = true) (x_ctr : x .ctr = true) : SameBut x s0 (countFault s) := by
  unfold countFault
  repeat' first
    | with_reducible assumption
    | with_reducible apply bump_frame
    | with_reducible apply State.onHost_frame

theorem regionViolation_frame {s : State} {a2} {a3} {a4} (hs : SameBut x s0 s) (x_ctr : x .ctr = true) (x_cairn : x .cairn = true) : SameBut x s0 (regionViolation s a2 a3 a4) := by
  unfold regionViolation
  repeat' first
    | with_reducible assumption
    | with_reducible apply bump_frame
    | with_reducible apply recordOnly_frame
    | (intro)
    | with_reducible apply SameBut.ite
    | split

theorem readMemData_frame_proj {s : State} {a2} (hs : SameBut x s0 s) (x_ctr : x .ctr = true) (x_dbg : x .dbg = true) (x_cairn : x .cairn = true) : SameBut x s0 (readMemData s a2).2 := by
  unfold readMemData
  repeat' first
    | with_reducible assumption
    | with_reducible apply regionViolation_frame
    | with_reducible apply State.onDbg_frame
    | (intro)
    | (extract_lets +onlyGivenNames st; have hst : SameBut x s0 st := ?_; clear_value st; revert st; intro st2 hst2)
    | (extract_lets +onlyGivenNames yy; clear_value yy; revert yy; intro y2)
    | (dsimp -zeta only [st]; clear st)
    | with_reducible apply SameBut.ite
    | split

theorem readMemData_frame {s : State} {a2} {w0} {v : State} (e : readMemData s a2 = (w0, v)) (hs : SameBut x s0 s) (x_ctr : x .ctr = true) (x_dbg : x .dbg = true) (x_cairn : x .cairn = true) : SameBut x s0 v := by
  have w := readMemData_frame_proj hs x_ctr x_dbg x_cairn (x := x) (a2 := a2)
  rw [e] at w
  exact w

theorem readWord_frame_proj {s : State} {a2} {a3} (hs : SameBut x s0 s) (x_host : x .host = true) (x_ctr : x .ctr = true) (x_dbg : x .dbg = true) (x_cairn : x .cairn = true) : SameBut x s0 (readWord s a2 a3).2 := by
  unfold readWord
  repeat' first
    | with_reducible assumption
    | with_reducible apply countFault_frame
    | with_reducible apply State.onHost_frame
    | with_reducible apply State.onCtr_frame
    | with_reducible apply State.onPstat_frame
    | with_reducible apply readMemData_frame_proj
    | (extract_lets +onlyGivenNames yy; clear_value yy; revert yy; intro y2)
    | with_reducible apply SameBut.ite
    | split

theorem readWord_frame {s : State} {a2} {a3} {w0} {v : State} (e : readWord s a2 a3 = (w0, v)) (hs : SameBut x s0 s) (x_host : x .host = true) (x_ctr : x .ctr = true) (x_dbg : x .dbg = true) (x_cairn : x .cairn = true) : SameBut x s0 v := by
  have w := readWord_frame_proj hs x_host x_ctr x_dbg x_cairn (x := x) (a2 := a2) (a3 := a3)
  rw [e] at w
  exact w

theorem readWide_frame_proj {s : State} {a2} {a3} (hs : SameBut x s0 s) (x_host : x .host = true) (x_ctr : x .ctr = true) (x_dbg : x .dbg = true) (x_cairn : x .cairn = true) : SameBut x s0 (readWide s a2 a3).2 := by
  unfold readWide
  repeat' first
    | with_reducible assumption
    | with_reducible apply countFault_frame
    | with_reducible apply readWord_frame_proj
    | with_reducible refine readWord_frame (by assumption) ?_ ?_ ?_ ?_ ?_
    | (intro)
    | (extract_lets +onlyGivenNames st; have hst : SameBut x s0 st := ?_; clear_value st; revert st; intro st2 hst2)
    | (extract_lets +onlyGivenNames yy; clear_value yy; revert yy; intro y2)
    | (dsimp -zeta only [st]; clear st)
    | with_reducible apply SameBut.ite
    | split

theorem readWide_frame {s : State} {a2} {a3} {w0} {v : State} (e : readWide s a2 a3 = (w0, v)) (hs : SameBut x s0 s) (x_host : x .host = true) (x_ctr : x .ctr = true) (x_dbg : x .dbg = true) (x_cairn : x .cairn = true) : SameBut x s0 v := by
  have w := readWide_frame_proj hs x_host x_ctr x_dbg x_cairn (x := x) (a2 := a2) (a3 := a3)
  rw [e] at w
  exact w

theorem readReg_frame_proj {s : State} {a2} {a3} {a4} (hs : SameBut x s0 s) (x_host : x .host = true) (x_ctr : x .ctr = true) (x_dbg : x .dbg = true) (x_cairn : x .cairn = true) : SameBut x s0 (readReg s a2 a3 a4).2 := by
  unfold readReg
  repeat' first
    | with_reducible assumption
    | with_reducible apply countFault_frame
    | with_reducible apply readWide_frame_proj
    | with_reducible apply readWord_frame_proj
    | split

theorem readReg_frame {s : State} {a2} {a3} {a4} {w0} {v : State} (e : readReg s a2 a3 a4 = (w0, v)) (hs : SameBut x s0 s) (x_host : x .host = true) (x_ctr : x .ctr = true) (x_dbg : x .dbg = true) (x_cairn : x .cairn = true) : SameBut x s0 v := by
  have w := readReg_frame_proj hs x_host x_ctr x_dbg x_cairn (x := x) (a2 := a2) (a3 := a3) (a4 := a4)
  rw [e] at w
  exact w

/-! ## Machine/ResetOps.lean -/

theorem ctlReset_frame {s : State} {a2} {a3} (hs : SameBut x s0 s) (x_supply : x .supply = true) (x_sys : x .sys = true) (x_pow : x .pow = true) (x_host : x .host = true) (x_ctr : x .ctr = true) (x_dbg : x .dbg = true) (x_cairn : x .cairn = true) (x_rings : x .rings = true) (x_links : x .links = true) (x_time : x .time = true) (x_multi : x .multi = true) (x_red : x .red = true) (x_loop : x .loop = true) (x_motion : x .motion = true) (x_disp : x .disp = true) (x_doors : x .doors = true) (x_safety : x .safety = true) (x_field : x .field = true) (x_can : x .can = true) (x_nor : x .nor = true) : SameBut x s0 (ctlReset s a2 a3) := by
  unfold ctlReset
  repeat' first
    | with_reducible assumption
    | (intro)
    | (extract_lets +onlyGivenNames st; have hst : SameBut x s0 st := ?_; clear_value st; revert st; intro st2 hst2)
    | (extract_lets +onlyGivenNames yy; clear_value yy; revert yy; intro y2)
    | (dsimp -zeta only [st]; clear st)
    | with_reducible apply SameBut.ite
    | split
    | with_reducible refine SameBut.literal rfl (.inl x_supply) (.inl x_sys) (.inl x_pow) (.inl x_host) (.inl x_ctr) (.inl x_dbg) (.inl x_cairn) (.inl x_rings) (.inl x_links) (.inl x_time) (.inl x_multi) (.inl x_red) (.inl x_loop) (.inl x_motion) (.inl x_disp) (.inl x_doors) (.inl x_safety) (.inl x_field) (.inl x_can) (.inl x_nor) ?_

theorem logicLoss_frame {s : State} (hs : SameBut x s0 s) (x_supply : x .supply = true) (x_sys : x .sys = true) (x_pow : x .pow = true) (x_host : x .host = true) (x_ctr : x .ctr = true) (x_dbg : x .dbg = true) (x_cairn : x .cairn = true) (x_rings : x .rings = true) (x_links : x .links = true) (x_time : x .time = true) (x_multi : x .multi = true) (x_red : x .red = true) (x_loop : x .loop = true) (x_motion : x .motion = true) (x_disp : x .disp = true) (x_doors : x .doors = true) (x_safety : x .safety = true) (x_field : x .field = true) (x_can : x .can = true) (x_nor : x .nor = true) : SameBut x s0 (logicLoss s) := by
  unfold logicLoss
  repeat' first
    | with_reducible assumption
    | (intro)
    | (extract_lets +onlyGivenNames st; have hst : SameBut x s0 st := ?_; clear_value st; revert st; intro st2 hst2)
    | (extract_lets +onlyGivenNames yy; clear_value yy; revert yy; intro y2)
    | (dsimp -zeta only [st]; clear st)
    | with_reducible apply SameBut.ite
    | split
    | with_reducible refine SameBut.literal rfl (.inl x_supply) (.inl x_sys) (.inl x_pow) (.inl x_host) (.inl x_ctr) (.inl x_dbg) (.inl x_cairn) (.inl x_rings) (.inl x_links) (.inl x_time) (.inl x_multi) (.inl x_red) (.inl x_loop) (.inl x_motion) (.inl x_disp) (.inl x_doors) (.inl x_safety) (.inl x_field) (.inl x_can) (.inl x_nor) ?_

theorem bootStop_frame {s : State} {a2} (hs : SameBut x s0 s) (x_sys : x .sys = true) (x_ctr : x .ctr = true) (x_cairn : x .cairn = true) (x_can : x .can = true) : SameBut x s0 (bootStop s a2) := by
  unfold bootStop
  repeat' first
    | with_reducible assumption
    | with_reducible apply State.onCan_frame
    | with_reducible apply recordOnly_frame
    | with_reducible apply State.onSys_frame
    | with_reducible apply SameBut.ite

theorem setStage_frame {s : State} {a2} {a3} (hs : SameBut x s0 s) (x_sys : x .sys = true) : SameBut x s0 (setStage s a2 a3) := by
  unfold setStage
  repeat' first
    | with_reducible assumption
    | with_reducible apply State.onSys_frame

/-! ## Machine/DebugOps.lean -/

theorem dbgEvent_frame {s : State} {a2} {a3} {a4} (hs : SameBut x s0 s) (x_ctr : x .ctr = true) (x_cairn : x .cairn = true) : SameBut x s0 (dbgEvent s a2 a3 a4) := by
  unfold dbgEvent
  repeat' first
    | with_reducible assumption
    | with_reducible apply codeEvent_frame

theorem setImg_frame {s : State} {a2} {a3} {a4} (hs : SameBut x s0 s) (x_sys : x .sys = true) : SameBut x s0 (setImg s a2 a3 a4) := by
  unfold setImg
  repeat' first
    | with_reducible assumption
    | with_reducible apply State.onSys_frame

theorem haltEvents_frame {s : State} {a2} {a3} {a4} {a5} (hs : SameBut x s0 s) (x_ctr : x .ctr = true) (x_cairn : x .cairn = true) : SameBut x s0 (haltEvents s a2 a3 a4 a5) := by
  unfold haltEvents
  repeat' first
    | with_reducible assumption
    | with_reducible apply State.each_frame
    | with_reducible apply dbgEvent_frame
    | (intro)
    | with_reducible apply SameBut.ite

theorem setWhalt_frame {s : State} {a2} (hs : SameBut x s0 s) (x_ctr : x .ctr = true) (x_dbg : x .dbg = true) (x_cairn : x .cairn = true) (x_rings : x .rings = true) (x_safety : x .safety = true) : SameBut x s0 (setWhalt s a2) := by
  unfold setWhalt
  repeat' first
    | with_reducible assumption
    | with_reducible apply haltEvents_frame
    | with_reducible apply State.onDbg_frame
    | with_reducible apply injectStop_frame
    | (intro)
    | (extract_lets +onlyGivenNames st; have hst : SameBut x s0 st := ?_; clear_value st; revert st; intro st2 hst2)
    | (extract_lets +onlyGivenNames yy; clear_value yy; revert yy; intro y2)
    | (dsimp -zeta only [st]; clear st)
    | with_reducible apply SameBut.ite
    | split

theorem setChalt_frame {s : State} {a2} (hs : SameBut x s0 s) (x_sys : x .sys = true) (x_ctr : x .ctr = true) (x_dbg : x .dbg = true) (x_cairn : x .cairn = true) (x_rings : x .rings = true) (x_safety : x .safety = true) : SameBut x s0 (setChalt s a2) := by
  unfold setChalt
  repeat' first
    | with_reducible assumption
    | with_reducible apply haltEvents_frame
    | with_reducible apply State.onDbg_frame
    | with_reducible apply haltCore_frame
    | with_reducible apply injectStop_frame
    | (extract_lets +onlyGivenNames yy; clear_value yy; revert yy; intro y2)
    | with_reducible apply SameBut.ite

theorem debugReset_frame {s : State} {a2} {a3} (hs : SameBut x s0 s) (x_supply : x .supply = true) (x_sys : x .sys = true) (x_pow : x .pow = true) (x_host : x .host = true) (x_ctr : x .ctr = true) (x_dbg : x .dbg = true) (x_cairn : x .cairn = true) (x_rings : x .rings = true) (x_links : x .links = true) (x_time : x .time = true) (x_multi : x .multi = true) (x_red : x .red = true) (x_loop : x .loop = true) (x_motion : x .motion = true) (x_disp : x .disp = true) (x_doors : x .doors = true) (x_safety : x .safety = true) (x_field : x .field = true) (x_can : x .can = true) (x_nor : x .nor = true) : SameBut x s0 (debugReset s a2 a3) := by
  unfold debugReset
  repeat' first
    | with_reducible assumption
    | with_reducible apply ctlReset_frame

theorem endSession_frame {s : State} {a2} (hs : SameBut x s0 s) (x_supply : x .supply = true) (x_sys : x .sys = true) (x_pow : x .pow = true) (x_host : x .host = true) (x_ctr : x .ctr = true) (x_dbg : x .dbg = true) (x_cairn : x .cairn = true) (x_rings : x .rings = true) (x_links : x .links = true) (x_time : x .time = true) (x_multi : x .multi = true) (x_red : x .red = true) (x_loop : x .loop = true) (x_motion : x .motion = true) (x_disp : x .disp = true) (x_doors : x .doors = true) (x_safety : x .safety = true) (x_field : x .field = true) (x_can : x .can = true) (x_nor : x .nor = true) : SameBut x s0 (endSession s a2) := by
  unfold endSession
  repeat' first
    | with_reducible assumption
    | with_reducible apply debugReset_frame
    | with_reducible apply State.onDbg_frame
    | with_reducible apply dbgEvent_frame
    | with_reducible apply setChalt_frame
    | with_reducible apply State.onSys_frame
    | (intro)
    | (extract_lets +onlyGivenNames st; have hst : SameBut x s0 st := ?_; clear_value st; revert st; intro st2 hst2)
    | (extract_lets +onlyGivenNames yy; clear_value yy; revert yy; intro y2)
    | (dsimp -zeta only [st]; clear st)
    | with_reducible apply SameBut.ite
    | split

theorem imgCtrl_frame {s : State} {a2} (hs : SameBut x s0 s) (x_supply : x .supply = true) (x_sys : x .sys = true) (x_pow : x .pow = true) (x_host : x .host = true) (x_ctr : x .ctr = true) (x_dbg : x .dbg = true) (x_cairn : x .cairn = true) (x_rings : x .rings = true) (x_links : x .links = true) (x_time : x .time = true) (x_multi : x .multi = true) (x_red : x .red = true) (x_loop : x .loop = true) (x_motion : x .motion = true) (x_disp : x .disp = true) (x_doors : x .doors = true) (x_safety : x .safety = true) (x_field : x .field = true) (x_can : x .can = true) (x_nor : x .nor = true) : SameBut x s0 (imgCtrl s a2) := by
  unfold imgCtrl
  repeat' first
    | with_reducible assumption
    | with_reducible apply State.onDbg_frame
    | with_reducible apply setImg_frame
    | with_reducible apply dbgEvent_frame
    | with_reducible apply endSession_frame
    | (extract_lets +onlyGivenNames st; have hst : SameBut x s0 st := ?_; clear_value st; revert st; intro st2 hst2)
    | (extract_lets +onlyGivenNames yy; clear_value yy; revert yy; intro y2)
    | (dsimp -zeta only [st]; clear st)
    | with_reducible apply SameBut.ite

theorem imgData_frame {s : State} {a2} (hs : SameBut x s0 s) (x_dbg : x .dbg = true) : SameBut x s0 (imgData s a2) := by
  unfold imgData
  repeat' first
    | with_reducible assumption
    | with_reducible apply State.onDbg_frame
    | with_reducible apply SameBut.ite

theorem writeMemData_frame {s : State} {a2} (hs : SameBut x s0 s) (x_ctr : x .ctr = true) (x_dbg : x .dbg = true) (x_cairn : x .cairn = true) : SameBut x s0 (writeMemData s a2) := by
  unfold writeMemData
  repeat' first
    | with_reducible assumption
    | with_reducible apply regionViolation_frame
    | with_reducible apply State.onDbg_frame
    | (intro)
    | (extract_lets +onlyGivenNames st; have hst : SameBut x s0 st := ?_; clear_value st; revert st; intro st2 hst2)
    | (extract_lets +onlyGivenNames yy; clear_value yy; revert yy; intro y2)
    | (dsimp -zeta only [st]; clear st)
    | with_reducible apply SameBut.ite
    | split

theorem writeDebug_frame {s : State} {a2} {a3} {a4} (hs : SameBut x s0 s) (x_supply : x .supply = true) (x_sys : x .sys = true) (x_pow : x .pow = true) (x_host : x .host = true) (x_ctr : x .ctr = true) (x_dbg : x .dbg = true) (x_cairn : x .cairn = true) (x_rings : x .rings = true) (x_links : x .links = true) (x_time : x .time = true) (x_multi : x .multi = true) (x_red : x .red = true) (x_loop : x .loop = true) (x_motion : x .motion = true) (x_disp : x .disp = true) (x_doors : x .doors = true) (x_safety : x .safety = true) (x_field : x .field = true) (x_can : x .can = true) (x_nor : x .nor = true) : SameBut x s0 (writeDebug s a2 a3 a4) := by
  unfold writeDebug
  repeat' first
    | with_reducible assumption
    | with_reducible apply countFault_frame
    | with_reducible apply setWhalt_frame
    | with_reducible apply setChalt_frame
    | with_reducible apply debugReset_frame
    | with_reducible apply State.onDbg_frame
    | with_reducible apply writeMemData_frame
    | with_reducible apply imgCtrl_frame
    | with_reducible apply imgData_frame
    | (intro)
    | (extract_lets +onlyGivenNames fn; have hfn : ∀ w z, SameBut x s0 z → SameBut x s0 (fn w z) := ?_; clear_value fn; revert fn; intro fn2 hfn)
    | (extract_lets +onlyGivenNames yy; clear_value yy; revert yy; intro y2)
    | with_reducible apply hfn
    | (dsimp -zeta only [fn]; clear fn)
    | with_reducible apply SameBut.ite
    | split

end Sys2Proof.Machine
end

