-- ==== Sys2Proof/Laws/FrameMotion.lean ====
section
/-! SUPPORT. The components that an operation may change: the axes, the loops, the cars and the commands of motion. Each lemma says that its
operation changes no component but those that `x` names. -/

namespace Sys2Proof.Machine

open Sys2Proof

variable {x : Comp → Bool} {s0 : State}

/-! ## Machine/Ties.lean -/

theorem State.onShaft_frame {s : State} {a2} {a3} (hs : SameBut x s0 s) (x_motion : x .motion = true) : SameBut x s0 (State.onShaft s a2 a3) := by
  unfold State.onShaft
  repeat' first
    | with_reducible assumption
    | with_reducible apply State.onMotion_frame

theorem State.onCar_frame {s : State} {a2} {a3} (hs : SameBut x s0 s) (x_motion : x .motion = true) : SameBut x s0 (State.onCar s a2 a3) := by
  unfold State.onCar
  repeat' first
    | with_reducible assumption
    | with_reducible apply State.onMotion_frame

theorem stage_frame {s : State} {a2} {a3} (hs : SameBut x s0 s) (x_loop : x .loop = true) : SameBut x s0 (stage s a2 a3) := by
  unfold stage
  repeat' first
    | with_reducible assumption
    | with_reducible apply State.onLoop_frame
    | with_reducible apply State.onAxis_frame
    | (intro)
    | with_reducible apply SameBut.ite
    | split

theorem State.onDi_frame {s : State} {a2} {a3} (hs : SameBut x s0 s) (x_field : x .field = true) : SameBut x s0 (State.onDi s a2 a3) := by
  unfold State.onDi
  repeat' first
    | with_reducible assumption
    | with_reducible apply State.onField_frame

theorem State.onAi_frame {s : State} {a2} {a3} (hs : SameBut x s0 s) (x_field : x .field = true) : SameBut x s0 (State.onAi s a2 a3) := by
  unfold State.onAi
  repeat' first
    | with_reducible assumption
    | with_reducible apply State.onField_frame

theorem State.onSd_frame {s : State} {a2} {a3} (hs : SameBut x s0 s) (x_field : x .field = true) : SameBut x s0 (State.onSd s a2 a3) := by
  unfold State.onSd
  repeat' first
    | with_reducible assumption
    | with_reducible apply State.onField_frame

theorem State.onQa_frame {s : State} {a2} {a3} (hs : SameBut x s0 s) (x_field : x .field = true) : SameBut x s0 (State.onQa s a2 a3) := by
  unfold State.onQa
  repeat' first
    | with_reducible assumption
    | with_reducible apply State.onField_frame

theorem State.onPwm_frame {s : State} {a2} {a3} (hs : SameBut x s0 s) (x_field : x .field = true) : SameBut x s0 (State.onPwm s a2 a3) := by
  unfold State.onPwm
  repeat' first
    | with_reducible assumption
    | with_reducible apply State.onField_frame

theorem State.onStp_frame {s : State} {a2} {a3} (hs : SameBut x s0 s) (x_field : x .field = true) : SameBut x s0 (State.onStp s a2 a3) := by
  unfold State.onStp
  repeat' first
    | with_reducible assumption
    | with_reducible apply State.onField_frame

theorem quietCan_frame {s : State} (hs : SameBut x s0 s) (x_can : x .can = true) : SameBut x s0 (quietCan s) := by
  unfold quietCan
  repeat' first
    | with_reducible assumption
    | with_reducible apply State.onCan_frame

theorem wakeCan_frame {s : State} (hs : SameBut x s0 s) (x_can : x .can = true) : SameBut x s0 (wakeCan s) := by
  unfold wakeCan
  repeat' first
    | with_reducible assumption
    | with_reducible apply State.onCan_frame

theorem becomeStandby_frame {s : State} {a2} (hs : SameBut x s0 s) (x_red : x .red = true) (x_can : x .can = true) : SameBut x s0 (becomeStandby s a2) := by
  unfold becomeStandby
  repeat' first
    | with_reducible assumption
    | with_reducible apply quietCan_frame
    | with_reducible apply State.onRed_frame

theorem s3Wake_frame {s : State} {a2} {a3} (hs : SameBut x s0 s) (x_pow : x .pow = true) : SameBut x s0 (s3Wake s a2 a3) := by
  unfold s3Wake
  repeat' first
    | with_reducible assumption
    | with_reducible apply State.onPow_frame
    | (extract_lets +onlyGivenNames yy; clear_value yy; revert yy; intro y2)
    | with_reducible apply SameBut.ite

/-! ## Machine/LoopOps.lean -/

theorem supEvent_frame {s : State} {a2} {a3} {a4} {a5} {a6} (hs : SameBut x s0 s) (x_ctr : x .ctr = true) (x_cairn : x .cairn = true) : SameBut x s0 (supEvent s a2 a3 a4 a5 a6) := by
  unfold supEvent
  repeat' first
    | with_reducible assumption
    | with_reducible apply raise_frame

theorem endInjection_frame {s : State} {a2} {a3} (hs : SameBut x s0 s) (x_ctr : x .ctr = true) (x_cairn : x .cairn = true) (x_loop : x .loop = true) : SameBut x s0 (endInjection s a2 a3) := by
  unfold endInjection
  repeat' first
    | with_reducible assumption
    | with_reducible apply State.onAxis_frame
    | with_reducible apply supEvent_frame
    | (extract_lets +onlyGivenNames st; have hst : SameBut x s0 st := ?_; clear_value st; revert st; intro st2 hst2)
    | (extract_lets +onlyGivenNames yy; clear_value yy; revert yy; intro y2)
    | with_reducible apply SameBut.ite

theorem disableAxis_frame {s : State} {a2} (hs : SameBut x s0 s) (x_ctr : x .ctr = true) (x_cairn : x .cairn = true) (x_loop : x .loop = true) : SameBut x s0 (disableAxis s a2) := by
  unfold disableAxis
  repeat' first
    | with_reducible assumption
    | with_reducible apply State.onAxis_frame
    | with_reducible apply endInjection_frame
    | split

theorem setCauses_frame {s : State} {a2} {a3} (hs : SameBut x s0 s) (x_ctr : x .ctr = true) (x_cairn : x .cairn = true) (x_loop : x .loop = true) : SameBut x s0 (setCauses s a2 a3) := by
  unfold setCauses
  repeat' first
    | with_reducible assumption
    | with_reducible apply State.each_frame
    | with_reducible apply bump_frame
    | with_reducible apply State.onAxis_frame
    | with_reducible apply supEvent_frame
    | with_reducible apply recordOnly_frame
    | with_reducible apply endInjection_frame
    | (intro)
    | (extract_lets +onlyGivenNames st; have hst : SameBut x s0 st := ?_; clear_value st; revert st; intro st2 hst2)
    | (extract_lets +onlyGivenNames fn; have hfn : ∀ z, SameBut x s0 z → SameBut x s0 (fn z) := ?_; clear_value fn; revert fn; intro fn2 hfn)
    | (extract_lets +onlyGivenNames yy; clear_value yy; revert yy; intro y2)
    | (dsimp -zeta only [st]; clear st)
    | (dsimp -zeta only [fn]; clear fn)
    | with_reducible apply SameBut.ite
    | split

theorem activate_frame {s : State} {a2} {a3} (hs : SameBut x s0 s) (x_ctr : x .ctr = true) (x_cairn : x .cairn = true) (x_loop : x .loop = true) : SameBut x s0 (activate s a2 a3) := by
  unfold activate
  repeat' first
    | with_reducible assumption
    | with_reducible apply setCauses_frame
    | with_reducible apply SameBut.ite

theorem dropCauses_frame {s : State} {a2} (hs : SameBut x s0 s) (x_ctr : x .ctr = true) (x_cairn : x .cairn = true) (x_loop : x .loop = true) : SameBut x s0 (dropCauses s a2) := by
  unfold dropCauses
  repeat' first
    | with_reducible assumption
    | with_reducible apply setCauses_frame
    | (intro)
    | with_reducible apply SameBut.ite
    | split

/-! ## Machine/Law.lean -/

theorem countStale_frame {s : State} {a2} {a3} (hs : SameBut x s0 s) (x_ctr : x .ctr = true) (x_loop : x .loop = true) : SameBut x s0 (countStale s a2 a3) := by
  unfold countStale
  repeat' first
    | with_reducible assumption
    | with_reducible apply bump_frame
    | with_reducible apply State.onAxis_frame
    | (intro)
    | (extract_lets +onlyGivenNames st; have hst : SameBut x s0 st := ?_; clear_value st; revert st; intro st2 hst2)
    | (extract_lets +onlyGivenNames yy; clear_value yy; revert yy; intro y2)
    | (dsimp -zeta only [st]; clear st)
    | with_reducible apply SameBut.ite
    | split

theorem execLaw_frame {s : State} {a2} {a3} {a4} (hs : SameBut x s0 s) (x_ctr : x .ctr = true) (x_cairn : x .cairn = true) (x_loop : x .loop = true) : SameBut x s0 (execLaw s a2 a3 a4) := by
  unfold execLaw
  repeat' first
    | with_reducible assumption
    | with_reducible apply endInjection_frame
    | with_reducible apply bump_frame
    | with_reducible apply State.onAxis_frame
    | with_reducible apply setCauses_frame
    | with_reducible apply foldl_frame
    | with_reducible apply foldl_frame_fst
    | (intro)
    | (extract_lets +onlyGivenNames st; have hst : SameBut x s0 st := ?_; clear_value st; revert st; intro st2 hst2)
    | (extract_lets +onlyGivenNames yy; clear_value yy; revert yy; intro y2)
    | (dsimp -zeta only [st]; clear st)
    | with_reducible apply SameBut.ite
    | split

theorem tripOut_frame {s : State} {a2} (hs : SameBut x s0 s) (x_loop : x .loop = true) : SameBut x s0 (tripOut s a2) := by
  unfold tripOut
  repeat' first
    | with_reducible assumption
    | with_reducible apply State.onAxis_frame

theorem holdAxis_frame {s : State} {a2} {a3} {a4} (hs : SameBut x s0 s) (x_ctr : x .ctr = true) (x_cairn : x .cairn = true) (x_loop : x .loop = true) : SameBut x s0 (holdAxis s a2 a3 a4) := by
  unfold holdAxis
  repeat' first
    | with_reducible assumption
    | with_reducible apply tripOut_frame
    | with_reducible apply setCauses_frame
    | with_reducible apply endInjection_frame
    | with_reducible apply State.onAxis_frame
    | (intro)
    | (extract_lets +onlyGivenNames st; have hst : SameBut x s0 st := ?_; clear_value st; revert st; intro st2 hst2)
    | (extract_lets +onlyGivenNames yy; clear_value yy; revert yy; intro y2)
    | (dsimp -zeta only [st]; clear st)
    | with_reducible apply SameBut.ite
    | split

theorem startMove_frame {s : State} {a2} (hs : SameBut x s0 s) (x_loop : x .loop = true) : SameBut x s0 (startMove s a2) := by
  unfold startMove
  repeat' first
    | with_reducible assumption
    | with_reducible apply State.onAxis_frame
    | (extract_lets +onlyGivenNames yy; clear_value yy; revert yy; intro y2)
    | with_reducible apply SameBut.ite

theorem axisProgram_frame {s : State} {a2} (hs : SameBut x s0 s) (x_ctr : x .ctr = true) (x_cairn : x .cairn = true) (x_loop : x .loop = true) : SameBut x s0 (axisProgram s a2) := by
  unfold axisProgram
  repeat' first
    | with_reducible assumption
    | with_reducible apply startMove_frame
    | with_reducible apply countStale_frame
    | with_reducible apply State.onAxis_frame
    | with_reducible apply holdAxis_frame
    | with_reducible apply execLaw_frame
    | with_reducible apply setCauses_frame
    | (intro)
    | (extract_lets +onlyGivenNames st; have hst : SameBut x s0 st := ?_; clear_value st; revert st; intro st2 hst2)
    | (extract_lets +onlyGivenNames yy; clear_value yy; revert yy; intro y2)
    | (dsimp -zeta only [st]; clear st)
    | with_reducible apply SameBut.ite
    | split

/-! ## Machine/Landing.lean -/

theorem landed_frame {s : State} {a2} {a3} (hs : SameBut x s0 s) (x_host : x .host = true) (x_ctr : x .ctr = true) : SameBut x s0 (landed s a2 a3) := by
  unfold landed
  repeat' first
    | with_reducible assumption
    | with_reducible apply ok_frame
    | split

theorem landRefused_frame {s : State} {a2} (hs : SameBut x s0 s) (x_host : x .host = true) (x_ctr : x .ctr = true) : SameBut x s0 (landRefused s a2) := by
  unfold landRefused
  repeat' first
    | with_reducible assumption
    | with_reducible apply refused_frame
    | split

theorem landWord_frame {s : State} {a2} {a3} {a4} (hs : SameBut x s0 s) (x_loop : x .loop = true) (x_nor : x .nor = true) : SameBut x s0 (landWord s a2 a3 a4) := by
  unfold landWord
  repeat' first
    | with_reducible assumption
    | with_reducible apply store_frame
    | with_reducible apply State.onAxis_frame
    | (intro)
    | with_reducible apply SameBut.ite
    | split

theorem clearOc_frame {s : State} {a2} (hs : SameBut x s0 s) (x_field : x .field = true) : SameBut x s0 (clearOc s a2) := by
  unfold clearOc
  repeat' first
    | with_reducible assumption
    | with_reducible apply State.onPwm_frame
    | (extract_lets +onlyGivenNames yy; clear_value yy; revert yy; intro y2)
    | with_reducible apply SameBut.ite

theorem land_frame {s : State} {a2} {a3} (hs : SameBut x s0 s) (x_host : x .host = true) (x_ctr : x .ctr = true) (x_cairn : x .cairn = true) (x_loop : x .loop = true) (x_field : x .field = true) (x_nor : x .nor = true) : SameBut x s0 (land s a2 a3) := by
  unfold land
  repeat' first
    | with_reducible assumption
    | with_reducible apply landed_frame
    | with_reducible apply landWord_frame
    | with_reducible apply State.onAxis_frame
    | with_reducible apply dropCauses_frame
    | with_reducible apply endInjection_frame
    | with_reducible apply store_frame
    | with_reducible apply clearOc_frame
    | with_reducible apply setCauses_frame
    | with_reducible apply landRefused_frame
    | with_reducible apply disableAxis_frame
    | with_reducible apply bump_frame
    | (intro)
    | (extract_lets +onlyGivenNames st; have hst : SameBut x s0 st := ?_; clear_value st; revert st; intro st2 hst2)
    | (extract_lets +onlyGivenNames yy; clear_value yy; revert yy; intro y2)
    | (dsimp -zeta only [st]; clear st)
    | with_reducible apply SameBut.ite
    | split

theorem landOne_frame {s : State} {a2} (hs : SameBut x s0 s) (x_host : x .host = true) (x_ctr : x .ctr = true) (x_cairn : x .cairn = true) (x_loop : x .loop = true) (x_field : x .field = true) (x_nor : x .nor = true) : SameBut x s0 (landOne s a2) := by
  unfold landOne
  repeat' first
    | with_reducible assumption
    | with_reducible apply State.onAxis_frame
    | with_reducible apply bump_frame
    | with_reducible apply land_frame
    | split

theorem landBulk_frame {s : State} {a2} (hs : SameBut x s0 s) (x_host : x .host = true) (x_ctr : x .ctr = true) (x_loop : x .loop = true) : SameBut x s0 (landBulk s a2) := by
  unfold landBulk
  repeat' first
    | with_reducible assumption
    | with_reducible apply State.onAxis_frame
    | with_reducible apply State.each_frame
    | with_reducible apply ok_frame
    | with_reducible apply stage_frame
    | (intro)
    | (extract_lets +onlyGivenNames st; have hst : SameBut x s0 st := ?_; clear_value st; revert st; intro st2 hst2)
    | split

theorem runTableLoad_frame {s : State} {a2} (hs : SameBut x s0 s) (x_loop : x .loop = true) : SameBut x s0 (runTableLoad s a2) := by
  unfold runTableLoad
  repeat' first
    | with_reducible assumption
    | with_reducible apply State.onAxis_frame
    | with_reducible apply State.onLoop_frame
    | (intro)
    | (extract_lets +onlyGivenNames st; have hst : SameBut x s0 st := ?_; clear_value st; revert st; intro st2 hst2)
    | (extract_lets +onlyGivenNames yy; clear_value yy; revert yy; intro y2)
    | (dsimp -zeta only [st]; clear st)
    | with_reducible apply SameBut.ite
    | split

theorem releaseHeld_frame {s : State} {a2} (hs : SameBut x s0 s) (x_loop : x .loop = true) : SameBut x s0 (releaseHeld s a2) := by
  unfold releaseHeld
  repeat' first
    | with_reducible assumption
    | with_reducible apply State.each_frame
    | with_reducible apply State.onAxis_frame
    | with_reducible apply runTableLoad_frame
    | (intro)
    | (extract_lets +onlyGivenNames yy; clear_value yy; revert yy; intro y2)
    | with_reducible apply SameBut.ite

theorem leaveCapture_frame {s : State} (hs : SameBut x s0 s) (x_loop : x .loop = true) : SameBut x s0 (leaveCapture s) := by
  unfold leaveCapture
  repeat' first
    | with_reducible assumption
    | with_reducible apply draw_frame_proj
    | with_reducible apply State.onLoop_frame
    | with_reducible apply foldl_frame
    | with_reducible apply foldl_frame_fst
    | (intro)
    | (extract_lets +onlyGivenNames st; have hst : SameBut x s0 st := ?_; clear_value st; revert st; intro st2 hst2)
    | (extract_lets +onlyGivenNames yy; clear_value yy; revert yy; intro y2)
    | (dsimp -zeta only [st]; clear st)
    | with_reducible apply SameBut.ite
    | split

theorem landCapture_frame {s : State} (hs : SameBut x s0 s) (x_host : x .host = true) (x_ctr : x .ctr = true) (x_loop : x .loop = true) : SameBut x s0 (landCapture s) := by
  unfold landCapture
  repeat' first
    | with_reducible assumption
    | with_reducible apply State.each_frame
    | with_reducible apply leaveCapture_frame
    | with_reducible apply ok_frame
    | with_reducible apply State.onLoop_frame
    | with_reducible apply foldl_frame
    | with_reducible apply foldl_frame_fst
    | (intro)
    | (extract_lets +onlyGivenNames st; have hst : SameBut x s0 st := ?_; clear_value st; revert st; intro st2 hst2)
    | (extract_lets +onlyGivenNames yy; clear_value yy; revert yy; intro y2)
    | with_reducible apply SameBut.ite
    | split

theorem landAll_frame {s : State} (hs : SameBut x s0 s) (x_host : x .host = true) (x_ctr : x .ctr = true) (x_cairn : x .cairn = true) (x_loop : x .loop = true) (x_field : x .field = true) (x_nor : x .nor = true) : SameBut x s0 (landAll s) := by
  unfold landAll
  repeat' first
    | with_reducible assumption
    | with_reducible apply landCapture_frame
    | with_reducible apply State.each_frame
    | with_reducible apply landBulk_frame
    | with_reducible apply landOne_frame
    | with_reducible apply releaseHeld_frame
    | (intro)
    | (extract_lets +onlyGivenNames st; have hst : SameBut x s0 st := ?_; clear_value st; revert st; intro st2 hst2)
    | (extract_lets +onlyGivenNames yy; clear_value yy; revert yy; intro y2)
    | with_reducible apply SameBut.ite

/-! ## Machine/Axis.lean -/

theorem execAxisStatus_frame {a1} {s : State} (hs : SameBut x s0 s) (x_host : x .host = true) (x_ctr : x .ctr = true) : Ends (SameBut x s0) (execAxisStatus a1 s) := by
  unfold execAxisStatus
  repeat' first
    | with_reducible assumption
    | with_reducible apply serve_frame
    | with_reducible apply ok_frame
    | (intro)
    | (extract_lets +onlyGivenNames st; have hst : SameBut x s0 st := ?_; clear_value st; revert st; intro st2 hst2)
    | (extract_lets +onlyGivenNames yy; clear_value yy; revert yy; intro y2)
    | with_reducible apply Ends.next
    | with_reducible apply SameBut.ite
    | split

theorem execAxisDescLoad_frame {a1} {s : State} (hs : SameBut x s0 s) (x_pow : x .pow = true) (x_host : x .host = true) (x_ctr : x .ctr = true) (x_dbg : x .dbg = true) (x_cairn : x .cairn = true) (x_loop : x .loop = true) : Ends (SameBut x s0) (execAxisDescLoad a1 s) := by
  unfold execAxisDescLoad
  repeat' first
    | with_reducible assumption
    | with_reducible apply serve_frame
    | with_reducible apply refused_frame
    | with_reducible apply stage_frame
    | with_reducible apply setSleep_frame
    | (intro)
    | (extract_lets +onlyGivenNames yy; clear_value yy; revert yy; intro y2)
    | with_reducible apply Ends.next
    | with_reducible apply SameBut.ite
    | split

theorem execAxisCoefWrite_frame {a1} {s : State} (hs : SameBut x s0 s) (x_host : x .host = true) (x_ctr : x .ctr = true) (x_loop : x .loop = true) : Ends (SameBut x s0) (execAxisCoefWrite a1 s) := by
  unfold execAxisCoefWrite
  repeat' first
    | with_reducible assumption
    | with_reducible apply serve_frame
    | with_reducible apply refused_frame
    | with_reducible apply stage_frame
    | (intro)
    | (extract_lets +onlyGivenNames yy; clear_value yy; revert yy; intro y2)
    | with_reducible apply Ends.next
    | with_reducible apply SameBut.ite

theorem execAxisBankSelect_frame {a1} {s : State} (hs : SameBut x s0 s) (x_host : x .host = true) (x_ctr : x .ctr = true) (x_loop : x .loop = true) : Ends (SameBut x s0) (execAxisBankSelect a1 s) := by
  unfold execAxisBankSelect
  repeat' first
    | with_reducible assumption
    | with_reducible apply serve_frame
    | with_reducible apply refused_frame
    | with_reducible apply stage_frame
    | (intro)
    | (extract_lets +onlyGivenNames yy; clear_value yy; revert yy; intro y2)
    | with_reducible apply Ends.next
    | with_reducible apply SameBut.ite

theorem execAxisTableLoad_frame {a1} {s : State} (hs : SameBut x s0 s) (x_host : x .host = true) (x_ctr : x .ctr = true) (x_loop : x .loop = true) : Ends (SameBut x s0) (execAxisTableLoad a1 s) := by
  unfold execAxisTableLoad
  repeat' first
    | with_reducible assumption
    | with_reducible apply serve_frame
    | with_reducible apply runTableLoad_frame
    | (intro)
    | (extract_lets +onlyGivenNames yy; clear_value yy; revert yy; intro y2)
    | with_reducible apply Ends.next

theorem execAxisEnable_frame {a1} {s : State} (hs : SameBut x s0 s) (x_host : x .host = true) (x_ctr : x .ctr = true) (x_loop : x .loop = true) : Ends (SameBut x s0) (execAxisEnable a1 s) := by
  unfold execAxisEnable
  repeat' first
    | with_reducible assumption
    | with_reducible apply serve_frame
    | with_reducible apply ok_frame
    | with_reducible apply refused_frame
    | with_reducible apply stage_frame
    | (intro)
    | (extract_lets +onlyGivenNames yy; clear_value yy; revert yy; intro y2)
    | with_reducible apply Ends.next
    | with_reducible apply SameBut.ite

theorem execAxisDisable_frame {a1} {s : State} (hs : SameBut x s0 s) (x_host : x .host = true) (x_ctr : x .ctr = true) (x_loop : x .loop = true) : Ends (SameBut x s0) (execAxisDisable a1 s) := by
  unfold execAxisDisable
  repeat' first
    | with_reducible assumption
    | with_reducible apply serve_frame
    | with_reducible apply stage_frame
    | (intro)
    | (extract_lets +onlyGivenNames st; have hst : SameBut x s0 st := ?_; clear_value st; revert st; intro st2 hst2)
    | (extract_lets +onlyGivenNames yy; clear_value yy; revert yy; intro y2)
    | with_reducible apply Ends.next
    | with_reducible apply SameBut.ite
    | split

/-! ## Machine/SafeFuncs.lean -/

theorem ss1All_frame {s : State} {a2} (hs : SameBut x s0 s) (x_ctr : x .ctr = true) (x_cairn : x .cairn = true) (x_safety : x .safety = true) : SameBut x s0 (ss1All s a2) := by
  unfold ss1All
  exact State.each_frame hs fun _ _ h => markSs1_frame (startSs1_frame h x_ctr x_cairn x_safety) x_safety

theorem tripUnstopped_frame {s : State} {a2} (hs : SameBut x s0 s) (x_ctr : x .ctr = true) (x_cairn : x .cairn = true) (x_safety : x .safety = true) : SameBut x s0 (tripUnstopped s a2) := by
  unfold tripUnstopped
  exact SameBut.ite hs (latchTrip_frame hs x_ctr x_cairn x_safety)

theorem pairDemand_frame {s : State} {a2} {a3} (hs : SameBut x s0 s) (x_ctr : x .ctr = true) (x_cairn : x .cairn = true) (x_safety : x .safety = true) : SameBut x s0 (pairDemand s a2 a3) := by
  unfold pairDemand
  repeat' first
    | with_reducible assumption
    | with_reducible apply tripUnstopped_frame
    | with_reducible apply ss1All_frame
    | with_reducible apply State.each_frame
    | with_reducible apply latchTrip_frame
    | with_reducible apply startSs1_frame
    | (intro)
    | (extract_lets +onlyGivenNames yy; clear_value yy; revert yy; intro y2)
    | with_reducible apply SameBut.ite

theorem samplePair_frame {a1} {a2} {s : State} {a4} (hs : SameBut x s0 s) (x_ctr : x .ctr = true) (x_cairn : x .cairn = true) (x_safety : x .safety = true) : SameBut x s0 (samplePair a1 a2 s a4) := by
  unfold samplePair
  repeat' first
    | with_reducible assumption
    | with_reducible apply State.onChan_frame
    | with_reducible apply bump_frame
    | with_reducible apply safetyEvent_frame
    | with_reducible apply pairDemand_frame
    | with_reducible apply SameBut.ite

theorem sampleReset_frame {a1} {s : State} {a3} (hs : SameBut x s0 s) (x_ctr : x .ctr = true) (x_cairn : x .cairn = true) (x_rings : x .rings = true) (x_safety : x .safety = true) : SameBut x s0 (sampleReset a1 s a3) := by
  unfold sampleReset
  repeat' first
    | with_reducible assumption
    | with_reducible apply State.onChan_frame
    | with_reducible apply safetyEvent_frame
    | with_reducible apply resetEdge_frame
    | (intro)
    | (extract_lets +onlyGivenNames st; have hst : SameBut x s0 st := ?_; clear_value st; revert st; intro st2 hst2)
    | (extract_lets +onlyGivenNames yy; clear_value yy; revert yy; intro y2)
    | (dsimp -zeta only [st]; clear st)
    | with_reducible apply SameBut.ite
    | split

theorem sampleSafety_frame {s : State} {a2} {a3} {a4} (hs : SameBut x s0 s) (x_ctr : x .ctr = true) (x_cairn : x .cairn = true) (x_rings : x .rings = true) (x_safety : x .safety = true) : SameBut x s0 (sampleSafety s a2 a3 a4) := by
  unfold sampleSafety
  repeat' first
    | with_reducible assumption
    | with_reducible apply State.onChan_frame
    | with_reducible apply latchTrip_frame
    | with_reducible apply State.each_frame
    | with_reducible apply samplePair_frame
    | with_reducible apply sampleReset_frame
    | (intro)
    | (extract_lets +onlyGivenNames st; have hst : SameBut x s0 st := ?_; clear_value st; revert st; intro st2 hst2)
    | (extract_lets +onlyGivenNames yy; clear_value yy; revert yy; intro y2)
    | (dsimp -zeta only [st]; clear st)
    | with_reducible apply SameBut.ite

theorem samplePoints_frame {s : State} {a2} {a3} (hs : SameBut x s0 s) (x_ctr : x .ctr = true) (x_cairn : x .cairn = true) (x_safety : x .safety = true) : SameBut x s0 (samplePoints s a2 a3) := by
  unfold samplePoints
  repeat' first
    | with_reducible assumption
    | with_reducible apply State.each_frame
    | with_reducible apply State.onChan_frame
    | with_reducible apply latchTrip_frame
    | (intro)
    | (extract_lets +onlyGivenNames st; have hst : SameBut x s0 st := ?_; clear_value st; revert st; intro st2 hst2)
    | (extract_lets +onlyGivenNames yy; clear_value yy; revert yy; intro y2)
    | with_reducible apply SameBut.ite

theorem actDemand_frame {a1} {a2} {a3} {s : State} {a5} (hs : SameBut x s0 s) (x_ctr : x .ctr = true) (x_cairn : x .cairn = true) (x_safety : x .safety = true) : SameBut x s0 (actDemand a1 a2 a3 s a5) := by
  unfold actDemand
  repeat' first
    | with_reducible assumption
    | with_reducible apply startSs1_frame
    | with_reducible apply latchTrip_frame
    | (extract_lets +onlyGivenNames yy; clear_value yy; revert yy; intro y2)
    | with_reducible apply SameBut.ite

theorem watchSs1_frame {s : State} {a2} {a3} {a4} (hs : SameBut x s0 s) (x_ctr : x .ctr = true) (x_cairn : x .cairn = true) (x_safety : x .safety = true) : SameBut x s0 (watchSs1 s a2 a3 a4) := by
  unfold watchSs1
  repeat' first
    | with_reducible assumption
    | with_reducible apply endSs1_frame
    | with_reducible apply State.onChan_frame
    | (extract_lets +onlyGivenNames yy; clear_value yy; revert yy; intro y2)
    | with_reducible apply SameBut.ite

theorem evalShaft_frame {a1} {a2} {s : State} {a4} (hs : SameBut x s0 s) (x_ctr : x .ctr = true) (x_cairn : x .cairn = true) (x_safety : x .safety = true) : SameBut x s0 (evalShaft a1 a2 s a4) := by
  unfold evalShaft
  repeat' first
    | with_reducible assumption
    | with_reducible apply State.onChan_frame
    | with_reducible apply State.each_frame
    | with_reducible apply actDemand_frame
    | with_reducible apply watchSs1_frame
    | (intro)

theorem acceptFrame_frame {s : State} {a2} {a3} {a4} {a5} (hs : SameBut x s0 s) (x_ctr : x .ctr = true) (x_cairn : x .cairn = true) (x_safety : x .safety = true) : SameBut x s0 (acceptFrame s a2 a3 a4 a5) := by
  unfold acceptFrame
  repeat' first
    | with_reducible assumption
    | with_reducible apply bump_frame
    | with_reducible apply State.onChan_frame
    | with_reducible apply State.each_frame
    | with_reducible apply latchTrip_frame
    | with_reducible apply evalShaft_frame
    | with_reducible apply foldl_frame
    | with_reducible apply foldl_frame_fst
    | (intro)
    | (extract_lets +onlyGivenNames st; have hst : SameBut x s0 st := ?_; clear_value st; revert st; intro st2 hst2)
    | (extract_lets +onlyGivenNames yy; clear_value yy; revert yy; intro y2)
    | (dsimp -zeta only [st]; clear st)
    | with_reducible apply SameBut.ite
    | split

theorem safeFrame_frame {s : State} {a2} {a3} {a4} {a5} (hs : SameBut x s0 s) (x_ctr : x .ctr = true) (x_cairn : x .cairn = true) (x_safety : x .safety = true) : SameBut x s0 (safeFrame s a2 a3 a4 a5) := by
  unfold safeFrame
  repeat' first
    | with_reducible assumption
    | with_reducible apply acceptFrame_frame
    | with_reducible apply bump_frame
    | (extract_lets +onlyGivenNames yy; clear_value yy; revert yy; intro y2)
    | with_reducible apply SameBut.ite

theorem publishFrame_frame {s : State} {a2} {a3} {a4} (hs : SameBut x s0 s) (x_multi : x .multi = true) : SameBut x s0 (publishFrame s a2 a3 a4) := by
  unfold publishFrame
  repeat' first
    | with_reducible assumption
    | with_reducible apply State.onMulti_frame
    | with_reducible apply SameBut.ite
    | split

/-! ## Machine/MotionOps.lean -/

theorem carEvent_frame {s : State} {a2} {a3} {a4} {a5} (hs : SameBut x s0 s) (x_ctr : x .ctr = true) (x_cairn : x .cairn = true) : SameBut x s0 (carEvent s a2 a3 a4 a5) := by
  unfold carEvent
  repeat' first
    | with_reducible assumption
    | with_reducible apply raise_frame

theorem crestEvent_frame {s : State} {a2} {a3} {a4} {a5} (hs : SameBut x s0 s) (x_ctr : x .ctr = true) (x_cairn : x .cairn = true) : SameBut x s0 (crestEvent s a2 a3 a4 a5) := by
  unfold crestEvent
  repeat' first
    | with_reducible assumption
    | with_reducible apply raise_frame

theorem report_frame {s : State} {a2} (hs : SameBut x s0 s) (x_disp : x .disp = true) : SameBut x s0 (report s a2) := by
  unfold report
  repeat' first
    | with_reducible assumption
    | with_reducible apply State.onDisp_frame

/-! ## Machine/Crest.lean -/

theorem failInspect_frame {s : State} {a2} (hs : SameBut x s0 s) (x_host : x .host = true) (x_ctr : x .ctr = true) (x_motion : x .motion = true) : SameBut x s0 (failInspect s a2) := by
  unfold failInspect
  repeat' first
    | with_reducible assumption
    | with_reducible apply refused_frame
    | with_reducible apply State.onCar_frame
    | split

theorem tripCar_frame {s : State} {a2} {a3} (hs : SameBut x s0 s) (x_host : x .host = true) (x_ctr : x .ctr = true) (x_cairn : x .cairn = true) (x_motion : x .motion = true) (x_disp : x .disp = true) : SameBut x s0 (tripCar s a2 a3) := by
  unfold tripCar
  repeat' first
    | with_reducible assumption
    | with_reducible apply failInspect_frame
    | with_reducible apply report_frame
    | with_reducible apply carEvent_frame
    | with_reducible apply bump_frame
    | with_reducible apply State.onCar_frame
    | (intro)
    | (extract_lets +onlyGivenNames st; have hst : SameBut x s0 st := ?_; clear_value st; revert st; intro st2 hst2)
    | (extract_lets +onlyGivenNames yy; clear_value yy; revert yy; intro y2)
    | (dsimp -zeta only [st]; clear st)
    | with_reducible apply SameBut.ite
    | split

theorem stopCar_frame {s : State} {s2 : State} {a3} {a4} (hs : SameBut x s0 s) (hs2 : SameBut x s0 s2) (x_host : x .host = true) (x_ctr : x .ctr = true) (x_cairn : x .cairn = true) (x_motion : x .motion = true) (x_disp : x .disp = true) : SameBut x s0 (stopCar s s2 a3 a4) := by
  unfold stopCar
  repeat' first
    | with_reducible assumption
    | with_reducible apply recordOnly_frame
    | with_reducible apply tripCar_frame
    | with_reducible apply State.onCar_frame
    | with_reducible apply report_frame
    | with_reducible apply carEvent_frame
    | with_reducible apply bump_frame
    | (intro)
    | (extract_lets +onlyGivenNames st; have hst : SameBut x s0 st := ?_; clear_value st; revert st; intro st2 hst2)
    | (extract_lets +onlyGivenNames yy; clear_value yy; revert yy; intro y2)
    | (dsimp -zeta only [st]; clear st)
    | with_reducible apply SameBut.ite
    | split

theorem secondCause_frame {s : State} {a2} {a3} (hs : SameBut x s0 s) (x_ctr : x .ctr = true) (x_cairn : x .cairn = true) (x_motion : x .motion = true) : SameBut x s0 (secondCause s a2 a3) := by
  unfold secondCause
  repeat' first
    | with_reducible assumption
    | with_reducible apply recordOnly_frame
    | with_reducible apply State.onCar_frame
    | (intro)
    | (extract_lets +onlyGivenNames st; have hst : SameBut x s0 st := ?_; clear_value st; revert st; intro st2 hst2)
    | (extract_lets +onlyGivenNames yy; clear_value yy; revert yy; intro y2)
    | (dsimp -zeta only [st]; clear st)
    | with_reducible apply SameBut.ite
    | split

theorem watchStop_frame {s : State} {s2 : State} {a3} (hs : SameBut x s0 s) (hs2 : SameBut x s0 s2) (x_host : x .host = true) (x_ctr : x .ctr = true) (x_cairn : x .cairn = true) (x_motion : x .motion = true) (x_disp : x .disp = true) : SameBut x s0 (watchStop s s2 a3) := by
  unfold watchStop
  repeat' first
    | with_reducible assumption
    | with_reducible apply State.onCar_frame
    | with_reducible apply tripCar_frame
    | with_reducible apply carEvent_frame
    | with_reducible apply bump_frame
    | with_reducible apply secondCause_frame
    | (intro)
    | (extract_lets +onlyGivenNames st; have hst : SameBut x s0 st := ?_; clear_value st; revert st; intro st2 hst2)
    | (extract_lets +onlyGivenNames yy; clear_value yy; revert yy; intro y2)
    | (dsimp -zeta only [st]; clear st)
    | with_reducible apply SameBut.ite
    | split

theorem formFactor_frame {s : State} {a2} (hs : SameBut x s0 s) (x_motion : x .motion = true) : SameBut x s0 (formFactor s a2) := by
  unfold formFactor
  repeat' first
    | with_reducible assumption
    | with_reducible apply State.onCar_frame
    | (intro)
    | (extract_lets +onlyGivenNames st; have hst : SameBut x s0 st := ?_; clear_value st; revert st; intro st2 hst2)
    | (extract_lets +onlyGivenNames yy; clear_value yy; revert yy; intro y2)
    | (dsimp -zeta only [st]; clear st)
    | with_reducible apply SameBut.ite
    | split

theorem beginRescue_frame {s : State} {a2} {a3} (hs : SameBut x s0 s) (x_ctr : x .ctr = true) (x_cairn : x .cairn = true) (x_motion : x .motion = true) (x_disp : x .disp = true) : SameBut x s0 (beginRescue s a2 a3) := by
  unfold beginRescue
  repeat' first
    | with_reducible assumption
    | with_reducible apply State.onShaft_frame
    | with_reducible apply crestEvent_frame
    | with_reducible apply bump_frame
    | with_reducible apply State.each_frame
    | with_reducible apply report_frame
    | (intro)
    | (extract_lets +onlyGivenNames st; have hst : SameBut x s0 st := ?_; clear_value st; revert st; intro st2 hst2)
    | with_reducible apply SameBut.ite

theorem goMinEnergy_frame {s : State} {a2} {a3} {a4} (hs : SameBut x s0 s) (x_ctr : x .ctr = true) (x_cairn : x .cairn = true) (x_motion : x .motion = true) (x_disp : x .disp = true) : SameBut x s0 (goMinEnergy s a2 a3 a4) := by
  unfold goMinEnergy
  repeat' first
    | with_reducible assumption
    | with_reducible apply State.onCar_frame
    | with_reducible apply State.onShaft_frame
    | with_reducible apply bump_frame
    | with_reducible apply report_frame
    | with_reducible apply crestEvent_frame
    | (intro)
    | (extract_lets +onlyGivenNames st; have hst : SameBut x s0 st := ?_; clear_value st; revert st; intro st2 hst2)
    | (extract_lets +onlyGivenNames yy; clear_value yy; revert yy; intro y2)
    | with_reducible apply SameBut.ite
    | split

theorem coverTest_frame {s : State} {s2 : State} {a3} (hs : SameBut x s0 s) (hs2 : SameBut x s0 s2) (x_ctr : x .ctr = true) (x_cairn : x .cairn = true) (x_motion : x .motion = true) (x_disp : x .disp = true) : SameBut x s0 (coverTest s s2 a3) := by
  unfold coverTest
  repeat' first
    | with_reducible assumption
    | with_reducible apply beginRescue_frame
    | with_reducible apply goMinEnergy_frame
    | (intro)
    | (extract_lets +onlyGivenNames st; have hst : SameBut x s0 st := ?_; clear_value st; revert st; intro st2 hst2)
    | (extract_lets +onlyGivenNames yy; clear_value yy; revert yy; intro y2)
    | (dsimp -zeta only [st]; clear st)
    | with_reducible apply SameBut.ite
    | split

theorem rescueTrigger_frame_held {s : State} {s2 : State} {a3} {a4} (hs : SameBut x s0 s) (hs2 : SameBut x s0 s2) (x_host : x .host = true) (x_ctr : x .ctr = true) (x_cairn : x .cairn = true) (x_motion : x .motion = true) (x_disp : x .disp = true) : Framed x s0 (rescueTrigger s s2 a3 a4) := by
  unfold rescueTrigger
  repeat' first
    | with_reducible assumption
    | with_reducible apply stopCar_frame
    | with_reducible apply goMinEnergy_frame
    | with_reducible apply Framed.none
    | with_reducible apply Framed.some
    | with_reducible apply SameBut.ite
    | with_reducible apply Framed.map
    | (intro)
    | (extract_lets +onlyGivenNames yy; clear_value yy; revert yy; intro y2)
    | split

theorem rescueTrigger_frame {s : State} {s2 : State} {a3} {a4} {v : State} (e : rescueTrigger s s2 a3 a4 = some v) (hs : SameBut x s0 s) (hs2 : SameBut x s0 s2) (x_host : x .host = true) (x_ctr : x .ctr = true) (x_cairn : x .cairn = true) (x_motion : x .motion = true) (x_disp : x .disp = true) : SameBut x s0 v :=
  (rescueTrigger_frame_held hs hs2 x_host x_ctr x_cairn x_motion x_disp).all v e

theorem separationTrigger_frame_held {s : State} {s2 : State} {a3} {a4} (hs : SameBut x s0 s) (hs2 : SameBut x s0 s2) (x_host : x .host = true) (x_ctr : x .ctr = true) (x_cairn : x .cairn = true) (x_motion : x .motion = true) (x_disp : x .disp = true) : Framed x s0 (separationTrigger s s2 a3 a4) := by
  unfold separationTrigger
  repeat' first
    | with_reducible assumption
    | with_reducible apply State.onCar_frame
    | with_reducible apply carEvent_frame
    | with_reducible apply bump_frame
    | with_reducible apply crestEvent_frame
    | with_reducible apply stopCar_frame
    | (intro)
    | with_reducible apply Framed.none
    | with_reducible apply Framed.some
    | (extract_lets +onlyGivenNames st; have hst : SameBut x s0 st := ?_; clear_value st; revert st; intro st2 hst2)
    | (extract_lets +onlyGivenNames yy; clear_value yy; revert yy; intro y2)
    | (dsimp -zeta only [st]; clear st)
    | with_reducible apply SameBut.ite
    | split

theorem separationTrigger_frame {s : State} {s2 : State} {a3} {a4} {v : State} (e : separationTrigger s s2 a3 a4 = some v) (hs : SameBut x s0 s) (hs2 : SameBut x s0 s2) (x_host : x .host = true) (x_ctr : x .ctr = true) (x_cairn : x .cairn = true) (x_motion : x .motion = true) (x_disp : x .disp = true) : SameBut x s0 v :=
  (separationTrigger_frame_held hs hs2 x_host x_ctr x_cairn x_motion x_disp).all v e

theorem forceTrigger_frame_held {s : State} {s2 : State} {a3} {a4} (hs : SameBut x s0 s) (hs2 : SameBut x s0 s2) (x_host : x .host = true) (x_ctr : x .ctr = true) (x_cairn : x .cairn = true) (x_motion : x .motion = true) (x_disp : x .disp = true) : Framed x s0 (forceTrigger s s2 a3 a4) := by
  unfold forceTrigger
  repeat' first
    | with_reducible assumption
    | with_reducible apply stopCar_frame
    | with_reducible apply crestEvent_frame
    | with_reducible apply State.onCar_frame
    | (intro)
    | (extract_lets +onlyGivenNames st; have hst : SameBut x s0 st := ?_; clear_value st; revert st; intro st2 hst2)
    | (dsimp -zeta only [st]; clear st)
    | with_reducible apply Framed.none
    | with_reducible apply Framed.some
    | (extract_lets +onlyGivenNames yy; clear_value yy; revert yy; intro y2)
    | with_reducible apply SameBut.ite
    | split

theorem forceTrigger_frame {s : State} {s2 : State} {a3} {a4} {v : State} (e : forceTrigger s s2 a3 a4 = some v) (hs : SameBut x s0 s) (hs2 : SameBut x s0 s2) (x_host : x .host = true) (x_ctr : x .ctr = true) (x_cairn : x .cairn = true) (x_motion : x .motion = true) (x_disp : x .disp = true) : SameBut x s0 v :=
  (forceTrigger_frame_held hs hs2 x_host x_ctr x_cairn x_motion x_disp).all v e

theorem targetTrigger_frame {s : State} {a2} {a3} (hs : SameBut x s0 s) (x_motion : x .motion = true) (x_disp : x .disp = true) : SameBut x s0 (targetTrigger s a2 a3) := by
  unfold targetTrigger
  extract_lets n q dir put go
  have hput : ∀ i, SameBut x s0 (put i) := fun i => State.onCar_frame hs x_motion
  have hgo : ∀ l b, SameBut x s0 (go l b) := fun l b => hput _
  clear_value go put
  repeat' first
    | with_reducible assumption
    | with_reducible apply hput
    | with_reducible apply hgo
    | with_reducible apply report_frame
    | with_reducible apply SameBut.ite
    | split

theorem triggers_frame {s : State} {s2 : State} {a3} (hs : SameBut x s0 s) (hs2 : SameBut x s0 s2) (x_host : x .host = true) (x_ctr : x .ctr = true) (x_cairn : x .cairn = true) (x_motion : x .motion = true) (x_disp : x .disp = true) : SameBut x s0 (triggers s s2 a3) := by
  unfold triggers
  repeat' first
    | with_reducible assumption
    | with_reducible refine rescueTrigger_frame (by assumption) ?_ ?_ ?_ ?_ ?_ ?_ ?_
    | with_reducible apply stopCar_frame
    | with_reducible refine separationTrigger_frame (by assumption) ?_ ?_ ?_ ?_ ?_ ?_ ?_
    | with_reducible apply State.onCar_frame
    | with_reducible refine forceTrigger_frame (by assumption) ?_ ?_ ?_ ?_ ?_ ?_ ?_
    | with_reducible apply coverTest_frame
    | with_reducible apply targetTrigger_frame
    | (extract_lets +onlyGivenNames st; have hst : SameBut x s0 st := ?_; clear_value st; revert st; intro st2 hst2)
    | (extract_lets +onlyGivenNames yy; clear_value yy; revert yy; intro y2)
    | with_reducible apply SameBut.ite
    | split

theorem beginStart_frame {s : State} {a2} {a3} {a4} (hs : SameBut x s0 s) (x_loop : x .loop = true) (x_motion : x .motion = true) : SameBut x s0 (beginStart s a2 a3 a4) := by
  unfold beginStart
  repeat' first
    | with_reducible assumption
    | with_reducible apply State.onCar_frame
    | with_reducible apply State.each_frame
    | with_reducible apply stage_frame
    | (intro)
    | (extract_lets +onlyGivenNames st; have hst : SameBut x s0 st := ?_; clear_value st; revert st; intro st2 hst2)
    | (extract_lets +onlyGivenNames yy; clear_value yy; revert yy; intro y2)
    | (dsimp -zeta only [st]; clear st)
    | with_reducible apply SameBut.ite
    | split

theorem abandonStart_frame {s : State} {a2} (hs : SameBut x s0 s) (x_host : x .host = true) (x_ctr : x .ctr = true) (x_motion : x .motion = true) : SameBut x s0 (abandonStart s a2) := by
  unfold abandonStart
  repeat' first
    | with_reducible assumption
    | with_reducible apply failInspect_frame
    | with_reducible apply State.onCar_frame
    | (intro)
    | with_reducible apply SameBut.ite
    | split

theorem startJourney_frame {s : State} {a2} {a3} (hs : SameBut x s0 s) (x_host : x .host = true) (x_ctr : x .ctr = true) (x_cairn : x .cairn = true) (x_motion : x .motion = true) (x_disp : x .disp = true) : SameBut x s0 (startJourney s a2 a3) := by
  unfold startJourney
  repeat' first
    | with_reducible assumption
    | with_reducible apply State.onCar_frame
    | with_reducible apply bump_frame
    | with_reducible apply crestEvent_frame
    | with_reducible apply State.onShaft_frame
    | with_reducible apply ok_frame
    | with_reducible apply report_frame
    | (intro)
    | (extract_lets +onlyGivenNames st; have hst : SameBut x s0 st := ?_; clear_value st; revert st; intro st2 hst2)
    | (extract_lets +onlyGivenNames yy; clear_value yy; revert yy; intro y2)
    | (dsimp -zeta only [st]; clear st)
    | with_reducible apply SameBut.ite
    | split

theorem refuseEnergy_frame {s : State} {a2} {a3} (hs : SameBut x s0 s) (x_host : x .host = true) (x_ctr : x .ctr = true) (x_cairn : x .cairn = true) (x_motion : x .motion = true) (x_disp : x .disp = true) : SameBut x s0 (refuseEnergy s a2 a3) := by
  unfold refuseEnergy
  repeat' first
    | with_reducible assumption
    | with_reducible apply State.onCar_frame
    | with_reducible apply abandonStart_frame
    | with_reducible apply bump_frame
    | with_reducible apply State.onShaft_frame
    | with_reducible apply report_frame
    | with_reducible apply crestEvent_frame

theorem endWeighing_frame {s : State} {a2} (hs : SameBut x s0 s) (x_host : x .host = true) (x_ctr : x .ctr = true) (x_cairn : x .cairn = true) (x_motion : x .motion = true) (x_disp : x .disp = true) : SameBut x s0 (endWeighing s a2) := by
  unfold endWeighing
  repeat' first
    | with_reducible assumption
    | with_reducible apply State.onCar_frame
    | with_reducible apply abandonStart_frame
    | with_reducible apply startJourney_frame
    | with_reducible apply refuseEnergy_frame
    | with_reducible apply report_frame
    | with_reducible apply carEvent_frame
    | (intro)
    | (extract_lets +onlyGivenNames st; have hst : SameBut x s0 st := ?_; clear_value st; revert st; intro st2 hst2)
    | (extract_lets +onlyGivenNames yy; clear_value yy; revert yy; intro y2)
    | (dsimp -zeta only [st]; clear st)
    | with_reducible apply SameBut.ite
    | split

theorem tryStart_frame {s : State} {a2} (hs : SameBut x s0 s) (x_loop : x .loop = true) (x_motion : x .motion = true) (x_disp : x .disp = true) : SameBut x s0 (tryStart s a2) := by
  unfold tryStart
  repeat' first
    | with_reducible assumption
    | with_reducible apply report_frame
    | with_reducible apply State.onCar_frame
    | with_reducible apply beginStart_frame
    | (extract_lets +onlyGivenNames yy; clear_value yy; revert yy; intro y2)
    | with_reducible apply SameBut.ite
    | split

/-! ## Machine/CarProgram.lean -/

theorem superviseSources_frame {s : State} {s2 : State} {a3} (hs : SameBut x s0 s) (hs2 : SameBut x s0 s2) (x_host : x .host = true) (x_ctr : x .ctr = true) (x_cairn : x .cairn = true) (x_motion : x .motion = true) (x_disp : x .disp = true) : SameBut x s0 (superviseSources s s2 a3) := by
  unfold superviseSources
  repeat' first
    | with_reducible assumption
    | with_reducible apply carEvent_frame
    | with_reducible apply State.onCar_frame
    | with_reducible apply bump_frame
    | with_reducible apply tripCar_frame
    | with_reducible apply stopCar_frame
    | (intro)
    | (extract_lets +onlyGivenNames st; have hst : SameBut x s0 st := ?_; clear_value st; revert st; intro st2 hst2)
    | (extract_lets +onlyGivenNames yy; clear_value yy; revert yy; intro y2)
    | (dsimp -zeta only [st]; clear st)
    | with_reducible apply SameBut.ite
    | split

theorem checkAngle_frame {s : State} {a2} {a3} {a4} {a5} (hs : SameBut x s0 s) (x_ctr : x .ctr = true) (x_cairn : x .cairn = true) (x_motion : x .motion = true) : SameBut x s0 (checkAngle s a2 a3 a4 a5) := by
  unfold checkAngle
  repeat' first
    | with_reducible assumption
    | with_reducible apply State.onShaft_frame
    | with_reducible apply carEvent_frame
    | (intro)
    | (extract_lets +onlyGivenNames st; have hst : SameBut x s0 st := ?_; clear_value st; revert st; intro st2 hst2)
    | (extract_lets +onlyGivenNames yy; clear_value yy; revert yy; intro y2)
    | (dsimp -zeta only [st]; clear st)
    | with_reducible apply SameBut.ite
    | split

theorem checkAngles_frame {s : State} {a2} {a3} (hs : SameBut x s0 s) (x_ctr : x .ctr = true) (x_cairn : x .cairn = true) (x_motion : x .motion = true) : SameBut x s0 (checkAngles s a2 a3) := by
  unfold checkAngles
  repeat' first
    | with_reducible assumption
    | with_reducible apply State.each_frame
    | with_reducible apply checkAngle_frame
    | (intro)
    | (extract_lets +onlyGivenNames st; have hst : SameBut x s0 st := ?_; clear_value st; revert st; intro st2 hst2)
    | (extract_lets +onlyGivenNames yy; clear_value yy; revert yy; intro y2)
    | (dsimp -zeta only [st]; clear st)
    | with_reducible apply SameBut.ite
    | split

theorem arrive_frame {s : State} {a2} {a3} (hs : SameBut x s0 s) (x_ctr : x .ctr = true) (x_cairn : x .cairn = true) (x_motion : x .motion = true) (x_disp : x .disp = true) : SameBut x s0 (arrive s a2 a3) := by
  unfold arrive
  repeat' first
    | with_reducible assumption
    | with_reducible apply State.onCar_frame
    | with_reducible apply carEvent_frame
    | with_reducible apply report_frame
    | (extract_lets +onlyGivenNames st; have hst : SameBut x s0 st := ?_; clear_value st; revert st; intro st2 hst2)
    | (extract_lets +onlyGivenNames yy; clear_value yy; revert yy; intro y2)
    | split

theorem driveCar_frame {s : State} {a2} {a3} (hs : SameBut x s0 s) (x_ctr : x .ctr = true) (x_cairn : x .cairn = true) (x_motion : x .motion = true) (x_disp : x .disp = true) : SameBut x s0 (driveCar s a2 a3) := by
  unfold driveCar
  repeat' first
    | with_reducible assumption
    | with_reducible apply State.onCar_frame
    | with_reducible apply arrive_frame
    | (intro)
    | (extract_lets +onlyGivenNames fn; have hfn : ∀ w, SameBut x s0 (fn w) := ?_; clear_value fn; revert fn; intro fn2 hfn)
    | (extract_lets +onlyGivenNames yy; clear_value yy; revert yy; intro y2)
    | with_reducible apply hfn
    | with_reducible apply SameBut.ite
    | split

theorem writeShares_frame {s : State} {a2} {a3} {a4} (hs : SameBut x s0 s) (x_ctr : x .ctr = true) (x_cairn : x .cairn = true) (x_loop : x .loop = true) (x_motion : x .motion = true) : SameBut x s0 (writeShares s a2 a3 a4) := by
  unfold writeShares
  repeat' first
    | with_reducible assumption
    | with_reducible apply State.onShaft_frame
    | with_reducible apply State.onAxis_frame
    | with_reducible apply State.each_frame
    | with_reducible apply carEvent_frame
    | with_reducible apply bump_frame
    | with_reducible apply State.onCar_frame
    | (intro)
    | (extract_lets +onlyGivenNames yy; clear_value yy; revert yy; intro y2)
    | with_reducible apply SameBut.ite

theorem allocCar_frame {s : State} {a2} {a3} (hs : SameBut x s0 s) (x_ctr : x .ctr = true) (x_cairn : x .cairn = true) (x_loop : x .loop = true) (x_motion : x .motion = true) : SameBut x s0 (allocCar s a2 a3) := by
  unfold allocCar
  repeat' first
    | with_reducible assumption
    | with_reducible apply writeShares_frame
    | with_reducible apply carEvent_frame
    | with_reducible apply bump_frame
    | with_reducible apply State.onCar_frame
    | with_reducible apply SameBut.ite

theorem stopStart_frame {s : State} {a2} (hs : SameBut x s0 s) (x_host : x .host = true) (x_ctr : x .ctr = true) (x_motion : x .motion = true) (x_disp : x .disp = true) : SameBut x s0 (stopStart s a2) := by
  unfold stopStart
  repeat' first
    | with_reducible assumption
    | with_reducible apply State.onCar_frame
    | with_reducible apply report_frame
    | with_reducible apply abandonStart_frame
    | (intro)
    | (extract_lets +onlyGivenNames st; have hst : SameBut x s0 st := ?_; clear_value st; revert st; intro st2 hst2)
    | (extract_lets +onlyGivenNames yy; clear_value yy; revert yy; intro y2)
    | (dsimp -zeta only [st]; clear st)
    | with_reducible apply SameBut.ite
    | split

theorem decideCar_frame {s : State} {s2 : State} {a3} (hs : SameBut x s0 s) (hs2 : SameBut x s0 s2) (x_host : x .host = true) (x_ctr : x .ctr = true) (x_cairn : x .cairn = true) (x_loop : x .loop = true) (x_motion : x .motion = true) (x_disp : x .disp = true) : SameBut x s0 (decideCar s s2 a3) := by
  unfold decideCar
  repeat' first
    | with_reducible assumption
    | with_reducible apply triggers_frame
    | with_reducible apply formFactor_frame
    | with_reducible apply watchStop_frame
    | with_reducible apply stopCar_frame
    | with_reducible apply State.onCar_frame
    | with_reducible apply tryStart_frame
    | with_reducible apply stopStart_frame
    | (intro)
    | (extract_lets +onlyGivenNames st; have hst : SameBut x s0 st := ?_; clear_value st; revert st; intro st2 hst2)
    | (extract_lets +onlyGivenNames yy; clear_value yy; revert yy; intro y2)
    | (dsimp -zeta only [st]; clear st)
    | with_reducible apply SameBut.ite
    | split

theorem holdTest_frame {s : State} {a2} (hs : SameBut x s0 s) (x_host : x .host = true) (x_ctr : x .ctr = true) (x_cairn : x .cairn = true) (x_motion : x .motion = true) (x_disp : x .disp = true) : SameBut x s0 (holdTest s a2) := by
  unfold holdTest
  repeat' first
    | with_reducible assumption
    | with_reducible apply tripCar_frame
    | (extract_lets +onlyGivenNames yy; clear_value yy; revert yy; intro y2)
    | with_reducible apply SameBut.ite

theorem claimCar_frame {s : State} {s2 : State} {a3} (hs : SameBut x s0 s) (hs2 : SameBut x s0 s2) (x_motion : x .motion = true) : SameBut x s0 (claimCar s s2 a3) := by
  unfold claimCar
  repeat' first
    | with_reducible assumption
    | with_reducible apply State.onCar_frame

theorem carProgram_frame {s : State} {s2 : State} {a3} (hs : SameBut x s0 s) (hs2 : SameBut x s0 s2) (x_host : x .host = true) (x_ctr : x .ctr = true) (x_cairn : x .cairn = true) (x_loop : x .loop = true) (x_motion : x .motion = true) (x_disp : x .disp = true) : SameBut x s0 (carProgram s s2 a3) := by
  unfold carProgram
  repeat' first
    | with_reducible assumption
    | with_reducible apply State.onCar_frame
    | with_reducible apply superviseSources_frame
    | with_reducible apply checkAngles_frame
    | with_reducible apply decideCar_frame
    | with_reducible apply holdTest_frame
    | with_reducible apply allocCar_frame
    | with_reducible apply driveCar_frame
    | with_reducible apply claimCar_frame
    | (intro)
    | (extract_lets +onlyGivenNames st; have hst : SameBut x s0 st := ?_; clear_value st; revert st; intro st2 hst2)
    | (extract_lets +onlyGivenNames yy; clear_value yy; revert yy; intro y2)
    | with_reducible apply SameBut.ite
    | split

theorem runCars_frame {s : State} (hs : SameBut x s0 s) (x_host : x .host = true) (x_ctr : x .ctr = true) (x_cairn : x .cairn = true) (x_loop : x .loop = true) (x_motion : x .motion = true) (x_disp : x .disp = true) : SameBut x s0 (runCars s) := by
  unfold runCars
  repeat' first
    | with_reducible assumption
    | with_reducible apply State.each_frame
    | with_reducible apply State.onCar_frame
    | with_reducible apply carProgram_frame
    | (intro)
    | with_reducible apply SameBut.ite

/-! ## Machine/ShaftConfig.lean -/

theorem runCommit_frame {s : State} {a2} {a3} (hs : SameBut x s0 s) (x_host : x .host = true) (x_ctr : x .ctr = true) (x_motion : x .motion = true) : SameBut x s0 (runCommit s a2 a3) := by
  unfold runCommit
  repeat' first
    | with_reducible assumption
    | with_reducible apply State.onShaft_frame
    | with_reducible apply refused_frame
    | (intro)
    | (extract_lets +onlyGivenNames fn; have hfn : ∀ w v, SameBut x s0 (fn w v) := ?_; clear_value fn; revert fn; intro fn2 hfn)
    | (extract_lets +onlyGivenNames yy; clear_value yy; revert yy; intro y2)
    | with_reducible apply hfn
    | split

theorem execShaftConfigLoad_frame {a1} {s : State} (hs : SameBut x s0 s) (x_host : x .host = true) (x_ctr : x .ctr = true) (x_motion : x .motion = true) : Ends (SameBut x s0) (execShaftConfigLoad a1 s) := by
  unfold execShaftConfigLoad
  repeat' first
    | with_reducible assumption
    | with_reducible apply serve_frame
    | with_reducible apply runCommit_frame
    | with_reducible apply ok_frame
    | with_reducible apply State.onShaft_frame
    | (intro)
    | (extract_lets +onlyGivenNames yy; clear_value yy; revert yy; intro y2)
    | with_reducible apply Ends.next
    | split

theorem landCommit_frame {s : State} {a2} {a3} {a4} {a5} (hs : SameBut x s0 s) (x_host : x .host = true) (x_ctr : x .ctr = true) (x_motion : x .motion = true) (x_disp : x .disp = true) (x_nor : x .nor = true) : SameBut x s0 (landCommit s a2 a3 a4 a5) := by
  unfold landCommit
  repeat' first
    | with_reducible assumption
    | with_reducible apply State.onShaft_frame
    | with_reducible apply State.onMotion_frame
    | with_reducible apply report_frame
    | with_reducible apply State.each_frame
    | with_reducible apply State.onCar_frame
    | with_reducible apply ok_frame
    | with_reducible apply store_frame
    | (intro)
    | (extract_lets +onlyGivenNames st; have hst : SameBut x s0 st := ?_; clear_value st; revert st; intro st2 hst2)
    | (extract_lets +onlyGivenNames yy; clear_value yy; revert yy; intro y2)
    | with_reducible apply SameBut.ite

/-! ## Machine/Motion.lean -/

theorem execProfileStatus_frame {a1} {s : State} (hs : SameBut x s0 s) (x_host : x .host = true) (x_ctr : x .ctr = true) : Ends (SameBut x s0) (execProfileStatus a1 s) := by
  unfold execProfileStatus
  repeat' first
    | with_reducible assumption
    | with_reducible apply serve_frame
    | with_reducible apply ok_frame
    | (intro)
    | (extract_lets +onlyGivenNames st; have hst : SameBut x s0 st := ?_; clear_value st; revert st; intro st2 hst2)
    | (extract_lets +onlyGivenNames yy; clear_value yy; revert yy; intro y2)
    | with_reducible apply Ends.next
    | (dsimp -zeta only [st]; clear st)
    | with_reducible apply SameBut.ite
    | split

theorem execEnergyStatus_frame {a1} {s : State} (hs : SameBut x s0 s) (x_host : x .host = true) (x_ctr : x .ctr = true) : Ends (SameBut x s0) (execEnergyStatus a1 s) := by
  unfold execEnergyStatus
  repeat' first
    | with_reducible assumption
    | with_reducible apply serve_frame
    | with_reducible apply ok_frame
    | (intro)
    | (extract_lets +onlyGivenNames yy; clear_value yy; revert yy; intro y2)
    | with_reducible apply Ends.next

theorem execCarStatus_frame {a1} {s : State} (hs : SameBut x s0 s) (x_host : x .host = true) (x_ctr : x .ctr = true) : Ends (SameBut x s0) (execCarStatus a1 s) := by
  unfold execCarStatus
  repeat' first
    | with_reducible assumption
    | with_reducible apply serve_frame
    | with_reducible apply ok_frame
    | (intro)
    | (extract_lets +onlyGivenNames yy; clear_value yy; revert yy; intro y2)
    | with_reducible apply Ends.next

theorem execSegmentStatus_frame {a1} {s : State} (hs : SameBut x s0 s) (x_host : x .host = true) (x_ctr : x .ctr = true) : Ends (SameBut x s0) (execSegmentStatus a1 s) := by
  unfold execSegmentStatus
  repeat' first
    | with_reducible assumption
    | with_reducible apply serve_frame
    | with_reducible apply ok_frame
    | (intro)
    | (extract_lets +onlyGivenNames yy; clear_value yy; revert yy; intro y2)
    | with_reducible apply Ends.next

theorem execProfileLimitsSet_frame {a1} {s : State} (hs : SameBut x s0 s) (x_host : x .host = true) (x_ctr : x .ctr = true) (x_motion : x .motion = true) : Ends (SameBut x s0) (execProfileLimitsSet a1 s) := by
  unfold execProfileLimitsSet
  repeat' first
    | with_reducible assumption
    | with_reducible apply serve_frame
    | with_reducible apply State.onShaft_frame
    | (intro)
    | (extract_lets +onlyGivenNames yy; clear_value yy; revert yy; intro y2)
    | with_reducible apply Ends.next

theorem landLimits_frame {s : State} {a2} {a3} {a4} (hs : SameBut x s0 s) (x_host : x .host = true) (x_ctr : x .ctr = true) (x_motion : x .motion = true) (x_nor : x .nor = true) : SameBut x s0 (landLimits s a2 a3 a4) := by
  unfold landLimits
  repeat' first
    | with_reducible assumption
    | with_reducible apply ok_frame
    | with_reducible apply store_frame
    | with_reducible apply State.onShaft_frame

theorem execEnergyReserveSet_frame {a1} {s : State} (hs : SameBut x s0 s) (x_host : x .host = true) (x_ctr : x .ctr = true) (x_motion : x .motion = true) : Ends (SameBut x s0) (execEnergyReserveSet a1 s) := by
  unfold execEnergyReserveSet
  repeat' first
    | with_reducible assumption
    | with_reducible apply serve_frame
    | with_reducible apply State.onShaft_frame
    | (intro)
    | (extract_lets +onlyGivenNames yy; clear_value yy; revert yy; intro y2)
    | with_reducible apply Ends.next

theorem landEnergy_frame {s : State} {a2} {a3} {a4} (hs : SameBut x s0 s) (x_host : x .host = true) (x_ctr : x .ctr = true) (x_motion : x .motion = true) (x_nor : x .nor = true) : SameBut x s0 (landEnergy s a2 a3 a4) := by
  unfold landEnergy
  repeat' first
    | with_reducible assumption
    | with_reducible apply ok_frame
    | with_reducible apply store_frame
    | with_reducible apply State.onShaft_frame

theorem landShaft_frame {s : State} {a2} (hs : SameBut x s0 s) (x_host : x .host = true) (x_ctr : x .ctr = true) (x_motion : x .motion = true) (x_disp : x .disp = true) (x_nor : x .nor = true) : SameBut x s0 (landShaft s a2) := by
  unfold landShaft
  repeat' first
    | with_reducible assumption
    | with_reducible apply State.onShaft_frame
    | with_reducible apply State.each_frame
    | with_reducible apply landCommit_frame
    | with_reducible apply landLimits_frame
    | with_reducible apply landEnergy_frame
    | (intro)
    | (extract_lets +onlyGivenNames st; have hst : SameBut x s0 st := ?_; clear_value st; revert st; intro st2 hst2)
    | (extract_lets +onlyGivenNames yy; clear_value yy; revert yy; intro y2)
    | (dsimp -zeta only [st]; clear st)
    | with_reducible apply SameBut.ite
    | split

theorem resumeCar_frame {s : State} {a2} {a3} (hs : SameBut x s0 s) (x_ctr : x .ctr = true) (x_cairn : x .cairn = true) (x_loop : x .loop = true) (x_motion : x .motion = true) : SameBut x s0 (resumeCar s a2 a3) := by
  unfold resumeCar
  repeat' first
    | with_reducible assumption
    | with_reducible apply State.onCar_frame
    | with_reducible apply carEvent_frame
    | with_reducible apply beginStart_frame
    | (extract_lets +onlyGivenNames st; have hst : SameBut x s0 st := ?_; clear_value st; revert st; intro st2 hst2)
    | (extract_lets +onlyGivenNames yy; clear_value yy; revert yy; intro y2)
    | with_reducible apply SameBut.ite

theorem takeOutCar_frame {s : State} {a2} (hs : SameBut x s0 s) (x_motion : x .motion = true) (x_disp : x .disp = true) : SameBut x s0 (takeOutCar s a2) := by
  unfold takeOutCar
  repeat' first
    | with_reducible assumption
    | with_reducible apply report_frame
    | with_reducible apply State.onCar_frame
    | (extract_lets +onlyGivenNames yy; clear_value yy; revert yy; intro y2)
    | with_reducible apply SameBut.ite

theorem stopMode_frame {s : State} {a2} {a3} (hs : SameBut x s0 s) (x_host : x .host = true) (x_ctr : x .ctr = true) (x_cairn : x .cairn = true) (x_motion : x .motion = true) (x_disp : x .disp = true) : SameBut x s0 (stopMode s a2 a3) := by
  unfold stopMode
  repeat' first
    | with_reducible assumption
    | with_reducible apply State.onCar_frame
    | with_reducible apply abandonStart_frame
    | with_reducible apply takeOutCar_frame
    | with_reducible apply carEvent_frame
    | (intro)
    | (extract_lets +onlyGivenNames st; have hst : SameBut x s0 st := ?_; clear_value st; revert st; intro st2 hst2)
    | (extract_lets +onlyGivenNames yy; clear_value yy; revert yy; intro y2)
    | (dsimp -zeta only [st]; clear st)
    | with_reducible apply SameBut.ite
    | split

theorem execCarStop_frame {a1} {s : State} (hs : SameBut x s0 s) (x_host : x .host = true) (x_ctr : x .ctr = true) (x_cairn : x .cairn = true) (x_loop : x .loop = true) (x_motion : x .motion = true) (x_disp : x .disp = true) : Ends (SameBut x s0) (execCarStop a1 s) := by
  unfold execCarStop
  repeat' first
    | with_reducible assumption
    | with_reducible apply serve_frame
    | with_reducible apply ok_frame
    | with_reducible apply State.each_frame
    | with_reducible apply resumeCar_frame
    | with_reducible apply refused_frame
    | with_reducible apply stopMode_frame
    | (intro)
    | (extract_lets +onlyGivenNames fn; have hfn : ∀ z, SameBut x s0 z → SameBut x s0 (fn z) := ?_; clear_value fn; revert fn; intro fn2 hfn)
    | (extract_lets +onlyGivenNames yy; clear_value yy; revert yy; intro y2)
    | with_reducible apply hfn
    | with_reducible apply Ends.next
    | with_reducible apply SameBut.ite
    | split

theorem runInspect_frame {s : State} {a2} {a3} (hs : SameBut x s0 s) (x_host : x .host = true) (x_ctr : x .ctr = true) (x_cairn : x .cairn = true) (x_loop : x .loop = true) (x_motion : x .motion = true) : SameBut x s0 (runInspect s a2 a3) := by
  unfold runInspect
  extract_lets n k down hold dist eff rest extend m0 k0 cl start
  have hext : ∀ m, SameBut x s0 (extend m) := fun m => by
    dsimp -zeta only [extend]
    repeat' first
      | with_reducible assumption
      | with_reducible apply refused_frame
      | with_reducible apply ok_frame
      | with_reducible apply State.onCar_frame
      | (intro)
      | (extract_lets +onlyGivenNames st; have hst : SameBut x s0 st := ?_; clear_value st; revert st; intro st2 hst2)
      | (extract_lets +onlyGivenNames yy; clear_value yy; revert yy; intro y2)
      | (dsimp -zeta only [st]; clear st)
      | with_reducible apply SameBut.ite
      | split
  have hstart : ∀ u, SameBut x s0 (start u) := fun u => by
    dsimp only [start]
    repeat' first
      | with_reducible assumption
      | with_reducible apply refused_frame
      | with_reducible apply carEvent_frame
      | with_reducible apply beginStart_frame
      | with_reducible apply State.onCar_frame
      | with_reducible apply SameBut.ite
  clear_value extend start
  repeat' first
    | with_reducible apply hext
    | with_reducible apply hstart
    | with_reducible apply refused_frame
    | with_reducible assumption
    | with_reducible apply SameBut.ite
    | split

theorem execCarInspectMove_frame {a1} {s : State} (hs : SameBut x s0 s) (x_host : x .host = true) (x_ctr : x .ctr = true) (x_cairn : x .cairn = true) (x_loop : x .loop = true) (x_motion : x .motion = true) : Ends (SameBut x s0) (execCarInspectMove a1 s) := by
  unfold execCarInspectMove
  repeat' first
    | with_reducible assumption
    | with_reducible apply serve_frame
    | with_reducible apply runInspect_frame
    | with_reducible apply refused_frame
    | (intro)
    | (extract_lets +onlyGivenNames yy; clear_value yy; revert yy; intro y2)
    | with_reducible apply Ends.next
    | split

theorem onCarCtx_frame {s : State} {a2} {a3 : Sys2Proof.Machine.CarCtx → Sys2Proof.Machine.State} (hs : SameBut x s0 s) (ha3 : ∀ b0, SameBut x s0 (a3 b0)) : SameBut x s0 (onCarCtx s a2 a3) := by
  unfold onCarCtx
  repeat' first
    | with_reducible assumption
    | with_reducible apply ha3
    | split

theorem execCarCutoff_frame {a1} {s : State} (hs : SameBut x s0 s) (x_ctr : x .ctr = true) (x_cairn : x .cairn = true) (x_rings : x .rings = true) (x_red : x .red = true) (x_loop : x .loop = true) (x_motion : x .motion = true) (x_safety : x .safety = true) : Ends (SameBut x s0) (execCarCutoff a1 s) := by
  unfold execCarCutoff
  repeat' first
    | with_reducible assumption
    | with_reducible apply onCarCtx_frame
    | with_reducible apply bump_frame
    | with_reducible apply State.onCar_frame
    | with_reducible apply weaverFault_frame
    | (intro)
    | (extract_lets +onlyGivenNames st; have hst : SameBut x s0 st := ?_; clear_value st; revert st; intro st2 hst2)
    | (extract_lets +onlyGivenNames yy; clear_value yy; revert yy; intro y2)
    | with_reducible apply Ends.next
    | (dsimp -zeta only [st]; clear st)
    | with_reducible apply SameBut.ite
    | split

theorem execPreparingRampDone_frame {a1} {s : State} (hs : SameBut x s0 s) (x_motion : x .motion = true) : Ends (SameBut x s0) (execPreparingRampDone a1 s) := by
  unfold execPreparingRampDone
  repeat' first
    | with_reducible assumption
    | with_reducible apply State.onCar_frame
    | with_reducible apply Ends.next
    | with_reducible apply SameBut.ite

theorem execBrakeReleaseFeedback_frame {a1} {s : State} (hs : SameBut x s0 s) (x_motion : x .motion = true) : Ends (SameBut x s0) (execBrakeReleaseFeedback a1 s) := by
  unfold execBrakeReleaseFeedback
  repeat' first
    | with_reducible assumption
    | with_reducible apply State.onCar_frame
    | (extract_lets +onlyGivenNames yy; clear_value yy; revert yy; intro y2)
    | with_reducible apply Ends.next
    | with_reducible apply SameBut.ite

theorem execBrktTimeout_frame {a1} {s : State} (hs : SameBut x s0 s) (x_host : x .host = true) (x_ctr : x .ctr = true) (x_cairn : x .cairn = true) (x_motion : x .motion = true) (x_disp : x .disp = true) : Ends (SameBut x s0) (execBrktTimeout a1 s) := by
  unfold execBrktTimeout
  repeat' first
    | with_reducible assumption
    | with_reducible apply onCarCtx_frame
    | with_reducible apply report_frame
    | with_reducible apply carEvent_frame
    | with_reducible apply abandonStart_frame
    | with_reducible apply State.onCar_frame
    | with_reducible apply takeOutCar_frame
    | (intro)
    | (extract_lets +onlyGivenNames st; have hst : SameBut x s0 st := ?_; clear_value st; revert st; intro st2 hst2)
    | (extract_lets +onlyGivenNames yy; clear_value yy; revert yy; intro y2)
    | with_reducible apply Ends.next
    | (dsimp -zeta only [st]; clear st)
    | with_reducible apply SameBut.ite
    | split

theorem execWeighingEnd_frame {a1} {s : State} (hs : SameBut x s0 s) (x_host : x .host = true) (x_ctr : x .ctr = true) (x_cairn : x .cairn = true) (x_motion : x .motion = true) (x_disp : x .disp = true) : Ends (SameBut x s0) (execWeighingEnd a1 s) := by
  unfold execWeighingEnd
  repeat' first
    | with_reducible assumption
    | with_reducible apply onCarCtx_frame
    | with_reducible apply endWeighing_frame
    | (intro)
    | (extract_lets +onlyGivenNames yy; clear_value yy; revert yy; intro y2)
    | with_reducible apply Ends.next
    | with_reducible apply SameBut.ite

theorem execPrestartRetry_frame {a1} {s : State} (hs : SameBut x s0 s) (x_motion : x .motion = true) : Ends (SameBut x s0) (execPrestartRetry a1 s) := by
  unfold execPrestartRetry
  repeat' first
    | with_reducible assumption
    | with_reducible apply State.onCar_frame
    | with_reducible apply Ends.next

theorem execStopHoldEnd_frame {a1} {s : State} (hs : SameBut x s0 s) (x_motion : x .motion = true) : Ends (SameBut x s0) (execStopHoldEnd a1 s) := by
  unfold execStopHoldEnd
  repeat' first
    | with_reducible assumption
    | with_reducible apply State.onCar_frame
    | (extract_lets +onlyGivenNames yy; clear_value yy; revert yy; intro y2)
    | with_reducible apply Ends.next
    | with_reducible apply SameBut.ite

theorem backToRest_frame {s : State} {a2} {a3} (hs : SameBut x s0 s) (x_motion : x .motion = true) (x_disp : x .disp = true) : SameBut x s0 (backToRest s a2 a3) := by
  unfold backToRest
  repeat' first
    | with_reducible assumption
    | with_reducible apply State.onCar_frame
    | with_reducible apply takeOutCar_frame
    | (extract_lets +onlyGivenNames st; have hst : SameBut x s0 st := ?_; clear_value st; revert st; intro st2 hst2)
    | (extract_lets +onlyGivenNames yy; clear_value yy; revert yy; intro y2)
    | with_reducible apply SameBut.ite

theorem execBrakeEngagedFeedback_frame {a1} {s : State} (hs : SameBut x s0 s) (x_ctr : x .ctr = true) (x_cairn : x .cairn = true) (x_motion : x .motion = true) (x_disp : x .disp = true) : Ends (SameBut x s0) (execBrakeEngagedFeedback a1 s) := by
  unfold execBrakeEngagedFeedback
  repeat' first
    | with_reducible assumption
    | with_reducible apply onCarCtx_frame
    | with_reducible apply State.onCar_frame
    | with_reducible apply carEvent_frame
    | with_reducible apply takeOutCar_frame
    | with_reducible apply backToRest_frame
    | (intro)
    | (extract_lets +onlyGivenNames st; have hst : SameBut x s0 st := ?_; clear_value st; revert st; intro st2 hst2)
    | (extract_lets +onlyGivenNames yy; clear_value yy; revert yy; intro y2)
    | with_reducible apply Ends.next
    | with_reducible apply SameBut.ite
    | split

theorem execRescueEnd_frame {a1} {s : State} (hs : SameBut x s0 s) (x_ctr : x .ctr = true) (x_cairn : x .cairn = true) (x_motion : x .motion = true) : Ends (SameBut x s0) (execRescueEnd a1 s) := by
  unfold execRescueEnd
  repeat' first
    | with_reducible assumption
    | with_reducible apply crestEvent_frame
    | with_reducible apply State.onShaft_frame
    | (extract_lets +onlyGivenNames yy; clear_value yy; revert yy; intro y2)
    | with_reducible apply Ends.next
    | with_reducible apply SameBut.ite
    | split

theorem execInspectionHoldExpiry_frame {a1} {s : State} (hs : SameBut x s0 s) (x_motion : x .motion = true) : Ends (SameBut x s0) (execInspectionHoldExpiry a1 s) := by
  unfold execInspectionHoldExpiry
  repeat' first
    | with_reducible assumption
    | with_reducible apply onCarCtx_frame
    | with_reducible apply State.onCar_frame
    | (intro)
    | (extract_lets +onlyGivenNames st; have hst : SameBut x s0 st := ?_; clear_value st; revert st; intro st2 hst2)
    | (extract_lets +onlyGivenNames yy; clear_value yy; revert yy; intro y2)
    | with_reducible apply Ends.next
    | (dsimp -zeta only [st]; clear st)
    | with_reducible apply SameBut.ite
    | split

theorem execInspectionBrakeDelay_frame {a1} {s : State} (hs : SameBut x s0 s) (x_motion : x .motion = true) : Ends (SameBut x s0) (execInspectionBrakeDelay a1 s) := by
  unfold execInspectionBrakeDelay
  repeat' first
    | with_reducible assumption
    | with_reducible apply State.onCar_frame
    | (extract_lets +onlyGivenNames yy; clear_value yy; revert yy; intro y2)
    | with_reducible apply Ends.next
    | with_reducible apply SameBut.ite

theorem execBmsStale_frame {a1} {s : State} (hs : SameBut x s0 s) (x_ctr : x .ctr = true) (x_cairn : x .cairn = true) (x_motion : x .motion = true) : Ends (SameBut x s0) (execBmsStale a1 s) := by
  unfold execBmsStale
  repeat' first
    | with_reducible assumption
    | with_reducible apply crestEvent_frame
    | with_reducible apply bump_frame
    | with_reducible apply State.onShaft_frame
    | (extract_lets +onlyGivenNames yy; clear_value yy; revert yy; intro y2)
    | with_reducible apply Ends.next
    | with_reducible apply SameBut.ite
    | split

end Sys2Proof.Machine
end

