-- ==== Sys2Proof/Laws/FrameDoors.lean ====
section
/-! SUPPORT. The components that an operation may change: the CAN controllers, the datagrams, the doors and the planning. Each lemma says that its
operation changes no component but those that `x` names. -/

namespace Sys2Proof.Machine

open Sys2Proof

variable {x : Comp → Bool} {s0 : State}

/-! ## Machine/FieldOps.lean -/

theorem fieldEvent_frame {s : State} {a2} {a3} {a4} (hs : SameBut x s0 s) (x_ctr : x .ctr = true) (x_cairn : x .cairn = true) : SameBut x s0 (fieldEvent s a2 a3 a4) := by
  unfold fieldEvent
  repeat' first
    | with_reducible assumption
    | with_reducible apply raise_frame

theorem landDo_frame {s : State} (hs : SameBut x s0 s) (x_host : x .host = true) (x_ctr : x .ctr = true) (x_field : x .field = true) : SameBut x s0 (landDo s) := by
  unfold landDo
  repeat' first
    | with_reducible assumption
    | with_reducible apply State.onField_frame
    | with_reducible apply State.each_frame
    | with_reducible apply ok_frame
    | (intro)
    | (extract_lets +onlyGivenNames st; have hst : SameBut x s0 st := ?_; clear_value st; revert st; intro st2 hst2)
    | (extract_lets +onlyGivenNames yy; clear_value yy; revert yy; intro y2)
    | with_reducible apply SameBut.ite
    | split

theorem instantDo_frame {s : State} (hs : SameBut x s0 s) (x_host : x .host = true) (x_ctr : x .ctr = true) (x_cairn : x .cairn = true) (x_field : x .field = true) (x_nor : x .nor = true) : SameBut x s0 (instantDo s) := by
  unfold instantDo
  repeat' first
    | with_reducible assumption
    | with_reducible apply fieldEvent_frame
    | with_reducible apply State.onField_frame
    | with_reducible apply State.each_frame
    | with_reducible apply ok_frame
    | with_reducible apply store_frame
    | (intro)
    | with_reducible apply SameBut.ite

theorem stopAtOnce_frame {s : State} {a2} (hs : SameBut x s0 s) (x_ctr : x .ctr = true) (x_cairn : x .cairn = true) (x_field : x .field = true) : SameBut x s0 (stopAtOnce s a2) := by
  unfold stopAtOnce
  repeat' first
    | with_reducible assumption
    | with_reducible apply State.onStp_frame
    | with_reducible apply fieldEvent_frame
    | with_reducible apply bump_frame
    | (extract_lets +onlyGivenNames st; have hst : SameBut x s0 st := ?_; clear_value st; revert st; intro st2 hst2)
    | (extract_lets +onlyGivenNames yy; clear_value yy; revert yy; intro y2)
    | with_reducible apply SameBut.ite

theorem instantStep_frame {s : State} {a2} (hs : SameBut x s0 s) (x_ctr : x .ctr = true) (x_cairn : x .cairn = true) (x_field : x .field = true) : SameBut x s0 (instantStep s a2) := by
  unfold instantStep
  repeat' first
    | with_reducible assumption
    | with_reducible apply stopAtOnce_frame
    | with_reducible apply State.onStp_frame
    | (extract_lets +onlyGivenNames yy; clear_value yy; revert yy; intro y2)
    | with_reducible apply SameBut.ite
    | split

theorem landMove_frame {s : State} {a2} {a3} {a4} (hs : SameBut x s0 s) (x_field : x .field = true) : SameBut x s0 (landMove s a2 a3 a4) := by
  unfold landMove
  repeat' first
    | with_reducible assumption
    | with_reducible apply State.onStp_frame

theorem landField1_frame {s : State} {a2} (hs : SameBut x s0 s) (x_field : x .field = true) : SameBut x s0 (landField1 s a2) := by
  unfold landField1
  repeat' first
    | with_reducible assumption
    | with_reducible apply State.onPwm_frame
    | with_reducible apply State.onSd_frame
    | with_reducible apply State.onAi_frame
    | with_reducible apply State.onQa_frame
    | with_reducible apply State.each_frame
    | with_reducible apply State.onDi_frame
    | (intro)
    | split

theorem landField_frame {s : State} (hs : SameBut x s0 s) (x_host : x .host = true) (x_ctr : x .ctr = true) (x_field : x .field = true) (x_nor : x .nor = true) : SameBut x s0 (landField s) := by
  unfold landField
  repeat' first
    | with_reducible assumption
    | with_reducible apply landDo_frame
    | with_reducible apply State.onField_frame
    | with_reducible apply State.each_frame
    | with_reducible apply ok_frame
    | with_reducible apply store_frame
    | with_reducible apply landField1_frame
    | with_reducible apply landMove_frame
    | (intro)
    | with_reducible apply SameBut.ite

theorem encoderFault_frame {s : State} {a2} (hs : SameBut x s0 s) (x_ctr : x .ctr = true) (x_cairn : x .cairn = true) (x_field : x .field = true) : SameBut x s0 (encoderFault s a2) := by
  unfold encoderFault
  repeat' first
    | with_reducible assumption
    | with_reducible apply fieldEvent_frame
    | with_reducible apply bump_frame
    | with_reducible apply State.onQa_frame
    | (extract_lets +onlyGivenNames yy; clear_value yy; revert yy; intro y2)
    | with_reducible apply SameBut.ite

theorem sdFaulty_frame {s : State} {a2} (hs : SameBut x s0 s) (x_ctr : x .ctr = true) (x_cairn : x .cairn = true) (x_field : x .field = true) : SameBut x s0 (sdFaulty s a2) := by
  unfold sdFaulty
  repeat' first
    | with_reducible assumption
    | with_reducible apply fieldEvent_frame
    | with_reducible apply bump_frame
    | with_reducible apply State.onSd_frame
    | with_reducible apply SameBut.ite

theorem aiFaulty_frame {s : State} {a2} (hs : SameBut x s0 s) (x_ctr : x .ctr = true) (x_cairn : x .cairn = true) (x_field : x .field = true) : SameBut x s0 (aiFaulty s a2) := by
  unfold aiFaulty
  repeat' first
    | with_reducible assumption
    | with_reducible apply fieldEvent_frame
    | with_reducible apply bump_frame
    | with_reducible apply State.onAi_frame
    | with_reducible apply SameBut.ite

theorem deadFront_frame {s : State} {a2} (hs : SameBut x s0 s) (x_ctr : x .ctr = true) (x_cairn : x .cairn = true) (x_field : x .field = true) : SameBut x s0 (deadFront s a2) := by
  unfold deadFront
  repeat' first
    | with_reducible assumption
    | with_reducible apply aiFaulty_frame
    | with_reducible apply encoderFault_frame
    | with_reducible apply SameBut.ite

theorem frontFrame_frame {s : State} {a2} {a3} (hs : SameBut x s0 s) (x_ctr : x .ctr = true) (x_cairn : x .cairn = true) (x_field : x .field = true) : SameBut x s0 (frontFrame s a2 a3) := by
  unfold frontFrame
  repeat' first
    | with_reducible assumption
    | with_reducible apply sdFaulty_frame
    | with_reducible apply bump_frame
    | with_reducible apply State.onField_frame
    | with_reducible apply deadFront_frame
    | (extract_lets +onlyGivenNames st; have hst : SameBut x s0 st := ?_; clear_value st; revert st; intro st2 hst2)
    | (extract_lets +onlyGivenNames yy; clear_value yy; revert yy; intro y2)
    | with_reducible apply SameBut.ite

theorem instantPwm_frame {s : State} {a2} (hs : SameBut x s0 s) (x_field : x .field = true) : SameBut x s0 (instantPwm s a2) := by
  unfold instantPwm
  repeat' first
    | with_reducible assumption
    | with_reducible apply State.onPwm_frame
    | (extract_lets +onlyGivenNames yy; clear_value yy; revert yy; intro y2)
    | with_reducible apply SameBut.ite

theorem instantField_frame {s : State} {a2} (hs : SameBut x s0 s) (x_host : x .host = true) (x_ctr : x .ctr = true) (x_cairn : x .cairn = true) (x_field : x .field = true) (x_nor : x .nor = true) : SameBut x s0 (instantField s a2) := by
  unfold instantField
  extract_lets bad st1 st2 st3 st4 st5 st6 st7
  have h1 : SameBut x s0 st1 := State.each_frame hs fun _ _ h => frontFrame_frame h x_ctr x_cairn x_field
  clear_value st1
  split
  · exact h1
  · have h2 : SameBut x s0 st2 := SameBut.ite h1 (State.onField_frame h1 x_field)
    clear_value st2
    have h3 : SameBut x s0 st3 := SameBut.ite h2 (instantDo_frame h2 x_host x_ctr x_cairn x_field x_nor)
    clear_value st3
    have h4 : SameBut x s0 st4 := State.onField_frame h3 x_field
    clear_value st4
    have h5 : SameBut x s0 st5 := State.each_frame h4 fun _ _ h => SameBut.ite h (State.onQa_frame h x_field)
    clear_value st5
    have h6 : SameBut x s0 st6 := State.each_frame h5 fun _ _ h => SameBut.ite h (State.onSd_frame h x_field)
    clear_value st6
    have h7 : SameBut x s0 st7 := State.each_frame h6 fun _ _ h => instantPwm_frame h x_field
    clear_value st7
    exact State.each_frame h7 fun _ _ h => instantStep_frame h x_ctr x_cairn x_field

theorem fieldOff_frame {s : State} (hs : SameBut x s0 s) (x_ctr : x .ctr = true) (x_cairn : x .cairn = true) (x_field : x .field = true) : SameBut x s0 (fieldOff s) := by
  unfold fieldOff
  repeat' first
    | with_reducible assumption
    | with_reducible apply State.each_frame
    | with_reducible apply stopAtOnce_frame
    | with_reducible apply State.onField_frame
    | (intro)
    | (extract_lets +onlyGivenNames st; have hst : SameBut x s0 st := ?_; clear_value st; revert st; intro st2 hst2)
    | (extract_lets +onlyGivenNames yy; clear_value yy; revert yy; intro y2)
    | with_reducible apply SameBut.ite
    | split

theorem pwmPeriod_frame {s : State} {a2} {a3} (hs : SameBut x s0 s) (x_ctr : x .ctr = true) (x_field : x .field = true) : SameBut x s0 (pwmPeriod s a2 a3) := by
  unfold pwmPeriod
  repeat' first
    | with_reducible assumption
    | with_reducible apply State.onPwm_frame
    | with_reducible apply bump_frame
    | (intro)
    | (extract_lets +onlyGivenNames st; have hst : SameBut x s0 st := ?_; clear_value st; revert st; intro st2 hst2)
    | (extract_lets +onlyGivenNames fn; have hfn : ∀ z, SameBut x s0 z → SameBut x s0 (fn z) := ?_; clear_value fn; revert fn; intro fn2 hfn)
    | (extract_lets +onlyGivenNames yy; clear_value yy; revert yy; intro y2)
    | (dsimp -zeta only [st]; clear st)
    | (dsimp -zeta only [fn]; clear fn)
    | with_reducible apply SameBut.ite
    | split

theorem instantEnergy_frame {s : State} {a2} (hs : SameBut x s0 s) (x_ctr : x .ctr = true) (x_cairn : x .cairn = true) (x_motion : x .motion = true) : SameBut x s0 (instantEnergy s a2) := by
  unfold instantEnergy
  repeat' first
    | with_reducible assumption
    | with_reducible apply State.onShaft_frame
    | with_reducible apply crestEvent_frame
    | (intro)
    | (extract_lets +onlyGivenNames st; have hst : SameBut x s0 st := ?_; clear_value st; revert st; intro st2 hst2)
    | (extract_lets +onlyGivenNames yy; clear_value yy; revert yy; intro y2)
    | (dsimp -zeta only [st]; clear st)
    | with_reducible apply SameBut.ite
    | split

/-! ## Machine/Can.lean -/

theorem State.onCh_frame {s : State} {a2} {a3} (hs : SameBut x s0 s) (x_can : x .can = true) : SameBut x s0 (State.onCh s a2 a3) := by
  unfold State.onCh
  repeat' first
    | with_reducible assumption
    | with_reducible apply State.onCan_frame

theorem State.onObj_frame {s : State} {a2} {a3} (hs : SameBut x s0 s) (x_can : x .can = true) : SameBut x s0 (State.onObj s a2 a3) := by
  unfold State.onObj
  repeat' first
    | with_reducible assumption
    | with_reducible apply State.onCan_frame

theorem canEvent_frame {s : State} {a2} {a3} {a4} (hs : SameBut x s0 s) (x_ctr : x .ctr = true) (x_cairn : x .cairn = true) : SameBut x s0 (canEvent s a2 a3 a4) := by
  unfold canEvent
  repeat' first
    | with_reducible assumption
    | with_reducible apply raise_frame

theorem countCan_frame {s : State} {a2} {a3} (hs : SameBut x s0 s) (x_ctr : x .ctr = true) (x_can : x .can = true) : SameBut x s0 (countCan s a2 a3) := by
  unfold countCan
  repeat' first
    | with_reducible assumption
    | with_reducible apply State.onCh_frame
    | with_reducible apply bump_frame
    | (extract_lets +onlyGivenNames st; have hst : SameBut x s0 st := ?_; clear_value st; revert st; intro st2 hst2)
    | split

theorem capture_frame {s : State} {a2} {a3} (hs : SameBut x s0 s) (x_ctr : x .ctr = true) (x_cairn : x .cairn = true) (x_can : x .can = true) : SameBut x s0 (capture s a2 a3) := by
  unfold capture
  repeat' first
    | with_reducible assumption
    | with_reducible apply canEvent_frame
    | with_reducible apply countCan_frame
    | with_reducible apply State.onObj_frame
    | (intro)
    | (extract_lets +onlyGivenNames st; have hst : SameBut x s0 st := ?_; clear_value st; revert st; intro st2 hst2)
    | (extract_lets +onlyGivenNames fn; have hfn : ∀ z, SameBut x s0 z → SameBut x s0 (fn z) := ?_; clear_value fn; revert fn; intro fn2 hfn)
    | (extract_lets +onlyGivenNames yy; clear_value yy; revert yy; intro y2)
    | with_reducible apply hfn
    | with_reducible apply SameBut.ite

theorem storeFrame_frame {s : State} {a2} {a3} (hs : SameBut x s0 s) (x_ctr : x .ctr = true) (x_cairn : x .cairn = true) (x_can : x .can = true) : SameBut x s0 (storeFrame s a2 a3) := by
  unfold storeFrame
  repeat' first
    | with_reducible assumption
    | with_reducible apply State.onCh_frame
    | with_reducible apply canEvent_frame
    | with_reducible apply countCan_frame
    | (extract_lets +onlyGivenNames st; have hst : SameBut x s0 st := ?_; clear_value st; revert st; intro st2 hst2)
    | (extract_lets +onlyGivenNames yy; clear_value yy; revert yy; intro y2)
    | with_reducible apply SameBut.ite

theorem addError_frame {s : State} {a2} {a3} {a4} (hs : SameBut x s0 s) (x_ctr : x .ctr = true) (x_cairn : x .cairn = true) (x_can : x .can = true) : SameBut x s0 (addError s a2 a3 a4) := by
  unfold addError
  repeat' first
    | with_reducible assumption
    | with_reducible apply State.onCh_frame
    | with_reducible apply canEvent_frame
    | (extract_lets +onlyGivenNames st; have hst : SameBut x s0 st := ?_; clear_value st; revert st; intro st2 hst2)
    | (extract_lets +onlyGivenNames yy; clear_value yy; revert yy; intro y2)
    | with_reducible apply SameBut.ite

theorem endDelays_frame {s : State} {a2} {a3} (hs : SameBut x s0 s) (x_can : x .can = true) : SameBut x s0 (endDelays s a2 a3) := by
  unfold endDelays
  repeat' first
    | with_reducible assumption
    | with_reducible apply State.each_frame
    | with_reducible apply State.onObj_frame
    | (intro)
    | with_reducible apply SameBut.ite

theorem execCanFrameRx_frame {a1} {a2} {a3} {s : State} (hs : SameBut x s0 s) (x_ctr : x .ctr = true) (x_cairn : x .cairn = true) (x_can : x .can = true) : Ends (SameBut x s0) (execCanFrameRx a1 a2 a3 s) := by
  unfold execCanFrameRx
  repeat' first
    | with_reducible assumption
    | with_reducible apply State.onCh_frame
    | with_reducible apply endDelays_frame
    | with_reducible apply countCan_frame
    | with_reducible apply storeFrame_frame
    | with_reducible apply capture_frame
    | (intro)
    | (extract_lets +onlyGivenNames st; have hst : SameBut x s0 st := ?_; clear_value st; revert st; intro st2 hst2)
    | (extract_lets +onlyGivenNames yy; clear_value yy; revert yy; intro y2)
    | with_reducible apply Ends.next
    | (dsimp -zeta only [st]; clear st)
    | with_reducible apply SameBut.ite
    | split

theorem execCanDrain_frame {a1} {a2} {s : State} (hs : SameBut x s0 s) (x_can : x .can = true) : Ends (SameBut x s0) (execCanDrain a1 a2 s) := by
  unfold execCanDrain
  repeat' first
    | with_reducible assumption
    | with_reducible apply State.onCh_frame
    | (intro)
    | with_reducible apply Ends.next
    | with_reducible apply SameBut.ite
    | split

theorem execObjWord0Read_frame {a1} {s : State} (hs : SameBut x s0 s) (x_can : x .can = true) : Ends (SameBut x s0) (execObjWord0Read a1 s) := by
  unfold execObjWord0Read
  repeat' first
    | with_reducible assumption
    | with_reducible apply State.onObj_frame
    | with_reducible apply Ends.next
    | with_reducible apply SameBut.ite

theorem execObjWord22Read_frame {a1} {s : State} (hs : SameBut x s0 s) (x_can : x .can = true) : Ends (SameBut x s0) (execObjWord22Read a1 s) := by
  unfold execObjWord22Read
  repeat' first
    | with_reducible assumption
    | with_reducible apply State.onObj_frame
    | with_reducible apply Ends.next
    | with_reducible apply SameBut.ite

theorem execObjLockExpiry_frame {a1} {s : State} (hs : SameBut x s0 s) (x_ctr : x .ctr = true) (x_can : x .can = true) : Ends (SameBut x s0) (execObjLockExpiry a1 s) := by
  unfold execObjLockExpiry
  repeat' first
    | with_reducible assumption
    | with_reducible apply countCan_frame
    | with_reducible apply State.onObj_frame
    | with_reducible apply Ends.next
    | with_reducible apply SameBut.ite

theorem armObj_frame {s : State} {a2} {a3} {a4} (hs : SameBut x s0 s) (x_host : x .host = true) (x_ctr : x .ctr = true) (x_can : x .can = true) : SameBut x s0 (armObj s a2 a3 a4) := by
  unfold armObj
  repeat' first
    | with_reducible assumption
    | with_reducible apply State.onObj_frame
    | with_reducible apply ok_frame
    | (extract_lets +onlyGivenNames st; have hst : SameBut x s0 st := ?_; clear_value st; revert st; intro st2 hst2)
    | (extract_lets +onlyGivenNames yy; clear_value yy; revert yy; intro y2)
    | with_reducible apply SameBut.ite
    | split

theorem endAttempt_frame {s : State} {a2} (hs : SameBut x s0 s) (x_host : x .host = true) (x_ctr : x .ctr = true) (x_can : x .can = true) : SameBut x s0 (endAttempt s a2) := by
  unfold endAttempt
  repeat' first
    | with_reducible assumption
    | with_reducible apply armObj_frame
    | with_reducible apply State.onObj_frame
    | split

theorem drawBackoff_frame {s : State} {a2} (hs : SameBut x s0 s) (x_ctr : x .ctr = true) (x_can : x .can = true) : SameBut x s0 (drawBackoff s a2) := by
  unfold drawBackoff
  repeat' first
    | with_reducible assumption
    | with_reducible apply draw_frame_proj
    | with_reducible apply countCan_frame
    | with_reducible apply State.onObj_frame
    | with_reducible apply State.onCh_frame

theorem applyCan_frame {s : State} {a2} (hs : SameBut x s0 s) (x_can : x .can = true) : SameBut x s0 (applyCan s a2) := by
  unfold applyCan
  repeat' first
    | with_reducible assumption
    | with_reducible apply State.onCh_frame

theorem execCanBusIdle_frame {a1} {s : State} (hs : SameBut x s0 s) (x_host : x .host = true) (x_ctr : x .ctr = true) (x_can : x .can = true) : Ends (SameBut x s0) (execCanBusIdle a1 s) := by
  unfold execCanBusIdle
  repeat' first
    | with_reducible assumption
    | with_reducible apply State.each_frame
    | with_reducible apply endAttempt_frame
    | with_reducible apply applyCan_frame
    | with_reducible apply drawBackoff_frame
    | with_reducible apply endDelays_frame
    | with_reducible apply State.onObj_frame
    | (intro)
    | (extract_lets +onlyGivenNames st; have hst : SameBut x s0 st := ?_; clear_value st; revert st; intro st2 hst2)
    | with_reducible apply Ends.next
    | with_reducible apply SameBut.ite
    | split

theorem execCanTxSuccess_frame {a1} {a2} {s : State} (hs : SameBut x s0 s) (x_host : x .host = true) (x_ctr : x .ctr = true) (x_cairn : x .cairn = true) (x_can : x .can = true) : Ends (SameBut x s0) (execCanTxSuccess a1 a2 s) := by
  unfold execCanTxSuccess
  repeat' first
    | with_reducible assumption
    | with_reducible apply countCan_frame
    | with_reducible apply storeFrame_frame
    | with_reducible apply State.onCh_frame
    | with_reducible apply State.onObj_frame
    | with_reducible apply ok_frame
    | with_reducible apply armObj_frame
    | (intro)
    | (extract_lets +onlyGivenNames st; have hst : SameBut x s0 st := ?_; clear_value st; revert st; intro st2 hst2)
    | (extract_lets +onlyGivenNames yy; clear_value yy; revert yy; intro y2)
    | with_reducible apply Ends.next
    | (dsimp -zeta only [st]; clear st)
    | with_reducible apply SameBut.ite
    | split

theorem execCanCollision_frame {a1} {s : State} (hs : SameBut x s0 s) (x_host : x .host = true) (x_ctr : x .ctr = true) (x_cairn : x .cairn = true) (x_can : x .can = true) : Ends (SameBut x s0) (execCanCollision a1 s) := by
  unfold execCanCollision
  repeat' first
    | with_reducible assumption
    | with_reducible apply countCan_frame
    | with_reducible apply State.onObj_frame
    | with_reducible apply addError_frame
    | with_reducible apply canEvent_frame
    | with_reducible apply drawBackoff_frame
    | with_reducible apply recordOnly_frame
    | with_reducible apply endAttempt_frame
    | (intro)
    | (extract_lets +onlyGivenNames st; have hst : SameBut x s0 st := ?_; clear_value st; revert st; intro st2 hst2)
    | (extract_lets +onlyGivenNames yy; clear_value yy; revert yy; intro y2)
    | with_reducible apply Ends.next
    | (dsimp -zeta only [st]; clear st)
    | with_reducible apply SameBut.ite
    | split

theorem execCanBackoffEnd_frame {a1} {s : State} (hs : SameBut x s0 s) (x_can : x .can = true) : Ends (SameBut x s0) (execCanBackoffEnd a1 s) := by
  unfold execCanBackoffEnd
  repeat' first
    | with_reducible assumption
    | with_reducible apply State.onObj_frame
    | with_reducible apply Ends.next
    | with_reducible apply SameBut.ite

theorem execCanErrorDetected_frame {a1} {a2} {s : State} (hs : SameBut x s0 s) (x_host : x .host = true) (x_ctr : x .ctr = true) (x_cairn : x .cairn = true) (x_can : x .can = true) : Ends (SameBut x s0) (execCanErrorDetected a1 a2 s) := by
  unfold execCanErrorDetected
  repeat' first
    | with_reducible assumption
    | with_reducible apply countCan_frame
    | with_reducible apply addError_frame
    | with_reducible apply endAttempt_frame
    | with_reducible apply endDelays_frame
    | (extract_lets +onlyGivenNames st; have hst : SameBut x s0 st := ?_; clear_value st; revert st; intro st2 hst2)
    | with_reducible apply Ends.next
    | with_reducible apply SameBut.ite
    | split

theorem execCanBusOff_frame {a1} {s : State} (hs : SameBut x s0 s) (x_host : x .host = true) (x_ctr : x .ctr = true) (x_cairn : x .cairn = true) (x_can : x .can = true) : Ends (SameBut x s0) (execCanBusOff a1 s) := by
  unfold execCanBusOff
  repeat' first
    | with_reducible assumption
    | with_reducible apply endAttempt_frame
    | with_reducible apply canEvent_frame
    | with_reducible apply countCan_frame
    | with_reducible apply State.onCh_frame
    | (extract_lets +onlyGivenNames st; have hst : SameBut x s0 st := ?_; clear_value st; revert st; intro st2 hst2)
    | (extract_lets +onlyGivenNames yy; clear_value yy; revert yy; intro y2)
    | with_reducible apply Ends.next
    | (dsimp -zeta only [st]; clear st)
    | with_reducible apply SameBut.ite
    | split

theorem execCanRecoveryDone_frame {a1} {s : State} (hs : SameBut x s0 s) (x_host : x .host = true) (x_ctr : x .ctr = true) (x_cairn : x .cairn = true) (x_can : x .can = true) : Ends (SameBut x s0) (execCanRecoveryDone a1 s) := by
  unfold execCanRecoveryDone
  repeat' first
    | with_reducible assumption
    | with_reducible apply State.onCh_frame
    | with_reducible apply ok_frame
    | with_reducible apply canEvent_frame
    | (extract_lets +onlyGivenNames st; have hst : SameBut x s0 st := ?_; clear_value st; revert st; intro st2 hst2)
    | (extract_lets +onlyGivenNames yy; clear_value yy; revert yy; intro y2)
    | with_reducible apply Ends.next
    | with_reducible apply SameBut.ite
    | split

theorem execCanWake_frame {a1} {s : State} (hs : SameBut x s0 s) (x_pow : x .pow = true) (x_ctr : x .ctr = true) (x_cairn : x .cairn = true) (x_can : x .can = true) : Ends (SameBut x s0) (execCanWake a1 s) := by
  unfold execCanWake
  repeat' first
    | with_reducible assumption
    | with_reducible apply s3Wake_frame
    | with_reducible apply State.onCh_frame
    | with_reducible apply canEvent_frame
    | (intro)
    | (extract_lets +onlyGivenNames st; have hst : SameBut x s0 st := ?_; clear_value st; revert st; intro st2 hst2)
    | (extract_lets +onlyGivenNames yy; clear_value yy; revert yy; intro y2)
    | with_reducible apply Ends.next
    | (dsimp -zeta only [st]; clear st)
    | with_reducible apply SameBut.ite
    | split

theorem execObjArm_frame {a1} {a2} {s : State} (hs : SameBut x s0 s) (x_host : x .host = true) (x_ctr : x .ctr = true) (x_can : x .can = true) : Ends (SameBut x s0) (execObjArm a1 a2 s) := by
  unfold execObjArm
  repeat' first
    | with_reducible assumption
    | with_reducible apply State.onObj_frame
    | with_reducible apply armObj_frame
    | with_reducible apply Ends.next
    | with_reducible apply SameBut.ite

theorem execCanReferenceDue_frame {a1} {s : State} (hs : SameBut x s0 s) (x_host : x .host = true) (x_ctr : x .ctr = true) (x_can : x .can = true) : Ends (SameBut x s0) (execCanReferenceDue a1 s) := by
  unfold execCanReferenceDue
  repeat' first
    | with_reducible assumption
    | with_reducible apply countCan_frame
    | with_reducible apply State.onObj_frame
    | with_reducible apply armObj_frame
    | (extract_lets +onlyGivenNames st; have hst : SameBut x s0 st := ?_; clear_value st; revert st; intro st2 hst2)
    | (extract_lets +onlyGivenNames yy; clear_value yy; revert yy; intro y2)
    | with_reducible apply Ends.next
    | (dsimp -zeta only [st]; clear st)
    | with_reducible apply SameBut.ite

theorem execBmsReport_frame {a1} {s : State} (hs : SameBut x s0 s) (x_ctr : x .ctr = true) (x_cairn : x .cairn = true) (x_motion : x .motion = true) (x_can : x .can = true) : Ends (SameBut x s0) (execBmsReport a1 s) := by
  unfold execBmsReport
  repeat' first
    | with_reducible assumption
    | with_reducible apply State.onObj_frame
    | with_reducible apply canEvent_frame
    | with_reducible apply State.onCan_frame
    | with_reducible apply State.onShaft_frame
    | (intro)
    | (extract_lets +onlyGivenNames st; have hst : SameBut x s0 st := ?_; clear_value st; revert st; intro st2 hst2)
    | (extract_lets +onlyGivenNames yy; clear_value yy; revert yy; intro y2)
    | with_reducible apply Ends.next
    | (dsimp -zeta only [st]; clear st)
    | with_reducible apply SameBut.ite
    | split

theorem execCanStatus_frame {a1} {s : State} (hs : SameBut x s0 s) (x_host : x .host = true) (x_ctr : x .ctr = true) (x_can : x .can = true) : Ends (SameBut x s0) (execCanStatus a1 s) := by
  unfold execCanStatus
  repeat' first
    | with_reducible assumption
    | with_reducible apply serve_frame
    | with_reducible apply draw_frame_proj
    | with_reducible apply ok_frame
    | with_reducible apply State.onCh_frame
    | (intro)
    | (extract_lets +onlyGivenNames yy; clear_value yy; revert yy; intro y2)
    | with_reducible apply Ends.next

theorem execCanRxRead_frame {a1} {s : State} (hs : SameBut x s0 s) (x_host : x .host = true) (x_ctr : x .ctr = true) (x_can : x .can = true) : Ends (SameBut x s0) (execCanRxRead a1 s) := by
  unfold execCanRxRead
  repeat' first
    | with_reducible assumption
    | with_reducible apply serve_frame
    | with_reducible apply ok_frame
    | with_reducible apply State.onObj_frame
    | (intro)
    | (extract_lets +onlyGivenNames st; have hst : SameBut x s0 st := ?_; clear_value st; revert st; intro st2 hst2)
    | (extract_lets +onlyGivenNames yy; clear_value yy; revert yy; intro y2)
    | with_reducible apply Ends.next
    | (dsimp -zeta only [st]; clear st)
    | with_reducible apply SameBut.ite

theorem landCan1_frame {s : State} {a2} (hs : SameBut x s0 s) (x_can : x .can = true) : SameBut x s0 (landCan1 s a2) := by
  unfold landCan1
  repeat' first
    | with_reducible assumption
    | with_reducible apply State.onCh_frame
    | with_reducible apply State.onObj_frame
    | with_reducible apply State.onCan_frame
    | split

theorem canPlanned_frame {s : State} (hs : SameBut x s0 s) (x_can : x .can = true) : SameBut x s0 (canPlanned s) := by
  unfold canPlanned
  repeat' first
    | with_reducible assumption
    | with_reducible apply State.each_frame
    | with_reducible apply landCan1_frame
    | (intro)
    | with_reducible apply SameBut.ite
    | split

theorem execCanConfig_frame {a1} {s : State} (hs : SameBut x s0 s) (x_host : x .host = true) (x_ctr : x .ctr = true) (x_can : x .can = true) : Ends (SameBut x s0) (execCanConfig a1 s) := by
  unfold execCanConfig
  repeat' first
    | with_reducible assumption
    | with_reducible apply serve_frame
    | with_reducible apply canPlanned_frame
    | with_reducible apply refused_frame
    | with_reducible apply State.onCan_frame
    | (intro)
    | (extract_lets +onlyGivenNames st; have hst : SameBut x s0 st := ?_; clear_value st; revert st; intro st2 hst2)
    | (extract_lets +onlyGivenNames yy; clear_value yy; revert yy; intro y2)
    | with_reducible apply Ends.next
    | (dsimp -zeta only [st]; clear st)
    | with_reducible apply SameBut.ite
    | split

theorem execCanWakeSet_frame {a1} {s : State} (hs : SameBut x s0 s) (x_host : x .host = true) (x_ctr : x .ctr = true) (x_can : x .can = true) : Ends (SameBut x s0) (execCanWakeSet a1 s) := by
  unfold execCanWakeSet
  repeat' first
    | with_reducible assumption
    | with_reducible apply serve_frame
    | with_reducible apply canPlanned_frame
    | with_reducible apply refused_frame
    | with_reducible apply State.onCan_frame
    | (intro)
    | (extract_lets +onlyGivenNames st; have hst : SameBut x s0 st := ?_; clear_value st; revert st; intro st2 hst2)
    | (extract_lets +onlyGivenNames yy; clear_value yy; revert yy; intro y2)
    | with_reducible apply Ends.next
    | (dsimp -zeta only [st]; clear st)
    | with_reducible apply SameBut.ite
    | split

theorem landCan_frame {s : State} (hs : SameBut x s0 s) (x_host : x .host = true) (x_ctr : x .ctr = true) (x_can : x .can = true) (x_nor : x .nor = true) : SameBut x s0 (landCan s) := by
  unfold landCan
  repeat' first
    | with_reducible assumption
    | with_reducible apply State.each_frame
    | with_reducible apply State.onCan_frame
    | with_reducible apply ok_frame
    | with_reducible apply store_frame
    | with_reducible apply landCan1_frame
    | (intro)
    | (extract_lets +onlyGivenNames yy; clear_value yy; revert yy; intro y2)
    | with_reducible apply SameBut.ite

theorem execCanSend_frame {a1} {s : State} (hs : SameBut x s0 s) (x_host : x .host = true) (x_ctr : x .ctr = true) (x_can : x .can = true) : Ends (SameBut x s0) (execCanSend a1 s) := by
  unfold execCanSend
  repeat' first
    | with_reducible assumption
    | with_reducible apply serve_frame
    | with_reducible apply refused_frame
    | with_reducible apply State.onObj_frame
    | with_reducible apply armObj_frame
    | (intro)
    | (extract_lets +onlyGivenNames yy; clear_value yy; revert yy; intro y2)
    | with_reducible apply Ends.next
    | with_reducible apply SameBut.ite

theorem execCanBusoffRecover_frame {a1} {s : State} (hs : SameBut x s0 s) (x_host : x .host = true) (x_ctr : x .ctr = true) (x_can : x .can = true) : Ends (SameBut x s0) (execCanBusoffRecover a1 s) := by
  unfold execCanBusoffRecover
  repeat' first
    | with_reducible assumption
    | with_reducible apply serve_frame
    | with_reducible apply refused_frame
    | with_reducible apply State.each_frame
    | with_reducible apply State.onObj_frame
    | with_reducible apply State.onCh_frame
    | (intro)
    | (extract_lets +onlyGivenNames st; have hst : SameBut x s0 st := ?_; clear_value st; revert st; intro st2 hst2)
    | (extract_lets +onlyGivenNames yy; clear_value yy; revert yy; intro y2)
    | with_reducible apply Ends.next
    | (dsimp -zeta only [st]; clear st)
    | with_reducible apply SameBut.ite

/-! ## Machine/CreelOps.lean -/

theorem writeWord_frame {s : State} {a2} {a3} {a4} (hs : SameBut x s0 s) (x_supply : x .supply = true) (x_sys : x .sys = true) (x_pow : x .pow = true) (x_host : x .host = true) (x_ctr : x .ctr = true) (x_dbg : x .dbg = true) (x_cairn : x .cairn = true) (x_rings : x .rings = true) (x_links : x .links = true) (x_time : x .time = true) (x_multi : x .multi = true) (x_red : x .red = true) (x_loop : x .loop = true) (x_motion : x .motion = true) (x_disp : x .disp = true) (x_doors : x .doors = true) (x_safety : x .safety = true) (x_field : x .field = true) (x_can : x .can = true) (x_nor : x .nor = true) : SameBut x s0 (writeWord s a2 a3 a4) := by
  unfold writeWord
  repeat' first
    | with_reducible assumption
    | with_reducible apply countFault_frame
    | with_reducible apply State.onSupply_frame
    | with_reducible apply State.onHost_frame
    | with_reducible apply State.onPstat_frame
    | with_reducible apply writeDebug_frame
    | with_reducible apply SameBut.ite
    | split

theorem abortEntry_frame {s : State} {a2} (hs : SameBut x s0 s) (x_pow : x .pow = true) : SameBut x s0 (abortEntry s a2) := by
  unfold abortEntry
  repeat' first
    | with_reducible assumption
    | with_reducible apply State.onPow_frame
    | with_reducible apply SameBut.ite

theorem admitRequest_frame_proj {s : State} {a2} {a3} (hs : SameBut x s0 s) (x_pow : x .pow = true) (x_host : x .host = true) (x_ctr : x .ctr = true) : SameBut x s0 (admitRequest s a2 a3).2 := by
  unfold admitRequest
  repeat' first
    | with_reducible assumption
    | with_reducible apply State.onQueue_frame
    | with_reducible apply bumpPart_frame
    | with_reducible apply abortEntry_frame
    | with_reducible apply flushQueue_frame
    | (intro)
    | (extract_lets +onlyGivenNames st; have hst : SameBut x s0 st := ?_; clear_value st; revert st; intro st2 hst2)
    | (extract_lets +onlyGivenNames yy; clear_value yy; revert yy; intro y2)
    | (dsimp -zeta only [st]; clear st)
    | with_reducible apply SameBut.ite
    | split

theorem admitRequest_frame {s : State} {a2} {a3} {w0} {v : State} (e : admitRequest s a2 a3 = (w0, v)) (hs : SameBut x s0 s) (x_pow : x .pow = true) (x_host : x .host = true) (x_ctr : x .ctr = true) : SameBut x s0 v := by
  have w := admitRequest_frame_proj hs x_pow x_host x_ctr (x := x) (a2 := a2) (a3 := a3)
  rw [e] at w
  exact w

theorem pullHost_frame {a1} {a2} {s : State} (hs : SameBut x s0 s) (x_pow : x .pow = true) (x_host : x .host = true) (x_ctr : x .ctr = true) : SameBut x s0 (pullHost a1 a2 s) := by
  induction a2 generalizing s with
  | zero => exact hs
  | succ k ih =>
    unfold pullHost
    repeat' first
        | with_reducible assumption
        | with_reducible apply admitRequest_frame_proj
        | with_reducible apply State.onQueue_frame
        | with_reducible apply ih
        | (extract_lets +onlyGivenNames yy; clear_value yy; revert yy; intro y2)
        | with_reducible apply SameBut.ite
        | split

theorem ignoreDoorbell_frame {s : State} {a2} (hs : SameBut x s0 s) (x_host : x .host = true) (x_ctr : x .ctr = true) : SameBut x s0 (ignoreDoorbell s a2) := by
  unfold ignoreDoorbell
  repeat' first
    | with_reducible assumption
    | with_reducible apply State.onHost_frame
    | with_reducible apply countFault_frame

theorem doSubmit_frame {s : State} {a2} {a3} {a4} (hs : SameBut x s0 s) (x_pow : x .pow = true) (x_host : x .host = true) (x_ctr : x .ctr = true) : SameBut x s0 (doSubmit s a2 a3 a4) := by
  unfold doSubmit
  repeat' first
    | with_reducible assumption
    | with_reducible apply bump_frame
    | with_reducible apply ignoreDoorbell_frame
    | with_reducible apply bumpPart_frame
    | with_reducible apply draw_frame_proj
    | with_reducible apply State.onQueue_frame
    | with_reducible apply pullHost_frame
    | (intro)
    | (extract_lets +onlyGivenNames st; have hst : SameBut x s0 st := ?_; clear_value st; revert st; intro st2 hst2)
    | (extract_lets +onlyGivenNames yy; clear_value yy; revert yy; intro y2)
    | (dsimp -zeta only [st]; clear st)
    | with_reducible apply SameBut.ite
    | split

theorem doCompHead_frame {s : State} {a2} {a3} (hs : SameBut x s0 s) (x_pow : x .pow = true) (x_host : x .host = true) (x_ctr : x .ctr = true) : SameBut x s0 (doCompHead s a2 a3) := by
  unfold doCompHead
  repeat' first
    | with_reducible assumption
    | with_reducible apply bump_frame
    | with_reducible apply ignoreDoorbell_frame
    | with_reducible apply bumpPart_frame
    | with_reducible apply State.onQueue_frame
    | with_reducible apply pullHost_frame
    | (intro)
    | (extract_lets +onlyGivenNames st; have hst : SameBut x s0 st := ?_; clear_value st; revert st; intro st2 hst2)
    | (extract_lets +onlyGivenNames yy; clear_value yy; revert yy; intro y2)
    | (dsimp -zeta only [st]; clear st)
    | with_reducible apply SameBut.ite
    | split

theorem writeReg_frame {s : State} {a2} {a3} {a4} {a5} (hs : SameBut x s0 s) (x_supply : x .supply = true) (x_sys : x .sys = true) (x_pow : x .pow = true) (x_host : x .host = true) (x_ctr : x .ctr = true) (x_dbg : x .dbg = true) (x_cairn : x .cairn = true) (x_rings : x .rings = true) (x_links : x .links = true) (x_time : x .time = true) (x_multi : x .multi = true) (x_red : x .red = true) (x_loop : x .loop = true) (x_motion : x .motion = true) (x_disp : x .disp = true) (x_doors : x .doors = true) (x_safety : x .safety = true) (x_field : x .field = true) (x_can : x .can = true) (x_nor : x .nor = true) : SameBut x s0 (writeReg s a2 a3 a4 a5) := by
  unfold writeReg
  repeat' first
    | with_reducible assumption
    | with_reducible apply countFault_frame
    | with_reducible apply doSubmit_frame
    | with_reducible apply doCompHead_frame
    | with_reducible apply writeWord_frame
    | (intro)
    | with_reducible apply SameBut.ite
    | split

theorem mgmtRead_frame_proj {p k off} {s : State} (hs : SameBut x s0 s) (x_host : x .host = true) (x_ctr : x .ctr = true) (x_dbg : x .dbg = true) (x_cairn : x .cairn = true) : SameBut x s0 (mgmtRead p k off s).2 := by
  induction k generalizing off s with
  | zero => exact hs
  | succ k ih => exact ih (readWord_frame_proj hs x_host x_ctr x_dbg x_cairn)

theorem mgmtRead_frame {p k off} {s : State} {w} {v : State} (e : mgmtRead p k off s = (w, v)) (hs : SameBut x s0 s) (x_host : x .host = true) (x_ctr : x .ctr = true) (x_dbg : x .dbg = true) (x_cairn : x .cairn = true) : SameBut x s0 v := by
  have h := mgmtRead_frame_proj (p := p) (k := k) (off := off) hs x_host x_ctr x_dbg x_cairn
  rw [e] at h
  exact h

theorem mgmtWrite_frame {a1} {a2} {a3} {s : State} (hs : SameBut x s0 s) (x_supply : x .supply = true) (x_sys : x .sys = true) (x_pow : x .pow = true) (x_host : x .host = true) (x_ctr : x .ctr = true) (x_dbg : x .dbg = true) (x_cairn : x .cairn = true) (x_rings : x .rings = true) (x_links : x .links = true) (x_time : x .time = true) (x_multi : x .multi = true) (x_red : x .red = true) (x_loop : x .loop = true) (x_motion : x .motion = true) (x_disp : x .disp = true) (x_doors : x .doors = true) (x_safety : x .safety = true) (x_field : x .field = true) (x_can : x .can = true) (x_nor : x .nor = true) : SameBut x s0 (mgmtWrite a1 a2 a3 s) := by
  induction a2 generalizing a3 s with
  | nil => exact hs
  | cons v r ih =>
    unfold mgmtWrite
    repeat' first
        | with_reducible assumption
        | with_reducible apply writeWord_frame
        | with_reducible apply ih

theorem datagramIn_frame {s : State} {a2} {a3} (hs : SameBut x s0 s) (x_supply : x .supply = true) (x_sys : x .sys = true) (x_pow : x .pow = true) (x_host : x .host = true) (x_ctr : x .ctr = true) (x_dbg : x .dbg = true) (x_cairn : x .cairn = true) (x_rings : x .rings = true) (x_links : x .links = true) (x_time : x .time = true) (x_multi : x .multi = true) (x_red : x .red = true) (x_loop : x .loop = true) (x_motion : x .motion = true) (x_disp : x .disp = true) (x_doors : x .doors = true) (x_safety : x .safety = true) (x_field : x .field = true) (x_can : x .can = true) (x_nor : x .nor = true) : SameBut x s0 (datagramIn s a2 a3) := by
  unfold datagramIn
  repeat' first
    | with_reducible assumption
    | with_reducible apply bump_frame
    | with_reducible apply bumpPart_frame
    | with_reducible apply State.each_frame
    | with_reducible apply admitRequest_frame_proj
    | with_reducible refine admitRequest_frame (by assumption) ?_ ?_ ?_ ?_
    | with_reducible apply mgmtRead_frame_proj
    | with_reducible refine mgmtRead_frame (by assumption) ?_ ?_ ?_ ?_ ?_
    | with_reducible apply mgmtWrite_frame
    | with_reducible apply sendDatagram_frame
    | (intro)
    | (extract_lets +onlyGivenNames st; have hst : SameBut x s0 st := ?_; clear_value st; revert st; intro st2 hst2)
    | (extract_lets +onlyGivenNames yy; clear_value yy; revert yy; intro y2)
    | (dsimp -zeta only [st]; clear st)
    | with_reducible apply SameBut.ite
    | split

theorem drrPick_frame_proj {k} {s : State} (hs : SameBut x s0 s) (x_host : x .host = true) : SameBut x s0 (drrPick k s).2 := by
  induction k generalizing s with
  | zero => exact hs
  | succ k ih =>
    unfold drrPick
    dsimp only
    split
    · exact hs
    · have h1 : SameBut x s0 (if partWaiting s s.host.drrPart = true then s else s.onPstat s.host.drrPart fun t => { t with deficit := 0 }) := by
        split
        · exact hs
        · exact State.onPstat_frame hs x_host
      repeat' first
        | with_reducible assumption
        | with_reducible apply ih
        | with_reducible apply State.onHost_frame
        | with_reducible apply State.onPstat_frame
        | split

theorem drrPick_frame {k} {s : State} {w} {v : State} (e : drrPick k s = (w, v)) (hs : SameBut x s0 s) (x_host : x .host = true) : SameBut x s0 v := by
  have h := drrPick_frame_proj (k := k) hs x_host
  rw [e] at h
  exact h

theorem handOver_frame {s : State} {a2} (hs : SameBut x s0 s) (x_host : x .host = true) (x_ctr : x .ctr = true) : SameBut x s0 (handOver s a2) := by
  unfold handOver
  repeat' first
    | with_reducible assumption
    | with_reducible apply State.onQueue_frame
    | with_reducible apply State.onPstat_frame
    | with_reducible apply bump_frame
    | with_reducible apply noSuch_frame
    | with_reducible apply refused_frame
    | (extract_lets +onlyGivenNames st; have hst : SameBut x s0 st := ?_; clear_value st; revert st; intro st2 hst2)
    | (dsimp -zeta only [st]; clear st)
    | with_reducible apply SameBut.ite
    | split

theorem pullAll_frame {s : State} (hs : SameBut x s0 s) (x_pow : x .pow = true) (x_host : x .host = true) (x_ctr : x .ctr = true) : SameBut x s0 (pullAll s) := by
  unfold pullAll
  repeat' first
    | with_reducible assumption
    | with_reducible apply State.each_frame
    | with_reducible apply pullHost_frame
    | (intro)

theorem handOverNext_frame {s : State} (hs : SameBut x s0 s) (x_pow : x .pow = true) (x_host : x .host = true) (x_ctr : x .ctr = true) : SameBut x s0 (handOverNext s) := by
  unfold handOverNext
  repeat' first
    | with_reducible assumption
    | with_reducible apply pullAll_frame
    | with_reducible apply handOver_frame
    | with_reducible refine drrPick_frame (by assumption) ?_ ?_
    | (extract_lets +onlyGivenNames st; have hst : SameBut x s0 st := ?_; clear_value st; revert st; intro st2 hst2)
    | with_reducible apply SameBut.ite
    | split

/-! ## Machine/DoorOps.lean -/

theorem doorEvent_frame {s : State} {a2} {a3} {a4} (hs : SameBut x s0 s) (x_ctr : x .ctr = true) (x_cairn : x .cairn = true) : SameBut x s0 (doorEvent s a2 a3 a4) := by
  unfold doorEvent
  repeat' first
    | with_reducible assumption
    | with_reducible apply raise_frame

theorem postMove_frame {s : State} {a2} {a3} (hs : SameBut x s0 s) (x_loop : x .loop = true) : SameBut x s0 (postMove s a2 a3) := by
  unfold postMove
  repeat' first
    | with_reducible assumption
    | with_reducible apply stage_frame

theorem moveDoor_frame {s : State} {a2} {a3} {a4} {a5} {a6} {a7} (hs : SameBut x s0 s) (x_loop : x .loop = true) (x_doors : x .doors = true) : SameBut x s0 (moveDoor s a2 a3 a4 a5 a6 a7) := by
  unfold moveDoor
  repeat' first
    | with_reducible assumption
    | with_reducible apply State.each_frame
    | with_reducible apply postMove_frame
    | with_reducible apply State.onDoor_frame
    | (intro)
    | (extract_lets +onlyGivenNames st; have hst : SameBut x s0 st := ?_; clear_value st; revert st; intro st2 hst2)
    | (extract_lets +onlyGivenNames yy; clear_value yy; revert yy; intro y2)
    | (dsimp -zeta only [st]; clear st)
    | with_reducible apply SameBut.ite
    | split

theorem stopAxis_frame {s : State} {a2} {a3} (hs : SameBut x s0 s) (x_loop : x .loop = true) : SameBut x s0 (stopAxis s a2 a3) := by
  unfold stopAxis
  repeat' first
    | with_reducible assumption
    | with_reducible apply postMove_frame
    | (intro)
    | (extract_lets +onlyGivenNames st; have hst : SameBut x s0 st := ?_; clear_value st; revert st; intro st2 hst2)
    | (extract_lets +onlyGivenNames yy; clear_value yy; revert yy; intro y2)
    | (dsimp -zeta only [st]; clear st)
    | with_reducible apply SameBut.ite
    | split

theorem stopDoorAxes_frame {s : State} {a2} {a3} (hs : SameBut x s0 s) (x_loop : x .loop = true) (x_doors : x .doors = true) : SameBut x s0 (stopDoorAxes s a2 a3) := by
  unfold stopDoorAxes
  repeat' first
    | with_reducible assumption
    | with_reducible apply State.onDoor_frame
    | with_reducible apply State.each_frame
    | with_reducible apply stopAxis_frame
    | (intro)

theorem doorOutput_frame {s : State} {a2} {a3} (hs : SameBut x s0 s) (x_field : x .field = true) : SameBut x s0 (doorOutput s a2 a3) := by
  unfold doorOutput
  repeat' first
    | with_reducible assumption
    | with_reducible apply State.onField_frame
    | (extract_lets +onlyGivenNames yy; clear_value yy; revert yy; intro y2)
    | with_reducible apply SameBut.ite

theorem endNudge_frame {s : State} {a2} {a3} (hs : SameBut x s0 s) (x_loop : x .loop = true) (x_doors : x .doors = true) (x_field : x .field = true) : SameBut x s0 (endNudge s a2 a3) := by
  unfold endNudge
  repeat' first
    | with_reducible assumption
    | with_reducible apply State.each_frame
    | with_reducible apply stage_frame
    | with_reducible apply State.onDoor_frame
    | (intro)
    | (extract_lets +onlyGivenNames st; have hst : SameBut x s0 st := ?_; clear_value st; revert st; intro st2 hst2)
    | (extract_lets +onlyGivenNames yy; clear_value yy; revert yy; intro y2)
    | (dsimp -zeta only [st]; clear st)
    | with_reducible apply SameBut.ite
    | split

theorem clearNudgeDo_frame {s : State} {a2} {a3} (hs : SameBut x s0 s) (x_doors : x .doors = true) (x_field : x .field = true) : SameBut x s0 (clearNudgeDo s a2 a3) := by
  unfold clearNudgeDo
  repeat' first
    | with_reducible assumption
    | with_reducible apply doorOutput_frame
    | with_reducible apply State.onDoor_frame
    | (intro)
    | with_reducible apply SameBut.ite
    | split

theorem holdDoor_frame {s : State} {a2} {a3} (hs : SameBut x s0 s) (x_loop : x .loop = true) (x_doors : x .doors = true) (x_field : x .field = true) : SameBut x s0 (holdDoor s a2 a3) := by
  unfold holdDoor
  repeat' first
    | with_reducible assumption
    | with_reducible apply stopDoorAxes_frame
    | with_reducible apply endNudge_frame
    | with_reducible apply State.onDoor_frame
    | (intro)
    | with_reducible apply SameBut.ite
    | split

theorem faultDoor_frame {s : State} {a2} {a3} (hs : SameBut x s0 s) (x_loop : x .loop = true) (x_doors : x .doors = true) (x_field : x .field = true) : SameBut x s0 (faultDoor s a2 a3) := by
  unfold faultDoor
  repeat' first
    | with_reducible assumption
    | with_reducible apply endNudge_frame
    | with_reducible apply stopDoorAxes_frame
    | with_reducible apply State.onDoor_frame
    | (intro)
    | (extract_lets +onlyGivenNames st; have hst : SameBut x s0 st := ?_; clear_value st; revert st; intro st2 hst2)
    | (extract_lets +onlyGivenNames yy; clear_value yy; revert yy; intro y2)
    | (dsimp -zeta only [st]; clear st)
    | with_reducible apply SameBut.ite
    | split

theorem startOpen_frame {s : State} {a2} {a3} {a4} {a5} (hs : SameBut x s0 s) (x_loop : x .loop = true) (x_doors : x .doors = true) (x_field : x .field = true) : SameBut x s0 (startOpen s a2 a3 a4 a5) := by
  unfold startOpen
  repeat' first
    | with_reducible assumption
    | with_reducible apply clearNudgeDo_frame
    | with_reducible apply endNudge_frame
    | with_reducible apply moveDoor_frame
    | with_reducible apply State.onDoor_frame
    | (intro)
    | (extract_lets +onlyGivenNames st; have hst : SameBut x s0 st := ?_; clear_value st; revert st; intro st2 hst2)
    | (extract_lets +onlyGivenNames yy; clear_value yy; revert yy; intro y2)
    | (dsimp -zeta only [st]; clear st)
    | with_reducible apply SameBut.ite
    | split

theorem beginClose_frame {s : State} {a2} {a3} {a4} (hs : SameBut x s0 s) (x_loop : x .loop = true) (x_doors : x .doors = true) : SameBut x s0 (beginClose s a2 a3 a4) := by
  unfold beginClose
  repeat' first
    | with_reducible assumption
    | with_reducible apply moveDoor_frame
    | with_reducible apply State.onDoor_frame
    | (intro)
    | with_reducible apply SameBut.ite
    | split

theorem nudgeDoor_frame {s : State} {a2} {a3} {a4} (hs : SameBut x s0 s) (x_loop : x .loop = true) (x_doors : x .doors = true) : SameBut x s0 (nudgeDoor s a2 a3 a4) := by
  unfold nudgeDoor
  repeat' first
    | with_reducible assumption
    | with_reducible apply State.each_frame
    | with_reducible apply stage_frame
    | with_reducible apply moveDoor_frame
    | with_reducible apply State.onDoor_frame
    | (intro)
    | (extract_lets +onlyGivenNames st; have hst : SameBut x s0 st := ?_; clear_value st; revert st; intro st2 hst2)
    | (extract_lets +onlyGivenNames yy; clear_value yy; revert yy; intro y2)
    | with_reducible apply SameBut.ite
    | split

theorem reverseDoor_frame {s : State} {a2} {a3} (hs : SameBut x s0 s) (x_loop : x .loop = true) (x_doors : x .doors = true) (x_field : x .field = true) : SameBut x s0 (reverseDoor s a2 a3) := by
  unfold reverseDoor
  repeat' first
    | with_reducible assumption
    | with_reducible apply startOpen_frame
    | with_reducible apply State.onDoor_frame
    | (intro)
    | (extract_lets +onlyGivenNames st; have hst : SameBut x s0 st := ?_; clear_value st; revert st; intro st2 hst2)
    | (extract_lets +onlyGivenNames yy; clear_value yy; revert yy; intro y2)
    | (dsimp -zeta only [st]; clear st)
    | with_reducible apply SameBut.ite
    | split

theorem takeDoorImages_frame {s : State} (hs : SameBut x s0 s) (x_doors : x .doors = true) : SameBut x s0 (takeDoorImages s) := by
  unfold takeDoorImages
  repeat' first
    | with_reducible assumption
    | with_reducible apply State.each_frame
    | with_reducible apply State.onDoor_frame
    | (intro)
    | with_reducible apply SameBut.ite

theorem evalEdges_frame {s : State} {a2} {a3} {a4} (hs : SameBut x s0 s) (x_ctr : x .ctr = true) (x_cairn : x .cairn = true) (x_doors : x .doors = true) : SameBut x s0 (evalEdges s a2 a3 a4) := by
  unfold evalEdges
  repeat' first
    | with_reducible assumption
    | with_reducible apply State.each_frame
    | with_reducible apply State.onDoor_frame
    | with_reducible apply doorEvent_frame
    | with_reducible apply bump_frame
    | (intro)
    | (extract_lets +onlyGivenNames st; have hst : SameBut x s0 st := ?_; clear_value st; revert st; intro st2 hst2)
    | (extract_lets +onlyGivenNames yy; clear_value yy; revert yy; intro y2)
    | with_reducible apply SameBut.ite

theorem learnDrift_frame {s : State} {a2} {a3} (hs : SameBut x s0 s) (x_ctr : x .ctr = true) (x_cairn : x .cairn = true) (x_doors : x .doors = true) : SameBut x s0 (learnDrift s a2 a3) := by
  unfold learnDrift
  repeat' first
    | with_reducible assumption
    | with_reducible apply State.each_frame
    | with_reducible apply State.onDoor_frame
    | with_reducible apply doorEvent_frame
    | (intro)
    | (extract_lets +onlyGivenNames st; have hst : SameBut x s0 st := ?_; clear_value st; revert st; intro st2 hst2)
    | (extract_lets +onlyGivenNames yy; clear_value yy; revert yy; intro y2)
    | with_reducible apply SameBut.ite
    | split

/-! ## Machine/DoorEval.lean -/

theorem learnFail_frame {s : State} {a2} {a3} {a4} (hs : SameBut x s0 s) (x_ctr : x .ctr = true) (x_cairn : x .cairn = true) (x_loop : x .loop = true) (x_doors : x .doors = true) (x_field : x .field = true) : SameBut x s0 (learnFail s a2 a3 a4) := by
  unfold learnFail
  repeat' first
    | with_reducible assumption
    | with_reducible apply doorEvent_frame
    | with_reducible apply faultDoor_frame
    | (intro)
    | with_reducible apply SameBut.ite
    | split

theorem learnEnd_frame {s : State} {a2} {a3} (hs : SameBut x s0 s) (x_ctr : x .ctr = true) (x_cairn : x .cairn = true) (x_loop : x .loop = true) (x_doors : x .doors = true) (x_field : x .field = true) (x_nor : x .nor = true) : SameBut x s0 (learnEnd s a2 a3) := by
  unfold learnEnd
  repeat' first
    | with_reducible assumption
    | with_reducible apply learnFail_frame
    | with_reducible apply State.onDoor_frame
    | with_reducible apply store_frame
    | with_reducible apply doorEvent_frame
    | with_reducible apply foldl_frame
    | with_reducible apply foldl_frame_fst
    | (intro)
    | (extract_lets +onlyGivenNames st; have hst : SameBut x s0 st := ?_; clear_value st; revert st; intro st2 hst2)
    | (extract_lets +onlyGivenNames fn; have hfn : ∀ z, SameBut x s0 z → SameBut x s0 (fn z) := ?_; clear_value fn; revert fn; intro fn2 hfn)
    | (extract_lets +onlyGivenNames yy; clear_value yy; revert yy; intro y2)
    | (dsimp -zeta only [st]; clear st)
    | (dsimp -zeta only [fn]; clear fn)
    | with_reducible apply SameBut.ite
    | split

theorem learnArrive_frame {s : State} {a2} {a3} {a4} (hs : SameBut x s0 s) (x_ctr : x .ctr = true) (x_cairn : x .cairn = true) (x_loop : x .loop = true) (x_doors : x .doors = true) (x_field : x .field = true) (x_nor : x .nor = true) : SameBut x s0 (learnArrive s a2 a3 a4) := by
  unfold learnArrive
  repeat' first
    | with_reducible assumption
    | with_reducible apply moveDoor_frame
    | with_reducible apply State.onDoor_frame
    | with_reducible apply learnEnd_frame
    | with_reducible apply foldl_frame
    | with_reducible apply foldl_frame_fst
    | (intro)
    | (extract_lets +onlyGivenNames st; have hst : SameBut x s0 st := ?_; clear_value st; revert st; intro st2 hst2)
    | (extract_lets +onlyGivenNames yy; clear_value yy; revert yy; intro y2)
    | (dsimp -zeta only [st]; clear st)
    | with_reducible apply SameBut.ite
    | split

theorem react_frame {s : State} {a2} {a3} {a4} {a5} (hs : SameBut x s0 s) (x_ctr : x .ctr = true) (x_cairn : x .cairn = true) (x_loop : x .loop = true) (x_doors : x .doors = true) (x_field : x .field = true) : SameBut x s0 (react s a2 a3 a4 a5) := by
  unfold react
  extract_lets t first pair fn n st st1 st2 st3 st4
  have hfn : ∀ z g l, SameBut x s0 z → (∀ s d c, SameBut x s0 s → SameBut x s0 (g s d c)) → SameBut x s0 (fn z g l) := fun z g l hz hg => by
    show SameBut x s0 (match pair with
      | some (e, b) => if l.contains (z.door e).state && !(z.door e).stopping then g z e b else z
      | none => z)
    generalize pair = p
    split
    · exact SameBut.ite (hg _ _ _ hz) hz
    · exact hz
  have h2 : SameBut x s0 st2 := hfn _ _ _ (State.onDoor_frame hs x_doors) fun _ _ _ h => holdDoor_frame h x_loop x_doors x_field
  have h3 : SameBut x s0 st3 := SameBut.ite (faultDoor_frame h2 x_loop x_doors x_field) (State.onDoor_frame (holdDoor_frame h2 x_loop x_doors x_field) x_doors)
  exact SameBut.ite (SameBut.ite hs (learnFail_frame hs x_ctr x_cairn x_loop x_doors x_field)) (SameBut.ite
    (doorEvent_frame (hfn _ _ _ (faultDoor_frame hs x_loop x_doors x_field) fun _ _ _ h => holdDoor_frame h x_loop x_doors x_field) x_ctr x_cairn) (SameBut.ite (doorEvent_frame h3 x_ctr x_cairn)
      (doorEvent_frame (bump_frame (hfn _ _ _ (reverseDoor_frame hs x_loop x_doors x_field) fun _ _ _ h => reverseDoor_frame h x_loop x_doors x_field) x_ctr) x_ctr x_cairn)))

theorem evalTests_frame {s : State} {a2} {a3} {a4} (hs : SameBut x s0 s) (x_ctr : x .ctr = true) (x_cairn : x .cairn = true) (x_loop : x .loop = true) (x_doors : x .doors = true) (x_field : x .field = true) : SameBut x s0 (evalTests s a2 a3 a4) := by
  unfold evalTests
  repeat' first
    | with_reducible assumption
    | with_reducible apply State.onDoor_frame
    | with_reducible apply bump_frame
    | with_reducible apply react_frame
    | with_reducible apply foldl_frame
    | with_reducible apply foldl_frame_fst
    | (intro)
    | (extract_lets +onlyGivenNames st; have hst : SameBut x s0 st := ?_; clear_value st; revert st; intro st2 hst2)
    | (extract_lets +onlyGivenNames yy; clear_value yy; revert yy; intro y2)
    | (dsimp -zeta only [st]; clear st)
    | with_reducible apply SameBut.ite
    | split

theorem evalTrips_frame {s : State} {a2} {a3} (hs : SameBut x s0 s) (x_loop : x .loop = true) (x_doors : x .doors = true) (x_field : x .field = true) : SameBut x s0 (evalTrips s a2 a3) := by
  unfold evalTrips
  repeat' first
    | with_reducible assumption
    | with_reducible apply stopDoorAxes_frame
    | with_reducible apply faultDoor_frame
    | with_reducible apply State.each_frame
    | with_reducible apply stage_frame
    | with_reducible apply State.onDoor_frame
    | (intro)
    | (extract_lets +onlyGivenNames st; have hst : SameBut x s0 st := ?_; clear_value st; revert st; intro st2 hst2)
    | (extract_lets +onlyGivenNames fn; have hfn : ∀ z, SameBut x s0 z → SameBut x s0 (fn z) := ?_; clear_value fn; revert fn; intro fn2 hfn)
    | (extract_lets +onlyGivenNames yy; clear_value yy; revert yy; intro y2)
    | (dsimp -zeta only [st]; clear st)
    | (dsimp -zeta only [fn]; clear fn)
    | with_reducible apply SameBut.ite
    | split

theorem reachOpen_frame {s : State} {a2} {a3} (hs : SameBut x s0 s) (x_ctr : x .ctr = true) (x_cairn : x .cairn = true) (x_disp : x .disp = true) (x_doors : x .doors = true) : SameBut x s0 (reachOpen s a2 a3) := by
  unfold reachOpen
  repeat' first
    | with_reducible assumption
    | with_reducible apply State.onDoor_frame
    | with_reducible apply learnDrift_frame
    | with_reducible apply report_frame
    | (extract_lets +onlyGivenNames st; have hst : SameBut x s0 st := ?_; clear_value st; revert st; intro st2 hst2)
    | (extract_lets +onlyGivenNames yy; clear_value yy; revert yy; intro y2)
    | with_reducible apply SameBut.ite
    | split

theorem reachClosed_frame {s : State} {a2} {a3} (hs : SameBut x s0 s) (x_ctr : x .ctr = true) (x_cairn : x .cairn = true) (x_loop : x .loop = true) (x_doors : x .doors = true) (x_field : x .field = true) : SameBut x s0 (reachClosed s a2 a3) := by
  unfold reachClosed
  repeat' first
    | with_reducible assumption
    | with_reducible apply clearNudgeDo_frame
    | with_reducible apply endNudge_frame
    | with_reducible apply learnDrift_frame
    | with_reducible apply State.onDoor_frame
    | (intro)
    | with_reducible apply SameBut.ite
    | split

theorem evalArrival_frame {s : State} {a2} {a3} {a4} (hs : SameBut x s0 s) (x_ctr : x .ctr = true) (x_cairn : x .cairn = true) (x_loop : x .loop = true) (x_disp : x .disp = true) (x_doors : x .doors = true) (x_field : x .field = true) (x_nor : x .nor = true) : SameBut x s0 (evalArrival s a2 a3 a4) := by
  unfold evalArrival
  repeat' first
    | with_reducible assumption
    | with_reducible apply learnArrive_frame
    | with_reducible apply reachOpen_frame
    | with_reducible apply reachClosed_frame
    | (extract_lets +onlyGivenNames yy; clear_value yy; revert yy; intro y2)
    | with_reducible apply SameBut.ite
    | split

theorem evalCoupling_frame {s : State} {a2} {a3} {a4} (hs : SameBut x s0 s) (x_ctr : x .ctr = true) (x_cairn : x .cairn = true) (x_loop : x .loop = true) (x_doors : x .doors = true) (x_field : x .field = true) : SameBut x s0 (evalCoupling s a2 a3 a4) := by
  unfold evalCoupling
  repeat' first
    | with_reducible assumption
    | with_reducible apply State.onDoor_frame
    | with_reducible apply doorEvent_frame
    | with_reducible apply bump_frame
    | with_reducible apply holdDoor_frame
    | (extract_lets +onlyGivenNames st; have hst : SameBut x s0 st := ?_; clear_value st; revert st; intro st2 hst2)
    | (extract_lets +onlyGivenNames yy; clear_value yy; revert yy; intro y2)
    | with_reducible apply SameBut.ite
    | split

theorem evalLocks_frame {s : State} {a2} {a3} (hs : SameBut x s0 s) (x_host : x .host = true) (x_ctr : x .ctr = true) (x_cairn : x .cairn = true) (x_motion : x .motion = true) (x_disp : x .disp = true) : SameBut x s0 (evalLocks s a2 a3) := by
  unfold evalLocks
  repeat' first
    | with_reducible assumption
    | with_reducible apply State.onShaft_frame
    | with_reducible apply State.each_frame
    | with_reducible apply doorEvent_frame
    | with_reducible apply stopMode_frame
    | with_reducible apply State.onCar_frame
    | (intro)
    | (extract_lets +onlyGivenNames st; have hst : SameBut x s0 st := ?_; clear_value st; revert st; intro st2 hst2)
    | (extract_lets +onlyGivenNames yy; clear_value yy; revert yy; intro y2)
    | (dsimp -zeta only [st]; clear st)
    | with_reducible apply SameBut.ite
    | split

theorem evalLeft_frame {s : State} {a2} {a3} (hs : SameBut x s0 s) (x_ctr : x .ctr = true) (x_cairn : x .cairn = true) (x_loop : x .loop = true) (x_doors : x .doors = true) (x_field : x .field = true) : SameBut x s0 (evalLeft s a2 a3) := by
  unfold evalLeft
  split
  · exact hs
  · split
    · exact hs
    · extract_lets k out near st1 st2
      clear_value k near
      split
      · exact State.onDoor_frame hs x_doors
      · have h1 : SameBut x s0 st1 := State.onDoor_frame (SameBut.ite (holdDoor_frame hs x_loop x_doors x_field) hs) x_doors
        clear_value st1
        have h2 : SameBut x s0 st2 := State.each_frame h1 fun _ _ h => holdDoor_frame h x_loop x_doors x_field
        clear_value st2
        exact doorEvent_frame h2 x_ctr x_cairn

theorem evalEnable_frame {s : State} {a2} {a3} (hs : SameBut x s0 s) (x_loop : x .loop = true) (x_doors : x .doors = true) (x_field : x .field = true) : SameBut x s0 (evalEnable s a2 a3) := by
  unfold evalEnable
  repeat' first
    | with_reducible assumption
    | with_reducible apply holdDoor_frame
    | with_reducible apply State.onDoor_frame
    | (intro)
    | with_reducible apply SameBut.ite
    | split

theorem evalGroup_frame {s : State} {a2} (hs : SameBut x s0 s) (x_field : x .field = true) : SameBut x s0 (evalGroup s a2) := by
  unfold evalGroup
  repeat' first
    | with_reducible assumption
    | with_reducible apply doorOutput_frame
    | (intro)
    | (extract_lets +onlyGivenNames st; have hst : SameBut x s0 st := ?_; clear_value st; revert st; intro st2 hst2)
    | (extract_lets +onlyGivenNames yy; clear_value yy; revert yy; intro y2)
    | (dsimp -zeta only [st]; clear st)
    | with_reducible apply SameBut.ite
    | split

theorem evalOpen_frame {s : State} {a2} {a3} (hs : SameBut x s0 s) (x_loop : x .loop = true) (x_doors : x .doors = true) (x_field : x .field = true) : SameBut x s0 (evalOpen s a2 a3) := by
  unfold evalOpen
  repeat' first
    | with_reducible assumption
    | with_reducible apply startOpen_frame
    | (intro)
    | (extract_lets +onlyGivenNames st; have hst : SameBut x s0 st := ?_; clear_value st; revert st; intro st2 hst2)
    | (extract_lets +onlyGivenNames yy; clear_value yy; revert yy; intro y2)
    | (dsimp -zeta only [st]; clear st)
    | with_reducible apply SameBut.ite
    | split

theorem evalClose_frame {s : State} {a2} {a3} (hs : SameBut x s0 s) (x_loop : x .loop = true) (x_doors : x .doors = true) : SameBut x s0 (evalClose s a2 a3) := by
  unfold evalClose
  repeat' first
    | with_reducible assumption
    | with_reducible apply State.onDoor_frame
    | with_reducible apply State.each_frame
    | with_reducible apply beginClose_frame
    | (intro)
    | (extract_lets +onlyGivenNames st; have hst : SameBut x s0 st := ?_; clear_value st; revert st; intro st2 hst2)
    | (extract_lets +onlyGivenNames yy; clear_value yy; revert yy; intro y2)
    | (dsimp -zeta only [st]; clear st)
    | with_reducible apply SameBut.ite
    | split

theorem evalRescue_frame {s : State} {a2} {a3} (hs : SameBut x s0 s) (x_doors : x .doors = true) : SameBut x s0 (evalRescue s a2 a3) := by
  unfold evalRescue
  repeat' first
    | with_reducible assumption
    | with_reducible apply State.onDoor_frame

theorem evalTimely_frame {s : State} {a2} (hs : SameBut x s0 s) (x_doors : x .doors = true) : SameBut x s0 (evalTimely s a2) := by
  unfold evalTimely
  repeat' first
    | with_reducible assumption
    | with_reducible apply State.onDoor_frame

theorem evalDoor_frame {s : State} {a2} {a3} {a4} (hs : SameBut x s0 s) (x_host : x .host = true) (x_ctr : x .ctr = true) (x_cairn : x .cairn = true) (x_loop : x .loop = true) (x_motion : x .motion = true) (x_disp : x .disp = true) (x_doors : x .doors = true) (x_field : x .field = true) (x_nor : x .nor = true) : SameBut x s0 (evalDoor s a2 a3 a4) := by
  unfold evalDoor
  repeat' first
    | with_reducible assumption
    | with_reducible apply State.onDoor_frame
    | with_reducible apply evalEdges_frame
    | with_reducible apply evalCoupling_frame
    | with_reducible apply evalTests_frame
    | with_reducible apply evalArrival_frame
    | with_reducible apply evalTrips_frame
    | with_reducible apply evalLocks_frame
    | with_reducible apply evalEnable_frame
    | with_reducible apply evalLeft_frame
    | with_reducible apply evalOpen_frame
    | with_reducible apply evalTimely_frame
    | with_reducible apply evalRescue_frame
    | with_reducible apply evalGroup_frame
    | with_reducible apply evalClose_frame
    | split

/-! ## Machine/Doors.lean -/

theorem execDoorStatus_frame {a1} {s : State} (hs : SameBut x s0 s) (x_host : x .host = true) (x_ctr : x .ctr = true) : Ends (SameBut x s0) (execDoorStatus a1 s) := by
  unfold execDoorStatus
  repeat' first
    | with_reducible assumption
    | with_reducible apply serve_frame
    | with_reducible apply ok_frame
    | (intro)
    | (extract_lets +onlyGivenNames yy; clear_value yy; revert yy; intro y2)
    | with_reducible apply Ends.next

theorem execEdgeStatus_frame {a1} {s : State} (hs : SameBut x s0 s) (x_host : x .host = true) (x_ctr : x .ctr = true) : Ends (SameBut x s0) (execEdgeStatus a1 s) := by
  unfold execEdgeStatus
  repeat' first
    | with_reducible assumption
    | with_reducible apply serve_frame
    | with_reducible apply ok_frame
    | (intro)
    | (extract_lets +onlyGivenNames yy; clear_value yy; revert yy; intro y2)
    | with_reducible apply Ends.next

theorem openDoor_frame {s : State} {a2} {a3} {a4} {a5} (hs : SameBut x s0 s) (x_loop : x .loop = true) (x_doors : x .doors = true) (x_field : x .field = true) : SameBut x s0 (openDoor s a2 a3 a4 a5) := by
  unfold openDoor
  repeat' first
    | with_reducible assumption
    | with_reducible apply State.onDoor_frame
    | with_reducible apply startOpen_frame
    | (intro)
    | with_reducible apply SameBut.ite
    | split

theorem execDoorOpen_frame {a1} {s : State} (hs : SameBut x s0 s) (x_host : x .host = true) (x_ctr : x .ctr = true) (x_loop : x .loop = true) (x_doors : x .doors = true) (x_field : x .field = true) : Ends (SameBut x s0) (execDoorOpen a1 s) := by
  unfold execDoorOpen
  repeat' first
    | with_reducible assumption
    | with_reducible apply serve_frame
    | with_reducible apply State.each_frame
    | with_reducible apply openDoor_frame
    | with_reducible apply ok_frame
    | with_reducible apply refused_frame
    | (intro)
    | (extract_lets +onlyGivenNames st; have hst : SameBut x s0 st := ?_; clear_value st; revert st; intro st2 hst2)
    | (extract_lets +onlyGivenNames yy; clear_value yy; revert yy; intro y2)
    | with_reducible apply Ends.next
    | (dsimp -zeta only [st]; clear st)
    | with_reducible apply SameBut.ite
    | split

theorem closeDoor_frame {s : State} {a2} {a3} (hs : SameBut x s0 s) (x_doors : x .doors = true) (x_nor : x .nor = true) : SameBut x s0 (closeDoor s a2 a3) := by
  unfold closeDoor
  repeat' first
    | with_reducible assumption
    | with_reducible apply store_frame
    | with_reducible apply State.onDoor_frame
    | (intro)
    | (extract_lets +onlyGivenNames st; have hst : SameBut x s0 st := ?_; clear_value st; revert st; intro st2 hst2)
    | (extract_lets +onlyGivenNames yy; clear_value yy; revert yy; intro y2)
    | (dsimp -zeta only [st]; clear st)
    | with_reducible apply SameBut.ite
    | split

theorem execDoorClose_frame {a1} {s : State} (hs : SameBut x s0 s) (x_host : x .host = true) (x_ctr : x .ctr = true) (x_doors : x .doors = true) (x_nor : x .nor = true) : Ends (SameBut x s0) (execDoorClose a1 s) := by
  unfold execDoorClose
  repeat' first
    | with_reducible assumption
    | with_reducible apply serve_frame
    | with_reducible apply State.each_frame
    | with_reducible apply closeDoor_frame
    | with_reducible apply ok_frame
    | with_reducible apply refused_frame
    | (intro)
    | (extract_lets +onlyGivenNames st; have hst : SameBut x s0 st := ?_; clear_value st; revert st; intro st2 hst2)
    | (extract_lets +onlyGivenNames yy; clear_value yy; revert yy; intro y2)
    | with_reducible apply Ends.next
    | (dsimp -zeta only [st]; clear st)
    | with_reducible apply SameBut.ite
    | split

theorem execDoorLearn_frame {a1} {s : State} (hs : SameBut x s0 s) (x_host : x .host = true) (x_ctr : x .ctr = true) (x_loop : x .loop = true) (x_doors : x .doors = true) (x_field : x .field = true) : Ends (SameBut x s0) (execDoorLearn a1 s) := by
  unfold execDoorLearn
  repeat' first
    | with_reducible assumption
    | with_reducible apply serve_frame
    | with_reducible apply moveDoor_frame
    | with_reducible apply clearNudgeDo_frame
    | with_reducible apply endNudge_frame
    | with_reducible apply ok_frame
    | with_reducible apply refused_frame
    | with_reducible apply State.onDoor_frame
    | (intro)
    | (extract_lets +onlyGivenNames st; have hst : SameBut x s0 st := ?_; clear_value st; revert st; intro st2 hst2)
    | (extract_lets +onlyGivenNames yy; clear_value yy; revert yy; intro y2)
    | with_reducible apply Ends.next
    | (dsimp -zeta only [st]; clear st)
    | with_reducible apply SameBut.ite
    | split

theorem execDoorPolicySet_frame {a1} {s : State} (hs : SameBut x s0 s) (x_host : x .host = true) (x_ctr : x .ctr = true) (x_doors : x .doors = true) : Ends (SameBut x s0) (execDoorPolicySet a1 s) := by
  unfold execDoorPolicySet
  repeat' first
    | with_reducible assumption
    | with_reducible apply serve_frame
    | with_reducible apply refused_frame
    | with_reducible apply State.onDoor_frame
    | with_reducible apply ok_frame
    | (intro)
    | (extract_lets +onlyGivenNames st; have hst : SameBut x s0 st := ?_; clear_value st; revert st; intro st2 hst2)
    | (extract_lets +onlyGivenNames yy; clear_value yy; revert yy; intro y2)
    | with_reducible apply Ends.next
    | (dsimp -zeta only [st]; clear st)
    | with_reducible apply SameBut.ite
    | split

theorem landDoor_frame {s : State} {a2} {a3} {a4} (hs : SameBut x s0 s) (x_host : x .host = true) (x_ctr : x .ctr = true) (x_doors : x .doors = true) (x_field : x .field = true) (x_nor : x .nor = true) : SameBut x s0 (landDoor s a2 a3 a4) := by
  unfold landDoor
  repeat' first
    | with_reducible assumption
    | with_reducible apply State.onDoor_frame
    | with_reducible apply clearNudgeDo_frame
    | with_reducible apply State.onField_frame
    | with_reducible apply store_frame
    | with_reducible apply ok_frame
    | (intro)
    | (extract_lets +onlyGivenNames st; have hst : SameBut x s0 st := ?_; clear_value st; revert st; intro st2 hst2)
    | (extract_lets +onlyGivenNames yy; clear_value yy; revert yy; intro y2)
    | (dsimp -zeta only [st]; clear st)
    | with_reducible apply SameBut.ite
    | split

theorem landDoors_frame {s : State} (hs : SameBut x s0 s) (x_host : x .host = true) (x_ctr : x .ctr = true) (x_doors : x .doors = true) (x_field : x .field = true) (x_nor : x .nor = true) : SameBut x s0 (landDoors s) := by
  unfold landDoors
  repeat' first
    | with_reducible assumption
    | with_reducible apply State.each_frame
    | with_reducible apply State.onDoor_frame
    | with_reducible apply landDoor_frame
    | (intro)

theorem onLive_frame {s : State} {a2} {a3 : Sys2Proof.Machine.DoorDef → Sys2Proof.Machine.State} (hs : SameBut x s0 s) (ha3 : ∀ b0, SameBut x s0 (a3 b0)) : SameBut x s0 (onLive s a2 a3) := by
  unfold onLive
  repeat' first
    | with_reducible assumption
    | with_reducible apply ha3
    | split

theorem execDoorEvaluation_frame {a1} {s : State} (hs : SameBut x s0 s) (x_host : x .host = true) (x_ctr : x .ctr = true) (x_cairn : x .cairn = true) (x_loop : x .loop = true) (x_motion : x .motion = true) (x_disp : x .disp = true) (x_doors : x .doors = true) (x_field : x .field = true) (x_nor : x .nor = true) : Ends (SameBut x s0) (execDoorEvaluation a1 s) := by
  unfold execDoorEvaluation
  repeat' first
    | with_reducible assumption
    | with_reducible apply onLive_frame
    | with_reducible apply evalDoor_frame
    | with_reducible apply State.onDoor_frame
    | (intro)
    | with_reducible apply Ends.next
    | split

theorem execDoorEvalLate_frame {a1} {s : State} (hs : SameBut x s0 s) (x_ctr : x .ctr = true) (x_cairn : x .cairn = true) (x_loop : x .loop = true) (x_doors : x .doors = true) (x_field : x .field = true) : Ends (SameBut x s0) (execDoorEvalLate a1 s) := by
  unfold execDoorEvalLate
  repeat' first
    | with_reducible assumption
    | with_reducible apply onLive_frame
    | with_reducible apply State.onDoor_frame
    | with_reducible apply holdDoor_frame
    | with_reducible apply doorEvent_frame
    | (intro)
    | (extract_lets +onlyGivenNames st; have hst : SameBut x s0 st := ?_; clear_value st; revert st; intro st2 hst2)
    | (extract_lets +onlyGivenNames yy; clear_value yy; revert yy; intro y2)
    | with_reducible apply Ends.next
    | (dsimp -zeta only [st]; clear st)
    | with_reducible apply SameBut.ite
    | split

theorem execDwellExpiry_frame {a1} {s : State} (hs : SameBut x s0 s) (x_doors : x .doors = true) : Ends (SameBut x s0) (execDwellExpiry a1 s) := by
  unfold execDwellExpiry
  repeat' first
    | with_reducible assumption
    | with_reducible apply onLive_frame
    | with_reducible apply State.onDoor_frame
    | (intro)
    | (extract_lets +onlyGivenNames yy; clear_value yy; revert yy; intro y2)
    | with_reducible apply Ends.next
    | with_reducible apply SameBut.ite

theorem execBlocked30s_frame {a1} {s : State} (hs : SameBut x s0 s) (x_ctr : x .ctr = true) (x_cairn : x .cairn = true) (x_disp : x .disp = true) (x_doors : x .doors = true) : Ends (SameBut x s0) (execBlocked30s a1 s) := by
  unfold execBlocked30s
  repeat' first
    | with_reducible assumption
    | with_reducible apply onLive_frame
    | with_reducible apply doorEvent_frame
    | with_reducible apply State.onDoor_frame
    | with_reducible apply report_frame
    | (intro)
    | (extract_lets +onlyGivenNames st; have hst : SameBut x s0 st := ?_; clear_value st; revert st; intro st2 hst2)
    | (extract_lets +onlyGivenNames yy; clear_value yy; revert yy; intro y2)
    | with_reducible apply Ends.next
    | with_reducible apply SameBut.ite
    | split

theorem armNudge_frame {s : State} {a2} {a3} (hs : SameBut x s0 s) (x_ctr : x .ctr = true) (x_cairn : x .cairn = true) (x_doors : x .doors = true) (x_field : x .field = true) : SameBut x s0 (armNudge s a2 a3) := by
  unfold armNudge
  repeat' first
    | with_reducible assumption
    | with_reducible apply doorEvent_frame
    | with_reducible apply bump_frame
    | with_reducible apply doorOutput_frame
    | with_reducible apply State.onDoor_frame
    | (intro)
    | with_reducible apply SameBut.ite
    | split

theorem execBlocked180s_frame {a1} {s : State} (hs : SameBut x s0 s) (x_ctr : x .ctr = true) (x_cairn : x .cairn = true) (x_doors : x .doors = true) (x_field : x .field = true) : Ends (SameBut x s0) (execBlocked180s a1 s) := by
  unfold execBlocked180s
  repeat' first
    | with_reducible assumption
    | with_reducible apply onLive_frame
    | with_reducible apply State.each_frame
    | with_reducible apply armNudge_frame
    | (intro)
    | (extract_lets +onlyGivenNames st; have hst : SameBut x s0 st := ?_; clear_value st; revert st; intro st2 hst2)
    | (extract_lets +onlyGivenNames yy; clear_value yy; revert yy; intro y2)
    | with_reducible apply Ends.next
    | (dsimp -zeta only [st]; clear st)
    | with_reducible apply SameBut.ite
    | split

theorem execNudgeStart_frame {a1} {s : State} (hs : SameBut x s0 s) (x_loop : x .loop = true) (x_doors : x .doors = true) (x_field : x .field = true) : Ends (SameBut x s0) (execNudgeStart a1 s) := by
  unfold execNudgeStart
  repeat' first
    | with_reducible assumption
    | with_reducible apply onLive_frame
    | with_reducible apply State.each_frame
    | with_reducible apply beginClose_frame
    | with_reducible apply nudgeDoor_frame
    | with_reducible apply endNudge_frame
    | (intro)
    | (extract_lets +onlyGivenNames st; have hst : SameBut x s0 st := ?_; clear_value st; revert st; intro st2 hst2)
    | (extract_lets +onlyGivenNames yy; clear_value yy; revert yy; intro y2)
    | with_reducible apply Ends.next
    | (dsimp -zeta only [st]; clear st)
    | with_reducible apply SameBut.ite
    | split

theorem execOpenRetry_frame {a1} {s : State} (hs : SameBut x s0 s) (x_loop : x .loop = true) (x_doors : x .doors = true) (x_field : x .field = true) : Ends (SameBut x s0) (execOpenRetry a1 s) := by
  unfold execOpenRetry
  repeat' first
    | with_reducible assumption
    | with_reducible apply onLive_frame
    | with_reducible apply startOpen_frame
    | (intro)
    | (extract_lets +onlyGivenNames st; have hst : SameBut x s0 st := ?_; clear_value st; revert st; intro st2 hst2)
    | (extract_lets +onlyGivenNames yy; clear_value yy; revert yy; intro y2)
    | with_reducible apply Ends.next
    | (dsimp -zeta only [st]; clear st)
    | with_reducible apply SameBut.ite
    | split

theorem execEdgeRefStore_frame {a1} {s : State} (hs : SameBut x s0 s) (x_doors : x .doors = true) (x_nor : x .nor = true) : Ends (SameBut x s0) (execEdgeRefStore a1 s) := by
  unfold execEdgeRefStore
  repeat' first
    | with_reducible assumption
    | with_reducible apply onLive_frame
    | with_reducible apply State.onDoor_frame
    | with_reducible apply store_frame
    | (intro)
    | (extract_lets +onlyGivenNames st; have hst : SameBut x s0 st := ?_; clear_value st; revert st; intro st2 hst2)
    | (extract_lets +onlyGivenNames yy; clear_value yy; revert yy; intro y2)
    | with_reducible apply Ends.next
    | with_reducible apply SameBut.ite

/-! ## Machine/Plan.lean -/

theorem State.onCall_frame {s : State} {a2} {a3} (hs : SameBut x s0 s) (x_disp : x .disp = true) : SameBut x s0 (State.onCall s a2 a3) := by
  unfold State.onCall
  repeat' first
    | with_reducible assumption
    | with_reducible apply State.onDisp_frame

theorem setList_frame {s : State} {a2} {a3} (hs : SameBut x s0 s) (x_disp : x .disp = true) : SameBut x s0 (setList s a2 a3) := by
  unfold setList
  repeat' first
    | with_reducible assumption
    | with_reducible apply State.onDisp_frame

end Sys2Proof.Machine
end

