-- ==== Sys2Proof/Laws/FrameRing.lean ====
section
/-! SUPPORT. The components that an operation may change: the counters, the host ports, the field inputs and outputs, the rings, the safety commands and Traverse. Each lemma says that its
operation changes no component but those that `x` names. -/

namespace Sys2Proof.Machine

open Sys2Proof

variable {x : Comp → Bool} {s0 : State}

/-! ## Machine/Counters.lean -/

theorem execCtrRead_frame {a1} {s : State} (hs : SameBut x s0 s) (x_host : x .host = true) (x_ctr : x .ctr = true) : Ends (SameBut x s0) (execCtrRead a1 s) := by
  unfold execCtrRead
  repeat' first
    | with_reducible assumption
    | with_reducible apply serve_frame
    | with_reducible apply denied_frame
    | with_reducible apply noteClamps_frame
    | with_reducible apply ok_frame
    | (intro)
    | (extract_lets +onlyGivenNames st; have hst : SameBut x s0 st := ?_; clear_value st; revert st; intro st2 hst2)
    | (extract_lets +onlyGivenNames yy; clear_value yy; revert yy; intro y2)
    | with_reducible apply Ends.next
    | with_reducible apply SameBut.ite

theorem execCtrThresholdSet_frame {a1} {s : State} (hs : SameBut x s0 s) (x_host : x .host = true) (x_ctr : x .ctr = true) : Ends (SameBut x s0) (execCtrThresholdSet a1 s) := by
  unfold execCtrThresholdSet
  repeat' first
    | with_reducible assumption
    | with_reducible apply serve_frame
    | with_reducible apply denied_frame
    | with_reducible apply noteClamps_frame
    | with_reducible apply State.onCtr_frame
    | (intro)
    | (extract_lets +onlyGivenNames st; have hst : SameBut x s0 st := ?_; clear_value st; revert st; intro st2 hst2)
    | (extract_lets +onlyGivenNames yy; clear_value yy; revert yy; intro y2)
    | with_reducible apply Ends.next
    | with_reducible apply SameBut.ite

theorem execCtrWindowSet_frame {a1} {s : State} (hs : SameBut x s0 s) (x_host : x .host = true) (x_ctr : x .ctr = true) : Ends (SameBut x s0) (execCtrWindowSet a1 s) := by
  unfold execCtrWindowSet
  repeat' first
    | with_reducible assumption
    | with_reducible apply serve_frame
    | with_reducible apply denied_frame
    | with_reducible apply noteClamps_frame
    | with_reducible apply State.onCtr_frame
    | (intro)
    | (extract_lets +onlyGivenNames st; have hst : SameBut x s0 st := ?_; clear_value st; revert st; intro st2 hst2)
    | (extract_lets +onlyGivenNames yy; clear_value yy; revert yy; intro y2)
    | with_reducible apply Ends.next
    | with_reducible apply SameBut.ite

theorem execBandwidthWindowEnd_frame {a1} {a2} {a3} {s : State} (hs : SameBut x s0 s) (x_ctr : x .ctr = true) : Ends (SameBut x s0) (execBandwidthWindowEnd a1 a2 a3 s) := by
  unfold execBandwidthWindowEnd
  repeat' first
    | with_reducible assumption
    | with_reducible apply bump_frame
    | with_reducible apply State.onCtr_frame
    | (extract_lets +onlyGivenNames st; have hst : SameBut x s0 st := ?_; clear_value st; revert st; intro st2 hst2)
    | (extract_lets +onlyGivenNames yy; clear_value yy; revert yy; intro y2)
    | with_reducible apply Ends.next
    | with_reducible apply SameBut.ite

theorem sampleThresholds_frame {s : State} (hs : SameBut x s0 s) (x_ctr : x .ctr = true) : SameBut x s0 (sampleThresholds s) := by
  unfold sampleThresholds
  repeat' first
    | with_reducible assumption
    | with_reducible apply State.onCtr_frame
    | with_reducible apply State.each_frame
    | with_reducible apply bump_frame
    | (intro)

theorem landThreshold_frame {s : State} {a2} (hs : SameBut x s0 s) (x_host : x .host = true) (x_ctr : x .ctr = true) : SameBut x s0 (landThreshold s a2) := by
  unfold landThreshold
  repeat' first
    | with_reducible assumption
    | with_reducible apply State.onCtr_frame
    | with_reducible apply ok_frame

theorem landWindow_frame {s : State} {a2} (hs : SameBut x s0 s) (x_host : x .host = true) (x_ctr : x .ctr = true) : SameBut x s0 (landWindow s a2) := by
  unfold landWindow
  repeat' first
    | with_reducible assumption
    | with_reducible apply State.onCtr_frame
    | with_reducible apply ok_frame

theorem landCounters_frame {s : State} (hs : SameBut x s0 s) (x_host : x .host = true) (x_ctr : x .ctr = true) : SameBut x s0 (landCounters s) := by
  unfold landCounters
  repeat' first
    | with_reducible assumption
    | with_reducible apply State.onCtr_frame
    | with_reducible apply sampleThresholds_frame
    | with_reducible apply State.each_frame
    | with_reducible apply landThreshold_frame
    | with_reducible apply landWindow_frame
    | (intro)

/-! ## Machine/Creel.lean -/

theorem execCreelDatagram_frame {a1} {a2} {s : State} (hs : SameBut x s0 s) (x_supply : x .supply = true) (x_sys : x .sys = true) (x_pow : x .pow = true) (x_host : x .host = true) (x_ctr : x .ctr = true) (x_dbg : x .dbg = true) (x_cairn : x .cairn = true) (x_rings : x .rings = true) (x_links : x .links = true) (x_time : x .time = true) (x_multi : x .multi = true) (x_red : x .red = true) (x_loop : x .loop = true) (x_motion : x .motion = true) (x_disp : x .disp = true) (x_doors : x .doors = true) (x_safety : x .safety = true) (x_field : x .field = true) (x_can : x .can = true) (x_nor : x .nor = true) : Ends (SameBut x s0) (execCreelDatagram a1 a2 s) := by
  unfold execCreelDatagram
  repeat' first
    | with_reducible assumption
    | with_reducible apply datagramIn_frame
    | with_reducible apply Ends.next

theorem execManagementRead_frame {a1} {a2} {s : State} (hs : SameBut x s0 s) (x_supply : x .supply = true) (x_sys : x .sys = true) (x_pow : x .pow = true) (x_host : x .host = true) (x_ctr : x .ctr = true) (x_dbg : x .dbg = true) (x_cairn : x .cairn = true) (x_rings : x .rings = true) (x_links : x .links = true) (x_time : x .time = true) (x_multi : x .multi = true) (x_red : x .red = true) (x_loop : x .loop = true) (x_motion : x .motion = true) (x_disp : x .disp = true) (x_doors : x .doors = true) (x_safety : x .safety = true) (x_field : x .field = true) (x_can : x .can = true) (x_nor : x .nor = true) : Ends (SameBut x s0) (execManagementRead a1 a2 s) := by
  unfold execManagementRead
  repeat' first
    | with_reducible assumption
    | with_reducible apply datagramIn_frame
    | with_reducible apply Ends.next

theorem execManagementWrite_frame {a1} {a2} {s : State} (hs : SameBut x s0 s) (x_supply : x .supply = true) (x_sys : x .sys = true) (x_pow : x .pow = true) (x_host : x .host = true) (x_ctr : x .ctr = true) (x_dbg : x .dbg = true) (x_cairn : x .cairn = true) (x_rings : x .rings = true) (x_links : x .links = true) (x_time : x .time = true) (x_multi : x .multi = true) (x_red : x .red = true) (x_loop : x .loop = true) (x_motion : x .motion = true) (x_disp : x .disp = true) (x_doors : x .doors = true) (x_safety : x .safety = true) (x_field : x .field = true) (x_can : x .can = true) (x_nor : x .nor = true) : Ends (SameBut x s0) (execManagementWrite a1 a2 s) := by
  unfold execManagementWrite
  repeat' first
    | with_reducible assumption
    | with_reducible apply datagramIn_frame
    | with_reducible apply Ends.next

theorem execEthernetAuxFrame_frame {a1} {a2} {s : State} (hs : SameBut x s0 s) (x_sys : x .sys = true) : Ends (SameBut x s0) (execEthernetAuxFrame a1 a2 s) := by
  unfold execEthernetAuxFrame
  repeat' first
    | with_reducible assumption
    | with_reducible apply State.onSys_frame
    | (extract_lets +onlyGivenNames yy; dsimp -zeta only [yy]; clear yy)
    | with_reducible apply Ends.next

theorem execDbSubmit_frame {a1} {a2} {a3} {s : State} (hs : SameBut x s0 s) (x_pow : x .pow = true) (x_host : x .host = true) (x_ctr : x .ctr = true) : Ends (SameBut x s0) (execDbSubmit a1 a2 a3 s) := by
  unfold execDbSubmit
  repeat' first
    | with_reducible assumption
    | with_reducible apply doSubmit_frame
    | with_reducible apply Ends.next

theorem execDbComphead_frame {a1} {a2} {s : State} (hs : SameBut x s0 s) (x_pow : x .pow = true) (x_host : x .host = true) (x_ctr : x .ctr = true) : Ends (SameBut x s0) (execDbComphead a1 a2 s) := by
  unfold execDbComphead
  repeat' first
    | with_reducible assumption
    | with_reducible apply doCompHead_frame
    | with_reducible apply Ends.next

theorem keepRead_frame {p : Nat × State} (h : SameBut x s0 p.2) (x_host : x .host = true) : SameBut x s0 (keepRead p) := State.onHost_frame h x_host

theorem execDbFaultCountRead_frame {a1} {s : State} (hs : SameBut x s0 s) (x_host : x .host = true) (x_ctr : x .ctr = true) (x_dbg : x .dbg = true) (x_cairn : x .cairn = true) : Ends (SameBut x s0) (execDbFaultCountRead a1 s) := by
  unfold execDbFaultCountRead
  repeat' first
    | with_reducible assumption
    | with_reducible apply keepRead_frame
    | with_reducible apply readReg_frame_proj
    | with_reducible apply Ends.next

theorem execRegisterWrite_frame {a1} {a2} {a3} {a4} {s : State} (hs : SameBut x s0 s) (x_supply : x .supply = true) (x_sys : x .sys = true) (x_pow : x .pow = true) (x_host : x .host = true) (x_ctr : x .ctr = true) (x_dbg : x .dbg = true) (x_cairn : x .cairn = true) (x_rings : x .rings = true) (x_links : x .links = true) (x_time : x .time = true) (x_multi : x .multi = true) (x_red : x .red = true) (x_loop : x .loop = true) (x_motion : x .motion = true) (x_disp : x .disp = true) (x_doors : x .doors = true) (x_safety : x .safety = true) (x_field : x .field = true) (x_can : x .can = true) (x_nor : x .nor = true) : Ends (SameBut x s0) (execRegisterWrite a1 a2 a3 a4 s) := by
  unfold execRegisterWrite
  repeat' first
    | with_reducible assumption
    | with_reducible apply writeReg_frame
    | with_reducible apply Ends.next

theorem execRegisterRead_frame {a1} {a2} {a3} {s : State} (hs : SameBut x s0 s) (x_host : x .host = true) (x_ctr : x .ctr = true) (x_dbg : x .dbg = true) (x_cairn : x .cairn = true) : Ends (SameBut x s0) (execRegisterRead a1 a2 a3 s) := by
  unfold execRegisterRead
  repeat' first
    | with_reducible assumption
    | with_reducible apply keepRead_frame
    | with_reducible apply readReg_frame_proj
    | with_reducible apply Ends.next

theorem execSysSupplyW1cWrite_frame {a1} {a2} {s : State} (hs : SameBut x s0 s) (x_supply : x .supply = true) (x_sys : x .sys = true) (x_pow : x .pow = true) (x_host : x .host = true) (x_ctr : x .ctr = true) (x_dbg : x .dbg = true) (x_cairn : x .cairn = true) (x_rings : x .rings = true) (x_links : x .links = true) (x_time : x .time = true) (x_multi : x .multi = true) (x_red : x .red = true) (x_loop : x .loop = true) (x_motion : x .motion = true) (x_disp : x .disp = true) (x_doors : x .doors = true) (x_safety : x .safety = true) (x_field : x .field = true) (x_can : x .can = true) (x_nor : x .nor = true) : Ends (SameBut x s0) (execSysSupplyW1cWrite a1 a2 s) := by
  unfold execSysSupplyW1cWrite
  repeat' first
    | with_reducible assumption
    | with_reducible apply writeReg_frame
    | with_reducible apply Ends.next

theorem execRecCursorSeqWrite_frame {a1} {a2} {s : State} (hs : SameBut x s0 s) (x_supply : x .supply = true) (x_sys : x .sys = true) (x_pow : x .pow = true) (x_host : x .host = true) (x_ctr : x .ctr = true) (x_dbg : x .dbg = true) (x_cairn : x .cairn = true) (x_rings : x .rings = true) (x_links : x .links = true) (x_time : x .time = true) (x_multi : x .multi = true) (x_red : x .red = true) (x_loop : x .loop = true) (x_motion : x .motion = true) (x_disp : x .disp = true) (x_doors : x .doors = true) (x_safety : x .safety = true) (x_field : x .field = true) (x_can : x .can = true) (x_nor : x .nor = true) : Ends (SameBut x s0) (execRecCursorSeqWrite a1 a2 s) := by
  unfold execRecCursorSeqWrite
  repeat' first
    | with_reducible assumption
    | with_reducible apply writeReg_frame
    | with_reducible apply Ends.next

theorem execCtrValLowRead_frame {a1} {a2} {s : State} (hs : SameBut x s0 s) (x_host : x .host = true) (x_ctr : x .ctr = true) (x_dbg : x .dbg = true) (x_cairn : x .cairn = true) : Ends (SameBut x s0) (execCtrValLowRead a1 a2 s) := by
  unfold execCtrValLowRead
  repeat' first
    | with_reducible assumption
    | with_reducible apply keepRead_frame
    | with_reducible apply readReg_frame_proj
    | with_reducible apply Ends.next

theorem execCtrValHighRead_frame {a1} {a2} {s : State} (hs : SameBut x s0 s) (x_host : x .host = true) (x_ctr : x .ctr = true) (x_dbg : x .dbg = true) (x_cairn : x .cairn = true) : Ends (SameBut x s0) (execCtrValHighRead a1 a2 s) := by
  unfold execCtrValHighRead
  repeat' first
    | with_reducible assumption
    | with_reducible apply keepRead_frame
    | with_reducible apply readReg_frame_proj
    | with_reducible apply Ends.next

theorem execCtrBwPeakRead_frame {a1} {a2} {a3} {s : State} (hs : SameBut x s0 s) (x_host : x .host = true) (x_ctr : x .ctr = true) (x_dbg : x .dbg = true) (x_cairn : x .cairn = true) : Ends (SameBut x s0) (execCtrBwPeakRead a1 a2 a3 s) := by
  unfold execCtrBwPeakRead
  repeat' first
    | with_reducible assumption
    | with_reducible apply keepRead_frame
    | with_reducible apply readReg_frame_proj
    | with_reducible apply Ends.next

theorem execDbgWhaltWrite_frame {a1} {a2} {a3} {s : State} (hs : SameBut x s0 s) (x_supply : x .supply = true) (x_sys : x .sys = true) (x_pow : x .pow = true) (x_host : x .host = true) (x_ctr : x .ctr = true) (x_dbg : x .dbg = true) (x_cairn : x .cairn = true) (x_rings : x .rings = true) (x_links : x .links = true) (x_time : x .time = true) (x_multi : x .multi = true) (x_red : x .red = true) (x_loop : x .loop = true) (x_motion : x .motion = true) (x_disp : x .disp = true) (x_doors : x .doors = true) (x_safety : x .safety = true) (x_field : x .field = true) (x_can : x .can = true) (x_nor : x .nor = true) : Ends (SameBut x s0) (execDbgWhaltWrite a1 a2 a3 s) := by
  unfold execDbgWhaltWrite
  repeat' first
    | with_reducible assumption
    | with_reducible apply writeReg_frame
    | with_reducible apply Ends.next

theorem execDbgChaltWrite_frame {a1} {a2} {s : State} (hs : SameBut x s0 s) (x_supply : x .supply = true) (x_sys : x .sys = true) (x_pow : x .pow = true) (x_host : x .host = true) (x_ctr : x .ctr = true) (x_dbg : x .dbg = true) (x_cairn : x .cairn = true) (x_rings : x .rings = true) (x_links : x .links = true) (x_time : x .time = true) (x_multi : x .multi = true) (x_red : x .red = true) (x_loop : x .loop = true) (x_motion : x .motion = true) (x_disp : x .disp = true) (x_doors : x .doors = true) (x_safety : x .safety = true) (x_field : x .field = true) (x_can : x .can = true) (x_nor : x .nor = true) : Ends (SameBut x s0) (execDbgChaltWrite a1 a2 s) := by
  unfold execDbgChaltWrite
  repeat' first
    | with_reducible assumption
    | with_reducible apply writeReg_frame
    | with_reducible apply Ends.next

theorem execDbgCtrlReset_frame {a1} {a2} {s : State} (hs : SameBut x s0 s) (x_supply : x .supply = true) (x_sys : x .sys = true) (x_pow : x .pow = true) (x_host : x .host = true) (x_ctr : x .ctr = true) (x_dbg : x .dbg = true) (x_cairn : x .cairn = true) (x_rings : x .rings = true) (x_links : x .links = true) (x_time : x .time = true) (x_multi : x .multi = true) (x_red : x .red = true) (x_loop : x .loop = true) (x_motion : x .motion = true) (x_disp : x .disp = true) (x_doors : x .doors = true) (x_safety : x .safety = true) (x_field : x .field = true) (x_can : x .can = true) (x_nor : x .nor = true) : Ends (SameBut x s0) (execDbgCtrlReset a1 a2 s) := by
  unfold execDbgCtrlReset
  repeat' first
    | with_reducible assumption
    | with_reducible apply writeReg_frame
    | with_reducible apply Ends.next

theorem execDbgMemDataRead_frame {a1} {s : State} (hs : SameBut x s0 s) (x_host : x .host = true) (x_ctr : x .ctr = true) (x_dbg : x .dbg = true) (x_cairn : x .cairn = true) : Ends (SameBut x s0) (execDbgMemDataRead a1 s) := by
  unfold execDbgMemDataRead
  repeat' first
    | with_reducible assumption
    | with_reducible apply keepRead_frame
    | with_reducible apply readReg_frame_proj
    | with_reducible apply Ends.next

theorem execDbgMemDataWrite_frame {a1} {a2} {s : State} (hs : SameBut x s0 s) (x_supply : x .supply = true) (x_sys : x .sys = true) (x_pow : x .pow = true) (x_host : x .host = true) (x_ctr : x .ctr = true) (x_dbg : x .dbg = true) (x_cairn : x .cairn = true) (x_rings : x .rings = true) (x_links : x .links = true) (x_time : x .time = true) (x_multi : x .multi = true) (x_red : x .red = true) (x_loop : x .loop = true) (x_motion : x .motion = true) (x_disp : x .disp = true) (x_doors : x .doors = true) (x_safety : x .safety = true) (x_field : x .field = true) (x_can : x .can = true) (x_nor : x .nor = true) : Ends (SameBut x s0) (execDbgMemDataWrite a1 a2 s) := by
  unfold execDbgMemDataWrite
  repeat' first
    | with_reducible assumption
    | with_reducible apply writeReg_frame
    | with_reducible apply Ends.next

theorem execDbgImgStart_frame {a1} {a2} {s : State} (hs : SameBut x s0 s) (x_supply : x .supply = true) (x_sys : x .sys = true) (x_pow : x .pow = true) (x_host : x .host = true) (x_ctr : x .ctr = true) (x_dbg : x .dbg = true) (x_cairn : x .cairn = true) (x_rings : x .rings = true) (x_links : x .links = true) (x_time : x .time = true) (x_multi : x .multi = true) (x_red : x .red = true) (x_loop : x .loop = true) (x_motion : x .motion = true) (x_disp : x .disp = true) (x_doors : x .doors = true) (x_safety : x .safety = true) (x_field : x .field = true) (x_can : x .can = true) (x_nor : x .nor = true) : Ends (SameBut x s0) (execDbgImgStart a1 a2 s) := by
  unfold execDbgImgStart
  repeat' first
    | with_reducible assumption
    | with_reducible apply writeReg_frame
    | with_reducible apply Ends.next

theorem execDbgImgDataWrite_frame {a1} {a2} {s : State} (hs : SameBut x s0 s) (x_supply : x .supply = true) (x_sys : x .sys = true) (x_pow : x .pow = true) (x_host : x .host = true) (x_ctr : x .ctr = true) (x_dbg : x .dbg = true) (x_cairn : x .cairn = true) (x_rings : x .rings = true) (x_links : x .links = true) (x_time : x .time = true) (x_multi : x .multi = true) (x_red : x .red = true) (x_loop : x .loop = true) (x_motion : x .motion = true) (x_disp : x .disp = true) (x_doors : x .doors = true) (x_safety : x .safety = true) (x_field : x .field = true) (x_can : x .can = true) (x_nor : x .nor = true) : Ends (SameBut x s0) (execDbgImgDataWrite a1 a2 s) := by
  unfold execDbgImgDataWrite
  repeat' first
    | with_reducible assumption
    | with_reducible apply writeReg_frame
    | with_reducible apply Ends.next

theorem execDbgImgCommit_frame {a1} {a2} {s : State} (hs : SameBut x s0 s) (x_supply : x .supply = true) (x_sys : x .sys = true) (x_pow : x .pow = true) (x_host : x .host = true) (x_ctr : x .ctr = true) (x_dbg : x .dbg = true) (x_cairn : x .cairn = true) (x_rings : x .rings = true) (x_links : x .links = true) (x_time : x .time = true) (x_multi : x .multi = true) (x_red : x .red = true) (x_loop : x .loop = true) (x_motion : x .motion = true) (x_disp : x .disp = true) (x_doors : x .doors = true) (x_safety : x .safety = true) (x_field : x .field = true) (x_can : x .can = true) (x_nor : x .nor = true) : Ends (SameBut x s0) (execDbgImgCommit a1 a2 s) := by
  unfold execDbgImgCommit
  repeat' first
    | with_reducible assumption
    | with_reducible apply writeReg_frame
    | with_reducible apply Ends.next

theorem execTokenRefill_frame {s : State} (hs : SameBut x s0 s) (x_host : x .host = true) : Ends (SameBut x s0) (execTokenRefill s) := by
  unfold execTokenRefill
  repeat' first
    | with_reducible assumption
    | with_reducible apply State.onHost_frame
    | with_reducible apply Ends.next

theorem execCreelHandover_frame {s : State} (hs : SameBut x s0 s) (x_pow : x .pow = true) (x_host : x .host = true) (x_ctr : x .ctr = true) : Ends (SameBut x s0) (execCreelHandover s) := by
  unfold execCreelHandover
  repeat' first
    | with_reducible assumption
    | with_reducible apply handOverNext_frame
    | with_reducible apply Ends.next

/-! ## Machine/Field.lean -/

theorem refFound_frame {s : State} {a2} {a3} {a4} (hs : SameBut x s0 s) (x_ctr : x .ctr = true) (x_cairn : x .cairn = true) (x_field : x .field = true) : SameBut x s0 (refFound s a2 a3 a4) := by
  unfold refFound
  repeat' first
    | with_reducible assumption
    | with_reducible apply fieldEvent_frame
    | with_reducible apply State.onStp_frame
    | (extract_lets +onlyGivenNames yy; clear_value yy; revert yy; intro y2)
    | with_reducible apply SameBut.ite

theorem execDiSample_frame {a1} {s : State} (hs : SameBut x s0 s) (x_ctr : x .ctr = true) (x_cairn : x .cairn = true) (x_field : x .field = true) : Ends (SameBut x s0) (execDiSample a1 s) := by
  unfold execDiSample
  repeat' first
    | with_reducible assumption
    | with_reducible apply State.onDi_frame
    | with_reducible apply State.each_frame
    | with_reducible apply refFound_frame
    | (intro)
    | with_reducible apply foldl_frame
    | (extract_lets +onlyGivenNames st; have hst : SameBut x s0 st := ?_; clear_value st; revert st; intro st2 hst2)
    | (extract_lets +onlyGivenNames yy; clear_value yy; revert yy; intro y2)
    | with_reducible apply Ends.next
    | with_reducible apply SameBut.ite

theorem execDoOverload_frame {a1} {s : State} (hs : SameBut x s0 s) (x_ctr : x .ctr = true) (x_cairn : x .cairn = true) (x_field : x .field = true) : Ends (SameBut x s0) (execDoOverload a1 s) := by
  unfold execDoOverload
  repeat' first
    | with_reducible assumption
    | with_reducible apply fieldEvent_frame
    | with_reducible apply bump_frame
    | with_reducible apply State.onField_frame
    | (extract_lets +onlyGivenNames yy; clear_value yy; revert yy; intro y2)
    | with_reducible apply Ends.next
    | with_reducible apply SameBut.ite

theorem execDoSilence_frame {s : State} (hs : SameBut x s0 s) (x_ctr : x .ctr = true) (x_field : x .field = true) : Ends (SameBut x s0) (execDoSilence s) := by
  unfold execDoSilence
  repeat' first
    | with_reducible assumption
    | with_reducible apply bump_frame
    | with_reducible apply State.onField_frame
    | with_reducible apply Ends.next
    | with_reducible apply SameBut.ite

theorem execDioRead_frame {a1} {s : State} (hs : SameBut x s0 s) (x_host : x .host = true) (x_ctr : x .ctr = true) (x_field : x .field = true) : Ends (SameBut x s0) (execDioRead a1 s) := by
  unfold execDioRead
  repeat' first
    | with_reducible assumption
    | with_reducible apply serve_frame
    | with_reducible apply ok_frame
    | with_reducible apply State.onField_frame
    | (intro)
    | (extract_lets +onlyGivenNames st; have hst : SameBut x s0 st := ?_; clear_value st; revert st; intro st2 hst2)
    | (extract_lets +onlyGivenNames yy; clear_value yy; revert yy; intro y2)
    | with_reducible apply Ends.next
    | (dsimp -zeta only [st]; clear st)
    | with_reducible apply SameBut.ite
    | split

theorem execDioWrite_frame {a1} {s : State} (hs : SameBut x s0 s) (x_host : x .host = true) (x_ctr : x .ctr = true) (x_field : x .field = true) : Ends (SameBut x s0) (execDioWrite a1 s) := by
  unfold execDioWrite
  repeat' first
    | with_reducible assumption
    | with_reducible apply serve_frame
    | with_reducible apply refused_frame
    | with_reducible apply State.onField_frame
    | (intro)
    | (extract_lets +onlyGivenNames yy; clear_value yy; revert yy; intro y2)
    | with_reducible apply Ends.next
    | with_reducible apply SameBut.ite

theorem execDioSafeSet_frame {a1} {s : State} (hs : SameBut x s0 s) (x_host : x .host = true) (x_ctr : x .ctr = true) (x_field : x .field = true) : Ends (SameBut x s0) (execDioSafeSet a1 s) := by
  unfold execDioSafeSet
  repeat' first
    | with_reducible assumption
    | with_reducible apply serve_frame
    | with_reducible apply State.onField_frame
    | (intro)
    | with_reducible apply Ends.next

theorem execAiConversion_frame {a1} {a2} {a3} {s : State} (hs : SameBut x s0 s) (x_ctr : x .ctr = true) (x_cairn : x .cairn = true) (x_field : x .field = true) : Ends (SameBut x s0) (execAiConversion a1 a2 a3 s) := by
  unfold execAiConversion
  repeat' first
    | with_reducible assumption
    | with_reducible apply fieldEvent_frame
    | with_reducible apply bump_frame
    | with_reducible apply State.onAi_frame
    | (extract_lets +onlyGivenNames yy; clear_value yy; revert yy; intro y2)
    | with_reducible apply Ends.next
    | with_reducible apply SameBut.ite

theorem execAiOvercurrent_frame {a1} {s : State} (hs : SameBut x s0 s) (x_ctr : x .ctr = true) (x_cairn : x .cairn = true) (x_field : x .field = true) : Ends (SameBut x s0) (execAiOvercurrent a1 s) := by
  unfold execAiOvercurrent
  repeat' first
    | with_reducible assumption
    | with_reducible apply State.onAi_frame
    | with_reducible apply fieldEvent_frame
    | with_reducible apply bump_frame
    | (extract_lets +onlyGivenNames st; have hst : SameBut x s0 st := ?_; clear_value st; revert st; intro st2 hst2)
    | (extract_lets +onlyGivenNames yy; clear_value yy; revert yy; intro y2)
    | with_reducible apply Ends.next
    | with_reducible apply SameBut.ite

theorem execAiReconnect_frame {a1} {s : State} (hs : SameBut x s0 s) (x_field : x .field = true) : Ends (SameBut x s0) (execAiReconnect a1 s) := by
  unfold execAiReconnect
  repeat' first
    | with_reducible assumption
    | with_reducible apply State.onAi_frame
    | with_reducible apply Ends.next
    | with_reducible apply SameBut.ite

theorem execAiRead_frame {a1} {s : State} (hs : SameBut x s0 s) (x_host : x .host = true) (x_ctr : x .ctr = true) : Ends (SameBut x s0) (execAiRead a1 s) := by
  unfold execAiRead
  repeat' first
    | with_reducible assumption
    | with_reducible apply serve_frame
    | with_reducible apply ok_frame
    | (intro)
    | (extract_lets +onlyGivenNames yy; clear_value yy; revert yy; intro y2)
    | with_reducible apply Ends.next

theorem execSdFilterOutput_frame {a1} {a2} {a3} {s : State} (hs : SameBut x s0 s) (x_field : x .field = true) : Ends (SameBut x s0) (execSdFilterOutput a1 a2 a3 s) := by
  unfold execSdFilterOutput
  repeat' first
    | with_reducible assumption
    | with_reducible apply State.onSd_frame
    | (extract_lets +onlyGivenNames yy; clear_value yy; revert yy; intro y2)
    | with_reducible apply Ends.next
    | with_reducible apply SameBut.ite

theorem execSdOcOutput_frame {a1} {a2} {s : State} (hs : SameBut x s0 s) (x_ctr : x .ctr = true) (x_cairn : x .cairn = true) (x_field : x .field = true) : Ends (SameBut x s0) (execSdOcOutput a1 a2 s) := by
  unfold execSdOcOutput
  repeat' first
    | with_reducible assumption
    | with_reducible apply State.onSd_frame
    | with_reducible apply fieldEvent_frame
    | with_reducible apply bump_frame
    | with_reducible apply State.onPwm_frame
    | (extract_lets +onlyGivenNames st; have hst : SameBut x s0 st := ?_; clear_value st; revert st; intro st2 hst2)
    | (extract_lets +onlyGivenNames yy; clear_value yy; revert yy; intro y2)
    | with_reducible apply Ends.next
    | with_reducible apply SameBut.ite

theorem execSdStuckLine_frame {a1} {s : State} (hs : SameBut x s0 s) (x_ctr : x .ctr = true) (x_cairn : x .cairn = true) (x_field : x .field = true) : Ends (SameBut x s0) (execSdStuckLine a1 s) := by
  unfold execSdStuckLine
  repeat' first
    | with_reducible assumption
    | with_reducible apply sdFaulty_frame
    | with_reducible apply State.onSd_frame
    | with_reducible apply fieldEvent_frame
    | with_reducible apply bump_frame
    | (extract_lets +onlyGivenNames st; have hst : SameBut x s0 st := ?_; clear_value st; revert st; intro st2 hst2)
    | (extract_lets +onlyGivenNames yy; clear_value yy; revert yy; intro y2)
    | with_reducible apply Ends.next
    | with_reducible apply SameBut.ite

theorem execQuadSample_frame {a1} {a2} {a3} {a4} {s : State} (hs : SameBut x s0 s) (x_ctr : x .ctr = true) (x_cairn : x .cairn = true) (x_field : x .field = true) : Ends (SameBut x s0) (execQuadSample a1 a2 a3 a4 s) := by
  unfold execQuadSample
  repeat' first
    | with_reducible assumption
    | with_reducible apply State.onQa_frame
    | with_reducible apply bump_frame
    | with_reducible apply encoderFault_frame
    | with_reducible apply fieldEvent_frame
    | (extract_lets +onlyGivenNames st; have hst : SameBut x s0 st := ?_; clear_value st; revert st; intro st2 hst2)
    | (extract_lets +onlyGivenNames yy; clear_value yy; revert yy; intro y2)
    | with_reducible apply Ends.next
    | (dsimp -zeta only [st]; clear st)
    | with_reducible apply SameBut.ite

theorem execQuadLineLow_frame {a1} {s : State} (hs : SameBut x s0 s) (x_ctr : x .ctr = true) (x_cairn : x .cairn = true) (x_field : x .field = true) : Ends (SameBut x s0) (execQuadLineLow a1 s) := by
  unfold execQuadLineLow
  repeat' first
    | with_reducible assumption
    | with_reducible apply encoderFault_frame
    | with_reducible apply State.onQa_frame
    | with_reducible apply Ends.next
    | with_reducible apply SameBut.ite

theorem execQencRead_frame {a1} {s : State} (hs : SameBut x s0 s) (x_host : x .host = true) (x_ctr : x .ctr = true) : Ends (SameBut x s0) (execQencRead a1 s) := by
  unfold execQencRead
  repeat' first
    | with_reducible assumption
    | with_reducible apply serve_frame
    | with_reducible apply ok_frame
    | (intro)
    | (extract_lets +onlyGivenNames yy; clear_value yy; revert yy; intro y2)
    | with_reducible apply Ends.next
    | with_reducible apply SameBut.ite

theorem execPwmPeriod_frame {a1} {a2} {s : State} (hs : SameBut x s0 s) (x_ctr : x .ctr = true) (x_field : x .field = true) : Ends (SameBut x s0) (execPwmPeriod a1 a2 s) := by
  unfold execPwmPeriod
  repeat' first
    | with_reducible assumption
    | with_reducible apply pwmPeriod_frame
    | with_reducible apply Ends.next
    | with_reducible apply SameBut.ite

theorem execPwmConfig_frame {a1} {s : State} (hs : SameBut x s0 s) (x_host : x .host = true) (x_ctr : x .ctr = true) (x_field : x .field = true) : Ends (SameBut x s0) (execPwmConfig a1 s) := by
  unfold execPwmConfig
  repeat' first
    | with_reducible assumption
    | with_reducible apply serve_frame
    | with_reducible apply refused_frame
    | with_reducible apply State.onField_frame
    | (intro)
    | with_reducible apply Ends.next
    | with_reducible apply SameBut.ite

theorem execStepMove_frame {a1} {s : State} (hs : SameBut x s0 s) (x_host : x .host = true) (x_ctr : x .ctr = true) (x_field : x .field = true) : Ends (SameBut x s0) (execStepMove a1 s) := by
  unfold execStepMove
  repeat' first
    | with_reducible assumption
    | with_reducible apply serve_frame
    | with_reducible apply refused_frame
    | with_reducible apply ok_frame
    | with_reducible apply State.onField_frame
    | (intro)
    | (extract_lets +onlyGivenNames yy; clear_value yy; revert yy; intro y2)
    | with_reducible apply Ends.next
    | with_reducible apply SameBut.ite

theorem execStepStop_frame {a1} {s : State} (hs : SameBut x s0 s) (x_host : x .host = true) (x_ctr : x .ctr = true) (x_cairn : x .cairn = true) (x_field : x .field = true) : Ends (SameBut x s0) (execStepStop a1 s) := by
  unfold execStepStop
  repeat' first
    | with_reducible assumption
    | with_reducible apply serve_frame
    | with_reducible apply refused_frame
    | with_reducible apply State.onField_frame
    | with_reducible apply ok_frame
    | with_reducible apply State.onStp_frame
    | with_reducible apply stopAtOnce_frame
    | (intro)
    | (extract_lets +onlyGivenNames st; have hst : SameBut x s0 st := ?_; clear_value st; revert st; intro st2 hst2)
    | (extract_lets +onlyGivenNames yy; clear_value yy; revert yy; intro y2)
    | with_reducible apply Ends.next
    | with_reducible apply SameBut.ite

theorem execStepPulse_frame {a1} {s : State} (hs : SameBut x s0 s) (x_field : x .field = true) : Ends (SameBut x s0) (execStepPulse a1 s) := by
  unfold execStepPulse
  repeat' first
    | with_reducible assumption
    | with_reducible apply State.onStp_frame
    | (extract_lets +onlyGivenNames yy; clear_value yy; revert yy; intro y2)
    | with_reducible apply Ends.next
    | with_reducible apply SameBut.ite
    | split

theorem moveEnded_frame {s : State} {a2} (hs : SameBut x s0 s) (x_ctr : x .ctr = true) (x_cairn : x .cairn = true) (x_field : x .field = true) : SameBut x s0 (moveEnded s a2) := by
  unfold moveEnded
  repeat' first
    | with_reducible assumption
    | with_reducible apply fieldEvent_frame
    | with_reducible apply State.onStp_frame

theorem execStepRateUpdate_frame {a1} {s : State} (hs : SameBut x s0 s) (x_ctr : x .ctr = true) (x_cairn : x .cairn = true) (x_field : x .field = true) : Ends (SameBut x s0) (execStepRateUpdate a1 s) := by
  unfold execStepRateUpdate
  repeat' first
    | with_reducible assumption
    | with_reducible apply moveEnded_frame
    | with_reducible apply State.onStp_frame
    | (extract_lets +onlyGivenNames yy; clear_value yy; revert yy; intro y2)
    | with_reducible apply Ends.next
    | with_reducible apply SameBut.ite
    | split

theorem execStepSearchExhausted_frame {a1} {s : State} (hs : SameBut x s0 s) (x_ctr : x .ctr = true) (x_cairn : x .cairn = true) (x_field : x .field = true) : Ends (SameBut x s0) (execStepSearchExhausted a1 s) := by
  unfold execStepSearchExhausted
  repeat' first
    | with_reducible assumption
    | with_reducible apply fieldEvent_frame
    | with_reducible apply State.onStp_frame
    | (extract_lets +onlyGivenNames yy; clear_value yy; revert yy; intro y2)
    | with_reducible apply Ends.next
    | with_reducible apply SameBut.ite

/-! ## Machine/Tuning.lean -/

theorem sampleChannel_frame {s : State} {a2} (hs : SameBut x s0 s) (x_loop : x .loop = true) : SameBut x s0 (sampleChannel s a2) := by
  unfold sampleChannel
  repeat' first
    | with_reducible assumption
    | with_reducible apply State.onLoop_frame
    | (intro)
    | (extract_lets +onlyGivenNames st; have hst : SameBut x s0 st := ?_; clear_value st; revert st; intro st2 hst2)
    | (extract_lets +onlyGivenNames yy; clear_value yy; revert yy; intro y2)
    | (dsimp -zeta only [st]; clear st)
    | with_reducible apply SameBut.ite
    | split

theorem captureWindow_frame {s : State} (hs : SameBut x s0 s) (x_loop : x .loop = true) : SameBut x s0 (captureWindow s) := by
  unfold captureWindow
  repeat' first
    | with_reducible assumption
    | with_reducible apply State.onLoop_frame
    | with_reducible apply State.each_frame
    | with_reducible apply sampleChannel_frame
    | (intro)
    | (extract_lets +onlyGivenNames st; have hst : SameBut x s0 st := ?_; clear_value st; revert st; intro st2 hst2)
    | (extract_lets +onlyGivenNames yy; clear_value yy; revert yy; intro y2)
    | (extract_lets +onlyGivenNames yy; dsimp -zeta only [yy]; clear yy)
    | (dsimp -zeta only [st]; clear st)
    | with_reducible apply SameBut.ite

theorem execTuneCaptureRead_frame {a1} {s : State} (hs : SameBut x s0 s) (x_host : x .host = true) (x_ctr : x .ctr = true) : Ends (SameBut x s0) (execTuneCaptureRead a1 s) := by
  unfold execTuneCaptureRead
  repeat' first
    | with_reducible assumption
    | with_reducible apply serve_frame
    | with_reducible apply ok_frame
    | with_reducible apply refused_frame
    | with_reducible apply noteClamps_frame
    | (intro)
    | (extract_lets +onlyGivenNames st; have hst : SameBut x s0 st := ?_; clear_value st; revert st; intro st2 hst2)
    | (extract_lets +onlyGivenNames yy; clear_value yy; revert yy; intro y2)
    | with_reducible apply Ends.next
    | (dsimp -zeta only [st]; clear st)
    | with_reducible apply SameBut.ite
    | split

theorem execTuneInjectStart_frame {a1} {s : State} (hs : SameBut x s0 s) (x_host : x .host = true) (x_ctr : x .ctr = true) (x_loop : x .loop = true) : Ends (SameBut x s0) (execTuneInjectStart a1 s) := by
  unfold execTuneInjectStart
  repeat' first
    | with_reducible assumption
    | with_reducible apply serve_frame
    | with_reducible apply refused_frame
    | with_reducible apply stage_frame
    | (intro)
    | (extract_lets +onlyGivenNames yy; clear_value yy; revert yy; intro y2)
    | with_reducible apply Ends.next
    | with_reducible apply SameBut.ite

theorem execTuneInjectStop_frame {a1} {s : State} (hs : SameBut x s0 s) (x_host : x .host = true) (x_ctr : x .ctr = true) (x_loop : x .loop = true) : Ends (SameBut x s0) (execTuneInjectStop a1 s) := by
  unfold execTuneInjectStop
  repeat' first
    | with_reducible assumption
    | with_reducible apply serve_frame
    | with_reducible apply stage_frame
    | (intro)
    | (extract_lets +onlyGivenNames st; have hst : SameBut x s0 st := ?_; clear_value st; revert st; intro st2 hst2)
    | (extract_lets +onlyGivenNames yy; clear_value yy; revert yy; intro y2)
    | with_reducible apply Ends.next
    | with_reducible apply SameBut.ite
    | split

theorem execTuneCaptureArm_frame {a1} {s : State} (hs : SameBut x s0 s) (x_host : x .host = true) (x_ctr : x .ctr = true) (x_loop : x .loop = true) : Ends (SameBut x s0) (execTuneCaptureArm a1 s) := by
  unfold execTuneCaptureArm
  repeat' first
    | with_reducible assumption
    | with_reducible apply serve_frame
    | with_reducible apply refused_frame
    | with_reducible apply State.onLoop_frame
    | (intro)
    | (extract_lets +onlyGivenNames yy; clear_value yy; revert yy; intro y2)
    | with_reducible apply Ends.next
    | with_reducible apply SameBut.ite

/-! ## Machine/RingOps.lean -/

theorem cancelClose_frame {s : State} {a2} {a3} (hs : SameBut x s0 s) (x_ctr : x .ctr = true) (x_rings : x .rings = true) : SameBut x s0 (cancelClose s a2 a3) := by
  unfold cancelClose
  repeat' first
    | with_reducible assumption
    | with_reducible apply State.onRing_frame
    | with_reducible apply bump_frame
    | (intro)
    | with_reducible apply SameBut.ite
    | split

theorem failSpan_frame {s : State} {a2} {a3} (hs : SameBut x s0 s) (x_ctr : x .ctr = true) (x_rings : x .rings = true) : SameBut x s0 (failSpan s a2 a3) := by
  unfold failSpan
  repeat' first
    | with_reducible assumption
    | with_reducible apply State.onRing_frame
    | with_reducible apply cancelClose_frame

theorem startClose_frame {s : State} {a2} {a3} (hs : SameBut x s0 s) (x_rings : x .rings = true) : SameBut x s0 (startClose s a2 a3) := by
  unfold startClose
  repeat' first
    | with_reducible assumption
    | with_reducible apply State.onRing_frame
    | (intro)
    | with_reducible apply SameBut.ite
    | split

theorem spanUp_frame {s : State} {a2} {a3} (hs : SameBut x s0 s) (x_rings : x .rings = true) : SameBut x s0 (spanUp s a2 a3) := by
  unfold spanUp
  repeat' first
    | with_reducible assumption
    | with_reducible apply State.onRing_frame
    | with_reducible apply startClose_frame
    | (extract_lets +onlyGivenNames st; have hst : SameBut x s0 st := ?_; clear_value st; revert st; intro st2 hst2)
    | (extract_lets +onlyGivenNames yy; clear_value yy; revert yy; intro y2)
    | with_reducible apply SameBut.ite

theorem portFails_frame {s : State} {a2} {a3} (hs : SameBut x s0 s) (x_ctr : x .ctr = true) (x_rings : x .rings = true) : SameBut x s0 (portFails s a2 a3) := by
  unfold portFails
  repeat' first
    | with_reducible assumption
    | with_reducible apply State.onRing_frame
    | with_reducible apply failSpan_frame
    | (intro)
    | (extract_lets +onlyGivenNames st; have hst : SameBut x s0 st := ?_; clear_value st; revert st; intro st2 hst2)
    | (extract_lets +onlyGivenNames yy; clear_value yy; revert yy; intro y2)
    | (dsimp -zeta only [st]; clear st)
    | with_reducible apply SameBut.ite
    | split

theorem loseLock_frame {s : State} {a2} {a3} (hs : SameBut x s0 s) (x_ctr : x .ctr = true) (x_rings : x .rings = true) : SameBut x s0 (loseLock s a2 a3) := by
  unfold loseLock
  repeat' first
    | with_reducible assumption
    | with_reducible apply bump_frame
    | with_reducible apply portFails_frame
    | with_reducible apply State.onRing_frame
    | (intro)
    | (extract_lets +onlyGivenNames st; have hst : SameBut x s0 st := ?_; clear_value st; revert st; intro st2 hst2)
    | (extract_lets +onlyGivenNames yy; clear_value yy; revert yy; intro y2)
    | (dsimp -zeta only [st]; clear st)
    | with_reducible apply SameBut.ite
    | split

theorem healRing_frame {s : State} {a2} (hs : SameBut x s0 s) (x_ctr : x .ctr = true) (x_cairn : x .cairn = true) (x_rings : x .rings = true) (x_loop : x .loop = true) : SameBut x s0 (healRing s a2) := by
  unfold healRing
  repeat' first
    | with_reducible assumption
    | with_reducible apply State.each_frame
    | with_reducible apply endInjection_frame
    | with_reducible apply bump_frame
    | with_reducible apply State.onRing_frame
    | (intro)
    | (extract_lets +onlyGivenNames st; have hst : SameBut x s0 st := ?_; clear_value st; revert st; intro st2 hst2)
    | (extract_lets +onlyGivenNames yy; clear_value yy; revert yy; intro y2)
    | with_reducible apply SameBut.ite

theorem recloseRing_frame {s : State} {a2} (hs : SameBut x s0 s) (x_ctr : x .ctr = true) (x_rings : x .rings = true) : SameBut x s0 (recloseRing s a2) := by
  unfold recloseRing
  repeat' first
    | with_reducible assumption
    | with_reducible apply bump_frame
    | with_reducible apply State.onRing_frame

theorem leadRing_frame {s : State} {a2} (hs : SameBut x s0 s) (x_rings : x .rings = true) : SameBut x s0 (leadRing s a2) := by
  unfold leadRing
  repeat' first
    | with_reducible assumption
    | with_reducible apply State.onRing_frame
    | (intro)
    | with_reducible apply SameBut.ite
    | split

theorem followFrame_frame {s : State} {a2} {a3} (hs : SameBut x s0 s) (x_rings : x .rings = true) : SameBut x s0 (followFrame s a2 a3) := by
  unfold followFrame
  repeat' first
    | with_reducible assumption
    | with_reducible apply draw_frame_proj
    | with_reducible apply State.onRing_frame
    | (intro)
    | (extract_lets +onlyGivenNames st; have hst : SameBut x s0 st := ?_; clear_value st; revert st; intro st2 hst2)
    | (extract_lets +onlyGivenNames yy; clear_value yy; revert yy; intro y2)
    | (dsimp -zeta only [st]; clear st)
    | with_reducible apply SameBut.ite
    | split

theorem answerCfg_frame {s : State} {a2} {a3} (hs : SameBut x s0 s) (x_host : x .host = true) (x_ctr : x .ctr = true) (x_rings : x .rings = true) : SameBut x s0 (answerCfg s a2 a3) := by
  unfold answerCfg
  repeat' first
    | with_reducible assumption
    | with_reducible apply State.onRing_frame
    | with_reducible apply ok_frame
    | with_reducible apply State.each_frame
    | (intro)
    | (extract_lets +onlyGivenNames st; have hst : SameBut x s0 st := ?_; clear_value st; revert st; intro st2 hst2)
    | (extract_lets +onlyGivenNames yy; clear_value yy; revert yy; intro y2)
    | with_reducible apply SameBut.ite
    | split

theorem changeRate_frame {s : State} {a2} (hs : SameBut x s0 s) (x_sys : x .sys = true) (x_time : x .time = true) (x_nor : x .nor = true) : SameBut x s0 (changeRate s a2) := by
  unfold changeRate
  repeat' first
    | with_reducible assumption
    | with_reducible apply store_frame
    | with_reducible apply State.onSys_frame
    | with_reducible apply State.onTime_frame
    | (intro)
    | (extract_lets +onlyGivenNames st; have hst : SameBut x s0 st := ?_; clear_value st; revert st; intro st2 hst2)
    | (extract_lets +onlyGivenNames yy; clear_value yy; revert yy; intro y2)
    | (dsimp -zeta only [st]; clear st)
    | with_reducible apply SameBut.ite
    | split

theorem landRingCfg_frame {s : State} {a2} {a3} {a4} (hs : SameBut x s0 s) (x_sys : x .sys = true) (x_ctr : x .ctr = true) (x_rings : x .rings = true) (x_time : x .time = true) (x_nor : x .nor = true) : SameBut x s0 (landRingCfg s a2 a3 a4) := by
  unfold landRingCfg
  repeat' first
    | with_reducible assumption
    | with_reducible apply store_frame
    | with_reducible apply State.onRing_frame
    | with_reducible apply startClose_frame
    | with_reducible apply cancelClose_frame
    | (intro)
    | (extract_lets +onlyGivenNames st; have hst : SameBut x s0 st := ?_; clear_value st; revert st; intro st2 hst2)
    | (extract_lets +onlyGivenNames fn; have hfn : ∀ z, SameBut x s0 z → SameBut x s0 (fn z) := ?_; clear_value fn; revert fn; intro fn2 hfn)
    | (extract_lets +onlyGivenNames yy; clear_value yy; revert yy; intro y2)
    | (dsimp -zeta only [st]; clear st)
    | (dsimp -zeta only [fn]; clear fn)
    | with_reducible apply SameBut.ite
    | split

theorem landRings_frame {s : State} (hs : SameBut x s0 s) (x_sys : x .sys = true) (x_ctr : x .ctr = true) (x_rings : x .rings = true) (x_time : x .time = true) (x_nor : x .nor = true) : SameBut x s0 (landRings s) := by
  unfold landRings
  repeat' first
    | with_reducible assumption
    | with_reducible apply changeRate_frame
    | with_reducible apply State.onSys_frame
    | with_reducible apply State.each_frame
    | with_reducible apply State.onRing_frame
    | with_reducible apply landRingCfg_frame
    | (intro)
    | (extract_lets +onlyGivenNames st; have hst : SameBut x s0 st := ?_; clear_value st; revert st; intro st2 hst2)
    | (extract_lets +onlyGivenNames yy; clear_value yy; revert yy; intro y2)
    | (dsimp -zeta only [st]; clear st)
    | with_reducible apply SameBut.ite
    | split

theorem takeCopy_frame {s : State} {a2} (hs : SameBut x s0 s) (x_ctr : x .ctr = true) (x_rings : x .rings = true) : SameBut x s0 (takeCopy s a2) := by
  unfold takeCopy
  repeat' first
    | with_reducible assumption
    | with_reducible apply bump_frame
    | with_reducible apply State.onRing_frame
    | with_reducible apply foldl_frame
    | with_reducible apply foldl_frame_fst
    | (intro)
    | (extract_lets +onlyGivenNames st; have hst : SameBut x s0 st := ?_; clear_value st; revert st; intro st2 hst2)
    | (extract_lets +onlyGivenNames yy; clear_value yy; revert yy; intro y2)
    | (dsimp -zeta only [st]; clear st)
    | with_reducible apply SameBut.ite
    | split

theorem freezeRing_frame {s : State} {a2} (hs : SameBut x s0 s) (x_ctr : x .ctr = true) (x_rings : x .rings = true) : SameBut x s0 (freezeRing s a2) := by
  unfold freezeRing
  repeat' first
    | with_reducible assumption
    | with_reducible apply State.onRing_frame
    | with_reducible apply bump_frame
    | with_reducible apply foldl_frame
    | with_reducible apply foldl_frame_fst
    | (intro)
    | (extract_lets +onlyGivenNames st; have hst : SameBut x s0 st := ?_; clear_value st; revert st; intro st2 hst2)
    | (extract_lets +onlyGivenNames yy; clear_value yy; revert yy; intro y2)
    | (extract_lets +onlyGivenNames yy; dsimp -zeta only [yy]; clear yy)
    | (dsimp -zeta only [st]; clear st)
    | with_reducible apply SameBut.ite
    | split

theorem guardRing_frame {s : State} {a2} {a3} (hs : SameBut x s0 s) (x_host : x .host = true) (x_ctr : x .ctr = true) (x_rings : x .rings = true) : SameBut x s0 (guardRing s a2 a3) := by
  unfold guardRing
  repeat' first
    | with_reducible assumption
    | with_reducible apply bump_frame
    | with_reducible apply State.onRing_frame
    | with_reducible apply answerCfg_frame
    | (intro)
    | (extract_lets +onlyGivenNames st; have hst : SameBut x s0 st := ?_; clear_value st; revert st; intro st2 hst2)
    | (extract_lets +onlyGivenNames yy; clear_value yy; revert yy; intro y2)
    | (dsimp -zeta only [st]; clear st)
    | with_reducible apply SameBut.ite
    | split

theorem sendFrame_frame {s : State} {a2} {a3} (hs : SameBut x s0 s) (x_rings : x .rings = true) : SameBut x s0 (sendFrame s a2 a3) := by
  unfold sendFrame
  repeat' first
    | with_reducible assumption
    | with_reducible apply State.onRing_frame
    | (intro)
    | (extract_lets +onlyGivenNames st; have hst : SameBut x s0 st := ?_; clear_value st; revert st; intro st2 hst2)
    | (extract_lets +onlyGivenNames yy; clear_value yy; revert yy; intro y2)
    | (dsimp -zeta only [st]; clear st)
    | with_reducible apply SameBut.ite
    | split

theorem answerLed_frame {s : State} {a2} (hs : SameBut x s0 s) (x_host : x .host = true) (x_ctr : x .ctr = true) (x_rings : x .rings = true) : SameBut x s0 (answerLed s a2) := by
  unfold answerLed
  repeat' first
    | with_reducible assumption
    | with_reducible apply answerCfg_frame
    | (intro)
    | with_reducible apply SameBut.ite
    | split

theorem ringInstant_frame {s : State} {a2} (hs : SameBut x s0 s) (x_host : x .host = true) (x_ctr : x .ctr = true) (x_rings : x .rings = true) : SameBut x s0 (ringInstant s a2) := by
  unfold ringInstant
  repeat' first
    | with_reducible assumption
    | with_reducible apply State.onRing_frame
    | with_reducible apply answerLed_frame
    | with_reducible apply sendFrame_frame
    | (intro)
    | (extract_lets +onlyGivenNames st; have hst : SameBut x s0 st := ?_; clear_value st; revert st; intro st2 hst2)
    | (extract_lets +onlyGivenNames yy; clear_value yy; revert yy; intro y2)
    | (extract_lets +onlyGivenNames yy; dsimp -zeta only [yy]; clear yy)
    | (dsimp -zeta only [st]; clear st)
    | with_reducible apply SameBut.ite
    | split

theorem ringRelease_frame {s : State} {a2} (hs : SameBut x s0 s) (x_host : x .host = true) (x_ctr : x .ctr = true) (x_rings : x .rings = true) : SameBut x s0 (ringRelease s a2) := by
  unfold ringRelease
  repeat' first
    | with_reducible assumption
    | with_reducible apply State.onRing_frame
    | with_reducible apply answerLed_frame
    | with_reducible apply sendFrame_frame
    | (intro)
    | (extract_lets +onlyGivenNames st; have hst : SameBut x s0 st := ?_; clear_value st; revert st; intro st2 hst2)
    | (extract_lets +onlyGivenNames yy; clear_value yy; revert yy; intro y2)
    | (dsimp -zeta only [st]; clear st)
    | with_reducible apply SameBut.ite
    | split

theorem hearColdstart_frame {s : State} {a2} {a3} (hs : SameBut x s0 s) (x_ctr : x .ctr = true) (x_rings : x .rings = true) : SameBut x s0 (hearColdstart s a2 a3) := by
  unfold hearColdstart
  repeat' first
    | with_reducible assumption
    | with_reducible apply bump_frame
    | with_reducible apply State.onRing_frame
    | (intro)
    | (extract_lets +onlyGivenNames st; have hst : SameBut x s0 st := ?_; clear_value st; revert st; intro st2 hst2)
    | (extract_lets +onlyGivenNames yy; clear_value yy; revert yy; intro y2)
    | (dsimp -zeta only [st]; clear st)
    | with_reducible apply SameBut.ite
    | split

theorem takeSet_frame {s : State} {a2} {a3} (hs : SameBut x s0 s) (x_ctr : x .ctr = true) (x_rings : x .rings = true) : SameBut x s0 (takeSet s a2 a3) := by
  unfold takeSet
  repeat' first
    | with_reducible assumption
    | with_reducible apply failSpan_frame
    | with_reducible apply bump_frame
    | with_reducible apply spanUp_frame
    | with_reducible apply State.onRing_frame
    | with_reducible apply hearColdstart_frame
    | (intro)
    | (extract_lets +onlyGivenNames st; have hst : SameBut x s0 st := ?_; clear_value st; revert st; intro st2 hst2)
    | (extract_lets +onlyGivenNames yy; clear_value yy; revert yy; intro y2)
    | (dsimp -zeta only [st]; clear st)
    | with_reducible apply SameBut.ite
    | split

theorem receiveSets_frame {s : State} {a2} {a3} {a4} (hs : SameBut x s0 s) (x_ctr : x .ctr = true) (x_rings : x .rings = true) : SameBut x s0 (receiveSets s a2 a3 a4) := by
  unfold receiveSets
  repeat' first
    | with_reducible assumption
    | with_reducible apply State.onRing_frame
    | with_reducible apply State.each_frame
    | with_reducible apply takeSet_frame
    | with_reducible apply foldl_frame
    | with_reducible apply foldl_frame_fst
    | (intro)
    | (extract_lets +onlyGivenNames st; have hst : SameBut x s0 st := ?_; clear_value st; revert st; intro st2 hst2)
    | (extract_lets +onlyGivenNames yy; clear_value yy; revert yy; intro y2)
    | with_reducible apply SameBut.ite
    | split

/-! ## Machine/Ring.lean -/

theorem execRingStatus_frame {a1} {s : State} (hs : SameBut x s0 s) (x_host : x .host = true) (x_ctr : x .ctr = true) : Ends (SameBut x s0) (execRingStatus a1 s) := by
  unfold execRingStatus
  repeat' first
    | with_reducible assumption
    | with_reducible apply serve_frame
    | with_reducible apply ok_frame
    | (intro)
    | (extract_lets +onlyGivenNames yy; clear_value yy; revert yy; intro y2)
    | with_reducible apply Ends.next

theorem execRingNodes_frame {a1} {s : State} (hs : SameBut x s0 s) (x_host : x .host = true) (x_ctr : x .ctr = true) : Ends (SameBut x s0) (execRingNodes a1 s) := by
  unfold execRingNodes
  repeat' first
    | with_reducible assumption
    | with_reducible apply serve_frame
    | with_reducible apply ok_frame
    | (intro)
    | (extract_lets +onlyGivenNames yy; clear_value yy; revert yy; intro y2)
    | with_reducible apply Ends.next

theorem execRingConfig_frame {a1} {s : State} (hs : SameBut x s0 s) (x_sys : x .sys = true) (x_pow : x .pow = true) (x_host : x .host = true) (x_ctr : x .ctr = true) (x_dbg : x .dbg = true) (x_cairn : x .cairn = true) (x_rings : x .rings = true) : Ends (SameBut x s0) (execRingConfig a1 s) := by
  unfold execRingConfig
  repeat' first
    | with_reducible assumption
    | with_reducible apply serve_frame
    | with_reducible apply refused_frame
    | with_reducible apply State.each_frame
    | with_reducible apply setSleep_frame
    | with_reducible apply State.onRing_frame
    | with_reducible apply State.onSys_frame
    | (intro)
    | (extract_lets +onlyGivenNames st; have hst : SameBut x s0 st := ?_; clear_value st; revert st; intro st2 hst2)
    | (extract_lets +onlyGivenNames fn; have hfn : ∀ z, SameBut x s0 z → SameBut x s0 (fn z) := ?_; clear_value fn; revert fn; intro fn2 hfn)
    | (extract_lets +onlyGivenNames yy; clear_value yy; revert yy; intro y2)
    | with_reducible apply Ends.next
    | (dsimp -zeta only [st]; clear st)
    | (dsimp -zeta only [fn]; clear fn)
    | with_reducible apply SameBut.ite
    | split

theorem execCollectCopyRx_frame {a1} {s : State} (hs : SameBut x s0 s) (x_ctr : x .ctr = true) (x_rings : x .rings = true) : Ends (SameBut x s0) (execCollectCopyRx a1 s) := by
  unfold execCollectCopyRx
  repeat' first
    | with_reducible assumption
    | with_reducible apply takeCopy_frame
    | with_reducible apply Ends.next

theorem execServiceAnswerRx_frame {a1} {a2} {s : State} (hs : SameBut x s0 s) (x_rings : x .rings = true) : Ends (SameBut x s0) (execServiceAnswerRx a1 a2 s) := by
  unfold execServiceAnswerRx
  repeat' first
    | with_reducible assumption
    | with_reducible apply State.onRing_frame
    | (intro)
    | (extract_lets +onlyGivenNames st; have hst : SameBut x s0 st := ?_; clear_value st; revert st; intro st2 hst2)
    | (extract_lets +onlyGivenNames fn; have hfn : ∀ z, SameBut x s0 z → SameBut x s0 (fn z) := ?_; clear_value fn; revert fn; intro fn2 hfn)
    | (extract_lets +onlyGivenNames yy; clear_value yy; revert yy; intro y2)
    | with_reducible apply Ends.next
    | (dsimp -zeta only [st]; clear st)
    | (dsimp -zeta only [fn]; clear fn)
    | with_reducible apply SameBut.ite
    | split

theorem execServiceRetry_frame {a1} {s : State} (hs : SameBut x s0 s) (x_ctr : x .ctr = true) (x_rings : x .rings = true) : Ends (SameBut x s0) (execServiceRetry a1 s) := by
  unfold execServiceRetry
  repeat' first
    | with_reducible assumption
    | with_reducible apply State.onRing_frame
    | with_reducible apply bump_frame
    | (intro)
    | with_reducible apply Ends.next
    | with_reducible apply SameBut.ite
    | split

theorem execColdstartListenEnd_frame {a1} {s : State} (hs : SameBut x s0 s) (x_rings : x .rings = true) : Ends (SameBut x s0) (execColdstartListenEnd a1 s) := by
  unfold execColdstartListenEnd
  repeat' first
    | with_reducible assumption
    | with_reducible apply State.onRing_frame
    | (extract_lets +onlyGivenNames yy; clear_value yy; revert yy; intro y2)
    | with_reducible apply Ends.next
    | with_reducible apply SameBut.ite

theorem execColdstartRx_frame {a1} {a2} {s : State} (hs : SameBut x s0 s) (x_ctr : x .ctr = true) (x_rings : x .rings = true) : Ends (SameBut x s0) (execColdstartRx a1 a2 s) := by
  unfold execColdstartRx
  repeat' first
    | with_reducible assumption
    | with_reducible apply receiveSets_frame
    | (intro)
    | (extract_lets +onlyGivenNames yy; clear_value yy; revert yy; intro y2)
    | with_reducible apply Ends.next
    | with_reducible apply SameBut.ite
    | split

theorem execColdstartLead_frame {a1} {s : State} (hs : SameBut x s0 s) (x_ctr : x .ctr = true) (x_rings : x .rings = true) (x_red : x .red = true) : Ends (SameBut x s0) (execColdstartLead a1 s) := by
  unfold execColdstartLead
  repeat' first
    | with_reducible assumption
    | with_reducible apply State.onRed_frame
    | with_reducible apply bump_frame
    | with_reducible apply leadRing_frame
    | with_reducible apply Ends.next
    | with_reducible apply SameBut.ite

theorem seePartner_frame {s : State} {a2} (hs : SameBut x s0 s) (x_red : x .red = true) (x_can : x .can = true) : SameBut x s0 (seePartner s a2) := by
  unfold seePartner
  repeat' first
    | with_reducible assumption
    | with_reducible apply State.onRed_frame
    | with_reducible apply becomeStandby_frame
    | (intro)
    | (extract_lets +onlyGivenNames st; have hst : SameBut x s0 st := ?_; clear_value st; revert st; intro st2 hst2)
    | (extract_lets +onlyGivenNames yy; clear_value yy; revert yy; intro y2)
    | (dsimp -zeta only [st]; clear st)
    | with_reducible apply SameBut.ite
    | split

theorem followInstant_frame {s : State} {a2} (hs : SameBut x s0 s) (x_time : x .time = true) : SameBut x s0 (followInstant s a2) := by
  unfold followInstant
  repeat' first
    | with_reducible assumption
    | with_reducible apply State.onTime_frame
    | (intro)
    | with_reducible apply SameBut.ite
    | split

theorem execLeaderFrameRx_frame {a1} {a2} {s : State} (hs : SameBut x s0 s) (x_host : x .host = true) (x_ctr : x .ctr = true) (x_rings : x .rings = true) (x_time : x .time = true) (x_red : x .red = true) (x_can : x .can = true) : Ends (SameBut x s0) (execLeaderFrameRx a1 a2 s) := by
  unfold execLeaderFrameRx
  repeat' first
    | with_reducible assumption
    | with_reducible apply receiveSets_frame
    | with_reducible apply seePartner_frame
    | with_reducible apply followInstant_frame
    | with_reducible apply followFrame_frame
    | with_reducible apply answerCfg_frame
    | (intro)
    | (extract_lets +onlyGivenNames st; have hst : SameBut x s0 st := ?_; clear_value st; revert st; intro st2 hst2)
    | (extract_lets +onlyGivenNames yy; clear_value yy; revert yy; intro y2)
    | with_reducible apply Ends.next
    | (dsimp -zeta only [st]; clear st)
    | with_reducible apply SameBut.ite
    | split

theorem execMemberIntegrate_frame {a1} {s : State} (hs : SameBut x s0 s) (x_rings : x .rings = true) : Ends (SameBut x s0) (execMemberIntegrate a1 s) := by
  unfold execMemberIntegrate
  repeat' first
    | with_reducible assumption
    | with_reducible apply State.onRing_frame
    | (intro)
    | (extract_lets +onlyGivenNames st; have hst : SameBut x s0 st := ?_; clear_value st; revert st; intro st2 hst2)
    | (extract_lets +onlyGivenNames yy; clear_value yy; revert yy; intro y2)
    | with_reducible apply Ends.next
    | (dsimp -zeta only [st]; clear st)
    | with_reducible apply SameBut.ite
    | split

theorem execLocalFault_frame {a1} {a2} {s : State} (hs : SameBut x s0 s) (x_ctr : x .ctr = true) (x_rings : x .rings = true) : Ends (SameBut x s0) (execLocalFault a1 a2 s) := by
  unfold execLocalFault
  repeat' first
    | with_reducible assumption
    | with_reducible apply loseLock_frame
    | with_reducible apply Ends.next

theorem execRemoteFaultRx_frame {a1} {a2} {s : State} (hs : SameBut x s0 s) (x_ctr : x .ctr = true) (x_rings : x .rings = true) : Ends (SameBut x s0) (execRemoteFaultRx a1 a2 s) := by
  unfold execRemoteFaultRx
  repeat' first
    | with_reducible assumption
    | with_reducible apply portFails_frame
    | with_reducible apply State.onRing_frame
    | with_reducible apply Ends.next

theorem execSpandownRx_frame {a1} {a2} {a3} {s : State} (hs : SameBut x s0 s) (x_ctr : x .ctr = true) (x_rings : x .rings = true) : Ends (SameBut x s0) (execSpandownRx a1 a2 a3 s) := by
  unfold execSpandownRx
  repeat' first
    | with_reducible assumption
    | with_reducible apply receiveSets_frame
    | (intro)
    | with_reducible apply Ends.next
    | with_reducible apply SameBut.ite
    | split

theorem execRingHeal_frame {a1} {s : State} (hs : SameBut x s0 s) (x_ctr : x .ctr = true) (x_cairn : x .cairn = true) (x_rings : x .rings = true) (x_loop : x .loop = true) : Ends (SameBut x s0) (execRingHeal a1 s) := by
  unfold execRingHeal
  repeat' first
    | with_reducible assumption
    | with_reducible apply healRing_frame
    | with_reducible apply Ends.next

theorem execSpanLockHold_frame {a1} {a2} {s : State} (hs : SameBut x s0 s) (x_rings : x .rings = true) : Ends (SameBut x s0) (execSpanLockHold a1 a2 s) := by
  unfold execSpanLockHold
  repeat' first
    | with_reducible assumption
    | with_reducible apply spanUp_frame
    | with_reducible apply State.onRing_frame
    | (intro)
    | (extract_lets +onlyGivenNames st; have hst : SameBut x s0 st := ?_; clear_value st; revert st; intro st2 hst2)
    | (extract_lets +onlyGivenNames yy; clear_value yy; revert yy; intro y2)
    | with_reducible apply Ends.next
    | (dsimp -zeta only [st]; clear st)
    | with_reducible apply SameBut.ite
    | split

theorem execSpanupRx_frame {a1} {a2} {a3} {s : State} (hs : SameBut x s0 s) (x_ctr : x .ctr = true) (x_rings : x .rings = true) : Ends (SameBut x s0) (execSpanupRx a1 a2 a3 s) := by
  unfold execSpanupRx
  repeat' first
    | with_reducible assumption
    | with_reducible apply receiveSets_frame
    | (intro)
    | with_reducible apply Ends.next
    | with_reducible apply SameBut.ite
    | split

theorem execClosearmCheck_frame {a1} {s : State} (hs : SameBut x s0 s) (x_ctr : x .ctr = true) (x_rings : x .rings = true) : Ends (SameBut x s0) (execClosearmCheck a1 s) := by
  unfold execClosearmCheck
  repeat' first
    | with_reducible assumption
    | with_reducible apply cancelClose_frame
    | (intro)
    | (extract_lets +onlyGivenNames st; have hst : SameBut x s0 st := ?_; clear_value st; revert st; intro st2 hst2)
    | (extract_lets +onlyGivenNames yy; clear_value yy; revert yy; intro y2)
    | with_reducible apply Ends.next
    | (dsimp -zeta only [st]; clear st)
    | with_reducible apply SameBut.ite
    | split

theorem execCloseTarget_frame {a1} {s : State} (hs : SameBut x s0 s) (x_ctr : x .ctr = true) (x_rings : x .rings = true) : Ends (SameBut x s0) (execCloseTarget a1 s) := by
  unfold execCloseTarget
  repeat' first
    | with_reducible assumption
    | with_reducible apply recloseRing_frame
    | with_reducible apply Ends.next
    | with_reducible apply SameBut.ite

theorem execRecloseRetry_frame {a1} {s : State} (hs : SameBut x s0 s) (x_rings : x .rings = true) : Ends (SameBut x s0) (execRecloseRetry a1 s) := by
  unfold execRecloseRetry
  repeat' first
    | with_reducible assumption
    | with_reducible apply startClose_frame
    | (intro)
    | (extract_lets +onlyGivenNames st; have hst : SameBut x s0 st := ?_; clear_value st; revert st; intro st2 hst2)
    | (extract_lets +onlyGivenNames yy; clear_value yy; revert yy; intro y2)
    | with_reducible apply Ends.next
    | (dsimp -zeta only [st]; clear st)
    | with_reducible apply SameBut.ite
    | split

theorem execBlockLockGained_frame {a1} {s : State} (hs : SameBut x s0 s) (x_rings : x .rings = true) (x_links : x .links = true) : Ends (SameBut x s0) (execBlockLockGained a1 s) := by
  unfold execBlockLockGained
  repeat' first
    | with_reducible assumption
    | with_reducible apply State.onRing_frame
    | with_reducible apply State.onLink_frame
    | (intro)
    | with_reducible apply Ends.next
    | with_reducible apply SameBut.ite
    | split

/-! ## Machine/SafetyCmd.lean -/

theorem execScarpStopInject_frame {s : State} (hs : SameBut x s0 s) (x_ctr : x .ctr = true) (x_rings : x .rings = true) : Ends (SameBut x s0) (execScarpStopInject s) := by
  unfold execScarpStopInject
  repeat' first
    | with_reducible assumption
    | with_reducible apply sendStop_frame
    | with_reducible apply Ends.next
    | with_reducible apply SameBut.ite

theorem execSafeInputSample_frame {a1} {a2} {a3} {a4} {s : State} (hs : SameBut x s0 s) (x_ctr : x .ctr = true) (x_cairn : x .cairn = true) (x_rings : x .rings = true) (x_safety : x .safety = true) : Ends (SameBut x s0) (execSafeInputSample a1 a2 a3 a4 s) := by
  unfold execSafeInputSample
  repeat' first
    | with_reducible assumption
    | with_reducible apply sampleSafety_frame
    | with_reducible apply Ends.next

theorem execMonitorPointSample_frame {a1} {a2} {s : State} (hs : SameBut x s0 s) (x_ctr : x .ctr = true) (x_cairn : x .cairn = true) (x_safety : x .safety = true) : Ends (SameBut x s0) (execMonitorPointSample a1 a2 s) := by
  unfold execMonitorPointSample
  repeat' first
    | with_reducible assumption
    | with_reducible apply samplePoints_frame
    | with_reducible apply Ends.next

theorem execSafeLinkFrameRx_frame {a1} {a2} {a3} {a4} {s : State} (hs : SameBut x s0 s) (x_ctr : x .ctr = true) (x_cairn : x .cairn = true) (x_multi : x .multi = true) (x_safety : x .safety = true) : Ends (SameBut x s0) (execSafeLinkFrameRx a1 a2 a3 a4 s) := by
  unfold execSafeLinkFrameRx
  repeat' first
    | with_reducible assumption
    | with_reducible apply publishFrame_frame
    | with_reducible apply safeFrame_frame
    | (extract_lets +onlyGivenNames st; have hst : SameBut x s0 st := ?_; clear_value st; revert st; intro st2 hst2)
    | with_reducible apply Ends.next
    | (dsimp -zeta only [st]; clear st)
    | with_reducible apply SameBut.ite

theorem execSafeLinkLost_frame {a1} {a2} {s : State} (hs : SameBut x s0 s) (x_ctr : x .ctr = true) (x_cairn : x .cairn = true) (x_safety : x .safety = true) : Ends (SameBut x s0) (execSafeLinkLost a1 a2 s) := by
  unfold execSafeLinkLost
  repeat' first
    | with_reducible assumption
    | with_reducible apply State.onChan_frame
    | with_reducible apply State.each_frame
    | with_reducible apply latchTrip_frame
    | (intro)
    | (extract_lets +onlyGivenNames st; have hst : SameBut x s0 st := ?_; clear_value st; revert st; intro st2 hst2)
    | (extract_lets +onlyGivenNames yy; clear_value yy; revert yy; intro y2)
    | with_reducible apply Ends.next
    | with_reducible apply SameBut.ite
    | split

theorem execCrossChannelExchange_frame {a1} {a2} {s : State} (hs : SameBut x s0 s) (x_ctr : x .ctr = true) (x_cairn : x .cairn = true) (x_safety : x .safety = true) : Ends (SameBut x s0) (execCrossChannelExchange a1 a2 s) := by
  unfold execCrossChannelExchange
  repeat' first
    | with_reducible assumption
    | with_reducible apply State.onChan_frame
    | with_reducible apply latchTrip_frame
    | (extract_lets +onlyGivenNames st; have hst : SameBut x s0 st := ?_; clear_value st; revert st; intro st2 hst2)
    | with_reducible apply Ends.next
    | (dsimp -zeta only [st]; clear st)
    | with_reducible apply SameBut.ite
    | split

theorem execCrossMismatch_frame {s : State} (hs : SameBut x s0 s) (x_ctr : x .ctr = true) (x_cairn : x .cairn = true) (x_safety : x .safety = true) : Ends (SameBut x s0) (execCrossMismatch s) := by
  unfold execCrossMismatch
  repeat' first
    | with_reducible assumption
    | with_reducible apply tripModule_frame
    | (intro)
    | with_reducible apply Ends.next
    | with_reducible apply SameBut.ite
    | split

theorem execOtherChannelLoss_frame {a1} {s : State} (hs : SameBut x s0 s) (x_ctr : x .ctr = true) (x_cairn : x .cairn = true) (x_safety : x .safety = true) : Ends (SameBut x s0) (execOtherChannelLoss a1 s) := by
  unfold execOtherChannelLoss
  repeat' first
    | with_reducible assumption
    | with_reducible apply latchTrip_frame
    | with_reducible apply Ends.next

theorem execTripRequestRx_frame {a1} {a2} {a3} {s : State} (hs : SameBut x s0 s) (x_ctr : x .ctr = true) (x_cairn : x .cairn = true) (x_safety : x .safety = true) : Ends (SameBut x s0) (execTripRequestRx a1 a2 a3 s) := by
  unfold execTripRequestRx
  repeat' first
    | with_reducible assumption
    | with_reducible apply latchTrip_frame
    | with_reducible apply Ends.next

theorem execSwitchTest_frame {a1} {a2} {a3} {s : State} (hs : SameBut x s0 s) (x_ctr : x .ctr = true) (x_cairn : x .cairn = true) (x_safety : x .safety = true) : Ends (SameBut x s0) (execSwitchTest a1 a2 a3 s) := by
  unfold execSwitchTest
  repeat' first
    | with_reducible assumption
    | with_reducible apply latchTrip_frame
    | with_reducible apply Ends.next
    | with_reducible apply SameBut.ite

theorem execStoLineLimit_frame {a1} {s : State} (hs : SameBut x s0 s) (x_ctr : x .ctr = true) (x_cairn : x .cairn = true) (x_safety : x .safety = true) : Ends (SameBut x s0) (execStoLineLimit a1 s) := by
  unfold execStoLineLimit
  repeat' first
    | with_reducible assumption
    | with_reducible apply tripModule_frame
    | with_reducible apply Ends.next
    | with_reducible apply SameBut.ite

theorem execSs1End_frame {a1} {a2} {s : State} (hs : SameBut x s0 s) (x_ctr : x .ctr = true) (x_cairn : x .cairn = true) (x_safety : x .safety = true) : Ends (SameBut x s0) (execSs1End a1 a2 s) := by
  unfold execSs1End
  repeat' first
    | with_reducible assumption
    | with_reducible apply endSs1_frame
    | (extract_lets +onlyGivenNames yy; clear_value yy; revert yy; intro y2)
    | with_reducible apply Ends.next
    | with_reducible apply SameBut.ite

theorem execBrakeFeedbackTimeout_frame {a1} {a2} {s : State} (hs : SameBut x s0 s) (x_ctr : x .ctr = true) (x_cairn : x .cairn = true) (x_safety : x .safety = true) : Ends (SameBut x s0) (execBrakeFeedbackTimeout a1 a2 s) := by
  unfold execBrakeFeedbackTimeout
  repeat' first
    | with_reducible assumption
    | with_reducible apply latchTrip_frame
    | with_reducible apply State.onChan_frame
    | (extract_lets +onlyGivenNames yy; clear_value yy; revert yy; intro y2)
    | with_reducible apply Ends.next
    | with_reducible apply SameBut.ite
    | split

theorem execResetDisagree_frame {a1} {a2} {s : State} (hs : SameBut x s0 s) (x_ctr : x .ctr = true) (x_cairn : x .cairn = true) (x_safety : x .safety = true) : Ends (SameBut x s0) (execResetDisagree a1 a2 s) := by
  unfold execResetDisagree
  repeat' first
    | with_reducible assumption
    | with_reducible apply State.onChan_frame
    | with_reducible apply safetyEvent_frame
    | (extract_lets +onlyGivenNames st; have hst : SameBut x s0 st := ?_; clear_value st; revert st; intro st2 hst2)
    | (extract_lets +onlyGivenNames yy; clear_value yy; revert yy; intro y2)
    | with_reducible apply Ends.next
    | with_reducible apply SameBut.ite

theorem execSafetyCoreFault_frame {s : State} (hs : SameBut x s0 s) (x_sys : x .sys = true) (x_ctr : x .ctr = true) (x_cairn : x .cairn = true) (x_safety : x .safety = true) : Ends (SameBut x s0) (execSafetyCoreFault s) := by
  unfold execSafetyCoreFault
  repeat' first
    | with_reducible assumption
    | with_reducible apply haltCore_frame
    | with_reducible apply Ends.next
    | with_reducible apply SameBut.ite

theorem execScarpInternalFault_frame {s : State} (hs : SameBut x s0 s) (x_ctr : x .ctr = true) (x_cairn : x .cairn = true) (x_safety : x .safety = true) : Ends (SameBut x s0) (execScarpInternalFault s) := by
  unfold execScarpInternalFault
  repeat' first
    | with_reducible assumption
    | with_reducible apply latchTrip_frame
    | with_reducible apply Ends.next

theorem redEvent_frame {s : State} {a2} {a3} {a4} (hs : SameBut x s0 s) (x_ctr : x .ctr = true) (x_cairn : x .cairn = true) : SameBut x s0 (redEvent s a2 a3 a4) := by
  unfold redEvent
  repeat' first
    | with_reducible assumption
    | with_reducible apply codeEvent_frame

theorem execPairSafeFrameRx_frame {a1} {a2} {s : State} (hs : SameBut x s0 s) (x_ctr : x .ctr = true) (x_cairn : x .cairn = true) (x_safety : x .safety = true) : Ends (SameBut x s0) (execPairSafeFrameRx a1 a2 s) := by
  unfold execPairSafeFrameRx
  repeat' first
    | with_reducible assumption
    | with_reducible apply State.onChan_frame
    | with_reducible apply latchTrip_frame
    | with_reducible apply State.each_frame
    | with_reducible apply bump_frame
    | (intro)
    | (extract_lets +onlyGivenNames st; have hst : SameBut x s0 st := ?_; clear_value st; revert st; intro st2 hst2)
    | (extract_lets +onlyGivenNames yy; clear_value yy; revert yy; intro y2)
    | with_reducible apply Ends.next
    | (dsimp -zeta only [st]; clear st)
    | with_reducible apply SameBut.ite
    | split

theorem execPairExchangeLoss_frame {a1} {a2} {s : State} (hs : SameBut x s0 s) (x_ctr : x .ctr = true) (x_cairn : x .cairn = true) (x_red : x .red = true) (x_safety : x .safety = true) : Ends (SameBut x s0) (execPairExchangeLoss a1 a2 s) := by
  unfold execPairExchangeLoss
  repeat' first
    | with_reducible assumption
    | with_reducible apply State.onRed_frame
    | with_reducible apply State.onChan_frame
    | with_reducible apply redEvent_frame
    | (extract_lets +onlyGivenNames st; have hst : SameBut x s0 st := ?_; clear_value st; revert st; intro st2 hst2)
    | (extract_lets +onlyGivenNames yy; clear_value yy; revert yy; intro y2)
    | with_reducible apply Ends.next
    | with_reducible apply SameBut.ite
    | split

theorem execSafetyStatus_frame {a1} {s : State} (hs : SameBut x s0 s) (x_host : x .host = true) (x_ctr : x .ctr = true) : Ends (SameBut x s0) (execSafetyStatus a1 s) := by
  unfold execSafetyStatus
  repeat' first
    | with_reducible assumption
    | with_reducible apply serve_frame
    | with_reducible apply ok_frame
    | (intro)
    | with_reducible apply Ends.next

theorem execSafetyConfigCrc_frame {a1} {s : State} (hs : SameBut x s0 s) (x_host : x .host = true) (x_ctr : x .ctr = true) : Ends (SameBut x s0) (execSafetyConfigCrc a1 s) := by
  unfold execSafetyConfigCrc
  repeat' first
    | with_reducible assumption
    | with_reducible apply serve_frame
    | with_reducible apply ok_frame
    | (intro)
    | with_reducible apply Ends.next

theorem execSafetyChangelogRead_frame {a1} {s : State} (hs : SameBut x s0 s) (x_host : x .host = true) (x_ctr : x .ctr = true) : Ends (SameBut x s0) (execSafetyChangelogRead a1 s) := by
  unfold execSafetyChangelogRead
  repeat' first
    | with_reducible assumption
    | with_reducible apply serve_frame
    | with_reducible apply ok_frame
    | (intro)
    | (extract_lets +onlyGivenNames yy; clear_value yy; revert yy; intro y2)
    | with_reducible apply Ends.next

theorem wrongPassword_frame {s : State} {a2} (hs : SameBut x s0 s) (x_ctr : x .ctr = true) (x_cairn : x .cairn = true) (x_safety : x .safety = true) : SameBut x s0 (wrongPassword s a2) := by
  unfold wrongPassword
  repeat' first
    | with_reducible assumption
    | with_reducible apply safetyEvent_frame
    | with_reducible apply State.onSafety_frame
    | with_reducible apply logWrite_frame
    | (extract_lets +onlyGivenNames st; have hst : SameBut x s0 st := ?_; clear_value st; revert st; intro st2 hst2)
    | (extract_lets +onlyGivenNames yy; clear_value yy; revert yy; intro y2)
    | with_reducible apply SameBut.ite

theorem openSession_frame {s : State} {a2} {a3} {a4} (hs : SameBut x s0 s) (x_host : x .host = true) (x_ctr : x .ctr = true) (x_cairn : x .cairn = true) (x_safety : x .safety = true) : SameBut x s0 (openSession s a2 a3 a4) := by
  unfold openSession
  repeat' first
    | with_reducible assumption
    | with_reducible apply draw_frame_proj
    | with_reducible apply State.onSafety_frame
    | with_reducible apply safetyEvent_frame
    | with_reducible apply tripModule_frame
    | with_reducible apply ok_frame

theorem execSafetySessionOpen_frame {a1} {s : State} (hs : SameBut x s0 s) (x_host : x .host = true) (x_ctr : x .ctr = true) (x_cairn : x .cairn = true) (x_safety : x .safety = true) : Ends (SameBut x s0) (execSafetySessionOpen a1 s) := by
  unfold execSafetySessionOpen
  repeat' first
    | with_reducible assumption
    | with_reducible apply serve_frame
    | with_reducible apply refused_frame
    | with_reducible apply denied_frame
    | with_reducible apply openSession_frame
    | with_reducible apply wrongPassword_frame
    | (intro)
    | (extract_lets +onlyGivenNames yy; clear_value yy; revert yy; intro y2)
    | with_reducible apply Ends.next
    | with_reducible apply SameBut.ite
    | split

theorem execSafetyConfigWrite_frame {a1} {s : State} (hs : SameBut x s0 s) (x_host : x .host = true) (x_ctr : x .ctr = true) (x_safety : x .safety = true) : Ends (SameBut x s0) (execSafetyConfigWrite a1 s) := by
  unfold execSafetyConfigWrite
  repeat' first
    | with_reducible assumption
    | with_reducible apply serve_frame
    | with_reducible apply denied_frame
    | with_reducible apply ok_frame
    | with_reducible apply State.onSafety_frame
    | (intro)
    | (extract_lets +onlyGivenNames yy; clear_value yy; revert yy; intro y2)
    | with_reducible apply Ends.next
    | split

theorem commitSession_frame {s : State} {a2} {a3} (hs : SameBut x s0 s) (x_safety : x .safety = true) : SameBut x s0 (commitSession s a2 a3) := by
  unfold commitSession
  repeat' first
    | with_reducible assumption
    | with_reducible apply State.onSafety_frame
    | with_reducible apply logWrite_frame
    | with_reducible apply draw_frame_proj
    | (extract_lets +onlyGivenNames st; have hst : SameBut x s0 st := ?_; clear_value st; revert st; intro st2 hst2)
    | (extract_lets +onlyGivenNames yy; clear_value yy; revert yy; intro y2)
    | split

theorem execSafetySessionClose_frame {a1} {s : State} (hs : SameBut x s0 s) (x_host : x .host = true) (x_ctr : x .ctr = true) (x_cairn : x .cairn = true) (x_safety : x .safety = true) : Ends (SameBut x s0) (execSafetySessionClose a1 s) := by
  unfold execSafetySessionClose
  repeat' first
    | with_reducible assumption
    | with_reducible apply serve_frame
    | with_reducible apply denied_frame
    | with_reducible apply ok_frame
    | with_reducible apply safetyEvent_frame
    | with_reducible apply State.onSafety_frame
    | with_reducible refine draw_frame (by assumption) ?_
    | with_reducible apply refused_frame
    | with_reducible apply commitSession_frame
    | (intro)
    | (extract_lets +onlyGivenNames st; have hst : SameBut x s0 st := ?_; clear_value st; revert st; intro st2 hst2)
    | (extract_lets +onlyGivenNames yy; clear_value yy; revert yy; intro y2)
    | with_reducible apply Ends.next
    | with_reducible apply SameBut.ite
    | split

theorem execSessionIdleClose_frame {s : State} (hs : SameBut x s0 s) (x_ctr : x .ctr = true) (x_cairn : x .cairn = true) (x_safety : x .safety = true) : Ends (SameBut x s0) (execSessionIdleClose s) := by
  unfold execSessionIdleClose
  repeat' first
    | with_reducible assumption
    | with_reducible apply safetyEvent_frame
    | with_reducible apply State.onSafety_frame
    | with_reducible apply Ends.next
    | with_reducible apply SameBut.ite

theorem execPasswordLockoutEnd_frame {s : State} (hs : SameBut x s0 s) (x_safety : x .safety = true) : Ends (SameBut x s0) (execPasswordLockoutEnd s) := by
  unfold execPasswordLockoutEnd
  repeat' first
    | with_reducible assumption
    | with_reducible apply State.onSafety_frame
    | with_reducible apply Ends.next

/-! ## Machine/Traverse.lean -/

theorem callEvent_frame {s : State} {a2} {a3} {a4} {a5} {a6} (hs : SameBut x s0 s) (x_ctr : x .ctr = true) (x_cairn : x .cairn = true) : SameBut x s0 (callEvent s a2 a3 a4 a5 a6) := by
  unfold callEvent
  repeat' first
    | with_reducible assumption
    | with_reducible apply raise_frame
    | with_reducible apply bump_frame

theorem dropCalls_frame {s : State} {a2} {a3} (hs : SameBut x s0 s) (x_disp : x .disp = true) : SameBut x s0 (dropCalls s a2 a3) := by
  unfold dropCalls
  repeat' first
    | with_reducible assumption
    | with_reducible apply setList_frame

theorem abandonCall_frame {s : State} {a2} {a3} (hs : SameBut x s0 s) (x_ctr : x .ctr = true) (x_cairn : x .cairn = true) (x_disp : x .disp = true) : SameBut x s0 (abandonCall s a2 a3) := by
  unfold abandonCall
  repeat' first
    | with_reducible assumption
    | with_reducible apply State.onCall_frame
    | with_reducible apply callEvent_frame
    | with_reducible apply bump_frame

theorem unassignCall_frame {s : State} {a2} (hs : SameBut x s0 s) (x_ctr : x .ctr = true) (x_cairn : x .cairn = true) (x_disp : x .disp = true) : SameBut x s0 (unassignCall s a2) := by
  unfold unassignCall
  repeat' first
    | with_reducible assumption
    | with_reducible apply State.onCall_frame
    | with_reducible apply callEvent_frame
    | with_reducible apply bump_frame

theorem assignCall_frame {s : State} {a2} {a3} (hs : SameBut x s0 s) (x_ctr : x .ctr = true) (x_cairn : x .cairn = true) (x_disp : x .disp = true) : SameBut x s0 (assignCall s a2 a3) := by
  unfold assignCall
  repeat' first
    | with_reducible assumption
    | with_reducible apply State.each_frame
    | with_reducible apply setList_frame
    | with_reducible apply State.onCall_frame
    | with_reducible apply callEvent_frame
    | (intro)

theorem refreshShaft_frame {s : State} {a2} (hs : SameBut x s0 s) (x_disp : x .disp = true) : SameBut x s0 (refreshShaft s a2) := by
  unfold refreshShaft
  repeat' first
    | with_reducible assumption
    | with_reducible apply State.each_frame
    | with_reducible apply setList_frame
    | with_reducible apply State.onCall_frame
    | (intro)
    | (extract_lets +onlyGivenNames yy; clear_value yy; revert yy; intro y2)
    | with_reducible apply SameBut.ite
    | split

theorem submitDone_frame {s : State} {a2} {a3} (hs : SameBut x s0 s) (x_host : x .host = true) (x_ctr : x .ctr = true) : SameBut x s0 (submitDone s a2 a3) := by
  unfold submitDone
  repeat' first
    | with_reducible assumption
    | with_reducible apply ok_frame

theorem runSubmit_frame {s : State} {a2} {a3} (hs : SameBut x s0 s) (x_host : x .host = true) (x_ctr : x .ctr = true) (x_cairn : x .cairn = true) (x_disp : x .disp = true) : SameBut x s0 (runSubmit s a2 a3) := by
  unfold runSubmit
  repeat' first
    | with_reducible assumption
    | with_reducible apply refused_frame
    | with_reducible apply bump_frame
    | with_reducible apply State.onDisp_frame
    | with_reducible apply submitDone_frame
    | with_reducible apply unassignCall_frame
    | with_reducible apply assignCall_frame
    | (intro)
    | (extract_lets +onlyGivenNames st; have hst : SameBut x s0 st := ?_; clear_value st; revert st; intro st2 hst2)
    | (extract_lets +onlyGivenNames yy; clear_value yy; revert yy; intro y2)
    | (dsimp -zeta only [st]; clear st)
    | with_reducible apply SameBut.ite
    | split

theorem runWaiting_frame {a1} {s : State} (hs : SameBut x s0 s) (x_host : x .host = true) (x_ctr : x .ctr = true) (x_cairn : x .cairn = true) (x_disp : x .disp = true) : SameBut x s0 (runWaiting a1 s) := by
  induction a1 generalizing s with
  | zero => exact hs
  | succ k ih =>
    unfold runWaiting
    repeat' first
        | with_reducible assumption
        | with_reducible apply runSubmit_frame
        | with_reducible apply State.onDisp_frame
        | with_reducible apply ih
        | split

theorem execCallSubmit_frame {a1} {a2} {s : State} (hs : SameBut x s0 s) (x_host : x .host = true) (x_ctr : x .ctr = true) (x_cairn : x .cairn = true) (x_disp : x .disp = true) : Ends (SameBut x s0) (execCallSubmit a1 a2 s) := by
  unfold execCallSubmit
  repeat' first
    | with_reducible assumption
    | with_reducible apply serve_frame
    | with_reducible apply State.onDisp_frame
    | with_reducible apply runSubmit_frame
    | (intro)
    | (extract_lets +onlyGivenNames yy; clear_value yy; revert yy; intro y2)
    | with_reducible apply Ends.next
    | with_reducible apply SameBut.ite

theorem execCallStatus_frame {a1} {s : State} (hs : SameBut x s0 s) (x_host : x .host = true) (x_ctr : x .ctr = true) : Ends (SameBut x s0) (execCallStatus a1 s) := by
  unfold execCallStatus
  repeat' first
    | with_reducible assumption
    | with_reducible apply serve_frame
    | with_reducible apply ok_frame
    | (intro)
    | (extract_lets +onlyGivenNames yy; clear_value yy; revert yy; intro y2)
    | with_reducible apply Ends.next

theorem execCallCancel_frame {a1} {s : State} (hs : SameBut x s0 s) (x_host : x .host = true) (x_ctr : x .ctr = true) (x_disp : x .disp = true) : Ends (SameBut x s0) (execCallCancel a1 s) := by
  unfold execCallCancel
  repeat' first
    | with_reducible assumption
    | with_reducible apply serve_frame
    | with_reducible apply State.onDisp_frame
    | with_reducible apply ok_frame
    | with_reducible apply refused_frame
    | (intro)
    | (extract_lets +onlyGivenNames yy; clear_value yy; revert yy; intro y2)
    | with_reducible apply Ends.next
    | split

theorem execCarStoplist_frame {a1} {s : State} (hs : SameBut x s0 s) (x_host : x .host = true) (x_ctr : x .ctr = true) : Ends (SameBut x s0) (execCarStoplist a1 s) := by
  unfold execCarStoplist
  repeat' first
    | with_reducible assumption
    | with_reducible apply serve_frame
    | with_reducible apply noSuch_frame
    | with_reducible apply ok_frame
    | with_reducible apply foldl_frame
    | with_reducible apply foldl_frame_fst
    | (intro)
    | (extract_lets +onlyGivenNames st; have hst : SameBut x s0 st := ?_; clear_value st; revert st; intro st2 hst2)
    | (extract_lets +onlyGivenNames fn; have hfn : ∀ z, SameBut x s0 z → SameBut x s0 (fn z) := ?_; clear_value fn; revert fn; intro fn2 hfn)
    | (extract_lets +onlyGivenNames yy; clear_value yy; revert yy; intro y2)
    | with_reducible apply Ends.next
    | (dsimp -zeta only [st]; clear st)
    | (dsimp -zeta only [fn]; clear fn)
    | with_reducible apply SameBut.ite
    | split

theorem takeStops_frame_proj {s : State} {a2} {a3} (hs : SameBut x s0 s) (x_disp : x .disp = true) : SameBut x s0 (takeStops s a2 a3).1 := by
  unfold takeStops
  repeat' first
    | with_reducible assumption
    | with_reducible apply dropCalls_frame

theorem takeStops_frame {s : State} {a2} {a3} {w1} {w2} {v : State} (e : takeStops s a2 a3 = (v, w1, w2)) (hs : SameBut x s0 s) (x_disp : x .disp = true) : SameBut x s0 v := by
  have w := takeStops_frame_proj hs x_disp (x := x) (a2 := a2) (a3 := a3)
  rw [e] at w
  exact w

theorem returnCalls_frame {s : State} {a2} {a3} (hs : SameBut x s0 s) (x_disp : x .disp = true) : SameBut x s0 (returnCalls s a2 a3) := by
  unfold returnCalls
  repeat' first
    | with_reducible assumption
    | with_reducible apply State.each_frame
    | with_reducible apply State.onCall_frame
    | (intro)
    | with_reducible apply SameBut.ite
    | split

theorem returnAll_frame_proj {s : State} {a2} {a3} {a4} {a5} (hs : SameBut x s0 s) (x_ctr : x .ctr = true) (x_cairn : x .cairn = true) (x_disp : x .disp = true) : SameBut x s0 (returnAll s a2 a3 a4 a5).1 := by
  unfold returnAll
  repeat' first
    | with_reducible assumption
    | with_reducible apply takeStops_frame_proj
    | with_reducible apply State.each_frame
    | with_reducible apply abandonCall_frame
    | with_reducible apply setList_frame
    | with_reducible apply returnCalls_frame
    | (intro)

theorem returnAll_frame {s : State} {a2} {a3} {a4} {a5} {w1} {v : State} (e : returnAll s a2 a3 a4 a5 = (v, w1)) (hs : SameBut x s0 s) (x_ctr : x .ctr = true) (x_cairn : x .cairn = true) (x_disp : x .disp = true) : SameBut x s0 v := by
  have w := returnAll_frame_proj hs x_ctr x_cairn x_disp (x := x) (a2 := a2) (a3 := a3) (a4 := a4) (a5 := a5)
  rw [e] at w
  exact w

theorem returnHead_frame_proj {s : State} {a2} {a3} {a4} (hs : SameBut x s0 s) (x_disp : x .disp = true) : SameBut x s0 (returnHead s a2 a3 a4).1 := by
  unfold returnHead
  repeat' first
    | with_reducible assumption
    | with_reducible apply takeStops_frame_proj
    | with_reducible apply setList_frame
    | with_reducible apply returnCalls_frame
    | split

theorem returnHead_frame {s : State} {a2} {a3} {a4} {w1} {v : State} (e : returnHead s a2 a3 a4 = (v, w1)) (hs : SameBut x s0 s) (x_disp : x .disp = true) : SameBut x s0 v := by
  have w := returnHead_frame_proj hs x_disp (x := x) (a2 := a2) (a3 := a3) (a4 := a4)
  rw [e] at w
  exact w

theorem completeCall_frame {s : State} {a2} {a3} {a4} (hs : SameBut x s0 s) (x_ctr : x .ctr = true) (x_cairn : x .cairn = true) (x_disp : x .disp = true) : SameBut x s0 (completeCall s a2 a3 a4) := by
  unfold completeCall
  repeat' first
    | with_reducible assumption
    | with_reducible apply State.onCall_frame
    | with_reducible apply callEvent_frame
    | with_reducible apply State.onDisp_frame
    | (intro)
    | (extract_lets +onlyGivenNames st; have hst : SameBut x s0 st := ?_; clear_value st; revert st; intro st2 hst2)
    | (extract_lets +onlyGivenNames yy; clear_value yy; revert yy; intro y2)
    | (dsimp -zeta only [st]; clear st)
    | with_reducible apply SameBut.ite
    | split

theorem meetCall_frame {s : State} {a2} {a3} (hs : SameBut x s0 s) (x_ctr : x .ctr = true) (x_cairn : x .cairn = true) (x_disp : x .disp = true) : SameBut x s0 (meetCall s a2 a3) := by
  unfold meetCall
  repeat' first
    | with_reducible assumption
    | with_reducible apply callEvent_frame
    | with_reducible apply State.onCall_frame
    | (intro)
    | with_reducible apply SameBut.ite
    | split

theorem serveStop_frame {s : State} {a2} (hs : SameBut x s0 s) (x_ctr : x .ctr = true) (x_cairn : x .cairn = true) (x_disp : x .disp = true) : SameBut x s0 (serveStop s a2) := by
  unfold serveStop
  repeat' first
    | with_reducible assumption
    | with_reducible apply State.each_frame
    | with_reducible apply completeCall_frame
    | with_reducible apply meetCall_frame
    | with_reducible apply State.onCall_frame
    | with_reducible apply setList_frame
    | (intro)
    | (extract_lets +onlyGivenNames st; have hst : SameBut x s0 st := ?_; clear_value st; revert st; intro st2 hst2)
    | (extract_lets +onlyGivenNames yy; clear_value yy; revert yy; intro y2)
    | (dsimp -zeta only [st]; clear st)
    | with_reducible apply SameBut.ite
    | split

theorem applyArrived_frame {s : State} {a2} {a3} (hs : SameBut x s0 s) (x_ctr : x .ctr = true) (x_cairn : x .cairn = true) (x_disp : x .disp = true) : SameBut x s0 (applyArrived s a2 a3) := by
  unfold applyArrived
  repeat' first
    | with_reducible assumption
    | with_reducible apply State.onDisp_frame
    | with_reducible apply setList_frame
    | with_reducible apply State.each_frame
    | with_reducible apply meetCall_frame
    | (intro)
    | (extract_lets +onlyGivenNames st; have hst : SameBut x s0 st := ?_; clear_value st; revert st; intro st2 hst2)
    | (extract_lets +onlyGivenNames yy; clear_value yy; revert yy; intro y2)
    | (dsimp -zeta only [st]; clear st)
    | with_reducible apply SameBut.ite
    | split

theorem applyUpdate_frame_proj {s : State} {a2} (hs : SameBut x s0 s) (x_ctr : x .ctr = true) (x_cairn : x .cairn = true) (x_motion : x .motion = true) (x_disp : x .disp = true) : SameBut x s0 (applyUpdate s a2).1 := by
  unfold applyUpdate
  repeat' first
    | with_reducible assumption
    | with_reducible apply applyArrived_frame
    | with_reducible apply setList_frame
    | with_reducible apply serveStop_frame
    | with_reducible apply returnHead_frame_proj
    | with_reducible refine returnHead_frame (by assumption) ?_ ?_
    | with_reducible apply returnAll_frame_proj
    | with_reducible refine returnAll_frame (by assumption) ?_ ?_ ?_ ?_
    | with_reducible apply takeStops_frame_proj
    | with_reducible refine takeStops_frame (by assumption) ?_ ?_
    | with_reducible apply returnCalls_frame
    | with_reducible apply dropCalls_frame
    | with_reducible apply State.each_frame
    | with_reducible apply abandonCall_frame
    | with_reducible apply State.onCar_frame
    | with_reducible apply foldl_frame
    | with_reducible apply foldl_frame_fst
    | (intro)
    | (extract_lets +onlyGivenNames st; have hst : SameBut x s0 st := ?_; clear_value st; revert st; intro st2 hst2)
    | (extract_lets +onlyGivenNames fn; have hfn : ∀ z, SameBut x s0 z → SameBut x s0 (fn z) := ?_; clear_value fn; revert fn; intro fn2 hfn)
    | (dsimp -zeta only [st]; clear st)
    | (dsimp -zeta only [fn]; clear fn)
    | with_reducible apply foldl_frame_fst
    | (extract_lets +onlyGivenNames yy; clear_value yy; revert yy; intro y2)
    | with_reducible apply SameBut.ite
    | split

theorem applyUpdate_frame {s : State} {a2} {w1} {v : State} (e : applyUpdate s a2 = (v, w1)) (hs : SameBut x s0 s) (x_ctr : x .ctr = true) (x_cairn : x .cairn = true) (x_motion : x .motion = true) (x_disp : x .disp = true) : SameBut x s0 v := by
  have w := applyUpdate_frame_proj hs x_ctr x_cairn x_motion x_disp (x := x) (a2 := a2)
  rw [e] at w
  exact w

theorem keepCall_frame {s : State} {a2} {a3} (hs : SameBut x s0 s) (x_ctr : x .ctr = true) (x_cairn : x .cairn = true) (x_disp : x .disp = true) : SameBut x s0 (keepCall s a2 a3) := by
  unfold keepCall
  repeat' first
    | with_reducible assumption
    | with_reducible apply State.each_frame
    | with_reducible apply setList_frame
    | with_reducible apply State.onCall_frame
    | with_reducible apply callEvent_frame
    | (intro)
    | (extract_lets +onlyGivenNames st; have hst : SameBut x s0 st := ?_; clear_value st; revert st; intro st2 hst2)
    | (extract_lets +onlyGivenNames yy; clear_value yy; revert yy; intro y2)
    | (dsimp -zeta only [st]; clear st)
    | with_reducible apply SameBut.ite
    | split

theorem evaluateAgain_frame {s : State} {a2} (hs : SameBut x s0 s) (x_ctr : x .ctr = true) (x_cairn : x .cairn = true) (x_disp : x .disp = true) : SameBut x s0 (evaluateAgain s a2) := by
  unfold evaluateAgain
  repeat' first
    | with_reducible assumption
    | with_reducible apply keepCall_frame
    | with_reducible apply assignCall_frame
    | with_reducible apply unassignCall_frame
    | (intro)
    | (extract_lets +onlyGivenNames st; have hst : SameBut x s0 st := ?_; clear_value st; revert st; intro st2 hst2)
    | (extract_lets +onlyGivenNames yy; clear_value yy; revert yy; intro y2)
    | (dsimp -zeta only [st]; clear st)
    | with_reducible apply SameBut.ite
    | split

theorem settleCancel_frame {s : State} {a2} {a3} (hs : SameBut x s0 s) (x_host : x .host = true) (x_ctr : x .ctr = true) (x_cairn : x .cairn = true) (x_disp : x .disp = true) : SameBut x s0 (settleCancel s a2 a3) := by
  unfold settleCancel
  repeat' first
    | with_reducible assumption
    | with_reducible apply dropCalls_frame
    | with_reducible apply State.onCall_frame
    | with_reducible apply ok_frame
    | with_reducible apply callEvent_frame
    | with_reducible apply bump_frame
    | with_reducible apply refused_frame
    | (extract_lets +onlyGivenNames st; have hst : SameBut x s0 st := ?_; clear_value st; revert st; intro st2 hst2)
    | (extract_lets +onlyGivenNames yy; clear_value yy; revert yy; intro y2)
    | (dsimp -zeta only [st]; clear st)
    | with_reducible apply SameBut.ite
    | split

theorem evaluateAll_frame {s : State} {a2} (hs : SameBut x s0 s) (x_ctr : x .ctr = true) (x_cairn : x .cairn = true) (x_disp : x .disp = true) : SameBut x s0 (evaluateAll s a2) := by
  unfold evaluateAll
  repeat' first
    | with_reducible assumption
    | with_reducible apply State.each_frame
    | with_reducible apply evaluateAgain_frame
    | with_reducible apply foldl_frame
    | with_reducible apply foldl_frame_fst
    | (intro)
    | with_reducible apply SameBut.ite
    | split

theorem runDue_frame {s : State} (hs : SameBut x s0 s) (x_ctr : x .ctr = true) (x_cairn : x .cairn = true) (x_disp : x .disp = true) : SameBut x s0 (runDue s) := by
  unfold runDue
  repeat' first
    | with_reducible assumption
    | with_reducible apply evaluateAll_frame
    | with_reducible apply State.onDisp_frame
    | (intro)
    | with_reducible apply SameBut.ite
    | split

theorem applyMotion_frame {s : State} (hs : SameBut x s0 s) (x_host : x .host = true) (x_ctr : x .ctr = true) (x_cairn : x .cairn = true) (x_motion : x .motion = true) (x_disp : x .disp = true) : SameBut x s0 (applyMotion s) := by
  unfold applyMotion
  repeat' first
    | with_reducible assumption
    | with_reducible apply State.onDisp_frame
    | with_reducible apply applyUpdate_frame_proj
    | with_reducible refine applyUpdate_frame (by assumption) ?_ ?_ ?_ ?_ ?_
    | with_reducible apply State.each_frame
    | with_reducible apply serveStop_frame
    | with_reducible apply settleCancel_frame
    | with_reducible apply evaluateAll_frame
    | with_reducible apply refreshShaft_frame
    | with_reducible apply foldl_frame
    | with_reducible apply foldl_frame_fst
    | (intro)
    | (extract_lets +onlyGivenNames st; have hst : SameBut x s0 st := ?_; clear_value st; revert st; intro st2 hst2)
    | (dsimp -zeta only [st]; clear st)
    | split
    | with_reducible apply foldl_frame_fst
    | (extract_lets +onlyGivenNames yy; clear_value yy; revert yy; intro y2)
    | with_reducible apply SameBut.ite

theorem execPolicyDeadline_frame {s : State} (hs : SameBut x s0 s) (x_host : x .host = true) (x_ctr : x .ctr = true) (x_cairn : x .cairn = true) (x_motion : x .motion = true) (x_disp : x .disp = true) : Ends (SameBut x s0) (execPolicyDeadline s) := by
  unfold execPolicyDeadline
  repeat' first
    | with_reducible assumption
    | with_reducible apply bump_frame
    | with_reducible apply State.onDisp_frame
    | with_reducible apply submitDone_frame
    | with_reducible apply assignCall_frame
    | with_reducible apply unassignCall_frame
    | with_reducible apply applyMotion_frame
    | with_reducible apply runDue_frame
    | with_reducible apply runWaiting_frame
    | (intro)
    | (extract_lets +onlyGivenNames st; have hst : SameBut x s0 st := ?_; clear_value st; revert st; intro st2 hst2)
    | (extract_lets +onlyGivenNames yy; clear_value yy; revert yy; intro y2)
    | with_reducible apply Ends.next
    | (dsimp -zeta only [st]; clear st)
    | with_reducible apply SameBut.ite
    | split

theorem execMotionUpdateApply_frame {s : State} (hs : SameBut x s0 s) (x_host : x .host = true) (x_ctr : x .ctr = true) (x_cairn : x .cairn = true) (x_motion : x .motion = true) (x_disp : x .disp = true) : Ends (SameBut x s0) (execMotionUpdateApply s) := by
  unfold execMotionUpdateApply
  exact Ends.next (applyMotion_frame hs x_host x_ctr x_cairn x_motion x_disp)

theorem execCallReevalTimer_frame {a1} {s : State} (hs : SameBut x s0 s) (x_ctr : x .ctr = true) (x_cairn : x .cairn = true) (x_disp : x .disp = true) : Ends (SameBut x s0) (execCallReevalTimer a1 s) := by
  unfold execCallReevalTimer
  repeat' first
    | with_reducible assumption
    | with_reducible apply State.onDisp_frame
    | with_reducible apply evaluateAgain_frame
    | (intro)
    | with_reducible apply Ends.next
    | with_reducible apply SameBut.ite
    | split

theorem execUnassignedTimeout_frame {a1} {s : State} (hs : SameBut x s0 s) (x_ctr : x .ctr = true) (x_cairn : x .cairn = true) (x_disp : x .disp = true) : Ends (SameBut x s0) (execUnassignedTimeout a1 s) := by
  unfold execUnassignedTimeout
  repeat' first
    | with_reducible assumption
    | with_reducible apply abandonCall_frame
    | with_reducible apply Ends.next
    | with_reducible apply SameBut.ite

theorem execCallDiscard_frame {a1} {s : State} (hs : SameBut x s0 s) (x_disp : x .disp = true) : Ends (SameBut x s0) (execCallDiscard a1 s) := by
  unfold execCallDiscard
  repeat' first
    | with_reducible assumption
    | with_reducible apply State.onDisp_frame
    | with_reducible apply Ends.next
    | with_reducible apply SameBut.ite

end Sys2Proof.Machine
end

