-- ==== Sys2Proof/Laws/FrameShared.lean ====
section
/-! SUPPORT. The components that an operation may change: redundancy, several modules, the recorder, storage and power. Each lemma says that its
operation changes no component but those that `x` names. -/

namespace Sys2Proof.Machine

open Sys2Proof

variable {x : Comp → Bool} {s0 : State}

/-! ## Machine/RedOps.lean -/

theorem sendHeartbeats_frame {s : State} (hs : SameBut x s0 s) (x_red : x .red = true) : SameBut x s0 (sendHeartbeats s) := by
  unfold sendHeartbeats
  repeat' first
    | with_reducible assumption
    | with_reducible apply State.onRed_frame

theorem declare_frame {s : State} {a2} (hs : SameBut x s0 s) (x_ctr : x .ctr = true) (x_cairn : x .cairn = true) (x_red : x .red = true) : SameBut x s0 (declare s a2) := by
  unfold declare
  repeat' first
    | with_reducible assumption
    | with_reducible apply redEvent_frame
    | with_reducible apply State.onRed_frame
    | (extract_lets +onlyGivenNames yy; clear_value yy; revert yy; intro y2)
    | with_reducible apply SameBut.ite
    | split

theorem undeclare_frame {s : State} {a2} (hs : SameBut x s0 s) (x_red : x .red = true) : SameBut x s0 (undeclare s a2) := by
  unfold undeclare
  repeat' first
    | with_reducible assumption
    | with_reducible apply State.onRed_frame

theorem forwardOnly_frame {s : State} (hs : SameBut x s0 s) (x_rings : x .rings = true) : SameBut x s0 (forwardOnly s) := by
  unfold forwardOnly
  repeat' first
    | with_reducible assumption
    | with_reducible apply State.each_frame
    | with_reducible apply State.onRing_frame
    | (intro)

theorem fence_frame {s : State} {a2} (hs : SameBut x s0 s) (x_host : x .host = true) (x_ctr : x .ctr = true) (x_cairn : x .cairn = true) (x_rings : x .rings = true) (x_red : x .red = true) (x_can : x .can = true) : SameBut x s0 (fence s a2) := by
  unfold fence
  repeat' first
    | with_reducible assumption
    | with_reducible apply forwardOnly_frame
    | with_reducible apply State.onRed_frame
    | with_reducible apply redEvent_frame
    | with_reducible apply quietCan_frame
    | with_reducible apply timedOut_frame
    | (extract_lets +onlyGivenNames st; have hst : SameBut x s0 st := ?_; clear_value st; revert st; intro st2 hst2)
    | split

theorem takeLevels_frame {s : State} {a2} (hs : SameBut x s0 s) (x_pow : x .pow = true) (x_ctr : x .ctr = true) (x_dbg : x .dbg = true) (x_cairn : x .cairn = true) : SameBut x s0 (takeLevels s a2) := by
  unfold takeLevels
  repeat' first
    | with_reducible assumption
    | with_reducible apply State.onPow_frame
    | with_reducible apply State.each_frame
    | with_reducible apply setSleep_frame
    | (intro)

theorem judgeCheckpoint_frame {s : State} {a2} (hs : SameBut x s0 s) (x_pow : x .pow = true) (x_ctr : x .ctr = true) (x_dbg : x .dbg = true) (x_cairn : x .cairn = true) (x_red : x .red = true) : SameBut x s0 (judgeCheckpoint s a2) := by
  unfold judgeCheckpoint
  repeat' first
    | with_reducible assumption
    | with_reducible apply State.onRed_frame
    | with_reducible apply takeLevels_frame
    | with_reducible apply redEvent_frame
    | with_reducible apply bump_frame
    | (extract_lets +onlyGivenNames st; have hst : SameBut x s0 st := ?_; clear_value st; revert st; intro st2 hst2)
    | (extract_lets +onlyGivenNames yy; clear_value yy; revert yy; intro y2)
    | with_reducible apply SameBut.ite

theorem runJournalled_frame {a1} {s : State} (hs : SameBut x s0 s) (x_sys : x .sys = true) (x_pow : x .pow = true) (x_host : x .host = true) (x_ctr : x .ctr = true) (x_dbg : x .dbg = true) (x_cairn : x .cairn = true) (x_rings : x .rings = true) (x_loop : x .loop = true) (x_motion : x .motion = true) (x_doors : x .doors = true) (x_field : x .field = true) (x_can : x .can = true) : SameBut x s0 (runJournalled a1 s) := by
  unfold runJournalled
  extract_lets fn
  have hfn : ∀ f, Ends (SameBut x s0) (f a1 s) → SameBut x s0 (fn f) := fun f h => by
    dsimp only [fn]
    generalize f a1 s = o at h
    cases h with
    | next h => exact h
  clear_value fn
  split <;> first
    | with_reducible assumption
    | (with_reducible apply hfn
       first
         | with_reducible apply execAxisDescLoad_frame
         | with_reducible apply execAxisCoefWrite_frame
         | with_reducible apply execAxisBankSelect_frame
         | with_reducible apply execAxisTableLoad_frame
         | with_reducible apply execAxisEnable_frame
         | with_reducible apply execAxisDisable_frame
         | with_reducible apply execProfileLimitsSet_frame
         | with_reducible apply execEnergyReserveSet_frame
         | with_reducible apply execShaftConfigLoad_frame
         | with_reducible apply execTuneInjectStart_frame
         | with_reducible apply execTuneInjectStop_frame
         | with_reducible apply execDoorPolicySet_frame
         | with_reducible apply execDioWrite_frame
         | with_reducible apply execDioSafeSet_frame
         | with_reducible apply execPwmConfig_frame
         | with_reducible apply execCanConfig_frame
         | with_reducible apply execCanWakeSet_frame
         | with_reducible apply execRingConfig_frame
       all_goals assumption)

theorem applyCommand_frame {s : State} {a2} (hs : SameBut x s0 s) (x_sys : x .sys = true) (x_pow : x .pow = true) (x_host : x .host = true) (x_ctr : x .ctr = true) (x_dbg : x .dbg = true) (x_cairn : x .cairn = true) (x_rings : x .rings = true) (x_red : x .red = true) (x_loop : x .loop = true) (x_motion : x .motion = true) (x_doors : x .doors = true) (x_field : x .field = true) (x_can : x .can = true) : SameBut x s0 (applyCommand s a2) := by
  unfold applyCommand
  repeat' first
    | with_reducible assumption
    | with_reducible apply runJournalled_frame
    | with_reducible apply State.onHost_frame
    | with_reducible apply State.onRed_frame
    | (extract_lets +onlyGivenNames st; have hst : SameBut x s0 st := ?_; clear_value st; revert st; intro st2 hst2)
    | (extract_lets +onlyGivenNames yy; clear_value yy; revert yy; intro y2)
    | with_reducible refine SameBut.literal rfl (.inr rfl) (.inr rfl) (.inr rfl) (.inl x_host) (.inr rfl) (.inr rfl) (.inr rfl) (.inr rfl) (.inr rfl) (.inr rfl) (.inr rfl) (.inl x_red) (.inr rfl) (.inr rfl) (.inr rfl) (.inr rfl) (.inr rfl) (.inr rfl) (.inr rfl) (.inr rfl) ?_

theorem applyChange_frame {s : State} {a2} (hs : SameBut x s0 s) (x_sys : x .sys = true) (x_pow : x .pow = true) (x_host : x .host = true) (x_ctr : x .ctr = true) (x_dbg : x .dbg = true) (x_cairn : x .cairn = true) (x_rings : x .rings = true) (x_red : x .red = true) (x_loop : x .loop = true) (x_motion : x .motion = true) (x_disp : x .disp = true) (x_doors : x .doors = true) (x_field : x .field = true) (x_can : x .can = true) : SameBut x s0 (applyChange s a2) := by
  unfold applyChange
  repeat' first
    | with_reducible assumption
    | with_reducible apply applyCommand_frame
    | with_reducible apply State.onCar_frame
    | with_reducible apply State.onDoor_frame
    | with_reducible apply State.onAxis_frame
    | with_reducible apply State.onCall_frame
    | with_reducible apply setList_frame
    | with_reducible apply State.onDisp_frame
    | with_reducible apply foldl_frame
    | with_reducible apply foldl_frame_fst
    | (intro)
    | (extract_lets +onlyGivenNames st; have hst : SameBut x s0 st := ?_; clear_value st; revert st; intro st2 hst2)
    | (extract_lets +onlyGivenNames yy; clear_value yy; revert yy; intro y2)
    | (dsimp -zeta only [st]; clear st)
    | with_reducible apply SameBut.ite
    | split

theorem loadCkAxis_frame {s : State} {a2} {a3} {a4} (hs : SameBut x s0 s) (x_loop : x .loop = true) : SameBut x s0 (loadCkAxis s a2 a3 a4) := by
  unfold loadCkAxis
  repeat' first
    | with_reducible assumption
    | with_reducible apply State.onAxis_frame
    | (intro)
    | (extract_lets +onlyGivenNames st; have hst : SameBut x s0 st := ?_; clear_value st; revert st; intro st2 hst2)
    | (extract_lets +onlyGivenNames yy; clear_value yy; revert yy; intro y2)
    | (dsimp -zeta only [st]; clear st)
    | with_reducible apply SameBut.ite
    | split

theorem loadCkCar_frame {s : State} {a2} {a3} {a4} (hs : SameBut x s0 s) (x_motion : x .motion = true) : SameBut x s0 (loadCkCar s a2 a3 a4) := by
  unfold loadCkCar
  repeat' first
    | with_reducible assumption
    | with_reducible apply State.onCar_frame
    | with_reducible apply State.onShaft_frame
    | with_reducible apply foldl_frame
    | with_reducible apply foldl_frame_fst
    | (intro)
    | (extract_lets +onlyGivenNames st; have hst : SameBut x s0 st := ?_; clear_value st; revert st; intro st2 hst2)
    | (extract_lets +onlyGivenNames yy; clear_value yy; revert yy; intro y2)
    | (dsimp -zeta only [st]; clear st)
    | with_reducible apply SameBut.ite
    | split

theorem loadCkShaft_frame {s : State} {a2} {a3} {a4} (hs : SameBut x s0 s) (x_motion : x .motion = true) : SameBut x s0 (loadCkShaft s a2 a3 a4) := by
  unfold loadCkShaft
  repeat' first
    | with_reducible assumption
    | with_reducible apply State.onShaft_frame
    | (intro)
    | (extract_lets +onlyGivenNames st; have hst : SameBut x s0 st := ?_; clear_value st; revert st; intro st2 hst2)
    | (extract_lets +onlyGivenNames yy; clear_value yy; revert yy; intro y2)
    | with_reducible apply SameBut.ite
    | split

theorem loadCheckpoint_frame {s : State} {a2} (hs : SameBut x s0 s) (x_loop : x .loop = true) (x_motion : x .motion = true) : SameBut x s0 (loadCheckpoint s a2) := by
  unfold loadCheckpoint
  repeat' first
    | with_reducible assumption
    | with_reducible apply draw_frame_proj
    | with_reducible apply State.each_frame
    | with_reducible apply loadCkAxis_frame
    | with_reducible apply loadCkCar_frame
    | with_reducible apply loadCkShaft_frame
    | (intro)
    | (extract_lets +onlyGivenNames st; have hst : SameBut x s0 st := ?_; clear_value st; revert st; intro st2 hst2)
    | (extract_lets +onlyGivenNames yy; clear_value yy; revert yy; intro y2)
    | (dsimp -zeta only [st]; clear st)
    | with_reducible apply SameBut.ite
    | split

theorem leadAll_frame {s : State} (hs : SameBut x s0 s) (x_rings : x .rings = true) : SameBut x s0 (leadAll s) := by
  unfold leadAll
  repeat' first
    | with_reducible assumption
    | with_reducible apply State.each_frame
    | with_reducible apply State.onRing_frame
    | with_reducible apply sendFrame_frame
    | (intro)
    | (extract_lets +onlyGivenNames st; have hst : SameBut x s0 st := ?_; clear_value st; revert st; intro st2 hst2)
    | (extract_lets +onlyGivenNames yy; clear_value yy; revert yy; intro y2)
    | (dsimp -zeta only [st]; clear st)
    | with_reducible apply SameBut.ite
    | split

theorem redSnap_frame {s : State} (hs : SameBut x s0 s) (x_red : x .red = true) : SameBut x s0 (redSnap s) := by
  unfold redSnap
  repeat' first
    | with_reducible assumption
    | with_reducible apply State.onRed_frame

/-! ## Machine/Redundancy.lean -/

theorem execRedStatus_frame {a1} {s : State} (hs : SameBut x s0 s) (x_host : x .host = true) (x_ctr : x .ctr = true) : Ends (SameBut x s0) (execRedStatus a1 s) := by
  unfold execRedStatus
  repeat' first
    | with_reducible assumption
    | with_reducible apply serve_frame
    | with_reducible apply ok_frame
    | (intro)
    | (extract_lets +onlyGivenNames yy; clear_value yy; revert yy; intro y2)
    | with_reducible apply Ends.next

theorem startAsActive_frame {s : State} (hs : SameBut x s0 s) (x_ctr : x .ctr = true) (x_cairn : x .cairn = true) (x_rings : x .rings = true) (x_red : x .red = true) (x_loop : x .loop = true) (x_motion : x .motion = true) (x_can : x .can = true) : SameBut x s0 (startAsActive s) := by
  unfold startAsActive
  repeat' first
    | with_reducible assumption
    | with_reducible apply State.each_frame
    | with_reducible apply disableAxis_frame
    | with_reducible apply State.onCar_frame
    | with_reducible apply State.onRing_frame
    | with_reducible apply wakeCan_frame
    | with_reducible apply State.onRed_frame
    | (intro)
    | with_reducible apply SameBut.ite

theorem rejoinRole_frame {s : State} (hs : SameBut x s0 s) (x_red : x .red = true) (x_can : x .can = true) : SameBut x s0 (rejoinRole s) := by
  unfold rejoinRole
  repeat' first
    | with_reducible assumption
    | with_reducible apply State.onRed_frame
    | with_reducible apply becomeStandby_frame
    | with_reducible apply wakeCan_frame
    | (extract_lets +onlyGivenNames st; have hst : SameBut x s0 st := ?_; clear_value st; revert st; intro st2 hst2)
    | (extract_lets +onlyGivenNames yy; clear_value yy; revert yy; intro y2)
    | with_reducible apply SameBut.ite

theorem execRedRoleRequest_frame {a1} {s : State} (hs : SameBut x s0 s) (x_host : x .host = true) (x_ctr : x .ctr = true) (x_cairn : x .cairn = true) (x_rings : x .rings = true) (x_red : x .red = true) (x_loop : x .loop = true) (x_motion : x .motion = true) (x_can : x .can = true) : Ends (SameBut x s0) (execRedRoleRequest a1 s) := by
  unfold execRedRoleRequest
  repeat' first
    | with_reducible assumption
    | with_reducible apply serve_frame
    | with_reducible apply ok_frame
    | with_reducible apply State.onRed_frame
    | with_reducible apply refused_frame
    | with_reducible apply rejoinRole_frame
    | with_reducible apply startAsActive_frame
    | (intro)
    | (extract_lets +onlyGivenNames fn; have hfn : ∀ z, SameBut x s0 z → SameBut x s0 (fn z) := ?_; clear_value fn; revert fn; intro fn2 hfn)
    | (extract_lets +onlyGivenNames yy; clear_value yy; revert yy; intro y2)
    | with_reducible apply hfn
    | with_reducible apply Ends.next
    | with_reducible apply SameBut.ite
    | split

theorem speculate_frame {s : State} (hs : SameBut x s0 s) (x_red : x .red = true) : SameBut x s0 (speculate s) := by
  unfold speculate
  repeat' first
    | with_reducible assumption
    | with_reducible apply State.onRed_frame
    | (intro)
    | (extract_lets +onlyGivenNames st; have hst : SameBut x s0 st := ?_; clear_value st; revert st; intro st2 hst2)
    | (extract_lets +onlyGivenNames yy; clear_value yy; revert yy; intro y2)
    | (dsimp -zeta only [st]; clear st)
    | with_reducible apply SameBut.ite
    | split

theorem missPartner_frame {s : State} (hs : SameBut x s0 s) (x_ctr : x .ctr = true) (x_cairn : x .cairn = true) (x_red : x .red = true) : SameBut x s0 (missPartner s) := by
  unfold missPartner
  repeat' first
    | with_reducible assumption
    | with_reducible apply bump_frame
    | with_reducible apply State.onRed_frame
    | with_reducible apply speculate_frame
    | with_reducible apply redEvent_frame
    | (intro)
    | (extract_lets +onlyGivenNames st; have hst : SameBut x s0 st := ?_; clear_value st; revert st; intro st2 hst2)
    | (extract_lets +onlyGivenNames yy; clear_value yy; revert yy; intro y2)
    | (dsimp -zeta only [st]; clear st)
    | with_reducible apply SameBut.ite
    | split

theorem execHeartbeatMiss_frame {a1} {s : State} (hs : SameBut x s0 s) (x_ctr : x .ctr = true) (x_cairn : x .cairn = true) (x_red : x .red = true) : Ends (SameBut x s0) (execHeartbeatMiss a1 s) := by
  unfold execHeartbeatMiss
  repeat' first
    | with_reducible assumption
    | with_reducible apply missPartner_frame
    | with_reducible apply State.onRed_frame
    | with_reducible apply redEvent_frame
    | with_reducible apply declare_frame
    | (extract_lets +onlyGivenNames st; have hst : SameBut x s0 st := ?_; clear_value st; revert st; intro st2 hst2)
    | (extract_lets +onlyGivenNames yy; clear_value yy; revert yy; intro y2)
    | with_reducible apply Ends.next
    | with_reducible apply SameBut.ite
    | split

theorem takePartner_frame {s : State} {a2} (hs : SameBut x s0 s) (x_red : x .red = true) (x_can : x .can = true) : SameBut x s0 (takePartner s a2) := by
  unfold takePartner
  repeat' first
    | with_reducible assumption
    | with_reducible apply State.onRed_frame
    | with_reducible apply becomeStandby_frame
    | (extract_lets +onlyGivenNames st; have hst : SameBut x s0 st := ?_; clear_value st; revert st; intro st2 hst2)
    | with_reducible apply SameBut.ite

theorem confirmFailed_frame {s : State} (hs : SameBut x s0 s) (x_red : x .red = true) : SameBut x s0 (confirmFailed s) := by
  unfold confirmFailed
  repeat' first
    | with_reducible assumption
    | with_reducible apply speculate_frame
    | with_reducible apply State.onRed_frame
    | (intro)
    | with_reducible apply SameBut.ite
    | split

theorem takeWitness_frame {s : State} {a2} (hs : SameBut x s0 s) (x_ctr : x .ctr = true) (x_cairn : x .cairn = true) (x_red : x .red = true) : SameBut x s0 (takeWitness s a2) := by
  unfold takeWitness
  repeat' first
    | with_reducible assumption
    | with_reducible apply State.onRed_frame
    | with_reducible apply redEvent_frame
    | with_reducible apply confirmFailed_frame
    | (intro)
    | (extract_lets +onlyGivenNames st; have hst : SameBut x s0 st := ?_; clear_value st; revert st; intro st2 hst2)
    | (extract_lets +onlyGivenNames yy; clear_value yy; revert yy; intro y2)
    | (dsimp -zeta only [st]; clear st)
    | with_reducible apply SameBut.ite
    | split

theorem takePair_frame {s : State} {a2} {a3} (hs : SameBut x s0 s) (x_ctr : x .ctr = true) (x_cairn : x .cairn = true) (x_red : x .red = true) : SameBut x s0 (takePair s a2 a3) := by
  unfold takePair
  repeat' first
    | with_reducible assumption
    | with_reducible apply State.onRed_frame
    | with_reducible apply declare_frame
    | with_reducible apply undeclare_frame
    | (extract_lets +onlyGivenNames st; have hst : SameBut x s0 st := ?_; clear_value st; revert st; intro st2 hst2)
    | with_reducible apply SameBut.ite
    | split

theorem heartbeatIn_frame {s : State} {a2} (hs : SameBut x s0 s) (x_ctr : x .ctr = true) (x_cairn : x .cairn = true) (x_red : x .red = true) (x_can : x .can = true) : SameBut x s0 (heartbeatIn s a2) := by
  unfold heartbeatIn
  repeat' first
    | with_reducible assumption
    | with_reducible apply takePartner_frame
    | with_reducible apply takeWitness_frame
    | with_reducible apply State.each_frame
    | with_reducible apply takePair_frame
    | (intro)
    | (extract_lets +onlyGivenNames yy; clear_value yy; revert yy; intro y2)
    | with_reducible apply SameBut.ite
    | split

theorem execHeartbeatRx_frame {a1} {s : State} (hs : SameBut x s0 s) (x_ctr : x .ctr = true) (x_cairn : x .cairn = true) (x_red : x .red = true) (x_can : x .can = true) : Ends (SameBut x s0) (execHeartbeatRx a1 s) := by
  unfold execHeartbeatRx
  repeat' first
    | with_reducible assumption
    | with_reducible apply heartbeatIn_frame
    | with_reducible apply Ends.next

theorem execFailedSet_frame {a1} {s : State} (hs : SameBut x s0 s) (x_ctr : x .ctr = true) (x_red : x .red = true) : Ends (SameBut x s0) (execFailedSet a1 s) := by
  unfold execFailedSet
  repeat' first
    | with_reducible assumption
    | with_reducible apply setFailed_frame
    | with_reducible apply bump_frame
    | with_reducible apply Ends.next
    | split

theorem execReplayComplete_frame {s : State} (hs : SameBut x s0 s) (x_red : x .red = true) : Ends (SameBut x s0) (execReplayComplete s) := by
  unfold execReplayComplete
  repeat' first
    | with_reducible assumption
    | with_reducible apply State.onRed_frame
    | with_reducible apply Ends.next
    | with_reducible apply SameBut.ite

theorem execTakeoverCycle_frame {s : State} (hs : SameBut x s0 s) (x_ctr : x .ctr = true) (x_rings : x .rings = true) (x_red : x .red = true) (x_loop : x .loop = true) (x_motion : x .motion = true) (x_can : x .can = true) : Ends (SameBut x s0) (execTakeoverCycle s) := by
  unfold execTakeoverCycle
  repeat' first
    | with_reducible assumption
    | with_reducible apply leadAll_frame
    | with_reducible apply loadCheckpoint_frame
    | with_reducible apply bump_frame
    | with_reducible apply wakeCan_frame
    | with_reducible apply State.onRed_frame
    | (extract_lets +onlyGivenNames st; have hst : SameBut x s0 st := ?_; clear_value st; revert st; intro st2 hst2)
    | (extract_lets +onlyGivenNames yy; clear_value yy; revert yy; intro y2)
    | with_reducible apply Ends.next
    | with_reducible apply SameBut.ite

theorem finishTakeover_frame {s : State} (hs : SameBut x s0 s) (x_ctr : x .ctr = true) (x_cairn : x .cairn = true) (x_red : x .red = true) : SameBut x s0 (finishTakeover s) := by
  unfold finishTakeover
  repeat' first
    | with_reducible assumption
    | with_reducible apply redEvent_frame
    | with_reducible apply State.onRed_frame
    | with_reducible apply SameBut.ite

theorem execHeartbeatPathFault_frame {a1} {s : State} (hs : SameBut x s0 s) (x_ctr : x .ctr = true) (x_cairn : x .cairn = true) (x_red : x .red = true) : Ends (SameBut x s0) (execHeartbeatPathFault a1 s) := by
  unfold execHeartbeatPathFault
  repeat' first
    | with_reducible assumption
    | with_reducible apply redEvent_frame
    | with_reducible apply State.onRed_frame
    | (extract_lets +onlyGivenNames yy; clear_value yy; revert yy; intro y2)
    | with_reducible apply Ends.next
    | with_reducible apply SameBut.ite
    | split

theorem execCheckpointTake_frame {s : State} (hs : SameBut x s0 s) (x_red : x .red = true) : Ends (SameBut x s0) (execCheckpointTake s) := by
  unfold execCheckpointTake
  repeat' first
    | with_reducible assumption
    | with_reducible apply State.onRed_frame
    | (extract_lets +onlyGivenNames yy; clear_value yy; revert yy; intro y2)
    | with_reducible apply Ends.next
    | with_reducible apply SameBut.ite

theorem execCheckpointRx_frame {a1} {s : State} (hs : SameBut x s0 s) (x_pow : x .pow = true) (x_ctr : x .ctr = true) (x_dbg : x .dbg = true) (x_cairn : x .cairn = true) (x_red : x .red = true) : Ends (SameBut x s0) (execCheckpointRx a1 s) := by
  unfold execCheckpointRx
  repeat' first
    | with_reducible assumption
    | with_reducible apply State.onRed_frame
    | with_reducible apply judgeCheckpoint_frame
    | with_reducible apply Ends.next
    | with_reducible apply SameBut.ite

theorem execJournalEntryRx_frame {a1} {a2} {s : State} (hs : SameBut x s0 s) (x_sys : x .sys = true) (x_pow : x .pow = true) (x_host : x .host = true) (x_ctr : x .ctr = true) (x_dbg : x .dbg = true) (x_cairn : x .cairn = true) (x_rings : x .rings = true) (x_red : x .red = true) (x_loop : x .loop = true) (x_motion : x .motion = true) (x_disp : x .disp = true) (x_doors : x .doors = true) (x_field : x .field = true) (x_can : x .can = true) : Ends (SameBut x s0) (execJournalEntryRx a1 a2 s) := by
  unfold execJournalEntryRx
  repeat' first
    | with_reducible assumption
    | with_reducible apply State.onRed_frame
    | with_reducible apply applyChange_frame
    | with_reducible apply Ends.next
    | with_reducible apply SameBut.ite

theorem execHandoverTarget_frame {s : State} (hs : SameBut x s0 s) (x_host : x .host = true) (x_ctr : x .ctr = true) (x_cairn : x .cairn = true) (x_rings : x .rings = true) (x_red : x .red = true) (x_loop : x .loop = true) (x_motion : x .motion = true) (x_can : x .can = true) : Ends (SameBut x s0) (execHandoverTarget s) := by
  unfold execHandoverTarget
  repeat' first
    | with_reducible assumption
    | with_reducible apply State.onRed_frame
    | with_reducible apply redEvent_frame
    | with_reducible apply becomeStandby_frame
    | with_reducible apply forwardOnly_frame
    | with_reducible apply ok_frame
    | with_reducible apply leadAll_frame
    | with_reducible apply loadCheckpoint_frame
    | with_reducible apply wakeCan_frame
    | (intro)
    | (extract_lets +onlyGivenNames st; have hst : SameBut x s0 st := ?_; clear_value st; revert st; intro st2 hst2)
    | (extract_lets +onlyGivenNames yy; clear_value yy; revert yy; intro y2)
    | with_reducible apply Ends.next
    | (dsimp -zeta only [st]; clear st)
    | with_reducible apply SameBut.ite
    | split

theorem execRejoinCopyDone_frame {s : State} (hs : SameBut x s0 s) (x_red : x .red = true) : Ends (SameBut x s0) (execRejoinCopyDone s) := by
  unfold execRejoinCopyDone
  repeat' first
    | with_reducible assumption
    | with_reducible apply State.onRed_frame
    | with_reducible apply Ends.next
    | with_reducible apply SameBut.ite

/-! ## Machine/MultiOps.lean -/

theorem bumpPath_frame {s : State} {a2} {a3} (hs : SameBut x s0 s) (x_ctr : x .ctr = true) : SameBut x s0 (bumpPath s a2 a3) := by
  unfold bumpPath
  repeat' first
    | with_reducible assumption
    | with_reducible apply bump_frame
    | split

theorem timeRecord_frame {s : State} {a2} {a3} {a4} (hs : SameBut x s0 s) (x_ctr : x .ctr = true) (x_cairn : x .cairn = true) : SameBut x s0 (timeRecord s a2 a3 a4) := by
  unfold timeRecord
  repeat' first
    | with_reducible assumption
    | with_reducible apply recordOnly_frame

theorem setTime_frame {s : State} {a2} (hs : SameBut x s0 s) (x_ctr : x .ctr = true) (x_cairn : x .cairn = true) (x_time : x .time = true) : SameBut x s0 (setTime s a2) := by
  unfold setTime
  repeat' first
    | with_reducible assumption
    | with_reducible apply State.onTime_frame
    | with_reducible apply bumpPath_frame
    | with_reducible apply timeRecord_frame
    | (extract_lets +onlyGivenNames st; have hst : SameBut x s0 st := ?_; clear_value st; revert st; intro st2 hst2)
    | (extract_lets +onlyGivenNames yy; clear_value yy; revert yy; intro y2)
    | (dsimp -zeta only [st]; clear st)
    | with_reducible apply SameBut.ite

theorem addLeap_frame {s : State} {a2} (hs : SameBut x s0 s) (x_ctr : x .ctr = true) (x_cairn : x .cairn = true) (x_time : x .time = true) : SameBut x s0 (addLeap s a2) := by
  unfold addLeap
  repeat' first
    | with_reducible assumption
    | with_reducible apply State.onTime_frame
    | with_reducible apply timeRecord_frame
    | (extract_lets +onlyGivenNames st; have hst : SameBut x s0 st := ?_; clear_value st; revert st; intro st2 hst2)
    | with_reducible apply SameBut.ite

theorem learnUtc_frame {s : State} {a2} (hs : SameBut x s0 s) (x_ctr : x .ctr = true) (x_cairn : x .cairn = true) (x_time : x .time = true) : SameBut x s0 (learnUtc s a2) := by
  unfold learnUtc
  repeat' first
    | with_reducible assumption
    | with_reducible apply addLeap_frame
    | with_reducible apply SameBut.ite

theorem followSource_frame {s : State} {a2} (hs : SameBut x s0 s) (x_ctr : x .ctr = true) (x_cairn : x .cairn = true) (x_time : x .time = true) : SameBut x s0 (followSource s a2) := by
  unfold followSource
  repeat' first
    | with_reducible assumption
    | with_reducible apply draw_frame_proj
    | with_reducible apply setTime_frame
    | with_reducible apply bumpPath_frame
    | with_reducible apply learnUtc_frame
    | with_reducible apply SameBut.ite

theorem freeRun_frame {s : State} (hs : SameBut x s0 s) (x_ctr : x .ctr = true) (x_cairn : x .cairn = true) (x_time : x .time = true) : SameBut x s0 (freeRun s) := by
  unfold freeRun
  repeat' first
    | with_reducible assumption
    | with_reducible apply setTime_frame

theorem actMaster_frame {s : State} (hs : SameBut x s0 s) (x_ctr : x .ctr = true) (x_cairn : x .cairn = true) (x_time : x .time = true) : SameBut x s0 (actMaster s) := by
  unfold actMaster
  repeat' first
    | with_reducible assumption
    | with_reducible apply setTime_frame

theorem chooseSource_frame {s : State} (hs : SameBut x s0 s) (x_ctr : x .ctr = true) (x_cairn : x .cairn = true) (x_time : x .time = true) : SameBut x s0 (chooseSource s) := by
  unfold chooseSource
  repeat' first
    | with_reducible assumption
    | with_reducible apply followSource_frame
    | with_reducible apply actMaster_frame
    | with_reducible apply freeRun_frame
    | with_reducible apply SameBut.ite
    | split

theorem timeIn_frame {s : State} {a2} {a3} {a4} (hs : SameBut x s0 s) (x_ctr : x .ctr = true) (x_cairn : x .cairn = true) (x_time : x .time = true) : SameBut x s0 (timeIn s a2 a3 a4) := by
  unfold timeIn
  repeat' first
    | with_reducible assumption
    | with_reducible apply State.onTime_frame
    | with_reducible apply chooseSource_frame
    | (extract_lets +onlyGivenNames st; have hst : SameBut x s0 st := ?_; clear_value st; revert st; intro st2 hst2)
    | (extract_lets +onlyGivenNames yy; clear_value yy; revert yy; intro y2)
    | with_reducible apply SameBut.ite

theorem timeOut_frame_proj {s : State} {a2} (hs : SameBut x s0 s) : SameBut x s0 (timeOut s a2).2 := by
  unfold timeOut
  dsimp only
  split
  · exact hs
  · cases a2 with
    | ring r =>
      show SameBut x s0 (if (s.ring r).state = .leading then ((0 : Int), s) else match (s.ring r).phase with
        | some p => (roundDiv p 128, s)
        | none => (_, (draw s).2)).2
      split
      · exact hs
      · split
        · exact hs
        · exact draw_frame_proj hs
    | _ => exact hs

theorem timeOut_frame {s : State} {a2} {w0} {v : State} (e : timeOut s a2 = (w0, v)) (hs : SameBut x s0 s) : SameBut x s0 v := by
  have w := timeOut_frame_proj hs (x := x) (a2 := a2)
  rw [e] at w
  exact w

theorem zoneDownIn_frame {s : State} {a2} {a3} {a4} {a5} {a6} (hs : SameBut x s0 s) (x_ctr : x .ctr = true) (x_multi : x .multi = true) (x_loop : x .loop = true) : SameBut x s0 (zoneDownIn s a2 a3 a4 a5 a6) := by
  unfold zoneDownIn
  repeat' first
    | with_reducible assumption
    | with_reducible apply bumpPath_frame
    | with_reducible apply State.onMulti_frame
    | with_reducible apply State.each_frame
    | with_reducible apply State.onAxis_frame
    | (intro)
    | (extract_lets +onlyGivenNames st; have hst : SameBut x s0 st := ?_; clear_value st; revert st; intro st2 hst2)
    | (dsimp -zeta only [st]; clear st)
    | with_reducible apply SameBut.ite
    | split

theorem onZoneUp_frame {s : State} {a2} {a3} (hs : SameBut x s0 s) (x_multi : x .multi = true) : SameBut x s0 (onZoneUp s a2 a3) := by
  unfold onZoneUp
  repeat' first
    | with_reducible assumption
    | with_reducible apply State.onMulti_frame

theorem zoneUpIn_frame {s : State} {a2} {a3} {a4} {a5} {a6} {a7} {a8} (hs : SameBut x s0 s) (x_ctr : x .ctr = true) (x_multi : x .multi = true) : SameBut x s0 (zoneUpIn s a2 a3 a4 a5 a6 a7 a8) := by
  unfold zoneUpIn
  repeat' first
    | with_reducible assumption
    | with_reducible apply bumpPath_frame
    | with_reducible apply onZoneUp_frame
    | (intro)
    | (extract_lets +onlyGivenNames st; have hst : SameBut x s0 st := ?_; clear_value st; revert st; intro st2 hst2)
    | (extract_lets +onlyGivenNames yy; clear_value yy; revert yy; intro y2)
    | (dsimp -zeta only [st]; clear st)
    | with_reducible apply SameBut.ite
    | split

theorem safeIn_frame {s : State} {a2} {a3} {a4} {a5} (hs : SameBut x s0 s) (x_ctr : x .ctr = true) (x_cairn : x .cairn = true) (x_safety : x .safety = true) : SameBut x s0 (safeIn s a2 a3 a4 a5) := by
  unfold safeIn
  repeat' first
    | with_reducible assumption
    | with_reducible apply bumpPath_frame
    | with_reducible apply State.each_frame
    | with_reducible apply safeFrame_frame
    | (intro)
    | (extract_lets +onlyGivenNames yy; clear_value yy; revert yy; intro y2)
    | with_reducible apply SameBut.ite

theorem takeRecord_frame {a1} {a2} {s : State} {a4} (hs : SameBut x s0 s) (x_ctr : x .ctr = true) (x_cairn : x .cairn = true) (x_links : x .links = true) (x_time : x .time = true) (x_multi : x .multi = true) (x_red : x .red = true) (x_loop : x .loop = true) (x_safety : x .safety = true) (x_can : x .can = true) : SameBut x s0 (takeRecord a1 a2 s a4) := by
  unfold takeRecord
  repeat' first
    | with_reducible assumption
    | with_reducible apply timeIn_frame
    | with_reducible apply heartbeatIn_frame
    | with_reducible apply safeIn_frame
    | with_reducible apply zoneDownIn_frame
    | with_reducible apply zoneUpIn_frame
    | with_reducible apply State.onLink_frame
    | with_reducible apply SameBut.ite
    | split

theorem pathRecords_frame_proj {s : State} {a2} {a3} {a4} (hs : SameBut x s0 s) : SameBut x s0 (pathRecords s a2 a3 a4).2 := by
  unfold pathRecords
  repeat' first
    | with_reducible assumption
    | with_reducible apply timeOut_frame_proj

theorem pathRecords_frame {s : State} {a2} {a3} {a4} {w0} {v : State} (e : pathRecords s a2 a3 a4 = (w0, v)) (hs : SameBut x s0 s) : SameBut x s0 v := by
  have w := pathRecords_frame_proj hs (x := x) (a2 := a2) (a3 := a3) (a4 := a4)
  rw [e] at w
  exact w

theorem writeTrunkSlot_frame {s : State} {a2} {a3} (hs : SameBut x s0 s) (x_rings : x .rings = true) : SameBut x s0 (writeTrunkSlot s a2 a3) := by
  unfold writeTrunkSlot
  repeat' first
    | with_reducible assumption
    | with_reducible apply State.onRing_frame
    | (intro)
    | (extract_lets +onlyGivenNames st; have hst : SameBut x s0 st := ?_; clear_value st; revert st; intro st2 hst2)
    | (extract_lets +onlyGivenNames yy; clear_value yy; revert yy; intro y2)
    | (dsimp -zeta only [st]; clear st)
    | with_reducible apply SameBut.ite
    | split

theorem sendOn_frame {s : State} {a2} {a3} {a4} (hs : SameBut x s0 s) (x_ctr : x .ctr = true) (x_multi : x .multi = true) : SameBut x s0 (sendOn s a2 a3 a4) := by
  unfold sendOn
  repeat' first
    | with_reducible assumption
    | with_reducible apply State.onMulti_frame
    | with_reducible apply bump_frame

theorem sendRecords_frame {s : State} (hs : SameBut x s0 s) (x_ctr : x .ctr = true) (x_rings : x .rings = true) (x_multi : x .multi = true) : SameBut x s0 (sendRecords s) := by
  unfold sendRecords
  repeat' first
    | with_reducible assumption
    | with_reducible apply State.onMulti_frame
    | with_reducible apply State.each_frame
    | with_reducible apply pathRecords_frame_proj
    | with_reducible refine pathRecords_frame (by assumption) ?_
    | with_reducible apply bumpPath_frame
    | with_reducible apply sendOn_frame
    | with_reducible apply writeTrunkSlot_frame
    | (intro)
    | (extract_lets +onlyGivenNames st; have hst : SameBut x s0 st := ?_; clear_value st; revert st; intro st2 hst2)
    | (extract_lets +onlyGivenNames yy; clear_value yy; revert yy; intro y2)
    | (dsimp -zeta only [st]; clear st)
    | with_reducible apply SameBut.ite
    | split

theorem trimTime_frame {s : State} (hs : SameBut x s0 s) (x_time : x .time = true) : SameBut x s0 (trimTime s) := by
  unfold trimTime
  repeat' first
    | with_reducible assumption
    | with_reducible apply State.onTime_frame

/-! ## Machine/RecOps.lean -/

theorem readSel_frame_proj {s : State} {a2} (hs : SameBut x s0 s) (x_host : x .host = true) (x_ctr : x .ctr = true) (x_dbg : x .dbg = true) (x_cairn : x .cairn = true) : SameBut x s0 (readSel s a2).2.2 := by
  unfold readSel
  repeat' first
    | with_reducible assumption
    | with_reducible apply readWord_frame_proj
    | (extract_lets +onlyGivenNames yy; clear_value yy; revert yy; intro y2)
    | split

theorem readSel_frame {s : State} {a2} {w0} {w1} {v : State} (e : readSel s a2 = (w0, w1, v)) (hs : SameBut x s0 s) (x_host : x .host = true) (x_ctr : x .ctr = true) (x_dbg : x .dbg = true) (x_cairn : x .cairn = true) : SameBut x s0 v := by
  have w := readSel_frame_proj hs x_host x_ctr x_dbg x_cairn (x := x) (a2 := a2)
  rw [e] at w
  exact w

theorem readSels_frame_proj {l} {s : State} (hs : SameBut x s0 s) (x_host : x .host = true) (x_ctr : x .ctr = true) (x_dbg : x .dbg = true) (x_cairn : x .cairn = true) : SameBut x s0 (readSels l s).2.2 := by
  induction l generalizing s with
  | nil => exact hs
  | cons k r ih => exact ih (readSel_frame_proj hs x_host x_ctr x_dbg x_cairn)

theorem readSels_frame {l} {s : State} {w u} {v : State} (e : readSels l s = (w, u, v)) (hs : SameBut x s0 s) (x_host : x .host = true) (x_ctr : x .ctr = true) (x_dbg : x .dbg = true) (x_cairn : x .cairn = true) : SameBut x s0 v := by
  have h := readSels_frame_proj (l := l) hs x_host x_ctr x_dbg x_cairn
  rw [e] at h
  exact h

theorem trimHolds_frame {a1} {s : State} (hs : SameBut x s0 s) (x_ctr : x .ctr = true) (x_cairn : x .cairn = true) : SameBut x s0 (trimHolds a1 s) := by
  induction a1 generalizing s with
  | zero => exact hs
  | succ k ih =>
    unfold trimHolds
    repeat' first
        | with_reducible assumption
        | with_reducible apply State.onRec_frame
        | with_reducible apply recEvent_frame
        | with_reducible apply ih
        | (extract_lets +onlyGivenNames st; have hst : SameBut x s0 st := ?_; clear_value st; revert st; intro st2 hst2)
        | (extract_lets +onlyGivenNames yy; clear_value yy; revert yy; intro y2)
        | with_reducible apply SameBut.ite

theorem holdTrace_frame {s : State} {a2} {a3} (hs : SameBut x s0 s) (x_ctr : x .ctr = true) (x_cairn : x .cairn = true) : SameBut x s0 (holdTrace s a2 a3) := by
  unfold holdTrace
  repeat' first
    | with_reducible assumption
    | with_reducible apply trimHolds_frame
    | with_reducible apply State.onRec_frame

theorem recordEvent_frame {s : State} {a2} {a3} {a4} (hs : SameBut x s0 s) (x_host : x .host = true) (x_ctr : x .ctr = true) (x_dbg : x .dbg = true) (x_cairn : x .cairn = true) : SameBut x s0 (recordEvent s a2 a3 a4) := by
  unfold recordEvent
  repeat' first
    | with_reducible assumption
    | with_reducible apply readSels_frame_proj
    | with_reducible apply writeRecord_frame
    | with_reducible apply recEvent_frame
    | with_reducible apply repeatRecord_frame
    | (intro)
    | (extract_lets +onlyGivenNames st; have hst : SameBut x s0 st := ?_; clear_value st; revert st; intro st2 hst2)
    | (extract_lets +onlyGivenNames fn; have hfn : ∀ z, SameBut x s0 z → SameBut x s0 (fn z) := ?_; clear_value fn; revert fn; intro fn2 hfn)
    | (extract_lets +onlyGivenNames yy; clear_value yy; revert yy; intro y2)
    | with_reducible apply hfn
    | (dsimp -zeta only [fn]; clear fn)
    | with_reducible apply SameBut.ite
    | split

theorem recordDrops_frame {s : State} {a2} (hs : SameBut x s0 s) (x_host : x .host = true) (x_ctr : x .ctr = true) (x_dbg : x .dbg = true) (x_cairn : x .cairn = true) : SameBut x s0 (recordDrops s a2) := by
  unfold recordDrops
  repeat' first
    | with_reducible assumption
    | with_reducible apply postEvent_frame
    | with_reducible apply recordEvent_frame
    | with_reducible apply State.onRec_frame
    | (extract_lets +onlyGivenNames yy; clear_value yy; revert yy; intro y2)
    | with_reducible apply SameBut.ite

theorem takeEvent_frame {s : State} {a2} {a3} (hs : SameBut x s0 s) (x_host : x .host = true) (x_ctr : x .ctr = true) (x_dbg : x .dbg = true) (x_cairn : x .cairn = true) : SameBut x s0 (takeEvent s a2 a3) := by
  unfold takeEvent
  repeat' first
    | with_reducible assumption
    | with_reducible apply postEvent_frame
    | with_reducible apply recordDrops_frame
    | with_reducible apply holdTrace_frame
    | with_reducible apply recordEvent_frame
    | (extract_lets +onlyGivenNames st; have hst : SameBut x s0 st := ?_; clear_value st; revert st; intro st2 hst2)
    | (extract_lets +onlyGivenNames yy; clear_value yy; revert yy; intro y2)
    | (dsimp -zeta only [st]; clear st)
    | with_reducible apply SameBut.ite
    | split

theorem spillPage_frame {s : State} {a2} (hs : SameBut x s0 s) (x_cairn : x .cairn = true) : SameBut x s0 (spillPage s a2) := by
  unfold spillPage
  repeat' first
    | with_reducible assumption
    | with_reducible apply State.onRec_frame
    | with_reducible apply State.onDrive_frame
    | (extract_lets +onlyGivenNames st; have hst : SameBut x s0 st := ?_; clear_value st; revert st; intro st2 hst2)
    | (extract_lets +onlyGivenNames yy; clear_value yy; revert yy; intro y2)
    | with_reducible apply SameBut.ite

theorem spillAll_frame {a1} {s : State} (hs : SameBut x s0 s) (x_cairn : x .cairn = true) : SameBut x s0 (spillAll a1 s) := by
  induction a1 generalizing s with
  | zero => exact hs
  | succ k ih =>
    unfold spillAll
    repeat' first
        | with_reducible assumption
        | with_reducible apply spillPage_frame
        | with_reducible apply ih
        | with_reducible apply SameBut.ite
        | split

theorem spillTrace_frame {s : State} {a2} (hs : SameBut x s0 s) (x_cairn : x .cairn = true) : SameBut x s0 (spillTrace s a2) := by
  unfold spillTrace
  repeat' first
    | with_reducible assumption
    | with_reducible apply State.onRec_frame
    | (extract_lets +onlyGivenNames yy; clear_value yy; revert yy; intro y2)
    | with_reducible apply SameBut.ite

theorem issueFlush_frame {s : State} {a2} (hs : SameBut x s0 s) (x_cairn : x .cairn = true) : SameBut x s0 (issueFlush s a2) := by
  unfold issueFlush
  repeat' first
    | with_reducible assumption
    | with_reducible apply State.onDrive_frame

theorem flushAll_frame {s : State} (hs : SameBut x s0 s) (x_cairn : x .cairn = true) : SameBut x s0 (flushAll s) := by
  unfold flushAll
  repeat' first
    | with_reducible assumption
    | with_reducible apply State.each_frame
    | with_reducible apply issueFlush_frame
    | (intro)

theorem reduceTrace_frame {s : State} {a2} (hs : SameBut x s0 s) (x_ctr : x .ctr = true) (x_cairn : x .cairn = true) : SameBut x s0 (reduceTrace s a2) := by
  unfold reduceTrace
  repeat' first
    | with_reducible assumption
    | with_reducible apply recEvent_frame
    | with_reducible apply State.onRec_frame
    | (extract_lets +onlyGivenNames yy; clear_value yy; revert yy; intro y2)
    | with_reducible apply SameBut.ite

theorem failDrive_frame {s : State} {a2} {a3} (hs : SameBut x s0 s) (x_ctr : x .ctr = true) (x_cairn : x .cairn = true) : SameBut x s0 (failDrive s a2 a3) := by
  unfold failDrive
  repeat' first
    | with_reducible assumption
    | with_reducible apply State.onDrive_frame
    | with_reducible apply State.onRec_frame
    | with_reducible apply recEvent_frame
    | with_reducible apply reduceTrace_frame
    | (extract_lets +onlyGivenNames st; have hst : SameBut x s0 st := ?_; clear_value st; revert st; intro st2 hst2)
    | (extract_lets +onlyGivenNames yy; clear_value yy; revert yy; intro y2)
    | with_reducible apply SameBut.ite

theorem retireStripe_frame {s : State} {a2} (hs : SameBut x s0 s) (x_ctr : x .ctr = true) (x_cairn : x .cairn = true) : SameBut x s0 (retireStripe s a2) := by
  unfold retireStripe
  repeat' first
    | with_reducible assumption
    | with_reducible apply State.onDrive_frame
    | with_reducible apply recEvent_frame
    | with_reducible apply bump_frame
    | with_reducible apply failDrive_frame
    | (intro)
    | (extract_lets +onlyGivenNames st; have hst : SameBut x s0 st := ?_; clear_value st; revert st; intro st2 hst2)
    | (extract_lets +onlyGivenNames yy; clear_value yy; revert yy; intro y2)
    | (dsimp -zeta only [st]; clear st)
    | with_reducible apply SameBut.ite
    | split

theorem timeWrite_frame {s : State} {a2} {a3} (hs : SameBut x s0 s) (x_ctr : x .ctr = true) (x_cairn : x .cairn = true) : SameBut x s0 (timeWrite s a2 a3) := by
  unfold timeWrite
  repeat' first
    | with_reducible assumption
    | with_reducible apply State.onDrive_frame
    | with_reducible apply bump_frame
    | with_reducible apply recEvent_frame
    | (extract_lets +onlyGivenNames st; have hst : SameBut x s0 st := ?_; clear_value st; revert st; intro st2 hst2)
    | (extract_lets +onlyGivenNames yy; clear_value yy; revert yy; intro y2)
    | with_reducible apply SameBut.ite

theorem State.onSector_frame {s : State} {a2} {a3} (hs : SameBut x s0 s) (x_cairn : x .cairn = true) : SameBut x s0 (State.onSector s a2 a3) := by
  unfold State.onSector
  repeat' first
    | with_reducible assumption
    | with_reducible apply State.onRec_frame

theorem nextSector_frame {s : State} (hs : SameBut x s0 s) (x_cairn : x .cairn = true) : SameBut x s0 (nextSector s) := by
  unfold nextSector
  repeat' first
    | with_reducible assumption
    | with_reducible apply State.onRec_frame
    | with_reducible apply State.onSector_frame
    | split

theorem retireSector_frame {s : State} (hs : SameBut x s0 s) (x_ctr : x .ctr = true) (x_cairn : x .cairn = true) (x_safety : x .safety = true) : SameBut x s0 (retireSector s) := by
  unfold retireSector
  repeat' first
    | with_reducible assumption
    | with_reducible apply logWrite_frame
    | with_reducible apply bump_frame
    | with_reducible apply State.onSector_frame
    | with_reducible apply recEvent_frame
    | with_reducible apply State.onRec_frame
    | with_reducible apply nextSector_frame
    | (extract_lets +onlyGivenNames st; have hst : SameBut x s0 st := ?_; clear_value st; revert st; intro st2 hst2)
    | (extract_lets +onlyGivenNames yy; clear_value yy; revert yy; intro y2)
    | with_reducible apply SameBut.ite

theorem shedMirror_frame {s : State} (hs : SameBut x s0 s) (x_ctr : x .ctr = true) (x_cairn : x .cairn = true) : SameBut x s0 (shedMirror s) := by
  unfold shedMirror
  repeat' first
    | with_reducible assumption
    | with_reducible apply bump_frame
    | with_reducible apply State.onRec_frame
    | (extract_lets +onlyGivenNames yy; clear_value yy; revert yy; intro y2)
    | with_reducible apply SameBut.ite

theorem programPage_frame {s : State} {a2} {a3} (hs : SameBut x s0 s) (x_ctr : x .ctr = true) (x_cairn : x .cairn = true) (x_safety : x .safety = true) : SameBut x s0 (programPage s a2 a3) := by
  unfold programPage
  repeat' first
    | with_reducible assumption
    | with_reducible apply shedMirror_frame
    | with_reducible apply nextSector_frame
    | with_reducible apply bump_frame
    | with_reducible apply State.onRec_frame
    | with_reducible apply State.onSector_frame
    | with_reducible apply recEvent_frame
    | with_reducible apply retireSector_frame
    | (extract_lets +onlyGivenNames st; have hst : SameBut x s0 st := ?_; clear_value st; revert st; intro st2 hst2)
    | (extract_lets +onlyGivenNames yy; clear_value yy; revert yy; intro y2)
    | (dsimp -zeta only [st]; clear st)
    | with_reducible apply SameBut.ite

theorem programPages_frame {a1} {s : State} (hs : SameBut x s0 s) (x_ctr : x .ctr = true) (x_cairn : x .cairn = true) (x_safety : x .safety = true) : SameBut x s0 (programPages a1 s) := by
  induction a1 generalizing s with
  | zero => exact hs
  | succ k ih =>
    unfold programPages
    repeat' first
        | with_reducible assumption
        | with_reducible apply programPage_frame
        | with_reducible apply ih
        | with_reducible apply SameBut.ite

theorem cairnPowerFail_frame {s : State} (hs : SameBut x s0 s) (x_ctr : x .ctr = true) (x_cairn : x .cairn = true) (x_safety : x .safety = true) : SameBut x s0 (cairnPowerFail s) := by
  unfold cairnPowerFail
  repeat' first
    | with_reducible assumption
    | with_reducible apply programPages_frame
    | with_reducible apply sealOpen_frame
    | with_reducible apply spillAll_frame
    | with_reducible apply flushAll_frame
    | with_reducible apply State.onRec_frame

theorem traceRowCopy_frame {s : State} (hs : SameBut x s0 s) (x_ctr : x .ctr = true) (x_cairn : x .cairn = true) : SameBut x s0 (traceRowCopy s) := by
  unfold traceRowCopy
  repeat' first
    | with_reducible assumption
    | with_reducible apply bump_frame
    | with_reducible apply State.onRec_frame
    | (extract_lets +onlyGivenNames yy; clear_value yy; revert yy; intro y2)
    | with_reducible apply SameBut.ite

theorem landTrace_frame {s : State} (hs : SameBut x s0 s) (x_host : x .host = true) (x_ctr : x .ctr = true) (x_cairn : x .cairn = true) (x_nor : x .nor = true) : SameBut x s0 (landTrace s) := by
  unfold landTrace
  repeat' first
    | with_reducible assumption
    | with_reducible apply State.each_frame
    | with_reducible apply State.onRec_frame
    | with_reducible apply ok_frame
    | with_reducible apply store_frame
    | (intro)

/-! ## Machine/StoreOps.lean -/

theorem applyStore_frame {s : State} {a2} (hs : SameBut x s0 s) (x_field : x .field = true) (x_can : x .can = true) (x_nor : x .nor = true) : SameBut x s0 (applyStore s a2) := by
  unfold applyStore
  repeat' first
    | with_reducible assumption
    | with_reducible apply State.onField_frame
    | with_reducible apply State.onCan_frame
    | (extract_lets +onlyGivenNames st; have hst : SameBut x s0 st := ?_; clear_value st; revert st; intro st2 hst2)
    | (dsimp -zeta only [st]; clear st)
    | split
    | with_reducible refine SameBut.literal rfl (.inr rfl) (.inr rfl) (.inr rfl) (.inr rfl) (.inr rfl) (.inr rfl) (.inr rfl) (.inr rfl) (.inr rfl) (.inr rfl) (.inr rfl) (.inr rfl) (.inr rfl) (.inr rfl) (.inr rfl) (.inr rfl) (.inr rfl) (.inr rfl) (.inr rfl) (.inl x_nor) ?_

theorem storeDone_frame {s : State} (hs : SameBut x s0 s) (x_field : x .field = true) (x_can : x .can = true) (x_nor : x .nor = true) : SameBut x s0 (storeDone s) := by
  unfold storeDone
  repeat' first
    | with_reducible assumption
    | with_reducible apply applyStore_frame
    | (extract_lets +onlyGivenNames yy; clear_value yy; revert yy; intro y2)
    | split
    | with_reducible refine SameBut.literal rfl (.inr rfl) (.inr rfl) (.inr rfl) (.inr rfl) (.inr rfl) (.inr rfl) (.inr rfl) (.inr rfl) (.inr rfl) (.inr rfl) (.inr rfl) (.inr rfl) (.inr rfl) (.inr rfl) (.inr rfl) (.inr rfl) (.inr rfl) (.inr rfl) (.inr rfl) (.inl x_nor) ?_

theorem storeAll_frame {s : State} (hs : SameBut x s0 s) (x_field : x .field = true) (x_can : x .can = true) (x_nor : x .nor = true) : SameBut x s0 (storeAll s) := by
  unfold storeAll
  repeat' first
    | with_reducible assumption
    | with_reducible apply applyStore_frame
    | (intro)
    | with_reducible apply foldl_frame
    | (extract_lets +onlyGivenNames yy; clear_value yy; revert yy; intro y2)
    | with_reducible refine SameBut.literal rfl (.inr rfl) (.inr rfl) (.inr rfl) (.inr rfl) (.inr rfl) (.inr rfl) (.inr rfl) (.inr rfl) (.inr rfl) (.inr rfl) (.inr rfl) (.inr rfl) (.inr rfl) (.inr rfl) (.inr rfl) (.inr rfl) (.inr rfl) (.inr rfl) (.inr rfl) (.inl x_nor) ?_

theorem execConfigStoreDone_frame {s : State} (hs : SameBut x s0 s) (x_field : x .field = true) (x_can : x .can = true) (x_nor : x .nor = true) : Ends (SameBut x s0) (execConfigStoreDone s) := by
  unfold execConfigStoreDone
  repeat' first
    | with_reducible assumption
    | with_reducible apply storeDone_frame
    | with_reducible apply Ends.next

/-! ## Machine/PowOps.lean -/

theorem powRefuse_frame {s : State} {a2} {a3} {a4} (hs : SameBut x s0 s) (x_pow : x .pow = true) (x_ctr : x .ctr = true) (x_cairn : x .cairn = true) : SameBut x s0 (powRefuse s a2 a3 a4) := by
  unfold powRefuse
  repeat' first
    | with_reducible assumption
    | with_reducible apply bump_frame
    | with_reducible apply State.onPow_frame
    | with_reducible apply powEvent_frame

theorem powRefused_frame {s : State} {a2} {a3} {a4} {a5} {a6} (hs : SameBut x s0 s) (x_pow : x .pow = true) (x_host : x .host = true) (x_ctr : x .ctr = true) (x_cairn : x .cairn = true) : SameBut x s0 (powRefused s a2 a3 a4 a5 a6) := by
  unfold powRefused
  repeat' first
    | with_reducible assumption
    | with_reducible apply refused_frame
    | with_reducible apply powRefuse_frame

theorem levelDone_frame {s : State} {a2} {a3} (hs : SameBut x s0 s) (x_host : x .host = true) (x_ctr : x .ctr = true) : SameBut x s0 (levelDone s a2 a3) := by
  unfold levelDone
  repeat' first
    | with_reducible assumption
    | with_reducible apply ok_frame

theorem runLevel_frame {s : State} {a2} (hs : SameBut x s0 s) (x_pow : x .pow = true) (x_host : x .host = true) (x_ctr : x .ctr = true) (x_cairn : x .cairn = true) : SameBut x s0 (runLevel s a2) := by
  unfold runLevel
  repeat' first
    | with_reducible assumption
    | with_reducible apply powRefused_frame
    | with_reducible apply levelDone_frame
    | with_reducible apply State.onPow_frame
    | (extract_lets +onlyGivenNames yy; clear_value yy; revert yy; intro y2)
    | with_reducible apply SameBut.ite
    | split

theorem nextLevel_frame {a1} {s : State} (hs : SameBut x s0 s) (x_pow : x .pow = true) (x_host : x .host = true) (x_ctr : x .ctr = true) (x_cairn : x .cairn = true) : SameBut x s0 (nextLevel a1 s) := by
  induction a1 generalizing s with
  | zero => exact hs
  | succ k ih =>
    unfold nextLevel
    repeat' first
        | with_reducible assumption
        | with_reducible apply runLevel_frame
        | with_reducible apply State.onPow_frame
        | with_reducible apply ih
        | split

theorem endChange_frame {s : State} (hs : SameBut x s0 s) (x_pow : x .pow = true) (x_host : x .host = true) (x_ctr : x .ctr = true) (x_cairn : x .cairn = true) : SameBut x s0 (endChange s) := by
  unfold endChange
  repeat' first
    | with_reducible assumption
    | with_reducible apply nextLevel_frame
    | with_reducible apply State.onPow_frame

theorem landLevel_frame {s : State} (hs : SameBut x s0 s) (x_pow : x .pow = true) (x_host : x .host = true) (x_ctr : x .ctr = true) (x_cairn : x .cairn = true) : SameBut x s0 (landLevel s) := by
  unfold landLevel
  repeat' first
    | with_reducible assumption
    | with_reducible apply State.onPow_frame
    | with_reducible apply powEvent_frame
    | with_reducible apply endChange_frame
    | with_reducible apply levelDone_frame
    | (extract_lets +onlyGivenNames st; have hst : SameBut x s0 st := ?_; clear_value st; revert st; intro st2 hst2)
    | (extract_lets +onlyGivenNames yy; clear_value yy; revert yy; intro y2)
    | with_reducible apply SameBut.ite
    | split

theorem ackRail_frame {s : State} {a2} (hs : SameBut x s0 s) (x_pow : x .pow = true) (x_host : x .host = true) (x_ctr : x .ctr = true) (x_cairn : x .cairn = true) : SameBut x s0 (ackRail s a2) := by
  unfold ackRail
  repeat' first
    | with_reducible assumption
    | with_reducible apply State.onPow_frame
    | with_reducible apply endChange_frame
    | with_reducible apply levelDone_frame
    | (extract_lets +onlyGivenNames st; have hst : SameBut x s0 st := ?_; clear_value st; revert st; intro st2 hst2)
    | (extract_lets +onlyGivenNames yy; clear_value yy; revert yy; intro y2)
    | with_reducible apply SameBut.ite
    | split

theorem pmbFault_frame {s : State} {a2} (hs : SameBut x s0 s) (x_pow : x .pow = true) (x_ctr : x .ctr = true) (x_cairn : x .cairn = true) : SameBut x s0 (pmbFault s a2) := by
  unfold pmbFault
  repeat' first
    | with_reducible assumption
    | with_reducible apply bump_frame
    | with_reducible apply powEvent_frame
    | with_reducible apply State.onPow_frame
    | (extract_lets +onlyGivenNames st; have hst : SameBut x s0 st := ?_; clear_value st; revert st; intro st2 hst2)
    | with_reducible apply SameBut.ite

theorem railTimeout_frame {s : State} {a2} (hs : SameBut x s0 s) (x_pow : x .pow = true) (x_host : x .host = true) (x_ctr : x .ctr = true) (x_cairn : x .cairn = true) : SameBut x s0 (railTimeout s a2) := by
  unfold railTimeout
  repeat' first
    | with_reducible assumption
    | with_reducible apply State.onPow_frame
    | with_reducible apply pmbFault_frame
    | with_reducible apply bump_frame
    | with_reducible apply endChange_frame
    | with_reducible apply timedOut_frame
    | (extract_lets +onlyGivenNames st; have hst : SameBut x s0 st := ?_; clear_value st; revert st; intro st2 hst2)
    | with_reducible apply SameBut.ite
    | split

theorem landIslands_frame {s : State} (hs : SameBut x s0 s) (x_pow : x .pow = true) (x_host : x .host = true) (x_ctr : x .ctr = true) (x_dbg : x .dbg = true) (x_cairn : x .cairn = true) : SameBut x s0 (landIslands s) := by
  unfold landIslands
  repeat' first
    | with_reducible assumption
    | with_reducible apply State.each_frame
    | with_reducible apply State.onPow_frame
    | with_reducible apply powRefused_frame
    | with_reducible apply ok_frame
    | with_reducible apply setSleep_frame
    | (intro)
    | with_reducible apply SameBut.ite

theorem drivesOff_frame {s : State} (hs : SameBut x s0 s) (x_cairn : x .cairn = true) : SameBut x s0 (drivesOff s) := by
  unfold drivesOff
  repeat' first
    | with_reducible assumption
    | with_reducible apply State.each_frame
    | with_reducible apply State.onRec_frame
    | with_reducible apply State.onDrive_frame
    | (intro)

theorem canSleep_frame {s : State} (hs : SameBut x s0 s) (x_can : x .can = true) : SameBut x s0 (canSleep s) := by
  unfold canSleep
  repeat' first
    | with_reducible assumption
    | with_reducible apply State.onCan_frame

theorem canRestore_frame {s : State} (hs : SameBut x s0 s) (x_can : x .can = true) : SameBut x s0 (canRestore s) := by
  unfold canRestore
  repeat' first
    | with_reducible assumption
    | with_reducible apply State.onCan_frame

theorem s3Stage1_frame {s : State} {a2} (hs : SameBut x s0 s) (x_pow : x .pow = true) (x_cairn : x .cairn = true) (x_field : x .field = true) (x_can : x .can = true) (x_nor : x .nor = true) : SameBut x s0 (s3Stage1 s a2) := by
  unfold s3Stage1
  repeat' first
    | with_reducible assumption
    | with_reducible apply State.onPow_frame
    | with_reducible apply flushAll_frame
    | with_reducible apply spillAll_frame
    | with_reducible apply storeAll_frame

theorem s3Stage2_frame {s : State} (hs : SameBut x s0 s) (x_supply : x .supply = true) (x_sys : x .sys = true) (x_pow : x .pow = true) (x_host : x .host = true) (x_ctr : x .ctr = true) (x_dbg : x .dbg = true) (x_cairn : x .cairn = true) (x_rings : x .rings = true) (x_links : x .links = true) (x_time : x .time = true) (x_multi : x .multi = true) (x_red : x .red = true) (x_loop : x .loop = true) (x_motion : x .motion = true) (x_disp : x .disp = true) (x_doors : x .doors = true) (x_safety : x .safety = true) (x_field : x .field = true) (x_can : x .can = true) (x_nor : x .nor = true) : SameBut x s0 (s3Stage2 s) := by
  unfold s3Stage2
  repeat' first
    | with_reducible assumption
    | with_reducible apply canSleep_frame
    | with_reducible apply drivesOff_frame
    | with_reducible apply State.onPow_frame
    | with_reducible apply State.onSupply_frame
    | with_reducible apply State.onSys_frame
    | with_reducible apply endSession_frame

theorem s3Stage3_frame {s : State} (hs : SameBut x s0 s) (x_sys : x .sys = true) (x_pow : x .pow = true) (x_rings : x .rings = true) (x_links : x .links = true) (x_safety : x .safety = true) : SameBut x s0 (s3Stage3 s) := by
  unfold s3Stage3
  repeat' first
    | with_reducible assumption
    | with_reducible apply State.onSafety_frame
    | with_reducible apply State.onPow_frame
    | with_reducible apply State.onSys_frame
    | (extract_lets +onlyGivenNames st; have hst : SameBut x s0 st := ?_; clear_value st; revert st; intro st2 hst2)
    | with_reducible refine SameBut.literal rfl (.inr rfl) (.inr rfl) (.inr rfl) (.inr rfl) (.inr rfl) (.inr rfl) (.inr rfl) (.inl x_rings) (.inl x_links) (.inr rfl) (.inr rfl) (.inr rfl) (.inr rfl) (.inr rfl) (.inr rfl) (.inr rfl) (.inr rfl) (.inr rfl) (.inr rfl) (.inr rfl) ?_

theorem s3Stage4_frame {s : State} (hs : SameBut x s0 s) (x_sys : x .sys = true) (x_pow : x .pow = true) (x_rings : x .rings = true) (x_time : x .time = true) (x_field : x .field = true) : SameBut x s0 (s3Stage4 s) := by
  unfold s3Stage4
  repeat' first
    | with_reducible assumption
    | with_reducible apply State.onPow_frame
    | with_reducible apply State.onSys_frame
    | with_reducible apply State.onTime_frame
    | with_reducible apply State.onField_frame
    | with_reducible refine SameBut.literal rfl (.inr rfl) (.inr rfl) (.inr rfl) (.inr rfl) (.inr rfl) (.inr rfl) (.inr rfl) (.inl x_rings) (.inr rfl) (.inr rfl) (.inr rfl) (.inr rfl) (.inr rfl) (.inr rfl) (.inr rfl) (.inr rfl) (.inr rfl) (.inr rfl) (.inr rfl) (.inr rfl) ?_

theorem undoStage2_frame {s : State} (hs : SameBut x s0 s) (x_supply : x .supply = true) (x_sys : x .sys = true) (x_can : x .can = true) : SameBut x s0 (undoStage2 s) := by
  unfold undoStage2
  repeat' first
    | with_reducible assumption
    | with_reducible apply State.onSupply_frame
    | with_reducible apply State.onSys_frame
    | with_reducible apply canRestore_frame

theorem wakeRings_frame {s : State} (hs : SameBut x s0 s) (x_rings : x .rings = true) : SameBut x s0 (wakeRings s) := by
  unfold wakeRings
  repeat' first
    | with_reducible assumption
    | (intro)
    | with_reducible apply SameBut.ite
    | split
    | with_reducible refine SameBut.literal rfl (.inr rfl) (.inr rfl) (.inr rfl) (.inr rfl) (.inr rfl) (.inr rfl) (.inr rfl) (.inl x_rings) (.inr rfl) (.inr rfl) (.inr rfl) (.inr rfl) (.inr rfl) (.inr rfl) (.inr rfl) (.inr rfl) (.inr rfl) (.inr rfl) (.inr rfl) (.inr rfl) ?_

theorem abortS3_frame {s : State} {a2} {a3} {a4} (hs : SameBut x s0 s) (x_supply : x .supply = true) (x_sys : x .sys = true) (x_pow : x .pow = true) (x_ctr : x .ctr = true) (x_cairn : x .cairn = true) (x_rings : x .rings = true) (x_can : x .can = true) : SameBut x s0 (abortS3 s a2 a3 a4) := by
  unfold abortS3
  repeat' first
    | with_reducible assumption
    | with_reducible apply bump_frame
    | with_reducible apply State.onPow_frame
    | with_reducible apply undoStage2_frame
    | with_reducible apply wakeRings_frame
    | with_reducible apply powEvent_frame
    | with_reducible apply SameBut.ite
    | split

theorem enterS3_frame {s : State} (hs : SameBut x s0 s) (x_pow : x .pow = true) (x_ctr : x .ctr = true) : SameBut x s0 (enterS3 s) := by
  unfold enterS3
  repeat' first
    | with_reducible assumption
    | with_reducible apply bump_frame
    | with_reducible apply State.onPow_frame

theorem endStage_frame {s : State} {a2} (hs : SameBut x s0 s) (x_supply : x .supply = true) (x_sys : x .sys = true) (x_pow : x .pow = true) (x_host : x .host = true) (x_ctr : x .ctr = true) (x_dbg : x .dbg = true) (x_cairn : x .cairn = true) (x_rings : x .rings = true) (x_links : x .links = true) (x_time : x .time = true) (x_multi : x .multi = true) (x_red : x .red = true) (x_loop : x .loop = true) (x_motion : x .motion = true) (x_disp : x .disp = true) (x_doors : x .doors = true) (x_safety : x .safety = true) (x_field : x .field = true) (x_can : x .can = true) (x_nor : x .nor = true) : SameBut x s0 (endStage s a2) := by
  unfold endStage
  repeat' first
    | with_reducible assumption
    | with_reducible apply abortS3_frame
    | with_reducible apply s3Stage2_frame
    | with_reducible apply s3Stage3_frame
    | with_reducible apply s3Stage4_frame
    | with_reducible apply enterS3_frame
    | (extract_lets +onlyGivenNames yy; clear_value yy; revert yy; intro y2)
    | with_reducible apply SameBut.ite
    | split

theorem unseedEdges_frame {s : State} (hs : SameBut x s0 s) (x_doors : x .doors = true) : SameBut x s0 (unseedEdges s) := by
  unfold unseedEdges
  repeat' first
    | with_reducible assumption
    | with_reducible refine SameBut.literal rfl (.inr rfl) (.inr rfl) (.inr rfl) (.inr rfl) (.inr rfl) (.inr rfl) (.inr rfl) (.inr rfl) (.inr rfl) (.inr rfl) (.inr rfl) (.inr rfl) (.inr rfl) (.inr rfl) (.inr rfl) (.inl x_doors) (.inr rfl) (.inr rfl) (.inr rfl) (.inr rfl) ?_

theorem refCloses_frame {s : State} (hs : SameBut x s0 s) (x_doors : x .doors = true) : SameBut x s0 (refCloses s) := by
  unfold refCloses
  repeat' first
    | with_reducible assumption
    | with_reducible refine SameBut.literal rfl (.inr rfl) (.inr rfl) (.inr rfl) (.inr rfl) (.inr rfl) (.inr rfl) (.inr rfl) (.inr rfl) (.inr rfl) (.inr rfl) (.inr rfl) (.inr rfl) (.inr rfl) (.inr rfl) (.inr rfl) (.inl x_doors) (.inr rfl) (.inr rfl) (.inr rfl) (.inr rfl) ?_

theorem railsUp_frame {s : State} (hs : SameBut x s0 s) (x_supply : x .supply = true) (x_sys : x .sys = true) (x_pow : x .pow = true) (x_rings : x .rings = true) (x_time : x .time = true) (x_doors : x .doors = true) (x_can : x .can = true) : SameBut x s0 (railsUp s) := by
  unfold railsUp
  repeat' first
    | with_reducible assumption
    | with_reducible apply draw_frame_proj
    | with_reducible apply State.onPow_frame
    | with_reducible apply State.onSys_frame
    | with_reducible apply State.onTime_frame
    | with_reducible apply refCloses_frame
    | with_reducible apply unseedEdges_frame
    | with_reducible apply State.onSupply_frame
    | with_reducible apply canRestore_frame
    | with_reducible apply wakeRings_frame

end Sys2Proof.Machine
end

