-- ==== Sys2Proof/Laws/FrameSystem.lean ====
section
/-! SUPPORT. The components that an operation may change: the cycle, debug, several modules, power, the recorder, start-up and supply. Each lemma says that its
operation changes no component but those that `x` names. -/

namespace Sys2Proof.Machine

open Sys2Proof

variable {x : Comp → Bool} {s0 : State}

/-! ## Machine/Cycle.lean -/

theorem nextInstant_frame {s : State} (hs : SameBut x s0 s) (x_time : x .time = true) : SameBut x s0 (nextInstant s) := by
  unfold nextInstant
  repeat' first
    | with_reducible assumption
    | with_reducible apply State.onTime_frame
    | (intro)
    | (extract_lets +onlyGivenNames st; have hst : SameBut x s0 st := ?_; clear_value st; revert st; intro st2 hst2)
    | (extract_lets +onlyGivenNames yy; clear_value yy; revert yy; intro y2)
    | with_reducible apply SameBut.ite
    | split

theorem takeInstant_frame {s : State} {a2} (hs : SameBut x s0 s) (x_supply : x .supply = true) (x_host : x .host = true) (x_ctr : x .ctr = true) (x_cairn : x .cairn = true) (x_rings : x .rings = true) (x_time : x .time = true) (x_red : x .red = true) (x_loop : x .loop = true) (x_motion : x .motion = true) (x_field : x .field = true) (x_can : x .can = true) (x_nor : x .nor = true) : SameBut x s0 (takeInstant s a2) := by
  unfold takeInstant
  repeat' first
    | with_reducible assumption
    | with_reducible apply fence_frame
    | with_reducible apply trimTime_frame
    | with_reducible apply finishTakeover_frame
    | with_reducible apply nextInstant_frame
    | with_reducible apply State.onTime_frame
    | with_reducible apply State.each_frame
    | with_reducible apply ringInstant_frame
    | with_reducible apply healRing_frame
    | with_reducible apply instantField_frame
    | with_reducible apply instantEnergy_frame
    | with_reducible apply State.onSupply_frame
    | (intro)
    | split

theorem execInstant_frame {a1} {s : State} (hs : SameBut x s0 s) (x_supply : x .supply = true) (x_host : x .host = true) (x_ctr : x .ctr = true) (x_cairn : x .cairn = true) (x_rings : x .rings = true) (x_time : x .time = true) (x_red : x .red = true) (x_loop : x .loop = true) (x_motion : x .motion = true) (x_field : x .field = true) (x_can : x .can = true) (x_nor : x .nor = true) : Ends (SameBut x s0) (execInstant a1 s) := by
  unfold execInstant
  repeat' first
    | with_reducible assumption
    | with_reducible apply takeInstant_frame
    | with_reducible apply Ends.next
    | with_reducible apply SameBut.ite

theorem weaverWindow_frame {s : State} (hs : SameBut x s0 s) (x_loop : x .loop = true) : SameBut x s0 (weaverWindow s) := by
  unfold weaverWindow
  repeat' first
    | with_reducible assumption
    | with_reducible apply State.each_frame
    | with_reducible apply State.onWeaver_frame
    | (intro)
    | with_reducible apply SameBut.ite
    | split

theorem runAxes_frame {s : State} (hs : SameBut x s0 s) (x_ctr : x .ctr = true) (x_cairn : x .cairn = true) (x_loop : x .loop = true) : SameBut x s0 (runAxes s) := by
  unfold runAxes
  repeat' first
    | with_reducible assumption
    | with_reducible apply State.onLoop_frame
    | with_reducible apply State.each_frame
    | with_reducible apply axisProgram_frame
    | (intro)
    | (extract_lets +onlyGivenNames st; have hst : SameBut x s0 st := ?_; clear_value st; revert st; intro st2 hst2)
    | (extract_lets +onlyGivenNames yy; clear_value yy; revert yy; intro y2)
    | with_reducible apply SameBut.ite
    | split

theorem endWindow_frame {s : State} (hs : SameBut x s0 s) (x_loop : x .loop = true) : SameBut x s0 (endWindow s) := by
  unfold endWindow
  repeat' first
    | with_reducible assumption
    | with_reducible apply State.onLoop_frame
    | (intro)
    | with_reducible apply SameBut.ite
    | split

theorem execWindowOpen_frame {s : State} (hs : SameBut x s0 s) (x_ctr : x .ctr = true) (x_cairn : x .cairn = true) (x_rings : x .rings = true) (x_loop : x .loop = true) (x_doors : x .doors = true) : Ends (SameBut x s0) (execWindowOpen s) := by
  unfold execWindowOpen
  repeat' first
    | with_reducible assumption
    | with_reducible apply State.each_frame
    | with_reducible apply freezeRing_frame
    | with_reducible apply takeDoorImages_frame
    | with_reducible apply endWindow_frame
    | with_reducible apply captureWindow_frame
    | with_reducible apply runAxes_frame
    | with_reducible apply weaverWindow_frame
    | (intro)
    | (extract_lets +onlyGivenNames st; have hst : SameBut x s0 st := ?_; clear_value st; revert st; intro st2 hst2)
    | (extract_lets +onlyGivenNames yy; clear_value yy; revert yy; intro y2)
    | with_reducible apply Ends.next
    | (dsimp -zeta only [st]; clear st)
    | with_reducible apply SameBut.ite
    | split

theorem slotMissEvent_frame {s : State} {a2} (hs : SameBut x s0 s) (x_ctr : x .ctr = true) (x_cairn : x .cairn = true) (x_loop : x .loop = true) : SameBut x s0 (slotMissEvent s a2) := by
  unfold slotMissEvent
  repeat' first
    | with_reducible assumption
    | with_reducible apply recordOnly_frame
    | with_reducible apply activate_frame
    | with_reducible apply State.onAxis_frame
    | (intro)
    | (extract_lets +onlyGivenNames st; have hst : SameBut x s0 st := ?_; clear_value st; revert st; intro st2 hst2)
    | (extract_lets +onlyGivenNames yy; clear_value yy; revert yy; intro y2)
    | (dsimp -zeta only [st]; clear st)
    | with_reducible apply SameBut.ite
    | split

theorem execSlotMiss_frame {a1} {a2} {s : State} (hs : SameBut x s0 s) (x_ctr : x .ctr = true) (x_cairn : x .cairn = true) (x_rings : x .rings = true) (x_red : x .red = true) (x_loop : x .loop = true) (x_safety : x .safety = true) : Ends (SameBut x s0) (execSlotMiss a1 a2 s) := by
  unfold execSlotMiss
  repeat' first
    | with_reducible assumption
    | with_reducible apply bump_frame
    | with_reducible apply State.onAxis_frame
    | with_reducible apply slotMissEvent_frame
    | with_reducible apply State.onWeaver_frame
    | with_reducible apply weaverFault_frame
    | (intro)
    | (extract_lets +onlyGivenNames st; have hst : SameBut x s0 st := ?_; clear_value st; revert st; intro st2 hst2)
    | (extract_lets +onlyGivenNames yy; clear_value yy; revert yy; intro y2)
    | with_reducible apply Ends.next
    | (dsimp -zeta only [st]; clear st)
    | with_reducible apply SameBut.ite
    | split

theorem latchRelease_frame {s : State} (hs : SameBut x s0 s) (x_loop : x .loop = true) : SameBut x s0 (latchRelease s) := by
  unfold latchRelease
  repeat' first
    | with_reducible assumption
    | with_reducible apply State.onLoop_frame
    | (intro)
    | with_reducible apply SameBut.ite
    | split

theorem carAxesOff_frame {s : State} (hs : SameBut x s0 s) (x_ctr : x .ctr = true) (x_cairn : x .cairn = true) (x_loop : x .loop = true) (x_motion : x .motion = true) : SameBut x s0 (carAxesOff s) := by
  unfold carAxesOff
  repeat' first
    | with_reducible assumption
    | with_reducible apply State.each_frame
    | with_reducible apply State.onCar_frame
    | with_reducible apply disableAxis_frame
    | (intro)
    | with_reducible apply SameBut.ite

theorem safetyTripCar_frame {s : State} {a2} (hs : SameBut x s0 s) (x_host : x .host = true) (x_ctr : x .ctr = true) (x_cairn : x .cairn = true) (x_motion : x .motion = true) (x_disp : x .disp = true) : SameBut x s0 (safetyTripCar s a2) := by
  unfold safetyTripCar
  repeat' first
    | with_reducible assumption
    | with_reducible apply tripCar_frame
    | (intro)
    | (extract_lets +onlyGivenNames yy; clear_value yy; revert yy; intro y2)
    | with_reducible apply SameBut.ite
    | split

theorem ss1Car_frame {s : State} {a2} (hs : SameBut x s0 s) (x_motion : x .motion = true) : SameBut x s0 (ss1Car s a2) := by
  unfold ss1Car
  repeat' first
    | with_reducible assumption
    | with_reducible apply State.onCar_frame
    | (extract_lets +onlyGivenNames yy; clear_value yy; revert yy; intro y2)
    | with_reducible apply SameBut.ite

theorem safetyPublish_frame {s : State} (hs : SameBut x s0 s) (x_host : x .host = true) (x_ctr : x .ctr = true) (x_cairn : x .cairn = true) (x_loop : x .loop = true) (x_motion : x .motion = true) (x_disp : x .disp = true) (x_safety : x .safety = true) : SameBut x s0 (safetyPublish s) := by
  unfold safetyPublish
  repeat' first
    | with_reducible assumption
    | with_reducible apply ss1Car_frame
    | with_reducible apply publishSafety_frame
    | with_reducible apply State.each_frame
    | with_reducible apply disableAxis_frame
    | with_reducible apply safetyTripCar_frame
    | with_reducible apply State.onShaft_frame
    | with_reducible apply report_frame
    | (intro)
    | (extract_lets +onlyGivenNames st; have hst : SameBut x s0 st := ?_; clear_value st; revert st; intro st2 hst2)
    | (extract_lets +onlyGivenNames yy; clear_value yy; revert yy; intro y2)
    | (dsimp -zeta only [st]; clear st)
    | with_reducible apply SameBut.ite

theorem takeSnaps_frame {s : State} (hs : SameBut x s0 s) (x_red : x .red = true) (x_loop : x .loop = true) (x_motion : x .motion = true) : SameBut x s0 (takeSnaps s) := by
  unfold takeSnaps
  repeat' first
    | with_reducible assumption
    | with_reducible apply State.onLoop_frame
    | with_reducible apply State.each_frame
    | with_reducible apply State.onCar_frame
    | with_reducible apply redSnap_frame
    | with_reducible apply State.onShaft_frame
    | (intro)
    | (extract_lets +onlyGivenNames st; have hst : SameBut x s0 st := ?_; clear_value st; revert st; intro st2 hst2)
    | (extract_lets +onlyGivenNames yy; clear_value yy; revert yy; intro y2)
    | (dsimp -zeta only [st]; clear st)
    | with_reducible apply SameBut.ite
    | split

theorem loadMasters_frame {s : State} {a2} (hs : SameBut x s0 s) (x_ctr : x .ctr = true) (x_cairn : x .cairn = true) (x_loop : x .loop = true) : SameBut x s0 (loadMasters s a2) := by
  unfold loadMasters
  repeat' first
    | with_reducible assumption
    | with_reducible apply State.each_frame
    | with_reducible apply dropCauses_frame
    | with_reducible apply endInjection_frame
    | with_reducible apply State.onAxis_frame
    | with_reducible apply recordOnly_frame
    | (intro)
    | (extract_lets +onlyGivenNames st; have hst : SameBut x s0 st := ?_; clear_value st; revert st; intro st2 hst2)
    | (extract_lets +onlyGivenNames yy; clear_value yy; revert yy; intro y2)
    | (dsimp -zeta only [st]; clear st)
    | with_reducible apply SameBut.ite
    | split

theorem debugReload_frame {s : State} (hs : SameBut x s0 s) (x_host : x .host = true) (x_ctr : x .ctr = true) (x_dbg : x .dbg = true) (x_cairn : x .cairn = true) (x_loop : x .loop = true) : SameBut x s0 (debugReload s) := by
  unfold debugReload
  repeat' first
    | with_reducible assumption
    | with_reducible apply State.onDbg_frame
    | with_reducible apply State.each_frame
    | with_reducible apply loadMasters_frame
    | with_reducible apply ok_frame
    | (intro)
    | (extract_lets +onlyGivenNames st; have hst : SameBut x s0 st := ?_; clear_value st; revert st; intro st2 hst2)
    | (extract_lets +onlyGivenNames yy; clear_value yy; revert yy; intro y2)
    | with_reducible apply SameBut.ite

theorem landEverything_frame {s : State} (hs : SameBut x s0 s) (x_sys : x .sys = true) (x_pow : x .pow = true) (x_host : x .host = true) (x_ctr : x .ctr = true) (x_dbg : x .dbg = true) (x_cairn : x .cairn = true) (x_rings : x .rings = true) (x_time : x .time = true) (x_loop : x .loop = true) (x_motion : x .motion = true) (x_disp : x .disp = true) (x_doors : x .doors = true) (x_field : x .field = true) (x_can : x .can = true) (x_nor : x .nor = true) : SameBut x s0 (landEverything s) := by
  unfold landEverything
  repeat' first
    | with_reducible assumption
    | with_reducible apply applyMotion_frame
    | with_reducible apply SameBut.ite
    | with_reducible apply landRings_frame
    | with_reducible apply landAll_frame
    | with_reducible apply State.each_frame
    | with_reducible apply landShaft_frame
    | with_reducible apply landTrace_frame
    | with_reducible apply landCounters_frame
    | with_reducible apply landIslands_frame
    | with_reducible apply landLevel_frame
    | with_reducible apply landCan_frame
    | with_reducible apply landField_frame
    | with_reducible apply landDoors_frame
    | (intro)

theorem sendRelease_frame {s : State} (hs : SameBut x s0 s) (x_host : x .host = true) (x_ctr : x .ctr = true) (x_rings : x .rings = true) (x_multi : x .multi = true) (x_red : x .red = true) : SameBut x s0 (sendRelease s) := by
  unfold sendRelease
  repeat' first
    | with_reducible assumption
    | with_reducible apply sendRecords_frame
    | with_reducible apply sendHeartbeats_frame
    | with_reducible apply ringRelease_frame
    | with_reducible apply guardRing_frame
    | with_reducible apply State.each_frame
    | (intro)
    | (extract_lets +onlyGivenNames st; have hst : SameBut x s0 st := ?_; clear_value st; revert st; intro st2 hst2)
    | (extract_lets +onlyGivenNames yy; clear_value yy; revert yy; intro y2)
    | with_reducible apply SameBut.ite
    | split

theorem journalCycle_frame {s : State} (hs : SameBut x s0 s) (x_red : x .red = true) : SameBut x s0 (journalCycle s) := by
  unfold journalCycle
  repeat' first
    | with_reducible assumption
    | with_reducible apply draw_frame_proj
    | with_reducible apply State.onRed_frame
    | with_reducible apply SameBut.ite

theorem weaverTicks_frame {s : State} {s2 : State} (hs : SameBut x s0 s) (hs2 : SameBut x s0 s2) (x_loop : x .loop = true) : SameBut x s0 (weaverTicks s s2) := by
  unfold weaverTicks
  repeat' first
    | with_reducible assumption
    | with_reducible apply draw_frame_proj
    | with_reducible apply State.each_frame
    | with_reducible apply State.onWeaver_frame
    | with_reducible apply foldl_frame
    | with_reducible apply foldl_frame_fst
    | (intro)
    | (extract_lets +onlyGivenNames st; have hst : SameBut x s0 st := ?_; clear_value st; revert st; intro st2 hst2)
    | (extract_lets +onlyGivenNames yy; clear_value yy; revert yy; intro y2)
    | (dsimp -zeta only [st]; clear st)
    | with_reducible apply SameBut.ite
    | split

theorem takeRelease_frame {s : State} (hs : SameBut x s0 s) (x_sys : x .sys = true) (x_pow : x .pow = true) (x_host : x .host = true) (x_ctr : x .ctr = true) (x_dbg : x .dbg = true) (x_cairn : x .cairn = true) (x_rings : x .rings = true) (x_time : x .time = true) (x_multi : x .multi = true) (x_red : x .red = true) (x_loop : x .loop = true) (x_motion : x .motion = true) (x_disp : x .disp = true) (x_doors : x .doors = true) (x_safety : x .safety = true) (x_field : x .field = true) (x_can : x .can = true) (x_nor : x .nor = true) : SameBut x s0 (takeRelease s) := by
  unfold takeRelease
  repeat' first
    | with_reducible assumption
    | with_reducible apply weaverTicks_frame
    | with_reducible apply runCars_frame
    | with_reducible apply landEverything_frame
    | with_reducible apply carAxesOff_frame
    | with_reducible apply latchRelease_frame
    | with_reducible apply takeSnaps_frame
    | with_reducible apply safetyPublish_frame
    | with_reducible apply debugReload_frame
    | with_reducible apply journalCycle_frame
    | with_reducible apply sendRelease_frame
    | with_reducible apply traceRowCopy_frame
    | with_reducible apply State.onTime_frame
    | (intro)
    | (extract_lets +onlyGivenNames st; have hst : SameBut x s0 st := ?_; clear_value st; revert st; intro st2 hst2)
    | (extract_lets +onlyGivenNames yy; clear_value yy; revert yy; intro y2)
    | (dsimp -zeta only [st]; clear st)
    | with_reducible apply SameBut.ite
    | split

theorem execReleasePhase_frame {s : State} (hs : SameBut x s0 s) (x_sys : x .sys = true) (x_pow : x .pow = true) (x_host : x .host = true) (x_ctr : x .ctr = true) (x_dbg : x .dbg = true) (x_cairn : x .cairn = true) (x_rings : x .rings = true) (x_time : x .time = true) (x_multi : x .multi = true) (x_red : x .red = true) (x_loop : x .loop = true) (x_motion : x .motion = true) (x_disp : x .disp = true) (x_doors : x .doors = true) (x_safety : x .safety = true) (x_field : x .field = true) (x_can : x .can = true) (x_nor : x .nor = true) : Ends (SameBut x s0) (execReleasePhase s) := by
  unfold execReleasePhase
  repeat' first
    | with_reducible assumption
    | with_reducible apply takeRelease_frame
    | with_reducible apply Ends.next
    | with_reducible apply SameBut.ite

/-! ## Machine/Debug.lean -/

theorem execDebugStatus_frame {a1} {s : State} (hs : SameBut x s0 s) (x_host : x .host = true) (x_ctr : x .ctr = true) : Ends (SameBut x s0) (execDebugStatus a1 s) := by
  unfold execDebugStatus
  repeat' first
    | with_reducible assumption
    | with_reducible apply serve_frame
    | with_reducible apply ok_frame
    | (intro)
    | with_reducible apply Ends.next

theorem authDenied_frame {s : State} {a2} (hs : SameBut x s0 s) (x_host : x .host = true) (x_ctr : x .ctr = true) (x_dbg : x .dbg = true) (x_cairn : x .cairn = true) : SameBut x s0 (authDenied s a2) := by
  unfold authDenied
  repeat' first
    | with_reducible assumption
    | with_reducible apply State.onDbg_frame
    | with_reducible apply dbgEvent_frame
    | with_reducible apply denied_frame
    | with_reducible apply SameBut.ite

theorem openDebug_frame {s : State} {a2} {a3} (hs : SameBut x s0 s) (x_host : x .host = true) (x_ctr : x .ctr = true) (x_dbg : x .dbg = true) (x_cairn : x .cairn = true) (x_safety : x .safety = true) : SameBut x s0 (openDebug s a2 a3) := by
  unfold openDebug
  repeat' first
    | with_reducible assumption
    | with_reducible apply noteClamps_frame
    | with_reducible apply State.onDbg_frame
    | with_reducible apply dbgEvent_frame
    | with_reducible apply tripModule_frame
    | with_reducible apply ok_frame
    | with_reducible apply SameBut.ite

theorem eraseReturned_frame {s : State} (hs : SameBut x s0 s) (x_sys : x .sys = true) (x_time : x .time = true) (x_safety : x .safety = true) (x_field : x .field = true) (x_can : x .can = true) (x_nor : x .nor = true) : SameBut x s0 (eraseReturned s) := by
  unfold eraseReturned
  repeat' first
    | with_reducible assumption
    | with_reducible apply setImg_frame
    | with_reducible apply State.onField_frame
    | with_reducible apply State.onSafety_frame
    | with_reducible apply State.onTime_frame
    | with_reducible apply State.onCan_frame
    | (intro)
    | (extract_lets +onlyGivenNames st; have hst : SameBut x s0 st := ?_; clear_value st; revert st; intro st2 hst2)
    | (extract_lets +onlyGivenNames yy; clear_value yy; revert yy; intro y2)
    | with_reducible apply SameBut.ite
    | split
    | with_reducible refine SameBut.literal rfl (.inr rfl) (.inr rfl) (.inr rfl) (.inr rfl) (.inr rfl) (.inr rfl) (.inr rfl) (.inr rfl) (.inr rfl) (.inr rfl) (.inr rfl) (.inr rfl) (.inr rfl) (.inr rfl) (.inr rfl) (.inr rfl) (.inr rfl) (.inr rfl) (.inr rfl) (.inl x_nor) ?_

theorem fuseKey_frame {s : State} {a2} {a3} {a4} (hs : SameBut x s0 s) (x_sys : x .sys = true) : SameBut x s0 (fuseKey s a2 a3 a4) := by
  unfold fuseKey
  repeat' first
    | with_reducible assumption
    | with_reducible apply State.onSys_frame

theorem changeLifecycle_frame {s : State} {a2} {a3} (hs : SameBut x s0 s) (x_supply : x .supply = true) (x_sys : x .sys = true) (x_pow : x .pow = true) (x_host : x .host = true) (x_ctr : x .ctr = true) (x_dbg : x .dbg = true) (x_cairn : x .cairn = true) (x_rings : x .rings = true) (x_links : x .links = true) (x_time : x .time = true) (x_multi : x .multi = true) (x_red : x .red = true) (x_loop : x .loop = true) (x_motion : x .motion = true) (x_disp : x .disp = true) (x_doors : x .doors = true) (x_safety : x .safety = true) (x_field : x .field = true) (x_can : x .can = true) (x_nor : x .nor = true) : SameBut x s0 (changeLifecycle s a2 a3) := by
  unfold changeLifecycle
  repeat' first
    | with_reducible assumption
    | with_reducible apply fuseKey_frame
    | with_reducible apply eraseReturned_frame
    | with_reducible apply debugReset_frame
    | with_reducible apply State.onSys_frame
    | split

theorem execDebugAuth_frame {a1} {s : State} (hs : SameBut x s0 s) (x_supply : x .supply = true) (x_sys : x .sys = true) (x_pow : x .pow = true) (x_host : x .host = true) (x_ctr : x .ctr = true) (x_dbg : x .dbg = true) (x_cairn : x .cairn = true) (x_rings : x .rings = true) (x_links : x .links = true) (x_time : x .time = true) (x_multi : x .multi = true) (x_red : x .red = true) (x_loop : x .loop = true) (x_motion : x .motion = true) (x_disp : x .disp = true) (x_doors : x .doors = true) (x_safety : x .safety = true) (x_field : x .field = true) (x_can : x .can = true) (x_nor : x .nor = true) : Ends (SameBut x s0) (execDebugAuth a1 s) := by
  unfold execDebugAuth
  repeat' first
    | with_reducible assumption
    | with_reducible apply serve_frame
    | with_reducible apply refused_frame
    | with_reducible apply draw_frame_proj
    | with_reducible apply ok_frame
    | with_reducible apply State.onDbg_frame
    | with_reducible apply authDenied_frame
    | with_reducible apply changeLifecycle_frame
    | with_reducible apply openDebug_frame
    | (intro)
    | (extract_lets +onlyGivenNames st; have hst : SameBut x s0 st := ?_; clear_value st; revert st; intro st2 hst2)
    | (extract_lets +onlyGivenNames yy; clear_value yy; revert yy; intro y2)
    | with_reducible apply Ends.next
    | with_reducible apply SameBut.ite

theorem execDebugClose_frame {a1} {s : State} (hs : SameBut x s0 s) (x_supply : x .supply = true) (x_sys : x .sys = true) (x_pow : x .pow = true) (x_host : x .host = true) (x_ctr : x .ctr = true) (x_dbg : x .dbg = true) (x_cairn : x .cairn = true) (x_rings : x .rings = true) (x_links : x .links = true) (x_time : x .time = true) (x_multi : x .multi = true) (x_red : x .red = true) (x_loop : x .loop = true) (x_motion : x .motion = true) (x_disp : x .disp = true) (x_doors : x .doors = true) (x_safety : x .safety = true) (x_field : x .field = true) (x_can : x .can = true) (x_nor : x .nor = true) : Ends (SameBut x s0) (execDebugClose a1 s) := by
  unfold execDebugClose
  repeat' first
    | with_reducible assumption
    | with_reducible apply serve_frame
    | with_reducible apply ok_frame
    | with_reducible apply denied_frame
    | with_reducible apply endSession_frame
    | with_reducible apply State.onDbg_frame
    | (intro)
    | (extract_lets +onlyGivenNames st; have hst : SameBut x s0 st := ?_; clear_value st; revert st; intro st2 hst2)
    | with_reducible apply Ends.next
    | with_reducible apply SameBut.ite

theorem execDebugSessionExpiry_frame {s : State} (hs : SameBut x s0 s) (x_supply : x .supply = true) (x_sys : x .sys = true) (x_pow : x .pow = true) (x_host : x .host = true) (x_ctr : x .ctr = true) (x_dbg : x .dbg = true) (x_cairn : x .cairn = true) (x_rings : x .rings = true) (x_links : x .links = true) (x_time : x .time = true) (x_multi : x .multi = true) (x_red : x .red = true) (x_loop : x .loop = true) (x_motion : x .motion = true) (x_disp : x .disp = true) (x_doors : x .doors = true) (x_safety : x .safety = true) (x_field : x .field = true) (x_can : x .can = true) (x_nor : x .nor = true) : Ends (SameBut x s0) (execDebugSessionExpiry s) := by
  unfold execDebugSessionExpiry
  repeat' first
    | with_reducible assumption
    | with_reducible apply endSession_frame
    | with_reducible apply Ends.next

theorem execNonceExpiry_frame {s : State} (hs : SameBut x s0 s) (x_dbg : x .dbg = true) : Ends (SameBut x s0) (execNonceExpiry s) := by
  unfold execNonceExpiry
  repeat' first
    | with_reducible assumption
    | with_reducible apply State.onDbg_frame
    | with_reducible apply Ends.next

theorem execAuthLockoutEnd_frame {s : State} (hs : SameBut x s0 s) (x_dbg : x .dbg = true) : Ends (SameBut x s0) (execAuthLockoutEnd s) := by
  unfold execAuthLockoutEnd
  repeat' first
    | with_reducible assumption
    | with_reducible apply State.onDbg_frame
    | with_reducible apply Ends.next

theorem execJtagInstruction_frame {a1} {s : State} (hs : SameBut x s0 s) (x_sys : x .sys = true) : Ends (SameBut x s0) (execJtagInstruction a1 s) := by
  unfold execJtagInstruction
  repeat' first
    | with_reducible assumption
    | with_reducible apply State.onSys_frame
    | (intro)
    | (extract_lets +onlyGivenNames st; have hst : SameBut x s0 st := ?_; clear_value st; revert st; intro st2 hst2)
    | (extract_lets +onlyGivenNames yy; clear_value yy; revert yy; intro y2)
    | with_reducible apply Ends.next
    | (dsimp -zeta only [st]; clear st)
    | with_reducible apply SameBut.ite
    | split

/-! ## Machine/Multi.lean -/

theorem execSideRecordFrameRx_frame {a1} {a2} {a3} {a4} {a5} {s : State} (hs : SameBut x s0 s) (x_ctr : x .ctr = true) (x_cairn : x .cairn = true) (x_links : x .links = true) (x_time : x .time = true) (x_multi : x .multi = true) (x_red : x .red = true) (x_loop : x .loop = true) (x_safety : x .safety = true) (x_can : x .can = true) : Ends (SameBut x s0) (execSideRecordFrameRx a1 a2 a3 a4 a5 s) := by
  unfold execSideRecordFrameRx
  repeat' first
    | with_reducible assumption
    | with_reducible apply State.each_frame
    | with_reducible apply State.onLink_frame
    | with_reducible apply takeRecord_frame
    | (intro)
    | with_reducible apply Ends.next
    | with_reducible apply SameBut.ite

theorem execBulkFrameRx_frame {a1} {a2} {s : State} (hs : SameBut x s0 s) (x_links : x .links = true) : Ends (SameBut x s0) (execBulkFrameRx a1 a2 s) := by
  unfold execBulkFrameRx
  repeat' first
    | with_reducible assumption
    | with_reducible apply State.onLink_frame
    | with_reducible apply Ends.next
    | with_reducible apply SameBut.ite

theorem execTrunkSlotRx_frame {a1} {a2} {a3} {s : State} (hs : SameBut x s0 s) (x_ctr : x .ctr = true) (x_cairn : x .cairn = true) (x_links : x .links = true) (x_time : x .time = true) (x_multi : x .multi = true) (x_red : x .red = true) (x_loop : x .loop = true) (x_safety : x .safety = true) (x_can : x .can = true) : Ends (SameBut x s0) (execTrunkSlotRx a1 a2 a3 s) := by
  unfold execTrunkSlotRx
  repeat' first
    | with_reducible assumption
    | with_reducible apply State.each_frame
    | with_reducible apply takeRecord_frame
    | (intro)
    | with_reducible apply Ends.next
    | with_reducible apply SameBut.ite

theorem execPtpMessage_frame {a1} {s : State} (hs : SameBut x s0 s) (x_ctr : x .ctr = true) (x_cairn : x .cairn = true) (x_time : x .time = true) : Ends (SameBut x s0) (execPtpMessage a1 s) := by
  unfold execPtpMessage
  repeat' first
    | with_reducible assumption
    | with_reducible apply setTime_frame
    | with_reducible apply learnUtc_frame
    | with_reducible apply addLeap_frame
    | (extract_lets +onlyGivenNames st; have hst : SameBut x s0 st := ?_; clear_value st; revert st; intro st2 hst2)
    | with_reducible apply Ends.next
    | (dsimp -zeta only [st]; clear st)
    | with_reducible apply SameBut.ite
    | split

theorem execPtpUnavailable_frame {s : State} (hs : SameBut x s0 s) (x_ctr : x .ctr = true) (x_cairn : x .cairn = true) (x_time : x .time = true) : Ends (SameBut x s0) (execPtpUnavailable s) := by
  unfold execPtpUnavailable
  repeat' first
    | with_reducible assumption
    | with_reducible apply setTime_frame
    | with_reducible apply Ends.next
    | with_reducible apply SameBut.ite

theorem execTimeSourceLoss_frame {s : State} (hs : SameBut x s0 s) (x_ctr : x .ctr = true) (x_cairn : x .cairn = true) (x_time : x .time = true) : Ends (SameBut x s0) (execTimeSourceLoss s) := by
  unfold execTimeSourceLoss
  repeat' first
    | with_reducible assumption
    | with_reducible apply chooseSource_frame
    | with_reducible apply State.onTime_frame
    | with_reducible apply Ends.next
    | with_reducible apply SameBut.ite

theorem execBackupMasterTakeover_frame {s : State} (hs : SameBut x s0 s) (x_ctr : x .ctr = true) (x_cairn : x .cairn = true) (x_time : x .time = true) : Ends (SameBut x s0) (execBackupMasterTakeover s) := by
  unfold execBackupMasterTakeover
  repeat' first
    | with_reducible assumption
    | with_reducible apply actMaster_frame
    | (extract_lets +onlyGivenNames yy; clear_value yy; revert yy; intro y2)
    | with_reducible apply Ends.next
    | with_reducible apply SameBut.ite

theorem execZoneDownMissing_frame {a1} {s : State} (hs : SameBut x s0 s) (x_multi : x .multi = true) (x_loop : x .loop = true) : Ends (SameBut x s0) (execZoneDownMissing a1 s) := by
  unfold execZoneDownMissing
  repeat' first
    | with_reducible assumption
    | with_reducible apply State.onMulti_frame
    | with_reducible apply State.onAxis_frame
    | (extract_lets +onlyGivenNames st; have hst : SameBut x s0 st := ?_; clear_value st; revert st; intro st2 hst2)
    | (extract_lets +onlyGivenNames yy; clear_value yy; revert yy; intro y2)
    | with_reducible apply Ends.next
    | with_reducible apply SameBut.ite

theorem execZoneUpMissing_frame {a1} {a2} {s : State} (hs : SameBut x s0 s) (x_multi : x .multi = true) : Ends (SameBut x s0) (execZoneUpMissing a1 a2 s) := by
  unfold execZoneUpMissing
  repeat' first
    | with_reducible assumption
    | with_reducible apply onZoneUp_frame
    | with_reducible apply Ends.next
    | with_reducible apply SameBut.ite

theorem execSideLinkDown_frame {a1} {s : State} (hs : SameBut x s0 s) (x_ctr : x .ctr = true) (x_cairn : x .cairn = true) (x_links : x .links = true) (x_time : x .time = true) : Ends (SameBut x s0) (execSideLinkDown a1 s) := by
  unfold execSideLinkDown
  repeat' first
    | with_reducible assumption
    | with_reducible apply bump_frame
    | with_reducible apply State.onLink_frame
    | with_reducible apply State.onTime_frame
    | with_reducible apply chooseSource_frame
    | (extract_lets +onlyGivenNames st; have hst : SameBut x s0 st := ?_; clear_value st; revert st; intro st2 hst2)
    | with_reducible apply Ends.next
    | with_reducible apply SameBut.ite

/-! ## Machine/Power.lean -/

theorem execPowerStatus_frame {a1} {s : State} (hs : SameBut x s0 s) (x_host : x .host = true) (x_ctr : x .ctr = true) : Ends (SameBut x s0) (execPowerStatus a1 s) := by
  unfold execPowerStatus
  repeat' first
    | with_reducible assumption
    | with_reducible apply serve_frame
    | with_reducible apply ok_frame
    | (intro)
    | with_reducible apply Ends.next

theorem execPowerLevelRequest_frame {a1} {s : State} (hs : SameBut x s0 s) (x_pow : x .pow = true) (x_host : x .host = true) (x_ctr : x .ctr = true) (x_cairn : x .cairn = true) : Ends (SameBut x s0) (execPowerLevelRequest a1 s) := by
  unfold execPowerLevelRequest
  repeat' first
    | with_reducible assumption
    | with_reducible apply serve_frame
    | with_reducible apply State.onPow_frame
    | with_reducible apply runLevel_frame
    | (intro)
    | with_reducible apply Ends.next
    | with_reducible apply SameBut.ite

theorem sleepIsland_frame {s : State} {a2} {a3} {a4} (hs : SameBut x s0 s) (x_pow : x .pow = true) (x_host : x .host = true) (x_ctr : x .ctr = true) (x_cairn : x .cairn = true) : SameBut x s0 (sleepIsland s a2 a3 a4) := by
  unfold sleepIsland
  repeat' first
    | with_reducible assumption
    | with_reducible apply ok_frame
    | with_reducible apply powRefused_frame
    | with_reducible apply State.onPow_frame
    | with_reducible apply SameBut.ite

theorem sleepModule_frame {s : State} {a2} (hs : SameBut x s0 s) (x_pow : x .pow = true) (x_host : x .host = true) (x_ctr : x .ctr = true) (x_cairn : x .cairn = true) (x_field : x .field = true) (x_can : x .can = true) (x_nor : x .nor = true) : SameBut x s0 (sleepModule s a2) := by
  unfold sleepModule
  repeat' first
    | with_reducible assumption
    | with_reducible apply ok_frame
    | with_reducible apply powRefused_frame
    | with_reducible apply s3Stage1_frame
    | with_reducible apply SameBut.ite
    | split

theorem execPowerSleepRequest_frame {a1} {s : State} (hs : SameBut x s0 s) (x_pow : x .pow = true) (x_host : x .host = true) (x_ctr : x .ctr = true) (x_cairn : x .cairn = true) (x_field : x .field = true) (x_can : x .can = true) (x_nor : x .nor = true) : Ends (SameBut x s0) (execPowerSleepRequest a1 s) := by
  unfold execPowerSleepRequest
  repeat' first
    | with_reducible assumption
    | with_reducible apply serve_frame
    | with_reducible apply sleepIsland_frame
    | with_reducible apply sleepModule_frame
    | (intro)
    | (extract_lets +onlyGivenNames yy; clear_value yy; revert yy; intro y2)
    | with_reducible apply Ends.next
    | split

theorem execPmbusAck_frame {a1} {s : State} (hs : SameBut x s0 s) (x_pow : x .pow = true) (x_host : x .host = true) (x_ctr : x .ctr = true) (x_cairn : x .cairn = true) : Ends (SameBut x s0) (execPmbusAck a1 s) := by
  unfold execPmbusAck
  repeat' first
    | with_reducible assumption
    | with_reducible apply ackRail_frame
    | with_reducible apply Ends.next

theorem execPmbusTimeout_frame {a1} {s : State} (hs : SameBut x s0 s) (x_pow : x .pow = true) (x_host : x .host = true) (x_ctr : x .ctr = true) (x_cairn : x .cairn = true) : Ends (SameBut x s0) (execPmbusTimeout a1 s) := by
  unfold execPmbusTimeout
  repeat' first
    | with_reducible assumption
    | with_reducible apply railTimeout_frame
    | with_reducible apply Ends.next

theorem execS3StageEnd_frame {a1} {s : State} (hs : SameBut x s0 s) (x_supply : x .supply = true) (x_sys : x .sys = true) (x_pow : x .pow = true) (x_host : x .host = true) (x_ctr : x .ctr = true) (x_dbg : x .dbg = true) (x_cairn : x .cairn = true) (x_rings : x .rings = true) (x_links : x .links = true) (x_time : x .time = true) (x_multi : x .multi = true) (x_red : x .red = true) (x_loop : x .loop = true) (x_motion : x .motion = true) (x_disp : x .disp = true) (x_doors : x .doors = true) (x_safety : x .safety = true) (x_field : x .field = true) (x_can : x .can = true) (x_nor : x .nor = true) : Ends (SameBut x s0) (execS3StageEnd a1 s) := by
  unfold execS3StageEnd
  repeat' first
    | with_reducible assumption
    | with_reducible apply endStage_frame
    | with_reducible apply Ends.next
    | with_reducible apply SameBut.ite

theorem execS3Wake_frame {a1} {s : State} (hs : SameBut x s0 s) (x_pow : x .pow = true) (x_can : x .can = true) : Ends (SameBut x s0) (execS3Wake a1 s) := by
  unfold execS3Wake
  repeat' first
    | with_reducible assumption
    | with_reducible apply s3Wake_frame
    | with_reducible apply State.onCh_frame
    | (intro)
    | with_reducible apply Ends.next
    | with_reducible apply SameBut.ite
    | split

theorem execS3RailsUp_frame {a1} {s : State} (hs : SameBut x s0 s) (x_supply : x .supply = true) (x_sys : x .sys = true) (x_pow : x .pow = true) (x_host : x .host = true) (x_ctr : x .ctr = true) (x_dbg : x .dbg = true) (x_cairn : x .cairn = true) (x_rings : x .rings = true) (x_links : x .links = true) (x_time : x .time = true) (x_multi : x .multi = true) (x_red : x .red = true) (x_loop : x .loop = true) (x_motion : x .motion = true) (x_disp : x .disp = true) (x_doors : x .doors = true) (x_safety : x .safety = true) (x_field : x .field = true) (x_can : x .can = true) (x_nor : x .nor = true) : Ends (SameBut x s0) (execS3RailsUp a1 s) := by
  unfold execS3RailsUp
  repeat' first
    | with_reducible assumption
    | with_reducible apply railsUp_frame
    | with_reducible apply ctlReset_frame
    | with_reducible apply Ends.next
    | with_reducible apply SameBut.ite

theorem execS3ReturnCreelOpen_frame {a1} {s : State} (hs : SameBut x s0 s) (x_sys : x .sys = true) (x_pow : x .pow = true) (x_ctr : x .ctr = true) (x_cairn : x .cairn = true) : Ends (SameBut x s0) (execS3ReturnCreelOpen a1 s) := by
  unfold execS3ReturnCreelOpen
  repeat' first
    | with_reducible assumption
    | with_reducible apply draw_frame_proj
    | with_reducible apply State.onSys_frame
    | with_reducible apply setStage_frame
    | with_reducible apply State.onPow_frame
    | with_reducible apply State.each_frame
    | with_reducible apply powEvent_frame
    | with_reducible apply raise_frame
    | (intro)
    | with_reducible apply Ends.next
    | with_reducible apply SameBut.ite

/-! ## Machine/Recorder.lean -/

theorem execRecStatus_frame {a1} {s : State} (hs : SameBut x s0 s) (x_host : x .host = true) (x_ctr : x .ctr = true) : Ends (SameBut x s0) (execRecStatus a1 s) := by
  unfold execRecStatus
  repeat' first
    | with_reducible assumption
    | with_reducible apply serve_frame
    | with_reducible apply ok_frame
    | (intro)
    | with_reducible apply Ends.next

theorem execStoreHealth_frame {a1} {s : State} (hs : SameBut x s0 s) (x_host : x .host = true) (x_ctr : x .ctr = true) : Ends (SameBut x s0) (execStoreHealth a1 s) := by
  unfold execStoreHealth
  repeat' first
    | with_reducible assumption
    | with_reducible apply serve_frame
    | with_reducible apply ok_frame
    | (intro)
    | (extract_lets +onlyGivenNames yy; clear_value yy; revert yy; intro y2)
    | with_reducible apply Ends.next

theorem setTrigger_frame {s : State} {a2} (hs : SameBut x s0 s) (x_host : x .host = true) (x_ctr : x .ctr = true) (x_cairn : x .cairn = true) (x_nor : x .nor = true) : SameBut x s0 (setTrigger s a2) := by
  unfold setTrigger
  repeat' first
    | with_reducible assumption
    | with_reducible apply refused_frame
    | with_reducible apply store_frame
    | with_reducible apply State.onRec_frame
    | with_reducible apply ok_frame
    | (extract_lets +onlyGivenNames st; have hst : SameBut x s0 st := ?_; clear_value st; revert st; intro st2 hst2)
    | (extract_lets +onlyGivenNames yy; clear_value yy; revert yy; intro y2)
    | with_reducible apply SameBut.ite

theorem setTrace_frame {s : State} {a2} (hs : SameBut x s0 s) (x_host : x .host = true) (x_ctr : x .ctr = true) (x_cairn : x .cairn = true) : SameBut x s0 (setTrace s a2) := by
  unfold setTrace
  repeat' first
    | with_reducible assumption
    | with_reducible apply refused_frame
    | with_reducible apply State.onRec_frame
    | (extract_lets +onlyGivenNames yy; clear_value yy; revert yy; intro y2)
    | with_reducible apply SameBut.ite

theorem execRecTriggerSet_frame {a1} {s : State} (hs : SameBut x s0 s) (x_host : x .host = true) (x_ctr : x .ctr = true) (x_cairn : x .cairn = true) (x_nor : x .nor = true) : Ends (SameBut x s0) (execRecTriggerSet a1 s) := by
  unfold execRecTriggerSet
  repeat' first
    | with_reducible assumption
    | with_reducible apply serve_frame
    | with_reducible apply setTrigger_frame
    | with_reducible apply setTrace_frame
    | (intro)
    | (extract_lets +onlyGivenNames yy; clear_value yy; revert yy; intro y2)
    | with_reducible apply Ends.next
    | with_reducible apply SameBut.ite

theorem stageWindow_frame {s : State} {a2} {a3} {a4} {a5} {a6} {a7} (hs : SameBut x s0 s) (x_host : x .host = true) (x_ctr : x .ctr = true) : SameBut x s0 (stageWindow s a2 a3 a4 a5 a6 a7) := by
  unfold stageWindow
  repeat' first
    | with_reducible assumption
    | with_reducible apply State.onPstat_frame
    | with_reducible apply ok_frame

theorem execRecCursorSet_frame {a1} {s : State} (hs : SameBut x s0 s) (x_host : x .host = true) (x_ctr : x .ctr = true) : Ends (SameBut x s0) (execRecCursorSet a1 s) := by
  unfold execRecCursorSet
  repeat' first
    | with_reducible assumption
    | with_reducible apply serve_frame
    | with_reducible apply State.onPstat_frame
    | with_reducible apply ok_frame
    | with_reducible apply stageWindow_frame
    | (intro)
    | (extract_lets +onlyGivenNames st; have hst : SameBut x s0 st := ?_; clear_value st; revert st; intro st2 hst2)
    | (extract_lets +onlyGivenNames yy; clear_value yy; revert yy; intro y2)
    | with_reducible apply Ends.next
    | with_reducible apply SameBut.ite

theorem countMemory_frame {s : State} {a2} (hs : SameBut x s0 s) (x_ctr : x .ctr = true) : SameBut x s0 (countMemory s a2) := by
  unfold countMemory
  repeat' first
    | with_reducible assumption
    | with_reducible apply bump_frame
    | (intro)
    | with_reducible apply SameBut.ite
    | split

theorem execRecEventIntake_frame {a1} {a2} {s : State} (hs : SameBut x s0 s) (x_host : x .host = true) (x_ctr : x .ctr = true) (x_dbg : x .dbg = true) (x_cairn : x .cairn = true) : Ends (SameBut x s0) (execRecEventIntake a1 a2 s) := by
  unfold execRecEventIntake
  repeat' first
    | with_reducible assumption
    | with_reducible apply countMemory_frame
    | with_reducible apply raise_frame
    | with_reducible apply takeEvent_frame
    | with_reducible apply State.onRec_frame
    | (intro)
    | (extract_lets +onlyGivenNames st; have hst : SameBut x s0 st := ?_; clear_value st; revert st; intro st2 hst2)
    | (extract_lets +onlyGivenNames yy; clear_value yy; revert yy; intro y2)
    | with_reducible apply Ends.next
    | (dsimp -zeta only [st]; clear st)
    | with_reducible apply SameBut.ite
    | split

theorem execRecSealTimer_frame {s : State} (hs : SameBut x s0 s) (x_cairn : x .cairn = true) : Ends (SameBut x s0) (execRecSealTimer s) := by
  unfold execRecSealTimer
  repeat' first
    | with_reducible assumption
    | with_reducible apply sealOpen_frame
    | with_reducible apply Ends.next

theorem execRecPageSpill_frame {a1} {s : State} (hs : SameBut x s0 s) (x_cairn : x .cairn = true) : Ends (SameBut x s0) (execRecPageSpill a1 s) := by
  unfold execRecPageSpill
  repeat' first
    | with_reducible assumption
    | with_reducible apply spillTrace_frame
    | with_reducible apply spillPage_frame
    | with_reducible apply Ends.next
    | with_reducible apply SameBut.ite

theorem execNvmeFlushTimer_frame {s : State} (hs : SameBut x s0 s) (x_cairn : x .cairn = true) : Ends (SameBut x s0) (execNvmeFlushTimer s) := by
  unfold execNvmeFlushTimer
  repeat' first
    | with_reducible assumption
    | with_reducible apply flushAll_frame
    | with_reducible apply Ends.next

theorem execNvmeFlushDone_frame {a1} {s : State} (hs : SameBut x s0 s) (x_cairn : x .cairn = true) : Ends (SameBut x s0) (execNvmeFlushDone a1 s) := by
  unfold execNvmeFlushDone
  repeat' first
    | with_reducible assumption
    | with_reducible apply State.onRec_frame
    | with_reducible apply State.onDrive_frame
    | (extract_lets +onlyGivenNames yy; clear_value yy; revert yy; intro y2)
    | with_reducible apply Ends.next
    | with_reducible apply SameBut.ite

theorem execNvmeWriteDone_frame {a1} {a2} {a3} {s : State} (hs : SameBut x s0 s) (x_ctr : x .ctr = true) (x_cairn : x .cairn = true) : Ends (SameBut x s0) (execNvmeWriteDone a1 a2 a3 s) := by
  unfold execNvmeWriteDone
  repeat' first
    | with_reducible assumption
    | with_reducible apply timeWrite_frame
    | with_reducible apply State.onDrive_frame
    | with_reducible apply bump_frame
    | with_reducible apply retireStripe_frame
    | (intro)
    | (extract_lets +onlyGivenNames st; have hst : SameBut x s0 st := ?_; clear_value st; revert st; intro st2 hst2)
    | (extract_lets +onlyGivenNames yy; clear_value yy; revert yy; intro y2)
    | with_reducible apply Ends.next
    | (dsimp -zeta only [st]; clear st)
    | with_reducible apply SameBut.ite
    | split

theorem execSmartPoll_frame {a1} {a2} {s : State} (hs : SameBut x s0 s) (x_ctr : x .ctr = true) (x_cairn : x .cairn = true) : Ends (SameBut x s0) (execSmartPoll a1 a2 s) := by
  unfold execSmartPoll
  repeat' first
    | with_reducible assumption
    | with_reducible apply State.onDrive_frame
    | with_reducible apply recEvent_frame
    | with_reducible apply reduceTrace_frame
    | (extract_lets +onlyGivenNames st; have hst : SameBut x s0 st := ?_; clear_value st; revert st; intro st2 hst2)
    | (extract_lets +onlyGivenNames yy; clear_value yy; revert yy; intro y2)
    | with_reducible apply Ends.next
    | (dsimp -zeta only [st]; clear st)
    | with_reducible apply SameBut.ite

theorem execDriveAttach_frame {a1} {a2} {s : State} (hs : SameBut x s0 s) (x_ctr : x .ctr = true) (x_cairn : x .cairn = true) : Ends (SameBut x s0) (execDriveAttach a1 a2 s) := by
  unfold execDriveAttach
  repeat' first
    | with_reducible assumption
    | with_reducible apply State.onRec_frame
    | with_reducible apply State.onDrive_frame
    | with_reducible apply recEvent_frame
    | (extract_lets +onlyGivenNames st; have hst : SameBut x s0 st := ?_; clear_value st; revert st; intro st2 hst2)
    | (extract_lets +onlyGivenNames yy; clear_value yy; revert yy; intro y2)
    | with_reducible apply Ends.next
    | (dsimp -zeta only [st]; clear st)
    | with_reducible apply SameBut.ite

theorem execDriveFail_frame {a1} {a2} {s : State} (hs : SameBut x s0 s) (x_ctr : x .ctr = true) (x_cairn : x .cairn = true) : Ends (SameBut x s0) (execDriveFail a1 a2 s) := by
  unfold execDriveFail
  repeat' first
    | with_reducible assumption
    | with_reducible apply failDrive_frame
    | with_reducible apply Ends.next
    | with_reducible apply SameBut.ite

theorem execMirrorProgram_frame {a1} {a2} {s : State} (hs : SameBut x s0 s) (x_ctr : x .ctr = true) (x_cairn : x .cairn = true) (x_safety : x .safety = true) : Ends (SameBut x s0) (execMirrorProgram a1 a2 s) := by
  unfold execMirrorProgram
  repeat' first
    | with_reducible assumption
    | with_reducible apply programPage_frame
    | with_reducible apply Ends.next

theorem execTraceHoldExpiry_frame {a1} {s : State} (hs : SameBut x s0 s) (x_cairn : x .cairn = true) : Ends (SameBut x s0) (execTraceHoldExpiry a1 s) := by
  unfold execTraceHoldExpiry
  repeat' first
    | with_reducible assumption
    | with_reducible apply State.onRec_frame
    | with_reducible apply Ends.next

/-! ## Machine/Startup.lean -/

theorem reachStage_frame {s : State} {a2} {a3} {a4} (hs : SameBut x s0 s) (x_sys : x .sys = true) : SameBut x s0 (reachStage s a2 a3 a4) := by
  unfold reachStage
  repeat' first
    | with_reducible assumption
    | with_reducible apply draw_frame_proj
    | with_reducible apply setStage_frame

theorem fellBack_frame {s : State} {a2} {a3} (hs : SameBut x s0 s) (x_sys : x .sys = true) (x_ctr : x .ctr = true) (x_cairn : x .cairn = true) : SameBut x s0 (fellBack s a2 a3) := by
  unfold fellBack
  repeat' first
    | with_reducible assumption
    | with_reducible apply recordOnly_frame
    | with_reducible apply State.onSys_frame
    | with_reducible apply SameBut.ite

theorem noteStarted_frame {s : State} {a2} {a3} (hs : SameBut x s0 s) (x_sys : x .sys = true) : SameBut x s0 (noteStarted s a2 a3) := by
  unfold noteStarted
  repeat' first
    | with_reducible assumption
    | with_reducible apply State.onSys_frame

theorem execPowerGood_frame {a1} {a2} {a3} {s : State} (hs : SameBut x s0 s) (x_supply : x .supply = true) (x_sys : x .sys = true) (x_field : x .field = true) : Ends (SameBut x s0) (execPowerGood a1 a2 a3 s) := by
  unfold execPowerGood
  repeat' first
    | with_reducible assumption
    | with_reducible apply State.onSupply_frame
    | with_reducible apply State.onSys_frame
    | with_reducible apply State.onField_frame
    | (extract_lets +onlyGivenNames st; have hst : SameBut x s0 st := ?_; clear_value st; revert st; intro st2 hst2)
    | with_reducible apply Ends.next
    | with_reducible apply SameBut.ite

theorem execMainsInRange_frame {a1} {s : State} (hs : SameBut x s0 s) (x_supply : x .supply = true) : Ends (SameBut x s0) (execMainsInRange a1 s) := by
  unfold execMainsInRange
  repeat' first
    | with_reducible assumption
    | with_reducible apply State.onSupply_frame
    | with_reducible apply Ends.next
    | with_reducible apply SameBut.ite

theorem execScarpResetRelease_frame {s : State} (hs : SameBut x s0 s) (x_sys : x .sys = true) (x_safety : x .safety = true) : Ends (SameBut x s0) (execScarpResetRelease s) := by
  unfold execScarpResetRelease
  repeat' first
    | with_reducible assumption
    | with_reducible apply State.onSafety_frame
    | with_reducible apply State.onSys_frame
    | with_reducible apply Ends.next
    | with_reducible apply SameBut.ite

theorem execControllerResetRelease_frame {s : State} (hs : SameBut x s0 s) (x_sys : x .sys = true) : Ends (SameBut x s0) (execControllerResetRelease s) := by
  unfold execControllerResetRelease
  repeat' first
    | with_reducible assumption
    | with_reducible apply State.onSys_frame
    | with_reducible apply Ends.next
    | with_reducible apply SameBut.ite

theorem trustedRuns_frame {s : State} {a2} {a3} (hs : SameBut x s0 s) (x_sys : x .sys = true) (x_ctr : x .ctr = true) (x_cairn : x .cairn = true) (x_time : x .time = true) : SameBut x s0 (trustedRuns s a2 a3) := by
  unfold trustedRuns
  repeat' first
    | with_reducible assumption
    | with_reducible apply State.onSys_frame
    | with_reducible apply noteStarted_frame
    | with_reducible apply State.onRec_frame
    | with_reducible apply raise_frame
    | with_reducible apply reachStage_frame
    | with_reducible apply fellBack_frame
    | with_reducible apply State.onTime_frame
    | with_reducible apply State.each_frame
    | (intro)
    | (extract_lets +onlyGivenNames st; have hst : SameBut x s0 st := ?_; clear_value st; revert st; intro st2 hst2)
    | (extract_lets +onlyGivenNames yy; clear_value yy; revert yy; intro y2)
    | with_reducible apply SameBut.ite
    | split

theorem execTrustedImageVerified_frame {a1} {s : State} (hs : SameBut x s0 s) (x_sys : x .sys = true) (x_ctr : x .ctr = true) (x_cairn : x .cairn = true) (x_time : x .time = true) (x_can : x .can = true) : Ends (SameBut x s0) (execTrustedImageVerified a1 s) := by
  unfold execTrustedImageVerified
  repeat' first
    | with_reducible assumption
    | with_reducible apply trustedRuns_frame
    | with_reducible apply bootStop_frame
    | with_reducible apply Ends.next
    | with_reducible apply SameBut.ite
    | split

theorem startChannel_frame {s : State} {a2} (hs : SameBut x s0 s) (x_can : x .can = true) : SameBut x s0 (startChannel s a2) := by
  unfold startChannel
  repeat' first
    | with_reducible assumption
    | with_reducible apply draw_frame_proj
    | with_reducible apply State.onCan_frame

theorem execCanStart_frame {s : State} (hs : SameBut x s0 s) (x_can : x .can = true) : Ends (SameBut x s0) (execCanStart s) := by
  unfold execCanStart
  repeat' first
    | with_reducible assumption
    | with_reducible apply State.each_frame
    | with_reducible apply startChannel_frame
    | (intro)
    | with_reducible apply Ends.next
    | with_reducible apply SameBut.ite

theorem takeManifest_frame {s : State} {a2} (hs : SameBut x s0 s) (x_sys : x .sys = true) (x_host : x .host = true) : SameBut x s0 (takeManifest s a2) := by
  unfold takeManifest
  repeat' first
    | with_reducible assumption
    | with_reducible apply State.onSys_frame
    | with_reducible apply State.onHost_frame

theorem lightRings_frame {s : State} (hs : SameBut x s0 s) (x_sys : x .sys = true) (x_rings : x .rings = true) : SameBut x s0 (lightRings s) := by
  unfold lightRings
  repeat' first
    | with_reducible assumption
    | with_reducible apply State.onSys_frame
    | with_reducible apply State.each_frame
    | with_reducible apply State.onRing_frame
    | (intro)

theorem startCore_frame {s : State} (hs : SameBut x s0 s) (x_safety : x .safety = true) : SameBut x s0 (startCore s) := by
  unfold startCore
  repeat' first
    | with_reducible assumption
    | with_reducible apply State.onSafety_frame

theorem applicationRuns_frame {s : State} {a2} {a3} (hs : SameBut x s0 s) (x_supply : x .supply = true) (x_sys : x .sys = true) (x_host : x .host = true) (x_ctr : x .ctr = true) (x_cairn : x .cairn = true) (x_rings : x .rings = true) (x_time : x .time = true) (x_red : x .red = true) (x_loop : x .loop = true) (x_motion : x .motion = true) (x_safety : x .safety = true) (x_field : x .field = true) (x_can : x .can = true) (x_nor : x .nor = true) : SameBut x s0 (applicationRuns s a2 a3) := by
  unfold applicationRuns
  repeat' first
    | with_reducible assumption
    | with_reducible apply noteStarted_frame
    | with_reducible apply fellBack_frame
    | with_reducible apply State.onSys_frame
    | with_reducible apply startCore_frame
    | with_reducible apply lightRings_frame
    | with_reducible apply State.onRed_frame
    | with_reducible apply actMaster_frame
    | with_reducible apply draw_frame_proj
    | with_reducible apply State.onTime_frame
    | with_reducible apply takeInstant_frame
    | with_reducible apply reachStage_frame
    | with_reducible apply State.onCan_frame
    | with_reducible apply SameBut.ite

theorem execAppStart_frame {a1} {s : State} (hs : SameBut x s0 s) (x_supply : x .supply = true) (x_sys : x .sys = true) (x_host : x .host = true) (x_ctr : x .ctr = true) (x_cairn : x .cairn = true) (x_rings : x .rings = true) (x_time : x .time = true) (x_red : x .red = true) (x_loop : x .loop = true) (x_motion : x .motion = true) (x_safety : x .safety = true) (x_field : x .field = true) (x_can : x .can = true) (x_nor : x .nor = true) : Ends (SameBut x s0) (execAppStart a1 s) := by
  unfold execAppStart
  refine Ends.next ?_
  split
  · exact hs
  · split
    · exact bootStop_frame hs x_sys x_ctr x_cairn x_can
    · split
      · exact bootStop_frame hs x_sys x_ctr x_cairn x_can
      · rename_i mc m _
        have h1 : SameBut x s0 (if usesManifest (draw s).2 = true then noteStarted (draw s).2 4 mc else (draw s).2) := by
          split
          · exact noteStarted_frame (draw_frame_proj hs) x_sys
          · exact draw_frame_proj hs
        have h2 := takeManifest_frame (a2 := m) (fellBack_frame (a2 := mc) (a3 := Config.choice (draw s).1 % 65536) h1 x_sys x_ctr x_cairn) x_sys x_host
        show SameBut x s0 (let t := takeManifest (fellBack (if usesManifest (draw s).2 = true then noteStarted (draw s).2 4 mc else (draw s).2) mc (Config.choice (draw s).1 % 65536)) m
          match bootCopy t 2, bootCopy t 3 with
          | none, _ => bootStop t 4
          | some _, none => bootStop t 5
          | some a, some b => applicationRuns t a b)
        generalize takeManifest (fellBack (if usesManifest (draw s).2 = true then noteStarted (draw s).2 4 mc else (draw s).2) mc (Config.choice (draw s).1 % 65536)) m = t at h2 ⊢
        dsimp only
        split
        · exact bootStop_frame h2 x_sys x_ctr x_cairn x_can
        · exact bootStop_frame h2 x_sys x_ctr x_cairn x_can
        · exact applicationRuns_frame h2 x_supply x_sys x_host x_ctr x_cairn x_rings x_time x_red x_loop x_motion x_safety x_field x_can x_nor

theorem execRootPortRelease_frame {s : State} (hs : SameBut x s0 s) (x_sys : x .sys = true) : Ends (SameBut x s0) (execRootPortRelease s) := by
  unfold execRootPortRelease
  repeat' first
    | with_reducible assumption
    | with_reducible apply State.onSys_frame
    | with_reducible apply Ends.next
    | with_reducible apply SameBut.ite

theorem execPcieLinkUp_frame {s : State} (hs : SameBut x s0 s) (x_sys : x .sys = true) (x_host : x .host = true) (x_ctr : x .ctr = true) : Ends (SameBut x s0) (execPcieLinkUp s) := by
  unfold execPcieLinkUp
  repeat' first
    | with_reducible assumption
    | with_reducible apply State.onSys_frame
    | with_reducible apply State.each_frame
    | with_reducible apply raiseVector_frame
    | with_reducible apply State.onQueue_frame
    | (intro)
    | (extract_lets +onlyGivenNames st; have hst : SameBut x s0 st := ?_; clear_value st; revert st; intro st2 hst2)
    | (extract_lets +onlyGivenNames yy; clear_value yy; revert yy; intro y2)
    | with_reducible apply Ends.next
    | (dsimp -zeta only [st]; clear st)
    | with_reducible apply SameBut.ite
    | split

theorem handshakeFails_frame {s : State} (hs : SameBut x s0 s) (x_sys : x .sys = true) (x_ctr : x .ctr = true) (x_cairn : x .cairn = true) (x_safety : x .safety = true) (x_can : x .can = true) : SameBut x s0 (handshakeFails s) := by
  unfold handshakeFails
  repeat' first
    | with_reducible assumption
    | with_reducible apply tripModule_frame
    | with_reducible apply State.onSafety_frame
    | with_reducible apply bootStop_frame
    | with_reducible apply logWrite_frame
    | with_reducible apply SameBut.ite

theorem execSafetyHandshake_frame {a1} {s : State} (hs : SameBut x s0 s) (x_sys : x .sys = true) (x_ctr : x .ctr = true) (x_cairn : x .cairn = true) (x_safety : x .safety = true) (x_can : x .can = true) : Ends (SameBut x s0) (execSafetyHandshake a1 s) := by
  unfold execSafetyHandshake
  repeat' first
    | with_reducible assumption
    | with_reducible apply State.onSys_frame
    | with_reducible apply handshakeFails_frame
    | with_reducible apply draw_frame_proj
    | with_reducible apply setStage_frame
    | with_reducible apply reachStage_frame
    | with_reducible apply State.onSafety_frame
    | (intro)
    | (extract_lets +onlyGivenNames st; have hst : SameBut x s0 st := ?_; clear_value st; revert st; intro st2 hst2)
    | (extract_lets +onlyGivenNames fn; have hfn : ∀ z, SameBut x s0 z → SameBut x s0 (fn z) := ?_; clear_value fn; revert fn; intro fn2 hfn)
    | (extract_lets +onlyGivenNames yy; clear_value yy; revert yy; intro y2)
    | with_reducible apply hfn
    | with_reducible apply Ends.next
    | (dsimp -zeta only [st]; clear st)
    | (dsimp -zeta only [fn]; clear fn)
    | with_reducible apply SameBut.ite
    | split

theorem restoreAxes_frame {s : State} (hs : SameBut x s0 s) (x_loop : x .loop = true) : SameBut x s0 (restoreAxes s) := by
  unfold restoreAxes
  repeat' first
    | with_reducible assumption
    | with_reducible apply State.each_frame
    | with_reducible apply State.onAxis_frame
    | (intro)

theorem restoreShafts_frame {s : State} (hs : SameBut x s0 s) (x_motion : x .motion = true) : SameBut x s0 (restoreShafts s) := by
  unfold restoreShafts
  repeat' first
    | with_reducible assumption
    | with_reducible apply State.each_frame
    | with_reducible apply State.onShaft_frame
    | with_reducible apply State.onCar_frame
    | (intro)

theorem restoreDoor_frame {s : State} {a2} {a3} (hs : SameBut x s0 s) (x_doors : x .doors = true) : SameBut x s0 (restoreDoor s a2 a3) := by
  unfold restoreDoor
  repeat' first
    | with_reducible assumption
    | with_reducible apply State.onDoor_frame

theorem restoreDoors_frame {s : State} (hs : SameBut x s0 s) (x_doors : x .doors = true) (x_field : x .field = true) : SameBut x s0 (restoreDoors s) := by
  unfold restoreDoors
  repeat' first
    | with_reducible assumption
    | with_reducible apply State.each_frame
    | with_reducible apply restoreDoor_frame
    | with_reducible apply State.onField_frame
    | (intro)

theorem restoreField_frame {s : State} (hs : SameBut x s0 s) (x_field : x .field = true) : SameBut x s0 (restoreField s) := by
  unfold restoreField
  repeat' first
    | with_reducible assumption
    | with_reducible apply State.each_frame
    | with_reducible apply landField1_frame
    | with_reducible apply State.onField_frame
    | (intro)
    | (extract_lets +onlyGivenNames st; have hst : SameBut x s0 st := ?_; clear_value st; revert st; intro st2 hst2)
    | with_reducible apply SameBut.ite
    | split

theorem restoreCan_frame {s : State} (hs : SameBut x s0 s) (x_can : x .can = true) : SameBut x s0 (restoreCan s) := by
  unfold restoreCan
  repeat' first
    | with_reducible assumption
    | with_reducible apply State.each_frame
    | with_reducible apply landCan1_frame
    | (intro)

theorem restoreAll_frame {s : State} (hs : SameBut x s0 s) (x_cairn : x .cairn = true) (x_loop : x .loop = true) (x_motion : x .motion = true) (x_doors : x .doors = true) (x_field : x .field = true) (x_can : x .can = true) : SameBut x s0 (restoreAll s) := by
  unfold restoreAll
  repeat' first
    | with_reducible assumption
    | with_reducible apply restoreCan_frame
    | with_reducible apply restoreField_frame
    | with_reducible apply restoreDoors_frame
    | with_reducible apply restoreShafts_frame
    | with_reducible apply restoreAxes_frame
    | with_reducible apply State.onRec_frame

theorem execWeaverLoad_frame {a1} {s : State} (hs : SameBut x s0 s) (x_sys : x .sys = true) (x_ctr : x .ctr = true) (x_cairn : x .cairn = true) (x_loop : x .loop = true) (x_motion : x .motion = true) (x_doors : x .doors = true) (x_field : x .field = true) (x_can : x .can = true) : Ends (SameBut x s0) (execWeaverLoad a1 s) := by
  unfold execWeaverLoad
  repeat' first
    | with_reducible assumption
    | with_reducible apply draw_frame_proj
    | with_reducible apply setStage_frame
    | with_reducible apply loadMasters_frame
    | with_reducible apply bootStop_frame
    | with_reducible apply reachStage_frame
    | with_reducible apply restoreAll_frame
    | (intro)
    | (extract_lets +onlyGivenNames st; have hst : SameBut x s0 st := ?_; clear_value st; revert st; intro st2 hst2)
    | (extract_lets +onlyGivenNames yy; clear_value yy; revert yy; intro y2)
    | with_reducible apply Ends.next
    | (dsimp -zeta only [st]; clear st)
    | with_reducible apply SameBut.ite
    | split

theorem raiseMinimums_frame {s : State} {a2} (hs : SameBut x s0 s) (x_sys : x .sys = true) (x_ctr : x .ctr = true) (x_cairn : x .cairn = true) : SameBut x s0 (raiseMinimums s a2) := by
  unfold raiseMinimums
  repeat' first
    | with_reducible assumption
    | with_reducible apply codeEvent_frame
    | with_reducible apply State.onSys_frame
    | (extract_lets +onlyGivenNames yy; clear_value yy; revert yy; intro y2)
    | with_reducible apply SameBut.ite

theorem execCreelOpen_frame {s : State} (hs : SameBut x s0 s) (x_sys : x .sys = true) (x_ctr : x .ctr = true) (x_cairn : x .cairn = true) (x_can : x .can = true) : Ends (SameBut x s0) (execCreelOpen s) := by
  unfold execCreelOpen
  repeat' first
    | with_reducible assumption
    | with_reducible apply State.onCan_frame
    | with_reducible apply State.onSys_frame
    | with_reducible apply State.each_frame
    | with_reducible apply reachStage_frame
    | with_reducible apply raiseMinimums_frame
    | (intro)
    | (extract_lets +onlyGivenNames st; have hst : SameBut x s0 st := ?_; clear_value st; revert st; intro st2 hst2)
    | (extract_lets +onlyGivenNames yy; clear_value yy; revert yy; intro y2)
    | with_reducible apply Ends.next
    | with_reducible apply SameBut.ite

theorem execMotionFloor_frame {s : State} (hs : SameBut x s0 s) (x_sys : x .sys = true) (x_ctr : x .ctr = true) (x_cairn : x .cairn = true) (x_rings : x .rings = true) (x_safety : x .safety = true) : Ends (SameBut x s0) (execMotionFloor s) := by
  unfold execMotionFloor
  repeat' first
    | with_reducible assumption
    | with_reducible apply State.onSys_frame
    | with_reducible apply State.each_frame
    | with_reducible apply State.onChan_frame
    | with_reducible apply resetEdge_frame
    | (intro)
    | (extract_lets +onlyGivenNames st; have hst : SameBut x s0 st := ?_; clear_value st; revert st; intro st2 hst2)
    | (extract_lets +onlyGivenNames yy; clear_value yy; revert yy; intro y2)
    | with_reducible apply Ends.next
    | (dsimp -zeta only [st]; clear st)
    | with_reducible apply SameBut.ite
    | split

theorem execMrstNAssert_frame {s : State} (hs : SameBut x s0 s) (x_supply : x .supply = true) (x_sys : x .sys = true) (x_pow : x .pow = true) (x_host : x .host = true) (x_ctr : x .ctr = true) (x_dbg : x .dbg = true) (x_cairn : x .cairn = true) (x_rings : x .rings = true) (x_links : x .links = true) (x_time : x .time = true) (x_multi : x .multi = true) (x_red : x .red = true) (x_loop : x .loop = true) (x_motion : x .motion = true) (x_disp : x .disp = true) (x_doors : x .doors = true) (x_safety : x .safety = true) (x_field : x .field = true) (x_can : x .can = true) (x_nor : x .nor = true) : Ends (SameBut x s0) (execMrstNAssert s) := by
  unfold execMrstNAssert
  repeat' first
    | with_reducible assumption
    | with_reducible apply ctlReset_frame
    | with_reducible apply State.onSys_frame
    | (extract_lets +onlyGivenNames st; have hst : SameBut x s0 st := ?_; clear_value st; revert st; intro st2 hst2)
    | with_reducible apply Ends.next
    | (dsimp -zeta only [st]; clear st)
    | with_reducible apply SameBut.ite

theorem execMrstNRelease_frame {s : State} (hs : SameBut x s0 s) (x_sys : x .sys = true) : Ends (SameBut x s0) (execMrstNRelease s) := by
  unfold execMrstNRelease
  repeat' first
    | with_reducible assumption
    | with_reducible apply State.onSys_frame
    | with_reducible apply Ends.next

theorem execSummitWatchdog_frame {s : State} (hs : SameBut x s0 s) (x_supply : x .supply = true) (x_sys : x .sys = true) (x_pow : x .pow = true) (x_host : x .host = true) (x_ctr : x .ctr = true) (x_dbg : x .dbg = true) (x_cairn : x .cairn = true) (x_rings : x .rings = true) (x_links : x .links = true) (x_time : x .time = true) (x_multi : x .multi = true) (x_red : x .red = true) (x_loop : x .loop = true) (x_motion : x .motion = true) (x_disp : x .disp = true) (x_doors : x .doors = true) (x_safety : x .safety = true) (x_field : x .field = true) (x_can : x .can = true) (x_nor : x .nor = true) : Ends (SameBut x s0) (execSummitWatchdog s) := by
  unfold execSummitWatchdog
  repeat' first
    | with_reducible assumption
    | with_reducible apply ctlReset_frame
    | with_reducible apply Ends.next
    | with_reducible apply SameBut.ite

theorem execStakeWatchdog_frame {s : State} (hs : SameBut x s0 s) (x_supply : x .supply = true) (x_sys : x .sys = true) (x_pow : x .pow = true) (x_host : x .host = true) (x_ctr : x .ctr = true) (x_dbg : x .dbg = true) (x_cairn : x .cairn = true) (x_rings : x .rings = true) (x_links : x .links = true) (x_time : x .time = true) (x_multi : x .multi = true) (x_red : x .red = true) (x_loop : x .loop = true) (x_motion : x .motion = true) (x_disp : x .disp = true) (x_doors : x .doors = true) (x_safety : x .safety = true) (x_field : x .field = true) (x_can : x .can = true) (x_nor : x .nor = true) : Ends (SameBut x s0) (execStakeWatchdog s) := by
  unfold execStakeWatchdog
  repeat' first
    | with_reducible assumption
    | with_reducible apply ctlReset_frame
    | with_reducible apply setFailed_frame
    | with_reducible apply Ends.next
    | with_reducible apply SameBut.ite

theorem execFatalControllerFault_frame {s : State} (hs : SameBut x s0 s) (x_supply : x .supply = true) (x_sys : x .sys = true) (x_pow : x .pow = true) (x_host : x .host = true) (x_ctr : x .ctr = true) (x_dbg : x .dbg = true) (x_cairn : x .cairn = true) (x_rings : x .rings = true) (x_links : x .links = true) (x_time : x .time = true) (x_multi : x .multi = true) (x_red : x .red = true) (x_loop : x .loop = true) (x_motion : x .motion = true) (x_disp : x .disp = true) (x_doors : x .doors = true) (x_safety : x .safety = true) (x_field : x .field = true) (x_can : x .can = true) (x_nor : x .nor = true) : Ends (SameBut x s0) (execFatalControllerFault s) := by
  unfold execFatalControllerFault
  repeat' first
    | with_reducible assumption
    | with_reducible apply ctlReset_frame
    | with_reducible apply Ends.next
    | with_reducible apply SameBut.ite

theorem execPcieHotReset_frame {s : State} (hs : SameBut x s0 s) (x_sys : x .sys = true) : Ends (SameBut x s0) (execPcieHotReset s) := by
  unfold execPcieHotReset
  repeat' first
    | with_reducible assumption
    | with_reducible apply State.onSys_frame
    | with_reducible apply Ends.next

theorem beginRestart_frame {s : State} {a2} {a3} (hs : SameBut x s0 s) (x_sys : x .sys = true) (x_can : x .can = true) : SameBut x s0 (beginRestart s a2 a3) := by
  unfold beginRestart
  repeat' first
    | with_reducible assumption
    | with_reducible apply State.onSys_frame
    | with_reducible apply State.onCan_frame

theorem execSysAppRestart_frame {a1} {s : State} (hs : SameBut x s0 s) (x_supply : x .supply = true) (x_sys : x .sys = true) (x_pow : x .pow = true) (x_host : x .host = true) (x_ctr : x .ctr = true) (x_dbg : x .dbg = true) (x_cairn : x .cairn = true) (x_rings : x .rings = true) (x_links : x .links = true) (x_time : x .time = true) (x_multi : x .multi = true) (x_red : x .red = true) (x_loop : x .loop = true) (x_motion : x .motion = true) (x_disp : x .disp = true) (x_doors : x .doors = true) (x_safety : x .safety = true) (x_field : x .field = true) (x_can : x .can = true) (x_nor : x .nor = true) : Ends (SameBut x s0) (execSysAppRestart a1 s) := by
  unfold execSysAppRestart
  repeat' first
    | with_reducible assumption
    | with_reducible apply serve_frame
    | with_reducible apply refused_frame
    | with_reducible apply beginRestart_frame
    | with_reducible apply recordOnly_frame
    | with_reducible apply draw_frame_proj
    | with_reducible apply ctlReset_frame
    | (intro)
    | with_reducible apply Ends.next
    | with_reducible apply SameBut.ite
    | split

theorem execAppRestarted_frame {a1} {s : State} (hs : SameBut x s0 s) (x_sys : x .sys = true) (x_host : x .host = true) (x_ctr : x .ctr = true) (x_doors : x .doors = true) (x_can : x .can = true) : Ends (SameBut x s0) (execAppRestarted a1 s) := by
  unfold execAppRestarted
  repeat' first
    | with_reducible assumption
    | with_reducible apply State.onSys_frame
    | with_reducible apply unseedEdges_frame
    | with_reducible apply State.onCan_frame
    | with_reducible apply ok_frame
    | (extract_lets +onlyGivenNames st; have hst : SameBut x s0 st := ?_; clear_value st; revert st; intro st2 hst2)
    | with_reducible apply Ends.next
    | split

/-! ## Machine/Supply.lean -/

theorem fieldFalls_frame {s : State} (hs : SameBut x s0 s) (x_supply : x .supply = true) (x_ctr : x .ctr = true) (x_cairn : x .cairn = true) (x_field : x .field = true) : SameBut x s0 (fieldFalls s) := by
  unfold fieldFalls
  repeat' first
    | with_reducible assumption
    | with_reducible apply fieldOff_frame
    | with_reducible apply State.onSupply_frame

theorem storageOff_frame {s : State} (hs : SameBut x s0 s) (x_supply : x .supply = true) (x_cairn : x .cairn = true) : SameBut x s0 (storageOff s) := by
  unfold storageOff
  repeat' first
    | with_reducible assumption
    | with_reducible apply drivesOff_frame
    | with_reducible apply State.onSupply_frame

theorem execPowerFailWarning_frame {s : State} (hs : SameBut x s0 s) (x_supply : x .supply = true) (x_ctr : x .ctr = true) (x_cairn : x .cairn = true) (x_safety : x .safety = true) : Ends (SameBut x s0) (execPowerFailWarning s) := by
  unfold execPowerFailWarning
  repeat' first
    | with_reducible assumption
    | with_reducible apply State.onSupply_frame
    | with_reducible apply cairnPowerFail_frame
    | (extract_lets +onlyGivenNames st; have hst : SameBut x s0 st := ?_; clear_value st; revert st; intro st2 hst2)
    | with_reducible apply Ends.next
    | with_reducible apply SameBut.ite

theorem execLoadShed_frame {s : State} (hs : SameBut x s0 s) (x_supply : x .supply = true) (x_ctr : x .ctr = true) (x_cairn : x .cairn = true) (x_field : x .field = true) : Ends (SameBut x s0) (execLoadShed s) := by
  unfold execLoadShed
  repeat' first
    | with_reducible assumption
    | with_reducible apply State.onSupply_frame
    | with_reducible apply storageOff_frame
    | with_reducible apply fieldFalls_frame
    | (extract_lets +onlyGivenNames st; have hst : SameBut x s0 st := ?_; clear_value st; revert st; intro st2 hst2)
    | with_reducible apply Ends.next
    | with_reducible apply SameBut.ite

theorem execPowerGoodFall_frame {s : State} (hs : SameBut x s0 s) (x_supply : x .supply = true) (x_sys : x .sys = true) (x_pow : x .pow = true) (x_host : x .host = true) (x_ctr : x .ctr = true) (x_dbg : x .dbg = true) (x_cairn : x .cairn = true) (x_rings : x .rings = true) (x_links : x .links = true) (x_time : x .time = true) (x_multi : x .multi = true) (x_red : x .red = true) (x_loop : x .loop = true) (x_motion : x .motion = true) (x_disp : x .disp = true) (x_doors : x .doors = true) (x_safety : x .safety = true) (x_field : x .field = true) (x_can : x .can = true) (x_nor : x .nor = true) : Ends (SameBut x s0) (execPowerGoodFall s) := by
  unfold execPowerGoodFall
  repeat' first
    | with_reducible assumption
    | with_reducible apply logicLoss_frame
    | with_reducible apply Ends.next
    | with_reducible apply SameBut.ite

theorem execMainsReturn_frame {s : State} (hs : SameBut x s0 s) (x_supply : x .supply = true) (x_cairn : x .cairn = true) (x_field : x .field = true) : Ends (SameBut x s0) (execMainsReturn s) := by
  unfold execMainsReturn
  repeat' first
    | with_reducible assumption
    | with_reducible apply State.onSupply_frame
    | with_reducible apply State.onField_frame
    | with_reducible apply State.onRec_frame
    | (extract_lets +onlyGivenNames st; have hst : SameBut x s0 st := ?_; clear_value st; revert st; intro st2 hst2)
    | (extract_lets +onlyGivenNames yy; clear_value yy; revert yy; intro y2)
    | with_reducible apply Ends.next
    | (dsimp -zeta only [st]; clear st)
    | with_reducible apply SameBut.ite

theorem execTempSample_frame {a1} {s : State} (hs : SameBut x s0 s) (x_supply : x .supply = true) (x_sys : x .sys = true) (x_pow : x .pow = true) (x_host : x .host = true) (x_ctr : x .ctr = true) (x_dbg : x .dbg = true) (x_cairn : x .cairn = true) (x_rings : x .rings = true) (x_links : x .links = true) (x_time : x .time = true) (x_multi : x .multi = true) (x_red : x .red = true) (x_loop : x .loop = true) (x_motion : x .motion = true) (x_disp : x .disp = true) (x_doors : x .doors = true) (x_safety : x .safety = true) (x_field : x .field = true) (x_can : x .can = true) (x_nor : x .nor = true) : Ends (SameBut x s0) (execTempSample a1 s) := by
  unfold execTempSample
  repeat' first
    | with_reducible assumption
    | with_reducible apply State.onSupply_frame
    | with_reducible apply logicLoss_frame
    | (extract_lets +onlyGivenNames st; have hst : SameBut x s0 st := ?_; clear_value st; revert st; intro st2 hst2)
    | with_reducible apply Ends.next
    | with_reducible apply SameBut.ite

theorem execThermalRestart_frame {s : State} (hs : SameBut x s0 s) (x_supply : x .supply = true) : Ends (SameBut x s0) (execThermalRestart s) := by
  unfold execThermalRestart
  repeat' first
    | with_reducible assumption
    | with_reducible apply State.onSupply_frame
    | with_reducible apply Ends.next
    | with_reducible apply SameBut.ite

theorem execField24vLoss_frame {s : State} (hs : SameBut x s0 s) (x_supply : x .supply = true) (x_ctr : x .ctr = true) (x_cairn : x .cairn = true) (x_field : x .field = true) : Ends (SameBut x s0) (execField24vLoss s) := by
  unfold execField24vLoss
  repeat' first
    | with_reducible assumption
    | with_reducible apply fieldFalls_frame
    | with_reducible apply State.onField_frame
    | with_reducible apply Ends.next
    | with_reducible apply SameBut.ite

theorem execField24vRestore_frame {s : State} (hs : SameBut x s0 s) (x_supply : x .supply = true) (x_field : x .field = true) : Ends (SameBut x s0) (execField24vRestore s) := by
  unfold execField24vRestore
  repeat' first
    | with_reducible assumption
    | with_reducible apply State.onField_frame
    | with_reducible apply State.onSupply_frame
    | with_reducible apply Ends.next
    | with_reducible apply SameBut.ite

theorem State.onCage_frame {s : State} {a2} {a3} (hs : SameBut x s0 s) (x_supply : x .supply = true) : SameBut x s0 (State.onCage s a2 a3) := by
  unfold State.onCage
  repeat' first
    | with_reducible assumption
    | with_reducible apply State.onSupply_frame

theorem portDark_frame {s : State} {a2} (hs : SameBut x s0 s) (x_ctr : x .ctr = true) (x_rings : x .rings = true) : SameBut x s0 (portDark s a2) := by
  unfold portDark
  repeat' first
    | with_reducible assumption
    | with_reducible apply loseLock_frame
    | with_reducible apply SameBut.ite

theorem execCagePowerMeasure_frame {a1} {a2} {s : State} (hs : SameBut x s0 s) (x_supply : x .supply = true) (x_ctr : x .ctr = true) (x_rings : x .rings = true) : Ends (SameBut x s0) (execCagePowerMeasure a1 a2 s) := by
  unfold execCagePowerMeasure
  repeat' first
    | with_reducible assumption
    | with_reducible apply portDark_frame
    | with_reducible apply State.onSupply_frame
    | with_reducible apply State.onCage_frame
    | with_reducible apply Ends.next
    | with_reducible apply SameBut.ite

theorem execOpticInsert_frame {a1} {s : State} (hs : SameBut x s0 s) (x_supply : x .supply = true) : Ends (SameBut x s0) (execOpticInsert a1 s) := by
  unfold execOpticInsert
  repeat' first
    | with_reducible assumption
    | with_reducible apply State.onCage_frame
    | with_reducible apply Ends.next
    | with_reducible apply SameBut.ite

theorem execOpticRemove_frame {a1} {s : State} (hs : SameBut x s0 s) (x_supply : x .supply = true) (x_ctr : x .ctr = true) (x_rings : x .rings = true) : Ends (SameBut x s0) (execOpticRemove a1 s) := by
  unfold execOpticRemove
  repeat' first
    | with_reducible assumption
    | with_reducible apply State.onCage_frame
    | with_reducible apply portDark_frame
    | with_reducible apply State.onSupply_frame
    | (extract_lets +onlyGivenNames st; have hst : SameBut x s0 st := ?_; clear_value st; revert st; intro st2 hst2)
    | (extract_lets +onlyGivenNames yy; clear_value yy; revert yy; intro y2)
    | with_reducible apply Ends.next
    | (dsimp -zeta only [st]; clear st)
    | with_reducible apply SameBut.ite

theorem execCageOverLimit_frame {a1} {s : State} (hs : SameBut x s0 s) (x_supply : x .supply = true) (x_ctr : x .ctr = true) (x_rings : x .rings = true) : Ends (SameBut x s0) (execCageOverLimit a1 s) := by
  unfold execCageOverLimit
  repeat' first
    | with_reducible assumption
    | with_reducible apply portDark_frame
    | with_reducible apply State.onSupply_frame
    | with_reducible apply State.onCage_frame
    | with_reducible apply Ends.next
    | with_reducible apply SameBut.ite

theorem execStorageOvercurrent_frame {s : State} (hs : SameBut x s0 s) (x_supply : x .supply = true) (x_cairn : x .cairn = true) : Ends (SameBut x s0) (execStorageOvercurrent s) := by
  unfold execStorageOvercurrent
  repeat' first
    | with_reducible assumption
    | with_reducible apply storageOff_frame
    | with_reducible apply State.onSupply_frame
    | with_reducible apply Ends.next
    | with_reducible apply SameBut.ite

theorem execStorageRetry_frame {s : State} (hs : SameBut x s0 s) (x_supply : x .supply = true) : Ends (SameBut x s0) (execStorageRetry s) := by
  unfold execStorageRetry
  repeat' first
    | with_reducible assumption
    | with_reducible apply State.onSupply_frame
    | with_reducible apply Ends.next
    | with_reducible apply SameBut.ite

theorem execSynciEdge_frame {a1} {s : State} (hs : SameBut x s0 s) (x_supply : x .supply = true) : Ends (SameBut x s0) (execSynciEdge a1 s) := by
  unfold execSynciEdge
  repeat' first
    | with_reducible assumption
    | with_reducible apply State.onSupply_frame
    | with_reducible apply Ends.next
    | with_reducible apply SameBut.ite

/-! ## Machine/System.lean -/

theorem execSysIdent_frame {a1} {s : State} (hs : SameBut x s0 s) (x_host : x .host = true) (x_ctr : x .ctr = true) : Ends (SameBut x s0) (execSysIdent a1 s) := by
  unfold execSysIdent
  repeat' first
    | with_reducible assumption
    | with_reducible apply serve_frame
    | with_reducible apply ok_frame
    | (intro)
    | with_reducible apply Ends.next

theorem execSysState_frame {a1} {s : State} (hs : SameBut x s0 s) (x_host : x .host = true) (x_ctr : x .ctr = true) : Ends (SameBut x s0) (execSysState a1 s) := by
  unfold execSysState
  repeat' first
    | with_reducible assumption
    | with_reducible apply serve_frame
    | with_reducible apply ok_frame
    | (intro)
    | with_reducible apply Ends.next

theorem execSysTimeGet_frame {a1} {s : State} (hs : SameBut x s0 s) (x_host : x .host = true) (x_ctr : x .ctr = true) : Ends (SameBut x s0) (execSysTimeGet a1 s) := by
  unfold execSysTimeGet
  repeat' first
    | with_reducible assumption
    | with_reducible apply serve_frame
    | with_reducible apply ok_frame
    | (intro)
    | with_reducible apply Ends.next

theorem execSysSubscribe_frame {a1} {s : State} (hs : SameBut x s0 s) (x_host : x .host = true) (x_ctr : x .ctr = true) : Ends (SameBut x s0) (execSysSubscribe a1 s) := by
  unfold execSysSubscribe
  repeat' first
    | with_reducible assumption
    | with_reducible apply serve_frame
    | with_reducible apply denied_frame
    | with_reducible apply noSuch_frame
    | with_reducible apply State.onQueue_frame
    | with_reducible apply ok_frame
    | (intro)
    | (extract_lets +onlyGivenNames st; have hst : SameBut x s0 st := ?_; clear_value st; revert st; intro st2 hst2)
    | (extract_lets +onlyGivenNames yy; clear_value yy; revert yy; intro y2)
    | with_reducible apply Ends.next
    | (dsimp -zeta only [st]; clear st)
    | with_reducible apply SameBut.ite
    | split

theorem execSysUnsubscribe_frame {a1} {s : State} (hs : SameBut x s0 s) (x_host : x .host = true) (x_ctr : x .ctr = true) : Ends (SameBut x s0) (execSysUnsubscribe a1 s) := by
  unfold execSysUnsubscribe
  repeat' first
    | with_reducible assumption
    | with_reducible apply serve_frame
    | with_reducible apply State.onQueue_frame
    | with_reducible apply ok_frame
    | (intro)
    | (extract_lets +onlyGivenNames yy; clear_value yy; revert yy; intro y2)
    | with_reducible apply Ends.next

theorem execPartInfo_frame {a1} {s : State} (hs : SameBut x s0 s) (x_host : x .host = true) (x_ctr : x .ctr = true) : Ends (SameBut x s0) (execPartInfo a1 s) := by
  unfold execPartInfo
  repeat' first
    | with_reducible assumption
    | with_reducible apply serve_frame
    | with_reducible apply ok_frame
    | (intro)
    | (extract_lets +onlyGivenNames st; have hst : SameBut x s0 st := ?_; clear_value st; revert st; intro st2 hst2)
    | (extract_lets +onlyGivenNames yy; clear_value yy; revert yy; intro y2)
    | with_reducible apply Ends.next
    | with_reducible apply SameBut.ite
    | split

theorem execPartStats_frame {a1} {s : State} (hs : SameBut x s0 s) (x_host : x .host = true) (x_ctr : x .ctr = true) : Ends (SameBut x s0) (execPartStats a1 s) := by
  unfold execPartStats
  repeat' first
    | with_reducible assumption
    | with_reducible apply serve_frame
    | with_reducible apply ok_frame
    | (intro)
    | with_reducible apply Ends.next

theorem execQueueCreate_frame {a1} {s : State} (hs : SameBut x s0 s) (x_host : x .host = true) (x_ctr : x .ctr = true) : Ends (SameBut x s0) (execQueueCreate a1 s) := by
  unfold execQueueCreate
  repeat' first
    | with_reducible assumption
    | with_reducible apply serve_frame
    | with_reducible apply denied_frame
    | with_reducible apply noteClamps_frame
    | with_reducible apply refused_frame
    | with_reducible apply draw_frame_proj
    | with_reducible apply State.onHost_frame
    | with_reducible apply ok_frame
    | (intro)
    | (extract_lets +onlyGivenNames st; have hst : SameBut x s0 st := ?_; clear_value st; revert st; intro st2 hst2)
    | (extract_lets +onlyGivenNames yy; clear_value yy; revert yy; intro y2)
    | with_reducible apply Ends.next
    | with_reducible apply SameBut.ite

theorem dropHolder_frame {s : State} {a2} (hs : SameBut x s0 s) (x_supply : x .supply = true) (x_sys : x .sys = true) (x_pow : x .pow = true) (x_host : x .host = true) (x_ctr : x .ctr = true) (x_dbg : x .dbg = true) (x_cairn : x .cairn = true) (x_rings : x .rings = true) (x_links : x .links = true) (x_time : x .time = true) (x_multi : x .multi = true) (x_red : x .red = true) (x_loop : x .loop = true) (x_motion : x .motion = true) (x_disp : x .disp = true) (x_doors : x .doors = true) (x_safety : x .safety = true) (x_field : x .field = true) (x_can : x .can = true) (x_nor : x .nor = true) : SameBut x s0 (dropHolder s a2) := by
  unfold dropHolder
  repeat' first
    | with_reducible assumption
    | with_reducible apply endSession_frame
    | with_reducible apply SameBut.ite

theorem execQueueDelete_frame {a1} {s : State} (hs : SameBut x s0 s) (x_supply : x .supply = true) (x_sys : x .sys = true) (x_pow : x .pow = true) (x_host : x .host = true) (x_ctr : x .ctr = true) (x_dbg : x .dbg = true) (x_cairn : x .cairn = true) (x_rings : x .rings = true) (x_links : x .links = true) (x_time : x .time = true) (x_multi : x .multi = true) (x_red : x .red = true) (x_loop : x .loop = true) (x_motion : x .motion = true) (x_disp : x .disp = true) (x_doors : x .doors = true) (x_safety : x .safety = true) (x_field : x .field = true) (x_can : x .can = true) (x_nor : x .nor = true) : Ends (SameBut x s0) (execQueueDelete a1 s) := by
  unfold execQueueDelete
  repeat' first
    | with_reducible assumption
    | with_reducible apply serve_frame
    | with_reducible apply State.onQueue_frame
    | with_reducible apply State.onPstat_frame
    | with_reducible apply removeQueue_frame
    | with_reducible apply flushQueue_frame
    | with_reducible apply dropHolder_frame
    | with_reducible apply ok_frame
    | (intro)
    | (extract_lets +onlyGivenNames st; have hst : SameBut x s0 st := ?_; clear_value st; revert st; intro st2 hst2)
    | (extract_lets +onlyGivenNames yy; clear_value yy; revert yy; intro y2)
    | with_reducible apply Ends.next
    | (dsimp -zeta only [st]; clear st)
    | with_reducible apply SameBut.ite
    | split

theorem execQueueBucketSet_frame {a1} {s : State} (hs : SameBut x s0 s) (x_host : x .host = true) (x_ctr : x .ctr = true) : Ends (SameBut x s0) (execQueueBucketSet a1 s) := by
  unfold execQueueBucketSet
  repeat' first
    | with_reducible assumption
    | with_reducible apply serve_frame
    | with_reducible apply refused_frame
    | with_reducible apply State.onQueue_frame
    | with_reducible apply ok_frame
    | (intro)
    | (extract_lets +onlyGivenNames st; have hst : SameBut x s0 st := ?_; clear_value st; revert st; intro st2 hst2)
    | (extract_lets +onlyGivenNames yy; clear_value yy; revert yy; intro y2)
    | with_reducible apply Ends.next
    | with_reducible apply SameBut.ite

theorem execQueueRekey_frame {a1} {s : State} (hs : SameBut x s0 s) (x_host : x .host = true) (x_ctr : x .ctr = true) : Ends (SameBut x s0) (execQueueRekey a1 s) := by
  unfold execQueueRekey
  repeat' first
    | with_reducible assumption
    | with_reducible apply serve_frame
    | with_reducible apply draw_frame_proj
    | with_reducible apply ok_frame
    | (intro)
    | (extract_lets +onlyGivenNames st; have hst : SameBut x s0 st := ?_; clear_value st; revert st; intro st2 hst2)
    | (extract_lets +onlyGivenNames yy; clear_value yy; revert yy; intro y2)
    | with_reducible apply Ends.next
    | with_reducible apply SameBut.ite
    | split

/-! ## Machine/Timeout.lean -/

theorem mapLoopReqs_frame {s : State} {a2} (hs : SameBut x s0 s) (x_rings : x .rings = true) (x_loop : x .loop = true) : SameBut x s0 (mapLoopReqs s a2) := by
  unfold mapLoopReqs
  repeat' first
    | with_reducible assumption
    | with_reducible apply State.onLoop_frame
    | (extract_lets +onlyGivenNames st; have hst : SameBut x s0 st := ?_; clear_value st; revert st; intro st2 hst2)
    | with_reducible refine SameBut.literal rfl (.inr rfl) (.inr rfl) (.inr rfl) (.inr rfl) (.inr rfl) (.inr rfl) (.inr rfl) (.inl x_rings) (.inr rfl) (.inr rfl) (.inr rfl) (.inr rfl) (.inr rfl) (.inr rfl) (.inr rfl) (.inr rfl) (.inr rfl) (.inr rfl) (.inr rfl) (.inr rfl) ?_

theorem mapMotionReqs_frame {s : State} {a2} (hs : SameBut x s0 s) (x_motion : x .motion = true) (x_disp : x .disp = true) (x_doors : x .doors = true) : SameBut x s0 (mapMotionReqs s a2) := by
  unfold mapMotionReqs
  repeat' first
    | with_reducible assumption
    | with_reducible apply State.onMotion_frame
    | with_reducible apply State.onDisp_frame
    | (extract_lets +onlyGivenNames st; have hst : SameBut x s0 st := ?_; clear_value st; revert st; intro st2 hst2)
    | with_reducible refine SameBut.literal rfl (.inr rfl) (.inr rfl) (.inr rfl) (.inr rfl) (.inr rfl) (.inr rfl) (.inr rfl) (.inr rfl) (.inr rfl) (.inr rfl) (.inr rfl) (.inr rfl) (.inr rfl) (.inr rfl) (.inr rfl) (.inl x_doors) (.inr rfl) (.inr rfl) (.inr rfl) (.inr rfl) ?_

theorem mapIoReqs_frame {s : State} {a2} (hs : SameBut x s0 s) (x_field : x .field = true) (x_can : x .can = true) : SameBut x s0 (mapIoReqs s a2) := by
  unfold mapIoReqs
  repeat' first
    | with_reducible assumption
    | with_reducible apply State.onCan_frame
    | with_reducible apply State.onField_frame

theorem mapModuleReqs_frame {s : State} {a2} (hs : SameBut x s0 s) (x_sys : x .sys = true) (x_pow : x .pow = true) (x_ctr : x .ctr = true) (x_dbg : x .dbg = true) (x_cairn : x .cairn = true) (x_red : x .red = true) : SameBut x s0 (mapModuleReqs s a2) := by
  unfold mapModuleReqs
  repeat' first
    | with_reducible assumption
    | with_reducible apply State.onPow_frame
    | with_reducible apply State.onSys_frame
    | with_reducible apply State.onRed_frame
    | with_reducible apply State.onDbg_frame
    | with_reducible apply State.onCtr_frame
    | with_reducible apply State.onRec_frame

theorem execCommandTimeout_frame {a1} {a2} {s : State} (hs : SameBut x s0 s) (x_sys : x .sys = true) (x_pow : x .pow = true) (x_host : x .host = true) (x_ctr : x .ctr = true) (x_dbg : x .dbg = true) (x_cairn : x .cairn = true) (x_rings : x .rings = true) (x_red : x .red = true) (x_loop : x .loop = true) (x_motion : x .motion = true) (x_disp : x .disp = true) (x_doors : x .doors = true) (x_field : x .field = true) (x_can : x .can = true) : Ends (SameBut x s0) (execCommandTimeout a1 a2 s) := by
  unfold execCommandTimeout
  repeat' first
    | with_reducible assumption
    | with_reducible apply timedOut_frame
    | with_reducible apply mapModuleReqs_frame
    | with_reducible apply mapIoReqs_frame
    | with_reducible apply mapMotionReqs_frame
    | with_reducible apply mapLoopReqs_frame
    | (extract_lets +onlyGivenNames yy; clear_value yy; revert yy; intro y2)
    | with_reducible apply Ends.next
    | split

end Sys2Proof.Machine
end

