-- ==== Sys2Proof/Laws/State.lean ====
section
/-! SUPPORT. Each field of the state after each update of one component, by unfolding once. -/

namespace Sys2Proof.Machine

open Sys2Proof

/-! ### State.onHost -/

@[simp] theorem State.onHost_pending (s : State) (f : HostSt → HostSt) : (s.onHost f).pending = s.pending := rfl
@[simp] theorem State.onHost_free (s : State) (f : HostSt → HostSt) : (s.onHost f).free = s.free := rfl
@[simp] theorem State.onHost_supply (s : State) (f : HostSt → HostSt) : (s.onHost f).supply = s.supply := rfl
@[simp] theorem State.onHost_sys (s : State) (f : HostSt → HostSt) : (s.onHost f).sys = s.sys := rfl
@[simp] theorem State.onHost_pow (s : State) (f : HostSt → HostSt) : (s.onHost f).pow = s.pow := rfl
@[simp] theorem State.onHost_host (s : State) (f : HostSt → HostSt) : (s.onHost f).host = f s.host := rfl
@[simp] theorem State.onHost_ctr (s : State) (f : HostSt → HostSt) : (s.onHost f).ctr = s.ctr := rfl
@[simp] theorem State.onHost_dbg (s : State) (f : HostSt → HostSt) : (s.onHost f).dbg = s.dbg := rfl
@[simp] theorem State.onHost_cairn (s : State) (f : HostSt → HostSt) : (s.onHost f).cairn = s.cairn := rfl
@[simp] theorem State.onHost_rings (s : State) (f : HostSt → HostSt) : (s.onHost f).rings = s.rings := rfl
@[simp] theorem State.onHost_links (s : State) (f : HostSt → HostSt) : (s.onHost f).links = s.links := rfl
@[simp] theorem State.onHost_time (s : State) (f : HostSt → HostSt) : (s.onHost f).time = s.time := rfl
@[simp] theorem State.onHost_multi (s : State) (f : HostSt → HostSt) : (s.onHost f).multi = s.multi := rfl
@[simp] theorem State.onHost_red (s : State) (f : HostSt → HostSt) : (s.onHost f).red = s.red := rfl
@[simp] theorem State.onHost_loop (s : State) (f : HostSt → HostSt) : (s.onHost f).loop = s.loop := rfl
@[simp] theorem State.onHost_motion (s : State) (f : HostSt → HostSt) : (s.onHost f).motion = s.motion := rfl
@[simp] theorem State.onHost_disp (s : State) (f : HostSt → HostSt) : (s.onHost f).disp = s.disp := rfl
@[simp] theorem State.onHost_doors (s : State) (f : HostSt → HostSt) : (s.onHost f).doors = s.doors := rfl
@[simp] theorem State.onHost_safety (s : State) (f : HostSt → HostSt) : (s.onHost f).safety = s.safety := rfl
@[simp] theorem State.onHost_field (s : State) (f : HostSt → HostSt) : (s.onHost f).field = s.field := rfl
@[simp] theorem State.onHost_can (s : State) (f : HostSt → HostSt) : (s.onHost f).can = s.can := rfl
@[simp] theorem State.onHost_nor (s : State) (f : HostSt → HostSt) : (s.onHost f).nor = s.nor := rfl

/-! ### State.onCtr -/

@[simp] theorem State.onCtr_pending (s : State) (f : CtrSt → CtrSt) : (s.onCtr f).pending = s.pending := rfl
@[simp] theorem State.onCtr_free (s : State) (f : CtrSt → CtrSt) : (s.onCtr f).free = s.free := rfl
@[simp] theorem State.onCtr_supply (s : State) (f : CtrSt → CtrSt) : (s.onCtr f).supply = s.supply := rfl
@[simp] theorem State.onCtr_sys (s : State) (f : CtrSt → CtrSt) : (s.onCtr f).sys = s.sys := rfl
@[simp] theorem State.onCtr_pow (s : State) (f : CtrSt → CtrSt) : (s.onCtr f).pow = s.pow := rfl
@[simp] theorem State.onCtr_host (s : State) (f : CtrSt → CtrSt) : (s.onCtr f).host = s.host := rfl
@[simp] theorem State.onCtr_ctr (s : State) (f : CtrSt → CtrSt) : (s.onCtr f).ctr = f s.ctr := rfl
@[simp] theorem State.onCtr_dbg (s : State) (f : CtrSt → CtrSt) : (s.onCtr f).dbg = s.dbg := rfl
@[simp] theorem State.onCtr_cairn (s : State) (f : CtrSt → CtrSt) : (s.onCtr f).cairn = s.cairn := rfl
@[simp] theorem State.onCtr_rings (s : State) (f : CtrSt → CtrSt) : (s.onCtr f).rings = s.rings := rfl
@[simp] theorem State.onCtr_links (s : State) (f : CtrSt → CtrSt) : (s.onCtr f).links = s.links := rfl
@[simp] theorem State.onCtr_time (s : State) (f : CtrSt → CtrSt) : (s.onCtr f).time = s.time := rfl
@[simp] theorem State.onCtr_multi (s : State) (f : CtrSt → CtrSt) : (s.onCtr f).multi = s.multi := rfl
@[simp] theorem State.onCtr_red (s : State) (f : CtrSt → CtrSt) : (s.onCtr f).red = s.red := rfl
@[simp] theorem State.onCtr_loop (s : State) (f : CtrSt → CtrSt) : (s.onCtr f).loop = s.loop := rfl
@[simp] theorem State.onCtr_motion (s : State) (f : CtrSt → CtrSt) : (s.onCtr f).motion = s.motion := rfl
@[simp] theorem State.onCtr_disp (s : State) (f : CtrSt → CtrSt) : (s.onCtr f).disp = s.disp := rfl
@[simp] theorem State.onCtr_doors (s : State) (f : CtrSt → CtrSt) : (s.onCtr f).doors = s.doors := rfl
@[simp] theorem State.onCtr_safety (s : State) (f : CtrSt → CtrSt) : (s.onCtr f).safety = s.safety := rfl
@[simp] theorem State.onCtr_field (s : State) (f : CtrSt → CtrSt) : (s.onCtr f).field = s.field := rfl
@[simp] theorem State.onCtr_can (s : State) (f : CtrSt → CtrSt) : (s.onCtr f).can = s.can := rfl
@[simp] theorem State.onCtr_nor (s : State) (f : CtrSt → CtrSt) : (s.onCtr f).nor = s.nor := rfl

/-! ### State.onSys -/

@[simp] theorem State.onSys_pending (s : State) (f : SysSt → SysSt) : (s.onSys f).pending = s.pending := rfl
@[simp] theorem State.onSys_free (s : State) (f : SysSt → SysSt) : (s.onSys f).free = s.free := rfl
@[simp] theorem State.onSys_supply (s : State) (f : SysSt → SysSt) : (s.onSys f).supply = s.supply := rfl
@[simp] theorem State.onSys_sys (s : State) (f : SysSt → SysSt) : (s.onSys f).sys = f s.sys := rfl
@[simp] theorem State.onSys_pow (s : State) (f : SysSt → SysSt) : (s.onSys f).pow = s.pow := rfl
@[simp] theorem State.onSys_host (s : State) (f : SysSt → SysSt) : (s.onSys f).host = s.host := rfl
@[simp] theorem State.onSys_ctr (s : State) (f : SysSt → SysSt) : (s.onSys f).ctr = s.ctr := rfl
@[simp] theorem State.onSys_dbg (s : State) (f : SysSt → SysSt) : (s.onSys f).dbg = s.dbg := rfl
@[simp] theorem State.onSys_cairn (s : State) (f : SysSt → SysSt) : (s.onSys f).cairn = s.cairn := rfl
@[simp] theorem State.onSys_rings (s : State) (f : SysSt → SysSt) : (s.onSys f).rings = s.rings := rfl
@[simp] theorem State.onSys_links (s : State) (f : SysSt → SysSt) : (s.onSys f).links = s.links := rfl
@[simp] theorem State.onSys_time (s : State) (f : SysSt → SysSt) : (s.onSys f).time = s.time := rfl
@[simp] theorem State.onSys_multi (s : State) (f : SysSt → SysSt) : (s.onSys f).multi = s.multi := rfl
@[simp] theorem State.onSys_red (s : State) (f : SysSt → SysSt) : (s.onSys f).red = s.red := rfl
@[simp] theorem State.onSys_loop (s : State) (f : SysSt → SysSt) : (s.onSys f).loop = s.loop := rfl
@[simp] theorem State.onSys_motion (s : State) (f : SysSt → SysSt) : (s.onSys f).motion = s.motion := rfl
@[simp] theorem State.onSys_disp (s : State) (f : SysSt → SysSt) : (s.onSys f).disp = s.disp := rfl
@[simp] theorem State.onSys_doors (s : State) (f : SysSt → SysSt) : (s.onSys f).doors = s.doors := rfl
@[simp] theorem State.onSys_safety (s : State) (f : SysSt → SysSt) : (s.onSys f).safety = s.safety := rfl
@[simp] theorem State.onSys_field (s : State) (f : SysSt → SysSt) : (s.onSys f).field = s.field := rfl
@[simp] theorem State.onSys_can (s : State) (f : SysSt → SysSt) : (s.onSys f).can = s.can := rfl
@[simp] theorem State.onSys_nor (s : State) (f : SysSt → SysSt) : (s.onSys f).nor = s.nor := rfl

/-! ### State.onSupply -/

@[simp] theorem State.onSupply_pending (s : State) (f : SupplySt → SupplySt) : (s.onSupply f).pending = s.pending := rfl
@[simp] theorem State.onSupply_free (s : State) (f : SupplySt → SupplySt) : (s.onSupply f).free = s.free := rfl
@[simp] theorem State.onSupply_supply (s : State) (f : SupplySt → SupplySt) : (s.onSupply f).supply = f s.supply := rfl
@[simp] theorem State.onSupply_sys (s : State) (f : SupplySt → SupplySt) : (s.onSupply f).sys = s.sys := rfl
@[simp] theorem State.onSupply_pow (s : State) (f : SupplySt → SupplySt) : (s.onSupply f).pow = s.pow := rfl
@[simp] theorem State.onSupply_host (s : State) (f : SupplySt → SupplySt) : (s.onSupply f).host = s.host := rfl
@[simp] theorem State.onSupply_ctr (s : State) (f : SupplySt → SupplySt) : (s.onSupply f).ctr = s.ctr := rfl
@[simp] theorem State.onSupply_dbg (s : State) (f : SupplySt → SupplySt) : (s.onSupply f).dbg = s.dbg := rfl
@[simp] theorem State.onSupply_cairn (s : State) (f : SupplySt → SupplySt) : (s.onSupply f).cairn = s.cairn := rfl
@[simp] theorem State.onSupply_rings (s : State) (f : SupplySt → SupplySt) : (s.onSupply f).rings = s.rings := rfl
@[simp] theorem State.onSupply_links (s : State) (f : SupplySt → SupplySt) : (s.onSupply f).links = s.links := rfl
@[simp] theorem State.onSupply_time (s : State) (f : SupplySt → SupplySt) : (s.onSupply f).time = s.time := rfl
@[simp] theorem State.onSupply_multi (s : State) (f : SupplySt → SupplySt) : (s.onSupply f).multi = s.multi := rfl
@[simp] theorem State.onSupply_red (s : State) (f : SupplySt → SupplySt) : (s.onSupply f).red = s.red := rfl
@[simp] theorem State.onSupply_loop (s : State) (f : SupplySt → SupplySt) : (s.onSupply f).loop = s.loop := rfl
@[simp] theorem State.onSupply_motion (s : State) (f : SupplySt → SupplySt) : (s.onSupply f).motion = s.motion := rfl
@[simp] theorem State.onSupply_disp (s : State) (f : SupplySt → SupplySt) : (s.onSupply f).disp = s.disp := rfl
@[simp] theorem State.onSupply_doors (s : State) (f : SupplySt → SupplySt) : (s.onSupply f).doors = s.doors := rfl
@[simp] theorem State.onSupply_safety (s : State) (f : SupplySt → SupplySt) : (s.onSupply f).safety = s.safety := rfl
@[simp] theorem State.onSupply_field (s : State) (f : SupplySt → SupplySt) : (s.onSupply f).field = s.field := rfl
@[simp] theorem State.onSupply_can (s : State) (f : SupplySt → SupplySt) : (s.onSupply f).can = s.can := rfl
@[simp] theorem State.onSupply_nor (s : State) (f : SupplySt → SupplySt) : (s.onSupply f).nor = s.nor := rfl

/-! ### State.onPow -/

@[simp] theorem State.onPow_pending (s : State) (f : PowSt → PowSt) : (s.onPow f).pending = s.pending := rfl
@[simp] theorem State.onPow_free (s : State) (f : PowSt → PowSt) : (s.onPow f).free = s.free := rfl
@[simp] theorem State.onPow_supply (s : State) (f : PowSt → PowSt) : (s.onPow f).supply = s.supply := rfl
@[simp] theorem State.onPow_sys (s : State) (f : PowSt → PowSt) : (s.onPow f).sys = s.sys := rfl
@[simp] theorem State.onPow_pow (s : State) (f : PowSt → PowSt) : (s.onPow f).pow = f s.pow := rfl
@[simp] theorem State.onPow_host (s : State) (f : PowSt → PowSt) : (s.onPow f).host = s.host := rfl
@[simp] theorem State.onPow_ctr (s : State) (f : PowSt → PowSt) : (s.onPow f).ctr = s.ctr := rfl
@[simp] theorem State.onPow_dbg (s : State) (f : PowSt → PowSt) : (s.onPow f).dbg = s.dbg := rfl
@[simp] theorem State.onPow_cairn (s : State) (f : PowSt → PowSt) : (s.onPow f).cairn = s.cairn := rfl
@[simp] theorem State.onPow_rings (s : State) (f : PowSt → PowSt) : (s.onPow f).rings = s.rings := rfl
@[simp] theorem State.onPow_links (s : State) (f : PowSt → PowSt) : (s.onPow f).links = s.links := rfl
@[simp] theorem State.onPow_time (s : State) (f : PowSt → PowSt) : (s.onPow f).time = s.time := rfl
@[simp] theorem State.onPow_multi (s : State) (f : PowSt → PowSt) : (s.onPow f).multi = s.multi := rfl
@[simp] theorem State.onPow_red (s : State) (f : PowSt → PowSt) : (s.onPow f).red = s.red := rfl
@[simp] theorem State.onPow_loop (s : State) (f : PowSt → PowSt) : (s.onPow f).loop = s.loop := rfl
@[simp] theorem State.onPow_motion (s : State) (f : PowSt → PowSt) : (s.onPow f).motion = s.motion := rfl
@[simp] theorem State.onPow_disp (s : State) (f : PowSt → PowSt) : (s.onPow f).disp = s.disp := rfl
@[simp] theorem State.onPow_doors (s : State) (f : PowSt → PowSt) : (s.onPow f).doors = s.doors := rfl
@[simp] theorem State.onPow_safety (s : State) (f : PowSt → PowSt) : (s.onPow f).safety = s.safety := rfl
@[simp] theorem State.onPow_field (s : State) (f : PowSt → PowSt) : (s.onPow f).field = s.field := rfl
@[simp] theorem State.onPow_can (s : State) (f : PowSt → PowSt) : (s.onPow f).can = s.can := rfl
@[simp] theorem State.onPow_nor (s : State) (f : PowSt → PowSt) : (s.onPow f).nor = s.nor := rfl

/-! ### State.onDbg -/

@[simp] theorem State.onDbg_pending (s : State) (f : DbgSt → DbgSt) : (s.onDbg f).pending = s.pending := rfl
@[simp] theorem State.onDbg_free (s : State) (f : DbgSt → DbgSt) : (s.onDbg f).free = s.free := rfl
@[simp] theorem State.onDbg_supply (s : State) (f : DbgSt → DbgSt) : (s.onDbg f).supply = s.supply := rfl
@[simp] theorem State.onDbg_sys (s : State) (f : DbgSt → DbgSt) : (s.onDbg f).sys = s.sys := rfl
@[simp] theorem State.onDbg_pow (s : State) (f : DbgSt → DbgSt) : (s.onDbg f).pow = s.pow := rfl
@[simp] theorem State.onDbg_host (s : State) (f : DbgSt → DbgSt) : (s.onDbg f).host = s.host := rfl
@[simp] theorem State.onDbg_ctr (s : State) (f : DbgSt → DbgSt) : (s.onDbg f).ctr = s.ctr := rfl
@[simp] theorem State.onDbg_dbg (s : State) (f : DbgSt → DbgSt) : (s.onDbg f).dbg = f s.dbg := rfl
@[simp] theorem State.onDbg_cairn (s : State) (f : DbgSt → DbgSt) : (s.onDbg f).cairn = s.cairn := rfl
@[simp] theorem State.onDbg_rings (s : State) (f : DbgSt → DbgSt) : (s.onDbg f).rings = s.rings := rfl
@[simp] theorem State.onDbg_links (s : State) (f : DbgSt → DbgSt) : (s.onDbg f).links = s.links := rfl
@[simp] theorem State.onDbg_time (s : State) (f : DbgSt → DbgSt) : (s.onDbg f).time = s.time := rfl
@[simp] theorem State.onDbg_multi (s : State) (f : DbgSt → DbgSt) : (s.onDbg f).multi = s.multi := rfl
@[simp] theorem State.onDbg_red (s : State) (f : DbgSt → DbgSt) : (s.onDbg f).red = s.red := rfl
@[simp] theorem State.onDbg_loop (s : State) (f : DbgSt → DbgSt) : (s.onDbg f).loop = s.loop := rfl
@[simp] theorem State.onDbg_motion (s : State) (f : DbgSt → DbgSt) : (s.onDbg f).motion = s.motion := rfl
@[simp] theorem State.onDbg_disp (s : State) (f : DbgSt → DbgSt) : (s.onDbg f).disp = s.disp := rfl
@[simp] theorem State.onDbg_doors (s : State) (f : DbgSt → DbgSt) : (s.onDbg f).doors = s.doors := rfl
@[simp] theorem State.onDbg_safety (s : State) (f : DbgSt → DbgSt) : (s.onDbg f).safety = s.safety := rfl
@[simp] theorem State.onDbg_field (s : State) (f : DbgSt → DbgSt) : (s.onDbg f).field = s.field := rfl
@[simp] theorem State.onDbg_can (s : State) (f : DbgSt → DbgSt) : (s.onDbg f).can = s.can := rfl
@[simp] theorem State.onDbg_nor (s : State) (f : DbgSt → DbgSt) : (s.onDbg f).nor = s.nor := rfl

/-! ### State.onRec -/

@[simp] theorem State.onRec_pending (s : State) (f : RecSt → RecSt) : (s.onRec f).pending = s.pending := rfl
@[simp] theorem State.onRec_free (s : State) (f : RecSt → RecSt) : (s.onRec f).free = s.free := rfl
@[simp] theorem State.onRec_supply (s : State) (f : RecSt → RecSt) : (s.onRec f).supply = s.supply := rfl
@[simp] theorem State.onRec_sys (s : State) (f : RecSt → RecSt) : (s.onRec f).sys = s.sys := rfl
@[simp] theorem State.onRec_pow (s : State) (f : RecSt → RecSt) : (s.onRec f).pow = s.pow := rfl
@[simp] theorem State.onRec_host (s : State) (f : RecSt → RecSt) : (s.onRec f).host = s.host := rfl
@[simp] theorem State.onRec_ctr (s : State) (f : RecSt → RecSt) : (s.onRec f).ctr = s.ctr := rfl
@[simp] theorem State.onRec_dbg (s : State) (f : RecSt → RecSt) : (s.onRec f).dbg = s.dbg := rfl
@[simp] theorem State.onRec_cairn (s : State) (f : RecSt → RecSt) : (s.onRec f).cairn = f s.cairn := rfl
@[simp] theorem State.onRec_rings (s : State) (f : RecSt → RecSt) : (s.onRec f).rings = s.rings := rfl
@[simp] theorem State.onRec_links (s : State) (f : RecSt → RecSt) : (s.onRec f).links = s.links := rfl
@[simp] theorem State.onRec_time (s : State) (f : RecSt → RecSt) : (s.onRec f).time = s.time := rfl
@[simp] theorem State.onRec_multi (s : State) (f : RecSt → RecSt) : (s.onRec f).multi = s.multi := rfl
@[simp] theorem State.onRec_red (s : State) (f : RecSt → RecSt) : (s.onRec f).red = s.red := rfl
@[simp] theorem State.onRec_loop (s : State) (f : RecSt → RecSt) : (s.onRec f).loop = s.loop := rfl
@[simp] theorem State.onRec_motion (s : State) (f : RecSt → RecSt) : (s.onRec f).motion = s.motion := rfl
@[simp] theorem State.onRec_disp (s : State) (f : RecSt → RecSt) : (s.onRec f).disp = s.disp := rfl
@[simp] theorem State.onRec_doors (s : State) (f : RecSt → RecSt) : (s.onRec f).doors = s.doors := rfl
@[simp] theorem State.onRec_safety (s : State) (f : RecSt → RecSt) : (s.onRec f).safety = s.safety := rfl
@[simp] theorem State.onRec_field (s : State) (f : RecSt → RecSt) : (s.onRec f).field = s.field := rfl
@[simp] theorem State.onRec_can (s : State) (f : RecSt → RecSt) : (s.onRec f).can = s.can := rfl
@[simp] theorem State.onRec_nor (s : State) (f : RecSt → RecSt) : (s.onRec f).nor = s.nor := rfl

/-! ### State.onTime -/

@[simp] theorem State.onTime_pending (s : State) (f : TimeSt → TimeSt) : (s.onTime f).pending = s.pending := rfl
@[simp] theorem State.onTime_free (s : State) (f : TimeSt → TimeSt) : (s.onTime f).free = s.free := rfl
@[simp] theorem State.onTime_supply (s : State) (f : TimeSt → TimeSt) : (s.onTime f).supply = s.supply := rfl
@[simp] theorem State.onTime_sys (s : State) (f : TimeSt → TimeSt) : (s.onTime f).sys = s.sys := rfl
@[simp] theorem State.onTime_pow (s : State) (f : TimeSt → TimeSt) : (s.onTime f).pow = s.pow := rfl
@[simp] theorem State.onTime_host (s : State) (f : TimeSt → TimeSt) : (s.onTime f).host = s.host := rfl
@[simp] theorem State.onTime_ctr (s : State) (f : TimeSt → TimeSt) : (s.onTime f).ctr = s.ctr := rfl
@[simp] theorem State.onTime_dbg (s : State) (f : TimeSt → TimeSt) : (s.onTime f).dbg = s.dbg := rfl
@[simp] theorem State.onTime_cairn (s : State) (f : TimeSt → TimeSt) : (s.onTime f).cairn = s.cairn := rfl
@[simp] theorem State.onTime_rings (s : State) (f : TimeSt → TimeSt) : (s.onTime f).rings = s.rings := rfl
@[simp] theorem State.onTime_links (s : State) (f : TimeSt → TimeSt) : (s.onTime f).links = s.links := rfl
@[simp] theorem State.onTime_time (s : State) (f : TimeSt → TimeSt) : (s.onTime f).time = f s.time := rfl
@[simp] theorem State.onTime_multi (s : State) (f : TimeSt → TimeSt) : (s.onTime f).multi = s.multi := rfl
@[simp] theorem State.onTime_red (s : State) (f : TimeSt → TimeSt) : (s.onTime f).red = s.red := rfl
@[simp] theorem State.onTime_loop (s : State) (f : TimeSt → TimeSt) : (s.onTime f).loop = s.loop := rfl
@[simp] theorem State.onTime_motion (s : State) (f : TimeSt → TimeSt) : (s.onTime f).motion = s.motion := rfl
@[simp] theorem State.onTime_disp (s : State) (f : TimeSt → TimeSt) : (s.onTime f).disp = s.disp := rfl
@[simp] theorem State.onTime_doors (s : State) (f : TimeSt → TimeSt) : (s.onTime f).doors = s.doors := rfl
@[simp] theorem State.onTime_safety (s : State) (f : TimeSt → TimeSt) : (s.onTime f).safety = s.safety := rfl
@[simp] theorem State.onTime_field (s : State) (f : TimeSt → TimeSt) : (s.onTime f).field = s.field := rfl
@[simp] theorem State.onTime_can (s : State) (f : TimeSt → TimeSt) : (s.onTime f).can = s.can := rfl
@[simp] theorem State.onTime_nor (s : State) (f : TimeSt → TimeSt) : (s.onTime f).nor = s.nor := rfl

/-! ### State.onRed -/

@[simp] theorem State.onRed_pending (s : State) (f : RedSt → RedSt) : (s.onRed f).pending = s.pending := rfl
@[simp] theorem State.onRed_free (s : State) (f : RedSt → RedSt) : (s.onRed f).free = s.free := rfl
@[simp] theorem State.onRed_supply (s : State) (f : RedSt → RedSt) : (s.onRed f).supply = s.supply := rfl
@[simp] theorem State.onRed_sys (s : State) (f : RedSt → RedSt) : (s.onRed f).sys = s.sys := rfl
@[simp] theorem State.onRed_pow (s : State) (f : RedSt → RedSt) : (s.onRed f).pow = s.pow := rfl
@[simp] theorem State.onRed_host (s : State) (f : RedSt → RedSt) : (s.onRed f).host = s.host := rfl
@[simp] theorem State.onRed_ctr (s : State) (f : RedSt → RedSt) : (s.onRed f).ctr = s.ctr := rfl
@[simp] theorem State.onRed_dbg (s : State) (f : RedSt → RedSt) : (s.onRed f).dbg = s.dbg := rfl
@[simp] theorem State.onRed_cairn (s : State) (f : RedSt → RedSt) : (s.onRed f).cairn = s.cairn := rfl
@[simp] theorem State.onRed_rings (s : State) (f : RedSt → RedSt) : (s.onRed f).rings = s.rings := rfl
@[simp] theorem State.onRed_links (s : State) (f : RedSt → RedSt) : (s.onRed f).links = s.links := rfl
@[simp] theorem State.onRed_time (s : State) (f : RedSt → RedSt) : (s.onRed f).time = s.time := rfl
@[simp] theorem State.onRed_multi (s : State) (f : RedSt → RedSt) : (s.onRed f).multi = s.multi := rfl
@[simp] theorem State.onRed_red (s : State) (f : RedSt → RedSt) : (s.onRed f).red = f s.red := rfl
@[simp] theorem State.onRed_loop (s : State) (f : RedSt → RedSt) : (s.onRed f).loop = s.loop := rfl
@[simp] theorem State.onRed_motion (s : State) (f : RedSt → RedSt) : (s.onRed f).motion = s.motion := rfl
@[simp] theorem State.onRed_disp (s : State) (f : RedSt → RedSt) : (s.onRed f).disp = s.disp := rfl
@[simp] theorem State.onRed_doors (s : State) (f : RedSt → RedSt) : (s.onRed f).doors = s.doors := rfl
@[simp] theorem State.onRed_safety (s : State) (f : RedSt → RedSt) : (s.onRed f).safety = s.safety := rfl
@[simp] theorem State.onRed_field (s : State) (f : RedSt → RedSt) : (s.onRed f).field = s.field := rfl
@[simp] theorem State.onRed_can (s : State) (f : RedSt → RedSt) : (s.onRed f).can = s.can := rfl
@[simp] theorem State.onRed_nor (s : State) (f : RedSt → RedSt) : (s.onRed f).nor = s.nor := rfl

/-! ### State.onLoop -/

@[simp] theorem State.onLoop_pending (s : State) (f : LoopSt → LoopSt) : (s.onLoop f).pending = s.pending := rfl
@[simp] theorem State.onLoop_free (s : State) (f : LoopSt → LoopSt) : (s.onLoop f).free = s.free := rfl
@[simp] theorem State.onLoop_supply (s : State) (f : LoopSt → LoopSt) : (s.onLoop f).supply = s.supply := rfl
@[simp] theorem State.onLoop_sys (s : State) (f : LoopSt → LoopSt) : (s.onLoop f).sys = s.sys := rfl
@[simp] theorem State.onLoop_pow (s : State) (f : LoopSt → LoopSt) : (s.onLoop f).pow = s.pow := rfl
@[simp] theorem State.onLoop_host (s : State) (f : LoopSt → LoopSt) : (s.onLoop f).host = s.host := rfl
@[simp] theorem State.onLoop_ctr (s : State) (f : LoopSt → LoopSt) : (s.onLoop f).ctr = s.ctr := rfl
@[simp] theorem State.onLoop_dbg (s : State) (f : LoopSt → LoopSt) : (s.onLoop f).dbg = s.dbg := rfl
@[simp] theorem State.onLoop_cairn (s : State) (f : LoopSt → LoopSt) : (s.onLoop f).cairn = s.cairn := rfl
@[simp] theorem State.onLoop_rings (s : State) (f : LoopSt → LoopSt) : (s.onLoop f).rings = s.rings := rfl
@[simp] theorem State.onLoop_links (s : State) (f : LoopSt → LoopSt) : (s.onLoop f).links = s.links := rfl
@[simp] theorem State.onLoop_time (s : State) (f : LoopSt → LoopSt) : (s.onLoop f).time = s.time := rfl
@[simp] theorem State.onLoop_multi (s : State) (f : LoopSt → LoopSt) : (s.onLoop f).multi = s.multi := rfl
@[simp] theorem State.onLoop_red (s : State) (f : LoopSt → LoopSt) : (s.onLoop f).red = s.red := rfl
@[simp] theorem State.onLoop_loop (s : State) (f : LoopSt → LoopSt) : (s.onLoop f).loop = f s.loop := rfl
@[simp] theorem State.onLoop_motion (s : State) (f : LoopSt → LoopSt) : (s.onLoop f).motion = s.motion := rfl
@[simp] theorem State.onLoop_disp (s : State) (f : LoopSt → LoopSt) : (s.onLoop f).disp = s.disp := rfl
@[simp] theorem State.onLoop_doors (s : State) (f : LoopSt → LoopSt) : (s.onLoop f).doors = s.doors := rfl
@[simp] theorem State.onLoop_safety (s : State) (f : LoopSt → LoopSt) : (s.onLoop f).safety = s.safety := rfl
@[simp] theorem State.onLoop_field (s : State) (f : LoopSt → LoopSt) : (s.onLoop f).field = s.field := rfl
@[simp] theorem State.onLoop_can (s : State) (f : LoopSt → LoopSt) : (s.onLoop f).can = s.can := rfl
@[simp] theorem State.onLoop_nor (s : State) (f : LoopSt → LoopSt) : (s.onLoop f).nor = s.nor := rfl

/-! ### State.onMotion -/

@[simp] theorem State.onMotion_pending (s : State) (f : MotionSt → MotionSt) : (s.onMotion f).pending = s.pending := rfl
@[simp] theorem State.onMotion_free (s : State) (f : MotionSt → MotionSt) : (s.onMotion f).free = s.free := rfl
@[simp] theorem State.onMotion_supply (s : State) (f : MotionSt → MotionSt) : (s.onMotion f).supply = s.supply := rfl
@[simp] theorem State.onMotion_sys (s : State) (f : MotionSt → MotionSt) : (s.onMotion f).sys = s.sys := rfl
@[simp] theorem State.onMotion_pow (s : State) (f : MotionSt → MotionSt) : (s.onMotion f).pow = s.pow := rfl
@[simp] theorem State.onMotion_host (s : State) (f : MotionSt → MotionSt) : (s.onMotion f).host = s.host := rfl
@[simp] theorem State.onMotion_ctr (s : State) (f : MotionSt → MotionSt) : (s.onMotion f).ctr = s.ctr := rfl
@[simp] theorem State.onMotion_dbg (s : State) (f : MotionSt → MotionSt) : (s.onMotion f).dbg = s.dbg := rfl
@[simp] theorem State.onMotion_cairn (s : State) (f : MotionSt → MotionSt) : (s.onMotion f).cairn = s.cairn := rfl
@[simp] theorem State.onMotion_rings (s : State) (f : MotionSt → MotionSt) : (s.onMotion f).rings = s.rings := rfl
@[simp] theorem State.onMotion_links (s : State) (f : MotionSt → MotionSt) : (s.onMotion f).links = s.links := rfl
@[simp] theorem State.onMotion_time (s : State) (f : MotionSt → MotionSt) : (s.onMotion f).time = s.time := rfl
@[simp] theorem State.onMotion_multi (s : State) (f : MotionSt → MotionSt) : (s.onMotion f).multi = s.multi := rfl
@[simp] theorem State.onMotion_red (s : State) (f : MotionSt → MotionSt) : (s.onMotion f).red = s.red := rfl
@[simp] theorem State.onMotion_loop (s : State) (f : MotionSt → MotionSt) : (s.onMotion f).loop = s.loop := rfl
@[simp] theorem State.onMotion_motion (s : State) (f : MotionSt → MotionSt) : (s.onMotion f).motion = f s.motion := rfl
@[simp] theorem State.onMotion_disp (s : State) (f : MotionSt → MotionSt) : (s.onMotion f).disp = s.disp := rfl
@[simp] theorem State.onMotion_doors (s : State) (f : MotionSt → MotionSt) : (s.onMotion f).doors = s.doors := rfl
@[simp] theorem State.onMotion_safety (s : State) (f : MotionSt → MotionSt) : (s.onMotion f).safety = s.safety := rfl
@[simp] theorem State.onMotion_field (s : State) (f : MotionSt → MotionSt) : (s.onMotion f).field = s.field := rfl
@[simp] theorem State.onMotion_can (s : State) (f : MotionSt → MotionSt) : (s.onMotion f).can = s.can := rfl
@[simp] theorem State.onMotion_nor (s : State) (f : MotionSt → MotionSt) : (s.onMotion f).nor = s.nor := rfl

/-! ### State.onDisp -/

@[simp] theorem State.onDisp_pending (s : State) (f : DispSt → DispSt) : (s.onDisp f).pending = s.pending := rfl
@[simp] theorem State.onDisp_free (s : State) (f : DispSt → DispSt) : (s.onDisp f).free = s.free := rfl
@[simp] theorem State.onDisp_supply (s : State) (f : DispSt → DispSt) : (s.onDisp f).supply = s.supply := rfl
@[simp] theorem State.onDisp_sys (s : State) (f : DispSt → DispSt) : (s.onDisp f).sys = s.sys := rfl
@[simp] theorem State.onDisp_pow (s : State) (f : DispSt → DispSt) : (s.onDisp f).pow = s.pow := rfl
@[simp] theorem State.onDisp_host (s : State) (f : DispSt → DispSt) : (s.onDisp f).host = s.host := rfl
@[simp] theorem State.onDisp_ctr (s : State) (f : DispSt → DispSt) : (s.onDisp f).ctr = s.ctr := rfl
@[simp] theorem State.onDisp_dbg (s : State) (f : DispSt → DispSt) : (s.onDisp f).dbg = s.dbg := rfl
@[simp] theorem State.onDisp_cairn (s : State) (f : DispSt → DispSt) : (s.onDisp f).cairn = s.cairn := rfl
@[simp] theorem State.onDisp_rings (s : State) (f : DispSt → DispSt) : (s.onDisp f).rings = s.rings := rfl
@[simp] theorem State.onDisp_links (s : State) (f : DispSt → DispSt) : (s.onDisp f).links = s.links := rfl
@[simp] theorem State.onDisp_time (s : State) (f : DispSt → DispSt) : (s.onDisp f).time = s.time := rfl
@[simp] theorem State.onDisp_multi (s : State) (f : DispSt → DispSt) : (s.onDisp f).multi = s.multi := rfl
@[simp] theorem State.onDisp_red (s : State) (f : DispSt → DispSt) : (s.onDisp f).red = s.red := rfl
@[simp] theorem State.onDisp_loop (s : State) (f : DispSt → DispSt) : (s.onDisp f).loop = s.loop := rfl
@[simp] theorem State.onDisp_motion (s : State) (f : DispSt → DispSt) : (s.onDisp f).motion = s.motion := rfl
@[simp] theorem State.onDisp_disp (s : State) (f : DispSt → DispSt) : (s.onDisp f).disp = f s.disp := rfl
@[simp] theorem State.onDisp_doors (s : State) (f : DispSt → DispSt) : (s.onDisp f).doors = s.doors := rfl
@[simp] theorem State.onDisp_safety (s : State) (f : DispSt → DispSt) : (s.onDisp f).safety = s.safety := rfl
@[simp] theorem State.onDisp_field (s : State) (f : DispSt → DispSt) : (s.onDisp f).field = s.field := rfl
@[simp] theorem State.onDisp_can (s : State) (f : DispSt → DispSt) : (s.onDisp f).can = s.can := rfl
@[simp] theorem State.onDisp_nor (s : State) (f : DispSt → DispSt) : (s.onDisp f).nor = s.nor := rfl

/-! ### State.onSafety -/

@[simp] theorem State.onSafety_pending (s : State) (f : SafetySt → SafetySt) : (s.onSafety f).pending = s.pending := rfl
@[simp] theorem State.onSafety_free (s : State) (f : SafetySt → SafetySt) : (s.onSafety f).free = s.free := rfl
@[simp] theorem State.onSafety_supply (s : State) (f : SafetySt → SafetySt) : (s.onSafety f).supply = s.supply := rfl
@[simp] theorem State.onSafety_sys (s : State) (f : SafetySt → SafetySt) : (s.onSafety f).sys = s.sys := rfl
@[simp] theorem State.onSafety_pow (s : State) (f : SafetySt → SafetySt) : (s.onSafety f).pow = s.pow := rfl
@[simp] theorem State.onSafety_host (s : State) (f : SafetySt → SafetySt) : (s.onSafety f).host = s.host := rfl
@[simp] theorem State.onSafety_ctr (s : State) (f : SafetySt → SafetySt) : (s.onSafety f).ctr = s.ctr := rfl
@[simp] theorem State.onSafety_dbg (s : State) (f : SafetySt → SafetySt) : (s.onSafety f).dbg = s.dbg := rfl
@[simp] theorem State.onSafety_cairn (s : State) (f : SafetySt → SafetySt) : (s.onSafety f).cairn = s.cairn := rfl
@[simp] theorem State.onSafety_rings (s : State) (f : SafetySt → SafetySt) : (s.onSafety f).rings = s.rings := rfl
@[simp] theorem State.onSafety_links (s : State) (f : SafetySt → SafetySt) : (s.onSafety f).links = s.links := rfl
@[simp] theorem State.onSafety_time (s : State) (f : SafetySt → SafetySt) : (s.onSafety f).time = s.time := rfl
@[simp] theorem State.onSafety_multi (s : State) (f : SafetySt → SafetySt) : (s.onSafety f).multi = s.multi := rfl
@[simp] theorem State.onSafety_red (s : State) (f : SafetySt → SafetySt) : (s.onSafety f).red = s.red := rfl
@[simp] theorem State.onSafety_loop (s : State) (f : SafetySt → SafetySt) : (s.onSafety f).loop = s.loop := rfl
@[simp] theorem State.onSafety_motion (s : State) (f : SafetySt → SafetySt) : (s.onSafety f).motion = s.motion := rfl
@[simp] theorem State.onSafety_disp (s : State) (f : SafetySt → SafetySt) : (s.onSafety f).disp = s.disp := rfl
@[simp] theorem State.onSafety_doors (s : State) (f : SafetySt → SafetySt) : (s.onSafety f).doors = s.doors := rfl
@[simp] theorem State.onSafety_safety (s : State) (f : SafetySt → SafetySt) : (s.onSafety f).safety = f s.safety := rfl
@[simp] theorem State.onSafety_field (s : State) (f : SafetySt → SafetySt) : (s.onSafety f).field = s.field := rfl
@[simp] theorem State.onSafety_can (s : State) (f : SafetySt → SafetySt) : (s.onSafety f).can = s.can := rfl
@[simp] theorem State.onSafety_nor (s : State) (f : SafetySt → SafetySt) : (s.onSafety f).nor = s.nor := rfl

/-! ### State.onField -/

@[simp] theorem State.onField_pending (s : State) (f : FieldSt → FieldSt) : (s.onField f).pending = s.pending := rfl
@[simp] theorem State.onField_free (s : State) (f : FieldSt → FieldSt) : (s.onField f).free = s.free := rfl
@[simp] theorem State.onField_supply (s : State) (f : FieldSt → FieldSt) : (s.onField f).supply = s.supply := rfl
@[simp] theorem State.onField_sys (s : State) (f : FieldSt → FieldSt) : (s.onField f).sys = s.sys := rfl
@[simp] theorem State.onField_pow (s : State) (f : FieldSt → FieldSt) : (s.onField f).pow = s.pow := rfl
@[simp] theorem State.onField_host (s : State) (f : FieldSt → FieldSt) : (s.onField f).host = s.host := rfl
@[simp] theorem State.onField_ctr (s : State) (f : FieldSt → FieldSt) : (s.onField f).ctr = s.ctr := rfl
@[simp] theorem State.onField_dbg (s : State) (f : FieldSt → FieldSt) : (s.onField f).dbg = s.dbg := rfl
@[simp] theorem State.onField_cairn (s : State) (f : FieldSt → FieldSt) : (s.onField f).cairn = s.cairn := rfl
@[simp] theorem State.onField_rings (s : State) (f : FieldSt → FieldSt) : (s.onField f).rings = s.rings := rfl
@[simp] theorem State.onField_links (s : State) (f : FieldSt → FieldSt) : (s.onField f).links = s.links := rfl
@[simp] theorem State.onField_time (s : State) (f : FieldSt → FieldSt) : (s.onField f).time = s.time := rfl
@[simp] theorem State.onField_multi (s : State) (f : FieldSt → FieldSt) : (s.onField f).multi = s.multi := rfl
@[simp] theorem State.onField_red (s : State) (f : FieldSt → FieldSt) : (s.onField f).red = s.red := rfl
@[simp] theorem State.onField_loop (s : State) (f : FieldSt → FieldSt) : (s.onField f).loop = s.loop := rfl
@[simp] theorem State.onField_motion (s : State) (f : FieldSt → FieldSt) : (s.onField f).motion = s.motion := rfl
@[simp] theorem State.onField_disp (s : State) (f : FieldSt → FieldSt) : (s.onField f).disp = s.disp := rfl
@[simp] theorem State.onField_doors (s : State) (f : FieldSt → FieldSt) : (s.onField f).doors = s.doors := rfl
@[simp] theorem State.onField_safety (s : State) (f : FieldSt → FieldSt) : (s.onField f).safety = s.safety := rfl
@[simp] theorem State.onField_field (s : State) (f : FieldSt → FieldSt) : (s.onField f).field = f s.field := rfl
@[simp] theorem State.onField_can (s : State) (f : FieldSt → FieldSt) : (s.onField f).can = s.can := rfl
@[simp] theorem State.onField_nor (s : State) (f : FieldSt → FieldSt) : (s.onField f).nor = s.nor := rfl

/-! ### State.onCan -/

@[simp] theorem State.onCan_pending (s : State) (f : CanSt → CanSt) : (s.onCan f).pending = s.pending := rfl
@[simp] theorem State.onCan_free (s : State) (f : CanSt → CanSt) : (s.onCan f).free = s.free := rfl
@[simp] theorem State.onCan_supply (s : State) (f : CanSt → CanSt) : (s.onCan f).supply = s.supply := rfl
@[simp] theorem State.onCan_sys (s : State) (f : CanSt → CanSt) : (s.onCan f).sys = s.sys := rfl
@[simp] theorem State.onCan_pow (s : State) (f : CanSt → CanSt) : (s.onCan f).pow = s.pow := rfl
@[simp] theorem State.onCan_host (s : State) (f : CanSt → CanSt) : (s.onCan f).host = s.host := rfl
@[simp] theorem State.onCan_ctr (s : State) (f : CanSt → CanSt) : (s.onCan f).ctr = s.ctr := rfl
@[simp] theorem State.onCan_dbg (s : State) (f : CanSt → CanSt) : (s.onCan f).dbg = s.dbg := rfl
@[simp] theorem State.onCan_cairn (s : State) (f : CanSt → CanSt) : (s.onCan f).cairn = s.cairn := rfl
@[simp] theorem State.onCan_rings (s : State) (f : CanSt → CanSt) : (s.onCan f).rings = s.rings := rfl
@[simp] theorem State.onCan_links (s : State) (f : CanSt → CanSt) : (s.onCan f).links = s.links := rfl
@[simp] theorem State.onCan_time (s : State) (f : CanSt → CanSt) : (s.onCan f).time = s.time := rfl
@[simp] theorem State.onCan_multi (s : State) (f : CanSt → CanSt) : (s.onCan f).multi = s.multi := rfl
@[simp] theorem State.onCan_red (s : State) (f : CanSt → CanSt) : (s.onCan f).red = s.red := rfl
@[simp] theorem State.onCan_loop (s : State) (f : CanSt → CanSt) : (s.onCan f).loop = s.loop := rfl
@[simp] theorem State.onCan_motion (s : State) (f : CanSt → CanSt) : (s.onCan f).motion = s.motion := rfl
@[simp] theorem State.onCan_disp (s : State) (f : CanSt → CanSt) : (s.onCan f).disp = s.disp := rfl
@[simp] theorem State.onCan_doors (s : State) (f : CanSt → CanSt) : (s.onCan f).doors = s.doors := rfl
@[simp] theorem State.onCan_safety (s : State) (f : CanSt → CanSt) : (s.onCan f).safety = s.safety := rfl
@[simp] theorem State.onCan_field (s : State) (f : CanSt → CanSt) : (s.onCan f).field = s.field := rfl
@[simp] theorem State.onCan_can (s : State) (f : CanSt → CanSt) : (s.onCan f).can = f s.can := rfl
@[simp] theorem State.onCan_nor (s : State) (f : CanSt → CanSt) : (s.onCan f).nor = s.nor := rfl

/-! ### State.onMulti -/

@[simp] theorem State.onMulti_pending (s : State) (f : MultiSt → MultiSt) : (s.onMulti f).pending = s.pending := rfl
@[simp] theorem State.onMulti_free (s : State) (f : MultiSt → MultiSt) : (s.onMulti f).free = s.free := rfl
@[simp] theorem State.onMulti_supply (s : State) (f : MultiSt → MultiSt) : (s.onMulti f).supply = s.supply := rfl
@[simp] theorem State.onMulti_sys (s : State) (f : MultiSt → MultiSt) : (s.onMulti f).sys = s.sys := rfl
@[simp] theorem State.onMulti_pow (s : State) (f : MultiSt → MultiSt) : (s.onMulti f).pow = s.pow := rfl
@[simp] theorem State.onMulti_host (s : State) (f : MultiSt → MultiSt) : (s.onMulti f).host = s.host := rfl
@[simp] theorem State.onMulti_ctr (s : State) (f : MultiSt → MultiSt) : (s.onMulti f).ctr = s.ctr := rfl
@[simp] theorem State.onMulti_dbg (s : State) (f : MultiSt → MultiSt) : (s.onMulti f).dbg = s.dbg := rfl
@[simp] theorem State.onMulti_cairn (s : State) (f : MultiSt → MultiSt) : (s.onMulti f).cairn = s.cairn := rfl
@[simp] theorem State.onMulti_rings (s : State) (f : MultiSt → MultiSt) : (s.onMulti f).rings = s.rings := rfl
@[simp] theorem State.onMulti_links (s : State) (f : MultiSt → MultiSt) : (s.onMulti f).links = s.links := rfl
@[simp] theorem State.onMulti_time (s : State) (f : MultiSt → MultiSt) : (s.onMulti f).time = s.time := rfl
@[simp] theorem State.onMulti_multi (s : State) (f : MultiSt → MultiSt) : (s.onMulti f).multi = f s.multi := rfl
@[simp] theorem State.onMulti_red (s : State) (f : MultiSt → MultiSt) : (s.onMulti f).red = s.red := rfl
@[simp] theorem State.onMulti_loop (s : State) (f : MultiSt → MultiSt) : (s.onMulti f).loop = s.loop := rfl
@[simp] theorem State.onMulti_motion (s : State) (f : MultiSt → MultiSt) : (s.onMulti f).motion = s.motion := rfl
@[simp] theorem State.onMulti_disp (s : State) (f : MultiSt → MultiSt) : (s.onMulti f).disp = s.disp := rfl
@[simp] theorem State.onMulti_doors (s : State) (f : MultiSt → MultiSt) : (s.onMulti f).doors = s.doors := rfl
@[simp] theorem State.onMulti_safety (s : State) (f : MultiSt → MultiSt) : (s.onMulti f).safety = s.safety := rfl
@[simp] theorem State.onMulti_field (s : State) (f : MultiSt → MultiSt) : (s.onMulti f).field = s.field := rfl
@[simp] theorem State.onMulti_can (s : State) (f : MultiSt → MultiSt) : (s.onMulti f).can = s.can := rfl
@[simp] theorem State.onMulti_nor (s : State) (f : MultiSt → MultiSt) : (s.onMulti f).nor = s.nor := rfl

/-! ### State.onRing -/

@[simp] theorem State.onRing_pending (s : State) (r : Nat) (f : RingSt → RingSt) : (s.onRing r f).pending = s.pending := rfl
@[simp] theorem State.onRing_free (s : State) (r : Nat) (f : RingSt → RingSt) : (s.onRing r f).free = s.free := rfl
@[simp] theorem State.onRing_supply (s : State) (r : Nat) (f : RingSt → RingSt) : (s.onRing r f).supply = s.supply := rfl
@[simp] theorem State.onRing_sys (s : State) (r : Nat) (f : RingSt → RingSt) : (s.onRing r f).sys = s.sys := rfl
@[simp] theorem State.onRing_pow (s : State) (r : Nat) (f : RingSt → RingSt) : (s.onRing r f).pow = s.pow := rfl
@[simp] theorem State.onRing_host (s : State) (r : Nat) (f : RingSt → RingSt) : (s.onRing r f).host = s.host := rfl
@[simp] theorem State.onRing_ctr (s : State) (r : Nat) (f : RingSt → RingSt) : (s.onRing r f).ctr = s.ctr := rfl
@[simp] theorem State.onRing_dbg (s : State) (r : Nat) (f : RingSt → RingSt) : (s.onRing r f).dbg = s.dbg := rfl
@[simp] theorem State.onRing_cairn (s : State) (r : Nat) (f : RingSt → RingSt) : (s.onRing r f).cairn = s.cairn := rfl
@[simp] theorem State.onRing_rings (s : State) (r : Nat) (f : RingSt → RingSt) : (s.onRing r f).rings = tabMod s.rings {} r f := rfl
@[simp] theorem State.onRing_links (s : State) (r : Nat) (f : RingSt → RingSt) : (s.onRing r f).links = s.links := rfl
@[simp] theorem State.onRing_time (s : State) (r : Nat) (f : RingSt → RingSt) : (s.onRing r f).time = s.time := rfl
@[simp] theorem State.onRing_multi (s : State) (r : Nat) (f : RingSt → RingSt) : (s.onRing r f).multi = s.multi := rfl
@[simp] theorem State.onRing_red (s : State) (r : Nat) (f : RingSt → RingSt) : (s.onRing r f).red = s.red := rfl
@[simp] theorem State.onRing_loop (s : State) (r : Nat) (f : RingSt → RingSt) : (s.onRing r f).loop = s.loop := rfl
@[simp] theorem State.onRing_motion (s : State) (r : Nat) (f : RingSt → RingSt) : (s.onRing r f).motion = s.motion := rfl
@[simp] theorem State.onRing_disp (s : State) (r : Nat) (f : RingSt → RingSt) : (s.onRing r f).disp = s.disp := rfl
@[simp] theorem State.onRing_doors (s : State) (r : Nat) (f : RingSt → RingSt) : (s.onRing r f).doors = s.doors := rfl
@[simp] theorem State.onRing_safety (s : State) (r : Nat) (f : RingSt → RingSt) : (s.onRing r f).safety = s.safety := rfl
@[simp] theorem State.onRing_field (s : State) (r : Nat) (f : RingSt → RingSt) : (s.onRing r f).field = s.field := rfl
@[simp] theorem State.onRing_can (s : State) (r : Nat) (f : RingSt → RingSt) : (s.onRing r f).can = s.can := rfl
@[simp] theorem State.onRing_nor (s : State) (r : Nat) (f : RingSt → RingSt) : (s.onRing r f).nor = s.nor := rfl

/-! ### State.onLink -/

@[simp] theorem State.onLink_pending (s : State) (n : Nat) (f : LinkSt → LinkSt) : (s.onLink n f).pending = s.pending := rfl
@[simp] theorem State.onLink_free (s : State) (n : Nat) (f : LinkSt → LinkSt) : (s.onLink n f).free = s.free := rfl
@[simp] theorem State.onLink_supply (s : State) (n : Nat) (f : LinkSt → LinkSt) : (s.onLink n f).supply = s.supply := rfl
@[simp] theorem State.onLink_sys (s : State) (n : Nat) (f : LinkSt → LinkSt) : (s.onLink n f).sys = s.sys := rfl
@[simp] theorem State.onLink_pow (s : State) (n : Nat) (f : LinkSt → LinkSt) : (s.onLink n f).pow = s.pow := rfl
@[simp] theorem State.onLink_host (s : State) (n : Nat) (f : LinkSt → LinkSt) : (s.onLink n f).host = s.host := rfl
@[simp] theorem State.onLink_ctr (s : State) (n : Nat) (f : LinkSt → LinkSt) : (s.onLink n f).ctr = s.ctr := rfl
@[simp] theorem State.onLink_dbg (s : State) (n : Nat) (f : LinkSt → LinkSt) : (s.onLink n f).dbg = s.dbg := rfl
@[simp] theorem State.onLink_cairn (s : State) (n : Nat) (f : LinkSt → LinkSt) : (s.onLink n f).cairn = s.cairn := rfl
@[simp] theorem State.onLink_rings (s : State) (n : Nat) (f : LinkSt → LinkSt) : (s.onLink n f).rings = s.rings := rfl
@[simp] theorem State.onLink_links (s : State) (n : Nat) (f : LinkSt → LinkSt) : (s.onLink n f).links = tabMod s.links {} n f := rfl
@[simp] theorem State.onLink_time (s : State) (n : Nat) (f : LinkSt → LinkSt) : (s.onLink n f).time = s.time := rfl
@[simp] theorem State.onLink_multi (s : State) (n : Nat) (f : LinkSt → LinkSt) : (s.onLink n f).multi = s.multi := rfl
@[simp] theorem State.onLink_red (s : State) (n : Nat) (f : LinkSt → LinkSt) : (s.onLink n f).red = s.red := rfl
@[simp] theorem State.onLink_loop (s : State) (n : Nat) (f : LinkSt → LinkSt) : (s.onLink n f).loop = s.loop := rfl
@[simp] theorem State.onLink_motion (s : State) (n : Nat) (f : LinkSt → LinkSt) : (s.onLink n f).motion = s.motion := rfl
@[simp] theorem State.onLink_disp (s : State) (n : Nat) (f : LinkSt → LinkSt) : (s.onLink n f).disp = s.disp := rfl
@[simp] theorem State.onLink_doors (s : State) (n : Nat) (f : LinkSt → LinkSt) : (s.onLink n f).doors = s.doors := rfl
@[simp] theorem State.onLink_safety (s : State) (n : Nat) (f : LinkSt → LinkSt) : (s.onLink n f).safety = s.safety := rfl
@[simp] theorem State.onLink_field (s : State) (n : Nat) (f : LinkSt → LinkSt) : (s.onLink n f).field = s.field := rfl
@[simp] theorem State.onLink_can (s : State) (n : Nat) (f : LinkSt → LinkSt) : (s.onLink n f).can = s.can := rfl
@[simp] theorem State.onLink_nor (s : State) (n : Nat) (f : LinkSt → LinkSt) : (s.onLink n f).nor = s.nor := rfl

/-! ### State.onDoor -/

@[simp] theorem State.onDoor_pending (s : State) (d : Nat) (f : DoorSt → DoorSt) : (s.onDoor d f).pending = s.pending := rfl
@[simp] theorem State.onDoor_free (s : State) (d : Nat) (f : DoorSt → DoorSt) : (s.onDoor d f).free = s.free := rfl
@[simp] theorem State.onDoor_supply (s : State) (d : Nat) (f : DoorSt → DoorSt) : (s.onDoor d f).supply = s.supply := rfl
@[simp] theorem State.onDoor_sys (s : State) (d : Nat) (f : DoorSt → DoorSt) : (s.onDoor d f).sys = s.sys := rfl
@[simp] theorem State.onDoor_pow (s : State) (d : Nat) (f : DoorSt → DoorSt) : (s.onDoor d f).pow = s.pow := rfl
@[simp] theorem State.onDoor_host (s : State) (d : Nat) (f : DoorSt → DoorSt) : (s.onDoor d f).host = s.host := rfl
@[simp] theorem State.onDoor_ctr (s : State) (d : Nat) (f : DoorSt → DoorSt) : (s.onDoor d f).ctr = s.ctr := rfl
@[simp] theorem State.onDoor_dbg (s : State) (d : Nat) (f : DoorSt → DoorSt) : (s.onDoor d f).dbg = s.dbg := rfl
@[simp] theorem State.onDoor_cairn (s : State) (d : Nat) (f : DoorSt → DoorSt) : (s.onDoor d f).cairn = s.cairn := rfl
@[simp] theorem State.onDoor_rings (s : State) (d : Nat) (f : DoorSt → DoorSt) : (s.onDoor d f).rings = s.rings := rfl
@[simp] theorem State.onDoor_links (s : State) (d : Nat) (f : DoorSt → DoorSt) : (s.onDoor d f).links = s.links := rfl
@[simp] theorem State.onDoor_time (s : State) (d : Nat) (f : DoorSt → DoorSt) : (s.onDoor d f).time = s.time := rfl
@[simp] theorem State.onDoor_multi (s : State) (d : Nat) (f : DoorSt → DoorSt) : (s.onDoor d f).multi = s.multi := rfl
@[simp] theorem State.onDoor_red (s : State) (d : Nat) (f : DoorSt → DoorSt) : (s.onDoor d f).red = s.red := rfl
@[simp] theorem State.onDoor_loop (s : State) (d : Nat) (f : DoorSt → DoorSt) : (s.onDoor d f).loop = s.loop := rfl
@[simp] theorem State.onDoor_motion (s : State) (d : Nat) (f : DoorSt → DoorSt) : (s.onDoor d f).motion = s.motion := rfl
@[simp] theorem State.onDoor_disp (s : State) (d : Nat) (f : DoorSt → DoorSt) : (s.onDoor d f).disp = s.disp := rfl
@[simp] theorem State.onDoor_doors (s : State) (d : Nat) (f : DoorSt → DoorSt) : (s.onDoor d f).doors = tabMod s.doors {} d f := rfl
@[simp] theorem State.onDoor_safety (s : State) (d : Nat) (f : DoorSt → DoorSt) : (s.onDoor d f).safety = s.safety := rfl
@[simp] theorem State.onDoor_field (s : State) (d : Nat) (f : DoorSt → DoorSt) : (s.onDoor d f).field = s.field := rfl
@[simp] theorem State.onDoor_can (s : State) (d : Nat) (f : DoorSt → DoorSt) : (s.onDoor d f).can = s.can := rfl
@[simp] theorem State.onDoor_nor (s : State) (d : Nat) (f : DoorSt → DoorSt) : (s.onDoor d f).nor = s.nor := rfl

/-! ### State.withPending -/

@[simp] theorem State.withPending_pending (s : State) (l : List Instr) : (s.withPending l).pending = l := rfl
@[simp] theorem State.withPending_free (s : State) (l : List Instr) : (s.withPending l).free = s.free := rfl
@[simp] theorem State.withPending_supply (s : State) (l : List Instr) : (s.withPending l).supply = s.supply := rfl
@[simp] theorem State.withPending_sys (s : State) (l : List Instr) : (s.withPending l).sys = s.sys := rfl
@[simp] theorem State.withPending_pow (s : State) (l : List Instr) : (s.withPending l).pow = s.pow := rfl
@[simp] theorem State.withPending_host (s : State) (l : List Instr) : (s.withPending l).host = s.host := rfl
@[simp] theorem State.withPending_ctr (s : State) (l : List Instr) : (s.withPending l).ctr = s.ctr := rfl
@[simp] theorem State.withPending_dbg (s : State) (l : List Instr) : (s.withPending l).dbg = s.dbg := rfl
@[simp] theorem State.withPending_cairn (s : State) (l : List Instr) : (s.withPending l).cairn = s.cairn := rfl
@[simp] theorem State.withPending_rings (s : State) (l : List Instr) : (s.withPending l).rings = s.rings := rfl
@[simp] theorem State.withPending_links (s : State) (l : List Instr) : (s.withPending l).links = s.links := rfl
@[simp] theorem State.withPending_time (s : State) (l : List Instr) : (s.withPending l).time = s.time := rfl
@[simp] theorem State.withPending_multi (s : State) (l : List Instr) : (s.withPending l).multi = s.multi := rfl
@[simp] theorem State.withPending_red (s : State) (l : List Instr) : (s.withPending l).red = s.red := rfl
@[simp] theorem State.withPending_loop (s : State) (l : List Instr) : (s.withPending l).loop = s.loop := rfl
@[simp] theorem State.withPending_motion (s : State) (l : List Instr) : (s.withPending l).motion = s.motion := rfl
@[simp] theorem State.withPending_disp (s : State) (l : List Instr) : (s.withPending l).disp = s.disp := rfl
@[simp] theorem State.withPending_doors (s : State) (l : List Instr) : (s.withPending l).doors = s.doors := rfl
@[simp] theorem State.withPending_safety (s : State) (l : List Instr) : (s.withPending l).safety = s.safety := rfl
@[simp] theorem State.withPending_field (s : State) (l : List Instr) : (s.withPending l).field = s.field := rfl
@[simp] theorem State.withPending_can (s : State) (l : List Instr) : (s.withPending l).can = s.can := rfl
@[simp] theorem State.withPending_nor (s : State) (l : List Instr) : (s.withPending l).nor = s.nor := rfl

/-! ### State.push -/

@[simp] theorem State.push_pending (s : State) (c : Instr) : (s.push c).pending = c :: s.pending := rfl
@[simp] theorem State.push_free (s : State) (c : Instr) : (s.push c).free = s.free := rfl
@[simp] theorem State.push_supply (s : State) (c : Instr) : (s.push c).supply = s.supply := rfl
@[simp] theorem State.push_sys (s : State) (c : Instr) : (s.push c).sys = s.sys := rfl
@[simp] theorem State.push_pow (s : State) (c : Instr) : (s.push c).pow = s.pow := rfl
@[simp] theorem State.push_host (s : State) (c : Instr) : (s.push c).host = s.host := rfl
@[simp] theorem State.push_ctr (s : State) (c : Instr) : (s.push c).ctr = s.ctr := rfl
@[simp] theorem State.push_dbg (s : State) (c : Instr) : (s.push c).dbg = s.dbg := rfl
@[simp] theorem State.push_cairn (s : State) (c : Instr) : (s.push c).cairn = s.cairn := rfl
@[simp] theorem State.push_rings (s : State) (c : Instr) : (s.push c).rings = s.rings := rfl
@[simp] theorem State.push_links (s : State) (c : Instr) : (s.push c).links = s.links := rfl
@[simp] theorem State.push_time (s : State) (c : Instr) : (s.push c).time = s.time := rfl
@[simp] theorem State.push_multi (s : State) (c : Instr) : (s.push c).multi = s.multi := rfl
@[simp] theorem State.push_red (s : State) (c : Instr) : (s.push c).red = s.red := rfl
@[simp] theorem State.push_loop (s : State) (c : Instr) : (s.push c).loop = s.loop := rfl
@[simp] theorem State.push_motion (s : State) (c : Instr) : (s.push c).motion = s.motion := rfl
@[simp] theorem State.push_disp (s : State) (c : Instr) : (s.push c).disp = s.disp := rfl
@[simp] theorem State.push_doors (s : State) (c : Instr) : (s.push c).doors = s.doors := rfl
@[simp] theorem State.push_safety (s : State) (c : Instr) : (s.push c).safety = s.safety := rfl
@[simp] theorem State.push_field (s : State) (c : Instr) : (s.push c).field = s.field := rfl
@[simp] theorem State.push_can (s : State) (c : Instr) : (s.push c).can = s.can := rfl
@[simp] theorem State.push_nor (s : State) (c : Instr) : (s.push c).nor = s.nor := rfl

/-! ### draw -/

@[simp] theorem draw_fst (s : State) : (draw s).1 = s.free := rfl
@[simp] theorem draw_snd_pending (s : State) : (draw s).2.pending = s.pending := rfl
@[simp] theorem draw_snd_free (s : State) : (draw s).2.free = s.free + 1 := rfl
@[simp] theorem draw_snd_supply (s : State) : (draw s).2.supply = s.supply := rfl
@[simp] theorem draw_snd_sys (s : State) : (draw s).2.sys = s.sys := rfl
@[simp] theorem draw_snd_pow (s : State) : (draw s).2.pow = s.pow := rfl
@[simp] theorem draw_snd_host (s : State) : (draw s).2.host = s.host := rfl
@[simp] theorem draw_snd_ctr (s : State) : (draw s).2.ctr = s.ctr := rfl
@[simp] theorem draw_snd_dbg (s : State) : (draw s).2.dbg = s.dbg := rfl
@[simp] theorem draw_snd_cairn (s : State) : (draw s).2.cairn = s.cairn := rfl
@[simp] theorem draw_snd_rings (s : State) : (draw s).2.rings = s.rings := rfl
@[simp] theorem draw_snd_links (s : State) : (draw s).2.links = s.links := rfl
@[simp] theorem draw_snd_time (s : State) : (draw s).2.time = s.time := rfl
@[simp] theorem draw_snd_multi (s : State) : (draw s).2.multi = s.multi := rfl
@[simp] theorem draw_snd_red (s : State) : (draw s).2.red = s.red := rfl
@[simp] theorem draw_snd_loop (s : State) : (draw s).2.loop = s.loop := rfl
@[simp] theorem draw_snd_motion (s : State) : (draw s).2.motion = s.motion := rfl
@[simp] theorem draw_snd_disp (s : State) : (draw s).2.disp = s.disp := rfl
@[simp] theorem draw_snd_doors (s : State) : (draw s).2.doors = s.doors := rfl
@[simp] theorem draw_snd_safety (s : State) : (draw s).2.safety = s.safety := rfl
@[simp] theorem draw_snd_field (s : State) : (draw s).2.field = s.field := rfl
@[simp] theorem draw_snd_can (s : State) : (draw s).2.can = s.can := rfl
@[simp] theorem draw_snd_nor (s : State) : (draw s).2.nor = s.nor := rfl

/-! ### The queue -/

@[simp] theorem State.push_withPending (s : State) (c : Instr) : (s.push c).withPending s.pending = s := rfl

/-- A step on an empty queue idles. -/
theorem step_nil {s : State} (h : s.pending = []) : step s = .next s := by
  unfold step
  rw [h]

/-- A step runs the command at the front on the state with the rest. -/
theorem step_cons {s : State} {c : Instr} {l : List Instr} (h : s.pending = c :: l) :
    step s = exec c (s.withPending l) := by
  unfold step
  rw [h]

end Sys2Proof.Machine
end

