-- ==== Sys2Proof/Laws/Host.lean ====
section
/-! SUPPORT. What serving a request and answering it do (02 R45, R46): each case of the shared operations, once. -/

namespace Sys2Proof.Machine

open Sys2Proof

variable {s : State} {r : Request} {op : Nat} {ready : Bool} {bad : Option Nat} {clamps : List Nat}
  {run : Request → State → State}

/-- Without the right, DENIED. -/
theorem serve_denied (h : hasRight s r.part op = false) :
    serve s r op ready bad clamps run = denied s { r with opcode := op } := by
  unfold serve
  simp [h]

/-- With the right and not ready, NOT_READY. -/
theorem serve_notReady (h : hasRight s r.part op = true) (hr : ready = false) :
    serve s r op ready bad clamps run = notReady s { r with opcode := op } := by
  unfold serve
  simp [h, hr]

/-- With the right, ready, and a field outside its enumeration, NO_SUCH with that field's offset. -/
theorem serve_noSuch {o : Nat} (h : hasRight s r.part op = true) (hr : ready = true) (hb : bad = some o) :
    serve s r op ready bad clamps run = noSuch s { r with opcode := op } o := by
  unfold serve
  simp [h, hr, hb]

/-- Otherwise the command runs, its clamped fields counted. -/
theorem serve_runs (h : hasRight s r.part op = true) (hr : ready = true) (hb : bad = none) :
    serve s r op ready bad clamps run =
      run { r with opcode := op } (noteClamps s { r with opcode := op } clamps) := by
  unfold serve
  simp [h, hr, hb]

/-- With no field to clamp, the command runs on the state as it is. -/
theorem serve_runs_nil (h : hasRight s r.part op = true) (hr : ready = true) (hb : bad = none) :
    serve s r op ready bad [] run = run { r with opcode := op } s := serve_runs h hr hb

/-- A journalled request writes no completion (13 R377). -/
theorem answer_journal {c : Completion} (h : r.queue = journalQueue) : answer s r c = s := by
  unfold answer
  simp [h]

/-- No field fails. -/
theorem firstBad_none {l : List (Nat × Bool)} (h : ∀ x ∈ l, x.2 = true) : firstBad l = none := by
  induction l with
  | nil => rfl
  | cons a l ih =>
    obtain ⟨o, b⟩ := a
    have hb : b = true := h (o, b) (List.mem_cons_self ..)
    simp [firstBad, ih fun x hx => h x (List.mem_cons_of_mem _ hx), hb]

end Sys2Proof.Machine
end

