-- ==== Sys2Proof/Laws/Kept.lean ====
section
/-! SUPPORT. What every operation of the block keeps: one relation between the state before and the state after, with the
parts that some operations may change named, and its lemmas for the updates of components. -/
namespace Sys2Proof.Machine

/-- Parts of the state that only named operations change. -/
inductive Part where
  /-- the two memories of the debug window -/
  | mem
  /-- counts of the global counter set may fall -/
  | cnt
  /-- the lifecycle -/
  | lc
  /-- stored safety configuration and password -/
  | cfg
  /-- latched trips of the Scarp die -/
  | trips
  /-- the cycle number -/
  | cycle
  deriving DecidableEq, Repr

/-- Both memories of the debug window are in canonical form. -/
def MemsWf (d : DbgSt) : Prop := Mem.wf d.lpddr = true ∧ Mem.wf d.wlocal = true

/-- The memories of the debug window stay, or are both cleared. -/
def MemsKept (x : Part → Bool) (d e : DbgSt) : Prop :=
  x .mem = true ∨ (e.lpddr = d.lpddr ∧ e.wlocal = d.wlocal) ∨ (e.lpddr = [] ∧ e.wlocal = [])

/-- A count within its width stays within it, and does not fall. -/
def CntKept (x : Part → Bool) (c d : CtrSt) : Prop :=
  ∀ i, tabGet c.cnt 0 i ≤ max48 → tabGet d.cnt 0 i ≤ max48 ∧ (x .cnt = true ∨ tabGet c.cnt 0 i ≤ tabGet d.cnt 0 i)

/-- Fuses only burn: the lifecycle stays, minimum SVN and minimum slots only rise, revocations stay. -/
def FuseKept (x : Part → Bool) (y z : SysSt) : Prop :=
  (x .lc = true ∨ z.lc = y.lc) ∧ (∀ k, tabGet y.minSvn 0 k ≤ tabGet z.minSvn 0 k) ∧
  ∀ k, (tabGet y.keys {} k).minSlot ≤ (tabGet z.keys {} k).minSlot ∧
    ∀ i, (tabGet y.keys {} k).revoked.getLsbD i = true → (tabGet z.keys {} k).revoked.getLsbD i = true

/-- The stored configuration of a channel stays. -/
def CfgKept (x : Part → Bool) (a b : ChanSt) : Prop := x .cfg = true ∨ b.image = a.image

/-- Latched trips of a channel stay. -/
def TripsKept (x : Part → Bool) (a b : ChanSt) : Prop :=
  x .trips = true ∨ ∀ n c, c ∈ latchOf a n → c ∈ latchOf b n

/-- What an operation keeps of the safety part: the change log's numbering, what is stored, the trips of the Scarp die. -/
def SafetyKept (x : Part → Bool) (y z : SafetySt) : Prop :=
  y.logSeq ≤ z.logSeq ∧ CfgKept x y.core z.core ∧ CfgKept x y.scarp z.scarp ∧ TripsKept x y.scarp z.scarp ∧
  (x .cfg = true ∨ z.password = y.password)

/-- What an operation keeps: the queue of waiting commands, the numbering of free values, canonical memories, counts, fuses,
stored safety configuration and trips, the cycle number, but for the parts named. -/
structure Kept (x : Part → Bool) (s t : State) : Prop where
  pending : t.pending = s.pending
  free : s.free ≤ t.free
  wf : MemsWf s.dbg → MemsWf t.dbg
  mem : MemsKept x s.dbg t.dbg
  cnt : CntKept x s.ctr t.ctr
  fuse : FuseKept x s.sys t.sys
  safety : SafetyKept x s.safety t.safety
  cycle : x .cycle = true ∨ t.time.cycle = s.time.cycle

variable {x : Part → Bool} {s0 s t : State} {α : Type}

theorem CfgKept.rfl' {a : ChanSt} : CfgKept x a a := .inr rfl
theorem TripsKept.rfl' {a : ChanSt} : TripsKept x a a := .inr fun _ _ h => h
theorem SafetyKept.rfl' {y : SafetySt} : SafetyKept x y y :=
  ⟨Nat.le_refl _, .inr rfl, .inr rfl, TripsKept.rfl', .inr rfl⟩
theorem FuseKept.rfl' {y : SysSt} : FuseKept x y y :=
  ⟨.inr rfl, fun _ => Nat.le_refl _, fun _ => ⟨Nat.le_refl _, fun _ h => h⟩⟩
theorem CntKept.rfl' {c : CtrSt} : CntKept x c c := fun _ h => ⟨h, .inr (Nat.le_refl _)⟩
theorem MemsKept.rfl' {d : DbgSt} : MemsKept x d d := .inr (.inl ⟨rfl, rfl⟩)

theorem FuseKept.same {y z : SysSt} (h1 : z.lc = y.lc) (h2 : z.minSvn = y.minSvn) (h3 : z.keys = y.keys) : FuseKept x y z :=
  ⟨.inr h1, fun _ => Nat.le_of_eq (by rw [h2]), fun _ => by rw [h3]; exact ⟨Nat.le_refl _, fun _ h => h⟩⟩
theorem SafetyKept.same {y z : SafetySt} (h1 : z.logSeq = y.logSeq) (h2 : z.core = y.core) (h3 : z.scarp = y.scarp)
    (h4 : z.password = y.password) : SafetyKept x y z :=
  ⟨Nat.le_of_eq h1.symm, .inr (by rw [h2]), .inr (by rw [h3]), by rw [h3]; exact TripsKept.rfl', .inr h4⟩
theorem CntKept.same {c d : CtrSt} (h : d.cnt = c.cnt) : CntKept x c d := fun _ w => by
  rw [h]; exact ⟨w, .inr (Nat.le_refl _)⟩
theorem MemsKept.same {d e : DbgSt} (h1 : e.lpddr = d.lpddr) (h2 : e.wlocal = d.wlocal) : MemsKept x d e :=
  .inr (.inl ⟨h1, h2⟩)
theorem MemsWf.same {d e : DbgSt} (w : MemsWf d) (h1 : e.lpddr = d.lpddr) (h2 : e.wlocal = d.wlocal) : MemsWf e := by
  unfold MemsWf; rw [h1, h2]; exact w
theorem TripsKept.same {a b : ChanSt} (h1 : b.modTrip = a.modTrip) (h2 : b.shaftTrip = a.shaftTrip) : TripsKept x a b :=
  .inr fun n c h => by unfold latchOf at *; rw [h1, h2]; exact h

theorem CfgKept.same {a b : ChanSt} (h : b.image = a.image) : CfgKept x a b := .inr h

/-- Nothing changed keeps everything. -/
theorem Kept.rfl' : Kept x s s :=
  ⟨rfl, Nat.le_refl _, id, MemsKept.rfl', CntKept.rfl', FuseKept.rfl', SafetyKept.rfl', .inr rfl⟩

theorem CfgKept.trans {a b c : ChanSt} (h : CfgKept x a b) (g : CfgKept x b c) : CfgKept x a c := by
  rcases h with h | h
  · exact .inl h
  · rcases g with g | g
    · exact .inl g
    · exact .inr (g.trans h)

theorem TripsKept.trans {a b c : ChanSt} (h : TripsKept x a b) (g : TripsKept x b c) : TripsKept x a c := by
  rcases h with h | h
  · exact .inl h
  · rcases g with g | g
    · exact .inl g
    · exact .inr fun n k hk => g n k (h n k hk)

theorem SafetyKept.trans {a b c : SafetySt} (h : SafetyKept x a b) (g : SafetyKept x b c) : SafetyKept x a c := by
  obtain ⟨h1, h2, h3, h4, h5⟩ := h
  obtain ⟨g1, g2, g3, g4, g5⟩ := g
  refine ⟨Nat.le_trans h1 g1, h2.trans g2, h3.trans g3, h4.trans g4, ?_⟩
  rcases h5 with h | h
  · exact .inl h
  · rcases g5 with g | g
    · exact .inl g
    · exact .inr (g.trans h)

theorem FuseKept.trans {a b c : SysSt} (h : FuseKept x a b) (g : FuseKept x b c) : FuseKept x a c := by
  obtain ⟨h1, h2, h3⟩ := h
  obtain ⟨g1, g2, g3⟩ := g
  refine ⟨?_, fun k => Nat.le_trans (h2 k) (g2 k), fun k =>
    ⟨Nat.le_trans (h3 k).1 (g3 k).1, fun i hi => (g3 k).2 i ((h3 k).2 i hi)⟩⟩
  rcases h1 with h | h
  · exact .inl h
  · rcases g1 with g | g
    · exact .inl g
    · exact .inr (g.trans h)

theorem CntKept.trans {a b c : CtrSt} (h : CntKept x a b) (g : CntKept x b c) : CntKept x a c := by
  intro i hi
  obtain ⟨hb, h⟩ := h i hi
  obtain ⟨gb, g⟩ := g i hb
  refine ⟨gb, ?_⟩
  rcases h with h | h
  · exact .inl h
  · rcases g with g | g
    · exact .inl g
    · exact .inr (Nat.le_trans h g)

theorem MemsKept.trans {a b c : DbgSt} (h : MemsKept x a b) (g : MemsKept x b c) : MemsKept x a c := by
  rcases g with g | ⟨g1, g2⟩ | g
  · exact .inl g
  · rcases h with h | ⟨h1, h2⟩ | ⟨h1, h2⟩
    · exact .inl h
    · exact .inr (.inl ⟨g1.trans h1, g2.trans h2⟩)
    · exact .inr (.inr ⟨g1.trans h1, g2.trans h2⟩)
  · exact .inr (.inr g)

/-- What two operations keep, both keep in a row. -/
theorem Kept.trans {u : State} (h : Kept x s t) (g : Kept x t u) : Kept x s u := by
  refine ⟨g.pending.trans h.pending, Nat.le_trans h.free g.free, fun w => g.wf (h.wf w), h.mem.trans g.mem, h.cnt.trans g.cnt,
    h.fuse.trans g.fuse, h.safety.trans g.safety, ?_⟩
  rcases h.cycle with h | h
  · exact .inl h
  · rcases g.cycle with g | g
    · exact .inl g
    · exact .inr (g.trans h)

/-- An update that leaves the parts named as they are. -/
theorem Kept.upd (h : Kept x s0 s) (h1 : t.pending = s.pending) (h2 : t.free = s.free) (h3 : t.dbg = s.dbg)
    (h4 : t.ctr = s.ctr) (h5 : t.sys = s.sys) (h6 : t.safety = s.safety) (h7 : t.time = s.time) : Kept x s0 t := by
  refine h.trans ⟨h1, Nat.le_of_eq h2.symm, fun w => h3 ▸ w, ?_, ?_, ?_, ?_, .inr (by rw [h7])⟩
  · rw [h3]; exact MemsKept.rfl'
  · rw [h4]; exact CntKept.rfl'
  · rw [h5]; exact FuseKept.rfl'
  · rw [h6]; exact SafetyKept.rfl'

/-- The same, for a state written out. -/
theorem Kept.literal {p f su sy po ho ct db ca ri li ti mu re lo mo di do_ sa fi cn no}
    (h1 : p = s.pending) (h2 : f = s.free) (h3 : db = s.dbg) (h4 : ct = s.ctr) (h5 : sy = s.sys) (h6 : sa = s.safety)
    (h7 : ti = s.time) (h : Kept x s0 s) :
    Kept x s0 ⟨p, f, su, sy, po, ho, ct, db, ca, ri, li, ti, mu, re, lo, mo, di, do_, sa, fi, cn, no⟩ :=
  h.upd h1 h2 h3 h4 h5 h6 h7

theorem State.each_kept {l : List α} {f : State → α → State} (h : Kept x s0 s)
    (hf : ∀ s a, Kept x s0 s → Kept x s0 (f s a)) : Kept x s0 (s.each l f) := by
  unfold State.each
  induction l generalizing s with
  | nil => exact h
  | cons a l ih => exact ih (hf s a h)

theorem foldl_kept {l : List α} {f : State → α → State} (h : Kept x s0 s)
    (hf : ∀ s a, Kept x s0 s → Kept x s0 (f s a)) : Kept x s0 (l.foldl f s) := State.each_kept h hf

theorem State.onSys_kept {f : SysSt → SysSt} (h : Kept x s0 s) (hf : FuseKept x s.sys (f s.sys)) :
    Kept x s0 (s.onSys f) :=
  h.trans ⟨rfl, Nat.le_refl _, id, MemsKept.rfl', CntKept.rfl', hf, SafetyKept.rfl', .inr rfl⟩

theorem State.onSafety_kept {f : SafetySt → SafetySt} (h : Kept x s0 s) (hf : ∀ y, SafetyKept x y (f y)) :
    Kept x s0 (s.onSafety f) :=
  h.trans ⟨rfl, Nat.le_refl _, id, MemsKept.rfl', CntKept.rfl', FuseKept.rfl', hf _, .inr rfl⟩

theorem State.onCtr_kept {f : CtrSt → CtrSt} (h : Kept x s0 s) (hf : ∀ y, CntKept x y (f y)) :
    Kept x s0 (s.onCtr f) :=
  h.trans ⟨rfl, Nat.le_refl _, id, MemsKept.rfl', hf _, FuseKept.rfl', SafetyKept.rfl', .inr rfl⟩

theorem State.onDbg_kept {f : DbgSt → DbgSt} (h : Kept x s0 s) (hw : ∀ y, MemsWf y → MemsWf (f y))
    (hf : ∀ y, MemsKept x y (f y)) : Kept x s0 (s.onDbg f) :=
  h.trans ⟨rfl, Nat.le_refl _, hw _, hf _, CntKept.rfl', FuseKept.rfl', SafetyKept.rfl', .inr rfl⟩

theorem State.onTime_kept {f : TimeSt → TimeSt} (h : Kept x s0 s)
    (hf : ∀ y, x .cycle = true ∨ (f y).cycle = y.cycle) : Kept x s0 (s.onTime f) :=
  h.trans ⟨rfl, Nat.le_refl _, id, MemsKept.rfl', CntKept.rfl', FuseKept.rfl', SafetyKept.rfl', hf _⟩

theorem State.onChan_kept {c : Chan} {f : ChanSt → ChanSt} (h : Kept x s0 s) (h1 : ∀ y, CfgKept x y (f y))
    (h2 : ∀ y, TripsKept x y (f y)) : Kept x s0 (s.onChan c f) := by
  unfold State.onChan
  refine State.onSafety_kept h fun y => ?_
  cases c
  · exact ⟨Nat.le_refl _, h1 _, CfgKept.rfl', TripsKept.rfl', .inr rfl⟩
  · exact ⟨Nat.le_refl _, CfgKept.rfl', h1 _, h2 _, .inr rfl⟩

theorem draw_kept {n : Nat} {t : State} (e : draw s = (n, t)) (h : Kept x s0 s) : Kept x s0 t := by
  cases e
  exact h.trans ⟨rfl, Nat.le_succ _, id, MemsKept.rfl', CntKept.rfl', FuseKept.rfl', SafetyKept.rfl', .inr rfl⟩

theorem draw_kept_proj (h : Kept x s0 s) : Kept x s0 (draw s).2 := draw_kept rfl h

theorem foldl_kept_fst {β : Type} {l : List α} {f : State × β → α → State × β} {p : State × β} (h : Kept x s0 p.1)
    (hf : ∀ p a, Kept x s0 p.1 → Kept x s0 (f p a).1) : Kept x s0 (l.foldl f p).1 := by
  induction l generalizing p with
  | nil => exact h
  | cons a l ih => exact ih (hf p a h)

theorem foldr_kept {l : List α} {f : α → State → State} (h : Kept x s0 s)
    (hf : ∀ a s, Kept x s0 s → Kept x s0 (f a s)) : Kept x s0 (l.foldr f s) := by
  induction l with
  | nil => exact h
  | cons a l ih => exact hf a _ ih

theorem Kept.ite {c : Prop} [Decidable c] {a b : State} (h : Kept x s0 a) (g : Kept x s0 b) :
    Kept x s0 (if c then a else b) := by
  split
  · exact h
  · exact g

/-- A state that may be there, kept. -/
structure Held (x : Part → Bool) (s0 : State) (o : Option State) : Prop where
  all : ∀ t, o = some t → Kept x s0 t

theorem Held.some (h : Kept x s0 t) : Held x s0 (some t) := ⟨fun _ e => by cases e; exact h⟩
theorem Held.none : Held x s0 none := ⟨fun _ e => by cases e⟩
theorem Held.map {f : α → State} {o : Option α} (h : ∀ a, Kept x s0 (f a)) : Held x s0 (o.map f) := by
  cases o with
  | none => exact Held.none
  | some a => exact Held.some (h a)

theorem keepLatch {y : ChanSt} {n m : Nat} {l : List Nat} (h : ∀ c, c ∈ latchOf y m → c ∈ l) {c : Nat}
    (hc : c ∈ latchOf y n) (ht : ∀ k, tabGet (tabSet y.shaftTrip m l) [] k = if m = k then l else tabGet y.shaftTrip [] k) :
    c ∈ latchOf (setLatch y m l) n := by
  unfold latchOf setLatch at *
  split
  · rename_i h8
    rw [if_pos h8] at hc
    split
    · rename_i h9; rw [if_pos h9] at h; exact h c hc
    · exact hc
  · rename_i h8
    rw [if_neg h8] at hc
    split
    · exact hc
    · rename_i h9
      rw [if_neg h9] at h
      dsimp only
      rw [ht]
      split
      · rename_i h10; subst h10; exact h c hc
      · exact hc

/-! ### Sparse tables -/

theorem tabGet_tabSet {t : Tab α} {d v : α} {k j : Nat} : tabGet (tabSet t k v) d j = if k = j then v else tabGet t d j := by
  induction t with
  | nil => simp [tabSet, tabGet]
  | cons a r ih =>
    obtain ⟨i, w⟩ := a
    simp only [tabSet]
    split
    · simp [tabGet]
    · split
      · rename_i h1 h2
        subst h2
        simp only [tabGet]
        split <;> rfl
      · simp only [tabGet, ih]
        split
        · rename_i h1 h2 h3
          subst h3
          rw [if_neg h2]
        · rfl

theorem tabGet_tabMod {t : Tab α} {d : α} {f : α → α} {k j : Nat} :
    tabGet (tabMod t d k f) d j = if k = j then f (tabGet t d k) else tabGet t d j := tabGet_tabSet

/-- A latch added to keeps what every latch holds. -/
theorem mem_latchOf_setLatch {y : ChanSt} {n m c : Nat} {l : List Nat} (hc : c ∈ latchOf y n) :
    c ∈ latchOf (setLatch y m (latchOf y m ++ l)) n :=
  keepLatch (fun _ h => List.mem_append_left _ h) hc fun _ => tabGet_tabSet

theorem CntKept.tabMod {c : CtrSt} {i n : Nat} :
    CntKept x c { c with cnt := tabMod c.cnt 0 i fun v => satAdd max48 v n } := by
  intro j hj
  simp only [tabGet_tabMod]
  split
  · rename_i h
    subst h
    simp only [satAdd]
    omega
  · exact ⟨hj, .inr (Nat.le_refl _)⟩

/-- A key below every address of a canonical memory. -/
theorem Mem.wf_cons {a : Nat × Byte} {m : Mem} :
    Mem.wf (a :: m) = true ↔ (∀ b, m.head? = some b → a.1 < b.1) ∧ Mem.wf m = true := by
  cases m with
  | nil => simp [Mem.wf]
  | cons b r => simp [Mem.wf]

/-- A write keeps the canonical form of a memory. -/
theorem Mem.wf_tabSet {m : Mem} {k : Nat} {v : Byte} (h : Mem.wf m = true) : Mem.wf (tabSet m k v) = true := by
  induction m with
  | nil => simp [tabSet, Mem.wf]
  | cons a r ih =>
    obtain ⟨i, w⟩ := a
    obtain ⟨h1, h2⟩ := Mem.wf_cons.mp h
    simp only [tabSet]
    split
    · rename_i hk
      exact Mem.wf_cons.mpr ⟨by simp [hk], h⟩
    · split
      · rename_i h3 h4
        subst h4
        exact Mem.wf_cons.mpr ⟨h1, h2⟩
      · rename_i h3 h4
        refine Mem.wf_cons.mpr ⟨?_, ih h2⟩
        intro b hb
        cases r with
        | nil => simp only [tabSet, List.head?_cons, Option.some.injEq] at hb; subst hb; show i < k; omega
        | cons c r =>
          have := h1 c rfl
          simp only [tabSet] at hb
          split at hb
          · simp only [List.head?_cons, Option.some.injEq] at hb; subst hb; show i < k; omega
          · split at hb
            · simp only [List.head?_cons, Option.some.injEq] at hb; subst hb; show i < k; omega
            · simp only [List.head?_cons, Option.some.injEq] at hb; subst hb; exact this

/-- Four bytes written keep the canonical form. -/
theorem memPut_wf {m : Mem} {a v : Nat} (h : Mem.wf m = true) : Mem.wf (memPut m a v) = true := by
  unfold memPut
  generalize List.range 4 = l
  induction l generalizing m with
  | nil => exact h
  | cons i l ih => exact ih (Mem.wf_tabSet h)

end Sys2Proof.Machine
end

