-- ==== Sys2Proof/Laws/KeptOps.lean ====
section
/-! SUPPORT. What these operations keep: the shared operations: events, counters, completions, the safety core, the rings, the registers and resets.
Each lemma says that its operation stays within the parts that `x` allows, for states that have stayed within them since
`s0`. -/

namespace Sys2Proof.Machine

open Sys2Proof

variable {x : Part → Bool} {s0 : State}

/-! ## Machine/Ops.lean -/

theorem State.onHost_kept {s : State} {a2} (hs : Kept x s0 s) : Kept x s0 (State.onHost s a2) := by
  unfold State.onHost
  repeat' first
    | with_reducible assumption
    | with_reducible refine Kept.literal rfl rfl rfl rfl rfl rfl rfl ?_

theorem State.onSupply_kept {s : State} {a2} (hs : Kept x s0 s) : Kept x s0 (State.onSupply s a2) := by
  unfold State.onSupply
  repeat' first
    | with_reducible assumption
    | with_reducible refine Kept.literal rfl rfl rfl rfl rfl rfl rfl ?_

theorem State.onPow_kept {s : State} {a2} (hs : Kept x s0 s) : Kept x s0 (State.onPow s a2) := by
  unfold State.onPow
  repeat' first
    | with_reducible assumption
    | with_reducible refine Kept.literal rfl rfl rfl rfl rfl rfl rfl ?_

theorem State.onRec_kept {s : State} {a2} (hs : Kept x s0 s) : Kept x s0 (State.onRec s a2) := by
  unfold State.onRec
  repeat' first
    | with_reducible assumption
    | with_reducible refine Kept.literal rfl rfl rfl rfl rfl rfl rfl ?_

theorem State.onRed_kept {s : State} {a2} (hs : Kept x s0 s) : Kept x s0 (State.onRed s a2) := by
  unfold State.onRed
  repeat' first
    | with_reducible assumption
    | with_reducible refine Kept.literal rfl rfl rfl rfl rfl rfl rfl ?_

theorem State.onLoop_kept {s : State} {a2} (hs : Kept x s0 s) : Kept x s0 (State.onLoop s a2) := by
  unfold State.onLoop
  repeat' first
    | with_reducible assumption
    | with_reducible refine Kept.literal rfl rfl rfl rfl rfl rfl rfl ?_

theorem State.onMotion_kept {s : State} {a2} (hs : Kept x s0 s) : Kept x s0 (State.onMotion s a2) := by
  unfold State.onMotion
  repeat' first
    | with_reducible assumption
    | with_reducible refine Kept.literal rfl rfl rfl rfl rfl rfl rfl ?_

theorem State.onDisp_kept {s : State} {a2} (hs : Kept x s0 s) : Kept x s0 (State.onDisp s a2) := by
  unfold State.onDisp
  repeat' first
    | with_reducible assumption
    | with_reducible refine Kept.literal rfl rfl rfl rfl rfl rfl rfl ?_

theorem State.onField_kept {s : State} {a2} (hs : Kept x s0 s) : Kept x s0 (State.onField s a2) := by
  unfold State.onField
  repeat' first
    | with_reducible assumption
    | with_reducible refine Kept.literal rfl rfl rfl rfl rfl rfl rfl ?_

theorem State.onCan_kept {s : State} {a2} (hs : Kept x s0 s) : Kept x s0 (State.onCan s a2) := by
  unfold State.onCan
  repeat' first
    | with_reducible assumption
    | with_reducible refine Kept.literal rfl rfl rfl rfl rfl rfl rfl ?_

theorem State.onMulti_kept {s : State} {a2} (hs : Kept x s0 s) : Kept x s0 (State.onMulti s a2) := by
  unfold State.onMulti
  repeat' first
    | with_reducible assumption
    | with_reducible refine Kept.literal rfl rfl rfl rfl rfl rfl rfl ?_

theorem store_kept {s : State} {a2} (hs : Kept x s0 s) : Kept x s0 (store s a2) := by
  unfold store
  repeat' first
    | with_reducible assumption
    | (extract_lets +onlyGivenNames yy; clear_value yy; revert yy; intro y2)
    | with_reducible refine Kept.literal rfl rfl rfl rfl rfl rfl rfl ?_

theorem State.onRing_kept {s : State} {a2} {a3} (hs : Kept x s0 s) : Kept x s0 (State.onRing s a2 a3) := by
  unfold State.onRing
  repeat' first
    | with_reducible assumption
    | with_reducible refine Kept.literal rfl rfl rfl rfl rfl rfl rfl ?_

theorem State.onLink_kept {s : State} {a2} {a3} (hs : Kept x s0 s) : Kept x s0 (State.onLink s a2 a3) := by
  unfold State.onLink
  repeat' first
    | with_reducible assumption
    | with_reducible refine Kept.literal rfl rfl rfl rfl rfl rfl rfl ?_

theorem State.onAxis_kept {s : State} {a2} {a3} (hs : Kept x s0 s) : Kept x s0 (State.onAxis s a2 a3) := by
  unfold State.onAxis
  repeat' first
    | with_reducible assumption
    | with_reducible apply State.onLoop_kept

theorem State.onWeaver_kept {s : State} {a2} {a3} (hs : Kept x s0 s) : Kept x s0 (State.onWeaver s a2 a3) := by
  unfold State.onWeaver
  repeat' first
    | with_reducible assumption
    | with_reducible apply State.onLoop_kept

theorem State.onDoor_kept {s : State} {a2} {a3} (hs : Kept x s0 s) : Kept x s0 (State.onDoor s a2 a3) := by
  unfold State.onDoor
  repeat' first
    | with_reducible assumption
    | with_reducible refine Kept.literal rfl rfl rfl rfl rfl rfl rfl ?_

theorem State.onPstat_kept {s : State} {a2} {a3} (hs : Kept x s0 s) : Kept x s0 (State.onPstat s a2 a3) := by
  unfold State.onPstat
  repeat' first
    | with_reducible assumption
    | with_reducible apply State.onHost_kept

theorem State.onQueue_kept {s : State} {a2} {a3} (hs : Kept x s0 s) : Kept x s0 (State.onQueue s a2 a3) := by
  unfold State.onQueue
  repeat' first
    | with_reducible assumption
    | with_reducible apply State.onHost_kept

theorem bump_kept {s : State} {a2} {a3} (hs : Kept x s0 s) : Kept x s0 (bump s a2 a3) := State.onCtr_kept hs fun _ => CntKept.tabMod

theorem bumpPart_kept {s : State} {a2} {a3} {a4} (hs : Kept x s0 s) : Kept x s0 (bumpPart s a2 a3 a4) := by
  unfold bumpPart
  repeat' first
    | with_reducible assumption
    | with_reducible apply State.onHost_kept
    | with_reducible apply State.onPstat_kept

theorem raise_kept {s : State} {a2} (hs : Kept x s0 s) : Kept x s0 (raise s a2) := by
  unfold raise
  repeat' first
    | with_reducible assumption
    | with_reducible apply bump_kept
    | with_reducible apply State.onRec_kept
    | (extract_lets +onlyGivenNames yy; dsimp -zeta only [yy]; clear yy)
    | with_reducible apply Kept.ite

theorem codeEvent_kept {s : State} {a2} {a3} {a4} {a5} {a6} (hs : Kept x s0 s) : Kept x s0 (codeEvent s a2 a3 a4 a5 a6) := by
  unfold codeEvent
  repeat' first
    | with_reducible assumption
    | with_reducible apply raise_kept

theorem powEvent_kept {s : State} {a2} {a3} {a4} (hs : Kept x s0 s) : Kept x s0 (powEvent s a2 a3 a4) := by
  unfold powEvent
  repeat' first
    | with_reducible assumption
    | with_reducible apply raise_kept

theorem haltWoken_kept {s : State} {a2} (hs : Kept x s0 s) : Kept x s0 (haltWoken s a2) := by
  unfold haltWoken
  repeat' first
    | with_reducible assumption
    | with_reducible apply State.each_kept
    | with_reducible apply codeEvent_kept
    | with_reducible apply State.onDbg_kept
    | with_reducible exact CntKept.same rfl
    | with_reducible exact MemsKept.same rfl rfl
    | with_reducible exact fun w => MemsWf.same w rfl rfl
    | with_reducible exact FuseKept.same rfl rfl rfl
    | with_reducible exact SafetyKept.same rfl rfl rfl rfl
    | with_reducible exact CfgKept.same rfl
    | with_reducible exact TripsKept.same rfl rfl
    | with_reducible exact .inr rfl
    | (intro)
    | with_reducible apply Kept.ite
    | split

theorem setSleep_kept {s : State} {a2} {a3} (hs : Kept x s0 s) : Kept x s0 (setSleep s a2 a3) := by
  unfold setSleep
  repeat' first
    | with_reducible assumption
    | with_reducible apply powEvent_kept
    | with_reducible apply State.onPow_kept
    | with_reducible apply haltWoken_kept
    | with_reducible exact CntKept.same rfl
    | with_reducible exact MemsKept.same rfl rfl
    | with_reducible exact fun w => MemsWf.same w rfl rfl
    | with_reducible exact FuseKept.same rfl rfl rfl
    | with_reducible exact SafetyKept.same rfl rfl rfl rfl
    | with_reducible exact CfgKept.same rfl
    | with_reducible exact TripsKept.same rfl rfl
    | with_reducible exact .inr rfl
    | (intro)
    | (extract_lets +onlyGivenNames st; have hst : Kept x s0 st := ?_; clear_value st; revert st; intro st2 hst2)
    | (extract_lets +onlyGivenNames yy; clear_value yy; revert yy; intro y2)
    | (dsimp -zeta only [st]; clear st)
    | with_reducible apply Kept.ite
    | split

theorem recordOnly_kept {s : State} {a2} {a3} {a4} {a5} (hs : Kept x s0 s) : Kept x s0 (recordOnly s a2 a3 a4 a5) := by
  unfold recordOnly
  repeat' first
    | with_reducible assumption
    | with_reducible apply raise_kept

/-! ## Machine/HostOps.lean -/

theorem raiseVector_kept {s : State} {a2} (hs : Kept x s0 s) : Kept x s0 (raiseVector s a2) := by
  unfold raiseVector
  repeat' first
    | with_reducible assumption
    | with_reducible apply bump_kept
    | with_reducible apply State.onHost_kept
    | with_reducible exact CntKept.same rfl
    | with_reducible exact MemsKept.same rfl rfl
    | with_reducible exact fun w => MemsWf.same w rfl rfl
    | with_reducible exact FuseKept.same rfl rfl rfl
    | with_reducible exact SafetyKept.same rfl rfl rfl rfl
    | with_reducible exact CfgKept.same rfl
    | with_reducible exact TripsKept.same rfl rfl
    | with_reducible exact .inr rfl
    | (intro)
    | with_reducible apply Kept.ite
    | split

theorem raiseQueue_kept {s : State} {a2} (hs : Kept x s0 s) : Kept x s0 (raiseQueue s a2) := by
  unfold raiseQueue
  repeat' first
    | with_reducible assumption
    | with_reducible apply raiseVector_kept
    | with_reducible apply State.onQueue_kept
    | with_reducible exact CntKept.same rfl
    | with_reducible exact MemsKept.same rfl rfl
    | with_reducible exact fun w => MemsWf.same w rfl rfl
    | with_reducible exact FuseKept.same rfl rfl rfl
    | with_reducible exact SafetyKept.same rfl rfl rfl rfl
    | with_reducible exact CfgKept.same rfl
    | with_reducible exact TripsKept.same rfl rfl
    | with_reducible exact .inr rfl
    | (intro)
    | with_reducible apply Kept.ite
    | split

theorem sendDatagram_kept {s : State} {a2} {a3} (hs : Kept x s0 s) : Kept x s0 (sendDatagram s a2 a3) := by
  unfold sendDatagram
  repeat' first
    | with_reducible assumption
    | with_reducible apply State.onQueue_kept
    | with_reducible apply State.onHost_kept
    | with_reducible exact CntKept.same rfl
    | with_reducible exact MemsKept.same rfl rfl
    | with_reducible exact fun w => MemsWf.same w rfl rfl
    | with_reducible exact FuseKept.same rfl rfl rfl
    | with_reducible exact SafetyKept.same rfl rfl rfl rfl
    | with_reducible exact CfgKept.same rfl
    | with_reducible exact TripsKept.same rfl rfl
    | with_reducible exact .inr rfl
    | (intro)
    | (extract_lets +onlyGivenNames st; have hst : Kept x s0 st := ?_; clear_value st; revert st; intro st2 hst2)
    | (extract_lets +onlyGivenNames yy; clear_value yy; revert yy; intro y2)
    | (dsimp -zeta only [st]; clear st)
    | with_reducible apply Kept.ite
    | split

theorem removeQueue_kept {s : State} {a2} (hs : Kept x s0 s) : Kept x s0 (removeQueue s a2) := by
  unfold removeQueue
  repeat' first
    | with_reducible assumption
    | with_reducible apply State.onHost_kept

theorem whenWritten_kept {s : State} {a2} {a3} (hs : Kept x s0 s) : Kept x s0 (whenWritten s a2 a3) := by
  unfold whenWritten
  repeat' first
    | with_reducible assumption
    | with_reducible apply State.onQueue_kept
    | with_reducible exact CntKept.same rfl
    | with_reducible exact MemsKept.same rfl rfl
    | with_reducible exact fun w => MemsWf.same w rfl rfl
    | with_reducible exact FuseKept.same rfl rfl rfl
    | with_reducible exact SafetyKept.same rfl rfl rfl rfl
    | with_reducible exact CfgKept.same rfl
    | with_reducible exact TripsKept.same rfl rfl
    | with_reducible exact .inr rfl
    | (intro)
    | (extract_lets +onlyGivenNames st; have hst : Kept x s0 st := ?_; clear_value st; revert st; intro st2 hst2)
    | (extract_lets +onlyGivenNames yy; clear_value yy; revert yy; intro y2)
    | (dsimp -zeta only [st]; clear st)
    | with_reducible apply Kept.ite
    | split

theorem flushQueue_kept {s : State} {a2} (hs : Kept x s0 s) : Kept x s0 (flushQueue s a2) := by
  unfold flushQueue
  repeat' first
    | with_reducible assumption
    | with_reducible apply removeQueue_kept
    | with_reducible apply State.onQueue_kept
    | with_reducible apply raiseQueue_kept
    | with_reducible apply State.each_kept
    | with_reducible apply sendDatagram_kept
    | with_reducible apply whenWritten_kept
    | with_reducible exact CntKept.same rfl
    | with_reducible exact MemsKept.same rfl rfl
    | with_reducible exact fun w => MemsWf.same w rfl rfl
    | with_reducible exact FuseKept.same rfl rfl rfl
    | with_reducible exact SafetyKept.same rfl rfl rfl rfl
    | with_reducible exact CfgKept.same rfl
    | with_reducible exact TripsKept.same rfl rfl
    | with_reducible exact .inr rfl
    | (intro)
    | (extract_lets +onlyGivenNames st; have hst : Kept x s0 st := ?_; clear_value st; revert st; intro st2 hst2)
    | (extract_lets +onlyGivenNames yy; clear_value yy; revert yy; intro y2)
    | (dsimp -zeta only [st]; clear st)
    | with_reducible apply Kept.ite
    | split

theorem answer_kept {s : State} {a2} {a3} (hs : Kept x s0 s) : Kept x s0 (answer s a2 a3) := by
  unfold answer
  repeat' first
    | with_reducible assumption
    | with_reducible apply bumpPart_kept
    | with_reducible apply flushQueue_kept
    | with_reducible apply State.onQueue_kept
    | with_reducible apply whenWritten_kept
    | with_reducible apply State.onHost_kept
    | with_reducible exact CntKept.same rfl
    | with_reducible exact MemsKept.same rfl rfl
    | with_reducible exact fun w => MemsWf.same w rfl rfl
    | with_reducible exact FuseKept.same rfl rfl rfl
    | with_reducible exact SafetyKept.same rfl rfl rfl rfl
    | with_reducible exact CfgKept.same rfl
    | with_reducible exact TripsKept.same rfl rfl
    | with_reducible exact .inr rfl
    | (intro)
    | (extract_lets +onlyGivenNames st; have hst : Kept x s0 st := ?_; clear_value st; revert st; intro st2 hst2)
    | (extract_lets +onlyGivenNames yy; clear_value yy; revert yy; intro y2)
    | (dsimp -zeta only [st]; clear st)
    | with_reducible apply Kept.ite
    | split

theorem ok_kept {s : State} {a2} {a3} {a4} {a5} (hs : Kept x s0 s) : Kept x s0 (ok s a2 a3 a4 a5) := by
  unfold ok
  repeat' first
    | with_reducible assumption
    | with_reducible apply answer_kept

theorem refused_kept {s : State} {a2} {a3} {a4} (hs : Kept x s0 s) : Kept x s0 (refused s a2 a3 a4) := by
  unfold refused
  repeat' first
    | with_reducible assumption
    | with_reducible apply answer_kept

theorem notReady_kept {s : State} {a2} (hs : Kept x s0 s) : Kept x s0 (notReady s a2) := by
  unfold notReady
  repeat' first
    | with_reducible assumption
    | with_reducible apply answer_kept

theorem noSuch_kept {s : State} {a2} {a3} (hs : Kept x s0 s) : Kept x s0 (noSuch s a2 a3) := by
  unfold noSuch
  repeat' first
    | with_reducible assumption
    | with_reducible apply answer_kept

theorem denied_kept {s : State} {a2} (hs : Kept x s0 s) : Kept x s0 (denied s a2) := by
  unfold denied
  repeat' first
    | with_reducible assumption
    | with_reducible apply answer_kept

theorem timedOut_kept {s : State} {a2} (hs : Kept x s0 s) : Kept x s0 (timedOut s a2) := by
  unfold timedOut
  repeat' first
    | with_reducible assumption
    | with_reducible apply answer_kept

theorem noteClamps_kept {s : State} {a2} {a3} (hs : Kept x s0 s) : Kept x s0 (noteClamps s a2 a3) := by
  unfold noteClamps
  repeat' first
    | with_reducible assumption
    | with_reducible apply State.onPstat_kept
    | with_reducible apply bumpPart_kept
    | split

theorem serve_kept {s : State} {a2} {a3} {a4} {a5} {a6} {a7 : Sys2Proof.Request → Sys2Proof.Machine.State → Sys2Proof.Machine.State} (hs : Kept x s0 s) (ha7 : ∀ b0 b1, Kept x s0 b1 → Kept x s0 (a7 b0 b1)) : Kept x s0 (serve s a2 a3 a4 a5 a6 a7) := by
  unfold serve
  repeat' first
    | with_reducible assumption
    | with_reducible apply ha7
    | with_reducible apply denied_kept
    | with_reducible apply notReady_kept
    | with_reducible apply noSuch_kept
    | with_reducible apply noteClamps_kept
    | (extract_lets +onlyGivenNames yy; clear_value yy; revert yy; intro y2)
    | with_reducible apply Kept.ite
    | split

theorem offerEvent_kept {s : State} {a2} {a3} {a4} (hs : Kept x s0 s) : Kept x s0 (offerEvent s a2 a3 a4) := by
  unfold offerEvent
  repeat' first
    | with_reducible assumption
    | with_reducible apply bumpPart_kept
    | with_reducible apply State.onQueue_kept
    | with_reducible apply sendDatagram_kept
    | with_reducible apply raiseQueue_kept
    | with_reducible apply bump_kept
    | with_reducible exact CntKept.same rfl
    | with_reducible exact MemsKept.same rfl rfl
    | with_reducible exact fun w => MemsWf.same w rfl rfl
    | with_reducible exact FuseKept.same rfl rfl rfl
    | with_reducible exact SafetyKept.same rfl rfl rfl rfl
    | with_reducible exact CfgKept.same rfl
    | with_reducible exact TripsKept.same rfl rfl
    | with_reducible exact .inr rfl
    | (intro)
    | (extract_lets +onlyGivenNames st; have hst : Kept x s0 st := ?_; clear_value st; revert st; intro st2 hst2)
    | (extract_lets +onlyGivenNames yy; clear_value yy; revert yy; intro y2)
    | (dsimp -zeta only [st]; clear st)
    | with_reducible apply Kept.ite
    | split

theorem postEvent_kept {s : State} {a2} (hs : Kept x s0 s) : Kept x s0 (postEvent s a2) := by
  unfold postEvent
  repeat' first
    | with_reducible assumption
    | with_reducible apply State.each_kept
    | with_reducible apply offerEvent_kept
    | (intro)
    | split

/-! ## Machine/SafetyOps.lean -/

theorem safetyEvent_kept {s : State} {a2} {a3} {a4} {a5} {a6} (hs : Kept x s0 s) : Kept x s0 (safetyEvent s a2 a3 a4 a5 a6) := by
  unfold safetyEvent
  repeat' first
    | with_reducible assumption
    | with_reducible apply raise_kept

theorem latchQuiet_kept {s : State} {a2} {a3} {a4} (hs : Kept x s0 s) : Kept x s0 (latchQuiet s a2 a3 a4) := by
  unfold latchQuiet
  dsimp only
  split
  · exact hs
  · refine State.onSafety_kept (State.onChan_kept hs (fun y => .inr ?_) fun y => .inr fun n c h => ?_) fun _ =>
      SafetyKept.same rfl rfl rfl rfl
    · unfold setLatch; split <;> rfl
    · exact mem_latchOf_setLatch h

theorem latchTrip_kept {s : State} {a2} {a3} {a4} {a5} (hs : Kept x s0 s) : Kept x s0 (latchTrip s a2 a3 a4 a5) := by
  unfold latchTrip
  repeat' first
    | with_reducible assumption
    | with_reducible apply safetyEvent_kept
    | with_reducible apply latchQuiet_kept
    | (extract_lets +onlyGivenNames yy; clear_value yy; revert yy; intro y2)
    | with_reducible apply Kept.ite

theorem tripModule_kept {s : State} {a2} (hs : Kept x s0 s) : Kept x s0 (tripModule s a2) := by
  unfold tripModule
  repeat' first
    | with_reducible assumption
    | with_reducible apply latchQuiet_kept
    | with_reducible apply safetyEvent_kept
    | (extract_lets +onlyGivenNames st; have hst : Kept x s0 st := ?_; clear_value st; revert st; intro st2 hst2)
    | (extract_lets +onlyGivenNames yy; clear_value yy; revert yy; intro y2)
    | with_reducible apply Kept.ite

theorem clearScope_kept {s : State} {a2} {a3} {a4} (hs : Kept x s0 s) (x_trips : x .trips = true) : Kept x s0 (clearScope s a2 a3 a4) := by
  have h1 : ∀ l, Kept x s0 ((safetyEvent s 2 a3 ((latchOf (s.chan a2) a3).headD 0) (chanNo a2) 0).onChan a2 fun y =>
      { setLatch y a3 [] with cleared := tabSet y.cleared a3 l }) := fun l =>
    State.onChan_kept (safetyEvent_kept hs) (fun y => .inr (by dsimp only; unfold setLatch; split <;> rfl)) fun _ => .inl x_trips
  unfold clearScope
  dsimp only
  split
  · exact hs
  · split
    · exact safetyEvent_kept hs
    · have h2 := State.onChan_kept (c := a2) (f := fun x => { x with
        cars := (if 8 ≤ a3 then x.cars else x.cars).map fun p =>
          (p.1, if 8 ≤ a3 ∨ (cfgShaft x a3).cars.any (fun k => k.car == p.1) then { p.2 with brakeFail := false } else p.2) })
        (h1 (latchOf (s.chan a2) a3)) (fun _ => CfgKept.same rfl) fun _ => TripsKept.same rfl rfl
      split
      · exact State.each_kept h2 fun _ _ h => State.onRing_kept h
      · exact h2

theorem resetEdge_kept {s : State} {a2} {a3} {a4} (hs : Kept x s0 s) (x_trips : x .trips = true) : Kept x s0 (resetEdge s a2 a3 a4) := by
  unfold resetEdge
  repeat' first
    | with_reducible assumption
    | with_reducible apply clearScope_kept
    | with_reducible apply State.each_kept
    | with_reducible apply foldr_kept
    | with_reducible exact CntKept.same rfl
    | with_reducible exact MemsKept.same rfl rfl
    | with_reducible exact fun w => MemsWf.same w rfl rfl
    | with_reducible exact FuseKept.same rfl rfl rfl
    | with_reducible exact SafetyKept.same rfl rfl rfl rfl
    | with_reducible exact CfgKept.same rfl
    | with_reducible exact TripsKept.same rfl rfl
    | with_reducible exact .inr rfl
    | (intro)
    | (extract_lets +onlyGivenNames st; have hst : Kept x s0 st := ?_; clear_value st; revert st; intro st2 hst2)
    | (extract_lets +onlyGivenNames yy; clear_value yy; revert yy; intro y2)
    | (dsimp -zeta only [st]; clear st)
    | with_reducible apply Kept.ite
    | split

theorem startSs1_kept {s : State} {a2} {a3} {a4} (hs : Kept x s0 s) : Kept x s0 (startSs1 s a2 a3 a4) := by
  unfold startSs1
  repeat' first
    | with_reducible assumption
    | with_reducible apply safetyEvent_kept
    | with_reducible apply State.onChan_kept
    | with_reducible exact fun w => MemsWf.same w rfl rfl
    | with_reducible exact CfgKept.same rfl
    | with_reducible exact TripsKept.same rfl rfl
    | (intro)
    | (extract_lets +onlyGivenNames yy; clear_value yy; revert yy; intro y2)
    | with_reducible apply Kept.ite

theorem markSs1_kept {s : State} {a2} {a3} (hs : Kept x s0 s) : Kept x s0 (markSs1 s a2 a3) := by
  unfold markSs1
  repeat' first
    | with_reducible assumption
    | with_reducible apply State.onChan_kept
    | with_reducible exact CfgKept.same rfl
    | with_reducible exact TripsKept.same rfl rfl
    | (intro)
    | with_reducible apply Kept.ite

theorem endSs1_kept {s : State} {a2} {a3} {a4} (hs : Kept x s0 s) : Kept x s0 (endSs1 s a2 a3 a4) := by
  unfold endSs1
  exact latchTrip_kept (State.onChan_kept hs (fun _ => CfgKept.same rfl) fun _ => TripsKept.same rfl rfl)

theorem sendStop_kept {s : State} (hs : Kept x s0 s) : Kept x s0 (sendStop s) := by
  unfold sendStop
  repeat' first
    | with_reducible assumption
    | with_reducible apply State.each_kept
    | with_reducible apply bump_kept
    | with_reducible apply State.onRing_kept
    | with_reducible exact CntKept.same rfl
    | with_reducible exact MemsKept.same rfl rfl
    | with_reducible exact fun w => MemsWf.same w rfl rfl
    | with_reducible exact FuseKept.same rfl rfl rfl
    | with_reducible exact SafetyKept.same rfl rfl rfl rfl
    | with_reducible exact CfgKept.same rfl
    | with_reducible exact TripsKept.same rfl rfl
    | with_reducible exact .inr rfl
    | (intro)
    | with_reducible apply Kept.ite
    | split

theorem injectStop_kept {s : State} (hs : Kept x s0 s) : Kept x s0 (injectStop s) := by
  unfold injectStop
  repeat' first
    | with_reducible assumption
    | with_reducible apply latchTrip_kept
    | with_reducible apply sendStop_kept
    | (extract_lets +onlyGivenNames st; have hst : Kept x s0 st := ?_; clear_value st; revert st; intro st2 hst2)
    | with_reducible apply Kept.ite

theorem stopWeaver_kept {s : State} {a2} (hs : Kept x s0 s) : Kept x s0 (stopWeaver s a2) := by
  unfold stopWeaver
  repeat' first
    | with_reducible assumption
    | with_reducible apply latchTrip_kept
    | with_reducible apply State.onWeaver_kept
    | with_reducible apply sendStop_kept
    | (extract_lets +onlyGivenNames st; have hst : Kept x s0 st := ?_; clear_value st; revert st; intro st2 hst2)
    | with_reducible apply Kept.ite

theorem setFailed_kept {s : State} (hs : Kept x s0 s) : Kept x s0 (setFailed s) := by
  unfold setFailed
  repeat' first
    | with_reducible assumption
    | with_reducible apply State.onRed_kept
    | with_reducible apply Kept.ite

theorem weaverFault_kept {s : State} {a2} (hs : Kept x s0 s) : Kept x s0 (weaverFault s a2) := by
  unfold weaverFault
  repeat' first
    | with_reducible assumption
    | with_reducible apply setFailed_kept
    | with_reducible apply stopWeaver_kept
    | with_reducible exact CntKept.same rfl
    | with_reducible exact MemsKept.same rfl rfl
    | with_reducible exact fun w => MemsWf.same w rfl rfl
    | with_reducible exact FuseKept.same rfl rfl rfl
    | with_reducible exact SafetyKept.same rfl rfl rfl rfl
    | with_reducible exact CfgKept.same rfl
    | with_reducible exact TripsKept.same rfl rfl
    | with_reducible exact .inr rfl
    | (intro)
    | with_reducible apply Kept.ite
    | split

theorem haltCore_kept {s : State} (hs : Kept x s0 s) : Kept x s0 (haltCore s) := by
  unfold haltCore
  repeat' first
    | with_reducible assumption
    | with_reducible apply tripModule_kept
    | with_reducible apply State.onSys_kept
    | with_reducible apply State.onChan_kept
    | with_reducible exact FuseKept.same rfl rfl rfl
    | with_reducible exact fun w => MemsWf.same w rfl rfl
    | with_reducible exact CfgKept.same rfl
    | with_reducible exact TripsKept.same rfl rfl
    | (intro)

theorem logWrite_kept {s : State} {a2} {a3} {a4} {a5} (hs : Kept x s0 s) : Kept x s0 (logWrite s a2 a3 a4 a5) :=
  State.onSafety_kept hs fun y => ⟨Nat.le_succ _, .inr rfl, .inr rfl, TripsKept.rfl', .inr rfl⟩

theorem publishSafety_kept {s : State} (hs : Kept x s0 s) : Kept x s0 (publishSafety s) := by
  unfold publishSafety
  repeat' first
    | with_reducible assumption
    | with_reducible apply State.onSafety_kept
    | with_reducible exact SafetyKept.same rfl rfl rfl rfl
    | with_reducible exact fun w => MemsWf.same w rfl rfl
    | (intro)

/-! ## Machine/CairnOps.lean -/

theorem writeSlot_kept {s : State} {a2} (hs : Kept x s0 s) : Kept x s0 (writeSlot s a2) := by
  unfold writeSlot
  repeat' first
    | with_reducible assumption
    | with_reducible apply State.onRec_kept
    | with_reducible apply bump_kept
    | (extract_lets +onlyGivenNames st; have hst : Kept x s0 st := ?_; clear_value st; revert st; intro st2 hst2)
    | (extract_lets +onlyGivenNames yy; clear_value yy; revert yy; intro y2)
    | with_reducible apply Kept.ite

theorem sealOpen_kept {s : State} (hs : Kept x s0 s) : Kept x s0 (sealOpen s) := by
  unfold sealOpen
  repeat' first
    | with_reducible assumption
    | with_reducible apply State.onRec_kept
    | split

theorem writeRecord_kept {s : State} {a2} {a3} {a4} {a5} (hs : Kept x s0 s) : Kept x s0 (writeRecord s a2 a3 a4 a5) := by
  unfold writeRecord
  repeat' first
    | with_reducible assumption
    | with_reducible apply sealOpen_kept
    | with_reducible apply writeSlot_kept
    | (extract_lets +onlyGivenNames st; have hst : Kept x s0 st := ?_; clear_value st; revert st; intro st2 hst2)
    | (extract_lets +onlyGivenNames yy; clear_value yy; revert yy; intro y2)
    | with_reducible apply Kept.ite

theorem repeatRecord_kept {s : State} {a2} {a3} {a4} (hs : Kept x s0 s) : Kept x s0 (repeatRecord s a2 a3 a4) := by
  unfold repeatRecord
  repeat' first
    | with_reducible assumption
    | with_reducible apply State.onRec_kept

theorem recEvent_kept {s : State} {a2} {a3} {a4} (hs : Kept x s0 s) : Kept x s0 (recEvent s a2 a3 a4) := by
  unfold recEvent
  repeat' first
    | with_reducible assumption
    | with_reducible apply codeEvent_kept

theorem State.onDrive_kept {s : State} {a2} {a3} (hs : Kept x s0 s) : Kept x s0 (State.onDrive s a2 a3) := by
  unfold State.onDrive
  repeat' first
    | with_reducible assumption
    | with_reducible apply State.onRec_kept

/-! ## Machine/Registers.lean -/

theorem countFault_kept {s : State} (hs : Kept x s0 s) : Kept x s0 (countFault s) := by
  unfold countFault
  repeat' first
    | with_reducible assumption
    | with_reducible apply bump_kept
    | with_reducible apply State.onHost_kept

theorem regionViolation_kept {s : State} {a2} {a3} {a4} (hs : Kept x s0 s) : Kept x s0 (regionViolation s a2 a3 a4) := by
  unfold regionViolation
  repeat' first
    | with_reducible assumption
    | with_reducible apply bump_kept
    | with_reducible apply recordOnly_kept
    | with_reducible exact CntKept.same rfl
    | with_reducible exact MemsKept.same rfl rfl
    | with_reducible exact fun w => MemsWf.same w rfl rfl
    | with_reducible exact FuseKept.same rfl rfl rfl
    | with_reducible exact SafetyKept.same rfl rfl rfl rfl
    | with_reducible exact CfgKept.same rfl
    | with_reducible exact TripsKept.same rfl rfl
    | with_reducible exact .inr rfl
    | (intro)
    | with_reducible apply Kept.ite
    | split

theorem readMemData_kept_proj {s : State} {a2} (hs : Kept x s0 s) : Kept x s0 (readMemData s a2).2 := by
  unfold readMemData
  repeat' first
    | with_reducible assumption
    | with_reducible apply regionViolation_kept
    | with_reducible apply State.onDbg_kept
    | with_reducible exact MemsKept.same rfl rfl
    | with_reducible exact fun w => MemsWf.same w rfl rfl
    | with_reducible exact CntKept.same rfl
    | with_reducible exact FuseKept.same rfl rfl rfl
    | with_reducible exact SafetyKept.same rfl rfl rfl rfl
    | with_reducible exact CfgKept.same rfl
    | with_reducible exact TripsKept.same rfl rfl
    | with_reducible exact .inr rfl
    | (intro)
    | (extract_lets +onlyGivenNames st; have hst : Kept x s0 st := ?_; clear_value st; revert st; intro st2 hst2)
    | (extract_lets +onlyGivenNames yy; clear_value yy; revert yy; intro y2)
    | (dsimp -zeta only [st]; clear st)
    | with_reducible apply Kept.ite
    | split

theorem readMemData_kept {s : State} {a2} {w0} {v : State} (e : readMemData s a2 = (w0, v)) (hs : Kept x s0 s) : Kept x s0 v := by
  have w := readMemData_kept_proj hs (x := x) (a2 := a2)
  rw [e] at w
  exact w

theorem readWord_kept_proj {s : State} {a2} {a3} (hs : Kept x s0 s) : Kept x s0 (readWord s a2 a3).2 := by
  unfold readWord
  repeat' first
    | with_reducible assumption
    | with_reducible apply countFault_kept
    | with_reducible apply State.onHost_kept
    | with_reducible apply State.onCtr_kept
    | with_reducible apply State.onPstat_kept
    | with_reducible apply readMemData_kept_proj
    | with_reducible exact CntKept.same rfl
    | with_reducible exact fun w => MemsWf.same w rfl rfl
    | (intro)
    | (extract_lets +onlyGivenNames yy; clear_value yy; revert yy; intro y2)
    | with_reducible apply Kept.ite
    | split

theorem readWord_kept {s : State} {a2} {a3} {w0} {v : State} (e : readWord s a2 a3 = (w0, v)) (hs : Kept x s0 s) : Kept x s0 v := by
  have w := readWord_kept_proj hs (x := x) (a2 := a2) (a3 := a3)
  rw [e] at w
  exact w

theorem readWide_kept_proj {s : State} {a2} {a3} (hs : Kept x s0 s) : Kept x s0 (readWide s a2 a3).2 := by
  unfold readWide
  repeat' first
    | with_reducible assumption
    | with_reducible apply countFault_kept
    | with_reducible apply readWord_kept_proj
    | with_reducible refine readWord_kept (by assumption) ?_
    | with_reducible exact CntKept.same rfl
    | with_reducible exact MemsKept.same rfl rfl
    | with_reducible exact fun w => MemsWf.same w rfl rfl
    | with_reducible exact FuseKept.same rfl rfl rfl
    | with_reducible exact SafetyKept.same rfl rfl rfl rfl
    | with_reducible exact CfgKept.same rfl
    | with_reducible exact TripsKept.same rfl rfl
    | with_reducible exact .inr rfl
    | (intro)
    | (extract_lets +onlyGivenNames st; have hst : Kept x s0 st := ?_; clear_value st; revert st; intro st2 hst2)
    | (extract_lets +onlyGivenNames yy; clear_value yy; revert yy; intro y2)
    | (dsimp -zeta only [st]; clear st)
    | with_reducible apply Kept.ite
    | split

theorem readWide_kept {s : State} {a2} {a3} {w0} {v : State} (e : readWide s a2 a3 = (w0, v)) (hs : Kept x s0 s) : Kept x s0 v := by
  have w := readWide_kept_proj hs (x := x) (a2 := a2) (a3 := a3)
  rw [e] at w
  exact w

theorem readReg_kept_proj {s : State} {a2} {a3} {a4} (hs : Kept x s0 s) : Kept x s0 (readReg s a2 a3 a4).2 := by
  unfold readReg
  repeat' first
    | with_reducible assumption
    | with_reducible apply countFault_kept
    | with_reducible apply readWide_kept_proj
    | with_reducible apply readWord_kept_proj
    | split

theorem readReg_kept {s : State} {a2} {a3} {a4} {w0} {v : State} (e : readReg s a2 a3 a4 = (w0, v)) (hs : Kept x s0 s) : Kept x s0 v := by
  have w := readReg_kept_proj hs (x := x) (a2 := a2) (a3 := a3) (a4 := a4)
  rw [e] at w
  exact w

/-! ## Machine/ResetOps.lean -/

theorem ctlReset_kept {s : State} {a2} {a3} (hs : Kept x s0 s) (x_cycle : x .cycle = true) : Kept x s0 (ctlReset s a2 a3) := by
  refine hs.trans ⟨rfl, Nat.le_refl _, fun _ => ⟨rfl, rfl⟩, .inr (.inr ⟨rfl, rfl⟩), CntKept.same rfl, FuseKept.same rfl rfl rfl,
    ⟨Nat.le_refl _, .inr rfl, .inr ?_, .inr ?_, .inr rfl⟩, .inl x_cycle⟩
  · show (keepSafety s.safety).scarp.image = _
    unfold keepSafety; dsimp only; split <;> rfl
  · intro n c h
    show c ∈ latchOf (keepSafety s.safety).scarp n
    unfold keepSafety; dsimp only; split
    · unfold latchOf at h ⊢; dsimp only; split
      · rename_i h1; rw [if_pos h1] at h; exact List.mem_append_left _ h
      · rename_i h1; rw [if_neg h1] at h; exact h
    · exact h

theorem logicLoss_kept {s : State} (hs : Kept x s0 s) (x_cnt : x .cnt = true) (x_trips : x .trips = true) (x_cycle : x .cycle = true) : Kept x s0 (logicLoss s) :=
  hs.trans ⟨rfl, Nat.le_refl _, fun _ => ⟨rfl, rfl⟩, .inr (.inr ⟨rfl, rfl⟩), fun i _ => ⟨Nat.zero_le _, .inl x_cnt⟩,
    FuseKept.same rfl rfl rfl, ⟨Nat.le_refl _, .inr rfl, .inr rfl, .inl x_trips, .inr rfl⟩, .inl x_cycle⟩

theorem bootStop_kept {s : State} {a2} (hs : Kept x s0 s) : Kept x s0 (bootStop s a2) := by
  unfold bootStop
  repeat' first
    | with_reducible assumption
    | with_reducible apply State.onCan_kept
    | with_reducible apply recordOnly_kept
    | with_reducible apply State.onSys_kept
    | with_reducible exact FuseKept.same rfl rfl rfl
    | with_reducible exact fun w => MemsWf.same w rfl rfl
    | with_reducible apply Kept.ite

theorem setStage_kept {s : State} {a2} {a3} (hs : Kept x s0 s) : Kept x s0 (setStage s a2 a3) := by
  unfold setStage
  repeat' first
    | with_reducible assumption
    | with_reducible apply State.onSys_kept
    | with_reducible exact FuseKept.same rfl rfl rfl
    | with_reducible exact fun w => MemsWf.same w rfl rfl

/-! ## Machine/DebugOps.lean -/

theorem dbgEvent_kept {s : State} {a2} {a3} {a4} (hs : Kept x s0 s) : Kept x s0 (dbgEvent s a2 a3 a4) := by
  unfold dbgEvent
  repeat' first
    | with_reducible assumption
    | with_reducible apply codeEvent_kept

theorem setImg_kept {s : State} {a2} {a3} {a4} (hs : Kept x s0 s) : Kept x s0 (setImg s a2 a3 a4) := by
  unfold setImg
  repeat' first
    | with_reducible assumption
    | with_reducible apply State.onSys_kept
    | with_reducible exact FuseKept.same rfl rfl rfl
    | with_reducible exact fun w => MemsWf.same w rfl rfl

theorem haltEvents_kept {s : State} {a2} {a3} {a4} {a5} (hs : Kept x s0 s) : Kept x s0 (haltEvents s a2 a3 a4 a5) := by
  unfold haltEvents
  repeat' first
    | with_reducible assumption
    | with_reducible apply State.each_kept
    | with_reducible apply dbgEvent_kept
    | (intro)
    | with_reducible apply Kept.ite

theorem setWhalt_kept {s : State} {a2} (hs : Kept x s0 s) : Kept x s0 (setWhalt s a2) := by
  unfold setWhalt
  repeat' first
    | with_reducible assumption
    | with_reducible apply haltEvents_kept
    | with_reducible apply State.onDbg_kept
    | with_reducible apply injectStop_kept
    | with_reducible exact MemsKept.same rfl rfl
    | with_reducible exact fun w => MemsWf.same w rfl rfl
    | with_reducible exact CntKept.same rfl
    | with_reducible exact FuseKept.same rfl rfl rfl
    | with_reducible exact SafetyKept.same rfl rfl rfl rfl
    | with_reducible exact CfgKept.same rfl
    | with_reducible exact TripsKept.same rfl rfl
    | with_reducible exact .inr rfl
    | (intro)
    | (extract_lets +onlyGivenNames st; have hst : Kept x s0 st := ?_; clear_value st; revert st; intro st2 hst2)
    | (extract_lets +onlyGivenNames yy; clear_value yy; revert yy; intro y2)
    | (dsimp -zeta only [st]; clear st)
    | with_reducible apply Kept.ite
    | split

theorem setChalt_kept {s : State} {a2} (hs : Kept x s0 s) : Kept x s0 (setChalt s a2) := by
  unfold setChalt
  repeat' first
    | with_reducible assumption
    | with_reducible apply haltEvents_kept
    | with_reducible apply State.onDbg_kept
    | with_reducible apply haltCore_kept
    | with_reducible apply injectStop_kept
    | with_reducible exact MemsKept.same rfl rfl
    | with_reducible exact fun w => MemsWf.same w rfl rfl
    | (intro)
    | (extract_lets +onlyGivenNames yy; clear_value yy; revert yy; intro y2)
    | with_reducible apply Kept.ite

theorem debugReset_kept {s : State} {a2} {a3} (hs : Kept x s0 s) (x_cycle : x .cycle = true) : Kept x s0 (debugReset s a2 a3) := by
  unfold debugReset
  repeat' first
    | with_reducible assumption
    | with_reducible apply ctlReset_kept

theorem endSession_kept {s : State} {a2} (hs : Kept x s0 s) (x_cycle : x .cycle = true) : Kept x s0 (endSession s a2) := by
  unfold endSession
  repeat' first
    | with_reducible assumption
    | with_reducible apply debugReset_kept
    | with_reducible apply State.onDbg_kept
    | with_reducible apply dbgEvent_kept
    | with_reducible apply setChalt_kept
    | with_reducible apply State.onSys_kept
    | with_reducible exact FuseKept.same rfl rfl rfl
    | with_reducible exact MemsKept.same rfl rfl
    | with_reducible exact fun w => MemsWf.same w rfl rfl
    | with_reducible exact CntKept.same rfl
    | with_reducible exact SafetyKept.same rfl rfl rfl rfl
    | with_reducible exact CfgKept.same rfl
    | with_reducible exact TripsKept.same rfl rfl
    | with_reducible exact .inr rfl
    | (intro)
    | (extract_lets +onlyGivenNames st; have hst : Kept x s0 st := ?_; clear_value st; revert st; intro st2 hst2)
    | (extract_lets +onlyGivenNames yy; clear_value yy; revert yy; intro y2)
    | (dsimp -zeta only [st]; clear st)
    | with_reducible apply Kept.ite
    | split

theorem imgCtrl_kept {s : State} {a2} (hs : Kept x s0 s) (x_cycle : x .cycle = true) : Kept x s0 (imgCtrl s a2) := by
  unfold imgCtrl
  repeat' first
    | with_reducible assumption
    | with_reducible apply State.onDbg_kept
    | with_reducible apply setImg_kept
    | with_reducible apply dbgEvent_kept
    | with_reducible apply endSession_kept
    | with_reducible exact MemsKept.same rfl rfl
    | with_reducible exact fun w => MemsWf.same w rfl rfl
    | (intro)
    | (extract_lets +onlyGivenNames st; have hst : Kept x s0 st := ?_; clear_value st; revert st; intro st2 hst2)
    | (extract_lets +onlyGivenNames yy; clear_value yy; revert yy; intro y2)
    | (dsimp -zeta only [st]; clear st)
    | with_reducible apply Kept.ite

theorem imgData_kept {s : State} {a2} (hs : Kept x s0 s) : Kept x s0 (imgData s a2) := by
  unfold imgData
  repeat' first
    | with_reducible assumption
    | with_reducible apply State.onDbg_kept
    | with_reducible exact MemsKept.same rfl rfl
    | with_reducible exact fun w => MemsWf.same w rfl rfl
    | (intro)
    | with_reducible apply Kept.ite

theorem writeMemData_kept {s : State} {a2} (hs : Kept x s0 s) (x_mem : x .mem = true) : Kept x s0 (writeMemData s a2) := by
  unfold writeMemData
  extract_lets okAddr st
  have h : Kept x s0 st := Kept.ite (regionViolation_kept hs) hs
  clear_value st
  refine State.onDbg_kept h (fun y w => ⟨?_, ?_⟩) fun y => .inl x_mem
  · dsimp only; split
    · exact memPut_wf w.1
    · exact w.1
  · dsimp only; split
    · exact memPut_wf w.2
    · exact w.2

theorem writeDebug_kept {s : State} {a2} {a3} {a4} (hs : Kept x s0 s) (x_mem : x .mem = true) (x_cycle : x .cycle = true) : Kept x s0 (writeDebug s a2 a3 a4) := by
  unfold writeDebug
  repeat' first
    | with_reducible assumption
    | with_reducible apply countFault_kept
    | with_reducible apply setWhalt_kept
    | with_reducible apply setChalt_kept
    | with_reducible apply debugReset_kept
    | with_reducible apply State.onDbg_kept
    | with_reducible apply writeMemData_kept
    | with_reducible apply imgCtrl_kept
    | with_reducible apply imgData_kept
    | with_reducible exact MemsKept.same rfl rfl
    | with_reducible exact fun w => MemsWf.same w rfl rfl
    | (intro)
    | (extract_lets +onlyGivenNames fn; have hfn : ∀ w z, Kept x s0 z → Kept x s0 (fn w z) := ?_; clear_value fn; revert fn; intro fn2 hfn)
    | (extract_lets +onlyGivenNames yy; clear_value yy; revert yy; intro y2)
    | with_reducible apply hfn
    | (dsimp -zeta only [fn]; clear fn)
    | with_reducible apply Kept.ite
    | split

end Sys2Proof.Machine
end

