-- ==== Sys2Proof/Laws/KeptMotion.lean ====
section
/-! SUPPORT. What these operations keep: the axes, the loops, the cars and the commands of motion.
Each lemma says that its operation stays within the parts that `x` allows, for states that have stayed within them since
`s0`. -/

namespace Sys2Proof.Machine

open Sys2Proof

variable {x : Part → Bool} {s0 : State}

/-! ## Machine/Ties.lean -/

theorem State.onShaft_kept {s : State} {a2} {a3} (hs : Kept x s0 s) : Kept x s0 (State.onShaft s a2 a3) := by
  unfold State.onShaft
  repeat' first
    | with_reducible assumption
    | with_reducible apply State.onMotion_kept

theorem State.onCar_kept {s : State} {a2} {a3} (hs : Kept x s0 s) : Kept x s0 (State.onCar s a2 a3) := by
  unfold State.onCar
  repeat' first
    | with_reducible assumption
    | with_reducible apply State.onMotion_kept

theorem stage_kept {s : State} {a2} {a3} (hs : Kept x s0 s) : Kept x s0 (stage s a2 a3) := by
  unfold stage
  repeat' first
    | with_reducible assumption
    | with_reducible apply State.onLoop_kept
    | with_reducible apply State.onAxis_kept
    | with_reducible exact CntKept.same rfl
    | with_reducible exact MemsKept.same rfl rfl
    | with_reducible exact fun w => MemsWf.same w rfl rfl
    | with_reducible exact FuseKept.same rfl rfl rfl
    | with_reducible exact SafetyKept.same rfl rfl rfl rfl
    | with_reducible exact CfgKept.same rfl
    | with_reducible exact TripsKept.same rfl rfl
    | with_reducible exact .inr rfl
    | (intro)
    | with_reducible apply Kept.ite
    | split

theorem State.onDi_kept {s : State} {a2} {a3} (hs : Kept x s0 s) : Kept x s0 (State.onDi s a2 a3) := by
  unfold State.onDi
  repeat' first
    | with_reducible assumption
    | with_reducible apply State.onField_kept

theorem State.onAi_kept {s : State} {a2} {a3} (hs : Kept x s0 s) : Kept x s0 (State.onAi s a2 a3) := by
  unfold State.onAi
  repeat' first
    | with_reducible assumption
    | with_reducible apply State.onField_kept

theorem State.onSd_kept {s : State} {a2} {a3} (hs : Kept x s0 s) : Kept x s0 (State.onSd s a2 a3) := by
  unfold State.onSd
  repeat' first
    | with_reducible assumption
    | with_reducible apply State.onField_kept

theorem State.onQa_kept {s : State} {a2} {a3} (hs : Kept x s0 s) : Kept x s0 (State.onQa s a2 a3) := by
  unfold State.onQa
  repeat' first
    | with_reducible assumption
    | with_reducible apply State.onField_kept

theorem State.onPwm_kept {s : State} {a2} {a3} (hs : Kept x s0 s) : Kept x s0 (State.onPwm s a2 a3) := by
  unfold State.onPwm
  repeat' first
    | with_reducible assumption
    | with_reducible apply State.onField_kept

theorem State.onStp_kept {s : State} {a2} {a3} (hs : Kept x s0 s) : Kept x s0 (State.onStp s a2 a3) := by
  unfold State.onStp
  repeat' first
    | with_reducible assumption
    | with_reducible apply State.onField_kept

theorem quietCan_kept {s : State} (hs : Kept x s0 s) : Kept x s0 (quietCan s) := by
  unfold quietCan
  repeat' first
    | with_reducible assumption
    | with_reducible apply State.onCan_kept

theorem wakeCan_kept {s : State} (hs : Kept x s0 s) : Kept x s0 (wakeCan s) := by
  unfold wakeCan
  repeat' first
    | with_reducible assumption
    | with_reducible apply State.onCan_kept

theorem becomeStandby_kept {s : State} {a2} (hs : Kept x s0 s) : Kept x s0 (becomeStandby s a2) := by
  unfold becomeStandby
  repeat' first
    | with_reducible assumption
    | with_reducible apply quietCan_kept
    | with_reducible apply State.onRed_kept

theorem s3Wake_kept {s : State} {a2} {a3} (hs : Kept x s0 s) : Kept x s0 (s3Wake s a2 a3) := by
  unfold s3Wake
  repeat' first
    | with_reducible assumption
    | with_reducible apply State.onPow_kept
    | (extract_lets +onlyGivenNames yy; clear_value yy; revert yy; intro y2)
    | with_reducible apply Kept.ite

/-! ## Machine/LoopOps.lean -/

theorem supEvent_kept {s : State} {a2} {a3} {a4} {a5} {a6} (hs : Kept x s0 s) : Kept x s0 (supEvent s a2 a3 a4 a5 a6) := by
  unfold supEvent
  repeat' first
    | with_reducible assumption
    | with_reducible apply raise_kept

theorem endInjection_kept {s : State} {a2} {a3} (hs : Kept x s0 s) : Kept x s0 (endInjection s a2 a3) := by
  unfold endInjection
  repeat' first
    | with_reducible assumption
    | with_reducible apply State.onAxis_kept
    | with_reducible apply supEvent_kept
    | (extract_lets +onlyGivenNames st; have hst : Kept x s0 st := ?_; clear_value st; revert st; intro st2 hst2)
    | (extract_lets +onlyGivenNames yy; clear_value yy; revert yy; intro y2)
    | with_reducible apply Kept.ite

theorem disableAxis_kept {s : State} {a2} (hs : Kept x s0 s) : Kept x s0 (disableAxis s a2) := by
  unfold disableAxis
  repeat' first
    | with_reducible assumption
    | with_reducible apply State.onAxis_kept
    | with_reducible apply endInjection_kept
    | split

theorem setCauses_kept {s : State} {a2} {a3} (hs : Kept x s0 s) : Kept x s0 (setCauses s a2 a3) := by
  unfold setCauses
  repeat' first
    | with_reducible assumption
    | with_reducible apply State.each_kept
    | with_reducible apply bump_kept
    | with_reducible apply State.onAxis_kept
    | with_reducible apply supEvent_kept
    | with_reducible apply recordOnly_kept
    | with_reducible apply endInjection_kept
    | with_reducible exact CntKept.same rfl
    | with_reducible exact MemsKept.same rfl rfl
    | with_reducible exact fun w => MemsWf.same w rfl rfl
    | with_reducible exact FuseKept.same rfl rfl rfl
    | with_reducible exact SafetyKept.same rfl rfl rfl rfl
    | with_reducible exact CfgKept.same rfl
    | with_reducible exact TripsKept.same rfl rfl
    | with_reducible exact .inr rfl
    | (intro)
    | (extract_lets +onlyGivenNames st; have hst : Kept x s0 st := ?_; clear_value st; revert st; intro st2 hst2)
    | (extract_lets +onlyGivenNames fn; have hfn : ∀ z, Kept x s0 z → Kept x s0 (fn z) := ?_; clear_value fn; revert fn; intro fn2 hfn)
    | (extract_lets +onlyGivenNames yy; clear_value yy; revert yy; intro y2)
    | (dsimp -zeta only [st]; clear st)
    | (dsimp -zeta only [fn]; clear fn)
    | with_reducible apply Kept.ite
    | split

theorem activate_kept {s : State} {a2} {a3} (hs : Kept x s0 s) : Kept x s0 (activate s a2 a3) := by
  unfold activate
  repeat' first
    | with_reducible assumption
    | with_reducible apply setCauses_kept
    | with_reducible apply Kept.ite

theorem dropCauses_kept {s : State} {a2} (hs : Kept x s0 s) : Kept x s0 (dropCauses s a2) := by
  unfold dropCauses
  repeat' first
    | with_reducible assumption
    | with_reducible apply setCauses_kept
    | with_reducible exact CntKept.same rfl
    | with_reducible exact MemsKept.same rfl rfl
    | with_reducible exact fun w => MemsWf.same w rfl rfl
    | with_reducible exact FuseKept.same rfl rfl rfl
    | with_reducible exact SafetyKept.same rfl rfl rfl rfl
    | with_reducible exact CfgKept.same rfl
    | with_reducible exact TripsKept.same rfl rfl
    | with_reducible exact .inr rfl
    | (intro)
    | with_reducible apply Kept.ite
    | split

/-! ## Machine/Law.lean -/

theorem countStale_kept {s : State} {a2} {a3} (hs : Kept x s0 s) : Kept x s0 (countStale s a2 a3) := by
  unfold countStale
  repeat' first
    | with_reducible assumption
    | with_reducible apply bump_kept
    | with_reducible apply State.onAxis_kept
    | with_reducible exact CntKept.same rfl
    | with_reducible exact MemsKept.same rfl rfl
    | with_reducible exact fun w => MemsWf.same w rfl rfl
    | with_reducible exact FuseKept.same rfl rfl rfl
    | with_reducible exact SafetyKept.same rfl rfl rfl rfl
    | with_reducible exact CfgKept.same rfl
    | with_reducible exact TripsKept.same rfl rfl
    | with_reducible exact .inr rfl
    | (intro)
    | (extract_lets +onlyGivenNames st; have hst : Kept x s0 st := ?_; clear_value st; revert st; intro st2 hst2)
    | (extract_lets +onlyGivenNames yy; clear_value yy; revert yy; intro y2)
    | (dsimp -zeta only [st]; clear st)
    | with_reducible apply Kept.ite
    | split

theorem execLaw_kept {s : State} {a2} {a3} {a4} (hs : Kept x s0 s) : Kept x s0 (execLaw s a2 a3 a4) := by
  unfold execLaw
  repeat' first
    | with_reducible assumption
    | with_reducible apply endInjection_kept
    | with_reducible apply bump_kept
    | with_reducible apply State.onAxis_kept
    | with_reducible apply setCauses_kept
    | with_reducible apply foldl_kept
    | with_reducible apply foldl_kept_fst
    | with_reducible exact CntKept.same rfl
    | with_reducible exact MemsKept.same rfl rfl
    | with_reducible exact fun w => MemsWf.same w rfl rfl
    | with_reducible exact FuseKept.same rfl rfl rfl
    | with_reducible exact SafetyKept.same rfl rfl rfl rfl
    | with_reducible exact CfgKept.same rfl
    | with_reducible exact TripsKept.same rfl rfl
    | with_reducible exact .inr rfl
    | (intro)
    | (extract_lets +onlyGivenNames st; have hst : Kept x s0 st := ?_; clear_value st; revert st; intro st2 hst2)
    | (extract_lets +onlyGivenNames yy; clear_value yy; revert yy; intro y2)
    | (dsimp -zeta only [st]; clear st)
    | with_reducible apply Kept.ite
    | split

theorem tripOut_kept {s : State} {a2} (hs : Kept x s0 s) : Kept x s0 (tripOut s a2) := by
  unfold tripOut
  repeat' first
    | with_reducible assumption
    | with_reducible apply State.onAxis_kept

theorem holdAxis_kept {s : State} {a2} {a3} {a4} (hs : Kept x s0 s) : Kept x s0 (holdAxis s a2 a3 a4) := by
  unfold holdAxis
  repeat' first
    | with_reducible assumption
    | with_reducible apply tripOut_kept
    | with_reducible apply setCauses_kept
    | with_reducible apply endInjection_kept
    | with_reducible apply State.onAxis_kept
    | with_reducible exact CntKept.same rfl
    | with_reducible exact MemsKept.same rfl rfl
    | with_reducible exact fun w => MemsWf.same w rfl rfl
    | with_reducible exact FuseKept.same rfl rfl rfl
    | with_reducible exact SafetyKept.same rfl rfl rfl rfl
    | with_reducible exact CfgKept.same rfl
    | with_reducible exact TripsKept.same rfl rfl
    | with_reducible exact .inr rfl
    | (intro)
    | (extract_lets +onlyGivenNames st; have hst : Kept x s0 st := ?_; clear_value st; revert st; intro st2 hst2)
    | (extract_lets +onlyGivenNames yy; clear_value yy; revert yy; intro y2)
    | (dsimp -zeta only [st]; clear st)
    | with_reducible apply Kept.ite
    | split

theorem startMove_kept {s : State} {a2} (hs : Kept x s0 s) : Kept x s0 (startMove s a2) := by
  unfold startMove
  repeat' first
    | with_reducible assumption
    | with_reducible apply State.onAxis_kept
    | (extract_lets +onlyGivenNames yy; clear_value yy; revert yy; intro y2)
    | with_reducible apply Kept.ite

theorem axisProgram_kept {s : State} {a2} (hs : Kept x s0 s) : Kept x s0 (axisProgram s a2) := by
  unfold axisProgram
  repeat' first
    | with_reducible assumption
    | with_reducible apply startMove_kept
    | with_reducible apply countStale_kept
    | with_reducible apply State.onAxis_kept
    | with_reducible apply holdAxis_kept
    | with_reducible apply execLaw_kept
    | with_reducible apply setCauses_kept
    | with_reducible exact CntKept.same rfl
    | with_reducible exact MemsKept.same rfl rfl
    | with_reducible exact fun w => MemsWf.same w rfl rfl
    | with_reducible exact FuseKept.same rfl rfl rfl
    | with_reducible exact SafetyKept.same rfl rfl rfl rfl
    | with_reducible exact CfgKept.same rfl
    | with_reducible exact TripsKept.same rfl rfl
    | with_reducible exact .inr rfl
    | (intro)
    | (extract_lets +onlyGivenNames st; have hst : Kept x s0 st := ?_; clear_value st; revert st; intro st2 hst2)
    | (extract_lets +onlyGivenNames yy; clear_value yy; revert yy; intro y2)
    | (dsimp -zeta only [st]; clear st)
    | with_reducible apply Kept.ite
    | split

/-! ## Machine/Landing.lean -/

theorem landed_kept {s : State} {a2} {a3} (hs : Kept x s0 s) : Kept x s0 (landed s a2 a3) := by
  unfold landed
  repeat' first
    | with_reducible assumption
    | with_reducible apply ok_kept
    | split

theorem landRefused_kept {s : State} {a2} (hs : Kept x s0 s) : Kept x s0 (landRefused s a2) := by
  unfold landRefused
  repeat' first
    | with_reducible assumption
    | with_reducible apply refused_kept
    | split

theorem landWord_kept {s : State} {a2} {a3} {a4} (hs : Kept x s0 s) : Kept x s0 (landWord s a2 a3 a4) := by
  unfold landWord
  repeat' first
    | with_reducible assumption
    | with_reducible apply store_kept
    | with_reducible apply State.onAxis_kept
    | with_reducible exact CntKept.same rfl
    | with_reducible exact MemsKept.same rfl rfl
    | with_reducible exact fun w => MemsWf.same w rfl rfl
    | with_reducible exact FuseKept.same rfl rfl rfl
    | with_reducible exact SafetyKept.same rfl rfl rfl rfl
    | with_reducible exact CfgKept.same rfl
    | with_reducible exact TripsKept.same rfl rfl
    | with_reducible exact .inr rfl
    | (intro)
    | with_reducible apply Kept.ite
    | split

theorem clearOc_kept {s : State} {a2} (hs : Kept x s0 s) : Kept x s0 (clearOc s a2) := by
  unfold clearOc
  repeat' first
    | with_reducible assumption
    | with_reducible apply State.onPwm_kept
    | (extract_lets +onlyGivenNames yy; clear_value yy; revert yy; intro y2)
    | with_reducible apply Kept.ite

theorem land_kept {s : State} {a2} {a3} (hs : Kept x s0 s) : Kept x s0 (land s a2 a3) := by
  unfold land
  repeat' first
    | with_reducible assumption
    | with_reducible apply landed_kept
    | with_reducible apply landWord_kept
    | with_reducible apply State.onAxis_kept
    | with_reducible apply dropCauses_kept
    | with_reducible apply endInjection_kept
    | with_reducible apply store_kept
    | with_reducible apply clearOc_kept
    | with_reducible apply setCauses_kept
    | with_reducible apply landRefused_kept
    | with_reducible apply disableAxis_kept
    | with_reducible apply bump_kept
    | with_reducible exact CntKept.same rfl
    | with_reducible exact MemsKept.same rfl rfl
    | with_reducible exact fun w => MemsWf.same w rfl rfl
    | with_reducible exact FuseKept.same rfl rfl rfl
    | with_reducible exact SafetyKept.same rfl rfl rfl rfl
    | with_reducible exact CfgKept.same rfl
    | with_reducible exact TripsKept.same rfl rfl
    | with_reducible exact .inr rfl
    | (intro)
    | (extract_lets +onlyGivenNames st; have hst : Kept x s0 st := ?_; clear_value st; revert st; intro st2 hst2)
    | (extract_lets +onlyGivenNames yy; clear_value yy; revert yy; intro y2)
    | (dsimp -zeta only [st]; clear st)
    | with_reducible apply Kept.ite
    | split

theorem landOne_kept {s : State} {a2} (hs : Kept x s0 s) : Kept x s0 (landOne s a2) := by
  unfold landOne
  repeat' first
    | with_reducible assumption
    | with_reducible apply State.onAxis_kept
    | with_reducible apply bump_kept
    | with_reducible apply land_kept
    | split

theorem landBulk_kept {s : State} {a2} (hs : Kept x s0 s) : Kept x s0 (landBulk s a2) := by
  unfold landBulk
  repeat' first
    | with_reducible assumption
    | with_reducible apply State.onAxis_kept
    | with_reducible apply State.each_kept
    | with_reducible apply ok_kept
    | with_reducible apply stage_kept
    | (intro)
    | (extract_lets +onlyGivenNames st; have hst : Kept x s0 st := ?_; clear_value st; revert st; intro st2 hst2)
    | split

theorem runTableLoad_kept {s : State} {a2} (hs : Kept x s0 s) : Kept x s0 (runTableLoad s a2) := by
  unfold runTableLoad
  repeat' first
    | with_reducible assumption
    | with_reducible apply State.onAxis_kept
    | with_reducible apply State.onLoop_kept
    | with_reducible exact CntKept.same rfl
    | with_reducible exact MemsKept.same rfl rfl
    | with_reducible exact fun w => MemsWf.same w rfl rfl
    | with_reducible exact FuseKept.same rfl rfl rfl
    | with_reducible exact SafetyKept.same rfl rfl rfl rfl
    | with_reducible exact CfgKept.same rfl
    | with_reducible exact TripsKept.same rfl rfl
    | with_reducible exact .inr rfl
    | (intro)
    | (extract_lets +onlyGivenNames st; have hst : Kept x s0 st := ?_; clear_value st; revert st; intro st2 hst2)
    | (extract_lets +onlyGivenNames yy; clear_value yy; revert yy; intro y2)
    | (dsimp -zeta only [st]; clear st)
    | with_reducible apply Kept.ite
    | split

theorem releaseHeld_kept {s : State} {a2} (hs : Kept x s0 s) : Kept x s0 (releaseHeld s a2) := by
  unfold releaseHeld
  repeat' first
    | with_reducible assumption
    | with_reducible apply State.each_kept
    | with_reducible apply State.onAxis_kept
    | with_reducible apply runTableLoad_kept
    | (extract_lets +onlyGivenNames yy; clear_value yy; revert yy; intro y2)
    | with_reducible apply Kept.ite

theorem leaveCapture_kept {s : State} (hs : Kept x s0 s) : Kept x s0 (leaveCapture s) := by
  unfold leaveCapture
  repeat' first
    | with_reducible assumption
    | with_reducible apply draw_kept_proj
    | with_reducible apply State.onLoop_kept
    | with_reducible apply foldl_kept
    | with_reducible apply foldl_kept_fst
    | with_reducible exact CntKept.same rfl
    | with_reducible exact MemsKept.same rfl rfl
    | with_reducible exact fun w => MemsWf.same w rfl rfl
    | with_reducible exact FuseKept.same rfl rfl rfl
    | with_reducible exact SafetyKept.same rfl rfl rfl rfl
    | with_reducible exact CfgKept.same rfl
    | with_reducible exact TripsKept.same rfl rfl
    | with_reducible exact .inr rfl
    | (intro)
    | (extract_lets +onlyGivenNames st; have hst : Kept x s0 st := ?_; clear_value st; revert st; intro st2 hst2)
    | (extract_lets +onlyGivenNames yy; clear_value yy; revert yy; intro y2)
    | (dsimp -zeta only [st]; clear st)
    | with_reducible apply Kept.ite
    | split

theorem landCapture_kept {s : State} (hs : Kept x s0 s) : Kept x s0 (landCapture s) := by
  unfold landCapture
  repeat' first
    | with_reducible assumption
    | with_reducible apply State.each_kept
    | with_reducible apply leaveCapture_kept
    | with_reducible apply ok_kept
    | with_reducible apply State.onLoop_kept
    | with_reducible apply foldl_kept
    | with_reducible apply foldl_kept_fst
    | with_reducible exact CntKept.same rfl
    | with_reducible exact MemsKept.same rfl rfl
    | with_reducible exact fun w => MemsWf.same w rfl rfl
    | with_reducible exact FuseKept.same rfl rfl rfl
    | with_reducible exact SafetyKept.same rfl rfl rfl rfl
    | with_reducible exact CfgKept.same rfl
    | with_reducible exact TripsKept.same rfl rfl
    | with_reducible exact .inr rfl
    | (intro)
    | (extract_lets +onlyGivenNames st; have hst : Kept x s0 st := ?_; clear_value st; revert st; intro st2 hst2)
    | (extract_lets +onlyGivenNames yy; clear_value yy; revert yy; intro y2)
    | with_reducible apply Kept.ite
    | split

theorem landAll_kept {s : State} (hs : Kept x s0 s) : Kept x s0 (landAll s) := by
  unfold landAll
  repeat' first
    | with_reducible assumption
    | with_reducible apply landCapture_kept
    | with_reducible apply State.each_kept
    | with_reducible apply landBulk_kept
    | with_reducible apply landOne_kept
    | with_reducible apply releaseHeld_kept
    | (intro)
    | (extract_lets +onlyGivenNames st; have hst : Kept x s0 st := ?_; clear_value st; revert st; intro st2 hst2)
    | (extract_lets +onlyGivenNames yy; clear_value yy; revert yy; intro y2)
    | with_reducible apply Kept.ite

/-! ## Machine/Axis.lean -/

theorem execAxisStatus_kept {a1} {s : State} (hs : Kept x s0 s) : Ends (Kept x s0) (execAxisStatus a1 s) := by
  unfold execAxisStatus
  repeat' first
    | with_reducible assumption
    | with_reducible apply serve_kept
    | with_reducible apply ok_kept
    | with_reducible exact CntKept.same rfl
    | with_reducible exact MemsKept.same rfl rfl
    | with_reducible exact fun w => MemsWf.same w rfl rfl
    | with_reducible exact FuseKept.same rfl rfl rfl
    | with_reducible exact SafetyKept.same rfl rfl rfl rfl
    | with_reducible exact CfgKept.same rfl
    | with_reducible exact TripsKept.same rfl rfl
    | with_reducible exact .inr rfl
    | (intro)
    | (extract_lets +onlyGivenNames st; have hst : Kept x s0 st := ?_; clear_value st; revert st; intro st2 hst2)
    | (extract_lets +onlyGivenNames yy; clear_value yy; revert yy; intro y2)
    | with_reducible apply Ends.next
    | with_reducible apply Kept.ite
    | split

theorem execAxisDescLoad_kept {a1} {s : State} (hs : Kept x s0 s) : Ends (Kept x s0) (execAxisDescLoad a1 s) := by
  unfold execAxisDescLoad
  repeat' first
    | with_reducible assumption
    | with_reducible apply serve_kept
    | with_reducible apply refused_kept
    | with_reducible apply stage_kept
    | with_reducible apply setSleep_kept
    | (intro)
    | (extract_lets +onlyGivenNames yy; clear_value yy; revert yy; intro y2)
    | with_reducible apply Ends.next
    | with_reducible apply Kept.ite
    | split

theorem execAxisCoefWrite_kept {a1} {s : State} (hs : Kept x s0 s) : Ends (Kept x s0) (execAxisCoefWrite a1 s) := by
  unfold execAxisCoefWrite
  repeat' first
    | with_reducible assumption
    | with_reducible apply serve_kept
    | with_reducible apply refused_kept
    | with_reducible apply stage_kept
    | (intro)
    | (extract_lets +onlyGivenNames yy; clear_value yy; revert yy; intro y2)
    | with_reducible apply Ends.next
    | with_reducible apply Kept.ite

theorem execAxisBankSelect_kept {a1} {s : State} (hs : Kept x s0 s) : Ends (Kept x s0) (execAxisBankSelect a1 s) := by
  unfold execAxisBankSelect
  repeat' first
    | with_reducible assumption
    | with_reducible apply serve_kept
    | with_reducible apply refused_kept
    | with_reducible apply stage_kept
    | (intro)
    | (extract_lets +onlyGivenNames yy; clear_value yy; revert yy; intro y2)
    | with_reducible apply Ends.next
    | with_reducible apply Kept.ite

theorem execAxisTableLoad_kept {a1} {s : State} (hs : Kept x s0 s) : Ends (Kept x s0) (execAxisTableLoad a1 s) := by
  unfold execAxisTableLoad
  repeat' first
    | with_reducible assumption
    | with_reducible apply serve_kept
    | with_reducible apply runTableLoad_kept
    | (intro)
    | (extract_lets +onlyGivenNames yy; clear_value yy; revert yy; intro y2)
    | with_reducible apply Ends.next

theorem execAxisEnable_kept {a1} {s : State} (hs : Kept x s0 s) : Ends (Kept x s0) (execAxisEnable a1 s) := by
  unfold execAxisEnable
  repeat' first
    | with_reducible assumption
    | with_reducible apply serve_kept
    | with_reducible apply ok_kept
    | with_reducible apply refused_kept
    | with_reducible apply stage_kept
    | (intro)
    | (extract_lets +onlyGivenNames yy; clear_value yy; revert yy; intro y2)
    | with_reducible apply Ends.next
    | with_reducible apply Kept.ite

theorem execAxisDisable_kept {a1} {s : State} (hs : Kept x s0 s) : Ends (Kept x s0) (execAxisDisable a1 s) := by
  unfold execAxisDisable
  repeat' first
    | with_reducible assumption
    | with_reducible apply serve_kept
    | with_reducible apply stage_kept
    | with_reducible exact CntKept.same rfl
    | with_reducible exact MemsKept.same rfl rfl
    | with_reducible exact fun w => MemsWf.same w rfl rfl
    | with_reducible exact FuseKept.same rfl rfl rfl
    | with_reducible exact SafetyKept.same rfl rfl rfl rfl
    | with_reducible exact CfgKept.same rfl
    | with_reducible exact TripsKept.same rfl rfl
    | with_reducible exact .inr rfl
    | (intro)
    | (extract_lets +onlyGivenNames st; have hst : Kept x s0 st := ?_; clear_value st; revert st; intro st2 hst2)
    | (extract_lets +onlyGivenNames yy; clear_value yy; revert yy; intro y2)
    | with_reducible apply Ends.next
    | with_reducible apply Kept.ite
    | split

/-! ## Machine/SafeFuncs.lean -/

theorem ss1All_kept {s : State} {a2} (hs : Kept x s0 s) : Kept x s0 (ss1All s a2) := by
  unfold ss1All
  exact State.each_kept hs fun _ _ h => markSs1_kept (startSs1_kept h)

theorem tripUnstopped_kept {s : State} {a2} (hs : Kept x s0 s) : Kept x s0 (tripUnstopped s a2) := by
  unfold tripUnstopped
  exact Kept.ite hs (latchTrip_kept hs)

theorem pairDemand_kept {s : State} {a2} {a3} (hs : Kept x s0 s) : Kept x s0 (pairDemand s a2 a3) := by
  unfold pairDemand
  repeat' first
    | with_reducible assumption
    | with_reducible apply tripUnstopped_kept
    | with_reducible apply ss1All_kept
    | with_reducible apply State.each_kept
    | with_reducible apply latchTrip_kept
    | with_reducible apply startSs1_kept
    | (intro)
    | (extract_lets +onlyGivenNames yy; clear_value yy; revert yy; intro y2)
    | with_reducible apply Kept.ite

theorem samplePair_kept {a1} {a2} {s : State} {a4} (hs : Kept x s0 s) : Kept x s0 (samplePair a1 a2 s a4) := by
  unfold samplePair
  repeat' first
    | with_reducible assumption
    | with_reducible apply State.onChan_kept
    | with_reducible apply bump_kept
    | with_reducible apply safetyEvent_kept
    | with_reducible apply pairDemand_kept
    | with_reducible exact fun w => MemsWf.same w rfl rfl
    | with_reducible exact CfgKept.same rfl
    | with_reducible exact TripsKept.same rfl rfl
    | (intro)
    | with_reducible apply Kept.ite

theorem sampleReset_kept {a1} {s : State} {a3} (hs : Kept x s0 s) (x_trips : x .trips = true) : Kept x s0 (sampleReset a1 s a3) := by
  unfold sampleReset
  repeat' first
    | with_reducible assumption
    | with_reducible apply State.onChan_kept
    | with_reducible apply safetyEvent_kept
    | with_reducible apply resetEdge_kept
    | with_reducible exact fun w => MemsWf.same w rfl rfl
    | with_reducible exact CfgKept.same rfl
    | with_reducible exact TripsKept.same rfl rfl
    | with_reducible exact CntKept.same rfl
    | with_reducible exact MemsKept.same rfl rfl
    | with_reducible exact FuseKept.same rfl rfl rfl
    | with_reducible exact SafetyKept.same rfl rfl rfl rfl
    | with_reducible exact .inr rfl
    | (intro)
    | (extract_lets +onlyGivenNames st; have hst : Kept x s0 st := ?_; clear_value st; revert st; intro st2 hst2)
    | (extract_lets +onlyGivenNames yy; clear_value yy; revert yy; intro y2)
    | (dsimp -zeta only [st]; clear st)
    | with_reducible apply Kept.ite
    | split

theorem sampleSafety_kept {s : State} {a2} {a3} {a4} (hs : Kept x s0 s) (x_trips : x .trips = true) : Kept x s0 (sampleSafety s a2 a3 a4) := by
  unfold sampleSafety
  repeat' first
    | with_reducible assumption
    | with_reducible apply State.onChan_kept
    | with_reducible apply latchTrip_kept
    | with_reducible apply State.each_kept
    | with_reducible apply samplePair_kept
    | with_reducible apply sampleReset_kept
    | with_reducible exact fun w => MemsWf.same w rfl rfl
    | with_reducible exact CfgKept.same rfl
    | with_reducible exact TripsKept.same rfl rfl
    | (intro)
    | (extract_lets +onlyGivenNames st; have hst : Kept x s0 st := ?_; clear_value st; revert st; intro st2 hst2)
    | (extract_lets +onlyGivenNames yy; clear_value yy; revert yy; intro y2)
    | (dsimp -zeta only [st]; clear st)
    | with_reducible apply Kept.ite

theorem samplePoints_kept {s : State} {a2} {a3} (hs : Kept x s0 s) : Kept x s0 (samplePoints s a2 a3) := by
  unfold samplePoints
  repeat' first
    | with_reducible assumption
    | with_reducible apply State.each_kept
    | with_reducible apply State.onChan_kept
    | with_reducible apply latchTrip_kept
    | with_reducible exact fun w => MemsWf.same w rfl rfl
    | with_reducible exact CfgKept.same rfl
    | with_reducible exact TripsKept.same rfl rfl
    | (intro)
    | (extract_lets +onlyGivenNames st; have hst : Kept x s0 st := ?_; clear_value st; revert st; intro st2 hst2)
    | (extract_lets +onlyGivenNames yy; clear_value yy; revert yy; intro y2)
    | with_reducible apply Kept.ite

theorem actDemand_kept {a1} {a2} {a3} {s : State} {a5} (hs : Kept x s0 s) : Kept x s0 (actDemand a1 a2 a3 s a5) := by
  unfold actDemand
  repeat' first
    | with_reducible assumption
    | with_reducible apply startSs1_kept
    | with_reducible apply latchTrip_kept
    | (extract_lets +onlyGivenNames yy; clear_value yy; revert yy; intro y2)
    | with_reducible apply Kept.ite

theorem watchSs1_kept {s : State} {a2} {a3} {a4} (hs : Kept x s0 s) : Kept x s0 (watchSs1 s a2 a3 a4) := by
  unfold watchSs1
  repeat' first
    | with_reducible assumption
    | with_reducible apply endSs1_kept
    | with_reducible apply State.onChan_kept
    | with_reducible exact fun w => MemsWf.same w rfl rfl
    | with_reducible exact CfgKept.same rfl
    | with_reducible exact TripsKept.same rfl rfl
    | (intro)
    | (extract_lets +onlyGivenNames yy; clear_value yy; revert yy; intro y2)
    | with_reducible apply Kept.ite

theorem evalShaft_kept {a1} {a2} {s : State} {a4} (hs : Kept x s0 s) : Kept x s0 (evalShaft a1 a2 s a4) := by
  unfold evalShaft
  repeat' first
    | with_reducible assumption
    | with_reducible apply State.onChan_kept
    | with_reducible apply State.each_kept
    | with_reducible apply actDemand_kept
    | with_reducible apply watchSs1_kept
    | with_reducible exact fun w => MemsWf.same w rfl rfl
    | with_reducible exact CfgKept.same rfl
    | with_reducible exact TripsKept.same rfl rfl
    | (intro)

theorem takeRec_same {b : Bool} {y : ChanSt} {r : SafeRec} : (takeRec b y r).image = y.image ∧
    (takeRec b y r).modTrip = y.modTrip ∧ (takeRec b y r).shaftTrip = y.shaftTrip := by
  cases r <;> exact ⟨rfl, rfl, rfl⟩

theorem foldl_takeRec_same {b : Bool} {l : List SafeRec} {y : ChanSt} : (l.foldl (takeRec b) y).image = y.image ∧
    (l.foldl (takeRec b) y).modTrip = y.modTrip ∧ (l.foldl (takeRec b) y).shaftTrip = y.shaftTrip := by
  induction l generalizing y with
  | nil => exact ⟨rfl, rfl, rfl⟩
  | cons r l ih =>
    obtain ⟨h1, h2, h3⟩ := @takeRec_same b y r
    obtain ⟨g1, g2, g3⟩ := @ih (takeRec b y r)
    exact ⟨g1.trans h1, g2.trans h2, g3.trans h3⟩

theorem foldl_missCar_same {b : Bool} {l : List Nat} {y : ChanSt} : (l.foldl (missCar b) y).image = y.image ∧
    (l.foldl (missCar b) y).modTrip = y.modTrip ∧ (l.foldl (missCar b) y).shaftTrip = y.shaftTrip := by
  induction l generalizing y with
  | nil => exact ⟨rfl, rfl, rfl⟩
  | cons n l ih => exact @ih (missCar b y n)

theorem acceptFrame_kept {s : State} {a2} {a3} {a4} {a5} (hs : Kept x s0 s) : Kept x s0 (acceptFrame s a2 a3 a4 a5) := by
  unfold acceptFrame
  repeat' first
    | with_reducible assumption
    | with_reducible apply bump_kept
    | with_reducible apply State.onChan_kept
    | with_reducible apply State.each_kept
    | with_reducible apply latchTrip_kept
    | with_reducible apply evalShaft_kept
    | with_reducible exact fun w => MemsWf.same w rfl rfl
    | with_reducible exact CfgKept.same rfl
    | with_reducible exact TripsKept.same rfl rfl
    | exact CfgKept.same (foldl_missCar_same.1.trans foldl_takeRec_same.1)
    | exact TripsKept.same (foldl_missCar_same.2.1.trans foldl_takeRec_same.2.1) (foldl_missCar_same.2.2.trans foldl_takeRec_same.2.2)
    | (intro)
    | (extract_lets +onlyGivenNames st; have hst : Kept x s0 st := ?_; clear_value st; revert st; intro st2 hst2)
    | (extract_lets +onlyGivenNames yy; clear_value yy; revert yy; intro y2)
    | (dsimp -zeta only [st]; clear st)
    | with_reducible apply Kept.ite
    | split

theorem safeFrame_kept {s : State} {a2} {a3} {a4} {a5} (hs : Kept x s0 s) : Kept x s0 (safeFrame s a2 a3 a4 a5) := by
  unfold safeFrame
  repeat' first
    | with_reducible assumption
    | with_reducible apply acceptFrame_kept
    | with_reducible apply bump_kept
    | (extract_lets +onlyGivenNames yy; clear_value yy; revert yy; intro y2)
    | with_reducible apply Kept.ite

theorem publishFrame_kept {s : State} {a2} {a3} {a4} (hs : Kept x s0 s) : Kept x s0 (publishFrame s a2 a3 a4) := by
  unfold publishFrame
  repeat' first
    | with_reducible assumption
    | with_reducible apply State.onMulti_kept
    | with_reducible apply Kept.ite
    | split

/-! ## Machine/MotionOps.lean -/

theorem carEvent_kept {s : State} {a2} {a3} {a4} {a5} (hs : Kept x s0 s) : Kept x s0 (carEvent s a2 a3 a4 a5) := by
  unfold carEvent
  repeat' first
    | with_reducible assumption
    | with_reducible apply raise_kept

theorem crestEvent_kept {s : State} {a2} {a3} {a4} {a5} (hs : Kept x s0 s) : Kept x s0 (crestEvent s a2 a3 a4 a5) := by
  unfold crestEvent
  repeat' first
    | with_reducible assumption
    | with_reducible apply raise_kept

theorem report_kept {s : State} {a2} (hs : Kept x s0 s) : Kept x s0 (report s a2) := by
  unfold report
  repeat' first
    | with_reducible assumption
    | with_reducible apply State.onDisp_kept

/-! ## Machine/Crest.lean -/

theorem failInspect_kept {s : State} {a2} (hs : Kept x s0 s) : Kept x s0 (failInspect s a2) := by
  unfold failInspect
  repeat' first
    | with_reducible assumption
    | with_reducible apply refused_kept
    | with_reducible apply State.onCar_kept
    | split

theorem tripCar_kept {s : State} {a2} {a3} (hs : Kept x s0 s) : Kept x s0 (tripCar s a2 a3) := by
  unfold tripCar
  repeat' first
    | with_reducible assumption
    | with_reducible apply failInspect_kept
    | with_reducible apply report_kept
    | with_reducible apply carEvent_kept
    | with_reducible apply bump_kept
    | with_reducible apply State.onCar_kept
    | with_reducible exact CntKept.same rfl
    | with_reducible exact MemsKept.same rfl rfl
    | with_reducible exact fun w => MemsWf.same w rfl rfl
    | with_reducible exact FuseKept.same rfl rfl rfl
    | with_reducible exact SafetyKept.same rfl rfl rfl rfl
    | with_reducible exact CfgKept.same rfl
    | with_reducible exact TripsKept.same rfl rfl
    | with_reducible exact .inr rfl
    | (intro)
    | (extract_lets +onlyGivenNames st; have hst : Kept x s0 st := ?_; clear_value st; revert st; intro st2 hst2)
    | (extract_lets +onlyGivenNames yy; clear_value yy; revert yy; intro y2)
    | (dsimp -zeta only [st]; clear st)
    | with_reducible apply Kept.ite
    | split

theorem stopCar_kept {s : State} {s2 : State} {a3} {a4} (hs : Kept x s0 s) (hs2 : Kept x s0 s2) : Kept x s0 (stopCar s s2 a3 a4) := by
  unfold stopCar
  repeat' first
    | with_reducible assumption
    | with_reducible apply recordOnly_kept
    | with_reducible apply tripCar_kept
    | with_reducible apply State.onCar_kept
    | with_reducible apply report_kept
    | with_reducible apply carEvent_kept
    | with_reducible apply bump_kept
    | with_reducible exact CntKept.same rfl
    | with_reducible exact MemsKept.same rfl rfl
    | with_reducible exact fun w => MemsWf.same w rfl rfl
    | with_reducible exact FuseKept.same rfl rfl rfl
    | with_reducible exact SafetyKept.same rfl rfl rfl rfl
    | with_reducible exact CfgKept.same rfl
    | with_reducible exact TripsKept.same rfl rfl
    | with_reducible exact .inr rfl
    | (intro)
    | (extract_lets +onlyGivenNames st; have hst : Kept x s0 st := ?_; clear_value st; revert st; intro st2 hst2)
    | (extract_lets +onlyGivenNames yy; clear_value yy; revert yy; intro y2)
    | (dsimp -zeta only [st]; clear st)
    | with_reducible apply Kept.ite
    | split

theorem secondCause_kept {s : State} {a2} {a3} (hs : Kept x s0 s) : Kept x s0 (secondCause s a2 a3) := by
  unfold secondCause
  repeat' first
    | with_reducible assumption
    | with_reducible apply recordOnly_kept
    | with_reducible apply State.onCar_kept
    | with_reducible exact CntKept.same rfl
    | with_reducible exact MemsKept.same rfl rfl
    | with_reducible exact fun w => MemsWf.same w rfl rfl
    | with_reducible exact FuseKept.same rfl rfl rfl
    | with_reducible exact SafetyKept.same rfl rfl rfl rfl
    | with_reducible exact CfgKept.same rfl
    | with_reducible exact TripsKept.same rfl rfl
    | with_reducible exact .inr rfl
    | (intro)
    | (extract_lets +onlyGivenNames st; have hst : Kept x s0 st := ?_; clear_value st; revert st; intro st2 hst2)
    | (extract_lets +onlyGivenNames yy; clear_value yy; revert yy; intro y2)
    | (dsimp -zeta only [st]; clear st)
    | with_reducible apply Kept.ite
    | split

theorem watchStop_kept {s : State} {s2 : State} {a3} (hs : Kept x s0 s) (hs2 : Kept x s0 s2) : Kept x s0 (watchStop s s2 a3) := by
  unfold watchStop
  repeat' first
    | with_reducible assumption
    | with_reducible apply State.onCar_kept
    | with_reducible apply tripCar_kept
    | with_reducible apply carEvent_kept
    | with_reducible apply bump_kept
    | with_reducible apply secondCause_kept
    | with_reducible exact CntKept.same rfl
    | with_reducible exact MemsKept.same rfl rfl
    | with_reducible exact fun w => MemsWf.same w rfl rfl
    | with_reducible exact FuseKept.same rfl rfl rfl
    | with_reducible exact SafetyKept.same rfl rfl rfl rfl
    | with_reducible exact CfgKept.same rfl
    | with_reducible exact TripsKept.same rfl rfl
    | with_reducible exact .inr rfl
    | (intro)
    | (extract_lets +onlyGivenNames st; have hst : Kept x s0 st := ?_; clear_value st; revert st; intro st2 hst2)
    | (extract_lets +onlyGivenNames yy; clear_value yy; revert yy; intro y2)
    | (dsimp -zeta only [st]; clear st)
    | with_reducible apply Kept.ite
    | split

theorem formFactor_kept {s : State} {a2} (hs : Kept x s0 s) : Kept x s0 (formFactor s a2) := by
  unfold formFactor
  repeat' first
    | with_reducible assumption
    | with_reducible apply State.onCar_kept
    | with_reducible exact CntKept.same rfl
    | with_reducible exact MemsKept.same rfl rfl
    | with_reducible exact fun w => MemsWf.same w rfl rfl
    | with_reducible exact FuseKept.same rfl rfl rfl
    | with_reducible exact SafetyKept.same rfl rfl rfl rfl
    | with_reducible exact CfgKept.same rfl
    | with_reducible exact TripsKept.same rfl rfl
    | with_reducible exact .inr rfl
    | (intro)
    | (extract_lets +onlyGivenNames st; have hst : Kept x s0 st := ?_; clear_value st; revert st; intro st2 hst2)
    | (extract_lets +onlyGivenNames yy; clear_value yy; revert yy; intro y2)
    | (dsimp -zeta only [st]; clear st)
    | with_reducible apply Kept.ite
    | split

theorem beginRescue_kept {s : State} {a2} {a3} (hs : Kept x s0 s) : Kept x s0 (beginRescue s a2 a3) := by
  unfold beginRescue
  repeat' first
    | with_reducible assumption
    | with_reducible apply State.onShaft_kept
    | with_reducible apply crestEvent_kept
    | with_reducible apply bump_kept
    | with_reducible apply State.each_kept
    | with_reducible apply report_kept
    | (intro)
    | (extract_lets +onlyGivenNames st; have hst : Kept x s0 st := ?_; clear_value st; revert st; intro st2 hst2)
    | with_reducible apply Kept.ite

theorem goMinEnergy_kept {s : State} {a2} {a3} {a4} (hs : Kept x s0 s) : Kept x s0 (goMinEnergy s a2 a3 a4) := by
  unfold goMinEnergy
  repeat' first
    | with_reducible assumption
    | with_reducible apply State.onCar_kept
    | with_reducible apply State.onShaft_kept
    | with_reducible apply bump_kept
    | with_reducible apply report_kept
    | with_reducible apply crestEvent_kept
    | with_reducible exact CntKept.same rfl
    | with_reducible exact MemsKept.same rfl rfl
    | with_reducible exact fun w => MemsWf.same w rfl rfl
    | with_reducible exact FuseKept.same rfl rfl rfl
    | with_reducible exact SafetyKept.same rfl rfl rfl rfl
    | with_reducible exact CfgKept.same rfl
    | with_reducible exact TripsKept.same rfl rfl
    | with_reducible exact .inr rfl
    | (intro)
    | (extract_lets +onlyGivenNames st; have hst : Kept x s0 st := ?_; clear_value st; revert st; intro st2 hst2)
    | (extract_lets +onlyGivenNames yy; clear_value yy; revert yy; intro y2)
    | with_reducible apply Kept.ite
    | split

theorem coverTest_kept {s : State} {s2 : State} {a3} (hs : Kept x s0 s) (hs2 : Kept x s0 s2) : Kept x s0 (coverTest s s2 a3) := by
  unfold coverTest
  repeat' first
    | with_reducible assumption
    | with_reducible apply beginRescue_kept
    | with_reducible apply goMinEnergy_kept
    | with_reducible exact CntKept.same rfl
    | with_reducible exact MemsKept.same rfl rfl
    | with_reducible exact fun w => MemsWf.same w rfl rfl
    | with_reducible exact FuseKept.same rfl rfl rfl
    | with_reducible exact SafetyKept.same rfl rfl rfl rfl
    | with_reducible exact CfgKept.same rfl
    | with_reducible exact TripsKept.same rfl rfl
    | with_reducible exact .inr rfl
    | (intro)
    | (extract_lets +onlyGivenNames st; have hst : Kept x s0 st := ?_; clear_value st; revert st; intro st2 hst2)
    | (extract_lets +onlyGivenNames yy; clear_value yy; revert yy; intro y2)
    | (dsimp -zeta only [st]; clear st)
    | with_reducible apply Kept.ite
    | split

theorem rescueTrigger_kept_held {s : State} {s2 : State} {a3} {a4} (hs : Kept x s0 s) (hs2 : Kept x s0 s2) : Held x s0 (rescueTrigger s s2 a3 a4) := by
  unfold rescueTrigger
  repeat' first
    | with_reducible assumption
    | with_reducible apply stopCar_kept
    | with_reducible apply goMinEnergy_kept
    | with_reducible exact CntKept.same rfl
    | with_reducible exact MemsKept.same rfl rfl
    | with_reducible exact fun w => MemsWf.same w rfl rfl
    | with_reducible exact FuseKept.same rfl rfl rfl
    | with_reducible exact SafetyKept.same rfl rfl rfl rfl
    | with_reducible exact CfgKept.same rfl
    | with_reducible exact TripsKept.same rfl rfl
    | with_reducible exact .inr rfl
    | with_reducible apply Held.none
    | with_reducible apply Held.some
    | with_reducible apply Kept.ite
    | with_reducible apply Held.map
    | (intro)
    | (extract_lets +onlyGivenNames yy; clear_value yy; revert yy; intro y2)
    | split

theorem rescueTrigger_kept {s : State} {s2 : State} {a3} {a4} {v : State} (e : rescueTrigger s s2 a3 a4 = some v) (hs : Kept x s0 s) (hs2 : Kept x s0 s2) : Kept x s0 v :=
  (rescueTrigger_kept_held hs hs2).all v e

theorem separationTrigger_kept_held {s : State} {s2 : State} {a3} {a4} (hs : Kept x s0 s) (hs2 : Kept x s0 s2) : Held x s0 (separationTrigger s s2 a3 a4) := by
  unfold separationTrigger
  repeat' first
    | with_reducible assumption
    | with_reducible apply State.onCar_kept
    | with_reducible apply carEvent_kept
    | with_reducible apply bump_kept
    | with_reducible apply crestEvent_kept
    | with_reducible apply stopCar_kept
    | with_reducible exact CntKept.same rfl
    | with_reducible exact MemsKept.same rfl rfl
    | with_reducible exact fun w => MemsWf.same w rfl rfl
    | with_reducible exact FuseKept.same rfl rfl rfl
    | with_reducible exact SafetyKept.same rfl rfl rfl rfl
    | with_reducible exact CfgKept.same rfl
    | with_reducible exact TripsKept.same rfl rfl
    | with_reducible exact .inr rfl
    | (intro)
    | with_reducible apply Held.none
    | with_reducible apply Held.some
    | (extract_lets +onlyGivenNames st; have hst : Kept x s0 st := ?_; clear_value st; revert st; intro st2 hst2)
    | (extract_lets +onlyGivenNames yy; clear_value yy; revert yy; intro y2)
    | (dsimp -zeta only [st]; clear st)
    | with_reducible apply Kept.ite
    | split

theorem separationTrigger_kept {s : State} {s2 : State} {a3} {a4} {v : State} (e : separationTrigger s s2 a3 a4 = some v) (hs : Kept x s0 s) (hs2 : Kept x s0 s2) : Kept x s0 v :=
  (separationTrigger_kept_held hs hs2).all v e

theorem forceTrigger_kept_held {s : State} {s2 : State} {a3} {a4} (hs : Kept x s0 s) (hs2 : Kept x s0 s2) : Held x s0 (forceTrigger s s2 a3 a4) := by
  unfold forceTrigger
  repeat' first
    | with_reducible assumption
    | with_reducible apply stopCar_kept
    | with_reducible apply crestEvent_kept
    | with_reducible apply State.onCar_kept
    | with_reducible exact CntKept.same rfl
    | with_reducible exact MemsKept.same rfl rfl
    | with_reducible exact fun w => MemsWf.same w rfl rfl
    | with_reducible exact FuseKept.same rfl rfl rfl
    | with_reducible exact SafetyKept.same rfl rfl rfl rfl
    | with_reducible exact CfgKept.same rfl
    | with_reducible exact TripsKept.same rfl rfl
    | with_reducible exact .inr rfl
    | (intro)
    | (extract_lets +onlyGivenNames st; have hst : Kept x s0 st := ?_; clear_value st; revert st; intro st2 hst2)
    | (dsimp -zeta only [st]; clear st)
    | with_reducible apply Held.none
    | with_reducible apply Held.some
    | (extract_lets +onlyGivenNames yy; clear_value yy; revert yy; intro y2)
    | with_reducible apply Kept.ite
    | split

theorem forceTrigger_kept {s : State} {s2 : State} {a3} {a4} {v : State} (e : forceTrigger s s2 a3 a4 = some v) (hs : Kept x s0 s) (hs2 : Kept x s0 s2) : Kept x s0 v :=
  (forceTrigger_kept_held hs hs2).all v e

theorem targetTrigger_kept {s : State} {a2} {a3} (hs : Kept x s0 s) : Kept x s0 (targetTrigger s a2 a3) := by
  unfold targetTrigger
  extract_lets n q dir put go
  have hput : ∀ i, Kept x s0 (put i) := fun i => State.onCar_kept hs
  have hgo : ∀ l b, Kept x s0 (go l b) := fun l b => hput _
  clear_value go put
  repeat' first
    | with_reducible assumption
    | with_reducible apply hput
    | with_reducible apply hgo
    | with_reducible apply report_kept
    | with_reducible apply Kept.ite
    | split

theorem triggers_kept {s : State} {s2 : State} {a3} (hs : Kept x s0 s) (hs2 : Kept x s0 s2) : Kept x s0 (triggers s s2 a3) := by
  unfold triggers
  repeat' first
    | with_reducible assumption
    | with_reducible refine rescueTrigger_kept (by assumption) ?_ ?_
    | with_reducible apply stopCar_kept
    | with_reducible refine separationTrigger_kept (by assumption) ?_ ?_
    | with_reducible apply State.onCar_kept
    | with_reducible refine forceTrigger_kept (by assumption) ?_ ?_
    | with_reducible apply coverTest_kept
    | with_reducible apply targetTrigger_kept
    | (extract_lets +onlyGivenNames st; have hst : Kept x s0 st := ?_; clear_value st; revert st; intro st2 hst2)
    | (extract_lets +onlyGivenNames yy; clear_value yy; revert yy; intro y2)
    | with_reducible apply Kept.ite
    | split

theorem beginStart_kept {s : State} {a2} {a3} {a4} (hs : Kept x s0 s) : Kept x s0 (beginStart s a2 a3 a4) := by
  unfold beginStart
  repeat' first
    | with_reducible assumption
    | with_reducible apply State.onCar_kept
    | with_reducible apply State.each_kept
    | with_reducible apply stage_kept
    | with_reducible exact CntKept.same rfl
    | with_reducible exact MemsKept.same rfl rfl
    | with_reducible exact fun w => MemsWf.same w rfl rfl
    | with_reducible exact FuseKept.same rfl rfl rfl
    | with_reducible exact SafetyKept.same rfl rfl rfl rfl
    | with_reducible exact CfgKept.same rfl
    | with_reducible exact TripsKept.same rfl rfl
    | with_reducible exact .inr rfl
    | (intro)
    | (extract_lets +onlyGivenNames st; have hst : Kept x s0 st := ?_; clear_value st; revert st; intro st2 hst2)
    | (extract_lets +onlyGivenNames yy; clear_value yy; revert yy; intro y2)
    | (dsimp -zeta only [st]; clear st)
    | with_reducible apply Kept.ite
    | split

theorem abandonStart_kept {s : State} {a2} (hs : Kept x s0 s) : Kept x s0 (abandonStart s a2) := by
  unfold abandonStart
  repeat' first
    | with_reducible assumption
    | with_reducible apply failInspect_kept
    | with_reducible apply State.onCar_kept
    | with_reducible exact CntKept.same rfl
    | with_reducible exact MemsKept.same rfl rfl
    | with_reducible exact fun w => MemsWf.same w rfl rfl
    | with_reducible exact FuseKept.same rfl rfl rfl
    | with_reducible exact SafetyKept.same rfl rfl rfl rfl
    | with_reducible exact CfgKept.same rfl
    | with_reducible exact TripsKept.same rfl rfl
    | with_reducible exact .inr rfl
    | (intro)
    | with_reducible apply Kept.ite
    | split

theorem startJourney_kept {s : State} {a2} {a3} (hs : Kept x s0 s) : Kept x s0 (startJourney s a2 a3) := by
  unfold startJourney
  repeat' first
    | with_reducible assumption
    | with_reducible apply State.onCar_kept
    | with_reducible apply bump_kept
    | with_reducible apply crestEvent_kept
    | with_reducible apply State.onShaft_kept
    | with_reducible apply ok_kept
    | with_reducible apply report_kept
    | with_reducible exact CntKept.same rfl
    | with_reducible exact MemsKept.same rfl rfl
    | with_reducible exact fun w => MemsWf.same w rfl rfl
    | with_reducible exact FuseKept.same rfl rfl rfl
    | with_reducible exact SafetyKept.same rfl rfl rfl rfl
    | with_reducible exact CfgKept.same rfl
    | with_reducible exact TripsKept.same rfl rfl
    | with_reducible exact .inr rfl
    | (intro)
    | (extract_lets +onlyGivenNames st; have hst : Kept x s0 st := ?_; clear_value st; revert st; intro st2 hst2)
    | (extract_lets +onlyGivenNames yy; clear_value yy; revert yy; intro y2)
    | (dsimp -zeta only [st]; clear st)
    | with_reducible apply Kept.ite
    | split

theorem refuseEnergy_kept {s : State} {a2} {a3} (hs : Kept x s0 s) : Kept x s0 (refuseEnergy s a2 a3) := by
  unfold refuseEnergy
  repeat' first
    | with_reducible assumption
    | with_reducible apply State.onCar_kept
    | with_reducible apply abandonStart_kept
    | with_reducible apply bump_kept
    | with_reducible apply State.onShaft_kept
    | with_reducible apply report_kept
    | with_reducible apply crestEvent_kept

theorem endWeighing_kept {s : State} {a2} (hs : Kept x s0 s) : Kept x s0 (endWeighing s a2) := by
  unfold endWeighing
  repeat' first
    | with_reducible assumption
    | with_reducible apply State.onCar_kept
    | with_reducible apply abandonStart_kept
    | with_reducible apply startJourney_kept
    | with_reducible apply refuseEnergy_kept
    | with_reducible apply report_kept
    | with_reducible apply carEvent_kept
    | with_reducible exact CntKept.same rfl
    | with_reducible exact MemsKept.same rfl rfl
    | with_reducible exact fun w => MemsWf.same w rfl rfl
    | with_reducible exact FuseKept.same rfl rfl rfl
    | with_reducible exact SafetyKept.same rfl rfl rfl rfl
    | with_reducible exact CfgKept.same rfl
    | with_reducible exact TripsKept.same rfl rfl
    | with_reducible exact .inr rfl
    | (intro)
    | (extract_lets +onlyGivenNames st; have hst : Kept x s0 st := ?_; clear_value st; revert st; intro st2 hst2)
    | (extract_lets +onlyGivenNames yy; clear_value yy; revert yy; intro y2)
    | (dsimp -zeta only [st]; clear st)
    | with_reducible apply Kept.ite
    | split

theorem tryStart_kept {s : State} {a2} (hs : Kept x s0 s) : Kept x s0 (tryStart s a2) := by
  unfold tryStart
  repeat' first
    | with_reducible assumption
    | with_reducible apply report_kept
    | with_reducible apply State.onCar_kept
    | with_reducible apply beginStart_kept
    | (extract_lets +onlyGivenNames yy; clear_value yy; revert yy; intro y2)
    | with_reducible apply Kept.ite
    | split

/-! ## Machine/CarProgram.lean -/

theorem superviseSources_kept {s : State} {s2 : State} {a3} (hs : Kept x s0 s) (hs2 : Kept x s0 s2) : Kept x s0 (superviseSources s s2 a3) := by
  unfold superviseSources
  repeat' first
    | with_reducible assumption
    | with_reducible apply carEvent_kept
    | with_reducible apply State.onCar_kept
    | with_reducible apply bump_kept
    | with_reducible apply tripCar_kept
    | with_reducible apply stopCar_kept
    | with_reducible exact CntKept.same rfl
    | with_reducible exact MemsKept.same rfl rfl
    | with_reducible exact fun w => MemsWf.same w rfl rfl
    | with_reducible exact FuseKept.same rfl rfl rfl
    | with_reducible exact SafetyKept.same rfl rfl rfl rfl
    | with_reducible exact CfgKept.same rfl
    | with_reducible exact TripsKept.same rfl rfl
    | with_reducible exact .inr rfl
    | (intro)
    | (extract_lets +onlyGivenNames st; have hst : Kept x s0 st := ?_; clear_value st; revert st; intro st2 hst2)
    | (extract_lets +onlyGivenNames yy; clear_value yy; revert yy; intro y2)
    | (dsimp -zeta only [st]; clear st)
    | with_reducible apply Kept.ite
    | split

theorem checkAngle_kept {s : State} {a2} {a3} {a4} {a5} (hs : Kept x s0 s) : Kept x s0 (checkAngle s a2 a3 a4 a5) := by
  unfold checkAngle
  repeat' first
    | with_reducible assumption
    | with_reducible apply State.onShaft_kept
    | with_reducible apply carEvent_kept
    | with_reducible exact CntKept.same rfl
    | with_reducible exact MemsKept.same rfl rfl
    | with_reducible exact fun w => MemsWf.same w rfl rfl
    | with_reducible exact FuseKept.same rfl rfl rfl
    | with_reducible exact SafetyKept.same rfl rfl rfl rfl
    | with_reducible exact CfgKept.same rfl
    | with_reducible exact TripsKept.same rfl rfl
    | with_reducible exact .inr rfl
    | (intro)
    | (extract_lets +onlyGivenNames st; have hst : Kept x s0 st := ?_; clear_value st; revert st; intro st2 hst2)
    | (extract_lets +onlyGivenNames yy; clear_value yy; revert yy; intro y2)
    | (dsimp -zeta only [st]; clear st)
    | with_reducible apply Kept.ite
    | split

theorem checkAngles_kept {s : State} {a2} {a3} (hs : Kept x s0 s) : Kept x s0 (checkAngles s a2 a3) := by
  unfold checkAngles
  repeat' first
    | with_reducible assumption
    | with_reducible apply State.each_kept
    | with_reducible apply checkAngle_kept
    | with_reducible exact CntKept.same rfl
    | with_reducible exact MemsKept.same rfl rfl
    | with_reducible exact fun w => MemsWf.same w rfl rfl
    | with_reducible exact FuseKept.same rfl rfl rfl
    | with_reducible exact SafetyKept.same rfl rfl rfl rfl
    | with_reducible exact CfgKept.same rfl
    | with_reducible exact TripsKept.same rfl rfl
    | with_reducible exact .inr rfl
    | (intro)
    | (extract_lets +onlyGivenNames st; have hst : Kept x s0 st := ?_; clear_value st; revert st; intro st2 hst2)
    | (extract_lets +onlyGivenNames yy; clear_value yy; revert yy; intro y2)
    | (dsimp -zeta only [st]; clear st)
    | with_reducible apply Kept.ite
    | split

theorem arrive_kept {s : State} {a2} {a3} (hs : Kept x s0 s) : Kept x s0 (arrive s a2 a3) := by
  unfold arrive
  repeat' first
    | with_reducible assumption
    | with_reducible apply State.onCar_kept
    | with_reducible apply carEvent_kept
    | with_reducible apply report_kept
    | (extract_lets +onlyGivenNames st; have hst : Kept x s0 st := ?_; clear_value st; revert st; intro st2 hst2)
    | (extract_lets +onlyGivenNames yy; clear_value yy; revert yy; intro y2)
    | split

theorem driveCar_kept {s : State} {a2} {a3} (hs : Kept x s0 s) : Kept x s0 (driveCar s a2 a3) := by
  unfold driveCar
  repeat' first
    | with_reducible assumption
    | with_reducible apply State.onCar_kept
    | with_reducible apply arrive_kept
    | (intro)
    | (extract_lets +onlyGivenNames fn; have hfn : ∀ w, Kept x s0 (fn w) := ?_; clear_value fn; revert fn; intro fn2 hfn)
    | (extract_lets +onlyGivenNames yy; clear_value yy; revert yy; intro y2)
    | with_reducible apply hfn
    | with_reducible apply Kept.ite
    | split

theorem writeShares_kept {s : State} {a2} {a3} {a4} (hs : Kept x s0 s) : Kept x s0 (writeShares s a2 a3 a4) := by
  unfold writeShares
  repeat' first
    | with_reducible assumption
    | with_reducible apply State.onShaft_kept
    | with_reducible apply State.onAxis_kept
    | with_reducible apply State.each_kept
    | with_reducible apply carEvent_kept
    | with_reducible apply bump_kept
    | with_reducible apply State.onCar_kept
    | (intro)
    | (extract_lets +onlyGivenNames yy; clear_value yy; revert yy; intro y2)
    | with_reducible apply Kept.ite

theorem allocCar_kept {s : State} {a2} {a3} (hs : Kept x s0 s) : Kept x s0 (allocCar s a2 a3) := by
  unfold allocCar
  repeat' first
    | with_reducible assumption
    | with_reducible apply writeShares_kept
    | with_reducible apply carEvent_kept
    | with_reducible apply bump_kept
    | with_reducible apply State.onCar_kept
    | with_reducible apply Kept.ite

theorem stopStart_kept {s : State} {a2} (hs : Kept x s0 s) : Kept x s0 (stopStart s a2) := by
  unfold stopStart
  repeat' first
    | with_reducible assumption
    | with_reducible apply State.onCar_kept
    | with_reducible apply report_kept
    | with_reducible apply abandonStart_kept
    | with_reducible exact CntKept.same rfl
    | with_reducible exact MemsKept.same rfl rfl
    | with_reducible exact fun w => MemsWf.same w rfl rfl
    | with_reducible exact FuseKept.same rfl rfl rfl
    | with_reducible exact SafetyKept.same rfl rfl rfl rfl
    | with_reducible exact CfgKept.same rfl
    | with_reducible exact TripsKept.same rfl rfl
    | with_reducible exact .inr rfl
    | (intro)
    | (extract_lets +onlyGivenNames st; have hst : Kept x s0 st := ?_; clear_value st; revert st; intro st2 hst2)
    | (extract_lets +onlyGivenNames yy; clear_value yy; revert yy; intro y2)
    | (dsimp -zeta only [st]; clear st)
    | with_reducible apply Kept.ite
    | split

theorem decideCar_kept {s : State} {s2 : State} {a3} (hs : Kept x s0 s) (hs2 : Kept x s0 s2) : Kept x s0 (decideCar s s2 a3) := by
  unfold decideCar
  repeat' first
    | with_reducible assumption
    | with_reducible apply triggers_kept
    | with_reducible apply formFactor_kept
    | with_reducible apply watchStop_kept
    | with_reducible apply stopCar_kept
    | with_reducible apply State.onCar_kept
    | with_reducible apply tryStart_kept
    | with_reducible apply stopStart_kept
    | with_reducible exact CntKept.same rfl
    | with_reducible exact MemsKept.same rfl rfl
    | with_reducible exact fun w => MemsWf.same w rfl rfl
    | with_reducible exact FuseKept.same rfl rfl rfl
    | with_reducible exact SafetyKept.same rfl rfl rfl rfl
    | with_reducible exact CfgKept.same rfl
    | with_reducible exact TripsKept.same rfl rfl
    | with_reducible exact .inr rfl
    | (intro)
    | (extract_lets +onlyGivenNames st; have hst : Kept x s0 st := ?_; clear_value st; revert st; intro st2 hst2)
    | (extract_lets +onlyGivenNames yy; clear_value yy; revert yy; intro y2)
    | (dsimp -zeta only [st]; clear st)
    | with_reducible apply Kept.ite
    | split

theorem holdTest_kept {s : State} {a2} (hs : Kept x s0 s) : Kept x s0 (holdTest s a2) := by
  unfold holdTest
  repeat' first
    | with_reducible assumption
    | with_reducible apply tripCar_kept
    | (extract_lets +onlyGivenNames yy; clear_value yy; revert yy; intro y2)
    | with_reducible apply Kept.ite

theorem claimCar_kept {s : State} {s2 : State} {a3} (hs : Kept x s0 s) (hs2 : Kept x s0 s2) : Kept x s0 (claimCar s s2 a3) := by
  unfold claimCar
  repeat' first
    | with_reducible assumption
    | with_reducible apply State.onCar_kept

theorem carProgram_kept {s : State} {s2 : State} {a3} (hs : Kept x s0 s) (hs2 : Kept x s0 s2) : Kept x s0 (carProgram s s2 a3) := by
  unfold carProgram
  repeat' first
    | with_reducible assumption
    | with_reducible apply State.onCar_kept
    | with_reducible apply superviseSources_kept
    | with_reducible apply checkAngles_kept
    | with_reducible apply decideCar_kept
    | with_reducible apply holdTest_kept
    | with_reducible apply allocCar_kept
    | with_reducible apply driveCar_kept
    | with_reducible apply claimCar_kept
    | with_reducible exact CntKept.same rfl
    | with_reducible exact MemsKept.same rfl rfl
    | with_reducible exact fun w => MemsWf.same w rfl rfl
    | with_reducible exact FuseKept.same rfl rfl rfl
    | with_reducible exact SafetyKept.same rfl rfl rfl rfl
    | with_reducible exact CfgKept.same rfl
    | with_reducible exact TripsKept.same rfl rfl
    | with_reducible exact .inr rfl
    | (intro)
    | (extract_lets +onlyGivenNames st; have hst : Kept x s0 st := ?_; clear_value st; revert st; intro st2 hst2)
    | (extract_lets +onlyGivenNames yy; clear_value yy; revert yy; intro y2)
    | with_reducible apply Kept.ite
    | split

theorem runCars_kept {s : State} (hs : Kept x s0 s) : Kept x s0 (runCars s) := by
  unfold runCars
  repeat' first
    | with_reducible assumption
    | with_reducible apply State.each_kept
    | with_reducible apply State.onCar_kept
    | with_reducible apply carProgram_kept
    | (intro)
    | with_reducible apply Kept.ite

/-! ## Machine/ShaftConfig.lean -/

theorem runCommit_kept {s : State} {a2} {a3} (hs : Kept x s0 s) : Kept x s0 (runCommit s a2 a3) := by
  unfold runCommit
  repeat' first
    | with_reducible assumption
    | with_reducible apply State.onShaft_kept
    | with_reducible apply refused_kept
    | (intro)
    | (extract_lets +onlyGivenNames fn; have hfn : ∀ w v, Kept x s0 (fn w v) := ?_; clear_value fn; revert fn; intro fn2 hfn)
    | (extract_lets +onlyGivenNames yy; clear_value yy; revert yy; intro y2)
    | with_reducible apply hfn
    | split

theorem execShaftConfigLoad_kept {a1} {s : State} (hs : Kept x s0 s) : Ends (Kept x s0) (execShaftConfigLoad a1 s) := by
  unfold execShaftConfigLoad
  repeat' first
    | with_reducible assumption
    | with_reducible apply serve_kept
    | with_reducible apply runCommit_kept
    | with_reducible apply ok_kept
    | with_reducible apply State.onShaft_kept
    | (intro)
    | (extract_lets +onlyGivenNames yy; clear_value yy; revert yy; intro y2)
    | with_reducible apply Ends.next
    | split

theorem landCommit_kept {s : State} {a2} {a3} {a4} {a5} (hs : Kept x s0 s) : Kept x s0 (landCommit s a2 a3 a4 a5) := by
  unfold landCommit
  repeat' first
    | with_reducible assumption
    | with_reducible apply State.onShaft_kept
    | with_reducible apply State.onMotion_kept
    | with_reducible apply report_kept
    | with_reducible apply State.each_kept
    | with_reducible apply State.onCar_kept
    | with_reducible apply ok_kept
    | with_reducible apply store_kept
    | (intro)
    | (extract_lets +onlyGivenNames st; have hst : Kept x s0 st := ?_; clear_value st; revert st; intro st2 hst2)
    | (extract_lets +onlyGivenNames yy; clear_value yy; revert yy; intro y2)
    | with_reducible apply Kept.ite

/-! ## Machine/Motion.lean -/

theorem execProfileStatus_kept {a1} {s : State} (hs : Kept x s0 s) : Ends (Kept x s0) (execProfileStatus a1 s) := by
  unfold execProfileStatus
  repeat' first
    | with_reducible assumption
    | with_reducible apply serve_kept
    | with_reducible apply ok_kept
    | with_reducible exact CntKept.same rfl
    | with_reducible exact MemsKept.same rfl rfl
    | with_reducible exact fun w => MemsWf.same w rfl rfl
    | with_reducible exact FuseKept.same rfl rfl rfl
    | with_reducible exact SafetyKept.same rfl rfl rfl rfl
    | with_reducible exact CfgKept.same rfl
    | with_reducible exact TripsKept.same rfl rfl
    | with_reducible exact .inr rfl
    | (intro)
    | (extract_lets +onlyGivenNames st; have hst : Kept x s0 st := ?_; clear_value st; revert st; intro st2 hst2)
    | (extract_lets +onlyGivenNames yy; clear_value yy; revert yy; intro y2)
    | with_reducible apply Ends.next
    | (dsimp -zeta only [st]; clear st)
    | with_reducible apply Kept.ite
    | split

theorem execEnergyStatus_kept {a1} {s : State} (hs : Kept x s0 s) : Ends (Kept x s0) (execEnergyStatus a1 s) := by
  unfold execEnergyStatus
  repeat' first
    | with_reducible assumption
    | with_reducible apply serve_kept
    | with_reducible apply ok_kept
    | (intro)
    | (extract_lets +onlyGivenNames yy; clear_value yy; revert yy; intro y2)
    | with_reducible apply Ends.next

theorem execCarStatus_kept {a1} {s : State} (hs : Kept x s0 s) : Ends (Kept x s0) (execCarStatus a1 s) := by
  unfold execCarStatus
  repeat' first
    | with_reducible assumption
    | with_reducible apply serve_kept
    | with_reducible apply ok_kept
    | (intro)
    | (extract_lets +onlyGivenNames yy; clear_value yy; revert yy; intro y2)
    | with_reducible apply Ends.next

theorem execSegmentStatus_kept {a1} {s : State} (hs : Kept x s0 s) : Ends (Kept x s0) (execSegmentStatus a1 s) := by
  unfold execSegmentStatus
  repeat' first
    | with_reducible assumption
    | with_reducible apply serve_kept
    | with_reducible apply ok_kept
    | (intro)
    | (extract_lets +onlyGivenNames yy; clear_value yy; revert yy; intro y2)
    | with_reducible apply Ends.next

theorem execProfileLimitsSet_kept {a1} {s : State} (hs : Kept x s0 s) : Ends (Kept x s0) (execProfileLimitsSet a1 s) := by
  unfold execProfileLimitsSet
  repeat' first
    | with_reducible assumption
    | with_reducible apply serve_kept
    | with_reducible apply State.onShaft_kept
    | (intro)
    | (extract_lets +onlyGivenNames yy; clear_value yy; revert yy; intro y2)
    | with_reducible apply Ends.next

theorem landLimits_kept {s : State} {a2} {a3} {a4} (hs : Kept x s0 s) : Kept x s0 (landLimits s a2 a3 a4) := by
  unfold landLimits
  repeat' first
    | with_reducible assumption
    | with_reducible apply ok_kept
    | with_reducible apply store_kept
    | with_reducible apply State.onShaft_kept

theorem execEnergyReserveSet_kept {a1} {s : State} (hs : Kept x s0 s) : Ends (Kept x s0) (execEnergyReserveSet a1 s) := by
  unfold execEnergyReserveSet
  repeat' first
    | with_reducible assumption
    | with_reducible apply serve_kept
    | with_reducible apply State.onShaft_kept
    | (intro)
    | (extract_lets +onlyGivenNames yy; clear_value yy; revert yy; intro y2)
    | with_reducible apply Ends.next

theorem landEnergy_kept {s : State} {a2} {a3} {a4} (hs : Kept x s0 s) : Kept x s0 (landEnergy s a2 a3 a4) := by
  unfold landEnergy
  repeat' first
    | with_reducible assumption
    | with_reducible apply ok_kept
    | with_reducible apply store_kept
    | with_reducible apply State.onShaft_kept

theorem landShaft_kept {s : State} {a2} (hs : Kept x s0 s) : Kept x s0 (landShaft s a2) := by
  unfold landShaft
  repeat' first
    | with_reducible assumption
    | with_reducible apply State.onShaft_kept
    | with_reducible apply State.each_kept
    | with_reducible apply landCommit_kept
    | with_reducible apply landLimits_kept
    | with_reducible apply landEnergy_kept
    | with_reducible exact CntKept.same rfl
    | with_reducible exact MemsKept.same rfl rfl
    | with_reducible exact fun w => MemsWf.same w rfl rfl
    | with_reducible exact FuseKept.same rfl rfl rfl
    | with_reducible exact SafetyKept.same rfl rfl rfl rfl
    | with_reducible exact CfgKept.same rfl
    | with_reducible exact TripsKept.same rfl rfl
    | with_reducible exact .inr rfl
    | (intro)
    | (extract_lets +onlyGivenNames st; have hst : Kept x s0 st := ?_; clear_value st; revert st; intro st2 hst2)
    | (extract_lets +onlyGivenNames yy; clear_value yy; revert yy; intro y2)
    | (dsimp -zeta only [st]; clear st)
    | with_reducible apply Kept.ite
    | split

theorem resumeCar_kept {s : State} {a2} {a3} (hs : Kept x s0 s) : Kept x s0 (resumeCar s a2 a3) := by
  unfold resumeCar
  repeat' first
    | with_reducible assumption
    | with_reducible apply State.onCar_kept
    | with_reducible apply carEvent_kept
    | with_reducible apply beginStart_kept
    | (extract_lets +onlyGivenNames st; have hst : Kept x s0 st := ?_; clear_value st; revert st; intro st2 hst2)
    | (extract_lets +onlyGivenNames yy; clear_value yy; revert yy; intro y2)
    | with_reducible apply Kept.ite

theorem takeOutCar_kept {s : State} {a2} (hs : Kept x s0 s) : Kept x s0 (takeOutCar s a2) := by
  unfold takeOutCar
  repeat' first
    | with_reducible assumption
    | with_reducible apply report_kept
    | with_reducible apply State.onCar_kept
    | (extract_lets +onlyGivenNames yy; clear_value yy; revert yy; intro y2)
    | with_reducible apply Kept.ite

theorem stopMode_kept {s : State} {a2} {a3} (hs : Kept x s0 s) : Kept x s0 (stopMode s a2 a3) := by
  unfold stopMode
  repeat' first
    | with_reducible assumption
    | with_reducible apply State.onCar_kept
    | with_reducible apply abandonStart_kept
    | with_reducible apply takeOutCar_kept
    | with_reducible apply carEvent_kept
    | with_reducible exact CntKept.same rfl
    | with_reducible exact MemsKept.same rfl rfl
    | with_reducible exact fun w => MemsWf.same w rfl rfl
    | with_reducible exact FuseKept.same rfl rfl rfl
    | with_reducible exact SafetyKept.same rfl rfl rfl rfl
    | with_reducible exact CfgKept.same rfl
    | with_reducible exact TripsKept.same rfl rfl
    | with_reducible exact .inr rfl
    | (intro)
    | (extract_lets +onlyGivenNames st; have hst : Kept x s0 st := ?_; clear_value st; revert st; intro st2 hst2)
    | (extract_lets +onlyGivenNames yy; clear_value yy; revert yy; intro y2)
    | (dsimp -zeta only [st]; clear st)
    | with_reducible apply Kept.ite
    | split

theorem execCarStop_kept {a1} {s : State} (hs : Kept x s0 s) : Ends (Kept x s0) (execCarStop a1 s) := by
  unfold execCarStop
  repeat' first
    | with_reducible assumption
    | with_reducible apply serve_kept
    | with_reducible apply ok_kept
    | with_reducible apply State.each_kept
    | with_reducible apply resumeCar_kept
    | with_reducible apply refused_kept
    | with_reducible apply stopMode_kept
    | (intro)
    | (extract_lets +onlyGivenNames fn; have hfn : ∀ z, Kept x s0 z → Kept x s0 (fn z) := ?_; clear_value fn; revert fn; intro fn2 hfn)
    | (extract_lets +onlyGivenNames yy; clear_value yy; revert yy; intro y2)
    | with_reducible apply hfn
    | with_reducible apply Ends.next
    | with_reducible apply Kept.ite
    | split

theorem runInspect_kept {s : State} {a2} {a3} (hs : Kept x s0 s) : Kept x s0 (runInspect s a2 a3) := by
  unfold runInspect
  extract_lets n k down hold dist eff rest extend m0 k0 cl start
  have hext : ∀ m, Kept x s0 (extend m) := fun m => by
    dsimp -zeta only [extend]
    repeat' first
      | with_reducible assumption
      | with_reducible apply refused_kept
      | with_reducible apply ok_kept
      | with_reducible apply State.onCar_kept
      | (intro)
      | (extract_lets +onlyGivenNames st; have hst : Kept x s0 st := ?_; clear_value st; revert st; intro st2 hst2)
      | (extract_lets +onlyGivenNames yy; clear_value yy; revert yy; intro y2)
      | (dsimp -zeta only [st]; clear st)
      | with_reducible apply Kept.ite
      | split
  have hstart : ∀ u, Kept x s0 (start u) := fun u => by
    dsimp only [start]
    repeat' first
      | with_reducible assumption
      | with_reducible apply refused_kept
      | with_reducible apply carEvent_kept
      | with_reducible apply beginStart_kept
      | with_reducible apply State.onCar_kept
      | with_reducible apply Kept.ite
  clear_value extend start
  repeat' first
    | with_reducible apply hext
    | with_reducible apply hstart
    | with_reducible apply refused_kept
    | with_reducible assumption
    | with_reducible apply Kept.ite
    | split

theorem execCarInspectMove_kept {a1} {s : State} (hs : Kept x s0 s) : Ends (Kept x s0) (execCarInspectMove a1 s) := by
  unfold execCarInspectMove
  repeat' first
    | with_reducible assumption
    | with_reducible apply serve_kept
    | with_reducible apply runInspect_kept
    | with_reducible apply refused_kept
    | (intro)
    | (extract_lets +onlyGivenNames yy; clear_value yy; revert yy; intro y2)
    | with_reducible apply Ends.next
    | split

theorem onCarCtx_kept {s : State} {a2} {a3 : Sys2Proof.Machine.CarCtx → Sys2Proof.Machine.State} (hs : Kept x s0 s) (ha3 : ∀ b0, Kept x s0 (a3 b0)) : Kept x s0 (onCarCtx s a2 a3) := by
  unfold onCarCtx
  repeat' first
    | with_reducible assumption
    | with_reducible apply ha3
    | split

theorem execCarCutoff_kept {a1} {s : State} (hs : Kept x s0 s) : Ends (Kept x s0) (execCarCutoff a1 s) := by
  unfold execCarCutoff
  repeat' first
    | with_reducible assumption
    | with_reducible apply onCarCtx_kept
    | with_reducible apply bump_kept
    | with_reducible apply State.onCar_kept
    | with_reducible apply weaverFault_kept
    | with_reducible exact CntKept.same rfl
    | with_reducible exact MemsKept.same rfl rfl
    | with_reducible exact fun w => MemsWf.same w rfl rfl
    | with_reducible exact FuseKept.same rfl rfl rfl
    | with_reducible exact SafetyKept.same rfl rfl rfl rfl
    | with_reducible exact CfgKept.same rfl
    | with_reducible exact TripsKept.same rfl rfl
    | with_reducible exact .inr rfl
    | (intro)
    | (extract_lets +onlyGivenNames st; have hst : Kept x s0 st := ?_; clear_value st; revert st; intro st2 hst2)
    | (extract_lets +onlyGivenNames yy; clear_value yy; revert yy; intro y2)
    | with_reducible apply Ends.next
    | (dsimp -zeta only [st]; clear st)
    | with_reducible apply Kept.ite
    | split

theorem execPreparingRampDone_kept {a1} {s : State} (hs : Kept x s0 s) : Ends (Kept x s0) (execPreparingRampDone a1 s) := by
  unfold execPreparingRampDone
  repeat' first
    | with_reducible assumption
    | with_reducible apply State.onCar_kept
    | with_reducible apply Ends.next
    | with_reducible apply Kept.ite

theorem execBrakeReleaseFeedback_kept {a1} {s : State} (hs : Kept x s0 s) : Ends (Kept x s0) (execBrakeReleaseFeedback a1 s) := by
  unfold execBrakeReleaseFeedback
  repeat' first
    | with_reducible assumption
    | with_reducible apply State.onCar_kept
    | (extract_lets +onlyGivenNames yy; clear_value yy; revert yy; intro y2)
    | with_reducible apply Ends.next
    | with_reducible apply Kept.ite

theorem execBrktTimeout_kept {a1} {s : State} (hs : Kept x s0 s) : Ends (Kept x s0) (execBrktTimeout a1 s) := by
  unfold execBrktTimeout
  repeat' first
    | with_reducible assumption
    | with_reducible apply onCarCtx_kept
    | with_reducible apply report_kept
    | with_reducible apply carEvent_kept
    | with_reducible apply abandonStart_kept
    | with_reducible apply State.onCar_kept
    | with_reducible apply takeOutCar_kept
    | with_reducible exact CntKept.same rfl
    | with_reducible exact MemsKept.same rfl rfl
    | with_reducible exact fun w => MemsWf.same w rfl rfl
    | with_reducible exact FuseKept.same rfl rfl rfl
    | with_reducible exact SafetyKept.same rfl rfl rfl rfl
    | with_reducible exact CfgKept.same rfl
    | with_reducible exact TripsKept.same rfl rfl
    | with_reducible exact .inr rfl
    | (intro)
    | (extract_lets +onlyGivenNames st; have hst : Kept x s0 st := ?_; clear_value st; revert st; intro st2 hst2)
    | (extract_lets +onlyGivenNames yy; clear_value yy; revert yy; intro y2)
    | with_reducible apply Ends.next
    | (dsimp -zeta only [st]; clear st)
    | with_reducible apply Kept.ite
    | split

theorem execWeighingEnd_kept {a1} {s : State} (hs : Kept x s0 s) : Ends (Kept x s0) (execWeighingEnd a1 s) := by
  unfold execWeighingEnd
  repeat' first
    | with_reducible assumption
    | with_reducible apply onCarCtx_kept
    | with_reducible apply endWeighing_kept
    | (intro)
    | (extract_lets +onlyGivenNames yy; clear_value yy; revert yy; intro y2)
    | with_reducible apply Ends.next
    | with_reducible apply Kept.ite

theorem execPrestartRetry_kept {a1} {s : State} (hs : Kept x s0 s) : Ends (Kept x s0) (execPrestartRetry a1 s) := by
  unfold execPrestartRetry
  repeat' first
    | with_reducible assumption
    | with_reducible apply State.onCar_kept
    | with_reducible apply Ends.next

theorem execStopHoldEnd_kept {a1} {s : State} (hs : Kept x s0 s) : Ends (Kept x s0) (execStopHoldEnd a1 s) := by
  unfold execStopHoldEnd
  repeat' first
    | with_reducible assumption
    | with_reducible apply State.onCar_kept
    | (extract_lets +onlyGivenNames yy; clear_value yy; revert yy; intro y2)
    | with_reducible apply Ends.next
    | with_reducible apply Kept.ite

theorem backToRest_kept {s : State} {a2} {a3} (hs : Kept x s0 s) : Kept x s0 (backToRest s a2 a3) := by
  unfold backToRest
  repeat' first
    | with_reducible assumption
    | with_reducible apply State.onCar_kept
    | with_reducible apply takeOutCar_kept
    | (extract_lets +onlyGivenNames st; have hst : Kept x s0 st := ?_; clear_value st; revert st; intro st2 hst2)
    | (extract_lets +onlyGivenNames yy; clear_value yy; revert yy; intro y2)
    | with_reducible apply Kept.ite

theorem execBrakeEngagedFeedback_kept {a1} {s : State} (hs : Kept x s0 s) : Ends (Kept x s0) (execBrakeEngagedFeedback a1 s) := by
  unfold execBrakeEngagedFeedback
  repeat' first
    | with_reducible assumption
    | with_reducible apply onCarCtx_kept
    | with_reducible apply State.onCar_kept
    | with_reducible apply carEvent_kept
    | with_reducible apply takeOutCar_kept
    | with_reducible apply backToRest_kept
    | (intro)
    | (extract_lets +onlyGivenNames st; have hst : Kept x s0 st := ?_; clear_value st; revert st; intro st2 hst2)
    | (extract_lets +onlyGivenNames yy; clear_value yy; revert yy; intro y2)
    | with_reducible apply Ends.next
    | with_reducible apply Kept.ite
    | split

theorem execRescueEnd_kept {a1} {s : State} (hs : Kept x s0 s) : Ends (Kept x s0) (execRescueEnd a1 s) := by
  unfold execRescueEnd
  repeat' first
    | with_reducible assumption
    | with_reducible apply crestEvent_kept
    | with_reducible apply State.onShaft_kept
    | (extract_lets +onlyGivenNames yy; clear_value yy; revert yy; intro y2)
    | with_reducible apply Ends.next
    | with_reducible apply Kept.ite
    | split

theorem execInspectionHoldExpiry_kept {a1} {s : State} (hs : Kept x s0 s) : Ends (Kept x s0) (execInspectionHoldExpiry a1 s) := by
  unfold execInspectionHoldExpiry
  repeat' first
    | with_reducible assumption
    | with_reducible apply onCarCtx_kept
    | with_reducible apply State.onCar_kept
    | with_reducible exact CntKept.same rfl
    | with_reducible exact MemsKept.same rfl rfl
    | with_reducible exact fun w => MemsWf.same w rfl rfl
    | with_reducible exact FuseKept.same rfl rfl rfl
    | with_reducible exact SafetyKept.same rfl rfl rfl rfl
    | with_reducible exact CfgKept.same rfl
    | with_reducible exact TripsKept.same rfl rfl
    | with_reducible exact .inr rfl
    | (intro)
    | (extract_lets +onlyGivenNames st; have hst : Kept x s0 st := ?_; clear_value st; revert st; intro st2 hst2)
    | (extract_lets +onlyGivenNames yy; clear_value yy; revert yy; intro y2)
    | with_reducible apply Ends.next
    | (dsimp -zeta only [st]; clear st)
    | with_reducible apply Kept.ite
    | split

theorem execInspectionBrakeDelay_kept {a1} {s : State} (hs : Kept x s0 s) : Ends (Kept x s0) (execInspectionBrakeDelay a1 s) := by
  unfold execInspectionBrakeDelay
  repeat' first
    | with_reducible assumption
    | with_reducible apply State.onCar_kept
    | (extract_lets +onlyGivenNames yy; clear_value yy; revert yy; intro y2)
    | with_reducible apply Ends.next
    | with_reducible apply Kept.ite

theorem execBmsStale_kept {a1} {s : State} (hs : Kept x s0 s) : Ends (Kept x s0) (execBmsStale a1 s) := by
  unfold execBmsStale
  repeat' first
    | with_reducible assumption
    | with_reducible apply crestEvent_kept
    | with_reducible apply bump_kept
    | with_reducible apply State.onShaft_kept
    | (extract_lets +onlyGivenNames yy; clear_value yy; revert yy; intro y2)
    | with_reducible apply Ends.next
    | with_reducible apply Kept.ite
    | split

end Sys2Proof.Machine
end

