-- ==== Sys2Proof/Laws/KeptDoors.lean ====
section
/-! SUPPORT. What these operations keep: the CAN controllers, the datagrams, the doors and the planning.
Each lemma says that its operation stays within the parts that `x` allows, for states that have stayed within them since
`s0`. -/

namespace Sys2Proof.Machine

open Sys2Proof

variable {x : Part → Bool} {s0 : State}

/-! ## Machine/FieldOps.lean -/

theorem fieldEvent_kept {s : State} {a2} {a3} {a4} (hs : Kept x s0 s) : Kept x s0 (fieldEvent s a2 a3 a4) := by
  unfold fieldEvent
  repeat' first
    | with_reducible assumption
    | with_reducible apply raise_kept

theorem landDo_kept {s : State} (hs : Kept x s0 s) : Kept x s0 (landDo s) := by
  unfold landDo
  repeat' first
    | with_reducible assumption
    | with_reducible apply State.onField_kept
    | with_reducible apply State.each_kept
    | with_reducible apply ok_kept
    | (intro)
    | (extract_lets +onlyGivenNames st; have hst : Kept x s0 st := ?_; clear_value st; revert st; intro st2 hst2)
    | (extract_lets +onlyGivenNames yy; clear_value yy; revert yy; intro y2)
    | with_reducible apply Kept.ite
    | split

theorem instantDo_kept {s : State} (hs : Kept x s0 s) : Kept x s0 (instantDo s) := by
  unfold instantDo
  repeat' first
    | with_reducible assumption
    | with_reducible apply fieldEvent_kept
    | with_reducible apply State.onField_kept
    | with_reducible apply State.each_kept
    | with_reducible apply ok_kept
    | with_reducible apply store_kept
    | (intro)
    | with_reducible apply Kept.ite

theorem stopAtOnce_kept {s : State} {a2} (hs : Kept x s0 s) : Kept x s0 (stopAtOnce s a2) := by
  unfold stopAtOnce
  repeat' first
    | with_reducible assumption
    | with_reducible apply State.onStp_kept
    | with_reducible apply fieldEvent_kept
    | with_reducible apply bump_kept
    | (extract_lets +onlyGivenNames st; have hst : Kept x s0 st := ?_; clear_value st; revert st; intro st2 hst2)
    | (extract_lets +onlyGivenNames yy; clear_value yy; revert yy; intro y2)
    | with_reducible apply Kept.ite

theorem instantStep_kept {s : State} {a2} (hs : Kept x s0 s) : Kept x s0 (instantStep s a2) := by
  unfold instantStep
  repeat' first
    | with_reducible assumption
    | with_reducible apply stopAtOnce_kept
    | with_reducible apply State.onStp_kept
    | (extract_lets +onlyGivenNames yy; clear_value yy; revert yy; intro y2)
    | with_reducible apply Kept.ite
    | split

theorem landMove_kept {s : State} {a2} {a3} {a4} (hs : Kept x s0 s) : Kept x s0 (landMove s a2 a3 a4) := by
  unfold landMove
  repeat' first
    | with_reducible assumption
    | with_reducible apply State.onStp_kept

theorem landField1_kept {s : State} {a2} (hs : Kept x s0 s) : Kept x s0 (landField1 s a2) := by
  unfold landField1
  repeat' first
    | with_reducible assumption
    | with_reducible apply State.onPwm_kept
    | with_reducible apply State.onSd_kept
    | with_reducible apply State.onAi_kept
    | with_reducible apply State.onQa_kept
    | with_reducible apply State.each_kept
    | with_reducible apply State.onDi_kept
    | (intro)
    | split

theorem landField_kept {s : State} (hs : Kept x s0 s) : Kept x s0 (landField s) := by
  unfold landField
  repeat' first
    | with_reducible assumption
    | with_reducible apply landDo_kept
    | with_reducible apply State.onField_kept
    | with_reducible apply State.each_kept
    | with_reducible apply ok_kept
    | with_reducible apply store_kept
    | with_reducible apply landField1_kept
    | with_reducible apply landMove_kept
    | (intro)
    | with_reducible apply Kept.ite

theorem encoderFault_kept {s : State} {a2} (hs : Kept x s0 s) : Kept x s0 (encoderFault s a2) := by
  unfold encoderFault
  repeat' first
    | with_reducible assumption
    | with_reducible apply fieldEvent_kept
    | with_reducible apply bump_kept
    | with_reducible apply State.onQa_kept
    | (extract_lets +onlyGivenNames yy; clear_value yy; revert yy; intro y2)
    | with_reducible apply Kept.ite

theorem sdFaulty_kept {s : State} {a2} (hs : Kept x s0 s) : Kept x s0 (sdFaulty s a2) := by
  unfold sdFaulty
  repeat' first
    | with_reducible assumption
    | with_reducible apply fieldEvent_kept
    | with_reducible apply bump_kept
    | with_reducible apply State.onSd_kept
    | with_reducible apply Kept.ite

theorem aiFaulty_kept {s : State} {a2} (hs : Kept x s0 s) : Kept x s0 (aiFaulty s a2) := by
  unfold aiFaulty
  repeat' first
    | with_reducible assumption
    | with_reducible apply fieldEvent_kept
    | with_reducible apply bump_kept
    | with_reducible apply State.onAi_kept
    | with_reducible apply Kept.ite

theorem deadFront_kept {s : State} {a2} (hs : Kept x s0 s) : Kept x s0 (deadFront s a2) := by
  unfold deadFront
  repeat' first
    | with_reducible assumption
    | with_reducible apply aiFaulty_kept
    | with_reducible apply encoderFault_kept
    | with_reducible apply Kept.ite

theorem frontFrame_kept {s : State} {a2} {a3} (hs : Kept x s0 s) : Kept x s0 (frontFrame s a2 a3) := by
  unfold frontFrame
  repeat' first
    | with_reducible assumption
    | with_reducible apply sdFaulty_kept
    | with_reducible apply bump_kept
    | with_reducible apply State.onField_kept
    | with_reducible apply deadFront_kept
    | (extract_lets +onlyGivenNames st; have hst : Kept x s0 st := ?_; clear_value st; revert st; intro st2 hst2)
    | (extract_lets +onlyGivenNames yy; clear_value yy; revert yy; intro y2)
    | with_reducible apply Kept.ite

theorem instantPwm_kept {s : State} {a2} (hs : Kept x s0 s) : Kept x s0 (instantPwm s a2) := by
  unfold instantPwm
  repeat' first
    | with_reducible assumption
    | with_reducible apply State.onPwm_kept
    | (extract_lets +onlyGivenNames yy; clear_value yy; revert yy; intro y2)
    | with_reducible apply Kept.ite

theorem instantField_kept {s : State} {a2} (hs : Kept x s0 s) : Kept x s0 (instantField s a2) := by
  unfold instantField
  extract_lets bad st1 st2 st3 st4 st5 st6 st7
  have h1 : Kept x s0 st1 := State.each_kept hs fun _ _ h => frontFrame_kept h
  clear_value st1
  split
  · exact h1
  · have h2 : Kept x s0 st2 := Kept.ite h1 (State.onField_kept h1)
    clear_value st2
    have h3 : Kept x s0 st3 := Kept.ite h2 (instantDo_kept h2)
    clear_value st3
    have h4 : Kept x s0 st4 := State.onField_kept h3
    clear_value st4
    have h5 : Kept x s0 st5 := State.each_kept h4 fun _ _ h => Kept.ite h (State.onQa_kept h)
    clear_value st5
    have h6 : Kept x s0 st6 := State.each_kept h5 fun _ _ h => Kept.ite h (State.onSd_kept h)
    clear_value st6
    have h7 : Kept x s0 st7 := State.each_kept h6 fun _ _ h => instantPwm_kept h
    clear_value st7
    exact State.each_kept h7 fun _ _ h => instantStep_kept h

theorem fieldOff_kept {s : State} (hs : Kept x s0 s) : Kept x s0 (fieldOff s) := by
  unfold fieldOff
  repeat' first
    | with_reducible assumption
    | with_reducible apply State.each_kept
    | with_reducible apply stopAtOnce_kept
    | with_reducible apply State.onField_kept
    | with_reducible exact CntKept.same rfl
    | with_reducible exact MemsKept.same rfl rfl
    | with_reducible exact fun w => MemsWf.same w rfl rfl
    | with_reducible exact FuseKept.same rfl rfl rfl
    | with_reducible exact SafetyKept.same rfl rfl rfl rfl
    | with_reducible exact CfgKept.same rfl
    | with_reducible exact TripsKept.same rfl rfl
    | with_reducible exact .inr rfl
    | (intro)
    | (extract_lets +onlyGivenNames st; have hst : Kept x s0 st := ?_; clear_value st; revert st; intro st2 hst2)
    | (extract_lets +onlyGivenNames yy; clear_value yy; revert yy; intro y2)
    | with_reducible apply Kept.ite
    | split

theorem pwmPeriod_kept {s : State} {a2} {a3} (hs : Kept x s0 s) : Kept x s0 (pwmPeriod s a2 a3) := by
  unfold pwmPeriod
  repeat' first
    | with_reducible assumption
    | with_reducible apply State.onPwm_kept
    | with_reducible apply bump_kept
    | with_reducible exact CntKept.same rfl
    | with_reducible exact MemsKept.same rfl rfl
    | with_reducible exact fun w => MemsWf.same w rfl rfl
    | with_reducible exact FuseKept.same rfl rfl rfl
    | with_reducible exact SafetyKept.same rfl rfl rfl rfl
    | with_reducible exact CfgKept.same rfl
    | with_reducible exact TripsKept.same rfl rfl
    | with_reducible exact .inr rfl
    | (intro)
    | (extract_lets +onlyGivenNames st; have hst : Kept x s0 st := ?_; clear_value st; revert st; intro st2 hst2)
    | (extract_lets +onlyGivenNames fn; have hfn : ∀ z, Kept x s0 z → Kept x s0 (fn z) := ?_; clear_value fn; revert fn; intro fn2 hfn)
    | (extract_lets +onlyGivenNames yy; clear_value yy; revert yy; intro y2)
    | (dsimp -zeta only [st]; clear st)
    | (dsimp -zeta only [fn]; clear fn)
    | with_reducible apply Kept.ite
    | split

theorem instantEnergy_kept {s : State} {a2} (hs : Kept x s0 s) : Kept x s0 (instantEnergy s a2) := by
  unfold instantEnergy
  repeat' first
    | with_reducible assumption
    | with_reducible apply State.onShaft_kept
    | with_reducible apply crestEvent_kept
    | with_reducible exact CntKept.same rfl
    | with_reducible exact MemsKept.same rfl rfl
    | with_reducible exact fun w => MemsWf.same w rfl rfl
    | with_reducible exact FuseKept.same rfl rfl rfl
    | with_reducible exact SafetyKept.same rfl rfl rfl rfl
    | with_reducible exact CfgKept.same rfl
    | with_reducible exact TripsKept.same rfl rfl
    | with_reducible exact .inr rfl
    | (intro)
    | (extract_lets +onlyGivenNames st; have hst : Kept x s0 st := ?_; clear_value st; revert st; intro st2 hst2)
    | (extract_lets +onlyGivenNames yy; clear_value yy; revert yy; intro y2)
    | (dsimp -zeta only [st]; clear st)
    | with_reducible apply Kept.ite
    | split

/-! ## Machine/Can.lean -/

theorem State.onCh_kept {s : State} {a2} {a3} (hs : Kept x s0 s) : Kept x s0 (State.onCh s a2 a3) := by
  unfold State.onCh
  repeat' first
    | with_reducible assumption
    | with_reducible apply State.onCan_kept

theorem State.onObj_kept {s : State} {a2} {a3} (hs : Kept x s0 s) : Kept x s0 (State.onObj s a2 a3) := by
  unfold State.onObj
  repeat' first
    | with_reducible assumption
    | with_reducible apply State.onCan_kept

theorem canEvent_kept {s : State} {a2} {a3} {a4} (hs : Kept x s0 s) : Kept x s0 (canEvent s a2 a3 a4) := by
  unfold canEvent
  repeat' first
    | with_reducible assumption
    | with_reducible apply raise_kept

theorem countCan_kept {s : State} {a2} {a3} (hs : Kept x s0 s) : Kept x s0 (countCan s a2 a3) := by
  unfold countCan
  repeat' first
    | with_reducible assumption
    | with_reducible apply State.onCh_kept
    | with_reducible apply bump_kept
    | (extract_lets +onlyGivenNames st; have hst : Kept x s0 st := ?_; clear_value st; revert st; intro st2 hst2)
    | split

theorem capture_kept {s : State} {a2} {a3} (hs : Kept x s0 s) : Kept x s0 (capture s a2 a3) := by
  unfold capture
  repeat' first
    | with_reducible assumption
    | with_reducible apply canEvent_kept
    | with_reducible apply countCan_kept
    | with_reducible apply State.onObj_kept
    | (intro)
    | (extract_lets +onlyGivenNames st; have hst : Kept x s0 st := ?_; clear_value st; revert st; intro st2 hst2)
    | (extract_lets +onlyGivenNames fn; have hfn : ∀ z, Kept x s0 z → Kept x s0 (fn z) := ?_; clear_value fn; revert fn; intro fn2 hfn)
    | (extract_lets +onlyGivenNames yy; clear_value yy; revert yy; intro y2)
    | with_reducible apply hfn
    | with_reducible apply Kept.ite

theorem storeFrame_kept {s : State} {a2} {a3} (hs : Kept x s0 s) : Kept x s0 (storeFrame s a2 a3) := by
  unfold storeFrame
  repeat' first
    | with_reducible assumption
    | with_reducible apply State.onCh_kept
    | with_reducible apply canEvent_kept
    | with_reducible apply countCan_kept
    | (extract_lets +onlyGivenNames st; have hst : Kept x s0 st := ?_; clear_value st; revert st; intro st2 hst2)
    | (extract_lets +onlyGivenNames yy; clear_value yy; revert yy; intro y2)
    | with_reducible apply Kept.ite

theorem addError_kept {s : State} {a2} {a3} {a4} (hs : Kept x s0 s) : Kept x s0 (addError s a2 a3 a4) := by
  unfold addError
  repeat' first
    | with_reducible assumption
    | with_reducible apply State.onCh_kept
    | with_reducible apply canEvent_kept
    | (extract_lets +onlyGivenNames st; have hst : Kept x s0 st := ?_; clear_value st; revert st; intro st2 hst2)
    | (extract_lets +onlyGivenNames yy; clear_value yy; revert yy; intro y2)
    | with_reducible apply Kept.ite

theorem endDelays_kept {s : State} {a2} {a3} (hs : Kept x s0 s) : Kept x s0 (endDelays s a2 a3) := by
  unfold endDelays
  repeat' first
    | with_reducible assumption
    | with_reducible apply State.each_kept
    | with_reducible apply State.onObj_kept
    | (intro)
    | with_reducible apply Kept.ite

theorem execCanFrameRx_kept {a1} {a2} {a3} {s : State} (hs : Kept x s0 s) : Ends (Kept x s0) (execCanFrameRx a1 a2 a3 s) := by
  unfold execCanFrameRx
  repeat' first
    | with_reducible assumption
    | with_reducible apply State.onCh_kept
    | with_reducible apply endDelays_kept
    | with_reducible apply countCan_kept
    | with_reducible apply storeFrame_kept
    | with_reducible apply capture_kept
    | with_reducible exact CntKept.same rfl
    | with_reducible exact MemsKept.same rfl rfl
    | with_reducible exact fun w => MemsWf.same w rfl rfl
    | with_reducible exact FuseKept.same rfl rfl rfl
    | with_reducible exact SafetyKept.same rfl rfl rfl rfl
    | with_reducible exact CfgKept.same rfl
    | with_reducible exact TripsKept.same rfl rfl
    | with_reducible exact .inr rfl
    | (intro)
    | (extract_lets +onlyGivenNames st; have hst : Kept x s0 st := ?_; clear_value st; revert st; intro st2 hst2)
    | (extract_lets +onlyGivenNames yy; clear_value yy; revert yy; intro y2)
    | with_reducible apply Ends.next
    | (dsimp -zeta only [st]; clear st)
    | with_reducible apply Kept.ite
    | split

theorem execCanDrain_kept {a1} {a2} {s : State} (hs : Kept x s0 s) : Ends (Kept x s0) (execCanDrain a1 a2 s) := by
  unfold execCanDrain
  repeat' first
    | with_reducible assumption
    | with_reducible apply State.onCh_kept
    | with_reducible exact CntKept.same rfl
    | with_reducible exact MemsKept.same rfl rfl
    | with_reducible exact fun w => MemsWf.same w rfl rfl
    | with_reducible exact FuseKept.same rfl rfl rfl
    | with_reducible exact SafetyKept.same rfl rfl rfl rfl
    | with_reducible exact CfgKept.same rfl
    | with_reducible exact TripsKept.same rfl rfl
    | with_reducible exact .inr rfl
    | (intro)
    | with_reducible apply Ends.next
    | with_reducible apply Kept.ite
    | split

theorem execObjWord0Read_kept {a1} {s : State} (hs : Kept x s0 s) : Ends (Kept x s0) (execObjWord0Read a1 s) := by
  unfold execObjWord0Read
  repeat' first
    | with_reducible assumption
    | with_reducible apply State.onObj_kept
    | with_reducible apply Ends.next
    | with_reducible apply Kept.ite

theorem execObjWord22Read_kept {a1} {s : State} (hs : Kept x s0 s) : Ends (Kept x s0) (execObjWord22Read a1 s) := by
  unfold execObjWord22Read
  repeat' first
    | with_reducible assumption
    | with_reducible apply State.onObj_kept
    | with_reducible apply Ends.next
    | with_reducible apply Kept.ite

theorem execObjLockExpiry_kept {a1} {s : State} (hs : Kept x s0 s) : Ends (Kept x s0) (execObjLockExpiry a1 s) := by
  unfold execObjLockExpiry
  repeat' first
    | with_reducible assumption
    | with_reducible apply countCan_kept
    | with_reducible apply State.onObj_kept
    | with_reducible apply Ends.next
    | with_reducible apply Kept.ite

theorem armObj_kept {s : State} {a2} {a3} {a4} (hs : Kept x s0 s) : Kept x s0 (armObj s a2 a3 a4) := by
  unfold armObj
  repeat' first
    | with_reducible assumption
    | with_reducible apply State.onObj_kept
    | with_reducible apply ok_kept
    | (extract_lets +onlyGivenNames st; have hst : Kept x s0 st := ?_; clear_value st; revert st; intro st2 hst2)
    | (extract_lets +onlyGivenNames yy; clear_value yy; revert yy; intro y2)
    | with_reducible apply Kept.ite
    | split

theorem endAttempt_kept {s : State} {a2} (hs : Kept x s0 s) : Kept x s0 (endAttempt s a2) := by
  unfold endAttempt
  repeat' first
    | with_reducible assumption
    | with_reducible apply armObj_kept
    | with_reducible apply State.onObj_kept
    | split

theorem drawBackoff_kept {s : State} {a2} (hs : Kept x s0 s) : Kept x s0 (drawBackoff s a2) := by
  unfold drawBackoff
  repeat' first
    | with_reducible assumption
    | with_reducible apply draw_kept_proj
    | with_reducible apply countCan_kept
    | with_reducible apply State.onObj_kept
    | with_reducible apply State.onCh_kept

theorem applyCan_kept {s : State} {a2} (hs : Kept x s0 s) : Kept x s0 (applyCan s a2) := by
  unfold applyCan
  repeat' first
    | with_reducible assumption
    | with_reducible apply State.onCh_kept

theorem execCanBusIdle_kept {a1} {s : State} (hs : Kept x s0 s) : Ends (Kept x s0) (execCanBusIdle a1 s) := by
  unfold execCanBusIdle
  repeat' first
    | with_reducible assumption
    | with_reducible apply State.each_kept
    | with_reducible apply endAttempt_kept
    | with_reducible apply applyCan_kept
    | with_reducible apply drawBackoff_kept
    | with_reducible apply endDelays_kept
    | with_reducible apply State.onObj_kept
    | (extract_lets +onlyGivenNames st; have hst : Kept x s0 st := ?_; clear_value st; revert st; intro st2 hst2)
    | with_reducible apply Ends.next
    | with_reducible apply Kept.ite
    | split

theorem execCanTxSuccess_kept {a1} {a2} {s : State} (hs : Kept x s0 s) : Ends (Kept x s0) (execCanTxSuccess a1 a2 s) := by
  unfold execCanTxSuccess
  repeat' first
    | with_reducible assumption
    | with_reducible apply countCan_kept
    | with_reducible apply storeFrame_kept
    | with_reducible apply State.onCh_kept
    | with_reducible apply State.onObj_kept
    | with_reducible apply ok_kept
    | with_reducible apply armObj_kept
    | with_reducible exact CntKept.same rfl
    | with_reducible exact MemsKept.same rfl rfl
    | with_reducible exact fun w => MemsWf.same w rfl rfl
    | with_reducible exact FuseKept.same rfl rfl rfl
    | with_reducible exact SafetyKept.same rfl rfl rfl rfl
    | with_reducible exact CfgKept.same rfl
    | with_reducible exact TripsKept.same rfl rfl
    | with_reducible exact .inr rfl
    | (intro)
    | (extract_lets +onlyGivenNames st; have hst : Kept x s0 st := ?_; clear_value st; revert st; intro st2 hst2)
    | (extract_lets +onlyGivenNames yy; clear_value yy; revert yy; intro y2)
    | with_reducible apply Ends.next
    | (dsimp -zeta only [st]; clear st)
    | with_reducible apply Kept.ite
    | split

theorem execCanCollision_kept {a1} {s : State} (hs : Kept x s0 s) : Ends (Kept x s0) (execCanCollision a1 s) := by
  unfold execCanCollision
  repeat' first
    | with_reducible assumption
    | with_reducible apply countCan_kept
    | with_reducible apply State.onObj_kept
    | with_reducible apply addError_kept
    | with_reducible apply canEvent_kept
    | with_reducible apply drawBackoff_kept
    | with_reducible apply recordOnly_kept
    | with_reducible apply endAttempt_kept
    | with_reducible exact CntKept.same rfl
    | with_reducible exact MemsKept.same rfl rfl
    | with_reducible exact fun w => MemsWf.same w rfl rfl
    | with_reducible exact FuseKept.same rfl rfl rfl
    | with_reducible exact SafetyKept.same rfl rfl rfl rfl
    | with_reducible exact CfgKept.same rfl
    | with_reducible exact TripsKept.same rfl rfl
    | with_reducible exact .inr rfl
    | (intro)
    | (extract_lets +onlyGivenNames st; have hst : Kept x s0 st := ?_; clear_value st; revert st; intro st2 hst2)
    | (extract_lets +onlyGivenNames yy; clear_value yy; revert yy; intro y2)
    | with_reducible apply Ends.next
    | (dsimp -zeta only [st]; clear st)
    | with_reducible apply Kept.ite
    | split

theorem execCanBackoffEnd_kept {a1} {s : State} (hs : Kept x s0 s) : Ends (Kept x s0) (execCanBackoffEnd a1 s) := by
  unfold execCanBackoffEnd
  repeat' first
    | with_reducible assumption
    | with_reducible apply State.onObj_kept
    | with_reducible apply Ends.next
    | with_reducible apply Kept.ite

theorem execCanErrorDetected_kept {a1} {a2} {s : State} (hs : Kept x s0 s) : Ends (Kept x s0) (execCanErrorDetected a1 a2 s) := by
  unfold execCanErrorDetected
  repeat' first
    | with_reducible assumption
    | with_reducible apply countCan_kept
    | with_reducible apply addError_kept
    | with_reducible apply endAttempt_kept
    | with_reducible apply endDelays_kept
    | (extract_lets +onlyGivenNames st; have hst : Kept x s0 st := ?_; clear_value st; revert st; intro st2 hst2)
    | with_reducible apply Ends.next
    | with_reducible apply Kept.ite
    | split

theorem execCanBusOff_kept {a1} {s : State} (hs : Kept x s0 s) : Ends (Kept x s0) (execCanBusOff a1 s) := by
  unfold execCanBusOff
  repeat' first
    | with_reducible assumption
    | with_reducible apply endAttempt_kept
    | with_reducible apply canEvent_kept
    | with_reducible apply countCan_kept
    | with_reducible apply State.onCh_kept
    | (extract_lets +onlyGivenNames st; have hst : Kept x s0 st := ?_; clear_value st; revert st; intro st2 hst2)
    | (extract_lets +onlyGivenNames yy; clear_value yy; revert yy; intro y2)
    | with_reducible apply Ends.next
    | (dsimp -zeta only [st]; clear st)
    | with_reducible apply Kept.ite
    | split

theorem execCanRecoveryDone_kept {a1} {s : State} (hs : Kept x s0 s) : Ends (Kept x s0) (execCanRecoveryDone a1 s) := by
  unfold execCanRecoveryDone
  repeat' first
    | with_reducible assumption
    | with_reducible apply State.onCh_kept
    | with_reducible apply ok_kept
    | with_reducible apply canEvent_kept
    | (extract_lets +onlyGivenNames st; have hst : Kept x s0 st := ?_; clear_value st; revert st; intro st2 hst2)
    | (extract_lets +onlyGivenNames yy; clear_value yy; revert yy; intro y2)
    | with_reducible apply Ends.next
    | with_reducible apply Kept.ite
    | split

theorem execCanWake_kept {a1} {s : State} (hs : Kept x s0 s) : Ends (Kept x s0) (execCanWake a1 s) := by
  unfold execCanWake
  repeat' first
    | with_reducible assumption
    | with_reducible apply s3Wake_kept
    | with_reducible apply State.onCh_kept
    | with_reducible apply canEvent_kept
    | with_reducible exact CntKept.same rfl
    | with_reducible exact MemsKept.same rfl rfl
    | with_reducible exact fun w => MemsWf.same w rfl rfl
    | with_reducible exact FuseKept.same rfl rfl rfl
    | with_reducible exact SafetyKept.same rfl rfl rfl rfl
    | with_reducible exact CfgKept.same rfl
    | with_reducible exact TripsKept.same rfl rfl
    | with_reducible exact .inr rfl
    | (intro)
    | (extract_lets +onlyGivenNames st; have hst : Kept x s0 st := ?_; clear_value st; revert st; intro st2 hst2)
    | (extract_lets +onlyGivenNames yy; clear_value yy; revert yy; intro y2)
    | with_reducible apply Ends.next
    | (dsimp -zeta only [st]; clear st)
    | with_reducible apply Kept.ite
    | split

theorem execObjArm_kept {a1} {a2} {s : State} (hs : Kept x s0 s) : Ends (Kept x s0) (execObjArm a1 a2 s) := by
  unfold execObjArm
  repeat' first
    | with_reducible assumption
    | with_reducible apply State.onObj_kept
    | with_reducible apply armObj_kept
    | with_reducible apply Ends.next
    | with_reducible apply Kept.ite

theorem execCanReferenceDue_kept {a1} {s : State} (hs : Kept x s0 s) : Ends (Kept x s0) (execCanReferenceDue a1 s) := by
  unfold execCanReferenceDue
  repeat' first
    | with_reducible assumption
    | with_reducible apply countCan_kept
    | with_reducible apply State.onObj_kept
    | with_reducible apply armObj_kept
    | (extract_lets +onlyGivenNames st; have hst : Kept x s0 st := ?_; clear_value st; revert st; intro st2 hst2)
    | (extract_lets +onlyGivenNames yy; clear_value yy; revert yy; intro y2)
    | with_reducible apply Ends.next
    | (dsimp -zeta only [st]; clear st)
    | with_reducible apply Kept.ite

theorem execBmsReport_kept {a1} {s : State} (hs : Kept x s0 s) : Ends (Kept x s0) (execBmsReport a1 s) := by
  unfold execBmsReport
  repeat' first
    | with_reducible assumption
    | with_reducible apply State.onObj_kept
    | with_reducible apply canEvent_kept
    | with_reducible apply State.onCan_kept
    | with_reducible apply State.onShaft_kept
    | with_reducible exact CntKept.same rfl
    | with_reducible exact MemsKept.same rfl rfl
    | with_reducible exact fun w => MemsWf.same w rfl rfl
    | with_reducible exact FuseKept.same rfl rfl rfl
    | with_reducible exact SafetyKept.same rfl rfl rfl rfl
    | with_reducible exact CfgKept.same rfl
    | with_reducible exact TripsKept.same rfl rfl
    | with_reducible exact .inr rfl
    | (intro)
    | (extract_lets +onlyGivenNames st; have hst : Kept x s0 st := ?_; clear_value st; revert st; intro st2 hst2)
    | (extract_lets +onlyGivenNames yy; clear_value yy; revert yy; intro y2)
    | with_reducible apply Ends.next
    | (dsimp -zeta only [st]; clear st)
    | with_reducible apply Kept.ite
    | split

theorem execCanStatus_kept {a1} {s : State} (hs : Kept x s0 s) : Ends (Kept x s0) (execCanStatus a1 s) := by
  unfold execCanStatus
  repeat' first
    | with_reducible assumption
    | with_reducible apply serve_kept
    | with_reducible apply draw_kept_proj
    | with_reducible apply ok_kept
    | with_reducible apply State.onCh_kept
    | (intro)
    | (extract_lets +onlyGivenNames yy; clear_value yy; revert yy; intro y2)
    | with_reducible apply Ends.next

theorem execCanRxRead_kept {a1} {s : State} (hs : Kept x s0 s) : Ends (Kept x s0) (execCanRxRead a1 s) := by
  unfold execCanRxRead
  repeat' first
    | with_reducible assumption
    | with_reducible apply serve_kept
    | with_reducible apply ok_kept
    | with_reducible apply State.onObj_kept
    | (intro)
    | (extract_lets +onlyGivenNames st; have hst : Kept x s0 st := ?_; clear_value st; revert st; intro st2 hst2)
    | (extract_lets +onlyGivenNames yy; clear_value yy; revert yy; intro y2)
    | with_reducible apply Ends.next
    | (dsimp -zeta only [st]; clear st)
    | with_reducible apply Kept.ite

theorem landCan1_kept {s : State} {a2} (hs : Kept x s0 s) : Kept x s0 (landCan1 s a2) := by
  unfold landCan1
  repeat' first
    | with_reducible assumption
    | with_reducible apply State.onCh_kept
    | with_reducible apply State.onObj_kept
    | with_reducible apply State.onCan_kept
    | split

theorem canPlanned_kept {s : State} (hs : Kept x s0 s) : Kept x s0 (canPlanned s) := by
  unfold canPlanned
  repeat' first
    | with_reducible assumption
    | with_reducible apply State.each_kept
    | with_reducible apply landCan1_kept
    | with_reducible exact CntKept.same rfl
    | with_reducible exact MemsKept.same rfl rfl
    | with_reducible exact fun w => MemsWf.same w rfl rfl
    | with_reducible exact FuseKept.same rfl rfl rfl
    | with_reducible exact SafetyKept.same rfl rfl rfl rfl
    | with_reducible exact CfgKept.same rfl
    | with_reducible exact TripsKept.same rfl rfl
    | with_reducible exact .inr rfl
    | (intro)
    | with_reducible apply Kept.ite
    | split

theorem execCanConfig_kept {a1} {s : State} (hs : Kept x s0 s) : Ends (Kept x s0) (execCanConfig a1 s) := by
  unfold execCanConfig
  repeat' first
    | with_reducible assumption
    | with_reducible apply serve_kept
    | with_reducible apply canPlanned_kept
    | with_reducible apply refused_kept
    | with_reducible apply State.onCan_kept
    | with_reducible exact CntKept.same rfl
    | with_reducible exact MemsKept.same rfl rfl
    | with_reducible exact fun w => MemsWf.same w rfl rfl
    | with_reducible exact FuseKept.same rfl rfl rfl
    | with_reducible exact SafetyKept.same rfl rfl rfl rfl
    | with_reducible exact CfgKept.same rfl
    | with_reducible exact TripsKept.same rfl rfl
    | with_reducible exact .inr rfl
    | (intro)
    | (extract_lets +onlyGivenNames st; have hst : Kept x s0 st := ?_; clear_value st; revert st; intro st2 hst2)
    | (extract_lets +onlyGivenNames yy; clear_value yy; revert yy; intro y2)
    | with_reducible apply Ends.next
    | (dsimp -zeta only [st]; clear st)
    | with_reducible apply Kept.ite
    | split

theorem execCanWakeSet_kept {a1} {s : State} (hs : Kept x s0 s) : Ends (Kept x s0) (execCanWakeSet a1 s) := by
  unfold execCanWakeSet
  repeat' first
    | with_reducible assumption
    | with_reducible apply serve_kept
    | with_reducible apply canPlanned_kept
    | with_reducible apply refused_kept
    | with_reducible apply State.onCan_kept
    | with_reducible exact CntKept.same rfl
    | with_reducible exact MemsKept.same rfl rfl
    | with_reducible exact fun w => MemsWf.same w rfl rfl
    | with_reducible exact FuseKept.same rfl rfl rfl
    | with_reducible exact SafetyKept.same rfl rfl rfl rfl
    | with_reducible exact CfgKept.same rfl
    | with_reducible exact TripsKept.same rfl rfl
    | with_reducible exact .inr rfl
    | (intro)
    | (extract_lets +onlyGivenNames st; have hst : Kept x s0 st := ?_; clear_value st; revert st; intro st2 hst2)
    | (extract_lets +onlyGivenNames yy; clear_value yy; revert yy; intro y2)
    | with_reducible apply Ends.next
    | (dsimp -zeta only [st]; clear st)
    | with_reducible apply Kept.ite
    | split

theorem landCan_kept {s : State} (hs : Kept x s0 s) : Kept x s0 (landCan s) := by
  unfold landCan
  repeat' first
    | with_reducible assumption
    | with_reducible apply State.each_kept
    | with_reducible apply State.onCan_kept
    | with_reducible apply ok_kept
    | with_reducible apply store_kept
    | with_reducible apply landCan1_kept
    | (intro)
    | (extract_lets +onlyGivenNames yy; clear_value yy; revert yy; intro y2)
    | with_reducible apply Kept.ite

theorem execCanSend_kept {a1} {s : State} (hs : Kept x s0 s) : Ends (Kept x s0) (execCanSend a1 s) := by
  unfold execCanSend
  repeat' first
    | with_reducible assumption
    | with_reducible apply serve_kept
    | with_reducible apply refused_kept
    | with_reducible apply State.onObj_kept
    | with_reducible apply armObj_kept
    | (intro)
    | (extract_lets +onlyGivenNames yy; clear_value yy; revert yy; intro y2)
    | with_reducible apply Ends.next
    | with_reducible apply Kept.ite

theorem execCanBusoffRecover_kept {a1} {s : State} (hs : Kept x s0 s) : Ends (Kept x s0) (execCanBusoffRecover a1 s) := by
  unfold execCanBusoffRecover
  repeat' first
    | with_reducible assumption
    | with_reducible apply serve_kept
    | with_reducible apply refused_kept
    | with_reducible apply State.each_kept
    | with_reducible apply State.onObj_kept
    | with_reducible apply State.onCh_kept
    | (intro)
    | (extract_lets +onlyGivenNames st; have hst : Kept x s0 st := ?_; clear_value st; revert st; intro st2 hst2)
    | (extract_lets +onlyGivenNames yy; clear_value yy; revert yy; intro y2)
    | with_reducible apply Ends.next
    | (dsimp -zeta only [st]; clear st)
    | with_reducible apply Kept.ite

/-! ## Machine/CreelOps.lean -/

theorem writeWord_kept {s : State} {a2} {a3} {a4} (hs : Kept x s0 s) (x_mem : x .mem = true) (x_cycle : x .cycle = true) : Kept x s0 (writeWord s a2 a3 a4) := by
  unfold writeWord
  repeat' first
    | with_reducible assumption
    | with_reducible apply countFault_kept
    | with_reducible apply State.onSupply_kept
    | with_reducible apply State.onHost_kept
    | with_reducible apply State.onPstat_kept
    | with_reducible apply writeDebug_kept
    | with_reducible apply Kept.ite
    | split

theorem abortEntry_kept {s : State} {a2} (hs : Kept x s0 s) : Kept x s0 (abortEntry s a2) := by
  unfold abortEntry
  repeat' first
    | with_reducible assumption
    | with_reducible apply State.onPow_kept
    | with_reducible apply Kept.ite

theorem admitRequest_kept_proj {s : State} {a2} {a3} (hs : Kept x s0 s) : Kept x s0 (admitRequest s a2 a3).2 := by
  unfold admitRequest
  repeat' first
    | with_reducible assumption
    | with_reducible apply State.onQueue_kept
    | with_reducible apply bumpPart_kept
    | with_reducible apply abortEntry_kept
    | with_reducible apply flushQueue_kept
    | with_reducible exact CntKept.same rfl
    | with_reducible exact MemsKept.same rfl rfl
    | with_reducible exact fun w => MemsWf.same w rfl rfl
    | with_reducible exact FuseKept.same rfl rfl rfl
    | with_reducible exact SafetyKept.same rfl rfl rfl rfl
    | with_reducible exact CfgKept.same rfl
    | with_reducible exact TripsKept.same rfl rfl
    | with_reducible exact .inr rfl
    | (intro)
    | (extract_lets +onlyGivenNames st; have hst : Kept x s0 st := ?_; clear_value st; revert st; intro st2 hst2)
    | (extract_lets +onlyGivenNames yy; clear_value yy; revert yy; intro y2)
    | (dsimp -zeta only [st]; clear st)
    | with_reducible apply Kept.ite
    | split

theorem admitRequest_kept {s : State} {a2} {a3} {w0} {v : State} (e : admitRequest s a2 a3 = (w0, v)) (hs : Kept x s0 s) : Kept x s0 v := by
  have w := admitRequest_kept_proj hs (x := x) (a2 := a2) (a3 := a3)
  rw [e] at w
  exact w

theorem pullHost_kept {a1} {a2} {s : State} (hs : Kept x s0 s) : Kept x s0 (pullHost a1 a2 s) := by
  induction a2 generalizing s with
  | zero => exact hs
  | succ k ih =>
    unfold pullHost
    repeat' first
        | with_reducible assumption
        | with_reducible apply admitRequest_kept_proj
        | with_reducible apply State.onQueue_kept
        | with_reducible apply ih
        | (extract_lets +onlyGivenNames yy; clear_value yy; revert yy; intro y2)
        | with_reducible apply Kept.ite
        | split

theorem ignoreDoorbell_kept {s : State} {a2} (hs : Kept x s0 s) : Kept x s0 (ignoreDoorbell s a2) := by
  unfold ignoreDoorbell
  repeat' first
    | with_reducible assumption
    | with_reducible apply State.onHost_kept
    | with_reducible apply countFault_kept

theorem doSubmit_kept {s : State} {a2} {a3} {a4} (hs : Kept x s0 s) : Kept x s0 (doSubmit s a2 a3 a4) := by
  unfold doSubmit
  repeat' first
    | with_reducible assumption
    | with_reducible apply bump_kept
    | with_reducible apply ignoreDoorbell_kept
    | with_reducible apply bumpPart_kept
    | with_reducible apply draw_kept_proj
    | with_reducible apply State.onQueue_kept
    | with_reducible apply pullHost_kept
    | with_reducible exact CntKept.same rfl
    | with_reducible exact MemsKept.same rfl rfl
    | with_reducible exact fun w => MemsWf.same w rfl rfl
    | with_reducible exact FuseKept.same rfl rfl rfl
    | with_reducible exact SafetyKept.same rfl rfl rfl rfl
    | with_reducible exact CfgKept.same rfl
    | with_reducible exact TripsKept.same rfl rfl
    | with_reducible exact .inr rfl
    | (intro)
    | (extract_lets +onlyGivenNames st; have hst : Kept x s0 st := ?_; clear_value st; revert st; intro st2 hst2)
    | (extract_lets +onlyGivenNames yy; clear_value yy; revert yy; intro y2)
    | (dsimp -zeta only [st]; clear st)
    | with_reducible apply Kept.ite
    | split

theorem doCompHead_kept {s : State} {a2} {a3} (hs : Kept x s0 s) : Kept x s0 (doCompHead s a2 a3) := by
  unfold doCompHead
  repeat' first
    | with_reducible assumption
    | with_reducible apply bump_kept
    | with_reducible apply ignoreDoorbell_kept
    | with_reducible apply bumpPart_kept
    | with_reducible apply State.onQueue_kept
    | with_reducible apply pullHost_kept
    | with_reducible exact CntKept.same rfl
    | with_reducible exact MemsKept.same rfl rfl
    | with_reducible exact fun w => MemsWf.same w rfl rfl
    | with_reducible exact FuseKept.same rfl rfl rfl
    | with_reducible exact SafetyKept.same rfl rfl rfl rfl
    | with_reducible exact CfgKept.same rfl
    | with_reducible exact TripsKept.same rfl rfl
    | with_reducible exact .inr rfl
    | (intro)
    | (extract_lets +onlyGivenNames st; have hst : Kept x s0 st := ?_; clear_value st; revert st; intro st2 hst2)
    | (extract_lets +onlyGivenNames yy; clear_value yy; revert yy; intro y2)
    | (dsimp -zeta only [st]; clear st)
    | with_reducible apply Kept.ite
    | split

theorem writeReg_kept {s : State} {a2} {a3} {a4} {a5} (hs : Kept x s0 s) (x_mem : x .mem = true) (x_cycle : x .cycle = true) : Kept x s0 (writeReg s a2 a3 a4 a5) := by
  unfold writeReg
  repeat' first
    | with_reducible assumption
    | with_reducible apply countFault_kept
    | with_reducible apply doSubmit_kept
    | with_reducible apply doCompHead_kept
    | with_reducible apply writeWord_kept
    | with_reducible exact CntKept.same rfl
    | with_reducible exact MemsKept.same rfl rfl
    | with_reducible exact fun w => MemsWf.same w rfl rfl
    | with_reducible exact FuseKept.same rfl rfl rfl
    | with_reducible exact SafetyKept.same rfl rfl rfl rfl
    | with_reducible exact CfgKept.same rfl
    | with_reducible exact TripsKept.same rfl rfl
    | with_reducible exact .inr rfl
    | (intro)
    | with_reducible apply Kept.ite
    | split

theorem mgmtRead_kept_proj {p k off} {s : State} (hs : Kept x s0 s) : Kept x s0 (mgmtRead p k off s).2 := by
  induction k generalizing off s with
  | zero => exact hs
  | succ k ih => exact ih (readWord_kept_proj hs)

theorem mgmtRead_kept {p k off} {s : State} {w} {v : State} (e : mgmtRead p k off s = (w, v)) (hs : Kept x s0 s) : Kept x s0 v := by
  have h := mgmtRead_kept_proj (p := p) (k := k) (off := off) hs
  rw [e] at h
  exact h

theorem mgmtWrite_kept {a1} {a2} {a3} {s : State} (hs : Kept x s0 s) (x_mem : x .mem = true) (x_cycle : x .cycle = true) : Kept x s0 (mgmtWrite a1 a2 a3 s) := by
  induction a2 generalizing a3 s with
  | nil => exact hs
  | cons v r ih =>
    unfold mgmtWrite
    repeat' first
        | with_reducible assumption
        | with_reducible apply writeWord_kept
        | with_reducible apply ih

theorem datagramIn_kept {s : State} {a2} {a3} (hs : Kept x s0 s) (x_mem : x .mem = true) (x_cycle : x .cycle = true) : Kept x s0 (datagramIn s a2 a3) := by
  unfold datagramIn
  repeat' first
    | with_reducible assumption
    | with_reducible apply bump_kept
    | with_reducible apply bumpPart_kept
    | with_reducible apply State.each_kept
    | with_reducible apply admitRequest_kept_proj
    | with_reducible refine admitRequest_kept (by assumption) ?_
    | with_reducible apply mgmtRead_kept_proj
    | with_reducible refine mgmtRead_kept (by assumption) ?_
    | with_reducible apply mgmtWrite_kept
    | with_reducible apply sendDatagram_kept
    | with_reducible exact CntKept.same rfl
    | with_reducible exact MemsKept.same rfl rfl
    | with_reducible exact fun w => MemsWf.same w rfl rfl
    | with_reducible exact FuseKept.same rfl rfl rfl
    | with_reducible exact SafetyKept.same rfl rfl rfl rfl
    | with_reducible exact CfgKept.same rfl
    | with_reducible exact TripsKept.same rfl rfl
    | with_reducible exact .inr rfl
    | (intro)
    | (extract_lets +onlyGivenNames st; have hst : Kept x s0 st := ?_; clear_value st; revert st; intro st2 hst2)
    | (extract_lets +onlyGivenNames yy; clear_value yy; revert yy; intro y2)
    | (dsimp -zeta only [st]; clear st)
    | with_reducible apply Kept.ite
    | split

theorem drrPick_kept_proj {k} {s : State} (hs : Kept x s0 s) : Kept x s0 (drrPick k s).2 := by
  induction k generalizing s with
  | zero => exact hs
  | succ k ih =>
    unfold drrPick
    dsimp only
    split
    · exact hs
    · have h1 : Kept x s0 (if partWaiting s s.host.drrPart = true then s else s.onPstat s.host.drrPart fun t => { t with deficit := 0 }) := by
        split
        · exact hs
        · exact State.onPstat_kept hs
      repeat' first
        | with_reducible assumption
        | with_reducible apply ih
        | with_reducible apply State.onHost_kept
        | with_reducible apply State.onPstat_kept
        | split

theorem drrPick_kept {k} {s : State} {w} {v : State} (e : drrPick k s = (w, v)) (hs : Kept x s0 s) : Kept x s0 v := by
  have h := drrPick_kept_proj (k := k) hs
  rw [e] at h
  exact h

theorem handOver_kept {s : State} {a2} (hs : Kept x s0 s) : Kept x s0 (handOver s a2) := by
  unfold handOver
  repeat' first
    | with_reducible assumption
    | with_reducible apply State.onQueue_kept
    | with_reducible apply State.onPstat_kept
    | with_reducible apply bump_kept
    | with_reducible apply noSuch_kept
    | with_reducible apply refused_kept
    | (extract_lets +onlyGivenNames st; have hst : Kept x s0 st := ?_; clear_value st; revert st; intro st2 hst2)
    | (dsimp -zeta only [st]; clear st)
    | with_reducible apply Kept.ite
    | split

theorem pullAll_kept {s : State} (hs : Kept x s0 s) : Kept x s0 (pullAll s) := by
  unfold pullAll
  repeat' first
    | with_reducible assumption
    | with_reducible apply State.each_kept
    | with_reducible apply pullHost_kept
    | (intro)

theorem handOverNext_kept {s : State} (hs : Kept x s0 s) : Kept x s0 (handOverNext s) := by
  unfold handOverNext
  repeat' first
    | with_reducible assumption
    | with_reducible apply pullAll_kept
    | with_reducible apply handOver_kept
    | with_reducible refine drrPick_kept (by assumption) ?_
    | (extract_lets +onlyGivenNames st; have hst : Kept x s0 st := ?_; clear_value st; revert st; intro st2 hst2)
    | with_reducible apply Kept.ite
    | split

/-! ## Machine/DoorOps.lean -/

theorem doorEvent_kept {s : State} {a2} {a3} {a4} (hs : Kept x s0 s) : Kept x s0 (doorEvent s a2 a3 a4) := by
  unfold doorEvent
  repeat' first
    | with_reducible assumption
    | with_reducible apply raise_kept

theorem postMove_kept {s : State} {a2} {a3} (hs : Kept x s0 s) : Kept x s0 (postMove s a2 a3) := by
  unfold postMove
  repeat' first
    | with_reducible assumption
    | with_reducible apply stage_kept

theorem moveDoor_kept {s : State} {a2} {a3} {a4} {a5} {a6} {a7} (hs : Kept x s0 s) : Kept x s0 (moveDoor s a2 a3 a4 a5 a6 a7) := by
  unfold moveDoor
  repeat' first
    | with_reducible assumption
    | with_reducible apply State.each_kept
    | with_reducible apply postMove_kept
    | with_reducible apply State.onDoor_kept
    | with_reducible exact CntKept.same rfl
    | with_reducible exact MemsKept.same rfl rfl
    | with_reducible exact fun w => MemsWf.same w rfl rfl
    | with_reducible exact FuseKept.same rfl rfl rfl
    | with_reducible exact SafetyKept.same rfl rfl rfl rfl
    | with_reducible exact CfgKept.same rfl
    | with_reducible exact TripsKept.same rfl rfl
    | with_reducible exact .inr rfl
    | (intro)
    | (extract_lets +onlyGivenNames st; have hst : Kept x s0 st := ?_; clear_value st; revert st; intro st2 hst2)
    | (extract_lets +onlyGivenNames yy; clear_value yy; revert yy; intro y2)
    | (dsimp -zeta only [st]; clear st)
    | with_reducible apply Kept.ite
    | split

theorem stopAxis_kept {s : State} {a2} {a3} (hs : Kept x s0 s) : Kept x s0 (stopAxis s a2 a3) := by
  unfold stopAxis
  repeat' first
    | with_reducible assumption
    | with_reducible apply postMove_kept
    | with_reducible exact CntKept.same rfl
    | with_reducible exact MemsKept.same rfl rfl
    | with_reducible exact fun w => MemsWf.same w rfl rfl
    | with_reducible exact FuseKept.same rfl rfl rfl
    | with_reducible exact SafetyKept.same rfl rfl rfl rfl
    | with_reducible exact CfgKept.same rfl
    | with_reducible exact TripsKept.same rfl rfl
    | with_reducible exact .inr rfl
    | (intro)
    | (extract_lets +onlyGivenNames st; have hst : Kept x s0 st := ?_; clear_value st; revert st; intro st2 hst2)
    | (extract_lets +onlyGivenNames yy; clear_value yy; revert yy; intro y2)
    | (dsimp -zeta only [st]; clear st)
    | with_reducible apply Kept.ite
    | split

theorem stopDoorAxes_kept {s : State} {a2} {a3} (hs : Kept x s0 s) : Kept x s0 (stopDoorAxes s a2 a3) := by
  unfold stopDoorAxes
  repeat' first
    | with_reducible assumption
    | with_reducible apply State.onDoor_kept
    | with_reducible apply State.each_kept
    | with_reducible apply stopAxis_kept
    | (intro)

theorem doorOutput_kept {s : State} {a2} {a3} (hs : Kept x s0 s) : Kept x s0 (doorOutput s a2 a3) := by
  unfold doorOutput
  repeat' first
    | with_reducible assumption
    | with_reducible apply State.onField_kept
    | (extract_lets +onlyGivenNames yy; clear_value yy; revert yy; intro y2)
    | with_reducible apply Kept.ite

theorem endNudge_kept {s : State} {a2} {a3} (hs : Kept x s0 s) : Kept x s0 (endNudge s a2 a3) := by
  unfold endNudge
  repeat' first
    | with_reducible assumption
    | with_reducible apply State.each_kept
    | with_reducible apply stage_kept
    | with_reducible apply State.onDoor_kept
    | with_reducible exact CntKept.same rfl
    | with_reducible exact MemsKept.same rfl rfl
    | with_reducible exact fun w => MemsWf.same w rfl rfl
    | with_reducible exact FuseKept.same rfl rfl rfl
    | with_reducible exact SafetyKept.same rfl rfl rfl rfl
    | with_reducible exact CfgKept.same rfl
    | with_reducible exact TripsKept.same rfl rfl
    | with_reducible exact .inr rfl
    | (intro)
    | (extract_lets +onlyGivenNames st; have hst : Kept x s0 st := ?_; clear_value st; revert st; intro st2 hst2)
    | (extract_lets +onlyGivenNames yy; clear_value yy; revert yy; intro y2)
    | (dsimp -zeta only [st]; clear st)
    | with_reducible apply Kept.ite
    | split

theorem clearNudgeDo_kept {s : State} {a2} {a3} (hs : Kept x s0 s) : Kept x s0 (clearNudgeDo s a2 a3) := by
  unfold clearNudgeDo
  repeat' first
    | with_reducible assumption
    | with_reducible apply doorOutput_kept
    | with_reducible apply State.onDoor_kept
    | with_reducible exact CntKept.same rfl
    | with_reducible exact MemsKept.same rfl rfl
    | with_reducible exact fun w => MemsWf.same w rfl rfl
    | with_reducible exact FuseKept.same rfl rfl rfl
    | with_reducible exact SafetyKept.same rfl rfl rfl rfl
    | with_reducible exact CfgKept.same rfl
    | with_reducible exact TripsKept.same rfl rfl
    | with_reducible exact .inr rfl
    | (intro)
    | with_reducible apply Kept.ite
    | split

theorem holdDoor_kept {s : State} {a2} {a3} (hs : Kept x s0 s) : Kept x s0 (holdDoor s a2 a3) := by
  unfold holdDoor
  repeat' first
    | with_reducible assumption
    | with_reducible apply stopDoorAxes_kept
    | with_reducible apply endNudge_kept
    | with_reducible apply State.onDoor_kept
    | with_reducible exact CntKept.same rfl
    | with_reducible exact MemsKept.same rfl rfl
    | with_reducible exact fun w => MemsWf.same w rfl rfl
    | with_reducible exact FuseKept.same rfl rfl rfl
    | with_reducible exact SafetyKept.same rfl rfl rfl rfl
    | with_reducible exact CfgKept.same rfl
    | with_reducible exact TripsKept.same rfl rfl
    | with_reducible exact .inr rfl
    | (intro)
    | with_reducible apply Kept.ite
    | split

theorem faultDoor_kept {s : State} {a2} {a3} (hs : Kept x s0 s) : Kept x s0 (faultDoor s a2 a3) := by
  unfold faultDoor
  repeat' first
    | with_reducible assumption
    | with_reducible apply endNudge_kept
    | with_reducible apply stopDoorAxes_kept
    | with_reducible apply State.onDoor_kept
    | with_reducible exact CntKept.same rfl
    | with_reducible exact MemsKept.same rfl rfl
    | with_reducible exact fun w => MemsWf.same w rfl rfl
    | with_reducible exact FuseKept.same rfl rfl rfl
    | with_reducible exact SafetyKept.same rfl rfl rfl rfl
    | with_reducible exact CfgKept.same rfl
    | with_reducible exact TripsKept.same rfl rfl
    | with_reducible exact .inr rfl
    | (intro)
    | (extract_lets +onlyGivenNames st; have hst : Kept x s0 st := ?_; clear_value st; revert st; intro st2 hst2)
    | (extract_lets +onlyGivenNames yy; clear_value yy; revert yy; intro y2)
    | (dsimp -zeta only [st]; clear st)
    | with_reducible apply Kept.ite
    | split

theorem startOpen_kept {s : State} {a2} {a3} {a4} {a5} (hs : Kept x s0 s) : Kept x s0 (startOpen s a2 a3 a4 a5) := by
  unfold startOpen
  repeat' first
    | with_reducible assumption
    | with_reducible apply clearNudgeDo_kept
    | with_reducible apply endNudge_kept
    | with_reducible apply moveDoor_kept
    | with_reducible apply State.onDoor_kept
    | with_reducible exact CntKept.same rfl
    | with_reducible exact MemsKept.same rfl rfl
    | with_reducible exact fun w => MemsWf.same w rfl rfl
    | with_reducible exact FuseKept.same rfl rfl rfl
    | with_reducible exact SafetyKept.same rfl rfl rfl rfl
    | with_reducible exact CfgKept.same rfl
    | with_reducible exact TripsKept.same rfl rfl
    | with_reducible exact .inr rfl
    | (intro)
    | (extract_lets +onlyGivenNames st; have hst : Kept x s0 st := ?_; clear_value st; revert st; intro st2 hst2)
    | (extract_lets +onlyGivenNames yy; clear_value yy; revert yy; intro y2)
    | (dsimp -zeta only [st]; clear st)
    | with_reducible apply Kept.ite
    | split

theorem beginClose_kept {s : State} {a2} {a3} {a4} (hs : Kept x s0 s) : Kept x s0 (beginClose s a2 a3 a4) := by
  unfold beginClose
  repeat' first
    | with_reducible assumption
    | with_reducible apply moveDoor_kept
    | with_reducible apply State.onDoor_kept
    | with_reducible exact CntKept.same rfl
    | with_reducible exact MemsKept.same rfl rfl
    | with_reducible exact fun w => MemsWf.same w rfl rfl
    | with_reducible exact FuseKept.same rfl rfl rfl
    | with_reducible exact SafetyKept.same rfl rfl rfl rfl
    | with_reducible exact CfgKept.same rfl
    | with_reducible exact TripsKept.same rfl rfl
    | with_reducible exact .inr rfl
    | (intro)
    | with_reducible apply Kept.ite
    | split

theorem nudgeDoor_kept {s : State} {a2} {a3} {a4} (hs : Kept x s0 s) : Kept x s0 (nudgeDoor s a2 a3 a4) := by
  unfold nudgeDoor
  repeat' first
    | with_reducible assumption
    | with_reducible apply State.each_kept
    | with_reducible apply stage_kept
    | with_reducible apply moveDoor_kept
    | with_reducible apply State.onDoor_kept
    | with_reducible exact CntKept.same rfl
    | with_reducible exact MemsKept.same rfl rfl
    | with_reducible exact fun w => MemsWf.same w rfl rfl
    | with_reducible exact FuseKept.same rfl rfl rfl
    | with_reducible exact SafetyKept.same rfl rfl rfl rfl
    | with_reducible exact CfgKept.same rfl
    | with_reducible exact TripsKept.same rfl rfl
    | with_reducible exact .inr rfl
    | (intro)
    | (extract_lets +onlyGivenNames st; have hst : Kept x s0 st := ?_; clear_value st; revert st; intro st2 hst2)
    | (extract_lets +onlyGivenNames yy; clear_value yy; revert yy; intro y2)
    | with_reducible apply Kept.ite
    | split

theorem reverseDoor_kept {s : State} {a2} {a3} (hs : Kept x s0 s) : Kept x s0 (reverseDoor s a2 a3) := by
  unfold reverseDoor
  repeat' first
    | with_reducible assumption
    | with_reducible apply startOpen_kept
    | with_reducible apply State.onDoor_kept
    | with_reducible exact CntKept.same rfl
    | with_reducible exact MemsKept.same rfl rfl
    | with_reducible exact fun w => MemsWf.same w rfl rfl
    | with_reducible exact FuseKept.same rfl rfl rfl
    | with_reducible exact SafetyKept.same rfl rfl rfl rfl
    | with_reducible exact CfgKept.same rfl
    | with_reducible exact TripsKept.same rfl rfl
    | with_reducible exact .inr rfl
    | (intro)
    | (extract_lets +onlyGivenNames st; have hst : Kept x s0 st := ?_; clear_value st; revert st; intro st2 hst2)
    | (extract_lets +onlyGivenNames yy; clear_value yy; revert yy; intro y2)
    | (dsimp -zeta only [st]; clear st)
    | with_reducible apply Kept.ite
    | split

theorem takeDoorImages_kept {s : State} (hs : Kept x s0 s) : Kept x s0 (takeDoorImages s) := by
  unfold takeDoorImages
  repeat' first
    | with_reducible assumption
    | with_reducible apply State.each_kept
    | with_reducible apply State.onDoor_kept
    | (intro)
    | with_reducible apply Kept.ite

theorem evalEdges_kept {s : State} {a2} {a3} {a4} (hs : Kept x s0 s) : Kept x s0 (evalEdges s a2 a3 a4) := by
  unfold evalEdges
  repeat' first
    | with_reducible assumption
    | with_reducible apply State.each_kept
    | with_reducible apply State.onDoor_kept
    | with_reducible apply doorEvent_kept
    | with_reducible apply bump_kept
    | (intro)
    | (extract_lets +onlyGivenNames st; have hst : Kept x s0 st := ?_; clear_value st; revert st; intro st2 hst2)
    | (extract_lets +onlyGivenNames yy; clear_value yy; revert yy; intro y2)
    | with_reducible apply Kept.ite

theorem learnDrift_kept {s : State} {a2} {a3} (hs : Kept x s0 s) : Kept x s0 (learnDrift s a2 a3) := by
  unfold learnDrift
  repeat' first
    | with_reducible assumption
    | with_reducible apply State.each_kept
    | with_reducible apply State.onDoor_kept
    | with_reducible apply doorEvent_kept
    | (intro)
    | (extract_lets +onlyGivenNames st; have hst : Kept x s0 st := ?_; clear_value st; revert st; intro st2 hst2)
    | (extract_lets +onlyGivenNames yy; clear_value yy; revert yy; intro y2)
    | with_reducible apply Kept.ite
    | split

/-! ## Machine/DoorEval.lean -/

theorem learnFail_kept {s : State} {a2} {a3} {a4} (hs : Kept x s0 s) : Kept x s0 (learnFail s a2 a3 a4) := by
  unfold learnFail
  repeat' first
    | with_reducible assumption
    | with_reducible apply doorEvent_kept
    | with_reducible apply faultDoor_kept
    | with_reducible exact CntKept.same rfl
    | with_reducible exact MemsKept.same rfl rfl
    | with_reducible exact fun w => MemsWf.same w rfl rfl
    | with_reducible exact FuseKept.same rfl rfl rfl
    | with_reducible exact SafetyKept.same rfl rfl rfl rfl
    | with_reducible exact CfgKept.same rfl
    | with_reducible exact TripsKept.same rfl rfl
    | with_reducible exact .inr rfl
    | (intro)
    | with_reducible apply Kept.ite
    | split

theorem learnEnd_kept {s : State} {a2} {a3} (hs : Kept x s0 s) : Kept x s0 (learnEnd s a2 a3) := by
  unfold learnEnd
  repeat' first
    | with_reducible assumption
    | with_reducible apply learnFail_kept
    | with_reducible apply State.onDoor_kept
    | with_reducible apply store_kept
    | with_reducible apply doorEvent_kept
    | with_reducible apply foldl_kept
    | with_reducible apply foldl_kept_fst
    | with_reducible exact CntKept.same rfl
    | with_reducible exact MemsKept.same rfl rfl
    | with_reducible exact fun w => MemsWf.same w rfl rfl
    | with_reducible exact FuseKept.same rfl rfl rfl
    | with_reducible exact SafetyKept.same rfl rfl rfl rfl
    | with_reducible exact CfgKept.same rfl
    | with_reducible exact TripsKept.same rfl rfl
    | with_reducible exact .inr rfl
    | (intro)
    | (extract_lets +onlyGivenNames st; have hst : Kept x s0 st := ?_; clear_value st; revert st; intro st2 hst2)
    | (extract_lets +onlyGivenNames fn; have hfn : ∀ z, Kept x s0 z → Kept x s0 (fn z) := ?_; clear_value fn; revert fn; intro fn2 hfn)
    | (extract_lets +onlyGivenNames yy; clear_value yy; revert yy; intro y2)
    | (dsimp -zeta only [st]; clear st)
    | (dsimp -zeta only [fn]; clear fn)
    | with_reducible apply Kept.ite
    | split

theorem learnArrive_kept {s : State} {a2} {a3} {a4} (hs : Kept x s0 s) : Kept x s0 (learnArrive s a2 a3 a4) := by
  unfold learnArrive
  repeat' first
    | with_reducible assumption
    | with_reducible apply moveDoor_kept
    | with_reducible apply State.onDoor_kept
    | with_reducible apply learnEnd_kept
    | with_reducible apply foldl_kept
    | with_reducible apply foldl_kept_fst
    | with_reducible exact CntKept.same rfl
    | with_reducible exact MemsKept.same rfl rfl
    | with_reducible exact fun w => MemsWf.same w rfl rfl
    | with_reducible exact FuseKept.same rfl rfl rfl
    | with_reducible exact SafetyKept.same rfl rfl rfl rfl
    | with_reducible exact CfgKept.same rfl
    | with_reducible exact TripsKept.same rfl rfl
    | with_reducible exact .inr rfl
    | (intro)
    | (extract_lets +onlyGivenNames st; have hst : Kept x s0 st := ?_; clear_value st; revert st; intro st2 hst2)
    | (extract_lets +onlyGivenNames yy; clear_value yy; revert yy; intro y2)
    | (dsimp -zeta only [st]; clear st)
    | with_reducible apply Kept.ite
    | split

theorem react_kept {s : State} {a2} {a3} {a4} {a5} (hs : Kept x s0 s) : Kept x s0 (react s a2 a3 a4 a5) := by
  unfold react
  extract_lets t first pair fn n st st1 st2 st3 st4
  have hfn : ∀ z g l, Kept x s0 z → (∀ s d c, Kept x s0 s → Kept x s0 (g s d c)) → Kept x s0 (fn z g l) := fun z g l hz hg => by
    show Kept x s0 (match pair with
      | some (e, b) => if l.contains (z.door e).state && !(z.door e).stopping then g z e b else z
      | none => z)
    generalize pair = p
    split
    · exact Kept.ite (hg _ _ _ hz) hz
    · exact hz
  have h2 : Kept x s0 st2 := hfn _ _ _ (State.onDoor_kept hs) fun _ _ _ h => holdDoor_kept h
  have h3 : Kept x s0 st3 := Kept.ite (faultDoor_kept h2) (State.onDoor_kept (holdDoor_kept h2))
  exact Kept.ite (Kept.ite hs (learnFail_kept hs)) (Kept.ite
    (doorEvent_kept (hfn _ _ _ (faultDoor_kept hs) fun _ _ _ h => holdDoor_kept h)) (Kept.ite (doorEvent_kept h3)
      (doorEvent_kept (bump_kept (hfn _ _ _ (reverseDoor_kept hs) fun _ _ _ h => reverseDoor_kept h)))))

theorem evalTests_kept {s : State} {a2} {a3} {a4} (hs : Kept x s0 s) : Kept x s0 (evalTests s a2 a3 a4) := by
  unfold evalTests
  repeat' first
    | with_reducible assumption
    | with_reducible apply State.onDoor_kept
    | with_reducible apply bump_kept
    | with_reducible apply react_kept
    | with_reducible apply foldl_kept
    | with_reducible apply foldl_kept_fst
    | with_reducible exact CntKept.same rfl
    | with_reducible exact MemsKept.same rfl rfl
    | with_reducible exact fun w => MemsWf.same w rfl rfl
    | with_reducible exact FuseKept.same rfl rfl rfl
    | with_reducible exact SafetyKept.same rfl rfl rfl rfl
    | with_reducible exact CfgKept.same rfl
    | with_reducible exact TripsKept.same rfl rfl
    | with_reducible exact .inr rfl
    | (intro)
    | (extract_lets +onlyGivenNames st; have hst : Kept x s0 st := ?_; clear_value st; revert st; intro st2 hst2)
    | (extract_lets +onlyGivenNames yy; clear_value yy; revert yy; intro y2)
    | (dsimp -zeta only [st]; clear st)
    | with_reducible apply Kept.ite
    | split

theorem evalTrips_kept {s : State} {a2} {a3} (hs : Kept x s0 s) : Kept x s0 (evalTrips s a2 a3) := by
  unfold evalTrips
  repeat' first
    | with_reducible assumption
    | with_reducible apply stopDoorAxes_kept
    | with_reducible apply faultDoor_kept
    | with_reducible apply State.each_kept
    | with_reducible apply stage_kept
    | with_reducible apply State.onDoor_kept
    | with_reducible exact CntKept.same rfl
    | with_reducible exact MemsKept.same rfl rfl
    | with_reducible exact fun w => MemsWf.same w rfl rfl
    | with_reducible exact FuseKept.same rfl rfl rfl
    | with_reducible exact SafetyKept.same rfl rfl rfl rfl
    | with_reducible exact CfgKept.same rfl
    | with_reducible exact TripsKept.same rfl rfl
    | with_reducible exact .inr rfl
    | (intro)
    | (extract_lets +onlyGivenNames st; have hst : Kept x s0 st := ?_; clear_value st; revert st; intro st2 hst2)
    | (extract_lets +onlyGivenNames fn; have hfn : ∀ z, Kept x s0 z → Kept x s0 (fn z) := ?_; clear_value fn; revert fn; intro fn2 hfn)
    | (extract_lets +onlyGivenNames yy; clear_value yy; revert yy; intro y2)
    | (dsimp -zeta only [st]; clear st)
    | (dsimp -zeta only [fn]; clear fn)
    | with_reducible apply Kept.ite
    | split

theorem reachOpen_kept {s : State} {a2} {a3} (hs : Kept x s0 s) : Kept x s0 (reachOpen s a2 a3) := by
  unfold reachOpen
  repeat' first
    | with_reducible assumption
    | with_reducible apply State.onDoor_kept
    | with_reducible apply learnDrift_kept
    | with_reducible apply report_kept
    | (extract_lets +onlyGivenNames st; have hst : Kept x s0 st := ?_; clear_value st; revert st; intro st2 hst2)
    | (extract_lets +onlyGivenNames yy; clear_value yy; revert yy; intro y2)
    | with_reducible apply Kept.ite
    | split

theorem reachClosed_kept {s : State} {a2} {a3} (hs : Kept x s0 s) : Kept x s0 (reachClosed s a2 a3) := by
  unfold reachClosed
  repeat' first
    | with_reducible assumption
    | with_reducible apply clearNudgeDo_kept
    | with_reducible apply endNudge_kept
    | with_reducible apply learnDrift_kept
    | with_reducible apply State.onDoor_kept
    | with_reducible exact CntKept.same rfl
    | with_reducible exact MemsKept.same rfl rfl
    | with_reducible exact fun w => MemsWf.same w rfl rfl
    | with_reducible exact FuseKept.same rfl rfl rfl
    | with_reducible exact SafetyKept.same rfl rfl rfl rfl
    | with_reducible exact CfgKept.same rfl
    | with_reducible exact TripsKept.same rfl rfl
    | with_reducible exact .inr rfl
    | (intro)
    | with_reducible apply Kept.ite
    | split

theorem evalArrival_kept {s : State} {a2} {a3} {a4} (hs : Kept x s0 s) : Kept x s0 (evalArrival s a2 a3 a4) := by
  unfold evalArrival
  repeat' first
    | with_reducible assumption
    | with_reducible apply learnArrive_kept
    | with_reducible apply reachOpen_kept
    | with_reducible apply reachClosed_kept
    | (extract_lets +onlyGivenNames yy; clear_value yy; revert yy; intro y2)
    | with_reducible apply Kept.ite
    | split

theorem evalCoupling_kept {s : State} {a2} {a3} {a4} (hs : Kept x s0 s) : Kept x s0 (evalCoupling s a2 a3 a4) := by
  unfold evalCoupling
  repeat' first
    | with_reducible assumption
    | with_reducible apply State.onDoor_kept
    | with_reducible apply doorEvent_kept
    | with_reducible apply bump_kept
    | with_reducible apply holdDoor_kept
    | (extract_lets +onlyGivenNames st; have hst : Kept x s0 st := ?_; clear_value st; revert st; intro st2 hst2)
    | (extract_lets +onlyGivenNames yy; clear_value yy; revert yy; intro y2)
    | with_reducible apply Kept.ite
    | split

theorem evalLocks_kept {s : State} {a2} {a3} (hs : Kept x s0 s) : Kept x s0 (evalLocks s a2 a3) := by
  unfold evalLocks
  repeat' first
    | with_reducible assumption
    | with_reducible apply State.onShaft_kept
    | with_reducible apply State.each_kept
    | with_reducible apply doorEvent_kept
    | with_reducible apply stopMode_kept
    | with_reducible apply State.onCar_kept
    | with_reducible exact CntKept.same rfl
    | with_reducible exact MemsKept.same rfl rfl
    | with_reducible exact fun w => MemsWf.same w rfl rfl
    | with_reducible exact FuseKept.same rfl rfl rfl
    | with_reducible exact SafetyKept.same rfl rfl rfl rfl
    | with_reducible exact CfgKept.same rfl
    | with_reducible exact TripsKept.same rfl rfl
    | with_reducible exact .inr rfl
    | (intro)
    | (extract_lets +onlyGivenNames st; have hst : Kept x s0 st := ?_; clear_value st; revert st; intro st2 hst2)
    | (extract_lets +onlyGivenNames yy; clear_value yy; revert yy; intro y2)
    | (dsimp -zeta only [st]; clear st)
    | with_reducible apply Kept.ite
    | split

theorem evalLeft_kept {s : State} {a2} {a3} (hs : Kept x s0 s) : Kept x s0 (evalLeft s a2 a3) := by
  unfold evalLeft
  split
  · exact hs
  · split
    · exact hs
    · extract_lets k out near st1 st2
      clear_value k near
      split
      · exact State.onDoor_kept hs
      · have h1 : Kept x s0 st1 := State.onDoor_kept (Kept.ite (holdDoor_kept hs) hs)
        clear_value st1
        have h2 : Kept x s0 st2 := State.each_kept h1 fun _ _ h => holdDoor_kept h
        clear_value st2
        exact doorEvent_kept h2

theorem evalEnable_kept {s : State} {a2} {a3} (hs : Kept x s0 s) : Kept x s0 (evalEnable s a2 a3) := by
  unfold evalEnable
  repeat' first
    | with_reducible assumption
    | with_reducible apply holdDoor_kept
    | with_reducible apply State.onDoor_kept
    | with_reducible exact CntKept.same rfl
    | with_reducible exact MemsKept.same rfl rfl
    | with_reducible exact fun w => MemsWf.same w rfl rfl
    | with_reducible exact FuseKept.same rfl rfl rfl
    | with_reducible exact SafetyKept.same rfl rfl rfl rfl
    | with_reducible exact CfgKept.same rfl
    | with_reducible exact TripsKept.same rfl rfl
    | with_reducible exact .inr rfl
    | (intro)
    | with_reducible apply Kept.ite
    | split

theorem evalGroup_kept {s : State} {a2} (hs : Kept x s0 s) : Kept x s0 (evalGroup s a2) := by
  unfold evalGroup
  repeat' first
    | with_reducible assumption
    | with_reducible apply doorOutput_kept
    | with_reducible exact CntKept.same rfl
    | with_reducible exact MemsKept.same rfl rfl
    | with_reducible exact fun w => MemsWf.same w rfl rfl
    | with_reducible exact FuseKept.same rfl rfl rfl
    | with_reducible exact SafetyKept.same rfl rfl rfl rfl
    | with_reducible exact CfgKept.same rfl
    | with_reducible exact TripsKept.same rfl rfl
    | with_reducible exact .inr rfl
    | (intro)
    | (extract_lets +onlyGivenNames st; have hst : Kept x s0 st := ?_; clear_value st; revert st; intro st2 hst2)
    | (extract_lets +onlyGivenNames yy; clear_value yy; revert yy; intro y2)
    | (dsimp -zeta only [st]; clear st)
    | with_reducible apply Kept.ite
    | split

theorem evalOpen_kept {s : State} {a2} {a3} (hs : Kept x s0 s) : Kept x s0 (evalOpen s a2 a3) := by
  unfold evalOpen
  repeat' first
    | with_reducible assumption
    | with_reducible apply startOpen_kept
    | with_reducible exact CntKept.same rfl
    | with_reducible exact MemsKept.same rfl rfl
    | with_reducible exact fun w => MemsWf.same w rfl rfl
    | with_reducible exact FuseKept.same rfl rfl rfl
    | with_reducible exact SafetyKept.same rfl rfl rfl rfl
    | with_reducible exact CfgKept.same rfl
    | with_reducible exact TripsKept.same rfl rfl
    | with_reducible exact .inr rfl
    | (intro)
    | (extract_lets +onlyGivenNames st; have hst : Kept x s0 st := ?_; clear_value st; revert st; intro st2 hst2)
    | (extract_lets +onlyGivenNames yy; clear_value yy; revert yy; intro y2)
    | (dsimp -zeta only [st]; clear st)
    | with_reducible apply Kept.ite
    | split

theorem evalClose_kept {s : State} {a2} {a3} (hs : Kept x s0 s) : Kept x s0 (evalClose s a2 a3) := by
  unfold evalClose
  repeat' first
    | with_reducible assumption
    | with_reducible apply State.onDoor_kept
    | with_reducible apply State.each_kept
    | with_reducible apply beginClose_kept
    | with_reducible exact CntKept.same rfl
    | with_reducible exact MemsKept.same rfl rfl
    | with_reducible exact fun w => MemsWf.same w rfl rfl
    | with_reducible exact FuseKept.same rfl rfl rfl
    | with_reducible exact SafetyKept.same rfl rfl rfl rfl
    | with_reducible exact CfgKept.same rfl
    | with_reducible exact TripsKept.same rfl rfl
    | with_reducible exact .inr rfl
    | (intro)
    | (extract_lets +onlyGivenNames st; have hst : Kept x s0 st := ?_; clear_value st; revert st; intro st2 hst2)
    | (extract_lets +onlyGivenNames yy; clear_value yy; revert yy; intro y2)
    | (dsimp -zeta only [st]; clear st)
    | with_reducible apply Kept.ite
    | split

theorem evalRescue_kept {s : State} {a2} {a3} (hs : Kept x s0 s) : Kept x s0 (evalRescue s a2 a3) := by
  unfold evalRescue
  repeat' first
    | with_reducible assumption
    | with_reducible apply State.onDoor_kept

theorem evalTimely_kept {s : State} {a2} (hs : Kept x s0 s) : Kept x s0 (evalTimely s a2) := by
  unfold evalTimely
  repeat' first
    | with_reducible assumption
    | with_reducible apply State.onDoor_kept

theorem evalDoor_kept {s : State} {a2} {a3} {a4} (hs : Kept x s0 s) : Kept x s0 (evalDoor s a2 a3 a4) := by
  unfold evalDoor
  repeat' first
    | with_reducible assumption
    | with_reducible apply State.onDoor_kept
    | with_reducible apply evalEdges_kept
    | with_reducible apply evalCoupling_kept
    | with_reducible apply evalTests_kept
    | with_reducible apply evalArrival_kept
    | with_reducible apply evalTrips_kept
    | with_reducible apply evalLocks_kept
    | with_reducible apply evalEnable_kept
    | with_reducible apply evalLeft_kept
    | with_reducible apply evalOpen_kept
    | with_reducible apply evalTimely_kept
    | with_reducible apply evalRescue_kept
    | with_reducible apply evalGroup_kept
    | with_reducible apply evalClose_kept
    | split

/-! ## Machine/Doors.lean -/

theorem execDoorStatus_kept {a1} {s : State} (hs : Kept x s0 s) : Ends (Kept x s0) (execDoorStatus a1 s) := by
  unfold execDoorStatus
  repeat' first
    | with_reducible assumption
    | with_reducible apply serve_kept
    | with_reducible apply ok_kept
    | (intro)
    | (extract_lets +onlyGivenNames yy; clear_value yy; revert yy; intro y2)
    | with_reducible apply Ends.next

theorem execEdgeStatus_kept {a1} {s : State} (hs : Kept x s0 s) : Ends (Kept x s0) (execEdgeStatus a1 s) := by
  unfold execEdgeStatus
  repeat' first
    | with_reducible assumption
    | with_reducible apply serve_kept
    | with_reducible apply ok_kept
    | (intro)
    | (extract_lets +onlyGivenNames yy; clear_value yy; revert yy; intro y2)
    | with_reducible apply Ends.next

theorem openDoor_kept {s : State} {a2} {a3} {a4} {a5} (hs : Kept x s0 s) : Kept x s0 (openDoor s a2 a3 a4 a5) := by
  unfold openDoor
  repeat' first
    | with_reducible assumption
    | with_reducible apply State.onDoor_kept
    | with_reducible apply startOpen_kept
    | with_reducible exact CntKept.same rfl
    | with_reducible exact MemsKept.same rfl rfl
    | with_reducible exact fun w => MemsWf.same w rfl rfl
    | with_reducible exact FuseKept.same rfl rfl rfl
    | with_reducible exact SafetyKept.same rfl rfl rfl rfl
    | with_reducible exact CfgKept.same rfl
    | with_reducible exact TripsKept.same rfl rfl
    | with_reducible exact .inr rfl
    | (intro)
    | with_reducible apply Kept.ite
    | split

theorem execDoorOpen_kept {a1} {s : State} (hs : Kept x s0 s) : Ends (Kept x s0) (execDoorOpen a1 s) := by
  unfold execDoorOpen
  repeat' first
    | with_reducible assumption
    | with_reducible apply serve_kept
    | with_reducible apply State.each_kept
    | with_reducible apply openDoor_kept
    | with_reducible apply ok_kept
    | with_reducible apply refused_kept
    | with_reducible exact CntKept.same rfl
    | with_reducible exact MemsKept.same rfl rfl
    | with_reducible exact fun w => MemsWf.same w rfl rfl
    | with_reducible exact FuseKept.same rfl rfl rfl
    | with_reducible exact SafetyKept.same rfl rfl rfl rfl
    | with_reducible exact CfgKept.same rfl
    | with_reducible exact TripsKept.same rfl rfl
    | with_reducible exact .inr rfl
    | (intro)
    | (extract_lets +onlyGivenNames st; have hst : Kept x s0 st := ?_; clear_value st; revert st; intro st2 hst2)
    | (extract_lets +onlyGivenNames yy; clear_value yy; revert yy; intro y2)
    | with_reducible apply Ends.next
    | (dsimp -zeta only [st]; clear st)
    | with_reducible apply Kept.ite
    | split

theorem closeDoor_kept {s : State} {a2} {a3} (hs : Kept x s0 s) : Kept x s0 (closeDoor s a2 a3) := by
  unfold closeDoor
  repeat' first
    | with_reducible assumption
    | with_reducible apply store_kept
    | with_reducible apply State.onDoor_kept
    | with_reducible exact CntKept.same rfl
    | with_reducible exact MemsKept.same rfl rfl
    | with_reducible exact fun w => MemsWf.same w rfl rfl
    | with_reducible exact FuseKept.same rfl rfl rfl
    | with_reducible exact SafetyKept.same rfl rfl rfl rfl
    | with_reducible exact CfgKept.same rfl
    | with_reducible exact TripsKept.same rfl rfl
    | with_reducible exact .inr rfl
    | (intro)
    | (extract_lets +onlyGivenNames st; have hst : Kept x s0 st := ?_; clear_value st; revert st; intro st2 hst2)
    | (extract_lets +onlyGivenNames yy; clear_value yy; revert yy; intro y2)
    | (dsimp -zeta only [st]; clear st)
    | with_reducible apply Kept.ite
    | split

theorem execDoorClose_kept {a1} {s : State} (hs : Kept x s0 s) : Ends (Kept x s0) (execDoorClose a1 s) := by
  unfold execDoorClose
  repeat' first
    | with_reducible assumption
    | with_reducible apply serve_kept
    | with_reducible apply State.each_kept
    | with_reducible apply closeDoor_kept
    | with_reducible apply ok_kept
    | with_reducible apply refused_kept
    | with_reducible exact CntKept.same rfl
    | with_reducible exact MemsKept.same rfl rfl
    | with_reducible exact fun w => MemsWf.same w rfl rfl
    | with_reducible exact FuseKept.same rfl rfl rfl
    | with_reducible exact SafetyKept.same rfl rfl rfl rfl
    | with_reducible exact CfgKept.same rfl
    | with_reducible exact TripsKept.same rfl rfl
    | with_reducible exact .inr rfl
    | (intro)
    | (extract_lets +onlyGivenNames st; have hst : Kept x s0 st := ?_; clear_value st; revert st; intro st2 hst2)
    | (extract_lets +onlyGivenNames yy; clear_value yy; revert yy; intro y2)
    | with_reducible apply Ends.next
    | (dsimp -zeta only [st]; clear st)
    | with_reducible apply Kept.ite
    | split

theorem execDoorLearn_kept {a1} {s : State} (hs : Kept x s0 s) : Ends (Kept x s0) (execDoorLearn a1 s) := by
  unfold execDoorLearn
  repeat' first
    | with_reducible assumption
    | with_reducible apply serve_kept
    | with_reducible apply moveDoor_kept
    | with_reducible apply clearNudgeDo_kept
    | with_reducible apply endNudge_kept
    | with_reducible apply ok_kept
    | with_reducible apply refused_kept
    | with_reducible apply State.onDoor_kept
    | with_reducible exact CntKept.same rfl
    | with_reducible exact MemsKept.same rfl rfl
    | with_reducible exact fun w => MemsWf.same w rfl rfl
    | with_reducible exact FuseKept.same rfl rfl rfl
    | with_reducible exact SafetyKept.same rfl rfl rfl rfl
    | with_reducible exact CfgKept.same rfl
    | with_reducible exact TripsKept.same rfl rfl
    | with_reducible exact .inr rfl
    | (intro)
    | (extract_lets +onlyGivenNames st; have hst : Kept x s0 st := ?_; clear_value st; revert st; intro st2 hst2)
    | (extract_lets +onlyGivenNames yy; clear_value yy; revert yy; intro y2)
    | with_reducible apply Ends.next
    | (dsimp -zeta only [st]; clear st)
    | with_reducible apply Kept.ite
    | split

theorem execDoorPolicySet_kept {a1} {s : State} (hs : Kept x s0 s) : Ends (Kept x s0) (execDoorPolicySet a1 s) := by
  unfold execDoorPolicySet
  repeat' first
    | with_reducible assumption
    | with_reducible apply serve_kept
    | with_reducible apply refused_kept
    | with_reducible apply State.onDoor_kept
    | with_reducible apply ok_kept
    | with_reducible exact CntKept.same rfl
    | with_reducible exact MemsKept.same rfl rfl
    | with_reducible exact fun w => MemsWf.same w rfl rfl
    | with_reducible exact FuseKept.same rfl rfl rfl
    | with_reducible exact SafetyKept.same rfl rfl rfl rfl
    | with_reducible exact CfgKept.same rfl
    | with_reducible exact TripsKept.same rfl rfl
    | with_reducible exact .inr rfl
    | (intro)
    | (extract_lets +onlyGivenNames st; have hst : Kept x s0 st := ?_; clear_value st; revert st; intro st2 hst2)
    | (extract_lets +onlyGivenNames yy; clear_value yy; revert yy; intro y2)
    | with_reducible apply Ends.next
    | (dsimp -zeta only [st]; clear st)
    | with_reducible apply Kept.ite
    | split

theorem landDoor_kept {s : State} {a2} {a3} {a4} (hs : Kept x s0 s) : Kept x s0 (landDoor s a2 a3 a4) := by
  unfold landDoor
  repeat' first
    | with_reducible assumption
    | with_reducible apply State.onDoor_kept
    | with_reducible apply clearNudgeDo_kept
    | with_reducible apply State.onField_kept
    | with_reducible apply store_kept
    | with_reducible apply ok_kept
    | with_reducible exact CntKept.same rfl
    | with_reducible exact MemsKept.same rfl rfl
    | with_reducible exact fun w => MemsWf.same w rfl rfl
    | with_reducible exact FuseKept.same rfl rfl rfl
    | with_reducible exact SafetyKept.same rfl rfl rfl rfl
    | with_reducible exact CfgKept.same rfl
    | with_reducible exact TripsKept.same rfl rfl
    | with_reducible exact .inr rfl
    | (intro)
    | (extract_lets +onlyGivenNames st; have hst : Kept x s0 st := ?_; clear_value st; revert st; intro st2 hst2)
    | (extract_lets +onlyGivenNames yy; clear_value yy; revert yy; intro y2)
    | (dsimp -zeta only [st]; clear st)
    | with_reducible apply Kept.ite
    | split

theorem landDoors_kept {s : State} (hs : Kept x s0 s) : Kept x s0 (landDoors s) := by
  unfold landDoors
  repeat' first
    | with_reducible assumption
    | with_reducible apply State.each_kept
    | with_reducible apply State.onDoor_kept
    | with_reducible apply landDoor_kept
    | (intro)

theorem onLive_kept {s : State} {a2} {a3 : Sys2Proof.Machine.DoorDef → Sys2Proof.Machine.State} (hs : Kept x s0 s) (ha3 : ∀ b0, Kept x s0 (a3 b0)) : Kept x s0 (onLive s a2 a3) := by
  unfold onLive
  repeat' first
    | with_reducible assumption
    | with_reducible apply ha3
    | split

theorem execDoorEvaluation_kept {a1} {s : State} (hs : Kept x s0 s) : Ends (Kept x s0) (execDoorEvaluation a1 s) := by
  unfold execDoorEvaluation
  repeat' first
    | with_reducible assumption
    | with_reducible apply onLive_kept
    | with_reducible apply evalDoor_kept
    | with_reducible apply State.onDoor_kept
    | (intro)
    | with_reducible apply Ends.next
    | split

theorem execDoorEvalLate_kept {a1} {s : State} (hs : Kept x s0 s) : Ends (Kept x s0) (execDoorEvalLate a1 s) := by
  unfold execDoorEvalLate
  repeat' first
    | with_reducible assumption
    | with_reducible apply onLive_kept
    | with_reducible apply State.onDoor_kept
    | with_reducible apply holdDoor_kept
    | with_reducible apply doorEvent_kept
    | with_reducible exact CntKept.same rfl
    | with_reducible exact MemsKept.same rfl rfl
    | with_reducible exact fun w => MemsWf.same w rfl rfl
    | with_reducible exact FuseKept.same rfl rfl rfl
    | with_reducible exact SafetyKept.same rfl rfl rfl rfl
    | with_reducible exact CfgKept.same rfl
    | with_reducible exact TripsKept.same rfl rfl
    | with_reducible exact .inr rfl
    | (intro)
    | (extract_lets +onlyGivenNames st; have hst : Kept x s0 st := ?_; clear_value st; revert st; intro st2 hst2)
    | (extract_lets +onlyGivenNames yy; clear_value yy; revert yy; intro y2)
    | with_reducible apply Ends.next
    | (dsimp -zeta only [st]; clear st)
    | with_reducible apply Kept.ite
    | split

theorem execDwellExpiry_kept {a1} {s : State} (hs : Kept x s0 s) : Ends (Kept x s0) (execDwellExpiry a1 s) := by
  unfold execDwellExpiry
  repeat' first
    | with_reducible assumption
    | with_reducible apply onLive_kept
    | with_reducible apply State.onDoor_kept
    | (intro)
    | (extract_lets +onlyGivenNames yy; clear_value yy; revert yy; intro y2)
    | with_reducible apply Ends.next
    | with_reducible apply Kept.ite

theorem execBlocked30s_kept {a1} {s : State} (hs : Kept x s0 s) : Ends (Kept x s0) (execBlocked30s a1 s) := by
  unfold execBlocked30s
  repeat' first
    | with_reducible assumption
    | with_reducible apply onLive_kept
    | with_reducible apply doorEvent_kept
    | with_reducible apply State.onDoor_kept
    | with_reducible apply report_kept
    | (intro)
    | (extract_lets +onlyGivenNames st; have hst : Kept x s0 st := ?_; clear_value st; revert st; intro st2 hst2)
    | (extract_lets +onlyGivenNames yy; clear_value yy; revert yy; intro y2)
    | with_reducible apply Ends.next
    | with_reducible apply Kept.ite
    | split

theorem armNudge_kept {s : State} {a2} {a3} (hs : Kept x s0 s) : Kept x s0 (armNudge s a2 a3) := by
  unfold armNudge
  repeat' first
    | with_reducible assumption
    | with_reducible apply doorEvent_kept
    | with_reducible apply bump_kept
    | with_reducible apply doorOutput_kept
    | with_reducible apply State.onDoor_kept
    | with_reducible exact CntKept.same rfl
    | with_reducible exact MemsKept.same rfl rfl
    | with_reducible exact fun w => MemsWf.same w rfl rfl
    | with_reducible exact FuseKept.same rfl rfl rfl
    | with_reducible exact SafetyKept.same rfl rfl rfl rfl
    | with_reducible exact CfgKept.same rfl
    | with_reducible exact TripsKept.same rfl rfl
    | with_reducible exact .inr rfl
    | (intro)
    | with_reducible apply Kept.ite
    | split

theorem execBlocked180s_kept {a1} {s : State} (hs : Kept x s0 s) : Ends (Kept x s0) (execBlocked180s a1 s) := by
  unfold execBlocked180s
  repeat' first
    | with_reducible assumption
    | with_reducible apply onLive_kept
    | with_reducible apply State.each_kept
    | with_reducible apply armNudge_kept
    | with_reducible exact CntKept.same rfl
    | with_reducible exact MemsKept.same rfl rfl
    | with_reducible exact fun w => MemsWf.same w rfl rfl
    | with_reducible exact FuseKept.same rfl rfl rfl
    | with_reducible exact SafetyKept.same rfl rfl rfl rfl
    | with_reducible exact CfgKept.same rfl
    | with_reducible exact TripsKept.same rfl rfl
    | with_reducible exact .inr rfl
    | (intro)
    | (extract_lets +onlyGivenNames st; have hst : Kept x s0 st := ?_; clear_value st; revert st; intro st2 hst2)
    | (extract_lets +onlyGivenNames yy; clear_value yy; revert yy; intro y2)
    | with_reducible apply Ends.next
    | (dsimp -zeta only [st]; clear st)
    | with_reducible apply Kept.ite
    | split

theorem execNudgeStart_kept {a1} {s : State} (hs : Kept x s0 s) : Ends (Kept x s0) (execNudgeStart a1 s) := by
  unfold execNudgeStart
  repeat' first
    | with_reducible assumption
    | with_reducible apply onLive_kept
    | with_reducible apply State.each_kept
    | with_reducible apply beginClose_kept
    | with_reducible apply nudgeDoor_kept
    | with_reducible apply endNudge_kept
    | with_reducible exact CntKept.same rfl
    | with_reducible exact MemsKept.same rfl rfl
    | with_reducible exact fun w => MemsWf.same w rfl rfl
    | with_reducible exact FuseKept.same rfl rfl rfl
    | with_reducible exact SafetyKept.same rfl rfl rfl rfl
    | with_reducible exact CfgKept.same rfl
    | with_reducible exact TripsKept.same rfl rfl
    | with_reducible exact .inr rfl
    | (intro)
    | (extract_lets +onlyGivenNames st; have hst : Kept x s0 st := ?_; clear_value st; revert st; intro st2 hst2)
    | (extract_lets +onlyGivenNames yy; clear_value yy; revert yy; intro y2)
    | with_reducible apply Ends.next
    | (dsimp -zeta only [st]; clear st)
    | with_reducible apply Kept.ite
    | split

theorem execOpenRetry_kept {a1} {s : State} (hs : Kept x s0 s) : Ends (Kept x s0) (execOpenRetry a1 s) := by
  unfold execOpenRetry
  repeat' first
    | with_reducible assumption
    | with_reducible apply onLive_kept
    | with_reducible apply startOpen_kept
    | with_reducible exact CntKept.same rfl
    | with_reducible exact MemsKept.same rfl rfl
    | with_reducible exact fun w => MemsWf.same w rfl rfl
    | with_reducible exact FuseKept.same rfl rfl rfl
    | with_reducible exact SafetyKept.same rfl rfl rfl rfl
    | with_reducible exact CfgKept.same rfl
    | with_reducible exact TripsKept.same rfl rfl
    | with_reducible exact .inr rfl
    | (intro)
    | (extract_lets +onlyGivenNames st; have hst : Kept x s0 st := ?_; clear_value st; revert st; intro st2 hst2)
    | (extract_lets +onlyGivenNames yy; clear_value yy; revert yy; intro y2)
    | with_reducible apply Ends.next
    | (dsimp -zeta only [st]; clear st)
    | with_reducible apply Kept.ite
    | split

theorem execEdgeRefStore_kept {a1} {s : State} (hs : Kept x s0 s) : Ends (Kept x s0) (execEdgeRefStore a1 s) := by
  unfold execEdgeRefStore
  repeat' first
    | with_reducible assumption
    | with_reducible apply onLive_kept
    | with_reducible apply State.onDoor_kept
    | with_reducible apply store_kept
    | (intro)
    | (extract_lets +onlyGivenNames st; have hst : Kept x s0 st := ?_; clear_value st; revert st; intro st2 hst2)
    | (extract_lets +onlyGivenNames yy; clear_value yy; revert yy; intro y2)
    | with_reducible apply Ends.next
    | with_reducible apply Kept.ite

/-! ## Machine/Plan.lean -/

theorem State.onCall_kept {s : State} {a2} {a3} (hs : Kept x s0 s) : Kept x s0 (State.onCall s a2 a3) := by
  unfold State.onCall
  repeat' first
    | with_reducible assumption
    | with_reducible apply State.onDisp_kept

theorem setList_kept {s : State} {a2} {a3} (hs : Kept x s0 s) : Kept x s0 (setList s a2 a3) := by
  unfold setList
  repeat' first
    | with_reducible assumption
    | with_reducible apply State.onDisp_kept

end Sys2Proof.Machine
end

