-- ==== Sys2Proof/Laws/KeptRing.lean ====
section
/-! SUPPORT. What these operations keep: the counters, the host ports, the field inputs and outputs, the rings, the safety commands and Traverse.
Each lemma says that its operation stays within the parts that `x` allows, for states that have stayed within them since
`s0`. -/

namespace Sys2Proof.Machine

open Sys2Proof

variable {x : Part → Bool} {s0 : State}

/-! ## Machine/Counters.lean -/

theorem execCtrRead_kept {a1} {s : State} (hs : Kept x s0 s) : Ends (Kept x s0) (execCtrRead a1 s) := by
  unfold execCtrRead
  repeat' first
    | with_reducible assumption
    | with_reducible apply serve_kept
    | with_reducible apply denied_kept
    | with_reducible apply noteClamps_kept
    | with_reducible apply ok_kept
    | (intro)
    | (extract_lets +onlyGivenNames st; have hst : Kept x s0 st := ?_; clear_value st; revert st; intro st2 hst2)
    | (extract_lets +onlyGivenNames yy; clear_value yy; revert yy; intro y2)
    | with_reducible apply Ends.next
    | with_reducible apply Kept.ite

theorem execCtrThresholdSet_kept {a1} {s : State} (hs : Kept x s0 s) : Ends (Kept x s0) (execCtrThresholdSet a1 s) := by
  unfold execCtrThresholdSet
  repeat' first
    | with_reducible assumption
    | with_reducible apply serve_kept
    | with_reducible apply denied_kept
    | with_reducible apply noteClamps_kept
    | with_reducible apply State.onCtr_kept
    | with_reducible exact CntKept.same rfl
    | with_reducible exact fun w => MemsWf.same w rfl rfl
    | (intro)
    | (extract_lets +onlyGivenNames st; have hst : Kept x s0 st := ?_; clear_value st; revert st; intro st2 hst2)
    | (extract_lets +onlyGivenNames yy; clear_value yy; revert yy; intro y2)
    | with_reducible apply Ends.next
    | with_reducible apply Kept.ite

theorem execCtrWindowSet_kept {a1} {s : State} (hs : Kept x s0 s) : Ends (Kept x s0) (execCtrWindowSet a1 s) := by
  unfold execCtrWindowSet
  repeat' first
    | with_reducible assumption
    | with_reducible apply serve_kept
    | with_reducible apply denied_kept
    | with_reducible apply noteClamps_kept
    | with_reducible apply State.onCtr_kept
    | with_reducible exact CntKept.same rfl
    | with_reducible exact fun w => MemsWf.same w rfl rfl
    | (intro)
    | (extract_lets +onlyGivenNames st; have hst : Kept x s0 st := ?_; clear_value st; revert st; intro st2 hst2)
    | (extract_lets +onlyGivenNames yy; clear_value yy; revert yy; intro y2)
    | with_reducible apply Ends.next
    | with_reducible apply Kept.ite

theorem execBandwidthWindowEnd_kept {a1} {a2} {a3} {s : State} (hs : Kept x s0 s) : Ends (Kept x s0) (execBandwidthWindowEnd a1 a2 a3 s) := by
  unfold execBandwidthWindowEnd
  repeat' first
    | with_reducible assumption
    | with_reducible apply bump_kept
    | with_reducible apply State.onCtr_kept
    | with_reducible exact CntKept.same rfl
    | with_reducible exact fun w => MemsWf.same w rfl rfl
    | (intro)
    | (extract_lets +onlyGivenNames st; have hst : Kept x s0 st := ?_; clear_value st; revert st; intro st2 hst2)
    | (extract_lets +onlyGivenNames yy; clear_value yy; revert yy; intro y2)
    | with_reducible apply Ends.next
    | with_reducible apply Kept.ite

theorem sampleThresholds_kept {s : State} (hs : Kept x s0 s) : Kept x s0 (sampleThresholds s) := by
  unfold sampleThresholds
  repeat' first
    | with_reducible assumption
    | with_reducible apply State.onCtr_kept
    | with_reducible apply State.each_kept
    | with_reducible apply bump_kept
    | with_reducible exact CntKept.same rfl
    | with_reducible exact fun w => MemsWf.same w rfl rfl
    | (intro)

theorem landThreshold_kept {s : State} {a2} (hs : Kept x s0 s) : Kept x s0 (landThreshold s a2) := by
  unfold landThreshold
  dsimp only
  refine ok_kept (State.onCtr_kept hs fun y => ?_)
  split <;> exact CntKept.same rfl

theorem landWindow_kept {s : State} {a2} (hs : Kept x s0 s) : Kept x s0 (landWindow s a2) := by
  unfold landWindow
  repeat' first
    | with_reducible assumption
    | with_reducible apply State.onCtr_kept
    | with_reducible apply ok_kept
    | with_reducible exact CntKept.same rfl
    | with_reducible exact fun w => MemsWf.same w rfl rfl
    | (intro)

theorem landCounters_kept {s : State} (hs : Kept x s0 s) : Kept x s0 (landCounters s) := by
  unfold landCounters
  repeat' first
    | with_reducible assumption
    | with_reducible apply State.onCtr_kept
    | with_reducible apply sampleThresholds_kept
    | with_reducible apply State.each_kept
    | with_reducible apply landThreshold_kept
    | with_reducible apply landWindow_kept
    | with_reducible exact CntKept.same rfl
    | with_reducible exact fun w => MemsWf.same w rfl rfl
    | (intro)

/-! ## Machine/Creel.lean -/

theorem execCreelDatagram_kept {a1} {a2} {s : State} (hs : Kept x s0 s) (x_mem : x .mem = true) (x_cycle : x .cycle = true) : Ends (Kept x s0) (execCreelDatagram a1 a2 s) := by
  unfold execCreelDatagram
  repeat' first
    | with_reducible assumption
    | with_reducible apply datagramIn_kept
    | with_reducible apply Ends.next

theorem execManagementRead_kept {a1} {a2} {s : State} (hs : Kept x s0 s) (x_mem : x .mem = true) (x_cycle : x .cycle = true) : Ends (Kept x s0) (execManagementRead a1 a2 s) := by
  unfold execManagementRead
  repeat' first
    | with_reducible assumption
    | with_reducible apply datagramIn_kept
    | with_reducible apply Ends.next

theorem execManagementWrite_kept {a1} {a2} {s : State} (hs : Kept x s0 s) (x_mem : x .mem = true) (x_cycle : x .cycle = true) : Ends (Kept x s0) (execManagementWrite a1 a2 s) := by
  unfold execManagementWrite
  repeat' first
    | with_reducible assumption
    | with_reducible apply datagramIn_kept
    | with_reducible apply Ends.next

theorem execEthernetAuxFrame_kept {a1} {a2} {s : State} (hs : Kept x s0 s) : Ends (Kept x s0) (execEthernetAuxFrame a1 a2 s) := by
  unfold execEthernetAuxFrame
  repeat' first
    | with_reducible assumption
    | with_reducible apply State.onSys_kept
    | with_reducible exact FuseKept.same rfl rfl rfl
    | with_reducible exact fun w => MemsWf.same w rfl rfl
    | (extract_lets +onlyGivenNames yy; dsimp -zeta only [yy]; clear yy)
    | with_reducible apply Ends.next

theorem execDbSubmit_kept {a1} {a2} {a3} {s : State} (hs : Kept x s0 s) : Ends (Kept x s0) (execDbSubmit a1 a2 a3 s) := by
  unfold execDbSubmit
  repeat' first
    | with_reducible assumption
    | with_reducible apply doSubmit_kept
    | with_reducible apply Ends.next

theorem execDbComphead_kept {a1} {a2} {s : State} (hs : Kept x s0 s) : Ends (Kept x s0) (execDbComphead a1 a2 s) := by
  unfold execDbComphead
  repeat' first
    | with_reducible assumption
    | with_reducible apply doCompHead_kept
    | with_reducible apply Ends.next

theorem keepRead_kept {p : Nat × State} (h : Kept x s0 p.2) : Kept x s0 (keepRead p) := State.onHost_kept h

theorem execDbFaultCountRead_kept {a1} {s : State} (hs : Kept x s0 s) : Ends (Kept x s0) (execDbFaultCountRead a1 s) := by
  unfold execDbFaultCountRead
  repeat' first
    | with_reducible assumption
    | with_reducible apply keepRead_kept
    | with_reducible apply readReg_kept_proj
    | with_reducible apply Ends.next

theorem execRegisterWrite_kept {a1} {a2} {a3} {a4} {s : State} (hs : Kept x s0 s) (x_mem : x .mem = true) (x_cycle : x .cycle = true) : Ends (Kept x s0) (execRegisterWrite a1 a2 a3 a4 s) := by
  unfold execRegisterWrite
  repeat' first
    | with_reducible assumption
    | with_reducible apply writeReg_kept
    | with_reducible apply Ends.next

theorem execRegisterRead_kept {a1} {a2} {a3} {s : State} (hs : Kept x s0 s) : Ends (Kept x s0) (execRegisterRead a1 a2 a3 s) := by
  unfold execRegisterRead
  repeat' first
    | with_reducible assumption
    | with_reducible apply keepRead_kept
    | with_reducible apply readReg_kept_proj
    | with_reducible apply Ends.next

theorem execSysSupplyW1cWrite_kept {a1} {a2} {s : State} (hs : Kept x s0 s) (x_mem : x .mem = true) (x_cycle : x .cycle = true) : Ends (Kept x s0) (execSysSupplyW1cWrite a1 a2 s) := by
  unfold execSysSupplyW1cWrite
  repeat' first
    | with_reducible assumption
    | with_reducible apply writeReg_kept
    | with_reducible apply Ends.next

theorem execRecCursorSeqWrite_kept {a1} {a2} {s : State} (hs : Kept x s0 s) (x_mem : x .mem = true) (x_cycle : x .cycle = true) : Ends (Kept x s0) (execRecCursorSeqWrite a1 a2 s) := by
  unfold execRecCursorSeqWrite
  repeat' first
    | with_reducible assumption
    | with_reducible apply writeReg_kept
    | with_reducible apply Ends.next

theorem execCtrValLowRead_kept {a1} {a2} {s : State} (hs : Kept x s0 s) : Ends (Kept x s0) (execCtrValLowRead a1 a2 s) := by
  unfold execCtrValLowRead
  repeat' first
    | with_reducible assumption
    | with_reducible apply keepRead_kept
    | with_reducible apply readReg_kept_proj
    | with_reducible apply Ends.next

theorem execCtrValHighRead_kept {a1} {a2} {s : State} (hs : Kept x s0 s) : Ends (Kept x s0) (execCtrValHighRead a1 a2 s) := by
  unfold execCtrValHighRead
  repeat' first
    | with_reducible assumption
    | with_reducible apply keepRead_kept
    | with_reducible apply readReg_kept_proj
    | with_reducible apply Ends.next

theorem execCtrBwPeakRead_kept {a1} {a2} {a3} {s : State} (hs : Kept x s0 s) : Ends (Kept x s0) (execCtrBwPeakRead a1 a2 a3 s) := by
  unfold execCtrBwPeakRead
  repeat' first
    | with_reducible assumption
    | with_reducible apply keepRead_kept
    | with_reducible apply readReg_kept_proj
    | with_reducible apply Ends.next

theorem execDbgWhaltWrite_kept {a1} {a2} {a3} {s : State} (hs : Kept x s0 s) (x_mem : x .mem = true) (x_cycle : x .cycle = true) : Ends (Kept x s0) (execDbgWhaltWrite a1 a2 a3 s) := by
  unfold execDbgWhaltWrite
  repeat' first
    | with_reducible assumption
    | with_reducible apply writeReg_kept
    | with_reducible apply Ends.next

theorem execDbgChaltWrite_kept {a1} {a2} {s : State} (hs : Kept x s0 s) (x_mem : x .mem = true) (x_cycle : x .cycle = true) : Ends (Kept x s0) (execDbgChaltWrite a1 a2 s) := by
  unfold execDbgChaltWrite
  repeat' first
    | with_reducible assumption
    | with_reducible apply writeReg_kept
    | with_reducible apply Ends.next

theorem execDbgCtrlReset_kept {a1} {a2} {s : State} (hs : Kept x s0 s) (x_mem : x .mem = true) (x_cycle : x .cycle = true) : Ends (Kept x s0) (execDbgCtrlReset a1 a2 s) := by
  unfold execDbgCtrlReset
  repeat' first
    | with_reducible assumption
    | with_reducible apply writeReg_kept
    | with_reducible apply Ends.next

theorem execDbgMemDataRead_kept {a1} {s : State} (hs : Kept x s0 s) : Ends (Kept x s0) (execDbgMemDataRead a1 s) := by
  unfold execDbgMemDataRead
  repeat' first
    | with_reducible assumption
    | with_reducible apply keepRead_kept
    | with_reducible apply readReg_kept_proj
    | with_reducible apply Ends.next

theorem execDbgMemDataWrite_kept {a1} {a2} {s : State} (hs : Kept x s0 s) (x_mem : x .mem = true) (x_cycle : x .cycle = true) : Ends (Kept x s0) (execDbgMemDataWrite a1 a2 s) := by
  unfold execDbgMemDataWrite
  repeat' first
    | with_reducible assumption
    | with_reducible apply writeReg_kept
    | with_reducible apply Ends.next

theorem execDbgImgStart_kept {a1} {a2} {s : State} (hs : Kept x s0 s) (x_mem : x .mem = true) (x_cycle : x .cycle = true) : Ends (Kept x s0) (execDbgImgStart a1 a2 s) := by
  unfold execDbgImgStart
  repeat' first
    | with_reducible assumption
    | with_reducible apply writeReg_kept
    | with_reducible apply Ends.next

theorem execDbgImgDataWrite_kept {a1} {a2} {s : State} (hs : Kept x s0 s) (x_mem : x .mem = true) (x_cycle : x .cycle = true) : Ends (Kept x s0) (execDbgImgDataWrite a1 a2 s) := by
  unfold execDbgImgDataWrite
  repeat' first
    | with_reducible assumption
    | with_reducible apply writeReg_kept
    | with_reducible apply Ends.next

theorem execDbgImgCommit_kept {a1} {a2} {s : State} (hs : Kept x s0 s) (x_mem : x .mem = true) (x_cycle : x .cycle = true) : Ends (Kept x s0) (execDbgImgCommit a1 a2 s) := by
  unfold execDbgImgCommit
  repeat' first
    | with_reducible assumption
    | with_reducible apply writeReg_kept
    | with_reducible apply Ends.next

theorem execTokenRefill_kept {s : State} (hs : Kept x s0 s) : Ends (Kept x s0) (execTokenRefill s) := by
  unfold execTokenRefill
  repeat' first
    | with_reducible assumption
    | with_reducible apply State.onHost_kept
    | with_reducible apply Ends.next

theorem execCreelHandover_kept {s : State} (hs : Kept x s0 s) : Ends (Kept x s0) (execCreelHandover s) := by
  unfold execCreelHandover
  repeat' first
    | with_reducible assumption
    | with_reducible apply handOverNext_kept
    | with_reducible apply Ends.next

/-! ## Machine/Field.lean -/

theorem refFound_kept {s : State} {a2} {a3} {a4} (hs : Kept x s0 s) : Kept x s0 (refFound s a2 a3 a4) := by
  unfold refFound
  repeat' first
    | with_reducible assumption
    | with_reducible apply fieldEvent_kept
    | with_reducible apply State.onStp_kept
    | (extract_lets +onlyGivenNames yy; clear_value yy; revert yy; intro y2)
    | with_reducible apply Kept.ite

theorem execDiSample_kept {a1} {s : State} (hs : Kept x s0 s) : Ends (Kept x s0) (execDiSample a1 s) := by
  unfold execDiSample
  repeat' first
    | with_reducible assumption
    | with_reducible apply State.onDi_kept
    | with_reducible apply State.each_kept
    | with_reducible apply refFound_kept
    | (intro)
    | with_reducible apply foldl_kept
    | (extract_lets +onlyGivenNames st; have hst : Kept x s0 st := ?_; clear_value st; revert st; intro st2 hst2)
    | (extract_lets +onlyGivenNames yy; clear_value yy; revert yy; intro y2)
    | with_reducible apply Ends.next
    | with_reducible apply Kept.ite

theorem execDoOverload_kept {a1} {s : State} (hs : Kept x s0 s) : Ends (Kept x s0) (execDoOverload a1 s) := by
  unfold execDoOverload
  repeat' first
    | with_reducible assumption
    | with_reducible apply fieldEvent_kept
    | with_reducible apply bump_kept
    | with_reducible apply State.onField_kept
    | (extract_lets +onlyGivenNames yy; clear_value yy; revert yy; intro y2)
    | with_reducible apply Ends.next
    | with_reducible apply Kept.ite

theorem execDoSilence_kept {s : State} (hs : Kept x s0 s) : Ends (Kept x s0) (execDoSilence s) := by
  unfold execDoSilence
  repeat' first
    | with_reducible assumption
    | with_reducible apply bump_kept
    | with_reducible apply State.onField_kept
    | with_reducible apply Ends.next
    | with_reducible apply Kept.ite

theorem execDioRead_kept {a1} {s : State} (hs : Kept x s0 s) : Ends (Kept x s0) (execDioRead a1 s) := by
  unfold execDioRead
  repeat' first
    | with_reducible assumption
    | with_reducible apply serve_kept
    | with_reducible apply ok_kept
    | with_reducible apply State.onField_kept
    | with_reducible exact CntKept.same rfl
    | with_reducible exact MemsKept.same rfl rfl
    | with_reducible exact fun w => MemsWf.same w rfl rfl
    | with_reducible exact FuseKept.same rfl rfl rfl
    | with_reducible exact SafetyKept.same rfl rfl rfl rfl
    | with_reducible exact CfgKept.same rfl
    | with_reducible exact TripsKept.same rfl rfl
    | with_reducible exact .inr rfl
    | (intro)
    | (extract_lets +onlyGivenNames st; have hst : Kept x s0 st := ?_; clear_value st; revert st; intro st2 hst2)
    | (extract_lets +onlyGivenNames yy; clear_value yy; revert yy; intro y2)
    | with_reducible apply Ends.next
    | (dsimp -zeta only [st]; clear st)
    | with_reducible apply Kept.ite
    | split

theorem execDioWrite_kept {a1} {s : State} (hs : Kept x s0 s) : Ends (Kept x s0) (execDioWrite a1 s) := by
  unfold execDioWrite
  repeat' first
    | with_reducible assumption
    | with_reducible apply serve_kept
    | with_reducible apply refused_kept
    | with_reducible apply State.onField_kept
    | (intro)
    | (extract_lets +onlyGivenNames yy; clear_value yy; revert yy; intro y2)
    | with_reducible apply Ends.next
    | with_reducible apply Kept.ite

theorem execDioSafeSet_kept {a1} {s : State} (hs : Kept x s0 s) : Ends (Kept x s0) (execDioSafeSet a1 s) := by
  unfold execDioSafeSet
  repeat' first
    | with_reducible assumption
    | with_reducible apply serve_kept
    | with_reducible apply State.onField_kept
    | (intro)
    | with_reducible apply Ends.next

theorem execAiConversion_kept {a1} {a2} {a3} {s : State} (hs : Kept x s0 s) : Ends (Kept x s0) (execAiConversion a1 a2 a3 s) := by
  unfold execAiConversion
  repeat' first
    | with_reducible assumption
    | with_reducible apply fieldEvent_kept
    | with_reducible apply bump_kept
    | with_reducible apply State.onAi_kept
    | (extract_lets +onlyGivenNames yy; clear_value yy; revert yy; intro y2)
    | with_reducible apply Ends.next
    | with_reducible apply Kept.ite

theorem execAiOvercurrent_kept {a1} {s : State} (hs : Kept x s0 s) : Ends (Kept x s0) (execAiOvercurrent a1 s) := by
  unfold execAiOvercurrent
  repeat' first
    | with_reducible assumption
    | with_reducible apply State.onAi_kept
    | with_reducible apply fieldEvent_kept
    | with_reducible apply bump_kept
    | (extract_lets +onlyGivenNames st; have hst : Kept x s0 st := ?_; clear_value st; revert st; intro st2 hst2)
    | (extract_lets +onlyGivenNames yy; clear_value yy; revert yy; intro y2)
    | with_reducible apply Ends.next
    | with_reducible apply Kept.ite

theorem execAiReconnect_kept {a1} {s : State} (hs : Kept x s0 s) : Ends (Kept x s0) (execAiReconnect a1 s) := by
  unfold execAiReconnect
  repeat' first
    | with_reducible assumption
    | with_reducible apply State.onAi_kept
    | with_reducible apply Ends.next
    | with_reducible apply Kept.ite

theorem execAiRead_kept {a1} {s : State} (hs : Kept x s0 s) : Ends (Kept x s0) (execAiRead a1 s) := by
  unfold execAiRead
  repeat' first
    | with_reducible assumption
    | with_reducible apply serve_kept
    | with_reducible apply ok_kept
    | (intro)
    | (extract_lets +onlyGivenNames yy; clear_value yy; revert yy; intro y2)
    | with_reducible apply Ends.next

theorem execSdFilterOutput_kept {a1} {a2} {a3} {s : State} (hs : Kept x s0 s) : Ends (Kept x s0) (execSdFilterOutput a1 a2 a3 s) := by
  unfold execSdFilterOutput
  repeat' first
    | with_reducible assumption
    | with_reducible apply State.onSd_kept
    | (extract_lets +onlyGivenNames yy; clear_value yy; revert yy; intro y2)
    | with_reducible apply Ends.next
    | with_reducible apply Kept.ite

theorem execSdOcOutput_kept {a1} {a2} {s : State} (hs : Kept x s0 s) : Ends (Kept x s0) (execSdOcOutput a1 a2 s) := by
  unfold execSdOcOutput
  repeat' first
    | with_reducible assumption
    | with_reducible apply State.onSd_kept
    | with_reducible apply fieldEvent_kept
    | with_reducible apply bump_kept
    | with_reducible apply State.onPwm_kept
    | (extract_lets +onlyGivenNames st; have hst : Kept x s0 st := ?_; clear_value st; revert st; intro st2 hst2)
    | (extract_lets +onlyGivenNames yy; clear_value yy; revert yy; intro y2)
    | with_reducible apply Ends.next
    | with_reducible apply Kept.ite

theorem execSdStuckLine_kept {a1} {s : State} (hs : Kept x s0 s) : Ends (Kept x s0) (execSdStuckLine a1 s) := by
  unfold execSdStuckLine
  repeat' first
    | with_reducible assumption
    | with_reducible apply sdFaulty_kept
    | with_reducible apply State.onSd_kept
    | with_reducible apply fieldEvent_kept
    | with_reducible apply bump_kept
    | (extract_lets +onlyGivenNames st; have hst : Kept x s0 st := ?_; clear_value st; revert st; intro st2 hst2)
    | (extract_lets +onlyGivenNames yy; clear_value yy; revert yy; intro y2)
    | with_reducible apply Ends.next
    | with_reducible apply Kept.ite

theorem execQuadSample_kept {a1} {a2} {a3} {a4} {s : State} (hs : Kept x s0 s) : Ends (Kept x s0) (execQuadSample a1 a2 a3 a4 s) := by
  unfold execQuadSample
  repeat' first
    | with_reducible assumption
    | with_reducible apply State.onQa_kept
    | with_reducible apply bump_kept
    | with_reducible apply encoderFault_kept
    | with_reducible apply fieldEvent_kept
    | (extract_lets +onlyGivenNames st; have hst : Kept x s0 st := ?_; clear_value st; revert st; intro st2 hst2)
    | (extract_lets +onlyGivenNames yy; clear_value yy; revert yy; intro y2)
    | with_reducible apply Ends.next
    | (dsimp -zeta only [st]; clear st)
    | with_reducible apply Kept.ite

theorem execQuadLineLow_kept {a1} {s : State} (hs : Kept x s0 s) : Ends (Kept x s0) (execQuadLineLow a1 s) := by
  unfold execQuadLineLow
  repeat' first
    | with_reducible assumption
    | with_reducible apply encoderFault_kept
    | with_reducible apply State.onQa_kept
    | with_reducible apply Ends.next
    | with_reducible apply Kept.ite

theorem execQencRead_kept {a1} {s : State} (hs : Kept x s0 s) : Ends (Kept x s0) (execQencRead a1 s) := by
  unfold execQencRead
  repeat' first
    | with_reducible assumption
    | with_reducible apply serve_kept
    | with_reducible apply ok_kept
    | (intro)
    | (extract_lets +onlyGivenNames yy; clear_value yy; revert yy; intro y2)
    | with_reducible apply Ends.next
    | with_reducible apply Kept.ite

theorem execPwmPeriod_kept {a1} {a2} {s : State} (hs : Kept x s0 s) : Ends (Kept x s0) (execPwmPeriod a1 a2 s) := by
  unfold execPwmPeriod
  repeat' first
    | with_reducible assumption
    | with_reducible apply pwmPeriod_kept
    | with_reducible apply Ends.next
    | with_reducible apply Kept.ite

theorem execPwmConfig_kept {a1} {s : State} (hs : Kept x s0 s) : Ends (Kept x s0) (execPwmConfig a1 s) := by
  unfold execPwmConfig
  repeat' first
    | with_reducible assumption
    | with_reducible apply serve_kept
    | with_reducible apply refused_kept
    | with_reducible apply State.onField_kept
    | (intro)
    | with_reducible apply Ends.next
    | with_reducible apply Kept.ite

theorem execStepMove_kept {a1} {s : State} (hs : Kept x s0 s) : Ends (Kept x s0) (execStepMove a1 s) := by
  unfold execStepMove
  repeat' first
    | with_reducible assumption
    | with_reducible apply serve_kept
    | with_reducible apply refused_kept
    | with_reducible apply ok_kept
    | with_reducible apply State.onField_kept
    | (intro)
    | (extract_lets +onlyGivenNames yy; clear_value yy; revert yy; intro y2)
    | with_reducible apply Ends.next
    | with_reducible apply Kept.ite

theorem execStepStop_kept {a1} {s : State} (hs : Kept x s0 s) : Ends (Kept x s0) (execStepStop a1 s) := by
  unfold execStepStop
  repeat' first
    | with_reducible assumption
    | with_reducible apply serve_kept
    | with_reducible apply refused_kept
    | with_reducible apply State.onField_kept
    | with_reducible apply ok_kept
    | with_reducible apply State.onStp_kept
    | with_reducible apply stopAtOnce_kept
    | (intro)
    | (extract_lets +onlyGivenNames st; have hst : Kept x s0 st := ?_; clear_value st; revert st; intro st2 hst2)
    | (extract_lets +onlyGivenNames yy; clear_value yy; revert yy; intro y2)
    | with_reducible apply Ends.next
    | with_reducible apply Kept.ite

theorem execStepPulse_kept {a1} {s : State} (hs : Kept x s0 s) : Ends (Kept x s0) (execStepPulse a1 s) := by
  unfold execStepPulse
  repeat' first
    | with_reducible assumption
    | with_reducible apply State.onStp_kept
    | (extract_lets +onlyGivenNames yy; clear_value yy; revert yy; intro y2)
    | with_reducible apply Ends.next
    | with_reducible apply Kept.ite
    | split

theorem moveEnded_kept {s : State} {a2} (hs : Kept x s0 s) : Kept x s0 (moveEnded s a2) := by
  unfold moveEnded
  repeat' first
    | with_reducible assumption
    | with_reducible apply fieldEvent_kept
    | with_reducible apply State.onStp_kept

theorem execStepRateUpdate_kept {a1} {s : State} (hs : Kept x s0 s) : Ends (Kept x s0) (execStepRateUpdate a1 s) := by
  unfold execStepRateUpdate
  repeat' first
    | with_reducible assumption
    | with_reducible apply moveEnded_kept
    | with_reducible apply State.onStp_kept
    | (extract_lets +onlyGivenNames yy; clear_value yy; revert yy; intro y2)
    | with_reducible apply Ends.next
    | with_reducible apply Kept.ite
    | split

theorem execStepSearchExhausted_kept {a1} {s : State} (hs : Kept x s0 s) : Ends (Kept x s0) (execStepSearchExhausted a1 s) := by
  unfold execStepSearchExhausted
  repeat' first
    | with_reducible assumption
    | with_reducible apply fieldEvent_kept
    | with_reducible apply State.onStp_kept
    | (extract_lets +onlyGivenNames yy; clear_value yy; revert yy; intro y2)
    | with_reducible apply Ends.next
    | with_reducible apply Kept.ite

/-! ## Machine/Tuning.lean -/

theorem sampleChannel_kept {s : State} {a2} (hs : Kept x s0 s) : Kept x s0 (sampleChannel s a2) := by
  unfold sampleChannel
  repeat' first
    | with_reducible assumption
    | with_reducible apply State.onLoop_kept
    | with_reducible exact CntKept.same rfl
    | with_reducible exact MemsKept.same rfl rfl
    | with_reducible exact fun w => MemsWf.same w rfl rfl
    | with_reducible exact FuseKept.same rfl rfl rfl
    | with_reducible exact SafetyKept.same rfl rfl rfl rfl
    | with_reducible exact CfgKept.same rfl
    | with_reducible exact TripsKept.same rfl rfl
    | with_reducible exact .inr rfl
    | (intro)
    | (extract_lets +onlyGivenNames st; have hst : Kept x s0 st := ?_; clear_value st; revert st; intro st2 hst2)
    | (extract_lets +onlyGivenNames yy; clear_value yy; revert yy; intro y2)
    | (dsimp -zeta only [st]; clear st)
    | with_reducible apply Kept.ite
    | split

theorem captureWindow_kept {s : State} (hs : Kept x s0 s) : Kept x s0 (captureWindow s) := by
  unfold captureWindow
  repeat' first
    | with_reducible assumption
    | with_reducible apply State.onLoop_kept
    | with_reducible apply State.each_kept
    | with_reducible apply sampleChannel_kept
    | (extract_lets +onlyGivenNames st; have hst : Kept x s0 st := ?_; clear_value st; revert st; intro st2 hst2)
    | (extract_lets +onlyGivenNames yy; clear_value yy; revert yy; intro y2)
    | (extract_lets +onlyGivenNames yy; dsimp -zeta only [yy]; clear yy)
    | (dsimp -zeta only [st]; clear st)
    | with_reducible apply Kept.ite

theorem execTuneCaptureRead_kept {a1} {s : State} (hs : Kept x s0 s) : Ends (Kept x s0) (execTuneCaptureRead a1 s) := by
  unfold execTuneCaptureRead
  repeat' first
    | with_reducible assumption
    | with_reducible apply serve_kept
    | with_reducible apply ok_kept
    | with_reducible apply refused_kept
    | with_reducible apply noteClamps_kept
    | with_reducible exact CntKept.same rfl
    | with_reducible exact MemsKept.same rfl rfl
    | with_reducible exact fun w => MemsWf.same w rfl rfl
    | with_reducible exact FuseKept.same rfl rfl rfl
    | with_reducible exact SafetyKept.same rfl rfl rfl rfl
    | with_reducible exact CfgKept.same rfl
    | with_reducible exact TripsKept.same rfl rfl
    | with_reducible exact .inr rfl
    | (intro)
    | (extract_lets +onlyGivenNames st; have hst : Kept x s0 st := ?_; clear_value st; revert st; intro st2 hst2)
    | (extract_lets +onlyGivenNames yy; clear_value yy; revert yy; intro y2)
    | with_reducible apply Ends.next
    | (dsimp -zeta only [st]; clear st)
    | with_reducible apply Kept.ite
    | split

theorem execTuneInjectStart_kept {a1} {s : State} (hs : Kept x s0 s) : Ends (Kept x s0) (execTuneInjectStart a1 s) := by
  unfold execTuneInjectStart
  repeat' first
    | with_reducible assumption
    | with_reducible apply serve_kept
    | with_reducible apply refused_kept
    | with_reducible apply stage_kept
    | (intro)
    | (extract_lets +onlyGivenNames yy; clear_value yy; revert yy; intro y2)
    | with_reducible apply Ends.next
    | with_reducible apply Kept.ite

theorem execTuneInjectStop_kept {a1} {s : State} (hs : Kept x s0 s) : Ends (Kept x s0) (execTuneInjectStop a1 s) := by
  unfold execTuneInjectStop
  repeat' first
    | with_reducible assumption
    | with_reducible apply serve_kept
    | with_reducible apply stage_kept
    | with_reducible exact CntKept.same rfl
    | with_reducible exact MemsKept.same rfl rfl
    | with_reducible exact fun w => MemsWf.same w rfl rfl
    | with_reducible exact FuseKept.same rfl rfl rfl
    | with_reducible exact SafetyKept.same rfl rfl rfl rfl
    | with_reducible exact CfgKept.same rfl
    | with_reducible exact TripsKept.same rfl rfl
    | with_reducible exact .inr rfl
    | (intro)
    | (extract_lets +onlyGivenNames st; have hst : Kept x s0 st := ?_; clear_value st; revert st; intro st2 hst2)
    | (extract_lets +onlyGivenNames yy; clear_value yy; revert yy; intro y2)
    | with_reducible apply Ends.next
    | with_reducible apply Kept.ite
    | split

theorem execTuneCaptureArm_kept {a1} {s : State} (hs : Kept x s0 s) : Ends (Kept x s0) (execTuneCaptureArm a1 s) := by
  unfold execTuneCaptureArm
  repeat' first
    | with_reducible assumption
    | with_reducible apply serve_kept
    | with_reducible apply refused_kept
    | with_reducible apply State.onLoop_kept
    | (intro)
    | (extract_lets +onlyGivenNames yy; clear_value yy; revert yy; intro y2)
    | with_reducible apply Ends.next
    | with_reducible apply Kept.ite

/-! ## Machine/RingOps.lean -/

theorem cancelClose_kept {s : State} {a2} {a3} (hs : Kept x s0 s) : Kept x s0 (cancelClose s a2 a3) := by
  unfold cancelClose
  repeat' first
    | with_reducible assumption
    | with_reducible apply State.onRing_kept
    | with_reducible apply bump_kept
    | with_reducible exact CntKept.same rfl
    | with_reducible exact MemsKept.same rfl rfl
    | with_reducible exact fun w => MemsWf.same w rfl rfl
    | with_reducible exact FuseKept.same rfl rfl rfl
    | with_reducible exact SafetyKept.same rfl rfl rfl rfl
    | with_reducible exact CfgKept.same rfl
    | with_reducible exact TripsKept.same rfl rfl
    | with_reducible exact .inr rfl
    | (intro)
    | with_reducible apply Kept.ite
    | split

theorem failSpan_kept {s : State} {a2} {a3} (hs : Kept x s0 s) : Kept x s0 (failSpan s a2 a3) := by
  unfold failSpan
  repeat' first
    | with_reducible assumption
    | with_reducible apply State.onRing_kept
    | with_reducible apply cancelClose_kept

theorem startClose_kept {s : State} {a2} {a3} (hs : Kept x s0 s) : Kept x s0 (startClose s a2 a3) := by
  unfold startClose
  repeat' first
    | with_reducible assumption
    | with_reducible apply State.onRing_kept
    | with_reducible exact CntKept.same rfl
    | with_reducible exact MemsKept.same rfl rfl
    | with_reducible exact fun w => MemsWf.same w rfl rfl
    | with_reducible exact FuseKept.same rfl rfl rfl
    | with_reducible exact SafetyKept.same rfl rfl rfl rfl
    | with_reducible exact CfgKept.same rfl
    | with_reducible exact TripsKept.same rfl rfl
    | with_reducible exact .inr rfl
    | (intro)
    | with_reducible apply Kept.ite
    | split

theorem spanUp_kept {s : State} {a2} {a3} (hs : Kept x s0 s) : Kept x s0 (spanUp s a2 a3) := by
  unfold spanUp
  repeat' first
    | with_reducible assumption
    | with_reducible apply State.onRing_kept
    | with_reducible apply startClose_kept
    | (extract_lets +onlyGivenNames st; have hst : Kept x s0 st := ?_; clear_value st; revert st; intro st2 hst2)
    | (extract_lets +onlyGivenNames yy; clear_value yy; revert yy; intro y2)
    | with_reducible apply Kept.ite

theorem portFails_kept {s : State} {a2} {a3} (hs : Kept x s0 s) : Kept x s0 (portFails s a2 a3) := by
  unfold portFails
  repeat' first
    | with_reducible assumption
    | with_reducible apply State.onRing_kept
    | with_reducible apply failSpan_kept
    | with_reducible exact CntKept.same rfl
    | with_reducible exact MemsKept.same rfl rfl
    | with_reducible exact fun w => MemsWf.same w rfl rfl
    | with_reducible exact FuseKept.same rfl rfl rfl
    | with_reducible exact SafetyKept.same rfl rfl rfl rfl
    | with_reducible exact CfgKept.same rfl
    | with_reducible exact TripsKept.same rfl rfl
    | with_reducible exact .inr rfl
    | (intro)
    | (extract_lets +onlyGivenNames st; have hst : Kept x s0 st := ?_; clear_value st; revert st; intro st2 hst2)
    | (extract_lets +onlyGivenNames yy; clear_value yy; revert yy; intro y2)
    | (dsimp -zeta only [st]; clear st)
    | with_reducible apply Kept.ite
    | split

theorem loseLock_kept {s : State} {a2} {a3} (hs : Kept x s0 s) : Kept x s0 (loseLock s a2 a3) := by
  unfold loseLock
  repeat' first
    | with_reducible assumption
    | with_reducible apply bump_kept
    | with_reducible apply portFails_kept
    | with_reducible apply State.onRing_kept
    | with_reducible exact CntKept.same rfl
    | with_reducible exact MemsKept.same rfl rfl
    | with_reducible exact fun w => MemsWf.same w rfl rfl
    | with_reducible exact FuseKept.same rfl rfl rfl
    | with_reducible exact SafetyKept.same rfl rfl rfl rfl
    | with_reducible exact CfgKept.same rfl
    | with_reducible exact TripsKept.same rfl rfl
    | with_reducible exact .inr rfl
    | (intro)
    | (extract_lets +onlyGivenNames st; have hst : Kept x s0 st := ?_; clear_value st; revert st; intro st2 hst2)
    | (extract_lets +onlyGivenNames yy; clear_value yy; revert yy; intro y2)
    | (dsimp -zeta only [st]; clear st)
    | with_reducible apply Kept.ite
    | split

theorem healRing_kept {s : State} {a2} (hs : Kept x s0 s) : Kept x s0 (healRing s a2) := by
  unfold healRing
  repeat' first
    | with_reducible assumption
    | with_reducible apply State.each_kept
    | with_reducible apply endInjection_kept
    | with_reducible apply bump_kept
    | with_reducible apply State.onRing_kept
    | (intro)
    | (extract_lets +onlyGivenNames st; have hst : Kept x s0 st := ?_; clear_value st; revert st; intro st2 hst2)
    | (extract_lets +onlyGivenNames yy; clear_value yy; revert yy; intro y2)
    | with_reducible apply Kept.ite

theorem recloseRing_kept {s : State} {a2} (hs : Kept x s0 s) : Kept x s0 (recloseRing s a2) := by
  unfold recloseRing
  repeat' first
    | with_reducible assumption
    | with_reducible apply bump_kept
    | with_reducible apply State.onRing_kept

theorem leadRing_kept {s : State} {a2} (hs : Kept x s0 s) : Kept x s0 (leadRing s a2) := by
  unfold leadRing
  repeat' first
    | with_reducible assumption
    | with_reducible apply State.onRing_kept
    | with_reducible exact CntKept.same rfl
    | with_reducible exact MemsKept.same rfl rfl
    | with_reducible exact fun w => MemsWf.same w rfl rfl
    | with_reducible exact FuseKept.same rfl rfl rfl
    | with_reducible exact SafetyKept.same rfl rfl rfl rfl
    | with_reducible exact CfgKept.same rfl
    | with_reducible exact TripsKept.same rfl rfl
    | with_reducible exact .inr rfl
    | (intro)
    | with_reducible apply Kept.ite
    | split

theorem followFrame_kept {s : State} {a2} {a3} (hs : Kept x s0 s) : Kept x s0 (followFrame s a2 a3) := by
  unfold followFrame
  repeat' first
    | with_reducible assumption
    | with_reducible apply draw_kept_proj
    | with_reducible apply State.onRing_kept
    | with_reducible exact CntKept.same rfl
    | with_reducible exact MemsKept.same rfl rfl
    | with_reducible exact fun w => MemsWf.same w rfl rfl
    | with_reducible exact FuseKept.same rfl rfl rfl
    | with_reducible exact SafetyKept.same rfl rfl rfl rfl
    | with_reducible exact CfgKept.same rfl
    | with_reducible exact TripsKept.same rfl rfl
    | with_reducible exact .inr rfl
    | (intro)
    | (extract_lets +onlyGivenNames st; have hst : Kept x s0 st := ?_; clear_value st; revert st; intro st2 hst2)
    | (extract_lets +onlyGivenNames yy; clear_value yy; revert yy; intro y2)
    | (dsimp -zeta only [st]; clear st)
    | with_reducible apply Kept.ite
    | split

theorem answerCfg_kept {s : State} {a2} {a3} (hs : Kept x s0 s) : Kept x s0 (answerCfg s a2 a3) := by
  unfold answerCfg
  repeat' first
    | with_reducible assumption
    | with_reducible apply State.onRing_kept
    | with_reducible apply ok_kept
    | with_reducible apply State.each_kept
    | with_reducible exact CntKept.same rfl
    | with_reducible exact MemsKept.same rfl rfl
    | with_reducible exact fun w => MemsWf.same w rfl rfl
    | with_reducible exact FuseKept.same rfl rfl rfl
    | with_reducible exact SafetyKept.same rfl rfl rfl rfl
    | with_reducible exact CfgKept.same rfl
    | with_reducible exact TripsKept.same rfl rfl
    | with_reducible exact .inr rfl
    | (intro)
    | (extract_lets +onlyGivenNames st; have hst : Kept x s0 st := ?_; clear_value st; revert st; intro st2 hst2)
    | (extract_lets +onlyGivenNames yy; clear_value yy; revert yy; intro y2)
    | with_reducible apply Kept.ite
    | split

theorem changeRate_kept {s : State} {a2} (hs : Kept x s0 s) : Kept x s0 (changeRate s a2) := by
  unfold changeRate
  repeat' first
    | with_reducible assumption
    | with_reducible apply store_kept
    | with_reducible apply State.onSys_kept
    | with_reducible apply State.onTime_kept
    | with_reducible exact FuseKept.same rfl rfl rfl
    | with_reducible exact fun w => MemsWf.same w rfl rfl
    | with_reducible exact .inr rfl
    | with_reducible exact CntKept.same rfl
    | with_reducible exact MemsKept.same rfl rfl
    | with_reducible exact SafetyKept.same rfl rfl rfl rfl
    | with_reducible exact CfgKept.same rfl
    | with_reducible exact TripsKept.same rfl rfl
    | (intro)
    | (extract_lets +onlyGivenNames st; have hst : Kept x s0 st := ?_; clear_value st; revert st; intro st2 hst2)
    | (extract_lets +onlyGivenNames yy; clear_value yy; revert yy; intro y2)
    | (dsimp -zeta only [st]; clear st)
    | with_reducible apply Kept.ite
    | split

theorem landRingCfg_kept {s : State} {a2} {a3} {a4} (hs : Kept x s0 s) : Kept x s0 (landRingCfg s a2 a3 a4) := by
  unfold landRingCfg
  repeat' first
    | with_reducible assumption
    | with_reducible apply store_kept
    | with_reducible apply State.onRing_kept
    | with_reducible apply startClose_kept
    | with_reducible apply cancelClose_kept
    | with_reducible exact CntKept.same rfl
    | with_reducible exact MemsKept.same rfl rfl
    | with_reducible exact fun w => MemsWf.same w rfl rfl
    | with_reducible exact FuseKept.same rfl rfl rfl
    | with_reducible exact SafetyKept.same rfl rfl rfl rfl
    | with_reducible exact CfgKept.same rfl
    | with_reducible exact TripsKept.same rfl rfl
    | with_reducible exact .inr rfl
    | (intro)
    | (extract_lets +onlyGivenNames st; have hst : Kept x s0 st := ?_; clear_value st; revert st; intro st2 hst2)
    | (extract_lets +onlyGivenNames fn; have hfn : ∀ z, Kept x s0 z → Kept x s0 (fn z) := ?_; clear_value fn; revert fn; intro fn2 hfn)
    | (extract_lets +onlyGivenNames yy; clear_value yy; revert yy; intro y2)
    | (dsimp -zeta only [st]; clear st)
    | (dsimp -zeta only [fn]; clear fn)
    | with_reducible apply Kept.ite
    | split

theorem landRings_kept {s : State} (hs : Kept x s0 s) : Kept x s0 (landRings s) := by
  unfold landRings
  repeat' first
    | with_reducible assumption
    | with_reducible apply changeRate_kept
    | with_reducible apply State.onSys_kept
    | with_reducible apply State.each_kept
    | with_reducible apply State.onRing_kept
    | with_reducible apply landRingCfg_kept
    | with_reducible exact CntKept.same rfl
    | with_reducible exact MemsKept.same rfl rfl
    | with_reducible exact fun w => MemsWf.same w rfl rfl
    | with_reducible exact FuseKept.same rfl rfl rfl
    | with_reducible exact SafetyKept.same rfl rfl rfl rfl
    | with_reducible exact CfgKept.same rfl
    | with_reducible exact TripsKept.same rfl rfl
    | with_reducible exact .inr rfl
    | (intro)
    | (extract_lets +onlyGivenNames st; have hst : Kept x s0 st := ?_; clear_value st; revert st; intro st2 hst2)
    | (extract_lets +onlyGivenNames yy; clear_value yy; revert yy; intro y2)
    | (dsimp -zeta only [st]; clear st)
    | with_reducible apply Kept.ite
    | split

theorem takeCopy_kept {s : State} {a2} (hs : Kept x s0 s) : Kept x s0 (takeCopy s a2) := by
  unfold takeCopy
  repeat' first
    | with_reducible assumption
    | with_reducible apply bump_kept
    | with_reducible apply State.onRing_kept
    | with_reducible apply foldl_kept
    | with_reducible apply foldl_kept_fst
    | with_reducible exact CntKept.same rfl
    | with_reducible exact MemsKept.same rfl rfl
    | with_reducible exact fun w => MemsWf.same w rfl rfl
    | with_reducible exact FuseKept.same rfl rfl rfl
    | with_reducible exact SafetyKept.same rfl rfl rfl rfl
    | with_reducible exact CfgKept.same rfl
    | with_reducible exact TripsKept.same rfl rfl
    | with_reducible exact .inr rfl
    | (intro)
    | (extract_lets +onlyGivenNames st; have hst : Kept x s0 st := ?_; clear_value st; revert st; intro st2 hst2)
    | (extract_lets +onlyGivenNames yy; clear_value yy; revert yy; intro y2)
    | (dsimp -zeta only [st]; clear st)
    | with_reducible apply Kept.ite
    | split

theorem freezeRing_kept {s : State} {a2} (hs : Kept x s0 s) : Kept x s0 (freezeRing s a2) := by
  unfold freezeRing
  repeat' first
    | with_reducible assumption
    | with_reducible apply State.onRing_kept
    | with_reducible apply bump_kept
    | with_reducible apply foldl_kept
    | with_reducible apply foldl_kept_fst
    | with_reducible exact CntKept.same rfl
    | with_reducible exact MemsKept.same rfl rfl
    | with_reducible exact fun w => MemsWf.same w rfl rfl
    | with_reducible exact FuseKept.same rfl rfl rfl
    | with_reducible exact SafetyKept.same rfl rfl rfl rfl
    | with_reducible exact CfgKept.same rfl
    | with_reducible exact TripsKept.same rfl rfl
    | with_reducible exact .inr rfl
    | (intro)
    | (extract_lets +onlyGivenNames st; have hst : Kept x s0 st := ?_; clear_value st; revert st; intro st2 hst2)
    | (extract_lets +onlyGivenNames yy; clear_value yy; revert yy; intro y2)
    | (extract_lets +onlyGivenNames yy; dsimp -zeta only [yy]; clear yy)
    | (dsimp -zeta only [st]; clear st)
    | with_reducible apply Kept.ite
    | split

theorem guardRing_kept {s : State} {a2} {a3} (hs : Kept x s0 s) : Kept x s0 (guardRing s a2 a3) := by
  unfold guardRing
  repeat' first
    | with_reducible assumption
    | with_reducible apply bump_kept
    | with_reducible apply State.onRing_kept
    | with_reducible apply answerCfg_kept
    | with_reducible exact CntKept.same rfl
    | with_reducible exact MemsKept.same rfl rfl
    | with_reducible exact fun w => MemsWf.same w rfl rfl
    | with_reducible exact FuseKept.same rfl rfl rfl
    | with_reducible exact SafetyKept.same rfl rfl rfl rfl
    | with_reducible exact CfgKept.same rfl
    | with_reducible exact TripsKept.same rfl rfl
    | with_reducible exact .inr rfl
    | (intro)
    | (extract_lets +onlyGivenNames st; have hst : Kept x s0 st := ?_; clear_value st; revert st; intro st2 hst2)
    | (extract_lets +onlyGivenNames yy; clear_value yy; revert yy; intro y2)
    | (dsimp -zeta only [st]; clear st)
    | with_reducible apply Kept.ite
    | split

theorem sendFrame_kept {s : State} {a2} {a3} (hs : Kept x s0 s) : Kept x s0 (sendFrame s a2 a3) := by
  unfold sendFrame
  repeat' first
    | with_reducible assumption
    | with_reducible apply State.onRing_kept
    | with_reducible exact CntKept.same rfl
    | with_reducible exact MemsKept.same rfl rfl
    | with_reducible exact fun w => MemsWf.same w rfl rfl
    | with_reducible exact FuseKept.same rfl rfl rfl
    | with_reducible exact SafetyKept.same rfl rfl rfl rfl
    | with_reducible exact CfgKept.same rfl
    | with_reducible exact TripsKept.same rfl rfl
    | with_reducible exact .inr rfl
    | (intro)
    | (extract_lets +onlyGivenNames st; have hst : Kept x s0 st := ?_; clear_value st; revert st; intro st2 hst2)
    | (extract_lets +onlyGivenNames yy; clear_value yy; revert yy; intro y2)
    | (dsimp -zeta only [st]; clear st)
    | with_reducible apply Kept.ite
    | split

theorem answerLed_kept {s : State} {a2} (hs : Kept x s0 s) : Kept x s0 (answerLed s a2) := by
  unfold answerLed
  repeat' first
    | with_reducible assumption
    | with_reducible apply answerCfg_kept
    | with_reducible exact CntKept.same rfl
    | with_reducible exact MemsKept.same rfl rfl
    | with_reducible exact fun w => MemsWf.same w rfl rfl
    | with_reducible exact FuseKept.same rfl rfl rfl
    | with_reducible exact SafetyKept.same rfl rfl rfl rfl
    | with_reducible exact CfgKept.same rfl
    | with_reducible exact TripsKept.same rfl rfl
    | with_reducible exact .inr rfl
    | (intro)
    | with_reducible apply Kept.ite
    | split

theorem ringInstant_kept {s : State} {a2} (hs : Kept x s0 s) : Kept x s0 (ringInstant s a2) := by
  unfold ringInstant
  repeat' first
    | with_reducible assumption
    | with_reducible apply State.onRing_kept
    | with_reducible apply answerLed_kept
    | with_reducible apply sendFrame_kept
    | with_reducible exact CntKept.same rfl
    | with_reducible exact MemsKept.same rfl rfl
    | with_reducible exact fun w => MemsWf.same w rfl rfl
    | with_reducible exact FuseKept.same rfl rfl rfl
    | with_reducible exact SafetyKept.same rfl rfl rfl rfl
    | with_reducible exact CfgKept.same rfl
    | with_reducible exact TripsKept.same rfl rfl
    | with_reducible exact .inr rfl
    | (intro)
    | (extract_lets +onlyGivenNames st; have hst : Kept x s0 st := ?_; clear_value st; revert st; intro st2 hst2)
    | (extract_lets +onlyGivenNames yy; clear_value yy; revert yy; intro y2)
    | (extract_lets +onlyGivenNames yy; dsimp -zeta only [yy]; clear yy)
    | (dsimp -zeta only [st]; clear st)
    | with_reducible apply Kept.ite
    | split

theorem ringRelease_kept {s : State} {a2} (hs : Kept x s0 s) : Kept x s0 (ringRelease s a2) := by
  unfold ringRelease
  repeat' first
    | with_reducible assumption
    | with_reducible apply State.onRing_kept
    | with_reducible apply answerLed_kept
    | with_reducible apply sendFrame_kept
    | with_reducible exact CntKept.same rfl
    | with_reducible exact MemsKept.same rfl rfl
    | with_reducible exact fun w => MemsWf.same w rfl rfl
    | with_reducible exact FuseKept.same rfl rfl rfl
    | with_reducible exact SafetyKept.same rfl rfl rfl rfl
    | with_reducible exact CfgKept.same rfl
    | with_reducible exact TripsKept.same rfl rfl
    | with_reducible exact .inr rfl
    | (intro)
    | (extract_lets +onlyGivenNames st; have hst : Kept x s0 st := ?_; clear_value st; revert st; intro st2 hst2)
    | (extract_lets +onlyGivenNames yy; clear_value yy; revert yy; intro y2)
    | (dsimp -zeta only [st]; clear st)
    | with_reducible apply Kept.ite
    | split

theorem hearColdstart_kept {s : State} {a2} {a3} (hs : Kept x s0 s) : Kept x s0 (hearColdstart s a2 a3) := by
  unfold hearColdstart
  repeat' first
    | with_reducible assumption
    | with_reducible apply bump_kept
    | with_reducible apply State.onRing_kept
    | with_reducible exact CntKept.same rfl
    | with_reducible exact MemsKept.same rfl rfl
    | with_reducible exact fun w => MemsWf.same w rfl rfl
    | with_reducible exact FuseKept.same rfl rfl rfl
    | with_reducible exact SafetyKept.same rfl rfl rfl rfl
    | with_reducible exact CfgKept.same rfl
    | with_reducible exact TripsKept.same rfl rfl
    | with_reducible exact .inr rfl
    | (intro)
    | (extract_lets +onlyGivenNames st; have hst : Kept x s0 st := ?_; clear_value st; revert st; intro st2 hst2)
    | (extract_lets +onlyGivenNames yy; clear_value yy; revert yy; intro y2)
    | (dsimp -zeta only [st]; clear st)
    | with_reducible apply Kept.ite
    | split

theorem takeSet_kept {s : State} {a2} {a3} (hs : Kept x s0 s) : Kept x s0 (takeSet s a2 a3) := by
  unfold takeSet
  repeat' first
    | with_reducible assumption
    | with_reducible apply failSpan_kept
    | with_reducible apply bump_kept
    | with_reducible apply spanUp_kept
    | with_reducible apply State.onRing_kept
    | with_reducible apply hearColdstart_kept
    | with_reducible exact CntKept.same rfl
    | with_reducible exact MemsKept.same rfl rfl
    | with_reducible exact fun w => MemsWf.same w rfl rfl
    | with_reducible exact FuseKept.same rfl rfl rfl
    | with_reducible exact SafetyKept.same rfl rfl rfl rfl
    | with_reducible exact CfgKept.same rfl
    | with_reducible exact TripsKept.same rfl rfl
    | with_reducible exact .inr rfl
    | (intro)
    | (extract_lets +onlyGivenNames st; have hst : Kept x s0 st := ?_; clear_value st; revert st; intro st2 hst2)
    | (extract_lets +onlyGivenNames yy; clear_value yy; revert yy; intro y2)
    | (dsimp -zeta only [st]; clear st)
    | with_reducible apply Kept.ite
    | split

theorem receiveSets_kept {s : State} {a2} {a3} {a4} (hs : Kept x s0 s) : Kept x s0 (receiveSets s a2 a3 a4) := by
  unfold receiveSets
  repeat' first
    | with_reducible assumption
    | with_reducible apply State.onRing_kept
    | with_reducible apply State.each_kept
    | with_reducible apply takeSet_kept
    | with_reducible apply foldl_kept
    | with_reducible apply foldl_kept_fst
    | with_reducible exact CntKept.same rfl
    | with_reducible exact MemsKept.same rfl rfl
    | with_reducible exact fun w => MemsWf.same w rfl rfl
    | with_reducible exact FuseKept.same rfl rfl rfl
    | with_reducible exact SafetyKept.same rfl rfl rfl rfl
    | with_reducible exact CfgKept.same rfl
    | with_reducible exact TripsKept.same rfl rfl
    | with_reducible exact .inr rfl
    | (intro)
    | (extract_lets +onlyGivenNames st; have hst : Kept x s0 st := ?_; clear_value st; revert st; intro st2 hst2)
    | (extract_lets +onlyGivenNames yy; clear_value yy; revert yy; intro y2)
    | with_reducible apply Kept.ite
    | split

/-! ## Machine/Ring.lean -/

theorem execRingStatus_kept {a1} {s : State} (hs : Kept x s0 s) : Ends (Kept x s0) (execRingStatus a1 s) := by
  unfold execRingStatus
  repeat' first
    | with_reducible assumption
    | with_reducible apply serve_kept
    | with_reducible apply ok_kept
    | (intro)
    | (extract_lets +onlyGivenNames yy; clear_value yy; revert yy; intro y2)
    | with_reducible apply Ends.next

theorem execRingNodes_kept {a1} {s : State} (hs : Kept x s0 s) : Ends (Kept x s0) (execRingNodes a1 s) := by
  unfold execRingNodes
  repeat' first
    | with_reducible assumption
    | with_reducible apply serve_kept
    | with_reducible apply ok_kept
    | (intro)
    | (extract_lets +onlyGivenNames yy; clear_value yy; revert yy; intro y2)
    | with_reducible apply Ends.next

theorem execRingConfig_kept {a1} {s : State} (hs : Kept x s0 s) : Ends (Kept x s0) (execRingConfig a1 s) := by
  unfold execRingConfig
  repeat' first
    | with_reducible assumption
    | with_reducible apply serve_kept
    | with_reducible apply refused_kept
    | with_reducible apply State.each_kept
    | with_reducible apply setSleep_kept
    | with_reducible apply State.onRing_kept
    | with_reducible apply State.onSys_kept
    | with_reducible exact CntKept.same rfl
    | with_reducible exact MemsKept.same rfl rfl
    | with_reducible exact fun w => MemsWf.same w rfl rfl
    | with_reducible exact FuseKept.same rfl rfl rfl
    | with_reducible exact SafetyKept.same rfl rfl rfl rfl
    | with_reducible exact CfgKept.same rfl
    | with_reducible exact TripsKept.same rfl rfl
    | with_reducible exact .inr rfl
    | (intro)
    | (extract_lets +onlyGivenNames st; have hst : Kept x s0 st := ?_; clear_value st; revert st; intro st2 hst2)
    | (extract_lets +onlyGivenNames fn; have hfn : ∀ z, Kept x s0 z → Kept x s0 (fn z) := ?_; clear_value fn; revert fn; intro fn2 hfn)
    | (extract_lets +onlyGivenNames yy; clear_value yy; revert yy; intro y2)
    | with_reducible apply Ends.next
    | (dsimp -zeta only [st]; clear st)
    | (dsimp -zeta only [fn]; clear fn)
    | with_reducible apply Kept.ite
    | split

theorem execCollectCopyRx_kept {a1} {s : State} (hs : Kept x s0 s) : Ends (Kept x s0) (execCollectCopyRx a1 s) := by
  unfold execCollectCopyRx
  repeat' first
    | with_reducible assumption
    | with_reducible apply takeCopy_kept
    | with_reducible apply Ends.next

theorem execServiceAnswerRx_kept {a1} {a2} {s : State} (hs : Kept x s0 s) : Ends (Kept x s0) (execServiceAnswerRx a1 a2 s) := by
  unfold execServiceAnswerRx
  repeat' first
    | with_reducible assumption
    | with_reducible apply State.onRing_kept
    | with_reducible exact CntKept.same rfl
    | with_reducible exact MemsKept.same rfl rfl
    | with_reducible exact fun w => MemsWf.same w rfl rfl
    | with_reducible exact FuseKept.same rfl rfl rfl
    | with_reducible exact SafetyKept.same rfl rfl rfl rfl
    | with_reducible exact CfgKept.same rfl
    | with_reducible exact TripsKept.same rfl rfl
    | with_reducible exact .inr rfl
    | (intro)
    | (extract_lets +onlyGivenNames st; have hst : Kept x s0 st := ?_; clear_value st; revert st; intro st2 hst2)
    | (extract_lets +onlyGivenNames fn; have hfn : ∀ z, Kept x s0 z → Kept x s0 (fn z) := ?_; clear_value fn; revert fn; intro fn2 hfn)
    | (extract_lets +onlyGivenNames yy; clear_value yy; revert yy; intro y2)
    | with_reducible apply Ends.next
    | (dsimp -zeta only [st]; clear st)
    | (dsimp -zeta only [fn]; clear fn)
    | with_reducible apply Kept.ite
    | split

theorem execServiceRetry_kept {a1} {s : State} (hs : Kept x s0 s) : Ends (Kept x s0) (execServiceRetry a1 s) := by
  unfold execServiceRetry
  repeat' first
    | with_reducible assumption
    | with_reducible apply State.onRing_kept
    | with_reducible apply bump_kept
    | with_reducible exact CntKept.same rfl
    | with_reducible exact MemsKept.same rfl rfl
    | with_reducible exact fun w => MemsWf.same w rfl rfl
    | with_reducible exact FuseKept.same rfl rfl rfl
    | with_reducible exact SafetyKept.same rfl rfl rfl rfl
    | with_reducible exact CfgKept.same rfl
    | with_reducible exact TripsKept.same rfl rfl
    | with_reducible exact .inr rfl
    | (intro)
    | with_reducible apply Ends.next
    | with_reducible apply Kept.ite
    | split

theorem execColdstartListenEnd_kept {a1} {s : State} (hs : Kept x s0 s) : Ends (Kept x s0) (execColdstartListenEnd a1 s) := by
  unfold execColdstartListenEnd
  repeat' first
    | with_reducible assumption
    | with_reducible apply State.onRing_kept
    | (extract_lets +onlyGivenNames yy; clear_value yy; revert yy; intro y2)
    | with_reducible apply Ends.next
    | with_reducible apply Kept.ite

theorem execColdstartRx_kept {a1} {a2} {s : State} (hs : Kept x s0 s) : Ends (Kept x s0) (execColdstartRx a1 a2 s) := by
  unfold execColdstartRx
  repeat' first
    | with_reducible assumption
    | with_reducible apply receiveSets_kept
    | with_reducible exact CntKept.same rfl
    | with_reducible exact MemsKept.same rfl rfl
    | with_reducible exact fun w => MemsWf.same w rfl rfl
    | with_reducible exact FuseKept.same rfl rfl rfl
    | with_reducible exact SafetyKept.same rfl rfl rfl rfl
    | with_reducible exact CfgKept.same rfl
    | with_reducible exact TripsKept.same rfl rfl
    | with_reducible exact .inr rfl
    | (intro)
    | (extract_lets +onlyGivenNames yy; clear_value yy; revert yy; intro y2)
    | with_reducible apply Ends.next
    | with_reducible apply Kept.ite
    | split

theorem execColdstartLead_kept {a1} {s : State} (hs : Kept x s0 s) : Ends (Kept x s0) (execColdstartLead a1 s) := by
  unfold execColdstartLead
  repeat' first
    | with_reducible assumption
    | with_reducible apply State.onRed_kept
    | with_reducible apply bump_kept
    | with_reducible apply leadRing_kept
    | with_reducible apply Ends.next
    | with_reducible apply Kept.ite

theorem seePartner_kept {s : State} {a2} (hs : Kept x s0 s) : Kept x s0 (seePartner s a2) := by
  unfold seePartner
  repeat' first
    | with_reducible assumption
    | with_reducible apply State.onRed_kept
    | with_reducible apply becomeStandby_kept
    | with_reducible exact CntKept.same rfl
    | with_reducible exact MemsKept.same rfl rfl
    | with_reducible exact fun w => MemsWf.same w rfl rfl
    | with_reducible exact FuseKept.same rfl rfl rfl
    | with_reducible exact SafetyKept.same rfl rfl rfl rfl
    | with_reducible exact CfgKept.same rfl
    | with_reducible exact TripsKept.same rfl rfl
    | with_reducible exact .inr rfl
    | (intro)
    | (extract_lets +onlyGivenNames st; have hst : Kept x s0 st := ?_; clear_value st; revert st; intro st2 hst2)
    | (extract_lets +onlyGivenNames yy; clear_value yy; revert yy; intro y2)
    | (dsimp -zeta only [st]; clear st)
    | with_reducible apply Kept.ite
    | split

theorem followInstant_kept {s : State} {a2} (hs : Kept x s0 s) : Kept x s0 (followInstant s a2) := by
  unfold followInstant
  repeat' first
    | with_reducible assumption
    | with_reducible apply State.onTime_kept
    | with_reducible exact CntKept.same rfl
    | with_reducible exact MemsKept.same rfl rfl
    | with_reducible exact fun w => MemsWf.same w rfl rfl
    | with_reducible exact FuseKept.same rfl rfl rfl
    | with_reducible exact SafetyKept.same rfl rfl rfl rfl
    | with_reducible exact CfgKept.same rfl
    | with_reducible exact TripsKept.same rfl rfl
    | with_reducible exact .inr rfl
    | (intro)
    | with_reducible apply Kept.ite
    | split

theorem execLeaderFrameRx_kept {a1} {a2} {s : State} (hs : Kept x s0 s) : Ends (Kept x s0) (execLeaderFrameRx a1 a2 s) := by
  unfold execLeaderFrameRx
  repeat' first
    | with_reducible assumption
    | with_reducible apply receiveSets_kept
    | with_reducible apply seePartner_kept
    | with_reducible apply followInstant_kept
    | with_reducible apply followFrame_kept
    | with_reducible apply answerCfg_kept
    | with_reducible exact CntKept.same rfl
    | with_reducible exact MemsKept.same rfl rfl
    | with_reducible exact fun w => MemsWf.same w rfl rfl
    | with_reducible exact FuseKept.same rfl rfl rfl
    | with_reducible exact SafetyKept.same rfl rfl rfl rfl
    | with_reducible exact CfgKept.same rfl
    | with_reducible exact TripsKept.same rfl rfl
    | with_reducible exact .inr rfl
    | (intro)
    | (extract_lets +onlyGivenNames st; have hst : Kept x s0 st := ?_; clear_value st; revert st; intro st2 hst2)
    | (extract_lets +onlyGivenNames yy; clear_value yy; revert yy; intro y2)
    | with_reducible apply Ends.next
    | (dsimp -zeta only [st]; clear st)
    | with_reducible apply Kept.ite
    | split

theorem execMemberIntegrate_kept {a1} {s : State} (hs : Kept x s0 s) : Ends (Kept x s0) (execMemberIntegrate a1 s) := by
  unfold execMemberIntegrate
  repeat' first
    | with_reducible assumption
    | with_reducible apply State.onRing_kept
    | with_reducible exact CntKept.same rfl
    | with_reducible exact MemsKept.same rfl rfl
    | with_reducible exact fun w => MemsWf.same w rfl rfl
    | with_reducible exact FuseKept.same rfl rfl rfl
    | with_reducible exact SafetyKept.same rfl rfl rfl rfl
    | with_reducible exact CfgKept.same rfl
    | with_reducible exact TripsKept.same rfl rfl
    | with_reducible exact .inr rfl
    | (intro)
    | (extract_lets +onlyGivenNames st; have hst : Kept x s0 st := ?_; clear_value st; revert st; intro st2 hst2)
    | (extract_lets +onlyGivenNames yy; clear_value yy; revert yy; intro y2)
    | with_reducible apply Ends.next
    | (dsimp -zeta only [st]; clear st)
    | with_reducible apply Kept.ite
    | split

theorem execLocalFault_kept {a1} {a2} {s : State} (hs : Kept x s0 s) : Ends (Kept x s0) (execLocalFault a1 a2 s) := by
  unfold execLocalFault
  repeat' first
    | with_reducible assumption
    | with_reducible apply loseLock_kept
    | with_reducible apply Ends.next

theorem execRemoteFaultRx_kept {a1} {a2} {s : State} (hs : Kept x s0 s) : Ends (Kept x s0) (execRemoteFaultRx a1 a2 s) := by
  unfold execRemoteFaultRx
  repeat' first
    | with_reducible assumption
    | with_reducible apply portFails_kept
    | with_reducible apply State.onRing_kept
    | with_reducible apply Ends.next

theorem execSpandownRx_kept {a1} {a2} {a3} {s : State} (hs : Kept x s0 s) : Ends (Kept x s0) (execSpandownRx a1 a2 a3 s) := by
  unfold execSpandownRx
  repeat' first
    | with_reducible assumption
    | with_reducible apply receiveSets_kept
    | with_reducible exact CntKept.same rfl
    | with_reducible exact MemsKept.same rfl rfl
    | with_reducible exact fun w => MemsWf.same w rfl rfl
    | with_reducible exact FuseKept.same rfl rfl rfl
    | with_reducible exact SafetyKept.same rfl rfl rfl rfl
    | with_reducible exact CfgKept.same rfl
    | with_reducible exact TripsKept.same rfl rfl
    | with_reducible exact .inr rfl
    | (intro)
    | with_reducible apply Ends.next
    | with_reducible apply Kept.ite
    | split

theorem execRingHeal_kept {a1} {s : State} (hs : Kept x s0 s) : Ends (Kept x s0) (execRingHeal a1 s) := by
  unfold execRingHeal
  repeat' first
    | with_reducible assumption
    | with_reducible apply healRing_kept
    | with_reducible apply Ends.next

theorem execSpanLockHold_kept {a1} {a2} {s : State} (hs : Kept x s0 s) : Ends (Kept x s0) (execSpanLockHold a1 a2 s) := by
  unfold execSpanLockHold
  repeat' first
    | with_reducible assumption
    | with_reducible apply spanUp_kept
    | with_reducible apply State.onRing_kept
    | with_reducible exact CntKept.same rfl
    | with_reducible exact MemsKept.same rfl rfl
    | with_reducible exact fun w => MemsWf.same w rfl rfl
    | with_reducible exact FuseKept.same rfl rfl rfl
    | with_reducible exact SafetyKept.same rfl rfl rfl rfl
    | with_reducible exact CfgKept.same rfl
    | with_reducible exact TripsKept.same rfl rfl
    | with_reducible exact .inr rfl
    | (intro)
    | (extract_lets +onlyGivenNames st; have hst : Kept x s0 st := ?_; clear_value st; revert st; intro st2 hst2)
    | (extract_lets +onlyGivenNames yy; clear_value yy; revert yy; intro y2)
    | with_reducible apply Ends.next
    | (dsimp -zeta only [st]; clear st)
    | with_reducible apply Kept.ite
    | split

theorem execSpanupRx_kept {a1} {a2} {a3} {s : State} (hs : Kept x s0 s) : Ends (Kept x s0) (execSpanupRx a1 a2 a3 s) := by
  unfold execSpanupRx
  repeat' first
    | with_reducible assumption
    | with_reducible apply receiveSets_kept
    | with_reducible exact CntKept.same rfl
    | with_reducible exact MemsKept.same rfl rfl
    | with_reducible exact fun w => MemsWf.same w rfl rfl
    | with_reducible exact FuseKept.same rfl rfl rfl
    | with_reducible exact SafetyKept.same rfl rfl rfl rfl
    | with_reducible exact CfgKept.same rfl
    | with_reducible exact TripsKept.same rfl rfl
    | with_reducible exact .inr rfl
    | (intro)
    | with_reducible apply Ends.next
    | with_reducible apply Kept.ite
    | split

theorem execClosearmCheck_kept {a1} {s : State} (hs : Kept x s0 s) : Ends (Kept x s0) (execClosearmCheck a1 s) := by
  unfold execClosearmCheck
  repeat' first
    | with_reducible assumption
    | with_reducible apply cancelClose_kept
    | with_reducible exact CntKept.same rfl
    | with_reducible exact MemsKept.same rfl rfl
    | with_reducible exact fun w => MemsWf.same w rfl rfl
    | with_reducible exact FuseKept.same rfl rfl rfl
    | with_reducible exact SafetyKept.same rfl rfl rfl rfl
    | with_reducible exact CfgKept.same rfl
    | with_reducible exact TripsKept.same rfl rfl
    | with_reducible exact .inr rfl
    | (intro)
    | (extract_lets +onlyGivenNames st; have hst : Kept x s0 st := ?_; clear_value st; revert st; intro st2 hst2)
    | (extract_lets +onlyGivenNames yy; clear_value yy; revert yy; intro y2)
    | with_reducible apply Ends.next
    | (dsimp -zeta only [st]; clear st)
    | with_reducible apply Kept.ite
    | split

theorem execCloseTarget_kept {a1} {s : State} (hs : Kept x s0 s) : Ends (Kept x s0) (execCloseTarget a1 s) := by
  unfold execCloseTarget
  repeat' first
    | with_reducible assumption
    | with_reducible apply recloseRing_kept
    | with_reducible apply Ends.next
    | with_reducible apply Kept.ite

theorem execRecloseRetry_kept {a1} {s : State} (hs : Kept x s0 s) : Ends (Kept x s0) (execRecloseRetry a1 s) := by
  unfold execRecloseRetry
  repeat' first
    | with_reducible assumption
    | with_reducible apply startClose_kept
    | with_reducible exact CntKept.same rfl
    | with_reducible exact MemsKept.same rfl rfl
    | with_reducible exact fun w => MemsWf.same w rfl rfl
    | with_reducible exact FuseKept.same rfl rfl rfl
    | with_reducible exact SafetyKept.same rfl rfl rfl rfl
    | with_reducible exact CfgKept.same rfl
    | with_reducible exact TripsKept.same rfl rfl
    | with_reducible exact .inr rfl
    | (intro)
    | (extract_lets +onlyGivenNames st; have hst : Kept x s0 st := ?_; clear_value st; revert st; intro st2 hst2)
    | (extract_lets +onlyGivenNames yy; clear_value yy; revert yy; intro y2)
    | with_reducible apply Ends.next
    | (dsimp -zeta only [st]; clear st)
    | with_reducible apply Kept.ite
    | split

theorem execBlockLockGained_kept {a1} {s : State} (hs : Kept x s0 s) : Ends (Kept x s0) (execBlockLockGained a1 s) := by
  unfold execBlockLockGained
  repeat' first
    | with_reducible assumption
    | with_reducible apply State.onRing_kept
    | with_reducible apply State.onLink_kept
    | with_reducible exact CntKept.same rfl
    | with_reducible exact MemsKept.same rfl rfl
    | with_reducible exact fun w => MemsWf.same w rfl rfl
    | with_reducible exact FuseKept.same rfl rfl rfl
    | with_reducible exact SafetyKept.same rfl rfl rfl rfl
    | with_reducible exact CfgKept.same rfl
    | with_reducible exact TripsKept.same rfl rfl
    | with_reducible exact .inr rfl
    | (intro)
    | with_reducible apply Ends.next
    | with_reducible apply Kept.ite
    | split

/-! ## Machine/SafetyCmd.lean -/

theorem execScarpStopInject_kept {s : State} (hs : Kept x s0 s) : Ends (Kept x s0) (execScarpStopInject s) := by
  unfold execScarpStopInject
  repeat' first
    | with_reducible assumption
    | with_reducible apply sendStop_kept
    | with_reducible apply Ends.next
    | with_reducible apply Kept.ite

theorem execSafeInputSample_kept {a1} {a2} {a3} {a4} {s : State} (hs : Kept x s0 s) (x_trips : x .trips = true) : Ends (Kept x s0) (execSafeInputSample a1 a2 a3 a4 s) := by
  unfold execSafeInputSample
  repeat' first
    | with_reducible assumption
    | with_reducible apply sampleSafety_kept
    | with_reducible apply Ends.next

theorem execMonitorPointSample_kept {a1} {a2} {s : State} (hs : Kept x s0 s) : Ends (Kept x s0) (execMonitorPointSample a1 a2 s) := by
  unfold execMonitorPointSample
  repeat' first
    | with_reducible assumption
    | with_reducible apply samplePoints_kept
    | with_reducible apply Ends.next

theorem execSafeLinkFrameRx_kept {a1} {a2} {a3} {a4} {s : State} (hs : Kept x s0 s) : Ends (Kept x s0) (execSafeLinkFrameRx a1 a2 a3 a4 s) := by
  unfold execSafeLinkFrameRx
  repeat' first
    | with_reducible assumption
    | with_reducible apply publishFrame_kept
    | with_reducible apply safeFrame_kept
    | (extract_lets +onlyGivenNames st; have hst : Kept x s0 st := ?_; clear_value st; revert st; intro st2 hst2)
    | with_reducible apply Ends.next
    | (dsimp -zeta only [st]; clear st)
    | with_reducible apply Kept.ite

theorem execSafeLinkLost_kept {a1} {a2} {s : State} (hs : Kept x s0 s) : Ends (Kept x s0) (execSafeLinkLost a1 a2 s) := by
  unfold execSafeLinkLost
  repeat' first
    | with_reducible assumption
    | with_reducible apply State.onChan_kept
    | with_reducible apply State.each_kept
    | with_reducible apply latchTrip_kept
    | with_reducible exact fun w => MemsWf.same w rfl rfl
    | with_reducible exact CfgKept.same rfl
    | with_reducible exact TripsKept.same rfl rfl
    | (intro)
    | (extract_lets +onlyGivenNames st; have hst : Kept x s0 st := ?_; clear_value st; revert st; intro st2 hst2)
    | (extract_lets +onlyGivenNames yy; clear_value yy; revert yy; intro y2)
    | with_reducible apply Ends.next
    | with_reducible apply Kept.ite
    | split

theorem execCrossChannelExchange_kept {a1} {a2} {s : State} (hs : Kept x s0 s) : Ends (Kept x s0) (execCrossChannelExchange a1 a2 s) := by
  unfold execCrossChannelExchange
  repeat' first
    | with_reducible assumption
    | with_reducible apply State.onChan_kept
    | with_reducible apply latchTrip_kept
    | with_reducible exact fun w => MemsWf.same w rfl rfl
    | with_reducible exact CfgKept.same rfl
    | with_reducible exact TripsKept.same rfl rfl
    | (intro)
    | (extract_lets +onlyGivenNames st; have hst : Kept x s0 st := ?_; clear_value st; revert st; intro st2 hst2)
    | with_reducible apply Ends.next
    | (dsimp -zeta only [st]; clear st)
    | with_reducible apply Kept.ite
    | split

theorem execCrossMismatch_kept {s : State} (hs : Kept x s0 s) : Ends (Kept x s0) (execCrossMismatch s) := by
  unfold execCrossMismatch
  repeat' first
    | with_reducible assumption
    | with_reducible apply tripModule_kept
    | with_reducible exact CntKept.same rfl
    | with_reducible exact MemsKept.same rfl rfl
    | with_reducible exact fun w => MemsWf.same w rfl rfl
    | with_reducible exact FuseKept.same rfl rfl rfl
    | with_reducible exact SafetyKept.same rfl rfl rfl rfl
    | with_reducible exact CfgKept.same rfl
    | with_reducible exact TripsKept.same rfl rfl
    | with_reducible exact .inr rfl
    | (intro)
    | with_reducible apply Ends.next
    | with_reducible apply Kept.ite
    | split

theorem execOtherChannelLoss_kept {a1} {s : State} (hs : Kept x s0 s) : Ends (Kept x s0) (execOtherChannelLoss a1 s) := by
  unfold execOtherChannelLoss
  repeat' first
    | with_reducible assumption
    | with_reducible apply latchTrip_kept
    | with_reducible apply Ends.next

theorem execTripRequestRx_kept {a1} {a2} {a3} {s : State} (hs : Kept x s0 s) : Ends (Kept x s0) (execTripRequestRx a1 a2 a3 s) := by
  unfold execTripRequestRx
  repeat' first
    | with_reducible assumption
    | with_reducible apply latchTrip_kept
    | with_reducible apply Ends.next

theorem execSwitchTest_kept {a1} {a2} {a3} {s : State} (hs : Kept x s0 s) : Ends (Kept x s0) (execSwitchTest a1 a2 a3 s) := by
  unfold execSwitchTest
  repeat' first
    | with_reducible assumption
    | with_reducible apply latchTrip_kept
    | with_reducible apply Ends.next
    | with_reducible apply Kept.ite

theorem execStoLineLimit_kept {a1} {s : State} (hs : Kept x s0 s) : Ends (Kept x s0) (execStoLineLimit a1 s) := by
  unfold execStoLineLimit
  repeat' first
    | with_reducible assumption
    | with_reducible apply tripModule_kept
    | with_reducible apply Ends.next
    | with_reducible apply Kept.ite

theorem execSs1End_kept {a1} {a2} {s : State} (hs : Kept x s0 s) : Ends (Kept x s0) (execSs1End a1 a2 s) := by
  unfold execSs1End
  repeat' first
    | with_reducible assumption
    | with_reducible apply endSs1_kept
    | (extract_lets +onlyGivenNames yy; clear_value yy; revert yy; intro y2)
    | with_reducible apply Ends.next
    | with_reducible apply Kept.ite

theorem execBrakeFeedbackTimeout_kept {a1} {a2} {s : State} (hs : Kept x s0 s) : Ends (Kept x s0) (execBrakeFeedbackTimeout a1 a2 s) := by
  unfold execBrakeFeedbackTimeout
  repeat' first
    | with_reducible assumption
    | with_reducible apply latchTrip_kept
    | with_reducible apply State.onChan_kept
    | with_reducible exact fun w => MemsWf.same w rfl rfl
    | with_reducible exact CfgKept.same rfl
    | with_reducible exact TripsKept.same rfl rfl
    | (intro)
    | (extract_lets +onlyGivenNames yy; clear_value yy; revert yy; intro y2)
    | with_reducible apply Ends.next
    | with_reducible apply Kept.ite
    | split

theorem execResetDisagree_kept {a1} {a2} {s : State} (hs : Kept x s0 s) : Ends (Kept x s0) (execResetDisagree a1 a2 s) := by
  have h1 : ∀ f : ChanSt → Tab (List Nat), Kept x s0 (s.onChan a1 fun y => { y with cleared := f y }) := fun f =>
    State.onChan_kept hs (fun _ => .inr rfl) fun _ => TripsKept.same rfl rfl
  unfold execResetDisagree
  refine Ends.next ?_
  dsimp only
  split
  · refine safetyEvent_kept (State.onChan_kept (h1 _) (fun y => .inr ?_) fun y => .inr fun n c h => mem_latchOf_setLatch h)
    unfold setLatch; split <;> rfl
  · exact h1 _

theorem execSafetyCoreFault_kept {s : State} (hs : Kept x s0 s) : Ends (Kept x s0) (execSafetyCoreFault s) := by
  unfold execSafetyCoreFault
  repeat' first
    | with_reducible assumption
    | with_reducible apply haltCore_kept
    | with_reducible apply Ends.next
    | with_reducible apply Kept.ite

theorem execScarpInternalFault_kept {s : State} (hs : Kept x s0 s) : Ends (Kept x s0) (execScarpInternalFault s) := by
  unfold execScarpInternalFault
  repeat' first
    | with_reducible assumption
    | with_reducible apply latchTrip_kept
    | with_reducible apply Ends.next

theorem redEvent_kept {s : State} {a2} {a3} {a4} (hs : Kept x s0 s) : Kept x s0 (redEvent s a2 a3 a4) := by
  unfold redEvent
  repeat' first
    | with_reducible assumption
    | with_reducible apply codeEvent_kept

theorem execPairSafeFrameRx_kept {a1} {a2} {s : State} (hs : Kept x s0 s) : Ends (Kept x s0) (execPairSafeFrameRx a1 a2 s) := by
  unfold execPairSafeFrameRx
  repeat' first
    | with_reducible assumption
    | with_reducible apply State.onChan_kept
    | with_reducible apply latchTrip_kept
    | with_reducible apply State.each_kept
    | with_reducible apply bump_kept
    | with_reducible exact fun w => MemsWf.same w rfl rfl
    | with_reducible exact CfgKept.same rfl
    | with_reducible exact TripsKept.same rfl rfl
    | (intro)
    | (extract_lets +onlyGivenNames st; have hst : Kept x s0 st := ?_; clear_value st; revert st; intro st2 hst2)
    | (extract_lets +onlyGivenNames yy; clear_value yy; revert yy; intro y2)
    | with_reducible apply Ends.next
    | (dsimp -zeta only [st]; clear st)
    | with_reducible apply Kept.ite
    | split

theorem execPairExchangeLoss_kept {a1} {a2} {s : State} (hs : Kept x s0 s) : Ends (Kept x s0) (execPairExchangeLoss a1 a2 s) := by
  unfold execPairExchangeLoss
  repeat' first
    | with_reducible assumption
    | with_reducible apply State.onRed_kept
    | with_reducible apply State.onChan_kept
    | with_reducible apply redEvent_kept
    | with_reducible exact fun w => MemsWf.same w rfl rfl
    | with_reducible exact CfgKept.same rfl
    | with_reducible exact TripsKept.same rfl rfl
    | (intro)
    | (extract_lets +onlyGivenNames st; have hst : Kept x s0 st := ?_; clear_value st; revert st; intro st2 hst2)
    | (extract_lets +onlyGivenNames yy; clear_value yy; revert yy; intro y2)
    | with_reducible apply Ends.next
    | with_reducible apply Kept.ite
    | split

theorem execSafetyStatus_kept {a1} {s : State} (hs : Kept x s0 s) : Ends (Kept x s0) (execSafetyStatus a1 s) := by
  unfold execSafetyStatus
  repeat' first
    | with_reducible assumption
    | with_reducible apply serve_kept
    | with_reducible apply ok_kept
    | (intro)
    | with_reducible apply Ends.next

theorem execSafetyConfigCrc_kept {a1} {s : State} (hs : Kept x s0 s) : Ends (Kept x s0) (execSafetyConfigCrc a1 s) := by
  unfold execSafetyConfigCrc
  repeat' first
    | with_reducible assumption
    | with_reducible apply serve_kept
    | with_reducible apply ok_kept
    | (intro)
    | with_reducible apply Ends.next

theorem execSafetyChangelogRead_kept {a1} {s : State} (hs : Kept x s0 s) : Ends (Kept x s0) (execSafetyChangelogRead a1 s) := by
  unfold execSafetyChangelogRead
  repeat' first
    | with_reducible assumption
    | with_reducible apply serve_kept
    | with_reducible apply ok_kept
    | (intro)
    | (extract_lets +onlyGivenNames yy; clear_value yy; revert yy; intro y2)
    | with_reducible apply Ends.next

theorem wrongPassword_kept {s : State} {a2} (hs : Kept x s0 s) : Kept x s0 (wrongPassword s a2) := by
  unfold wrongPassword
  repeat' first
    | with_reducible assumption
    | with_reducible apply safetyEvent_kept
    | with_reducible apply State.onSafety_kept
    | with_reducible apply logWrite_kept
    | with_reducible exact SafetyKept.same rfl rfl rfl rfl
    | with_reducible exact fun w => MemsWf.same w rfl rfl
    | (intro)
    | (extract_lets +onlyGivenNames st; have hst : Kept x s0 st := ?_; clear_value st; revert st; intro st2 hst2)
    | (extract_lets +onlyGivenNames yy; clear_value yy; revert yy; intro y2)
    | with_reducible apply Kept.ite

theorem openSession_kept {s : State} {a2} {a3} {a4} (hs : Kept x s0 s) : Kept x s0 (openSession s a2 a3 a4) := by
  unfold openSession
  repeat' first
    | with_reducible assumption
    | with_reducible apply draw_kept_proj
    | with_reducible apply State.onSafety_kept
    | with_reducible apply safetyEvent_kept
    | with_reducible apply tripModule_kept
    | with_reducible apply ok_kept
    | with_reducible exact SafetyKept.same rfl rfl rfl rfl
    | with_reducible exact fun w => MemsWf.same w rfl rfl
    | (intro)

theorem execSafetySessionOpen_kept {a1} {s : State} (hs : Kept x s0 s) : Ends (Kept x s0) (execSafetySessionOpen a1 s) := by
  unfold execSafetySessionOpen
  repeat' first
    | with_reducible assumption
    | with_reducible apply serve_kept
    | with_reducible apply refused_kept
    | with_reducible apply denied_kept
    | with_reducible apply openSession_kept
    | with_reducible apply wrongPassword_kept
    | (intro)
    | (extract_lets +onlyGivenNames yy; clear_value yy; revert yy; intro y2)
    | with_reducible apply Ends.next
    | with_reducible apply Kept.ite
    | split

theorem execSafetyConfigWrite_kept {a1} {s : State} (hs : Kept x s0 s) : Ends (Kept x s0) (execSafetyConfigWrite a1 s) := by
  unfold execSafetyConfigWrite
  repeat' first
    | with_reducible assumption
    | with_reducible apply serve_kept
    | with_reducible apply denied_kept
    | with_reducible apply ok_kept
    | with_reducible apply State.onSafety_kept
    | with_reducible exact SafetyKept.same rfl rfl rfl rfl
    | with_reducible exact fun w => MemsWf.same w rfl rfl
    | (intro)
    | (extract_lets +onlyGivenNames yy; clear_value yy; revert yy; intro y2)
    | with_reducible apply Ends.next
    | split

theorem commitSession_kept {s : State} {a2} {a3} (hs : Kept x s0 s) (x_cfg : x .cfg = true) : Kept x s0 (commitSession s a2 a3) := by
  have h := fun cfg => State.onSafety_kept hs (f := fun y => { y with
    core := { y.core with image := a2.pending, cfg }, scarp := { y.scarp with image := a2.pending, cfg }
    session := none, crcBad := false })
    fun _ => ⟨Nat.le_refl _, .inl x_cfg, .inl x_cfg, TripsKept.same rfl rfl, .inr rfl⟩
  unfold commitSession
  dsimp only
  split
  · exact logWrite_kept (h _)
  · exact logWrite_kept (State.onSafety_kept (draw_kept_proj (logWrite_kept (h _)))
      fun _ => ⟨Nat.le_refl _, .inr rfl, .inr rfl, TripsKept.rfl', .inl x_cfg⟩)

theorem execSafetySessionClose_kept {a1} {s : State} (hs : Kept x s0 s) (x_cfg : x .cfg = true) : Ends (Kept x s0) (execSafetySessionClose a1 s) := by
  unfold execSafetySessionClose
  repeat' first
    | with_reducible assumption
    | with_reducible apply serve_kept
    | with_reducible apply denied_kept
    | with_reducible apply ok_kept
    | with_reducible apply safetyEvent_kept
    | with_reducible apply State.onSafety_kept
    | with_reducible refine draw_kept (by assumption) ?_
    | with_reducible apply refused_kept
    | with_reducible apply commitSession_kept
    | with_reducible exact SafetyKept.same rfl rfl rfl rfl
    | with_reducible exact fun w => MemsWf.same w rfl rfl
    | (intro)
    | (extract_lets +onlyGivenNames st; have hst : Kept x s0 st := ?_; clear_value st; revert st; intro st2 hst2)
    | (extract_lets +onlyGivenNames yy; clear_value yy; revert yy; intro y2)
    | with_reducible apply Ends.next
    | with_reducible apply Kept.ite
    | split

theorem execSessionIdleClose_kept {s : State} (hs : Kept x s0 s) : Ends (Kept x s0) (execSessionIdleClose s) := by
  unfold execSessionIdleClose
  repeat' first
    | with_reducible assumption
    | with_reducible apply safetyEvent_kept
    | with_reducible apply State.onSafety_kept
    | with_reducible exact SafetyKept.same rfl rfl rfl rfl
    | with_reducible exact fun w => MemsWf.same w rfl rfl
    | (intro)
    | with_reducible apply Ends.next
    | with_reducible apply Kept.ite

theorem execPasswordLockoutEnd_kept {s : State} (hs : Kept x s0 s) : Ends (Kept x s0) (execPasswordLockoutEnd s) := by
  unfold execPasswordLockoutEnd
  repeat' first
    | with_reducible assumption
    | with_reducible apply State.onSafety_kept
    | with_reducible exact SafetyKept.same rfl rfl rfl rfl
    | with_reducible exact fun w => MemsWf.same w rfl rfl
    | (intro)
    | with_reducible apply Ends.next

/-! ## Machine/Traverse.lean -/

theorem callEvent_kept {s : State} {a2} {a3} {a4} {a5} {a6} (hs : Kept x s0 s) : Kept x s0 (callEvent s a2 a3 a4 a5 a6) := by
  unfold callEvent
  repeat' first
    | with_reducible assumption
    | with_reducible apply raise_kept
    | with_reducible apply bump_kept

theorem dropCalls_kept {s : State} {a2} {a3} (hs : Kept x s0 s) : Kept x s0 (dropCalls s a2 a3) := by
  unfold dropCalls
  repeat' first
    | with_reducible assumption
    | with_reducible apply setList_kept

theorem abandonCall_kept {s : State} {a2} {a3} (hs : Kept x s0 s) : Kept x s0 (abandonCall s a2 a3) := by
  unfold abandonCall
  repeat' first
    | with_reducible assumption
    | with_reducible apply State.onCall_kept
    | with_reducible apply callEvent_kept
    | with_reducible apply bump_kept

theorem unassignCall_kept {s : State} {a2} (hs : Kept x s0 s) : Kept x s0 (unassignCall s a2) := by
  unfold unassignCall
  repeat' first
    | with_reducible assumption
    | with_reducible apply State.onCall_kept
    | with_reducible apply callEvent_kept
    | with_reducible apply bump_kept

theorem assignCall_kept {s : State} {a2} {a3} (hs : Kept x s0 s) : Kept x s0 (assignCall s a2 a3) := by
  unfold assignCall
  repeat' first
    | with_reducible assumption
    | with_reducible apply State.each_kept
    | with_reducible apply setList_kept
    | with_reducible apply State.onCall_kept
    | with_reducible apply callEvent_kept
    | (intro)

theorem refreshShaft_kept {s : State} {a2} (hs : Kept x s0 s) : Kept x s0 (refreshShaft s a2) := by
  unfold refreshShaft
  repeat' first
    | with_reducible assumption
    | with_reducible apply State.each_kept
    | with_reducible apply setList_kept
    | with_reducible apply State.onCall_kept
    | (intro)
    | (extract_lets +onlyGivenNames yy; clear_value yy; revert yy; intro y2)
    | with_reducible apply Kept.ite
    | split

theorem submitDone_kept {s : State} {a2} {a3} (hs : Kept x s0 s) : Kept x s0 (submitDone s a2 a3) := by
  unfold submitDone
  repeat' first
    | with_reducible assumption
    | with_reducible apply ok_kept

theorem runSubmit_kept {s : State} {a2} {a3} (hs : Kept x s0 s) : Kept x s0 (runSubmit s a2 a3) := by
  unfold runSubmit
  repeat' first
    | with_reducible assumption
    | with_reducible apply refused_kept
    | with_reducible apply bump_kept
    | with_reducible apply State.onDisp_kept
    | with_reducible apply submitDone_kept
    | with_reducible apply unassignCall_kept
    | with_reducible apply assignCall_kept
    | with_reducible exact CntKept.same rfl
    | with_reducible exact MemsKept.same rfl rfl
    | with_reducible exact fun w => MemsWf.same w rfl rfl
    | with_reducible exact FuseKept.same rfl rfl rfl
    | with_reducible exact SafetyKept.same rfl rfl rfl rfl
    | with_reducible exact CfgKept.same rfl
    | with_reducible exact TripsKept.same rfl rfl
    | with_reducible exact .inr rfl
    | (intro)
    | (extract_lets +onlyGivenNames st; have hst : Kept x s0 st := ?_; clear_value st; revert st; intro st2 hst2)
    | (extract_lets +onlyGivenNames yy; clear_value yy; revert yy; intro y2)
    | (dsimp -zeta only [st]; clear st)
    | with_reducible apply Kept.ite
    | split

theorem runWaiting_kept {a1} {s : State} (hs : Kept x s0 s) : Kept x s0 (runWaiting a1 s) := by
  induction a1 generalizing s with
  | zero => exact hs
  | succ k ih =>
    unfold runWaiting
    repeat' first
        | with_reducible assumption
        | with_reducible apply runSubmit_kept
        | with_reducible apply State.onDisp_kept
        | with_reducible apply ih
        | split

theorem execCallSubmit_kept {a1} {a2} {s : State} (hs : Kept x s0 s) : Ends (Kept x s0) (execCallSubmit a1 a2 s) := by
  unfold execCallSubmit
  repeat' first
    | with_reducible assumption
    | with_reducible apply serve_kept
    | with_reducible apply State.onDisp_kept
    | with_reducible apply runSubmit_kept
    | (intro)
    | (extract_lets +onlyGivenNames yy; clear_value yy; revert yy; intro y2)
    | with_reducible apply Ends.next
    | with_reducible apply Kept.ite

theorem execCallStatus_kept {a1} {s : State} (hs : Kept x s0 s) : Ends (Kept x s0) (execCallStatus a1 s) := by
  unfold execCallStatus
  repeat' first
    | with_reducible assumption
    | with_reducible apply serve_kept
    | with_reducible apply ok_kept
    | (intro)
    | (extract_lets +onlyGivenNames yy; clear_value yy; revert yy; intro y2)
    | with_reducible apply Ends.next

theorem execCallCancel_kept {a1} {s : State} (hs : Kept x s0 s) : Ends (Kept x s0) (execCallCancel a1 s) := by
  unfold execCallCancel
  repeat' first
    | with_reducible assumption
    | with_reducible apply serve_kept
    | with_reducible apply State.onDisp_kept
    | with_reducible apply ok_kept
    | with_reducible apply refused_kept
    | (intro)
    | (extract_lets +onlyGivenNames yy; clear_value yy; revert yy; intro y2)
    | with_reducible apply Ends.next
    | split

theorem execCarStoplist_kept {a1} {s : State} (hs : Kept x s0 s) : Ends (Kept x s0) (execCarStoplist a1 s) := by
  unfold execCarStoplist
  repeat' first
    | with_reducible assumption
    | with_reducible apply serve_kept
    | with_reducible apply noSuch_kept
    | with_reducible apply ok_kept
    | with_reducible apply foldl_kept
    | with_reducible apply foldl_kept_fst
    | with_reducible exact CntKept.same rfl
    | with_reducible exact MemsKept.same rfl rfl
    | with_reducible exact fun w => MemsWf.same w rfl rfl
    | with_reducible exact FuseKept.same rfl rfl rfl
    | with_reducible exact SafetyKept.same rfl rfl rfl rfl
    | with_reducible exact CfgKept.same rfl
    | with_reducible exact TripsKept.same rfl rfl
    | with_reducible exact .inr rfl
    | (intro)
    | (extract_lets +onlyGivenNames st; have hst : Kept x s0 st := ?_; clear_value st; revert st; intro st2 hst2)
    | (extract_lets +onlyGivenNames fn; have hfn : ∀ z, Kept x s0 z → Kept x s0 (fn z) := ?_; clear_value fn; revert fn; intro fn2 hfn)
    | (extract_lets +onlyGivenNames yy; clear_value yy; revert yy; intro y2)
    | with_reducible apply Ends.next
    | (dsimp -zeta only [st]; clear st)
    | (dsimp -zeta only [fn]; clear fn)
    | with_reducible apply Kept.ite
    | split

theorem takeStops_kept_proj {s : State} {a2} {a3} (hs : Kept x s0 s) : Kept x s0 (takeStops s a2 a3).1 := by
  unfold takeStops
  repeat' first
    | with_reducible assumption
    | with_reducible apply dropCalls_kept

theorem takeStops_kept {s : State} {a2} {a3} {w1} {w2} {v : State} (e : takeStops s a2 a3 = (v, w1, w2)) (hs : Kept x s0 s) : Kept x s0 v := by
  have w := takeStops_kept_proj hs (x := x) (a2 := a2) (a3 := a3)
  rw [e] at w
  exact w

theorem returnCalls_kept {s : State} {a2} {a3} (hs : Kept x s0 s) : Kept x s0 (returnCalls s a2 a3) := by
  unfold returnCalls
  repeat' first
    | with_reducible assumption
    | with_reducible apply State.each_kept
    | with_reducible apply State.onCall_kept
    | with_reducible exact CntKept.same rfl
    | with_reducible exact MemsKept.same rfl rfl
    | with_reducible exact fun w => MemsWf.same w rfl rfl
    | with_reducible exact FuseKept.same rfl rfl rfl
    | with_reducible exact SafetyKept.same rfl rfl rfl rfl
    | with_reducible exact CfgKept.same rfl
    | with_reducible exact TripsKept.same rfl rfl
    | with_reducible exact .inr rfl
    | (intro)
    | with_reducible apply Kept.ite
    | split

theorem returnAll_kept_proj {s : State} {a2} {a3} {a4} {a5} (hs : Kept x s0 s) : Kept x s0 (returnAll s a2 a3 a4 a5).1 := by
  unfold returnAll
  repeat' first
    | with_reducible assumption
    | with_reducible apply takeStops_kept_proj
    | with_reducible apply State.each_kept
    | with_reducible apply abandonCall_kept
    | with_reducible apply setList_kept
    | with_reducible apply returnCalls_kept
    | (intro)

theorem returnAll_kept {s : State} {a2} {a3} {a4} {a5} {w1} {v : State} (e : returnAll s a2 a3 a4 a5 = (v, w1)) (hs : Kept x s0 s) : Kept x s0 v := by
  have w := returnAll_kept_proj hs (x := x) (a2 := a2) (a3 := a3) (a4 := a4) (a5 := a5)
  rw [e] at w
  exact w

theorem returnHead_kept_proj {s : State} {a2} {a3} {a4} (hs : Kept x s0 s) : Kept x s0 (returnHead s a2 a3 a4).1 := by
  unfold returnHead
  repeat' first
    | with_reducible assumption
    | with_reducible apply takeStops_kept_proj
    | with_reducible apply setList_kept
    | with_reducible apply returnCalls_kept
    | split

theorem returnHead_kept {s : State} {a2} {a3} {a4} {w1} {v : State} (e : returnHead s a2 a3 a4 = (v, w1)) (hs : Kept x s0 s) : Kept x s0 v := by
  have w := returnHead_kept_proj hs (x := x) (a2 := a2) (a3 := a3) (a4 := a4)
  rw [e] at w
  exact w

theorem completeCall_kept {s : State} {a2} {a3} {a4} (hs : Kept x s0 s) : Kept x s0 (completeCall s a2 a3 a4) := by
  unfold completeCall
  repeat' first
    | with_reducible assumption
    | with_reducible apply State.onCall_kept
    | with_reducible apply callEvent_kept
    | with_reducible apply State.onDisp_kept
    | with_reducible exact CntKept.same rfl
    | with_reducible exact MemsKept.same rfl rfl
    | with_reducible exact fun w => MemsWf.same w rfl rfl
    | with_reducible exact FuseKept.same rfl rfl rfl
    | with_reducible exact SafetyKept.same rfl rfl rfl rfl
    | with_reducible exact CfgKept.same rfl
    | with_reducible exact TripsKept.same rfl rfl
    | with_reducible exact .inr rfl
    | (intro)
    | (extract_lets +onlyGivenNames st; have hst : Kept x s0 st := ?_; clear_value st; revert st; intro st2 hst2)
    | (extract_lets +onlyGivenNames yy; clear_value yy; revert yy; intro y2)
    | (dsimp -zeta only [st]; clear st)
    | with_reducible apply Kept.ite
    | split

theorem meetCall_kept {s : State} {a2} {a3} (hs : Kept x s0 s) : Kept x s0 (meetCall s a2 a3) := by
  unfold meetCall
  repeat' first
    | with_reducible assumption
    | with_reducible apply callEvent_kept
    | with_reducible apply State.onCall_kept
    | with_reducible exact CntKept.same rfl
    | with_reducible exact MemsKept.same rfl rfl
    | with_reducible exact fun w => MemsWf.same w rfl rfl
    | with_reducible exact FuseKept.same rfl rfl rfl
    | with_reducible exact SafetyKept.same rfl rfl rfl rfl
    | with_reducible exact CfgKept.same rfl
    | with_reducible exact TripsKept.same rfl rfl
    | with_reducible exact .inr rfl
    | (intro)
    | with_reducible apply Kept.ite
    | split

theorem serveStop_kept {s : State} {a2} (hs : Kept x s0 s) : Kept x s0 (serveStop s a2) := by
  unfold serveStop
  repeat' first
    | with_reducible assumption
    | with_reducible apply State.each_kept
    | with_reducible apply completeCall_kept
    | with_reducible apply meetCall_kept
    | with_reducible apply State.onCall_kept
    | with_reducible apply setList_kept
    | with_reducible exact CntKept.same rfl
    | with_reducible exact MemsKept.same rfl rfl
    | with_reducible exact fun w => MemsWf.same w rfl rfl
    | with_reducible exact FuseKept.same rfl rfl rfl
    | with_reducible exact SafetyKept.same rfl rfl rfl rfl
    | with_reducible exact CfgKept.same rfl
    | with_reducible exact TripsKept.same rfl rfl
    | with_reducible exact .inr rfl
    | (intro)
    | (extract_lets +onlyGivenNames st; have hst : Kept x s0 st := ?_; clear_value st; revert st; intro st2 hst2)
    | (extract_lets +onlyGivenNames yy; clear_value yy; revert yy; intro y2)
    | (dsimp -zeta only [st]; clear st)
    | with_reducible apply Kept.ite
    | split

theorem applyArrived_kept {s : State} {a2} {a3} (hs : Kept x s0 s) : Kept x s0 (applyArrived s a2 a3) := by
  unfold applyArrived
  repeat' first
    | with_reducible assumption
    | with_reducible apply State.onDisp_kept
    | with_reducible apply setList_kept
    | with_reducible apply State.each_kept
    | with_reducible apply meetCall_kept
    | with_reducible exact CntKept.same rfl
    | with_reducible exact MemsKept.same rfl rfl
    | with_reducible exact fun w => MemsWf.same w rfl rfl
    | with_reducible exact FuseKept.same rfl rfl rfl
    | with_reducible exact SafetyKept.same rfl rfl rfl rfl
    | with_reducible exact CfgKept.same rfl
    | with_reducible exact TripsKept.same rfl rfl
    | with_reducible exact .inr rfl
    | (intro)
    | (extract_lets +onlyGivenNames st; have hst : Kept x s0 st := ?_; clear_value st; revert st; intro st2 hst2)
    | (extract_lets +onlyGivenNames yy; clear_value yy; revert yy; intro y2)
    | (dsimp -zeta only [st]; clear st)
    | with_reducible apply Kept.ite
    | split

theorem applyUpdate_kept_proj {s : State} {a2} (hs : Kept x s0 s) : Kept x s0 (applyUpdate s a2).1 := by
  unfold applyUpdate
  repeat' first
    | with_reducible assumption
    | with_reducible apply applyArrived_kept
    | with_reducible apply setList_kept
    | with_reducible apply serveStop_kept
    | with_reducible apply returnHead_kept_proj
    | with_reducible refine returnHead_kept (by assumption) ?_
    | with_reducible apply returnAll_kept_proj
    | with_reducible refine returnAll_kept (by assumption) ?_
    | with_reducible apply takeStops_kept_proj
    | with_reducible refine takeStops_kept (by assumption) ?_
    | with_reducible apply returnCalls_kept
    | with_reducible apply dropCalls_kept
    | with_reducible apply State.each_kept
    | with_reducible apply abandonCall_kept
    | with_reducible apply State.onCar_kept
    | with_reducible apply foldl_kept
    | with_reducible apply foldl_kept_fst
    | with_reducible exact CntKept.same rfl
    | with_reducible exact MemsKept.same rfl rfl
    | with_reducible exact fun w => MemsWf.same w rfl rfl
    | with_reducible exact FuseKept.same rfl rfl rfl
    | with_reducible exact SafetyKept.same rfl rfl rfl rfl
    | with_reducible exact CfgKept.same rfl
    | with_reducible exact TripsKept.same rfl rfl
    | with_reducible exact .inr rfl
    | (intro)
    | (extract_lets +onlyGivenNames st; have hst : Kept x s0 st := ?_; clear_value st; revert st; intro st2 hst2)
    | (extract_lets +onlyGivenNames fn; have hfn : ∀ z, Kept x s0 z → Kept x s0 (fn z) := ?_; clear_value fn; revert fn; intro fn2 hfn)
    | (dsimp -zeta only [st]; clear st)
    | (dsimp -zeta only [fn]; clear fn)
    | with_reducible apply foldl_kept_fst
    | (extract_lets +onlyGivenNames yy; clear_value yy; revert yy; intro y2)
    | with_reducible apply Kept.ite
    | split

theorem applyUpdate_kept {s : State} {a2} {w1} {v : State} (e : applyUpdate s a2 = (v, w1)) (hs : Kept x s0 s) : Kept x s0 v := by
  have w := applyUpdate_kept_proj hs (x := x) (a2 := a2)
  rw [e] at w
  exact w

theorem keepCall_kept {s : State} {a2} {a3} (hs : Kept x s0 s) : Kept x s0 (keepCall s a2 a3) := by
  unfold keepCall
  repeat' first
    | with_reducible assumption
    | with_reducible apply State.each_kept
    | with_reducible apply setList_kept
    | with_reducible apply State.onCall_kept
    | with_reducible apply callEvent_kept
    | with_reducible exact CntKept.same rfl
    | with_reducible exact MemsKept.same rfl rfl
    | with_reducible exact fun w => MemsWf.same w rfl rfl
    | with_reducible exact FuseKept.same rfl rfl rfl
    | with_reducible exact SafetyKept.same rfl rfl rfl rfl
    | with_reducible exact CfgKept.same rfl
    | with_reducible exact TripsKept.same rfl rfl
    | with_reducible exact .inr rfl
    | (intro)
    | (extract_lets +onlyGivenNames st; have hst : Kept x s0 st := ?_; clear_value st; revert st; intro st2 hst2)
    | (extract_lets +onlyGivenNames yy; clear_value yy; revert yy; intro y2)
    | (dsimp -zeta only [st]; clear st)
    | with_reducible apply Kept.ite
    | split

theorem evaluateAgain_kept {s : State} {a2} (hs : Kept x s0 s) : Kept x s0 (evaluateAgain s a2) := by
  unfold evaluateAgain
  repeat' first
    | with_reducible assumption
    | with_reducible apply keepCall_kept
    | with_reducible apply assignCall_kept
    | with_reducible apply unassignCall_kept
    | with_reducible exact CntKept.same rfl
    | with_reducible exact MemsKept.same rfl rfl
    | with_reducible exact fun w => MemsWf.same w rfl rfl
    | with_reducible exact FuseKept.same rfl rfl rfl
    | with_reducible exact SafetyKept.same rfl rfl rfl rfl
    | with_reducible exact CfgKept.same rfl
    | with_reducible exact TripsKept.same rfl rfl
    | with_reducible exact .inr rfl
    | (intro)
    | (extract_lets +onlyGivenNames st; have hst : Kept x s0 st := ?_; clear_value st; revert st; intro st2 hst2)
    | (extract_lets +onlyGivenNames yy; clear_value yy; revert yy; intro y2)
    | (dsimp -zeta only [st]; clear st)
    | with_reducible apply Kept.ite
    | split

theorem settleCancel_kept {s : State} {a2} {a3} (hs : Kept x s0 s) : Kept x s0 (settleCancel s a2 a3) := by
  unfold settleCancel
  repeat' first
    | with_reducible assumption
    | with_reducible apply dropCalls_kept
    | with_reducible apply State.onCall_kept
    | with_reducible apply ok_kept
    | with_reducible apply callEvent_kept
    | with_reducible apply bump_kept
    | with_reducible apply refused_kept
    | (extract_lets +onlyGivenNames st; have hst : Kept x s0 st := ?_; clear_value st; revert st; intro st2 hst2)
    | (extract_lets +onlyGivenNames yy; clear_value yy; revert yy; intro y2)
    | (dsimp -zeta only [st]; clear st)
    | with_reducible apply Kept.ite
    | split

theorem evaluateAll_kept {s : State} {a2} (hs : Kept x s0 s) : Kept x s0 (evaluateAll s a2) := by
  unfold evaluateAll
  repeat' first
    | with_reducible assumption
    | with_reducible apply State.each_kept
    | with_reducible apply evaluateAgain_kept
    | with_reducible apply foldl_kept
    | with_reducible apply foldl_kept_fst
    | with_reducible exact CntKept.same rfl
    | with_reducible exact MemsKept.same rfl rfl
    | with_reducible exact fun w => MemsWf.same w rfl rfl
    | with_reducible exact FuseKept.same rfl rfl rfl
    | with_reducible exact SafetyKept.same rfl rfl rfl rfl
    | with_reducible exact CfgKept.same rfl
    | with_reducible exact TripsKept.same rfl rfl
    | with_reducible exact .inr rfl
    | (intro)
    | with_reducible apply Kept.ite
    | split

theorem runDue_kept {s : State} (hs : Kept x s0 s) : Kept x s0 (runDue s) := by
  unfold runDue
  repeat' first
    | with_reducible assumption
    | with_reducible apply evaluateAll_kept
    | with_reducible apply State.onDisp_kept
    | with_reducible exact CntKept.same rfl
    | with_reducible exact MemsKept.same rfl rfl
    | with_reducible exact fun w => MemsWf.same w rfl rfl
    | with_reducible exact FuseKept.same rfl rfl rfl
    | with_reducible exact SafetyKept.same rfl rfl rfl rfl
    | with_reducible exact CfgKept.same rfl
    | with_reducible exact TripsKept.same rfl rfl
    | with_reducible exact .inr rfl
    | (intro)
    | with_reducible apply Kept.ite
    | split

theorem applyMotion_kept {s : State} (hs : Kept x s0 s) : Kept x s0 (applyMotion s) := by
  unfold applyMotion
  repeat' first
    | with_reducible assumption
    | with_reducible apply State.onDisp_kept
    | with_reducible apply applyUpdate_kept_proj
    | with_reducible refine applyUpdate_kept (by assumption) ?_
    | with_reducible apply State.each_kept
    | with_reducible apply serveStop_kept
    | with_reducible apply settleCancel_kept
    | with_reducible apply evaluateAll_kept
    | with_reducible apply refreshShaft_kept
    | with_reducible apply foldl_kept
    | with_reducible apply foldl_kept_fst
    | with_reducible exact CntKept.same rfl
    | with_reducible exact MemsKept.same rfl rfl
    | with_reducible exact fun w => MemsWf.same w rfl rfl
    | with_reducible exact FuseKept.same rfl rfl rfl
    | with_reducible exact SafetyKept.same rfl rfl rfl rfl
    | with_reducible exact CfgKept.same rfl
    | with_reducible exact TripsKept.same rfl rfl
    | with_reducible exact .inr rfl
    | (intro)
    | (extract_lets +onlyGivenNames st; have hst : Kept x s0 st := ?_; clear_value st; revert st; intro st2 hst2)
    | (dsimp -zeta only [st]; clear st)
    | split
    | with_reducible apply foldl_kept_fst
    | (extract_lets +onlyGivenNames yy; clear_value yy; revert yy; intro y2)
    | with_reducible apply Kept.ite

theorem execPolicyDeadline_kept {s : State} (hs : Kept x s0 s) : Ends (Kept x s0) (execPolicyDeadline s) := by
  unfold execPolicyDeadline
  repeat' first
    | with_reducible assumption
    | with_reducible apply bump_kept
    | with_reducible apply State.onDisp_kept
    | with_reducible apply submitDone_kept
    | with_reducible apply assignCall_kept
    | with_reducible apply unassignCall_kept
    | with_reducible apply applyMotion_kept
    | with_reducible apply runDue_kept
    | with_reducible apply runWaiting_kept
    | with_reducible exact CntKept.same rfl
    | with_reducible exact MemsKept.same rfl rfl
    | with_reducible exact fun w => MemsWf.same w rfl rfl
    | with_reducible exact FuseKept.same rfl rfl rfl
    | with_reducible exact SafetyKept.same rfl rfl rfl rfl
    | with_reducible exact CfgKept.same rfl
    | with_reducible exact TripsKept.same rfl rfl
    | with_reducible exact .inr rfl
    | (intro)
    | (extract_lets +onlyGivenNames st; have hst : Kept x s0 st := ?_; clear_value st; revert st; intro st2 hst2)
    | (extract_lets +onlyGivenNames yy; clear_value yy; revert yy; intro y2)
    | with_reducible apply Ends.next
    | (dsimp -zeta only [st]; clear st)
    | with_reducible apply Kept.ite
    | split

theorem execMotionUpdateApply_kept {s : State} (hs : Kept x s0 s) : Ends (Kept x s0) (execMotionUpdateApply s) := by
  unfold execMotionUpdateApply
  exact Ends.next (applyMotion_kept hs)

theorem execCallReevalTimer_kept {a1} {s : State} (hs : Kept x s0 s) : Ends (Kept x s0) (execCallReevalTimer a1 s) := by
  unfold execCallReevalTimer
  repeat' first
    | with_reducible assumption
    | with_reducible apply State.onDisp_kept
    | with_reducible apply evaluateAgain_kept
    | with_reducible exact CntKept.same rfl
    | with_reducible exact MemsKept.same rfl rfl
    | with_reducible exact fun w => MemsWf.same w rfl rfl
    | with_reducible exact FuseKept.same rfl rfl rfl
    | with_reducible exact SafetyKept.same rfl rfl rfl rfl
    | with_reducible exact CfgKept.same rfl
    | with_reducible exact TripsKept.same rfl rfl
    | with_reducible exact .inr rfl
    | (intro)
    | with_reducible apply Ends.next
    | with_reducible apply Kept.ite
    | split

theorem execUnassignedTimeout_kept {a1} {s : State} (hs : Kept x s0 s) : Ends (Kept x s0) (execUnassignedTimeout a1 s) := by
  unfold execUnassignedTimeout
  repeat' first
    | with_reducible assumption
    | with_reducible apply abandonCall_kept
    | with_reducible apply Ends.next
    | with_reducible apply Kept.ite

theorem execCallDiscard_kept {a1} {s : State} (hs : Kept x s0 s) : Ends (Kept x s0) (execCallDiscard a1 s) := by
  unfold execCallDiscard
  repeat' first
    | with_reducible assumption
    | with_reducible apply State.onDisp_kept
    | with_reducible apply Ends.next
    | with_reducible apply Kept.ite

end Sys2Proof.Machine
end

