-- ==== Sys2Proof/Laws/KeptShared.lean ====
section
/-! SUPPORT. What these operations keep: redundancy, several modules, the recorder, storage and power.
Each lemma says that its operation stays within the parts that `x` allows, for states that have stayed within them since
`s0`. -/

namespace Sys2Proof.Machine

open Sys2Proof

variable {x : Part → Bool} {s0 : State}

/-! ## Machine/RedOps.lean -/

theorem sendHeartbeats_kept {s : State} (hs : Kept x s0 s) : Kept x s0 (sendHeartbeats s) := by
  unfold sendHeartbeats
  repeat' first
    | with_reducible assumption
    | with_reducible apply State.onRed_kept

theorem declare_kept {s : State} {a2} (hs : Kept x s0 s) : Kept x s0 (declare s a2) := by
  unfold declare
  repeat' first
    | with_reducible assumption
    | with_reducible apply redEvent_kept
    | with_reducible apply State.onRed_kept
    | (extract_lets +onlyGivenNames yy; clear_value yy; revert yy; intro y2)
    | with_reducible apply Kept.ite
    | split

theorem undeclare_kept {s : State} {a2} (hs : Kept x s0 s) : Kept x s0 (undeclare s a2) := by
  unfold undeclare
  repeat' first
    | with_reducible assumption
    | with_reducible apply State.onRed_kept

theorem forwardOnly_kept {s : State} (hs : Kept x s0 s) : Kept x s0 (forwardOnly s) := by
  unfold forwardOnly
  repeat' first
    | with_reducible assumption
    | with_reducible apply State.each_kept
    | with_reducible apply State.onRing_kept
    | (intro)

theorem fence_kept {s : State} {a2} (hs : Kept x s0 s) : Kept x s0 (fence s a2) := by
  unfold fence
  repeat' first
    | with_reducible assumption
    | with_reducible apply forwardOnly_kept
    | with_reducible apply State.onRed_kept
    | with_reducible apply redEvent_kept
    | with_reducible apply quietCan_kept
    | with_reducible apply timedOut_kept
    | (extract_lets +onlyGivenNames st; have hst : Kept x s0 st := ?_; clear_value st; revert st; intro st2 hst2)
    | split

theorem takeLevels_kept {s : State} {a2} (hs : Kept x s0 s) : Kept x s0 (takeLevels s a2) := by
  unfold takeLevels
  repeat' first
    | with_reducible assumption
    | with_reducible apply State.onPow_kept
    | with_reducible apply State.each_kept
    | with_reducible apply setSleep_kept
    | (intro)

theorem judgeCheckpoint_kept {s : State} {a2} (hs : Kept x s0 s) : Kept x s0 (judgeCheckpoint s a2) := by
  unfold judgeCheckpoint
  repeat' first
    | with_reducible assumption
    | with_reducible apply State.onRed_kept
    | with_reducible apply takeLevels_kept
    | with_reducible apply redEvent_kept
    | with_reducible apply bump_kept
    | (extract_lets +onlyGivenNames st; have hst : Kept x s0 st := ?_; clear_value st; revert st; intro st2 hst2)
    | (extract_lets +onlyGivenNames yy; clear_value yy; revert yy; intro y2)
    | with_reducible apply Kept.ite

theorem runJournalled_kept {a1} {s : State} (hs : Kept x s0 s) : Kept x s0 (runJournalled a1 s) := by
  unfold runJournalled
  extract_lets fn
  have hfn : ∀ f, Ends (Kept x s0) (f a1 s) → Kept x s0 (fn f) := fun f h => by
    dsimp only [fn]
    generalize f a1 s = o at h
    cases h with
    | next h => exact h
  clear_value fn
  split <;> first
    | with_reducible assumption
    | (with_reducible apply hfn
       first
         | with_reducible apply execAxisDescLoad_kept
         | with_reducible apply execAxisCoefWrite_kept
         | with_reducible apply execAxisBankSelect_kept
         | with_reducible apply execAxisTableLoad_kept
         | with_reducible apply execAxisEnable_kept
         | with_reducible apply execAxisDisable_kept
         | with_reducible apply execProfileLimitsSet_kept
         | with_reducible apply execEnergyReserveSet_kept
         | with_reducible apply execShaftConfigLoad_kept
         | with_reducible apply execTuneInjectStart_kept
         | with_reducible apply execTuneInjectStop_kept
         | with_reducible apply execDoorPolicySet_kept
         | with_reducible apply execDioWrite_kept
         | with_reducible apply execDioSafeSet_kept
         | with_reducible apply execPwmConfig_kept
         | with_reducible apply execCanConfig_kept
         | with_reducible apply execCanWakeSet_kept
         | with_reducible apply execRingConfig_kept
       all_goals assumption)

theorem applyCommand_kept {s : State} {a2} (hs : Kept x s0 s) : Kept x s0 (applyCommand s a2) := by
  unfold applyCommand
  repeat' first
    | with_reducible assumption
    | with_reducible apply runJournalled_kept
    | with_reducible apply State.onHost_kept
    | with_reducible apply State.onRed_kept
    | (extract_lets +onlyGivenNames st; have hst : Kept x s0 st := ?_; clear_value st; revert st; intro st2 hst2)
    | (extract_lets +onlyGivenNames yy; clear_value yy; revert yy; intro y2)
    | with_reducible refine Kept.literal rfl rfl rfl rfl rfl rfl rfl ?_

theorem applyChange_kept {s : State} {a2} (hs : Kept x s0 s) : Kept x s0 (applyChange s a2) := by
  unfold applyChange
  repeat' first
    | with_reducible assumption
    | with_reducible apply applyCommand_kept
    | with_reducible apply State.onCar_kept
    | with_reducible apply State.onDoor_kept
    | with_reducible apply State.onAxis_kept
    | with_reducible apply State.onCall_kept
    | with_reducible apply setList_kept
    | with_reducible apply State.onDisp_kept
    | with_reducible apply foldl_kept
    | with_reducible apply foldl_kept_fst
    | with_reducible exact CntKept.same rfl
    | with_reducible exact MemsKept.same rfl rfl
    | with_reducible exact fun w => MemsWf.same w rfl rfl
    | with_reducible exact FuseKept.same rfl rfl rfl
    | with_reducible exact SafetyKept.same rfl rfl rfl rfl
    | with_reducible exact CfgKept.same rfl
    | with_reducible exact TripsKept.same rfl rfl
    | with_reducible exact .inr rfl
    | (intro)
    | (extract_lets +onlyGivenNames st; have hst : Kept x s0 st := ?_; clear_value st; revert st; intro st2 hst2)
    | (extract_lets +onlyGivenNames yy; clear_value yy; revert yy; intro y2)
    | (dsimp -zeta only [st]; clear st)
    | with_reducible apply Kept.ite
    | split

theorem loadCkAxis_kept {s : State} {a2} {a3} {a4} (hs : Kept x s0 s) : Kept x s0 (loadCkAxis s a2 a3 a4) := by
  unfold loadCkAxis
  repeat' first
    | with_reducible assumption
    | with_reducible apply State.onAxis_kept
    | with_reducible exact CntKept.same rfl
    | with_reducible exact MemsKept.same rfl rfl
    | with_reducible exact fun w => MemsWf.same w rfl rfl
    | with_reducible exact FuseKept.same rfl rfl rfl
    | with_reducible exact SafetyKept.same rfl rfl rfl rfl
    | with_reducible exact CfgKept.same rfl
    | with_reducible exact TripsKept.same rfl rfl
    | with_reducible exact .inr rfl
    | (intro)
    | (extract_lets +onlyGivenNames st; have hst : Kept x s0 st := ?_; clear_value st; revert st; intro st2 hst2)
    | (extract_lets +onlyGivenNames yy; clear_value yy; revert yy; intro y2)
    | (dsimp -zeta only [st]; clear st)
    | with_reducible apply Kept.ite
    | split

theorem loadCkCar_kept {s : State} {a2} {a3} {a4} (hs : Kept x s0 s) : Kept x s0 (loadCkCar s a2 a3 a4) := by
  unfold loadCkCar
  repeat' first
    | with_reducible assumption
    | with_reducible apply State.onCar_kept
    | with_reducible apply State.onShaft_kept
    | with_reducible apply foldl_kept
    | with_reducible apply foldl_kept_fst
    | with_reducible exact CntKept.same rfl
    | with_reducible exact MemsKept.same rfl rfl
    | with_reducible exact fun w => MemsWf.same w rfl rfl
    | with_reducible exact FuseKept.same rfl rfl rfl
    | with_reducible exact SafetyKept.same rfl rfl rfl rfl
    | with_reducible exact CfgKept.same rfl
    | with_reducible exact TripsKept.same rfl rfl
    | with_reducible exact .inr rfl
    | (intro)
    | (extract_lets +onlyGivenNames st; have hst : Kept x s0 st := ?_; clear_value st; revert st; intro st2 hst2)
    | (extract_lets +onlyGivenNames yy; clear_value yy; revert yy; intro y2)
    | (dsimp -zeta only [st]; clear st)
    | with_reducible apply Kept.ite
    | split

theorem loadCkShaft_kept {s : State} {a2} {a3} {a4} (hs : Kept x s0 s) : Kept x s0 (loadCkShaft s a2 a3 a4) := by
  unfold loadCkShaft
  repeat' first
    | with_reducible assumption
    | with_reducible apply State.onShaft_kept
    | with_reducible exact CntKept.same rfl
    | with_reducible exact MemsKept.same rfl rfl
    | with_reducible exact fun w => MemsWf.same w rfl rfl
    | with_reducible exact FuseKept.same rfl rfl rfl
    | with_reducible exact SafetyKept.same rfl rfl rfl rfl
    | with_reducible exact CfgKept.same rfl
    | with_reducible exact TripsKept.same rfl rfl
    | with_reducible exact .inr rfl
    | (intro)
    | (extract_lets +onlyGivenNames st; have hst : Kept x s0 st := ?_; clear_value st; revert st; intro st2 hst2)
    | (extract_lets +onlyGivenNames yy; clear_value yy; revert yy; intro y2)
    | with_reducible apply Kept.ite
    | split

theorem loadCheckpoint_kept {s : State} {a2} (hs : Kept x s0 s) : Kept x s0 (loadCheckpoint s a2) := by
  unfold loadCheckpoint
  repeat' first
    | with_reducible assumption
    | with_reducible apply draw_kept_proj
    | with_reducible apply State.each_kept
    | with_reducible apply loadCkAxis_kept
    | with_reducible apply loadCkCar_kept
    | with_reducible apply loadCkShaft_kept
    | with_reducible exact CntKept.same rfl
    | with_reducible exact MemsKept.same rfl rfl
    | with_reducible exact fun w => MemsWf.same w rfl rfl
    | with_reducible exact FuseKept.same rfl rfl rfl
    | with_reducible exact SafetyKept.same rfl rfl rfl rfl
    | with_reducible exact CfgKept.same rfl
    | with_reducible exact TripsKept.same rfl rfl
    | with_reducible exact .inr rfl
    | (intro)
    | (extract_lets +onlyGivenNames st; have hst : Kept x s0 st := ?_; clear_value st; revert st; intro st2 hst2)
    | (extract_lets +onlyGivenNames yy; clear_value yy; revert yy; intro y2)
    | (dsimp -zeta only [st]; clear st)
    | with_reducible apply Kept.ite
    | split

theorem leadAll_kept {s : State} (hs : Kept x s0 s) : Kept x s0 (leadAll s) := by
  unfold leadAll
  repeat' first
    | with_reducible assumption
    | with_reducible apply State.each_kept
    | with_reducible apply State.onRing_kept
    | with_reducible apply sendFrame_kept
    | with_reducible exact CntKept.same rfl
    | with_reducible exact MemsKept.same rfl rfl
    | with_reducible exact fun w => MemsWf.same w rfl rfl
    | with_reducible exact FuseKept.same rfl rfl rfl
    | with_reducible exact SafetyKept.same rfl rfl rfl rfl
    | with_reducible exact CfgKept.same rfl
    | with_reducible exact TripsKept.same rfl rfl
    | with_reducible exact .inr rfl
    | (intro)
    | (extract_lets +onlyGivenNames st; have hst : Kept x s0 st := ?_; clear_value st; revert st; intro st2 hst2)
    | (extract_lets +onlyGivenNames yy; clear_value yy; revert yy; intro y2)
    | (dsimp -zeta only [st]; clear st)
    | with_reducible apply Kept.ite
    | split

theorem redSnap_kept {s : State} (hs : Kept x s0 s) : Kept x s0 (redSnap s) := by
  unfold redSnap
  repeat' first
    | with_reducible assumption
    | with_reducible apply State.onRed_kept

/-! ## Machine/Redundancy.lean -/

theorem execRedStatus_kept {a1} {s : State} (hs : Kept x s0 s) : Ends (Kept x s0) (execRedStatus a1 s) := by
  unfold execRedStatus
  repeat' first
    | with_reducible assumption
    | with_reducible apply serve_kept
    | with_reducible apply ok_kept
    | (intro)
    | (extract_lets +onlyGivenNames yy; clear_value yy; revert yy; intro y2)
    | with_reducible apply Ends.next

theorem startAsActive_kept {s : State} (hs : Kept x s0 s) : Kept x s0 (startAsActive s) := by
  unfold startAsActive
  repeat' first
    | with_reducible assumption
    | with_reducible apply State.each_kept
    | with_reducible apply disableAxis_kept
    | with_reducible apply State.onCar_kept
    | with_reducible apply State.onRing_kept
    | with_reducible apply wakeCan_kept
    | with_reducible apply State.onRed_kept
    | (intro)
    | with_reducible apply Kept.ite

theorem rejoinRole_kept {s : State} (hs : Kept x s0 s) : Kept x s0 (rejoinRole s) := by
  unfold rejoinRole
  repeat' first
    | with_reducible assumption
    | with_reducible apply State.onRed_kept
    | with_reducible apply becomeStandby_kept
    | with_reducible apply wakeCan_kept
    | (extract_lets +onlyGivenNames st; have hst : Kept x s0 st := ?_; clear_value st; revert st; intro st2 hst2)
    | (extract_lets +onlyGivenNames yy; clear_value yy; revert yy; intro y2)
    | with_reducible apply Kept.ite

theorem execRedRoleRequest_kept {a1} {s : State} (hs : Kept x s0 s) : Ends (Kept x s0) (execRedRoleRequest a1 s) := by
  unfold execRedRoleRequest
  repeat' first
    | with_reducible assumption
    | with_reducible apply serve_kept
    | with_reducible apply ok_kept
    | with_reducible apply State.onRed_kept
    | with_reducible apply refused_kept
    | with_reducible apply rejoinRole_kept
    | with_reducible apply startAsActive_kept
    | (intro)
    | (extract_lets +onlyGivenNames fn; have hfn : ∀ z, Kept x s0 z → Kept x s0 (fn z) := ?_; clear_value fn; revert fn; intro fn2 hfn)
    | (extract_lets +onlyGivenNames yy; clear_value yy; revert yy; intro y2)
    | with_reducible apply hfn
    | with_reducible apply Ends.next
    | with_reducible apply Kept.ite
    | split

theorem speculate_kept {s : State} (hs : Kept x s0 s) : Kept x s0 (speculate s) := by
  unfold speculate
  repeat' first
    | with_reducible assumption
    | with_reducible apply State.onRed_kept
    | with_reducible exact CntKept.same rfl
    | with_reducible exact MemsKept.same rfl rfl
    | with_reducible exact fun w => MemsWf.same w rfl rfl
    | with_reducible exact FuseKept.same rfl rfl rfl
    | with_reducible exact SafetyKept.same rfl rfl rfl rfl
    | with_reducible exact CfgKept.same rfl
    | with_reducible exact TripsKept.same rfl rfl
    | with_reducible exact .inr rfl
    | (intro)
    | (extract_lets +onlyGivenNames st; have hst : Kept x s0 st := ?_; clear_value st; revert st; intro st2 hst2)
    | (extract_lets +onlyGivenNames yy; clear_value yy; revert yy; intro y2)
    | (dsimp -zeta only [st]; clear st)
    | with_reducible apply Kept.ite
    | split

theorem missPartner_kept {s : State} (hs : Kept x s0 s) : Kept x s0 (missPartner s) := by
  unfold missPartner
  repeat' first
    | with_reducible assumption
    | with_reducible apply bump_kept
    | with_reducible apply State.onRed_kept
    | with_reducible apply speculate_kept
    | with_reducible apply redEvent_kept
    | with_reducible exact CntKept.same rfl
    | with_reducible exact MemsKept.same rfl rfl
    | with_reducible exact fun w => MemsWf.same w rfl rfl
    | with_reducible exact FuseKept.same rfl rfl rfl
    | with_reducible exact SafetyKept.same rfl rfl rfl rfl
    | with_reducible exact CfgKept.same rfl
    | with_reducible exact TripsKept.same rfl rfl
    | with_reducible exact .inr rfl
    | (intro)
    | (extract_lets +onlyGivenNames st; have hst : Kept x s0 st := ?_; clear_value st; revert st; intro st2 hst2)
    | (extract_lets +onlyGivenNames yy; clear_value yy; revert yy; intro y2)
    | (dsimp -zeta only [st]; clear st)
    | with_reducible apply Kept.ite
    | split

theorem execHeartbeatMiss_kept {a1} {s : State} (hs : Kept x s0 s) : Ends (Kept x s0) (execHeartbeatMiss a1 s) := by
  unfold execHeartbeatMiss
  repeat' first
    | with_reducible assumption
    | with_reducible apply missPartner_kept
    | with_reducible apply State.onRed_kept
    | with_reducible apply redEvent_kept
    | with_reducible apply declare_kept
    | (extract_lets +onlyGivenNames st; have hst : Kept x s0 st := ?_; clear_value st; revert st; intro st2 hst2)
    | (extract_lets +onlyGivenNames yy; clear_value yy; revert yy; intro y2)
    | with_reducible apply Ends.next
    | with_reducible apply Kept.ite
    | split

theorem takePartner_kept {s : State} {a2} (hs : Kept x s0 s) : Kept x s0 (takePartner s a2) := by
  unfold takePartner
  repeat' first
    | with_reducible assumption
    | with_reducible apply State.onRed_kept
    | with_reducible apply becomeStandby_kept
    | (extract_lets +onlyGivenNames st; have hst : Kept x s0 st := ?_; clear_value st; revert st; intro st2 hst2)
    | with_reducible apply Kept.ite

theorem confirmFailed_kept {s : State} (hs : Kept x s0 s) : Kept x s0 (confirmFailed s) := by
  unfold confirmFailed
  repeat' first
    | with_reducible assumption
    | with_reducible apply speculate_kept
    | with_reducible apply State.onRed_kept
    | with_reducible exact CntKept.same rfl
    | with_reducible exact MemsKept.same rfl rfl
    | with_reducible exact fun w => MemsWf.same w rfl rfl
    | with_reducible exact FuseKept.same rfl rfl rfl
    | with_reducible exact SafetyKept.same rfl rfl rfl rfl
    | with_reducible exact CfgKept.same rfl
    | with_reducible exact TripsKept.same rfl rfl
    | with_reducible exact .inr rfl
    | (intro)
    | with_reducible apply Kept.ite
    | split

theorem takeWitness_kept {s : State} {a2} (hs : Kept x s0 s) : Kept x s0 (takeWitness s a2) := by
  unfold takeWitness
  repeat' first
    | with_reducible assumption
    | with_reducible apply State.onRed_kept
    | with_reducible apply redEvent_kept
    | with_reducible apply confirmFailed_kept
    | with_reducible exact CntKept.same rfl
    | with_reducible exact MemsKept.same rfl rfl
    | with_reducible exact fun w => MemsWf.same w rfl rfl
    | with_reducible exact FuseKept.same rfl rfl rfl
    | with_reducible exact SafetyKept.same rfl rfl rfl rfl
    | with_reducible exact CfgKept.same rfl
    | with_reducible exact TripsKept.same rfl rfl
    | with_reducible exact .inr rfl
    | (intro)
    | (extract_lets +onlyGivenNames st; have hst : Kept x s0 st := ?_; clear_value st; revert st; intro st2 hst2)
    | (extract_lets +onlyGivenNames yy; clear_value yy; revert yy; intro y2)
    | (dsimp -zeta only [st]; clear st)
    | with_reducible apply Kept.ite
    | split

theorem takePair_kept {s : State} {a2} {a3} (hs : Kept x s0 s) : Kept x s0 (takePair s a2 a3) := by
  unfold takePair
  repeat' first
    | with_reducible assumption
    | with_reducible apply State.onRed_kept
    | with_reducible apply declare_kept
    | with_reducible apply undeclare_kept
    | (extract_lets +onlyGivenNames st; have hst : Kept x s0 st := ?_; clear_value st; revert st; intro st2 hst2)
    | with_reducible apply Kept.ite
    | split

theorem heartbeatIn_kept {s : State} {a2} (hs : Kept x s0 s) : Kept x s0 (heartbeatIn s a2) := by
  unfold heartbeatIn
  repeat' first
    | with_reducible assumption
    | with_reducible apply takePartner_kept
    | with_reducible apply takeWitness_kept
    | with_reducible apply State.each_kept
    | with_reducible apply takePair_kept
    | (intro)
    | (extract_lets +onlyGivenNames yy; clear_value yy; revert yy; intro y2)
    | with_reducible apply Kept.ite
    | split

theorem execHeartbeatRx_kept {a1} {s : State} (hs : Kept x s0 s) : Ends (Kept x s0) (execHeartbeatRx a1 s) := by
  unfold execHeartbeatRx
  repeat' first
    | with_reducible assumption
    | with_reducible apply heartbeatIn_kept
    | with_reducible apply Ends.next

theorem execFailedSet_kept {a1} {s : State} (hs : Kept x s0 s) : Ends (Kept x s0) (execFailedSet a1 s) := by
  unfold execFailedSet
  repeat' first
    | with_reducible assumption
    | with_reducible apply setFailed_kept
    | with_reducible apply bump_kept
    | with_reducible apply Ends.next
    | split

theorem execReplayComplete_kept {s : State} (hs : Kept x s0 s) : Ends (Kept x s0) (execReplayComplete s) := by
  unfold execReplayComplete
  repeat' first
    | with_reducible assumption
    | with_reducible apply State.onRed_kept
    | with_reducible apply Ends.next
    | with_reducible apply Kept.ite

theorem execTakeoverCycle_kept {s : State} (hs : Kept x s0 s) : Ends (Kept x s0) (execTakeoverCycle s) := by
  unfold execTakeoverCycle
  repeat' first
    | with_reducible assumption
    | with_reducible apply leadAll_kept
    | with_reducible apply loadCheckpoint_kept
    | with_reducible apply bump_kept
    | with_reducible apply wakeCan_kept
    | with_reducible apply State.onRed_kept
    | (extract_lets +onlyGivenNames st; have hst : Kept x s0 st := ?_; clear_value st; revert st; intro st2 hst2)
    | (extract_lets +onlyGivenNames yy; clear_value yy; revert yy; intro y2)
    | with_reducible apply Ends.next
    | with_reducible apply Kept.ite

theorem finishTakeover_kept {s : State} (hs : Kept x s0 s) : Kept x s0 (finishTakeover s) := by
  unfold finishTakeover
  repeat' first
    | with_reducible assumption
    | with_reducible apply redEvent_kept
    | with_reducible apply State.onRed_kept
    | with_reducible apply Kept.ite

theorem execHeartbeatPathFault_kept {a1} {s : State} (hs : Kept x s0 s) : Ends (Kept x s0) (execHeartbeatPathFault a1 s) := by
  unfold execHeartbeatPathFault
  repeat' first
    | with_reducible assumption
    | with_reducible apply redEvent_kept
    | with_reducible apply State.onRed_kept
    | (extract_lets +onlyGivenNames yy; clear_value yy; revert yy; intro y2)
    | with_reducible apply Ends.next
    | with_reducible apply Kept.ite
    | split

theorem execCheckpointTake_kept {s : State} (hs : Kept x s0 s) : Ends (Kept x s0) (execCheckpointTake s) := by
  unfold execCheckpointTake
  repeat' first
    | with_reducible assumption
    | with_reducible apply State.onRed_kept
    | (extract_lets +onlyGivenNames yy; clear_value yy; revert yy; intro y2)
    | with_reducible apply Ends.next
    | with_reducible apply Kept.ite

theorem execCheckpointRx_kept {a1} {s : State} (hs : Kept x s0 s) : Ends (Kept x s0) (execCheckpointRx a1 s) := by
  unfold execCheckpointRx
  repeat' first
    | with_reducible assumption
    | with_reducible apply State.onRed_kept
    | with_reducible apply judgeCheckpoint_kept
    | with_reducible apply Ends.next
    | with_reducible apply Kept.ite

theorem execJournalEntryRx_kept {a1} {a2} {s : State} (hs : Kept x s0 s) : Ends (Kept x s0) (execJournalEntryRx a1 a2 s) := by
  unfold execJournalEntryRx
  repeat' first
    | with_reducible assumption
    | with_reducible apply State.onRed_kept
    | with_reducible apply applyChange_kept
    | with_reducible apply Ends.next
    | with_reducible apply Kept.ite

theorem execHandoverTarget_kept {s : State} (hs : Kept x s0 s) : Ends (Kept x s0) (execHandoverTarget s) := by
  unfold execHandoverTarget
  repeat' first
    | with_reducible assumption
    | with_reducible apply State.onRed_kept
    | with_reducible apply redEvent_kept
    | with_reducible apply becomeStandby_kept
    | with_reducible apply forwardOnly_kept
    | with_reducible apply ok_kept
    | with_reducible apply leadAll_kept
    | with_reducible apply loadCheckpoint_kept
    | with_reducible apply wakeCan_kept
    | with_reducible exact CntKept.same rfl
    | with_reducible exact MemsKept.same rfl rfl
    | with_reducible exact fun w => MemsWf.same w rfl rfl
    | with_reducible exact FuseKept.same rfl rfl rfl
    | with_reducible exact SafetyKept.same rfl rfl rfl rfl
    | with_reducible exact CfgKept.same rfl
    | with_reducible exact TripsKept.same rfl rfl
    | with_reducible exact .inr rfl
    | (intro)
    | (extract_lets +onlyGivenNames st; have hst : Kept x s0 st := ?_; clear_value st; revert st; intro st2 hst2)
    | (extract_lets +onlyGivenNames yy; clear_value yy; revert yy; intro y2)
    | with_reducible apply Ends.next
    | (dsimp -zeta only [st]; clear st)
    | with_reducible apply Kept.ite
    | split

theorem execRejoinCopyDone_kept {s : State} (hs : Kept x s0 s) : Ends (Kept x s0) (execRejoinCopyDone s) := by
  unfold execRejoinCopyDone
  repeat' first
    | with_reducible assumption
    | with_reducible apply State.onRed_kept
    | with_reducible apply Ends.next
    | with_reducible apply Kept.ite

/-! ## Machine/MultiOps.lean -/

theorem bumpPath_kept {s : State} {a2} {a3} (hs : Kept x s0 s) : Kept x s0 (bumpPath s a2 a3) := by
  unfold bumpPath
  repeat' first
    | with_reducible assumption
    | with_reducible apply bump_kept
    | split

theorem timeRecord_kept {s : State} {a2} {a3} {a4} (hs : Kept x s0 s) : Kept x s0 (timeRecord s a2 a3 a4) := by
  unfold timeRecord
  repeat' first
    | with_reducible assumption
    | with_reducible apply recordOnly_kept

theorem setTime_kept {s : State} {f : TimeSt → TimeSt} (hs : Kept x s0 s) (hf : ∀ y, x .cycle = true ∨ (f y).cycle = y.cycle) :
    Kept x s0 (setTime s f) := by
  have h := State.onTime_kept hs hf
  unfold setTime
  dsimp only
  generalize s.onTime f = t at h ⊢
  (repeat' split) <;> repeat' first
    | with_reducible assumption
    | with_reducible apply timeRecord_kept
    | with_reducible apply bumpPath_kept

theorem addLeap_kept {s : State} {a2} (hs : Kept x s0 s) : Kept x s0 (addLeap s a2) := by
  unfold addLeap
  repeat' first
    | with_reducible assumption
    | with_reducible apply State.onTime_kept
    | with_reducible apply timeRecord_kept
    | with_reducible exact fun w => MemsWf.same w rfl rfl
    | with_reducible exact .inr rfl
    | (intro)
    | (extract_lets +onlyGivenNames st; have hst : Kept x s0 st := ?_; clear_value st; revert st; intro st2 hst2)
    | with_reducible apply Kept.ite

theorem learnUtc_kept {s : State} {a2} (hs : Kept x s0 s) : Kept x s0 (learnUtc s a2) := by
  unfold learnUtc
  repeat' first
    | with_reducible assumption
    | with_reducible apply addLeap_kept
    | with_reducible apply Kept.ite

theorem followSource_kept {s : State} {a2} (hs : Kept x s0 s) : Kept x s0 (followSource s a2) := by
  unfold followSource
  repeat' first
    | with_reducible assumption
    | with_reducible apply draw_kept_proj
    | with_reducible apply setTime_kept
    | with_reducible apply bumpPath_kept
    | with_reducible apply learnUtc_kept
    | with_reducible exact fun w => MemsWf.same w rfl rfl
    | with_reducible exact .inr rfl
    | (intro)
    | with_reducible apply Kept.ite

theorem freeRun_kept {s : State} (hs : Kept x s0 s) : Kept x s0 (freeRun s) := by
  unfold freeRun
  repeat' first
    | with_reducible assumption
    | with_reducible apply setTime_kept
    | with_reducible exact fun w => MemsWf.same w rfl rfl
    | with_reducible exact .inr rfl
    | (intro)

theorem actMaster_kept {s : State} (hs : Kept x s0 s) : Kept x s0 (actMaster s) := by
  unfold actMaster
  repeat' first
    | with_reducible assumption
    | with_reducible apply setTime_kept
    | with_reducible exact fun w => MemsWf.same w rfl rfl
    | with_reducible exact .inr rfl
    | (intro)

theorem chooseSource_kept {s : State} (hs : Kept x s0 s) : Kept x s0 (chooseSource s) := by
  unfold chooseSource
  repeat' first
    | with_reducible assumption
    | with_reducible apply followSource_kept
    | with_reducible apply actMaster_kept
    | with_reducible apply freeRun_kept
    | with_reducible apply Kept.ite
    | split

theorem timeIn_kept {s : State} {a2} {a3} {a4} (hs : Kept x s0 s) : Kept x s0 (timeIn s a2 a3 a4) := by
  unfold timeIn
  repeat' first
    | with_reducible assumption
    | with_reducible apply State.onTime_kept
    | with_reducible apply chooseSource_kept
    | with_reducible exact fun w => MemsWf.same w rfl rfl
    | with_reducible exact .inr rfl
    | (intro)
    | (extract_lets +onlyGivenNames st; have hst : Kept x s0 st := ?_; clear_value st; revert st; intro st2 hst2)
    | (extract_lets +onlyGivenNames yy; clear_value yy; revert yy; intro y2)
    | with_reducible apply Kept.ite

theorem timeOut_kept_proj {s : State} {a2} (hs : Kept x s0 s) : Kept x s0 (timeOut s a2).2 := by
  unfold timeOut
  dsimp only
  split
  · exact hs
  · cases a2 with
    | ring r =>
      show Kept x s0 (if (s.ring r).state = .leading then ((0 : Int), s) else match (s.ring r).phase with
        | some p => (roundDiv p 128, s)
        | none => (_, (draw s).2)).2
      split
      · exact hs
      · split
        · exact hs
        · exact draw_kept_proj hs
    | _ => exact hs

theorem timeOut_kept {s : State} {a2} {w0} {v : State} (e : timeOut s a2 = (w0, v)) (hs : Kept x s0 s) : Kept x s0 v := by
  have w := timeOut_kept_proj hs (x := x) (a2 := a2)
  rw [e] at w
  exact w

theorem zoneDownIn_kept {s : State} {a2} {a3} {a4} {a5} {a6} (hs : Kept x s0 s) : Kept x s0 (zoneDownIn s a2 a3 a4 a5 a6) := by
  unfold zoneDownIn
  repeat' first
    | with_reducible assumption
    | with_reducible apply bumpPath_kept
    | with_reducible apply State.onMulti_kept
    | with_reducible apply State.each_kept
    | with_reducible apply State.onAxis_kept
    | (intro)
    | (extract_lets +onlyGivenNames st; have hst : Kept x s0 st := ?_; clear_value st; revert st; intro st2 hst2)
    | (dsimp -zeta only [st]; clear st)
    | with_reducible apply Kept.ite
    | split

theorem onZoneUp_kept {s : State} {a2} {a3} (hs : Kept x s0 s) : Kept x s0 (onZoneUp s a2 a3) := by
  unfold onZoneUp
  repeat' first
    | with_reducible assumption
    | with_reducible apply State.onMulti_kept

theorem zoneUpIn_kept {s : State} {a2} {a3} {a4} {a5} {a6} {a7} {a8} (hs : Kept x s0 s) : Kept x s0 (zoneUpIn s a2 a3 a4 a5 a6 a7 a8) := by
  unfold zoneUpIn
  repeat' first
    | with_reducible assumption
    | with_reducible apply bumpPath_kept
    | with_reducible apply onZoneUp_kept
    | with_reducible exact CntKept.same rfl
    | with_reducible exact MemsKept.same rfl rfl
    | with_reducible exact fun w => MemsWf.same w rfl rfl
    | with_reducible exact FuseKept.same rfl rfl rfl
    | with_reducible exact SafetyKept.same rfl rfl rfl rfl
    | with_reducible exact CfgKept.same rfl
    | with_reducible exact TripsKept.same rfl rfl
    | with_reducible exact .inr rfl
    | (intro)
    | (extract_lets +onlyGivenNames st; have hst : Kept x s0 st := ?_; clear_value st; revert st; intro st2 hst2)
    | (extract_lets +onlyGivenNames yy; clear_value yy; revert yy; intro y2)
    | (dsimp -zeta only [st]; clear st)
    | with_reducible apply Kept.ite
    | split

theorem safeIn_kept {s : State} {a2} {a3} {a4} {a5} (hs : Kept x s0 s) : Kept x s0 (safeIn s a2 a3 a4 a5) := by
  unfold safeIn
  repeat' first
    | with_reducible assumption
    | with_reducible apply bumpPath_kept
    | with_reducible apply State.each_kept
    | with_reducible apply safeFrame_kept
    | (intro)
    | (extract_lets +onlyGivenNames yy; clear_value yy; revert yy; intro y2)
    | with_reducible apply Kept.ite

theorem takeRecord_kept {a1} {a2} {s : State} {a4} (hs : Kept x s0 s) : Kept x s0 (takeRecord a1 a2 s a4) := by
  unfold takeRecord
  repeat' first
    | with_reducible assumption
    | with_reducible apply timeIn_kept
    | with_reducible apply heartbeatIn_kept
    | with_reducible apply safeIn_kept
    | with_reducible apply zoneDownIn_kept
    | with_reducible apply zoneUpIn_kept
    | with_reducible apply State.onLink_kept
    | with_reducible apply Kept.ite
    | split

theorem pathRecords_kept_proj {s : State} {a2} {a3} {a4} (hs : Kept x s0 s) : Kept x s0 (pathRecords s a2 a3 a4).2 := by
  unfold pathRecords
  repeat' first
    | with_reducible assumption
    | with_reducible apply timeOut_kept_proj

theorem pathRecords_kept {s : State} {a2} {a3} {a4} {w0} {v : State} (e : pathRecords s a2 a3 a4 = (w0, v)) (hs : Kept x s0 s) : Kept x s0 v := by
  have w := pathRecords_kept_proj hs (x := x) (a2 := a2) (a3 := a3) (a4 := a4)
  rw [e] at w
  exact w

theorem writeTrunkSlot_kept {s : State} {a2} {a3} (hs : Kept x s0 s) : Kept x s0 (writeTrunkSlot s a2 a3) := by
  unfold writeTrunkSlot
  repeat' first
    | with_reducible assumption
    | with_reducible apply State.onRing_kept
    | with_reducible exact CntKept.same rfl
    | with_reducible exact MemsKept.same rfl rfl
    | with_reducible exact fun w => MemsWf.same w rfl rfl
    | with_reducible exact FuseKept.same rfl rfl rfl
    | with_reducible exact SafetyKept.same rfl rfl rfl rfl
    | with_reducible exact CfgKept.same rfl
    | with_reducible exact TripsKept.same rfl rfl
    | with_reducible exact .inr rfl
    | (intro)
    | (extract_lets +onlyGivenNames st; have hst : Kept x s0 st := ?_; clear_value st; revert st; intro st2 hst2)
    | (extract_lets +onlyGivenNames yy; clear_value yy; revert yy; intro y2)
    | (dsimp -zeta only [st]; clear st)
    | with_reducible apply Kept.ite
    | split

theorem sendOn_kept {s : State} {a2} {a3} {a4} (hs : Kept x s0 s) : Kept x s0 (sendOn s a2 a3 a4) := by
  unfold sendOn
  repeat' first
    | with_reducible assumption
    | with_reducible apply State.onMulti_kept
    | with_reducible apply bump_kept

theorem sendRecords_kept {s : State} (hs : Kept x s0 s) : Kept x s0 (sendRecords s) := by
  unfold sendRecords
  repeat' first
    | with_reducible assumption
    | with_reducible apply State.onMulti_kept
    | with_reducible apply State.each_kept
    | with_reducible apply pathRecords_kept_proj
    | with_reducible refine pathRecords_kept (by assumption) ?_
    | with_reducible apply bumpPath_kept
    | with_reducible apply sendOn_kept
    | with_reducible apply writeTrunkSlot_kept
    | with_reducible exact CntKept.same rfl
    | with_reducible exact MemsKept.same rfl rfl
    | with_reducible exact fun w => MemsWf.same w rfl rfl
    | with_reducible exact FuseKept.same rfl rfl rfl
    | with_reducible exact SafetyKept.same rfl rfl rfl rfl
    | with_reducible exact CfgKept.same rfl
    | with_reducible exact TripsKept.same rfl rfl
    | with_reducible exact .inr rfl
    | (intro)
    | (extract_lets +onlyGivenNames st; have hst : Kept x s0 st := ?_; clear_value st; revert st; intro st2 hst2)
    | (extract_lets +onlyGivenNames yy; clear_value yy; revert yy; intro y2)
    | (dsimp -zeta only [st]; clear st)
    | with_reducible apply Kept.ite
    | split

theorem trimTime_kept {s : State} (hs : Kept x s0 s) : Kept x s0 (trimTime s) := by
  unfold trimTime
  repeat' first
    | with_reducible assumption
    | with_reducible apply State.onTime_kept
    | with_reducible exact fun w => MemsWf.same w rfl rfl
    | with_reducible exact .inr rfl
    | (intro)

/-! ## Machine/RecOps.lean -/

theorem readSel_kept_proj {s : State} {a2} (hs : Kept x s0 s) : Kept x s0 (readSel s a2).2.2 := by
  unfold readSel
  repeat' first
    | with_reducible assumption
    | with_reducible apply readWord_kept_proj
    | (extract_lets +onlyGivenNames yy; clear_value yy; revert yy; intro y2)
    | split

theorem readSel_kept {s : State} {a2} {w0} {w1} {v : State} (e : readSel s a2 = (w0, w1, v)) (hs : Kept x s0 s) : Kept x s0 v := by
  have w := readSel_kept_proj hs (x := x) (a2 := a2)
  rw [e] at w
  exact w

theorem readSels_kept_proj {l} {s : State} (hs : Kept x s0 s) : Kept x s0 (readSels l s).2.2 := by
  induction l generalizing s with
  | nil => exact hs
  | cons k r ih => exact ih (readSel_kept_proj hs)

theorem readSels_kept {l} {s : State} {w u} {v : State} (e : readSels l s = (w, u, v)) (hs : Kept x s0 s) : Kept x s0 v := by
  have h := readSels_kept_proj (l := l) hs
  rw [e] at h
  exact h

theorem trimHolds_kept {a1} {s : State} (hs : Kept x s0 s) : Kept x s0 (trimHolds a1 s) := by
  induction a1 generalizing s with
  | zero => exact hs
  | succ k ih =>
    unfold trimHolds
    repeat' first
        | with_reducible assumption
        | with_reducible apply State.onRec_kept
        | with_reducible apply recEvent_kept
        | with_reducible apply ih
        | (extract_lets +onlyGivenNames st; have hst : Kept x s0 st := ?_; clear_value st; revert st; intro st2 hst2)
        | (extract_lets +onlyGivenNames yy; clear_value yy; revert yy; intro y2)
        | with_reducible apply Kept.ite

theorem holdTrace_kept {s : State} {a2} {a3} (hs : Kept x s0 s) : Kept x s0 (holdTrace s a2 a3) := by
  unfold holdTrace
  repeat' first
    | with_reducible assumption
    | with_reducible apply trimHolds_kept
    | with_reducible apply State.onRec_kept

theorem recordEvent_kept {s : State} {a2} {a3} {a4} (hs : Kept x s0 s) : Kept x s0 (recordEvent s a2 a3 a4) := by
  unfold recordEvent
  repeat' first
    | with_reducible assumption
    | with_reducible apply readSels_kept_proj
    | with_reducible apply writeRecord_kept
    | with_reducible apply recEvent_kept
    | with_reducible apply repeatRecord_kept
    | (intro)
    | (extract_lets +onlyGivenNames st; have hst : Kept x s0 st := ?_; clear_value st; revert st; intro st2 hst2)
    | (extract_lets +onlyGivenNames fn; have hfn : ∀ z, Kept x s0 z → Kept x s0 (fn z) := ?_; clear_value fn; revert fn; intro fn2 hfn)
    | (extract_lets +onlyGivenNames yy; clear_value yy; revert yy; intro y2)
    | with_reducible apply hfn
    | (dsimp -zeta only [fn]; clear fn)
    | with_reducible apply Kept.ite
    | split

theorem recordDrops_kept {s : State} {a2} (hs : Kept x s0 s) : Kept x s0 (recordDrops s a2) := by
  unfold recordDrops
  repeat' first
    | with_reducible assumption
    | with_reducible apply postEvent_kept
    | with_reducible apply recordEvent_kept
    | with_reducible apply State.onRec_kept
    | (extract_lets +onlyGivenNames yy; clear_value yy; revert yy; intro y2)
    | with_reducible apply Kept.ite

theorem takeEvent_kept {s : State} {a2} {a3} (hs : Kept x s0 s) : Kept x s0 (takeEvent s a2 a3) := by
  unfold takeEvent
  repeat' first
    | with_reducible assumption
    | with_reducible apply postEvent_kept
    | with_reducible apply recordDrops_kept
    | with_reducible apply holdTrace_kept
    | with_reducible apply recordEvent_kept
    | (extract_lets +onlyGivenNames st; have hst : Kept x s0 st := ?_; clear_value st; revert st; intro st2 hst2)
    | (extract_lets +onlyGivenNames yy; clear_value yy; revert yy; intro y2)
    | (dsimp -zeta only [st]; clear st)
    | with_reducible apply Kept.ite
    | split

theorem spillPage_kept {s : State} {a2} (hs : Kept x s0 s) : Kept x s0 (spillPage s a2) := by
  unfold spillPage
  repeat' first
    | with_reducible assumption
    | with_reducible apply State.onRec_kept
    | with_reducible apply State.onDrive_kept
    | (extract_lets +onlyGivenNames st; have hst : Kept x s0 st := ?_; clear_value st; revert st; intro st2 hst2)
    | (extract_lets +onlyGivenNames yy; clear_value yy; revert yy; intro y2)
    | with_reducible apply Kept.ite

theorem spillAll_kept {a1} {s : State} (hs : Kept x s0 s) : Kept x s0 (spillAll a1 s) := by
  induction a1 generalizing s with
  | zero => exact hs
  | succ k ih =>
    unfold spillAll
    repeat' first
        | with_reducible assumption
        | with_reducible apply spillPage_kept
        | with_reducible apply ih
        | with_reducible apply Kept.ite
        | split

theorem spillTrace_kept {s : State} {a2} (hs : Kept x s0 s) : Kept x s0 (spillTrace s a2) := by
  unfold spillTrace
  repeat' first
    | with_reducible assumption
    | with_reducible apply State.onRec_kept
    | (extract_lets +onlyGivenNames yy; clear_value yy; revert yy; intro y2)
    | with_reducible apply Kept.ite

theorem issueFlush_kept {s : State} {a2} (hs : Kept x s0 s) : Kept x s0 (issueFlush s a2) := by
  unfold issueFlush
  repeat' first
    | with_reducible assumption
    | with_reducible apply State.onDrive_kept

theorem flushAll_kept {s : State} (hs : Kept x s0 s) : Kept x s0 (flushAll s) := by
  unfold flushAll
  repeat' first
    | with_reducible assumption
    | with_reducible apply State.each_kept
    | with_reducible apply issueFlush_kept

theorem reduceTrace_kept {s : State} {a2} (hs : Kept x s0 s) : Kept x s0 (reduceTrace s a2) := by
  unfold reduceTrace
  repeat' first
    | with_reducible assumption
    | with_reducible apply recEvent_kept
    | with_reducible apply State.onRec_kept
    | (extract_lets +onlyGivenNames yy; clear_value yy; revert yy; intro y2)
    | with_reducible apply Kept.ite

theorem failDrive_kept {s : State} {a2} {a3} (hs : Kept x s0 s) : Kept x s0 (failDrive s a2 a3) := by
  unfold failDrive
  repeat' first
    | with_reducible assumption
    | with_reducible apply State.onDrive_kept
    | with_reducible apply State.onRec_kept
    | with_reducible apply recEvent_kept
    | with_reducible apply reduceTrace_kept
    | (extract_lets +onlyGivenNames st; have hst : Kept x s0 st := ?_; clear_value st; revert st; intro st2 hst2)
    | (extract_lets +onlyGivenNames yy; clear_value yy; revert yy; intro y2)
    | with_reducible apply Kept.ite

theorem retireStripe_kept {s : State} {a2} (hs : Kept x s0 s) : Kept x s0 (retireStripe s a2) := by
  unfold retireStripe
  repeat' first
    | with_reducible assumption
    | with_reducible apply State.onDrive_kept
    | with_reducible apply recEvent_kept
    | with_reducible apply bump_kept
    | with_reducible apply failDrive_kept
    | with_reducible exact CntKept.same rfl
    | with_reducible exact MemsKept.same rfl rfl
    | with_reducible exact fun w => MemsWf.same w rfl rfl
    | with_reducible exact FuseKept.same rfl rfl rfl
    | with_reducible exact SafetyKept.same rfl rfl rfl rfl
    | with_reducible exact CfgKept.same rfl
    | with_reducible exact TripsKept.same rfl rfl
    | with_reducible exact .inr rfl
    | (intro)
    | (extract_lets +onlyGivenNames st; have hst : Kept x s0 st := ?_; clear_value st; revert st; intro st2 hst2)
    | (extract_lets +onlyGivenNames yy; clear_value yy; revert yy; intro y2)
    | (dsimp -zeta only [st]; clear st)
    | with_reducible apply Kept.ite
    | split

theorem timeWrite_kept {s : State} {a2} {a3} (hs : Kept x s0 s) : Kept x s0 (timeWrite s a2 a3) := by
  unfold timeWrite
  repeat' first
    | with_reducible assumption
    | with_reducible apply State.onDrive_kept
    | with_reducible apply bump_kept
    | with_reducible apply recEvent_kept
    | (extract_lets +onlyGivenNames st; have hst : Kept x s0 st := ?_; clear_value st; revert st; intro st2 hst2)
    | (extract_lets +onlyGivenNames yy; clear_value yy; revert yy; intro y2)
    | with_reducible apply Kept.ite

theorem State.onSector_kept {s : State} {a2} {a3} (hs : Kept x s0 s) : Kept x s0 (State.onSector s a2 a3) := by
  unfold State.onSector
  repeat' first
    | with_reducible assumption
    | with_reducible apply State.onRec_kept

theorem nextSector_kept {s : State} (hs : Kept x s0 s) : Kept x s0 (nextSector s) := by
  unfold nextSector
  repeat' first
    | with_reducible assumption
    | with_reducible apply State.onRec_kept
    | with_reducible apply State.onSector_kept
    | split

theorem retireSector_kept {s : State} (hs : Kept x s0 s) : Kept x s0 (retireSector s) := by
  unfold retireSector
  repeat' first
    | with_reducible assumption
    | with_reducible apply logWrite_kept
    | with_reducible apply bump_kept
    | with_reducible apply State.onSector_kept
    | with_reducible apply recEvent_kept
    | with_reducible apply State.onRec_kept
    | with_reducible apply nextSector_kept
    | (extract_lets +onlyGivenNames st; have hst : Kept x s0 st := ?_; clear_value st; revert st; intro st2 hst2)
    | (extract_lets +onlyGivenNames yy; clear_value yy; revert yy; intro y2)
    | with_reducible apply Kept.ite

theorem shedMirror_kept {s : State} (hs : Kept x s0 s) : Kept x s0 (shedMirror s) := by
  unfold shedMirror
  repeat' first
    | with_reducible assumption
    | with_reducible apply bump_kept
    | with_reducible apply State.onRec_kept
    | (extract_lets +onlyGivenNames yy; clear_value yy; revert yy; intro y2)
    | with_reducible apply Kept.ite

theorem programPage_kept {s : State} {a2} {a3} (hs : Kept x s0 s) : Kept x s0 (programPage s a2 a3) := by
  unfold programPage
  repeat' first
    | with_reducible assumption
    | with_reducible apply shedMirror_kept
    | with_reducible apply nextSector_kept
    | with_reducible apply bump_kept
    | with_reducible apply State.onRec_kept
    | with_reducible apply State.onSector_kept
    | with_reducible apply recEvent_kept
    | with_reducible apply retireSector_kept
    | (extract_lets +onlyGivenNames st; have hst : Kept x s0 st := ?_; clear_value st; revert st; intro st2 hst2)
    | (extract_lets +onlyGivenNames yy; clear_value yy; revert yy; intro y2)
    | (dsimp -zeta only [st]; clear st)
    | with_reducible apply Kept.ite

theorem programPages_kept {a1} {s : State} (hs : Kept x s0 s) : Kept x s0 (programPages a1 s) := by
  induction a1 generalizing s with
  | zero => exact hs
  | succ k ih =>
    unfold programPages
    repeat' first
        | with_reducible assumption
        | with_reducible apply programPage_kept
        | with_reducible apply ih
        | with_reducible apply Kept.ite

theorem cairnPowerFail_kept {s : State} (hs : Kept x s0 s) : Kept x s0 (cairnPowerFail s) := by
  unfold cairnPowerFail
  repeat' first
    | with_reducible assumption
    | with_reducible apply programPages_kept
    | with_reducible apply sealOpen_kept
    | with_reducible apply spillAll_kept
    | with_reducible apply flushAll_kept
    | with_reducible apply State.onRec_kept

theorem traceRowCopy_kept {s : State} (hs : Kept x s0 s) : Kept x s0 (traceRowCopy s) := by
  unfold traceRowCopy
  repeat' first
    | with_reducible assumption
    | with_reducible apply bump_kept
    | with_reducible apply State.onRec_kept
    | (extract_lets +onlyGivenNames yy; clear_value yy; revert yy; intro y2)
    | with_reducible apply Kept.ite

theorem landTrace_kept {s : State} (hs : Kept x s0 s) : Kept x s0 (landTrace s) := by
  unfold landTrace
  repeat' first
    | with_reducible assumption
    | with_reducible apply State.each_kept
    | with_reducible apply State.onRec_kept
    | with_reducible apply ok_kept
    | with_reducible apply store_kept
    | (intro)

/-! ## Machine/StoreOps.lean -/

theorem applyStore_kept {s : State} {a2} (hs : Kept x s0 s) : Kept x s0 (applyStore s a2) := by
  unfold applyStore
  repeat' first
    | with_reducible assumption
    | with_reducible apply State.onField_kept
    | with_reducible apply State.onCan_kept
    | (extract_lets +onlyGivenNames st; have hst : Kept x s0 st := ?_; clear_value st; revert st; intro st2 hst2)
    | (dsimp -zeta only [st]; clear st)
    | split
    | with_reducible refine Kept.literal rfl rfl rfl rfl rfl rfl rfl ?_

theorem storeDone_kept {s : State} (hs : Kept x s0 s) : Kept x s0 (storeDone s) := by
  unfold storeDone
  repeat' first
    | with_reducible assumption
    | with_reducible apply applyStore_kept
    | (extract_lets +onlyGivenNames yy; clear_value yy; revert yy; intro y2)
    | split
    | with_reducible refine Kept.literal rfl rfl rfl rfl rfl rfl rfl ?_

theorem storeAll_kept {s : State} (hs : Kept x s0 s) : Kept x s0 (storeAll s) := by
  unfold storeAll
  repeat' first
    | with_reducible assumption
    | with_reducible apply applyStore_kept
    | with_reducible apply foldl_kept
    | (extract_lets +onlyGivenNames yy; clear_value yy; revert yy; intro y2)
    | with_reducible refine Kept.literal rfl rfl rfl rfl rfl rfl rfl ?_

theorem execConfigStoreDone_kept {s : State} (hs : Kept x s0 s) : Ends (Kept x s0) (execConfigStoreDone s) := by
  unfold execConfigStoreDone
  repeat' first
    | with_reducible assumption
    | with_reducible apply storeDone_kept
    | with_reducible apply Ends.next

/-! ## Machine/PowOps.lean -/

theorem powRefuse_kept {s : State} {a2} {a3} {a4} (hs : Kept x s0 s) : Kept x s0 (powRefuse s a2 a3 a4) := by
  unfold powRefuse
  repeat' first
    | with_reducible assumption
    | with_reducible apply bump_kept
    | with_reducible apply State.onPow_kept
    | with_reducible apply powEvent_kept

theorem powRefused_kept {s : State} {a2} {a3} {a4} {a5} {a6} (hs : Kept x s0 s) : Kept x s0 (powRefused s a2 a3 a4 a5 a6) := by
  unfold powRefused
  repeat' first
    | with_reducible assumption
    | with_reducible apply refused_kept
    | with_reducible apply powRefuse_kept

theorem levelDone_kept {s : State} {a2} {a3} (hs : Kept x s0 s) : Kept x s0 (levelDone s a2 a3) := by
  unfold levelDone
  repeat' first
    | with_reducible assumption
    | with_reducible apply ok_kept

theorem runLevel_kept {s : State} {a2} (hs : Kept x s0 s) : Kept x s0 (runLevel s a2) := by
  unfold runLevel
  repeat' first
    | with_reducible assumption
    | with_reducible apply powRefused_kept
    | with_reducible apply levelDone_kept
    | with_reducible apply State.onPow_kept
    | (extract_lets +onlyGivenNames yy; clear_value yy; revert yy; intro y2)
    | with_reducible apply Kept.ite
    | split

theorem nextLevel_kept {a1} {s : State} (hs : Kept x s0 s) : Kept x s0 (nextLevel a1 s) := by
  induction a1 generalizing s with
  | zero => exact hs
  | succ k ih =>
    unfold nextLevel
    repeat' first
        | with_reducible assumption
        | with_reducible apply runLevel_kept
        | with_reducible apply State.onPow_kept
        | with_reducible apply ih
        | split

theorem endChange_kept {s : State} (hs : Kept x s0 s) : Kept x s0 (endChange s) := by
  unfold endChange
  repeat' first
    | with_reducible assumption
    | with_reducible apply nextLevel_kept
    | with_reducible apply State.onPow_kept

theorem landLevel_kept {s : State} (hs : Kept x s0 s) : Kept x s0 (landLevel s) := by
  unfold landLevel
  repeat' first
    | with_reducible assumption
    | with_reducible apply State.onPow_kept
    | with_reducible apply powEvent_kept
    | with_reducible apply endChange_kept
    | with_reducible apply levelDone_kept
    | (extract_lets +onlyGivenNames st; have hst : Kept x s0 st := ?_; clear_value st; revert st; intro st2 hst2)
    | (extract_lets +onlyGivenNames yy; clear_value yy; revert yy; intro y2)
    | with_reducible apply Kept.ite
    | split

theorem ackRail_kept {s : State} {a2} (hs : Kept x s0 s) : Kept x s0 (ackRail s a2) := by
  unfold ackRail
  repeat' first
    | with_reducible assumption
    | with_reducible apply State.onPow_kept
    | with_reducible apply endChange_kept
    | with_reducible apply levelDone_kept
    | (extract_lets +onlyGivenNames st; have hst : Kept x s0 st := ?_; clear_value st; revert st; intro st2 hst2)
    | (extract_lets +onlyGivenNames yy; clear_value yy; revert yy; intro y2)
    | with_reducible apply Kept.ite
    | split

theorem pmbFault_kept {s : State} {a2} (hs : Kept x s0 s) : Kept x s0 (pmbFault s a2) := by
  unfold pmbFault
  repeat' first
    | with_reducible assumption
    | with_reducible apply bump_kept
    | with_reducible apply powEvent_kept
    | with_reducible apply State.onPow_kept
    | (extract_lets +onlyGivenNames st; have hst : Kept x s0 st := ?_; clear_value st; revert st; intro st2 hst2)
    | with_reducible apply Kept.ite

theorem railTimeout_kept {s : State} {a2} (hs : Kept x s0 s) : Kept x s0 (railTimeout s a2) := by
  unfold railTimeout
  repeat' first
    | with_reducible assumption
    | with_reducible apply State.onPow_kept
    | with_reducible apply pmbFault_kept
    | with_reducible apply bump_kept
    | with_reducible apply endChange_kept
    | with_reducible apply timedOut_kept
    | (extract_lets +onlyGivenNames st; have hst : Kept x s0 st := ?_; clear_value st; revert st; intro st2 hst2)
    | with_reducible apply Kept.ite
    | split

theorem landIslands_kept {s : State} (hs : Kept x s0 s) : Kept x s0 (landIslands s) := by
  unfold landIslands
  repeat' first
    | with_reducible assumption
    | with_reducible apply State.each_kept
    | with_reducible apply State.onPow_kept
    | with_reducible apply powRefused_kept
    | with_reducible apply ok_kept
    | with_reducible apply setSleep_kept
    | (intro)
    | with_reducible apply Kept.ite

theorem drivesOff_kept {s : State} (hs : Kept x s0 s) : Kept x s0 (drivesOff s) := by
  unfold drivesOff
  repeat' first
    | with_reducible assumption
    | with_reducible apply State.each_kept
    | with_reducible apply State.onRec_kept
    | with_reducible apply State.onDrive_kept
    | (intro)

theorem canSleep_kept {s : State} (hs : Kept x s0 s) : Kept x s0 (canSleep s) := by
  unfold canSleep
  repeat' first
    | with_reducible assumption
    | with_reducible apply State.onCan_kept

theorem canRestore_kept {s : State} (hs : Kept x s0 s) : Kept x s0 (canRestore s) := by
  unfold canRestore
  repeat' first
    | with_reducible assumption
    | with_reducible apply State.onCan_kept

theorem s3Stage1_kept {s : State} {a2} (hs : Kept x s0 s) : Kept x s0 (s3Stage1 s a2) := by
  unfold s3Stage1
  repeat' first
    | with_reducible assumption
    | with_reducible apply State.onPow_kept
    | with_reducible apply flushAll_kept
    | with_reducible apply spillAll_kept
    | with_reducible apply storeAll_kept

theorem s3Stage2_kept {s : State} (hs : Kept x s0 s) (x_cycle : x .cycle = true) : Kept x s0 (s3Stage2 s) := by
  unfold s3Stage2
  repeat' first
    | with_reducible assumption
    | with_reducible apply canSleep_kept
    | with_reducible apply drivesOff_kept
    | with_reducible apply State.onPow_kept
    | with_reducible apply State.onSupply_kept
    | with_reducible apply State.onSys_kept
    | with_reducible apply endSession_kept
    | with_reducible exact FuseKept.same rfl rfl rfl
    | with_reducible exact fun w => MemsWf.same w rfl rfl

theorem s3Stage3_kept {s : State} (hs : Kept x s0 s) : Kept x s0 (s3Stage3 s) := by
  unfold s3Stage3
  repeat' first
    | with_reducible assumption
    | with_reducible apply State.onSafety_kept
    | with_reducible apply State.onPow_kept
    | with_reducible apply State.onSys_kept
    | with_reducible exact FuseKept.same rfl rfl rfl
    | with_reducible exact SafetyKept.same rfl rfl rfl rfl
    | with_reducible exact fun w => MemsWf.same w rfl rfl
    | (intro)
    | (extract_lets +onlyGivenNames st; have hst : Kept x s0 st := ?_; clear_value st; revert st; intro st2 hst2)
    | with_reducible refine Kept.literal rfl rfl rfl rfl rfl rfl rfl ?_

theorem s3Stage4_kept {s : State} (hs : Kept x s0 s) : Kept x s0 (s3Stage4 s) := by
  unfold s3Stage4
  repeat' first
    | with_reducible assumption
    | with_reducible apply State.onPow_kept
    | with_reducible apply State.onSys_kept
    | with_reducible apply State.onTime_kept
    | with_reducible apply State.onField_kept
    | with_reducible exact FuseKept.same rfl rfl rfl
    | with_reducible exact fun w => MemsWf.same w rfl rfl
    | with_reducible exact .inr rfl
    | (intro)
    | with_reducible refine Kept.literal rfl rfl rfl rfl rfl rfl rfl ?_

theorem undoStage2_kept {s : State} (hs : Kept x s0 s) : Kept x s0 (undoStage2 s) := by
  unfold undoStage2
  repeat' first
    | with_reducible assumption
    | with_reducible apply State.onSupply_kept
    | with_reducible apply State.onSys_kept
    | with_reducible apply canRestore_kept
    | with_reducible exact FuseKept.same rfl rfl rfl
    | with_reducible exact fun w => MemsWf.same w rfl rfl

theorem wakeRings_kept {s : State} (hs : Kept x s0 s) : Kept x s0 (wakeRings s) := by
  unfold wakeRings
  repeat' first
    | with_reducible assumption
    | with_reducible exact CntKept.same rfl
    | with_reducible exact MemsKept.same rfl rfl
    | with_reducible exact fun w => MemsWf.same w rfl rfl
    | with_reducible exact FuseKept.same rfl rfl rfl
    | with_reducible exact SafetyKept.same rfl rfl rfl rfl
    | with_reducible exact CfgKept.same rfl
    | with_reducible exact TripsKept.same rfl rfl
    | with_reducible exact .inr rfl
    | (intro)
    | with_reducible apply Kept.ite
    | split
    | with_reducible refine Kept.literal rfl rfl rfl rfl rfl rfl rfl ?_

theorem abortS3_kept {s : State} {a2} {a3} {a4} (hs : Kept x s0 s) : Kept x s0 (abortS3 s a2 a3 a4) := by
  unfold abortS3
  repeat' first
    | with_reducible assumption
    | with_reducible apply bump_kept
    | with_reducible apply State.onPow_kept
    | with_reducible apply undoStage2_kept
    | with_reducible apply wakeRings_kept
    | with_reducible apply powEvent_kept
    | with_reducible apply Kept.ite
    | split

theorem enterS3_kept {s : State} (hs : Kept x s0 s) : Kept x s0 (enterS3 s) := by
  unfold enterS3
  repeat' first
    | with_reducible assumption
    | with_reducible apply bump_kept
    | with_reducible apply State.onPow_kept

theorem endStage_kept {s : State} {a2} (hs : Kept x s0 s) (x_cycle : x .cycle = true) : Kept x s0 (endStage s a2) := by
  unfold endStage
  repeat' first
    | with_reducible assumption
    | with_reducible apply abortS3_kept
    | with_reducible apply s3Stage2_kept
    | with_reducible apply s3Stage3_kept
    | with_reducible apply s3Stage4_kept
    | with_reducible apply enterS3_kept
    | (extract_lets +onlyGivenNames yy; clear_value yy; revert yy; intro y2)
    | with_reducible apply Kept.ite
    | split

theorem unseedEdges_kept {s : State} (hs : Kept x s0 s) : Kept x s0 (unseedEdges s) := by
  unfold unseedEdges
  repeat' first
    | with_reducible assumption
    | with_reducible refine Kept.literal rfl rfl rfl rfl rfl rfl rfl ?_

theorem refCloses_kept {s : State} (hs : Kept x s0 s) : Kept x s0 (refCloses s) := by
  unfold refCloses
  repeat' first
    | with_reducible assumption
    | with_reducible refine Kept.literal rfl rfl rfl rfl rfl rfl rfl ?_

theorem railsUp_kept {s : State} (hs : Kept x s0 s) : Kept x s0 (railsUp s) := by
  unfold railsUp
  repeat' first
    | with_reducible assumption
    | with_reducible apply draw_kept_proj
    | with_reducible apply State.onPow_kept
    | with_reducible apply State.onSys_kept
    | with_reducible apply State.onTime_kept
    | with_reducible apply refCloses_kept
    | with_reducible apply unseedEdges_kept
    | with_reducible apply State.onSupply_kept
    | with_reducible apply canRestore_kept
    | with_reducible apply wakeRings_kept
    | with_reducible exact FuseKept.same rfl rfl rfl
    | with_reducible exact fun w => MemsWf.same w rfl rfl
    | with_reducible exact .inr rfl
    | (intro)

end Sys2Proof.Machine
end

