-- ==== Sys2Proof/Laws/KeptSystem.lean ====
section
/-! SUPPORT. What these operations keep: the cycle, debug, several modules, power, the recorder, start-up and supply.
Each lemma says that its operation stays within the parts that `x` allows, for states that have stayed within them since
`s0`. -/

namespace Sys2Proof.Machine

open Sys2Proof

variable {x : Part → Bool} {s0 : State}

/-! ## Machine/Cycle.lean -/

theorem nextInstant_kept {s : State} (hs : Kept x s0 s) (x_cycle : x .cycle = true) : Kept x s0 (nextInstant s) := State.onTime_kept hs fun _ => .inl x_cycle

theorem takeInstant_kept {s : State} {a2} (hs : Kept x s0 s) (x_cycle : x .cycle = true) : Kept x s0 (takeInstant s a2) := by
  unfold takeInstant
  repeat' first
    | with_reducible assumption
    | with_reducible apply fence_kept
    | with_reducible apply trimTime_kept
    | with_reducible apply finishTakeover_kept
    | with_reducible apply nextInstant_kept
    | with_reducible apply State.onTime_kept
    | with_reducible apply State.each_kept
    | with_reducible apply ringInstant_kept
    | with_reducible apply healRing_kept
    | with_reducible apply instantField_kept
    | with_reducible apply instantEnergy_kept
    | with_reducible apply State.onSupply_kept
    | with_reducible exact fun w => MemsWf.same w rfl rfl
    | with_reducible exact .inr rfl
    | (intro)
    | split

theorem execInstant_kept {a1} {s : State} (hs : Kept x s0 s) (x_cycle : x .cycle = true) : Ends (Kept x s0) (execInstant a1 s) := by
  unfold execInstant
  repeat' first
    | with_reducible assumption
    | with_reducible apply takeInstant_kept
    | with_reducible apply Ends.next
    | with_reducible apply Kept.ite

theorem weaverWindow_kept {s : State} (hs : Kept x s0 s) : Kept x s0 (weaverWindow s) := by
  unfold weaverWindow
  repeat' first
    | with_reducible assumption
    | with_reducible apply State.each_kept
    | with_reducible apply State.onWeaver_kept
    | with_reducible exact CntKept.same rfl
    | with_reducible exact MemsKept.same rfl rfl
    | with_reducible exact fun w => MemsWf.same w rfl rfl
    | with_reducible exact FuseKept.same rfl rfl rfl
    | with_reducible exact SafetyKept.same rfl rfl rfl rfl
    | with_reducible exact CfgKept.same rfl
    | with_reducible exact TripsKept.same rfl rfl
    | with_reducible exact .inr rfl
    | (intro)
    | with_reducible apply Kept.ite
    | split

theorem runAxes_kept {s : State} (hs : Kept x s0 s) : Kept x s0 (runAxes s) := by
  unfold runAxes
  repeat' first
    | with_reducible assumption
    | with_reducible apply State.onLoop_kept
    | with_reducible apply State.each_kept
    | with_reducible apply axisProgram_kept
    | with_reducible exact CntKept.same rfl
    | with_reducible exact MemsKept.same rfl rfl
    | with_reducible exact fun w => MemsWf.same w rfl rfl
    | with_reducible exact FuseKept.same rfl rfl rfl
    | with_reducible exact SafetyKept.same rfl rfl rfl rfl
    | with_reducible exact CfgKept.same rfl
    | with_reducible exact TripsKept.same rfl rfl
    | with_reducible exact .inr rfl
    | (intro)
    | (extract_lets +onlyGivenNames st; have hst : Kept x s0 st := ?_; clear_value st; revert st; intro st2 hst2)
    | (extract_lets +onlyGivenNames yy; clear_value yy; revert yy; intro y2)
    | with_reducible apply Kept.ite
    | split

theorem endWindow_kept {s : State} (hs : Kept x s0 s) : Kept x s0 (endWindow s) := by
  unfold endWindow
  repeat' first
    | with_reducible assumption
    | with_reducible apply State.onLoop_kept
    | with_reducible exact CntKept.same rfl
    | with_reducible exact MemsKept.same rfl rfl
    | with_reducible exact fun w => MemsWf.same w rfl rfl
    | with_reducible exact FuseKept.same rfl rfl rfl
    | with_reducible exact SafetyKept.same rfl rfl rfl rfl
    | with_reducible exact CfgKept.same rfl
    | with_reducible exact TripsKept.same rfl rfl
    | with_reducible exact .inr rfl
    | (intro)
    | with_reducible apply Kept.ite
    | split

theorem execWindowOpen_kept {s : State} (hs : Kept x s0 s) : Ends (Kept x s0) (execWindowOpen s) := by
  unfold execWindowOpen
  repeat' first
    | with_reducible assumption
    | with_reducible apply State.each_kept
    | with_reducible apply freezeRing_kept
    | with_reducible apply takeDoorImages_kept
    | with_reducible apply endWindow_kept
    | with_reducible apply captureWindow_kept
    | with_reducible apply runAxes_kept
    | with_reducible apply weaverWindow_kept
    | with_reducible exact CntKept.same rfl
    | with_reducible exact MemsKept.same rfl rfl
    | with_reducible exact fun w => MemsWf.same w rfl rfl
    | with_reducible exact FuseKept.same rfl rfl rfl
    | with_reducible exact SafetyKept.same rfl rfl rfl rfl
    | with_reducible exact CfgKept.same rfl
    | with_reducible exact TripsKept.same rfl rfl
    | with_reducible exact .inr rfl
    | (intro)
    | (extract_lets +onlyGivenNames st; have hst : Kept x s0 st := ?_; clear_value st; revert st; intro st2 hst2)
    | (extract_lets +onlyGivenNames yy; clear_value yy; revert yy; intro y2)
    | with_reducible apply Ends.next
    | (dsimp -zeta only [st]; clear st)
    | with_reducible apply Kept.ite
    | split

theorem slotMissEvent_kept {s : State} {a2} (hs : Kept x s0 s) : Kept x s0 (slotMissEvent s a2) := by
  unfold slotMissEvent
  repeat' first
    | with_reducible assumption
    | with_reducible apply recordOnly_kept
    | with_reducible apply activate_kept
    | with_reducible apply State.onAxis_kept
    | with_reducible exact CntKept.same rfl
    | with_reducible exact MemsKept.same rfl rfl
    | with_reducible exact fun w => MemsWf.same w rfl rfl
    | with_reducible exact FuseKept.same rfl rfl rfl
    | with_reducible exact SafetyKept.same rfl rfl rfl rfl
    | with_reducible exact CfgKept.same rfl
    | with_reducible exact TripsKept.same rfl rfl
    | with_reducible exact .inr rfl
    | (intro)
    | (extract_lets +onlyGivenNames st; have hst : Kept x s0 st := ?_; clear_value st; revert st; intro st2 hst2)
    | (extract_lets +onlyGivenNames yy; clear_value yy; revert yy; intro y2)
    | (dsimp -zeta only [st]; clear st)
    | with_reducible apply Kept.ite
    | split

theorem execSlotMiss_kept {a1} {a2} {s : State} (hs : Kept x s0 s) : Ends (Kept x s0) (execSlotMiss a1 a2 s) := by
  unfold execSlotMiss
  repeat' first
    | with_reducible assumption
    | with_reducible apply bump_kept
    | with_reducible apply State.onAxis_kept
    | with_reducible apply slotMissEvent_kept
    | with_reducible apply State.onWeaver_kept
    | with_reducible apply weaverFault_kept
    | with_reducible exact CntKept.same rfl
    | with_reducible exact MemsKept.same rfl rfl
    | with_reducible exact fun w => MemsWf.same w rfl rfl
    | with_reducible exact FuseKept.same rfl rfl rfl
    | with_reducible exact SafetyKept.same rfl rfl rfl rfl
    | with_reducible exact CfgKept.same rfl
    | with_reducible exact TripsKept.same rfl rfl
    | with_reducible exact .inr rfl
    | (intro)
    | (extract_lets +onlyGivenNames st; have hst : Kept x s0 st := ?_; clear_value st; revert st; intro st2 hst2)
    | (extract_lets +onlyGivenNames yy; clear_value yy; revert yy; intro y2)
    | with_reducible apply Ends.next
    | (dsimp -zeta only [st]; clear st)
    | with_reducible apply Kept.ite
    | split

theorem latchRelease_kept {s : State} (hs : Kept x s0 s) : Kept x s0 (latchRelease s) := by
  unfold latchRelease
  repeat' first
    | with_reducible assumption
    | with_reducible apply State.onLoop_kept
    | with_reducible exact CntKept.same rfl
    | with_reducible exact MemsKept.same rfl rfl
    | with_reducible exact fun w => MemsWf.same w rfl rfl
    | with_reducible exact FuseKept.same rfl rfl rfl
    | with_reducible exact SafetyKept.same rfl rfl rfl rfl
    | with_reducible exact CfgKept.same rfl
    | with_reducible exact TripsKept.same rfl rfl
    | with_reducible exact .inr rfl
    | (intro)
    | with_reducible apply Kept.ite
    | split

theorem carAxesOff_kept {s : State} (hs : Kept x s0 s) : Kept x s0 (carAxesOff s) := by
  unfold carAxesOff
  repeat' first
    | with_reducible assumption
    | with_reducible apply State.each_kept
    | with_reducible apply State.onCar_kept
    | with_reducible apply disableAxis_kept
    | (intro)
    | with_reducible apply Kept.ite

theorem safetyTripCar_kept {s : State} {a2} (hs : Kept x s0 s) : Kept x s0 (safetyTripCar s a2) := by
  unfold safetyTripCar
  repeat' first
    | with_reducible assumption
    | with_reducible apply tripCar_kept
    | with_reducible exact CntKept.same rfl
    | with_reducible exact MemsKept.same rfl rfl
    | with_reducible exact fun w => MemsWf.same w rfl rfl
    | with_reducible exact FuseKept.same rfl rfl rfl
    | with_reducible exact SafetyKept.same rfl rfl rfl rfl
    | with_reducible exact CfgKept.same rfl
    | with_reducible exact TripsKept.same rfl rfl
    | with_reducible exact .inr rfl
    | (intro)
    | (extract_lets +onlyGivenNames yy; clear_value yy; revert yy; intro y2)
    | with_reducible apply Kept.ite
    | split

theorem ss1Car_kept {s : State} {a2} (hs : Kept x s0 s) : Kept x s0 (ss1Car s a2) := by
  unfold ss1Car
  repeat' first
    | with_reducible assumption
    | with_reducible apply State.onCar_kept
    | (extract_lets +onlyGivenNames yy; clear_value yy; revert yy; intro y2)
    | with_reducible apply Kept.ite

theorem safetyPublish_kept {s : State} (hs : Kept x s0 s) : Kept x s0 (safetyPublish s) := by
  unfold safetyPublish
  repeat' first
    | with_reducible assumption
    | with_reducible apply ss1Car_kept
    | with_reducible apply publishSafety_kept
    | with_reducible apply State.each_kept
    | with_reducible apply disableAxis_kept
    | with_reducible apply safetyTripCar_kept
    | with_reducible apply State.onShaft_kept
    | with_reducible apply report_kept
    | (intro)
    | (extract_lets +onlyGivenNames st; have hst : Kept x s0 st := ?_; clear_value st; revert st; intro st2 hst2)
    | (extract_lets +onlyGivenNames yy; clear_value yy; revert yy; intro y2)
    | (dsimp -zeta only [st]; clear st)
    | with_reducible apply Kept.ite

theorem takeSnaps_kept {s : State} (hs : Kept x s0 s) : Kept x s0 (takeSnaps s) := by
  unfold takeSnaps
  repeat' first
    | with_reducible assumption
    | with_reducible apply State.onLoop_kept
    | with_reducible apply State.each_kept
    | with_reducible apply State.onCar_kept
    | with_reducible apply redSnap_kept
    | with_reducible apply State.onShaft_kept
    | with_reducible exact CntKept.same rfl
    | with_reducible exact MemsKept.same rfl rfl
    | with_reducible exact fun w => MemsWf.same w rfl rfl
    | with_reducible exact FuseKept.same rfl rfl rfl
    | with_reducible exact SafetyKept.same rfl rfl rfl rfl
    | with_reducible exact CfgKept.same rfl
    | with_reducible exact TripsKept.same rfl rfl
    | with_reducible exact .inr rfl
    | (intro)
    | (extract_lets +onlyGivenNames st; have hst : Kept x s0 st := ?_; clear_value st; revert st; intro st2 hst2)
    | (extract_lets +onlyGivenNames yy; clear_value yy; revert yy; intro y2)
    | (dsimp -zeta only [st]; clear st)
    | with_reducible apply Kept.ite
    | split

theorem loadMasters_kept {s : State} {a2} (hs : Kept x s0 s) : Kept x s0 (loadMasters s a2) := by
  unfold loadMasters
  repeat' first
    | with_reducible assumption
    | with_reducible apply State.each_kept
    | with_reducible apply dropCauses_kept
    | with_reducible apply endInjection_kept
    | with_reducible apply State.onAxis_kept
    | with_reducible apply recordOnly_kept
    | with_reducible exact CntKept.same rfl
    | with_reducible exact MemsKept.same rfl rfl
    | with_reducible exact fun w => MemsWf.same w rfl rfl
    | with_reducible exact FuseKept.same rfl rfl rfl
    | with_reducible exact SafetyKept.same rfl rfl rfl rfl
    | with_reducible exact CfgKept.same rfl
    | with_reducible exact TripsKept.same rfl rfl
    | with_reducible exact .inr rfl
    | (intro)
    | (extract_lets +onlyGivenNames st; have hst : Kept x s0 st := ?_; clear_value st; revert st; intro st2 hst2)
    | (extract_lets +onlyGivenNames yy; clear_value yy; revert yy; intro y2)
    | (dsimp -zeta only [st]; clear st)
    | with_reducible apply Kept.ite
    | split

theorem debugReload_kept {s : State} (hs : Kept x s0 s) : Kept x s0 (debugReload s) := by
  unfold debugReload
  repeat' first
    | with_reducible assumption
    | with_reducible apply State.onDbg_kept
    | with_reducible apply State.each_kept
    | with_reducible apply loadMasters_kept
    | with_reducible apply ok_kept
    | with_reducible exact MemsKept.same rfl rfl
    | with_reducible exact fun w => MemsWf.same w rfl rfl
    | (intro)
    | (extract_lets +onlyGivenNames st; have hst : Kept x s0 st := ?_; clear_value st; revert st; intro st2 hst2)
    | (extract_lets +onlyGivenNames yy; clear_value yy; revert yy; intro y2)
    | with_reducible apply Kept.ite

theorem landEverything_kept {s : State} (hs : Kept x s0 s) : Kept x s0 (landEverything s) := by
  unfold landEverything
  repeat' first
    | with_reducible assumption
    | with_reducible apply applyMotion_kept
    | with_reducible apply Kept.ite
    | with_reducible apply landRings_kept
    | with_reducible apply landAll_kept
    | with_reducible apply State.each_kept
    | with_reducible apply landShaft_kept
    | with_reducible apply landTrace_kept
    | with_reducible apply landCounters_kept
    | with_reducible apply landIslands_kept
    | with_reducible apply landLevel_kept
    | with_reducible apply landCan_kept
    | with_reducible apply landField_kept
    | with_reducible apply landDoors_kept

theorem sendRelease_kept {s : State} (hs : Kept x s0 s) : Kept x s0 (sendRelease s) := by
  unfold sendRelease
  repeat' first
    | with_reducible assumption
    | with_reducible apply sendRecords_kept
    | with_reducible apply sendHeartbeats_kept
    | with_reducible apply ringRelease_kept
    | with_reducible apply guardRing_kept
    | with_reducible apply State.each_kept
    | with_reducible exact CntKept.same rfl
    | with_reducible exact MemsKept.same rfl rfl
    | with_reducible exact fun w => MemsWf.same w rfl rfl
    | with_reducible exact FuseKept.same rfl rfl rfl
    | with_reducible exact SafetyKept.same rfl rfl rfl rfl
    | with_reducible exact CfgKept.same rfl
    | with_reducible exact TripsKept.same rfl rfl
    | with_reducible exact .inr rfl
    | (intro)
    | (extract_lets +onlyGivenNames st; have hst : Kept x s0 st := ?_; clear_value st; revert st; intro st2 hst2)
    | (extract_lets +onlyGivenNames yy; clear_value yy; revert yy; intro y2)
    | with_reducible apply Kept.ite
    | split

theorem journalCycle_kept {s : State} (hs : Kept x s0 s) : Kept x s0 (journalCycle s) := by
  unfold journalCycle
  repeat' first
    | with_reducible assumption
    | with_reducible apply draw_kept_proj
    | with_reducible apply State.onRed_kept
    | with_reducible apply Kept.ite

theorem weaverTicks_kept {s : State} {s2 : State} (hs : Kept x s0 s) (hs2 : Kept x s0 s2) : Kept x s0 (weaverTicks s s2) := by
  unfold weaverTicks
  repeat' first
    | with_reducible assumption
    | with_reducible apply draw_kept_proj
    | with_reducible apply State.each_kept
    | with_reducible apply State.onWeaver_kept
    | with_reducible apply foldl_kept
    | with_reducible apply foldl_kept_fst
    | with_reducible exact CntKept.same rfl
    | with_reducible exact MemsKept.same rfl rfl
    | with_reducible exact fun w => MemsWf.same w rfl rfl
    | with_reducible exact FuseKept.same rfl rfl rfl
    | with_reducible exact SafetyKept.same rfl rfl rfl rfl
    | with_reducible exact CfgKept.same rfl
    | with_reducible exact TripsKept.same rfl rfl
    | with_reducible exact .inr rfl
    | (intro)
    | (extract_lets +onlyGivenNames st; have hst : Kept x s0 st := ?_; clear_value st; revert st; intro st2 hst2)
    | (extract_lets +onlyGivenNames yy; clear_value yy; revert yy; intro y2)
    | (dsimp -zeta only [st]; clear st)
    | with_reducible apply Kept.ite
    | split

theorem takeRelease_kept {s : State} (hs : Kept x s0 s) : Kept x s0 (takeRelease s) := by
  unfold takeRelease
  repeat' first
    | with_reducible assumption
    | with_reducible apply weaverTicks_kept
    | with_reducible apply runCars_kept
    | with_reducible apply landEverything_kept
    | with_reducible apply carAxesOff_kept
    | with_reducible apply latchRelease_kept
    | with_reducible apply takeSnaps_kept
    | with_reducible apply safetyPublish_kept
    | with_reducible apply debugReload_kept
    | with_reducible apply journalCycle_kept
    | with_reducible apply sendRelease_kept
    | with_reducible apply traceRowCopy_kept
    | with_reducible apply State.onTime_kept
    | with_reducible exact fun w => MemsWf.same w rfl rfl
    | with_reducible exact .inr rfl
    | with_reducible exact CntKept.same rfl
    | with_reducible exact MemsKept.same rfl rfl
    | with_reducible exact FuseKept.same rfl rfl rfl
    | with_reducible exact SafetyKept.same rfl rfl rfl rfl
    | with_reducible exact CfgKept.same rfl
    | with_reducible exact TripsKept.same rfl rfl
    | (intro)
    | (extract_lets +onlyGivenNames st; have hst : Kept x s0 st := ?_; clear_value st; revert st; intro st2 hst2)
    | (extract_lets +onlyGivenNames yy; clear_value yy; revert yy; intro y2)
    | (dsimp -zeta only [st]; clear st)
    | with_reducible apply Kept.ite
    | split

theorem execReleasePhase_kept {s : State} (hs : Kept x s0 s) : Ends (Kept x s0) (execReleasePhase s) := by
  unfold execReleasePhase
  repeat' first
    | with_reducible assumption
    | with_reducible apply takeRelease_kept
    | with_reducible apply Ends.next
    | with_reducible apply Kept.ite

/-! ## Machine/Debug.lean -/

theorem execDebugStatus_kept {a1} {s : State} (hs : Kept x s0 s) : Ends (Kept x s0) (execDebugStatus a1 s) := by
  unfold execDebugStatus
  repeat' first
    | with_reducible assumption
    | with_reducible apply serve_kept
    | with_reducible apply ok_kept
    | (intro)
    | with_reducible apply Ends.next

theorem authDenied_kept {s : State} {a2} (hs : Kept x s0 s) : Kept x s0 (authDenied s a2) := by
  unfold authDenied
  repeat' first
    | with_reducible assumption
    | with_reducible apply State.onDbg_kept
    | with_reducible apply dbgEvent_kept
    | with_reducible apply denied_kept
    | with_reducible exact MemsKept.same rfl rfl
    | with_reducible exact fun w => MemsWf.same w rfl rfl
    | (intro)
    | with_reducible apply Kept.ite

theorem openDebug_kept {s : State} {a2} {a3} (hs : Kept x s0 s) : Kept x s0 (openDebug s a2 a3) := by
  unfold openDebug
  repeat' first
    | with_reducible assumption
    | with_reducible apply noteClamps_kept
    | with_reducible apply State.onDbg_kept
    | with_reducible apply dbgEvent_kept
    | with_reducible apply tripModule_kept
    | with_reducible apply ok_kept
    | with_reducible exact MemsKept.same rfl rfl
    | with_reducible exact fun w => MemsWf.same w rfl rfl
    | (intro)
    | with_reducible apply Kept.ite

theorem eraseReturned_kept {s : State} (hs : Kept x s0 s) (x_cfg : x .cfg = true) : Kept x s0 (eraseReturned s) := by
  have h := State.onSafety_kept (State.onCan_kept (a2 := fun c => { c with stored := {} }) (State.onField_kept
    (a2 := fun f => { f with patternNor := none }) (setImg_kept (a2 := 4) (a3 := 1) (a4 := { erased := true })
      (setImg_kept (a2 := 4) (a3 := 0) (a4 := { erased := true }) hs))))
    (f := fun y => { y with core := { y.core with image := [], cfg := {} }, scarp := { y.scarp with image := [], cfg := {} }, password := none })
    fun _ => ⟨Nat.le_refl _, .inl x_cfg, .inl x_cfg, TripsKept.same rfl rfl, .inl x_cfg⟩
  exact (State.onTime_kept (f := fun t => { t with leaps := [] }) h fun _ => .inr rfl).upd rfl rfl rfl rfl rfl rfl rfl

theorem fuseKey_kept {s : State} {a2} {a3} {a4} (hs : Kept x s0 s) : Kept x s0 (fuseKey s a2 a3 a4) := by
  unfold fuseKey
  refine State.onSys_kept hs ⟨.inr rfl, fun _ => Nat.le_refl _, fun k => ?_⟩
  simp only [tabGet_tabMod]
  split
  · rename_i h; subst h; exact ⟨Nat.le_refl _, fun _ h => h⟩
  · exact ⟨Nat.le_refl _, fun _ h => h⟩

theorem changeLifecycle_kept {s : State} {a2} {a3} (hs : Kept x s0 s) (x_lc : x .lc = true) (x_cfg : x .cfg = true) (x_cycle : x .cycle = true) : Kept x s0 (changeLifecycle s a2 a3) := by
  unfold changeLifecycle
  repeat' first
    | with_reducible assumption
    | with_reducible apply fuseKey_kept
    | with_reducible apply eraseReturned_kept
    | with_reducible apply debugReset_kept
    | with_reducible apply State.onSys_kept
    | with_reducible exact fun w => MemsWf.same w rfl rfl
    | split

  all_goals exact ⟨.inl x_lc, fun _ => Nat.le_refl _, fun _ => ⟨Nat.le_refl _, fun _ h => h⟩⟩

theorem execDebugAuth_kept {a1} {s : State} (hs : Kept x s0 s) (x_lc : x .lc = true) (x_cfg : x .cfg = true) (x_cycle : x .cycle = true) : Ends (Kept x s0) (execDebugAuth a1 s) := by
  unfold execDebugAuth
  repeat' first
    | with_reducible assumption
    | with_reducible apply serve_kept
    | with_reducible apply refused_kept
    | with_reducible apply draw_kept_proj
    | with_reducible apply ok_kept
    | with_reducible apply State.onDbg_kept
    | with_reducible apply authDenied_kept
    | with_reducible apply changeLifecycle_kept
    | with_reducible apply openDebug_kept
    | with_reducible exact MemsKept.same rfl rfl
    | with_reducible exact fun w => MemsWf.same w rfl rfl
    | (intro)
    | (extract_lets +onlyGivenNames st; have hst : Kept x s0 st := ?_; clear_value st; revert st; intro st2 hst2)
    | (extract_lets +onlyGivenNames yy; clear_value yy; revert yy; intro y2)
    | with_reducible apply Ends.next
    | with_reducible apply Kept.ite

theorem execDebugClose_kept {a1} {s : State} (hs : Kept x s0 s) (x_cycle : x .cycle = true) : Ends (Kept x s0) (execDebugClose a1 s) := by
  unfold execDebugClose
  repeat' first
    | with_reducible assumption
    | with_reducible apply serve_kept
    | with_reducible apply ok_kept
    | with_reducible apply denied_kept
    | with_reducible apply endSession_kept
    | with_reducible apply State.onDbg_kept
    | with_reducible exact MemsKept.same rfl rfl
    | with_reducible exact fun w => MemsWf.same w rfl rfl
    | (intro)
    | (extract_lets +onlyGivenNames st; have hst : Kept x s0 st := ?_; clear_value st; revert st; intro st2 hst2)
    | with_reducible apply Ends.next
    | with_reducible apply Kept.ite

theorem execDebugSessionExpiry_kept {s : State} (hs : Kept x s0 s) (x_cycle : x .cycle = true) : Ends (Kept x s0) (execDebugSessionExpiry s) := by
  unfold execDebugSessionExpiry
  repeat' first
    | with_reducible assumption
    | with_reducible apply endSession_kept
    | with_reducible apply Ends.next

theorem execNonceExpiry_kept {s : State} (hs : Kept x s0 s) : Ends (Kept x s0) (execNonceExpiry s) := by
  unfold execNonceExpiry
  repeat' first
    | with_reducible assumption
    | with_reducible apply State.onDbg_kept
    | with_reducible exact MemsKept.same rfl rfl
    | with_reducible exact fun w => MemsWf.same w rfl rfl
    | (intro)
    | with_reducible apply Ends.next

theorem execAuthLockoutEnd_kept {s : State} (hs : Kept x s0 s) : Ends (Kept x s0) (execAuthLockoutEnd s) := by
  unfold execAuthLockoutEnd
  repeat' first
    | with_reducible assumption
    | with_reducible apply State.onDbg_kept
    | with_reducible exact MemsKept.same rfl rfl
    | with_reducible exact fun w => MemsWf.same w rfl rfl
    | (intro)
    | with_reducible apply Ends.next

theorem execJtagInstruction_kept {a1} {s : State} (hs : Kept x s0 s) : Ends (Kept x s0) (execJtagInstruction a1 s) := by
  unfold execJtagInstruction
  repeat' first
    | with_reducible assumption
    | with_reducible apply State.onSys_kept
    | with_reducible exact FuseKept.same rfl rfl rfl
    | with_reducible exact fun w => MemsWf.same w rfl rfl
    | with_reducible exact CntKept.same rfl
    | with_reducible exact MemsKept.same rfl rfl
    | with_reducible exact SafetyKept.same rfl rfl rfl rfl
    | with_reducible exact CfgKept.same rfl
    | with_reducible exact TripsKept.same rfl rfl
    | with_reducible exact .inr rfl
    | (intro)
    | (extract_lets +onlyGivenNames st; have hst : Kept x s0 st := ?_; clear_value st; revert st; intro st2 hst2)
    | (extract_lets +onlyGivenNames yy; clear_value yy; revert yy; intro y2)
    | with_reducible apply Ends.next
    | (dsimp -zeta only [st]; clear st)
    | with_reducible apply Kept.ite
    | split

/-! ## Machine/Multi.lean -/

theorem execSideRecordFrameRx_kept {a1} {a2} {a3} {a4} {a5} {s : State} (hs : Kept x s0 s) : Ends (Kept x s0) (execSideRecordFrameRx a1 a2 a3 a4 a5 s) := by
  unfold execSideRecordFrameRx
  repeat' first
    | with_reducible assumption
    | with_reducible apply State.each_kept
    | with_reducible apply State.onLink_kept
    | with_reducible apply takeRecord_kept
    | with_reducible apply Ends.next
    | with_reducible apply Kept.ite

theorem execBulkFrameRx_kept {a1} {a2} {s : State} (hs : Kept x s0 s) : Ends (Kept x s0) (execBulkFrameRx a1 a2 s) := by
  unfold execBulkFrameRx
  repeat' first
    | with_reducible assumption
    | with_reducible apply State.onLink_kept
    | with_reducible apply Ends.next
    | with_reducible apply Kept.ite

theorem execTrunkSlotRx_kept {a1} {a2} {a3} {s : State} (hs : Kept x s0 s) : Ends (Kept x s0) (execTrunkSlotRx a1 a2 a3 s) := by
  unfold execTrunkSlotRx
  repeat' first
    | with_reducible assumption
    | with_reducible apply State.each_kept
    | with_reducible apply takeRecord_kept
    | with_reducible apply Ends.next
    | with_reducible apply Kept.ite

theorem execPtpMessage_kept {a1} {s : State} (hs : Kept x s0 s) : Ends (Kept x s0) (execPtpMessage a1 s) := by
  unfold execPtpMessage
  repeat' first
    | with_reducible assumption
    | with_reducible apply setTime_kept
    | with_reducible apply learnUtc_kept
    | with_reducible apply addLeap_kept
    | with_reducible exact fun w => MemsWf.same w rfl rfl
    | with_reducible exact .inr rfl
    | (intro)
    | (extract_lets +onlyGivenNames st; have hst : Kept x s0 st := ?_; clear_value st; revert st; intro st2 hst2)
    | with_reducible apply Ends.next
    | (dsimp -zeta only [st]; clear st)
    | with_reducible apply Kept.ite
    | split

theorem execPtpUnavailable_kept {s : State} (hs : Kept x s0 s) : Ends (Kept x s0) (execPtpUnavailable s) := by
  unfold execPtpUnavailable
  repeat' first
    | with_reducible assumption
    | with_reducible apply setTime_kept
    | with_reducible exact fun w => MemsWf.same w rfl rfl
    | with_reducible exact .inr rfl
    | (intro)
    | with_reducible apply Ends.next
    | with_reducible apply Kept.ite

theorem execTimeSourceLoss_kept {s : State} (hs : Kept x s0 s) : Ends (Kept x s0) (execTimeSourceLoss s) := by
  unfold execTimeSourceLoss
  repeat' first
    | with_reducible assumption
    | with_reducible apply chooseSource_kept
    | with_reducible apply State.onTime_kept
    | with_reducible exact fun w => MemsWf.same w rfl rfl
    | with_reducible exact .inr rfl
    | (intro)
    | with_reducible apply Ends.next
    | with_reducible apply Kept.ite

theorem execBackupMasterTakeover_kept {s : State} (hs : Kept x s0 s) : Ends (Kept x s0) (execBackupMasterTakeover s) := by
  unfold execBackupMasterTakeover
  repeat' first
    | with_reducible assumption
    | with_reducible apply actMaster_kept
    | (extract_lets +onlyGivenNames yy; clear_value yy; revert yy; intro y2)
    | with_reducible apply Ends.next
    | with_reducible apply Kept.ite

theorem execZoneDownMissing_kept {a1} {s : State} (hs : Kept x s0 s) : Ends (Kept x s0) (execZoneDownMissing a1 s) := by
  unfold execZoneDownMissing
  repeat' first
    | with_reducible assumption
    | with_reducible apply State.onMulti_kept
    | with_reducible apply State.onAxis_kept
    | (extract_lets +onlyGivenNames st; have hst : Kept x s0 st := ?_; clear_value st; revert st; intro st2 hst2)
    | (extract_lets +onlyGivenNames yy; clear_value yy; revert yy; intro y2)
    | with_reducible apply Ends.next
    | with_reducible apply Kept.ite

theorem execZoneUpMissing_kept {a1} {a2} {s : State} (hs : Kept x s0 s) : Ends (Kept x s0) (execZoneUpMissing a1 a2 s) := by
  unfold execZoneUpMissing
  repeat' first
    | with_reducible assumption
    | with_reducible apply onZoneUp_kept
    | with_reducible apply Ends.next
    | with_reducible apply Kept.ite

theorem execSideLinkDown_kept {a1} {s : State} (hs : Kept x s0 s) : Ends (Kept x s0) (execSideLinkDown a1 s) := by
  unfold execSideLinkDown
  repeat' first
    | with_reducible assumption
    | with_reducible apply bump_kept
    | with_reducible apply State.onLink_kept
    | with_reducible apply State.onTime_kept
    | with_reducible apply chooseSource_kept
    | with_reducible exact fun w => MemsWf.same w rfl rfl
    | with_reducible exact .inr rfl
    | (intro)
    | (extract_lets +onlyGivenNames st; have hst : Kept x s0 st := ?_; clear_value st; revert st; intro st2 hst2)
    | with_reducible apply Ends.next
    | with_reducible apply Kept.ite

/-! ## Machine/Power.lean -/

theorem execPowerStatus_kept {a1} {s : State} (hs : Kept x s0 s) : Ends (Kept x s0) (execPowerStatus a1 s) := by
  unfold execPowerStatus
  repeat' first
    | with_reducible assumption
    | with_reducible apply serve_kept
    | with_reducible apply ok_kept
    | (intro)
    | with_reducible apply Ends.next

theorem execPowerLevelRequest_kept {a1} {s : State} (hs : Kept x s0 s) : Ends (Kept x s0) (execPowerLevelRequest a1 s) := by
  unfold execPowerLevelRequest
  repeat' first
    | with_reducible assumption
    | with_reducible apply serve_kept
    | with_reducible apply State.onPow_kept
    | with_reducible apply runLevel_kept
    | (intro)
    | with_reducible apply Ends.next
    | with_reducible apply Kept.ite

theorem sleepIsland_kept {s : State} {a2} {a3} {a4} (hs : Kept x s0 s) : Kept x s0 (sleepIsland s a2 a3 a4) := by
  unfold sleepIsland
  repeat' first
    | with_reducible assumption
    | with_reducible apply ok_kept
    | with_reducible apply powRefused_kept
    | with_reducible apply State.onPow_kept
    | with_reducible apply Kept.ite

theorem sleepModule_kept {s : State} {a2} (hs : Kept x s0 s) : Kept x s0 (sleepModule s a2) := by
  unfold sleepModule
  repeat' first
    | with_reducible assumption
    | with_reducible apply ok_kept
    | with_reducible apply powRefused_kept
    | with_reducible apply s3Stage1_kept
    | with_reducible apply Kept.ite
    | split

theorem execPowerSleepRequest_kept {a1} {s : State} (hs : Kept x s0 s) : Ends (Kept x s0) (execPowerSleepRequest a1 s) := by
  unfold execPowerSleepRequest
  repeat' first
    | with_reducible assumption
    | with_reducible apply serve_kept
    | with_reducible apply sleepIsland_kept
    | with_reducible apply sleepModule_kept
    | (intro)
    | (extract_lets +onlyGivenNames yy; clear_value yy; revert yy; intro y2)
    | with_reducible apply Ends.next
    | split

theorem execPmbusAck_kept {a1} {s : State} (hs : Kept x s0 s) : Ends (Kept x s0) (execPmbusAck a1 s) := by
  unfold execPmbusAck
  repeat' first
    | with_reducible assumption
    | with_reducible apply ackRail_kept
    | with_reducible apply Ends.next

theorem execPmbusTimeout_kept {a1} {s : State} (hs : Kept x s0 s) : Ends (Kept x s0) (execPmbusTimeout a1 s) := by
  unfold execPmbusTimeout
  repeat' first
    | with_reducible assumption
    | with_reducible apply railTimeout_kept
    | with_reducible apply Ends.next

theorem execS3StageEnd_kept {a1} {s : State} (hs : Kept x s0 s) (x_cycle : x .cycle = true) : Ends (Kept x s0) (execS3StageEnd a1 s) := by
  unfold execS3StageEnd
  repeat' first
    | with_reducible assumption
    | with_reducible apply endStage_kept
    | with_reducible apply Ends.next
    | with_reducible apply Kept.ite

theorem execS3Wake_kept {a1} {s : State} (hs : Kept x s0 s) : Ends (Kept x s0) (execS3Wake a1 s) := by
  unfold execS3Wake
  repeat' first
    | with_reducible assumption
    | with_reducible apply s3Wake_kept
    | with_reducible apply State.onCh_kept
    | with_reducible exact CntKept.same rfl
    | with_reducible exact MemsKept.same rfl rfl
    | with_reducible exact fun w => MemsWf.same w rfl rfl
    | with_reducible exact FuseKept.same rfl rfl rfl
    | with_reducible exact SafetyKept.same rfl rfl rfl rfl
    | with_reducible exact CfgKept.same rfl
    | with_reducible exact TripsKept.same rfl rfl
    | with_reducible exact .inr rfl
    | (intro)
    | with_reducible apply Ends.next
    | with_reducible apply Kept.ite
    | split

theorem execS3RailsUp_kept {a1} {s : State} (hs : Kept x s0 s) (x_cycle : x .cycle = true) : Ends (Kept x s0) (execS3RailsUp a1 s) := by
  unfold execS3RailsUp
  repeat' first
    | with_reducible assumption
    | with_reducible apply railsUp_kept
    | with_reducible apply ctlReset_kept
    | with_reducible apply Ends.next
    | with_reducible apply Kept.ite

theorem execS3ReturnCreelOpen_kept {a1} {s : State} (hs : Kept x s0 s) : Ends (Kept x s0) (execS3ReturnCreelOpen a1 s) := by
  unfold execS3ReturnCreelOpen
  repeat' first
    | with_reducible assumption
    | with_reducible apply draw_kept_proj
    | with_reducible apply State.onSys_kept
    | with_reducible apply setStage_kept
    | with_reducible apply State.onPow_kept
    | with_reducible apply State.each_kept
    | with_reducible apply powEvent_kept
    | with_reducible apply raise_kept
    | with_reducible exact FuseKept.same rfl rfl rfl
    | with_reducible exact fun w => MemsWf.same w rfl rfl
    | with_reducible apply Ends.next
    | with_reducible apply Kept.ite

/-! ## Machine/Recorder.lean -/

theorem execRecStatus_kept {a1} {s : State} (hs : Kept x s0 s) : Ends (Kept x s0) (execRecStatus a1 s) := by
  unfold execRecStatus
  repeat' first
    | with_reducible assumption
    | with_reducible apply serve_kept
    | with_reducible apply ok_kept
    | (intro)
    | with_reducible apply Ends.next

theorem execStoreHealth_kept {a1} {s : State} (hs : Kept x s0 s) : Ends (Kept x s0) (execStoreHealth a1 s) := by
  unfold execStoreHealth
  repeat' first
    | with_reducible assumption
    | with_reducible apply serve_kept
    | with_reducible apply ok_kept
    | (intro)
    | (extract_lets +onlyGivenNames yy; clear_value yy; revert yy; intro y2)
    | with_reducible apply Ends.next

theorem setTrigger_kept {s : State} {a2} (hs : Kept x s0 s) : Kept x s0 (setTrigger s a2) := by
  unfold setTrigger
  repeat' first
    | with_reducible assumption
    | with_reducible apply refused_kept
    | with_reducible apply store_kept
    | with_reducible apply State.onRec_kept
    | with_reducible apply ok_kept
    | (extract_lets +onlyGivenNames st; have hst : Kept x s0 st := ?_; clear_value st; revert st; intro st2 hst2)
    | (extract_lets +onlyGivenNames yy; clear_value yy; revert yy; intro y2)
    | with_reducible apply Kept.ite

theorem setTrace_kept {s : State} {a2} (hs : Kept x s0 s) : Kept x s0 (setTrace s a2) := by
  unfold setTrace
  repeat' first
    | with_reducible assumption
    | with_reducible apply refused_kept
    | with_reducible apply State.onRec_kept
    | (extract_lets +onlyGivenNames yy; clear_value yy; revert yy; intro y2)
    | with_reducible apply Kept.ite

theorem execRecTriggerSet_kept {a1} {s : State} (hs : Kept x s0 s) : Ends (Kept x s0) (execRecTriggerSet a1 s) := by
  unfold execRecTriggerSet
  repeat' first
    | with_reducible assumption
    | with_reducible apply serve_kept
    | with_reducible apply setTrigger_kept
    | with_reducible apply setTrace_kept
    | (intro)
    | (extract_lets +onlyGivenNames yy; clear_value yy; revert yy; intro y2)
    | with_reducible apply Ends.next
    | with_reducible apply Kept.ite

theorem stageWindow_kept {s : State} {a2} {a3} {a4} {a5} {a6} {a7} (hs : Kept x s0 s) : Kept x s0 (stageWindow s a2 a3 a4 a5 a6 a7) := by
  unfold stageWindow
  repeat' first
    | with_reducible assumption
    | with_reducible apply State.onPstat_kept
    | with_reducible apply ok_kept

theorem execRecCursorSet_kept {a1} {s : State} (hs : Kept x s0 s) : Ends (Kept x s0) (execRecCursorSet a1 s) := by
  unfold execRecCursorSet
  repeat' first
    | with_reducible assumption
    | with_reducible apply serve_kept
    | with_reducible apply State.onPstat_kept
    | with_reducible apply ok_kept
    | with_reducible apply stageWindow_kept
    | (intro)
    | (extract_lets +onlyGivenNames st; have hst : Kept x s0 st := ?_; clear_value st; revert st; intro st2 hst2)
    | (extract_lets +onlyGivenNames yy; clear_value yy; revert yy; intro y2)
    | with_reducible apply Ends.next
    | with_reducible apply Kept.ite

theorem countMemory_kept {s : State} {a2} (hs : Kept x s0 s) : Kept x s0 (countMemory s a2) := by
  unfold countMemory
  repeat' first
    | with_reducible assumption
    | with_reducible apply bump_kept
    | with_reducible exact CntKept.same rfl
    | with_reducible exact MemsKept.same rfl rfl
    | with_reducible exact fun w => MemsWf.same w rfl rfl
    | with_reducible exact FuseKept.same rfl rfl rfl
    | with_reducible exact SafetyKept.same rfl rfl rfl rfl
    | with_reducible exact CfgKept.same rfl
    | with_reducible exact TripsKept.same rfl rfl
    | with_reducible exact .inr rfl
    | (intro)
    | with_reducible apply Kept.ite
    | split

theorem execRecEventIntake_kept {a1} {a2} {s : State} (hs : Kept x s0 s) : Ends (Kept x s0) (execRecEventIntake a1 a2 s) := by
  unfold execRecEventIntake
  repeat' first
    | with_reducible assumption
    | with_reducible apply countMemory_kept
    | with_reducible apply raise_kept
    | with_reducible apply takeEvent_kept
    | with_reducible apply State.onRec_kept
    | with_reducible exact CntKept.same rfl
    | with_reducible exact MemsKept.same rfl rfl
    | with_reducible exact fun w => MemsWf.same w rfl rfl
    | with_reducible exact FuseKept.same rfl rfl rfl
    | with_reducible exact SafetyKept.same rfl rfl rfl rfl
    | with_reducible exact CfgKept.same rfl
    | with_reducible exact TripsKept.same rfl rfl
    | with_reducible exact .inr rfl
    | (intro)
    | (extract_lets +onlyGivenNames st; have hst : Kept x s0 st := ?_; clear_value st; revert st; intro st2 hst2)
    | (extract_lets +onlyGivenNames yy; clear_value yy; revert yy; intro y2)
    | with_reducible apply Ends.next
    | (dsimp -zeta only [st]; clear st)
    | with_reducible apply Kept.ite
    | split

theorem execRecSealTimer_kept {s : State} (hs : Kept x s0 s) : Ends (Kept x s0) (execRecSealTimer s) := by
  unfold execRecSealTimer
  repeat' first
    | with_reducible assumption
    | with_reducible apply sealOpen_kept
    | with_reducible apply Ends.next

theorem execRecPageSpill_kept {a1} {s : State} (hs : Kept x s0 s) : Ends (Kept x s0) (execRecPageSpill a1 s) := by
  unfold execRecPageSpill
  repeat' first
    | with_reducible assumption
    | with_reducible apply spillTrace_kept
    | with_reducible apply spillPage_kept
    | with_reducible apply Ends.next
    | with_reducible apply Kept.ite

theorem execNvmeFlushTimer_kept {s : State} (hs : Kept x s0 s) : Ends (Kept x s0) (execNvmeFlushTimer s) := by
  unfold execNvmeFlushTimer
  repeat' first
    | with_reducible assumption
    | with_reducible apply flushAll_kept
    | with_reducible apply Ends.next

theorem execNvmeFlushDone_kept {a1} {s : State} (hs : Kept x s0 s) : Ends (Kept x s0) (execNvmeFlushDone a1 s) := by
  unfold execNvmeFlushDone
  repeat' first
    | with_reducible assumption
    | with_reducible apply State.onRec_kept
    | with_reducible apply State.onDrive_kept
    | (extract_lets +onlyGivenNames yy; clear_value yy; revert yy; intro y2)
    | with_reducible apply Ends.next
    | with_reducible apply Kept.ite

theorem execNvmeWriteDone_kept {a1} {a2} {a3} {s : State} (hs : Kept x s0 s) : Ends (Kept x s0) (execNvmeWriteDone a1 a2 a3 s) := by
  unfold execNvmeWriteDone
  repeat' first
    | with_reducible assumption
    | with_reducible apply timeWrite_kept
    | with_reducible apply State.onDrive_kept
    | with_reducible apply bump_kept
    | with_reducible apply retireStripe_kept
    | with_reducible exact CntKept.same rfl
    | with_reducible exact MemsKept.same rfl rfl
    | with_reducible exact fun w => MemsWf.same w rfl rfl
    | with_reducible exact FuseKept.same rfl rfl rfl
    | with_reducible exact SafetyKept.same rfl rfl rfl rfl
    | with_reducible exact CfgKept.same rfl
    | with_reducible exact TripsKept.same rfl rfl
    | with_reducible exact .inr rfl
    | (intro)
    | (extract_lets +onlyGivenNames st; have hst : Kept x s0 st := ?_; clear_value st; revert st; intro st2 hst2)
    | (extract_lets +onlyGivenNames yy; clear_value yy; revert yy; intro y2)
    | with_reducible apply Ends.next
    | (dsimp -zeta only [st]; clear st)
    | with_reducible apply Kept.ite
    | split

theorem execSmartPoll_kept {a1} {a2} {s : State} (hs : Kept x s0 s) : Ends (Kept x s0) (execSmartPoll a1 a2 s) := by
  unfold execSmartPoll
  repeat' first
    | with_reducible assumption
    | with_reducible apply State.onDrive_kept
    | with_reducible apply recEvent_kept
    | with_reducible apply reduceTrace_kept
    | (extract_lets +onlyGivenNames st; have hst : Kept x s0 st := ?_; clear_value st; revert st; intro st2 hst2)
    | (extract_lets +onlyGivenNames yy; clear_value yy; revert yy; intro y2)
    | with_reducible apply Ends.next
    | (dsimp -zeta only [st]; clear st)
    | with_reducible apply Kept.ite

theorem execDriveAttach_kept {a1} {a2} {s : State} (hs : Kept x s0 s) : Ends (Kept x s0) (execDriveAttach a1 a2 s) := by
  unfold execDriveAttach
  repeat' first
    | with_reducible assumption
    | with_reducible apply State.onRec_kept
    | with_reducible apply State.onDrive_kept
    | with_reducible apply recEvent_kept
    | (extract_lets +onlyGivenNames st; have hst : Kept x s0 st := ?_; clear_value st; revert st; intro st2 hst2)
    | (extract_lets +onlyGivenNames yy; clear_value yy; revert yy; intro y2)
    | with_reducible apply Ends.next
    | (dsimp -zeta only [st]; clear st)
    | with_reducible apply Kept.ite

theorem execDriveFail_kept {a1} {a2} {s : State} (hs : Kept x s0 s) : Ends (Kept x s0) (execDriveFail a1 a2 s) := by
  unfold execDriveFail
  repeat' first
    | with_reducible assumption
    | with_reducible apply failDrive_kept
    | with_reducible apply Ends.next
    | with_reducible apply Kept.ite

theorem execMirrorProgram_kept {a1} {a2} {s : State} (hs : Kept x s0 s) : Ends (Kept x s0) (execMirrorProgram a1 a2 s) := by
  unfold execMirrorProgram
  repeat' first
    | with_reducible assumption
    | with_reducible apply programPage_kept
    | with_reducible apply Ends.next

theorem execTraceHoldExpiry_kept {a1} {s : State} (hs : Kept x s0 s) : Ends (Kept x s0) (execTraceHoldExpiry a1 s) := by
  unfold execTraceHoldExpiry
  repeat' first
    | with_reducible assumption
    | with_reducible apply State.onRec_kept
    | with_reducible apply Ends.next

/-! ## Machine/Startup.lean -/

theorem reachStage_kept {s : State} {a2} {a3} {a4} (hs : Kept x s0 s) : Kept x s0 (reachStage s a2 a3 a4) := by
  unfold reachStage
  repeat' first
    | with_reducible assumption
    | with_reducible apply draw_kept_proj
    | with_reducible apply setStage_kept

theorem fellBack_kept {s : State} {a2} {a3} (hs : Kept x s0 s) : Kept x s0 (fellBack s a2 a3) := by
  unfold fellBack
  repeat' first
    | with_reducible assumption
    | with_reducible apply recordOnly_kept
    | with_reducible apply State.onSys_kept
    | with_reducible exact FuseKept.same rfl rfl rfl
    | with_reducible exact fun w => MemsWf.same w rfl rfl
    | with_reducible apply Kept.ite

theorem noteStarted_kept {s : State} {a2} {a3} (hs : Kept x s0 s) : Kept x s0 (noteStarted s a2 a3) := by
  unfold noteStarted
  repeat' first
    | with_reducible assumption
    | with_reducible apply State.onSys_kept
    | with_reducible exact FuseKept.same rfl rfl rfl
    | with_reducible exact fun w => MemsWf.same w rfl rfl

theorem execPowerGood_kept {a1} {a2} {a3} {s : State} (hs : Kept x s0 s) (x_trips : x .trips = true) : Ends (Kept x s0) (execPowerGood a1 a2 a3 s) := by
  unfold execPowerGood
  repeat' first
    | with_reducible assumption
    | with_reducible apply State.onSupply_kept
    | with_reducible apply State.onSys_kept
    | with_reducible apply State.onField_kept
    | with_reducible exact FuseKept.same rfl rfl rfl
    | with_reducible exact fun w => MemsWf.same w rfl rfl
    | (extract_lets +onlyGivenNames st; have hst : Kept x s0 st := ?_; clear_value st; revert st; intro st2 hst2)
    | with_reducible apply Ends.next
    | with_reducible apply Kept.ite

theorem execMainsInRange_kept {a1} {s : State} (hs : Kept x s0 s) : Ends (Kept x s0) (execMainsInRange a1 s) := by
  unfold execMainsInRange
  repeat' first
    | with_reducible assumption
    | with_reducible apply State.onSupply_kept
    | with_reducible apply Ends.next
    | with_reducible apply Kept.ite

theorem execScarpResetRelease_kept {s : State} (hs : Kept x s0 s) (x_trips : x .trips = true) : Ends (Kept x s0) (execScarpResetRelease s) := by
  unfold execScarpResetRelease
  repeat' first
    | with_reducible assumption
    | with_reducible apply State.onSafety_kept
    | with_reducible apply State.onSys_kept
    | with_reducible exact FuseKept.same rfl rfl rfl
    | with_reducible exact fun w => MemsWf.same w rfl rfl
    | (intro)
    | with_reducible apply Ends.next
    | with_reducible apply Kept.ite

  all_goals first
    | exact ⟨Nat.le_refl _, .inr rfl, .inr rfl, .inl x_trips, .inr rfl⟩

theorem execControllerResetRelease_kept {s : State} (hs : Kept x s0 s) : Ends (Kept x s0) (execControllerResetRelease s) := by
  unfold execControllerResetRelease
  repeat' first
    | with_reducible assumption
    | with_reducible apply State.onSys_kept
    | with_reducible exact FuseKept.same rfl rfl rfl
    | with_reducible exact fun w => MemsWf.same w rfl rfl
    | with_reducible apply Ends.next
    | with_reducible apply Kept.ite

theorem trustedRuns_kept {s : State} {a2} {a3} (hs : Kept x s0 s) : Kept x s0 (trustedRuns s a2 a3) := by
  unfold trustedRuns
  repeat' first
    | with_reducible assumption
    | with_reducible apply State.onSys_kept
    | with_reducible apply noteStarted_kept
    | with_reducible apply State.onRec_kept
    | with_reducible apply raise_kept
    | with_reducible apply reachStage_kept
    | with_reducible apply fellBack_kept
    | with_reducible apply State.onTime_kept
    | with_reducible apply State.each_kept
    | with_reducible exact FuseKept.same rfl rfl rfl
    | with_reducible exact fun w => MemsWf.same w rfl rfl
    | with_reducible exact .inr rfl
    | with_reducible exact CntKept.same rfl
    | with_reducible exact MemsKept.same rfl rfl
    | with_reducible exact SafetyKept.same rfl rfl rfl rfl
    | with_reducible exact CfgKept.same rfl
    | with_reducible exact TripsKept.same rfl rfl
    | (intro)
    | (extract_lets +onlyGivenNames st; have hst : Kept x s0 st := ?_; clear_value st; revert st; intro st2 hst2)
    | (extract_lets +onlyGivenNames yy; clear_value yy; revert yy; intro y2)
    | with_reducible apply Kept.ite
    | split

theorem execTrustedImageVerified_kept {a1} {s : State} (hs : Kept x s0 s) : Ends (Kept x s0) (execTrustedImageVerified a1 s) := by
  unfold execTrustedImageVerified
  repeat' first
    | with_reducible assumption
    | with_reducible apply trustedRuns_kept
    | with_reducible apply bootStop_kept
    | with_reducible apply Ends.next
    | with_reducible apply Kept.ite
    | split

theorem startChannel_kept {s : State} {a2} (hs : Kept x s0 s) : Kept x s0 (startChannel s a2) := by
  unfold startChannel
  repeat' first
    | with_reducible assumption
    | with_reducible apply draw_kept_proj
    | with_reducible apply State.onCan_kept

theorem execCanStart_kept {s : State} (hs : Kept x s0 s) : Ends (Kept x s0) (execCanStart s) := by
  unfold execCanStart
  repeat' first
    | with_reducible assumption
    | with_reducible apply State.each_kept
    | with_reducible apply startChannel_kept
    | with_reducible apply Ends.next
    | with_reducible apply Kept.ite

theorem takeManifest_kept {s : State} {a2} (hs : Kept x s0 s) : Kept x s0 (takeManifest s a2) := by
  unfold takeManifest
  repeat' first
    | with_reducible assumption
    | with_reducible apply State.onSys_kept
    | with_reducible apply State.onHost_kept
    | with_reducible exact FuseKept.same rfl rfl rfl
    | with_reducible exact fun w => MemsWf.same w rfl rfl

theorem lightRings_kept {s : State} (hs : Kept x s0 s) : Kept x s0 (lightRings s) := by
  unfold lightRings
  repeat' first
    | with_reducible assumption
    | with_reducible apply State.onSys_kept
    | with_reducible apply State.each_kept
    | with_reducible apply State.onRing_kept
    | with_reducible exact FuseKept.same rfl rfl rfl
    | with_reducible exact fun w => MemsWf.same w rfl rfl
    | (intro)

theorem startCore_kept {s : State} (hs : Kept x s0 s) : Kept x s0 (startCore s) :=
  State.onSafety_kept hs fun _ => ⟨Nat.le_refl _, .inr rfl, .inr rfl, TripsKept.rfl', .inr rfl⟩

theorem applicationRuns_kept {s : State} {a2} {a3} (hs : Kept x s0 s) (x_cycle : x .cycle = true) : Kept x s0 (applicationRuns s a2 a3) := by
  unfold applicationRuns
  repeat' first
    | with_reducible assumption
    | with_reducible apply noteStarted_kept
    | with_reducible apply fellBack_kept
    | with_reducible apply State.onSys_kept
    | with_reducible apply startCore_kept
    | with_reducible apply lightRings_kept
    | with_reducible apply State.onRed_kept
    | with_reducible apply actMaster_kept
    | with_reducible apply draw_kept_proj
    | with_reducible apply State.onTime_kept
    | with_reducible apply takeInstant_kept
    | with_reducible apply reachStage_kept
    | with_reducible apply State.onCan_kept
    | with_reducible exact FuseKept.same rfl rfl rfl
    | with_reducible exact fun w => MemsWf.same w rfl rfl
    | with_reducible exact .inr rfl
    | (intro)
    | with_reducible apply Kept.ite

theorem execAppStart_kept {a1} {s : State} (hs : Kept x s0 s) (x_cycle : x .cycle = true) : Ends (Kept x s0) (execAppStart a1 s) := by
  unfold execAppStart
  refine Ends.next ?_
  split
  · exact hs
  · split
    · exact bootStop_kept hs
    · split
      · exact bootStop_kept hs
      · rename_i mc m _
        have h1 : Kept x s0 (if usesManifest (draw s).2 = true then noteStarted (draw s).2 4 mc else (draw s).2) := by
          split
          · exact noteStarted_kept (draw_kept_proj hs)
          · exact draw_kept_proj hs
        have h2 := takeManifest_kept (a2 := m) (fellBack_kept (a2 := mc) (a3 := Config.choice (draw s).1 % 65536) h1)
        show Kept x s0 (let t := takeManifest (fellBack (if usesManifest (draw s).2 = true then noteStarted (draw s).2 4 mc else (draw s).2) mc (Config.choice (draw s).1 % 65536)) m
          match bootCopy t 2, bootCopy t 3 with
          | none, _ => bootStop t 4
          | some _, none => bootStop t 5
          | some a, some b => applicationRuns t a b)
        generalize takeManifest (fellBack (if usesManifest (draw s).2 = true then noteStarted (draw s).2 4 mc else (draw s).2) mc (Config.choice (draw s).1 % 65536)) m = t at h2 ⊢
        dsimp only
        split
        · exact bootStop_kept h2
        · exact bootStop_kept h2
        · exact applicationRuns_kept h2 x_cycle

theorem execRootPortRelease_kept {s : State} (hs : Kept x s0 s) : Ends (Kept x s0) (execRootPortRelease s) := by
  unfold execRootPortRelease
  repeat' first
    | with_reducible assumption
    | with_reducible apply State.onSys_kept
    | with_reducible exact FuseKept.same rfl rfl rfl
    | with_reducible exact fun w => MemsWf.same w rfl rfl
    | with_reducible apply Ends.next
    | with_reducible apply Kept.ite

theorem execPcieLinkUp_kept {s : State} (hs : Kept x s0 s) : Ends (Kept x s0) (execPcieLinkUp s) := by
  unfold execPcieLinkUp
  repeat' first
    | with_reducible assumption
    | with_reducible apply State.onSys_kept
    | with_reducible apply State.each_kept
    | with_reducible apply raiseVector_kept
    | with_reducible apply State.onQueue_kept
    | with_reducible exact FuseKept.same rfl rfl rfl
    | with_reducible exact fun w => MemsWf.same w rfl rfl
    | with_reducible exact CntKept.same rfl
    | with_reducible exact MemsKept.same rfl rfl
    | with_reducible exact SafetyKept.same rfl rfl rfl rfl
    | with_reducible exact CfgKept.same rfl
    | with_reducible exact TripsKept.same rfl rfl
    | with_reducible exact .inr rfl
    | (intro)
    | (extract_lets +onlyGivenNames st; have hst : Kept x s0 st := ?_; clear_value st; revert st; intro st2 hst2)
    | (extract_lets +onlyGivenNames yy; clear_value yy; revert yy; intro y2)
    | with_reducible apply Ends.next
    | (dsimp -zeta only [st]; clear st)
    | with_reducible apply Kept.ite
    | split

theorem handshakeFails_kept {s : State} (hs : Kept x s0 s) : Kept x s0 (handshakeFails s) := by
  unfold handshakeFails
  repeat' first
    | with_reducible assumption
    | with_reducible apply tripModule_kept
    | with_reducible apply State.onSafety_kept
    | with_reducible apply bootStop_kept
    | with_reducible apply logWrite_kept
    | with_reducible exact SafetyKept.same rfl rfl rfl rfl
    | with_reducible exact fun w => MemsWf.same w rfl rfl
    | (intro)
    | with_reducible apply Kept.ite

theorem execSafetyHandshake_kept {a1} {s : State} (hs : Kept x s0 s) : Ends (Kept x s0) (execSafetyHandshake a1 s) := by
  unfold execSafetyHandshake
  repeat' first
    | with_reducible assumption
    | with_reducible apply State.onSys_kept
    | with_reducible apply handshakeFails_kept
    | with_reducible apply draw_kept_proj
    | with_reducible apply setStage_kept
    | with_reducible apply reachStage_kept
    | with_reducible apply State.onSafety_kept
    | with_reducible exact FuseKept.same rfl rfl rfl
    | with_reducible exact SafetyKept.same rfl rfl rfl rfl
    | with_reducible exact fun w => MemsWf.same w rfl rfl
    | with_reducible exact CntKept.same rfl
    | with_reducible exact MemsKept.same rfl rfl
    | with_reducible exact CfgKept.same rfl
    | with_reducible exact TripsKept.same rfl rfl
    | with_reducible exact .inr rfl
    | (intro)
    | (extract_lets +onlyGivenNames st; have hst : Kept x s0 st := ?_; clear_value st; revert st; intro st2 hst2)
    | (extract_lets +onlyGivenNames fn; have hfn : ∀ z, Kept x s0 z → Kept x s0 (fn z) := ?_; clear_value fn; revert fn; intro fn2 hfn)
    | (extract_lets +onlyGivenNames yy; clear_value yy; revert yy; intro y2)
    | with_reducible apply hfn
    | with_reducible apply Ends.next
    | (dsimp -zeta only [st]; clear st)
    | (dsimp -zeta only [fn]; clear fn)
    | with_reducible apply Kept.ite
    | split

theorem restoreAxes_kept {s : State} (hs : Kept x s0 s) : Kept x s0 (restoreAxes s) := by
  unfold restoreAxes
  repeat' first
    | with_reducible assumption
    | with_reducible apply State.each_kept
    | with_reducible apply State.onAxis_kept
    | (intro)

theorem restoreShafts_kept {s : State} (hs : Kept x s0 s) : Kept x s0 (restoreShafts s) := by
  unfold restoreShafts
  repeat' first
    | with_reducible assumption
    | with_reducible apply State.each_kept
    | with_reducible apply State.onShaft_kept
    | with_reducible apply State.onCar_kept
    | (intro)

theorem restoreDoor_kept {s : State} {a2} {a3} (hs : Kept x s0 s) : Kept x s0 (restoreDoor s a2 a3) := by
  unfold restoreDoor
  repeat' first
    | with_reducible assumption
    | with_reducible apply State.onDoor_kept

theorem restoreDoors_kept {s : State} (hs : Kept x s0 s) : Kept x s0 (restoreDoors s) := by
  unfold restoreDoors
  repeat' first
    | with_reducible assumption
    | with_reducible apply State.each_kept
    | with_reducible apply restoreDoor_kept
    | with_reducible apply State.onField_kept
    | (intro)

theorem restoreField_kept {s : State} (hs : Kept x s0 s) : Kept x s0 (restoreField s) := by
  unfold restoreField
  repeat' first
    | with_reducible assumption
    | with_reducible apply State.each_kept
    | with_reducible apply landField1_kept
    | with_reducible apply State.onField_kept
    | (intro)
    | (extract_lets +onlyGivenNames st; have hst : Kept x s0 st := ?_; clear_value st; revert st; intro st2 hst2)
    | with_reducible apply Kept.ite
    | split

theorem restoreCan_kept {s : State} (hs : Kept x s0 s) : Kept x s0 (restoreCan s) := by
  unfold restoreCan
  repeat' first
    | with_reducible assumption
    | with_reducible apply State.each_kept
    | with_reducible apply landCan1_kept
    | (intro)

theorem restoreAll_kept {s : State} (hs : Kept x s0 s) : Kept x s0 (restoreAll s) := by
  unfold restoreAll
  repeat' first
    | with_reducible assumption
    | with_reducible apply restoreCan_kept
    | with_reducible apply restoreField_kept
    | with_reducible apply restoreDoors_kept
    | with_reducible apply restoreShafts_kept
    | with_reducible apply restoreAxes_kept
    | with_reducible apply State.onRec_kept

theorem execWeaverLoad_kept {a1} {s : State} (hs : Kept x s0 s) : Ends (Kept x s0) (execWeaverLoad a1 s) := by
  unfold execWeaverLoad
  repeat' first
    | with_reducible assumption
    | with_reducible apply draw_kept_proj
    | with_reducible apply setStage_kept
    | with_reducible apply loadMasters_kept
    | with_reducible apply bootStop_kept
    | with_reducible apply reachStage_kept
    | with_reducible apply restoreAll_kept
    | with_reducible exact CntKept.same rfl
    | with_reducible exact MemsKept.same rfl rfl
    | with_reducible exact fun w => MemsWf.same w rfl rfl
    | with_reducible exact FuseKept.same rfl rfl rfl
    | with_reducible exact SafetyKept.same rfl rfl rfl rfl
    | with_reducible exact CfgKept.same rfl
    | with_reducible exact TripsKept.same rfl rfl
    | with_reducible exact .inr rfl
    | (intro)
    | (extract_lets +onlyGivenNames st; have hst : Kept x s0 st := ?_; clear_value st; revert st; intro st2 hst2)
    | (extract_lets +onlyGivenNames yy; clear_value yy; revert yy; intro y2)
    | with_reducible apply Ends.next
    | (dsimp -zeta only [st]; clear st)
    | with_reducible apply Kept.ite
    | split

theorem raiseMinimums_kept {s : State} {a2} (hs : Kept x s0 s) : Kept x s0 (raiseMinimums s a2) := by
  unfold raiseMinimums
  split
  · exact hs
  · split
    rename_i svn slot _
    extract_lets k st st1
    have h1 : Kept x s0 st := by
      dsimp only [st]
      split
      · rename_i h
        refine codeEvent_kept (State.onSys_kept hs ⟨.inr rfl, fun k => ?_, fun _ => ⟨Nat.le_refl _, fun _ h => h⟩⟩)
        dsimp only
        rw [tabGet_tabSet]
        split
        · rename_i h2; subst h2; omega
        · exact Nat.le_refl _
      · exact hs
    clear_value st
    split
    · rename_i h
      refine codeEvent_kept (State.onSys_kept h1 ⟨.inr rfl, fun _ => Nat.le_refl _, fun j => ?_⟩)
      dsimp only
      rw [tabGet_tabMod]
      split
      · rename_i h2
        subst h2
        exact ⟨Nat.le_of_lt h, fun i hi => by
          rw [BitVec.getLsbD_or]
          exact Bool.or_eq_true _ _ ▸ .inl hi⟩
      · exact ⟨Nat.le_refl _, fun _ h => h⟩
    · exact h1

theorem execCreelOpen_kept {s : State} (hs : Kept x s0 s) : Ends (Kept x s0) (execCreelOpen s) := by
  unfold execCreelOpen
  repeat' first
    | with_reducible assumption
    | with_reducible apply State.onCan_kept
    | with_reducible apply State.onSys_kept
    | with_reducible apply State.each_kept
    | with_reducible apply reachStage_kept
    | with_reducible apply raiseMinimums_kept
    | with_reducible exact FuseKept.same rfl rfl rfl
    | with_reducible exact fun w => MemsWf.same w rfl rfl
    | (extract_lets +onlyGivenNames st; have hst : Kept x s0 st := ?_; clear_value st; revert st; intro st2 hst2)
    | (extract_lets +onlyGivenNames yy; clear_value yy; revert yy; intro y2)
    | with_reducible apply Ends.next
    | with_reducible apply Kept.ite

theorem execMotionFloor_kept {s : State} (hs : Kept x s0 s) (x_trips : x .trips = true) : Ends (Kept x s0) (execMotionFloor s) := by
  unfold execMotionFloor
  repeat' first
    | with_reducible assumption
    | with_reducible apply State.onSys_kept
    | with_reducible apply State.each_kept
    | with_reducible apply State.onChan_kept
    | with_reducible apply resetEdge_kept
    | with_reducible exact FuseKept.same rfl rfl rfl
    | with_reducible exact fun w => MemsWf.same w rfl rfl
    | with_reducible exact CfgKept.same rfl
    | with_reducible exact TripsKept.same rfl rfl
    | with_reducible exact CntKept.same rfl
    | with_reducible exact MemsKept.same rfl rfl
    | with_reducible exact SafetyKept.same rfl rfl rfl rfl
    | with_reducible exact .inr rfl
    | (intro)
    | (extract_lets +onlyGivenNames st; have hst : Kept x s0 st := ?_; clear_value st; revert st; intro st2 hst2)
    | (extract_lets +onlyGivenNames yy; clear_value yy; revert yy; intro y2)
    | with_reducible apply Ends.next
    | (dsimp -zeta only [st]; clear st)
    | with_reducible apply Kept.ite
    | split

theorem execMrstNAssert_kept {s : State} (hs : Kept x s0 s) (x_cycle : x .cycle = true) : Ends (Kept x s0) (execMrstNAssert s) := by
  unfold execMrstNAssert
  repeat' first
    | with_reducible assumption
    | with_reducible apply ctlReset_kept
    | with_reducible apply State.onSys_kept
    | with_reducible exact FuseKept.same rfl rfl rfl
    | with_reducible exact fun w => MemsWf.same w rfl rfl
    | (extract_lets +onlyGivenNames st; have hst : Kept x s0 st := ?_; clear_value st; revert st; intro st2 hst2)
    | with_reducible apply Ends.next
    | (dsimp -zeta only [st]; clear st)
    | with_reducible apply Kept.ite

theorem execMrstNRelease_kept {s : State} (hs : Kept x s0 s) : Ends (Kept x s0) (execMrstNRelease s) := by
  unfold execMrstNRelease
  repeat' first
    | with_reducible assumption
    | with_reducible apply State.onSys_kept
    | with_reducible exact FuseKept.same rfl rfl rfl
    | with_reducible exact fun w => MemsWf.same w rfl rfl
    | with_reducible apply Ends.next

theorem execSummitWatchdog_kept {s : State} (hs : Kept x s0 s) (x_cycle : x .cycle = true) : Ends (Kept x s0) (execSummitWatchdog s) := by
  unfold execSummitWatchdog
  repeat' first
    | with_reducible assumption
    | with_reducible apply ctlReset_kept
    | with_reducible apply Ends.next
    | with_reducible apply Kept.ite

theorem execStakeWatchdog_kept {s : State} (hs : Kept x s0 s) (x_cycle : x .cycle = true) : Ends (Kept x s0) (execStakeWatchdog s) := by
  unfold execStakeWatchdog
  repeat' first
    | with_reducible assumption
    | with_reducible apply ctlReset_kept
    | with_reducible apply setFailed_kept
    | with_reducible apply Ends.next
    | with_reducible apply Kept.ite

theorem execFatalControllerFault_kept {s : State} (hs : Kept x s0 s) (x_cycle : x .cycle = true) : Ends (Kept x s0) (execFatalControllerFault s) := by
  unfold execFatalControllerFault
  repeat' first
    | with_reducible assumption
    | with_reducible apply ctlReset_kept
    | with_reducible apply Ends.next
    | with_reducible apply Kept.ite

theorem execPcieHotReset_kept {s : State} (hs : Kept x s0 s) : Ends (Kept x s0) (execPcieHotReset s) := by
  unfold execPcieHotReset
  repeat' first
    | with_reducible assumption
    | with_reducible apply State.onSys_kept
    | with_reducible exact FuseKept.same rfl rfl rfl
    | with_reducible exact fun w => MemsWf.same w rfl rfl
    | with_reducible apply Ends.next

theorem beginRestart_kept {s : State} {a2} {a3} (hs : Kept x s0 s) : Kept x s0 (beginRestart s a2 a3) := by
  unfold beginRestart
  repeat' first
    | with_reducible assumption
    | with_reducible apply State.onSys_kept
    | with_reducible apply State.onCan_kept
    | with_reducible exact FuseKept.same rfl rfl rfl
    | with_reducible exact fun w => MemsWf.same w rfl rfl

theorem execSysAppRestart_kept {a1} {s : State} (hs : Kept x s0 s) (x_cycle : x .cycle = true) : Ends (Kept x s0) (execSysAppRestart a1 s) := by
  unfold execSysAppRestart
  repeat' first
    | with_reducible assumption
    | with_reducible apply serve_kept
    | with_reducible apply refused_kept
    | with_reducible apply beginRestart_kept
    | with_reducible apply recordOnly_kept
    | with_reducible apply draw_kept_proj
    | with_reducible apply ctlReset_kept
    | (intro)
    | with_reducible apply Ends.next
    | with_reducible apply Kept.ite
    | split

theorem execAppRestarted_kept {a1} {s : State} (hs : Kept x s0 s) : Ends (Kept x s0) (execAppRestarted a1 s) := by
  unfold execAppRestarted
  repeat' first
    | with_reducible assumption
    | with_reducible apply State.onSys_kept
    | with_reducible apply unseedEdges_kept
    | with_reducible apply State.onCan_kept
    | with_reducible apply ok_kept
    | with_reducible exact FuseKept.same rfl rfl rfl
    | with_reducible exact fun w => MemsWf.same w rfl rfl
    | (extract_lets +onlyGivenNames st; have hst : Kept x s0 st := ?_; clear_value st; revert st; intro st2 hst2)
    | with_reducible apply Ends.next
    | split

/-! ## Machine/Supply.lean -/

theorem fieldFalls_kept {s : State} (hs : Kept x s0 s) : Kept x s0 (fieldFalls s) := by
  unfold fieldFalls
  repeat' first
    | with_reducible assumption
    | with_reducible apply fieldOff_kept
    | with_reducible apply State.onSupply_kept

theorem storageOff_kept {s : State} (hs : Kept x s0 s) : Kept x s0 (storageOff s) := by
  unfold storageOff
  repeat' first
    | with_reducible assumption
    | with_reducible apply drivesOff_kept
    | with_reducible apply State.onSupply_kept

theorem execPowerFailWarning_kept {s : State} (hs : Kept x s0 s) : Ends (Kept x s0) (execPowerFailWarning s) := by
  unfold execPowerFailWarning
  repeat' first
    | with_reducible assumption
    | with_reducible apply State.onSupply_kept
    | with_reducible apply cairnPowerFail_kept
    | (extract_lets +onlyGivenNames st; have hst : Kept x s0 st := ?_; clear_value st; revert st; intro st2 hst2)
    | with_reducible apply Ends.next
    | with_reducible apply Kept.ite

theorem execLoadShed_kept {s : State} (hs : Kept x s0 s) : Ends (Kept x s0) (execLoadShed s) := by
  unfold execLoadShed
  repeat' first
    | with_reducible assumption
    | with_reducible apply State.onSupply_kept
    | with_reducible apply storageOff_kept
    | with_reducible apply fieldFalls_kept
    | (extract_lets +onlyGivenNames st; have hst : Kept x s0 st := ?_; clear_value st; revert st; intro st2 hst2)
    | with_reducible apply Ends.next
    | with_reducible apply Kept.ite

theorem execPowerGoodFall_kept {s : State} (hs : Kept x s0 s) (x_cnt : x .cnt = true) (x_trips : x .trips = true) (x_cycle : x .cycle = true) : Ends (Kept x s0) (execPowerGoodFall s) := by
  unfold execPowerGoodFall
  repeat' first
    | with_reducible assumption
    | with_reducible apply logicLoss_kept
    | with_reducible apply Ends.next
    | with_reducible apply Kept.ite

theorem execMainsReturn_kept {s : State} (hs : Kept x s0 s) : Ends (Kept x s0) (execMainsReturn s) := by
  unfold execMainsReturn
  repeat' first
    | with_reducible assumption
    | with_reducible apply State.onSupply_kept
    | with_reducible apply State.onField_kept
    | with_reducible apply State.onRec_kept
    | (extract_lets +onlyGivenNames st; have hst : Kept x s0 st := ?_; clear_value st; revert st; intro st2 hst2)
    | (extract_lets +onlyGivenNames yy; clear_value yy; revert yy; intro y2)
    | with_reducible apply Ends.next
    | (dsimp -zeta only [st]; clear st)
    | with_reducible apply Kept.ite

theorem execTempSample_kept {a1} {s : State} (hs : Kept x s0 s) (x_cnt : x .cnt = true) (x_trips : x .trips = true) (x_cycle : x .cycle = true) : Ends (Kept x s0) (execTempSample a1 s) := by
  unfold execTempSample
  repeat' first
    | with_reducible assumption
    | with_reducible apply State.onSupply_kept
    | with_reducible apply logicLoss_kept
    | (extract_lets +onlyGivenNames st; have hst : Kept x s0 st := ?_; clear_value st; revert st; intro st2 hst2)
    | with_reducible apply Ends.next
    | with_reducible apply Kept.ite

theorem execThermalRestart_kept {s : State} (hs : Kept x s0 s) : Ends (Kept x s0) (execThermalRestart s) := by
  unfold execThermalRestart
  repeat' first
    | with_reducible assumption
    | with_reducible apply State.onSupply_kept
    | with_reducible apply Ends.next
    | with_reducible apply Kept.ite

theorem execField24vLoss_kept {s : State} (hs : Kept x s0 s) : Ends (Kept x s0) (execField24vLoss s) := by
  unfold execField24vLoss
  repeat' first
    | with_reducible assumption
    | with_reducible apply fieldFalls_kept
    | with_reducible apply State.onField_kept
    | with_reducible apply Ends.next
    | with_reducible apply Kept.ite

theorem execField24vRestore_kept {s : State} (hs : Kept x s0 s) : Ends (Kept x s0) (execField24vRestore s) := by
  unfold execField24vRestore
  repeat' first
    | with_reducible assumption
    | with_reducible apply State.onField_kept
    | with_reducible apply State.onSupply_kept
    | with_reducible apply Ends.next
    | with_reducible apply Kept.ite

theorem State.onCage_kept {s : State} {a2} {a3} (hs : Kept x s0 s) : Kept x s0 (State.onCage s a2 a3) := by
  unfold State.onCage
  repeat' first
    | with_reducible assumption
    | with_reducible apply State.onSupply_kept

theorem portDark_kept {s : State} {a2} (hs : Kept x s0 s) : Kept x s0 (portDark s a2) := by
  unfold portDark
  repeat' first
    | with_reducible assumption
    | with_reducible apply loseLock_kept
    | with_reducible apply Kept.ite

theorem execCagePowerMeasure_kept {a1} {a2} {s : State} (hs : Kept x s0 s) : Ends (Kept x s0) (execCagePowerMeasure a1 a2 s) := by
  unfold execCagePowerMeasure
  repeat' first
    | with_reducible assumption
    | with_reducible apply portDark_kept
    | with_reducible apply State.onSupply_kept
    | with_reducible apply State.onCage_kept
    | with_reducible apply Ends.next
    | with_reducible apply Kept.ite

theorem execOpticInsert_kept {a1} {s : State} (hs : Kept x s0 s) : Ends (Kept x s0) (execOpticInsert a1 s) := by
  unfold execOpticInsert
  repeat' first
    | with_reducible assumption
    | with_reducible apply State.onCage_kept
    | with_reducible apply Ends.next
    | with_reducible apply Kept.ite

theorem execOpticRemove_kept {a1} {s : State} (hs : Kept x s0 s) : Ends (Kept x s0) (execOpticRemove a1 s) := by
  unfold execOpticRemove
  repeat' first
    | with_reducible assumption
    | with_reducible apply State.onCage_kept
    | with_reducible apply portDark_kept
    | with_reducible apply State.onSupply_kept
    | (extract_lets +onlyGivenNames st; have hst : Kept x s0 st := ?_; clear_value st; revert st; intro st2 hst2)
    | (extract_lets +onlyGivenNames yy; clear_value yy; revert yy; intro y2)
    | with_reducible apply Ends.next
    | (dsimp -zeta only [st]; clear st)
    | with_reducible apply Kept.ite

theorem execCageOverLimit_kept {a1} {s : State} (hs : Kept x s0 s) : Ends (Kept x s0) (execCageOverLimit a1 s) := by
  unfold execCageOverLimit
  repeat' first
    | with_reducible assumption
    | with_reducible apply portDark_kept
    | with_reducible apply State.onSupply_kept
    | with_reducible apply State.onCage_kept
    | with_reducible apply Ends.next
    | with_reducible apply Kept.ite

theorem execStorageOvercurrent_kept {s : State} (hs : Kept x s0 s) : Ends (Kept x s0) (execStorageOvercurrent s) := by
  unfold execStorageOvercurrent
  repeat' first
    | with_reducible assumption
    | with_reducible apply storageOff_kept
    | with_reducible apply State.onSupply_kept
    | with_reducible apply Ends.next
    | with_reducible apply Kept.ite

theorem execStorageRetry_kept {s : State} (hs : Kept x s0 s) : Ends (Kept x s0) (execStorageRetry s) := by
  unfold execStorageRetry
  repeat' first
    | with_reducible assumption
    | with_reducible apply State.onSupply_kept
    | with_reducible apply Ends.next
    | with_reducible apply Kept.ite

theorem execSynciEdge_kept {a1} {s : State} (hs : Kept x s0 s) : Ends (Kept x s0) (execSynciEdge a1 s) := by
  unfold execSynciEdge
  repeat' first
    | with_reducible assumption
    | with_reducible apply State.onSupply_kept
    | with_reducible apply Ends.next
    | with_reducible apply Kept.ite

/-! ## Machine/System.lean -/

theorem execSysIdent_kept {a1} {s : State} (hs : Kept x s0 s) : Ends (Kept x s0) (execSysIdent a1 s) := by
  unfold execSysIdent
  repeat' first
    | with_reducible assumption
    | with_reducible apply serve_kept
    | with_reducible apply ok_kept
    | (intro)
    | with_reducible apply Ends.next

theorem execSysState_kept {a1} {s : State} (hs : Kept x s0 s) : Ends (Kept x s0) (execSysState a1 s) := by
  unfold execSysState
  repeat' first
    | with_reducible assumption
    | with_reducible apply serve_kept
    | with_reducible apply ok_kept
    | (intro)
    | with_reducible apply Ends.next

theorem execSysTimeGet_kept {a1} {s : State} (hs : Kept x s0 s) : Ends (Kept x s0) (execSysTimeGet a1 s) := by
  unfold execSysTimeGet
  repeat' first
    | with_reducible assumption
    | with_reducible apply serve_kept
    | with_reducible apply ok_kept
    | (intro)
    | with_reducible apply Ends.next

theorem execSysSubscribe_kept {a1} {s : State} (hs : Kept x s0 s) : Ends (Kept x s0) (execSysSubscribe a1 s) := by
  unfold execSysSubscribe
  repeat' first
    | with_reducible assumption
    | with_reducible apply serve_kept
    | with_reducible apply denied_kept
    | with_reducible apply noSuch_kept
    | with_reducible apply State.onQueue_kept
    | with_reducible apply ok_kept
    | with_reducible exact CntKept.same rfl
    | with_reducible exact MemsKept.same rfl rfl
    | with_reducible exact fun w => MemsWf.same w rfl rfl
    | with_reducible exact FuseKept.same rfl rfl rfl
    | with_reducible exact SafetyKept.same rfl rfl rfl rfl
    | with_reducible exact CfgKept.same rfl
    | with_reducible exact TripsKept.same rfl rfl
    | with_reducible exact .inr rfl
    | (intro)
    | (extract_lets +onlyGivenNames st; have hst : Kept x s0 st := ?_; clear_value st; revert st; intro st2 hst2)
    | (extract_lets +onlyGivenNames yy; clear_value yy; revert yy; intro y2)
    | with_reducible apply Ends.next
    | (dsimp -zeta only [st]; clear st)
    | with_reducible apply Kept.ite
    | split

theorem execSysUnsubscribe_kept {a1} {s : State} (hs : Kept x s0 s) : Ends (Kept x s0) (execSysUnsubscribe a1 s) := by
  unfold execSysUnsubscribe
  repeat' first
    | with_reducible assumption
    | with_reducible apply serve_kept
    | with_reducible apply State.onQueue_kept
    | with_reducible apply ok_kept
    | (intro)
    | (extract_lets +onlyGivenNames yy; clear_value yy; revert yy; intro y2)
    | with_reducible apply Ends.next

theorem execPartInfo_kept {a1} {s : State} (hs : Kept x s0 s) : Ends (Kept x s0) (execPartInfo a1 s) := by
  unfold execPartInfo
  repeat' first
    | with_reducible assumption
    | with_reducible apply serve_kept
    | with_reducible apply ok_kept
    | with_reducible exact CntKept.same rfl
    | with_reducible exact MemsKept.same rfl rfl
    | with_reducible exact fun w => MemsWf.same w rfl rfl
    | with_reducible exact FuseKept.same rfl rfl rfl
    | with_reducible exact SafetyKept.same rfl rfl rfl rfl
    | with_reducible exact CfgKept.same rfl
    | with_reducible exact TripsKept.same rfl rfl
    | with_reducible exact .inr rfl
    | (intro)
    | (extract_lets +onlyGivenNames st; have hst : Kept x s0 st := ?_; clear_value st; revert st; intro st2 hst2)
    | (extract_lets +onlyGivenNames yy; clear_value yy; revert yy; intro y2)
    | with_reducible apply Ends.next
    | with_reducible apply Kept.ite
    | split

theorem execPartStats_kept {a1} {s : State} (hs : Kept x s0 s) : Ends (Kept x s0) (execPartStats a1 s) := by
  unfold execPartStats
  repeat' first
    | with_reducible assumption
    | with_reducible apply serve_kept
    | with_reducible apply ok_kept
    | (intro)
    | with_reducible apply Ends.next

theorem execQueueCreate_kept {a1} {s : State} (hs : Kept x s0 s) : Ends (Kept x s0) (execQueueCreate a1 s) := by
  unfold execQueueCreate
  repeat' first
    | with_reducible assumption
    | with_reducible apply serve_kept
    | with_reducible apply denied_kept
    | with_reducible apply noteClamps_kept
    | with_reducible apply refused_kept
    | with_reducible apply draw_kept_proj
    | with_reducible apply State.onHost_kept
    | with_reducible apply ok_kept
    | (intro)
    | (extract_lets +onlyGivenNames st; have hst : Kept x s0 st := ?_; clear_value st; revert st; intro st2 hst2)
    | (extract_lets +onlyGivenNames yy; clear_value yy; revert yy; intro y2)
    | with_reducible apply Ends.next
    | with_reducible apply Kept.ite

theorem dropHolder_kept {s : State} {a2} (hs : Kept x s0 s) (x_cycle : x .cycle = true) : Kept x s0 (dropHolder s a2) := by
  unfold dropHolder
  repeat' first
    | with_reducible assumption
    | with_reducible apply endSession_kept
    | with_reducible apply Kept.ite

theorem execQueueDelete_kept {a1} {s : State} (hs : Kept x s0 s) (x_cycle : x .cycle = true) : Ends (Kept x s0) (execQueueDelete a1 s) := by
  unfold execQueueDelete
  repeat' first
    | with_reducible assumption
    | with_reducible apply serve_kept
    | with_reducible apply State.onQueue_kept
    | with_reducible apply State.onPstat_kept
    | with_reducible apply removeQueue_kept
    | with_reducible apply flushQueue_kept
    | with_reducible apply dropHolder_kept
    | with_reducible apply ok_kept
    | with_reducible exact CntKept.same rfl
    | with_reducible exact MemsKept.same rfl rfl
    | with_reducible exact fun w => MemsWf.same w rfl rfl
    | with_reducible exact FuseKept.same rfl rfl rfl
    | with_reducible exact SafetyKept.same rfl rfl rfl rfl
    | with_reducible exact CfgKept.same rfl
    | with_reducible exact TripsKept.same rfl rfl
    | with_reducible exact .inr rfl
    | (intro)
    | (extract_lets +onlyGivenNames st; have hst : Kept x s0 st := ?_; clear_value st; revert st; intro st2 hst2)
    | (extract_lets +onlyGivenNames yy; clear_value yy; revert yy; intro y2)
    | with_reducible apply Ends.next
    | (dsimp -zeta only [st]; clear st)
    | with_reducible apply Kept.ite
    | split

theorem execQueueBucketSet_kept {a1} {s : State} (hs : Kept x s0 s) : Ends (Kept x s0) (execQueueBucketSet a1 s) := by
  unfold execQueueBucketSet
  repeat' first
    | with_reducible assumption
    | with_reducible apply serve_kept
    | with_reducible apply refused_kept
    | with_reducible apply State.onQueue_kept
    | with_reducible apply ok_kept
    | (intro)
    | (extract_lets +onlyGivenNames st; have hst : Kept x s0 st := ?_; clear_value st; revert st; intro st2 hst2)
    | (extract_lets +onlyGivenNames yy; clear_value yy; revert yy; intro y2)
    | with_reducible apply Ends.next
    | with_reducible apply Kept.ite

theorem execQueueRekey_kept {a1} {s : State} (hs : Kept x s0 s) : Ends (Kept x s0) (execQueueRekey a1 s) := by
  unfold execQueueRekey
  repeat' first
    | with_reducible assumption
    | with_reducible apply serve_kept
    | with_reducible apply draw_kept_proj
    | with_reducible apply ok_kept
    | with_reducible exact CntKept.same rfl
    | with_reducible exact MemsKept.same rfl rfl
    | with_reducible exact fun w => MemsWf.same w rfl rfl
    | with_reducible exact FuseKept.same rfl rfl rfl
    | with_reducible exact SafetyKept.same rfl rfl rfl rfl
    | with_reducible exact CfgKept.same rfl
    | with_reducible exact TripsKept.same rfl rfl
    | with_reducible exact .inr rfl
    | (intro)
    | (extract_lets +onlyGivenNames st; have hst : Kept x s0 st := ?_; clear_value st; revert st; intro st2 hst2)
    | (extract_lets +onlyGivenNames yy; clear_value yy; revert yy; intro y2)
    | with_reducible apply Ends.next
    | with_reducible apply Kept.ite
    | split

/-! ## Machine/Timeout.lean -/

theorem mapLoopReqs_kept {s : State} {a2} (hs : Kept x s0 s) : Kept x s0 (mapLoopReqs s a2) := by
  unfold mapLoopReqs
  repeat' first
    | with_reducible assumption
    | with_reducible apply State.onLoop_kept
    | (extract_lets +onlyGivenNames st; have hst : Kept x s0 st := ?_; clear_value st; revert st; intro st2 hst2)
    | with_reducible refine Kept.literal rfl rfl rfl rfl rfl rfl rfl ?_

theorem mapMotionReqs_kept {s : State} {a2} (hs : Kept x s0 s) : Kept x s0 (mapMotionReqs s a2) := by
  unfold mapMotionReqs
  repeat' first
    | with_reducible assumption
    | with_reducible apply State.onMotion_kept
    | with_reducible apply State.onDisp_kept
    | (extract_lets +onlyGivenNames st; have hst : Kept x s0 st := ?_; clear_value st; revert st; intro st2 hst2)
    | with_reducible refine Kept.literal rfl rfl rfl rfl rfl rfl rfl ?_

theorem mapIoReqs_kept {s : State} {a2} (hs : Kept x s0 s) : Kept x s0 (mapIoReqs s a2) := by
  unfold mapIoReqs
  repeat' first
    | with_reducible assumption
    | with_reducible apply State.onCan_kept
    | with_reducible apply State.onField_kept

theorem mapModuleReqs_kept {s : State} {a2} (hs : Kept x s0 s) : Kept x s0 (mapModuleReqs s a2) := by
  unfold mapModuleReqs
  repeat' first
    | with_reducible assumption
    | with_reducible apply State.onPow_kept
    | with_reducible apply State.onSys_kept
    | with_reducible apply State.onRed_kept
    | with_reducible apply State.onDbg_kept
    | with_reducible apply State.onCtr_kept
    | with_reducible apply State.onRec_kept
    | with_reducible exact FuseKept.same rfl rfl rfl
    | with_reducible exact CntKept.same rfl
    | with_reducible exact MemsKept.same rfl rfl
    | with_reducible exact fun w => MemsWf.same w rfl rfl
    | (intro)

theorem execCommandTimeout_kept {a1} {a2} {s : State} (hs : Kept x s0 s) : Ends (Kept x s0) (execCommandTimeout a1 a2 s) := by
  unfold execCommandTimeout
  repeat' first
    | with_reducible assumption
    | with_reducible apply timedOut_kept
    | with_reducible apply mapModuleReqs_kept
    | with_reducible apply mapIoReqs_kept
    | with_reducible apply mapMotionReqs_kept
    | with_reducible apply mapLoopReqs_kept
    | (extract_lets +onlyGivenNames yy; clear_value yy; revert yy; intro y2)
    | with_reducible apply Ends.next
    | split

end Sys2Proof.Machine
end

