-- ==== Sys2Proof/Machine/Leds.lean ====
section
/-! DEFINITION. The status LEDs as a view of the state (20 R531): which columns of the table "Status LEDs" hold. -/
namespace Sys2Proof.Machine

/-- The LEDs of the front face (20 R531). -/
inductive Led where
  | pwr | stage | safe | ring (r : Nat) | store | f24
  deriving DecidableEq, Repr

/-- What an LED shows (20 R531); the amber of STAGE flashes. -/
inductive LedShow where
  | off | green | amber | red
  deriving DecidableEq, Repr

/-- Whether a shaft trip is latched in either channel, or a reset of one is awaited (10 R316, 20 R531). -/
def shaftTripped (s : State) : Bool := (List.range 8).any fun h => shState s h == 1 || shState s h == 2
/-- Whether a module trip is latched in either channel (20 R531). -/
def moduleTripped (s : State) : Bool := !s.safety.core.modTrip.isEmpty || !s.safety.scarp.modTrip.isEmpty

/-- LED PWR (20 R531). -/
def ledPwr (s : State) (c : LedShow) : Bool :=
  match c with
  | .off => !s.supply.good
  | .green => s.supply.good && s.supply.mains
  | .amber => s.supply.good && s.supply.pfw
  | .red => s.supply.good && decide (850 < s.supply.base)

/-- LED STAGE (20 R531). -/
def ledStage (s : State) (c : LedShow) : Bool :=
  let runs := s.sys.ctl == .running
  match c with
  | .off => !runs
  | .green => runs && s.sys.stage == 5
  | .amber => runs && decide (s.sys.stage ≤ 4)
  | .red => runs && s.sys.bootFail != 0

/-- LED SAFE (20 R531). -/
def ledSafe (s : State) (c : LedShow) : Bool :=
  let runs := s.sys.scarp == .running
  match c with
  | .off => !runs
  | .green => runs && s.sys.safe && !moduleTripped s && !shaftTripped s
  | .amber => runs && shaftTripped s
  | .red => runs && moduleTripped s

/-- LEDs J0 to J3 (20 R531). -/
def ledRing (s : State) (r : Nat) (c : LedShow) : Bool :=
  let g := s.ring r
  let lit := g.state == .leading || g.state == .following
  match c with
  | .off => g.state == .off || (!g.eastUp && !g.westUp)
  | .green => lit && !g.healed
  | .amber => lit && g.healed
  | .red => (g.state == .listening || g.state == .contending) && decide (cyclesPerS s.sys.rate < g.coldAge)

/-- LED STORE (20 R531). -/
def ledStore (s : State) (c : LedShow) : Bool :=
  let none_ := (readyDrives s).isEmpty
  match c with
  | .off => none_ && s.cairn.trace.mode == 0
  | .green => !none_ && tracing s
  | .amber => s.cairn.drives.any fun d => d.2.state == 2 || d.2.state == 3
  | .red => none_ && s.cairn.trace.mode != 0

/-- LED F24 (20 R531). -/
def ledF24 (s : State) (c : LedShow) : Bool :=
  match c with
  | .off => !s.supply.good && !s.supply.fieldOk
  | .green => s.supply.fieldOk && !s.supply.fieldExt
  | .amber => s.supply.fieldOk && s.supply.fieldExt
  | .red => s.supply.good && s.supply.f24Low

/-- Whether the column of the table "Status LEDs" holds for an LED (20 R531). -/
def ledShows (s : State) (l : Led) (c : LedShow) : Bool :=
  match l with
  | .pwr => ledPwr s c
  | .stage => ledStage s c
  | .safe => ledSafe s c
  | .ring r => ledRing s r c
  | .store => ledStore s c
  | .f24 => ledF24 s c

end Sys2Proof.Machine
end

