-- ==== Sys2Proof/WellFormed.lean ====
section
/-! DEFINITION. Well-formed commands: each index a command carries names an object the module has. A command for an object
that does not exist is never given; its meaning is total all the same and acts on no object (notes/assumptions). -/
namespace Sys2Proof

/-- What the numbers of commands name. -/
inductive Index where
  /-- optic cages J0E, J0W, …, J3W, ETH0, ETH1 (20 R517) -/
  | cage
  /-- Ethernet ports 0 and 1 (02 R60) -/
  | ethPort
  /-- ports of the byte counters (19 R502, R509) -/
  | countedPort
  /-- partitions (02 R34) -/
  | part
  /-- byte offsets of the register map (02 R54) -/
  | offset
  /-- bytes of one register access (02 R55) -/
  | width
  /-- counters of a view (19 R510) -/
  | counter
  /-- queues (02 R37) -/
  | queue
  /-- weavers (01 R17) -/
  | weaver
  /-- axis slots of a weaver (04) -/
  | slot
  /-- cars (07) -/
  | car
  /-- shafts (07) -/
  | shaft
  /-- rings J0–J3 (03) -/
  | ring
  /-- ring addresses (03 R109) -/
  | node
  /-- witnessed pairs (13 R381) -/
  | pair
  /-- side links SL0, SL1 (14 R397) -/
  | link
  /-- axes (04) -/
  | axis
  /-- zone partners of a shaft (14 R413) -/
  | zonePart
  /-- doors (08) -/
  | door
  /-- call identifiers (09) -/
  | call
  /-- digital outputs (11) -/
  | dout
  /-- analogue inputs (11) -/
  | ain
  /-- sigma-delta and quadrature inputs, step outputs and CAN channels (11, 12) -/
  | eight
  /-- PWM sets (11) -/
  | pwm
  /-- CAN objects (12 R357) -/
  | obj
  /-- storage drives (17 R468) -/
  | drive
  /-- baskets (01 R17) -/
  | basket
  /-- switched lines: STO0A, STO0B, … STO7B, SBC0A, … (10) -/
  | offLine
  /-- trip causes (10 R283) -/
  | cause
  deriving DecidableEq, Repr

/-- The least and the greatest number of a kind. -/
def Index.bounds : Index → Nat × Nat
  | .cage => (0, 9)
  | .ethPort => (1, 2)
  | .countedPort => (0, 16)
  | .part => (0, 4095)
  | .offset => (0, 65535)
  | .width => (1, 8)
  | .counter => (0, 255)
  | .queue => (0, 1048575)
  | .weaver => (0, 63)
  | .slot => (0, 15)
  | .car => (0, 63)
  | .shaft => (0, 7)
  | .ring => (0, 3)
  | .node => (1, 128)
  | .pair => (1, 4)
  | .link => (0, 1)
  | .axis => (0, 1023)
  | .zonePart => (0, 7)
  | .door => (0, 511)
  | .call => (1, 4294967295)
  | .dout => (0, 23)
  | .ain => (0, 15)
  | .eight => (0, 7)
  | .pwm => (0, 3)
  | .obj => (0, 127)
  | .drive => (0, 3)
  | .basket => (0, 7)
  | .offLine => (0, 23)
  | .cause => (1, 31)

/-- The numbers of a request's envelope (02 R42). -/
def reqIndices (r : Request) : List (Index × Nat) := [(.queue, r.queue), (.part, r.part)]

/-- The number of a lane port. -/
def laneIndices : LanePort → List (Index × Nat)
  | .ring r _ => [(.ring, r)]
  | .side n => [(.link, n)]

/-- The numbers a command carries, each with what it names. -/
def Instr.indices : Instr → List (Index × Nat)
  | .powerGood _ _ _ => []
  | .mainsInRange _ => []
  | .scarpResetRelease => []
  | .controllerResetRelease => []
  | .trustedImageVerified _ => []
  | .canStart => []
  | .appStart _ => []
  | .rootPortRelease => []
  | .safetyHandshake _ => []
  | .weaverLoad _ => []
  | .creelOpen => []
  | .motionFloor => []
  | .mrstNAssert => []
  | .mrstNRelease => []
  | .summitWatchdog => []
  | .stakeWatchdog => []
  | .fatalControllerFault => []
  | .pcieHotReset => []
  | .powerFailWarning => []
  | .loadShed => []
  | .powerGoodFall => []
  | .mainsReturn => []
  | .tempSample _ => []
  | .thermalRestart => []
  | .field24vLoss => []
  | .field24vRestore => []
  | .cagePowerMeasure cage _ => [(.cage, cage)]
  | .opticInsert cage => [(.cage, cage)]
  | .opticRemove cage => [(.cage, cage)]
  | .cageOverLimit cage => [(.cage, cage)]
  | .storageOvercurrent => []
  | .storageRetry => []
  | .synciEdge _ => []
  | .creelDatagram port _ => [(.ethPort, port)]
  | .managementRead port _ => [(.ethPort, port)]
  | .managementWrite port _ => [(.ethPort, port)]
  | .ethernetAuxFrame port _ => [(.ethPort, port)]
  | .dbSubmit part _ _ => [(.part, part)]
  | .dbComphead part _ => [(.part, part)]
  | .dbFaultCountRead part => [(.part, part)]
  | .registerWrite part offset width _ => [(.part, part), (.offset, offset), (.width, width)]
  | .sysSupplyW1cWrite part _ => [(.part, part)]
  | .recCursorSeqWrite part _ => [(.part, part)]
  | .ctrValLowRead part j => [(.part, part), (.counter, j)]
  | .ctrBwPeakRead part port _ => [(.part, part), (.countedPort, port)]
  | .dbgWhaltWrite part _ _ => [(.part, part)]
  | .dbgChaltWrite part _ => [(.part, part)]
  | .dbgCtrlReset part _ => [(.part, part)]
  | .dbgMemDataRead part => [(.part, part)]
  | .dbgMemDataWrite part _ => [(.part, part)]
  | .dbgImgStart part _ => [(.part, part)]
  | .dbgImgDataWrite part _ => [(.part, part)]
  | .dbgImgCommit part _ => [(.part, part)]
  | .tokenRefill => []
  | .creelHandover => []
  | .commandTimeout queue _ => [(.queue, queue)]
  | .sysIdent r => reqIndices r
  | .sysState r => reqIndices r
  | .sysTimeGet r => reqIndices r
  | .sysSubscribe r => reqIndices r
  | .sysUnsubscribe r => reqIndices r
  | .sysAppRestart r => reqIndices r
  | .appRestarted _ => []
  | .partInfo r => reqIndices r
  | .partStats r => reqIndices r
  | .queueCreate r => reqIndices r
  | .queueDelete r => reqIndices r
  | .queueBucketSet r => reqIndices r
  | .queueRekey r => reqIndices r
  | .axisStatus r => reqIndices r
  | .axisDescLoad r => reqIndices r
  | .axisCoefWrite r => reqIndices r
  | .axisBankSelect r => reqIndices r
  | .axisTableLoad r => reqIndices r
  | .axisEnable r => reqIndices r
  | .axisDisable r => reqIndices r
  | .tuneCaptureRead r => reqIndices r
  | .tuneInjectStart r => reqIndices r
  | .tuneInjectStop r => reqIndices r
  | .tuneCaptureArm r => reqIndices r
  | .profileStatus r => reqIndices r
  | .energyStatus r => reqIndices r
  | .profileLimitsSet r => reqIndices r
  | .energyReserveSet r => reqIndices r
  | .carStatus r => reqIndices r
  | .segmentStatus r => reqIndices r
  | .shaftConfigLoad r => reqIndices r
  | .carInspectMove r => reqIndices r
  | .carStop r => reqIndices r
  | .doorStatus r => reqIndices r
  | .edgeStatus r => reqIndices r
  | .doorOpen r => reqIndices r
  | .doorClose r => reqIndices r
  | .doorLearn r => reqIndices r
  | .doorPolicySet r => reqIndices r
  | .callStatus r => reqIndices r
  | .carStoplist r => reqIndices r
  | .callSubmit r _ => reqIndices r
  | .callCancel r => reqIndices r
  | .safetyStatus r => reqIndices r
  | .safetyConfigCrc r => reqIndices r
  | .safetyChangelogRead r => reqIndices r
  | .safetySessionOpen r => reqIndices r
  | .safetyConfigWrite r => reqIndices r
  | .safetySessionClose r => reqIndices r
  | .dioRead r => reqIndices r
  | .aiRead r => reqIndices r
  | .qencRead r => reqIndices r
  | .dioWrite r => reqIndices r
  | .dioSafeSet r => reqIndices r
  | .pwmConfig r => reqIndices r
  | .stepMove r => reqIndices r
  | .stepStop r => reqIndices r
  | .canStatus r => reqIndices r
  | .canRxRead r => reqIndices r
  | .canConfig r => reqIndices r
  | .canSend r => reqIndices r
  | .canBusoffRecover r => reqIndices r
  | .canWakeSet r => reqIndices r
  | .ringStatus r => reqIndices r
  | .ringNodes r => reqIndices r
  | .ringConfig r => reqIndices r
  | .redStatus r => reqIndices r
  | .redRoleRequest r => reqIndices r
  | .powerStatus r => reqIndices r
  | .powerLevelRequest r => reqIndices r
  | .powerSleepRequest r => reqIndices r
  | .recStatus r => reqIndices r
  | .storeHealth r => reqIndices r
  | .recTriggerSet r => reqIndices r
  | .recCursorSet r => reqIndices r
  | .ctrRead r => reqIndices r
  | .ctrThresholdSet r => reqIndices r
  | .ctrWindowSet r => reqIndices r
  | .debugStatus r => reqIndices r
  | .debugAuth r => reqIndices r
  | .debugClose r => reqIndices r
  | .debugSessionExpiry => []
  | .nonceExpiry => []
  | .authLockoutEnd => []
  | .instant _ => []
  | .collectCopyRx _ => []
  | .windowOpen => []
  | .slotMiss weaver slot => [(.weaver, weaver), (.slot, slot)]
  | .carCutoff car => [(.car, car)]
  | .releasePhase => []
  | .serviceAnswerRx ring _ => [(.ring, ring)]
  | .serviceRetry ring => [(.ring, ring)]
  | .coldstartListenEnd ring => [(.ring, ring)]
  | .coldstartRx ring _ => [(.ring, ring)]
  | .coldstartLead ring => [(.ring, ring)]
  | .leaderFrameRx ring _ => [(.ring, ring)]
  | .memberIntegrate ring => [(.ring, ring)]
  | .localFault ring _ => [(.ring, ring)]
  | .spandownRx ring _ _ => [(.ring, ring)]
  | .ringHeal ring => [(.ring, ring)]
  | .spanLockHold ring _ => [(.ring, ring)]
  | .spanupRx ring _ _ => [(.ring, ring)]
  | .closearmCheck ring => [(.ring, ring)]
  | .closeTarget ring => [(.ring, ring)]
  | .recloseRetry ring => [(.ring, ring)]
  | .scarpStopInject => []
  | .safeInputSample _ _ _ _ => []
  | .monitorPointSample _ _ => []
  | .safeLinkFrameRx _ _ _ _ => []
  | .safeLinkLost _ _ => []
  | .crossChannelExchange _ _ => []
  | .crossMismatch => []
  | .otherChannelLoss _ => []
  | .tripRequestRx _ _ cause => [(.cause, cause)]
  | .switchTest _ line _ => [(.offLine, line)]
  | .stoLineLimit line => [(.offLine, line)]
  | .ss1End _ shaft => [(.shaft, shaft)]
  | .brakeFeedbackTimeout _ car => [(.car, car)]
  | .resetDisagree _ _ => []
  | .sessionIdleClose => []
  | .passwordLockoutEnd => []
  | .pairSafeFrameRx _ _ => []
  | .pairExchangeLoss _ _ => []
  | .heartbeatMiss _ => []
  | .heartbeatRx _ => []
  | .failedSet _ => []
  | .replayComplete => []
  | .takeoverCycle => []
  | .heartbeatPathFault pair => [(.pair, pair)]
  | .checkpointTake => []
  | .checkpointRx _ => []
  | .journalEntryRx _ _ => []
  | .handoverTarget => []
  | .rejoinCopyDone => []
  | .sideRecordFrameRx link _ _ _ _ => [(.link, link)]
  | .bulkFrameRx link _ => [(.link, link)]
  | .trunkSlotRx ring _ _ => [(.ring, ring)]
  | .ptpMessage _ => []
  | .timeSourceLoss => []
  | .backupMasterTakeover => []
  | .zoneDownMissing axis => [(.axis, axis)]
  | .zoneUpMissing shaft _ => [(.shaft, shaft)]
  | .preparingRampDone car => [(.car, car)]
  | .brakeReleaseFeedback car => [(.car, car)]
  | .brktTimeout car => [(.car, car)]
  | .weighingEnd car => [(.car, car)]
  | .prestartRetry car => [(.car, car)]
  | .stopHoldEnd car => [(.car, car)]
  | .brakeEngagedFeedback car => [(.car, car)]
  | .rescueEnd shaft => [(.shaft, shaft)]
  | .inspectionHoldExpiry car => [(.car, car)]
  | .inspectionBrakeDelay car => [(.car, car)]
  | .bmsReport shaft => [(.shaft, shaft)]
  | .bmsStale shaft => [(.shaft, shaft)]
  | .doorEvaluation door => [(.door, door)]
  | .doorEvalLate door => [(.door, door)]
  | .dwellExpiry door => [(.door, door)]
  | .blocked30s door => [(.door, door)]
  | .blocked180s door => [(.door, door)]
  | .nudgeStart door => [(.door, door)]
  | .openRetry door => [(.door, door)]
  | .edgeRefStore door => [(.door, door)]
  | .policyDeadline => []
  | .callReevalTimer call => [(.call, call)]
  | .unassignedTimeout call => [(.call, call)]
  | .callDiscard call => [(.call, call)]
  | .motionUpdateApply => []
  | .diSample _ => []
  | .doOverload n => [(.dout, n)]
  | .doSilence => []
  | .aiConversion n _ _ => [(.ain, n)]
  | .aiOvercurrent n => [(.ain, n)]
  | .aiReconnect n => [(.ain, n)]
  | .sdFilterOutput n _ _ => [(.eight, n)]
  | .sdOcOutput n _ => [(.eight, n)]
  | .sdStuckLine n => [(.eight, n)]
  | .quadSample n _ _ _ => [(.eight, n)]
  | .quadLineLow n => [(.eight, n)]
  | .pwmPeriod n _ => [(.pwm, n)]
  | .stepPulse n => [(.eight, n)]
  | .stepRateUpdate n => [(.eight, n)]
  | .stepSearchExhausted n => [(.eight, n)]
  | .canFrameRx ch _ _ => [(.eight, ch)]
  | .canBusIdle ch => [(.eight, ch)]
  | .canTxSuccess ch _ => [(.eight, ch)]
  | .canCollision ch => [(.eight, ch)]
  | .canBackoffEnd obj => [(.obj, obj)]
  | .canBusOff ch => [(.eight, ch)]
  | .canRecoveryDone ch => [(.eight, ch)]
  | .canWake ch => [(.eight, ch)]
  | .canReferenceDue ch => [(.eight, ch)]
  | .canDrain ch _ => [(.eight, ch)]
  | .objWord0Read obj => [(.obj, obj)]
  | .objWord22Read obj => [(.obj, obj)]
  | .objLockExpiry obj => [(.obj, obj)]
  | .objArm obj _ => [(.obj, obj)]
  | .recEventIntake _ _ => []
  | .recSealTimer => []
  | .recPageSpill drive => [(.drive, drive)]
  | .nvmeFlushTimer => []
  | .nvmeFlushDone drive => [(.drive, drive)]
  | .nvmeWriteDone drive _ _ => [(.drive, drive)]
  | .smartPoll drive _ => [(.drive, drive)]
  | .driveAttach drive _ => [(.drive, drive)]
  | .driveFail drive _ => [(.drive, drive)]
  | .mirrorProgram _ _ => []
  | .traceHoldExpiry _ => []
  | .bandwidthWindowEnd port _ _ => [(.countedPort, port)]
  | .pmbusAck basket => [(.basket, basket)]
  | .pmbusTimeout basket => [(.basket, basket)]
  | .s3StageEnd _ => []
  | .s3Wake _ => []
  | .s3RailsUp _ => []
  | .s3ReturnCreelOpen _ => []
  | .remoteFaultRx ring _ => [(.ring, ring)]
  | .blockLockGained port => laneIndices port
  | .sideLinkDown link => [(.link, link)]
  | .pcieLinkUp => []
  | .ptpUnavailable => []
  | .registerRead part offset width => [(.part, part), (.offset, offset), (.width, width)]
  | .ctrValHighRead part j => [(.part, part), (.counter, j)]
  | .canErrorDetected ch _ => [(.eight, ch)]
  | .safetyCoreFault => []
  | .scarpInternalFault => []
  | .configStoreDone => []
  | .jtagInstruction _ => []

/-- Whether a number names an object of its kind. -/
def Index.holds (p : Index × Nat) : Bool := decide (p.1.bounds.1 ≤ p.2) && decide (p.2 ≤ p.1.bounds.2)

/-- A command is well formed when every number it carries names an object of its kind. -/
def Instr.wf (c : Instr) : Bool := c.indices.all Index.holds

end Sys2Proof
end

