-- ==== Sys2Proof/Tests/Slice0.lean ====
section
/-! SUPPORT. Small tests of single commands on small states, a smoke test of well-formedness, and for each statement a concrete
state and operands that meet its hypotheses. Expected values come from the spec's tables and worked examples. -/
namespace Sys2Proof.Tests

open Sys2Proof Sys2Proof.Machine

/-! ### Well-formedness: an ill-formed command for each kind of number -/

theorem test_wf_refuses :
    ([.opticInsert 10, .ethernetAuxFrame 0 .arp, .bandwidthWindowEnd 17 0 0, .dbFaultCountRead 4096,
      .registerWrite 2 65536 4 0, .registerWrite 2 0 9 0, .ctrValLowRead 2 256, .commandTimeout 1048576 0,
      .slotMiss 64 0, .slotMiss 0 16, .carCutoff 64, .bmsStale 8, .ringHeal 4, .spandownRx 4 true [],
      .coldstartRx 4 {}, .heartbeatPathFault 5, .sideLinkDown 2, .zoneDownMissing 1024, .doorEvaluation 512,
      .callDiscard 0, .doOverload 24, .aiOvercurrent 16, .sdStuckLine 8, .pwmPeriod 4 0, .objLockExpiry 128,
      .driveFail 4 0, .pmbusAck 8, .stoLineLimit 24, .tripRequestRx .core .module 0,
      .sysIdent { part := 4096 }, .sysIdent { queue := 1048576 }] : List Instr).all (fun c => !c.wf) = true := by decide

theorem test_wf_admits :
    ([.opticInsert 9, .ethernetAuxFrame 2 .arp, .slotMiss 63 15, .carCutoff 63, .spandownRx 3 false [], .doorEvaluation 511,
      .callDiscard 1, .sysIdent {}] : List Instr).all Instr.wf = true := by decide

/-! ### A module whose start-up is complete -/

/-- A partition with every right (02 R36). -/
def supervisor : Partition :=
  { binding := 0, qrights := BitVec.allOnes 17, arights := BitVec.allOnes 17, mgmt := true, global := true, supervisor := true,
    qlimit := 65536, quota := 268435456, rateCeil := 4000000, quantum := 4096 }

/-- The bootstrap mailbox (02 R59). -/
def bootstrap : Queue := { part := 2, depthLog2 := 6, rate := 4000000, burst := 64, tokens := 64 }

/-- STAGE 5 with Creel open, partition 2 the supervisor, and its bootstrap mailbox. -/
def up : State :=
  { supply := { good := true, mains := true }
    sys := { ctl := .running, scarp := .running, stage := 5, creel := true, safe := true, timeBase := true, floor := true }
    host := { parts := [(2, supervisor)], queues := [(16, bootstrap)], bootSq := 64, bootCq := 128 } }

/-- A request whose payload begins with these bytes, from byte 16 on (02 R42). -/
def req (l : List Nat) : Request := { payload := l.map (BitVec.ofNat 8) }

/-! ### Host interface (02) -/

theorem test_supervisor_has_every_right : knownOpcodes.all (hasRight up 2) = true := by decide
theorem test_denied_hypotheses : requestOf (.sysIdent {}) = some ({}, 1) ∧ hasRight State.reset 2 1 = false := by decide

theorem test_part_info_hypotheses :
    hasRight up 2 0x0101 = true ∧ tabHas up.host.parts (partNamed (req [2, 0])) = true ∧ partNamed (req [2, 0]) = (req [2, 0]).part := by
  decide

/-- SYS.STATE of `up` (02 R56): STAGE 5, RATE 01b, SAFE, CREEL. -/
theorem test_sys_state_word : sysStateWord up = 0x30015 := by decide

/-- A module with an event queue of partition 2 (number 18) and a mailbox with one started and one waiting request (20). -/
def upQueues : State :=
  up.onHost fun h => { h with
    queues := h.queues ++ [(18, { part := 2, event := true, key := 0x1234 }),
      (20, { part := 2, slots := [{ req := { queue := 20, opcode := 1, tag := 7 }, phase := .started },
        { req := { queue := 20, opcode := 2, tag := 8 } }] })] }

theorem test_subscribe_hypotheses :
    (upQueues.part 2).qrights.getLsbD (classBit (rq (req [18, 0, 0, 0, 0x11]) 20 1)) = true ∧
    ownEventQueue upQueues (req [18, 0, 0, 0, 0x11]) = true ∧ eventClasses.contains (rq (req [18, 0, 0, 0, 0x11]) 20 1) = true ∧
    familySuits (upQueues.queue (rq (req [18, 0, 0, 0, 0x11]) 16 4)) (req [18, 0, 0, 0, 0x11]) = true ∧
    rq (req [18, 0, 0, 0, 0x11]) 21 1 = 0 := by decide
theorem test_unsubscribe_hypotheses :
    hasRight upQueues 2 0x0011 = true ∧ ownEventQueue upQueues (req [18, 0, 0, 0, 0xFF]) = true ∧
    rq (req [18, 0, 0, 0, 0xFF]) 20 1 = 0xFF := by decide

theorem test_queue_create_hypotheses :
    let r := req [0, 4, 0, 0xFF]
    hasRight up r.part 0x0110 = true ∧ rq r 16 1 ≤ 1 ∧ rq r 18 1 = (up.part r.part).binding ∧ rq r 19 1 = 0xFF ∧
    rq r 32 8 % 64 = 0 ∧ rq r 40 8 % 64 = 0 ∧ queuesHeld up r.part + 2 ≤ (up.part r.part).qlimit ∧
    entriesHeld up r.part + 2 * 2 ^ clampN 4 16 (rq r 17 1) ≤ (up.part r.part).quota ∧ freeNumber up ≤ 1048574 := by decide
theorem test_lowest_free_queue : freeNumber up = 18 ∧ freeNumber upQueues = 22 := by decide
theorem test_queue_set_and_rekey_hypotheses :
    ownQueue up (req [16]) = true ∧ (up.queue (rq (req [16]) 16 4)).event = false ∧ hasRight up 2 0x0112 = true := by decide
theorem test_delete_event_queue_hypotheses :
    ownQueue upQueues (req [18]) = true ∧ (upQueues.queue (rq (req [18]) 16 4)).event = true ∧ upQueues.dbg.level = .closed := by
  decide
theorem test_delete_mailbox_hypotheses :
    let q := upQueues.queue (rq (req [20]) 16 4)
    ownQueue upQueues (req [20]) = true ∧ q.event = false ∧
    q.slots.all (fun x => x.phase == .waiting || x.phase == .started) = true ∧ q.slots.any (fun x => x.phase == .started) = true := by
  decide
theorem test_odd_number_names_no_mailbox : ownQueue up (req [17]) = false := by decide

theorem test_ring_order_hypotheses :
    hasStarted (upQueues.queue 20) { queue := 20, opcode := 1, tag := 7 } = true ∧ (upQueues.queue 20).transport = 0 ∧ (upQueues.queue 20).deleting = false := by decide

/-- An event queue of depth 16 holds 15 entries (02 R37). -/
theorem test_event_queue_full_hypotheses :
    let q : Queue := { event := true, comps := List.replicate 15 {} }
    q.transport = 0 ∧ depthOf q - 1 < unconsumed q + 1 := by decide
theorem test_event_queue_room_hypotheses :
    (upQueues.queue 18).transport = 0 ∧ unconsumed (upQueues.queue 18) + 1 ≤ depthOf (upQueues.queue 18) - 1 := by decide

theorem test_refill_hypotheses :
    (upQueues.queue 20).event = false ∧ tabHas upQueues.host.queues 20 = true ∧ (upQueues.queue 18).event = true := by decide
/-- 2,000 entries/s give one token every 500 µs, so 0.4 token at hand needs 300 µs more (02, worked example). -/
theorem test_retry_after : retryAfter { rate := 2000, tokens := 0, acc := 400000 } 1 = 300 := by decide

theorem test_doorbell_before_open : State.reset.sys.creel = false := by decide
theorem test_submit_no_room_hypotheses (r : Request) :
    hasRoom { hostRing := [[]], tail := 1, slots := List.replicate 15 {} } r = false := by
  have h : waitingEntries { hostRing := [[]], tail := 1, slots := List.replicate 15 {} } = 15 := by decide
  have hd : depthOf { hostRing := [[]], tail := 1, slots := List.replicate 15 {} } = 16 := by decide
  have h1 : 1 ≤ reqEntries r := by unfold reqEntries; split <;> omega
  unfold hasRoom
  simp only [h, hd]
  simp
  omega
theorem test_submit_hypotheses :
    let v : BitVec 64 := 0x0000_0001_0000_0010
    doorOk up (bitsOf v.toNat 0 20) (bitsOf v.toNat 48 16) = true ∧ (up.queue 16).event = false ∧
    bitsOf v.toNat 32 16 < depthOf (up.queue 16) ∧ (up.queue 16).hostRing = [] ∧ up.host.bootSq ≠ 0 ∧ up.host.bootCq ≠ 0 ∧
    hasRoom (up.queue 16) {} = true ∧ 1 ≤ (up.queue 16).tokens := by decide
theorem test_comphead_hypotheses :
    let v : BitVec 64 := 0x1234_0000_0000_0012
    doorOk upQueues (bitsOf v.toNat 0 20) (bitsOf v.toNat 48 16) = true ∧ tabHas upQueues.host.queues 18 = true ∧
    (upQueues.queue 18).event = true ∧ bitsOf v.toNat 32 16 < depthOf (upQueues.queue 18) := by decide
theorem test_handover_hypotheses :
    let s := up.onHost fun h => { h with queues := [(0, { part := 0, slots := [{}] })] }
    s.sys.creel = true ∧ s.sys.restart = none ∧ partWaiting (pullAll s) 0 = true := by decide

/-- A module with an Ethernet partition 3 on port 0, accepting every IPv4 source, and its mailbox 24 with key 9. -/
def upEth : State :=
  up.onHost fun h => { h with
    parts := h.parts ++ [(3, { supervisor with binding := 1, supervisor := false, filter4 := [{}] })]
    queues := h.queues ++ [(24, { part := 3, transport := 1, key := 9 })] }

/-- A datagram for queue 24 with key 9 (02 R60). -/
def dgram (type count : Nat) (body : List Nat) : Datagram :=
  { bytes := ([1, type, count, 0, 24, 0, 0, 0, 9, 0, 0, 0, 0, 0, 0, 0] ++ List.replicate 16 0 ++ body).map (BitVec.ofNat 8) }

theorem test_datagram_hypotheses :
    let s := upEth
    ∀ d ∈ [dgram 1 1 (1 :: List.replicate 63 0), dgram 3 0 [0, 0, 1, 0], dgram 4 0 [0, 0, 1, 0, 0, 0, 0, 0]],
      wellFormedDatagram d = true ∧ s.sys.creel = true ∧
      namedQueue s (byteAt d.bytes 1) (leAt d.bytes 4 4 % 1048576) = 24 ∧ (acceptors s 1 d.src).contains 3 = true ∧
      liveQueue s 24 = true ∧ covers (s.queue 24).transport 1 = true ∧ (s.queue 24).key.toNat = leAt d.bytes 8 8 ∧
      (s.queue 24).event = false ∧ (s.part 3).mgmt = true := by decide
theorem test_datagram_malformed : wellFormedDatagram {} = false ∧ wellFormedDatagram (dgram 1 2 []) = false ∧
    wellFormedDatagram (dgram 1 1 (1 :: 0 :: 16 :: List.replicate 61 0)) = false := by decide

theorem test_access_hypotheses :
    goodAccess 1 32 = false ∧ goodAccess 4 64 = false ∧ goodAccess 4 16 = false ∧ canReach up 2 0x2000 = true ∧
    canReach State.reset 2 0x2000 = false := by decide
theorem test_counter_window_hypotheses :
    canReach up 2 0x3800 = true ∧ (up.pstat 2).latch = none ∧ (up.part 2).global = true ∧
    ((up.onPstat 2 fun t => { t with latch := some (3, 5) }).pstat 2).latch = some (3, 5) := by decide
theorem test_supply_write_hypotheses : (up.part 2).supervisor = true ∧ (up.part 3).supervisor = false := by decide

/-- A request with one continuation entry. -/
def longReq : Request := { opcode := 0x1010, cont := 1, tag := 5, payload := List.replicate 112 7 }
theorem test_laid : Laid { longReq with serial := 3 } := ⟨by decide, by decide, by decide, by decide⟩
theorem test_entries_read_back :
    readRequest 16 2 0 0 {} (entriesOf longReq 0xFF (List.replicate 8 0xAA)) = longReq ∧
    (entriesOf longReq 0xFF (List.replicate 8 0xAA)).length = 2 := by decide
theorem test_malformed_cont : 15 < byteAt [1, 0, 16] 2 := by decide

/-! ### Rings (03) -/

/-- `up` with one ring. -/
def onRing0 (g : RingSt) : State := up.onRing 0 fun _ => g

/-- Three segment nodes of two axes and one Hall block each (03 R81). -/
def threeNodes : RingCfg :=
  { mode := 0, flags := 3, member := 5, table := 7, fibre := 100, entries := [{ kind := 1, axes := 2, nblk := 1, first := 0 },
    { kind := 1, axes := 2, nblk := 1, first := 2 }, { kind := 1, axes := 2, nblk := 1, first := 4 }] }

/-- The worked example of 03: slot bytes 2,656 and 2,872 and a deliver sum of 10,189.52 ns before, 9,497.04 and 9,525.20 ns after. -/
def workedRing (doorNodes : Nat) : RingCfg :=
  { mode := 0, fibre := 700, entries := List.replicate 40 { kind := 1, axes := 2, nblk := 1 } ++
    List.replicate doorNodes { kind := 3, axes := 4 } ++ List.replicate 5 { kind := 2, axes := 1, nblk := 1 } ++ [{ kind := 4 }] }

theorem test_ring_budget_of_the_worked_example :
    sumEntries (workedRing 16) (collectBytes 0) = 2656 ∧ sumEntries (workedRing 16) (deliverBytes 0) = 2872 ∧
    budgetSum (workedRing 16) 2872 = 10190 ∧ ringFits 1 (workedRing 16) = false ∧
    budgetSum (workedRing 8) 2208 = 9498 ∧ budgetSum (workedRing 8) 2296 = 9526 := by decide

theorem test_ring_config_hypotheses :
    let r := req ([0, 0, 1, 3, 5, 0, 7, 0, 100, 0, 0, 0, 1, 0, 0, 0] ++ [1, 1, 2, 1, 0, 0])
    hasRight up r.part 0x4010 = true ∧ actReady up = true ∧ rq r 16 1 ≤ 3 ∧ rq r 17 1 ≤ 2 ∧ rq r 18 1 ≤ 2 ∧
    rq r 20 2 ≠ 0 ∧ rq r 22 2 ≠ 0 ∧ rq r 17 1 ≠ 1 ∧ clampN 0 (entryLimit (rq r 17 1) (rq r 18 1)) (rq r 28 1) = 1 ∧
    rq r 32 1 = 1 ∧ rq r 33 1 = 1 ∧ rq r 34 1 = 2 ∧ rq r 35 1 = 1 := by decide
/-- Both outcomes: refused while the rate would change under an enabled axis, not refused on an idle module (03 R109). -/
theorem test_ring_refused_both_ways :
    ringRefused (up.onAxis 9 fun x => { x with state := .enabled }) 0 threeNodes 2 = true := by decide
theorem test_ring_not_refused : ringRefused up 0 { threeNodes with entries := [] } 0 = false := by decide

theorem test_ring_status_and_nodes_hypotheses :
    hasRight up 2 0x4001 = true ∧ hasRight up 2 0x4002 = true ∧ rq (req [3, 1, 3]) 16 1 ≤ 3 ∧ 1 ≤ rq (req [3, 1, 3]) 17 1 := by decide

/-- A slot is used only with VALID, a correct SCRC and SEQ the low byte of CYCLE, of the east copy first (03 R80). -/
theorem test_slot_of_the_east_copy_is_taken :
    let slot := fun (f : Nat) (v : Nat) => ({ node := 1, flags := BitVec.ofNat 8 f, seq := v, crcOk := true } : SlotRx)
    (pickSlot [{ fromWest := true, cycle := 258, slots := [slot 1 2] }, { fromWest := false, cycle := 258, slots := [slot 3 2] }] 1).map (·.flags)
      = some 3 ∧
    (pickSlot [{ fromWest := false, cycle := 258, slots := [slot 1 1] }, { fromWest := true, cycle := 258, slots := [slot 1 2] }] 1).map (·.seq)
      = some 2 ∧
    (pickSlot [{ fromWest := false, cycle := 258, slots := [slot 0 2] }] 1).isNone = true := by decide

theorem test_copy_hypotheses :
    let s := onRing0 { state := .leading, cfg := threeNodes }
    (s.ring ({ hcrcOk := false } : RingCopy).ring).state = .leading ∧ (s.ring ({ hcrcOk := true, table := 7 } : RingCopy).ring).cfg.table = 7 := by decide
theorem test_service_hypotheses :
    let s := onRing0 { state := .leading, cfg := threeNodes, service := some { node := 1, op := 2 } }
    (s.ring 0).service = some { node := 1, op := 2 } ∧ ((2 : Nat) + 0x80 = 0x82) ∧
    (∃ q, (onRing0 { service := some { node := 1, op := 2, tries := 2 } }).ring 0 = q ∧ q.service = some { node := 1, op := 2, tries := 2 }) := by
  refine ⟨by decide, by decide, _, rfl, by decide⟩
theorem test_cold_start_hypotheses :
    let s := onRing0 { state := .listening, cfg := threeNodes }
    let c := onRing0 { state := .contending, cfg := threeNodes }
    (s.ring 0).state = .listening ∧ bitAt (s.ring 0).cfg.flags 1 = true ∧ (s.ring 0).duplicate = false ∧ originates s = true ∧
    (c.ring 0).state = .contending ∧ originates c = true ∧ 4 < (c.ring 0).cfg.member ∧ (c.ring 0).cfg.member < 6 ∧
    s.sys.manifest.partner = 0 := by decide
theorem test_partner_frame_hypotheses :
    let s := up.onSys fun y => { y with manifest := { y.manifest with partner := 9 } }
    s.sys.manifest.partner ≠ 0 ∧ ({ hcrcOk := true, leader := 9 } : FrameHeader).leader = s.sys.manifest.partner ∧
    (s.onRed fun d => { d with role := .undecided }).red.role = .undecided ∧ (s.onRed fun d => { d with role := .active }).red.role = .active := by
  decide
theorem test_integrate_hypotheses :
    let s := onRing0 { state := .following, good := 8 }
    (s.ring 0).state = .following ∧ (s.ring 0).good = 8 := by decide
/-- Identifier 5 yields to 4 and stops at its own (03 R91, R92). -/
theorem test_coldstart_yields_and_stops :
    let c := onRing0 { state := .contending, cfg := threeNodes }
    let b := fun n => setBlock (.coldstart n)
    (match execColdstartRx 0 ⟨true, [b 4, b 4]⟩ c with | .next t => decide ((t.ring 0).state = .listening ∧ (t.ring 0).duplicate = false) | _ => false) = true ∧
    (match execColdstartRx 0 ⟨true, [b 4, b 3, b 4]⟩ c with | .next t => decide ((t.ring 0).state = .contending) | _ => false) = true ∧
    (match execColdstartRx 0 ⟨true, [b 5, b 5]⟩ c with | .next t => decide ((t.ring 0).state = .listening ∧ (t.ring 0).duplicate = true) | _ => false) = true := by
  decide

theorem test_span_fault_hypotheses :
    let s := onRing0 { state := .leading, cfg := threeNodes, eastUp := true, westUp := true }
    (s.ring 0).state ≠ .off ∧ ringLive (s.ring 0) = true ∧ (s.ring 0).healed = false := by decide
theorem test_span_up_hypotheses :
    let g : RingSt := { state := .leading, cfg := threeNodes, eastUp := true, healed := true, failed := [0], loops := [0] }
    let s := onRing0 g
    (s.ring 0).failed.contains (spanOf (s.ring 0).cfg (ownAddr s (s.ring 0)) false) = true ∧ portUp (s.ring 0) false = true ∧
    (s.ring 0).failed.filter (· != spanOf (s.ring 0).cfg 0 false) = [] ∧ (s.ring 0).healed = true ∧ bitAt (s.ring 0).cfg.flags 0 = true ∧
    bitAt ((onRing0 { g with cfg := { threeNodes with flags := 2 } }).ring 0).cfg.flags 0 = false := by decide
theorem test_heal_and_close_hypotheses :
    let g : RingSt := { state := .leading, cfg := threeNodes, healed := true, loops := [1], closeAt := some 2, closeRetry := some 5 }
    ((onRing0 { state := .leading, healDue := true }).ring 0).healDue = true ∧ ((onRing0 g).ring 0).closeAt = some (up.time.cycle + 2) ∧
    allArmed ((onRing0 g).ring 0) = false ∧ allArmed ((onRing0 { g with loops := [] }).ring 0) = true ∧
    ((onRing0 { g with closeAt := some 0 }).ring 0).closeAt = some up.time.cycle ∧ (onRing0 g).ring 0 = g ∧ g.closeRetry = some 5 ∧
    g.failed = [] ∧ 2 ≤ up.sys.stage := by decide

/-! ### Start-up, resets, restart, supply, cages (15, 18, 20) -/

/-- A key store with slot 0 of every key programmed, and both copies of each image as the factory leaves them (18 R476, R482). -/
def imaged (stage : Nat) : State :=
  State.reset.onSys fun y => { y with
    ctl := .running, stage, keys := (List.range 5).map fun k => (k, { programmed := 1 })
    images := [(2, {}), (3, {}), (4, { kind := 2 }), (5, { kind := 2 }), (6, { kind := 3 }), (7, { kind := 3 })] }

theorem test_start_up_hypotheses :
    verifies (imaged 0) 1 0 = true ∧ bootManifest (imaged 1) = some (0, factoryManifest) ∧ bootCopy (imaged 1) 2 = some 0 ∧
    bootCopy (imaged 1) 3 = some 0 ∧ (imaged 2).pow.mode = 0 ∧ (imaged 4).sys.creel = false ∧
    (imaged 4).sys.stopped = false := by decide
theorem test_handshake_hypotheses : handshakeOk (imaged 2) true = true := by
  have h : imageCrc (imaged 2).safety.core.image = imageCrc (imaged 2).safety.scarp.image := rfl
  have h1 : cfgOk (imaged 2).safety.core.cfg = true ∧ cfgOk (imaged 2).safety.scarp.cfg = true := by decide
  simp [handshakeOk, h, h1.1, h1.2]
theorem test_power_hypotheses :
    State.reset.supply.good = false ∧ State.reset.supply.thermal = false ∧ State.reset.sys.floor = false ∧
    (let s := (State.reset.onSupply fun u => { u with good := true }).onSys fun y => { y with ctl := .inReset, scarp := .inReset }
     s.supply.good = true ∧ s.sys.scarp = .inReset ∧ s.sys.ctl = .inReset ∧ s.sys.mrst = false) ∧ up.sys.scarp = .running := by decide
theorem test_start_up_stop_hypotheses :
    let no := fun (k : Nat) => (imaged 1).onSys fun y => { y with images := y.images.filter fun x => x.1 / 2 != k }
    bootCopy (no 1) 1 = none ∧ bootCopy (no 2) 2 = none ∧ bootManifest (no 2) = some (0, factoryManifest) ∧
    bootCopy (no 3) 2 = some 0 ∧ bootCopy (no 3) 3 = none ∧
    bootManifest ((imaged 1).onSys fun y => { y with lc := .field }) = none := by decide
/-- Copy 1 starts where copy 0 does not verify: its SVN is below the fused minimum (15 R425, 18 R479). -/
theorem test_fallback_to_copy_1 :
    let s := (imaged 0).onSys fun y => { y with images := tabSet y.images 3 { svn := 2 }, minSvn := [(1, 1)] }
    verifyCode s 1 (imgAt s 1 0) = 5 ∧ bootCopy s 1 = some 1 := by decide

theorem test_reset_hypotheses :
    up.sys.mrst = false ∧ up.supply.good = true ∧ up.sys.ctl = .running ∧ up.dbg.chalt.getLsbD 9 = false ∧ up.dbg.chalt.toNat % 256 = 0 ∧
    (up.onSys fun y => { y with fwApp := 3 }).sys.fwApp ≠ 0 := by decide
theorem test_restart_hypotheses :
    let s := (imaged 5).onHost fun h => { h with parts := [(2, supervisor)] }
    hasRight s 2 0x0020 = true ∧ restartRefused s = false ∧ bootCopy s 2 = some 0 ∧
    bootCopy (s.onSys fun y => { y with images := [] }) 2 = none ∧ appWritten s = false ∧
    appWritten (s.onDbg fun d => { d with lpddr := [(8589934592, 1)] }) = true ∧
    restartRefused (s.onSafety fun y => { y with session := some {} }) = true := by decide

theorem test_supply_hypotheses :
    let f := fun (g : SupplySt → SupplySt) => (up.onSupply g).supply
    up.supply.good = true ∧ (f fun u => { u with pfw := true }).pfw = true ∧ (f fun u => { u with pfw := true }).shed = false ∧
    (f fun u => { u with fieldExt := true }).fieldExt = true ∧ (f fun u => { u with shed := true, pfw := true }).shed = true ∧
    (f fun u => { u with thermal := true }).thermal = true ∧ up.supply.mains = true := by decide
theorem test_temperature_boundaries :
    let m : Measures := { base := 1049, die := 1249 }
    m.base < 1050 ∧ m.die < 1250 ∧ 1050 ≤ ({ base := 1050 } : Measures).base := by decide
/-- Nine optics at 1.3 W each leave 300 mW of the 12 W (20 R523). -/
theorem test_cage_hypotheses :
    let s := up.onSupply fun u => { u with storTrip := true, cages := (List.range 10).map fun n => (n, { fitted := true, powered := true, draw := 1300 }) }
    otherDraw s 3 = 11700 ∧ otherDraw s 3 + 300 ≤ 12000 ∧ 12000 < otherDraw s 3 + 301 ∧ (s.cage 3).powered = true ∧ (s.cage 3).fitted = true ∧
    (up.cage 3).fitted = false ∧ s.supply.storTrip = true := by decide

/-! ### The debug window and the update grant (18) -/

/-- `up` with partition 2 the holder of a session or grant. -/
def held (level : DbgLevel) : State := up.onDbg fun d => { d with level, holder := 2, grantKind := 2, imgStarted := true, memAddr := 0x20000000 }

theorem test_debug_window_hypotheses :
    isHolder (held .intrusive) 2 = true ∧ canReach (held .intrusive) 2 0x5000 = true ∧ memWritable (held .intrusive) = true ∧
    (held .intrusive).dbg.memSpace = 0 ∧ memWritable ((held .intrusive).onDbg fun d => { d with memAddr := 0x1FFFFFFC }) = false ∧
    memReadable (held .intrusive) 0 0 0x20000000 = true ∧ memReadable (held .intrusive) 0 0 0x7FFFFFFFD = false := by decide
theorem test_update_grant_hypotheses :
    isHolder (held .imgGrant) 2 = true ∧ (held .imgGrant).dbg.imgStarted = true ∧ (0x12 : Nat) % 16 = (held .imgGrant).dbg.grantKind ∧
    bitAt 0x12 5 = false ∧ bitAt 0x22 4 = false := by decide
/-- An image without its MAGIC fails with code 6 (18 R498). -/
theorem test_image_without_magic :
    verifyCode State.reset 2 (parseImg State.reset (imgBytes [0, 0])) = 6 := by decide

/-! ### Axes and tuning (04, 05) -/

/-- A request for axis 64 with `mid` from byte 20 on. -/
def axisReq (mid : List Nat) : Request := req ([64, 0, 0, 0] ++ mid)

/-- axis.desc.load of LAW 01h, KIND 06h, STALELIM 3 and injection option at axis 64 (04 R119, R121). -/
def descReq : Request := axisReq (List.replicate 12 0 ++ [1, 6, 0, 1, 0x10, 3])

/-- `up` with axis 64 in a state, its drive group permitted (10 R279, 18 R484). -/
def upAxis (x : AxisSt) : State :=
  ((up.onAxis 64 fun _ => x).onSafety fun y => { y with
    core := { y.core with cfg := { y.core.cfg with axisGroup := [(64, 2)] } }, image := { y.image with permit := 4 } }).onSys
    fun y => { y with lc := .field }

theorem test_axis_requests_hypotheses :
    let s := upAxis { state := .disabled, desc := [(0, 0x01000601), (1, 0x310)] }
    loopReady s = true ∧ actReady s = true ∧ okAxis s (rq descReq 16 4) = true ∧
    ([0x1001, 0x1010, 0x1011, 0x1012, 0x1013, 0x1020, 0x1021].all fun o => hasRight s 2 o) = true ∧
    descBad s 64 (descOf (withOp descReq 0x1010)) = none ∧ mayEnable s 64 = true ∧
    swapPending (s.axis 64) = false ∧ swapPending { bulk := [{ commit := some (0, 0) }] } = true := by decide
theorem test_axis_load_fits : loadFits (upAxis { state := .disabled }) 64 = true := by decide
/-- The failing field is the lowest one: STALELIM 2 at 05h before a bad SRC.REF at 0Dh (04 R147). -/
theorem test_descriptor_failing_field :
    descBad up 64 (descOf (axisReq (List.replicate 12 0 ++ [1, 6, 0, 1, 0, 2, 0, 0, 0, 0, 0, 0, 0, 9]))) = some 5 := by decide
theorem test_coefficient_hypotheses :
    let r := axisReq [1, 2, 0, 0, 11, 0, 0, 0, 0, 0, 0, 0, 21, 0]
    rq r 20 1 ≤ 2 ∧ clampN 1 4 (rq r 21 1) = 2 ∧ coefIndex (rq r 20 1) (rq r 24 2) = some 39 ∧ coefIndex (rq r 20 1) (rq r 32 2) = some 9 ∧
    (coefIndex 1 12).isNone = true := by decide
theorem test_no_enable_without_permit :
    mayEnable ((upAxis { state := .disabled, desc := [(0, 0x601)] }).onSafety fun y => { y with image := {} }) 64 = false := by decide

theorem test_missed_slot_hypotheses :
    let s := (upAxis { state := .enabled }).onTime fun t => { t with running := true }
    s.time.running = true ∧ s.time.released = false ∧ (s.axis (64 * 1 + 0)).state ≠ .unloaded := by decide

/-- Position law of the worked example of 04: the product 13,107 × 2,500 shifted right by 16 gives 500, rounded. -/
theorem test_product_of_the_worked_example : mulsh 13107 2500 16 = 500 := by decide

theorem test_tuning_hypotheses :
    let s := upAxis { state := .enabled, desc := [(0, 0x01000601), (1, 0x310)] }
    loopReady s = true ∧ actReady s = true ∧ okAxis s 64 = true ∧ mayInject s 64 = true ∧
    ([0x1101, 0x1110, 0x1111, 0x1120].all fun o => hasRight s 2 o) = true ∧
    rq (axisReq [3, 1]) 20 1 ≤ 3 ∧ rq (axisReq [3, 1]) 21 1 ≤ 1 ∧
    mayInject (upAxis { state := .enabled, desc := [(0, 0x601)] }) 64 = false := by decide
/-- A capture of one channel with an immediate trigger (05 R166). -/
theorem test_capture_arm_hypotheses :
    let s := upAxis { state := .enabled, desc := [(0, 0x01000601), (1, 0x310)] }
    let r := req (List.replicate 32 0 ++ [64, 0, 0, 0, 0x0E])
    rq r 17 1 ≤ 5 ∧ clampN 1 16 (rq r 16 1) = 1 ∧ okAxis s (rq r 48 4) = true ∧ rq r 52 1 ≤ 0x0E ∧
    dOpt (s.axis (rq r 48 4)).desc 4 = true ∧ s.loop.capture.state ≠ 1 ∧ s.loop.capture.state ≠ 2 := by decide

/-! ### Shafts, cars, energy (06, 07) -/

/-- A shaft of two landings 3 m apart, ten segments of 1 m and one car, number 5, on weaver 3 (07). -/
def shaftCfg : ShaftCfg :=
  { geo := { z0 := 0, segLen := 1000000, nSeg := 10, nLand := 2, nCar := 1, gapMin := 4000000, zMin := 0, zMax := 8000000 }
    lands := [(0, 1000000), (1, 4000000)]
    segs := (List.range 10).map fun j => (j, { axis := j })
    cars := [(0, { car := 5, weaver := 3, height := 2000000, track := 2000000, mass0 := 500 })] }

/-- `up` with shaft 0 committed and car 5 in a state. -/
def upCar (k : CarSt) (limits : Option Limits := some {}) (energy : Option EnergyCfg := none) (en : EnergySt := {}) : State :=
  { up with
    sys := { up.sys with lc := .field, manifest := { shafts := 1 } }
    safety := { up.safety with image := { cd := BitVec.allOnes 64, rel := BitVec.allOnes 64, eng := BitVec.allOnes 64, ld := [(0, 3)] } }
    motion := { shafts := [(0, { cfg := some shaftCfg, limits, energy, en })], cars := [(5, k)] } }

/-- A car placed at the lower landing. -/
def atLanding : CarSt := { placed := true, p := 1000000, refP := 1000000, lo := 1000000, hi := 3000000, back := .stopped }

/-- The car of `upCar`. -/
def theCar : CarCtx := { h := 0, cfg := shaftCfg, c := { car := 5, weaver := 3, height := 2000000, track := 2000000, mass0 := 500 } }

theorem test_car_context (k : CarSt) : carCtx (upCar k) 5 = some theCar ∧ (allCars (upCar k)).filter (fun y => y.c.car == 5) = [theCar] ∧
    theCar.c.car = 5 := by exact ⟨rfl, rfl, rfl⟩

theorem test_shaft_requests_hypotheses :
    let s := upCar { atLanding with state := .idle }
    motionReady s = true ∧ actReady s = true ∧ knownCar s 5 = true ∧ committedShaft s 0 = true ∧ committedShaft s 1 = false ∧
    ([0x1201, 0x1202, 0x1301, 0x1302, 0x1210, 0x1211, 0x1310, 0x1320, 0x1321].all fun o => hasRight s 2 o) = true ∧
    rq (req [0, 2, 15, 14]) 17 1 ≤ 2 ∧ rq (req [0, 2, 15, 14]) 18 1 ≤ 15 ∧ rq (req [0, 2, 15, 14]) 19 1 ≠ rq (req [0, 2, 15, 14]) 18 1 ∧
    rq (req [0, 0, 255, 1]) 18 2 ≤ 511 ∧ shaftLoadBad s (req [0, 5]) = none ∧ shaftLoadBad s (req [1, 5]) = some 16 ∧
    shaftLoadBad s (req [0, 6]) = some 17 := by decide
/-- A commit with an empty pending copy fails at section 0 (07 R227). -/
theorem test_commit_of_nothing :
    let s := upCar { atLanding with state := .idle }
    gainsOnly (s.shaft 0).pend = false ∧
    (commitChecks s 0 { (s.shaft 0).pend with cfg := trimCfg (s.shaft 0).pend.cfg }).find? (fun c => !c.2.2.2) = some (0, 0, 24, false) := by
  decide

theorem test_car_stop_hypotheses :
    let s := upCar { atLanding with state := .stopped }
    resumeTo s theCar = some 0 ∧ resumeTo (upCar { atLanding with state := .idle }) theCar = none ∧ (landingAt shaftCfg 1010000) = some 0 ∧
    (landingAt shaftCfg 1010001) = none := by decide
theorem test_inspection_move_hypotheses :
    let s := upCar { atLanding with state := .idle }
    let i := s.onSafety fun y => { y with image := { y.image with insp := 1 } }
    let k := { atLanding with state := .idle, insp := some { down := false, holdMs := 50, from_ := 1000000, dist := 2147483647 } }
    s.safety.image.insp.getLsbD theCar.h = false ∧ i.safety.image.insp.getLsbD theCar.h = true ∧ (i.shaft 0).limits.isSome = true ∧
    mayStart i theCar (i.car 5) = true ∧ startTarget i theCar k .inspection 0 = 6000000 ∧
    startProof i theCar (claimTo theCar k 6000000) = true ∧ claimOk i theCar (claimTo theCar k 6000000) = true := by decide

theorem test_car_moments_hypotheses :
    let j : Journey := { kind := .inspection }
    let s := upCar { atLanding with state := .inspection, journey := some j, insp := some {}, missCnt := 2 }
    (s.car 5).cut = false ∧ (s.car 5).missCnt ≤ 255 ∧ (s.car 5).missCnt = 2 ∧ (s.car 5).insp = some {} ∧ (s.car 5).journey = some j ∧
    (s.car 5).state = .inspection ∧ (s.car 5).holding = false ∧ ({} : InspMove).ending = false ∧
    s.safety.image.rel.getLsbD 5 = true ∧ s.safety.image.eng.getLsbD 5 = true := by decide
/-- The end of weighing starts a journey to the upper landing, 500 kg weighed (06 R177, R181). -/
theorem test_weighing_end_starts :
    let s := upCar { atLanding with state := .weighing, wCount := 64, wSum := 31392000, mass := 500, starting := some (.normal, 1), insp := none }
    weighedMass s theCar (s.car 5) = 500 ∧ startTaken s theCar = false ∧
    (match checkStart s theCar (s.car 5) .normal 1 with | .go j => j.kind == .normal | _ => false) = true ∧
    (s.shaft 0).en.rescue = false := by decide
/-- An empty store refuses it for energy (06 R182). -/
theorem test_weighing_end_refused :
    let s := upCar { atLanding with state := .weighing, wCount := 64, mass := 500, starting := some (.normal, 1) } (some {}) (some { kind := 0 })
    (match checkStart s theCar (s.car 5) .normal 1 with | .energy _ => true | _ => false) = true := by decide
/-- Another car of the shaft that starts in this cycle holds the start back (06 R183). -/
theorem test_weighing_end_waits :
    let s := upCar { atLanding with state := .weighing, wCount := 64, starting := some (.normal, 1) }
    let t := (s.onShaft 0 fun h => { h with cfg := some { shaftCfg with cars := shaftCfg.cars ++ [(1, { car := 6, order := 1 })] } }).onCar 6
      fun _ => { state := .moving, journey := some { first := 1 } }
    startTaken t theCar = true := by decide

theorem test_energy_hypotheses :
    let m : BmsMap := { enable := true, obj := 3, offset := 0, width := 2 }
    let o := fun (d : List Nat) => ({ new_ := true, entry := { frame := { data := d.map (BitVec.ofNat 8) } } } : CanObj)
    leAt (o [255, 255]).entry.frame.data m.offset m.width = 256 ^ m.width - 1 ∧ leAt (o [4, 1]).entry.frame.data m.offset m.width = 260 ∧
    m.offset + m.width ≤ (o [4, 1]).entry.frame.data.length ∧
    (let s := upCar { atLanding with state := .idle } (some {}) (some { kind := 0, reserve := 0 }) { rescue := true, bmsStale := false }
     (s.shaft 0).en.bmsStale = false ∧ (s.shaft 0).en.rescue = true ∧ (∀ x ∈ shaftCars s 0, carAtRest (s.car x.c.car) = true) ∧
     11 * (0 : Int) ≤ 10 * eAvail s 0) := by decide

/-! ### Doors and dispatch (08, 09) -/

/-- `up` with door 4, a door-only door on axis 9, in a state; its axis enabled (08 R231, R252). -/
def upDoor (x : DoorSt) : State :=
  { up with loop := { up.loop with axes := [(9, { state := .enabled })] }
            doors := [(4, { x with def_ := some { kind := 3, axis0 := 9, group := 1, nudge := true } })] }

theorem test_door_requests_hypotheses :
    let c : DoorDef := { kind := 3, axis0 := 9, group := 1, nudge := true }
    let s := upDoor { state := .closed, service := true }
    let r := req [4, 0, 0, 3]
    loopReady s = true ∧ actReady s = true ∧ (s.door (rq r 16 2)).def_ = some c ∧ bitAt (rq r 18 1) 0 = false ∧ rq r 19 1 ≤ 3 ∧
    ([0x1401, 0x1402, 0x1410, 0x1411, 0x1420, 0x1430].all fun o => hasRight s 2 o) = true ∧
    openable s 4 c = true ∧ openable (upDoor { state := .fault }) 4 c = false ∧ closeable s 4 c 1 = true ∧ closeable s 4 c 2 = false ∧
    closeable s 4 c 3 = false ∧ closeable (upDoor { state := .fault }) 4 c 2 = true ∧
    outOfServiceRest (upDoor {} |>.door 4) = true ∧ axesOn s c = true ∧ axesOn up c = false := by decide
theorem test_door_out_of_service_learned :
    closeable (upDoor { state := .closed, x0 := { learned := some {} } }) 4 { kind := 3, axis0 := 9, group := 1, nudge := true } 3 = true := by
  decide
theorem test_door_policy_hypotheses :
    let s := upDoor {}
    firstBad ((16, true) :: (18, true) :: policyEnums s (s.door 4).pend (req [4, 0, 1])) = none ∧
    ((commitRules s 4).find? (fun e => !e.2.2)).isSome = true := by decide

theorem test_obstruction_hypotheses :
    let c : DoorDef := { obn := 1 }
    let t := axisTests c {} { stale := false, f := 13500 } true false false 1
    t.1.t2 = 1 ∧ 2 ∈ t.2.1 ∧ ¬ 3 ∈ t.2.1 ∧ (axisTests c {} { stale := false, f := 13499 } true false false 1).1.t2 = 0 := by decide

theorem test_door_moments_hypotheses :
    let c : DoorDef := { kind := 3, axis0 := 9, group := 1, nudge := true }
    let s := upDoor { state := .held, service := true, closePend := true, blockNs := 180000000000, imgs := [{}], lateRun := 2 }
    (s.door 4).def_ = some c ∧ (s.door 4).imgs ≠ [] ∧ (s.door 4).lateNow = false ∧ (s.door 4).lateRun = 2 ∧ doorInsp s c = false ∧
    30000000000 ≤ (s.door 4).blockNs ∧ (s.door 4).heldRep = false ∧ 180000000000 ≤ (s.door 4).blockNs ∧ c.nudge = true ∧
    (s.door 4).nudgeArm = false ∧ (s.door 4).rescue = false ∧ (s.door 4).holdOpen = false ∧ axesOn s c = true ∧ mayOpen s c = true ∧
    doorPartner s c = none ∧
    (let e : EdgeSt := { seeded := true, armed := true }
     e.seeded = true ∧ e.stored = none ∧ e.armed = true ∧ (upDoor { edges := [e] } |>.door 4).refAt = none) := by decide

/-- `upCar` with a call. -/
def upCall (c : Call) : State := (upCar { atLanding with state := .idle }).onDisp fun d => { d with calls := [(1, c)], next := 2 }

theorem test_dispatch_requests_hypotheses :
    let s := upCall { shafts := 1, src := 1 }
    motionReady s = true ∧ actReady s = true ∧ ([0x1501, 0x1502, 0x1510, 0x1511].all fun o => hasRight s 2 o) = true ∧
    mayAddress s 2 1 = true ∧ mayAddress s 2 2 = false ∧ knownCar s 5 = true ∧ rq (req [0, 1, 1, 0, 0, 1]) 16 1 ≤ 3 ∧
    declaredShaft s 0 = true ∧ landingKnown s 1 1 = true ∧ landingKnown s 1 2 = false ∧ s.disp.serving = none ∧
    (s.disp.calls.filter fun e => outstanding e.2).length < 16384 := by decide
/-- A hall call is given to the one car that can serve it (09 R266, R268). -/
theorem test_submit_finds_the_car :
    let s := upCall { shafts := 1, src := 1 }
    ((callCars s (s.call 1)).any fun x => reaches x (s.call 1)) = true ∧ (leastCand candCost (candidates s 1 none none)).map (·.car) = some 5 ∧
    ((candidates s 1 none none).find? (fun c => c.car == 5)).isSome = true := by decide
/-- With its car out of service, none (09 R262, R268). -/
theorem test_submit_finds_no_car :
    let s := (upCall { shafts := 1, src := 1 }).onCar 5 fun k => { k with state := .outOfService }
    candidates s 1 none none = [] := by decide
theorem test_deadline_and_discard_hypotheses :
    let c : Cand := { car := 5, wait := 7 }
    let s := (upCall { shafts := 1, src := 1, state := .completed }).onDisp fun d => { d with serving := some ({}, 1, [c]) }
    s.disp.waiting = [] ∧ leastCand (·.wait) [c] = some c ∧ (s.call 1).state ≠ .onBoard ∧ outstanding (s.call 1) = false := by decide
theorem test_update_hypotheses :
    let s := (upCall { shafts := 1, src := 1 }).onDisp fun d => { d with cancels := [({}, 1)] }
    s.disp.serving = none ∧ s.disp.updates = [] ∧ (∀ x ∈ allCars s, (s.car x.c.car).serving = false) ∧ s.disp.cancels = [({}, 1)] ∧
    (s.call 1).state = .unassigned := by decide

/-! ### Safety (10) -/

/-- Channels that run with shaft 0 of car 5 on link 2 and brake group 1, and axis 64 of drive group 2. -/
def safeChan : ChanSt :=
  { running := true
    cfg := { axisGroup := [(64, 2)], links := [(2, { srcA := 7, srcB := 8, cars := [5] })], pairSrc := 7
             shafts := [(0, { cars := [{ car := 5, brake := 1, link := 2 }] })] } }
def upSafe (f : ChanSt → ChanSt) : State := (up.onSupply fun u => { u with f24Low := false }).onSafety fun y => { y with core := f safeChan, scarp := safeChan }

theorem test_session_requests_hypotheses :
    let s := (up.onSys fun y => { y with lc := .field }).onSafety fun y => { y with session := some { id := 9 } }
    ([0x2001, 0x2002, 0x2003, 0x2010, 0x2011, 0x2012].all fun o => hasRight s 2 o) = true ∧ s.sys.lc ≠ .blank ∧ s.sys.lc ≠ .returned ∧
    s.safety.lockEnd = none ∧ inMotion s = false ∧ (s.safety.session.map (·.id)) = some (rq (req [9]) 16 4) ∧
    rq (req [9, 0, 0, 0, 0xFF, 0x3F]) 20 4 ≤ 16383 ∧ up.safety.session = none ∧
    (up.onSafety fun y => { y with lockEnd := some 1 }).safety.lockEnd = some 1 := by decide
/-- With the factory password, a session that sets one of twelve letters; with a password set, one with it (10 R311, R312). -/
theorem test_session_open_hypotheses (salt : Nat) :
    let r := req (List.replicate 16 0 ++ [12, 1, 12] ++ List.replicate 113 65)
    up.safety.password = none ∧ bitAt (rq r 33 1) 0 = true ∧ (12 ≤ rq r 32 1 ∧ rq r 32 1 ≤ 64) ∧ (12 ≤ rq r 34 1 ∧ rq r 34 1 ≤ 64) ∧
    printable (rqBytes r 100 (rq r 34 1)) = true ∧
    (up.onSafety fun y => { y with password := some (salt, Config.passwordHash salt (rqBytes r 36 (rq r 32 1))) }).safety.password =
      some (salt, Config.passwordHash salt (rqBytes r 36 (rq r 32 1))) := by
  refine ⟨by decide, by decide, by decide, by decide, by decide, rfl⟩
/-- Where the layout of the image finds no fault, a commit meets its hypotheses: the layout is not the spec's (log 12). -/
theorem test_commit_hypotheses (t : Tab Byte) (k : Nat) (h : Config.imageFault (imageBytes t) = none) (h1 : cfgOk (decodeImage (imageBytes t)) = true) :
    pendingFault t k = none := by simp [pendingFault, h, h1]
theorem test_wrong_password_hypotheses :
    rq (req (List.replicate 16 0 ++ [0])) 32 1 = 0 ∧ (up.onSafety fun y => { y with wrong := 4 }).safety.wrong = 4 := by decide

theorem test_trip_hypotheses :
    let s := upSafe fun x => { x with ss1 := [(0, { on := true, stillA := 4, cause := 1 })], streams := [(4, { cars := [(5, { status := 4 })] })] }
    (s.chan .core).running = true ∧ lineLive s 4 = true ∧ (tabGet (s.chan .core).ss1 {} 0).on = true ∧
    4 ≤ (tabGet (s.chan .core).ss1 {} 0).stillA ∧ (shaftOfCar (s.chan .core) 5).map (·.1) = some 0 ∧
    tabHas (s.chan .core).cfg.links (linkNo (.spl 2)) = true ∧ shaftsOfLink (s.chan .core) (linkNo (.spl 2)) = [0] ∧
    s.safety.scarp.running = true ∧ resetPending s = false ∧ lineLive up 4 = false ∧ scopeNo .module ≤ 8 := by decide
theorem test_brake_feedback_hypotheses :
    brakeBad (upSafe fun x => { x with cars := [(5, { recA := some { status := 0 } })] }) .core { car := 5, brake := 1, link := 2 } = true ∧
    brakeBad (upSafe fun x => { x with cars := [(5, { recA := some { status := 8 } })] }) .core { car := 5, brake := 1, link := 2 } = false := by decide
/-- Sixteen deviations of 2 % are no fault; one of 1 ppm more is (10 R282). -/
theorem test_clock_deviation_boundary :
    clockBad (List.replicate 16 20000) = false ∧ clockBad (20001 :: List.replicate 15 20000) = true := by decide

/-- The discrepancy time is exceeded only past DISC, and the pair is armed again by both inputs open (10 R288). -/
theorem test_pair_discrepancy :
    let k : PairCfg := { filt := 0, disc := 1000 }
    (evalPair k { a := true, dt := 950 } true false).fault = false ∧ (evalPair k { a := true, dt := 1000 } true false).fault = true ∧
    (evalPair k { fault := true } false false).armed = true := by decide
/-- A reset edge: the release after a closure of 100 ms to 3 s (10 R305). -/
theorem test_reset_edge_boundaries :
    let e := fun (t : Nat) => (evalReset { armed := true, closedT := t } false true).2.2
    e 99950 = false ∧ e 100000 = true ∧ e 3000000 = true ∧ e 3000050 = false := by decide
theorem test_safe_sample_hypotheses :
    ((upSafe id).chan .core).running = true ∧ (up.chan .core).running = false := by decide

/-- A frame of source 7, SEQ 5, stream A, with one pair record, its CRC-32C calculated apart (10 R292, 13 R375). -/
def safeFrame : List Byte :=
  ([0x7E, 1, 7, 0, 5, 0, 1, 0] ++ [4, 0x10, 0x0B, 0, 0, 0, 0, 0, 0, 0, 0xEF, 0xBE, 0xAD, 0xDE, 0, 0] ++ [0xF4, 0x03, 0x0A, 0x6B]).map (BitVec.ofNat 8)
theorem test_frame_crc : crc32c (safeFrame.take 24) = 0x6B0A03F4 := by decide +kernel
theorem test_frame_accepted : frameOk safeFrame 7 false = true := by
  have h : crc32c (safeFrame.take (8 + 16 * byteAt safeFrame 6)) = 0x6B0A03F4 := test_frame_crc
  unfold frameOk
  simp only [h]
  decide
theorem test_safe_frame_hypotheses :
    let s := upSafe id
    (tabGet (s.chan .core).cfg.links {} (linkNo (.spl 2))).srcA = 7 ∧ (s.chan .core).cfg.pairSrc = 7 ∧
    seqOk (tabGet (s.chan .core).streams {} 4).seq (tabGet (s.chan .core).streams {} 4).lost (leAt safeFrame 4 2) = true ∧
    seqOk (some 4) false (leAt safeFrame 4 2) = true ∧ seqOk (some 5) false (leAt safeFrame 4 2) = false ∧
    safeRecs safeFrame false = [.pair 0x10 [0x0B, 0, 0, 0, 0, 0, 0, 0] 0xDEADBEEF] ∧ frameOk [] 7 false = false := by decide
theorem test_stop_and_disagree_hypotheses :
    let g : RingSt := { state := .leading }
    let s := { (upSafe fun x => { x with modTrip := [0x10], cleared := [(8, [0x12])] }) with rings := [(1, g)] }
    let t := s.onSafety fun y => { y with scarp := { y.scarp with modTrip := [0x12] } }
    t.safety.scarp.modTrip ≠ [] ∧ g.state ≠ .off ∧ g.state ≠ .sleeping ∧ tabGet (t.chan .core).cleared [] 8 = [0x12] ∧
    ([0x12].any (latchOf (t.chan (otherChan .core)) 8).contains) = true ∧
    (t.onSys fun y => { y with manifest := { y.manifest with partner := 9 } }).sys.manifest.partner ≠ 0 := by decide
/-- A monitoring point that stays low trips after its CFILT: at 10 V it is not low, below it is (10 R290). -/
theorem test_point_boundaries :
    let k : PointCfg := { mode := 1, cfilt := 100 }
    (evalPoint k { present := true, low := 50 } 9999).present = false ∧ (evalPoint k { present := true, low := 50 } 10000).present = true ∧
    (evalPoint k {} 18000).present = false ∧ (evalPoint k {} 18001).present = true := by decide

/-! ### Field and CAN (11, 12) -/

theorem test_field_requests_hypotheses :
    let s := up.onField fun f => { f with doorOwned := 2 }
    actReady s = true ∧ ([0x3001, 0x3002, 0x3003, 0x3010, 0x3011, 0x3020, 0x3030, 0x3031].all fun o => hasRight s 2 o) = true ∧
    rq (req [47]) 16 1 ≤ 47 ∧ rq (req [15]) 16 1 ≤ 15 ∧ rq (req [1, 7]) 17 1 ≤ 7 ∧
    BitVec.ofNat 24 (rq (req [1, 0, 0, 0, 1]) 16 3) &&& s.field.doorOwned = 0 ∧ BitVec.ofNat 24 (rq (req [2]) 16 3) &&& s.field.doorOwned ≠ 0 ∧
    pwmConfigBad s (req [0, 0, 0]) = none ∧ (fieldCfgOf s (withOp (req [0, 0, 0]) 0x3020)).2.2 = false := by decide
/-- A relative move of a step output whose position is known (11 R342); a drop stop while it moves. -/
theorem test_step_hypotheses :
    let s := (up.onField fun f => { f with on := true }).onStp 7 fun p => { p with unknown := false }
    let r := req [7, 1]
    let m := s.onStp 7 fun p => { p with state := .moving, rate := 1, move := { target := 5, acc := 2, vmax := 3 } }
    rq r 16 1 ≤ 7 ∧ rq r 17 1 ≤ 3 ∧ stepAxis s (rq r 16 1) = none ∧ (s.stp (rq r 16 1)).unknown = false ∧
    stepBusy (s.stp (rq r 16 1)) = false ∧ (s.stp (rq r 16 1)).start = false ∧ s.field.movePend = [] ∧ stepBusy (m.stp 7) = true ∧
    (m.stp 7).pos ≠ (m.stp 7).move.target ∧ (m.stp 7).rate ≤ (m.stp 7).move.acc ∧
    (m.stp 7).rate * (m.stp 7).rate < 2 * (m.stp 7).move.acc * ((m.stp 7).move.target - (m.stp 7).pos).natAbs * 1000000000000 ∧
    frontFailed s 45 = false ∧ ({ target := -3 } : StepMove).target.natAbs ≤ 3 := by decide
theorem test_field_samples_hypotheses :
    let s := up.onField fun f => { f with on := true, ai := [(3, { mode := 1, open_ := true, fault := true })] }
    s.field.on = true ∧ s.field.overload.getLsbD 23 = false ∧ s.field.silent = false ∧ (s.ai 3).mode ≠ 0 ∧ (s.ai 3).open_ = true ∧
    (s.ai 3).fault = true ∧ (s.sd 7).ocset = 0xFF ∧ gatesLow s 3 = true := by decide
/-- The worked example of 11: 250 clocks are suppressed and carried; the next period is on 375 and 2,500; 99 clocks are dropped. -/
theorem test_leg_periods :
    legPeriod 5243 3125 125 200 0 = ({ low := 3125 }, 250, false, true) ∧
    legPeriod 5243 3125 125 200 250 = ({ high := 375, low := 2500 }, 0, false, false) ∧
    legPeriod 2097 3125 125 200 0 = ({ low := 3125 }, 0, true, false) := by decide
/-- A digital input changes after FILT samples of the new level and not before (11 R322). -/
theorem test_di_filter :
    (diStep { filt := 2, c := 1 } true).state = true ∧ (diStep { filt := 2, c := 0 } true).state = false := by decide

/-- `up` with channel 1 in service and objects 4 to send, 5 to receive and 6 for the reference message (12 R356). -/
def upCan (o : CanObj) : State :=
  { up with can := { tx := true, drain := true, chans := [(1, { on := true, cfg := { fd := true }, ref := { enable := true, format := 1, obj := 6 } })]
                     objs := [(4, { o with cfg := { chan := 1, kind := 2 } }), (5, { cfg := { chan := 1, kind := 1, match_ := 0 } }),
                       (6, { cfg := { chan := 1, kind := 2 } })] } }

theorem test_can_requests_hypotheses :
    let s := upCan {}
    actReady s = true ∧ ([0x3101, 0x3102, 0x3110, 0x3111, 0x3120, 0x3130].all fun o => hasRight s 2 o) = true ∧
    rq (req [7]) 16 1 ≤ 7 ∧ rq (req [1, 127]) 17 1 < 128 ∧ canConfigBad s (req [1, 5]) = none ∧ canRefused s (canPendOf (req [1, 5])) = false ∧
    canRefused s (.wake 1 {}) = false ∧ rq (req [4, 2, 0, 0, 0xFF, 7]) 20 4 ≤ 0x7FF ∧ (s.obj 4).cfg.kind = 2 ∧ objOwned s 4 = false ∧
    (s.ch 1).cfg.mode = 1 ∧ (s.ch 1).on = true ∧ (s.ch 1).busOff = false ∧ (s.obj 4).pend = false ∧
    (s.onCh 1 fun x => { x with busOff := true }).can.tx = true := by decide
theorem test_can_moments_hypotheses :
    let s := upCan { pend := true, entry := { frame := { id := 3 } } }
    let t := upCan { pend := true, intx := true, coll := 2, backoff := some 3 }
    chListens (s.ch 1) = true ∧ inTx s 1 = none ∧ (∀ k ∈ objsOf s 1 2, (s.obj k).intx = false ∧ (s.obj k).redraw = false) ∧
    (s.ch 1).waking = false ∧ (s.ch 1).cfgNext = none ∧ chSends s 1 = true ∧ offered s 1 = some 4 ∧ inTx t 1 = some 4 ∧
    (t.obj 4).next = none ∧ 2 ≤ (t.obj 4).coll ∧ (t.obj 4).backoff.isSome = true ∧ s.can.drain = true ∧ (s.ch 1).ref.enable = true ∧
    (s.ch 1).ref.format ≠ 0 ∧ s.pow.mode ≠ 1 := by decide
theorem test_can_sleep_and_lock_hypotheses :
    let s := (upCan { locked := true }).onCh 2 fun x => { x with asleep := true, wake := { wmode := 1 }, recovering := true }
    (s.ch 2).asleep = true ∧ (s.ch 2).wake.wmode ≠ 0 ∧ (s.ch 2).recovering = true ∧ (s.obj 4).locked = true := by decide

/-! ### Redundancy, time, power (13, 14, 16) -/

/-- `up` as member 1 of a pair with member 2, witnessed by member 3, itself the witness of the pair 4 and 5 (13 R372). -/
def upRed (d : RedSt) : State :=
  { up with sys := { up.sys with manifest := { partner := 2, witness := 3, witnessed := [(4, 5)] } }, red := d }

theorem test_red_requests_hypotheses :
    let s := upRed { role := .active, partnerHb := some { hflags := 2 }, witnessHb := some {}, partnerSeen := some 0 }
    hasRight s 2 0x5001 = true ∧ hasRight s 2 0x5010 = true ∧ paired s = true ∧ (witnessedPair s 1).isSome = true ∧
    (witnessedPair s 2).isSome = false ∧ mayHandOver s = true ∧ partnerSilent s = false ∧ partnerSilent (upRed { role := .fenced }) = true ∧
    pairMembers s 1 = some (4, 5) := by decide
theorem test_red_moments_hypotheses :
    let s := upRed { role := .standby, speculative := true, replayed := true, confirmed := true, checkpoint := some {}, joining := false,
                     target := some 0, declared := [(1, 4)] }
    let h : Heartbeat := { member := 3, decl := 2 }
    s.red.role = .standby ∧ s.red.speculative = true ∧ s.red.replayed = true ∧ s.red.confirmed = true ∧ s.red.checkpoint.isSome = true ∧
    s.red.missPartner = 0 ∧ h.crcOk = true ∧ h.member = s.sys.manifest.witness ∧ s.sys.manifest.witness ≠ s.sys.manifest.partner ∧
    h.decl ≠ 0 ∧ h.decl ≠ s.sys.manifest.member ∧ h.decl = s.sys.manifest.partner ∧ s.red.partnerFrame = none ∧
    s.red.target = some s.time.cycle ∧ tabGet s.red.declared 0 1 ≠ 0 ∧ s.red.journal.contains 1 = false ∧ s.red.jseq < 1 ∧
    (upRed { role := .active }).red.fenceDue = none ∧ s.time.cycle % 32 = 0 := by decide

theorem crcByte_lt (c b : Nat) (hc : c < 2 ^ 32) (hb : b < 2 ^ 32) : crcByte c b < 2 ^ 32 := by
  have h : ∀ (l : List Nat) (a : Nat), a < 2 ^ 32 →
      l.foldl (fun a _ => if a % 2 = 1 then Nat.xor (a / 2) 0x82F63B78 else a / 2) a < 2 ^ 32 := by
    intro l
    induction l with
    | nil => exact fun a h => h
    | cons x l ih =>
      intro a h
      refine ih _ ?_
      show (if a % 2 = 1 then Nat.xor (a / 2) 0x82F63B78 else a / 2) < 2 ^ 32
      split
      · exact Nat.xor_lt_two_pow (by omega) (by decide)
      · omega
  exact h _ _ (Nat.xor_lt_two_pow hc hb)
theorem crc32c_lt (l : List Byte) : crc32c l < 2 ^ 32 := by
  have h : ∀ (l : List Byte) (c : Nat), c < 2 ^ 32 → l.foldl (fun c b => crcByte c b.toNat) c < 2 ^ 32 := by
    intro l
    induction l with
    | nil => exact fun c h => h
    | cons x l ih => exact fun c h => ih _ (crcByte_lt c _ h (by have := x.isLt; omega))
  exact Nat.xor_lt_two_pow (h l _ (by decide)) (by decide)
/-- A checkpoint with the CRC of the safety image in force is good (13 R379). -/
theorem test_good_checkpoint :
    let s := upRed { role := .standby }
    ckFault s { safetyCrc := BitVec.ofNat 32 (imageCrc s.safety.core.image) } = 0 := by
  have h : (BitVec.ofNat 32 (imageCrc (upRed { role := .standby }).safety.core.image)).toNat = imageCrc (upRed { role := .standby }).safety.core.image := by
    rw [BitVec.toNat_ofNat]; exact Nat.mod_eq_of_lt (crc32c_lt _)
  have hm : memberRings (upRed { role := .standby }) = true := by decide
  have hd : (upRed { role := .standby }).safety.core.pairCrcDiff = false ∧ (upRed { role := .standby }).safety.scarp.pairCrcDiff = false := by decide
  have h1 : ∀ n : Nat, (n != n) = false := by simp
  simp only [ckFault, h, hm, hd.1, hd.2, h1]
  rfl
/-- One that comes 31 cycles after the last good one is not consecutive (13 R379). -/
theorem test_checkpoint_not_consecutive : ckFault (upRed { role := .standby, goodWin := some 32 }) { window := 63 } = 3 := by decide

theorem test_time_hypotheses :
    let s := { (upRed {}) with links := [(1, { up := true })], rings := [(2, { state := .leading, cfg := { mode := 1 } })] }
    let t := s.onTime fun x => { x with isMaster := true, ptp := true, src := .side 1, heard := [{ src := .side 1, member := 7 }], srcMember := 7 }
    let z := (s.onSys fun y => { y with manifest := { y.manifest with zoneShafts := [(0, (6, 1))], zonePartners := [(3, 6)], backup := 1 } }).onAxis 9
      fun _ => { state := .disabled, desc := [(0, 0x101), (3, 0x40000100)] }
    (s.link 1).up = true ∧ (s.ring 2).cfg.mode = 1 ∧ ringLive (s.ring 2) = true ∧ t.time.isMaster = true ∧ t.time.ptp = true ∧
    t.time.src ≠ .none ∧ t.time.src ≠ .self ∧ (∀ h ∈ t.time.heard, h.src = t.time.src ∧ h.member = t.time.srcMember) ∧
    zoneShaftOf z 6 1 = some 0 ∧ z.time.tstate < 2 ∧ z.sys.manifest.backup ≠ 0 ∧ z.sys.manifest.backup = z.sys.manifest.member ∧
    (z.axis 9).state ≠ .unloaded ∧ dRef (z.axis 9).desc = 1 ∧ 0x40 ≤ dChan (z.axis 9).desc ∧
    tabHas z.sys.manifest.zonePartners (8 * 0 + 3) = true ∧ ({ dest := 2 } : TrunkRec).dest ≠ s.sys.manifest.member := by decide

theorem test_power_requests_hypotheses :
    let r := req [2, 1]
    ([0x6001, 0x6010, 0x6011].all fun o => hasRight up 2 o) = true ∧ rq r 16 1 ≠ 0 ∧ rq r 17 1 ≤ 3 ∧ up.pow.change = none ∧
    up.red.role ≠ .standby ∧ (∀ b ∈ named (BitVec.ofNat 8 (rq r 16 1)), levelOf up b ≠ rq r 17 1) ∧
    tabGet up.pow.sleep 0 7 ≠ 1 ∧ basketHalted up 7 = false ∧ maySleep up 7 = true ∧ maySleep up 8 = true ∧ rq (req [2, 0, 3]) 18 1 = 3 ∧
    up.pow.mode = 0 := by decide +kernel
theorem test_level_not_refused : ∀ b ∈ named 2, levelRefuser up 1 b = none := by decide +kernel
/-- `up` may enter S3; `upAxis` with an enabled axis may not (16 R444). -/
theorem test_sleep_refusers :
    (s3Refuser up true).isSome = false ∧ s3Refuser (upAxis { state := .enabled }) true = some 2 := by decide +kernel
theorem test_power_moments_hypotheses :
    let c : LevelChange := { awaiting := 1, changed := true }
    let s := up.onPow fun w => { w with change := some c }
    let t := up.onPow fun w => { w with mode := 1, stage := 2, flags := 1 }
    s.pow.change = some c ∧ c.awaiting.getLsbD 0 = true ∧ (c.awaiting &&& ~~~ BitVec.ofNat 8 (2 ^ 0) = 0) ∧ s.pow.levelQ = [] ∧
    c.again.getLsbD 0 = false ∧ t.pow.mode = 1 ∧ t.pow.asleep = false ∧ t.pow.latched = none ∧ (s3Refuser t (t.pow.flags.getLsbD 0)).isSome = false ∧
    (t.onPow fun w => { w with latched := some 0x10 }).pow.latched = some 0x10 ∧ t.pow.held = [] := by decide +kernel

/-! ### Recorder, debug access, counters, cycle (17, 18, 19, 01) -/

/-- `up` with the recorder running and a ready drive 2 (17 R468). -/
def upRec (f : RecSt → RecSt) : State :=
  up.onRec fun c => f { c with running := true, drives := [(2, { state := 1, mbs := 600, writing := [(1, [])] })] }

theorem test_rec_requests_hypotheses :
    let s := upRec fun c => { c with trace := { c.trace with axes := [9] } }
    ([0x7001, 0x7002, 0x7010, 0x7011].all fun o => hasRight s 2 o) = true ∧ rq (req [3]) 16 1 ≤ 3 ∧
    1 ≤ rq (req [0, 0, 0, 0, 0x10]) 20 1 ∧ rq (req [0, 0, 0, 0, 0x10]) 20 1 ≤ 0x10 ∧ alwaysRecorded 4 = false ∧ alwaysRecorded 1 = true ∧
    (readyDrives s).isEmpty = false ∧ drivesMeet s = true ∧ anyWorn s = false ∧ (readyDrives up).isEmpty = true ∧
    s.cairn.trace.axes.contains (rq (req [2, 1, 9]) 18 2) = true := by decide
theorem test_intake_hypotheses :
    let e : Event := { source := 4, code := 5, subject := 6 }
    let h : Record := { seq := 7, source := 4, code := 5, subject := 6, isOpen := true }
    let s := upRec fun c => { c with intake := [e] }
    let o := upRec fun c => { c with intake := [e], ring := [(7, .head h)] }
    s.cairn.running = true ∧ s.cairn.intake = [e] ∧ e.record = true ∧ e.dropped = false ∧ s.cairn.dropPend = 0 ∧ triggerOf s 4 5 = none ∧
    openHead s = none ∧ openHead o = some h ∧ up.cairn.running = false ∧ ({ e with record := false }).record = false := by decide
/-- A repeat within 1 s is counted in the open record; one at 1 s is a record of its own (17 R461). -/
theorem test_repeat_boundary :
    let e : Event := { source := 4, code := 5, subject := 6 }
    let s := upRec fun c => { c with next := 8, ring := [(7, .head { seq := 7, source := 4, code := 5, subject := 6, isOpen := true })] }
    (recordEvent s 999999999 e []).cairn.newest = s.cairn.newest ∧ (recordEvent s 1000000000 e []).cairn.newest = 8 := by decide
theorem test_drive_hypotheses :
    let s := upRec fun c => { c with unspilled := [7] }
    turnDrive s = some 2 ∧ nextPage s ≠ [] ∧ (s.drive 2).writing = [(1, [])] ∧ (s.drive 2).state ≠ 2 ∧ driveReady (s.drive 2) = true ∧
    ({ state := 2 } : Drive).retried = false ∧ ({ flushing := true } : Drive).flushing = true ∧
    (s.onSys fun y => { y with rootPorts := true }).sys.rootPorts = true := by decide
theorem test_mirror_hypotheses :
    let s := upRec fun c => { c with unmirrored := [{ seq := 7 }] }
    s.cairn.mirrorFail = false ∧ s.cairn.unmirrored ≠ [] ∧ s.cairn.unmirrored.length ≤ 400 ∧ (s.sector s.cairn.sector).used + 4 ≤ 1023 := by decide
theorem test_store_queue_hypotheses : ∃ i, ({ up.nor with queue := [.service 4 true] } : NorSt).queue = [i] := ⟨_, rfl⟩

theorem test_debug_requests_hypotheses :
    let r := req [1, 0, 2, 0, 0, 0, 0, 0, 0]
    let a : AuthAsk := { purpose := rq r 17 1, level := rq r 18 1, target := rq r 19 1 }
    let s := up.onDbg fun d => { d with nonce := some 1 }
    ([0x7F01, 0x7F10, 0x7F11].all fun o => hasRight s 2 o) = true ∧ rq r 16 1 ≤ 1 ∧ a.purpose ≤ 2 ∧ (a.level = 1 ∨ a.level = 2) ∧ rq r 24 1 ≤ 1 ∧
    s.dbg.lockout = false ∧ s.pow.mode ≠ 1 ∧ authOk up r a = false ∧ authOk s r a = true ∧ authConditions s r a = true ∧
    authConditions (held .intrusive) r a = false ∧ (up.onDbg fun d => { d with lockout := true }).dbg.lockout = true := by decide
/-- A change to PROVISIONED with a generic debug key programmed; that a token verifies is uninterpreted (18 R489). -/
theorem test_lifecycle_request_hypotheses (h : Config.tokenOk 3 (slotHash ((imaged 5).onDbg fun d => { d with nonce := some 1 }) 3 0) 1
      (authBytes (req [1, 1, 0, 1, 0, 0, 0, 0, 1])) (rqBytes (req [1, 1, 0, 1, 0, 0, 0, 0, 1]) 32 96) = true) :
    let r := req [1, 1, 0, 1, 0, 0, 0, 0, 1]
    let a : AuthAsk := { purpose := 1, level := 0, target := 1 }
    let s := (imaged 5).onDbg fun d => { d with nonce := some 1 }
    a = { purpose := rq r 17 1, level := rq r 18 1, target := rq r 19 1 } ∧ authOk s r a = true ∧ authConditions s r a = true := by
  have h1 : slotOk ((imaged 5).onDbg fun d => { d with nonce := some 1 }) 3 0 = true := by decide
  refine ⟨by decide, ?_, by decide⟩
  have hn : ((imaged 5).onDbg fun d => { d with nonce := some 1 }).dbg.nonce = some 1 := by decide
  have hk : authKey ((imaged 5).onDbg fun d => { d with nonce := some 1 }).sys.lc { purpose := 1, level := 0, target := 1 } = some 1 := by decide
  have hr : rq (req [1, 1, 0, 1, 0, 0, 0, 0, 1]) 24 1 = 1 := by decide
  unfold authOk
  simp only [hn, hk, hr]
  exact Bool.and_eq_true_iff.mpr ⟨rfl, List.any_eq_true.mpr ⟨0, by decide, Bool.and_eq_true_iff.mpr ⟨h1, h⟩⟩⟩
theorem test_debug_close_hypotheses :
    (held .observe).dbg.level ≠ .closed ∧ (held .observe).dbg.holder = 2 ∧ (held .intrusive).dbg.safetyHalted = false ∧ up.dbg.level = .closed ∧
    (held .observe).dbg.reload = 0 ∧ ((held .observe).onDbg fun d => { d with reload := 1 }).dbg.reload ≠ 0 := by decide

theorem test_counter_requests_hypotheses :
    ([0x7101, 0x7110, 0x7111].all fun o => hasRight up 2 o) = true ∧ rq (req [255, 3, 1, 1]) 16 2 ≤ 1023 ∧ (up.part 2).global = true ∧
    (State.reset.part 2).global = false ∧ thrInstance up none 9 3 = true ∧ thrInstance up none 9 4 = false ∧ thrInstance up (some 2) 1 16 = true ∧
    thrInstance up (some 3) 1 16 = false := by decide
theorem test_cycle_hypotheses :
    let s := up.onTime fun t => { t with running := true }
    s.time.running = true ∧ s.time.released = false ∧ (s.ring 3).state ≠ .leading ∧ loopReady State.reset = false := by decide
/-- A request that waits for a release phase, and one started in its mailbox (02 R49). -/
theorem test_timeout_hypotheses :
    let s := (upQueues.onQueue 20 fun q => q).onLoop fun l => { l with axes := [(3, { staged := [{ req := some { queue := 20, tag := 7 } }] })] }
    ((waitingReqs s).find? (fun r => r.queue == 20 && r.tag == 7)).isSome = true ∧
    (waitingReqs upQueues).find? (fun r => r.queue == 20 && r.tag == 7) = none ∧
    ((upQueues.queue 20).slots.find? fun x => x.phase == .started && x.req.tag == 7).isSome = true := by decide

/-! ### Clauses that a repaired rule brought (02 to 18) -/

/-- The completion of a rekey brings its key into force, that of a subscription its classes and destination (02 R65, R546). -/
theorem test_when_written :
    ((whenWritten upQueues (withOp (req [20]) 0x0113) { fields := [(16, 4, 20), (32, 8, 0x55)] }).queue 20).key = 0x55 ∧
    ((whenWritten upQueues (withOp (req [18, 0, 0, 0, 0x11]) 0x0010) {}).queue 18).inForce = BitVec.ofNat 17 (2 ^ classBit 0x11) ∧
    tabHas upQueues.host.queues 18 = true := by decide

/-- A copy that the window awaits, one of another cycle, and one that fails its header check (03 R80, R97). -/
theorem test_copy_due_boundaries :
    let g : RingSt := { state := .leading, cfg := threeNodes, sentE := true, sentCycle := 9 }
    copyDue g { hcrcOk := true, table := 7, cycle := 9 } = true ∧ copyDue g { hcrcOk := true, table := 7, cycle := 8 } = false ∧
    copyDue g { hcrcOk := false } = true ∧ copyDue g { hcrcOk := true, table := 7, cycle := 9, fromWest := true } = false := by decide
theorem test_ring_port_hypotheses :
    let g : RingSt := { state := .following, cfg := threeNodes, integrated := true, good := 8 }
    reportsSpans g = true ∧ reportsSpans { g with integrated := false } = false ∧ ((onRing0 g).ring 0).state ≠ .leading ∧
    ({ hcrcOk := true, leader := 9 } : FrameHeader).sets = [] ∧ ({ hcrcOk := false } : FrameHeader).hcrcOk = false ∧
    ringLive (onRing0 { state := .listening } |>.ring 0) = false := by decide

/-- Slot 1 of weaver 0 is occupied by a descriptor, slot 0 by a ring entry alone, slot 2 by nothing (04 R115). -/
theorem test_occupied_slots :
    let s := (upAxis { state := .enabled, sup := { causes := 0 } }).onRing 0 fun g => { g with cfg := { threeNodes with entries := [{ kind := 1, axes := 1, nblk := 1 }] } }
    (occupied s).contains (64 * 1 + 0) = true ∧ (occupied s).contains (64 * 0 + 0) = true ∧ (occupied s).contains (64 * 2 + 0) = false ∧
    causeOn (s.axis 64).sup.causes 0x12 = false ∧ (s.axis 0).state = .unloaded ∧
    causeOn ({ sup := { causes := 131072 } } : AxisSt).sup.causes 0x12 = true := by decide
theorem test_channel_states :
    let c := fun (n : Nat) => up.onLoop fun l => { l with capture := { state := n, spec := { chans := [(64, 0)] }, kept := [(1, 4)] } }
    channelState (c 3) 0 = 3 ∧ channelState (c 1) 0 = 1 ∧ channelState (c 1) 1 = 4 ∧ channelState up 15 ≠ 3 ∧ channelState up 15 ≠ 4 := by decide

/-- A claim that another car's stands in the way of (07 R223). -/
theorem test_claim_not_free :
    let s := upCar { atLanding with state := .idle }
    claimOk s theCar (-1, 6000000) = false ∧ claimOk s theCar (0, 6000000) = true ∧ (limitsNext s 0).isSome = true ∧
    (limitsNext (upCar atLanding none) 0).isNone = true := by decide
theorem test_brake_timeout_hypotheses :
    let k := { atLanding with state := .tripped, braking := true }
    ((upCar k).car 5).state = .tripped ∧ ((upCar k).car 5).braking = true ∧ ((upCar k).car 5).takeOut = false ∧
    ((upCar { k with takeOut := true }).car 5).takeOut = true ∧
    ((upCar { atLanding with state := .preparing, insp := some {} }).car 5).insp = some {} ∧
    ((upCar { atLanding with state := .inspection, holding := true }).car 5).holding = true ∧
    (carCtx up 5).isNone = true ∧ ((upCar atLanding).shaft 0).en.bmsFresh = false := by decide

theorem test_door_mates_hypotheses :
    let c : DoorDef := { kind := 3, axis0 := 9, group := 1, nudge := true }
    let s := upDoor { state := .held, service := true, closePend := true, retry := true }
    openMates s [(4, c)] = [] ∧ closeMates s 4 c = [] ∧ nudgeable s 4 c = true ∧ axesOn s c = true ∧ (s.door 4).lateHold = false ∧
    nudgeable (upDoor { state := .opened }) 4 c = false ∧ mayOpen s c = true ∧ mayOpen s { c with enableIn := 0x10 } = false ∧
    doorInsp s c = false ∧ (s.door 4).retry = true := by decide

theorem test_deadline_hypotheses :
    let s := (upCall { shafts := 1, src := 1 }).onDisp fun d => { d with serving := some ({}, 1, [{ car := 5, wait := 7 }]) }
    s.disp.owed = false ∧ s.disp.due = [] ∧ s.disp.due.contains 1 = false ∧ tabHas s.disp.calls 1 = true ∧ (s.call 1).state = .unassigned ∧
    (leastCand policyCost (candidates (upCall { shafts := 1, src := 1 }) 1 none none)).isSome = true := by decide

/-- Channels whose words differ, whose latches alone differ, and with a reset that waits (10 R282, R306). -/
theorem test_mismatch_hypotheses :
    let l := upSafe fun x => { x with modTrip := [0x10] }
    let w := upSafe fun x => { x with pairs := [(3, { closed := true })] }
    let p := upSafe fun x => { x with modTrip := [0x10], cleared := [(8, [0x12])] }
    wordsDiffer w = true ∧ wordsDiffer l = false ∧ latchesDiffer l = true ∧ resetPending l = false ∧ resetPending p = true ∧
    wordsDiffer (upSafe id) = false ∧ latchesDiffer (upSafe id) = false := by decide +kernel

/-! ### What the safety channels take (10, 13) -/

/-- Monitoring point 2 of both channels, AC, of scope module, present for 25 ms less one sample of absence. -/
def upPoint : State :=
  up.onSafety fun y => { y with
    core := { safeChan with cfg := { safeChan.cfg with points := [(2, { mode := 2, module := true })] }, points := [(2, { present := true, low := 24950 })] }
    scarp := safeChan }
/-- An AC point is absent after 25 ms at or below 18 V and trips its scope with 02h (10 R290). -/
theorem test_monitor_point :
    (upPoint.chan .core).running = true ∧ (tabGet (upPoint.chan .core).cfg.points {} 2).mode ≠ 0 ∧ (tabGet (upPoint.chan .core).cfg.points {} 1).mode = 0 ∧
    (match execMonitorPointSample [] [] upPoint with
      | .next t => (tabGet (t.chan .core).points {} 2).present == false && (latchOf (t.chan .core) 8).contains 2 && (t.chan .scarp == upPoint.chan .scarp)
      | _ => false) = true ∧
    (match execMonitorPointSample [0, 0, 18001] [] upPoint with
      | .next t => (tabGet (t.chan .core).points {} 2).present && (latchOf (t.chan .core) 8).isEmpty | _ => false) = true := by decide +kernel

/-- The same frame layout with one car record: car 5, STATUS valid, POS 1,000 µm, its CRC-32C calculated apart (10 R292, R293). -/
def carFrame : List Byte :=
  ([0x7E, 1, 7, 0, 5, 0, 1, 0] ++ [1, 5, 1, 0, 0xE8, 3, 0, 0, 0, 0, 0, 0, 0, 0, 0, 0] ++ [0x34, 0x6D, 0xAE, 0xB7]).map (BitVec.ofNat 8)
theorem test_car_frame_crc : crc32c (carFrame.take 24) = 0xB7AE6D34 := by decide +kernel
theorem test_car_frame_accepted : frameOk carFrame 7 false = true := by
  have h : crc32c (carFrame.take (8 + 16 * byteAt carFrame 6)) = 0xB7AE6D34 := test_car_frame_crc
  unfold frameOk
  simp only [h]
  decide
theorem test_car_frame_record :
    safeRecs carFrame false = [.car 5 { status := 1, pos := 1000 }] ∧ recValid { status := 1, pos := 1000 } = true ∧
    (tabGet ((upSafe id).chan .core).cfg.links {} (linkNo (.spl 2))).cars.contains 5 = true ∧
    seqOk (tabGet ((upSafe id).chan .core).streams {} 4).seq (tabGet ((upSafe id).chan .core).streams {} 4).lost (leAt carFrame 4 2) = true := by
  decide
/-- It is accepted on link 2 and gives the car's record (10 R294). -/
theorem test_safe_link_frame :
    let u := acceptFrame (upSafe id) .core 2 false carFrame
    recOf (u.chan .core) false 5 = some { status := 1, pos := 1000 } ∧ (tabGet (u.chan .core).streams {} 4).seq = some 5 ∧
    (tabGet (u.chan .core).streams {} 4).good = 1 := by decide +kernel
/-- One whose SEQ does not continue the stream is not (10 R294). -/
theorem test_safe_link_frame_discarded : seqOk (some 5) false (leAt carFrame 4 2) = false := by decide
/-- STOP of source 01h leaves on the ring that is lit and not on the one that is off (03 R102). -/
theorem test_scarp_stop :
    let s := { (upSafe id) with rings := [(1, { state := .leading }), (2, {})] }
    let t := s.onSafety fun y => { y with scarp := { y.scarp with modTrip := [0x12] } }
    (t.rings.map (·.1)).Nodup ∧ s.safety.scarp.modTrip = [] ∧
    (match execScarpStopInject t with
      | .next u => decide ((u.ring 1).out = [(.stop 1, 64)] ∧ (u.ring 2).out = [] ∧ tabGet u.ctr.cnt 0 (cRing 1 15) = 1 ∧ tabGet u.ctr.cnt 0 (cRing 2 15) = 0)
      | _ => false) = true := by decide +kernel
/-- A cause that the other channel still holds is latched again; one that it does not hold stays cleared (10 R306). -/
theorem test_reset_disagree :
    let s := upSafe fun x => { x with cleared := [(8, [0x12])] }
    let t := s.onSafety fun y => { y with scarp := { y.scarp with modTrip := [0x12] } }
    (match execResetDisagree .core .module t with
      | .next u => decide (latchOf (u.chan .core) 8 = [0x12] ∧ tabGet (u.chan .core).cleared [] 8 = []) | _ => false) = true ∧
    (match execResetDisagree .core .module s with
      | .next u => decide (latchOf (u.chan .core) 8 = [] ∧ tabGet (u.chan .core).cleared [] 8 = []) | _ => false) = true := by decide +kernel
/-- The pair frame of `safeFrame` latches module trip 10h and trip 0Bh of shaft 0 (13 R375). -/
theorem test_pair_frame :
    let s := (upSafe id).onSys fun y => { y with manifest := { y.manifest with partner := 9 } }
    isLeading s = false ∧ (byteAt safeFrame 7 % 2 == 1) = false ∧
    (match execPairSafeFrameRx .core safeFrame s with
      | .next t => decide (latchOf (t.chan .core) 8 = [0x10] ∧ latchOf (t.chan .core) 0 = [0x0B] ∧ (t.chan .core).pairSeq = some 5 ∧ (t.chan .core).pairGood = 1)
      | _ => false) = true := by decide +kernel
/-- A loss restarts the count, and sixteen open the outputs of a module that does not lead (13 R375). -/
theorem test_pair_loss :
    let s := (upSafe id).onSys fun y => { y with manifest := { y.manifest with partner := 9 } }
    (match execPairExchangeLoss .core true s with
      | .next t => decide ((t.chan .core).pairOff = true ∧ (t.chan .core).pairGood = 0 ∧ t.red.exchLost = true ∧ (t.chan .scarp).pairOff = false) | _ => false) = true ∧
    (match execPairExchangeLoss .core false s with | .next t => decide ((t.chan .core).pairOff = false) | _ => false) = true := by
  decide +kernel

/-! ### Redundancy, trunk records, wake (13, 14, 16) -/

theorem test_handover_target_hypotheses :
    let s := upRed { role := .standby, target := some 0, missPartner := 1 }
    s.red.target = some s.time.cycle ∧ s.red.missPartner ≠ 0 ∧
    (match execHandoverTarget s with | .next t => decide (t.red.role = .standby ∧ t.red.target = none) | _ => false) = true := by decide
/-- A ZONE-DOWN with one entry from the home of zone shaft 0, taken on trunk ring 2 (14 R412). -/
theorem test_zone_down_taken :
    let s := { (upRed {}) with rings := [(2, { state := .leading, cfg := { mode := 1 } })], time := { tstate := 2 } }
    let z := s.onSys fun y => { y with manifest := { y.manifest with zoneShafts := [(0, (6, 1))] } }
    (z.ring 2).cfg.mode = 1 ∧ ringLive (z.ring 2) = true ∧ zoneShaftOf z 6 1 = some 0 ∧ zoneOpen z (.ring 2) 6 = true ∧ paired z = true ∧
    (match execTrunkSlotRx 2 6 [{ dest := z.sys.manifest.member, body := .zoneDown 1 0 0 [{ axis := 9, force := 77 }] }] z with
      | .next t => decide ((t.axis 9).shareNext.force = 77 ∧ tabGet t.multi.named [] 0 = [9]) | _ => false) = true := by decide +kernel
theorem test_can_wake_hypotheses :
    let s := (up.onPow fun w => { w with mode := 1, asleep := true, flags := 2 }).onCh 2 fun x => { x with wake := { wmode := 1 } }
    s.pow.mode = 1 ∧ s.pow.asleep = true ∧ (s.ch 2).wake.wmode ≠ 0 ∧ s.pow.flags.getLsbD 1 = true ∧
    (match execS3Wake (.can 2) s with | .next t => decide ((t.ch 2).woken = true ∧ t.pow.mode = 2) | _ => false) = true := by decide +kernel
/-- A corrected memory error of region 3 is counted whether or not the recorder runs (01 R19). -/
theorem test_corrected_error_counted :
    (match execRecEventIntake 0 (some { source := 3, code := 0, subject := 3 }) up with
      | .next t => decide (tabGet t.ctr.cnt 0 (cMem 3) = 1) | _ => false) = true := by decide

end Sys2Proof.Tests
end

section
/-! The byte layout of requests (02 R42, R44): fields of a byte string, the entries of a request, and the splitting of a ring or datagram
into whole requests. -/

namespace Sys2Proof.Machine

open Sys2Proof

/-! ### Fields of a byte string -/

@[simp] theorem leBytes_length (w n : Nat) : (leBytes w n).length = w := by
  induction w generalizing n with
  | zero => rfl
  | succ w ih => simp [leBytes, ih]

/-- A byte past the front part of a byte string is one of the rest. -/
theorem byteAt_append_right (p q : List Byte) (i : Nat) : byteAt (p ++ q) (p.length + i) = byteAt q i := by
  rw [byteAt, byteAt, List.getD_eq_getElem?_getD, List.getD_eq_getElem?_getD,
    List.getElem?_append_right (Nat.le_add_right ..), Nat.add_sub_cancel_left]

/-- A byte of the front part of a byte string does not depend on the rest. -/
theorem byteAt_append_left (p q : List Byte) {i : Nat} (h : i < p.length) : byteAt (p ++ q) i = byteAt p i := by
  rw [byteAt, byteAt, List.getD_eq_getElem?_getD, List.getD_eq_getElem?_getD, List.getElem?_append_left h]

/-- A field past the front part of a byte string is one of the rest. -/
theorem leAt_append_right (p q : List Byte) (i w : Nat) : leAt (p ++ q) (p.length + i) w = leAt q i w := by
  induction w generalizing i with
  | zero => rfl
  | succ w ih => rw [leAt, leAt, byteAt_append_right, Nat.add_assoc, ih]

/-- A field of the front part of a byte string does not depend on the rest. -/
theorem leAt_append_left (p q : List Byte) {i w : Nat} (h : i + w ≤ p.length) : leAt (p ++ q) i w = leAt p i w := by
  induction w generalizing i with
  | zero => rfl
  | succ w ih => rw [leAt, leAt, byteAt_append_left p q (by omega), ih (by omega)]

/-- A value that fits its width is read back from its little-endian bytes (00 R8). -/
theorem leAt_leBytes {w n : Nat} (h : n < 256 ^ w) : leAt (leBytes w n) 0 w = n := by
  induction w generalizing n with
  | zero => exact (Nat.lt_one_iff.1 h).symm
  | succ w ih =>
    have hq : n / 256 < 256 ^ w := Nat.div_lt_of_lt_mul (by rwa [Nat.pow_succ'] at h)
    have hrest : leAt (leBytes (w + 1) n) 1 w = n / 256 :=
      (leAt_append_right [BitVec.ofNat 8 n] (leBytes w (n / 256)) 0 w).trans (ih hq)
    have hbyte : byteAt (leBytes (w + 1) n) 0 = n % 256 := by simp [byteAt, leBytes]
    rw [leAt, hbyte, hrest]
    exact Nat.mod_add_div n 256

/-! ### The entries of a request -/

/-- The first 16 bytes of a request: OPCODE, CONT, a reserved byte, TAG, eight reserved bytes (02 R42). -/
def requestHeader (r : Request) (b3 : Byte) (b8 : List Byte) : List Byte :=
  leBytes 2 r.opcode ++ [BitVec.ofNat 8 r.cont, b3] ++ leBytes 4 r.tag ++ b8

/-- The continuation entries of a request: its payload from byte 48 on, 64 bytes each (02 R42). -/
def continuations (r : Request) : List (List Byte) :=
  (List.range r.cont).map fun i => (r.payload.drop (48 + 64 * i)).take 64

/-- The first entry is the header and the first 48 bytes of the payload. -/
theorem entriesOf_eq (r : Request) (b3 : Byte) (b8 : List Byte) :
    entriesOf r b3 b8 = (requestHeader r b3 b8 ++ r.payload.take 48) :: continuations r := rfl

@[simp] theorem continuations_length (r : Request) : (continuations r).length = r.cont := by simp [continuations]

@[simp] theorem entriesOf_length (r : Request) (b3 : Byte) (b8 : List Byte) : (entriesOf r b3 b8).length = 1 + r.cont := by
  simp [entriesOf_eq, Nat.add_comm]

/-- Pieces of `m` bytes, one after another, make the bytes they are cut from. -/
theorem flatten_pieces (p : List Byte) (m n : Nat) :
    ((List.range n).map fun i => (p.drop (m * i)).take m).flatten = p.take (m * n) := by
  induction n with
  | zero => simp
  | succ n ih =>
    rw [List.range_succ, List.map_append, List.flatten_append, ih, Nat.mul_succ, List.take_add]
    simp

variable {r : Request} {b3 : Byte} {b8 : List Byte}

theorem requestHeader_length (h8 : b8.length = 8) : (requestHeader r b3 b8).length = 16 := by
  simp [requestHeader, h8]

/-- OPCODE stands at byte 0. -/
theorem requestHeader_opcode (h : r.opcode < 65536) : leAt (requestHeader r b3 b8) 0 2 = r.opcode := by
  rw [requestHeader, List.append_assoc, List.append_assoc, leAt_append_left _ _ (by simp)]
  exact leAt_leBytes h

/-- CONT stands at byte 2. -/
theorem requestHeader_cont (h : r.cont ≤ 15) : byteAt (requestHeader r b3 b8) 2 = r.cont := by
  have hbyte : byteAt (requestHeader r b3 b8) 2 = r.cont % 256 := by simp [byteAt, requestHeader, leBytes]
  rw [hbyte]
  omega

/-- CONT of the first entry is that of the request. -/
theorem firstEntry_cont (q : List Byte) (h : r.cont ≤ 15) (h8 : b8.length = 8) :
    byteAt (requestHeader r b3 b8 ++ q) 2 = r.cont := by
  rw [byteAt_append_left _ _ (by rw [requestHeader_length h8]; omega), requestHeader_cont h]

/-- TAG stands at byte 4. -/
theorem requestHeader_tag (h : r.tag < 4294967296) : leAt (requestHeader r b3 b8) 4 4 = r.tag := by
  have hfront : (leBytes 2 r.opcode ++ [BitVec.ofNat 8 r.cont, b3]).length = 4 := by simp
  have hskip := leAt_append_right (leBytes 2 r.opcode ++ [BitVec.ofNat 8 r.cont, b3]) (leBytes 4 r.tag ++ b8) 0 4
  have hval : leAt (leBytes 4 r.tag ++ b8) 0 4 = r.tag := (leAt_append_left _ _ (by simp)).trans (leAt_leBytes h)
  rw [hfront, hval] at hskip
  rwa [requestHeader, List.append_assoc]

/-- The continuation entries hold what the first entry leaves of the payload. -/
theorem continuations_flatten (h : Laid r) : (continuations r).flatten = r.payload.drop 48 := by
  have hpieces := flatten_pieces (r.payload.drop 48) 64 r.cont
  simp only [List.drop_drop] at hpieces
  rw [continuations, hpieces, List.take_of_length_le (by simp [h.payload])]

/-- The entries in a row are the header and the payload. -/
theorem entriesOf_flatten (h : Laid r) : (entriesOf r b3 b8).flatten = requestHeader r b3 b8 ++ r.payload := by
  rw [entriesOf_eq, List.flatten_cons, continuations_flatten h, List.append_assoc, List.take_append_drop]

/-- Each entry is 64 bytes long (02 R42). -/
theorem entry_length (h : Laid r) (h8 : b8.length = 8) : ∀ e ∈ entriesOf r b3 b8, e.length = 64 := by
  have hlen := h.payload
  intro e he
  rw [entriesOf_eq] at he
  rcases List.mem_cons.1 he with rfl | he
  · rw [List.length_append, requestHeader_length h8, List.length_take]
    omega
  · obtain ⟨i, hi, rfl⟩ := List.mem_map.1 he
    have hi := List.mem_range.1 hi
    rw [List.length_take, List.length_drop]
    omega

/-- What is read from the entries is the request; its admission number, the model's own, is not in them. -/
theorem readRequest_entriesOf (h : Laid r) (h8 : b8.length = 8) :
    readRequest r.queue r.part r.port r.sport r.src (entriesOf r b3 b8) = { r with serial := 0 } := by
  have hh : (requestHeader r b3 b8).length = 16 := requestHeader_length h8
  have hop : leAt (requestHeader r b3 b8 ++ r.payload.take 48) 0 2 = r.opcode := by
    rw [leAt_append_left _ _ (by omega), requestHeader_opcode h.opcode]
  have hcont : byteAt (requestHeader r b3 b8 ++ r.payload.take 48) 2 = r.cont := firstEntry_cont _ h.cont h8
  have htag : leAt (requestHeader r b3 b8 ++ r.payload.take 48) 4 4 = r.tag := by
    rw [leAt_append_left _ _ (by omega), requestHeader_tag h.tag]
  have hpay : (requestHeader r b3 b8 ++ r.payload.take 48).drop 16 ++ (continuations r).flatten = r.payload := by
    rw [List.drop_left' hh, continuations_flatten h, List.take_append_drop]
  simp [readRequest, entriesOf_eq, hop, hcont, htag, hpay]

/-- Payload offsets count from the start of the first entry (02 R42). -/
theorem rq_eq_leAt_flatten (h : Laid r) (h8 : b8.length = 8) {off w : Nat} (hoff : 16 ≤ off) :
    rq r off w = leAt (entriesOf r b3 b8).flatten off w := by
  obtain ⟨i, rfl⟩ := Nat.exists_eq_add_of_le hoff
  have hskip := leAt_append_right (requestHeader r b3 b8) r.payload i w
  rw [requestHeader_length h8] at hskip
  rw [entriesOf_flatten h, hskip, rq, Nat.add_sub_cancel_left]

/-! ### Splitting into whole requests -/

/-- No entry is left: nothing more is split off. -/
@[simp] theorem splitRequests_nil (strict : Bool) (k : Nat) : splitRequests strict k [] = some [] := by
  cases k <;> rfl

/-- An entry with a CONT above 15 stops a datagram and is one entry of a ring (02 R44). -/
theorem splitRequests_malformed {e : List Byte} (rest : List (List Byte)) (k : Nat) (hc : 15 < byteAt e 2) :
    splitRequests true (k + 1) (e :: rest) = none ∧
    splitRequests false (k + 1) (e :: rest) = (splitRequests false k rest).map fun l => [e] :: l := by
  simp [splitRequests, hc]

/-- A whole group of entries, as long as the CONT of its first entry says, is split off. -/
theorem splitRequests_group {e : List Byte} {es : List (List Byte)} (strict : Bool) (k : Nat) (rest : List (List Byte))
    (hc : byteAt e 2 ≤ 15) (hes : es.length = byteAt e 2) :
    splitRequests strict (k + 1) (e :: es ++ rest) = (splitRequests strict k rest).map fun l => (e :: es) :: l := by
  have hn : (if 15 < byteAt e 2 then 1 else 1 + byteAt e 2) = (e :: es).length := by
    rw [if_neg (by omega), List.length_cons, hes, Nat.add_comm]
  have hstrict : (strict && decide (15 < byteAt e 2)) = false := by simp [hc]
  have hroom : ¬ (es ++ rest).length + 1 < (e :: es).length := by simp
  rw [List.cons_append, splitRequests]
  simp only [hn, hstrict, if_neg hroom, ← List.cons_append, List.drop_left, List.take_left]
  rfl

/-- A laid-out request is split off whole from the entries that begin with it. -/
theorem splitRequests_entriesOf (strict : Bool) (k : Nat) (rest : List (List Byte)) (h : Laid r) (h8 : b8.length = 8) :
    splitRequests strict (k + 1) (entriesOf r b3 b8 ++ rest) =
      (splitRequests strict k rest).map fun l => entriesOf r b3 b8 :: l := by
  have hcont : byteAt (requestHeader r b3 b8 ++ r.payload.take 48) 2 = r.cont := firstEntry_cont _ h.cont h8
  rw [entriesOf_eq]
  exact splitRequests_group strict k rest (hcont ▸ h.cont) (by rw [continuations_length, hcont])

/-- Requests written one after another split into exactly their entries (02 R44, R58). -/
theorem splitRequests_flatten (strict : Bool) (l : List (Request × Byte × List Byte)) (k : Nat)
    (hl : ∀ x ∈ l, Laid x.1 ∧ x.2.2.length = 8) (hk : l.length ≤ k) :
    splitRequests strict k (l.map fun x => entriesOf x.1 x.2.1 x.2.2).flatten =
      some (l.map fun x => entriesOf x.1 x.2.1 x.2.2) := by
  induction l generalizing k with
  | nil => simp
  | cons x l ih =>
    obtain ⟨hx, h8⟩ := hl x List.mem_cons_self
    obtain ⟨j, rfl⟩ : ∃ j, k = j + 1 := Nat.exists_eq_succ_of_ne_zero (by rw [List.length_cons] at hk; omega)
    have hrest := ih j (fun y hy => hl y (List.mem_cons_of_mem _ hy)) (Nat.le_of_succ_le_succ hk)
    rw [List.map_cons, List.flatten_cons, splitRequests_entriesOf strict j _ hx h8, hrest, Option.map_some]

/-- Settles O60: the header fields are read back from their bytes, the pieces of the payload make the payload again, and
splitting goes by induction over the requests. -/
theorem requestEntriesReadBack : Obligations.RequestEntriesReadBack :=
  ⟨fun r b3 b8 h h8 => ⟨entriesOf_length r b3 b8, entry_length h h8, readRequest_entriesOf h h8,
      fun _ _ hoff => rq_eq_leAt_flatten h h8 hoff⟩,
    splitRequests_flatten,
    fun _ rest k hc => splitRequests_malformed rest k hc⟩

end Sys2Proof.Machine
end

section
/-! The queries of the system and partition classes (02 R56, R63, R66, R548, 14 R411): served with the right, they complete OK. -/

namespace Sys2Proof.Machine

open Sys2Proof

variable {r : Request} {s : State}

/-- What serving a request without fields to check or clamp answers to a requester that holds the right (02 R46). -/
theorem serve_query {op : Nat} (run : Request → State → State) (h : hasRight s r.part op = true) :
    serve s r op true none [] run = run (withOp r op) s := serve_runs_nil h rfl rfl

/-- The one checked field of PART_INFO passes for a partition that exists and that the requester may name (02 R548). -/
theorem firstBad_partInfo (hp : tabHas s.host.parts (partNamed r) = true)
    (hm : partNamed r = r.part ∨ (s.part r.part).supervisor = true) :
    firstBad [(16, tabHas s.host.parts (partNamed r) && (partNamed r == r.part || (s.part r.part).supervisor))] = none :=
  firstBad_none fun x hx => by
    rw [List.mem_singleton.1 hx]
    simpa [hp] using hm

/-- Settles O12: with its right held and no field that fails or is clamped, each query runs on the state as it is, and its
meaning there is the completion with the fields of its layout. -/
theorem systemQueriesAnswerTheirFields : Obligations.SystemQueriesAnswerTheirFields := by
  intro r s
  refine ⟨fun hident => ?_, fun hstate => ?_, fun htime => ?_, fun hinfo hp hm => ?_, fun hstats => ?_⟩
  · exact congrArg Host.Outcome.next (serve_query _ hident)
  · exact congrArg Host.Outcome.next (serve_query _ hstate)
  · exact congrArg Host.Outcome.next (serve_query _ htime)
  · exact congrArg Host.Outcome.next (serve_runs_nil hinfo rfl (firstBad_partInfo hp hm))
  · exact congrArg Host.Outcome.next (serve_query _ hstats)

end Sys2Proof.Machine
end

section
/-! Power states (16 R438 to R456, 12 R362): what the operations of power do to the power part, and which other parts they touch. -/

namespace Sys2Proof.Machine

open Sys2Proof

variable {r : Request} {s : State}

/-! ### What the shared operations leave of the power part -/

@[simp] theorem ok_pow {fields : List (Nat × Nat × Int)} {detail cont : Nat} : (ok s r fields detail cont).pow = s.pow :=
  (ok_frame (x := among [.host, .ctr]) SameBut.rfl' rfl rfl).2 .pow rfl

@[simp] theorem levelDone_pow {cycle : Nat} : (levelDone s r cycle).pow = s.pow := ok_pow

@[simp] theorem timedOut_pow : (timedOut s r).pow = s.pow :=
  (timedOut_frame (x := among [.host, .ctr]) SameBut.rfl' rfl rfl).2 .pow rfl

@[simp] theorem powEvent_pow {code subject : Nat} {value : Int} : (powEvent s code subject value).pow = s.pow :=
  (powEvent_frame (x := among [.ctr, .cairn]) SameBut.rfl' rfl rfl).2 .pow rfl

@[simp] theorem powEvent_sys {code subject : Nat} {value : Int} : (powEvent s code subject value).sys = s.sys :=
  (powEvent_frame (x := among [.ctr, .cairn]) SameBut.rfl' rfl rfl).2 .sys rfl

@[simp] theorem bump_pow {i n : Nat} : (bump s i n).pow = s.pow := rfl

/-- A refusal of a power request is counted under its refuser, which LASTREF then shows (16 R452). -/
@[simp] theorem powRefuse_pow {code event subject : Nat} : (powRefuse s code event subject).pow =
    { s.pow with refuse := tabMod s.pow.refuse 0 code fun v => satAdd max32 v 1, lastRef := code } := by
  simp [powRefuse]

/-- A refusal touches the power part, a counter and the recorder. -/
theorem powRefuse_sameBut {code event subject : Nat} :
    SameBut (among [.pow, .ctr, .cairn]) s (powRefuse s code event subject) :=
  powRefuse_frame SameBut.rfl' rfl rfl rfl

/-! ### Level requests (16 R439, R440, R453) -/

@[simp] theorem rq_withOp {op off w : Nat} : rq (withOp r op) off w = rq r off w := rfl

/-- The baskets that byte 16 of a level request names. -/
abbrev namedBaskets (r : Request) : List Nat := named (BitVec.ofNat 8 (rq r 16 1))

/-- With a mask and a level in range, a level request waits behind the change in progress or is executed. -/
theorem execPowerLevelRequest_eq (h : hasRight s r.part 0x6010 = true) (hm : rq r 16 1 ≠ 0) (hl : rq r 17 1 ≤ 3) :
    execPowerLevelRequest r s = .next (if s.pow.change.isSome
      then s.onPow fun w => { w with levelQ := w.levelQ ++ [withOp r 0x6010] } else runLevel s (withOp r 0x6010)) :=
  congrArg Host.Outcome.next (serve_runs_nil h rfl (firstBad_none (by simp [hm, hl])))

/-- A STANDBY refuses with "redundancy sync" (16 R439). -/
theorem runLevel_standby (h : s.red.role = .standby) :
    ∃ subject more, runLevel s r = refused (powRefuse s 7 7 subject) r 0 ((17, 1, 7) :: more) := by
  unfold runLevel
  exact ⟨_, _, if_pos h⟩

section
variable (hrole : s.red.role ≠ .standby) (hfree : ∀ b ∈ namedBaskets r, levelRefuser s (rq r 17 1) b = none)
include hfree

/-- Where no named basket has a refuser, the search for one finds none. -/
theorem findSome?_levelRefuser :
    ((namedBaskets r).findSome? fun b => (levelRefuser s (rq r 17 1) b).map fun k => (b, k)) = none :=
  List.findSome?_eq_none_iff.2 fun b hb => by rw [hfree b hb]; rfl

include hrole

/-- A request for the level the named baskets have completes at once. -/
theorem runLevel_same (hsame : ∀ b ∈ namedBaskets r, levelOf s b = rq r 17 1) :
    runLevel s r = levelDone s r s.time.cycle := by
  have hnone : ((namedBaskets r).filter fun b => levelOf s b != rq r 17 1) = [] :=
    List.filter_eq_nil_iff.2 fun b hb => by simp [hsame b hb]
  have hsearch := findSome?_levelRefuser hfree
  simp only [runLevel, if_neg hrole, hsearch, hnone]
  rfl

/-- A request for a level that a named basket has not starts a change, which awaits the rails it raises. -/
theorem runLevel_starts {b : Nat} (hb : b ∈ namedBaskets r) (hother : levelOf s b ≠ rq r 17 1) :
    ∃ c, (runLevel s r).pow.change = some c ∧ c.req = r ∧ c.level = rq r 17 1 ∧ c.changed = false ∧ c.awaiting = c.raised ∧
      (runLevel s r).pow.level = s.pow.level ∧ SameBut (among [.pow]) s (runLevel s r) := by
  have hsome : ¬ ((namedBaskets r).filter fun b => levelOf s b != rq r 17 1).isEmpty = true := fun h =>
    List.filter_eq_nil_iff.1 (List.isEmpty_iff.1 h) b hb (by simp [hother])
  have hsearch := findSome?_levelRefuser hfree
  simp only [runLevel, if_neg hrole, hsearch, if_neg hsome]
  exact ⟨_, rfl, rfl, rfl, rfl, rfl, rfl, State.onPow_frame SameBut.rfl' rfl⟩

end

/-! ### Sleep requests (16 R443, R444, R454) -/

/-- A well-formed request for a basket or Traverse goes to that island. -/
theorem execPowerSleepRequest_island (h : hasRight s r.part 0x6011 = true) (ht : rq r 16 1 ≤ 1) (hi : rq r 17 1 ≤ 7)
    (hst : rq r 18 1 ≤ 2) : execPowerSleepRequest r s =
      .next (sleepIsland s (withOp r 0x6011) (if rq r 16 1 = 0 then rq r 17 1 else 8) (rq r 18 1)) := by
  have h2 : rq r 16 1 ≤ 2 ∧ rq r 16 1 ≠ 2 := by omega
  refine congrArg Host.Outcome.next ((serve_runs_nil h rfl (firstBad_none (by simp [hi, hst, h2]))).trans ?_)
  obtain h0 | h1 : rq r 16 1 = 0 ∨ rq r 16 1 = 1 := by omega
  · simp only [h0]; rfl
  · simp only [h1]; rfl

/-- A well-formed request for S3 goes to the module. -/
theorem execPowerSleepRequest_module (h : hasRight s r.part 0x6011 = true) (ht : rq r 16 1 = 2) (hst : rq r 18 1 = 3) :
    execPowerSleepRequest r s = .next (sleepModule s (withOp r 0x6011)) := by
  refine congrArg Host.Outcome.next ((serve_runs_nil h rfl (firstBad_none (by simp [ht, hst]))).trans ?_)
  simp only [ht]
  rfl

/-- An island that may take another state waits for the release phase. -/
theorem sleepIsland_waits {i st : Nat} (hne : tabGet s.pow.sleep 0 i ≠ st) (hhalt : i < 8 → basketHalted s i = false)
    (hmay : st = 0 ∨ maySleep s i = true) :
    sleepIsland s r i st = s.onPow fun w => { w with islands := w.islands ++ [(r, i, st)] } := by
  have hh : ¬ (i < 8 ∧ basketHalted s i = true) := fun ⟨hi, hb⟩ => by simp [hhalt hi] at hb
  have hm : ¬ (st ≠ 0 ∧ ¬ maySleep s i = true) := fun ⟨h0, hb⟩ => hb (hmay.resolve_left h0)
  rw [sleepIsland, if_neg hne, if_neg hh, if_neg hm]

/-- Stage 1 changes the power part by its entry alone (16 R445). -/
theorem s3Stage1_pow {flags : Nat} : (s3Stage1 s flags).pow =
    { s.pow with mode := 1, stage := 1, flags := BitVec.ofNat 8 flags, latched := none, asleep := false } :=
  (flushAll_frame (x := among [.cairn, .field, .can, .nor])
    (spillAll_frame (storeAll_frame SameBut.rfl' rfl rfl rfl) rfl) rfl).2 .pow rfl

/-- With no refuser, the entry into S3 begins. -/
theorem sleepModule_enters (hmode : s.pow.mode = 0) (hok : s3Refuser s (bitAt (rq r 19 1) 0) = none) :
    sleepModule s r = s3Stage1 (ok s r) (rq r 19 1) := by
  simp [sleepModule, hmode, hok]

/-- With a refuser, the entry is refused with its code. -/
theorem sleepModule_refuses {k : Nat} (hmode : s.pow.mode = 0) (hno : s3Refuser s (bitAt (rq r 19 1) 0) = some k) :
    sleepModule s r = refused (powRefuse s k 3 0xFF) r 0 [(17, 1, (k : Int))] := by
  simp [sleepModule, hmode, hno, powRefused]

/-! ### Rails (16 R440, R441) -/

section
variable {c : LevelChange} {b : Nat} (hc : s.pow.change = some c) (hb : c.awaiting.getLsbD b = true)

/-- With no request waiting, the end of a change leaves none in progress. -/
theorem endChange_of_noneWaits (hq : s.pow.levelQ = []) : endChange s = s.onPow fun w => { w with change := none } := by
  rw [endChange, hq]
  rfl

include hc hb

/-- An acknowledgement that leaves more to wait for. -/
theorem ackRail_waits (h : ¬ (c.changed = true ∧ c.awaiting &&& ~~~ BitVec.ofNat 8 (2 ^ b) = 0)) : ackRail s b =
    s.onPow fun w => { w with change := some { c with awaiting := c.awaiting &&& ~~~ BitVec.ofNat 8 (2 ^ b) } } := by
  simp only [ackRail, hc, hb, if_neg h]
  rfl

/-- The last acknowledgement after the dividers have changed: the request completes and the change is over. -/
theorem ackRail_ends (h : c.changed = true) (h0 : c.awaiting &&& ~~~ BitVec.ofNat 8 (2 ^ b) = 0) : ackRail s b =
    endChange (levelDone (s.onPow fun w => { w with change := some { c with awaiting := 0 } }) c.req c.cycle) := by
  simp only [ackRail, hc, hb, h, h0]
  rfl

end

/-- A PMBus timeout of a basket latches its fault (16 R441). -/
theorem pmbFault_pow {b : Nat} (hb : b < 8) :
    ∃ m : BitVec 8, m.getLsbD b = true ∧ (pmbFault s b).pow = { s.pow with pmbFault := m } := by
  unfold pmbFault
  simp only [if_pos hb]
  split
  case isTrue h => exact ⟨_, h, rfl⟩
  case isFalse =>
    refine ⟨_, ?_, powEvent_pow⟩
    rw [BitVec.getLsbD_or, BitVec.getLsbD_ofNat, Nat.testBit_two_pow_self]
    simp [hb]

/-- On the return a rail that is not acknowledged leaves its basket at P3 (16 R449). -/
theorem railTimeout_returning {b : Nat} (hmode : s.pow.mode = 2) (hb : b < 8) :
    railTimeout s b = (pmbFault s b).onPow fun w => { w with level := tabSet w.level b 3 } := by
  simp only [railTimeout, if_pos hmode, if_pos hb]

section
variable {c : LevelChange} {b : Nat} (hmode : s.pow.mode = 0) (hc : s.pow.change = some c)
  (hb : c.awaiting.getLsbD b = true)
include hmode hc hb

/-- A raise that is not acknowledged is given up: the request ends in TIMEOUT. -/
theorem railTimeout_raise (h : c.changed = false) : railTimeout s b = endChange (timedOut ((pmbFault s b).onPow fun w =>
    { w with rail := (named c.raised).foldl (fun t k => tabSet t k (levelOf s k)) w.rail }) c.req) := by
  simp [railTimeout, hmode, hc, hb, h]

/-- A lowered rail that is not acknowledged is written once more. -/
theorem railTimeout_lowerAgain (h : c.changed = true) (ha : c.again.getLsbD b = false) : railTimeout s b =
    (pmbFault s b).onPow fun w => { w with change := some { c with again := c.again ||| BitVec.ofNat 8 (2 ^ b) } } := by
  simp [railTimeout, hmode, hc, hb, h, ha]

end

/-! ### The stages into S3 (16 R444 to R446) -/

/-- An INTRUSIVE session refuses S3 (16 R444, code 06h). -/
theorem notIntrusive_of_s3Refuser {linkOk : Bool} (h : s3Refuser s linkOk = none) : s.dbg.level ≠ .intrusive := by
  have hall := List.find?_eq_none.1 (Option.map_eq_none_iff.1 h)
  have hdbg := hall (6, s.dbg.level == .intrusive) (by simp [refuserList])
  simpa using hdbg

/-- The end of a session that is not INTRUSIVE leaves power, Creel, Ethernet and the supply as they are (18 R491). -/
theorem endSession_notIntrusive {why : Nat} (h : s.dbg.level ≠ .intrusive) :
    (endSession s why).pow = s.pow ∧ (endSession s why).sys.creel = s.sys.creel ∧
      (endSession s why).sys.ethOn = s.sys.ethOn ∧ (endSession s why).supply = s.supply := by
  have hevent : SameBut (among [.ctr, .cairn]) s (dbgEvent s 2 s.dbg.holder why) := dbgEvent_frame SameBut.rfl' rfl rfl
  have hdbg : (dbgEvent s 2 s.dbg.holder why).dbg = s.dbg := hevent.2 .dbg rfl
  have hsys : (dbgEvent s 2 s.dbg.holder why).sys = s.sys := hevent.2 .sys rfl
  unfold endSession
  split
  case isTrue => exact ⟨rfl, rfl, rfl, rfl⟩
  case isFalse =>
    simp only [if_neg fun hi : s.dbg.level = .intrusive ∧ s.dbg.safetyHalted = true => h hi.1, hdbg, if_neg h]
    exact ⟨hevent.2 .pow rfl, by simp [hsys], by simp [hsys], hevent.2 .supply rfl⟩

/-- Stage 2 closes Creel, Ethernet and the storage supply (16 R445). -/
theorem s3Stage2_spec (h : s.dbg.level ≠ .intrusive) : (s3Stage2 s).pow = { s.pow with stage := 2 } ∧
    (s3Stage2 s).sys.creel = false ∧ (s3Stage2 s).sys.ethOn = false ∧ (s3Stage2 s).supply.storOk = false := by
  have hquiet : SameBut (among [.can, .cairn]) (s.onPow fun w => { w with stage := 2 })
      (canSleep (drivesOff (s.onPow fun w => { w with stage := 2 }))) := canSleep_frame (drivesOff_frame SameBut.rfl' rfl) rfl
  unfold s3Stage2
  generalize canSleep (drivesOff (s.onPow fun w => { w with stage := 2 })) = u at hquiet
  have hlevel : u.dbg.level ≠ .intrusive := fun hi => h ((congrArg DbgSt.level (hquiet.2 .dbg rfl)).symm.trans hi)
  obtain ⟨hkeep, hcreel, heth, hsupply⟩ := endSession_notIntrusive (why := 3) (s := (u.onSys fun y =>
    { y with creel := false, ethOn := false }).onSupply fun y => { y with storOk := false }) hlevel
  exact ⟨hkeep.trans (hquiet.2 .pow rfl), hcreel, heth, congrArg SupplySt.storOk hsupply⟩

/-- Stage 3: the safety island announces sleep, side links are dark, each ring sends SLEEP (16 R445). -/
theorem s3Stage3_spec : (s3Stage3 s).pow = { s.pow with stage := 3 } ∧ (s3Stage3 s).safety.asleep = true ∧
    (∀ p ∈ (s3Stage3 s).links, p.2.up = false) ∧ ∀ p ∈ (s3Stage3 s).rings, p.2.state ≠ .off → p.2.sleepN = 8 := by
  refine ⟨rfl, rfl, fun p hp => ?_, fun p hp hon => ?_⟩
  · obtain ⟨q, -, rfl⟩ := List.mem_map.1 hp
    rfl
  · obtain ⟨q, -, rfl⟩ := List.mem_map.1 hp
    split at hon
    case isTrue hoff => exact absurd hoff hon
    case isFalse hoff => rw [if_neg hoff]

/-- Stage 4: every island is in S2, the time base stands, the PCIe link is down, each ring sleeps (16 R445). -/
theorem s3Stage4_spec :
    (s3Stage4 s).pow = { s.pow with stage := 4, sleep := (List.range 9).map fun i => (i, 2) } ∧
    (s3Stage4 s).time.running = false ∧ (s3Stage4 s).sys.timeBase = false ∧ (s3Stage4 s).sys.pcieUp = false ∧
    ∀ p ∈ (s3Stage4 s).rings, p.2.state = .off ∨ p.2.state = .sleeping := by
  refine ⟨rfl, rfl, rfl, rfl, fun p hp => ?_⟩
  obtain ⟨q, -, rfl⟩ := List.mem_map.1 hp
  split
  case isTrue hoff => exact .inl hoff
  case isFalse => exact .inr rfl

/-- The end of stage 4 is S3, or the return from it where a wake event is latched (16 R446). -/
theorem enterS3_spec (hmode : s.pow.mode = 1) : (enterS3 s).pow.entries = satAdd max32 s.pow.entries 1 ∧
    (s.pow.latched = none → (enterS3 s).pow.asleep = true ∧ (enterS3 s).pow.mode = 1) ∧
    (s.pow.latched.isSome = true → (enterS3 s).pow.mode = 2 ∧ (enterS3 s).pow.stage = 0) ∧
    SameBut (among [.pow, .ctr]) s (enterS3 s) := by
  refine ⟨?_, fun h => ?_, fun h => ?_, bump_frame (State.onPow_frame SameBut.rfl' rfl) rfl⟩
  · simp only [enterS3, bump_pow, State.onPow_pow]
    split <;> rfl
  · simp [enterS3, h, hmode]
  · simp [enterS3, h]

/-- The power part after an abort without a refuser (16 R446, R452). -/
theorem abortS3_pow {point cause : Nat} : (abortS3 s point cause none).pow = { s.pow with
    mode := 0, stage := 0, latched := none, held := [], lastAbort := point, lastRef := cause
    aborts := satAdd max32 s.pow.aborts 1, abort := tabMod s.pow.abort 0 cause fun v => satAdd max32 v 1 } := by
  have hundo (u : State) : (if 2 ≤ point then undoStage2 u else u).pow = u.pow := by split <;> rfl
  have hwake (u : State) : (if point = 3 then wakeRings u else u).pow = u.pow := by split <;> rfl
  simp [abortS3, hundo, hwake]

/-- A latched cause abandons the entry at the end of stages 1 to 3 (16 R446). -/
theorem endStage_aborts {c : Nat} {f : Bool} (hl : s.pow.latched = some c) (h1 : 1 ≤ s.pow.stage) (h3 : s.pow.stage ≤ 3) :
    endStage s f = abortS3 s s.pow.stage c none := by
  obtain h | h | h : s.pow.stage = 1 ∨ s.pow.stage = 2 ∨ s.pow.stage = 3 := by omega
  all_goals simp [endStage, h, hl]

/-! With no wake event latched and no refuser, the next stage begins. -/

section
variable {f : Bool} (hl : s.pow.latched = none)
include hl

theorem endStage_one (h : s.pow.stage = 1) (hok : s3Refuser s (s.pow.flags.getLsbD 0) = none) :
    endStage s true = s3Stage2 s := by
  simp only [endStage, h, hl, hok]
  rfl

theorem endStage_two (h : s.pow.stage = 2) (hok : s3Refuser s (s.pow.flags.getLsbD 0) = none) :
    endStage s f = s3Stage3 s := by
  simp only [endStage, h, hl, hok]

theorem endStage_three (h : s.pow.stage = 3) : endStage s f = s3Stage4 s := by
  simp [endStage, h, hl]

end

theorem endStage_four {f : Bool} (h : s.pow.stage = 4) : endStage s f = enterS3 s := by
  simp [endStage, h]

/-! ### Wake events and the return (16 R446, R448, R449) -/

/-- A wake event while asleep starts the return; during the entry it is latched, the first cause kept. It touches the power
part alone. -/
theorem s3Wake_spec {src cause : Nat} (h : s.pow.mode = 1) :
    (s.pow.asleep = true → (s3Wake s src cause).pow =
      { s.pow with mode := 2, stage := 0, asleep := false, wakeSrc := src, latched := none }) ∧
    (s.pow.asleep = false → (s3Wake s src cause).pow =
      { s.pow with latched := some (s.pow.latched.getD cause), wakeSrc := src }) ∧
    SameBut (among [.pow, .can]) s (s3Wake s src cause) ∧ (s3Wake s src cause).can = s.can :=
  ⟨fun ha => by simp [s3Wake, h, ha], fun ha => by simp [s3Wake, h, ha], s3Wake_frame SameBut.rfl' rfl,
    (s3Wake_frame (x := among [.pow]) SameBut.rfl' rfl).2 .can rfl⟩

theorem ch_onCh_same {n : Nat} {f : CanChan → CanChan} : (s.onCh n f).ch n = f (s.ch n) :=
  tabGet_tabMod.trans (if_pos rfl)

theorem ch_onCh_ne {n j : Nat} {f : CanChan → CanChan} (h : j ≠ n) : (s.onCh n f).ch j = s.ch j :=
  tabGet_tabMod.trans (if_neg h.symm)

/-- Creel is open again: STAGE 5, and the return is reported; nothing was held back (16 R449). -/
theorem execS3ReturnCreelOpen_eq {us : Nat} (hmode : s.pow.mode = 2) (hheld : s.pow.held = []) :
    ∃ ms, execS3ReturnCreelOpen us s = .next (powEvent (((setStage (draw s).2 5 ms).onSys fun y =>
      { y with creel := true, ethOn := true }).onPow fun w => { w with mode := 0, returnUs := min us max32, held := [] })
      5 0xFF (min us max32)) := by
  refine ⟨Config.estimate s.free, congrArg Host.Outcome.next ((if_neg fun h => h hmode).trans ?_)⟩
  change (powEvent _ 5 0xFF _).each s.pow.held raise = _
  rw [hheld]
  rfl

/-- Settles O56: each command is one operation of power, and what that operation does is its lemma above. -/
theorem powerLevelsAndSleepFollowTheirStages : Obligations.PowerLevelsAndSleepFollowTheirStages := by
  intro r s
  refine ⟨fun hright => ?status, fun hright hmask hlevel => ?level, fun hright => ?sleep, fun c b hc hb => ?rails,
    fun b hmode hb => ?returningRail, fun hmode hawake => ?stages, fun src k w hmode hsrc hkw => ?wake, fun hmode => ?back⟩
  case status => exact congrArg Host.Outcome.next (serve_query _ hright)
  case level =>
    have hexec := execPowerLevelRequest_eq hright hmask hlevel
    refine ⟨fun hbusy => ?_, fun hidle hrole => ?_, fun hidle hrole hfree => ⟨fun hsame => ?_, fun b hb hother => ?_⟩⟩
    · rw [if_pos hbusy] at hexec
      exact ⟨_, hexec, rfl, State.onPow_frame SameBut.rfl' rfl⟩
    all_goals rw [hidle] at hexec
    · obtain ⟨subject, more, hrefuse⟩ := runLevel_standby (r := withOp r 0x6010) hrole
      exact ⟨_, more, hexec.trans (congrArg _ hrefuse), by simp, by simp, powRefuse_sameBut⟩
    · exact hexec.trans (congrArg _ (runLevel_same hrole hfree hsame))
    · obtain ⟨c, hstarts⟩ := runLevel_starts (r := withOp r 0x6010) hrole hfree hb hother
      exact ⟨_, c, hexec, hstarts⟩
  case sleep =>
    refine ⟨fun ht hi hst i hisl => ?_, fun ht hst hmode => ?_⟩
    · have hexec := execPowerSleepRequest_island hright ht hi hst
      rw [← hisl] at hexec
      refine ⟨fun hsame => ?_, fun hne hhalt hmay => ?_⟩
      · exact hexec.trans (congrArg _ (if_pos hsame))
      · exact ⟨_, hexec.trans (congrArg _ (sleepIsland_waits hne hhalt hmay)), rfl, State.onPow_frame SameBut.rfl' rfl⟩
    · have hexec := execPowerSleepRequest_module hright ht hst
      refine ⟨fun hok => ?_, fun k hno => ?_⟩
      · exact ⟨_, hexec.trans (congrArg _ (sleepModule_enters hmode hok)), by rw [s3Stage1_pow, ok_pow]; rfl⟩
      · exact ⟨_, hexec.trans (congrArg _ (sleepModule_refuses hmode hno)), by simp [hmode], by simp, powRefuse_sameBut⟩
  case rails =>
    refine ⟨fun hmore => ?_, fun hchanged h0 hq => ?_, fun hmode hraise hq hb8 => ?_, fun hmode hchanged hagain hb8 => ?_⟩
    · exact ⟨_, congrArg Host.Outcome.next (ackRail_waits hc hb hmore), rfl, State.onPow_frame SameBut.rfl' rfl⟩
    · have hend := ackRail_ends hc hb hchanged h0
      rw [endChange_of_noneWaits (by simpa using hq)] at hend
      exact ⟨_, congrArg Host.Outcome.next hend, by simp,
        State.onPow_frame (levelDone_frame (State.onPow_frame SameBut.rfl' rfl) rfl rfl) rfl⟩
    · obtain ⟨m, hm, hfault⟩ := pmbFault_pow (s := s) hb8
      have hend := railTimeout_raise hmode hc hb hraise
      rw [endChange_of_noneWaits (by simpa [hfault] using hq)] at hend
      exact ⟨_, congrArg Host.Outcome.next hend, rfl, by simp [hfault], by simp [hfault, hm],
        State.onPow_frame (timedOut_frame (State.onPow_frame (pmbFault_frame SameBut.rfl' rfl rfl rfl) rfl) rfl rfl) rfl⟩
    · obtain ⟨m, hm, hfault⟩ := pmbFault_pow (s := s) hb8
      exact ⟨_, congrArg Host.Outcome.next (railTimeout_lowerAgain hmode hc hb hchanged hagain), rfl, by simp [hfault, hm],
        State.onPow_frame (pmbFault_frame SameBut.rfl' rfl rfl rfl) rfl⟩
  case returningRail =>
    obtain ⟨m, hm, hfault⟩ := pmbFault_pow (s := s) hb
    exact ⟨_, congrArg Host.Outcome.next (railTimeout_returning hmode hb), by simp [tabGet_tabSet], by simp [hfault, hm],
      State.onPow_frame (pmbFault_frame SameBut.rfl' rfl rfl rfl) rfl⟩
  case stages =>
    have hexec (f : Bool) : exec (.s3StageEnd f) s = .next (endStage s f) :=
      congrArg Host.Outcome.next (if_pos ⟨hmode, by simp [hawake]⟩)
    refine ⟨fun h hl hok => ?_, fun h hl hok f => ?_, fun h hl f => ?_, fun h f => ?_, fun c f hl h1 h3 => ?_⟩
    · exact ⟨_, (hexec true).trans (congrArg _ (endStage_one hl h hok)), s3Stage2_spec (notIntrusive_of_s3Refuser hok)⟩
    · exact ⟨_, (hexec f).trans (congrArg _ (endStage_two hl h hok)), s3Stage3_spec⟩
    · exact ⟨_, (hexec f).trans (congrArg _ (endStage_three hl h)), s3Stage4_spec⟩
    · exact ⟨_, (hexec f).trans (congrArg _ (endStage_four h)), enterS3_spec hmode⟩
    · exact ⟨_, (hexec f).trans (congrArg _ (endStage_aborts hl h1 h3)), by simp [abortS3_pow]⟩
  case wake =>
    cases src with
    | ring p =>
      obtain ⟨rfl, rfl⟩ := Prod.mk.inj hkw
      exact ⟨_, rfl, s3Wake_spec hmode⟩
    | ethernet p =>
      obtain ⟨rfl, rfl⟩ := Prod.mk.inj hkw
      exact ⟨_, congrArg Host.Outcome.next (if_pos hsrc), s3Wake_spec hmode⟩
    | can ch =>
      obtain ⟨rfl, rfl⟩ := Prod.mk.inj hkw
      obtain ⟨hasleep, hawake, hframe, hcan⟩ :=
        s3Wake_spec (s := s.onCh ch fun x => { x with woken := true }) (src := 3) (cause := 0x12) hmode
      have hch (j : Nat) := congrArg (fun x : CanSt => tabGet x.chans {} j) hcan
      exact ⟨_, congrArg Host.Outcome.next (if_pos hsrc), hasleep, hawake,
        (State.onCan_frame SameBut.rfl' rfl).trans hframe, (hch ch).trans ch_onCh_same,
        fun j hj => (hch j).trans (ch_onCh_ne hj)⟩
  case back =>
    have hreturning : ¬ s.pow.mode ≠ 2 := fun h => h hmode
    refine ⟨congrArg Host.Outcome.next (if_neg hreturning),
      ⟨_, congrArg Host.Outcome.next (if_neg hreturning), rfl, rfl, rfl, rfl, rfl⟩, fun us hheld => ?_⟩
    obtain ⟨ms, hexec⟩ := execS3ReturnCreelOpen_eq (us := us) hmode hheld
    have hpow := congrArg (fun l => { s.pow with mode := 0, returnUs := min us max32, held := l }) hheld.symm
    exact ⟨_, hexec, powEvent_pow.trans hpow, congrArg SysSt.stage powEvent_sys, congrArg SysSt.creel powEvent_sys,
      congrArg SysSt.ethOn powEvent_sys,
      powEvent_frame (State.onPow_frame (State.onSys_frame (setStage_frame (draw_frame_proj SameBut.rfl') rfl) rfl) rfl) rfl rfl⟩

end Sys2Proof.Machine
end

section
/-! The counter window (19 R510, R511): what a read of a CTR.VAL word, of one of its halves and of a port's peak returns, and what it does. -/

namespace Sys2Proof.Machine

open Sys2Proof

variable {s : State} {p j port off v : Nat}

/-! ### The state of a partition and of a port after a read -/

@[simp] theorem State.pstat_onPstat {f : PartSt → PartSt} : (s.onPstat p f).pstat p = f (s.pstat p) :=
  tabGet_tabMod.trans (if_pos rfl)

@[simp] theorem State.port_onCtr_bw {f : PortBw → PortBw} :
    (s.onCtr fun c => { c with bw := tabMod c.bw {} port f }).port port = f (s.port port) :=
  tabGet_tabMod.trans (if_pos rfl)

@[simp] theorem keepRead_readData {x : Nat × State} : (keepRead x).host.readData = BitVec.ofNat 64 x.1 := rfl

@[simp] theorem keepRead_pstat {x : Nat × State} : (keepRead x).pstat p = x.2.pstat p := rfl

@[simp] theorem keepRead_port {x : Nat × State} : (keepRead x).port port = x.2.port port := rfl

/-! ### Reads of the counter window -/

/-- Every offset of the counter window needs the same right (02 R55). -/
theorem canReach_counterWindow {off' : Nat} (h : off / 4096 = 3) (h' : off' / 4096 = 3) : canReach s p off = canReach s p off' := by
  simp only [canReach, windowClass, h, h']

/-- A 32-bit read at an aligned offset reads its word (02 R545). -/
theorem readReg_word (h : off % 4 = 0) : readReg s p off 32 = readWord s p off := by
  simp [readReg, goodAccess, h]

/-! ### CTR.VAL (19 R511) -/

/-- The value of CTR.VAL word `j` in the bank and view that the partition selected (19 R510). -/
abbrev selectedCtr (s : State) (p j : Nat) : Nat := ctrWord s p (s.pstat p).selView (256 * (s.pstat p).selBank + j)

/-- The offset of the low or high half of CTR.VAL word `j` (19 R510). -/
def ctrValOffset (j : Nat) (hi : Bool) : Nat := if hi then 0x3804 + 8 * j else 0x3800 + 8 * j

/-- A half lies past the port registers, and its offset tells its word and which half it is. -/
theorem ctrValOffset_place (hj : j < 256) (hi : Bool) : 0x3800 ≤ ctrValOffset j hi ∧ ctrValOffset j hi < 0x4000 ∧
    (ctrValOffset j hi - 0x3800) / 8 = j ∧ ctrValOffset j hi % 8 = if hi then 4 else 0 := by
  cases hi <;> simp [ctrValOffset] <;> omega

theorem canReach_ctrValOffset (hj : j < 256) (hr : canReach s p 0x3800 = true) (hi : Bool) :
    canReach s p (ctrValOffset j hi) = true := by
  obtain ⟨hfrom, hto, -, -⟩ := ctrValOffset_place hj hi
  exact (canReach_counterWindow (by omega) rfl).trans hr

/-- The low half, and the high half while none is latched, is the current one. -/
theorem counterWord_ctrVal_current {hi : Bool} (hj : j < 256) (h : hi = false ∨ (s.pstat p).latch = none) :
    counterWord s p (ctrValOffset j hi) = half (selectedCtr s p j) hi := by
  obtain ⟨hfrom, hto, hword, hhalf⟩ := ctrValOffset_place hj hi
  rw [counterWord, if_neg (by omega), if_neg (by omega), if_neg (by omega), if_pos ⟨hfrom, hto⟩]
  rcases h with rfl | hl
  · cases (s.pstat p).latch <;> simp [hword, hhalf]
  · cases hi <;> simp [hl, hword, hhalf]

/-- The high half of the word that is latched is the latched one. -/
theorem counterWord_ctrVal_latched (hj : j < 256) (hl : (s.pstat p).latch = some (j, v)) :
    counterWord s p (ctrValOffset j true) = v := by
  obtain ⟨hfrom, hto, hword, hhalf⟩ := ctrValOffset_place hj true
  rw [counterWord, if_neg (by omega), if_neg (by omega), if_neg (by omega), if_pos ⟨hfrom, hto⟩]
  simp [hl, hword, hhalf]

section
variable (hj : j < 256) (hr : canReach s p 0x3800 = true)
include hj hr

/-- A read of the low half returns it and latches the high half. -/
theorem readWord_ctrValLow : readWord s p (ctrValOffset j false) =
    (half (selectedCtr s p j) false, s.onPstat p fun t => { t with latch := some (j, half (selectedCtr s p j) true) }) := by
  obtain ⟨hfrom, hto, hword, hlow⟩ := ctrValOffset_place hj false
  have hpage : ctrValOffset j false / 4096 = 3 := by omega
  have hport : ¬ ctrValOffset j false < 0x3100 + 16 * 17 := by omega
  simp [readWord, canReach_ctrValOffset hj hr, hpage, hport, hfrom, hlow, hword, counterWord_ctrVal_current hj]

/-- A read of the latched high half returns it and consumes the latch. -/
theorem readWord_ctrValHigh_latched (hl : (s.pstat p).latch = some (j, v)) :
    readWord s p (ctrValOffset j true) = (v, s.onPstat p fun t => { t with latch := none }) := by
  obtain ⟨hfrom, hto, hword, hhigh⟩ := ctrValOffset_place hj true
  have hpage : ctrValOffset j true / 4096 = 3 := by omega
  have hport : ¬ ctrValOffset j true < 0x3100 + 16 * 17 := by omega
  simp [readWord, canReach_ctrValOffset hj hr, hpage, hport, hfrom, hhigh, hword, counterWord_ctrVal_latched hj hl, hl]

/-- A read of a high half with none latched returns the current one. -/
theorem readWord_ctrValHigh_unlatched (hl : (s.pstat p).latch = none) :
    readWord s p (ctrValOffset j true) = (half (selectedCtr s p j) true, s) := by
  obtain ⟨hfrom, hto, hword, hhigh⟩ := ctrValOffset_place hj true
  have hpage : ctrValOffset j true / 4096 = 3 := by omega
  have hport : ¬ ctrValOffset j true < 0x3100 + 16 * 17 := by omega
  simp [readWord, canReach_ctrValOffset hj hr, hpage, hport, hfrom, hhigh, counterWord_ctrVal_current hj (.inr hl), hl]

/-- A 64-bit read returns one coherent value and changes nothing. -/
theorem readReg_ctrVal_wide : readReg s p (0x3800 + 8 * j) 64 = (selectedCtr s p j, s) := by
  have hreach : canReach s p (0x3800 + 8 * j) = true := canReach_ctrValOffset hj hr false
  have haligned : goodAccess (0x3800 + 8 * j) 64 = true := by simp [goodAccess, Nat.add_mod]
  have hto : 0x3800 + 8 * j < 0x4000 := by omega
  simp [readReg, haligned, readWide, hto, hreach]

end

theorem exec_ctrValLowRead (hj : j < 256) :
    exec (.ctrValLowRead p j) s = .next (keepRead (readWord s p (ctrValOffset j false))) := by
  change Host.Outcome.next (keepRead (readReg s p (0x3800 + 8 * (j % 256)) 32)) = _
  rw [Nat.mod_eq_of_lt hj, readReg_word (by omega)]
  rfl

theorem exec_ctrValHighRead (hj : j < 256) :
    exec (.ctrValHighRead p j) s = .next (keepRead (readWord s p (ctrValOffset j true))) := by
  change Host.Outcome.next (keepRead (readReg s p (0x3804 + 8 * (j % 256)) 32)) = _
  rw [Nat.mod_eq_of_lt hj, readReg_word (by omega)]
  rfl

/-! ### TXPEAK and RXPEAK (19 R510) -/

/-- The offset of TXPEAK or RXPEAK of a port (19 R510). -/
def peakOffset (port : Nat) (tx : Bool) : Nat := if tx then 0x3108 + 16 * port else 0x310C + 16 * port

/-- TXPEAK or RXPEAK of a port's measurements. -/
def PortBw.peak (b : PortBw) (tx : Bool) : Nat := if tx then b.txPeak else b.rxPeak

/-- A port's measurements with TXPEAK or RXPEAK cleared. -/
def PortBw.clearPeak (b : PortBw) (tx : Bool) : PortBw := if tx then { b with txPeak := 0 } else { b with rxPeak := 0 }

/-- A peak has its place among the four words of its port. -/
theorem peakOffset_place (hp : port < 17) (tx : Bool) : 0x3100 ≤ peakOffset port tx ∧ peakOffset port tx < 0x3100 + 16 * 17 ∧
    (peakOffset port tx - 0x3100) / 16 = port ∧ (peakOffset port tx - 0x3100) % 16 / 4 = if tx then 2 else 3 := by
  cases tx <;> simp [peakOffset] <;> omega

/-- A partition that sees the global counters reads the peak. -/
theorem counterWord_peak (hp : port < 17) (hg : (s.part p).global = true) (tx : Bool) :
    counterWord s p (peakOffset port tx) = (s.port port).peak tx := by
  obtain ⟨hfrom, hto, hport, hplace⟩ := peakOffset_place hp tx
  rw [counterWord, if_neg (by omega), if_neg (by omega), if_pos ⟨hfrom, hto⟩]
  cases tx <;> simp [hg, hport, hplace, PortBw.peak]

/-- Its read returns the peak and clears it. -/
theorem readWord_peak (hp : port < 17) (hr : canReach s p 0x3100 = true) (hg : (s.part p).global = true) (tx : Bool) :
    readWord s p (peakOffset port tx) = ((s.port port).peak tx,
      s.onCtr fun c => { c with bw := tabMod c.bw {} port fun b => b.clearPeak tx }) := by
  obtain ⟨hfrom, hto, hport, hplace⟩ := peakOffset_place hp tx
  have hpage : peakOffset port tx / 4096 = 3 := by omega
  have hreach : canReach s p (peakOffset port tx) = true := (canReach_counterWindow hpage rfl).trans hr
  cases tx <;> simp [readWord, hreach, hpage, hfrom, hto, hg, hport, hplace, counterWord_peak hp hg, PortBw.clearPeak]

theorem exec_ctrBwPeakRead (tx : Bool) :
    exec (.ctrBwPeakRead p port tx) s = .next (keepRead (readWord s p (peakOffset port tx))) :=
  congrArg (fun x => Host.Outcome.next (keepRead x)) (readReg_word (by cases tx <;> simp <;> omega))

/-- What the read of a peak leaves: its value in the read data, and the port without it. -/
theorem ctrBwPeakRead_clears (hp : port < 17) (hr : canReach s p 0x3100 = true) (hg : (s.part p).global = true) (tx : Bool) :
    ∃ t, exec (.ctrBwPeakRead p port tx) s = .next t ∧ t.host.readData = BitVec.ofNat 64 ((s.port port).peak tx) ∧
      t.port port = (s.port port).clearPeak tx := by
  refine ⟨_, exec_ctrBwPeakRead tx, ?_, ?_⟩ <;> simp [readWord_peak hp hr hg]

/-- Settles O22: each read is one read of a word of the counter window, whose value and effect the lemmas above give. -/
theorem counterReadsLatchTheHighHalf : Obligations.CounterReadsLatchTheHighHalf := by
  refine ⟨fun s p j hj hr => ⟨⟨_, rfl, ?wide⟩, ⟨_, exec_ctrValLowRead hj, ?low⟩,
    fun v hl => ⟨_, exec_ctrValHighRead hj, ?latched⟩, fun hl => ⟨_, exec_ctrValHighRead hj, ?unlatched⟩⟩,
    fun s p port hp hr hg => ⟨?tx, ?rx⟩⟩
  case wide => rw [keepRead_readData, readReg_ctrVal_wide hj hr]
  case low => simp [readWord_ctrValLow hj hr]
  case latched => simp [readWord_ctrValHigh_latched hj hr hl]
  case unlatched => simp [readWord_ctrValHigh_unlatched hj hr hl]
  case tx =>
    obtain ⟨t, hexec, hdata, hport⟩ := ctrBwPeakRead_clears hp hr hg true
    exact ⟨t, hexec, hdata, by simp [hport, PortBw.clearPeak]⟩
  case rx =>
    obtain ⟨t, hexec, hdata, hport⟩ := ctrBwPeakRead_clears hp hr hg false
    exact ⟨t, hexec, hdata, by simp [hport, PortBw.clearPeak]⟩

end Sys2Proof.Machine
end

section
/-! What one command does to the whole state: the frame and the kept parts of each operation, gathered over the commands, and the
statements that follow for a step. -/

namespace Sys2Proof.Machine

open Sys2Proof

variable {s t : State} {c : Instr}

/-- Each command answers a next state and changes no component outside its list `touched`. -/
theorem exec_frame : (c : Instr) → Ends (SameBut (among (touched c)) s) (exec c s)
  | .powerGood _ _ _ => execPowerGood_frame SameBut.rfl' rfl rfl rfl
  | .mainsInRange _ => execMainsInRange_frame SameBut.rfl' rfl
  | .scarpResetRelease => execScarpResetRelease_frame SameBut.rfl' rfl rfl
  | .controllerResetRelease => execControllerResetRelease_frame SameBut.rfl' rfl
  | .trustedImageVerified _ => execTrustedImageVerified_frame SameBut.rfl' rfl rfl rfl rfl rfl
  | .canStart => execCanStart_frame SameBut.rfl' rfl
  | .appStart _ => execAppStart_frame SameBut.rfl' rfl rfl rfl rfl rfl rfl rfl rfl rfl rfl rfl rfl rfl rfl
  | .rootPortRelease => execRootPortRelease_frame SameBut.rfl' rfl
  | .safetyHandshake _ => execSafetyHandshake_frame SameBut.rfl' rfl rfl rfl rfl rfl
  | .weaverLoad _ => execWeaverLoad_frame SameBut.rfl' rfl rfl rfl rfl rfl rfl rfl rfl
  | .creelOpen => execCreelOpen_frame SameBut.rfl' rfl rfl rfl rfl
  | .motionFloor => execMotionFloor_frame SameBut.rfl' rfl rfl rfl rfl rfl
  | .mrstNAssert => execMrstNAssert_frame SameBut.rfl' rfl rfl rfl rfl rfl rfl rfl rfl rfl rfl rfl rfl rfl rfl rfl rfl rfl rfl rfl rfl
  | .mrstNRelease => execMrstNRelease_frame SameBut.rfl' rfl
  | .summitWatchdog => execSummitWatchdog_frame SameBut.rfl' rfl rfl rfl rfl rfl rfl rfl rfl rfl rfl rfl rfl rfl rfl rfl rfl rfl rfl rfl rfl
  | .stakeWatchdog => execStakeWatchdog_frame SameBut.rfl' rfl rfl rfl rfl rfl rfl rfl rfl rfl rfl rfl rfl rfl rfl rfl rfl rfl rfl rfl rfl
  | .fatalControllerFault => execFatalControllerFault_frame SameBut.rfl' rfl rfl rfl rfl rfl rfl rfl rfl rfl rfl rfl rfl rfl rfl rfl rfl rfl rfl rfl rfl
  | .pcieHotReset => execPcieHotReset_frame SameBut.rfl' rfl
  | .powerFailWarning => execPowerFailWarning_frame SameBut.rfl' rfl rfl rfl rfl
  | .loadShed => execLoadShed_frame SameBut.rfl' rfl rfl rfl rfl
  | .powerGoodFall => execPowerGoodFall_frame SameBut.rfl' rfl rfl rfl rfl rfl rfl rfl rfl rfl rfl rfl rfl rfl rfl rfl rfl rfl rfl rfl rfl
  | .mainsReturn => execMainsReturn_frame SameBut.rfl' rfl rfl rfl
  | .tempSample _ => execTempSample_frame SameBut.rfl' rfl rfl rfl rfl rfl rfl rfl rfl rfl rfl rfl rfl rfl rfl rfl rfl rfl rfl rfl rfl
  | .thermalRestart => execThermalRestart_frame SameBut.rfl' rfl
  | .field24vLoss => execField24vLoss_frame SameBut.rfl' rfl rfl rfl rfl
  | .field24vRestore => execField24vRestore_frame SameBut.rfl' rfl rfl
  | .cagePowerMeasure _ _ => execCagePowerMeasure_frame SameBut.rfl' rfl rfl rfl
  | .opticInsert _ => execOpticInsert_frame SameBut.rfl' rfl
  | .opticRemove _ => execOpticRemove_frame SameBut.rfl' rfl rfl rfl
  | .cageOverLimit _ => execCageOverLimit_frame SameBut.rfl' rfl rfl rfl
  | .storageOvercurrent => execStorageOvercurrent_frame SameBut.rfl' rfl rfl
  | .storageRetry => execStorageRetry_frame SameBut.rfl' rfl
  | .synciEdge _ => execSynciEdge_frame SameBut.rfl' rfl
  | .creelDatagram _ _ => execCreelDatagram_frame SameBut.rfl' rfl rfl rfl rfl rfl rfl rfl rfl rfl rfl rfl rfl rfl rfl rfl rfl rfl rfl rfl rfl
  | .managementRead _ _ => execManagementRead_frame SameBut.rfl' rfl rfl rfl rfl rfl rfl rfl rfl rfl rfl rfl rfl rfl rfl rfl rfl rfl rfl rfl rfl
  | .managementWrite _ _ => execManagementWrite_frame SameBut.rfl' rfl rfl rfl rfl rfl rfl rfl rfl rfl rfl rfl rfl rfl rfl rfl rfl rfl rfl rfl rfl
  | .ethernetAuxFrame _ _ => execEthernetAuxFrame_frame SameBut.rfl' rfl
  | .dbSubmit _ _ _ => execDbSubmit_frame SameBut.rfl' rfl rfl rfl
  | .dbComphead _ _ => execDbComphead_frame SameBut.rfl' rfl rfl rfl
  | .dbFaultCountRead _ => execDbFaultCountRead_frame SameBut.rfl' rfl rfl rfl rfl
  | .registerWrite _ _ _ _ => execRegisterWrite_frame SameBut.rfl' rfl rfl rfl rfl rfl rfl rfl rfl rfl rfl rfl rfl rfl rfl rfl rfl rfl rfl rfl rfl
  | .sysSupplyW1cWrite _ _ => execSysSupplyW1cWrite_frame SameBut.rfl' rfl rfl rfl rfl rfl rfl rfl rfl rfl rfl rfl rfl rfl rfl rfl rfl rfl rfl rfl rfl
  | .recCursorSeqWrite _ _ => execRecCursorSeqWrite_frame SameBut.rfl' rfl rfl rfl rfl rfl rfl rfl rfl rfl rfl rfl rfl rfl rfl rfl rfl rfl rfl rfl rfl
  | .ctrValLowRead _ _ => execCtrValLowRead_frame SameBut.rfl' rfl rfl rfl rfl
  | .ctrBwPeakRead _ _ _ => execCtrBwPeakRead_frame SameBut.rfl' rfl rfl rfl rfl
  | .dbgWhaltWrite _ _ _ => execDbgWhaltWrite_frame SameBut.rfl' rfl rfl rfl rfl rfl rfl rfl rfl rfl rfl rfl rfl rfl rfl rfl rfl rfl rfl rfl rfl
  | .dbgChaltWrite _ _ => execDbgChaltWrite_frame SameBut.rfl' rfl rfl rfl rfl rfl rfl rfl rfl rfl rfl rfl rfl rfl rfl rfl rfl rfl rfl rfl rfl
  | .dbgCtrlReset _ _ => execDbgCtrlReset_frame SameBut.rfl' rfl rfl rfl rfl rfl rfl rfl rfl rfl rfl rfl rfl rfl rfl rfl rfl rfl rfl rfl rfl
  | .dbgMemDataRead _ => execDbgMemDataRead_frame SameBut.rfl' rfl rfl rfl rfl
  | .dbgMemDataWrite _ _ => execDbgMemDataWrite_frame SameBut.rfl' rfl rfl rfl rfl rfl rfl rfl rfl rfl rfl rfl rfl rfl rfl rfl rfl rfl rfl rfl rfl
  | .dbgImgStart _ _ => execDbgImgStart_frame SameBut.rfl' rfl rfl rfl rfl rfl rfl rfl rfl rfl rfl rfl rfl rfl rfl rfl rfl rfl rfl rfl rfl
  | .dbgImgDataWrite _ _ => execDbgImgDataWrite_frame SameBut.rfl' rfl rfl rfl rfl rfl rfl rfl rfl rfl rfl rfl rfl rfl rfl rfl rfl rfl rfl rfl rfl
  | .dbgImgCommit _ _ => execDbgImgCommit_frame SameBut.rfl' rfl rfl rfl rfl rfl rfl rfl rfl rfl rfl rfl rfl rfl rfl rfl rfl rfl rfl rfl rfl
  | .tokenRefill => execTokenRefill_frame SameBut.rfl' rfl
  | .creelHandover => execCreelHandover_frame SameBut.rfl' rfl rfl rfl
  | .commandTimeout _ _ => execCommandTimeout_frame SameBut.rfl' rfl rfl rfl rfl rfl rfl rfl rfl rfl rfl rfl rfl rfl rfl
  | .sysIdent _ => execSysIdent_frame SameBut.rfl' rfl rfl
  | .sysState _ => execSysState_frame SameBut.rfl' rfl rfl
  | .sysTimeGet _ => execSysTimeGet_frame SameBut.rfl' rfl rfl
  | .sysSubscribe _ => execSysSubscribe_frame SameBut.rfl' rfl rfl
  | .sysUnsubscribe _ => execSysUnsubscribe_frame SameBut.rfl' rfl rfl
  | .sysAppRestart _ => execSysAppRestart_frame SameBut.rfl' rfl rfl rfl rfl rfl rfl rfl rfl rfl rfl rfl rfl rfl rfl rfl rfl rfl rfl rfl rfl
  | .appRestarted _ => execAppRestarted_frame SameBut.rfl' rfl rfl rfl rfl rfl
  | .partInfo _ => execPartInfo_frame SameBut.rfl' rfl rfl
  | .partStats _ => execPartStats_frame SameBut.rfl' rfl rfl
  | .queueCreate _ => execQueueCreate_frame SameBut.rfl' rfl rfl
  | .queueDelete _ => execQueueDelete_frame SameBut.rfl' rfl rfl rfl rfl rfl rfl rfl rfl rfl rfl rfl rfl rfl rfl rfl rfl rfl rfl rfl rfl
  | .queueBucketSet _ => execQueueBucketSet_frame SameBut.rfl' rfl rfl
  | .queueRekey _ => execQueueRekey_frame SameBut.rfl' rfl rfl
  | .axisStatus _ => execAxisStatus_frame SameBut.rfl' rfl rfl
  | .axisDescLoad _ => execAxisDescLoad_frame SameBut.rfl' rfl rfl rfl rfl rfl rfl
  | .axisCoefWrite _ => execAxisCoefWrite_frame SameBut.rfl' rfl rfl rfl
  | .axisBankSelect _ => execAxisBankSelect_frame SameBut.rfl' rfl rfl rfl
  | .axisTableLoad _ => execAxisTableLoad_frame SameBut.rfl' rfl rfl rfl
  | .axisEnable _ => execAxisEnable_frame SameBut.rfl' rfl rfl rfl
  | .axisDisable _ => execAxisDisable_frame SameBut.rfl' rfl rfl rfl
  | .tuneCaptureRead _ => execTuneCaptureRead_frame SameBut.rfl' rfl rfl
  | .tuneInjectStart _ => execTuneInjectStart_frame SameBut.rfl' rfl rfl rfl
  | .tuneInjectStop _ => execTuneInjectStop_frame SameBut.rfl' rfl rfl rfl
  | .tuneCaptureArm _ => execTuneCaptureArm_frame SameBut.rfl' rfl rfl rfl
  | .profileStatus _ => execProfileStatus_frame SameBut.rfl' rfl rfl
  | .energyStatus _ => execEnergyStatus_frame SameBut.rfl' rfl rfl
  | .profileLimitsSet _ => execProfileLimitsSet_frame SameBut.rfl' rfl rfl rfl
  | .energyReserveSet _ => execEnergyReserveSet_frame SameBut.rfl' rfl rfl rfl
  | .carStatus _ => execCarStatus_frame SameBut.rfl' rfl rfl
  | .segmentStatus _ => execSegmentStatus_frame SameBut.rfl' rfl rfl
  | .shaftConfigLoad _ => execShaftConfigLoad_frame SameBut.rfl' rfl rfl rfl
  | .carInspectMove _ => execCarInspectMove_frame SameBut.rfl' rfl rfl rfl rfl rfl
  | .carStop _ => execCarStop_frame SameBut.rfl' rfl rfl rfl rfl rfl rfl
  | .doorStatus _ => execDoorStatus_frame SameBut.rfl' rfl rfl
  | .edgeStatus _ => execEdgeStatus_frame SameBut.rfl' rfl rfl
  | .doorOpen _ => execDoorOpen_frame SameBut.rfl' rfl rfl rfl rfl rfl
  | .doorClose _ => execDoorClose_frame SameBut.rfl' rfl rfl rfl rfl
  | .doorLearn _ => execDoorLearn_frame SameBut.rfl' rfl rfl rfl rfl rfl
  | .doorPolicySet _ => execDoorPolicySet_frame SameBut.rfl' rfl rfl rfl
  | .callStatus _ => execCallStatus_frame SameBut.rfl' rfl rfl
  | .carStoplist _ => execCarStoplist_frame SameBut.rfl' rfl rfl
  | .callSubmit _ _ => execCallSubmit_frame SameBut.rfl' rfl rfl rfl rfl
  | .callCancel _ => execCallCancel_frame SameBut.rfl' rfl rfl rfl
  | .safetyStatus _ => execSafetyStatus_frame SameBut.rfl' rfl rfl
  | .safetyConfigCrc _ => execSafetyConfigCrc_frame SameBut.rfl' rfl rfl
  | .safetyChangelogRead _ => execSafetyChangelogRead_frame SameBut.rfl' rfl rfl
  | .safetySessionOpen _ => execSafetySessionOpen_frame SameBut.rfl' rfl rfl rfl rfl
  | .safetyConfigWrite _ => execSafetyConfigWrite_frame SameBut.rfl' rfl rfl rfl
  | .safetySessionClose _ => execSafetySessionClose_frame SameBut.rfl' rfl rfl rfl rfl
  | .dioRead _ => execDioRead_frame SameBut.rfl' rfl rfl rfl
  | .aiRead _ => execAiRead_frame SameBut.rfl' rfl rfl
  | .qencRead _ => execQencRead_frame SameBut.rfl' rfl rfl
  | .dioWrite _ => execDioWrite_frame SameBut.rfl' rfl rfl rfl
  | .dioSafeSet _ => execDioSafeSet_frame SameBut.rfl' rfl rfl rfl
  | .pwmConfig _ => execPwmConfig_frame SameBut.rfl' rfl rfl rfl
  | .stepMove _ => execStepMove_frame SameBut.rfl' rfl rfl rfl
  | .stepStop _ => execStepStop_frame SameBut.rfl' rfl rfl rfl rfl
  | .canStatus _ => execCanStatus_frame SameBut.rfl' rfl rfl rfl
  | .canRxRead _ => execCanRxRead_frame SameBut.rfl' rfl rfl rfl
  | .canConfig _ => execCanConfig_frame SameBut.rfl' rfl rfl rfl
  | .canSend _ => execCanSend_frame SameBut.rfl' rfl rfl rfl
  | .canBusoffRecover _ => execCanBusoffRecover_frame SameBut.rfl' rfl rfl rfl
  | .canWakeSet _ => execCanWakeSet_frame SameBut.rfl' rfl rfl rfl
  | .ringStatus _ => execRingStatus_frame SameBut.rfl' rfl rfl
  | .ringNodes _ => execRingNodes_frame SameBut.rfl' rfl rfl
  | .ringConfig _ => execRingConfig_frame SameBut.rfl' rfl rfl rfl rfl rfl rfl rfl
  | .redStatus _ => execRedStatus_frame SameBut.rfl' rfl rfl
  | .redRoleRequest _ => execRedRoleRequest_frame SameBut.rfl' rfl rfl rfl rfl rfl rfl rfl rfl
  | .powerStatus _ => execPowerStatus_frame SameBut.rfl' rfl rfl
  | .powerLevelRequest _ => execPowerLevelRequest_frame SameBut.rfl' rfl rfl rfl rfl
  | .powerSleepRequest _ => execPowerSleepRequest_frame SameBut.rfl' rfl rfl rfl rfl rfl rfl rfl
  | .recStatus _ => execRecStatus_frame SameBut.rfl' rfl rfl
  | .storeHealth _ => execStoreHealth_frame SameBut.rfl' rfl rfl
  | .recTriggerSet _ => execRecTriggerSet_frame SameBut.rfl' rfl rfl rfl rfl
  | .recCursorSet _ => execRecCursorSet_frame SameBut.rfl' rfl rfl
  | .ctrRead _ => execCtrRead_frame SameBut.rfl' rfl rfl
  | .ctrThresholdSet _ => execCtrThresholdSet_frame SameBut.rfl' rfl rfl
  | .ctrWindowSet _ => execCtrWindowSet_frame SameBut.rfl' rfl rfl
  | .debugStatus _ => execDebugStatus_frame SameBut.rfl' rfl rfl
  | .debugAuth _ => execDebugAuth_frame SameBut.rfl' rfl rfl rfl rfl rfl rfl rfl rfl rfl rfl rfl rfl rfl rfl rfl rfl rfl rfl rfl rfl
  | .debugClose _ => execDebugClose_frame SameBut.rfl' rfl rfl rfl rfl rfl rfl rfl rfl rfl rfl rfl rfl rfl rfl rfl rfl rfl rfl rfl rfl
  | .debugSessionExpiry => execDebugSessionExpiry_frame SameBut.rfl' rfl rfl rfl rfl rfl rfl rfl rfl rfl rfl rfl rfl rfl rfl rfl rfl rfl rfl rfl rfl
  | .nonceExpiry => execNonceExpiry_frame SameBut.rfl' rfl
  | .authLockoutEnd => execAuthLockoutEnd_frame SameBut.rfl' rfl
  | .instant _ => execInstant_frame SameBut.rfl' rfl rfl rfl rfl rfl rfl rfl rfl rfl rfl rfl rfl
  | .collectCopyRx _ => execCollectCopyRx_frame SameBut.rfl' rfl rfl
  | .windowOpen => execWindowOpen_frame SameBut.rfl' rfl rfl rfl rfl rfl
  | .slotMiss _ _ => execSlotMiss_frame SameBut.rfl' rfl rfl rfl rfl rfl rfl
  | .carCutoff _ => execCarCutoff_frame SameBut.rfl' rfl rfl rfl rfl rfl rfl rfl
  | .releasePhase => execReleasePhase_frame SameBut.rfl' rfl rfl rfl rfl rfl rfl rfl rfl rfl rfl rfl rfl rfl rfl rfl rfl rfl rfl
  | .serviceAnswerRx _ _ => execServiceAnswerRx_frame SameBut.rfl' rfl
  | .serviceRetry _ => execServiceRetry_frame SameBut.rfl' rfl rfl
  | .coldstartListenEnd _ => execColdstartListenEnd_frame SameBut.rfl' rfl
  | .coldstartRx _ _ => execColdstartRx_frame SameBut.rfl' rfl rfl
  | .coldstartLead _ => execColdstartLead_frame SameBut.rfl' rfl rfl rfl
  | .leaderFrameRx _ _ => execLeaderFrameRx_frame SameBut.rfl' rfl rfl rfl rfl rfl rfl
  | .memberIntegrate _ => execMemberIntegrate_frame SameBut.rfl' rfl
  | .localFault _ _ => execLocalFault_frame SameBut.rfl' rfl rfl
  | .spandownRx _ _ _ => execSpandownRx_frame SameBut.rfl' rfl rfl
  | .ringHeal _ => execRingHeal_frame SameBut.rfl' rfl rfl rfl rfl
  | .spanLockHold _ _ => execSpanLockHold_frame SameBut.rfl' rfl
  | .spanupRx _ _ _ => execSpanupRx_frame SameBut.rfl' rfl rfl
  | .closearmCheck _ => execClosearmCheck_frame SameBut.rfl' rfl rfl
  | .closeTarget _ => execCloseTarget_frame SameBut.rfl' rfl rfl
  | .recloseRetry _ => execRecloseRetry_frame SameBut.rfl' rfl
  | .scarpStopInject => execScarpStopInject_frame SameBut.rfl' rfl rfl
  | .safeInputSample _ _ _ _ => execSafeInputSample_frame SameBut.rfl' rfl rfl rfl rfl
  | .monitorPointSample _ _ => execMonitorPointSample_frame SameBut.rfl' rfl rfl rfl
  | .safeLinkFrameRx _ _ _ _ => execSafeLinkFrameRx_frame SameBut.rfl' rfl rfl rfl rfl
  | .safeLinkLost _ _ => execSafeLinkLost_frame SameBut.rfl' rfl rfl rfl
  | .crossChannelExchange _ _ => execCrossChannelExchange_frame SameBut.rfl' rfl rfl rfl
  | .crossMismatch => execCrossMismatch_frame SameBut.rfl' rfl rfl rfl
  | .otherChannelLoss _ => execOtherChannelLoss_frame SameBut.rfl' rfl rfl rfl
  | .tripRequestRx _ _ _ => execTripRequestRx_frame SameBut.rfl' rfl rfl rfl
  | .switchTest _ _ _ => execSwitchTest_frame SameBut.rfl' rfl rfl rfl
  | .stoLineLimit _ => execStoLineLimit_frame SameBut.rfl' rfl rfl rfl
  | .ss1End _ _ => execSs1End_frame SameBut.rfl' rfl rfl rfl
  | .brakeFeedbackTimeout _ _ => execBrakeFeedbackTimeout_frame SameBut.rfl' rfl rfl rfl
  | .resetDisagree _ _ => execResetDisagree_frame SameBut.rfl' rfl rfl rfl
  | .sessionIdleClose => execSessionIdleClose_frame SameBut.rfl' rfl rfl rfl
  | .passwordLockoutEnd => execPasswordLockoutEnd_frame SameBut.rfl' rfl
  | .pairSafeFrameRx _ _ => execPairSafeFrameRx_frame SameBut.rfl' rfl rfl rfl
  | .pairExchangeLoss _ _ => execPairExchangeLoss_frame SameBut.rfl' rfl rfl rfl rfl
  | .heartbeatMiss _ => execHeartbeatMiss_frame SameBut.rfl' rfl rfl rfl
  | .heartbeatRx _ => execHeartbeatRx_frame SameBut.rfl' rfl rfl rfl rfl
  | .failedSet _ => execFailedSet_frame SameBut.rfl' rfl rfl
  | .replayComplete => execReplayComplete_frame SameBut.rfl' rfl
  | .takeoverCycle => execTakeoverCycle_frame SameBut.rfl' rfl rfl rfl rfl rfl rfl
  | .heartbeatPathFault _ => execHeartbeatPathFault_frame SameBut.rfl' rfl rfl rfl
  | .checkpointTake => execCheckpointTake_frame SameBut.rfl' rfl
  | .checkpointRx _ => execCheckpointRx_frame SameBut.rfl' rfl rfl rfl rfl rfl
  | .journalEntryRx _ _ => execJournalEntryRx_frame SameBut.rfl' rfl rfl rfl rfl rfl rfl rfl rfl rfl rfl rfl rfl rfl rfl
  | .handoverTarget => execHandoverTarget_frame SameBut.rfl' rfl rfl rfl rfl rfl rfl rfl rfl
  | .rejoinCopyDone => execRejoinCopyDone_frame SameBut.rfl' rfl
  | .sideRecordFrameRx _ _ _ _ _ => execSideRecordFrameRx_frame SameBut.rfl' rfl rfl rfl rfl rfl rfl rfl rfl rfl
  | .bulkFrameRx _ _ => execBulkFrameRx_frame SameBut.rfl' rfl
  | .trunkSlotRx _ _ _ => execTrunkSlotRx_frame SameBut.rfl' rfl rfl rfl rfl rfl rfl rfl rfl rfl
  | .ptpMessage _ => execPtpMessage_frame SameBut.rfl' rfl rfl rfl
  | .timeSourceLoss => execTimeSourceLoss_frame SameBut.rfl' rfl rfl rfl
  | .backupMasterTakeover => execBackupMasterTakeover_frame SameBut.rfl' rfl rfl rfl
  | .zoneDownMissing _ => execZoneDownMissing_frame SameBut.rfl' rfl rfl
  | .zoneUpMissing _ _ => execZoneUpMissing_frame SameBut.rfl' rfl
  | .preparingRampDone _ => execPreparingRampDone_frame SameBut.rfl' rfl
  | .brakeReleaseFeedback _ => execBrakeReleaseFeedback_frame SameBut.rfl' rfl
  | .brktTimeout _ => execBrktTimeout_frame SameBut.rfl' rfl rfl rfl rfl rfl
  | .weighingEnd _ => execWeighingEnd_frame SameBut.rfl' rfl rfl rfl rfl rfl
  | .prestartRetry _ => execPrestartRetry_frame SameBut.rfl' rfl
  | .stopHoldEnd _ => execStopHoldEnd_frame SameBut.rfl' rfl
  | .brakeEngagedFeedback _ => execBrakeEngagedFeedback_frame SameBut.rfl' rfl rfl rfl rfl
  | .rescueEnd _ => execRescueEnd_frame SameBut.rfl' rfl rfl rfl
  | .inspectionHoldExpiry _ => execInspectionHoldExpiry_frame SameBut.rfl' rfl
  | .inspectionBrakeDelay _ => execInspectionBrakeDelay_frame SameBut.rfl' rfl
  | .bmsReport _ => execBmsReport_frame SameBut.rfl' rfl rfl rfl rfl
  | .bmsStale _ => execBmsStale_frame SameBut.rfl' rfl rfl rfl
  | .doorEvaluation _ => execDoorEvaluation_frame SameBut.rfl' rfl rfl rfl rfl rfl rfl rfl rfl rfl
  | .doorEvalLate _ => execDoorEvalLate_frame SameBut.rfl' rfl rfl rfl rfl rfl
  | .dwellExpiry _ => execDwellExpiry_frame SameBut.rfl' rfl
  | .blocked30s _ => execBlocked30s_frame SameBut.rfl' rfl rfl rfl rfl
  | .blocked180s _ => execBlocked180s_frame SameBut.rfl' rfl rfl rfl rfl
  | .nudgeStart _ => execNudgeStart_frame SameBut.rfl' rfl rfl rfl
  | .openRetry _ => execOpenRetry_frame SameBut.rfl' rfl rfl rfl
  | .edgeRefStore _ => execEdgeRefStore_frame SameBut.rfl' rfl rfl
  | .policyDeadline => execPolicyDeadline_frame SameBut.rfl' rfl rfl rfl rfl rfl
  | .callReevalTimer _ => execCallReevalTimer_frame SameBut.rfl' rfl rfl rfl
  | .unassignedTimeout _ => execUnassignedTimeout_frame SameBut.rfl' rfl rfl rfl
  | .callDiscard _ => execCallDiscard_frame SameBut.rfl' rfl
  | .motionUpdateApply => execMotionUpdateApply_frame SameBut.rfl' rfl rfl rfl rfl rfl
  | .diSample _ => execDiSample_frame SameBut.rfl' rfl rfl rfl
  | .doOverload _ => execDoOverload_frame SameBut.rfl' rfl rfl rfl
  | .doSilence => execDoSilence_frame SameBut.rfl' rfl rfl
  | .aiConversion _ _ _ => execAiConversion_frame SameBut.rfl' rfl rfl rfl
  | .aiOvercurrent _ => execAiOvercurrent_frame SameBut.rfl' rfl rfl rfl
  | .aiReconnect _ => execAiReconnect_frame SameBut.rfl' rfl
  | .sdFilterOutput _ _ _ => execSdFilterOutput_frame SameBut.rfl' rfl
  | .sdOcOutput _ _ => execSdOcOutput_frame SameBut.rfl' rfl rfl rfl
  | .sdStuckLine _ => execSdStuckLine_frame SameBut.rfl' rfl rfl rfl
  | .quadSample _ _ _ _ => execQuadSample_frame SameBut.rfl' rfl rfl rfl
  | .quadLineLow _ => execQuadLineLow_frame SameBut.rfl' rfl rfl rfl
  | .pwmPeriod _ _ => execPwmPeriod_frame SameBut.rfl' rfl rfl
  | .stepPulse _ => execStepPulse_frame SameBut.rfl' rfl
  | .stepRateUpdate _ => execStepRateUpdate_frame SameBut.rfl' rfl rfl rfl
  | .stepSearchExhausted _ => execStepSearchExhausted_frame SameBut.rfl' rfl rfl rfl
  | .canFrameRx _ _ _ => execCanFrameRx_frame SameBut.rfl' rfl rfl rfl
  | .canBusIdle _ => execCanBusIdle_frame SameBut.rfl' rfl rfl rfl
  | .canTxSuccess _ _ => execCanTxSuccess_frame SameBut.rfl' rfl rfl rfl rfl
  | .canCollision _ => execCanCollision_frame SameBut.rfl' rfl rfl rfl rfl
  | .canBackoffEnd _ => execCanBackoffEnd_frame SameBut.rfl' rfl
  | .canBusOff _ => execCanBusOff_frame SameBut.rfl' rfl rfl rfl rfl
  | .canRecoveryDone _ => execCanRecoveryDone_frame SameBut.rfl' rfl rfl rfl rfl
  | .canWake _ => execCanWake_frame SameBut.rfl' rfl rfl rfl rfl
  | .canReferenceDue _ => execCanReferenceDue_frame SameBut.rfl' rfl rfl rfl
  | .canDrain _ _ => execCanDrain_frame SameBut.rfl' rfl
  | .objWord0Read _ => execObjWord0Read_frame SameBut.rfl' rfl
  | .objWord22Read _ => execObjWord22Read_frame SameBut.rfl' rfl
  | .objLockExpiry _ => execObjLockExpiry_frame SameBut.rfl' rfl rfl
  | .objArm _ _ => execObjArm_frame SameBut.rfl' rfl rfl rfl
  | .recEventIntake _ _ => execRecEventIntake_frame SameBut.rfl' rfl rfl rfl rfl
  | .recSealTimer => execRecSealTimer_frame SameBut.rfl' rfl
  | .recPageSpill _ => execRecPageSpill_frame SameBut.rfl' rfl
  | .nvmeFlushTimer => execNvmeFlushTimer_frame SameBut.rfl' rfl
  | .nvmeFlushDone _ => execNvmeFlushDone_frame SameBut.rfl' rfl
  | .nvmeWriteDone _ _ _ => execNvmeWriteDone_frame SameBut.rfl' rfl rfl
  | .smartPoll _ _ => execSmartPoll_frame SameBut.rfl' rfl rfl
  | .driveAttach _ _ => execDriveAttach_frame SameBut.rfl' rfl rfl
  | .driveFail _ _ => execDriveFail_frame SameBut.rfl' rfl rfl
  | .mirrorProgram _ _ => execMirrorProgram_frame SameBut.rfl' rfl rfl rfl
  | .traceHoldExpiry _ => execTraceHoldExpiry_frame SameBut.rfl' rfl
  | .bandwidthWindowEnd _ _ _ => execBandwidthWindowEnd_frame SameBut.rfl' rfl
  | .pmbusAck _ => execPmbusAck_frame SameBut.rfl' rfl rfl rfl rfl
  | .pmbusTimeout _ => execPmbusTimeout_frame SameBut.rfl' rfl rfl rfl rfl
  | .s3StageEnd _ => execS3StageEnd_frame SameBut.rfl' rfl rfl rfl rfl rfl rfl rfl rfl rfl rfl rfl rfl rfl rfl rfl rfl rfl rfl rfl rfl
  | .s3Wake _ => execS3Wake_frame SameBut.rfl' rfl rfl
  | .s3RailsUp _ => execS3RailsUp_frame SameBut.rfl' rfl rfl rfl rfl rfl rfl rfl rfl rfl rfl rfl rfl rfl rfl rfl rfl rfl rfl rfl rfl
  | .s3ReturnCreelOpen _ => execS3ReturnCreelOpen_frame SameBut.rfl' rfl rfl rfl rfl
  | .remoteFaultRx _ _ => execRemoteFaultRx_frame SameBut.rfl' rfl rfl
  | .blockLockGained _ => execBlockLockGained_frame SameBut.rfl' rfl rfl
  | .sideLinkDown _ => execSideLinkDown_frame SameBut.rfl' rfl rfl rfl rfl
  | .pcieLinkUp => execPcieLinkUp_frame SameBut.rfl' rfl rfl rfl
  | .ptpUnavailable => execPtpUnavailable_frame SameBut.rfl' rfl rfl rfl
  | .registerRead _ _ _ => execRegisterRead_frame SameBut.rfl' rfl rfl rfl rfl
  | .ctrValHighRead _ _ => execCtrValHighRead_frame SameBut.rfl' rfl rfl rfl rfl
  | .canErrorDetected _ _ => execCanErrorDetected_frame SameBut.rfl' rfl rfl rfl rfl
  | .safetyCoreFault => execSafetyCoreFault_frame SameBut.rfl' rfl rfl rfl rfl
  | .scarpInternalFault => execScarpInternalFault_frame SameBut.rfl' rfl rfl rfl
  | .configStoreDone => execConfigStoreDone_frame SameBut.rfl' rfl rfl rfl
  | .jtagInstruction _ => execJtagInstruction_frame SameBut.rfl' rfl

/-- Whether a command is DEBUG_AUTH, the one that can change the lifecycle (18 R477). -/
def changesLifecycle : Instr → Bool
  | .debugAuth _ => true
  | _ => false

/-- The parts of the state that a command may change, in the terms of `Kept`. -/
def mayChange (c : Instr) : Part → Bool
  | .mem => writesRegister c
  | .cnt => removesPower c
  | .lc => changesLifecycle c
  | .cfg => storesSafety c
  | .trips => endsTrips c
  | .cycle => setsCycle c

/-- Each command answers a next state and keeps every part but those it may change. -/
theorem exec_kept : (c : Instr) → Ends (Kept (mayChange c) s) (exec c s)
  | .powerGood _ _ _ => execPowerGood_kept Kept.rfl' rfl
  | .mainsInRange _ => execMainsInRange_kept Kept.rfl'
  | .scarpResetRelease => execScarpResetRelease_kept Kept.rfl' rfl
  | .controllerResetRelease => execControllerResetRelease_kept Kept.rfl'
  | .trustedImageVerified _ => execTrustedImageVerified_kept Kept.rfl'
  | .canStart => execCanStart_kept Kept.rfl'
  | .appStart _ => execAppStart_kept Kept.rfl' rfl
  | .rootPortRelease => execRootPortRelease_kept Kept.rfl'
  | .safetyHandshake _ => execSafetyHandshake_kept Kept.rfl'
  | .weaverLoad _ => execWeaverLoad_kept Kept.rfl'
  | .creelOpen => execCreelOpen_kept Kept.rfl'
  | .motionFloor => execMotionFloor_kept Kept.rfl' rfl
  | .mrstNAssert => execMrstNAssert_kept Kept.rfl' rfl
  | .mrstNRelease => execMrstNRelease_kept Kept.rfl'
  | .summitWatchdog => execSummitWatchdog_kept Kept.rfl' rfl
  | .stakeWatchdog => execStakeWatchdog_kept Kept.rfl' rfl
  | .fatalControllerFault => execFatalControllerFault_kept Kept.rfl' rfl
  | .pcieHotReset => execPcieHotReset_kept Kept.rfl'
  | .powerFailWarning => execPowerFailWarning_kept Kept.rfl'
  | .loadShed => execLoadShed_kept Kept.rfl'
  | .powerGoodFall => execPowerGoodFall_kept Kept.rfl' rfl rfl rfl
  | .mainsReturn => execMainsReturn_kept Kept.rfl'
  | .tempSample _ => execTempSample_kept Kept.rfl' rfl rfl rfl
  | .thermalRestart => execThermalRestart_kept Kept.rfl'
  | .field24vLoss => execField24vLoss_kept Kept.rfl'
  | .field24vRestore => execField24vRestore_kept Kept.rfl'
  | .cagePowerMeasure _ _ => execCagePowerMeasure_kept Kept.rfl'
  | .opticInsert _ => execOpticInsert_kept Kept.rfl'
  | .opticRemove _ => execOpticRemove_kept Kept.rfl'
  | .cageOverLimit _ => execCageOverLimit_kept Kept.rfl'
  | .storageOvercurrent => execStorageOvercurrent_kept Kept.rfl'
  | .storageRetry => execStorageRetry_kept Kept.rfl'
  | .synciEdge _ => execSynciEdge_kept Kept.rfl'
  | .creelDatagram _ _ => execCreelDatagram_kept Kept.rfl' rfl rfl
  | .managementRead _ _ => execManagementRead_kept Kept.rfl' rfl rfl
  | .managementWrite _ _ => execManagementWrite_kept Kept.rfl' rfl rfl
  | .ethernetAuxFrame _ _ => execEthernetAuxFrame_kept Kept.rfl'
  | .dbSubmit _ _ _ => execDbSubmit_kept Kept.rfl'
  | .dbComphead _ _ => execDbComphead_kept Kept.rfl'
  | .dbFaultCountRead _ => execDbFaultCountRead_kept Kept.rfl'
  | .registerWrite _ _ _ _ => execRegisterWrite_kept Kept.rfl' rfl rfl
  | .sysSupplyW1cWrite _ _ => execSysSupplyW1cWrite_kept Kept.rfl' rfl rfl
  | .recCursorSeqWrite _ _ => execRecCursorSeqWrite_kept Kept.rfl' rfl rfl
  | .ctrValLowRead _ _ => execCtrValLowRead_kept Kept.rfl'
  | .ctrBwPeakRead _ _ _ => execCtrBwPeakRead_kept Kept.rfl'
  | .dbgWhaltWrite _ _ _ => execDbgWhaltWrite_kept Kept.rfl' rfl rfl
  | .dbgChaltWrite _ _ => execDbgChaltWrite_kept Kept.rfl' rfl rfl
  | .dbgCtrlReset _ _ => execDbgCtrlReset_kept Kept.rfl' rfl rfl
  | .dbgMemDataRead _ => execDbgMemDataRead_kept Kept.rfl'
  | .dbgMemDataWrite _ _ => execDbgMemDataWrite_kept Kept.rfl' rfl rfl
  | .dbgImgStart _ _ => execDbgImgStart_kept Kept.rfl' rfl rfl
  | .dbgImgDataWrite _ _ => execDbgImgDataWrite_kept Kept.rfl' rfl rfl
  | .dbgImgCommit _ _ => execDbgImgCommit_kept Kept.rfl' rfl rfl
  | .tokenRefill => execTokenRefill_kept Kept.rfl'
  | .creelHandover => execCreelHandover_kept Kept.rfl'
  | .commandTimeout _ _ => execCommandTimeout_kept Kept.rfl'
  | .sysIdent _ => execSysIdent_kept Kept.rfl'
  | .sysState _ => execSysState_kept Kept.rfl'
  | .sysTimeGet _ => execSysTimeGet_kept Kept.rfl'
  | .sysSubscribe _ => execSysSubscribe_kept Kept.rfl'
  | .sysUnsubscribe _ => execSysUnsubscribe_kept Kept.rfl'
  | .sysAppRestart _ => execSysAppRestart_kept Kept.rfl' rfl
  | .appRestarted _ => execAppRestarted_kept Kept.rfl'
  | .partInfo _ => execPartInfo_kept Kept.rfl'
  | .partStats _ => execPartStats_kept Kept.rfl'
  | .queueCreate _ => execQueueCreate_kept Kept.rfl'
  | .queueDelete _ => execQueueDelete_kept Kept.rfl' rfl
  | .queueBucketSet _ => execQueueBucketSet_kept Kept.rfl'
  | .queueRekey _ => execQueueRekey_kept Kept.rfl'
  | .axisStatus _ => execAxisStatus_kept Kept.rfl'
  | .axisDescLoad _ => execAxisDescLoad_kept Kept.rfl'
  | .axisCoefWrite _ => execAxisCoefWrite_kept Kept.rfl'
  | .axisBankSelect _ => execAxisBankSelect_kept Kept.rfl'
  | .axisTableLoad _ => execAxisTableLoad_kept Kept.rfl'
  | .axisEnable _ => execAxisEnable_kept Kept.rfl'
  | .axisDisable _ => execAxisDisable_kept Kept.rfl'
  | .tuneCaptureRead _ => execTuneCaptureRead_kept Kept.rfl'
  | .tuneInjectStart _ => execTuneInjectStart_kept Kept.rfl'
  | .tuneInjectStop _ => execTuneInjectStop_kept Kept.rfl'
  | .tuneCaptureArm _ => execTuneCaptureArm_kept Kept.rfl'
  | .profileStatus _ => execProfileStatus_kept Kept.rfl'
  | .energyStatus _ => execEnergyStatus_kept Kept.rfl'
  | .profileLimitsSet _ => execProfileLimitsSet_kept Kept.rfl'
  | .energyReserveSet _ => execEnergyReserveSet_kept Kept.rfl'
  | .carStatus _ => execCarStatus_kept Kept.rfl'
  | .segmentStatus _ => execSegmentStatus_kept Kept.rfl'
  | .shaftConfigLoad _ => execShaftConfigLoad_kept Kept.rfl'
  | .carInspectMove _ => execCarInspectMove_kept Kept.rfl'
  | .carStop _ => execCarStop_kept Kept.rfl'
  | .doorStatus _ => execDoorStatus_kept Kept.rfl'
  | .edgeStatus _ => execEdgeStatus_kept Kept.rfl'
  | .doorOpen _ => execDoorOpen_kept Kept.rfl'
  | .doorClose _ => execDoorClose_kept Kept.rfl'
  | .doorLearn _ => execDoorLearn_kept Kept.rfl'
  | .doorPolicySet _ => execDoorPolicySet_kept Kept.rfl'
  | .callStatus _ => execCallStatus_kept Kept.rfl'
  | .carStoplist _ => execCarStoplist_kept Kept.rfl'
  | .callSubmit _ _ => execCallSubmit_kept Kept.rfl'
  | .callCancel _ => execCallCancel_kept Kept.rfl'
  | .safetyStatus _ => execSafetyStatus_kept Kept.rfl'
  | .safetyConfigCrc _ => execSafetyConfigCrc_kept Kept.rfl'
  | .safetyChangelogRead _ => execSafetyChangelogRead_kept Kept.rfl'
  | .safetySessionOpen _ => execSafetySessionOpen_kept Kept.rfl'
  | .safetyConfigWrite _ => execSafetyConfigWrite_kept Kept.rfl'
  | .safetySessionClose _ => execSafetySessionClose_kept Kept.rfl' rfl
  | .dioRead _ => execDioRead_kept Kept.rfl'
  | .aiRead _ => execAiRead_kept Kept.rfl'
  | .qencRead _ => execQencRead_kept Kept.rfl'
  | .dioWrite _ => execDioWrite_kept Kept.rfl'
  | .dioSafeSet _ => execDioSafeSet_kept Kept.rfl'
  | .pwmConfig _ => execPwmConfig_kept Kept.rfl'
  | .stepMove _ => execStepMove_kept Kept.rfl'
  | .stepStop _ => execStepStop_kept Kept.rfl'
  | .canStatus _ => execCanStatus_kept Kept.rfl'
  | .canRxRead _ => execCanRxRead_kept Kept.rfl'
  | .canConfig _ => execCanConfig_kept Kept.rfl'
  | .canSend _ => execCanSend_kept Kept.rfl'
  | .canBusoffRecover _ => execCanBusoffRecover_kept Kept.rfl'
  | .canWakeSet _ => execCanWakeSet_kept Kept.rfl'
  | .ringStatus _ => execRingStatus_kept Kept.rfl'
  | .ringNodes _ => execRingNodes_kept Kept.rfl'
  | .ringConfig _ => execRingConfig_kept Kept.rfl'
  | .redStatus _ => execRedStatus_kept Kept.rfl'
  | .redRoleRequest _ => execRedRoleRequest_kept Kept.rfl'
  | .powerStatus _ => execPowerStatus_kept Kept.rfl'
  | .powerLevelRequest _ => execPowerLevelRequest_kept Kept.rfl'
  | .powerSleepRequest _ => execPowerSleepRequest_kept Kept.rfl'
  | .recStatus _ => execRecStatus_kept Kept.rfl'
  | .storeHealth _ => execStoreHealth_kept Kept.rfl'
  | .recTriggerSet _ => execRecTriggerSet_kept Kept.rfl'
  | .recCursorSet _ => execRecCursorSet_kept Kept.rfl'
  | .ctrRead _ => execCtrRead_kept Kept.rfl'
  | .ctrThresholdSet _ => execCtrThresholdSet_kept Kept.rfl'
  | .ctrWindowSet _ => execCtrWindowSet_kept Kept.rfl'
  | .debugStatus _ => execDebugStatus_kept Kept.rfl'
  | .debugAuth _ => execDebugAuth_kept Kept.rfl' rfl rfl rfl
  | .debugClose _ => execDebugClose_kept Kept.rfl' rfl
  | .debugSessionExpiry => execDebugSessionExpiry_kept Kept.rfl' rfl
  | .nonceExpiry => execNonceExpiry_kept Kept.rfl'
  | .authLockoutEnd => execAuthLockoutEnd_kept Kept.rfl'
  | .instant _ => execInstant_kept Kept.rfl' rfl
  | .collectCopyRx _ => execCollectCopyRx_kept Kept.rfl'
  | .windowOpen => execWindowOpen_kept Kept.rfl'
  | .slotMiss _ _ => execSlotMiss_kept Kept.rfl'
  | .carCutoff _ => execCarCutoff_kept Kept.rfl'
  | .releasePhase => execReleasePhase_kept Kept.rfl'
  | .serviceAnswerRx _ _ => execServiceAnswerRx_kept Kept.rfl'
  | .serviceRetry _ => execServiceRetry_kept Kept.rfl'
  | .coldstartListenEnd _ => execColdstartListenEnd_kept Kept.rfl'
  | .coldstartRx _ _ => execColdstartRx_kept Kept.rfl'
  | .coldstartLead _ => execColdstartLead_kept Kept.rfl'
  | .leaderFrameRx _ _ => execLeaderFrameRx_kept Kept.rfl'
  | .memberIntegrate _ => execMemberIntegrate_kept Kept.rfl'
  | .localFault _ _ => execLocalFault_kept Kept.rfl'
  | .spandownRx _ _ _ => execSpandownRx_kept Kept.rfl'
  | .ringHeal _ => execRingHeal_kept Kept.rfl'
  | .spanLockHold _ _ => execSpanLockHold_kept Kept.rfl'
  | .spanupRx _ _ _ => execSpanupRx_kept Kept.rfl'
  | .closearmCheck _ => execClosearmCheck_kept Kept.rfl'
  | .closeTarget _ => execCloseTarget_kept Kept.rfl'
  | .recloseRetry _ => execRecloseRetry_kept Kept.rfl'
  | .scarpStopInject => execScarpStopInject_kept Kept.rfl'
  | .safeInputSample _ _ _ _ => execSafeInputSample_kept Kept.rfl' rfl
  | .monitorPointSample _ _ => execMonitorPointSample_kept Kept.rfl'
  | .safeLinkFrameRx _ _ _ _ => execSafeLinkFrameRx_kept Kept.rfl'
  | .safeLinkLost _ _ => execSafeLinkLost_kept Kept.rfl'
  | .crossChannelExchange _ _ => execCrossChannelExchange_kept Kept.rfl'
  | .crossMismatch => execCrossMismatch_kept Kept.rfl'
  | .otherChannelLoss _ => execOtherChannelLoss_kept Kept.rfl'
  | .tripRequestRx _ _ _ => execTripRequestRx_kept Kept.rfl'
  | .switchTest _ _ _ => execSwitchTest_kept Kept.rfl'
  | .stoLineLimit _ => execStoLineLimit_kept Kept.rfl'
  | .ss1End _ _ => execSs1End_kept Kept.rfl'
  | .brakeFeedbackTimeout _ _ => execBrakeFeedbackTimeout_kept Kept.rfl'
  | .resetDisagree _ _ => execResetDisagree_kept Kept.rfl'
  | .sessionIdleClose => execSessionIdleClose_kept Kept.rfl'
  | .passwordLockoutEnd => execPasswordLockoutEnd_kept Kept.rfl'
  | .pairSafeFrameRx _ _ => execPairSafeFrameRx_kept Kept.rfl'
  | .pairExchangeLoss _ _ => execPairExchangeLoss_kept Kept.rfl'
  | .heartbeatMiss _ => execHeartbeatMiss_kept Kept.rfl'
  | .heartbeatRx _ => execHeartbeatRx_kept Kept.rfl'
  | .failedSet _ => execFailedSet_kept Kept.rfl'
  | .replayComplete => execReplayComplete_kept Kept.rfl'
  | .takeoverCycle => execTakeoverCycle_kept Kept.rfl'
  | .heartbeatPathFault _ => execHeartbeatPathFault_kept Kept.rfl'
  | .checkpointTake => execCheckpointTake_kept Kept.rfl'
  | .checkpointRx _ => execCheckpointRx_kept Kept.rfl'
  | .journalEntryRx _ _ => execJournalEntryRx_kept Kept.rfl'
  | .handoverTarget => execHandoverTarget_kept Kept.rfl'
  | .rejoinCopyDone => execRejoinCopyDone_kept Kept.rfl'
  | .sideRecordFrameRx _ _ _ _ _ => execSideRecordFrameRx_kept Kept.rfl'
  | .bulkFrameRx _ _ => execBulkFrameRx_kept Kept.rfl'
  | .trunkSlotRx _ _ _ => execTrunkSlotRx_kept Kept.rfl'
  | .ptpMessage _ => execPtpMessage_kept Kept.rfl'
  | .timeSourceLoss => execTimeSourceLoss_kept Kept.rfl'
  | .backupMasterTakeover => execBackupMasterTakeover_kept Kept.rfl'
  | .zoneDownMissing _ => execZoneDownMissing_kept Kept.rfl'
  | .zoneUpMissing _ _ => execZoneUpMissing_kept Kept.rfl'
  | .preparingRampDone _ => execPreparingRampDone_kept Kept.rfl'
  | .brakeReleaseFeedback _ => execBrakeReleaseFeedback_kept Kept.rfl'
  | .brktTimeout _ => execBrktTimeout_kept Kept.rfl'
  | .weighingEnd _ => execWeighingEnd_kept Kept.rfl'
  | .prestartRetry _ => execPrestartRetry_kept Kept.rfl'
  | .stopHoldEnd _ => execStopHoldEnd_kept Kept.rfl'
  | .brakeEngagedFeedback _ => execBrakeEngagedFeedback_kept Kept.rfl'
  | .rescueEnd _ => execRescueEnd_kept Kept.rfl'
  | .inspectionHoldExpiry _ => execInspectionHoldExpiry_kept Kept.rfl'
  | .inspectionBrakeDelay _ => execInspectionBrakeDelay_kept Kept.rfl'
  | .bmsReport _ => execBmsReport_kept Kept.rfl'
  | .bmsStale _ => execBmsStale_kept Kept.rfl'
  | .doorEvaluation _ => execDoorEvaluation_kept Kept.rfl'
  | .doorEvalLate _ => execDoorEvalLate_kept Kept.rfl'
  | .dwellExpiry _ => execDwellExpiry_kept Kept.rfl'
  | .blocked30s _ => execBlocked30s_kept Kept.rfl'
  | .blocked180s _ => execBlocked180s_kept Kept.rfl'
  | .nudgeStart _ => execNudgeStart_kept Kept.rfl'
  | .openRetry _ => execOpenRetry_kept Kept.rfl'
  | .edgeRefStore _ => execEdgeRefStore_kept Kept.rfl'
  | .policyDeadline => execPolicyDeadline_kept Kept.rfl'
  | .callReevalTimer _ => execCallReevalTimer_kept Kept.rfl'
  | .unassignedTimeout _ => execUnassignedTimeout_kept Kept.rfl'
  | .callDiscard _ => execCallDiscard_kept Kept.rfl'
  | .motionUpdateApply => execMotionUpdateApply_kept Kept.rfl'
  | .diSample _ => execDiSample_kept Kept.rfl'
  | .doOverload _ => execDoOverload_kept Kept.rfl'
  | .doSilence => execDoSilence_kept Kept.rfl'
  | .aiConversion _ _ _ => execAiConversion_kept Kept.rfl'
  | .aiOvercurrent _ => execAiOvercurrent_kept Kept.rfl'
  | .aiReconnect _ => execAiReconnect_kept Kept.rfl'
  | .sdFilterOutput _ _ _ => execSdFilterOutput_kept Kept.rfl'
  | .sdOcOutput _ _ => execSdOcOutput_kept Kept.rfl'
  | .sdStuckLine _ => execSdStuckLine_kept Kept.rfl'
  | .quadSample _ _ _ _ => execQuadSample_kept Kept.rfl'
  | .quadLineLow _ => execQuadLineLow_kept Kept.rfl'
  | .pwmPeriod _ _ => execPwmPeriod_kept Kept.rfl'
  | .stepPulse _ => execStepPulse_kept Kept.rfl'
  | .stepRateUpdate _ => execStepRateUpdate_kept Kept.rfl'
  | .stepSearchExhausted _ => execStepSearchExhausted_kept Kept.rfl'
  | .canFrameRx _ _ _ => execCanFrameRx_kept Kept.rfl'
  | .canBusIdle _ => execCanBusIdle_kept Kept.rfl'
  | .canTxSuccess _ _ => execCanTxSuccess_kept Kept.rfl'
  | .canCollision _ => execCanCollision_kept Kept.rfl'
  | .canBackoffEnd _ => execCanBackoffEnd_kept Kept.rfl'
  | .canBusOff _ => execCanBusOff_kept Kept.rfl'
  | .canRecoveryDone _ => execCanRecoveryDone_kept Kept.rfl'
  | .canWake _ => execCanWake_kept Kept.rfl'
  | .canReferenceDue _ => execCanReferenceDue_kept Kept.rfl'
  | .canDrain _ _ => execCanDrain_kept Kept.rfl'
  | .objWord0Read _ => execObjWord0Read_kept Kept.rfl'
  | .objWord22Read _ => execObjWord22Read_kept Kept.rfl'
  | .objLockExpiry _ => execObjLockExpiry_kept Kept.rfl'
  | .objArm _ _ => execObjArm_kept Kept.rfl'
  | .recEventIntake _ _ => execRecEventIntake_kept Kept.rfl'
  | .recSealTimer => execRecSealTimer_kept Kept.rfl'
  | .recPageSpill _ => execRecPageSpill_kept Kept.rfl'
  | .nvmeFlushTimer => execNvmeFlushTimer_kept Kept.rfl'
  | .nvmeFlushDone _ => execNvmeFlushDone_kept Kept.rfl'
  | .nvmeWriteDone _ _ _ => execNvmeWriteDone_kept Kept.rfl'
  | .smartPoll _ _ => execSmartPoll_kept Kept.rfl'
  | .driveAttach _ _ => execDriveAttach_kept Kept.rfl'
  | .driveFail _ _ => execDriveFail_kept Kept.rfl'
  | .mirrorProgram _ _ => execMirrorProgram_kept Kept.rfl'
  | .traceHoldExpiry _ => execTraceHoldExpiry_kept Kept.rfl'
  | .bandwidthWindowEnd _ _ _ => execBandwidthWindowEnd_kept Kept.rfl'
  | .pmbusAck _ => execPmbusAck_kept Kept.rfl'
  | .pmbusTimeout _ => execPmbusTimeout_kept Kept.rfl'
  | .s3StageEnd _ => execS3StageEnd_kept Kept.rfl' rfl
  | .s3Wake _ => execS3Wake_kept Kept.rfl'
  | .s3RailsUp _ => execS3RailsUp_kept Kept.rfl' rfl
  | .s3ReturnCreelOpen _ => execS3ReturnCreelOpen_kept Kept.rfl'
  | .remoteFaultRx _ _ => execRemoteFaultRx_kept Kept.rfl'
  | .blockLockGained _ => execBlockLockGained_kept Kept.rfl'
  | .sideLinkDown _ => execSideLinkDown_kept Kept.rfl'
  | .pcieLinkUp => execPcieLinkUp_kept Kept.rfl'
  | .ptpUnavailable => execPtpUnavailable_kept Kept.rfl'
  | .registerRead _ _ _ => execRegisterRead_kept Kept.rfl'
  | .ctrValHighRead _ _ => execCtrValHighRead_kept Kept.rfl'
  | .canErrorDetected _ _ => execCanErrorDetected_kept Kept.rfl'
  | .safetyCoreFault => execSafetyCoreFault_kept Kept.rfl'
  | .scarpInternalFault => execScarpInternalFault_kept Kept.rfl'
  | .configStoreDone => execConfigStoreDone_kept Kept.rfl'
  | .jtagInstruction _ => execJtagInstruction_kept Kept.rfl'


/-- What one command leads to is kept but for its parts. -/
theorem kept_of_exec (h : exec c s = .next t) : Kept (mayChange c) s t := (h ▸ exec_kept c).holds

/-- Settles O1: a step is one case of its definition, by what waits. -/
theorem stepRunsTheFrontCommand : Obligations.StepRunsTheFrontCommand := by
  refine ⟨fun _ _ => rfl, fun c l s h => ?_, fun s h => ?_⟩ <;> simp [step, h]

/-- Settles O2: the frame of each command. -/
theorem everyCommandAnswersWithinItsFrame : Obligations.EveryCommandAnswersWithinItsFrame :=
  fun c _ => (exec_frame c).answers

/-- Settles O3: every command that executes a request is one call of `serve` with the request's opcode, whose first check is the right. -/
theorem requestWithoutTheRightIsDenied : Obligations.RequestWithoutTheRightIsDenied := by
  intro c r op s hreq hright
  cases c <;> cases hreq <;> exact congrArg Host.Outcome.next (serve_denied hright)

/-- The state after reset is whole: nothing is written and nothing counted. -/
theorem whole_reset : Whole State.reset := ⟨rfl, rfl, fun _ => Nat.zero_le _⟩

/-- With neither die running, no STO line is on. -/
theorem stoOn_reset (c : Chan) (n : Nat) : stoOn State.reset c n = false := by
  have henabled : chanEnabled State.reset c = false := by cases c <;> rfl
  simp [stoOn, henabled]

/-- Settles O4: the values after reset. -/
theorem resetIsWhole : Obligations.ResetIsWhole :=
  ⟨whole_reset, ⟨rfl, rfl, rfl, rfl⟩, ⟨rfl, rfl, rfl⟩, fun _ => rfl, stoOn_reset, ⟨rfl, rfl, rfl⟩, rfl, rfl, rfl⟩

/-- What is kept of a whole state leaves it whole. -/
theorem Whole.of_kept {x : Part → Bool} (h : Whole s) (hk : Kept x s t) : Whole t :=
  have hwf := hk.wf ⟨h.lpddr, h.wlocal⟩
  ⟨hwf.1, hwf.2, fun i => (hk.cnt i (h.width i)).1⟩

/-- A command leaves a whole state whole. -/
theorem Whole.exec (h : Whole s) (he : exec c s = .next t) : Whole t := h.of_kept (kept_of_exec he)

/-- Settles O5: a step is one command or none, and every command keeps the canonical memories and the widths. -/
theorem everyStepKeepsTheStateWhole : Obligations.EveryStepKeepsTheStateWhole := by
  intro s t hs hstep
  match hq : s.pending with
  | [] =>
    rw [stepRunsTheFrontCommand.2.2 s hq] at hstep
    cases hstep
    exact hs
  | c :: l =>
    rw [stepRunsTheFrontCommand.2.1 c l s hq] at hstep
    exact Whole.exec (s := s.withPending l) ⟨hs.lpddr, hs.wlocal, hs.width⟩ hstep

/-- Settles O6: counts are kept but by the commands that remove the supply. -/
theorem countersFallOnlyWithTheSupply : Obligations.CountersFallOnlyWithTheSupply := by
  intro c s t i he hc hi
  exact ((kept_of_exec he).cnt i hi).2.resolve_left (ne_true_of_eq_false hc)

/-- Settles O7: the memories are kept, or cleared, but by the commands that write registers. -/
theorem debugMemoriesChangeOnlyByRegisterWrites : Obligations.DebugMemoriesChangeOnlyByRegisterWrites := by
  intro c s t he hc
  exact (kept_of_exec he).mem.resolve_left (ne_true_of_eq_false hc)

/-- Settles O8: the fuses are kept but for the lifecycle under DEBUG_AUTH. -/
theorem fusesOnlyBurn : Obligations.FusesOnlyBurn := by
  intro c s t he
  obtain ⟨hlc, hsvn, hkeys⟩ := (kept_of_exec he).fuse
  refine ⟨fun hne => hlc.resolve_left fun h => ?_, hsvn, hkeys⟩
  match c, h with
  | .debugAuth r, _ => exact hne r rfl

/-- Settles O9: the trips of the Scarp die are kept but by the commands that end trips. -/
theorem scarpTripsStayLatched : Obligations.ScarpTripsStayLatched := by
  intro c s t n cause he hc hin
  obtain ⟨-, -, -, htrips, -⟩ := (kept_of_exec he).safety
  exact htrips.resolve_left (ne_true_of_eq_false hc) n cause hin

/-- Settles O10: the stored configuration is kept but by the commands that store it, and the log's numbering by all. -/
theorem storedSafetyChangesOnlyByCommit : Obligations.StoredSafetyChangesOnlyByCommit := by
  intro c s t he
  obtain ⟨hlog, hcore, hscarp, -, hpass⟩ := (kept_of_exec he).safety
  refine ⟨fun hc => ?_, hlog⟩
  have hno := ne_true_of_eq_false hc
  exact ⟨hcore.resolve_left hno, hscarp.resolve_left hno, hpass.resolve_left hno⟩

/-- Settles O11: the cycle number is kept but by the commands that set it. -/
theorem cycleNumberMovesOnlyAtInstants : Obligations.CycleNumberMovesOnlyAtInstants :=
  fun _ _ _ he hc => (kept_of_exec he).cycle.resolve_left (ne_true_of_eq_false hc)

end Sys2Proof.Machine
end

section
/-! Reading a table or one object of the state after an update: the same key, another key, another part of the state. -/

namespace Sys2Proof.Machine

open Sys2Proof

variable {α β : Type} {s t : State} {x : Comp → Bool}

/-! ### Sparse tables -/

@[simp] theorem tabGet_tabMod_same {l : Tab α} {d : α} {f : α → α} {k : Nat} : tabGet (tabMod l d k f) d k = f (tabGet l d k) :=
  tabGet_tabMod.trans (if_pos rfl)

theorem tabGet_tabMod_ne {l : Tab α} {d : α} {f : α → α} {j k : Nat} (h : j ≠ k) : tabGet (tabMod l d k f) d j = tabGet l d j :=
  tabGet_tabMod.trans (if_neg h.symm)

@[simp] theorem tabGet_tabSet_same {l : Tab α} {d v : α} {k : Nat} : tabGet (tabSet l k v) d k = v :=
  tabGet_tabSet.trans (if_pos rfl)

theorem tabGet_tabSet_ne {l : Tab α} {d v : α} {j k : Nat} (h : j ≠ k) : tabGet (tabSet l k v) d j = tabGet l d j :=
  tabGet_tabSet.trans (if_neg h.symm)

@[simp] theorem tabHas_tabSet {l : Tab α} {v : α} {j k : Nat} : tabHas (tabSet l k v) j = (k == j || tabHas l j) := by
  induction l with
  | nil => simp [tabSet, tabHas]
  | cons a l ih =>
    obtain ⟨i, w⟩ := a
    simp only [tabSet]
    split
    · simp [tabHas]
    · split
      · rename_i hki
        subst hki
        cases hj : k == j <;> simp [tabHas, hj]
      · simp only [tabHas, ih, ← Bool.or_assoc, Bool.or_comm (i == j)]

@[simp] theorem tabHas_tabMod {l : Tab α} {d : α} {f : α → α} {j k : Nat} : tabHas (tabMod l d k f) j = (k == j || tabHas l j) :=
  tabHas_tabSet

/-- A key taken out of a table is not listed. -/
@[simp] theorem tabHas_tabDel_same {l : Tab α} {k : Nat} : tabHas (tabDel l k) k = false := by
  induction l with
  | nil => rfl
  | cons a l ih =>
    by_cases h : a.1 = k
    · simpa [tabDel, h] using ih
    · simpa [tabDel, h, tabHas] using ih

theorem tabGet_tabDel_ne {l : Tab α} {d : α} {j k : Nat} (h : j ≠ k) : tabGet (tabDel l k) d j = tabGet l d j := by
  induction l with
  | nil => rfl
  | cons a l ih =>
    obtain ⟨i, w⟩ := a
    by_cases hi : i = k
    · subst hi
      rw [show tabDel ((i, w) :: l) i = tabDel l i by simp [tabDel], ih, tabGet, if_neg h.symm]
    · rw [show tabDel ((i, w) :: l) k = (i, w) :: tabDel l k by simp [tabDel, hi]]
      simp only [tabGet, ih]

/-- An entry-wise change of a table that keeps the default is read entry by entry. -/
theorem tabGet_map {l : Tab α} {d : α} {f : α → α} (hd : f d = d) {k : Nat} :
    tabGet (l.map fun p => (p.1, f p.2)) d k = f (tabGet l d k) := by
  induction l with
  | nil => exact hd.symm
  | cons a l ih =>
    simp only [List.map_cons, tabGet, ih]
    split <;> rfl

/-- An entry-wise change of a table is read entry by entry where the key is listed. -/
theorem tabGet_map_of_tabHas {l : Tab α} {d : α} {e : β} {f : α → β} {k : Nat} (h : tabHas l k = true) :
    tabGet (l.map fun p => (p.1, f p.2)) e k = f (tabGet l d k) := by
  induction l with
  | nil => simp [tabHas] at h
  | cons a l ih =>
    simp only [List.map_cons, tabGet]
    split
    · rfl
    · rename_i hk
      exact ih (by simpa [tabHas, hk] using h)

/-- A key that is not listed reads as the default. -/
theorem tabGet_of_not_tabHas {l : Tab α} {d : α} {k : Nat} (h : tabHas l k = false) : tabGet l d k = d := by
  induction l with
  | nil => rfl
  | cons a l ih =>
    simp only [tabHas, Bool.or_eq_false_iff, beq_eq_false_iff_ne] at h
    rw [tabGet, if_neg h.1, ih h.2]

/-! ### The object that is changed -/

@[simp] theorem State.ring_onRing_same {n : Nat} {f : RingSt → RingSt} : (s.onRing n f).ring n = f (s.ring n) := tabGet_tabMod_same

theorem State.ring_onRing_ne {n k : Nat} {f : RingSt → RingSt} (h : k ≠ n) : (s.onRing n f).ring k = s.ring k := tabGet_tabMod_ne h

@[simp] theorem State.link_onLink_same {n : Nat} {f : LinkSt → LinkSt} : (s.onLink n f).link n = f (s.link n) := tabGet_tabMod_same

theorem State.link_onLink_ne {n k : Nat} {f : LinkSt → LinkSt} (h : k ≠ n) : (s.onLink n f).link k = s.link k := tabGet_tabMod_ne h

@[simp] theorem State.axis_onAxis_same {n : Nat} {f : AxisSt → AxisSt} : (s.onAxis n f).axis n = f (s.axis n) := tabGet_tabMod_same

theorem State.axis_onAxis_ne {n k : Nat} {f : AxisSt → AxisSt} (h : k ≠ n) : (s.onAxis n f).axis k = s.axis k := tabGet_tabMod_ne h

@[simp] theorem State.weaver_onWeaver_same {n : Nat} {f : WeaverSt → WeaverSt} : (s.onWeaver n f).weaver n = f (s.weaver n) := tabGet_tabMod_same

theorem State.weaver_onWeaver_ne {n k : Nat} {f : WeaverSt → WeaverSt} (h : k ≠ n) : (s.onWeaver n f).weaver k = s.weaver k := tabGet_tabMod_ne h

@[simp] theorem State.door_onDoor_same {n : Nat} {f : DoorSt → DoorSt} : (s.onDoor n f).door n = f (s.door n) := tabGet_tabMod_same

theorem State.door_onDoor_ne {n k : Nat} {f : DoorSt → DoorSt} (h : k ≠ n) : (s.onDoor n f).door k = s.door k := tabGet_tabMod_ne h

@[simp] theorem State.queue_onQueue_same {n : Nat} {f : Queue → Queue} : (s.onQueue n f).queue n = f (s.queue n) := tabGet_tabMod_same

theorem State.queue_onQueue_ne {n k : Nat} {f : Queue → Queue} (h : k ≠ n) : (s.onQueue n f).queue k = s.queue k := tabGet_tabMod_ne h

@[simp] theorem State.shaft_onShaft_same {n : Nat} {f : ShaftSt → ShaftSt} : (s.onShaft n f).shaft n = f (s.shaft n) := tabGet_tabMod_same

theorem State.shaft_onShaft_ne {n k : Nat} {f : ShaftSt → ShaftSt} (h : k ≠ n) : (s.onShaft n f).shaft k = s.shaft k := tabGet_tabMod_ne h

@[simp] theorem State.car_onCar_same {n : Nat} {f : CarSt → CarSt} : (s.onCar n f).car n = f (s.car n) := tabGet_tabMod_same

theorem State.car_onCar_ne {n k : Nat} {f : CarSt → CarSt} (h : k ≠ n) : (s.onCar n f).car k = s.car k := tabGet_tabMod_ne h

@[simp] theorem State.di_onDi_same {n : Nat} {f : DiSt → DiSt} : (s.onDi n f).di n = f (s.di n) := tabGet_tabMod_same

theorem State.di_onDi_ne {n k : Nat} {f : DiSt → DiSt} (h : k ≠ n) : (s.onDi n f).di k = s.di k := tabGet_tabMod_ne h

@[simp] theorem State.ai_onAi_same {n : Nat} {f : AiSt → AiSt} : (s.onAi n f).ai n = f (s.ai n) := tabGet_tabMod_same

theorem State.ai_onAi_ne {n k : Nat} {f : AiSt → AiSt} (h : k ≠ n) : (s.onAi n f).ai k = s.ai k := tabGet_tabMod_ne h

@[simp] theorem State.sd_onSd_same {n : Nat} {f : SdSt → SdSt} : (s.onSd n f).sd n = f (s.sd n) := tabGet_tabMod_same

theorem State.sd_onSd_ne {n k : Nat} {f : SdSt → SdSt} (h : k ≠ n) : (s.onSd n f).sd k = s.sd k := tabGet_tabMod_ne h

@[simp] theorem State.qa_onQa_same {n : Nat} {f : QaSt → QaSt} : (s.onQa n f).qa n = f (s.qa n) := tabGet_tabMod_same

theorem State.qa_onQa_ne {n k : Nat} {f : QaSt → QaSt} (h : k ≠ n) : (s.onQa n f).qa k = s.qa k := tabGet_tabMod_ne h

@[simp] theorem State.pwm_onPwm_same {n : Nat} {f : PwmSt → PwmSt} : (s.onPwm n f).pwm n = f (s.pwm n) := tabGet_tabMod_same

theorem State.pwm_onPwm_ne {n k : Nat} {f : PwmSt → PwmSt} (h : k ≠ n) : (s.onPwm n f).pwm k = s.pwm k := tabGet_tabMod_ne h

@[simp] theorem State.stp_onStp_same {n : Nat} {f : StpSt → StpSt} : (s.onStp n f).stp n = f (s.stp n) := tabGet_tabMod_same

theorem State.stp_onStp_ne {n k : Nat} {f : StpSt → StpSt} (h : k ≠ n) : (s.onStp n f).stp k = s.stp k := tabGet_tabMod_ne h

@[simp] theorem State.obj_onObj_same {n : Nat} {f : CanObj → CanObj} : (s.onObj n f).obj n = f (s.obj n) := tabGet_tabMod_same

theorem State.obj_onObj_ne {n k : Nat} {f : CanObj → CanObj} (h : k ≠ n) : (s.onObj n f).obj k = s.obj k := tabGet_tabMod_ne h

@[simp] theorem State.call_onCall_same {n : Nat} {f : Call → Call} : (s.onCall n f).call n = f (s.call n) := tabGet_tabMod_same

theorem State.call_onCall_ne {n k : Nat} {f : Call → Call} (h : k ≠ n) : (s.onCall n f).call k = s.call k := tabGet_tabMod_ne h

@[simp] theorem State.drive_onDrive_same {n : Nat} {f : Drive → Drive} : (s.onDrive n f).drive n = f (s.drive n) := tabGet_tabMod_same

theorem State.drive_onDrive_ne {n k : Nat} {f : Drive → Drive} (h : k ≠ n) : (s.onDrive n f).drive k = s.drive k := tabGet_tabMod_ne h

@[simp] theorem State.sector_onSector_same {n : Nat} {f : Sector → Sector} : (s.onSector n f).sector n = f (s.sector n) := tabGet_tabMod_same

theorem State.sector_onSector_ne {n k : Nat} {f : Sector → Sector} (h : k ≠ n) : (s.onSector n f).sector k = s.sector k := tabGet_tabMod_ne h

@[simp] theorem State.cage_onCage_same {n : Nat} {f : Cage → Cage} : (s.onCage n f).cage n = f (s.cage n) := tabGet_tabMod_same

theorem State.cage_onCage_ne {n k : Nat} {f : Cage → Cage} (h : k ≠ n) : (s.onCage n f).cage k = s.cage k := tabGet_tabMod_ne h

@[simp] theorem State.chan_onChan_same {c : Chan} {f : ChanSt → ChanSt} : (s.onChan c f).chan c = f (s.chan c) := by
  cases c <;> rfl

theorem State.chan_onChan_ne {c d : Chan} {f : ChanSt → ChanSt} (h : d ≠ c) : (s.onChan c f).chan d = s.chan d :=
  match c, d, h with
  | .core, .scarp, _ => rfl
  | .scarp, .core, _ => rfl
  | .core, .core, h => absurd rfl h
  | .scarp, .scarp, h => absurd rfl h

/-! ### All the others -/

theorem OtherRings.trans {n : Nat} {u : State} (h : OtherRings n s t) (g : OtherRings n t u) : OtherRings n s u := fun k hk => (g k hk).trans (h k hk)

theorem OtherRings.on {n : Nat} {f : RingSt → RingSt} : OtherRings n s (s.onRing n f) := fun _ hk => State.ring_onRing_ne hk

theorem OtherRings.of_eq {n : Nat} (h : t.rings = s.rings) : OtherRings n s t := fun _ _ => by rw [State.ring, h, State.ring]

theorem OtherCars.trans {n : Nat} {u : State} (h : OtherCars n s t) (g : OtherCars n t u) : OtherCars n s u := fun k hk => (g k hk).trans (h k hk)

theorem OtherCars.on {n : Nat} {f : CarSt → CarSt} : OtherCars n s (s.onCar n f) := fun _ hk => State.car_onCar_ne hk

theorem OtherCars.of_eq {n : Nat} (h : t.motion = s.motion) : OtherCars n s t := fun _ _ => by rw [State.car, h, State.car]

theorem OtherShafts.trans {n : Nat} {u : State} (h : OtherShafts n s t) (g : OtherShafts n t u) : OtherShafts n s u := fun k hk => (g k hk).trans (h k hk)

theorem OtherShafts.on {n : Nat} {f : ShaftSt → ShaftSt} : OtherShafts n s (s.onShaft n f) := fun _ hk => State.shaft_onShaft_ne hk

theorem OtherShafts.of_eq {n : Nat} (h : t.motion = s.motion) : OtherShafts n s t := fun _ _ => by rw [State.shaft, h, State.shaft]

theorem OtherDoors.trans {n : Nat} {u : State} (h : OtherDoors n s t) (g : OtherDoors n t u) : OtherDoors n s u := fun k hk => (g k hk).trans (h k hk)

theorem OtherDoors.on {n : Nat} {f : DoorSt → DoorSt} : OtherDoors n s (s.onDoor n f) := fun _ hk => State.door_onDoor_ne hk

theorem OtherDoors.of_eq {n : Nat} (h : t.doors = s.doors) : OtherDoors n s t := fun _ _ => by rw [State.door, h, State.door]

/-- One count of one counter is one count (19 R501). -/
theorem countsOne_bump {i : Nat} : CountsOne i s (bump s i) := fun j => by
  rw [show (bump s i).ctr.cnt = tabMod s.ctr.cnt 0 i fun v => satAdd max48 v 1 from rfl, tabGet_tabMod]
  simp only [eq_comm (a := i)]
  split
  · rename_i h
    rw [h]
  · rfl

/-- What counts does not depend on the rest of the state. -/
theorem CountsOne.of_eq {i : Nat} {s' t' : State} (h : CountsOne i s t) (hs : s'.ctr = s.ctr) (ht : t'.ctr = t.ctr) :
    CountsOne i s' t' := fun j => by rw [hs, ht, h j]

/-! ### Objects of a part that is not touched -/

theorem SameBut.ring (h : SameBut x s t) (hx : x .rings = false) (k : Nat) : t.ring k = s.ring k := by rw [State.ring, h.2 .rings hx, State.ring]

theorem SameBut.link (h : SameBut x s t) (hx : x .links = false) (k : Nat) : t.link k = s.link k := by rw [State.link, h.2 .links hx, State.link]

theorem SameBut.axis (h : SameBut x s t) (hx : x .loop = false) (k : Nat) : t.axis k = s.axis k := by rw [State.axis, h.2 .loop hx, State.axis]

theorem SameBut.weaver (h : SameBut x s t) (hx : x .loop = false) (k : Nat) : t.weaver k = s.weaver k := by rw [State.weaver, h.2 .loop hx, State.weaver]

theorem SameBut.door (h : SameBut x s t) (hx : x .doors = false) (k : Nat) : t.door k = s.door k := by rw [State.door, h.2 .doors hx, State.door]

theorem SameBut.pstat (h : SameBut x s t) (hx : x .host = false) (k : Nat) : t.pstat k = s.pstat k := by rw [State.pstat, h.2 .host hx, State.pstat]

theorem SameBut.queue (h : SameBut x s t) (hx : x .host = false) (k : Nat) : t.queue k = s.queue k := by rw [State.queue, h.2 .host hx, State.queue]

theorem SameBut.shaft (h : SameBut x s t) (hx : x .motion = false) (k : Nat) : t.shaft k = s.shaft k := by rw [State.shaft, h.2 .motion hx, State.shaft]

theorem SameBut.car (h : SameBut x s t) (hx : x .motion = false) (k : Nat) : t.car k = s.car k := by rw [State.car, h.2 .motion hx, State.car]

theorem SameBut.di (h : SameBut x s t) (hx : x .field = false) (k : Nat) : t.di k = s.di k := by rw [State.di, h.2 .field hx, State.di]

theorem SameBut.ai (h : SameBut x s t) (hx : x .field = false) (k : Nat) : t.ai k = s.ai k := by rw [State.ai, h.2 .field hx, State.ai]

theorem SameBut.sd (h : SameBut x s t) (hx : x .field = false) (k : Nat) : t.sd k = s.sd k := by rw [State.sd, h.2 .field hx, State.sd]

theorem SameBut.qa (h : SameBut x s t) (hx : x .field = false) (k : Nat) : t.qa k = s.qa k := by rw [State.qa, h.2 .field hx, State.qa]

theorem SameBut.pwm (h : SameBut x s t) (hx : x .field = false) (k : Nat) : t.pwm k = s.pwm k := by rw [State.pwm, h.2 .field hx, State.pwm]

theorem SameBut.stp (h : SameBut x s t) (hx : x .field = false) (k : Nat) : t.stp k = s.stp k := by rw [State.stp, h.2 .field hx, State.stp]

theorem SameBut.obj (h : SameBut x s t) (hx : x .can = false) (k : Nat) : t.obj k = s.obj k := by rw [State.obj, h.2 .can hx, State.obj]

theorem SameBut.call (h : SameBut x s t) (hx : x .disp = false) (k : Nat) : t.call k = s.call k := by rw [State.call, h.2 .disp hx, State.call]

theorem SameBut.drive (h : SameBut x s t) (hx : x .cairn = false) (k : Nat) : t.drive k = s.drive k := by rw [State.drive, h.2 .cairn hx, State.drive]

theorem SameBut.sector (h : SameBut x s t) (hx : x .cairn = false) (k : Nat) : t.sector k = s.sector k := by rw [State.sector, h.2 .cairn hx, State.sector]

theorem SameBut.cage (h : SameBut x s t) (hx : x .supply = false) (k : Nat) : t.cage k = s.cage k := by rw [State.cage, h.2 .supply hx, State.cage]

theorem SameBut.part (h : SameBut x s t) (hx : x .host = false) (k : Nat) : t.part k = s.part k := by rw [State.part, h.2 .host hx, State.part]

theorem SameBut.ch (h : SameBut x s t) (hx : x .can = false) (k : Nat) : t.ch k = s.ch k := by rw [State.ch, h.2 .can hx, State.ch]

theorem SameBut.key (h : SameBut x s t) (hx : x .sys = false) (k : Nat) : t.key k = s.key k := by rw [State.key, h.2 .sys hx, State.key]

theorem SameBut.port (h : SameBut x s t) (hx : x .ctr = false) (k : Nat) : t.port k = s.port k := by rw [State.port, h.2 .ctr hx, State.port]

theorem SameBut.chan (h : SameBut x s t) (hx : x .safety = false) (c : Chan) : t.chan c = s.chan c := by
  cases c
  · exact congrArg SafetySt.core (h.2 .safety hx)
  · exact congrArg SafetySt.scarp (h.2 .safety hx)

end Sys2Proof.Machine
end

section
/-! Creel's queues (02): checks of fields and clamps, subscriptions, the queue commands, completions and events. -/

namespace Sys2Proof.Machine

open Sys2Proof

variable {s : State} {r : Request} {c : Completion} {n : Nat}

/-! ### Enumerated fields and limits (02 R46, R52) -/

/-- No offset is answered exactly when every field passes. -/
theorem firstBad_eq_none {l : List (Nat × Bool)} : firstBad l = none ↔ ∀ x ∈ l, x.2 = true := by
  refine ⟨fun h => ?_, firstBad_none⟩
  induction l with
  | nil => simp
  | cons a l ih =>
    obtain ⟨o, b⟩ := a
    simp only [firstBad] at h
    split at h
    · rename_i hrest
      cases b
      · simp at h
      · simpa using ih hrest
    · cases b <;> simp at h

/-- The offset answered is that of a failing field, and no failing field has a lower one. -/
theorem firstBad_eq_some {l : List (Nat × Bool)} {o : Nat} :
    firstBad l = some o ↔ (o, false) ∈ l ∧ ∀ x ∈ l, x.2 = false → o ≤ x.1 := by
  induction l generalizing o with
  | nil => simp [firstBad]
  | cons a l ih =>
    obtain ⟨off, b⟩ := a
    cases hrest : firstBad l with
    | none =>
      have hpass := firstBad_eq_none.1 hrest
      cases b
      · constructor
        · intro h
          cases (show some off = some o by simpa [firstBad, hrest] using h)
          exact ⟨List.mem_cons_self, fun x hx hf => by
            rcases List.mem_cons.1 hx with rfl | hx
            · exact Nat.le_refl _
            · simp [hpass x hx] at hf⟩
        · rintro ⟨hin, -⟩
          rcases List.mem_cons.1 hin with h | h
          · simp [firstBad, hrest, (Prod.mk.inj h).1]
          · simpa using hpass _ h
      · constructor
        · simp [firstBad, hrest]
        · rintro ⟨hin, -⟩
          rcases List.mem_cons.1 hin with h | h
          · simp at h
          · simpa using hpass _ h
    | some m =>
      obtain ⟨hin, hleast⟩ := ih.1 hrest
      cases b
      · have heq : firstBad ((off, false) :: l) = some (min off m) := by simp [firstBad, hrest]
        rw [heq, Option.some.injEq]
        constructor
        · rintro rfl
          refine ⟨?_, fun x hx hf => ?_⟩
          · rcases Nat.le_total off m with h | h
            · simp [Nat.min_eq_left h]
            · simp [Nat.min_eq_right h, hin]
          · rcases List.mem_cons.1 hx with rfl | hx
            · exact Nat.min_le_left _ _
            · exact Nat.le_trans (Nat.min_le_right _ _) (hleast x hx hf)
        · rintro ⟨ho, hall⟩
          have hoff : o ≤ off := hall _ List.mem_cons_self rfl
          have hm : o ≤ m := hall _ (List.mem_cons_of_mem _ hin) rfl
          rcases List.mem_cons.1 ho with h | h
          · have := (Prod.mk.inj h).1
            omega
          · have := hleast _ h rfl
            omega
      · have heq : firstBad ((off, true) :: l) = firstBad l := by simp [firstBad, hrest]
        rw [heq, ih]
        simp

/-- Settles O15: the lowest failing offset by induction over the fields; the nearest limit by the cases of the clamp. -/
theorem lowestFailingFieldAndNearestLimit : Obligations.LowestFailingFieldAndNearestLimit := by
  refine ⟨fun _ _ => firstBad_eq_some, fun _ => firstBad_eq_none, fun lo hi v h => ?_⟩
  unfold clampN
  split
  · omega
  · split <;> omega

/-! ### What of the host part an update leaves -/

@[simp] theorem queue_bump {i k : Nat} : (bump s i k).queue n = s.queue n := rfl

@[simp] theorem queue_bumpPart {p k m : Nat} : (bumpPart s p k m).queue n = s.queue n := rfl

@[simp] theorem queue_onPstat {p : Nat} {f : PartSt → PartSt} : (s.onPstat p f).queue n = s.queue n := rfl

@[simp] theorem part_onQueue {p : Nat} {f : Queue → Queue} : (s.onQueue n f).part p = s.part p := rfl

/-- Raising a queue's vector changes of the queues at most what waits to be raised (02 R41). -/
theorem queue_raiseQueue {k : Nat} : ∃ b, (raiseQueue s k).queue n = { s.queue n with unraised := b } := by
  unfold raiseQueue raiseVector
  split
  · split <;> exact ⟨_, rfl⟩
  · by_cases h : n = k
    · subst h
      exact ⟨_, State.queue_onQueue_same⟩
    · exact ⟨_, State.queue_onQueue_ne h⟩

@[simp] theorem comps_raiseQueue {k : Nat} : ((raiseQueue s k).queue n).comps = (s.queue n).comps := by
  obtain ⟨b, hb⟩ := queue_raiseQueue (s := s) (n := n) (k := k)
  rw [hb]

@[simp] theorem slots_raiseQueue {k : Nat} : ((raiseQueue s k).queue n).slots = (s.queue n).slots := by
  obtain ⟨b, hb⟩ := queue_raiseQueue (s := s) (n := n) (k := k)
  rw [hb]

@[simp] theorem dropped_raiseQueue {k : Nat} : ((raiseQueue s k).queue n).dropped = (s.queue n).dropped := by
  obtain ⟨b, hb⟩ := queue_raiseQueue (s := s) (n := n) (k := k)
  rw [hb]

/-- Counting clamped fields changes what Creel keeps of the partition alone (02 R52). -/
theorem noteClamps_queue {offs : List Nat} : (noteClamps s r offs).queue n = s.queue n := by
  unfold noteClamps
  split <;> rfl

theorem noteClamps_queues {offs : List Nat} : (noteClamps s r offs).host.queues = s.host.queues := by
  unfold noteClamps
  split <;> rfl

theorem noteClamps_part {offs : List Nat} {p : Nat} : (noteClamps s r offs).part p = s.part p := by
  unfold noteClamps
  split <;> rfl

/-- What comes into force with a completion changes the queue at byte 16 alone (02 R65, R546). -/
theorem whenWritten_slots_comps : ((whenWritten s r c).queue n).slots = (s.queue n).slots ∧
    ((whenWritten s r c).queue n).comps = (s.queue n).comps := by
  have hq (f : Queue → Queue) (hslots : ∀ q, (f q).slots = q.slots) (hcomps : ∀ q, (f q).comps = q.comps) :
      ((s.onQueue (rq r 16 4) f).queue n).slots = (s.queue n).slots ∧
        ((s.onQueue (rq r 16 4) f).queue n).comps = (s.queue n).comps := by
    by_cases h : n = rq r 16 4
    · subst h
      rw [State.queue_onQueue_same, hslots, hcomps]
      exact ⟨rfl, rfl⟩
    · rw [State.queue_onQueue_ne h]
      exact ⟨rfl, rfl⟩
  unfold whenWritten
  dsimp only
  split
  · exact ⟨rfl, rfl⟩
  · split
    · exact hq _ (fun _ => rfl) fun _ => rfl
    · exact hq _ (fun _ => rfl) fun _ => rfl
    · split
      · exact hq _ (fun _ => rfl) fun _ => rfl
      · exact ⟨rfl, rfl⟩
    · exact ⟨rfl, rfl⟩

theorem whenWritten_each {l : List (Request × Completion)} :
    ((s.each l fun s (r, c) => whenWritten s r c).queue n).slots = (s.queue n).slots ∧
    ((s.each l fun s (r, c) => whenWritten s r c).queue n).comps = (s.queue n).comps := by
  unfold State.each
  induction l generalizing s with
  | nil => exact ⟨rfl, rfl⟩
  | cons a l ih =>
    obtain ⟨hslots, hcomps⟩ := ih (s := whenWritten s a.1 a.2)
    obtain ⟨hs, hc⟩ := whenWritten_slots_comps (s := s) (r := a.1) (c := a.2) (n := n)
    exact ⟨hslots.trans hs, hcomps.trans hc⟩

/-! ### Ring order of completions (02 R45) -/

/-- The answer that a slot holds, if any. -/
abbrev doneOf (x : Slot) : Option Completion := match x.phase with | .done d => some d | _ => none

/-- What leaves a mailbox and what stays are its slots in their order. -/
theorem splitDone_order (l : List Slot) :
    (splitDone l).1.map (fun x => some x.2) ++ (splitDone l).2.map doneOf = l.map doneOf := by
  induction l with
  | nil => rfl
  | cons x l ih =>
    unfold splitDone
    split
    · rename_i d hd
      simp only [List.map_cons, List.cons_append, ih, doneOf, hd]
    · rfl

/-- What stays begins with a request that is not answered. -/
theorem splitDone_head (l : List Slot) : ∀ x, (splitDone l).2.head? = some x → ∀ d, x.phase ≠ .done d := by
  induction l with
  | nil => simp [splitDone]
  | cons y l ih =>
    intro x hx d hd
    unfold splitDone at hx
    split at hx
    · exact ih x hx d hd
    · rename_i hne
      cases (show some y = some x from hx)
      exact hne d hd

/-- Nothing leaves a mailbox: its slots stay. -/
theorem splitDone_of_isEmpty {l : List Slot} (h : (splitDone l).1.isEmpty = true) : (splitDone l).2 = l := by
  cases l with
  | nil => rfl
  | cons x l =>
    unfold splitDone at h ⊢
    split at h
    · simp at h
    · rfl

/-- The completions that ring order lets out of a PCIe mailbox join the entries written, the others stay (02 R45). -/
theorem flushQueue_pcie (ht : (s.queue n).transport = 0) (hd : (s.queue n).deleting = false) :
    ((flushQueue s n).queue n).slots = (splitDone (s.queue n).slots).2 ∧
    ((flushQueue s n).queue n).comps = (s.queue n).comps ++ (splitDone (s.queue n).slots).1.map (·.2) := by
  unfold flushQueue
  by_cases hempty : (splitDone (s.queue n).slots).1.isEmpty = true
  · simp only [hempty, hd, if_true]
    exact ⟨(splitDone_of_isEmpty hempty).symm, by simp [List.isEmpty_iff.1 hempty]⟩
  · simp only [hempty, hd, ht]
    obtain ⟨hslots, hcomps⟩ := whenWritten_each (l := (splitDone (s.queue n).slots).1) (n := n)
      (s := raiseQueue ((s.onQueue n fun q => { q with slots := (splitDone (s.queue n).slots).2 }).onQueue n fun q =>
        { q with comps := q.comps ++ (splitDone (s.queue n).slots).1.map (·.2) }) n)
    exact ⟨hslots.trans (by simp), hcomps.trans (by simp)⟩

/-- The answer to a started request of a mailbox marks its slot, and the mailbox lets out what it can; counting the code
leaves the queues as they are (02 R45). -/
theorem answer_started (hq : r.queue ≠ journalQueue) (hs : hasStarted (s.queue r.queue) r = true) :
    ∃ u : State, (∀ k, u.queue k = s.queue k) ∧ answer s r c = flushQueue (u.onQueue r.queue fun q =>
      { q with slots := markDone q.slots r { c with opcode := r.opcode, tag := r.tag } }) r.queue := by
  unfold answer
  simp only [if_neg hq]
  split
  all_goals
    refine ⟨_, fun _ => ?_, if_pos ?_⟩
    · rfl
    · exact hs

/-- Settles O16: the answered slot is marked, and what the mailbox then lets out keeps ring order. -/
theorem completionsKeepRingOrder : Obligations.CompletionsKeepRingOrder := by
  intro s r c hq hstarted ht hd
  obtain ⟨u, hu, heq⟩ := answer_started (c := c) hq hstarted
  obtain ⟨hslots, hcomps⟩ := flushQueue_pcie (n := r.queue) (s := u.onQueue r.queue fun q =>
      { q with slots := markDone q.slots r { c with opcode := r.opcode, tag := r.tag } })
    (by simpa [hu] using ht) (by simpa [hu] using hd)
  refine ⟨?_, ?_, splitDone_order _, splitDone_head _⟩
  · rw [heq, hslots, State.queue_onQueue_same, hu]
  · rw [heq, hcomps, State.queue_onQueue_same, hu]

/-! ### Events (02 R40, R61, R544) -/

/-- A datagram for a listed queue takes that queue's next number (02 R61). -/
theorem sendDatagram_listed {d : DatagramOut} (h : tabHas s.host.queues n = true) :
    sendDatagram s n d = (s.onQueue n fun q => { q with seq := ((s.queue n).seq + 1) % 4294967296 }).onHost fun h =>
      { h with sent := { d with queue := n, seq := ((s.queue n).seq + 1) % 4294967296 } :: h.sent } := if_pos h

/-- A queue that is changed is listed. -/
theorem tabHas_onQueue {f : Queue → Queue} {p k m : Nat} : tabHas (bumpPart (s.onQueue n f) p k m).host.queues n = true :=
  tabHas_tabMod.trans (by simp)

@[simp] theorem queue_onHost_sent {f : List DatagramOut → List DatagramOut} :
    (s.onHost fun h => { h with sent := f h.sent }).queue n = s.queue n := rfl

/-- Settles O17: each case of the offer, by the queue's transport and its room. -/
theorem fullEventQueueDropsAndCounts : Obligations.FullEventQueueDropsAndCounts := by
  intro s n cls e
  refine ⟨fun ht hfull => ?_, fun ht hfits => ?_, fun ht => ?_⟩
  · have hno : ¬ unconsumed (s.queue n) + 1 ≤ depthOf (s.queue n) - 1 := by omega
    simp [offerEvent, ht, hno]
  · simp only [offerEvent, ht, hfits]
    exact ⟨by simp, _, by simp; rfl, rfl, rfl, rfl⟩
  · unfold offerEvent
    simp only [ne_eq, ht, not_false_eq_true, if_true]
    rw [sendDatagram_listed tabHas_onQueue]
    refine ⟨?_, ?_, _, _, rfl, rfl, rfl, rfl, rfl, rfl, rfl⟩ <;> simp

/-! ### Tokens (02 R50) -/

theorem tabHas_map {l : Tab Queue} {f : Queue → Queue} : tabHas (l.map fun p => (p.1, f p.2)) n = tabHas l n := by
  induction l with
  | nil => rfl
  | cons a l ih => simp only [List.map_cons, tabHas, ih]

/-- A queue that does not exist reads as an empty mailbox, whose tokens a refill would leave at the burst. -/
theorem queue_refilled : (s.onHost fun h => { h with queues := h.queues.map fun x => (x.1, refill x.2) }).queue n =
    if tabHas s.host.queues n then refill (s.queue n) else s.queue n := by
  split
  · rename_i h
    exact tabGet_map_of_tabHas h
  · rename_i h
    have hno : tabHas s.host.queues n = false := by simpa using h
    have hno' : tabHas (s.host.queues.map fun x => (x.1, refill x.2)) n = false := by
      rw [tabHas_map, hno]
    exact (tabGet_of_not_tabHas hno').trans (tabGet_of_not_tabHas hno).symm

/-- Settles O18: each queue is refilled on its own. -/
theorem tokenRefillMetersEveryRequestQueue : Obligations.TokenRefillMetersEveryRequestQueue := by
  intro s
  refine ⟨_, rfl, fun n hn hlisted => ?_, fun n hn => ?_, fun n => ?_, State.onHost_frame SameBut.rfl' rfl⟩
  · rw [queue_refilled, if_pos hlisted]
    simp [refill, hn]
  · rw [queue_refilled]
    simp [refill, hn]
  · rw [queue_refilled]
    unfold refill
    split
    · split <;> exact ⟨rfl, rfl⟩
    · exact ⟨rfl, rfl⟩

/-! ### Subscriptions (02 R546) -/

/-- What a subscription leads to, once its rights and fields are in order. -/
theorem exec_sysSubscribe (h : hasRight s r.part 0x0010 = true)
    (hq : (s.part r.part).qrights.getLsbD (classBit (rq r 20 1)) = true)
    (hbad : firstBad [(16, ownEventQueue s r), (20, eventClasses.contains (rq r 20 1)), (21, familySuits (s.queue (rq r 16 4)) r),
      (22, rq r 21 1 == 0 || rq r 22 2 != 0)] = none) :
    exec (.sysSubscribe r) s = .next
      (let u := s.onQueue (rq r 16 4) fun q => { q with classes := q.classes ||| BitVec.ofNat 17 (2 ^ classBit (rq r 20 1)) }
       ok u (withOp r 0x0010) [(16, 4, (rq r 16 4 : Int)), (20, 4, ((u.queue (rq r 16 4)).classes.toNat : Int))]) := by
  refine congrArg Host.Outcome.next ((serve_query _ h).trans ?_)
  have hden : ¬ (classBit (rq r 20 1) < 17 ∧ ¬ (s.part r.part).qrights.getLsbD (classBit (rq r 20 1)) = true) :=
    fun hd => hd.2 hq
  refine (if_neg hden).trans ?_
  change (match firstBad [(16, ownEventQueue s r), (20, eventClasses.contains (rq r 20 1)),
    (21, familySuits (s.queue (rq r 16 4)) r), (22, rq r 21 1 == 0 || rq r 22 2 != 0)] with
    | some o => _
    | none => _) = _
  rw [hbad]
  rfl

/-- Settles O13: both commands change the classes of the queue named alone; the completion brings the subscription into force. -/
theorem subscriptionsSetTheClassesOfAnEventQueue : Obligations.SubscriptionsSetTheClassesOfAnEventQueue := by
  intro r s
  refine ⟨fun hright hq hown hcls hfam hport => ?_, fun hright hown hcls => ?_, fun c hc hlisted => ⟨?_, ?_⟩⟩
  · have hmem : rq r 20 1 ∈ eventClasses := by simpa using hcls
    have hbad : firstBad [(16, ownEventQueue s r), (20, eventClasses.contains (rq r 20 1)),
        (21, familySuits (s.queue (rq r 16 4)) r), (22, rq r 21 1 == 0 || rq r 22 2 != 0)] = none :=
      firstBad_none (by simp [hown, hmem, hfam, hport])
    exact ⟨_, exec_sysSubscribe hright hq hbad, State.queue_onQueue_same, fun _ hn => State.queue_onQueue_ne hn,
      State.onHost_frame SameBut.rfl' rfl⟩
  · have hmem : rq r 20 1 = 0xFF ∨ rq r 20 1 ∈ eventClasses := by simpa using hcls
    have hbad : firstBad [(16, ownEventQueue s r), (20, rq r 20 1 == 0xFF || eventClasses.contains (rq r 20 1))] = none :=
      firstBad_none (by simp [hown, hmem])
    exact ⟨_, congrArg Host.Outcome.next (serve_runs_nil hright rfl hbad), State.queue_onQueue_same,
      fun _ hn => State.queue_onQueue_ne hn, State.onHost_frame SameBut.rfl' rfl⟩
  all_goals
    have hin : ¬ (c.code ≠ 0 ∨ (!tabHas s.host.queues (rq r 16 4)) = true) := by simp [hc, hlisted]
    exact (congrArg (fun u : State => u.queue (rq r 16 4)) (if_neg hin)).trans State.queue_onQueue_same

/-! ### The queue commands (02 R64, R65, R547) -/

/-- Changing a queue of the host part. -/
theorem queue_removeQueue_ne {m : Nat} (h : m ≠ n) : (removeQueue s n).queue m = s.queue m := tabGet_tabDel_ne h

theorem tabHas_removeQueue : tabHas (removeQueue s n).host.queues n = false := tabHas_tabDel_same

/-- With debug access closed no session ends with a queue (18 R491). -/
theorem dropHolder_closed {p : Nat} (h : s.dbg.level = .closed) : dropHolder s p = s :=
  if_neg fun hne => hne.1 h

/-- A completion leaves debug access as it is. -/
theorem ok_dbg {fields : List (Nat × Nat × Int)} {detail cont : Nat} : (ok s r fields detail cont).dbg = s.dbg :=
  (ok_frame (x := among [.host, .ctr]) SameBut.rfl' rfl rfl).2 .dbg rfl

/-- The queue that QUEUE_CREATE makes, its key aside (02 R64). -/
def createdQueue (s : State) (r : Request) (key : BitVec 64) : Queue :=
  let mail := rq r 16 1 == 0
  let dl := clampN 4 16 (rq r 17 1)
  let burst := clampN 16 (2 ^ dl) (rq r 24 4)
  { part := r.part, event := !mail, depthLog2 := dl, transport := rq r 18 1, vector := if rq r 18 1 = 0 then rq r 19 1 else 0xFF
    rate := if mail then clampN 16 (s.part r.part).rateCeil (rq r 20 4) else 16
    burst := if mail then burst else 16, tokens := if mail then burst else 16, key
    hostReq := if rq r 18 1 = 0 then rq r 32 8 else 0, hostCmp := if rq r 18 1 = 0 ∧ mail then rq r 40 8 else 0 }

/-- The clamped fields of a QUEUE_CREATE: the depth, and of a mailbox rate and burst (02 R64). -/
def createClamps (s : State) (r : Request) : List Nat :=
  clampedN 17 4 16 (rq r 17 1) ++ (if rq r 16 1 == 0 then clampedN 20 16 (s.part r.part).rateCeil (rq r 20 4) ++
    clampedN 24 16 (2 ^ clampN 4 16 (rq r 17 1)) (rq r 24 4) else [])

/-- What a QUEUE_CREATE within the limits and quota of its partition leads to (02 R38, R64). -/
theorem exec_queueCreate (h : hasRight s r.part 0x0110 = true)
    (hbad : firstBad [(16, decide (rq r 16 1 ≤ 1)), (18, decide (rq r 18 1 ≤ 3)),
      (19, rq r 18 1 != 0 || decide (rq r 19 1 ≤ 63) || rq r 19 1 == 0xFF)] = none)
    (hbind : rq r 18 1 = (s.part r.part).binding ∨ ((s.part r.part).binding = 3 ∧ 1 ≤ rq r 18 1))
    (halign : rq r 18 1 = 0 → rq r 32 8 % 64 = 0 ∧ rq r 40 8 % 64 = 0)
    (hlimit : queuesHeld s r.part + (if rq r 16 1 = 0 then 2 else 1) ≤ (s.part r.part).qlimit)
    (hquota : entriesHeld s r.part + (if rq r 16 1 = 0 then 2 else 1) * 2 ^ clampN 4 16 (rq r 17 1) ≤ (s.part r.part).quota)
    (hfree : freeNumber s ≤ 1048574) :
    ∃ (key : BitVec 64) (rate burst : Int), exec (.queueCreate r) s = .next (ok
      ((draw (noteClamps s (withOp r 0x0110) (createClamps s r))).2.onHost fun h =>
        { h with queues := tabSet h.queues (freeNumber s) (createdQueue s r key) })
      (withOp r 0x0110) [(16, 4, (freeNumber s : Int)), (20, 1, (clampN 4 16 (rq r 17 1) : Nat)), (24, 4, rate), (28, 4, burst),
        (32, 8, (key.toNat : Int))]) := by
  generalize hy : noteClamps s (withOp r 0x0110) (createClamps s r) = y
  have hqueues : y.host.queues = s.host.queues := hy ▸ noteClamps_queues
  have hnumber : freeNumber y = freeNumber s := by rw [freeNumber, hqueues, freeNumber]
  have hheld : queuesHeld y r.part = queuesHeld s r.part := by rw [queuesHeld, hqueues, queuesHeld]
  have hentries : entriesHeld y r.part = entriesHeld s r.part := by rw [entriesHeld, hqueues, entriesHeld]
  have hgrant : ¬ (!(rq r 18 1 == (s.part r.part).binding || ((s.part r.part).binding == 3 && decide (1 ≤ rq r 18 1)))) = true := by
    have hmay : (rq r 18 1 == (s.part r.part).binding || ((s.part r.part).binding == 3 && decide (1 ≤ rq r 18 1))) = true := by
      simpa using hbind
    rw [hmay]
    exact Bool.false_ne_true
  have hroom : ¬ ((rq r 18 1 = 0 ∧ (rq r 32 8 % 64 ≠ 0 ∨ ((rq r 16 1 == 0) = true ∧ rq r 40 8 % 64 ≠ 0))) ∨
      (s.part r.part).qlimit < queuesHeld y r.part + (if (rq r 16 1 == 0) = true then 2 else 1) ∨
      (s.part r.part).quota < entriesHeld y r.part + (if (rq r 16 1 == 0) = true then 2 else 1) * 2 ^ clampN 4 16 (rq r 17 1) ∨
      1048574 < freeNumber y) := by
    rw [hheld, hentries, hnumber]
    simp only [beq_iff_eq]
    rintro (⟨ht, hne⟩ | hl | hl | hl)
    · obtain ⟨hreq, hcmp⟩ := halign ht
      simp [hreq, hcmp] at hne
    · omega
    · omega
    · omega
  rw [← hnumber]
  subst hy
  exact ⟨BitVec.ofNat 64 (Config.key _), _, _, congrArg Host.Outcome.next ((serve_runs_nil h rfl hbad).trans
    ((if_neg hgrant).trans (if_neg hroom)))⟩

/-- What a QUEUE_DELETE does to the queue it names before its completion: it is marked, without what has not begun service. -/
def deletionBegun (s : State) (r : Request) : State :=
  s.onQueue (rq r 16 4) fun q => { q with deleting := true, hostRing := [], slots := q.slots.filter fun x => x.phase != .waiting }

/-- The deficit of a partition with nothing waiting is cleared (02 R51). -/
def dropDeficit (s : State) (p : Nat) : State :=
  if partWaiting s p then s else s.onPstat p fun t => { t with deficit := 0 }

theorem dropDeficit_queue {p : Nat} : (dropDeficit s p).queue n = s.queue n := by
  unfold dropDeficit
  split <;> rfl

theorem dropDeficit_frame {p : Nat} {x : Comp → Bool} {s0 : State} (h : SameBut x s0 s) (x_host : x .host = true) :
    SameBut x s0 (dropDeficit s p) := SameBut.ite h (State.onHost_frame h x_host)

/-- What a QUEUE_DELETE by the queue's partition leads to, no debug session being open (02 R65). -/
theorem exec_queueDelete (h : hasRight s r.part 0x0111 = true) (hown : ownQueue s r = true) (hdbg : s.dbg.level = .closed) :
    exec (.queueDelete r) s = .next (ok (if (s.queue (rq r 16 4)).event then removeQueue (dropDeficit (deletionBegun s r) r.part) (rq r 16 4)
      else flushQueue (dropDeficit (deletionBegun s r) r.part) (rq r 16 4)) (withOp r 0x0111) [(16, 4, (rq r 16 4 : Int))]) := by
  have hbegun : SameBut (among [.host, .ctr]) s (dropDeficit (deletionBegun s r) r.part) :=
    dropDeficit_frame (State.onHost_frame SameBut.rfl' rfl) rfl
  refine congrArg Host.Outcome.next ((serve_runs_nil h rfl (firstBad_none (by simp [hown]))).trans (dropHolder_closed ?_))
  rw [ok_dbg]
  have hlevel (u : State) (hu : SameBut (among [.host, .ctr]) s u) : u.dbg.level = .closed := by rw [hu.2 .dbg rfl, hdbg]
  exact hlevel _ (SameBut.ite (removeQueue_frame hbegun rfl) (flushQueue_frame hbegun rfl rfl))

/-- A mailbox whose oldest request is still with the cores lets nothing out. -/
theorem flushQueue_waits (h : (splitDone (s.queue n).slots) = ([], (s.queue n).slots)) (hne : (s.queue n).slots ≠ []) :
    flushQueue s n = s := by
  unfold flushQueue
  simp [h, hne]

/-- Of the requests of a mailbox that are waiting or started, the started ones stay, none of them answered. -/
theorem splitDone_started {l : List Slot} (hall : l.all (fun x => x.phase == .waiting || x.phase == .started) = true)
    (hany : l.any (fun x => x.phase == .started) = true) :
    splitDone (l.filter fun x => x.phase != .waiting) = ([], l.filter fun x => x.phase != .waiting) ∧
      l.filter (fun x => x.phase != .waiting) ≠ [] := by
  obtain ⟨x, hx, hstart⟩ := List.any_eq_true.1 hany
  have hin : x ∈ l.filter fun x => x.phase != .waiting :=
    List.mem_filter.2 ⟨hx, by simp [beq_iff_eq.1 hstart]⟩
  refine ⟨?_, List.ne_nil_of_mem hin⟩
  cases hf : l.filter fun x => x.phase != .waiting with
  | nil => rfl
  | cons y m =>
    obtain ⟨hy, hkeep⟩ := List.mem_filter.1 (hf ▸ List.mem_cons_self : y ∈ l.filter fun x => x.phase != .waiting)
    have hphase : y.phase = .started := by
      have := List.all_eq_true.1 hall y hy
      simp only [bne_iff_ne, ne_eq, Bool.or_eq_true, beq_iff_eq] at hkeep this
      exact this.resolve_left hkeep
    simp [splitDone, hphase]

/-- A new key comes into force with its completion (02 R65). -/
theorem whenWritten_rekey {key : BitVec 64} (hc : c.code = 0) (hlisted : tabHas s.host.queues (rq r 16 4) = true)
    (hf : c.fields = [(16, 4, (rq r 16 4 : Int)), (32, 8, (key.toNat : Int))]) :
    whenWritten s (withOp r 0x0113) c = s.onQueue (rq r 16 4) fun q => { q with key } := by
  have hin : ¬ (c.code ≠ 0 ∨ (!tabHas s.host.queues (rq r 16 4)) = true) := by simp [hc, hlisted]
  have hfind : (c.fields.find? fun x => x.1 == 32) = some (32, 8, (key.toNat : Int)) := by rw [hf]; rfl
  have hkey : BitVec.ofInt 64 (key.toNat : Int) = key := by simp
  refine (if_neg hin).trans ?_
  simp only [withOp, hfind, hkey]
  rfl

/-- Settles O14: each command is one change of the queue named; the new key comes with the completion. -/
theorem queueCommandsCreateChangeAndDelete : Obligations.QueueCommandsCreateChangeAndDelete := by
  intro r s
  refine ⟨fun hright hkind htr hvec hbind halign hlimit hquota hfree => ?_, fun hright hown hmail => ?_, fun hright hown => ?_,
    fun hright hown hev hdbg => ?_, fun hright hown hmail hall hany hdbg => ?_⟩
  case refine_1 =>
    have hbad : firstBad [(16, decide (rq r 16 1 ≤ 1)), (18, decide (rq r 18 1 ≤ 3)),
        (19, rq r 18 1 != 0 || decide (rq r 19 1 ≤ 63) || rq r 19 1 == 0xFF)] = none :=
      firstBad_none (by simp [hkind, htr, or_assoc, hvec])
    obtain ⟨key, rate, burst, hexec⟩ := exec_queueCreate hright hbad hbind halign hlimit hquota hfree
    have hnew : ((draw (noteClamps s (withOp r 0x0110) (createClamps s r))).2.onHost fun h =>
        { h with queues := tabSet h.queues (freeNumber s) (createdQueue s r key) }).queue (freeNumber s) = createdQueue s r key :=
      tabGet_tabSet_same
    refine ⟨_, _, hexec, ?_, ?_, ?_, ?_, fun h0 => ?_, ?_, fun n hn => ?_, by simp, ?_, ?_⟩
    · rw [hnew]; rfl
    · rw [hnew]; rfl
    · rw [hnew]; rfl
    · rw [hnew]; rfl
    · rw [hnew]; simp [createdQueue, h0]
    · rw [hnew]; rfl
    · exact (tabGet_tabSet_ne hn).trans noteClamps_queue
    · rw [hnew]; simp [createdQueue]
    · exact State.onHost_frame (draw_frame_proj (noteClamps_frame SameBut.rfl' rfl)) rfl
  case refine_2 =>
    have hexec : exec (.queueBucketSet r) s = .next _ :=
      congrArg Host.Outcome.next ((serve_runs hright rfl (firstBad_none (by simp [hown]))).trans (if_neg (by simp [hmail])))
    refine ⟨_, _, _, hexec, rfl, rfl, State.queue_onQueue_same.trans ?_, fun n hn => (State.queue_onQueue_ne hn).trans noteClamps_queue,
      State.onHost_frame (noteClamps_frame SameBut.rfl' rfl) rfl⟩
    rw [noteClamps_queue]
  case refine_3 =>
    refine ⟨(draw s).2, _, congrArg Host.Outcome.next (serve_runs_nil hright rfl (firstBad_none (by simp [hown]))), fun _ => rfl,
      draw_frame_proj SameBut.rfl', fun v c hc hf hlisted => ?_⟩
    rw [whenWritten_rekey hc hlisted hf]
    exact ⟨State.queue_onQueue_same, fun _ hn => State.queue_onQueue_ne hn⟩
  case refine_4 =>
    refine ⟨_, (exec_queueDelete hright hown hdbg).trans (by rw [if_pos hev]), tabHas_removeQueue, fun n hn => ?_, ?_⟩
    · rw [queue_removeQueue_ne hn, dropDeficit_queue, deletionBegun, State.queue_onQueue_ne hn]
    · exact removeQueue_frame (dropDeficit_frame (State.onHost_frame SameBut.rfl' rfl) rfl) rfl
  case refine_5 =>
    obtain ⟨hsplit, hne⟩ := splitDone_started hall hany
    have hslots : ((dropDeficit (deletionBegun s r) r.part).queue (rq r 16 4)).slots =
        (s.queue (rq r 16 4)).slots.filter fun x => x.phase != .waiting := by
      rw [dropDeficit_queue, deletionBegun, State.queue_onQueue_same]
    have hstays := flushQueue_waits (s := dropDeficit (deletionBegun s r) r.part) (n := rq r 16 4) (by rw [hslots, hsplit])
      (by rw [hslots]; exact hne)
    refine ⟨_, (exec_queueDelete hright hown hdbg).trans (by rw [hmail, if_neg Bool.false_ne_true, hstays]), ?_, fun n hn => ?_, ?_⟩
    · rw [dropDeficit_queue, deletionBegun, State.queue_onQueue_same]
    · rw [dropDeficit_queue, deletionBegun, State.queue_onQueue_ne hn]
    · exact dropDeficit_frame (State.onHost_frame SameBut.rfl' rfl) rfl

end Sys2Proof.Machine
end

section
/-! Creel's doorbells, datagrams and registers (02): what admission, hand-over and each access do. -/

namespace Sys2Proof.Machine

open Sys2Proof

variable {s : State} {p n off width : Nat}

/-! ### Doorbells (02 R57, R58) -/

/-- A change of a queue depends only on what it makes of the queue as it is. -/
theorem onQueue_congr {f g : Queue → Queue} (h : f (s.queue n) = g (s.queue n)) : s.onQueue n f = s.onQueue n g := by
  change (s.onHost fun x => { x with queues := tabSet x.queues n (f (tabGet x.queues {} n)) }) =
    s.onHost fun x => { x with queues := tabSet x.queues n (g (tabGet x.queues {} n)) }
  have h' : f (tabGet s.host.queues {} n) = g (tabGet s.host.queues {} n) := h
  simp only [State.onHost, h']

/-- The bootstrap mailbox takes doorbells once both its bases are written (02 R57). -/
theorem bootOk (hb : n ≠ 16 ∨ (s.host.bootSq ≠ 0 ∧ s.host.bootCq ≠ 0)) :
    ¬ (n = 16 ∧ (s.host.bootSq = 0 ∨ s.host.bootCq = 0)) := by
  rintro ⟨rfl, h⟩
  rcases hb with hb | ⟨h1, h2⟩
  · exact hb rfl
  · rcases h with h | h
    · exact h1 h
    · exact h2 h

/-- A DB.SUBMIT in range of a PCIe mailbox that has taken all announced before: the entries are announced, and what the mailbox
has room for is taken (02 R47, R58). -/
theorem doSubmit_announces {part v : Nat} {entries : List (List Byte)} {k tail : Nat} (htail : tail = bitsOf v 32 16)
    (hn : n = bitsOf v 0 20) (hk : k = (tail + depthOf (s.queue n) - (s.queue n).tail) % depthOf (s.queue n))
    (hcreel : s.sys.creel = true) (hdoor : doorOk s n (bitsOf v 48 16) = true) (hmail : (s.queue n).event = false)
    (hrange : tail < depthOf (s.queue n)) (hempty : (s.queue n).hostRing = []) (hfit : k ≤ depthOf (s.queue n) - 1)
    (hcarried : k ≤ entries.length) (hboot : n ≠ 16 ∨ (s.host.bootSq ≠ 0 ∧ s.host.bootCq ≠ 0)) :
    doSubmit s part v entries = pullHost n k ((draw s).2.onQueue n fun q => { q with tail, hostRing := entries.take k }) := by
  subst htail hn
  have hring : hostEntries s.free k entries = entries.take k := by
    simp [hostEntries, Nat.sub_eq_zero_of_le hcarried]
  have hnot : ¬ (depthOf (s.queue (bitsOf v 0 20)) ≤ bitsOf v 32 16 ∨
      depthOf (s.queue (bitsOf v 0 20)) - 1 < (s.queue (bitsOf v 0 20)).hostRing.length + k ∨
      (bitsOf v 0 20 = 16 ∧ (s.host.bootSq = 0 ∨ s.host.bootCq = 0))) := by
    rw [hempty]
    rintro (h | h | h)
    · omega
    · simp at h; omega
    · exact bootOk hboot h
  have hadd : ((draw s).2.onQueue (bitsOf v 0 20) fun q => { q with
        tail := bitsOf v 32 16, hostRing := q.hostRing ++ hostEntries s.free k entries }) =
      (draw s).2.onQueue (bitsOf v 0 20) fun q => { q with tail := bitsOf v 32 16, hostRing := entries.take k } :=
    onQueue_congr (by
      have hq : (draw s).2.queue (bitsOf v 0 20) = s.queue (bitsOf v 0 20) := rfl
      simp only [hq, hempty, hring, List.nil_append])
  have hsteps : (s.queue (bitsOf v 0 20)).hostRing.length + k = k := by simp [hempty]
  subst hk
  refine (if_neg (by simp [hcreel])).trans ((if_neg (by simp [hdoor, hmail])).trans ((if_neg hnot).trans ?_))
  exact congr (congrArg (pullHost _) hsteps) hadd

/-- A host ring whose first request has no room stays as it is (02 R47). -/
theorem pullHost_noRoom {k : Nat} (h : ∀ r, hasRoom (s.queue n) r = false) : pullHost n k s = s := by
  cases k with
  | zero => rfl
  | succ k =>
    have hno (r : Request) : admitRequest s n r = (false, s) := if_pos (by simp [h r])
    unfold pullHost
    simp only [hno, Bool.false_eq_true, if_false, ite_self]
    split <;> rfl

/-- A request with room and tokens is admitted: its place and its completion's entries are taken, its tokens spent (02 R47, R50). -/
theorem admitRequest_admits {r : Request} (hroom : hasRoom (s.queue n) r = true) (htokens : reqEntries r ≤ (s.queue n).tokens) :
    (admitRequest s n r).1 = true ∧
    (admitRequest s n r).2.queue n = { s.queue n with
      tokens := (s.queue n).tokens - reqEntries r, admitted := (s.queue n).admitted + 1
      slots := (s.queue n).slots ++ [{ req := { r with serial := (s.queue n).admitted }, reserve := maxEntries r }] } ∧
    ∀ m, m ≠ n → (admitRequest s n r).2.queue m = s.queue m := by
  have habort (u : State) (m : Nat) : (if u.pow.stage = 1 then abortEntry u 0x13 else u).queue m = u.queue m := by
    unfold abortEntry
    split
    · split <;> rfl
    · rfl
  simp only [admitRequest, hroom, htokens, Bool.not_true, Bool.false_eq_true, if_false, if_true]
  refine ⟨trivial, ?_, fun m hm => ?_⟩
  · rw [habort, queue_bumpPart, State.queue_onQueue_same]
  · rw [habort, queue_bumpPart, State.queue_onQueue_ne hm]

/-- A host ring with one request of one entry, admitted, is left empty. -/
theorem pullHost_one {e : List Byte} {r : Request} (hring : (s.queue n).hostRing = [e]) (hcont : byteAt e 2 = 0)
    (hr : readRequest n (s.queue n).part 0 0 {} [e] = r) (htaken : (admitRequest s n r).1 = true) :
    pullHost n 1 s = (admitRequest s n r).2.onQueue n fun q => { q with hostRing := q.hostRing.drop 1 } := by
  subst hr
  simp [pullHost, hring, hcont, htaken]

/-- A DB.COMPHEAD in range of an event queue consumes the entries up to HEAD (02 R58). -/
theorem doCompHead_consumes {part v : Nat} {k head : Nat} (hhead : head = bitsOf v 32 16) (hn : n = bitsOf v 0 20)
    (hk : k = (head + depthOf (s.queue n) - (s.queue n).head) % depthOf (s.queue n)) (hcreel : s.sys.creel = true)
    (hlisted : tabHas s.host.queues n = true) (hev : (s.queue n).event = true) (hdoor : doorOk s n (bitsOf v 48 16) = true)
    (hrange : head < depthOf (s.queue n)) (hfit : k ≤ unconsumed (s.queue n))
    (hboot : n ≠ 16 ∨ (s.host.bootSq ≠ 0 ∧ s.host.bootCq ≠ 0)) :
    doCompHead s part v = s.onQueue n fun q => { q with
      head, headRem := (consume (s.queue n).headRem k (s.queue n).comps).1, comps := (consume (s.queue n).headRem k (s.queue n).comps).2 } := by
  subst hhead hn
  have hnot : ¬ (depthOf (s.queue (bitsOf v 0 20)) ≤ bitsOf v 32 16 ∨ unconsumed (s.queue (bitsOf v 0 20)) < k ∨
      (bitsOf v 0 20 = 16 ∧ (s.host.bootSq = 0 ∨ s.host.bootCq = 0))) := by
    rintro (h | h | h)
    · omega
    · omega
    · exact bootOk hboot h
  have hnamed : (if tabHas s.host.queues (bitsOf v 0 20) = true ∧ (s.queue (bitsOf v 0 20)).event = true then bitsOf v 0 20
      else if bitsOf v 0 20 % 2 = 1 then bitsOf v 0 20 - 1 else 1048576) = bitsOf v 0 20 := if_pos ⟨hlisted, hev⟩
  subst hk
  unfold doCompHead
  dsimp only
  rw [hnamed]
  exact (if_neg (by simp [hcreel])).trans ((if_neg (by simp [hdoor])).trans ((if_neg hnot).trans (if_pos hev)))

/-- Settles O19: an announcement, the taking of one request, a consumption and the hand-over, each by its lemma above. -/
theorem doorbellsAndHandOver : Obligations.DoorbellsAndHandOver := by
  refine ⟨fun s part v entries hcreel => ⟨?_, ?_⟩, fun s part v entries => ?_, fun s part v e => ?_, fun s part v => ?_,
    fun s hcreel hrestart hwait => ?_⟩
  · exact congrArg Host.Outcome.next (if_pos (by simp [hcreel]))
  · exact congrArg Host.Outcome.next (if_pos (by simp [hcreel]))
  · intro n tail k hcreel hdoor hmail hrange hempty hfit hcarried hboot hroom
    have hq : ((draw s).2.onQueue n fun q => { q with tail, hostRing := entries.take k }).queue n =
        { s.queue n with tail, hostRing := entries.take k } := State.queue_onQueue_same
    have hstays := pullHost_noRoom (n := n) (k := k) (s := (draw s).2.onQueue n fun q => { q with tail, hostRing := entries.take k })
      (by rw [hq]; exact hroom)
    have hexec := doSubmit_announces (part := part) (v := v.toNat) rfl rfl rfl hcreel hdoor hmail hrange hempty hfit hcarried hboot
    refine ⟨_, congrArg Host.Outcome.next (hexec.trans hstays), ?_, ?_, fun m hm => State.queue_onQueue_ne hm⟩
    · rw [hq]
    · rw [hq]
  · intro n tail r hcreel hdoor hmail hrange hempty hone hboot hcont hroom htokens
    have hdepth : 2 ≤ depthOf (s.queue n) := by
      refine Decidable.byContradiction fun hsmall => ?_
      obtain h | h : depthOf (s.queue n) = 0 ∨ depthOf (s.queue n) = 1 := by omega
      · omega
      · rw [h, Nat.mod_one] at hone
        omega
    have hfit : 1 ≤ depthOf (s.queue n) - 1 := by omega
    have hexec := doSubmit_announces (part := part) (v := v.toNat) (entries := [e]) rfl rfl hone.symm hcreel hdoor hmail hrange
      hempty hfit (by simp) hboot
    generalize hu : ((draw s).2.onQueue n fun q => { q with tail, hostRing := [e].take 1 }) = u at hexec
    have hq : u.queue n = { s.queue n with tail, hostRing := [e] } := hu ▸ State.queue_onQueue_same
    have hcost : reqEntries r = 1 := by simp [reqEntries, r, readRequest, hcont]
    obtain ⟨htaken, hnew, hothers⟩ := admitRequest_admits (s := u) (n := n) (r := r) (by rw [hq]; exact hroom)
      (by rw [hq, hcost]; exact htokens)
    have hpull : pullHost n 1 u = (admitRequest u n r).2.onQueue n fun q => { q with hostRing := q.hostRing.drop 1 } :=
      pullHost_one (by rw [hq]) hcont (by rw [hq]) htaken
    refine ⟨_, congrArg Host.Outcome.next (hexec.trans hpull), ?_, fun m hm => ?_⟩
    · rw [State.queue_onQueue_same, hnew, hq, hcost]
      rfl
    · rw [State.queue_onQueue_ne hm, hothers m hm, ← hu, State.queue_onQueue_ne hm]
      rfl
  · intro n head k hcreel hlisted hev hdoor hrange hfit hboot
    refine ⟨_, congrArg Host.Outcome.next (doCompHead_consumes rfl rfl rfl hcreel hlisted hev hdoor hrange hfit hboot), ?_, ?_,
      fun m hm => State.queue_onQueue_ne hm⟩
    · rw [State.queue_onQueue_same]
    · rw [State.queue_onQueue_same]
  · refine congrArg Host.Outcome.next ((if_neg ?_).trans (if_pos hwait))
    simp [hcreel, hrestart]

/-! ### Datagrams (02 R46, R60, R62) -/

/-- What a datagram that names a live queue with its key from an accepted source is checked for (02 R46 steps 1 to 3). -/
theorem acceptedDatagram {port type key : Nat} {src : IpAddr} (hacc : (acceptors s port src).contains (s.queue n).part = true)
    (hlive : liveQueue s n = true) (hcov : covers (s.queue n).transport port = true) (hkey : (s.queue n).key.toNat = key)
    (hform : type = 1 → (s.queue n).event = false) (hmgmt : type ≠ 1 → (s.part (s.queue n).part).mgmt = true) :
    (acceptors s port src).isEmpty = false ∧
    (liveQueue s n && (acceptors s port src).contains (s.queue n).part && covers (s.queue n).transport port &&
      (s.queue n).key.toNat == key && (type != 1 || !(s.queue n).event) && (type == 1 || (s.part (s.queue n).part).mgmt)) = true := by
  constructor
  · cases h : acceptors s port src with
    | nil => simp [h] at hacc
    | cons => rfl
  · rw [hlive, hacc, hcov, hkey]
    by_cases h : type = 1
    · simp [h, hform h]
    · simp [h, hmgmt h]

/-- The answer of a management access: counted, and sent under the queue number that the datagram names (02 R62). -/
def mgmtReply (port : Nat) (d : Datagram) (p : Nat) (x : List Nat × State) : State :=
  sendDatagram (bump (bumpPart x.2 p 10) (cCreel 9)) (leAt d.bytes 4 4 % 1048576)
    { port, dst := d.src, dport := d.sport, type := 5, mgmt := some (leAt d.bytes 32 2, leAt d.bytes 34 2, x.1) }

/-- A datagram that passes the checks of 02 R46 steps 1 to 3 goes on by its TYPE. -/
theorem datagramIn_accepted {port : Nat} {d : Datagram} (hwell : wellFormedDatagram d = true) (hcreel : s.sys.creel = true)
    (hn : n = namedQueue s (byteAt d.bytes 1) (leAt d.bytes 4 4 % 1048576))
    (hacc : (acceptors s port d.src).contains (s.queue n).part = true)
    (hlive : liveQueue s n = true) (hcov : covers (s.queue n).transport port = true) (hkey : (s.queue n).key.toNat = leAt d.bytes 8 8)
    (hform : byteAt d.bytes 1 = 1 → (s.queue n).event = false) (hmgmt : byteAt d.bytes 1 ≠ 1 → (s.part (s.queue n).part).mgmt = true) :
    datagramIn s port d =
      if byteAt d.bytes 1 = 1 then
        s.each ((splitRequests true 16 ((List.range (leAt d.bytes 2 2)).map fun i => (d.bytes.drop (32 + 64 * i)).take 64)).getD [])
          fun u l => if (admitRequest u n (readRequest n (s.queue n).part port d.sport d.src l)).1 then
            (admitRequest u n (readRequest n (s.queue n).part port d.sport d.src l)).2 else bumpPart u (s.queue n).part 4
      else mgmtReply port d (s.queue n).part
        (if byteAt d.bytes 1 = 3 then mgmtRead (s.queue n).part (leAt d.bytes 34 2) (leAt d.bytes 32 2) s
          else ([], mgmtWrite (s.queue n).part ((List.range (leAt d.bytes 34 2)).map fun i => leAt d.bytes (36 + 4 * i) 4)
            (leAt d.bytes 32 2) s)) := by
  subst hn
  obtain ⟨hany, hchecks⟩ := acceptedDatagram hacc hlive hcov hkey hform hmgmt
  exact (if_neg (by simp [hwell])).trans ((if_neg (by simp [hcreel])).trans ((if_neg (by simp [hany])).trans
    (if_neg (by simp only [hchecks]; exact Bool.false_ne_true))))

/-- Settles O20: the first checks drop and count; what passes them is admitted, read or written as its TYPE says. -/
theorem datagramsAreCheckedInOrder : Obligations.DatagramsAreCheckedInOrder := by
  refine ⟨fun s port d hwell => ?_, fun s port d hwell hcreel => ?_, fun s port d => ?_, fun s port kind => ⟨_, rfl, ?_⟩⟩
  · have hdrop : datagramIn s port d = bump s (cCreel (port - 1)) := if_pos (by simp [hwell])
    exact ⟨congrArg _ hdrop, congrArg _ hdrop, congrArg _ hdrop⟩
  · exact congrArg Host.Outcome.next ((if_neg (by simp [hwell])).trans (if_pos (by simp [hcreel])))
  · intro n p hwell hcreel hacc hlive hcov hkey
    refine ⟨fun htype hmail => ?_, fun hmgmt htype => ?_, fun hmgmt htype => ?_⟩
    · refine congrArg Host.Outcome.next ((datagramIn_accepted hwell hcreel rfl hacc hlive hcov hkey (fun _ => hmail)
        fun h => absurd htype h).trans (if_pos htype))
    · have hreply : datagramIn s port d = mgmtReply port d p (mgmtRead p (leAt d.bytes 34 2) (leAt d.bytes 32 2) s) := by
        rw [datagramIn_accepted hwell hcreel rfl hacc hlive hcov hkey (fun h => by omega) fun _ => hmgmt, if_neg (by omega), if_pos htype]
      exact congrArg Host.Outcome.next hreply
    · have hreply : datagramIn s port d = mgmtReply port d p ([], mgmtWrite p ((List.range (leAt d.bytes 34 2)).map fun i =>
          leAt d.bytes (36 + 4 * i) 4) (leAt d.bytes 32 2) s) := by
        rw [datagramIn_accepted hwell hcreel rfl hacc hlive hcov hkey (fun h => by omega) fun _ => hmgmt, if_neg (by omega),
          if_neg (by omega)]
      exact congrArg Host.Outcome.next hreply
  · by_cases h : s.sys.ethOn = true ∧ 2 ≤ s.sys.stage ∧ kind ≠ .other
    · simp [h, b2n]
    · simp [h, b2n]

/-! ### Reads of registers (02 R55, R545) -/

/-- An ignored access is counted once more (02 R57). -/
theorem countFault_host : (countFault s).host = { s.host with faultCount := satAdd max32 s.host.faultCount 1 } := rfl

/-- A word whose window the partition does not reach reads as zero (02 R55). -/
theorem readWord_unreached (h : canReach s p off = false) : readWord s p off = (0, countFault s) := if_pos (by simp [h])

/-- A word of the status block is read without a further effect. -/
theorem readWord_status (hr : canReach s p off = true) (h : off < 4096) : readWord s p off = (statusWord s off, s) := by
  have hpage : off / 4096 = 0 := Nat.div_eq_of_lt h
  simp [readWord, hr, hpage]

/-- Settles O21: a bad access is counted; a good 32-bit read is the read of its word. -/
theorem registerReadsReturnTheirWords : Obligations.RegisterReadsReturnTheirWords := by
  refine ⟨fun s p off width v hbad => ⟨?_, ?_⟩, fun s p off hoff hr => ?_, fun s p off hoff hr => ?_, fun s p => ?_⟩
  · have hread : readReg s p off width = (0, countFault s) := if_pos (by simp [hbad])
    refine ⟨_, congrArg (fun x => Host.Outcome.next (keepRead x)) hread, rfl, rfl, ?_⟩
    exact State.onHost_frame (countFault_frame SameBut.rfl' rfl rfl) rfl
  · exact congrArg Host.Outcome.next (if_pos (by simp [hbad]))
  · refine ⟨_, congrArg (fun x => Host.Outcome.next (keepRead x)) (readReg_word hoff), rfl, fun h => ?_⟩
    rw [readWord_status hr h]
    exact ⟨rfl, State.onHost_frame SameBut.rfl' rfl⟩
  · exact ⟨_, congrArg (fun x => Host.Outcome.next (keepRead x)) ((readReg_word hoff).trans (readWord_unreached hr)), rfl, rfl⟩
  · exact ⟨_, rfl, rfl, rfl, State.onHost_frame (State.onHost_frame SameBut.rfl' rfl) rfl⟩

/-! ### Writes of registers (00 R13, 02 R57) -/

/-- A 32-bit write of a word at an aligned offset (02 R545). -/
theorem writeReg_word (h : off % 4 = 0) (v : Word) : writeReg s p off 32 v.toNat = writeWord s p off v.toNat := by
  have hv : v.toNat % 4294967296 = v.toNat := Nat.mod_eq_of_lt v.isLt
  simp [writeReg, goodAccess, h, hv]

/-- Offsets of the status block, of the doorbells and beyond the windows need no right (02 R55). -/
theorem canReach_free (h : windowClass off = none) : canReach s p off = true := by
  simp [canReach, h]

/-- A write to a window that the partition reaches goes to the register. -/
theorem reached (h : canReach s p off = true) : ¬ (!canReach s p off) = true := by simp [h]

/-- A write of an offset beyond the windows changes nothing (00 R13). -/
theorem writeWord_reserved {v : Nat} (hfrom : 0x6000 ≤ off) (hto : off < 0x10000) : writeWord s p off v = s := by
  have hpage : 6 ≤ off / 4096 ∧ off / 4096 ≤ 15 := by omega
  have hclass : windowClass off = none := by
    unfold windowClass
    split
    case h_5 => rfl
    all_goals omega
  refine (if_neg (reached (canReach_free hclass))).trans ?_
  split
  case h_6 => rfl
  all_goals omega

/-- The two halves of a 64-bit value, put into a register one after the other, make the value. -/
theorem join_halves {v old : Nat} (h : v < 2 ^ 64) : v / 4294967296 % 4294967296 * 4294967296 +
    (old / 4294967296 * 4294967296 + v % 4294967296) % 4294967296 = v := by omega

/-- Settles O23: each write is one write of a word, and the word's own branch. -/
theorem registerWritesActOnTheirRegister : Obligations.RegisterWritesActOnTheirRegister := by
  intro s p
  refine ⟨fun v hsup => ?_, fun v hsup => ?_, fun v hr => ?_, fun v => ?_, fun v off hfrom hto hoff => ?_⟩
  · exact ⟨_, congrArg Host.Outcome.next ((writeReg_word rfl v).trans ((if_neg (reached (canReach_free rfl))).trans
      ((if_pos rfl).trans (if_pos hsup)))), rfl, rfl, rfl, rfl, State.onSupply_frame SameBut.rfl' rfl⟩
  · exact congrArg Host.Outcome.next ((writeReg_word rfl v).trans ((if_neg (reached (canReach_free rfl))).trans
      ((if_pos rfl).trans (if_neg (by simp [hsup])))))
  · refine ⟨_, congrArg Host.Outcome.next ((writeReg_word rfl v).trans ((if_neg (reached hr)).trans (if_pos rfl))), ?_, ?_,
      State.onHost_frame SameBut.rfl' rfl⟩ <;> simp
  · exact ⟨_, rfl, join_halves v.isLt, State.onHost_frame (State.onHost_frame SameBut.rfl' rfl) rfl⟩
  · refine congrArg Host.Outcome.next ?_
    have hgood : goodAccess off 32 = true := by simp [goodAccess, hoff]
    exact (if_neg (by simp [hgood])).trans ((if_neg (by decide)).trans (writeWord_reserved hfrom hto))

end Sys2Proof.Machine
end

section
/-! The debug window, image updates, debug sessions and the JTAG instructions (18). -/

namespace Sys2Proof.Machine

open Sys2Proof

variable {s : State} {p off v : Nat}

/-! ### The debug window (18 R482, R487, R488, R493, R495) -/

/-- A 32-bit write within the debug window, which the partition reaches, goes to the debug register. -/
theorem writeReg_debug (hr : canReach s p 0x5000 = true) (hwin : off / 4096 = 5) (hoff : off % 4 = 0) (v : Word) :
    writeReg s p off 32 v.toNat = writeDebug s p off v.toNat := by
  have hreach : canReach s p off = true := by
    rw [← hr]
    simp [canReach, windowClass, hwin]
  refine (writeReg_word hoff v).trans ((if_neg (reached hreach)).trans ?_)
  simp only [hwin]

/-- The level at which the holder writes is the level of the session. -/
theorem holderLevel (h : isHolder s p = true) : (if isHolder s p then s.dbg.level else .closed) = s.dbg.level := if_pos h

/-- The halt requests of the weavers are stored as written, and they are what reaches the weavers. -/
theorem setWhalt_halts : (setWhalt s v).dbg.whalt = BitVec.ofNat 64 v ∧
    haltedWeavers (setWhalt s v) = (BitVec.ofNat 64 v &&& BitVec.ofNat 64 (haltable s)) |||
      BitVec.ofNat 64 (ofBits ((List.range 64).map fun w => (s.weaver w).stopped)) := by
  have hkept : SameBut (among [.dbg, .ctr, .cairn, .rings, .safety]) s (setWhalt s v) :=
    setWhalt_frame SameBut.rfl' rfl rfl rfl rfl rfl
  have hstored : (setWhalt s v).dbg.whalt = BitVec.ofNat 64 v := by
    unfold setWhalt
    dsimp only
    split
    · exact congrArg DbgSt.whalt ((injectStop_frame (x := among [.ctr, .cairn, .rings, .safety]) SameBut.rfl' rfl rfl rfl rfl).2 .dbg rfl)
    · rfl
  refine ⟨hstored, ?_⟩
  have hpow : (setWhalt s v).pow = s.pow := hkept.2 .pow rfl
  simp only [haltedWeavers, haltable, hstored, hpow, hkept.weaver rfl]

/-- The halt requests of the cores are stored, that of the summit core only in BLANK or RETURNED. -/
theorem setChalt_chalt : (setChalt s v).dbg.chalt =
    BitVec.ofNat 32 (v % 512 + if bitAt v 9 = true ∧ (s.sys.lc = .blank ∨ s.sys.lc = .returned) then 512 else 0) := by
  unfold setChalt
  extract_lets was free now u1 u2 u3 u4
  split
  · exact congrArg DbgSt.chalt ((haltCore_frame (x := among [.sys, .ctr, .cairn, .rings, .safety])
      (injectStop_frame SameBut.rfl' rfl rfl rfl rfl) rfl rfl rfl rfl).2 .dbg rfl)
  · rfl

/-- An access that the memory island refuses leaves the debug part as it is. -/
theorem regionViolation_dbg {write : Bool} {addr : Nat} : (regionViolation s 14 write addr).dbg = s.dbg :=
  (regionViolation_frame (x := among [.ctr, .cairn]) SameBut.rfl' rfl rfl).2 .dbg rfl

/-- A write of DBG.MEM.DATA where writing is allowed: the word is stored and the address advances. -/
theorem writeMemData_allowed (h : memWritable s = true) : writeMemData s v = s.onDbg fun d => { d with
    lpddr := if d.memSpace = 0 then memPut d.lpddr d.memAddr v else d.lpddr
    wlocal := if d.memSpace = 1 then memPut d.wlocal (d.memUnit * 524288 + d.memAddr) v else d.wlocal
    memAddr := (d.memAddr + 4) % 18446744073709551616 } := by
  simp [writeMemData, h]

/-- A write of DBG.MEM.DATA where writing is not allowed: both memories stay, the address advances and the failure counts. -/
theorem writeMemData_refused (h : memWritable s = false) : (writeMemData s v).dbg = { s.dbg with
    memAddr := (s.dbg.memAddr + 4) % 18446744073709551616, addrFail := satAdd 65535 s.dbg.addrFail 1 } := by
  simp only [writeMemData, h, State.onDbg]
  split
  · simp [regionViolation_dbg]
  · simp

/-- A read of DBG.MEM.DATA by the holder of an INTRUSIVE session: the word or 0, and the address advances (18 R487). -/
theorem readMemData_intrusive (hholder : isHolder s p = true) (hlevel : s.dbg.level = .intrusive) :
    readMemData s p =
      if memReadable s s.dbg.memSpace s.dbg.memUnit s.dbg.memAddr = true then
        (memWord s, s.onDbg fun d => { d with memAddr := (d.memAddr + 4) % 18446744073709551616 })
      else (0, (if s.dbg.memSpace = 0 then regionViolation s 14 false s.dbg.memAddr else s).onDbg fun d => { d with
        memAddr := (d.memAddr + 4) % 18446744073709551616, addrFail := satAdd 65535 d.addrFail 1 }) := by
  cases h : memReadable s s.dbg.memSpace s.dbg.memUnit s.dbg.memAddr <;> simp [readMemData, hholder, hlevel, h]

/-- A word read at DBG.MEM.DATA in a window that the partition reaches. -/
theorem readWord_memData (hr : canReach s p 0x5000 = true) :
    readWord s p 0x503C = readMemData s p := (if_neg (reached hr)).trans (if_pos rfl)

/-- Settles O24: every write goes to its register, at the level of the session; what each register does is said above. -/
theorem debugWindowActsForTheHolder : Obligations.DebugWindowActsForTheHolder := by
  intro s p hholder hlevel hreach
  have hlv : ((if isHolder s p then s.dbg.level else DbgLevel.closed) == DbgLevel.intrusive) = true := by
    rw [holderLevel hholder, hlevel]
    rfl
  refine ⟨fun v => ?_, fun v => ?_, fun v => ?_, fun v hodd => ?_, fun v => ?_, ?_⟩
  · have hexec : writeReg s p 0x5004 32 v.toNat = setWhalt s (v.toNat + 4294967296 * half s.dbg.whalt.toNat true) :=
      (writeReg_debug hreach rfl rfl v).trans (if_pos hlv)
    exact ⟨_, congrArg Host.Outcome.next hexec, setWhalt_halts⟩
  · have hexec : writeReg s p 0x5008 32 v.toNat = setWhalt s (half s.dbg.whalt.toNat false + 4294967296 * v.toNat) :=
      (writeReg_debug hreach rfl rfl v).trans (if_pos hlv)
    exact ⟨_, congrArg Host.Outcome.next hexec, setWhalt_halts⟩
  · have hexec : writeReg s p 0x500C 32 v.toNat = setChalt s v.toNat :=
      (writeReg_debug hreach rfl rfl v).trans (if_pos hlv)
    exact ⟨_, congrArg Host.Outcome.next hexec, setChalt_chalt⟩
  · have hexec : writeReg s p 0x501C 32 v.toNat = debugReset s 1 :=
      (writeReg_debug hreach rfl rfl v).trans ((if_pos hlv).trans (if_pos hodd))
    exact ⟨_, congrArg Host.Outcome.next hexec, rfl, rfl, rfl, rfl⟩
  · have hexec : writeReg s p 0x503C 32 v.toNat = writeMemData s v.toNat :=
      (writeReg_debug hreach rfl rfl v).trans (if_pos hlv)
    refine ⟨_, congrArg Host.Outcome.next hexec, ?_, fun hw hspace => ?_, fun hw => ?_, fun hw => ?_,
      writeMemData_frame SameBut.rfl' rfl rfl rfl⟩
    · cases hw : memWritable s with
      | true => rw [writeMemData_allowed hw]; rfl
      | false => rw [writeMemData_refused hw]
    · rw [writeMemData_allowed hw]
      exact if_pos hspace
    · rw [writeMemData_refused hw]
      exact ⟨rfl, rfl, rfl⟩
    · rw [writeMemData_allowed hw]
      exact State.onDbg_frame SameBut.rfl' rfl
  · have hread := (readWord_memData hreach).trans (readMemData_intrusive hholder hlevel)
    refine ⟨_, congrArg (fun x => Host.Outcome.next (keepRead x)) ((readReg_word rfl).trans hread), ?_⟩
    cases hok : memReadable s s.dbg.memSpace s.dbg.memUnit s.dbg.memAddr with
    | true =>
      rw [if_pos rfl]
      exact ⟨rfl, fun _ => rfl, nofun, fun _ => State.onHost_frame (State.onDbg_frame SameBut.rfl' rfl) rfl,
        State.onHost_frame (State.onDbg_frame SameBut.rfl' rfl) rfl⟩
    | false =>
      rw [if_neg Bool.false_ne_true]
      generalize hu : (if s.dbg.memSpace = 0 then regionViolation s 14 false s.dbg.memAddr else s) = u
      have hdbg : u.dbg = s.dbg := by
        rw [← hu]
        split
        · exact regionViolation_dbg
        · rfl
      have hframe : SameBut (among [.dbg, .host, .cairn, .ctr]) s u := by
        rw [← hu]
        exact .ite (regionViolation_frame SameBut.rfl' rfl rfl) SameBut.rfl'
      refine ⟨?_, nofun, fun _ => ⟨rfl, ?_⟩, nofun, State.onHost_frame (State.onDbg_frame hframe rfl) rfl⟩
      · change (u.dbg.memAddr + 4) % 18446744073709551616 = _
        rw [hdbg]
      · change satAdd 65535 u.dbg.addrFail 1 = _
        rw [hdbg]

/-! ### Image updates (18 R482) -/

/-- `bitAt` is the library's test of a bit. -/
theorem bitAt_eq_testBit {n i : Nat} : bitAt n i = n.testBit i := by
  rw [Nat.testBit_eq_decide_div_mod_eq]
  rfl

/-- A bit above the KIND field set in the value of DBG.IMG.CTRL leaves the KIND and the other bits. -/
theorem imgCtrlValue {v : Word} {i : Nat} (hi : 4 ≤ i) (hw : i < 32) : (v ||| BitVec.ofNat 32 (2 ^ i)).toNat % 16 = v.toNat % 16 ∧
    bitAt (v ||| BitVec.ofNat 32 (2 ^ i)).toNat i = true ∧
    ∀ j, j ≠ i → bitAt (v ||| BitVec.ofNat 32 (2 ^ i)).toNat j = bitAt v.toNat j := by
  have hpow : (2 ^ i : Nat) < 2 ^ 32 := Nat.pow_lt_pow_right (by omega) hw
  have hval : (v ||| BitVec.ofNat 32 (2 ^ i)).toNat = v.toNat ||| 2 ^ i := by
    rw [BitVec.toNat_or, BitVec.toNat_ofNat, Nat.mod_eq_of_lt hpow]
  have hkind : (2 ^ i : Nat) % 2 ^ 4 = 0 := Nat.mod_eq_zero_of_dvd (Nat.pow_dvd_pow 2 hi)
  refine ⟨?_, ?_, fun j hj => ?_⟩
  · rw [hval]
    exact (Nat.or_mod_two_pow (n := 4)).trans (by rw [hkind, Nat.or_zero])
  · rw [bitAt_eq_testBit, hval, Nat.testBit_or, Nat.testBit_two_pow_self, Bool.or_true]
  · rw [bitAt_eq_testBit, bitAt_eq_testBit, hval, Nat.testBit_or, Nat.testBit_two_pow_of_ne hj.symm, Bool.or_false]

/-- The end of a grant closes the debug interface and leaves the images. -/
theorem endSession_grant {why : Nat} (h : s.dbg.level = .imgGrant) :
    (endSession s why).dbg.level = .closed ∧ (endSession s why).sys.images = s.sys.images := by
  have hevent : SameBut (among [.ctr, .cairn]) s (dbgEvent s 2 s.dbg.holder why) := dbgEvent_frame SameBut.rfl' rfl rfl
  have hsys : (dbgEvent s 2 s.dbg.holder why).sys = s.sys := hevent.2 .sys rfl
  have hdbg : (dbgEvent s 2 s.dbg.holder why).dbg = s.dbg := hevent.2 .dbg rfl
  simp [endSession, h, hdbg, hsys]

/-- An image copy after a change of the image copies. -/
theorem imgAt_setImg {kind copy : Nat} {c : ImgCopy} : imgAt (setImg s kind copy c) kind copy = c := tabGet_tabSet_same

/-- START of the granted KIND erases copy 1 and empties what was received. -/
theorem imgCtrl_start (hkind : v % 16 = s.dbg.grantKind) (hstart : bitAt v 4 = true) (hcommit : bitAt v 5 = false) :
    imgCtrl s v = (setImg (s.onDbg fun d => { d with imgKind := v % 16 }) (v % 16) 1 { erased := true }).onDbg fun d =>
      { d with imgOffset := 0, imgWords := [], imgStarted := true, imgStatus := 1 } := by
  refine (if_neg (by simp [hcommit])).trans ((if_pos hstart).trans (if_pos hkind))

/-- The image copies that a COMMIT leaves: copy 1, and copy 0 where the image verifies. -/
def commitImages (s : State) (k code : Nat) (c : ImgCopy) : State :=
  if code = 3 then dbgEvent (setImg (setImg s k 1 c) k 0 c) 8 k c.svn else setImg s k 1 c

/-- What a COMMIT leaves of the copies and of the grant. -/
theorem commitImages_copies {k code : Nat} {c : ImgCopy} : imgAt (commitImages s k code c) k 1 = c ∧
    (code = 3 → imgAt (commitImages s k code c) k 0 = c) ∧ (commitImages s k code c).dbg = s.dbg := by
  unfold commitImages
  split
  · have hevent : SameBut (among [.ctr, .cairn]) (setImg (setImg s k 1 c) k 0 c) (dbgEvent (setImg (setImg s k 1 c) k 0 c) 8 k c.svn) :=
      dbgEvent_frame SameBut.rfl' rfl rfl
    have hsys : (dbgEvent (setImg (setImg s k 1 c) k 0 c) 8 k c.svn).sys = (setImg (setImg s k 1 c) k 0 c).sys := hevent.2 .sys rfl
    refine ⟨?_, fun _ => ?_, hevent.2 .dbg rfl⟩
    · unfold imgAt
      rw [hsys]
      exact (tabGet_tabSet_ne (by omega)).trans imgAt_setImg
    · unfold imgAt
      rw [hsys]
      exact imgAt_setImg
  · exact ⟨imgAt_setImg, fun h => absurd h (by assumption), rfl⟩

/-- COMMIT programs copy 1, and copy 0 where the image verifies, and ends the grant. -/
theorem imgCtrl_commit {k : Nat} {c : ImgCopy} (hk : k = s.dbg.grantKind) (hc : c = parseImg s (imgBytes s.dbg.imgWords))
    (hlevel : s.dbg.level = .imgGrant) (hbegun : s.dbg.imgStarted = true)
    (hkind : v % 16 = s.dbg.grantKind) (hstart : bitAt v 4 = false) (hcommit : bitAt v 5 = true) :
    (imgCtrl s v).dbg.level = .closed ∧ (imgCtrl s v).dbg.imgStatus = verifyCode s k c ∧ imgAt (imgCtrl s v) k 1 = c ∧
      (verifyCode s k c = 3 → imgAt (imgCtrl s v) k 0 = c) := by
  have hform : imgCtrl s v = (endSession (commitImages (s.onDbg fun d => { d with imgKind := v % 16 }) k (verifyCode s k c) c) 1).onDbg
      fun d => { d with imgStatus := verifyCode s k c, imgWords := [] } := by
    subst hk hc
    simp only [imgCtrl, hstart, hcommit, Bool.false_eq_true, if_false, if_true, hbegun, State.onDbg_dbg, hkind, and_self]
    rfl
  generalize hu : commitImages (s.onDbg fun d => { d with imgKind := v % 16 }) k (verifyCode s k c) c = u at hform
  obtain ⟨hcopy, hgood, hdbg⟩ := hu ▸ commitImages_copies (s := s.onDbg fun d => { d with imgKind := v % 16 })
    (k := k) (code := verifyCode s k c) (c := c)
  obtain ⟨hclosed, himages⟩ := endSession_grant (s := u) (why := 1) (hdbg ▸ hlevel)
  have hat (i : Nat) : imgAt (imgCtrl s v) k i = imgAt u k i := by
    rw [hform]
    exact congrArg (fun x => tabGet x _ _) himages
  exact ⟨hform ▸ hclosed, hform ▸ rfl, (hat 1).trans hcopy, fun h => (hat 0).trans (hgood h)⟩

/-- Settles O25. -/
theorem updateGrantProgramsAnImage : Obligations.UpdateGrantProgramsAnImage := by
  intro s p v hholder hlevel hreach
  have hlv : ((if isHolder s p then s.dbg.level else DbgLevel.closed) == DbgLevel.imgGrant) = true := by
    rw [holderLevel hholder, hlevel]
    rfl
  have hctrl (v : Word) : writeReg s p 0x5040 32 v.toNat = imgCtrl s v.toNat :=
    (writeReg_debug hreach rfl rfl v).trans (if_pos hlv)
  refine ⟨fun hkind hcommit => ?_, fun hbegun => ?_, fun hbegun hkind hstart => ?_⟩
  · obtain ⟨hsame, hset, hothers⟩ := imgCtrlValue (v := v) (i := 4) (by decide) (by decide)
    have hexec := (hctrl (v ||| 0x10)).trans (imgCtrl_start (hsame.trans hkind) hset ((hothers 5 (by decide)).trans hcommit))
    refine ⟨_, congrArg Host.Outcome.next hexec, rfl, rfl, rfl, rfl, ?_⟩
    rw [← hkind, ← hsame]
    exact imgAt_setImg
  · exact ⟨_, congrArg Host.Outcome.next ((writeReg_debug hreach rfl rfl v).trans ((if_pos hlv).trans (if_pos hbegun))),
      congrArg (· :: _) (Nat.mod_eq_of_lt v.isLt), rfl, State.onDbg_frame SameBut.rfl' rfl⟩
  · obtain ⟨hsame, hset, hothers⟩ := imgCtrlValue (v := v) (i := 5) (by decide) (by decide)
    obtain ⟨hclosed, hstatus, hcopy, hgood⟩ := imgCtrl_commit rfl rfl hlevel hbegun (hsame.trans hkind)
      ((hothers 4 (by decide)).trans hstart) hset
    exact ⟨_, congrArg Host.Outcome.next (hctrl (v ||| 0x20)), hcopy, hstatus, hclosed, fun h => hgood (hstatus.symm.trans h)⟩

end Sys2Proof.Machine
end

section
/-! Latched trips of the safety channels (10 R283): what a latch adds, and what it leaves alone. -/

namespace Sys2Proof.Machine

open Sys2Proof

variable {s t u : State} {c : Chan} {scope cause n : Nat} {x : ChanSt} {l : List Nat}

/-! ### A channel's latches -/

/-- A latch that is replaced. -/
@[simp] theorem latchOf_setLatch_same : latchOf (setLatch x n l) n = l := by
  unfold latchOf setLatch
  split
  · rfl
  · exact tabGet_tabSet_same

/-- The latches of the other scopes stay. -/
theorem latchOf_setLatch_ne {m : Nat} (hm : m ≤ 8) (hn : n ≤ 8) (h : m ≠ n) : latchOf (setLatch x n l) m = latchOf x m := by
  by_cases h8 : n = 8
  · subst h8
    have hlow : ¬ 8 ≤ m := by omega
    simp [latchOf, setLatch, hlow]
  · have hlow : ¬ 8 ≤ n := by omega
    by_cases h8' : 8 ≤ m
    · simp [latchOf, setLatch, hlow, h8']
    · simpa [latchOf, setLatch, hlow, h8'] using tabGet_tabSet_ne h

/-- There are two channels. -/
theorem otherChan_ne : otherChan c ≠ c := by cases c <;> decide

/-- A quiet latch changes its channel's latch of the scope alone. -/
theorem latchQuiet_chan : (latchQuiet s c scope cause).chan c =
    if !(s.chan c).running || (latchOf (s.chan c) scope).contains cause then s.chan c
    else setLatch (s.chan c) scope (latchOf (s.chan c) scope ++ [cause]) := by
  unfold latchQuiet
  cases c <;> dsimp only <;> split <;> rfl

/-- A quiet latch of a channel leaves the other channel. -/
theorem latchQuiet_chan_ne {d : Chan} (h : d ≠ c) : (latchQuiet s c scope cause).chan d = s.chan d := by
  unfold latchQuiet
  dsimp only
  split
  · rfl
  · exact State.chan_onChan_ne h

/-- A latch leaves its channel running as before. -/
theorem setLatch_running : (setLatch x n l).running = x.running := by
  unfold setLatch
  split <;> rfl

/-- A quiet latch leaves every channel running as before. -/
theorem latchQuiet_running {d : Chan} : ((latchQuiet s c scope cause).chan d).running = (s.chan d).running := by
  by_cases h : d = c
  · subst h
    rw [latchQuiet_chan]
    split
    · rfl
    · exact setLatch_running
  · rw [latchQuiet_chan_ne h]

/-- What a trip latches depends on the safety part alone. -/
theorem LatchesTrip.of_safety (h : LatchesTrip c scope cause s t) (e : u.safety = t.safety) : LatchesTrip c scope cause s u := by
  have hchan (d : Chan) : u.chan d = t.chan d := by cases d <;> simp [State.chan, e]
  exact ⟨by rw [hchan]; exact h.latched, by rw [hchan]; exact h.kept, by rw [hchan]; exact h.others, by rw [hchan]; exact h.other⟩

/-- A trip after a step that leaves the latches. -/
theorem LatchesTrip.after (h : LatchesTrip c scope cause t u) (hlatch : ∀ k, latchOf (t.chan c) k = latchOf (s.chan c) k)
    (hother : t.chan (otherChan c) = s.chan (otherChan c)) : LatchesTrip c scope cause s u :=
  ⟨h.latched, fun k hk => h.kept k (hlatch scope ▸ hk), fun k h1 h2 => (h.others k h1 h2).trans (hlatch k), h.other.trans hother⟩

/-- A running channel latches the cause quietly. -/
theorem latchesTrip_latchQuiet (hrun : (s.chan c).running = true) (hscope : scope ≤ 8) :
    LatchesTrip c scope cause s (latchQuiet s c scope cause) := by
  by_cases hin : (latchOf (s.chan c) scope).contains cause = true
  · have hstays : latchQuiet s c scope cause = s := if_pos (by simp [hrun, List.contains_iff_mem.1 hin])
    rw [hstays]
    exact ⟨List.contains_iff_mem.1 hin, fun _ h => h, fun _ _ _ => rfl, rfl⟩
  · have hchan : (latchQuiet s c scope cause).chan c = setLatch (s.chan c) scope (latchOf (s.chan c) scope ++ [cause]) := by
      rw [latchQuiet_chan, if_neg (by simpa [hrun] using hin)]
    refine ⟨?_, fun k hk => ?_, fun k hk hne => ?_, latchQuiet_chan_ne otherChan_ne⟩
    · simp [hchan]
    · simp [hchan, hk]
    · rw [hchan]
      exact latchOf_setLatch_ne hk hscope hne

/-- A trip latches what its quiet form latches, and reports it. -/
theorem latchTrip_safety {car : Nat} : (latchTrip s c scope cause car).safety = (latchQuiet s c scope cause).safety := by
  unfold latchTrip
  dsimp only
  split
  case isTrue h => exact congrArg State.safety (if_pos h).symm
  case isFalse h => exact (safetyEvent_frame (x := among [.ctr, .cairn]) SameBut.rfl' rfl rfl).2 .safety rfl

/-- A running channel latches the cause (10 R283). -/
theorem latchesTrip_latchTrip {car : Nat} (hrun : (s.chan c).running = true) (hscope : scope ≤ 8) :
    LatchesTrip c scope cause s (latchTrip s c scope cause car) :=
  (latchesTrip_latchQuiet hrun hscope).of_safety latchTrip_safety

/-- A module trip of both channels changes the safety part as two quiet latches do. -/
theorem tripModule_safety : (tripModule s cause).safety = (latchQuiet (latchQuiet s .core 8 cause) .scarp 8 cause).safety := by
  unfold tripModule
  dsimp only
  split
  · exact (safetyEvent_frame (x := among [.ctr, .cairn]) SameBut.rfl' rfl rfl).2 .safety rfl
  · rfl

/-- Every running channel holds the cause of a module trip of both (10 R308). -/
theorem mem_modTrip_tripModule (hrun : (s.chan c).running = true) : cause ∈ ((tripModule s cause).chan c).modTrip := by
  have hchan : (tripModule s cause).chan c = (latchQuiet (latchQuiet s .core 8 cause) .scarp 8 cause).chan c := by
    cases c
    · exact congrArg SafetySt.core tripModule_safety
    · exact congrArg SafetySt.scarp tripModule_safety
  rw [hchan]
  cases c with
  | core =>
    rw [latchQuiet_chan_ne (by decide)]
    exact (latchesTrip_latchQuiet hrun (Nat.le_refl 8)).latched
  | scarp => exact (latchesTrip_latchQuiet (latchQuiet_running.trans hrun) (Nat.le_refl 8)).latched

/-! ### Faults and demands (10 R281 to R283, R295, R299, R300, R304, R308) -/

/-- Commands that latch a trip touch the safety part, the records and the counters. -/
theorem latchTrip_touches {car : Nat} (h : SameBut (among [.safety, .cairn, .ctr]) s t) :
    SameBut (among [.safety, .cairn, .ctr]) s (latchTrip t c scope cause car) := latchTrip_frame h rfl rfl rfl

/-- A change of what a channel holds of a car, a stream or a safe stop 1 leaves its latches. -/
theorem latchOf_congr {y : ChanSt} (hm : y.modTrip = x.modTrip) (hs : y.shaftTrip = x.shaftTrip) : latchOf y n = latchOf x n := by
  simp [latchOf, hm, hs]

/-- A trip that follows a change of a channel beside its latches. -/
theorem latchesTrip_onChan {f : ChanSt → ChanSt} {car : Nat} (hrun : (f (s.chan c)).running = true) (hscope : scope ≤ 8)
    (hm : (f (s.chan c)).modTrip = (s.chan c).modTrip) (hs : (f (s.chan c)).shaftTrip = (s.chan c).shaftTrip) :
    LatchesTrip c scope cause s (latchTrip (s.onChan c f) c scope cause car) :=
  (latchesTrip_latchTrip (s := s.onChan c f) (by rw [State.chan_onChan_same]; exact hrun) hscope).after
    (fun k => by rw [State.chan_onChan_same]; exact latchOf_congr hm hs) (State.chan_onChan_ne otherChan_ne)

/-- A trip changes of its channel nothing but the latches. -/
theorem latchTrip_chan {car : Nat} : ∃ m h, (latchTrip s c scope cause car).chan c = { s.chan c with modTrip := m, shaftTrip := h } := by
  have hchan : (latchTrip s c scope cause car).chan c = (latchQuiet s c scope cause).chan c := by
    cases c
    · exact congrArg SafetySt.core latchTrip_safety
    · exact congrArg SafetySt.scarp latchTrip_safety
  rw [hchan, latchQuiet_chan]
  split
  · exact ⟨_, _, rfl⟩
  · unfold setLatch
    split <;> exact ⟨_, _, rfl⟩

/-- A trip of a channel leaves the other channel. -/
theorem latchTrip_chan_ne {d : Chan} {car : Nat} (h : d ≠ c) : (latchTrip s c scope cause car).chan d = s.chan d := by
  rw [← latchQuiet_chan_ne (s := s) (scope := scope) (cause := cause) h]
  cases d
  · exact congrArg SafetySt.core latchTrip_safety
  · exact congrArg SafetySt.scarp latchTrip_safety

/-- A channel's trip where the other channel's clock is bad (10 R282). -/
def clockTrip (s : State) (c : Chan) (cause : Nat) : State := if clockBad (s.chan c).dev then latchTrip s c 8 cause 255 else s

/-- What a bad clock latches. -/
theorem clockTrip_chan : ((clockTrip s c cause).chan c).dev = (s.chan c).dev ∧
    ((s.chan c).running = true → clockBad (s.chan c).dev = true → cause ∈ ((clockTrip s c cause).chan c).modTrip) ∧
    (clockBad (s.chan c).dev = false → ((clockTrip s c cause).chan c).modTrip = (s.chan c).modTrip) := by
  unfold clockTrip
  cases hbad : clockBad (s.chan c).dev with
  | false =>
    rw [if_neg Bool.false_ne_true]
    exact ⟨rfl, fun _ => nofun, fun _ => rfl⟩
  | true =>
    rw [if_pos rfl]
    obtain ⟨m, h, hchan⟩ := latchTrip_chan (s := s) (c := c) (scope := 8) (cause := cause) (car := 255)
    exact ⟨by rw [hchan], fun hrun _ => (latchesTrip_latchTrip hrun (Nat.le_refl 8)).latched, nofun⟩

/-- A bad clock of one channel leaves what the other channel has latched. -/
theorem clockTrip_chan_ne {d : Chan} (h : d ≠ c) : (clockTrip s c cause).chan d = s.chan d := by
  unfold clockTrip
  split
  · exact latchTrip_chan_ne h
  · rfl

/-- The scope of the trip that ends a safe stop 1 is the module or the shaft. -/
theorem ss1Scope_le {h : Nat} (hh : h < 8) : ss1Scope x h cause ≤ 8 := by
  unfold ss1Scope
  split <;> omega

/-- A brake whose feedback is inconsistent has failed (10 R300). -/
theorem exec_brakeFeedbackTimeout {car h : Nat} {k : SafeCar} (hrun : (s.chan c).running = true)
    (hcar : shaftOfCar (s.chan c) car = some (h, k)) (hbad : brakeBad s c k = true) : exec (.brakeFeedbackTimeout c car) s =
      .next (latchTrip (s.onChan c fun x => { x with cars := tabMod x.cars {} car fun y => { y with brakeFail := true } }) c
        (if (cfgShaft (s.chan c) h).module.contains 0x0B then 8 else h) 0x0B car) := by
  change execBrakeFeedbackTimeout c car s = _
  unfold execBrakeFeedbackTimeout
  simp only [hcar]
  exact congrArg Host.Outcome.next (if_pos (by simp [hrun, hbad]))

/-- A car without records is lost to the channel (10 R295). -/
theorem exec_safeLinkLost_car {car h : Nat} {k : SafeCar} (hrun : (s.chan c).running = true)
    (hcar : shaftOfCar (s.chan c) car = some (h, k)) : exec (.safeLinkLost c (.car car)) s =
      .next (latchTrip (s.onChan c fun x => { x with cars := tabMod x.cars {} car fun y => { y with lost := true } }) c h 0x0C car) := by
  change execSafeLinkLost c (.car car) s = _
  unfold execSafeLinkLost
  simp only [hcar]
  exact congrArg Host.Outcome.next (if_neg (by simp [hrun]))

/-- A stream without frames is lost to the channel, and trips the shaft that uses it (10 R295). -/
theorem exec_safeLinkLost_stream {l : LinkSrc} {b : Bool} {h : Nat} (hrun : (s.chan c).running = true)
    (hl : tabHas (s.chan c).cfg.links (linkNo l) = true) (hshafts : shaftsOfLink (s.chan c) (linkNo l) = [h]) :
    exec (.safeLinkLost c (.stream l b)) s = .next (latchTrip (s.onChan c fun x => { x with
      streams := tabMod x.streams {} (2 * linkNo l + b2n b) fun t => { t with lost := true, good := 0 } }) c h 0x0C 255) := by
  change execSafeLinkLost c (.stream l b) s = _
  unfold execSafeLinkLost
  refine congrArg Host.Outcome.next ((if_neg (by simp [hrun, hl])).trans ?_)
  simp only [hshafts]
  rfl

/-- Settles O49: each fault is one latch, or one module trip of both channels, after what it notes of its car or stream. -/
theorem safetyChannelsLatchTheirTrips : Obligations.SafetyChannelsLatchTheirTrips := by
  intro s
  refine ⟨fun c hrun => ⟨?_, fun sc cause hsc => ?_, fun line readsOff hline hlive => ⟨fun hoff => ?_, fun hoff => ?_⟩,
    fun h hh hon hend => ?_, fun car h k hh hcar => ⟨fun hbad => ?_, ?_⟩, fun l b h hl hshafts => ?_⟩, fun hrun => ?_, fun hrun => ?_,
    fun line hline hlive => ?_, fun hdiff => ?_, fun hw hl => ?_, fun a b hcore hscarp => ?_⟩
  · exact ⟨_, rfl, latchesTrip_latchTrip hrun (Nat.le_refl 8), latchTrip_touches SameBut.rfl'⟩
  · exact ⟨_, rfl, latchesTrip_latchTrip hrun hsc, latchTrip_touches SameBut.rfl'⟩
  · exact ⟨_, congrArg Host.Outcome.next (if_pos ⟨hline, hlive, by simp [hoff]⟩), latchesTrip_latchTrip hrun (Nat.le_refl 8),
      latchTrip_touches SameBut.rfl'⟩
  · exact congrArg Host.Outcome.next (if_neg fun h => h.2.2 hoff)
  · refine ⟨_, congrArg Host.Outcome.next (if_pos ⟨hon, hend⟩), ?_, latchesTrip_onChan hrun (ss1Scope_le hh) rfl rfl,
      latchTrip_touches (State.onChan_frame SameBut.rfl' rfl)⟩
    obtain ⟨m, h', hchan⟩ := latchTrip_chan (s := s.onChan c (ss1Off h)) (c := c)
      (scope := ss1Scope (s.chan c) h (tabGet (s.chan c).ss1 {} h).cause) (cause := (tabGet (s.chan c).ss1 {} h).cause) (car := 255)
    unfold endSs1
    rw [hchan, State.chan_onChan_same]
    simp [ss1Off]
  · refine ⟨_, exec_brakeFeedbackTimeout hrun hcar hbad, ?_, latchesTrip_onChan hrun (by split <;> omega) rfl rfl,
      latchTrip_touches (State.onChan_frame SameBut.rfl' rfl)⟩
    obtain ⟨m, h', hchan⟩ := latchTrip_chan (s := s.onChan c fun x => { x with cars := tabMod x.cars {} car fun y => { y with brakeFail := true } })
      (c := c) (scope := if (cfgShaft (s.chan c) h).module.contains 0x0B then 8 else h) (cause := 0x0B) (car := car)
    rw [hchan, State.chan_onChan_same]
    simp
  · refine ⟨_, exec_safeLinkLost_car hrun hcar, ?_, latchesTrip_onChan hrun (by omega) rfl rfl,
      latchTrip_touches (State.onChan_frame SameBut.rfl' rfl)⟩
    obtain ⟨m, h', hchan⟩ := latchTrip_chan (s := s.onChan c fun x => { x with cars := tabMod x.cars {} car fun y => { y with lost := true } })
      (c := c) (scope := h) (cause := 0x0C) (car := car)
    rw [hchan, State.chan_onChan_same]
    simp
  · have hle : h < 8 := by
      have hin : h ∈ shaftsOfLink (s.chan c) (linkNo l) := by simp [hshafts]
      have hcfg := (List.mem_filter.1 hin).1
      exact List.mem_range.1 (List.mem_filter.1 hcfg).1
    refine ⟨_, exec_safeLinkLost_stream hrun hl hshafts, ?_, latchesTrip_onChan hrun (by omega) rfl rfl,
      latchTrip_touches (State.onChan_frame SameBut.rfl' rfl)⟩
    obtain ⟨m, h', hchan⟩ := latchTrip_chan (s := s.onChan c fun x => { x with
      streams := tabMod x.streams {} (2 * linkNo l + b2n b) fun t => { t with lost := true, good := 0 } })
      (c := c) (scope := h) (cause := 0x0C) (car := 255)
    rw [hchan, State.chan_onChan_same]
    simp
  · exact ⟨_, rfl, latchesTrip_latchTrip hrun (Nat.le_refl 8), latchTrip_touches SameBut.rfl'⟩
  · exact ⟨_, congrArg Host.Outcome.next (if_pos hrun), rfl, rfl, mem_modTrip_tripModule (c := .core) hrun,
      fun h => mem_modTrip_tripModule (c := .scarp) h, haltCore_frame SameBut.rfl' rfl rfl rfl rfl⟩
  · exact ⟨_, congrArg Host.Outcome.next (if_pos ⟨hline, hlive⟩), fun h => mem_modTrip_tripModule (c := .core) h,
      fun h => mem_modTrip_tripModule (c := .scarp) h, tripModule_frame SameBut.rfl' rfl rfl rfl⟩
  · refine ⟨_, congrArg Host.Outcome.next (if_pos ?_), fun h => mem_modTrip_tripModule (c := .core) h,
      fun h => mem_modTrip_tripModule (c := .scarp) h, tripModule_frame SameBut.rfl' rfl rfl rfl⟩
    rcases hdiff with h | ⟨h, h'⟩
    · simp [h]
    · simp [h, h']
  · refine congrArg Host.Outcome.next (if_neg ?_)
    rcases hl with h | h <;> simp [h, hw]
  · generalize hu : ((s.onChan .core fun x => { x with dev := (a :: x.dev).take 16 }).onChan .scarp fun x =>
      { x with dev := (b :: x.dev).take 16 }) = u
    have hexec : exec (.crossChannelExchange a b) s = .next (clockTrip (clockTrip u .core 0x13) .scarp 0x12) :=
      hu ▸ if_pos ⟨hcore, hscarp⟩
    obtain ⟨hdev, hin, hout⟩ := clockTrip_chan (s := u) (c := .core) (cause := 0x13)
    obtain ⟨hdev', hin', hout'⟩ := clockTrip_chan (s := clockTrip u .core 0x13) (c := .scarp) (cause := 0x12)
    have hother : (clockTrip u .core 0x13).chan .scarp = u.chan .scarp := clockTrip_chan_ne (by decide)
    have hkept : (clockTrip (clockTrip u .core 0x13) .scarp 0x12).chan .core = (clockTrip u .core 0x13).chan .core :=
      clockTrip_chan_ne (by decide)
    have hcoreU : u.chan .core = { s.safety.core with dev := (a :: s.safety.core.dev).take 16 } := hu ▸ rfl
    have hscarpU : u.chan .scarp = { s.safety.scarp with dev := (b :: s.safety.scarp.dev).take 16 } := hu ▸ rfl
    have hframe : SameBut (among [.safety, .cairn, .ctr]) s u := hu ▸ State.onChan_frame (State.onChan_frame SameBut.rfl' rfl) rfl
    rw [hother, hscarpU] at hdev' hin' hout'
    rw [hcoreU] at hdev hin hout
    rw [← hkept] at hdev hin hout
    refine ⟨_, hexec, hdev, hdev', fun h => hin hcore ?_, fun h => hout ?_, fun h => hin' hscarp ?_, fun h => hout' ?_, ?_⟩
    · exact (congrArg clockBad hdev).symm.trans h
    · exact (congrArg clockBad hdev).symm.trans h
    · exact (congrArg clockBad hdev').symm.trans h
    · exact (congrArg clockBad hdev').symm.trans h
    · exact .ite (latchTrip_touches (.ite (latchTrip_touches hframe) hframe)) (.ite (latchTrip_touches hframe) hframe)

end Sys2Proof.Machine
end

section
/-! Debug access (18): nonce and token, denial and lock-out, sessions and their ends, the JTAG instructions. -/

namespace Sys2Proof.Machine

open Sys2Proof

variable {s t u : State} {r : Request} {a : AuthAsk}

/-- A frame within a wider one. -/
theorem SameBut.wider {l m : List Comp} (h : SameBut (among l) s t) (hlm : (l.all m.contains) = true) : SameBut (among m) s t :=
  h.mono fun c hc => List.all_eq_true.1 hlm c (List.contains_iff_mem.1 hc)

/-! ### debug.auth (18 R489, R490) -/

/-- An event of the debug chapter leaves everything but records and counters. -/
theorem dbgEvent_touches {code subject : Nat} {value : Int} : SameBut (among [.ctr, .cairn]) s (dbgEvent s code subject value) :=
  dbgEvent_frame SameBut.rfl' rfl rfl

/-- What a denied STEP 1 leaves for its completion (18 R489). -/
def deniedState (s : State) (p : Nat) : State :=
  let n := s.dbg.denied + 1
  let s := dbgEvent (s.onDbg fun d => { d with sigFail := satAdd 65535 d.sigFail 1, denied := n }) 3 p n
  if n < 5 then s
  else dbgEvent (s.onDbg fun d => { d with lockout := true, denied := 0, lockEnd := s.time.now + 900000000000 }) 4 p 900

/-- A token that fails is counted, and the fifth locks authentication out. -/
theorem authDenied_eq : authDenied s r = denied (deniedState s r.part) r := rfl

/-- The debug part after a denied STEP 1. -/
theorem deniedState_dbg {p : Nat} : (deniedState s p).dbg = if s.dbg.denied < 4
    then { s.dbg with sigFail := satAdd 65535 s.dbg.sigFail 1, denied := s.dbg.denied + 1 }
    else { s.dbg with sigFail := satAdd 65535 s.dbg.sigFail 1, denied := 0, lockout := true, lockEnd := s.time.now + 900000000000 } := by
  have hfirst := dbgEvent_touches (s := s.onDbg fun d => { d with sigFail := satAdd 65535 d.sigFail 1, denied := s.dbg.denied + 1 })
    (code := 3) (subject := p) (value := (s.dbg.denied + 1 : Nat))
  have hdbg := hfirst.2 .dbg rfl
  have htime := hfirst.2 .time rfl
  unfold deniedState
  by_cases h : s.dbg.denied < 4
  · rw [if_pos h]
    exact (congrArg State.dbg (if_pos (by omega))).trans hdbg
  · rw [if_neg h]
    refine (congrArg State.dbg (if_neg (by omega))).trans ((dbgEvent_touches.2 .dbg rfl).trans ?_)
    rw [State.onDbg_dbg, hdbg, htime]
    rfl

/-- A denied STEP 1 changes the debug part, the records and the counters. -/
theorem deniedState_frame {p : Nat} : SameBut (among [.dbg, .cairn, .ctr]) s (deniedState s p) := by
  have hfirst : SameBut (among [.dbg, .cairn, .ctr]) s (dbgEvent (s.onDbg fun d =>
      { d with sigFail := satAdd 65535 d.sigFail 1, denied := s.dbg.denied + 1 }) 3 p (s.dbg.denied + 1 : Nat)) :=
    dbgEvent_frame (State.onDbg_frame SameBut.rfl' rfl) rfl rfl
  exact .ite hfirst (dbgEvent_frame (State.onDbg_frame hfirst rfl) rfl rfl)

/-- The level that a STEP 1 opens (18 R490). -/
def grantedLevel (a : AuthAsk) : DbgLevel := if a.purpose = 2 then .imgGrant else if a.level = 1 then .observe else .intrusive

/-- The state that a session or grant opens in, before its completion (18 R491, R492). -/
def openedState (s : State) (r : Request) (a : AuthAsk) : State :=
  let s := noteClamps s r (clampedN 20 60 86400 (rq r 20 4))
  let s := dbgEvent (s.onDbg fun d => { d with
    level := grantedLevel a, holder := r.part, opened := satAdd max32 d.opened 1
    expire := s.time.now + clampN 60 86400 (rq r 20 4) * 1000000000, denied := 0, safetyHalted := false
    grantKind := if a.purpose = 2 then a.target else 0, imgStarted := false, imgStatus := 0, imgWords := [] })
    1 r.part (if a.purpose = 2 then 16 + a.target else a.level)
  if grantedLevel a = .intrusive then tripModule s 0x15 else s

/-- The completion of a session or grant carries what was granted. -/
theorem openDebug_completes : ∃ fields, openDebug s r a = ok (openedState s r a) r fields := ⟨_, rfl⟩

/-- What the opening leaves: the debug part as granted, and for an INTRUSIVE session module trip 15h in each running channel. -/
theorem openedState_spec : (openedState s r a).dbg = { s.dbg with
      level := grantedLevel a, holder := r.part, opened := satAdd max32 s.dbg.opened 1
      expire := s.time.now + clampN 60 86400 (rq r 20 4) * 1000000000, denied := 0, safetyHalted := false
      grantKind := if a.purpose = 2 then a.target else 0, imgStarted := false, imgStatus := 0, imgWords := [] } ∧
    (grantedLevel a = .intrusive → ∀ c, (s.chan c).running = true → ((openedState s r a).chan c).modTrip.contains 0x15 = true) ∧
    (grantedLevel a ≠ .intrusive → (openedState s r a).safety = s.safety) ∧
    SameBut (among [.host, .dbg, .cairn, .ctr, .safety]) s (openedState s r a) := by
  have hnote : SameBut (among [.host]) s (noteClamps s r (clampedN 20 60 86400 (rq r 20 4))) := noteClamps_frame SameBut.rfl' rfl
  unfold openedState
  generalize noteClamps s r (clampedN 20 60 86400 (rq r 20 4)) = u at hnote
  have hdbg : u.dbg = s.dbg := hnote.2 .dbg rfl
  have htime : u.time = s.time := hnote.2 .time rfl
  have hsafety : u.safety = s.safety := hnote.2 .safety rfl
  rw [← hdbg, ← htime]
  dsimp only
  generalize hv : dbgEvent _ 1 r.part _ = v
  have hevent : SameBut (among [.ctr, .cairn]) _ v := hv ▸ dbgEvent_touches
  have hsafetyV : v.safety = s.safety := (hevent.2 .safety rfl).trans hsafety
  have hframe : SameBut (among [.host, .dbg, .cairn, .ctr, .safety]) s v :=
    hv ▸ dbgEvent_frame (State.onDbg_frame (hnote.wider rfl) rfl) rfl rfl
  by_cases hlevel : grantedLevel a = .intrusive
  · rw [if_pos hlevel]
    refine ⟨?_, fun _ c hrun => ?_, fun h => absurd hlevel h, tripModule_frame hframe rfl rfl rfl⟩
    · exact ((tripModule_frame (x := among [.ctr, .cairn, .safety]) SameBut.rfl' rfl rfl rfl).2 .dbg rfl).trans (hevent.2 .dbg rfl)
    · have hchan : v.chan c = s.chan c := by cases c <;> simp [State.chan, hsafetyV]
      simpa using mem_modTrip_tripModule (s := v) (c := c) (cause := 0x15) (hchan ▸ hrun)
  · rw [if_neg hlevel]
    exact ⟨hevent.2 .dbg rfl, fun h => absurd h hlevel, fun _ => hsafetyV, hframe⟩

/-- Halts of the cores leave what the weavers' reloads and the closes wait for. -/
theorem setChalt_reload {v : Nat} : (setChalt s v).dbg.reload = s.dbg.reload ∧ (setChalt s v).dbg.closing = s.dbg.closing := by
  unfold setChalt
  extract_lets was free now u1 u2 u3 u4
  have hevents : u3.dbg = s.dbg := (haltEvents_frame (x := among [.ctr, .cairn])
    (haltEvents_frame (haltEvents_frame SameBut.rfl' rfl rfl) rfl rfl) rfl rfl).2 .dbg rfl
  have hrest : (if bitAt now 8 && !bitAt was 8 then haltCore (injectStop u4) else u4).dbg = u4.dbg := by
    split
    · exact (haltCore_frame (x := among [.sys, .ctr, .cairn, .rings, .safety]) (injectStop_frame SameBut.rfl' rfl rfl rfl rfl)
        rfl rfl rfl rfl).2 .dbg rfl
    · rfl
  have hreload : u3.dbg.reload = s.dbg.reload := by rw [hevents]
  have hclosing : u3.dbg.closing = s.dbg.closing := by rw [hevents]
  exact ⟨(congrArg DbgSt.reload hrest).trans hreload, (congrArg DbgSt.closing hrest).trans hclosing⟩

/-- The end of a session in which the safety core was not halted (18 R491, R494). -/
theorem endSession_dbg {why : Nat} (hopen : s.dbg.level ≠ .closed) (hsafe : s.dbg.level = .intrusive → s.dbg.safetyHalted = false) :
    (endSession s why).dbg.level = .closed ∧ (endSession s why).dbg.holder = 0 ∧ (endSession s why).dbg.grantKind = 0 ∧
      (endSession s why).dbg.reload = s.dbg.reload ∧ (endSession s why).dbg.closing = s.dbg.closing ∧ (endSession s why).sys.jtag ≤ 2 := by
  have hdbg : (dbgEvent s 2 s.dbg.holder why).dbg = s.dbg := dbgEvent_touches.2 .dbg rfl
  have hnot : ¬ (s.dbg.level = .intrusive ∧ s.dbg.safetyHalted = true) := fun h => by simp [hsafe h.1] at h
  have hjtag (y : SysSt) : (if 3 ≤ y.jtag then 0 else y.jtag) ≤ 2 := by split <;> omega
  have hreload : (dbgEvent s 2 s.dbg.holder why).dbg.reload = s.dbg.reload := by rw [hdbg]
  have hclosing : (dbgEvent s 2 s.dbg.holder why).dbg.closing = s.dbg.closing := by rw [hdbg]
  simp only [endSession, hopen, if_false, if_neg hnot]
  split
  · refine ⟨rfl, rfl, rfl, ?_, ?_, hjtag _⟩
    · exact setChalt_reload.1.trans hreload
    · exact setChalt_reload.2.trans hclosing
  · exact ⟨rfl, rfl, rfl, hreload, hclosing, hjtag _⟩

/-- Settles O58: what a denied STEP 1, an opening and an end of a session leave is said above; the rest is which branch is taken. -/
theorem debugSessionsOpenAndEnd : Obligations.DebugSessionsOpenAndEnd := by
  intro r s
  refine ⟨fun hright => ?_, fun a hright ha hstep hpurpose hlevel htarget hkey => ?_, fun hright => ?_, fun hopen hsafe => ?_,
    ⟨_, rfl, rfl, State.onDbg_frame SameBut.rfl' rfl⟩, ⟨_, rfl, rfl, State.onDbg_frame SameBut.rfl' rfl⟩, fun code => ?_⟩
  · refine ⟨_, congrArg Host.Outcome.next (serve_runs_nil hright rfl rfl), fun i hi => ?_⟩
    exact List.mem_map.2 ⟨i, List.mem_range.2 hi, rfl⟩
  · have hbad : firstBad [(16, decide (rq r 16 1 ≤ 1)), (17, decide (a.purpose ≤ 2)), (18, a.purpose != 0 || a.level == 1 || a.level == 2),
        (19, a.purpose == 0 || decide (1 ≤ a.target ∧ a.target ≤ (if a.purpose = 1 then 3 else 4))),
        (24, decide (rq r 24 1 ≤ 1))] = none := by
      refine firstBad_none ?_
      by_cases h : a.purpose = 0
      · have := hlevel h
        simp [hstep, hkey, h, this]
      · have := htarget h
        simp [hstep, hpurpose, hkey, h, this]
    subst ha
    refine ⟨fun hlock => ?_, fun hlock hmode => ?_, fun hlock hmode => ⟨fun hzero => ?_, fun hone hbadToken => ?_, fun hone hgood hcond => ?_,
      fun hone hgood hcond hlife => ?_, fun hone hgood hcond hlife => ?_⟩⟩
    · exact congrArg Host.Outcome.next ((serve_runs_nil hright rfl hbad).trans (if_pos hlock))
    · exact congrArg Host.Outcome.next ((serve_runs_nil hright rfl hbad).trans ((if_neg (by simp [hlock])).trans (if_pos hmode)))
    · refine ⟨_, _, congrArg Host.Outcome.next ((serve_runs_nil hright rfl hbad).trans ((if_neg (by simp [hlock])).trans
        ((if_neg hmode).trans (if_pos hzero)))), Nat.mod_lt _ (by decide), rfl, State.onDbg_frame (draw_frame_proj SameBut.rfl') rfl⟩
    · have hstart : rq r 16 1 ≠ 0 := by omega
      have hfails : (!authOk s r ⟨rq r 17 1, rq r 18 1, rq r 19 1⟩) = true := by rw [hbadToken]; rfl
      refine ⟨deniedState (s.onDbg fun d => { d with nonce := none }) r.part, congrArg Host.Outcome.next
        ((serve_runs_nil hright rfl hbad).trans ((if_neg (by simp [hlock])).trans
          ((if_neg hmode).trans ((if_neg hstart).trans (if_pos hfails))))), ?_, ?_, ?_, fun h => ?_, fun h => ?_,
        (State.onDbg_frame SameBut.rfl' rfl).trans deniedState_frame⟩
      all_goals rw [deniedState_dbg, State.onDbg_dbg]
      · split <;> rfl
      · split <;> rfl
      · split <;> rfl
      · rw [if_pos h]
        exact ⟨rfl, hlock⟩
      · rw [if_neg (by simpa using h)]
        exact ⟨rfl, rfl⟩
    · have hstart : rq r 16 1 ≠ 0 := by omega
      have hpasses : ¬ (!authOk s r ⟨rq r 17 1, rq r 18 1, rq r 19 1⟩) = true := by simp [hgood]
      have hunmet : (!authConditions s r ⟨rq r 17 1, rq r 18 1, rq r 19 1⟩) = true := by rw [hcond]; rfl
      exact ⟨s.onDbg fun d => { d with nonce := none }, congrArg Host.Outcome.next ((serve_runs_nil hright rfl hbad).trans
        ((if_neg (by simp [hlock])).trans ((if_neg hmode).trans ((if_neg hstart).trans ((if_neg hpasses).trans (if_pos hunmet)))))),
        rfl, State.onDbg_frame SameBut.rfl' rfl⟩
    · have hstart : rq r 16 1 ≠ 0 := by omega
      have hpasses : ¬ (!authOk s r ⟨rq r 17 1, rq r 18 1, rq r 19 1⟩) = true := by simp [hgood]
      have hmet : ¬ (!authConditions s r ⟨rq r 17 1, rq r 18 1, rq r 19 1⟩) = true := by simp [hcond]
      exact ⟨s.onDbg fun d => { d with nonce := none }, congrArg Host.Outcome.next ((serve_runs_nil hright rfl hbad).trans
        ((if_neg (by simp [hlock])).trans ((if_neg hmode).trans ((if_neg hstart).trans ((if_neg hpasses).trans ((if_neg hmet).trans
          (if_pos hlife))))))), rfl, State.onDbg_frame SameBut.rfl' rfl⟩
    · have hstart : rq r 16 1 ≠ 0 := by omega
      have hpasses : ¬ (!authOk s r ⟨rq r 17 1, rq r 18 1, rq r 19 1⟩) = true := by simp [hgood]
      have hmet : ¬ (!authConditions s r ⟨rq r 17 1, rq r 18 1, rq r 19 1⟩) = true := by simp [hcond]
      obtain ⟨fields, hfields⟩ := openDebug_completes (s := s.onDbg fun d => { d with nonce := none }) (r := withOp r 0x7F10)
        (a := ⟨rq r 17 1, rq r 18 1, rq r 19 1⟩)
      obtain ⟨hdbg, htrips, hquiet, hframe⟩ := openedState_spec (s := s.onDbg fun d => { d with nonce := none }) (r := withOp r 0x7F10)
        (a := ⟨rq r 17 1, rq r 18 1, rq r 19 1⟩)
      refine ⟨_, fields, congrArg Host.Outcome.next ((serve_runs_nil hright rfl hbad).trans ((if_neg (by simp [hlock])).trans
        ((if_neg hmode).trans ((if_neg hstart).trans ((if_neg hpasses).trans ((if_neg hmet).trans ((if_neg hlife).trans hfields))))))),
        ?_, ?_, ?_, ?_, ?_, fun h => ⟨?_, ?_⟩, fun h => ?_, (State.onDbg_frame SameBut.rfl' rfl).trans hframe⟩
      · rw [hdbg]; rfl
      · rw [hdbg]; rfl
      · rw [hdbg]; rfl
      · rw [hdbg]; rfl
      · rw [hdbg]; rfl
      · rw [hdbg] at h
        exact htrips h .core
      · rw [hdbg] at h
        exact htrips h .scarp
      · rw [hdbg] at h
        exact hquiet h
  · refine ⟨fun hclosed => ?_, fun hopen hother => ?_, fun hopen hholder hsafe => ⟨fun hno => ?_, fun hsome => ?_⟩⟩
    · exact congrArg Host.Outcome.next ((serve_runs_nil hright rfl rfl).trans (if_pos hclosed))
    · exact congrArg Host.Outcome.next ((serve_runs_nil hright rfl rfl).trans ((if_neg hopen).trans (if_pos hother)))
    · have hnot : ¬ (s.dbg.level = .intrusive ∧ s.dbg.safetyHalted = true) := fun h => by simp [hsafe h.1] at h
      obtain ⟨hlevel, hnone, hgrant, hreload, _⟩ := endSession_dbg (why := 1) hopen hsafe
      exact ⟨_, congrArg Host.Outcome.next ((serve_runs_nil hright rfl rfl).trans ((if_neg hopen).trans
        ((if_neg (by simp [hholder])).trans ((if_neg hnot).trans (if_pos (hreload.trans hno)))))), hlevel, hnone, hgrant⟩
    · have hnot : ¬ (s.dbg.level = .intrusive ∧ s.dbg.safetyHalted = true) := fun h => by simp [hsafe h.1] at h
      obtain ⟨hlevel, _, _, hreload, hclosing, _⟩ := endSession_dbg (why := 1) hopen hsafe
      exact ⟨_, congrArg Host.Outcome.next ((serve_runs_nil hright rfl rfl).trans ((if_neg hopen).trans
        ((if_neg (by simp [hholder])).trans ((if_neg hnot).trans (if_neg fun h => hsome (hreload.symm.trans h)))))), hlevel,
        congrArg (· ++ _) hclosing⟩
  · obtain ⟨hlevel, hnone, hgrant, _, _, hjtag⟩ := endSession_dbg (why := 2) hopen hsafe
    exact ⟨_, rfl, hlevel, hnone, hgrant, hjtag⟩
  · refine ⟨_, rfl, State.onSys_frame SameBut.rfl' rfl, fun h => ?_, fun h hlc hlevel => ?_, fun h hnot => ?_⟩
    · simp [h]
    · have h1 : ¬ code ≤ 2 := by omega
      have h2 : code ≠ 1 := by omega
      simp [h1, h2, hlc, hlevel]
    · have h1 : ¬ code ≤ 2 := by omega
      have h2 : code ≠ 1 := by omega
      simp only [State.onSys_sys, h2, if_false]
      rw [if_neg fun h => h.elim h1 fun h => hnot h.2]

end Sys2Proof.Machine
end

section
/-! Start-up, the resets of the controller die and the restart of the application (15). -/

namespace Sys2Proof.Machine

open Sys2Proof

variable {s t u : State} {n : Nat}

/-! ### Steps over lists -/

/-- What a pass over distinct items leaves of what one item alone changes: what that item's step makes of it. -/
theorem each_at {α β : Type} {f : State → α → State} {get : State → β} {l : List α} {a : α} (hl : l.Nodup) (ha : a ∈ l)
    (hother : ∀ s b, b ≠ a → get (f s b) = get s) : ∃ u, get u = get s ∧ get (s.each l f) = get (f u a) := by
  have hrest (l : List α) (s : State) (hl : a ∉ l) : get (s.each l f) = get s := by
    induction l generalizing s with
    | nil => rfl
    | cons b l ih =>
      obtain ⟨hb, hl⟩ := not_or.1 fun h => hl (List.mem_cons.2 h)
      exact (ih (f s b) hl).trans (hother s b (Ne.symm hb))
  induction l generalizing s with
  | nil => nomatch ha
  | cons b l ih =>
    obtain ⟨hb, hl⟩ := List.nodup_cons.1 hl
    by_cases h : b = a
    · subst h
      exact ⟨s, rfl, hrest l _ hb⟩
    · obtain ⟨u, hu, hget⟩ := ih (s := f s b) hl ((List.mem_cons.1 ha).resolve_left (Ne.symm h))
      exact ⟨u, hu.trans (hother s b h), hget⟩

/-! ### Records, stages and images -/

/-- An event leaves everything but records and counters. -/
theorem raise_touches {e : Event} : SameBut (among [.ctr, .cairn]) s (raise s e) := raise_frame SameBut.rfl' rfl rfl

/-- A record leaves everything but records and counters. -/
theorem recordOnly_touches {source code subject : Nat} {value : Int} :
    SameBut (among [.ctr, .cairn]) s (recordOnly s source code subject value) := raise_touches

/-- An event leaves the recorder running or not, as it was. -/
theorem raise_running {e : Event} : (raise s e).cairn.running = s.cairn.running := by
  unfold raise
  dsimp only
  split
  · rfl
  · split <;> rfl

/-- Events leave the recorder running or not, as it was. -/
theorem raises_running {l : List Event} : (s.each l raise).cairn.running = s.cairn.running := by
  induction l generalizing s with
  | nil => rfl
  | cons e l ih => exact ih.trans raise_running

/-- Events leave everything but records and counters. -/
theorem raises_touch {l : List Event} : SameBut (among [.ctr, .cairn]) s (s.each l raise) :=
  State.each_frame SameBut.rfl' fun _ _ h => raise_frame h rfl rfl

/-- A stage that is reached: its number, its time, nothing else. -/
theorem reachStage_sys {lo hi : Nat} : ∃ ms, (reachStage s n lo hi).sys = { s.sys with stage := n, stageMs := min ms 65535, stageAt := n } ∧
    (hi = lo → s.sys.fell = false → ms = lo) := by
  refine ⟨_, rfl, fun h hfell => ?_⟩
  subst h
  have hrange : hi - hi + (if s.sys.fell = true then 100 else 0) + 1 = 1 := by simp [hfell]
  exact (congrArg (fun k => hi + Config.estimate s.free % k) hrange).trans (by rw [Nat.mod_one, Nat.add_zero])

/-- A copy that verifies is the copy that start-up takes. -/
theorem bootCopy_zero {kind : Nat} (h : verifies s kind 0 = true) : bootCopy s kind = some 0 := if_pos h

/-- Whether copies verify depends on the images, the minimum versions and the keys. -/
theorem bootCopy_congr {kind : Nat} (hi : t.sys.images = s.sys.images) (hm : t.sys.minSvn = s.sys.minSvn) (hk : t.sys.keys = s.sys.keys) :
    bootCopy t kind = bootCopy s kind := by
  have himg : imgAt t = imgAt s := by
    funext k c
    simp only [imgAt, hi]
  have hkey : t.key = s.key := by
    funext k
    simp only [State.key, hk]
  have hslot : slotOk t = slotOk s := by
    unfold slotOk
    rw [hkey]
  have hv (copy : Nat) : verifies t kind copy = verifies s kind copy := by
    unfold verifies verifyCode
    rw [himg, hm, hslot]
  simp only [bootCopy, hv]

/-- What the trusted firmware leaves when it starts from copy 0 (15 R423). -/
theorem trustedRuns_spec {rtc : Nat} : (trustedRuns s 0 rtc).sys.stage = 1 ∧ (trustedRuns s 0 rtc).sys.fwTrusted = (imgAt s 1 0).line ∧
    (trustedRuns s 0 rtc).sys.ethOn = true ∧ (trustedRuns s 0 rtc).time.now = rtc ∧ (trustedRuns s 0 rtc).cairn.running = true ∧
    (s.sys.fell = false → (trustedRuns s 0 rtc).sys.stageMs = 35) ∧
    SameBut (among [.sys, .time, .cairn, .ctr]) s (trustedRuns s 0 rtc) := by
  unfold trustedRuns
  extract_lets c u1 u2 u3 l v
  have hevents : SameBut (among [.ctr, .cairn]) _ v := raises_touch
  have hrunning : v.cairn.running = true := raises_running
  clear_value v
  obtain ⟨ms, hsys, hms⟩ := reachStage_sys (s := v) (n := 1) (lo := 35) (hi := 35)
  have hv : v.sys = (u3.onSys fun y => { y with bootEvents := [] }).sys := hevents.2 .sys rfl
  have htime : v.time = u3.time := hevents.2 .time rfl
  rw [fellBack, if_pos rfl]
  refine ⟨?_, ?_, ?_, ?_, hrunning, fun hfell => ?_, ?_⟩
  · rw [hsys]
  · rw [hsys, hv]; rfl
  · rw [hsys, hv]; rfl
  · exact congrArg TimeSt.now htime
  · rw [hsys, hms rfl ((congrArg SysSt.fell hv).trans hfell)]; rfl
  · refine reachStage_frame (SameBut.trans ?_ (hevents.wider rfl)) rfl
    exact State.onSys_frame (State.onRec_frame (State.onTime_frame (noteStarted_frame (State.onSys_frame SameBut.rfl' rfl) rfl) rfl) rfl) rfl

/-! ### The application starts (15 R423, R425, R426) -/

/-- A fallback to copy 1 is noted and recorded. -/
theorem fellBack_sys {copy subject : Nat} : ∃ f, (fellBack s copy subject).sys = { s.sys with fell := f } := by
  unfold fellBack
  split
  · exact ⟨_, rfl⟩
  · exact ⟨true, recordOnly_touches.2 .sys rfl⟩

/-- The state in which the manifest has been taken. -/
def manifestTaken (s : State) (mc : Nat) (m : Manifest) : State :=
  takeManifest (fellBack (if usesManifest (draw s).2 then noteStarted (draw s).2 4 mc else (draw s).2) mc (Config.choice (draw s).1 % 65536)) m

/-- The manifest taken leaves the images, the keys and the minimum versions. -/
theorem manifestTaken_sys {mc : Nat} {m : Manifest} : ∃ f v, (manifestTaken s mc m).sys = { s.sys with fell := f, startedSvn := v, manifest := m } := by
  have hnoted : ∃ v, (if usesManifest (draw s).2 then noteStarted (draw s).2 4 mc else (draw s).2).sys = { s.sys with startedSvn := v } := by
    split
    · exact ⟨_, rfl⟩
    · exact ⟨_, rfl⟩
  obtain ⟨v, hv⟩ := hnoted
  unfold manifestTaken
  generalize (if usesManifest (draw s).2 then noteStarted (draw s).2 4 mc else (draw s).2) = u at hv
  obtain ⟨f, hf⟩ := fellBack_sys (s := u) (copy := mc) (subject := Config.choice (draw s).1 % 65536)
  refine ⟨f, v, ?_⟩
  change ({ (fellBack u mc (Config.choice (draw s).1 % 65536)).sys with manifest := m } : SysSt) = _
  rw [hf, hv]

/-- What the manifest taken leaves to choose from. -/
theorem manifestTaken_bootCopy {mc kind : Nat} {m : Manifest} : bootCopy (manifestTaken s mc m) kind = bootCopy s kind := by
  obtain ⟨f, v, h⟩ := manifestTaken_sys (s := s) (mc := mc) (m := m)
  exact bootCopy_congr (by rw [h]) (by rw [h]) (by rw [h])

/-- APP_START with working memory and a manifest: the application and safety images run, or their lack stops start-up. -/
theorem appStart_manifest {mc : Nat} {m : Manifest} (hctl : s.sys.ctl = .running) (hstage : s.sys.stage = 1) (hgo : s.sys.stopped = false)
    (hm : bootManifest s = some (mc, m)) :
    (bootCopy s 2 = none → exec (.appStart true) s = .next (bootStop (manifestTaken s mc m) 4)) ∧
    (∀ a, bootCopy s 2 = some a → bootCopy s 3 = none → exec (.appStart true) s = .next (bootStop (manifestTaken s mc m) 5)) ∧
    (∀ a b, bootCopy s 2 = some a → bootCopy s 3 = some b →
      exec (.appStart true) s = .next (applicationRuns (manifestTaken s mc m) a b)) := by
  have h2 := manifestTaken_bootCopy (s := s) (mc := mc) (m := m) (kind := 2)
  have h3 := manifestTaken_bootCopy (s := s) (mc := mc) (m := m) (kind := 3)
  have hrun : exec (.appStart true) s = .next (match bootCopy (manifestTaken s mc m) 2, bootCopy (manifestTaken s mc m) 3 with
      | none, _ => bootStop (manifestTaken s mc m) 4
      | some _, none => bootStop (manifestTaken s mc m) 5
      | some a, some b => applicationRuns (manifestTaken s mc m) a b) := by
    refine congrArg Host.Outcome.next ((if_neg (by simp [hctl, hstage, hgo])).trans ((if_neg (by simp)).trans ?_))
    rw [hm]
    rfl
  rw [hrun, h2, h3]
  refine ⟨fun h => ?_, fun a h h' => ?_, fun a b h h' => ?_⟩
  · rw [h]
  · rw [h, h']
  · rw [h, h']

/-- The rings are lit at the stored rate. -/
theorem lightRings_sys : (lightRings s).sys = { s.sys with rate := s.nor.rate } :=
  (State.each_frame (x := among [.rings]) (s0 := s.onSys fun y => { y with rate := s.nor.rate }) SameBut.rfl' fun _ _ h => by
    exact State.onRing_frame h rfl).2 .sys rfl

/-- What the start of the application leaves in force (15 R423). -/
theorem applicationRuns_sys {a b : Nat} : (applicationRuns s a b).sys.stage = 2 ∧ (applicationRuns s a b).sys.timeBase = true ∧
    (applicationRuns s a b).sys.manifest = s.sys.manifest ∧ (applicationRuns s a b).sys.fwApp = (imgAt s 2 a).line ∧
    (applicationRuns s a b).sys.fwSafety = (imgAt s 3 b).line := by
  unfold applicationRuns
  extract_lets i j u1 u2 u3 u4 u5
  obtain ⟨f, hf⟩ := fellBack_sys (s := s) (copy := a) (subject := 1)
  obtain ⟨g, hg⟩ := fellBack_sys (s := fellBack s a 1) (copy := b) (subject := 2)
  have hmanifest : u2.sys.manifest = s.sys.manifest := by
    change (fellBack (fellBack s a 1) b 2).sys.manifest = _
    rw [hg, hf]
  have hlit : u3.sys = { u2.sys with rate := u2.nor.rate } := (startCore_frame (x := among [.safety]) SameBut.rfl' rfl).2 .sys rfl |>.trans lightRings_sys
  have hmaster : u5.sys = u3.sys := by
    change (if u4.sys.manifest.master = u4.sys.manifest.member then actMaster u4 else u4).sys = u4.sys
    split
    · exact (actMaster_frame (x := among [.ctr, .cairn, .time]) SameBut.rfl' rfl rfl rfl).2 .sys rfl
    · rfl
  have hinstant (v : State) : (takeInstant v []).sys = v.sys := (takeInstant_frame (x := among [.supply, .host, .ctr, .cairn, .rings,
    .time, .red, .loop, .motion, .field, .can, .nor]) SameBut.rfl' rfl rfl rfl rfl rfl rfl rfl rfl rfl rfl rfl rfl).2 .sys rfl
  have hreached (v : State) (hv : v.sys = u5.sys) :
      (takeInstant (reachStage v 2 90 90) []).sys.stage = 2 ∧ (takeInstant (reachStage v 2 90 90) []).sys.timeBase = true ∧
      (takeInstant (reachStage v 2 90 90) []).sys.manifest = s.sys.manifest ∧
      (takeInstant (reachStage v 2 90 90) []).sys.fwApp = i.line ∧ (takeInstant (reachStage v 2 90 90) []).sys.fwSafety = j.line := by
    obtain ⟨ms, hstage, _⟩ := reachStage_sys (s := v) (n := 2) (lo := 90) (hi := 90)
    rw [hinstant, hstage, hv, hmaster, hlit]
    exact ⟨rfl, rfl, hmanifest, rfl, rfl⟩
  exact hreached _ rfl

/-! ### The handshake, the weavers, Creel (15 R423) -/

/-- Weavers load the stored masters; start-up's part of the state is not touched. -/
theorem loadMasters_restoreAll_sys {sel : Nat → Bool} : (loadMasters (restoreAll s) sel).sys = s.sys :=
  (loadMasters_frame (x := among [.ctr, .cairn, .loop, .motion, .doors, .field, .can])
    (restoreAll_frame SameBut.rfl' rfl rfl rfl rfl rfl rfl) rfl rfl rfl).2 .sys rfl

/-- Minimum versions and slots that rise leave the rest of start-up's part. -/
theorem raiseMinimums_sys {kind : Nat} : ∃ m k, (raiseMinimums s kind).sys = { s.sys with minSvn := m, keys := k } := by
  have hevent (v : State) (c k : Nat) (x : Int) : (codeEvent v 0x7F 0x0F c k x).sys = v.sys :=
    (codeEvent_frame (x := among [.ctr, .cairn]) SameBut.rfl' rfl rfl).2 .sys rfl
  unfold raiseMinimums
  split
  · exact ⟨_, _, rfl⟩
  · dsimp only
    generalize hu : (if tabGet s.sys.minSvn 0 kind < (tabGet s.sys.startedSvn (0, 0) kind).1 then codeEvent _ _ _ _ _ _ else s) = u
    have hsys : ∃ m, u.sys = { s.sys with minSvn := m } := by
      rw [← hu]
      split
      · exact ⟨_, hevent _ _ _ _⟩
      · exact ⟨_, rfl⟩
    obtain ⟨m, hm⟩ := hsys
    split
    · exact ⟨m, _, (hevent _ _ _ _).trans (by rw [State.onSys_sys, hm])⟩
    · exact ⟨m, _, hm⟩

/-- The same for a pass over the image kinds. -/
theorem raiseMinimums_each_sys {l : List Nat} : ∃ m k, (s.each l raiseMinimums).sys = { s.sys with minSvn := m, keys := k } := by
  induction l generalizing s with
  | nil => exact ⟨_, _, rfl⟩
  | cons a l ih =>
    obtain ⟨m, k, h⟩ := ih (s := raiseMinimums s a)
    obtain ⟨m', k', h'⟩ := raiseMinimums_sys (s := s) (kind := a)
    exact ⟨m, k, h.trans (by rw [h'])⟩

/-! ### The PCIe link comes up (02 R41, 15 R423) -/

/-- A key whose value is not the default is listed with it. -/
theorem mem_of_tabGet_ne {α : Type} {l : Tab α} {d : α} {k : Nat} (h : tabGet l d k ≠ d) : (k, tabGet l d k) ∈ l := by
  induction l with
  | nil => exact absurd rfl h
  | cons a l ih =>
    obtain ⟨j, v⟩ := a
    by_cases hj : j = k
    · subst hj
      simp [tabGet]
    · have hrest : tabGet ((j, v) :: l) d k = tabGet l d k := if_neg hj
      rw [hrest] at h ⊢
      exact List.mem_cons_of_mem _ (ih h)

/-- A queue's burst raises its vector. -/
def raiseWaiting (s : State) (qn : Nat) : State :=
  raiseVector (s.onQueue qn fun q => { q with unraised := false }) (s.queue qn).vector

/-- A vector raised leaves the queues and start-up's part, and raises its own count. -/
theorem raiseVector_spec {v : Nat} : (∀ k, (raiseVector s v).queue k = s.queue k) ∧ (raiseVector s v).sys = s.sys ∧
    (∀ w, tabGet s.host.msix 0 w ≤ tabGet (raiseVector s v).host.msix 0 w) ∧
    (v < 64 → tabGet s.host.msix 0 v < tabGet (raiseVector s v).host.msix 0 v) := by
  unfold raiseVector
  split
  · have hone (w : Nat) : tabGet (tabMod s.host.msix 0 v (· + 1)) 0 w = if v = w then tabGet s.host.msix 0 v + 1 else tabGet s.host.msix 0 w :=
      tabGet_tabMod
    refine ⟨fun k => rfl, rfl, fun w => ?_, fun _ => ?_⟩
    · refine Nat.le_trans ?_ (Nat.le_of_eq (hone w).symm)
      split
      case isTrue h => exact h ▸ Nat.le_succ _
      case isFalse => exact Nat.le_refl _
    · exact Nat.lt_of_lt_of_eq (Nat.lt_succ_self _) ((hone v).trans (if_pos rfl)).symm
  · exact ⟨fun _ => rfl, rfl, fun _ => Nat.le_refl _, fun h => absurd h (by assumption)⟩

/-- The bursts of the queues named raise their vectors. -/
theorem raiseWaiting_each {l : List Nat} : (∀ n, (s.each l raiseWaiting).queue n = if n ∈ l then { s.queue n with unraised := false } else s.queue n) ∧
    (s.each l raiseWaiting).sys = s.sys ∧ (∀ w, tabGet s.host.msix 0 w ≤ tabGet (s.each l raiseWaiting).host.msix 0 w) ∧
    ∀ n, n ∈ l → (s.queue n).vector < 64 → tabGet s.host.msix 0 (s.queue n).vector < tabGet (s.each l raiseWaiting).host.msix 0 (s.queue n).vector := by
  induction l generalizing s with
  | nil => exact ⟨fun _ => rfl, rfl, fun _ => Nat.le_refl _, nofun⟩
  | cons a l ih =>
    obtain ⟨hq, hsys, hle, hlt⟩ := ih (s := raiseWaiting s a)
    obtain ⟨hq1, hsys1, hle1, hlt1⟩ := raiseVector_spec (s := s.onQueue a fun q => { q with unraised := false }) (v := (s.queue a).vector)
    have hone (n : Nat) : (raiseWaiting s a).queue n = if n = a then { s.queue n with unraised := false } else s.queue n := by
      refine (hq1 n).trans ?_
      split
      case isTrue h => rw [h, State.queue_onQueue_same]
      case isFalse h => exact State.queue_onQueue_ne h
    have hvector (n : Nat) : ((raiseWaiting s a).queue n).vector = (s.queue n).vector := by
      rw [hone]
      split <;> rfl
    refine ⟨fun n => ?_, hsys.trans hsys1, fun w => Nat.le_trans (hle1 w) (hle w), fun n hn hv => ?_⟩
    · refine (hq n).trans ?_
      rw [hone]
      by_cases h : n = a <;> by_cases h' : n ∈ l <;> simp [h, h']
    · by_cases h : n ∈ l
      · have := hlt n h (by rw [hvector]; exact hv)
        rw [hvector] at this
        exact Nat.lt_of_le_of_lt (hle1 _) this
      · obtain rfl : n = a := (List.mem_cons.1 hn).resolve_right h
        exact Nat.lt_of_lt_of_le (hlt1 hv) (hle _)

/-- Settles O26: each command takes the branch of its stage, whose effects on start-up are said above. -/
theorem startUpReachesItsStages : Obligations.StartUpReachesItsStages := by
  intro s
  refine ⟨fun dc hgood => ?_, fun ext slot carrier hgood hthermal => ?_, fun hgood hscarp => ?_, fun hgood hctl hmrst => ?_,
    fun hctl hgo => ⟨fun rtc hstage hv => ?_, fun hstage => ?_, fun mc m a b hstage hm ha hb => ?_, fun hstage => ?_,
      fun hstage hmode hshake => ?_, fun hstage hmode => ?_, fun hstage hmode hcreel => ?_⟩, fun hctl => ?_, fun hscarp hfloor => ?_⟩
  · exact ⟨_, congrArg Host.Outcome.next (if_neg (by simp [hgood])), rfl, rfl, rfl, State.onSupply_frame SameBut.rfl' rfl⟩
  · exact ⟨_, congrArg Host.Outcome.next (if_neg (by simp [hgood, hthermal])), rfl, rfl, rfl, rfl, rfl, rfl, rfl, rfl, rfl,
      State.onField_frame (State.onSys_frame (State.onSupply_frame SameBut.rfl' rfl) rfl) rfl⟩
  · exact ⟨_, congrArg Host.Outcome.next (if_pos ⟨hgood, hscarp⟩), rfl, rfl, rfl, rfl,
      State.onSafety_frame (State.onSys_frame SameBut.rfl' rfl) rfl⟩
  · exact ⟨_, congrArg Host.Outcome.next (if_pos ⟨hgood, hctl, by simp [hmrst]⟩), rfl, State.onSys_frame SameBut.rfl' rfl⟩
  · obtain ⟨h1, h2, h3, h4, h5, h6, h7⟩ := trustedRuns_spec (s := s) (rtc := rtc)
    refine ⟨_, congrArg Host.Outcome.next ((if_neg (by simp [hctl, hstage, hgo])).trans ?_), h1, h2, h3, h4, h5, h6, h7⟩
    rw [bootCopy_zero hv]
  · refine ⟨_, congrArg Host.Outcome.next (if_neg (by simp [hctl, hstage, hgo])), fun n hn => ?_,
      State.each_frame SameBut.rfl' fun _ _ h => State.onCan_frame (draw_frame_proj h) rfl⟩
    obtain ⟨u, hu, hget⟩ := each_at (s := s) (f := startChannel) (get := fun v => (v.ch n, v.can.stored)) (List.nodup_range (n := 8))
      (List.mem_range.2 hn) fun v k hk => Prod.ext (ch_onCh_ne (s := (draw v).2) hk.symm) rfl
    obtain ⟨hch, hstored⟩ := Prod.mk.inj hu
    obtain ⟨hown', _⟩ := Prod.mk.inj hget
    rw [hown', ← hstored, ← hch]
    have hown : (startChannel u n).ch n = { cfg := tabGet u.can.stored.chans {} n, on := true, cnt := (u.ch n).cnt, lfsr := Config.choice u.free % 65536 } :=
      ch_onCh_same
    rw [hown]
    exact ⟨rfl, rfl, rfl⟩
  · obtain ⟨_, _, hrun⟩ := appStart_manifest hctl hstage hgo hm
    obtain ⟨f, v, hsys⟩ := manifestTaken_sys (s := s) (mc := mc) (m := m)
    obtain ⟨h1, h2, h3, h4, h5⟩ := applicationRuns_sys (s := manifestTaken s mc m) (a := a) (b := b)
    refine ⟨_, hrun a b ha hb, h1, h2, h3.trans (by rw [hsys]), h4.trans ?_, h5.trans ?_⟩
    · rw [imgAt, hsys]; rfl
    · rw [imgAt, hsys]; rfl
  · exact ⟨_, congrArg Host.Outcome.next (if_pos ⟨hctl, hstage⟩), rfl, State.onSys_frame SameBut.rfl' rfl⟩
  · refine ⟨_, congrArg Host.Outcome.next ((if_neg (by simp [hctl, hgo, hmode, hstage])).trans ((if_neg (by simp [hshake])).trans
      ((if_neg (by simp [hstage])).trans (if_neg (by simp [hmode]))))), rfl, rfl, rfl, ?_⟩
    exact reachStage_frame (State.onSafety_frame (State.onSys_frame SameBut.rfl' rfl) rfl) rfl
  · have hsys := loadMasters_restoreAll_sys (s := s) (sel := fun _ => true)
    have hframe : SameBut (among [.sys, .ctr, .cairn, .loop, .motion, .doors, .field, .can]) s (loadMasters (restoreAll s) fun _ => true) :=
      loadMasters_frame (restoreAll_frame SameBut.rfl' rfl rfl rfl rfl rfl rfl) rfl rfl rfl
    have hexec : exec (.weaverLoad true) s = .next (reachStage (loadMasters (restoreAll s) fun _ => true) 4 200 350) :=
      congrArg Host.Outcome.next ((if_neg (by simp [hctl, hstage, hgo])).trans ((if_neg (by simp [hmode])).trans
        ((if_neg (by simp [hmode])).trans (if_neg (by simp)))))
    generalize (loadMasters (restoreAll s) fun _ => true) = u at hsys hframe hexec
    exact ⟨_, hexec, rfl, show u.sys.manifest = _ by rw [hsys], reachStage_frame hframe rfl⟩
  · have hexec : exec .creelOpen s = .next ((reachStage ((s.onSys fun y => { y with creel := true }).onCan fun c => { c with tx := true })
        5 400 400).each [1, 2, 3, 4] raiseMinimums) :=
      congrArg Host.Outcome.next ((if_neg (by simp [hctl, hcreel, hmode, hstage])).trans (if_neg (by simp [hgo])))
    generalize hu : reachStage ((s.onSys fun y => { y with creel := true }).onCan fun c => { c with tx := true }) 5 400 400 = u at hexec
    obtain ⟨m, k, hsys⟩ := raiseMinimums_each_sys (s := u) (l := [1, 2, 3, 4])
    have hrest : SameBut (among [.sys, .ctr, .cairn]) u (u.each [1, 2, 3, 4] raiseMinimums) :=
      State.each_frame SameBut.rfl' fun _ _ h => raiseMinimums_frame h rfl rfl rfl
    have hframe : SameBut (among [.sys, .can, .cairn, .ctr]) s u :=
      hu ▸ reachStage_frame (State.onCan_frame (State.onSys_frame SameBut.rfl' rfl) rfl) rfl
    refine ⟨_, hexec, ?_, ?_, ?_, hframe.trans (hrest.wider rfl)⟩
    · rw [hsys, ← hu]; rfl
    · rw [hsys, ← hu]; rfl
    · exact (congrArg CanSt.tx (hrest.2 .can rfl)).trans (hu ▸ rfl)
  · have hexec : exec .pcieLinkUp s = .next ((s.onSys fun y => { y with pcieUp := true, pcieQuiet := false }).each
        ((s.host.queues.filter fun x => x.2.unraised).map (·.1)) raiseWaiting) := congrArg Host.Outcome.next (if_pos hctl)
    have hlisted (n : Nat) (h : (s.queue n).unraised = true) : n ∈ (s.host.queues.filter fun x => x.2.unraised).map (·.1) := by
      have hmem : (n, s.queue n) ∈ s.host.queues := mem_of_tabGet_ne fun hd => by
        have : s.queue n = {} := hd
        rw [this] at h
        exact absurd h (by decide)
      exact List.mem_map.2 ⟨_, List.mem_filter.2 ⟨hmem, h⟩, rfl⟩
    generalize (s.host.queues.filter fun x => x.2.unraised).map (·.1) = l at hexec hlisted
    obtain ⟨hq, hsys, _, hlt⟩ := raiseWaiting_each (s := s.onSys fun y => { y with pcieUp := true, pcieQuiet := false }) (l := l)
    refine ⟨_, hexec, hsys, fun n => ⟨?_, ?_, fun hw hv => hlt n (hlisted n hw) hv⟩, ?_⟩
    · rw [hq]
      split
      case isTrue => rfl
      case isFalse h => exact Bool.eq_false_iff.2 fun hw => h (hlisted n hw)
    · rw [hq]
      split <;> rfl
    · exact State.each_frame (State.onSys_frame SameBut.rfl' rfl) fun _ _ h =>
        raiseVector_frame (State.onQueue_frame h rfl) rfl rfl
  · have hedges (v : State) : SameBut (among [.ctr, .cairn, .rings, .safety]) v (v.each [Chan.core, Chan.scarp] fun s c =>
        (s.onChan c fun x => { x with edges := [] }).each (s.chan c).edges fun s e => resetEdge s c e.1 e.2) :=
      State.each_frame SameBut.rfl' fun _ _ h => State.each_frame (State.onChan_frame h rfl) fun _ _ h => resetEdge_frame h rfl rfl rfl rfl
    exact ⟨_, congrArg Host.Outcome.next (if_neg (by simp [hscarp, hfloor])), (hedges _).2 .sys rfl,
      (State.onSys_frame SameBut.rfl' rfl).trans ((hedges _).wider rfl)⟩

end Sys2Proof.Machine
end

section
/-! Start-up stopped, the resets of the controller die and the restart of the application (15 R426 to R432). -/

namespace Sys2Proof.Machine

open Sys2Proof

variable {s t u : State} {r : Request}

/-! ### Start-up stops (15 R426) -/

/-- Start-up stopped: its code, its stage kept, Ethernet off for the codes below 6. -/
theorem bootStop_sys {code : Nat} :
    (bootStop s code).sys = { s.sys with stopped := true, bootFail := code, ethOn := s.sys.ethOn && decide (6 ≤ code) } := by
  unfold bootStop
  refine (recordOnly_touches.2 .sys rfl).trans ?_
  dsimp only
  split <;> rfl

/-- A failed handshake stops start-up with code 06h. -/
theorem handshakeFails_sys : (handshakeFails s).sys = { s.sys with stopped := true, bootFail := 6 } := by
  have htrip : (tripModule (s.onSafety fun y => { y with crcBad := true }) 0x14).sys = s.sys :=
    (tripModule_frame (x := among [.ctr, .cairn, .safety]) (State.onSafety_frame SameBut.rfl' rfl) rfl rfl rfl).2 .sys rfl
  have hlog (v : State) (a b : Nat) : (if a = b then v else logWrite v 5 [] a b).sys = v.sys := by split <;> rfl
  have hstop := bootStop_sys (s := if imageCrc s.safety.core.image = imageCrc s.safety.scarp.image
    then tripModule (s.onSafety fun y => { y with crcBad := true }) 0x14
    else logWrite (tripModule (s.onSafety fun y => { y with crcBad := true }) 0x14) 5 [] (imageCrc s.safety.core.image)
      (imageCrc s.safety.scarp.image)) (code := 6)
  rw [hlog, htrip] at hstop
  exact hstop.trans (by simp)

/-- Settles O27: in each case the branch taken is a stop with the code. -/
theorem startUpStopsWithItsCode : Obligations.StartUpStopsWithItsCode := by
  intro s hctl hgo
  refine ⟨fun rtc hstage hnone => ?_, fun hstage => ⟨?_, fun hnone => ?_, fun x hm ha => ?_, fun x a hm ha hb => ?_⟩,
    fun hstage hmode => ?_, fun hstage hmode => ?_⟩
  · refine ⟨bootStop s 1, congrArg Host.Outcome.next ((if_neg (by simp [hctl, hstage, hgo])).trans (by rw [hnone])), ?_⟩
    simp [bootStop_sys, hstage]
  · refine ⟨bootStop s 2, congrArg Host.Outcome.next ((if_neg (by simp [hctl, hstage, hgo])).trans (if_pos rfl)), ?_⟩
    simp [bootStop_sys, hstage]
  · refine ⟨bootStop s 3, congrArg Host.Outcome.next ((if_neg (by simp [hctl, hstage, hgo])).trans
      ((if_neg (by simp)).trans (by rw [hnone]))), ?_⟩
    simp [bootStop_sys, hstage]
  · obtain ⟨mc, m⟩ := x
    obtain ⟨hstops, _, _⟩ := appStart_manifest hctl hstage hgo hm
    obtain ⟨f, v, hsys⟩ := manifestTaken_sys (s := s) (mc := mc) (m := m)
    exact ⟨_, hstops ha, by simp [bootStop_sys, hsys, hstage]⟩
  · obtain ⟨mc, m⟩ := x
    obtain ⟨_, hstops, _⟩ := appStart_manifest hctl hstage hgo hm
    obtain ⟨f, v, hsys⟩ := manifestTaken_sys (s := s) (mc := mc) (m := m)
    exact ⟨_, hstops a ha hb, by simp [bootStop_sys, hsys, hstage]⟩
  · refine ⟨handshakeFails s, congrArg Host.Outcome.next ((if_neg (by simp [hctl, hgo, hmode, hstage])).trans (if_pos rfl)), ?_⟩
    simp [handshakeFails_sys, hstage]
  · refine ⟨bootStop s 7, congrArg Host.Outcome.next ((if_neg (by simp [hctl, hstage, hgo])).trans ((if_neg (by simp [hmode])).trans
      ((if_neg (by simp [hmode])).trans (if_pos (by simp))))), ?_⟩
    simp [bootStop_sys, hstage]

/-! ### Resets of the controller die (15 R428, R429) -/

/-- What a reset of the controller die leaves. -/
theorem dieReset_ctlReset {cause : Nat} {l : List Event} : DieReset cause s (ctlReset s cause l) where
  held := rfl
  scarp := rfl
  cause := rfl
  count := rfl
  stage := ⟨rfl, rfl, rfl⟩
  retained := ⟨rfl, rfl, rfl⟩
  images := ⟨rfl, rfl, rfl, rfl⟩
  stored := ⟨rfl, rfl, rfl⟩
  host := ⟨rfl, rfl⟩
  session := ⟨rfl, rfl⟩
  safety := ⟨rfl, rfl, rfl⟩
  recorded := ⟨rfl, _, (List.append_assoc _ _ _).trans (List.append_assoc _ _ _)⟩
  time := ⟨rfl, rfl⟩

/-- A reset of the die after a step that touches only the module's role. -/
theorem DieReset.after_red {cause : Nat} (h : DieReset cause t u) (hs : SameBut (among [.red]) s t) : DieReset cause s u := by
  have hsys : t.sys = s.sys := hs.2 .sys rfl
  have hctr : t.ctr = s.ctr := hs.2 .ctr rfl
  have hnor : t.nor = s.nor := hs.2 .nor rfl
  have hcan : t.can = s.can := hs.2 .can rfl
  have hfield : t.field = s.field := hs.2 .field rfl
  have hsafety : t.safety = s.safety := hs.2 .safety rfl
  have hcairn : t.cairn = s.cairn := hs.2 .cairn rfl
  obtain ⟨held, scarp, cause', count, stage, retained, images, stored, host, session, safety, recorded, time⟩ := h
  rw [hsys] at scarp count retained images recorded
  rw [hctr] at retained
  rw [hnor, hcan, hfield] at stored
  rw [hsafety] at safety
  rw [hcairn] at recorded
  exact ⟨held, scarp, cause', count, stage, retained, images, stored, host, session, safety, recorded, time⟩

/-- Settles O28: each source is one reset of the die, with its cause. -/
theorem controllerResetsKeepTheRetentionDomain : Obligations.ControllerResetsKeepTheRetentionDomain := by
  intro s
  refine ⟨fun hmrst hgood => ?_, ⟨_, rfl, rfl, State.onSys_frame SameBut.rfl' rfl⟩, fun hctl => ⟨fun hhalt => ?_, fun happ hhalt => ?_, ?_⟩,
    ⟨_, rfl, rfl, State.onSys_frame SameBut.rfl' rfl⟩⟩
  · have hexec : exec .mrstNAssert s = .next ((ctlReset s 2).onSys fun y => { y with mrst := true }) := by
      refine congrArg Host.Outcome.next ((if_neg (by simp [hmrst])).trans ?_)
      dsimp only
      rw [if_pos hgood]
    obtain ⟨held, scarp, cause, count, stage, retained, images, stored, host, session, safety, recorded, time⟩ :=
      dieReset_ctlReset (s := s) (cause := 2) (l := [])
    exact ⟨_, hexec, ⟨held, scarp, cause, count, stage, retained, images, stored, host, session, safety, recorded, time⟩, rfl⟩
  · exact ⟨_, congrArg Host.Outcome.next (if_pos ⟨hctl, by rw [hhalt]; rfl⟩), dieReset_ctlReset, rfl⟩
  · have hfailed : SameBut (among [.red]) s (setFailed s) := setFailed_frame SameBut.rfl' rfl
    refine ⟨_, congrArg Host.Outcome.next (if_pos ⟨hctl, happ, hhalt⟩), dieReset_ctlReset.after_red hfailed, ?_⟩
    have hsys : (setFailed s).sys = s.sys := hfailed.2 .sys rfl
    change (setFailed s).sys.mrst = s.sys.mrst
    rw [hsys]
  · exact ⟨_, congrArg Host.Outcome.next (if_pos hctl), dieReset_ctlReset, rfl⟩

/-! ### sys.app.restart (15 R432) -/

/-- A restart from a copy, or from the held image. -/
theorem beginRestart_frame_of {copy : Nat} (h : SameBut (among [.cairn, .ctr]) s t) :
    SameBut (among [.sys, .can, .cairn, .ctr]) s (beginRestart t r copy) :=
  State.onCan_frame (State.onSys_frame (h.wider rfl) rfl) rfl

/-- What a restart from a copy leaves of start-up's part. -/
theorem beginRestart_sys {c : Nat} (hc : c ≠ 2) (ht : t.sys = s.sys) : (beginRestart t r c).sys.restart = some r ∧
    (beginRestart t r c).sys.appCopy = c ∧ (beginRestart t r c).sys.fwApp = (imgAt s 2 c).line ∧
    (beginRestart t r c).sys.heldApp = some (imgAt s 2 c).digest := by
  have himg : imgAt t 2 c = imgAt s 2 c := by simp only [imgAt, ht]
  refine ⟨rfl, rfl, ?_, ?_⟩
  · exact (if_neg hc).trans (by rw [himg])
  · exact (if_neg hc).trans (by rw [himg])

/-- Start-up takes copy 0 or copy 1. -/
theorem bootCopy_cases {kind c : Nat} (h : bootCopy s kind = some c) : c = 0 ∨ c = 1 := by
  unfold bootCopy at h
  split at h
  · exact .inl (Option.some.inj h).symm
  · split at h
    · exact .inr (Option.some.inj h).symm
    · exact nomatch h

/-- A restart with both copies failing: the held image runs on, or the die is reset (15 R432). -/
theorem sysAppRestart_held (hright : hasRight s r.part 0x0020 = true) (hallowed : restartRefused s = false)
    (hnone : bootCopy s 2 = none) : exec (.sysAppRestart r) s = .next (if !appWritten s || Config.deviceOk (draw s).1
      then beginRestart (recordOnly (draw s).2 2 4 1 0) (withOp r 0x0020) 2 else ctlReset (draw s).2 5) := by
  refine congrArg Host.Outcome.next ((serve_runs_nil hright rfl rfl).trans ((if_neg (by simp [hallowed])).trans ?_))
  rw [hnone]
  rfl

/-- Settles O29: a refusal, a copy, the held image or a reset of the die, each by the facts above. -/
theorem applicationRestartTakesAVerifiedImage : Obligations.ApplicationRestartTakesAVerifiedImage := by
  intro r s
  refine ⟨fun hright => ⟨fun href => ?_, fun hallowed => ⟨fun c hc => ?_, fun hnone hkept => ?_, fun hnone hwritten => ?_⟩⟩, fun us hr => ?_⟩
  · exact congrArg Host.Outcome.next ((serve_runs_nil hright rfl rfl).trans (if_pos href))
  · rcases bootCopy_cases hc with rfl | rfl
    · obtain ⟨h1, h2, h3, h4⟩ := beginRestart_sys (s := s) (t := s) (r := withOp r 0x0020) (c := 0) (by decide) rfl
      refine ⟨beginRestart s (withOp r 0x0020) 0, congrArg Host.Outcome.next ((serve_runs_nil hright rfl rfl).trans
        ((if_neg (by simp [hallowed])).trans (by rw [hc]; rfl))), h1, h2, h3, h4, rfl, beginRestart_frame_of SameBut.rfl'⟩
    · have hsys : (recordOnly s 2 1 1 0).sys = s.sys := recordOnly_touches.2 .sys rfl
      obtain ⟨h1, h2, h3, h4⟩ := beginRestart_sys (r := withOp r 0x0020) (c := 1) (by decide) hsys
      exact ⟨_, congrArg Host.Outcome.next ((serve_runs_nil hright rfl rfl).trans
        ((if_neg (by simp [hallowed])).trans (by rw [hc]; rfl))), h1, h2, h3, h4, rfl, beginRestart_frame_of (recordOnly_touches.wider rfl)⟩
  · have hsys : (recordOnly (draw s).2 2 4 1 0).sys = s.sys := recordOnly_touches.2 .sys rfl
    have hframe : SameBut (among [.cairn, .ctr]) s (recordOnly (draw s).2 2 4 1 0) := recordOnly_frame (draw_frame_proj SameBut.rfl') rfl rfl
    refine ⟨beginRestart (recordOnly (draw s).2 2 4 1 0) (withOp r 0x0020) 2, (sysAppRestart_held hright hallowed hnone).trans
      (congrArg Host.Outcome.next (if_pos (by rw [hkept]; rfl))), rfl, rfl, ?_, beginRestart_frame_of hframe⟩
    change (recordOnly (draw s).2 2 4 1 0).sys.fwApp = s.sys.fwApp
    rw [hsys]
  · refine ⟨_, sysAppRestart_held hright hallowed hnone, ?_⟩
    split
    · exact .inl ⟨rfl, rfl⟩
    · exact .inr (dieReset_ctlReset.after_red (draw_frame_proj SameBut.rfl'))
  · refine ⟨unseedEdges ((s.onSys fun y => { y with restart := none, appRst := satAdd 65535 y.appRst 1 }).onCan fun c => { c with drain := true }),
      congrArg Host.Outcome.next (by rw [hr]; rfl), rfl, rfl, ?_⟩
    exact unseedEdges_frame (State.onCan_frame (State.onSys_frame SameBut.rfl' rfl) rfl) rfl

end Sys2Proof.Machine
end

section
/-! The supply, its outputs and the cages (20). -/

namespace Sys2Proof.Machine

open Sys2Proof

variable {s t u : State} {n : Nat}

/-! ### The supply's events (20 R516, R520 to R525) -/

/-- The drives that lose their supply are a matter of the recorder's part. -/
theorem drivesOff_touches : SameBut (among [.cairn]) s (drivesOff s) := drivesOff_frame SameBut.rfl' rfl

/-- The field 24 V falls: the supply's bits, and the front ends off (20 R525, R526). -/
theorem fieldFalls_spec : (fieldFalls s).supply = { s.supply with f24Low := true, fieldOk := false, fieldLoss := true } ∧
    (fieldFalls s).field.on = false ∧ (fieldFalls s).field.doOut = 0 ∧ SameBut (among [.supply, .field, .cairn, .ctr]) s (fieldFalls s) :=
  ⟨(fieldOff_frame (x := among [.ctr, .cairn, .field]) SameBut.rfl' rfl rfl rfl).2 .supply rfl, rfl, rfl,
    fieldFalls_frame SameBut.rfl' rfl rfl rfl rfl⟩

/-- The storage output off: its bit, and the drives. -/
theorem storageOff_spec : (storageOff s).supply = { s.supply with storOk := false } ∧ SameBut (among [.supply, .cairn]) s (storageOff s) :=
  ⟨drivesOff_touches.2 .supply rfl, storageOff_frame SameBut.rfl' rfl rfl⟩

/-- The supply when the mains return (20 R522). -/
def mainsBack (s : State) : State :=
  s.onSupply fun u => { u with pfw := false, mains := true, shed := false, storOk := u.storOk || s.supply.shed }

/-- A trace resumes after a gap (20 R522). -/
def resumeTrace (s : State) : State := if s.cairn.trace.mode = 0 then s else s.onRec fun c => { c with gap := true }

/-- The trace is a matter of the recorder. -/
theorem resumeTrace_frame : SameBut (among [.cairn]) s (resumeTrace s) := .ite SameBut.rfl' (State.onRec_frame SameBut.rfl' rfl)

/-- Settles O30: each event sets its bits, and then what loses or regains power follows. -/
theorem supplyEventsSetTheirBits : Obligations.SupplyEventsSetTheirBits := by
  intro s
  refine ⟨fun hgood => ⟨?_, fun hpfw hshed => ?_, ?_, fun hpfw => ?_, fun m hbase hdie => ?_, fun m hhot => ?_, ?_, ?_⟩, fun hthermal hmains => ?_⟩
  · refine ⟨_, congrArg Host.Outcome.next (if_neg (by simp [hgood])), ?_, ?_⟩
    · dsimp only
      split
      · exact (cairnPowerFail_frame (x := among [.ctr, .cairn, .safety]) SameBut.rfl' rfl rfl rfl).2 .supply rfl
      · rfl
    · exact .ite (cairnPowerFail_frame (State.onSupply_frame SameBut.rfl' rfl) rfl rfl rfl) (State.onSupply_frame SameBut.rfl' rfl)
  · have hexec : exec .loadShed s = .next (storageOff (if s.supply.fieldExt then s.onSupply fun u => { u with shed := true }
        else fieldFalls (s.onSupply fun u => { u with shed := true }))) :=
      congrArg Host.Outcome.next (if_neg (by simp [hpfw, hshed]))
    obtain ⟨hbits, hon, hout, _⟩ := fieldFalls_spec (s := s.onSupply fun u => { u with shed := true })
    obtain ⟨hstor, hrest⟩ := storageOff_spec (s := if s.supply.fieldExt then s.onSupply fun u => { u with shed := true }
        else fieldFalls (s.onSupply fun u => { u with shed := true }))
    refine ⟨_, hexec, ?_, ?_, fun hint => ⟨?_, ?_, ?_⟩, fun hext => ?_⟩
    · rw [hstor]
      dsimp only
      split
      · rfl
      · rw [hbits]; rfl
    · rw [hstor]
    · rw [hrest.2 .field rfl, if_neg (by simp [hint]), hon]
    · rw [hrest.2 .field rfl, if_neg (by simp [hint]), hout]
    · rw [hstor, if_neg (by simp [hint]), hbits]
    · rw [hrest.2 .field rfl, if_pos hext]
      rfl
  · exact ⟨_, congrArg Host.Outcome.next (if_pos hgood), rfl, rfl, rfl, rfl, rfl, rfl, rfl, rfl⟩
  · have hexec : exec .mainsReturn s = .next (resumeTrace (if s.supply.shed = true ∧ ¬ s.supply.fieldExt = true
        then (mainsBack s).onField fun f => { f with on := true } else mainsBack s)) :=
      congrArg Host.Outcome.next (if_neg (by simp [hgood, hpfw]))
    have hback : SameBut (among [.supply, .field, .cairn]) s (mainsBack s) := State.onSupply_frame SameBut.rfl' rfl
    refine ⟨_, hexec, ?_, fun hshed hint => ?_, fun htrace => ?_, ?_⟩
    · rw [resumeTrace_frame.2 .supply rfl]
      split <;> rfl
    · rw [resumeTrace_frame.2 .field rfl, if_pos ⟨hshed, by simp [hint]⟩]
      rfl
    · refine congrArg (fun v : State => v.cairn.gap) (if_neg ?_)
      split <;> exact htrace
    · exact (SameBut.ite (State.onField_frame hback rfl) hback).trans (resumeTrace_frame.wider rfl)
  · have hcool : ¬ (1050 ≤ m.base ∨ 1250 ≤ m.die) := by omega
    exact ⟨_, congrArg Host.Outcome.next ((if_neg (by simp [hgood])).trans (if_neg hcool)), rfl, State.onSupply_frame SameBut.rfl' rfl⟩
  · exact ⟨_, congrArg Host.Outcome.next ((if_neg (by simp [hgood])).trans (if_pos hhot)), rfl, rfl, rfl⟩
  · exact ⟨_, congrArg Host.Outcome.next (if_pos hgood), fieldFalls_spec⟩
  · exact ⟨_, congrArg Host.Outcome.next (if_pos hgood), rfl, rfl, State.onField_frame (State.onSupply_frame SameBut.rfl' rfl) rfl⟩
  · exact ⟨_, congrArg Host.Outcome.next (if_pos ⟨hthermal, hmains⟩), rfl, State.onSupply_frame SameBut.rfl' rfl⟩

/-! ### Cages, the storage output and the sync input (20 R523, R524, R526) -/

/-- A port that goes dark is a matter of the rings. -/
theorem portDark_touches : SameBut (among [.rings, .ctr]) s (portDark s n) := portDark_frame SameBut.rfl' rfl rfl

/-- A cage of a state whose supply is known. -/
theorem cage_of_supply (h : t.supply = s.supply) {k : Nat} : t.cage k = s.cage k := by simp only [State.cage, h]

/-- A cage that is not fitted stays dark when dark cages are powered again. -/
theorem cage_repower_unfitted (h : (s.cage n).fitted = false) :
    (s.onSupply fun u => { u with cages := repower u.cages }).cage n = s.cage n := by
  refine (tabGet_map (f := fun c : Cage => if c.fitted && !c.powered && !c.blocked then { c with powered := true, draw := 0 } else c) rfl).trans ?_
  have hdark : (tabGet s.supply.cages {} n).fitted = false := h
  exact if_neg (by simp [hdark])

/-- A cage that is switched off goes dark with its port; the other cages stay (20 R523, R524). -/
theorem cageOff_spec {f : Cage → Cage} (hu : u = portDark ((s.onCage n f).onSupply fun u => { u with cageOff := true }) n) :
    u.cage n = f (s.cage n) ∧ u.supply.cageOff = true ∧ (∀ k, k ≠ n → u.cage k = s.cage k) ∧ SameBut (among [.supply, .rings, .ctr]) s u := by
  have hdark : SameBut (among [.rings, .ctr]) ((s.onCage n f).onSupply fun u => { u with cageOff := true }) u := hu ▸ portDark_touches
  have hsupply := hdark.2 .supply rfl
  have hcage (k : Nat) : u.cage k = (s.onCage n f).cage k := cage_of_supply hsupply
  refine ⟨(hcage n).trans State.cage_onCage_same, congrArg SupplySt.cageOff hsupply, fun k hk => (hcage k).trans (State.cage_onCage_ne hk), ?_⟩
  exact SameBut.trans (State.onSupply_frame (State.onSupply_frame SameBut.rfl' rfl) rfl) (hdark.wider rfl)

/-- An optic taken out, with its port dark where it was powered. -/
def opticOut (s : State) (n : Nat) : State :=
  if (s.cage n).powered then portDark (s.onCage n fun _ => {}) n else s.onCage n fun _ => {}

/-- An optic taken out leaves an empty cage. -/
theorem opticOut_spec : (opticOut s n).cage n = {} ∧ SameBut (among [.supply, .rings, .ctr]) s (opticOut s n) := by
  have hempty : (s.onCage n fun _ => {}).cage n = {} := State.cage_onCage_same
  have hframe : SameBut (among [.supply, .rings, .ctr]) s (s.onCage n fun _ => {}) := State.onSupply_frame SameBut.rfl' rfl
  unfold opticOut
  split
  · exact ⟨(cage_of_supply (portDark_touches.2 .supply rfl)).trans hempty, hframe.trans (portDark_touches.wider rfl)⟩
  · exact ⟨hempty, hframe⟩

/-- Settles O31: a measurement kept, a cage switched off, an optic fitted or removed. -/
theorem cagesStayWithinTheirBudget : Obligations.CagesStayWithinTheirBudget := by
  intro s n hn
  refine ⟨fun hpow => ⟨fun mw hfits => ?_, fun mw hover => ?_, ?_⟩, fun hempty => ?_, fun hfitted => ?_, fun hgood => ?_,
    fun htrip => ⟨_, congrArg Host.Outcome.next (if_pos htrip), rfl, State.onSupply_frame SameBut.rfl' rfl⟩,
    fun hctl ns => ⟨_, congrArg Host.Outcome.next (if_pos hctl), rfl, State.onSupply_frame SameBut.rfl' rfl⟩⟩
  · exact ⟨_, congrArg Host.Outcome.next ((if_neg (by simp [hpow]; omega)).trans (if_neg (by omega))), State.cage_onCage_same,
      fun k hk => State.cage_onCage_ne hk, State.onSupply_frame SameBut.rfl' rfl⟩
  · exact ⟨_, congrArg Host.Outcome.next ((if_neg (by simp [hpow]; omega)).trans (if_pos hover)), cageOff_spec rfl⟩
  · exact ⟨_, congrArg Host.Outcome.next (if_neg (by simp [hpow]; omega)), cageOff_spec rfl⟩
  · refine ⟨_, congrArg Host.Outcome.next (if_neg (by simp [hempty]; omega)), ?_, ?_, ?_, fun k hk => State.cage_onCage_ne hk,
      State.onSupply_frame SameBut.rfl' rfl⟩
    all_goals rw [State.cage_onCage_same]
    exact Bool.and_eq_true_iff.trans (and_congr Iff.rfl decide_eq_true_iff)
  · have hexec : exec (.opticRemove n) s = .next (if (opticOut s n).supply.good = true then
        (opticOut s n).onSupply fun u => { u with cages := repower u.cages } else opticOut s n) :=
      congrArg Host.Outcome.next (if_neg (by simp [hfitted]; omega))
    obtain ⟨hcage, hframe⟩ := opticOut_spec (s := s) (n := n)
    have hcages : (if (opticOut s n).supply.good = true then
        (opticOut s n).onSupply fun u => { u with cages := repower u.cages } else opticOut s n).cage n = {} := by
      split
      · exact (cage_repower_unfitted (by rw [hcage])).trans hcage
      · exact hcage
    exact ⟨_, hexec, by rw [hcages], by rw [hcages], .ite (State.onSupply_frame hframe rfl) hframe⟩
  · exact ⟨_, congrArg Host.Outcome.next (if_pos hgood), drivesOff_touches.2 .supply rfl,
      storageOff_frame (State.onSupply_frame SameBut.rfl' rfl) rfl rfl⟩

end Sys2Proof.Machine
end

section
/-! The ring class, the returned copies and the service transactions (03). -/

namespace Sys2Proof.Machine

open Sys2Proof

variable {s t u : State} {r : Request} {n : Nat}

/-! ### Queries of a ring (03 R84, R108, R111) -/

/-- A noted clamp leaves the rings. -/
theorem noteClamps_touches {l : List Nat} : SameBut (among [.host]) s (noteClamps s r l) := noteClamps_frame SameBut.rfl' rfl

/-- A counter raised leaves the other rings too. -/
theorem OtherRings.bump (h : OtherRings n s t) {i m : Nat} : OtherRings n s (bump t i m) := fun k hk => h k hk

/-- Settles O32: the fields are listed as the ring holds them. -/
theorem ringQueriesAnswerTheRing : Obligations.RingQueriesAnswerTheRing := by
  intro r s hring
  refine ⟨fun hright => ?_, fun hright hfirst hlast => ?_⟩
  · have hbad : firstBad [(16, decide (rq r 16 1 ≤ 3))] = none := firstBad_none (by simp [hring])
    refine ⟨_, congrArg Host.Outcome.next (serve_runs_nil hright rfl hbad), ?_⟩
    simp
  · have hbad : firstBad [(16, decide (rq r 16 1 ≤ 3)), (17, decide (1 ≤ rq r 17 1 ∧ rq r 17 1 ≤ 128))] = none :=
      firstBad_none (by simp [hring, hfirst, hlast])
    have hsame : (noteClamps s { r with opcode := 0x4002 } (clampedN 18 1 62 (rq r 18 1))).ring (rq r 16 1) = s.ring (rq r 16 1) :=
      noteClamps_touches.ring rfl _
    refine ⟨_, _, congrArg Host.Outcome.next (serve_runs hright rfl hbad), noteClamps_touches, List.mem_cons_self, ?_⟩
    intro i hi
    refine ⟨List.mem_cons_of_mem _ (List.mem_flatMap.2 ⟨i, List.mem_range.2 hi, ?_⟩), fun e he =>
      ⟨List.mem_cons_of_mem _ (List.mem_flatMap.2 ⟨i, List.mem_range.2 hi, ?_⟩),
        List.mem_cons_of_mem _ (List.mem_flatMap.2 ⟨i, List.mem_range.2 hi, ?_⟩),
        List.mem_cons_of_mem _ (List.mem_flatMap.2 ⟨i, List.mem_range.2 hi, ?_⟩)⟩⟩
    · dsimp only
      split <;> exact List.mem_cons_self
    all_goals
      dsimp only
      rw [hsame, he]
      simp

/-! ### Configurations (03 R109, R110) -/

/-- The configuration that a request gives, clamped (03 R81, R109). -/
def givenRingCfg (r : Request) : RingCfg :=
  { mode := rq r 17 1, flags := rq r 19 1 % 4, member := rq r 20 2, table := rq r 22 2
    fibre := clampN 0 (fibreLimit (rq r 18 1)) (rq r 24 4), trunk := rq r 29 1 % 16
    entries := cfgEntries r (rq r 17 1) (clampN 0 (entryLimit (rq r 17 1) (rq r 18 1)) (rq r 28 1)) }

/-- Baskets woken for a configuration are a matter of the power part. -/
theorem wakeBaskets_frame {l : List Nat} : SameBut (among [.pow, .ctr, .dbg, .cairn]) s (s.each l fun s b => setSleep s b 0) :=
  State.each_frame SameBut.rfl' fun _ _ h => setSleep_frame h rfl rfl rfl rfl

/-- A configuration joins its ring's list, and the rate it leads to is noted (03 R110). -/
def queueRingCfg (s : State) (n : Nat) (x : Request × RingCfg × Nat) : State :=
  (s.onRing n fun g => { g with cfgPend := g.cfgPend ++ [x] }).onSys fun y => { y with rateNext := some x.2.2 }

theorem ring_queueRingCfg_same {x : Request × RingCfg × Nat} :
    (queueRingCfg s n x).ring n = { s.ring n with cfgPend := (s.ring n).cfgPend ++ [x] } :=
  State.ring_onRing_same (f := fun g => { g with cfgPend := g.cfgPend ++ [x] })

theorem ring_queueRingCfg_ne {k : Nat} {x : Request × RingCfg × Nat} (h : k ≠ n) : (queueRingCfg s n x).ring k = s.ring k :=
  State.ring_onRing_ne (f := fun g => { g with cfgPend := g.cfgPend ++ [x] }) h

/-- Settles O33: with its fields valid the request is refused or joins its ring's list. -/
theorem ringConfigurationsWaitForTheReleasePhase : Obligations.RingConfigurationsWaitForTheReleasePhase := by
  intro r s hright hready hring hmode hrate hmember htable htrunk hentries
  have hbad : firstBad ([(16, decide (rq r 16 1 ≤ 3)), (17, decide (rq r 17 1 ≤ 2)), (18, decide (rq r 18 1 ≤ 2)), (20, rq r 20 2 != 0),
      (22, rq r 22 2 != 0), (29, rq r 17 1 != 1 || decide (rq r 29 1 ≤ 15))] ++
    (List.range (clampN 0 (entryLimit (rq r 17 1) (rq r 18 1)) (rq r 28 1))).flatMap fun i =>
      [(32 + 6 * i, rq r (32 + 6 * i + 0) 1 == i + 1),
       (33 + 6 * i, if rq r 17 1 = 1 then rq r (32 + 6 * i + 1) 1 == 4 else decide (1 ≤ rq r (32 + 6 * i + 1) 1 ∧ rq r (32 + 6 * i + 1) 1 ≤ 5)),
       (34 + 6 * i, if rq r 17 1 = 1 then decide (1 ≤ rq r (32 + 6 * i + 2) 1 ∧ rq r (32 + 6 * i + 2) 1 ≤ 32)
          else if rq r (32 + 6 * i + 1) 1 = 4 then rq r (32 + 6 * i + 2) 1 == 0 else decide (rq r (32 + 6 * i + 2) 1 ≤ 4)),
       (35 + 6 * i, rq r 17 1 == 1 || decide (rq r (32 + 6 * i + 3) 1 ≤ 3))]) = none := by
    refine firstBad_none (List.forall_mem_append.2 ⟨?_, fun x hx => ?_⟩)
    · by_cases h : rq r 17 1 = 1
      · simp [hring, hrate, hmember, htable, h, htrunk h]
      · simp [hring, hmode, hrate, hmember, htable, h]
    · obtain ⟨i, hi, hx⟩ := List.mem_flatMap.1 hx
      obtain ⟨haddr, hkinds⟩ := hentries i (List.mem_range.1 hi)
      rw [Nat.add_zero] at haddr
      revert x
      by_cases h : rq r 17 1 = 1
      · rw [if_pos h] at hkinds
        obtain ⟨hkind, hlo, hhi⟩ := hkinds
        simp [h, haddr, hkind, hlo, hhi]
      · rw [if_neg h] at hkinds
        obtain ⟨hlo, hhi, hblocks, hmem, haxes⟩ := hkinds
        by_cases hk : rq r (32 + 6 * i + 1) 1 = 4
        · simp [h, haddr, hk, hblocks, hmem hk]
        · simp [h, haddr, hk, hlo, hhi, hblocks, haxes hk]
  refine ⟨_, givenRingCfg r, noteClamps_touches, rfl, rfl, rfl, rfl, ?_,
    fun href => congrArg Host.Outcome.next ((serve_runs hright hready hbad).trans (if_pos href)), fun hfree => ?_⟩
  · simp [givenRingCfg, cfgEntries]
  · have hawake := wakeBaskets_frame (l := ((ringAxes (givenRingCfg r)).map basketOf).eraseDups)
      (s := noteClamps s { r with opcode := 0x4010 } (clampedN 24 0 (fibreLimit (rq r 18 1)) (rq r 24 4) ++
        clampedN 28 0 (entryLimit (rq r 17 1) (rq r 18 1)) (rq r 28 1)))
    generalize hu : (State.each _ ((ringAxes (givenRingCfg r)).map basketOf).eraseDups fun s b => setSleep s b 0) = u at hawake
    have hframe : SameBut (among [.host, .pow, .ctr, .dbg, .cairn]) s u := (noteClamps_touches.wider rfl).trans (hawake.wider rfl)
    have hexec : exec (.ringConfig r) s = .next (queueRingCfg u (rq r 16 1) (withOp r 0x4010, givenRingCfg r, rq r 18 1)) :=
      hu ▸ congrArg Host.Outcome.next ((serve_runs hright hready hbad).trans (if_neg fun h => Bool.false_ne_true (hfree.symm.trans h)))
    refine ⟨_, hexec, ring_queueRingCfg_same.trans (by rw [hframe.ring rfl]), ?_,
      fun k hk => (ring_queueRingCfg_ne hk).trans (hframe.ring rfl k), State.onSys_frame (State.onRing_frame (hframe.wider rfl) rfl) rfl⟩
    exact congrArg (fun y : SysSt => { y with rateNext := some (rq r 18 1) }) (hframe.2 .sys rfl)

/-! ### Copies (03 R76, R80, R84, R108) -/

/-- A counter raised leaves the rings. -/
theorem ring_bump {i k m : Nat} : (bump s i m).ring k = s.ring k := rfl

/-- A transaction ended by an answer: what the answer reports of its node is kept (03 R77). -/
def endService (q : ServiceSt) (seg : ServiceSeg) (g : RingSt) : RingSt :=
  { g with
    service := none
    nodes := tabMod g.nodes {} q.node fun x =>
      if seg.op = 0x81 then { x with profile := Config.serviceField q.op seg.data 0 % 65536, silent := false, answered := true }
      else if seg.op = 0x82 then { x with
        dlyE := Config.serviceField q.op seg.data 0 % 65536, dlyW := Config.serviceField q.op seg.data 1 % 65536
        silent := false, answered := true }
      else { x with silent := false, answered := true } }

/-- Settles O34: a copy is kept or its slots count as late; an answer ends its transaction, a third silent try as well. -/
theorem copiesAndServiceAnswersAreTaken : Obligations.CopiesAndServiceAnswersAreTaken := by
  intro s n
  refine ⟨fun c hlead => ⟨fun hcrc hdue => ?_, fun hcrc htable hdue => ?_, fun hcrc htable hdue => ?_⟩,
    fun q seg hq hcrc hnode hop => ?_, fun q hq => ⟨fun htries => ?_, fun htries => ?_⟩⟩
  · refine ⟨_, congrArg Host.Outcome.next ((if_neg (by simp [hlead])).trans (if_pos (by simp [hcrc]))), ?_,
      countsOne_bump, OtherRings.on.bump, bump_frame (State.onRing_frame SameBut.rfl' rfl) rfl⟩
    rw [ring_bump, State.ring_onRing_same, if_pos hdue]
  · refine congrArg Host.Outcome.next ((if_neg (by simp [hlead])).trans ((if_neg (by simp [hcrc])).trans
      ((if_pos (by simp [hdue])).trans ?_)))
    rw [if_pos htable]
  · refine ⟨_, congrArg Host.Outcome.next ((if_neg (by simp [hlead])).trans ((if_neg (by simp [hcrc])).trans
      ((if_neg (by simp [hdue])).trans (if_neg (by simp [htable]))))), ?_, fun hw => ?_, fun hw => ?_, OtherRings.on,
      State.onRing_frame (bump_frame (bump_frame SameBut.rfl' rfl) rfl) rfl⟩
    all_goals rw [State.ring_onRing_same]
    · rfl
    · simp [hw]; rfl
    · simp [hw]; rfl
  · have hexec : exec (.serviceAnswerRx n seg) s = .next (s.onRing n (endService q seg)) := by
      change execServiceAnswerRx n seg s = _
      unfold execServiceAnswerRx
      simp only [hq]
      exact congrArg Host.Outcome.next (if_pos ⟨hcrc, hnode, hop⟩)
    refine ⟨_, hexec, ?_, ?_, ?_, fun k hk => ?_, OtherRings.on, State.onRing_frame SameBut.rfl' rfl⟩
    all_goals rw [State.ring_onRing_same]
    · rfl
    · rw [endService, tabGet_tabMod_same]
      split
      · rfl
      · split <;> rfl
    · rw [endService, tabGet_tabMod_same]
      split
      · rfl
      · split <;> rfl
    · rw [endService, tabGet_tabMod_ne hk]
  · have hexec : exec (.serviceRetry n) s = .next (s.onRing n fun g => { g with service := some { q with tries := q.tries + 1, fresh := true } }) := by
      change execServiceRetry n s = _
      unfold execServiceRetry
      simp only [hq]
      exact congrArg Host.Outcome.next (if_pos htries)
    exact ⟨_, hexec, State.ring_onRing_same, OtherRings.on, State.onRing_frame SameBut.rfl' rfl⟩
  · have hexec : exec (.serviceRetry n) s = .next (bump (s.onRing n fun g => { g with
        service := none, nodes := tabMod g.nodes {} q.node fun x => { x with silent := true } }) (cRing n 18)) := by
      change execServiceRetry n s = _
      unfold execServiceRetry
      simp only [hq]
      exact congrArg Host.Outcome.next (if_neg (by omega))
    refine ⟨_, hexec, ?_, ?_, countsOne_bump, OtherRings.on.bump, bump_frame (State.onRing_frame SameBut.rfl' rfl) rfl⟩
    · rw [ring_bump, State.ring_onRing_same]
    · rw [ring_bump, State.ring_onRing_same]
      simp

end Sys2Proof.Machine
end

section
/-! Ordered sets, cold start, spans and re-closing on the rings (03). -/

namespace Sys2Proof.Machine

open Sys2Proof

variable {s t u : State} {n : Nat} {g : RingSt} {b : SetBlock} {west : Bool}

/-! ### Ordered sets received (03 R73, R74) -/

/-- A forwarded set goes to the end of what the ring forwards, and changes nothing else of it. -/
theorem forwardSet_fwd : ∃ l, forwardSet g west b = { g with fwd := l } := by
  unfold forwardSet
  split
  · exact ⟨_, rfl⟩
  · exact ⟨_, rfl⟩

/-- A ring that neither leads nor is off forwards a set. -/
theorem forwardSet_member (hl : g.state ≠ .leading) (ho : g.state ≠ .off) :
    forwardSet g west b = { g with fwd := ((if portUp g (!west) then !west else west), b) :: g.fwd } :=
  if_neg (not_or.2 ⟨hl, ho⟩)

/-- Two sets forwarded in a row take the same way. -/
theorem forwardSet_member_twice (hl : g.state ≠ .leading) (ho : g.state ≠ .off) :
    forwardSet (forwardSet g west b) west b = { g with fwd := ((if portUp g (!west) then !west else west), b) ::
      ((if portUp g (!west) then !west else west), b) :: g.fwd } := by
  rw [forwardSet_member hl ho]
  exact forwardSet_member hl ho

/-- One copy of a set other than STOP is forwarded, and not acted on. -/
theorem receiveSets_once (hok : blockOk b = true) (hstop : b.d1 ≠ 1) :
    receiveSets s n west [b] = s.onRing n fun g => forwardSet g west b := by
  simp [receiveSets, actedOn, settled, hok, hstop, State.each]

/-- Two copies in a row are forwarded, and acted on once. -/
theorem receiveSets_twice (hok : blockOk b = true) (hstop : b.d1 ≠ 1) :
    receiveSets s n west [b, b] = takeSet (s.onRing n fun g => forwardSet (forwardSet g west b) west b) n b := by
  simp [receiveSets, actedOn, settled, hok, hstop, State.each]

/-- Two copies forwarded leave of a ring all but what it forwards. -/
theorem forwardSet_twice_fwd : ∃ l, forwardSet (forwardSet g west b) west b = { g with fwd := l } := by
  obtain ⟨l, hl⟩ := forwardSet_fwd (g := g) (west := west) (b := b)
  obtain ⟨m, hm⟩ := forwardSet_fwd (g := forwardSet g west b) (west := west) (b := b)
  exact ⟨m, hm.trans (by rw [hl])⟩

/-! ### A span fails, and comes up again (03 R95, R98 to R101) -/

theorem contains_addOnce {l : List Nat} {k : Nat} : (addOnce l k).contains k = true := by
  unfold addOnce
  split
  · assumption
  · simp

/-- A cancelled re-close leaves of its ring all but what belongs to the re-close. -/
theorem cancelClose_ring {retry : Bool} :
    ∃ z q, (cancelClose s n retry).ring n = { s.ring n with closeAt := none, closeZero := z, closeRetry := q } := by
  unfold cancelClose
  split
  next h => exact ⟨(s.ring n).closeZero, (s.ring n).closeRetry, by rw [← h]⟩
  next c h =>
    split
    · exact ⟨(s.ring n).closeZero, (s.ring n).closeRetry, State.ring_onRing_same⟩
    · exact ⟨_, _, ring_bump.trans State.ring_onRing_same⟩

theorem cancelClose_others {retry : Bool} : OtherRings n s (cancelClose s n retry) := by
  unfold cancelClose
  split
  · exact fun _ _ => rfl
  · split
    · exact .on
    · exact OtherRings.on.bump

/-- Only the counter of cancelled re-closes can rise. -/
theorem cancelClose_counter {retry : Bool} {j : Nat} (hj : j ≠ cRing n 14) :
    tabGet (cancelClose s n retry).ctr.cnt 0 j = tabGet s.ctr.cnt 0 j := by
  unfold cancelClose
  split
  · rfl
  · split
    · rfl
    · exact (countsOne_bump j).trans (if_neg hj)

/-- What a failed span leaves of its ring (03 R95, R98, R100). -/
theorem failSpan_ring {k : Nat} : ∃ z, (failSpan s n k).ring n = { s.ring n with
    closeAt := none, closeZero := z, failed := addOnce (s.ring n).failed k, loops := addOnce (s.ring n).loops k, upKept := false
    closeRetry := none, healDue := (s.ring n).healDue || (ringLive (s.ring n) && !(s.ring n).healed) } := by
  obtain ⟨z, q, hring⟩ := cancelClose_ring (s := s) (n := n) (retry := false)
  refine ⟨z, State.ring_onRing_same.trans ?_⟩
  rw [hring]
  rfl

theorem failSpan_others {k : Nat} : OtherRings n s (failSpan s n k) := cancelClose_others.trans .on

theorem failSpan_counter {k j : Nat} (hj : j ≠ cRing n 14) : tabGet (failSpan s n k).ctr.cnt 0 j = tabGet s.ctr.cnt 0 j :=
  cancelClose_counter hj

/-- What a port that fails leaves of a ring that is not off (03 R95). -/
theorem portFails_ring (hoff : (s.ring n).state ≠ .off) : ∃ z, (portFails s n west).ring n = { s.ring n with
    guardQ := if reportsSpans (s.ring n) then (s.ring n).guardQ ++ [.spandown (ownAddr s (s.ring n)) west] else (s.ring n).guardQ
    loopE := if west then (s.ring n).loopE else 0xFFFF, loopW := if west then 0xFFFF else (s.ring n).loopW
    closeAt := none, closeZero := z
    failed := addOnce (s.ring n).failed (spanOf (s.ring n).cfg (ownAddr s (s.ring n)) west)
    loops := addOnce (s.ring n).loops (spanOf (s.ring n).cfg (ownAddr s (s.ring n)) west), upKept := false
    closeRetry := none, healDue := (s.ring n).healDue || (ringLive (s.ring n) && !(s.ring n).healed) } := by
  unfold portFails
  rw [if_neg hoff]
  extract_lets a u
  have hu : u.ring n = _ := State.ring_onRing_same
  obtain ⟨z, hz⟩ := failSpan_ring (s := u) (n := n) (k := spanOf (u.ring n).cfg a west)
  rw [hu] at hz
  exact ⟨z, by rw [hu]; exact hz⟩

theorem portFails_others : OtherRings n s (portFails s n west) := by
  unfold portFails
  split
  · exact fun _ _ => rfl
  · exact OtherRings.on.trans failSpan_others

/-- A block of an ordered set is kept whole (03 R73). -/
theorem blockOk_mkBlock {d1 d3 ext : Nat} (h : d1 ≤ 255) : blockOk (mkBlock d1 d3 ext) = true := by
  simp only [blockOk, mkBlock, beq_iff_eq]
  omega

theorem bitAt_side {w : Bool} : bitAt (b2n w) 0 = w := by cases w <;> rfl

/-- SPANDOWN at a ring that is not off fails the span named, and is counted (03 R95, R108). -/
theorem takeSet_down {a : Nat} {w : Bool} (hoff : (s.ring n).state ≠ .off) :
    takeSet s n (setBlock (.spandown a w)) = failSpan (bump s (cRing n 11)) n (spanOf (s.ring n).cfg a w) := by
  show takeSet s n (mkBlock 3 a (b2n w)) = _
  unfold takeSet
  rw [if_neg hoff]
  simp [mkBlock, bitAt_side]

/-- SPANUP at a ring that is not off brings up the span named (03 R99). -/
theorem takeSet_up {a : Nat} {w : Bool} (hoff : (s.ring n).state ≠ .off) :
    takeSet s n (setBlock (.spanup a w)) = spanUp s n (spanOf (s.ring n).cfg a w) := by
  show takeSet s n (mkBlock 4 a (b2n w)) = _
  unfold takeSet
  rw [if_neg hoff]
  simp [mkBlock, bitAt_side]

theorem startClose_ring {c : Nat} : (startClose s n c).ring n =
    if (s.ring n).state = .leading then { s.ring n with closeAt := some (c + 16), upKept := false, closeRetry := none } else s.ring n := by
  by_cases h : (s.ring n).state = .leading
  · rw [if_pos h, startClose, if_neg (not_not_intro h), State.ring_onRing_same]
  · rw [if_neg h, startClose, if_pos h]

theorem startClose_others {c : Nat} : OtherRings n s (startClose s n c) := by
  unfold startClose
  split
  · exact fun _ _ => rfl
  · exact .on

/-- What a failed span that is up again leaves of its ring (03 R98, R99). -/
theorem spanUp_ring {k : Nat} (hk : (s.ring n).failed.contains k = true) : (spanUp s n k).ring n =
    let g := { s.ring n with failed := (s.ring n).failed.filter (· != k) }
    if g.failed.isEmpty = true ∧ g.healed = true then
      if bitAt g.cfg.flags 0 = true then
        (if g.state = .leading then { g with closeAt := some (s.time.cycle + 1 + 16), upKept := false, closeRetry := none } else g)
      else { g with upKept := true }
    else g := by
  unfold spanUp
  extract_lets g u g'
  have hu : u.ring n = g' := State.ring_onRing_same
  rw [if_neg (by simpa [g] using hk), apply_ite (State.ring · n), apply_ite (State.ring · n), startClose_ring,
    State.ring_onRing_same, State.ring_onRing_same, hu]
  rfl

theorem spanUp_failed {k : Nat} (hk : (s.ring n).failed.contains k = true) :
    ((spanUp s n k).ring n).failed = (s.ring n).failed.filter (· != k) := by
  rw [spanUp_ring hk]
  dsimp only
  split
  · split
    · split <;> rfl
    · rfl
  · rfl

theorem spanUp_others {k : Nat} : OtherRings n s (spanUp s n k) := by
  unfold spanUp
  extract_lets g u
  split
  · exact fun _ _ => rfl
  · refine OtherRings.on.trans (t := u) ?_
    split
    · split
      · exact startClose_others
      · exact .on
    · exact fun _ _ => rfl

theorem onRing_touches {f : RingSt → RingSt} : SameBut (among [.rings]) s (s.onRing n f) := State.onRing_frame SameBut.rfl' rfl

/-- A span that leaves the failed ones is not among them. -/
theorem contains_filter_ne {l : List Nat} {k : Nat} : (l.filter (· != k)).contains k = false := by
  simp

/-- The injections of a ring's axes end without the rings being touched (03 R96). -/
theorem endInjections_touches {l : List Nat} :
    SameBut (among [.ctr, .cairn, .loop]) s (s.each l fun s a => endInjection s a true) :=
  State.each_frame SameBut.rfl' fun _ _ h => endInjection_frame h rfl rfl rfl

/-- What a live ring due to heal is once healed (03 R96). -/
theorem healRing_ring (hdue : (s.ring n).healDue = true) (hlive : ringLive (s.ring n) = true) :
    (healRing s n).ring n = { s.ring n with
      healed := true, healDue := false, healCycle := some s.time.cycle, recloseCycle := none, sentE := false, sentW := false
      copies := [] } := by
  have hpass := endInjections_touches (s := s) (l := ringAxes (s.ring n).cfg)
  have hcycle := hpass.2 .time rfl
  unfold healRing
  extract_lets g u
  rw [if_pos ⟨hdue, hlive⟩, ring_bump, State.ring_onRing_same, hpass.ring rfl, hcycle]

theorem healRing_others : OtherRings n s (healRing s n) := by
  unfold healRing
  extract_lets g u
  split
  · exact (OtherRings.of_eq (endInjections_touches.2 .rings rfl)).trans OtherRings.on.bump
  · exact fun _ _ => rfl

/-- A module port without its lock: down, no Remote Fault heard, and Remote Fault sent where the ring is lit (03 R95). -/
def lockLost (g : RingSt) (west : Bool) : RingSt :=
  if west then { g with westUp := false, remoteW := false, rfW := g.state != .off }
  else { g with eastUp := false, remoteE := false, rfE := g.state != .off }

/-- The loss of lock is a failure of the port, its lock gone. -/
theorem loseLock_portFails : ∃ u, loseLock s n west = portFails u n west ∧ u.ring n = lockLost (s.ring n) west ∧
    OtherRings n s u ∧ u.sys = s.sys := by
  unfold loseLock
  extract_lets g lit s'
  have hs' : s'.rings = s.rings ∧ s'.sys = s.sys := by
    unfold s'
    generalize (if west then g.westUp else g.eastUp) = up
    cases up <;> exact ⟨rfl, rfl⟩
  refine ⟨_, rfl, State.ring_onRing_same.trans ?_, (OtherRings.of_eq hs'.1).trans .on, hs'.2⟩
  rw [State.ring, hs'.1]
  rfl

theorem portUp_lockLost : portUp (lockLost g west) west = false := by cases west <;> rfl

/-- Settles O36: each operation is taken through what it leaves of its ring (`failSpan_ring`, `portFails_ring`, `spanUp_ring`). -/
theorem spansFailHealAndClose : Obligations.SpansFailHealAndClose := by
  intro s n
  refine ⟨fun west hoff => ⟨?_, ?_⟩, fun addr west port hoff => ⟨?_, ?_⟩, fun addr west port hoff hk => ?_, fun west hup hk => ?_,
    fun hdue hlive => ?_, fun hlead hclose => ⟨fun harm => ?_, fun harm => ?_⟩, fun hlead => ?_, fun hclose => ?_,
    fun c hlead hretry hhealed hfailed hflag => ?_, fun west hoff => ?_, fun hstage => ?_⟩
  · obtain ⟨u, hlose, hring, hothers, hsys⟩ := loseLock_portFails (s := s) (n := n) (west := west)
    have haddr : ownAddr u (u.ring n) = ownAddr s (s.ring n) := by
      rw [ownAddr, ownAddr, hring, hsys]
      cases west <;> rfl
    obtain ⟨z, hz⟩ := portFails_ring (s := u) (n := n) (west := west) (by rw [hring]; cases west <;> exact hoff)
    rw [haddr, hring] at hz
    refine ⟨_, congrArg Host.Outcome.next hlose, ?_, ?_, ?_, ?_, ?_, ?_, ?_, hothers.trans portFails_others,
      hlose ▸ loseLock_frame SameBut.rfl' rfl rfl⟩ <;> rw [hz]
    · cases west <;> exact contains_addOnce
    · cases west <;> rfl
    · cases west <;> exact bne_iff_ne.2 hoff
    · cases west <;> rfl
    · exact fun h => by cases west <;> simp [lockLost, reportsSpans] at h ⊢ <;> simp [h]
    · intro hlive hhealed
      cases west <;> simp [lockLost, ringLive] at hlive ⊢ <;> simp [hlive, hhealed]
  · have hu : (s.onRing n fun g => if west then { g with remoteW := true } else { g with remoteE := true }).ring n = _ :=
      State.ring_onRing_same
    obtain ⟨z, hz⟩ := portFails_ring (west := west) (by rw [hu]; cases west <;> exact hoff)
    rw [hu] at hz
    refine ⟨_, rfl, ?_, ?_, OtherRings.on.trans portFails_others, portFails_frame (State.onRing_frame SameBut.rfl' rfl) rfl rfl⟩ <;>
      rw [hz]
    · cases west <;> exact contains_addOnce
    · cases west <;> simp [portUp]
  · refine ⟨_, congrArg Host.Outcome.next (receiveSets_once (blockOk_mkBlock (by decide)) (by simp [setBlock, mkBlock])), ?_, .on, onRing_touches⟩
    obtain ⟨l, hl⟩ := forwardSet_fwd (g := s.ring n) (west := port) (b := setBlock (.spandown addr west))
    rw [State.ring_onRing_same, hl]
  · obtain ⟨l, hl⟩ := forwardSet_twice_fwd (g := s.ring n) (west := port) (b := setBlock (.spandown addr west))
    have hu := State.ring_onRing_same (s := s) (n := n)
      (f := fun g => forwardSet (forwardSet g port (setBlock (.spandown addr west))) port (setBlock (.spandown addr west)))
    rw [hl] at hu
    have htake := takeSet_down (n := n) (a := addr) (w := west) (by rw [hu]; exact hoff)
    obtain ⟨z, hz⟩ := failSpan_ring (s := bump _ (cRing n 11)) (n := n) (k := spanOf (s.ring n).cfg addr west)
    rw [ring_bump, hu] at hz
    rw [hu] at htake
    refine ⟨_, congrArg Host.Outcome.next
      ((receiveSets_twice (blockOk_mkBlock (by decide)) (by simp [mkBlock])).trans htake), ?_, ?_, ?_, ?_,
      OtherRings.on.trans (OtherRings.bump (fun _ _ => rfl) |>.trans failSpan_others),
      failSpan_frame (bump_frame (State.onRing_frame SameBut.rfl' rfl) rfl) rfl rfl⟩
    · rw [hz]; exact contains_addOnce
    · rw [hz]; exact contains_addOnce
    · rw [hz]
    · rw [failSpan_counter (by simp [cRing]), countsOne_bump]
      exact if_pos rfl
  · obtain ⟨l, hl⟩ := forwardSet_twice_fwd (g := s.ring n) (west := port) (b := setBlock (.spanup addr west))
    have hu := State.ring_onRing_same (s := s) (n := n)
      (f := fun g => forwardSet (forwardSet g port (setBlock (.spanup addr west))) port (setBlock (.spanup addr west)))
    rw [hl] at hu
    have htake := takeSet_up (n := n) (a := addr) (w := west) (by rw [hu]; exact hoff)
    rw [hu] at htake
    have hz := spanUp_ring (n := n) (k := spanOf (s.ring n).cfg addr west) (by rw [hu]; exact hk)
    have hfailed := spanUp_failed (n := n) (k := spanOf (s.ring n).cfg addr west) (by rw [hu]; exact hk)
    rw [hu] at hz hfailed
    refine ⟨_, congrArg Host.Outcome.next
      ((receiveSets_twice (blockOk_mkBlock (by decide)) (by simp [mkBlock])).trans htake), ?_, ?_, ?_,
      OtherRings.on.trans spanUp_others, spanUp_frame (State.onRing_frame SameBut.rfl' rfl) rfl⟩
    · exact hfailed
    · intro hnone hhealed hflag
      rw [hz]
      dsimp only
      rw [if_pos ⟨List.isEmpty_iff.2 (hfailed.symm.trans hnone), hhealed⟩, if_pos hflag]
      split <;> rfl
    · intro hnone hhealed hflag
      rw [hz]
      dsimp only
      rw [if_pos ⟨List.isEmpty_iff.2 (hfailed.symm.trans hnone), hhealed⟩, if_neg (by simp [hflag])]
      exact ⟨rfl, rfl⟩
  · have hu := State.ring_onRing_same (s := s) (n := n)
      (f := fun g => { g with guardQ := g.guardQ ++ [.spanup (ownAddr s (s.ring n)) west] })
    have hz := spanUp_ring (n := n) (k := spanOf (s.ring n).cfg (ownAddr s (s.ring n)) west) (by rw [hu]; exact hk)
    have hfailed := spanUp_failed (n := n) (k := spanOf (s.ring n).cfg (ownAddr s (s.ring n)) west) (by rw [hu]; exact hk)
    rw [hu] at hz hfailed
    refine ⟨_, congrArg Host.Outcome.next (if_pos ⟨hup, hk⟩), ?_, ?_, OtherRings.on.trans spanUp_others,
      spanUp_frame (State.onRing_frame SameBut.rfl' rfl) rfl⟩
    · rw [hz]; dsimp only
      split
      · split
        · split <;> rfl
        · rfl
      · rfl
    · rw [hfailed]
      exact contains_filter_ne
  · refine ⟨_, rfl, ?_, ?_, ?_, ?_, healRing_others, healRing_frame SameBut.rfl' rfl rfl rfl rfl⟩ <;> rw [healRing_ring hdue hlive]
  · exact congrArg Host.Outcome.next (if_neg fun h => h.2.2 harm)
  · have hexec : cancelClose s n true = bump (s.onRing n fun g => { g with
      closeAt := none, closeZero := some s.time.cycle, closeRetry := some (s.time.cycle + 2) }) (cRing n 14) := by
      unfold cancelClose
      rw [hclose]
      exact if_neg (not_not_intro hlead)
    refine ⟨_, congrArg Host.Outcome.next ((if_pos ⟨hlead, hclose, by simp [harm]⟩).trans hexec), ?_, ?_, ?_, countsOne_bump,
      OtherRings.on.bump, bump_frame (State.onRing_frame SameBut.rfl' rfl) rfl⟩ <;> rw [ring_bump, State.ring_onRing_same]
  · exact congrArg Host.Outcome.next (if_neg fun h => hlead h.1)
  · refine ⟨_, congrArg Host.Outcome.next (if_pos hclose), ?_, ?_, ?_, ?_, countsOne_bump, OtherRings.on.bump,
      recloseRing_frame SameBut.rfl' rfl rfl⟩ <;> rw [recloseRing, ring_bump, State.ring_onRing_same]
  · refine ⟨startClose s n (max (c + cyclesPerS s.sys.rate) s.time.cycle), ?_, ?_, ?_, startClose_others,
      startClose_frame SameBut.rfl' rfl⟩
    · change execRecloseRetry n s = _
      unfold execRecloseRetry
      simp only [hretry]
      exact congrArg Host.Outcome.next (if_pos ⟨hlead, hhealed, hfailed, hflag⟩)
    · rw [startClose_ring, if_pos hlead]
    · rw [startClose_ring, if_pos hlead]
  · refine ⟨_, congrArg Host.Outcome.next (if_neg hoff), ?_, ?_, .on, onRing_touches⟩ <;> rw [State.ring_onRing_same] <;>
      cases west <;> simp [portUp]
  · exact ⟨_, congrArg Host.Outcome.next (if_pos hstage), State.link_onLink_same, fun _ hk => State.link_onLink_ne hk,
      State.onLink_frame SameBut.rfl' rfl⟩

/-! ### Cold start (03 R91, R92) -/

theorem takeSet_coldstart {id : Nat} (hid : id < 65536) (hoff : (s.ring n).state ≠ .off) :
    takeSet s n (setBlock (.coldstart id)) = hearColdstart s n id := by
  unfold takeSet
  rw [if_neg hoff]
  simp [setBlock, mkBlock, Nat.mod_eq_of_lt hid]

/-- What two COLDSTART copies in a row come to at a ring that contends: both are forwarded, and the identifier is heard. -/
theorem receiveSets_coldstart {id : Nat} (hid : id < 65536) (hcont : (s.ring n).state = .contending) :
    ∃ u, receiveSets s n west [setBlock (.coldstart id), setBlock (.coldstart id)] = hearColdstart u n id ∧
      u.ring n = { s.ring n with
        fwd := ((if portUp (s.ring n) (!west) then !west else west), setBlock (.coldstart id)) ::
          ((if portUp (s.ring n) (!west) then !west else west), setBlock (.coldstart id)) :: (s.ring n).fwd } ∧
      OtherRings n s u ∧ SameBut (among [.rings]) s u ∧ u.ctr = s.ctr := by
  have hu := State.ring_onRing_same (s := s) (n := n)
    (f := fun g => forwardSet (forwardSet g west (setBlock (.coldstart id))) west (setBlock (.coldstart id)))
  rw [forwardSet_member_twice (by simp [hcont]) (by simp [hcont])] at hu
  exact ⟨_, (receiveSets_twice (blockOk_mkBlock (by decide)) (by simp [mkBlock])).trans
    (takeSet_coldstart hid (congrArg RingSt.state hu ▸ by simp [hcont])), hu, .on, onRing_touches, rfl⟩

/-! ### A frame of another leader (03 R87, R91, R93, R110) -/

/-- Two records of a ring that agree on who leads it and on what has been followed of it. -/
structure SameCourse (g g' : RingSt) : Prop where
  state : g'.state = g.state
  leader : g'.leader = g.leader
  lastCycle : g'.lastCycle = g.lastCycle
  good : g'.good = g.good
  healed : g'.healed = g.healed

theorem SameCourse.trans {g g' g'' : RingSt} (h : SameCourse g g') (h' : SameCourse g' g'') : SameCourse g g'' :=
  ⟨h'.state.trans h.state, h'.leader.trans h.leader, h'.lastCycle.trans h.lastCycle, h'.good.trans h.good, h'.healed.trans h.healed⟩

theorem SameCourse.of_eq {g g' : RingSt} (h : g' = g) : SameCourse g g' := h ▸ ⟨rfl, rfl, rfl, rfl, rfl⟩

variable {h : FrameHeader}

theorem takeDelays_course {c : Int} : SameCourse g (takeDelays g h c) := by
  unfold takeDelays
  extract_lets w l known g'
  have hg' : SameCourse g g' := by unfold g'; split <;> exact ⟨rfl, rfl, rfl, rfl, rfl⟩
  split
  · split
    · split
      · dsimp only
        split <;> exact ⟨rfl, rfl, rfl, rfl, rfl⟩
      · exact .of_eq rfl
    · exact .of_eq rfl
  · split
    · split
      · exact hg'.trans ⟨rfl, rfl, rfl, rfl, rfl⟩
      · exact hg'
    · exact hg'

theorem placeInstant_course : SameCourse g (placeInstant s g h) := by
  unfold placeInstant
  split
  · split <;> exact ⟨rfl, rfl, rfl, rfl, rfl⟩
  · exact .of_eq rfl

theorem hearService_course {own k : Nat} : SameCourse g (hearService own g h k) := by
  unfold hearService
  split <;> exact ⟨rfl, rfl, rfl, rfl, rfl⟩

theorem writeAnswer_course : SameCourse g (writeAnswer g h) := by
  unfold writeAnswer
  split
  · extract_lets late
    split
    · exact ⟨rfl, rfl, rfl, rfl, rfl⟩
    · split <;> exact ⟨rfl, rfl, rfl, rfl, rfl⟩
  · exact .of_eq rfl

/-- Delays, phase, service and answer of a member's frame leave the course. -/
theorem memberFrame_course {own k : Nat} {c : Int} :
    SameCourse g (writeAnswer (hearService own (placeInstant s (takeDelays g h c) h) h k) h) :=
  takeDelays_course.trans (placeInstant_course.trans (hearService_course.trans writeAnswer_course))

/-- A frame that a member takes leaves the ring's course as `followRing` has it. -/
theorem followFrame_course (hhear : hearsFrames (s.ring n) = true) :
    SameCourse (followRing s (s.ring n) h) ((followFrame s n h).ring n) := by
  unfold followFrame
  rw [if_neg (by simp [hhear])]
  rw [State.ring_onRing_same]
  show SameCourse (followRing s (s.ring n) h) (if _ then _ else _)
  split
  · exact .of_eq rfl
  · dsimp only
    split
    · exact memberFrame_course.trans ⟨rfl, rfl, rfl, rfl, rfl⟩
    · exact memberFrame_course

theorem followInstant_rings : (followInstant s n).rings = s.rings := by
  unfold followInstant
  split
  · split <;> rfl
  · rfl

theorem answerCfg_rings {c : Nat} : (answerCfg s n c).rings = (s.onRing n fun g => { g with cfgWait := [] }).rings :=
  (State.each_frame (x := among [.host, .ctr]) SameBut.rfl' fun _ _ h => ok_frame h rfl rfl).2 .rings rfl

theorem answerCfg_course {c : Nat} : SameCourse (s.ring n) ((answerCfg s n c).ring n) := by
  rw [State.ring, State.ring, answerCfg_rings]
  exact SameCourse.trans (g' := { s.ring n with cfgWait := [] }) ⟨rfl, rfl, rfl, rfl, rfl⟩ (.of_eq State.ring_onRing_same)

theorem followFrame_others : OtherRings n s (followFrame s n h) := by
  unfold followFrame
  split
  · exact fun _ _ => rfl
  · exact fun _ hk => State.ring_onRing_ne hk

/-- What a frame with a good header does at a module, the partner's frames aside: the frame is followed, and a landed configuration
answered. -/
def takeFrame (s : State) (n : Nat) (h : FrameHeader) : State :=
  if ((followInstant (followFrame s n h) n).ring n).state = .following ∧
      h.table = ((followInstant (followFrame s n h) n).ring n).cfg.table then
    answerCfg (followInstant (followFrame s n h) n) n h.cycle
  else followInstant (followFrame s n h) n

theorem takeFrame_touches : SameBut (among [.rings, .host, .ctr, .time]) s (takeFrame s n h) := by
  have hfollow : SameBut (among [.rings, .host, .ctr, .time]) s (followInstant (followFrame s n h) n) :=
    followInstant_frame (followFrame_frame SameBut.rfl' rfl) rfl
  unfold takeFrame
  split
  · exact answerCfg_frame hfollow rfl rfl rfl
  · exact hfollow

theorem takeFrame_others : OtherRings n s (takeFrame s n h) := by
  have hfollow : OtherRings n s (followInstant (followFrame s n h) n) := followFrame_others.trans (.of_eq followInstant_rings)
  unfold takeFrame
  split
  · exact hfollow.trans (OtherRings.trans (t := State.onRing _ n fun g => { g with cfgWait := [] }) .on (.of_eq answerCfg_rings))
  · exact hfollow

theorem takeFrame_course (hhear : hearsFrames (s.ring n) = true) :
    SameCourse (followRing s (s.ring n) h) ((takeFrame s n h).ring n) := by
  have hfollow : SameCourse (followRing s (s.ring n) h) ((followInstant (followFrame s n h) n).ring n) := by
    have hring : (followInstant (followFrame s n h) n).ring n = (followFrame s n h).ring n := by
      rw [State.ring, followInstant_rings, State.ring]
    exact hring ▸ followFrame_course hhear
  unfold takeFrame
  split
  · exact hfollow.trans answerCfg_course
  · exact hfollow

/-- A good header of the partner: the module takes it as such first (13 R383, R394). -/
theorem leaderFrame_taken (hgood : h.hcrcOk = true) {u : State}
    (hu : receiveSets s n (bitAt h.info 4 == h.back) h.sets = u) :
    exec (.leaderFrameRx n h) s = .next (takeFrame
      (if u.sys.manifest.partner ≠ 0 ∧ h.leader = u.sys.manifest.partner then seePartner u n else u) n h) :=
  congrArg Host.Outcome.next ((if_neg (by simp [hgood])).trans (by rw [hu]; rfl))

/-- What a frame of the partner does to the module's role (13 R383, R384, R394). -/
theorem seePartner_red : (seePartner s n).red.partnerFrame = some (s.time.cycle, n) ∧
    (s.red.role = .undecided → (seePartner s n).red.role = .standby ∧ (seePartner s n).red.joining = true) ∧
    (s.red.role = .active → (seePartner s n).red.role = .active ∧ (seePartner s n).red.fenceDue.isSome = true) := by
  unfold seePartner
  extract_lets u
  split
  next hrole =>
    have hrole : s.red.role = .undecided := hrole
    exact ⟨rfl, fun _ => ⟨rfl, rfl⟩, fun h => absurd (h.symm.trans hrole) (by decide)⟩
  next hrole =>
    refine ⟨rfl, fun h => absurd h hrole, fun h => ⟨h, ?_⟩⟩
    show (if s.red.role = .active then _ else _ : Option Nat).isSome = true
    rw [if_pos h]
    split
    · rfl
    next hdue => exact Option.isSome_iff_ne_none.2 hdue

/-- Settles O35: copies of COLDSTART go through `receiveSets_coldstart`, a frame through what it leaves of the ring's course
(`takeFrame_course`) and of the role (`seePartner_red`). -/
theorem coldStartElectsOneLeader : Obligations.ColdStartElectsOneLeader := by
  intro s n
  refine ⟨fun hstate hflag hdup horig => ?_, fun hcont => ⟨fun west id hid => ⟨?_, fun hlow => ?_, fun hown => ?_, fun hhigh => ?_⟩,
    fun horig => ?_⟩, fun h hbad hsets => ?_, fun h hgood hsets hstate hpartner => ?_, fun h hgood hpair hleader => ?_,
    fun hstate hgood hint => ?_⟩
  · exact ⟨_, congrArg Host.Outcome.next (if_pos ⟨hstate, hflag, by simp [hdup], horig⟩), State.ring_onRing_same, .on, onRing_touches⟩
  · refine ⟨_, congrArg Host.Outcome.next (receiveSets_once (blockOk_mkBlock (by decide)) (by simp [setBlock, mkBlock])),
      State.ring_onRing_same.trans (forwardSet_member (by simp [hcont]) (by simp [hcont])), .on, onRing_touches⟩
  · obtain ⟨u, hrecv, hu, hothers, hframe, hctr⟩ := receiveSets_coldstart (west := west) hid hcont
    have hhear : hearColdstart u n id = u.onRing n fun g => { g with state := .listening } := by
      unfold hearColdstart
      extract_lets g
      simp only [g, hu]
      rw [if_neg fun h => absurd h.1 (Nat.ne_of_lt hlow), if_pos ⟨hlow, hcont⟩]
    refine ⟨_, congrArg Host.Outcome.next (hrecv.trans hhear), ?_, hothers.trans .on, State.onRing_frame hframe rfl⟩
    rw [State.ring_onRing_same, hu]
  · obtain ⟨u, hrecv, hu, hothers, hframe, hctr⟩ := receiveSets_coldstart (west := west) hid hcont
    have hhear : hearColdstart u n id = bump (u.onRing n fun g => { g with state := .listening, duplicate := true }) (cRing n 17) := by
      unfold hearColdstart
      extract_lets g
      simp only [g, hu]
      rw [if_pos ⟨hown, .inl hcont⟩]
    refine ⟨_, congrArg Host.Outcome.next (hrecv.trans hhear), ?_, countsOne_bump.of_eq hctr.symm rfl, hothers.trans OtherRings.on.bump,
      bump_frame (State.onRing_frame (hframe.wider rfl) rfl) rfl⟩
    rw [ring_bump, State.ring_onRing_same, hu]
  · obtain ⟨u, hrecv, hu, hothers, hframe, hctr⟩ := receiveSets_coldstart (west := west) hid hcont
    have hhear : hearColdstart u n id = u := by
      unfold hearColdstart
      extract_lets g
      simp only [g, hu]
      rw [if_neg fun h => absurd h.1 (Nat.ne_of_gt hhigh), if_neg fun h => absurd h.1 (Nat.not_lt_of_gt hhigh)]
    exact ⟨_, congrArg Host.Outcome.next (hrecv.trans hhear), hu, hothers, hframe⟩
  · have hlead : (leadRing s n).ring n = _ := State.ring_onRing_same
    refine ⟨_, congrArg Host.Outcome.next (if_pos ⟨hcont, horig⟩), ?_, ?_, ?_, ?_, ?_, rfl, countsOne_bump,
      fun k hk => show (leadRing s n).ring k = s.ring k from State.ring_onRing_ne hk, State.onRed_frame (bump_frame (leadRing_frame SameBut.rfl' rfl) rfl) rfl⟩ <;>
      exact (congrArg _ hlead).trans rfl
  · refine ⟨receiveSets s n (bitAt h.info 4 == h.back) h.sets, congrArg Host.Outcome.next (if_pos (by simp [hbad])), ?_, ?_, ?_⟩ <;> rw [hsets]
    · exact State.ring_onRing_same
    · exact .on
    · exact onRing_touches
  · have hring : (receiveSets s n (bitAt h.info 4 == h.back) h.sets).ring n = s.ring n := by
      rw [hsets]
      exact State.ring_onRing_same
    generalize hu : receiveSets s n (bitAt h.info 4 == h.back) h.sets = u at hring
    have hothers : OtherRings n s u := by rw [← hu, hsets]; exact .on
    have htouch : SameBut (among [.rings, .host, .ctr, .time]) s u := hu ▸ receiveSets_frame SameBut.rfl' rfl rfl
    have hsys : u.sys = s.sys := htouch.2 .sys rfl
    obtain ⟨hst, hleader, hlast, hgood', hhealed⟩ := takeFrame_course (s := u) (n := n) (h := h)
      (by rw [hring]; rcases hstate with h | h <;> simp [hearsFrames, h])
    rw [hring] at hst hleader hlast hgood' hhealed
    have hnew : (s.ring n).state ≠ .following := by rcases hstate with h | h <;> simp [h]
    refine ⟨takeFrame u n h, (leaderFrame_taken hgood hu).trans ?_, hst, hleader, hlast, hgood'.trans ?_, hhealed.trans ?_,
      hothers.trans takeFrame_others, htouch.trans takeFrame_touches⟩
    · rw [hsys, if_neg fun hno => hpartner.elim hno.1 fun hne => hne hno.2]
    · exact if_neg fun h => hnew h.1
    · exact if_pos (bne_iff_ne.2 hnew)
  · generalize hu : receiveSets s n (bitAt h.info 4 == h.back) h.sets = u
    have htouch : SameBut (among [.rings, .ctr]) s u := hu ▸ receiveSets_frame SameBut.rfl' rfl rfl
    have hsys : u.sys = s.sys := htouch.2 .sys rfl
    have hred : (takeFrame (seePartner u n) n h).red = (seePartner u n).red := takeFrame_touches.2 .red rfl
    have htime : u.time = s.time := htouch.2 .time rfl
    have hrole : u.red = s.red := htouch.2 .red rfl
    refine ⟨takeFrame (seePartner u n) n h, (leaderFrame_taken hgood hu).trans ?_, ?_⟩
    · rw [hsys, if_pos ⟨hpair, hleader⟩]
    · rw [hred, ← htime, ← hrole]
      exact seePartner_red
  · exact ⟨_, congrArg Host.Outcome.next (if_pos ⟨hstate, hgood, by simp [hint]⟩), State.ring_onRing_same, .on, onRing_touches⟩

end Sys2Proof.Machine
end

section
/-! The axis class and the tuning class (02, 04, 05): what is staged, what is refused. -/

namespace Sys2Proof.Machine

open Sys2Proof

variable {s t u : State} {r : Request} {a n : Nat} {w : StagedWrite}

/-! ### Staging (01 R32) -/

/-- A write staged is one staged write of its axis, in a state whose loops are those of `s`. -/
theorem stagesOn_stage (hu : u.loop = s.loop) : StagesOn a w s (stage u a w) where
  axis := by
    rw [stage, State.axis_onAxis_same]
    simp only [State.axis, State.onLoop, hu]
  others k hk := by
    rw [stage, State.axis_onAxis_ne hk]
    simp only [State.axis, State.onLoop, hu]
  rest := by
    rw [← hu]
    rfl

/-- The one checked field of a request that names its axis in byte 16. -/
theorem firstBad_axis (h : okAxis s a = true) : firstBad [(16, okAxis s a)] = none := firstBad_none (by simp [h])

/-- The words that a coefficient write stages (04 R138). -/
def coefWords (s : State) (r : Request) : List (Nat × Word) :=
  (List.range (clampN 1 4 (rq r 21 1))).map fun i => ((coefIndex (rq r 20 1) (rq r (24 + 8 * i) 2)).getD 0,
    BitVec.ofInt 32 (coefValue s (rq r 16 4) (rq r (24 + 8 * i) 2) (rqI r (28 + 8 * i))))

/-- The completion fields that go with them (02 R67). -/
def coefFields (s : State) (r : Request) : List (Nat × Nat × Int) :=
  [(16, 4, (rq r 16 4 : Int)), (20, 1, (rq r 20 1 : Int)), (21, 1, (clampN 1 4 (rq r 21 1) : Int))] ++
    (List.range (clampN 1 4 (rq r 21 1))).flatMap fun i =>
      [(24 + 8 * i, 2, (rq r (24 + 8 * i) 2 : Int)), (28 + 8 * i, 4, coefValue s (rq r 16 4) (rq r (24 + 8 * i) 2) (rqI r (28 + 8 * i)))]

/-- What a coefficient word comes to rests on the loops alone. -/
theorem coefValue_congr (hu : u.loop = s.loop) {o : Nat} {v : Int} : coefValue u a o v = coefValue s a o v := by
  unfold coefValue coefRange outEnvelope envOf State.axis
  rw [hu]

/-- The fields of a coefficient write pass (02 R67). -/
theorem firstBad_coef {bank n : Nat} {off : Nat → Nat} (h : okAxis s a = true) (hbank : bank ≤ 2)
    (hidx : ∀ i, i < n → (coefIndex bank (off i)).isSome = true) :
    firstBad ([(16, okAxis s a), (20, decide (bank ≤ 2) || (List.range n).all fun i => decide (16 ≤ off i))] ++
      (List.range n).map fun i => (24 + 8 * i, (coefIndex bank (off i)).isSome)) = none := by
  refine firstBad_none (List.forall_mem_append.2 ⟨by simp [h, hbank], fun x hx => ?_⟩)
  obtain ⟨i, hi, rfl⟩ := List.mem_map.1 hx
  exact hidx i (List.mem_range.1 hi)

theorem firstBad_bank {bank : Nat} (h : okAxis s a = true) (hbank : bank ≤ 2) :
    firstBad [(16, okAxis s a), (20, decide (bank ≤ 2))] = none := firstBad_none (by simp [h, hbank])

theorem firstBad_table {first commit : Nat} (h : okAxis s a = true) (hfirst : first ≤ 1023) (hcommit : commit ≤ 1) :
    firstBad [(16, okAxis s a), (20, decide (first ≤ 1023)), (24, decide (commit ≤ 1))] = none :=
  firstBad_none (by simp [h, hfirst, hcommit])

theorem setSleep_touches {b st : Nat} : SameBut (among [.pow, .cairn, .ctr, .dbg]) s (setSleep s b st) :=
  setSleep_frame SameBut.rfl' rfl rfl rfl rfl

/-- An island put into a state is in it (16 R443). -/
theorem setSleep_sleep {b st : Nat} : tabGet (setSleep s b st).pow.sleep 0 b = st := by
  unfold setSleep
  split
  next h => exact h
  next h =>
    have hhalt : ∀ u : State, (haltWoken u b).pow = u.pow := fun u =>
      (haltWoken_frame (x := among [.ctr, .cairn, .dbg]) SameBut.rfl' rfl rfl rfl).2 .pow rfl
    dsimp only
    split <;> simp [hhalt]

/-- A table load behind a pending exchange is held back (04 R132). -/
theorem runTableLoad_held (hswap : swapPending (s.axis (rq r 16 4)) = true) :
    runTableLoad s r = s.onAxis (rq r 16 4) fun x => { x with held := x.held ++ [r] } := if_pos hswap

/-- The write that a table load puts on the bulk path (04 R132). -/
def bulkOf (s : State) (r : Request) : BulkWrite :=
  let n := min (clampN 0 244 (rq r 22 2)) (1024 - rq r 20 2)
  let commit := rq r 24 1 == 1
  let sh := clampN 0 20 (rq r 25 1)
  { entries := (List.range n).map fun i => (rq r 20 2 + i, rqI r (32 + 4 * i)), req := r
    eff := [(16, 1, (n : Int)), (17, 1, ((if commit then sh else inactiveShift (s.axis (rq r 16 4)) : Nat) : Int))]
    commit := if commit then some (rqI r 28, sh) else none, ord := s.loop.arrivals }

theorem runTableLoad_bulk (hswap : swapPending (s.axis (rq r 16 4)) = false) :
    runTableLoad s r = (s.onLoop fun l => { l with arrivals := l.arrivals + 1 }).onAxis (rq r 16 4) fun x =>
      { x with bulk := x.bulk ++ [bulkOf s r] } := if_neg (by simp [hswap])

/-- Settles O37: with its field valid a request is refused as its rule says, or stages what it gives (`stagesOn_stage`). -/
theorem axisRequestsStageOneWrite : Obligations.AxisRequestsStageOneWrite := by
  intro r s hready haxis
  have hboth' : actReady s = true → (loopReady s && actReady s) = true := fun hact => by simp [hready, hact]
  refine ⟨fun hright => ?_, fun hact => have hboth := hboth' hact; ⟨fun hright => ⟨fun hlive => ?_, fun hne hnh => ⟨fun o ho => ?_, fun hnone hfits => ?_⟩⟩,
    fun hright hbank hidx => ⟨fun hun => ?_, fun hloaded => ?_⟩, fun hright hbank => ⟨fun hun => ?_, fun hbank2 hloaded => ?_⟩,
    fun hright hfirst hcommit => ⟨fun hswap => ?_, fun hswap => ?_⟩,
    fun hright => ⟨fun hlive hnone => ?_, fun hne hnh hno => ?_, fun hne hnh hmay => ?_⟩, fun hright => ?_⟩⟩
  · refine ⟨_, congrArg Host.Outcome.next (serve_runs_nil hright hready (firstBad_axis haxis)), ?_⟩
    simp
  · exact congrArg Host.Outcome.next ((serve_runs_nil hright hboth (firstBad_axis haxis)).trans (if_pos hlive))
  · refine congrArg Host.Outcome.next ((serve_runs_nil hright hboth (firstBad_axis haxis)).trans ((if_neg (not_or.2 ⟨hne, hnh⟩)).trans ?_))
    unfold withOp at ho
    rw [ho]
    rfl
  · refine ⟨stage (setSleep s (basketOf (rq r 16 4)) 0) (rq r 16 4) { what := .desc (descOf (withOp r 0x1010)), req := some (withOp r 0x1010) },
      congrArg Host.Outcome.next ((serve_runs_nil hright hboth (firstBad_axis haxis)).trans
        ((if_neg (not_or.2 ⟨hne, hnh⟩)).trans ?_)), stagesOn_stage (setSleep_touches.2 .loop rfl), ?_, stage_frame (setSleep_frame SameBut.rfl' rfl rfl rfl rfl) rfl⟩
    · unfold withOp at hnone
      rw [hnone]
      exact if_neg (by simp [hfits])
    · exact setSleep_sleep
  · refine ⟨_, congrArg Host.Outcome.next ((serve_runs hright hboth (firstBad_coef haxis hbank hidx)).trans (if_pos ?_)), noteClamps_touches⟩
    rw [noteClamps_touches.axis rfl]
    exact hun
  · obtain ⟨u, hu, hexec⟩ : ∃ u, SameBut (among [.host]) s u ∧ exec (.axisCoefWrite r) s = .next (stage u (rq r 16 4)
        { what := .words (coefWords u r), req := some (withOp r 0x1011), eff := coefFields u r }) :=
      ⟨_, noteClamps_touches, congrArg Host.Outcome.next ((serve_runs hright hboth (firstBad_coef haxis hbank hidx)).trans
        (if_neg (by rw [noteClamps_touches.axis rfl]; exact hloaded)))⟩
    refine ⟨_, coefFields u r, hexec, ?_, List.mem_cons_self, stage_frame (hu.wider rfl) rfl⟩
    have hwords : coefWords u r = _ := List.map_congr_left fun i _ => by rw [coefValue_congr (hu.2 .loop rfl)]
    rw [← hwords]
    exact stagesOn_stage (hu.2 .loop rfl)
  · exact congrArg Host.Outcome.next ((serve_runs_nil hright hboth (firstBad_bank haxis hbank)).trans (if_pos hun))
  · exact ⟨_, congrArg Host.Outcome.next ((serve_runs_nil hright hboth (firstBad_bank haxis hbank)).trans (if_neg (not_or.2 ⟨hbank2, hloaded⟩))),
      stagesOn_stage rfl, stage_frame SameBut.rfl' rfl⟩
  · obtain ⟨u, hu, hexec⟩ : ∃ u, SameBut (among [.host]) s u ∧ exec (.axisTableLoad r) s = .next (runTableLoad u (withOp r 0x1013)) :=
      ⟨_, noteClamps_touches, congrArg Host.Outcome.next (serve_runs hright hboth (firstBad_table haxis hfirst hcommit))⟩
    have hx := hu.axis rfl
    have hheld := runTableLoad_held (s := u) (r := withOp r 0x1013) (by rw [hx]; exact hswap)
    refine ⟨_, hexec.trans (congrArg _ hheld), State.axis_onAxis_same.trans ?_, fun k hk => (State.axis_onAxis_ne hk).trans (hx k),
      State.onAxis_frame (hu.wider rfl) rfl⟩
    rw [hx]
    rfl
  · obtain ⟨u, hu, hexec⟩ : ∃ u, SameBut (among [.host]) s u ∧ exec (.axisTableLoad r) s = .next (runTableLoad u (withOp r 0x1013)) :=
      ⟨_, noteClamps_touches, congrArg Host.Outcome.next (serve_runs hright hboth (firstBad_table haxis hfirst hcommit))⟩
    have hx := hu.axis rfl
    have hbulk := runTableLoad_bulk (s := u) (r := withOp r 0x1013) (by rw [hx]; exact hswap)
    refine ⟨_, bulkOf u (withOp r 0x1013), hexec.trans (congrArg _ hbulk), State.axis_onAxis_same.trans ?_, rfl, rfl, ?_,
      fun k hk => (State.axis_onAxis_ne hk).trans (hx k), State.onAxis_frame (State.onLoop_frame (hu.wider rfl) rfl) rfl⟩
    · exact congrArg (fun x : AxisSt => { x with bulk := x.bulk ++ [bulkOf u (withOp r 0x1013)] }) (hx _)
    · simp only [bulkOf, rq_withOp, beq_iff_eq]
      rfl
  · exact congrArg Host.Outcome.next ((serve_runs_nil hright hboth (firstBad_axis haxis)).trans (if_pos ⟨hlive, hnone⟩))
  · exact congrArg Host.Outcome.next ((serve_runs_nil hright hboth (firstBad_axis haxis)).trans
      ((if_neg fun h => h.1.elim hne hnh).trans (if_pos (by simp [hno]))))
  · exact ⟨_, congrArg Host.Outcome.next ((serve_runs_nil hright hboth (firstBad_axis haxis)).trans
      ((if_neg fun h => h.1.elim hne hnh).trans (if_neg (by simp [hmay])))), stagesOn_stage rfl, stage_frame SameBut.rfl' rfl⟩
  · exact ⟨_, congrArg Host.Outcome.next (serve_runs_nil hright hboth (firstBad_axis haxis)), stagesOn_stage rfl,
      stage_frame SameBut.rfl' rfl⟩

/-! ### Causes of an axis (05 R154 to R159) -/

/-- Of the loops nothing changes but one axis. -/
structure OnlyAxis (a : Nat) (s t : State) : Prop where
  others : ∀ k, k ≠ a → t.axis k = s.axis k
  weavers : t.loop.weavers = s.loop.weavers

theorem OnlyAxis.of_eq (h : t.loop = s.loop) : OnlyAxis a s t := ⟨fun k _ => by rw [State.axis, h, State.axis], by rw [h]⟩

theorem OnlyAxis.on {f : AxisSt → AxisSt} : OnlyAxis a s (s.onAxis a f) := ⟨fun _ hk => State.axis_onAxis_ne hk, rfl⟩

theorem OnlyAxis.trans (h : OnlyAxis a s t) (g : OnlyAxis a t u) : OnlyAxis a s u :=
  ⟨fun k hk => (g.others k hk).trans (h.others k hk), g.weavers.trans h.weavers⟩

theorem axis_of_loop (h : t.loop = s.loop) {k : Nat} : t.axis k = s.axis k := by rw [State.axis, h, State.axis]

theorem supEvent_loop {level prev cause : Nat} {value : Int} : (supEvent s a level prev cause value).loop = s.loop :=
  raise_touches.2 .loop rfl

/-- An injection that ends changes nothing of its axis but the injection. -/
theorem endInjection_axis {stopped : Bool} :
    (∃ i, (endInjection s a stopped).axis a = { s.axis a with inj := i }) ∧ OnlyAxis a s (endInjection s a stopped) := by
  unfold endInjection
  extract_lets x early u
  split
  · exact ⟨⟨_, (axis_of_loop supEvent_loop).trans State.axis_onAxis_same⟩, OnlyAxis.on.trans (.of_eq supEvent_loop)⟩
  · exact ⟨⟨(s.axis a).inj, rfl⟩, .of_eq rfl⟩

/-- An axis whose causes have become `m`: what the output side of it keeps (05 R157, R158). -/
structure CausesSet (m : BitVec 19) (x y : AxisSt) : Prop where
  causes : y.sup.causes = m
  level : y.sup.level = levelOfCauses m
  late : y.late = x.late ∧ y.lateCnt = x.lateCnt ∧ y.lateOut = x.lateOut
  refs : y.release.ref0 = x.release.ref0 ∧ y.release.ref1 = x.release.ref1 ∧ y.release.ref2 = x.release.ref2

/-- Causes set: the axis has them and their level, and no other axis and no weaver changes. -/
theorem setCauses_axis {m : BitVec 19} : CausesSet m (s.axis a) ((setCauses s a m).axis a) ∧ OnlyAxis a s (setCauses s a m) := by
  unfold setCauses
  extract_lets x was fresh prev now rep b s1 s2 cnt s3 s4 s5
  have h1 : s1.loop = s.loop := (State.each_frame (x := among [.ctr]) SameBut.rfl' fun _ _ h => bump_frame h rfl).2 .loop rfl
  have h2 : s2.loop = s.loop := by
    unfold s2
    split
    · exact h1
    · exact h1
  have h5 : s5.loop = s3.loop := by
    have h4 : s4.loop = s3.loop := by
      unfold s4
      split
      · rfl
      · exact supEvent_loop
    exact ((State.each_frame (x := among [.ctr, .cairn]) SameBut.rfl' fun _ _ h => raise_frame h rfl rfl).2 .loop rfl).trans h4
  have hset : CausesSet m (s.axis a) (s5.axis a) := by
    rw [axis_of_loop h5, State.axis_onAxis_same, axis_of_loop h2]
    exact ⟨rfl, rfl, ⟨rfl, rfl, rfl⟩, rfl, rfl, rfl⟩
  have honly : OnlyAxis a s s5 := (OnlyAxis.of_eq h2).trans (OnlyAxis.on.trans (.of_eq h5))
  clear_value s5
  split
  · obtain ⟨⟨i, hi⟩, hend⟩ := endInjection_axis (s := s5) (a := a) (stopped := true)
    refine ⟨?_, honly.trans (hend.trans .on)⟩
    rw [State.axis_onAxis_same, hi]
    exact ⟨hset.causes, hset.level, hset.late, hset.refs⟩
  · exact ⟨hset, honly⟩

theorem causeLevel_le {c : Nat} : causeLevel c ≤ 3 := by
  unfold causeLevel
  split <;> decide

/-- No level is above 3, and none below that of an active cause. -/
theorem levelOfCauses_trip {m : BitVec 19} {i : Nat} (hi : i < 19) (hm : m.getLsbD i = true) (hc : causeLevel (i + 1) = 3) :
    levelOfCauses m = 3 := by
  have hfold (l : List Nat) (n : Nat) (hn : n ≤ 3) (h : n = 3 ∨ i ∈ l) :
      l.foldl (fun n i => if m.getLsbD i then max n (causeLevel (i + 1)) else n) n = 3 := by
    induction l generalizing n with
    | nil => simpa using h
    | cons b l ih =>
      have hb := causeLevel_le (c := b + 1)
      refine ih _ (by dsimp only; split <;> omega) ?_
      rcases h with rfl | h
      · left
        dsimp only
        split <;> omega
      · rcases List.mem_cons.1 h with rfl | h
        · left
          dsimp only
          rw [hm, hc, if_pos rfl]
          omega
        · exact .inr h
  exact hfold _ _ (by decide) (.inr (List.mem_range.2 hi))

/-- Cause 12h activated on an axis with a descriptor is active, at level 3 (05 R154). -/
theorem activate_missed (hloaded : (s.axis a).state ≠ .unloaded) :
    ∃ m, activate s a 0x12 = setCauses s a m ∧ causeOn m 0x12 = true ∧ levelOfCauses m = 3 := by
  have hbit : ((s.axis a).sup.causes ||| BitVec.ofNat 19 (2 ^ (0x12 - 1))).getLsbD 17 = true := by
    rw [BitVec.getLsbD_or, Bool.or_eq_true]
    exact .inr (by decide)
  exact ⟨_, if_neg hloaded, hbit, levelOfCauses_trip (i := 17) (by decide) hbit rfl⟩

/-! ### A missed slot (04 R142) -/

/-- What a missed slot leaves of its axis, apart from its supervision. -/
structure SlotMissed (x y : AxisSt) : Prop where
  late : y.late = true
  count : y.lateCnt = satAdd max32 x.lateCnt 1
  waits : y.lateOut.isSome = true
  ref0 : y.release.ref0 = x.deliver.ref0
  ref1 : y.release.ref1 = x.deliver.ref1
  ref2 : y.release.ref2 = x.deliver.ref2

theorem slotMissed_lateRelease {x : AxisSt} : SlotMissed x (lateRelease x) := by
  refine ⟨rfl, rfl, ?_, rfl, rfl, rfl⟩
  unfold lateRelease
  dsimp only
  split
  · rfl
  next h => simpa [← Option.isSome_iff_ne_none] using h

/-- The event of a missed slot: the axis keeps what the miss left it, cause 12h is active unless the axis has no descriptor, and
nothing else of the loops changes. -/
theorem slotMissEvent_axis : OnlyAxis a s (slotMissEvent s a) ∧
    (∀ x, SlotMissed x (s.axis a) → SlotMissed x ((slotMissEvent s a).axis a)) ∧
    ((s.axis a).state = .unloaded ∨ causeOn (s.axis a).sup.causes 0x12 = true →
      ((slotMissEvent s a).axis a).sup = (s.axis a).sup) ∧
    ((s.axis a).state ≠ .unloaded → causeOn (s.axis a).sup.causes 0x12 = false →
      causeOn ((slotMissEvent s a).axis a).sup.causes 0x12 = true ∧ ((slotMissEvent s a).axis a).sup.level = 3) := by
  unfold slotMissEvent
  extract_lets x
  split
  next h =>
    have hloop : (recordOnly s 4 0x12 a 0).loop = s.loop := recordOnly_touches.2 .loop rfl
    refine ⟨.of_eq hloop, fun x hx => by rw [axis_of_loop hloop]; exact hx, fun _ => by rw [axis_of_loop hloop], fun h1 h2 => ?_⟩
    exact (h.elim h1 fun h => Bool.false_ne_true (h2.symm.trans h)).elim
  next h =>
    obtain ⟨hloaded, hoff⟩ := not_or.1 h
    obtain ⟨m, hact, hon, hlevel⟩ := activate_missed hloaded
    obtain ⟨hset, honly⟩ := setCauses_axis (s := s) (a := a) (m := m)
    obtain ⟨hlate, hcount, hout⟩ := hset.late
    obtain ⟨h0, h1, h2⟩ := hset.refs
    rw [hact]
    refine ⟨honly.trans .on, fun x hx => ?_, fun h => (h.elim hloaded hoff).elim, fun _ _ => ?_⟩ <;> rw [State.axis_onAxis_same]
    · exact ⟨hlate.trans hx.late, hcount.trans hx.count, by simpa [hout] using hx.waits, h0.trans hx.ref0, h1.trans hx.ref1, h2.trans hx.ref2⟩
    · exact ⟨by rw [hset.causes]; exact hon, hset.level.trans hlevel⟩

theorem setFailed_loop : (setFailed s).loop = s.loop := by
  unfold setFailed
  split <;> rfl

/-- A fault stops its weaver and changes nothing else of the loops (04 R144). -/
theorem weaverFault_loop : (weaverFault s n).weaver n = { s.weaver n with stopped := true } ∧
    (∀ k, k ≠ n → (weaverFault s n).weaver k = s.weaver k) ∧ (weaverFault s n).loop.axes = s.loop.axes := by
  unfold weaverFault
  split
  next h => exact ⟨by rw [← h], fun _ _ => rfl, rfl⟩
  next h =>
    have hloop : (setFailed (stopWeaver s n)).loop = (s.onWeaver n fun x => { x with stopped := true }).loop := by
      rw [setFailed_loop, stopWeaver, if_neg h]
      extract_lets u
      have hu : u.loop = (s.onWeaver n fun x => { x with stopped := true }).loop := (latchTrip_touches SameBut.rfl').2 .loop rfl
      split
      · exact ((sendStop_frame (x := among [.ctr, .rings]) SameBut.rfl' rfl rfl).2 .loop rfl).trans hu
      · exact hu
    have hweaver {k : Nat} : (setFailed (stopWeaver s n)).weaver k = (s.onWeaver n fun x => { x with stopped := true }).weaver k := by
      rw [State.weaver, hloop, State.weaver]
    exact ⟨hweaver.trans State.weaver_onWeaver_same, fun k hk => hweaver.trans (State.weaver_onWeaver_ne hk), by rw [hloop]; rfl⟩

/-- The run of windows with a miss, once a slot is missed in the window in progress (04 R142). -/
def missRun (w : WeaverSt) : Nat := if w.missed then w.miss else w.miss + 1

/-- A missed slot at its weaver, its axis being done with: the second window in a row stops the weaver. -/
def missWeaver (s : State) (n : Nat) : State :=
  let v := s.onWeaver n fun w => { w with missed := true, miss := missRun (s.weaver n) }
  if 2 ≤ missRun (s.weaver n) then weaverFault v n else v

/-- What a missed slot leaves of its weaver and of the rest of the loops. -/
theorem missWeaver_loop : ((missWeaver s n).weaver n).missed = true ∧ ((missWeaver s n).weaver n).miss = missRun (s.weaver n) ∧
    (2 ≤ missRun (s.weaver n) → ((missWeaver s n).weaver n).stopped = true) ∧
    (missRun (s.weaver n) < 2 → ((missWeaver s n).weaver n).stopped = (s.weaver n).stopped ∧ (missWeaver s n).red = s.red) ∧
    (∀ k, k ≠ n → (missWeaver s n).weaver k = s.weaver k) ∧ (missWeaver s n).loop.axes = s.loop.axes := by
  unfold missWeaver
  extract_lets v
  have hv : v.weaver n = { s.weaver n with missed := true, miss := missRun (s.weaver n) } := State.weaver_onWeaver_same
  have hothers : ∀ k, k ≠ n → v.weaver k = s.weaver k := fun k hk => State.weaver_onWeaver_ne hk
  have haxes : v.loop.axes = s.loop.axes := rfl
  have hred : v.red = s.red := rfl
  clear_value v
  split
  next h =>
    obtain ⟨hw, hrest, haxes'⟩ := weaverFault_loop (s := v) (n := n)
    rw [hw, hv]
    exact ⟨rfl, rfl, fun _ => rfl, fun hlt => absurd h (Nat.not_le_of_lt hlt), fun k hk => (hrest k hk).trans (hothers k hk),
      haxes'.trans haxes⟩
  next h =>
    rw [hv]
    exact ⟨rfl, rfl, fun h' => absurd h' h, fun _ => ⟨rfl, hred⟩, hothers, haxes⟩

/-- Settles O38: the axis through the event of the miss (`slotMissEvent_axis`), its weaver through the run of misses
(`missWeaver_loop`). -/
theorem missedSlotRepeatsAndStopsTheWeaver : Obligations.MissedSlotRepeatsAndStopsTheWeaver := by
  intro n slot s
  refine ⟨fun hfree => congrArg Host.Outcome.next (if_pos (.inr (.inr (.inr (by rw [hfree]; rfl))))), fun hn hrun hrel hocc => ?_⟩
  have hexec : exec (.slotMiss n slot) s = .next (missWeaver
      (slotMissEvent (bump (bump (s.onAxis (64 * slot + n) lateRelease) (cBasket (n / 8) 3)) (cBasket (n / 8) 4)) (64 * slot + n)) n) :=
    congrArg Host.Outcome.next (if_neg (by rw [hrun, hrel, hocc]; simp [Nat.not_le_of_lt hn]))
  generalize 64 * slot + n = a at hexec ⊢
  have hlate : (bump (bump (s.onAxis a lateRelease) (cBasket (n / 8) 3)) (cBasket (n / 8) 4)).axis a = lateRelease (s.axis a) :=
    State.axis_onAxis_same
  have honly : OnlyAxis a s (bump (bump (s.onAxis a lateRelease) (cBasket (n / 8) 3)) (cBasket (n / 8) 4)) :=
    OnlyAxis.on.trans (.of_eq rfl)
  have htouch : SameBut (among [.ctr, .loop]) s (bump (bump (s.onAxis a lateRelease) (cBasket (n / 8) 3)) (cBasket (n / 8) 4)) :=
    bump_frame (bump_frame (State.onAxis_frame SameBut.rfl' rfl) rfl) rfl
  generalize bump (bump (s.onAxis a lateRelease) (cBasket (n / 8) 3)) (cBasket (n / 8) 4) = s1 at hexec hlate honly htouch
  obtain ⟨honly', hmiss, hsame, hcause⟩ := slotMissEvent_axis (s := s1) (a := a)
  rw [hlate] at hmiss hsame hcause
  have hred : (slotMissEvent s1 a).red = s.red :=
    ((slotMissEvent_frame (x := among [.ctr, .cairn, .loop]) SameBut.rfl' rfl rfl rfl).2 .red rfl).trans (htouch.2 .red rfl)
  have hweaver : ∀ k, (slotMissEvent s1 a).weaver k = s.weaver k := fun k => by
    rw [State.weaver, (honly.trans honly').weavers, State.weaver]
  obtain ⟨hmissed, hrunlen, hstop, hgo, hothers, haxes⟩ := missWeaver_loop (s := slotMissEvent s1 a) (n := n)
  rw [hweaver] at hrunlen hstop hgo
  have haxis : ∀ k, (missWeaver (slotMissEvent s1 a) n).axis k = (slotMissEvent s1 a).axis k := fun k => by
    rw [State.axis, haxes, State.axis]
  obtain ⟨hl, hc, hw, h0, h1, h2⟩ := hmiss _ slotMissed_lateRelease
  rw [← haxis a] at hl hc hw h0 h1 h2 hsame hcause
  refine ⟨_, hexec, hl, hc, h0, h1, h2, hw, hsame, hcause, hmissed, hrunlen, fun h => hstop (hrunlen ▸ h), fun h => ?_,
    fun k hk => (haxis k).trans ((honly.trans honly').others k hk), fun k hk => (hothers k hk).trans (hweaver k)⟩
  obtain ⟨hstopped, hkept⟩ := hgo (hrunlen ▸ h)
  exact ⟨hstopped, hkept.trans hred⟩

/-! ### The tuning class (05 R160 to R167) -/

/-- A pass of the shared checks leaves the host part alone to differ: a request with its right, ready and with valid fields runs with its
opcode, whatever clamps are noted (02 R46, R52). -/
theorem exec_noted {c : Instr} {op : Nat} {ready : Bool} {bad : Option Nat} {clamps : List Nat} {run : Request → State → State}
    {T : HostSt → State} (hexec : exec c s = .next (serve s r op ready bad clamps run)) (hright : hasRight s r.part op = true)
    (hready : ready = true) (hbad : bad = none) (hrun : ∀ h, run (withOp r op) { s with host := h } = T h) :
    ∃ h, exec c s = .next (T h) := by
  obtain ⟨h, hh⟩ : ∃ h, noteClamps s (withOp r op) clamps = { s with host := h } := by
    unfold noteClamps
    split
    · exact ⟨s.host, rfl⟩
    · exact ⟨_, rfl⟩
  refine ⟨h, hexec.trans (congrArg _ ((serve_runs hright hready hbad).trans ?_))⟩
  rw [← hrun, ← hh]
  rfl

/-- A state with another host part differs in nothing else. -/
theorem host_touches {h : HostSt} : SameBut (among [.host]) s { s with host := h } := State.onHost_frame (f := fun _ => h) SameBut.rfl' rfl

/-- The signal that a start of an injection gives (05 R160, R161). -/
def givenSignal (s : State) (r : Request) : InjectSpec :=
  let d := (s.axis (rq r 16 4)).desc
  let fMax := 400 * cyclesPerS s.sys.rate / dDiv d
  let lim : Int := if rq r 21 1 = 0 then 2147483647 else if outIsForce d then dwI d 7 else if outIsCurrent d then dwI d 6 else 2147483647
  let inc := fun off => incOf s.sys.rate (dDiv d) (clampN 1 fMax (rq r off 4))
  let i0 := max 1 (inc 28)
  { signal := rq r 20 1, point := rq r 21 1, order := clampN 7 16 (rq r 22 1), ampl := clampI (-lim) lim (rqI r 24)
    inc0 := inc 28, inc1 := inc 32
    duration := if rq r 20 1 = 3 then ceilDiv ((rq r 40 2 + clampN 1 65535 (rq r 42 2)) * 4294967296) i0 else clampN 1 2147483647 (rq r 36 4)
    settle := ceilDiv (rq r 40 2 * 4294967296) i0, hold := clampN 1 65535 (rq r 44 2) }

/-- The capture that an arm gives (05 R166). -/
def givenCapture (r : Request) : CaptureSpec :=
  { chans := (List.range (clampN 1 16 (rq r 16 1))).map fun i => (rq r (48 + 8 * i) 4, rq r (52 + 8 * i) 1)
    trigger := rq r 17 1, tchan := rq r 18 1, edge := rq r 19 1, taxis := rq r 20 4
    tvalue := if rq r 17 1 = 3 then clampI 1 3 (rqI r 24) else rqI r 24, pre := rq r 28 2, decim := clampN 1 65535 (rq r 30 2) }

/-- The fields of an arm pass (05 R166). -/
theorem firstBad_arm {n trig chan edge axis : Nat} {ax sig : Nat → Nat} (htrig : trig ≤ 5) (hchan : trig = 2 → chan < n)
    (hin : trig = 4 → chan < 48) (hedge : trig = 2 ∨ trig = 4 → edge ≤ 2)
    (haxis : trig = 1 ∨ trig = 3 ∨ trig = 5 → okAxis s axis = true) (hchans : ∀ i, i < n → okAxis s (ax i) = true ∧ sig i ≤ 0x0E) :
    firstBad ([(17, decide (trig ≤ 5)), (18, (trig != 2 || decide (chan < n)) && (trig != 4 || decide (chan < 48))),
      (19, (trig != 2 && trig != 4) || decide (edge ≤ 2)), (20, (trig != 1 && trig != 3 && trig != 5) || okAxis s axis)] ++
      (List.range n).flatMap fun i => [(48 + 8 * i, okAxis s (ax i)), (52 + 8 * i, decide (sig i ≤ 0x0E))]) = none := by
  refine firstBad_none (List.forall_mem_append.2 ⟨?_, fun x hx => ?_⟩)
  · simp only [List.forall_mem_cons, Bool.or_eq_true, Bool.and_eq_true, bne_iff_ne, decide_eq_true_eq]
    refine ⟨htrig, ⟨by omega, by omega⟩, by omega, ?_, by simp⟩
    by_cases hnamed : trig = 1 ∨ trig = 3 ∨ trig = 5
    · exact .inr (haxis hnamed)
    · exact .inl (by omega)
  · obtain ⟨i, hi, hx⟩ := List.mem_flatMap.1 hx
    obtain ⟨hax, hsig⟩ := hchans i (List.mem_range.1 hi)
    rcases List.mem_cons.1 hx with rfl | hx
    · exact hax
    · rw [List.mem_singleton.1 hx]
      exact decide_eq_true hsig

/-- Settles O39: with its fields valid a request of the class reads, is refused, is staged or waits, its signal and its capture as given
(`givenSignal`, `givenCapture`). -/
theorem tuningRequestsReadInjectAndArm : Obligations.TuningRequestsReadInjectAndArm := by
  intro r s hready
  refine ⟨fun hright => ⟨fun hkind haxis => ?_, fun hkind hch => ⟨fun hne3 hne4 => ?_, fun hst => ?_⟩⟩, fun hact =>
    have hboth : (loopReady s && actReady s) = true := by simp [hready, hact]
    ⟨fun hright haxis hsig hpoint => ⟨fun hno => ?_, fun hmay => ?_⟩, fun hright haxis => ?_,
      fun hright htrig hchan hin hedge htaxis hchans => ⟨fun hst hrearm => ?_, fun hfree hopt => ?_⟩⟩⟩
  · obtain ⟨h, hexec⟩ : ∃ h, exec (.tuneCaptureRead r) s = .next (ok { s with host := h } (withOp r 0x1101)
        (let x := s.axis (rq r 24 4)
         [(16, 4, (rq r 24 4 : Int)), (20, 1, x.sup.level), (21, 1, x.sup.cause), (22, 1, x.inj.state), (24, 4, x.sup.rf), (28, 4, x.sup.m1),
          (32, 4, x.sup.m2), (36, 4, x.sup.lastChange % 4294967296), (40, 4, x.sup.notes), (44, 4, x.sup.degrades), (48, 4, x.sup.trips),
          (52, 2, x.sup.spikes.length), (54, 2, x.sup.causes.toNat % 65536)])) :=
      exec_noted rfl hright hready (firstBad_none (by simp [hkind, haxis])) fun h => if_pos hkind
    refine ⟨_, _, hexec, host_touches, ?_⟩
    simp
  · have hbad : firstBad [(16, decide (rq r 16 1 ≤ 1)), (17, rq r 16 1 != 0 || decide (rq r 17 1 ≤ 15)),
        (24, rq r 16 1 != 1 || okAxis s (rq r 24 4))] = none := firstBad_none (by simp [hkind, hch])
    obtain ⟨h, hexec⟩ : ∃ h, exec (.tuneCaptureRead r) s = .next (refused { s with host := h } (withOp r 0x1101)) :=
      exec_noted rfl hright hready hbad fun h => (if_neg (by simp [hkind])).trans (if_pos ⟨hne3, hne4⟩)
    exact ⟨_, hexec, host_touches⟩
  · have hbad : firstBad [(16, decide (rq r 16 1 ≤ 1)), (17, rq r 16 1 != 0 || decide (rq r 17 1 ≤ 15)),
        (24, rq r 16 1 != 1 || okAxis s (rq r 24 4))] = none := firstBad_none (by simp [hkind, hch])
    have hread : ¬ (channelState s (rq r 17 1) ≠ 3 ∧ channelState s (rq r 17 1) ≠ 4) := by omega
    refine (exec_noted rfl hright hready hbad fun h => (if_neg (by simp [hkind])).trans (if_neg hread)).elim fun h hexec =>
      ⟨_, _, _, hexec, List.mem_append_left _ (by simp; rfl), List.mem_append_left _ (by simp), ?_⟩
    split
    · exact noteClamps_frame host_touches rfl
    · exact host_touches
  · obtain ⟨h, hexec⟩ : ∃ h, exec (.tuneInjectStart r) s = .next (refused { s with host := h } (withOp r 0x1110)) :=
      exec_noted rfl hright hboth (firstBad_none (by simp [haxis, hsig, hpoint])) fun h =>
        if_pos (by show (!mayInject s (rq r 16 4)) = true; simp [hno])
    exact ⟨_, hexec, host_touches⟩
  · obtain ⟨h, eff, hexec⟩ : ∃ h eff, exec (.tuneInjectStart r) s = .next (stage { s with host := h } (rq r 16 4)
        { what := .injectStart (givenSignal s r) eff, req := some (withOp r 0x1110) }) := by
      refine (exec_noted rfl hright hboth (firstBad_none (by simp [haxis, hsig, hpoint])) fun h =>
        if_neg (by show ¬ (!mayInject s (rq r 16 4)) = true; simp [hmay])).imp fun h hexec => ⟨_, hexec⟩
    refine ⟨_, _, _, hexec, stagesOn_stage rfl, rfl, rfl, rfl, rfl, fun hp => ?_, fun hs => if_neg hs, stage_frame (host_touches.wider rfl) rfl⟩
    show clampI (-(if rq r 21 1 = 0 then _ else _)) (if rq r 21 1 = 0 then _ else _) _ = _
    rw [if_pos (show rq r 21 1 = 0 from hp)]
  · exact ⟨_, congrArg Host.Outcome.next (serve_runs_nil hright hboth (firstBad_axis haxis)), stagesOn_stage rfl, stage_frame SameBut.rfl' rfl⟩
  · obtain ⟨h, hexec⟩ : ∃ h, exec (.tuneCaptureArm r) s = .next (refused { s with host := h } (withOp r 0x1120)) :=
      exec_noted rfl hright hboth (firstBad_arm htrig hchan hin hedge htaxis hchans) fun h => if_pos (.inl ⟨hst, hrearm⟩)
    exact ⟨_, hexec, host_touches⟩
  · have hopts : ¬ (givenCapture r).chans.any (fun c => !dOpt (s.axis c.1).desc 4) = true := by
      simp only [givenCapture, List.any_map, List.any_eq_true, List.mem_range, not_exists, not_and]
      intro i hi
      simp [hopt i hi]
    have hidle : ¬ ((s.loop.capture.state = 1 ∨ s.loop.capture.state = 2) ∧ rq r 32 1 % 2 = 0) := fun hc =>
      hfree.elim (fun h => hc.1.elim h.1 h.2) fun h => absurd (hc.2.symm.trans h) (by decide)
    obtain ⟨h, eff, hexec⟩ : ∃ h eff, exec (.tuneCaptureArm r) s = .next (State.onLoop { s with host := h } fun l =>
        { l with capPend := l.capPend ++ [(withOp r 0x1120, givenCapture r, eff)] }) :=
      (exec_noted rfl hright hboth (firstBad_arm htrig hchan hin hedge htaxis hchans) fun h => if_neg (not_or.2
        ⟨hidle, hopts⟩)).imp fun h hexec => ⟨_, hexec⟩
    exact ⟨_, _, _, hexec, rfl, rfl, rfl, rfl, rfl, State.onLoop_frame (host_touches.wider rfl) rfl⟩

end Sys2Proof.Machine
end

section
/-! The counter commands, the cycle, a command at its limit (01, 02, 19) and the obstruction tests of a door (08). -/

namespace Sys2Proof.Machine

open Sys2Proof

variable {s t u : State} {r : Request} {n k : Nat}

/-- Settles O45: a test holds exactly when its own part of the list of tests is there. -/
theorem obstructionTestsCount : Obligations.ObstructionTestsCount := by
  intro c y im opening nudging sum ns
  refine ⟨fun hstale => if_pos hstale, fun hfresh => ?_⟩
  unfold axisTests
  rw [if_neg (by simp [hfresh])]
  refine ⟨?_, ?_, ?_, ?_⟩
  · simp
  · simp
  · simp
  · simp

/-- A counter raised by an amount, to its end at most (19 R501). -/
theorem cnt_bump_same {m : Nat} : tabGet (bump s n m).ctr.cnt 0 n = satAdd max48 (tabGet s.ctr.cnt 0 n) m := by
  show tabGet (tabMod s.ctr.cnt 0 n fun v => satAdd max48 v m) 0 n = _
  exact tabGet_tabMod_same

theorem cnt_bump_ne {m : Nat} (h : k ≠ n) : tabGet (bump s n m).ctr.cnt 0 k = tabGet s.ctr.cnt 0 k := by
  show tabGet (tabMod s.ctr.cnt 0 n fun v => satAdd max48 v m) 0 k = _
  exact tabGet_tabMod_ne h

/-! ### A command at its limit (02 R49) -/

/-- A request struck from wherever it waits. -/
def forgotten (s : State) (x : Request) : State :=
  mapModuleReqs (mapIoReqs (mapMotionReqs (mapLoopReqs s (forget x)) (forget x)) (forget x)) (forget x)

/-- Requests struck are struck from every part but the host interface, the safety part, the time and the supply. -/
theorem forgotten_touches {x : Request} :
    SameBut (among [.rings, .loop, .motion, .disp, .doors, .field, .can, .sys, .pow, .ctr, .dbg, .cairn, .red]) s (forgotten s x) :=
  mapModuleReqs_frame (mapIoReqs_frame (mapMotionReqs_frame (mapLoopReqs_frame SameBut.rfl' rfl rfl) rfl rfl rfl) rfl rfl)
    rfl rfl rfl rfl rfl rfl

/-! ### The instant (01 R28) -/

theorem nextInstant_time : (nextInstant s).time = { s.time with
    now := s.time.next.getD (s.time.now + cycleNs s.sys.rate)
    cycle := s.time.next.getD (s.time.now + cycleNs s.sys.rate) / cycleNs s.sys.rate, next := none, released := false, gap := false } := rfl

theorem trimTime_time : ∃ e tr, (trimTime s).time = { s.time with err := e, trims := tr } := ⟨_, _, rfl⟩

/-- The instant moves the time as 14 R405 says, and trims it (14 R409); its pulse is counted (20 R527). -/
theorem takeInstant_time {l : List FrontEnd} :
    (∃ e tr o, (takeInstant s l).time = { s.time with
      now := s.time.next.getD (s.time.now + cycleNs s.sys.rate)
      cycle := s.time.next.getD (s.time.now + cycleNs s.sys.rate) / cycleNs s.sys.rate, next := none, released := false, gap := false
      err := e, trims := tr, utcOff := o }) ∧
    (takeInstant s l).supply.syncOut = s.supply.syncOut + 1 := by
  unfold takeInstant
  extract_lets s1 s2 s3 s4 s5 s6
  have h1 : SameBut (among [.host, .ctr, .cairn, .rings, .red, .can]) s s1 := by
    unfold s1
    split
    · exact fence_frame SameBut.rfl' rfl rfl rfl rfl rfl rfl
    · exact SameBut.rfl'
  have hfinish : SameBut (among [.ctr, .cairn, .red]) (nextInstant s1) (finishTakeover (nextInstant s1)) :=
    finishTakeover_frame SameBut.rfl' rfl rfl rfl
  have h3 : (∃ e tr o, s3.time = { (nextInstant s1).time with err := e, trims := tr, utcOff := o }) ∧ s3.supply = s.supply := by
    refine ⟨?_, (hfinish.2 .supply rfl).trans (h1.2 .supply rfl)⟩
    rw [← hfinish.2 .time rfl]
    obtain ⟨e, tr, htrim⟩ := trimTime_time (s := finishTakeover (nextInstant s1))
    have h2 : s2.time = { (finishTakeover (nextInstant s1)).time with err := e, trims := tr } := htrim
    clear_value s2
    refine ⟨e, tr, utcAt s2.time.leaps s2.time.now s2.time.utcOff, ?_⟩
    show { s2.time with utcOff := utcAt s2.time.leaps s2.time.now s2.time.utcOff } = _
    rw [h2]
  have hring : SameBut (among [.host, .ctr, .cairn, .rings, .loop]) s3 s4 := State.each_frame SameBut.rfl' fun _ _ h =>
    ringInstant_frame (healRing_frame h rfl rfl rfl rfl) rfl rfl rfl
  have hfield : SameBut (among [.host, .ctr, .cairn, .field, .nor]) s4 s5 := instantField_frame SameBut.rfl' rfl rfl rfl rfl rfl
  have henergy : SameBut (among [.ctr, .cairn, .motion]) s5 s6 := State.each_frame SameBut.rfl' fun _ _ h => instantEnergy_frame h rfl rfl rfl
  obtain ⟨⟨e, tr, o, htime⟩, hsupply⟩ := h3
  have hsys : s1.sys = s.sys := h1.2 .sys rfl
  clear_value s6 s5 s4 s3 s1
  refine ⟨⟨e, tr, o, ?_⟩, ?_⟩
  · show s6.time = _
    rw [henergy.2 .time rfl, hfield.2 .time rfl, hring.2 .time rfl, htime, nextInstant_time, h1.2 .time rfl, hsys]
  · show s6.supply.syncOut + 1 = _
    rw [henergy.2 .supply rfl, hfield.2 .supply rfl, hring.2 .supply rfl, hsupply]

/-! ### The window-open moment (01 R29, 03 R80) -/

/-- The programs of a window and its samples. -/
def runWindow (s : State) : State := takeDoorImages (endWindow (captureWindow (runAxes (weaverWindow s))))

theorem runWindow_touches : SameBut (among [.ctr, .cairn, .loop, .doors]) s (runWindow s) := by
  have hweaver : SameBut (among [.ctr, .cairn, .loop, .doors]) s (weaverWindow s) := weaverWindow_frame SameBut.rfl' rfl
  exact takeDoorImages_frame (State.onLoop_frame (captureWindow_frame (runAxes_frame hweaver rfl rfl rfl) rfl) rfl) rfl

theorem freezeRing_others {n : Nat} : OtherRings n s (freezeRing s n) := by
  unfold freezeRing
  extract_lets
  split
  · exact .on
  · exact .on

theorem freezeRing_member (h : (s.ring n).state ≠ .leading) : (freezeRing s n).ring n =
    { s.ring n with nodes := (s.ring n).nodes.map fun x => (x.1, { x.2 with stale := true }), copies := [] } :=
  (congrArg (State.ring · n) (if_pos h)).trans State.ring_onRing_same

/-- Freezing the images of the four rings freezes each. -/
theorem freezeRings_member (hn : n < 4) (h : (s.ring n).state ≠ .leading) : (s.each (List.range 4) freezeRing).ring n =
    { s.ring n with nodes := (s.ring n).nodes.map fun x => (x.1, { x.2 with stale := true }), copies := [] } := by
  obtain ⟨u, hu, hring⟩ := each_at (f := freezeRing) (get := (State.ring · n)) (s := s) List.nodup_range (List.mem_range.2 hn)
    fun s b hb => freezeRing_others n (Ne.symm hb)
  rw [hring, freezeRing_member (by rw [hu]; exact h), hu]

/-- Settles O59: requests wait with what they give; the instant, the window and the release phase through what each leaves of the time and
of the rings (`takeInstant_time`, `freezeRings_member`, O11). -/
theorem countersCycleAndLimitsFollowTheirRules : Obligations.CountersCycleAndLimitsFollowTheirRules := by
  intro r s
  refine ⟨fun hright hfirst hview => ⟨fun hglobal => ?_, fun hsum hno => ?_⟩, fun hright hk hen hlo hhi => ⟨fun hown hforeign => ?_, fun hset => ?_⟩,
    fun hright hport => ⟨fun hno => ?_, fun hyes => ?_⟩, fun p tx rx hp => ?_, fun hrun => ⟨fun l => ?_, ?_, fun hrel => ?_⟩,
    fun q tag x hx => ?_, fun q tag x hnone hx => ?_⟩
  · refine ⟨_, _, _, congrArg Host.Outcome.next ((serve_runs_nil hright rfl (firstBad_none (by simp [hfirst, hview]))).trans (if_neg ?_)),
      fun i hi => List.mem_append_right _ (List.mem_map.2 ⟨i, List.mem_range.2 hi, rfl⟩), noteClamps_touches⟩
    exact fun h => h.2 (hglobal h.1)
  · exact congrArg Host.Outcome.next ((serve_runs_nil hright rfl (firstBad_none (by simp [hfirst, hview]))).trans (if_pos ⟨hsum, by simp [hno]⟩))
  · exact congrArg Host.Outcome.next ((serve_runs_nil hright rfl (firstBad_none (by simp [hk, hen, hlo, hhi, hown, hforeign]))).trans
      (if_pos (.inr (by simp [hown, hforeign]))))
  · have hbad : firstBad [(16, decide (rq r 16 1 ≤ 35)), (17, decide (rq r 17 1 ≤ 1)), (18, decide (1 ≤ rq r 18 1 ∧ rq r 18 1 ≤ 9)),
        (20, (decide (32 ≤ rq r 16 1) && decide (3 ≤ rq r 18 1)) ||
          thrInstance s (if 32 ≤ rq r 16 1 then some r.part else none) (rq r 18 1) (rq r 20 4))] = none := by
      refine firstBad_none ?_
      rcases hset with ⟨hlow, hinst, -⟩ | ⟨hhigh, -, hinst⟩
      · simp [hk, hen, hlo, hhi, Nat.not_le_of_lt hlow, hinst]
      · simp [hk, hen, hlo, hhi, hhigh, hinst]
    refine ⟨_, congrArg Host.Outcome.next ((serve_runs_nil hright rfl hbad).trans (if_neg ?_)), ?_,
      State.onCtr_frame (noteClamps_touches.wider rfl) rfl⟩
    · rcases hset with ⟨hlow, -, hglobal⟩ | ⟨hhigh, hsrc, -⟩
      · simp [hglobal, Nat.not_le_of_lt hlow]
      · simp [Nat.not_lt_of_le hhigh, hhigh]
        omega
    · exact congrArg (fun c : CtrSt => c.thrPend ++ _) (noteClamps_touches.2 .ctr rfl)
  · exact congrArg Host.Outcome.next ((serve_runs_nil hright rfl (firstBad_none (by simpa using hport))).trans (if_pos (by simp [hno])))
  · refine ⟨_, congrArg Host.Outcome.next ((serve_runs_nil hright rfl (firstBad_none (by simpa using hport))).trans (if_neg (by simp [hyes]))),
      ?_, State.onCtr_frame (noteClamps_touches.wider rfl) rfl⟩
    exact congrArg (fun c : CtrSt => c.bwPend ++ _) (noteClamps_touches.2 .ctr rfl)
  · refine ⟨_, congrArg Host.Outcome.next (if_neg (Nat.not_le_of_lt hp)), ?_, ?_, ?_, ?_, ?_, ?_, ?_, ?_,
      State.onCtr_frame (bump_frame (bump_frame SameBut.rfl' rfl) rfl) rfl⟩
    · show tabGet (bump (bump s (cBytes p false) _) (cBytes p true) _).ctr.cnt 0 (cBytes p false) = _
      rw [cnt_bump_ne (by simp [cBytes, b2n]), cnt_bump_same]
    · show tabGet (bump (bump s (cBytes p false) _) (cBytes p true) _).ctr.cnt 0 (cBytes p true) = _
      rw [cnt_bump_same, cnt_bump_ne (by simp [cBytes, b2n])]
    all_goals rw [State.port_onCtr_bw]
    · rfl
    · rfl
    · rfl
    · rfl
  · obtain ⟨⟨e, tr, o, htime⟩, hpulse⟩ := takeInstant_time (s := s) (l := l)
    refine ⟨_, congrArg Host.Outcome.next (if_pos hrun), ?_, ?_, ?_, ?_, hpulse⟩ <;> rw [htime]
  · have hfrozen : SameBut (among [.rings, .ctr]) s (s.each (List.range 4) freezeRing) :=
      State.each_frame SameBut.rfl' fun _ _ h => freezeRing_frame h rfl rfl
    have hmember (k : Nat) (hk : k < 4) := freezeRings_member (s := s) hk
    generalize hu : s.each (List.range 4) freezeRing = u at hfrozen hmember
    have hready : loopReady u = loopReady s := by rw [loopReady, hfrozen.2 .sys rfl, loopReady]
    have horig : originates u = originates s := by rw [originates, hfrozen.2 .red rfl, originates]
    have hexec : exec .windowOpen s = .next (if loopReady u ∧ originates u then runWindow u else u) :=
      hu ▸ congrArg Host.Outcome.next (if_neg (by simp [hrun]))
    rw [hready, horig] at hexec
    by_cases hruns : loopReady s = true ∧ originates s = true
    · rw [if_pos hruns] at hexec
      refine ⟨_, hexec, fun k hk hstate => (runWindow_touches.ring rfl k).trans (hmember k hk hstate), fun h => ?_,
        (hfrozen.wider rfl).trans (runWindow_touches.wider rfl)⟩
      rw [hruns.1, hruns.2] at h
      simp at h
    · rw [if_neg hruns] at hexec
      exact ⟨_, hexec, hmember, fun _ => ⟨hfrozen.2 .loop rfl, hfrozen.2 .doors rfl⟩, hfrozen.wider rfl⟩
  · have hexec : exec .releasePhase s = .next (takeRelease s) := congrArg Host.Outcome.next (if_pos ⟨hrun, by simp [hrel]⟩)
    exact ⟨_, hexec, rfl, cycleNumberMovesOnlyAtInstants _ _ _ hexec rfl⟩
  · change ∃ u, execCommandTimeout q tag s = _ ∧ _
    unfold execCommandTimeout
    simp only [hx]
    exact ⟨forgotten s x, rfl, forgotten_touches.2 .host rfl, forgotten_touches.2 .safety rfl, forgotten_touches.2 .time rfl,
      forgotten_touches.2 .supply rfl⟩
  · change execCommandTimeout q tag s = _
    unfold execCommandTimeout
    simp only [hnone, hx]
    rfl

end Sys2Proof.Machine
end

section
/-! Sessions of the safety configuration (10 R309 to R316). -/

namespace Sys2Proof.Machine

open Sys2Proof

variable {s t u : State} {r : Request} {x : Session}

/-! ### Events and the log beside the rest of the safety part -/

theorem safetyEvent_touches {code scope cause channel : Nat} {value : Int} :
    SameBut (among [.cairn, .ctr]) s (safetyEvent s code scope cause channel value) := safetyEvent_frame SameBut.rfl' rfl rfl

/-- An event of the safety channels leaves what they hold. -/
theorem safetyEvent_safety {code scope cause channel : Nat} {value : Int} :
    (safetyEvent s code scope cause channel value).safety = s.safety := safetyEvent_touches.2 .safety rfl

theorem safetyEvent_time {code scope cause channel : Nat} {value : Int} :
    (safetyEvent s code scope cause channel value).time = s.time := safetyEvent_touches.2 .time rfl

/-! ### A password (10 R311) -/

/-- A wrong password below the fifth in a row is counted. -/
theorem wrongPassword_counts {user : List Byte} (h : s.safety.wrong < 4) :
    (wrongPassword s user).safety = { s.safety with wrong := s.safety.wrong + 1 } := by
  unfold wrongPassword
  extract_lets n v
  rw [if_pos (show s.safety.wrong + 1 < 5 by omega)]
  exact safetyEvent_safety

/-- The fifth in a row locks sessions out for 900 s, and is logged. -/
theorem wrongPassword_locks {user : List Byte} (h : s.safety.wrong = 4) : (wrongPassword s user).safety = { s.safety with
    wrong := 0, lockEnd := some (s.time.now + 900000000000)
    log := ({ time := s.time.now, seq := s.safety.logSeq, type := 3, user, oldCrc := 0, newCrc := 0 } :: s.safety.log).take 1024
    logSeq := s.safety.logSeq + 1 } := by
  unfold wrongPassword
  extract_lets n v w
  have hv : v.safety = { s.safety with wrong := n } := safetyEvent_safety
  have htime : v.time = s.time := safetyEvent_time
  clear_value v
  rw [if_neg (show ¬ s.safety.wrong + 1 < 5 by omega), logWrite]
  show ({ (safetyEvent w 9 8 0 3 900).safety with
    log := ({ time := (safetyEvent w 9 8 0 3 900).time.now, seq := (safetyEvent w 9 8 0 3 900).safety.logSeq, type := 3, user, oldCrc := 0, newCrc := 0 } ::
      (safetyEvent w 9 8 0 3 900).safety.log).take 1024
    logSeq := (safetyEvent w 9 8 0 3 900).safety.logSeq + 1 } : SafetySt) = _
  rw [safetyEvent_safety, safetyEvent_time]
  show ({ ({ v.safety with wrong := 0, lockEnd := some (v.time.now + 900000000000) } : SafetySt) with
    log := ({ time := v.time.now, seq := v.safety.logSeq, type := 3, user, oldCrc := 0, newCrc := 0 } :: v.safety.log).take 1024
    logSeq := v.safety.logSeq + 1 } : SafetySt) = _
  rw [hv, htime]

/-! ### A session opens (10 R312) -/

theorem latchQuiet_session {c : Chan} {scope cause : Nat} : (latchQuiet s c scope cause).safety.session = s.safety.session ∧
    (latchQuiet s c scope cause).safety.wrong = s.safety.wrong := by
  unfold latchQuiet
  cases c <;> dsimp only <;> split <;> exact ⟨rfl, rfl⟩

/-- A module trip leaves the session and the count of wrong passwords. -/
theorem tripModule_session {cause : Nat} : (tripModule s cause).safety.session = s.safety.session ∧
    (tripModule s cause).safety.wrong = s.safety.wrong := by
  rw [tripModule_safety]
  exact ⟨latchQuiet_session.1.trans latchQuiet_session.1, latchQuiet_session.2.trans latchQuiet_session.2⟩

/-- A session set down, the count of wrong passwords cleared. -/
def sessionOpened (s : State) (x : Session) : State := (draw s).2.onSafety fun y => { y with wrong := 0, session := some x }

/-- A session opens on a copy of the stored image, with 16h latched in each running channel. -/
theorem openSession_spec {user : List Byte} {newPw : Option (List Byte)} : ∃ u x fields, openSession s r user newPw = ok u r fields ∧
    u.safety.session = some x ∧ x.user = user ∧ x.pending = s.safety.core.image ∧ (16, 4, (x.id : Int)) ∈ fields ∧ x.newPw = newPw ∧
    u.safety.wrong = 0 ∧ (s.safety.core.running = true → 0x16 ∈ u.safety.core.modTrip) ∧
    (s.safety.scarp.running = true → 0x16 ∈ u.safety.scarp.modTrip) ∧ SameBut (among [.safety, .cairn, .ctr]) s u := by
  let x : Session := { id := Config.session s.free % 4294967296, user, newPw, pending := s.safety.core.image }
  have hopen : ∃ fields, openSession s r user newPw = ok (safetyEvent (tripModule (sessionOpened s x) 0x16) 6 8 0 3 (x.id : Int)) r fields ∧
      (16, 4, (x.id : Int)) ∈ fields := ⟨_, rfl, List.mem_cons_self⟩
  obtain ⟨fields, hopen, hid⟩ := hopen
  have hw : (sessionOpened s x).safety = { s.safety with wrong := 0, session := some x } := rfl
  have htouch : SameBut (among [.safety, .cairn, .ctr]) s (sessionOpened s x) :=
    State.onSafety_frame (draw_frame_proj SameBut.rfl') rfl
  generalize sessionOpened s x = w at hopen hw htouch
  obtain ⟨hsession, hwrong⟩ := tripModule_session (s := w) (cause := 0x16)
  have hcore := mem_modTrip_tripModule (s := w) (c := .core) (cause := 0x16)
  have hscarp := mem_modTrip_tripModule (s := w) (c := .scarp) (cause := 0x16)
  simp only [State.chan, hw] at hcore hscarp
  refine ⟨_, x, fields, hopen, ?_, rfl, rfl, hid, rfl, ?_, ?_, ?_,
    safetyEvent_frame (tripModule_frame htouch rfl rfl rfl) rfl rfl⟩
  · rw [safetyEvent_safety, hsession, hw]
  · rw [safetyEvent_safety, hwrong, hw]
  · rw [safetyEvent_safety]; exact hcore
  · rw [safetyEvent_safety]; exact hscarp

/-- How a password is answered, the conditions of a session being met (10 R311). -/
def answerPassword (s : State) (r : Request) : State :=
  match s.safety.password with
  | none => if bitAt (rq r 33 1) 0 then openSession s r (rqBytes r 16 16) (some (rqBytes r 100 (rq r 34 1))) else denied s r
  | some (salt, hash) =>
    if rq r 32 1 != 0 && Config.passwordHash salt (rqBytes r 36 (rq r 32 1)) == hash then
      openSession s r (rqBytes r 16 16) (if bitAt (rq r 33 1) 0 then some (rqBytes r 100 (rq r 34 1)) else none)
    else denied (wrongPassword s (rqBytes r 16 16)) r

/-- Outside a lock-out, without a session and at rest, a password in its layout is answered. -/
theorem sessionOpen_answers (hright : hasRight s r.part 0x2010 = true) (hblank : s.sys.lc ≠ .blank) (hret : s.sys.lc ≠ .returned)
    (hunlocked : s.safety.lockEnd = none) (hnone : s.safety.session = none) (hstill : inMotion s = false)
    (hlen : rq r 32 1 = 0 ∨ 12 ≤ rq r 32 1 ∧ rq r 32 1 ≤ 64)
    (hnew : bitAt (rq r 33 1) 0 = true → 12 ≤ rq r 34 1 ∧ rq r 34 1 ≤ 64 ∧ printable (rqBytes r 100 (rq r 34 1)) = true) :
    exec (.safetySessionOpen r) s = .next (answerPassword s (withOp r 0x2010)) := by
  refine congrArg Host.Outcome.next ((serve_runs_nil hright rfl rfl).trans ((if_neg (by simp [hblank, hret])).trans ?_))
  rw [hunlocked]
  refine (if_neg (by simp [hnone, hstill])).trans (if_neg ?_)
  have hold : ¬ ((rq r 32 1 != 0 && (decide (rq r 32 1 < 12) || decide (64 < rq r 32 1))) = true) := by
    simp only [Bool.and_eq_true, Bool.or_eq_true, bne_iff_ne, decide_eq_true_eq]
    omega
  have hfresh : ¬ ((bitAt (rq r 33 1) 0 && (decide (rq r 34 1 < 12) || decide (64 < rq r 34 1) ||
      !printable (rqBytes r 100 (rq r 34 1)))) = true) := by
    intro h
    obtain ⟨hset, hbad⟩ := Bool.and_eq_true _ _ ▸ h
    obtain ⟨hlo, hhi, hprint⟩ := hnew hset
    rw [hprint] at hbad
    simp only [Bool.not_true, Bool.or_false, Bool.or_eq_true, decide_eq_true_eq] at hbad
    omega
  exact fun h => (Bool.or_eq_true _ _ ▸ h).elim hold hfresh

/-! ### A session's commit (10 R314) -/

/-- A commit stores the pending image in both channels and ends the session. -/
theorem commitSession_stored {crc : Nat} : (commitSession s x crc).safety.session = none ∧
    (commitSession s x crc).safety.core.image = x.pending ∧ (commitSession s x crc).safety.scarp.image = x.pending ∧
    (commitSession s x crc).safety.crcBad = false := by
  unfold commitSession
  cases x.newPw with
  | none => exact ⟨rfl, rfl, rfl, rfl⟩
  | some p => exact ⟨rfl, rfl, rfl, rfl⟩

/-- Without a new password the password stays, and one entry is logged. -/
theorem commitSession_logged {crc : Nat} (h : x.newPw = none) : (commitSession s x crc).safety.password = s.safety.password ∧
    (commitSession s x crc).safety.log = ({ time := s.time.now, seq := s.safety.logSeq, type := 1, user := x.user
                                            oldCrc := imageCrc s.safety.core.image, newCrc := crc } :: s.safety.log).take 1024 := by
  unfold commitSession
  rw [h]
  exact ⟨rfl, rfl⟩

/-- A new password is stored with the salt drawn for it. -/
theorem commitSession_password {crc : Nat} {p : List Byte} (h : x.newPw = some p) :
    ∃ salt, (commitSession s x crc).safety.password = some (salt, Config.passwordHash salt p) := by
  unfold commitSession
  rw [h]
  exact ⟨_, rfl⟩

/-! ### An image written (10 R313) -/

/-- Bytes written one after another from an offset on. -/
theorem tabGet_writeBytes {α : Type} {l : Tab α} {d : α} {off n i : Nat} {f : Nat → α} :
    tabGet ((List.range n).foldl (fun t k => tabSet t (off + k) (f k)) l) d i =
      if off ≤ i ∧ i < off + n then f (i - off) else tabGet l d i := by
  induction n with
  | zero => rw [if_neg (by omega)]; rfl
  | succ n ih =>
    rw [List.range_succ, List.foldl_append, List.foldl_cons, List.foldl_nil]
    by_cases h : i = off + n
    · subst h
      rw [tabGet_tabSet_same, if_pos (by omega), Nat.add_sub_cancel_left]
    · rw [tabGet_tabSet_ne h, ih]
      by_cases hin : off ≤ i ∧ i < off + n
      · rw [if_pos hin, if_pos (by omega)]
      · rw [if_neg hin, if_neg (by omega)]

/-- The image of a session with a request's bytes written into it (10 R313). -/
def writtenImage (x : Session) (r : Request) : Tab Byte :=
  (List.range (clampN 1 (min 960 (16384 - rq r 20 4)) (rq r 24 2))).foldl
    (fun t i => tabSet t (rq r 20 4 + i) (r.payload.getD (16 + i) 0)) x.pending

/-- Settles O48: queries list what is held; a password, a write and a commit go through what each leaves of the safety part
(`openSession_spec`, `wrongPassword_locks`, `tabGet_writeBytes`, `commitSession_stored`). -/
theorem safetySessionsGuardTheConfiguration : Obligations.SafetySessionsGuardTheConfiguration := by
  intro r s
  refine ⟨fun hright => congrArg Host.Outcome.next (serve_runs_nil hright rfl rfl),
    fun hright => ⟨_, congrArg Host.Outcome.next (serve_runs_nil hright rfl rfl), ?_⟩,
    fun hright => ⟨_, _, _, congrArg Host.Outcome.next (serve_runs hright rfl rfl), ?_⟩,
    fun hright hblank hret => ⟨fun e he => ?_, fun hunlocked => ⟨fun hbusy => ?_, fun hnone hstill hlen hnew => ⟨fun hpw => ?_, fun salt hash hpw hwrong => ?_⟩⟩⟩,
    fun x hx hid => ⟨fun hright hoff => ?_, fun hright => ⟨fun haction => ?_, fun haction hgood => ⟨fun hcrc => ?_, fun hcrc => ?_⟩⟩, ?_⟩,
    ⟨_, rfl, rfl, State.onSafety_frame SameBut.rfl' rfl⟩⟩
  · refine ⟨List.mem_cons_self, List.mem_cons_of_mem _ List.mem_cons_self, fun x hx => ?_, fun hx => ?_⟩ <;>
      refine List.mem_cons_of_mem _ (List.mem_cons_of_mem _ ?_) <;> rw [hx]
    · exact List.mem_cons_self
    · exact List.mem_cons_self
  · refine ⟨fun e l he => ?_, fun e l he => ?_, noteClamps_touches⟩ <;> refine List.mem_append_left _ ?_
    · simp [he]
    · simp [he]
  · refine congrArg Host.Outcome.next ((serve_runs_nil hright rfl rfl).trans ((if_neg (by simp [hblank, hret])).trans ?_))
    rw [he]
    rfl
  · refine congrArg Host.Outcome.next ((serve_runs_nil hright rfl rfl).trans ((if_neg (by simp [hblank, hret])).trans ?_))
    rw [hunlocked]
    exact if_pos (by simpa using hbusy)
  · have hexec := sessionOpen_answers hright hblank hret hunlocked hnone hstill hlen hnew
    have hopen : answerPassword s (withOp r 0x2010) = openSession s (withOp r 0x2010) (rqBytes r 16 16)
        (if bitAt (rq r 33 1) 0 = true then some (rqBytes r 100 (rq r 34 1)) else none) := by
      unfold answerPassword
      rcases hpw with ⟨hpw, hset⟩ | ⟨salt, hash, hpw, hlen, hhash⟩ <;> rw [hpw]
      · exact (if_pos hset).trans (by rw [if_pos hset]; rfl)
      · exact if_pos (by rw [Bool.and_eq_true, bne_iff_ne, beq_iff_eq]; exact ⟨hlen, hhash⟩)
    obtain ⟨u, x, fields, hok, hrest⟩ := openSession_spec (s := s) (r := withOp r 0x2010) (user := rqBytes r 16 16)
      (newPw := if bitAt (rq r 33 1) 0 = true then some (rqBytes r 100 (rq r 34 1)) else none)
    exact ⟨u, x, fields, hexec.trans (congrArg _ (hopen.trans hok)), hrest⟩
  · have hexec := sessionOpen_answers hright hblank hret hunlocked hnone hstill hlen hnew
    have hdeny : answerPassword s (withOp r 0x2010) = denied (wrongPassword s (rqBytes r 16 16)) (withOp r 0x2010) := by
      unfold answerPassword
      rw [hpw]
      refine if_neg ?_
      rw [Bool.and_eq_true, bne_iff_ne, beq_iff_eq]
      exact fun h => hwrong.elim h.1 fun hne => hne h.2
    refine ⟨_, hexec.trans (congrArg _ hdeny), wrongPassword_counts, fun h => ?_, wrongPassword_frame SameBut.rfl' rfl rfl rfl⟩
    rw [wrongPassword_locks h]
    exact ⟨rfl, rfl, hnone, _, rfl, rfl, rfl, rfl⟩
  · have hnamed : namedSession s (rq r 16 4) = some x := by simp [namedSession, hx, hid]
    obtain ⟨h, hexec⟩ : ∃ h, exec (.safetyConfigWrite r) s = .next (ok (State.onSafety { s with host := h } fun y =>
        { y with session := some { x with pending := writtenImage x r } }) (withOp r 0x2011)
        [(16, 2, (clampN 1 (min 960 (16384 - rq r 20 4)) (rq r 24 2) : Int))]) :=
      exec_noted rfl hright rfl (by rw [hnamed]; exact firstBad_none (by simp [hoff])) fun h => by rw [hnamed]; rfl
    exact ⟨_, _, hexec, rfl, fun i => tabGet_writeBytes, State.onSafety_frame (host_touches.wider rfl) rfl⟩
  · have hnamed : namedSession s (rq r 16 4) = some x := by simp [namedSession, hx, hid]
    have hexec : exec (.safetySessionClose r) s =
        .next (ok (safetyEvent (s.onSafety fun y => { y with session := none }) 7 8 0 3 0) (withOp r 0x2012)) := by
      refine congrArg Host.Outcome.next ((serve_runs_nil hright rfl ?_).trans ?_) <;> rw [hnamed]
      · exact firstBad_none (by simp [haction])
      · exact if_pos haction
    exact ⟨_, hexec, safetyEvent_safety, safetyEvent_frame (State.onSafety_frame SameBut.rfl' rfl) rfl rfl⟩
  · have hnamed : namedSession s (rq r 16 4) = some x := by simp [namedSession, hx, hid]
    have hexec : exec (.safetySessionClose r) s = .next (refused (draw s).2 (withOp r 0x2012) 0 [(16, 1, 1)]) := by
      refine congrArg Host.Outcome.next ((serve_runs_nil hright rfl ?_).trans ?_) <;> rw [hnamed]
      · exact firstBad_none (by simp [haction])
      · refine (if_neg (by simp [haction])).trans ?_
        show (match pendingFault x.pending s.free with | some _ => _ | none => _) = _
        rw [hgood]
        exact if_pos hcrc
    exact ⟨_, hexec, rfl, draw_frame_proj SameBut.rfl'⟩
  · have hnamed : namedSession s (rq r 16 4) = some x := by simp [namedSession, hx, hid]
    have hexec : exec (.safetySessionClose r) s = .next (ok (safetyEvent (commitSession (draw s).2 x (rq r 24 4)) 7 8 0 3 1)
        (withOp r 0x2012) [(16, 4, (rq r 24 4 : Int)), (20, 4, (s.safety.logSeq : Int))]) := by
      refine congrArg Host.Outcome.next ((serve_runs_nil hright rfl ?_).trans ?_) <;> rw [hnamed]
      · exact firstBad_none (by simp [haction])
      · refine (if_neg (by simp [haction])).trans ?_
        show (match pendingFault x.pending s.free with | some _ => _ | none => _) = _
        rw [hgood]
        exact if_neg (not_not_intro hcrc)
    obtain ⟨hsession, hcore, hscarp, hcrcBad⟩ := commitSession_stored (s := (draw s).2) (x := x) (crc := rq r 24 4)
    refine ⟨_, hexec, ?_, ?_, ?_, ?_, fun hno => ?_, fun p hp => ?_, safetyEvent_frame (commitSession_frame (draw_frame_proj SameBut.rfl') rfl) rfl rfl⟩ <;>
      rw [safetyEvent_safety]
    · exact hsession
    · exact hcore
    · exact hscarp
    · exact hcrcBad
    · obtain ⟨hpassword, hlog⟩ := commitSession_logged (s := (draw s).2) (crc := rq r 24 4) hno
      exact ⟨hpassword, _, hlog, rfl, rfl, rfl, rfl, rfl⟩
    · exact commitSession_password hp
  · exact ⟨_, congrArg Host.Outcome.next (if_pos (by rw [hx]; rfl)), safetyEvent_safety,
      safetyEvent_frame (State.onSafety_frame SameBut.rfl' rfl) rfl rfl⟩

end Sys2Proof.Machine
end

section
/-! Safe inputs (10 R280, R287 to R289, R305): one sample of a channel, its pairs and its reset pairs. -/

namespace Sys2Proof.Machine

open Sys2Proof

variable {s t u : State} {c : Chan} {n : Nat}

/-! ### What demands and resets leave of the inputs -/

/-- The inputs of a channel, its time and its configuration, and the whole of the other channel. -/
def inputsOf (c : Chan) (s : State) : (BitVec 24 × Nat × SafetyCfg × Bool × Tab PairSt) × ChanSt :=
  (((s.chan c).readback, (s.chan c).clk, (s.chan c).cfg, (s.chan c).running, (s.chan c).pairs), s.chan (otherChan c))

/-- What does not touch the safety part leaves the inputs. -/
theorem inputsOf_of_safety (h : t.safety = s.safety) : inputsOf c t = inputsOf c s := by
  have hchan (d : Chan) : t.chan d = s.chan d := by cases d <;> simp [State.chan, h]
  rw [inputsOf, hchan, hchan, inputsOf]

/-- A change of a channel beside its inputs leaves them. -/
theorem inputsOf_onChan {f : ChanSt → ChanSt} (hf : ∀ x, ((f x).readback, (f x).clk, (f x).cfg, (f x).running, (f x).pairs) =
    (x.readback, x.clk, x.cfg, x.running, x.pairs)) : inputsOf c (s.onChan c f) = inputsOf c s := by
  rw [inputsOf, State.chan_onChan_same, State.chan_onChan_ne otherChan_ne, hf, inputsOf]

/-- A pass of steps that leave something leaves it. -/
theorem each_keeps {α β : Type} {f : State → α → State} {get : State → β} {l : List α} (h : ∀ s a, get (f s a) = get s) :
    get (s.each l f) = get s := by
  unfold State.each
  induction l generalizing s with
  | nil => rfl
  | cons a l ih => exact ih.trans (h s a)

theorem inputsOf_latchTrip {scope cause car : Nat} : inputsOf c (latchTrip s c scope cause car) = inputsOf c s := by
  obtain ⟨m, h, hchan⟩ := latchTrip_chan (s := s) (c := c) (scope := scope) (cause := cause) (car := car)
  rw [inputsOf, hchan, latchTrip_chan_ne otherChan_ne, inputsOf]

theorem inputsOf_startSs1 {h cause : Nat} : inputsOf c (startSs1 s c h cause) = inputsOf c s := by
  unfold startSs1
  extract_lets x l fast
  split
  · rfl
  · exact (inputsOf_of_safety safetyEvent_safety).trans (inputsOf_onChan fun _ => rfl)

theorem inputsOf_markSs1 {h : Nat} : inputsOf c (markSs1 s c h) = inputsOf c s := by
  unfold markSs1
  split
  · exact inputsOf_onChan fun _ => rfl
  · rfl

/-- The demand of a pair latches trips and begins safe stops, and leaves the inputs. -/
theorem inputsOf_pairDemand {p : Nat} : inputsOf c (pairDemand s c p) = inputsOf c s := by
  have hall : inputsOf c (ss1All s c) = inputsOf c s := each_keeps fun _ _ => inputsOf_markSs1.trans inputsOf_startSs1
  unfold pairDemand
  extract_lets k
  split
  · rfl
  · split
    · exact each_keeps fun _ _ => inputsOf_latchTrip
    · split
      · split
        · unfold tripUnstopped
          split
          · exact hall
          · exact inputsOf_latchTrip.trans hall
        · exact each_keeps fun _ _ => inputsOf_startSs1
      · rfl

theorem setLatch_inputs {x : ChanSt} {l : List Nat} :
    ((setLatch x n l).readback, (setLatch x n l).clk, (setLatch x n l).cfg, (setLatch x n l).running, (setLatch x n l).pairs) =
      (x.readback, x.clk, x.cfg, x.running, x.pairs) := by
  unfold setLatch
  split <;> rfl

/-- A cleared latch, reported or not, leaves the inputs. -/
theorem inputsOf_clearScope {scope : Nat} {after : Bool} : inputsOf c (clearScope s c scope after) = inputsOf c s := by
  unfold clearScope
  extract_lets l
  split
  · rfl
  · split
    · exact inputsOf_of_safety safetyEvent_safety
    · rename_i v w z _ _ _
      have hw : inputsOf c w = inputsOf c v := by
        refine inputsOf_onChan ?_
        exact fun _ => setLatch_inputs
      have hz : inputsOf c z = inputsOf c w := by
        refine inputsOf_onChan ?_
        exact fun _ => rfl
      have hv : inputsOf c v = inputsOf c s := inputsOf_of_safety safetyEvent_safety
      have hz : inputsOf c z = inputsOf c s := hz.trans (hw.trans hv)
      split
      · refine (each_keeps ?_).trans hz
        exact fun _ _ => rfl
      · exact hz

theorem inputsOf_resetEdge {p : Nat} {after : Bool} : inputsOf c (resetEdge s c p after) = inputsOf c s := by
  have hfold (l : List Nat) (s : State) : inputsOf c (l.foldr (fun h s => clearScope s c h after) s) = inputsOf c s := by
    induction l with
    | nil => rfl
    | cons h l ih => exact inputsOf_clearScope.trans ih
  unfold resetEdge
  dsimp only
  split
  · exact hfold _ _
  · exact each_keeps fun _ _ => inputsOf_clearScope

theorem inputsOf_sampleReset {p : Nat} : inputsOf c (sampleReset c s p) = inputsOf c s := by
  unfold sampleReset
  extract_lets x
  generalize evalReset (tabGet x.resets {} p) (tabGet x.pairs {} p).closed s.sys.safe = e
  obtain ⟨t, stuck, edge⟩ := e
  dsimp only
  generalize hv : s.onChan c (fun x => { x with resets := tabSet x.resets p t }) = v
  have hv : inputsOf c v = inputsOf c s := hv ▸ inputsOf_onChan fun _ => rfl
  generalize hw : (if stuck = true then safetyEvent v 4 (resetScope x p) 0 (chanNo c) p else v) = w
  have hw : inputsOf c w = inputsOf c s := by
    rw [← hw]
    split
    · exact (inputsOf_of_safety safetyEvent_safety).trans hv
    · exact hv
  split
  · exact hw
  · split
    · exact inputsOf_resetEdge.trans hw
    · refine (inputsOf_onChan ?_).trans hw
      exact fun _ => rfl

/-! ### One sample (10 R280, R287, R288) -/

/-- A pair's sample changes that pair by its program, and no other input. -/
theorem inputsOf_samplePair {raw : BitVec 32} {p : Nat} : inputsOf c (samplePair c raw s p) = inputsOf c (s.onChan c fun x => { x with
    pairs := tabSet x.pairs p (evalPair (tabGet x.cfg.pairs {} p) (tabGet x.pairs {} p) (raw.getLsbD (2 * p)) (raw.getLsbD (2 * p + 1))) }) := by
  unfold samplePair
  extract_lets x was now v w
  have hw : inputsOf c w = inputsOf c v := by
    unfold w
    split
    · exact inputsOf_of_safety safetyEvent_safety
    · rfl
  refine inputsOf_pairDemand.trans (hw.trans ?_)
  simp only [inputsOf, v, State.chan_onChan_same, State.chan_onChan_ne otherChan_ne]
  rfl

/-- The inputs of a running channel after a sample: its read-back and its time, its configuration and the other channel kept, and
each pair evaluated by its own configuration from its own lines. -/
theorem sampleSafety_inputs {raw : BitVec 32} {rb : BitVec 24} (hrun : (s.chan c).running = true) :
    ((sampleSafety s c raw rb).chan c).readback = rb ∧ ((sampleSafety s c raw rb).chan c).clk = (s.chan c).clk + 50 ∧
    ((sampleSafety s c raw rb).chan c).cfg = (s.chan c).cfg ∧ (sampleSafety s c raw rb).chan (otherChan c) = s.chan (otherChan c) ∧
    ∀ p, p < 16 → tabGet ((sampleSafety s c raw rb).chan c).pairs {} p =
      evalPair (tabGet (s.chan c).cfg.pairs {} p) (tabGet (s.chan c).pairs {} p) (raw.getLsbD (2 * p)) (raw.getLsbD (2 * p + 1)) := by
  unfold sampleSafety
  rw [if_neg (by simp [hrun])]
  extract_lets bad v w z
  have hv : inputsOf c v = ((rb, (s.chan c).clk + 50, (s.chan c).cfg, (s.chan c).running, (s.chan c).pairs), s.chan (otherChan c)) := by
    simp only [inputsOf, v, State.chan_onChan_same, State.chan_onChan_ne otherChan_ne]
  have hw : inputsOf c w = inputsOf c v := by
    unfold w
    split
    · exact inputsOf_latchTrip
    · rfl
  have hz : inputsOf c (z.each ((List.range 16).filter fun p => (tabGet (z.chan c).cfg.pairs {} p).func == 6) (sampleReset c)) = inputsOf c z :=
    each_keeps fun _ _ => inputsOf_sampleReset
  have hfixed : ((z.chan c).readback, (z.chan c).clk, (z.chan c).cfg, z.chan (otherChan c)) =
      ((w.chan c).readback, (w.chan c).clk, (w.chan c).cfg, w.chan (otherChan c)) :=
    each_keeps (get := fun s => ((s.chan c).readback, (s.chan c).clk, (s.chan c).cfg, s.chan (otherChan c))) fun s p => by
      have h := inputsOf_samplePair (s := s) (c := c) (raw := raw) (p := p)
      simp only [inputsOf, State.chan_onChan_same, State.chan_onChan_ne otherChan_ne, Prod.mk.injEq] at h ⊢
      obtain ⟨⟨h1, h2, h3, -⟩, h4⟩ := h
      exact ⟨h1, h2, h3, h4⟩
  simp only [inputsOf, Prod.mk.injEq] at hv hw hz hfixed
  obtain ⟨⟨hv1, hv2, hv3, -, hv5⟩, hv6⟩ := hv
  obtain ⟨⟨hw1, hw2, hw3, -, hw5⟩, hw6⟩ := hw
  obtain ⟨⟨hz1, hz2, hz3, -, hz5⟩, hz6⟩ := hz
  obtain ⟨hf1, hf2, hf3, hf4⟩ := hfixed
  refine ⟨hz1.trans (hf1.trans (hw1.trans hv1)), hz2.trans (hf2.trans (hw2.trans hv2)), hz3.trans (hf3.trans (hw3.trans hv3)),
    hz6.trans (hf4.trans (hw6.trans hv6)), fun p hp => ?_⟩
  obtain ⟨u, hu, hget⟩ := each_at (f := samplePair c raw) (get := fun s => (tabGet (s.chan c).pairs {} p, (s.chan c).cfg)) (s := w)
    List.nodup_range (List.mem_range.2 hp) fun s q hq => by
      have h := inputsOf_samplePair (s := s) (c := c) (raw := raw) (p := q)
      simp only [inputsOf, State.chan_onChan_same, Prod.mk.injEq] at h ⊢
      rw [h.1.2.2.2.2, tabGet_tabSet_ne (Ne.symm hq)]
      exact ⟨rfl, h.1.2.2.1⟩
  simp only [Prod.mk.injEq] at hu hget
  have h := inputsOf_samplePair (s := u) (c := c) (raw := raw) (p := p)
  simp only [inputsOf, State.chan_onChan_same, Prod.mk.injEq] at h
  rw [hz5, hget.1, h.1.2.2.2.2, tabGet_tabSet_same, hu.1, hu.2, hw3, hw5, hv3, hv5]

/-- A channel that does not run takes no sample. -/
theorem sampleSafety_stopped {raw : BitVec 32} {rb : BitVec 24} (h : (s.chan c).running = false) : sampleSafety s c raw rb = s :=
  if_pos (by simp [h])

/-- A sample of one channel leaves the other. -/
theorem sampleSafety_other {raw : BitVec 32} {rb : BitVec 24} :
    (sampleSafety s c raw rb).chan (otherChan c) = s.chan (otherChan c) := by
  cases hrun : (s.chan c).running with
  | true => exact (sampleSafety_inputs hrun).2.2.2.1
  | false => rw [sampleSafety_stopped hrun]

/-- The pair program (10 R288), from the filtered levels of its contacts. -/
theorem evalPair_program {k : PairCfg} {p q : PairSt} {ra rb a b : Bool} (hq : q = evalPair k p ra rb) (ha : a = q.a)
    (hb : b = if k.type = 1 then !q.b else q.b) :
    (a = b → q.dt = 0 ∧ (a = false → q.armed = true ∧ q.fault = p.fault) ∧
      (a = true → q.armed = p.armed ∧ (p.armed = true → q.fault = false) ∧ (p.armed = false → q.fault = p.fault))) ∧
    (a ≠ b → q.dt = p.dt + 50 ∧ (k.disc < p.dt + 50 → q.fault = true ∧ q.armed = false) ∧
      (p.dt + 50 ≤ k.disc → q.fault = p.fault ∧ q.armed = p.armed)) ∧
    q.closed = (a && b && !q.fault) := by
  unfold evalPair at hq
  generalize filterContact k.filt p.a ra p.tA = fA at hq
  generalize filterContact k.filt p.b rb p.tB = fB at hq
  obtain ⟨fa, tA⟩ := fA
  obtain ⟨fb, tB⟩ := fB
  dsimp only at hq
  by_cases hlevel : fa = if k.type = 1 then !fb else fb
  · rw [if_pos hlevel] at hq
    have ha : a = fa := ha.trans (by rw [hq])
    have hb : b = fa := hb.trans (by rw [hq]; exact hlevel.symm)
    rw [hq, ha, hb, ← hlevel]
    refine ⟨fun _ => ⟨rfl, fun h => ?_, fun h => ?_⟩, fun h => (h rfl).elim, rfl⟩
    · simp [h]
    · cases harm : p.armed <;> simp [h]
  · rw [if_neg hlevel] at hq
    have ha : a = fa := ha.trans (by rw [hq]; split <;> rfl)
    have hqb : q.b = fb := by rw [hq]; dsimp only; split <;> rfl
    rw [hqb] at hb
    refine ⟨fun h => (hlevel (by rw [← ha, ← hb, h])).elim, fun _ => ⟨?_, fun h => ?_, fun h => ?_⟩, ?_⟩
    · rw [hq]
      split <;> rfl
    · rw [hq, if_pos h]
      exact ⟨rfl, rfl⟩
    · rw [hq, if_neg (Nat.not_lt_of_le h)]
      exact ⟨rfl, rfl⟩
    · rw [hq, ha, hb]

/-- Settles O50: each running channel's sample through what it leaves of the inputs (`sampleSafety_inputs`), the programs by their cases. -/
theorem safeInputsAreEvaluatedEverySample : Obligations.SafeInputsAreEvaluatedEverySample := by
  refine ⟨fun core scarp coreRb scarpRb s => ⟨_, rfl, fun c hrun => ?_, fun c hstop => ?_, ?_⟩,
    fun k p q ra rb a b hq ha hb => evalPair_program hq ha hb, fun t u stuck edge r safe he => ⟨fun hr => ?_, fun hr => ?_⟩⟩
  · cases c with
    | core =>
      obtain ⟨h1, h2, h3, -, h5⟩ := sampleSafety_inputs (c := .core) (raw := core) (rb := coreRb) hrun
      have hother := sampleSafety_other (s := sampleSafety s .core core coreRb) (c := .scarp) (raw := scarp) (rb := scarpRb)
      rw [show otherChan .scarp = .core from rfl] at hother
      rw [hother]
      exact ⟨h1, h2, h3, h5⟩
    | scarp =>
      have hother := sampleSafety_other (s := s) (c := .core) (raw := core) (rb := coreRb)
      rw [show otherChan .core = .scarp from rfl] at hother
      obtain ⟨h1, h2, h3, -, h5⟩ := sampleSafety_inputs (s := sampleSafety s .core core coreRb) (c := .scarp) (raw := scarp) (rb := scarpRb)
        (by rw [hother]; exact hrun)
      rw [hother] at h2 h3 h5
      exact ⟨h1, h2, h3, h5⟩
  · cases c with
    | core =>
      rw [sampleSafety_stopped hstop]
      exact sampleSafety_other (c := .scarp)
    | scarp =>
      have hother := sampleSafety_other (s := s) (c := .core) (raw := core) (rb := coreRb)
      rw [show otherChan .core = .scarp from rfl] at hother
      rw [sampleSafety_stopped (by rw [hother]; exact hstop), hother]
  · exact sampleSafety_frame (sampleSafety_frame SameBut.rfl' rfl rfl rfl rfl) rfl rfl rfl rfl
  · subst hr
    simp only [evalReset, Prod.mk.injEq, if_true] at he
    obtain ⟨rfl, rfl, rfl⟩ := he
    cases hstuck : t.stuck <;> simp
  · subst hr
    simp only [evalReset, Prod.mk.injEq, Bool.false_eq_true, if_false] at he
    obtain ⟨rfl, rfl, rfl⟩ := he
    refine ⟨rfl, rfl, rfl, ?_, fun h => ?_, fun h => ?_⟩
    · simp [and_assoc]
    · simp [h]
    · simp [Nat.not_le_of_lt h]

end Sys2Proof.Machine
end

section
/-! What a safety channel takes from its points and links, and gives to the other channel and to the rings (03 R102, 10 R290, R294, R306,
13 R375). -/

namespace Sys2Proof.Machine

open Sys2Proof

variable {s t u : State} {c : Chan} {n : Nat}

/-! ### Passes over lists -/

/-- A pass over distinct items is a pass over those before an item, its step, and a pass over those behind it. -/
theorem each_split {α : Type} {f : State → α → State} {l : List α} {a : α} (hl : l.Nodup) (ha : a ∈ l) :
    ∃ l₁ l₂, a ∉ l₁ ∧ a ∉ l₂ ∧ s.each l f = (f (s.each l₁ f) a).each l₂ f := by
  obtain ⟨l₁, l₂, rfl⟩ := List.append_of_mem ha
  obtain ⟨-, h₂, hdisj⟩ := List.nodup_append.1 hl
  refine ⟨l₁, l₂, fun h => hdisj a h a List.mem_cons_self rfl, (List.nodup_cons.1 h₂).1, ?_⟩
  unfold State.each
  rw [List.foldl_append, List.foldl_cons]

/-- A pass keeps what the steps of its items keep. -/
theorem each_keeps_of_mem {α : Type} {f : State → α → State} {P : State → Prop} {l : List α} (h : ∀ a ∈ l, ∀ s, P s → P (f s a))
    (hs : P s) : P (s.each l f) := by
  unfold State.each
  induction l generalizing s with
  | nil => exact hs
  | cons a l ih => exact ih (fun b hb => h b (List.mem_cons_of_mem _ hb)) (h a List.mem_cons_self s hs)

/-! ### Latches while trips are latched -/

/-- A cause latched stays while trips are latched in its channel. -/
theorem mem_latchTrip {scope cause car m k : Nat} (h : k ∈ latchOf (s.chan c) m) : k ∈ latchOf ((latchTrip s c scope cause car).chan c) m := by
  have hchan : (latchTrip s c scope cause car).chan c = (latchQuiet s c scope cause).chan c := by
    cases c
    · exact congrArg SafetySt.core latchTrip_safety
    · exact congrArg SafetySt.scarp latchTrip_safety
  rw [hchan, latchQuiet_chan]
  split
  · exact h
  · exact mem_latchOf_setLatch h

/-- A trip changes of its channel nothing but the latches, and nothing of the other channel. -/
theorem latchTrip_rest {scope cause car : Nat} {x : ChanSt} (hx : x = (latchTrip s c scope cause car).chan c) :
    x.points = (s.chan c).points ∧ x.cfg = (s.chan c).cfg ∧ x.running = (s.chan c).running := by
  obtain ⟨m, h, hchan⟩ := latchTrip_chan (s := s) (c := c) (scope := scope) (cause := cause) (car := car)
  rw [hx, hchan]
  exact ⟨rfl, rfl, rfl⟩

/-- Scopes are shafts or the module. -/
theorem scopesOf_le {module : Bool} {shafts : BitVec 8} {h : Nat} (hh : h ∈ scopesOf module shafts) : h ≤ 8 := by
  unfold scopesOf at hh
  split at hh
  · exact Nat.le_of_eq (List.mem_singleton.1 hh)
  · exact Nat.le_of_lt (List.mem_range.1 (List.mem_filter.1 hh).1)

/-! ### Monitoring points (10 R290) -/

/-- A point's sample: the point by its program, and a trip where it is absent. -/
def samplePoint (c : Chan) (mv : List Nat) (s : State) (p : Nat) : State :=
  let k := tabGet (s.chan c).cfg.points {} p
  let t := evalPoint k (tabGet (s.chan c).points {} p) (mv.getD p 0)
  let s := s.onChan c fun x => { x with points := tabSet x.points p t }
  if t.present then s else s.each (scopesOf k.module k.shafts) fun s h => latchTrip s c h 2 255

variable {mv : List Nat} {p q : Nat}

/-- What a pass of trips leaves of its channel's points. -/
theorem tripPass_points {l : List Nat} {cause : Nat} : let t := s.each l fun s h => latchTrip s c h cause 255
    (t.chan c).points = (s.chan c).points ∧ (t.chan c).cfg = (s.chan c).cfg ∧ (t.chan c).running = (s.chan c).running ∧
      t.chan (otherChan c) = s.chan (otherChan c) ∧ ∀ m k, k ∈ latchOf (s.chan c) m → k ∈ latchOf (t.chan c) m := by
  refine each_keeps_of_mem (P := fun t => (t.chan c).points = (s.chan c).points ∧ (t.chan c).cfg = (s.chan c).cfg ∧
    (t.chan c).running = (s.chan c).running ∧ t.chan (otherChan c) = s.chan (otherChan c) ∧
    ∀ m k, k ∈ latchOf (s.chan c) m → k ∈ latchOf (t.chan c) m) (fun h _ u hu => ?_) ⟨rfl, rfl, rfl, rfl, fun _ _ h => h⟩
  obtain ⟨hp, hc, hr, ho, hl⟩ := hu
  obtain ⟨hp', hc', hr'⟩ := latchTrip_rest (s := u) (c := c) (scope := h) (cause := cause) (car := 255) rfl
  exact ⟨hp'.trans hp, hc'.trans hc, hr'.trans hr, (latchTrip_chan_ne otherChan_ne).trans ho, fun m k hk => mem_latchTrip (hl m k hk)⟩

/-- A pass of trips latches the cause in each of its scopes. -/
theorem tripPass_latches {l : List Nat} {cause h : Nat} (hrun : (s.chan c).running = true) (hl : ∀ k ∈ l, k ≤ 8) (hh : h ∈ l) :
    cause ∈ latchOf ((s.each l fun s h => latchTrip s c h cause 255).chan c) h := by
  induction l generalizing s with
  | nil => nomatch hh
  | cons a l ih =>
    have hrun' : ((latchTrip s c a cause 255).chan c).running = true := (latchTrip_rest rfl).2.2.trans hrun
    by_cases hin : h ∈ l
    · exact ih hrun' (fun k hk => hl k (List.mem_cons_of_mem _ hk)) hin
    · obtain rfl := (List.mem_cons.1 hh).resolve_right hin
      exact (tripPass_points (s := latchTrip s c h cause 255)).2.2.2.2 _ _ (latchesTrip_latchTrip hrun (hl _ List.mem_cons_self)).latched

/-- What a point's sample leaves of its channel and of the other. -/
theorem samplePoint_points : let k := tabGet (s.chan c).cfg.points {} p
    let v := evalPoint k (tabGet (s.chan c).points {} p) (mv.getD p 0)
    let t := samplePoint c mv s p
    (t.chan c).points = tabSet (s.chan c).points p v ∧ (t.chan c).cfg = (s.chan c).cfg ∧ (t.chan c).running = (s.chan c).running ∧
    t.chan (otherChan c) = s.chan (otherChan c) ∧ (∀ m i, i ∈ latchOf (s.chan c) m → i ∈ latchOf (t.chan c) m) ∧
    ((s.chan c).running = true → v.present = false → ∀ h ∈ scopesOf k.module k.shafts, 2 ∈ latchOf (t.chan c) h) := by
  intro k v t
  have ht : t = if v.present then s.onChan c (fun x => { x with points := tabSet x.points p v }) else _ := rfl
  have hchan : (s.onChan c fun x => { x with points := tabSet x.points p v }).chan c = _ := State.chan_onChan_same
  have hother : (s.onChan c fun x => { x with points := tabSet x.points p v }).chan (otherChan c) = _ := State.chan_onChan_ne otherChan_ne
  generalize s.onChan c (fun x => { x with points := tabSet x.points p v }) = u at ht hchan hother
  rw [ht]
  split
  next h =>
    rw [hchan]
    exact ⟨rfl, rfl, rfl, hother, fun _ _ h => h, fun _ hv => absurd (h.symm.trans hv) (by decide)⟩
  next h =>
    obtain ⟨h1, h2, h3, h4, h5⟩ := tripPass_points (s := u) (c := c) (l := scopesOf k.module k.shafts) (cause := 2)
    rw [hchan] at h1 h2 h3 h5
    exact ⟨h1, h2, h3, h4.trans hother, h5, fun hrun _ m hm => tripPass_latches (by rw [hchan]; exact hrun) (fun _ hk => scopesOf_le hk) hm⟩

/-- A channel that does not run samples no point. -/
theorem samplePoints_stopped (h : (s.chan c).running = false) : samplePoints s c mv = s := if_pos (by simp [h])

theorem samplePoints_runs (h : (s.chan c).running = true) : samplePoints s c mv =
    s.each ((List.range 4).filter fun p => (tabGet (s.chan c).cfg.points {} p).mode != 0) (samplePoint c mv) := if_neg (by simp [h])

/-- The points of one channel leave the other channel. -/
theorem samplePoints_other : (samplePoints s c mv).chan (otherChan c) = s.chan (otherChan c) := by
  cases hrun : (s.chan c).running with
  | false => rw [samplePoints_stopped hrun]
  | true =>
    rw [samplePoints_runs hrun]
    exact each_keeps (get := (State.chan · (otherChan c))) fun _ _ => samplePoint_points.2.2.2.1

/-- A point that is not sampled stays through the samples of others, with the configuration. -/
theorem samplePoint_others {l : List Nat} (hp : p ∉ l) :
    tabGet ((s.each l (samplePoint c mv)).chan c).points {} p = tabGet (s.chan c).points {} p ∧
    ((s.each l (samplePoint c mv)).chan c).cfg = (s.chan c).cfg ∧ ((s.each l (samplePoint c mv)).chan c).running = (s.chan c).running ∧
    ∀ m i, i ∈ latchOf (s.chan c) m → i ∈ latchOf ((s.each l (samplePoint c mv)).chan c) m := by
  refine each_keeps_of_mem (P := fun t => tabGet (t.chan c).points {} p = tabGet (s.chan c).points {} p ∧
    (t.chan c).cfg = (s.chan c).cfg ∧ (t.chan c).running = (s.chan c).running ∧
    ∀ m i, i ∈ latchOf (s.chan c) m → i ∈ latchOf (t.chan c) m) (fun q hq u hu => ?_) ⟨rfl, rfl, rfl, fun _ _ h => h⟩
  obtain ⟨h1, h2, h3, h4⟩ := hu
  obtain ⟨g1, g2, g3, -, g5, -⟩ := samplePoint_points (s := u) (c := c) (mv := mv) (p := q)
  exact ⟨by rw [g1, tabGet_tabSet_ne (fun h => hp (by rw [h]; exact hq)), h1], g2.trans h2, g3.trans h3, fun m i hi => g5 m i (h4 m i hi)⟩

/-- The points of a running channel: each configured one by its own program, an absent one with its trip; others as before. -/
theorem samplePoints_at (hrun : (s.chan c).running = true) : let k := tabGet (s.chan c).cfg.points {} p
    let v := evalPoint k (tabGet (s.chan c).points {} p) (mv.getD p 0)
    let t := samplePoints s c mv
    (p < 4 → k.mode ≠ 0 → tabGet (t.chan c).points {} p = v ∧
      ((tabGet (t.chan c).points {} p).present = false → ∀ h ∈ scopesOf k.module k.shafts, 2 ∈ latchOf (t.chan c) h)) ∧
    (k.mode = 0 → tabGet (t.chan c).points {} p = tabGet (s.chan c).points {} p) := by
  intro k v t
  have ht : t = _ := samplePoints_runs hrun
  rw [ht]
  refine ⟨fun hp hmode => ?_, fun hmode => (samplePoint_others fun h => ?_).1⟩
  · obtain ⟨l₁, l₂, h₁, h₂, hsplit⟩ := each_split (s := s) (f := samplePoint c mv)
      (List.nodup_range.filter fun p => (tabGet (s.chan c).cfg.points {} p).mode != 0)
      (List.mem_filter.2 ⟨List.mem_range.2 hp, bne_iff_ne.2 hmode⟩)
    rw [hsplit]
    obtain ⟨a1, a2, a3, -⟩ := samplePoint_others (s := s) (c := c) (mv := mv) h₁
    obtain ⟨b1, -, -, -, -, b6⟩ := samplePoint_points (s := s.each l₁ (samplePoint c mv)) (c := c) (mv := mv) (p := p)
    rw [a1, a2] at b1 b6
    obtain ⟨c1, -, -, c4⟩ := samplePoint_others (s := samplePoint c mv (s.each l₁ (samplePoint c mv)) p) (c := c) (mv := mv) h₂
    rw [b1, tabGet_tabSet_same] at c1
    exact ⟨c1, fun hpresent h hh => c4 _ _ (b6 (a3.trans hrun) (c1 ▸ hpresent) h hh)⟩
  · exact bne_iff_ne.1 (List.mem_filter.1 h).2 hmode

/-! ### STOP on the rings (03 R102) -/

/-- STOP on one ring, counted. -/
def stopRing (s : State) (r : Nat) : State := bump (s.onRing r fun g => { g with out := (.stop 1, 64) :: g.out }) (cRing r 15)

/-- Each ring of a list without doubles sends STOP once and counts it; the others do nothing. -/
theorem stopRings_ring {l : List Nat} (hl : l.Nodup) :
    (n ∉ l → (s.each l stopRing).ring n = s.ring n) ∧
    (n ∈ l → (s.each l stopRing).ring n = { s.ring n with out := (.stop 1, 64) :: (s.ring n).out } ∧
      tabGet (s.each l stopRing).ctr.cnt 0 (cRing n 15) = satAdd max48 (tabGet s.ctr.cnt 0 (cRing n 15)) 1) := by
  have hother (u : State) (m : Nat) (hm : m ≠ n) : ((stopRing u m).ring n, tabGet (stopRing u m).ctr.cnt 0 (cRing n 15)) =
      (u.ring n, tabGet u.ctr.cnt 0 (cRing n 15)) := by
    have hcnt : cRing n 15 ≠ cRing m 15 := by unfold cRing; omega
    rw [stopRing, ring_bump, State.ring_onRing_ne (Ne.symm hm), countsOne_bump, if_neg hcnt]
    rfl
  refine ⟨fun hn => ?_, fun hn => ?_⟩
  · exact each_keeps_of_mem (P := fun t => t.ring n = s.ring n) (fun m hm u hu =>
      (congrArg Prod.fst (hother u m fun h => hn (h ▸ hm))).trans hu) rfl
  · obtain ⟨u, hu, hget⟩ := each_at (s := s) (f := stopRing) (get := fun s => (s.ring n, tabGet s.ctr.cnt 0 (cRing n 15))) hl hn
      fun u m hm => hother u m hm
    simp only [Prod.mk.injEq] at hu hget
    obtain ⟨hu1, hu2⟩ := hu
    obtain ⟨hg1, hg2⟩ := hget
    rw [hg1, hg2, stopRing, ring_bump, State.ring_onRing_same, countsOne_bump, if_pos rfl, hu1]
    exact ⟨rfl, by rw [← hu2]; rfl⟩

/-- Of a table whose numbers differ an entry is what its number finds. -/
theorem tabGet_of_mem {α : Type} {l : Tab α} {d v : α} {k : Nat} (hl : (l.map (·.1)).Nodup) (h : (k, v) ∈ l) : tabGet l d k = v := by
  induction l with
  | nil => nomatch h
  | cons a l ih =>
    obtain ⟨j, w⟩ := a
    obtain ⟨hj, hl⟩ := List.nodup_cons.1 hl
    rcases List.mem_cons.1 h with h | h
    · obtain ⟨rfl, rfl⟩ := Prod.mk.inj h
      exact if_pos rfl
    · have hne : j ≠ k := fun he => hj (List.mem_map.2 ⟨(k, v), h, he.symm⟩)
      exact (if_neg hne).trans (ih hl h)

/-- The rings that are lit, by their numbers. -/
def litRings (s : State) : List Nat := (s.rings.filter fun p => p.2.state != .off && p.2.state != .sleeping).map (·.1)

theorem mem_litRings (hn : (s.rings.map (·.1)).Nodup) : n ∈ litRings s ↔ (s.ring n).state ≠ .off ∧ (s.ring n).state ≠ .sleeping := by
  unfold litRings
  constructor
  · intro h
    obtain ⟨⟨m, g⟩, hmem, rfl⟩ := List.mem_map.1 h
    obtain ⟨hin, hlit⟩ := List.mem_filter.1 hmem
    rw [State.ring, tabGet_of_mem hn hin]
    simpa using hlit
  · rintro ⟨hoff, hsleep⟩
    refine List.mem_map.2 ⟨(n, s.ring n), List.mem_filter.2 ⟨mem_of_tabGet_ne fun h => hoff ?_, by simp [hoff, hsleep]⟩, rfl⟩
    rw [State.ring, h]

theorem sendStop_eq : sendStop s = s.each (litRings s) stopRing := rfl

/-! ### Safe link frames (10 R293 to R303) -/

/-- What a channel has taken of its frames: its streams and its cars' records; and the whole of the other channel. -/
def framesOf (c : Chan) (s : State) : Tab StreamSt × (Bool → Nat → Option CarRec) × Bool × ChanSt :=
  ((s.chan c).streams, recOf (s.chan c), (s.chan c).running, s.chan (otherChan c))

theorem framesOf_of_safety (h : t.safety = s.safety) : framesOf c t = framesOf c s := by
  have hchan (d : Chan) : t.chan d = s.chan d := by cases d <;> simp [State.chan, h]
  rw [framesOf, hchan, hchan, framesOf]

/-- A change of a channel beside its streams and its records leaves what it has taken. -/
theorem framesOf_onChan {f : ChanSt → ChanSt} (hstreams : ∀ x, (f x).streams = x.streams) (hrun : ∀ x, (f x).running = x.running)
    (hrec : ∀ x b n, recOf (f x) b n = recOf x b n) : framesOf c (s.onChan c f) = framesOf c s := by
  have hrec : recOf (f (s.chan c)) = recOf (s.chan c) := funext fun b => funext (hrec _ b)
  rw [framesOf, State.chan_onChan_same, State.chan_onChan_ne otherChan_ne, hstreams, hrun, hrec, framesOf]

theorem framesOf_latchTrip {scope cause car : Nat} : framesOf c (latchTrip s c scope cause car) = framesOf c s := by
  obtain ⟨m, h, hchan⟩ := latchTrip_chan (s := s) (c := c) (scope := scope) (cause := cause) (car := car)
  rw [framesOf, hchan, latchTrip_chan_ne otherChan_ne, framesOf]
  rfl

theorem framesOf_startSs1 {h cause : Nat} : framesOf c (startSs1 s c h cause) = framesOf c s := by
  unfold startSs1
  extract_lets x l fast
  split
  · rfl
  · refine (framesOf_of_safety safetyEvent_safety).trans (framesOf_onChan ?_ ?_ ?_) <;> intros <;> rfl

theorem framesOf_actDemand {h car cause : Nat} : framesOf c (actDemand c h car s cause) = framesOf c s := by
  unfold actDemand
  dsimp only
  split
  · exact framesOf_startSs1
  · exact framesOf_latchTrip

theorem framesOf_watchSs1 {b : Bool} {h : Nat} : framesOf c (watchSs1 s c b h) = framesOf c s := by
  unfold watchSs1
  extract_lets x sh t vels
  split
  · rfl
  · split
    · refine framesOf_latchTrip.trans (framesOf_onChan ?_ ?_ ?_) <;> intros <;> rfl
    · refine framesOf_onChan ?_ ?_ ?_ <;> intros <;> rfl

/-- A change of a car beside its records leaves the records. -/
theorem recOf_tabMod {x : ChanSt} {f : SafeCarSt → SafeCarSt} (hf : ∀ y, (f y).recA = y.recA ∧ (f y).recB = y.recB) {b : Bool} {m : Nat} :
    recOf { x with cars := tabMod x.cars {} n f } b m = recOf x b m := by
  unfold recOf safeCarOf
  by_cases h : m = n
  · subst h
    simp only [tabGet_tabMod_same, (hf _).1, (hf _).2]
  · simp only [tabGet_tabMod_ne h]

/-- A pass over the cars of a shaft that keeps what they evaluate leaves the records. -/
theorem recOf_foldl {x : ChanSt} {l : List SafeCar} {rec? : Nat → Option CarRec} {f : SafeCar → CarRec → SafeCarSt → SafeCarSt}
    (hf : ∀ k r y, (f k r y).recA = y.recA ∧ (f k r y).recB = y.recB) {b : Bool} {m : Nat} :
    recOf { x with cars := l.foldl (fun t k => match rec? k.car with | none => t | some r => tabMod t {} k.car (f k r)) x.cars } b m =
      recOf x b m := by
  induction l generalizing x with
  | nil => rfl
  | cons k l ih =>
    rw [List.foldl_cons]
    cases rec? k.car with
    | none => exact ih
    | some r => exact (ih (x := { x with cars := tabMod x.cars {} k.car (f k r) })).trans (recOf_tabMod (hf k r))

theorem framesOf_evalShaft {b : Bool} {h : Nat} : framesOf c (evalShaft c b s h) = framesOf c s := by
  unfold evalShaft
  extract_lets sh was v x dem w z
  have hv : framesOf c v = framesOf c s := by
    refine framesOf_onChan ?_ ?_ fun x b' m => ?_
    · exact fun _ => rfl
    · exact fun _ => rfl
    · exact recOf_foldl (fun k r y => by dsimp only; split <;> exact ⟨rfl, rfl⟩)
  have hw : framesOf c w = framesOf c v := by
    refine framesOf_onChan ?_ ?_ ?_ <;> intros <;> rfl
  exact framesOf_watchSs1.trans ((each_keeps fun _ _ => framesOf_actDemand).trans (hw.trans hv))

/-- The stream of a link as an accepted frame leaves it. -/
def streamOf (x : ChanSt) (l : Nat) (b : Bool) (bytes : List Byte) : StreamSt :=
  let recs := (safeRecs bytes b).filter (assigned (tabGet x.cfg.links {} l))
  { seq := some (leAt bytes 4 2), lost := false, good := min 255 ((tabGet x.streams {} (2 * l + b2n b)).good + 1)
    cars := recs.filterMap fun r => match r with | .car n x => some (n, x) | _ => none
    locks := recs.filterMap fun r => match r with | .locks h d w => some (h, d, w) | _ => none
    proof := recs.findSome? fun r => match r with | .groups w => some w | _ => none }

/-- A channel that takes an accepted frame: its stream, its records, and the cars of the link that the frame leaves out. -/
def frameTaken (l : Nat) (b : Bool) (bytes : List Byte) (x : ChanSt) : ChanSt :=
  ((tabGet x.cfg.links {} l).cars.filter fun n => !(streamOf x l b bytes).cars.any fun p => p.1 == n).foldl (missCar b)
    (((safeRecs bytes b).filter (assigned (tabGet x.cfg.links {} l))).foldl (takeRec b)
      { x with streams := tabSet x.streams (2 * l + b2n b) (streamOf x l b bytes) })

/-- What an accepted frame leads to beside its taking leaves the streams and the records. -/
theorem framesOf_acceptFrame {l : Nat} {b : Bool} {bytes : List Byte} :
    framesOf c (acceptFrame s c l b bytes) = framesOf c (s.onChan c (frameTaken l b bytes)) := by
  unfold acceptFrame
  extract_lets k all recs seq u st absent v x o paired diff w w₂ w₃
  have hv : framesOf c v = framesOf c (s.onChan c (frameTaken l b bytes)) := by
    have h : v.safety = (s.onChan c (frameTaken l b bytes)).safety := by cases c <;> rfl
    exact framesOf_of_safety h
  have hw : framesOf c w = framesOf c v := by
    unfold w
    split
    · rfl
    · refine framesOf_onChan ?_ ?_ ?_ <;> intros <;> rfl
  have hw₂ : framesOf c w₂ = framesOf c w := by
    unfold w₂
    split
    · exact each_keeps fun _ _ => framesOf_latchTrip
    · rfl
  have hw₃ : framesOf c w₃ = framesOf c w₂ := by
    refine each_keeps fun t n => ?_
    dsimp only
    split
    · have hon : framesOf c (t.onChan c fun x => { x with cars := tabMod x.cars {} n fun y => { y with lost := true } }) = framesOf c t := by
        refine framesOf_onChan ?_ ?_ fun x b' m => ?_
        · exact fun _ => rfl
        · exact fun _ => rfl
        · exact recOf_tabMod (f := fun y => { y with lost := true }) fun _ => ⟨rfl, rfl⟩
      split
      · exact framesOf_latchTrip.trans hon
      · exact hon
    · rfl
  exact (each_keeps fun _ _ => framesOf_evalShaft).trans (hw₃.trans (hw₂.trans (hw.trans hv)))

/-- Taking records leaves the streams. -/
theorem frameTaken_streams {l : Nat} {b : Bool} {bytes : List Byte} {x : ChanSt} :
    (frameTaken l b bytes x).streams = tabSet x.streams (2 * l + b2n b) (streamOf x l b bytes) := by
  have hmiss (l : List Nat) (y : ChanSt) : (l.foldl (missCar b) y).streams = y.streams := by
    induction l generalizing y with
    | nil => rfl
    | cons a l ih => exact (ih _).trans rfl
  have htake (l : List SafeRec) (y : ChanSt) : (l.foldl (takeRec b) y).streams = y.streams := by
    induction l generalizing y with
    | nil => rfl
    | cons a l ih => exact (ih _).trans (by cases a <;> rfl)
  rw [frameTaken, hmiss, htake]

/-- A frame of one valid record of a car of its link leaves that record. -/
theorem recOf_frameTaken {l : Nat} {b : Bool} {bytes : List Byte} {x : ChanSt} {r : CarRec} (h : safeRecs bytes b = [.car n r])
    (hcar : (tabGet x.cfg.links {} l).cars.contains n = true) (hvalid : recValid r = true) : recOf (frameTaken l b bytes x) b n = some r := by
  have hrecs : (safeRecs bytes b).filter (assigned (tabGet x.cfg.links {} l)) = [.car n r] := by
    rw [h]
    exact List.filter_cons_of_pos hcar
  have hmiss (l : List Nat) (y : ChanSt) : recOf (l.foldl (missCar b) y) b n = recOf y b n := by
    induction l generalizing y with
    | nil => rfl
    | cons a l ih => exact (ih _).trans (recOf_tabMod fun k => by cases b <;> exact ⟨rfl, rfl⟩)
  rw [frameTaken, hmiss, hrecs]
  cases b <;> simp [recOf, safeCarOf, takeRec, hvalid]

/-- What an accepted frame leaves of its channel and the other (10 R294). -/
theorem acceptFrame_taken {l : Nat} {b : Bool} {bytes : List Byte} : let t := acceptFrame s c l b bytes
    tabGet (t.chan c).streams {} (2 * l + b2n b) = streamOf (s.chan c) l b bytes ∧ t.chan (otherChan c) = s.chan (otherChan c) ∧
    ∀ n, recOf (t.chan c) b n = recOf (frameTaken l b bytes (s.chan c)) b n := by
  intro t
  have h : framesOf c t = _ := framesOf_acceptFrame
  clear_value t
  rw [framesOf, framesOf, State.chan_onChan_same, State.chan_onChan_ne otherChan_ne] at h
  simp only [Prod.mk.injEq] at h
  obtain ⟨hs, hr, -, ho⟩ := h
  exact ⟨by rw [hs, frameTaken_streams, tabGet_tabSet_same], ho, fun n => by rw [hr]⟩

/-- Publishing a frame changes the multi-module part alone. -/
theorem publishFrame_touches {l : LinkSrc} {b : Bool} {bytes : List Byte} : SameBut (among [.multi]) s (publishFrame s l b bytes) :=
  publishFrame_frame SameBut.rfl' rfl

/-! ### The exchange between the modules of a pair (13 R375) -/

/-- The channel with a pair frame taken. -/
def pairTaken (bytes : List Byte) (crc good : Nat) (x : ChanSt) : ChanSt :=
  { x with
    pairSeq := some (leAt bytes 4 2), pairGood := good, pairCrcDiff := crc != imageCrc x.image
    pairOff := x.pairOff && decide (good < x.cfg.linkTo) }

/-- What the exchange has told a channel, and the whole of the other. -/
def pairOf (c : Chan) (s : State) : Option Nat × Nat × Bool × Bool × ChanSt :=
  ((s.chan c).pairSeq, (s.chan c).pairGood, (s.chan c).pairCrcDiff, (s.chan c).running, s.chan (otherChan c))

theorem pairOf_latchTrip {scope cause car : Nat} : pairOf c (latchTrip s c scope cause car) = pairOf c s := by
  obtain ⟨m, h, hchan⟩ := latchTrip_chan (s := s) (c := c) (scope := scope) (cause := cause) (car := car)
  rw [pairOf, hchan, latchTrip_chan_ne otherChan_ne, pairOf]

/-- The latches that the partner's frame names for its shafts. -/
def latchShaft (c : Chan) (l : List Nat) (s : State) (h : Nat) : State :=
  if l.getD h 0 = 0 then s else latchTrip s c h (l.getD h 0) 255

theorem latchShaft_keeps {l : List Nat} {h m k : Nat} (hk : k ∈ latchOf (s.chan c) m) : k ∈ latchOf ((latchShaft c l s h).chan c) m := by
  unfold latchShaft
  split
  · exact hk
  · exact mem_latchTrip hk

theorem pairOf_latchShaft {l : List Nat} {h : Nat} : pairOf c (latchShaft c l s h) = pairOf c s := by
  unfold latchShaft
  split
  · rfl
  · exact pairOf_latchTrip

/-- What a good frame of the partner does. -/
def pairLatched (s : State) (c : Chan) (m : Nat) (l : List Nat) : State :=
  (if m = 0 then s else latchTrip s c 8 m 255).each (List.range 8) (latchShaft c l)

theorem pairOf_pairLatched {m : Nat} {l : List Nat} : pairOf c (pairLatched s c m l) = pairOf c s := by
  refine (each_keeps fun _ _ => pairOf_latchShaft).trans ?_
  split
  · rfl
  · exact pairOf_latchTrip

theorem mem_pairLatched_module {m : Nat} {l : List Nat} (hrun : (s.chan c).running = true) (hm : m ≠ 0) :
    m ∈ latchOf ((pairLatched s c m l).chan c) 8 := by
  refine each_keeps_of_mem (P := fun t => m ∈ latchOf (t.chan c) 8) (fun _ _ _ => latchShaft_keeps) ?_
  rw [if_neg hm]
  exact (latchesTrip_latchTrip hrun (Nat.le_refl 8)).latched

theorem mem_pairLatched_shaft {m h : Nat} {l : List Nat} (hrun : (s.chan c).running = true) (hh : h < 8) (hm : l.getD h 0 ≠ 0) :
    l.getD h 0 ∈ latchOf ((pairLatched s c m l).chan c) h := by
  unfold pairLatched
  have hu : ((if m = 0 then s else latchTrip s c 8 m 255).chan c).running = true := by
    split
    · exact hrun
    · exact (latchTrip_rest rfl).2.2.trans hrun
  generalize (if m = 0 then s else latchTrip s c 8 m 255) = u at hu
  obtain ⟨l₁, l₂, -, -, hsplit⟩ := each_split (s := u) (f := latchShaft c l) List.nodup_range (List.mem_range.2 hh)
  rw [hsplit]
  refine each_keeps_of_mem (P := fun t => l.getD h 0 ∈ latchOf (t.chan c) h) (fun _ _ _ => latchShaft_keeps) ?_
  have hrun₁ : ((u.each l₁ (latchShaft c l)).chan c).running = true :=
    (congrArg (·.2.2.2.1) (each_keeps (s := u) (l := l₁) fun _ _ => pairOf_latchShaft)).trans hu
  rw [latchShaft, if_neg hm]
  exact (latchesTrip_latchTrip hrun₁ (Nat.le_of_lt hh)).latched

theorem pairLatched_touches {m : Nat} {l : List Nat} : SameBut (among [.safety, .cairn, .ctr]) s (pairLatched s c m l) := by
  refine State.each_frame ?_ fun u h hu => SameBut.ite hu (latchTrip_touches hu)
  exact SameBut.ite SameBut.rfl' (latchTrip_touches SameBut.rfl')

/-! ### A reset in one channel only (10 R306) -/

/-- The channel with its cleared latches of a scope forgotten. -/
def forgetCleared (n : Nat) (x : ChanSt) : ChanSt := { x with cleared := tabDel x.cleared n }

theorem latchOf_forgetCleared {x : ChanSt} {m : Nat} : latchOf (forgetCleared n x) m = latchOf x m := rfl

theorem cleared_forgetCleared {x : ChanSt} : tabGet (forgetCleared n x).cleared [] n = [] := tabGet_of_not_tabHas tabHas_tabDel_same

/-- The channel that latches again what it cleared. -/
def latchAgain (n : Nat) (l : List Nat) (x : ChanSt) : ChanSt :=
  setLatch x n (latchOf x n ++ l.filter fun k => !(latchOf x n).contains k)

theorem mem_latchAgain {x : ChanSt} {l : List Nat} {k : Nat} : k ∈ latchOf (latchAgain n l x) n ↔ k ∈ latchOf x n ∨ k ∈ l := by
  rw [latchAgain, latchOf_setLatch_same]
  by_cases h : k ∈ latchOf x n <;> simp [h]

theorem cleared_latchAgain {x : ChanSt} {l : List Nat} : (latchAgain n l x).cleared = x.cleared := by
  unfold latchAgain setLatch
  split <;> rfl

/-- The channel with a loss of the pair's exchange noted. -/
def pairLost (sixteen leading : Bool) (x : ChanSt) : ChanSt := { x with pairGood := 0, pairOff := x.pairOff || (sixteen && !leading) }

/-- The module with a loss of the pair's exchange noted. -/
def lossNoted (s : State) (c : Chan) (sixteen : Bool) : State :=
  (s.onChan c (pairLost sixteen (isLeading s))).onRed fun r => { r with exchLost := true }

/-- Settles O51: a channel's points, frames and pair records change that channel alone, each view of it (the point, the stream, the record,
the latch) through its own step; the latches of a pass stay through its other steps. -/
theorem safetyChannelsTakeFramesAndSendStops : Obligations.SafetyChannelsTakeFramesAndSendStops := by
  intro s
  have hpair (c : Chan) (hrun : (s.chan c).running = true) (hpartner : s.sys.manifest.partner ≠ 0) :
      ¬ (!(s.chan c).running || s.sys.manifest.partner == 0) = true := by simp [hrun, hpartner]
  refine ⟨fun a b => ?_, fun c l b bytes k st hrun hk hst => ?_, fun l b bytes hrun => ?_, fun htrip hnodup => ?_, fun htrip => ?_,
    fun c sc l hsc hl => ?_, fun c hrun hpartner => ⟨fun bytes hbad => ?_, fun bytes m l crc rest hok hseq hrecs => ?_, fun sixteen => ?_⟩,
    fun c bytes sixteen hno => ?_⟩
  · have hcore : (samplePoints (samplePoints s .core a) .scarp b).chan .core = (samplePoints s .core a).chan .core := samplePoints_other (c := .scarp)
    have hscarp : (samplePoints s .core a).chan .scarp = s.chan .scarp := samplePoints_other (c := .core)
    refine ⟨_, rfl, samplePoints_frame (samplePoints_frame SameBut.rfl' rfl rfl rfl) rfl rfl rfl, fun c hstop => ?_, fun c p hrun => ?_⟩
    · cases c
      · rw [hcore, samplePoints_stopped hstop]
      · rw [samplePoints_stopped (by rw [hscarp]; exact hstop), hscarp]
    · cases c
      · rw [hcore]
        exact samplePoints_at hrun
      · have h := samplePoints_at (s := samplePoints s .core a) (c := .scarp) (mv := b) (p := p) (by rw [hscarp]; exact hrun)
        rw [hscarp] at h
        exact h
  · have hu : SameBut (among [.multi]) s (if c = .core then publishFrame s l b bytes else s) := SameBut.ite publishFrame_touches SameBut.rfl'
    have hexec : exec (.safeLinkFrameRx c l b bytes) s =
      .next (safeFrame (if c = .core then publishFrame s l b bytes else s) c (linkNo l) b bytes) := rfl
    generalize (if c = .core then publishFrame s l b bytes else s) = u at hu hexec ⊢
    have hsafety : u.safety = s.safety := hu.2 .safety rfl
    have hchan (d : Chan) : u.chan d = s.chan d := by cases d <;> simp [State.chan, hsafety]
    have hstep : safeFrame u c (linkNo l) b bytes = if (frameOk bytes (if b then k.srcB else k.srcA) b && seqOk st.seq st.lost (leAt bytes 4 2)) = true
        then acceptFrame u c (linkNo l) b bytes else bump u (cMem 13) := by
      subst hk hst
      rw [← hchan c] at hrun ⊢
      exact if_neg (by simp [hrun])
    have htouches : SameBut (among [.safety, .cairn, .ctr]) u (safeFrame u c (linkNo l) b bytes) := safeFrame_frame SameBut.rfl' rfl rfl rfl
    obtain ⟨htaken, hother, hrec⟩ := acceptFrame_taken (s := u) (c := c) (l := linkNo l) (b := b) (bytes := bytes)
    refine ⟨_, hexec, ?_, (hu.wider rfl).trans (htouches.wider rfl), htouches.2 .multi rfl, fun hbad => ?_, fun hgood => ?_⟩
    · rw [hstep]
      by_cases hok : (frameOk bytes (if b then k.srcB else k.srcA) b && seqOk st.seq st.lost (leAt bytes 4 2)) = true
      · rw [if_pos hok]
        exact hother.trans (hchan _)
      · rw [if_neg hok]
        exact hchan _
    · rw [hstep, if_neg (by simp [hbad])]
      exact ⟨countsOne_bump.of_eq (hu.2 .ctr rfl).symm rfl, hsafety⟩
    · rw [hstep, if_pos hgood, htaken, hst, ← hchan c]
      refine ⟨rfl, rfl, rfl, fun n x hrecs hcar hvalid => (hrec n).trans (recOf_frameTaken hrecs ?_ hvalid)⟩
      rw [hchan, ← hk]
      exact hcar
  · exact congrArg Host.Outcome.next (if_pos (by simp [State.chan, hrun]))
  · refine ⟨_, congrArg Host.Outcome.next ((if_neg (by simp [htrip])).trans sendStop_eq), sendStop_frame SameBut.rfl' rfl rfl, fun r => ?_⟩
    have hlit : (litRings s).Nodup := (List.filter_sublist.map _).nodup hnodup
    obtain ⟨hdark, hstop⟩ := stopRings_ring (s := s) (n := r) hlit
    refine ⟨fun h => hdark fun hin => ?_, fun hoff hsleep => hstop ((mem_litRings hnodup).2 ⟨hoff, hsleep⟩)⟩
    obtain ⟨hoff, hsleep⟩ := (mem_litRings hnodup).1 hin
    exact h.elim hoff hsleep
  · exact congrArg Host.Outcome.next (if_pos (by simp [htrip]))
  · subst hl
    by_cases hany : ((tabGet (s.chan c).cleared [] (scopeNo sc)).any (latchOf (s.chan (otherChan c)) (scopeNo sc)).contains) = true
    · refine ⟨_, congrArg Host.Outcome.next (if_pos hany), ?_⟩
      have hu : SameBut (among [.safety]) s ((s.onChan c (forgetCleared (scopeNo sc))).onChan c
          (latchAgain (scopeNo sc) (tabGet (s.chan c).cleared [] (scopeNo sc)))) := State.onChan_frame (State.onChan_frame SameBut.rfl' rfl) rfl
      have hc : ((s.onChan c (forgetCleared (scopeNo sc))).onChan c (latchAgain (scopeNo sc) (tabGet (s.chan c).cleared [] (scopeNo sc)))).chan c =
          latchAgain (scopeNo sc) (tabGet (s.chan c).cleared [] (scopeNo sc)) (forgetCleared (scopeNo sc) (s.chan c)) := by
        rw [State.chan_onChan_same, State.chan_onChan_same]
      have ho : ((s.onChan c (forgetCleared (scopeNo sc))).onChan c (latchAgain (scopeNo sc)
          (tabGet (s.chan c).cleared [] (scopeNo sc)))).chan (otherChan c) = s.chan (otherChan c) :=
        (State.chan_onChan_ne otherChan_ne).trans (State.chan_onChan_ne otherChan_ne)
      have hsafety (u : State) (code scope cause channel : Nat) (value : Int) (d : Chan) :
          (safetyEvent u code scope cause channel value).chan d = u.chan d := by cases d <;> simp [State.chan, safetyEvent_safety]
      refine ⟨?_, ?_, (hu.wider rfl).trans (safetyEvent_touches.wider rfl), fun _ k => ?_, fun h => absurd hany (by simp [h])⟩
      · refine (congrArg (tabGet · [] _) (congrArg ChanSt.cleared ((hsafety _ _ _ _ _ _ _).trans hc))).trans ?_
        rw [cleared_latchAgain]
        exact cleared_forgetCleared
      · exact (hsafety _ _ _ _ _ _ _).trans ho
      · exact (iff_of_eq (congrArg (k ∈ latchOf · _) ((hsafety _ _ _ _ _ _ _).trans hc))).trans mem_latchAgain
    · refine ⟨_, congrArg Host.Outcome.next (if_neg hany), ?_, State.chan_onChan_ne otherChan_ne, State.onChan_frame SameBut.rfl' rfl,
        fun h => absurd h hany, fun _ => ?_⟩ <;> rw [State.chan_onChan_same]
      · exact cleared_forgetCleared
      · rfl
  · refine ⟨_, (if_neg (hpair c hrun hpartner)).trans (if_neg (by rw [hbad]; decide)), countsOne_bump, bump_frame SameBut.rfl' rfl⟩
  · have hexec : exec (.pairSafeFrameRx c bytes) s = .next (pairLatched (s.onChan c (pairTaken bytes crc (min 255 ((s.chan c).pairGood + 1)))) c m l) := by
      refine (if_neg (hpair c hrun hpartner)).trans ((if_pos (by rw [hok, hseq]; decide)).trans ?_)
      rw [hrecs]
      rfl
    have hu : pairOf c (pairLatched (s.onChan c (pairTaken bytes crc (min 255 ((s.chan c).pairGood + 1)))) c m l) = _ := pairOf_pairLatched
    have hrun' : ((s.onChan c (pairTaken bytes crc (min 255 ((s.chan c).pairGood + 1)))).chan c).running = true := by
      rw [State.chan_onChan_same]
      exact hrun
    have htouches : SameBut (among [.safety]) s (s.onChan c (pairTaken bytes crc (min 255 ((s.chan c).pairGood + 1)))) := State.onChan_frame SameBut.rfl' rfl
    rw [pairOf, pairOf, State.chan_onChan_same, State.chan_onChan_ne otherChan_ne] at hu
    simp only [Prod.mk.injEq] at hu
    obtain ⟨hno, hcount, hcrc, -, hother⟩ := hu
    exact ⟨_, hexec, hno, hcount, mem_pairLatched_module hrun', fun h => mem_pairLatched_shaft hrun', hcrc ▸ bne_iff_ne, hother,
      (htouches.wider rfl).trans pairLatched_touches⟩
  · have hexec : exec (.pairExchangeLoss c sixteen) s = .next (if sixteen then lossNoted s c sixteen else
        redEvent (lossNoted s c sixteen) 0x0B s.sys.manifest.partner (chanNo c)) := if_neg (hpair c hrun hpartner)
    have hnoted : SameBut (among [.safety, .red]) s (lossNoted s c sixteen) := State.onRed_frame (State.onChan_frame SameBut.rfl' rfl) rfl
    have hevent : SameBut (among [.cairn, .ctr]) (lossNoted s c sixteen) (if sixteen then lossNoted s c sixteen else
        redEvent (lossNoted s c sixteen) 0x0B s.sys.manifest.partner (chanNo c)) :=
      SameBut.ite SameBut.rfl' (redEvent_frame SameBut.rfl' rfl rfl)
    generalize (if sixteen then lossNoted s c sixteen else redEvent (lossNoted s c sixteen) 0x0B s.sys.manifest.partner (chanNo c)) = t
      at hexec hevent
    have hchan (d : Chan) : t.chan d = (s.onChan c (pairLost sixteen (isLeading s))).chan d :=
      (congrArg (fun x : SafetySt => match d with | .core => x.core | .scarp => x.scarp) (hevent.2 .safety rfl)).trans (by cases d <;> rfl)
    refine ⟨t, hexec, ?_, ?_, ?_, ?_, (hchan _).trans (State.chan_onChan_ne otherChan_ne), (hnoted.wider rfl).trans (hevent.wider rfl)⟩
    · rw [hchan, State.chan_onChan_same]
      rfl
    · rw [show t.red = _ from hevent.2 .red rfl]
      rfl
    · rw [hchan, State.chan_onChan_same]
      simp [pairLost]
    · rw [hchan, State.chan_onChan_same]
      rfl
  · have h : (!(s.chan c).running || s.sys.manifest.partner == 0) = true := by rcases hno with h | h <;> simp [h]
    exact ⟨if_pos h, if_pos h⟩

end Sys2Proof.Machine
end

section
/-! Shaft queries, waiting settings and sections of a shaft's configuration (06 R172 to R192, 07 R204 to R215). -/

namespace Sys2Proof.Machine

open Sys2Proof

variable {s t u : State} {r : Request} {h n : Nat}

/-- The context of a car is that of its number. -/
theorem car_of_carCtx {x : CarCtx} (hx : carCtx s n = some x) : x.c.car = n := by
  unfold carCtx at hx
  exact beq_iff_eq.1 (List.find?_some (p := fun x : CarCtx => x.c.car == n) hx)

/-- Profile fields name their car. -/
theorem mem_profFields {x : CarCtx} (hx : carCtx s n = some x) : (16, 1, (n : Int)) ∈ profFields s x := by
  rw [← car_of_carCtx hx]
  exact List.mem_cons_self

/-- A committed shaft is declared. -/
theorem declared_of_committed (hh : committedShaft s h = true) : declaredShaft s h = true := (Bool.and_eq_true_iff.1 hh).1

/-- Sections above 3 have no field to clamp. -/
theorem shaftLoadClamps_nil (h : 3 < rq r 17 1) : shaftLoadClamps r = [] := by
  unfold shaftLoadClamps
  split
  iterate 4 · omega
  rfl

section
variable (hright : hasRight s r.part 0x1310 = true) (hready : (shaftConfigured s && loopReady s && actReady s) = true)
  (hbad : shaftLoadBad s r = none)
include hright hready hbad

/-- Section 4 commits (07 R211). -/
theorem shaftConfigLoad_commit (hsec : rq r 17 1 = 4) :
    exec (.shaftConfigLoad r) s = .next (runCommit s (withOp r 0x1310) (rq r 16 1)) := by
  refine congrArg Host.Outcome.next ((serve_runs hright hready hbad).trans ?_)
  rw [shaftLoadClamps_nil (by omega)]
  split
  · rfl
  next h5 => exact absurd (hsec.symm.trans h5) (by decide)
  next h4 h5 => exact absurd hsec h4

/-- Section 5 empties the pending copy (07 R211). -/
theorem shaftConfigLoad_drop (hsec : rq r 17 1 = 5) :
    exec (.shaftConfigLoad r) s = .next (ok (s.onShaft (rq r 16 1) fun t => { t with pend := {} }) (withOp r 0x1310)) := by
  refine congrArg Host.Outcome.next ((serve_runs hright hready hbad).trans ?_)
  rw [shaftLoadClamps_nil (by omega)]
  split
  next h4 => exact absurd (hsec.symm.trans h4) (by decide)
  · rfl
  next h4 h5 => exact absurd hsec h5

end

section
variable (hfull : gainsOnly (s.shaft h).pend = false)
include hfull

/-- A commit of more than gains is checked whole and refused with the first rule that fails (07 R211). -/
theorem runCommit_fails {sec i off : Nat} {b : Bool} (hfail : (commitChecks s h { (s.shaft h).pend with
      cfg := trimCfg (s.shaft h).pend.cfg }).find? (fun c => !c.2.2.2) = some (sec, i, off, b)) :
    runCommit s r h = refused s r 0 [(16, 1, (sec : Int)), (18, 2, (i : Int)), (20, 2, (off : Int))] := by
  unfold runCommit
  dsimp only
  rw [hfull, hfail]

/-- A commit that passes waits for the release phase (07 R211, R227). -/
theorem runCommit_passes (hpass : (commitChecks s h { (s.shaft h).pend with
      cfg := trimCfg (s.shaft h).pend.cfg }).find? (fun c => !c.2.2.2) = none) :
    runCommit s r h = s.onShaft h fun t => { t with
      pend := {}
      commits := t.commits ++ [(r, withGains (trimCfg (s.shaft h).pend.cfg) (s.shaft h).pend.gains, false)] } := by
  unfold runCommit
  dsimp only
  rw [hfull, hpass]

end

/-- Settles O40: each request passes its checks and is then one answer or one entry added to the shaft named. -/
theorem shaftQueriesAndSettings : Obligations.ShaftQueriesAndSettings := by
  intro r s hready
  refine ⟨fun hright hcar => ⟨fun x hx => ⟨?_, mem_profFields hx⟩, fun hx => ?_⟩, fun hright hsh => ?_, fun hright hcar => ?_,
    fun hright hsh hfirst => ?_, fun hact => ⟨fun hright hsh hblend => ?_, fun hright hsh hkind hvch hich hne => ?_, fun hright hbad =>
    ⟨fun hsec => ?_, fun hsec hfull => ⟨fun sec i off b hfail => ?_, fun hpass => ?_⟩, fun hsec => ?_⟩⟩⟩
  · refine congrArg Host.Outcome.next ((serve_runs_nil hright hready (firstBad_none (by simp [hcar]))).trans ?_)
    rw [hx]
    rfl
  · refine congrArg Host.Outcome.next ((serve_runs_nil hright hready (firstBad_none (by simp [hcar]))).trans ?_)
    rw [hx]
    rfl
  · exact congrArg Host.Outcome.next (serve_runs_nil hright hready (firstBad_none (by simp [hsh])))
  · exact congrArg Host.Outcome.next (serve_runs_nil hright hready (firstBad_none (by simp [hcar])))
  · refine (exec_noted (T := fun h => ok { s with host := h } (withOp r 0x1302) _ 0 _) rfl hright hready (firstBad_none (by simp [hsh, hfirst]))
      fun h => rfl).elim fun h hexec => ⟨_, _, _, hexec, host_touches, rfl, List.mem_cons_self, fun i hi => ?_⟩
    refine ⟨?_, ?_, ?_⟩ <;> refine List.mem_cons_of_mem _ (List.mem_flatMap.2 ⟨i, List.mem_range.2 hi, ?_⟩)
    · exact List.mem_cons_self
    · exact .tail _ (.tail _ (.head _))
    · exact .tail _ (.tail _ (.tail _ (.tail _ (.tail _ (.tail _ (.head _))))))
  · refine (exec_noted (T := fun h => State.onShaft { s with host := h } (rq r 16 1) _) rfl hright (Bool.and_eq_true_iff.2 ⟨hready, hact⟩)
      (firstBad_none (by simp [hsh, hblend])) fun h => rfl).elim fun h hexec => ⟨_, _, hexec, State.shaft_onShaft_same, rfl, rfl, rfl, rfl, rfl,
        OtherShafts.on, State.onShaft_frame (host_touches.wider rfl) rfl⟩
  · refine (exec_noted (T := fun h => State.onShaft { s with host := h } (rq r 16 1) _) rfl hright (Bool.and_eq_true_iff.2 ⟨hready, hact⟩)
      (firstBad_none (by simp [hsh, hkind, hvch, hich, hne])) fun h => rfl).elim fun h hexec => ⟨_, _, hexec, State.shaft_onShaft_same,
        rfl, rfl, rfl, rfl, rfl, rfl, OtherShafts.on, State.onShaft_frame (host_touches.wider rfl) rfl⟩
  all_goals have hall : (shaftConfigured s && loopReady s && actReady s) = true := Bool.and_eq_true_iff.2 ⟨hready, hact⟩
  · obtain ⟨h, hexec⟩ : ∃ h, exec (.shaftConfigLoad r) s = .next (ok (State.onShaft { s with host := h } (rq r 16 1) fun t =>
        { t with pend := pendSection t.pend (withOp r 0x1310) }) (withOp r 0x1310)
        ([(16, 1, (rq r 16 1 : Int)), (17, 1, (rq r 17 1 : Int))] ++ sectionEff (withOp r 0x1310))) := by
      refine exec_noted rfl hright hall hbad fun h => ?_
      split
      next h4 => exact absurd (show rq r 17 1 = 4 from h4) (by omega)
      next h5 => exact absurd (show rq r 17 1 = 5 from h5) (by omega)
      next => rfl
    exact ⟨_, _, hexec, State.shaft_onShaft_same, OtherShafts.on, State.onShaft_frame (host_touches.wider rfl) rfl⟩
  · exact (shaftConfigLoad_commit hright hall hbad hsec).trans (congrArg Host.Outcome.next (runCommit_fails hfull hfail))
  · refine ⟨_, (shaftConfigLoad_commit hright hall hbad hsec).trans (congrArg Host.Outcome.next (runCommit_passes hfull hpass)), ?_⟩
    exact ⟨State.shaft_onShaft_same, OtherShafts.on, State.onShaft_frame SameBut.rfl' rfl⟩
  · exact ⟨_, shaftConfigLoad_drop hright hall hbad hsec, State.shaft_onShaft_same, OtherShafts.on, State.onShaft_frame SameBut.rfl' rfl⟩

end Sys2Proof.Machine
end

section
/-! car.stop and car.inspect.move (07 R222, R226, R229). -/

namespace Sys2Proof.Machine

open Sys2Proof

variable {s t u : State} {r : Request} {x : CarCtx} {h n l : Nat}

/-! ### Starts and stops of a car -/

/-- A car with its start begun (07 R218). -/
def CarSt.begun (cycle : Nat) (kind : JourneyKind) (l : Nat) (k : CarSt) : CarSt :=
  { k with
    state := .preparing, back := if k.state = .inspection then k.back else k.state, prepCycle := cycle, starting := some (kind, l)
    refP := k.p, refV := 0, refA := 0, i := 0, journey := none, ramp := none, holding := false, braking := false, wSum := 0, wCount := 0 }

/-- A start begins on the car; the axes under it are enabled, which changes no part of motion. -/
theorem beginStart_motion {kind : JourneyKind} :
    (beginStart s x kind l).motion = (s.onCar x.c.car (CarSt.begun s.time.cycle kind l)).motion := by
  unfold beginStart
  refine each_keeps (get := State.motion) fun u j => ?_
  dsimp only
  split
  · rfl
  · exact (stage_frame (x := among [.loop]) SameBut.rfl' rfl).2 .motion rfl

/-- Two states with the same motion part hold the same cars. -/
theorem car_of_motion (hu : u.motion = t.motion) : u.car n = t.car n := by rw [State.car, hu, State.car]

/-- Of a motion part with one car changed, that car and the others. -/
theorem car_on {f : CarSt → CarSt} (hu : u.motion = (s.onCar n f).motion) : u.car n = f (s.car n) ∧ OtherCars n s u :=
  ⟨(car_of_motion hu).trans State.car_onCar_same, fun _ hk => (car_of_motion hu).trans (State.car_onCar_ne hk)⟩

theorem carEvent_motion {car code : Nat} {v : Int} : (carEvent s car h code v).motion = s.motion := raise_touches.2 .motion rfl

theorem carEvent_touches {car code : Nat} {v : Int} : SameBut (among [.ctr, .cairn]) s (carEvent s car h code v) := raise_touches

/-- A car that resumes is IDLE where it stands at the landing, else prepares a start, its stop forgotten (07 R222). -/
theorem resumeCar_car (hx : x.c.car = n) : let t := resumeCar s x l
    (t.car n).state = (if iabs (landPos x.cfg l - (s.car n).p) < 1 then .idle else .preparing) ∧ (t.car n).stopMode = false ∧
    (t.car n).missCnt = 0 ∧ OtherCars n s t := by
  subst hx
  have hp : ((s.onCar x.c.car fun k => { k with stopMode := false, stopProf := none, missed := false, missCnt := 0 }).car x.c.car) =
    { s.car x.c.car with stopMode := false, stopProf := none, missed := false, missCnt := 0 } := State.car_onCar_same
  unfold resumeCar
  dsimp only
  rw [hp]
  split
  · obtain ⟨hc, ho⟩ := car_on (u := carEvent _ x.c.car x.h 0x0E l) carEvent_motion
    rw [hc, hp]
    exact ⟨rfl, rfl, rfl, OtherCars.on.trans ho⟩
  · obtain ⟨hc, ho⟩ := car_on (beginStart_motion (s := s.onCar x.c.car _) (x := x) (kind := .back) (l := l))
    rw [hc, hp]
    exact ⟨rfl, rfl, rfl, OtherCars.on.trans ho⟩

/-- A car taken out of service (07 R229). -/
def CarSt.takenOut (cycle : Nat) (k : CarSt) : CarSt :=
  { k with
    state := .outOfService, axesOff := true, takeOut := false, serving := false, starting := none, insp := none, stopMode := false
    ramp := some (cycle, k.f) }

theorem takeOutCar_eq (hx : x.c.car = n) (hst : (s.car n).state ≠ .outOfService) :
    takeOutCar s x = report (s.onCar n (CarSt.takenOut s.time.cycle)) (.returned n 7) := by
  subst hx
  exact if_neg hst

/-! ### car.stop (07 R229) -/

/-- One committed car named by its number passes the checks of car.stop. -/
theorem firstBad_carStop (hn : rq r 16 1 ≤ 63) (hx : carCtx s (rq r 16 1) = some x) (hmode : rq r 18 1 ≤ 3) :
    firstBad [(16, rq r 16 1 == 0xFF || (decide (rq r 16 1 ≤ 63) && knownCar s (rq r 16 1))),
      (17, rq r 16 1 != 0xFF || declaredShaft s (rq r 17 1)), (18, decide (rq r 18 1 ≤ 3))] = none :=
  firstBad_none (by simp [hn, hmode, knownCar, hx]; omega)

section
variable (hright : hasRight s r.part 0x1321 = true) (hready : (motionReady s && actReady s) = true) (hn : rq r 16 1 ≤ 63)
  (hx : carCtx s (rq r 16 1) = some x) (hone : (allCars s).filter (fun y => y.c.car == rq r 16 1) = [x])
include hright hready hn hx hone

/-- car.stop of one car in a mode other than 1 does what the mode says of it; MODE 3 only where the car may be put back. -/
theorem carStop_mode (hmode : rq r 18 1 ≤ 3) (h1 : rq r 18 1 ≠ 1)
    (h3 : rq r 18 1 = 3 → (s.car x.c.car).state ≠ .outOfService ∨ (landingAt x.cfg (s.car x.c.car).p).isSome = true) :
    ∃ fields, exec (.carStop r) s = .next (ok (stopMode s x (rq r 18 1)) (withOp r 0x1321) fields) := by
  have hff : rq r 16 1 ≠ 0xFF := by omega
  refine (Exists.imp fun fields h => congrArg Host.Outcome.next ((serve_runs_nil hright hready (firstBad_carStop hn hx hmode)).trans h)) ?_
  simp only [if_neg hff, hone]
  split
  next hm => exact absurd hm h1
  next hm => exact ⟨_, (if_pos (by simpa using h3 hm)).trans (by rw [hm]; rfl)⟩
  next => exact ⟨_, rfl⟩

/-- MODE 3 of a car out of service away from a landing is refused (07 R229). -/
theorem carStop_notBack (h3 : rq r 18 1 = 3) (hst : (s.car x.c.car).state = .outOfService)
    (hl : (landingAt x.cfg (s.car x.c.car).p).isSome = false) : exec (.carStop r) s = .next (refused s (withOp r 0x1321)) := by
  have hff : rq r 16 1 ≠ 0xFF := by omega
  refine congrArg Host.Outcome.next ((serve_runs_nil hright hready (firstBad_carStop hn hx (by omega))).trans ?_)
  simp only [if_neg hff, hone, h3]
  exact if_neg (by simpa [hst] using hl)

/-- MODE 1 resumes a car that may and refuses another (07 R222, R229). -/
theorem carStop_resume (h1 : rq r 18 1 = 1) :
    (resumeTo s x = none → exec (.carStop r) s = .next (refused s (withOp r 0x1321))) ∧
    ∀ l, resumeTo s x = some l → ∃ fields, exec (.carStop r) s = .next (ok (resumeCar s x l) (withOp r 0x1321) fields) := by
  have hff : rq r 16 1 ≠ 0xFF := by omega
  have hbad := firstBad_carStop hn hx (Nat.le_trans (Nat.le_of_eq h1) (by decide))
  refine ⟨fun hno => congrArg Host.Outcome.next ((serve_runs_nil hright hready hbad).trans ?_), fun l hl => Exists.imp (fun fields h =>
    congrArg Host.Outcome.next ((serve_runs_nil hright hready hbad).trans h)) ?_⟩
  · simp only [if_neg hff, hone, h1]
    exact if_neg (by simp [hno])
  · simp only [if_neg hff, hone, h1]
    exact ⟨_, (if_pos (by simp [hl])).trans (by rw [State.each, List.foldl_cons, List.foldl_nil, hl]; rfl)⟩

end

/-! ### car.inspect.move (07 R226) -/

/-- An inspection move is refused off inspection, without limits, and by a car that moves, stops, is tripped or out of service. -/
theorem runInspect_refused (h : s.safety.image.insp.getLsbD x.h = false ∨ (limitsNext s x.h).isNone = true ∨ (s.car x.c.car).state = .moving ∨
    (s.car x.c.car).state = .stopping ∨ (s.car x.c.car).state = .tripped ∨ (s.car x.c.car).state = .outOfService) :
    runInspect s r x = refused s r := by
  unfold runInspect
  extract_lets n k down hold dist eff rest extend m k' cl start
  by_cases hoff : (!s.safety.image.insp.getLsbD x.h || (limitsNext s x.h).isNone) = true
  · exact if_pos hoff
  · refine (if_neg hoff).trans ?_
    have hst : k.state = .moving ∨ k.state = .stopping ∨ k.state = .tripped ∨ k.state = .outOfService := by
      simp only [Bool.or_eq_true, Bool.not_eq_true', not_or] at hoff
      exact (h.resolve_left hoff.1).resolve_left hoff.2
    rcases hst with h | h | h | h <;> rw [h]

/-- The move that a first command asks for. -/
def moveAsked (r : Request) (p : Int) : InspMove :=
  { down := rq r 17 1 == 1, holdMs := clampN 50 500 (rq r 18 2), from_ := p, dist := clampN 1000 2147483647 (rq r 20 4), req := some r }

/-- The first command of an inspection move of a car at rest: refused without its conditions or its claim, else begun. -/
theorem runInspect_start {k1 : CarSt} (hx : x.c.car = n) (hinsp : s.safety.image.insp.getLsbD x.h = true)
    (hlim : (limitsNext s x.h).isSome = true) (hst : (s.car n).state = .idle ∨ (s.car n).state = .stopped)
    (hmay : mayStart s x { s.car n with braking := false } = true)
    (hk1 : k1 = { s.car n with
      insp := some (moveAsked r (s.car n).p), refP := (s.car n).p, refV := 0, refA := 0, journey := none, stopProf := none })
    (hproof : startProof s x (claimTo x k1 (startTarget s x k1 .inspection 0)) = true) : runInspect s r x =
      if claimOk s x (claimTo x k1 (startTarget s x k1 .inspection 0)) = true
      then beginStart (s.onCar n fun k => { k with insp := some (moveAsked r (s.car n).p) }) x .inspection 0
      else refused (carEvent s n x.h 0x0C (headroomOf s x (claimTo x k1 (startTarget s x k1 .inspection 0)).1
        (claimTo x k1 (startTarget s x k1 .inspection 0)).2)) r := by
  subst hx hk1
  unfold runInspect
  extract_lets n k down hold dist eff rest extend m k' cl start
  refine (if_neg (by simp [hinsp]; exact Option.isSome_iff_ne_none.1 hlim)).trans ?_
  refine Eq.trans (b := start ()) ?_ ?_
  · have hk : k.state = .idle ∨ k.state = .stopped := hst
    rcases hk with hk | hk <;> rw [hk]
  · refine (if_neg ?_).trans ?_
    · rw [show mayStart s x { k with braking := false } = true from hmay, show startProof s x cl = true from hproof]
      decide
    · change (if (!claimOk s x cl) = true then _ else _) = if claimOk s x cl = true then _ else _
      by_cases hcl : claimOk s x cl = true
      · rw [if_neg (by simp [hcl]), if_pos hcl]
        rfl
      · rw [if_pos (by simp [hcl]), if_neg hcl]
        rfl

/-- The car with its inspection move begun, and the others. -/
theorem inspection_begun {m : InspMove} (hx : x.c.car = n) :
    let t := beginStart (s.onCar n fun k => { k with insp := some m }) x .inspection 0
    t.car n = CarSt.begun s.time.cycle .inspection 0 { s.car n with insp := some m } ∧ OtherCars n s t := by
  subst hx
  obtain ⟨hc, ho⟩ := car_on (beginStart_motion (s := s.onCar x.c.car fun k => { k with insp := some m }) (x := x) (kind := .inspection) (l := 0))
  exact ⟨hc.trans (congrArg _ State.car_onCar_same), OtherCars.on.trans ho⟩

/-- Settles O41: each mode of car.stop and each form of a first inspection move is one change of the car named. -/
theorem carStopModesAndInspectionMoves : Obligations.CarStopModesAndInspectionMoves := by
  intro r s x hready hact hcar hn hx hone n k
  have hboth : (motionReady s && actReady s) = true := Bool.and_eq_true_iff.2 ⟨hready, hact⟩
  have hk : s.car x.c.car = k := by rw [hcar]
  refine ⟨fun hright => ⟨fun h0 hst hj hhold => ?_, fun h1 => ⟨(carStop_resume hright hboth hn hx hone h1).1, fun l hl => ?_⟩,
    fun h2 hst => ?_, fun h3 hst => ⟨fun hl => ?_, fun hl => ?_⟩⟩, fun hright hdir => ⟨fun hno => ?_, fun hinsp hlim hst hmay m k1 hm hk1 hproof => ?_⟩⟩
  · obtain ⟨fields, hexec⟩ := carStop_mode hright hboth hn hx hone (by omega) (by omega) fun h3 => by omega
    have hstop : stopMode s x (rq r 18 1) = s.onCar n fun k => { k with stopReq := some (1, s.time.cycle) } := by
      rw [h0]
      unfold stopMode
      simp only [hk]
      have hgo : ¬ (k.journey.isNone || k.holding) = true := by simp [hhold, Option.isSome_iff_ne_none.1 hj]
      rcases hst with h | h <;> rw [h, hcar] <;> exact if_neg hgo
    rw [hstop] at hexec
    exact ⟨_, _, hexec, State.car_onCar_same, OtherCars.on, State.onCar_frame SameBut.rfl' rfl⟩
  · obtain ⟨fields, hexec⟩ := (carStop_resume hright hboth hn hx hone h1).2 l hl
    obtain ⟨hst, hmode, hmiss, hother⟩ := resumeCar_car (s := s) (l := l) hcar
    exact ⟨_, _, hexec, hst, hmode, hmiss, hother, resumeCar_frame SameBut.rfl' rfl rfl rfl rfl⟩
  · obtain ⟨fields, hexec⟩ := carStop_mode hright hboth hn hx hone (by omega) (by omega) fun h3 => by omega
    have hstop : stopMode s x (rq r 18 1) = report (s.onCar n (CarSt.takenOut s.time.cycle)) (.returned n 7) := by
      rw [h2]
      unfold stopMode
      simp only [hk]
      rcases hst with h | h <;> rw [h] <;> exact takeOutCar_eq hcar (fun hc => nomatch h.symm.trans hc)
    rw [hstop] at hexec
    have hc : (report (s.onCar n (CarSt.takenOut s.time.cycle)) (.returned n 7)).car n = CarSt.takenOut s.time.cycle k := State.car_onCar_same
    refine ⟨_, _, hexec, ?_, ?_, ?_, rfl, ?_, report_frame (State.onCar_frame SameBut.rfl' rfl) rfl⟩
    · rw [hc]; rfl
    · rw [hc]; rfl
    · rw [hc]; rfl
    · exact fun j hj => State.car_onCar_ne hj
  · obtain ⟨fields, hexec⟩ := carStop_mode hright hboth hn hx hone (by omega) (by omega) fun _ => .inr (hk ▸ hl)
    have hstop : stopMode s x (rq r 18 1) =
        carEvent (s.onCar n fun k => { k with state := .idle }) n x.h 0x0E ((landingAt x.cfg k.p).getD 0xFF) := by
      rw [h3]
      unfold stopMode
      rw [hcar]
      exact if_pos hst
    rw [hstop] at hexec
    obtain ⟨hc, ho⟩ := car_on (n := n) (s := s) (u := carEvent _ n x.h 0x0E ((landingAt x.cfg k.p).getD 0xFF)) carEvent_motion
    exact ⟨_, _, hexec, hc, ho, carEvent_frame (State.onCar_frame SameBut.rfl' rfl) rfl rfl⟩
  · exact carStop_notBack hright hboth hn hx hone h3 (hk ▸ hst) (hk ▸ hl)
  all_goals
    have hbad : firstBad [(16, decide (rq r 16 1 ≤ 63) && knownCar s (rq r 16 1)), (17, decide (rq r 17 1 ≤ 1))] = none :=
      firstBad_none (by simp [hn, hdir, knownCar, hx])
    obtain ⟨h, hexec⟩ : ∃ h, exec (.carInspectMove r) s = .next (runInspect { s with host := h } (withOp r 0x1320) x) :=
      exec_noted rfl hright hboth hbad fun h => by
        rw [show carCtx { s with host := h } (rq r 16 1) = some x from hx]
  · rw [runInspect_refused (hk ▸ hno)] at hexec
    exact ⟨_, hexec, host_touches⟩
  · subst hm hk1
    have hrun := runInspect_start (s := { s with host := h }) (r := withOp r 0x1320) hcar hinsp hlim hst hmay rfl hproof
    rw [hrun] at hexec
    refine ⟨fun hclaim => ⟨_, hexec.trans (congrArg Host.Outcome.next (if_neg (Bool.eq_false_iff.1 hclaim))), ?_⟩, fun hclaim =>
      ⟨_, hexec.trans (congrArg Host.Outcome.next (if_pos hclaim)), ?_⟩⟩
    · exact carEvent_frame (host_touches.wider rfl) rfl rfl
    · obtain ⟨hc, ho⟩ := inspection_begun (s := { s with host := h }) (m := moveAsked (withOp r 0x1320) k.p) hcar
      refine ⟨congrArg CarSt.state hc, (congrArg CarSt.back hc).trans (if_neg fun hi => ?_), congrArg CarSt.insp hc, congrArg CarSt.starting hc,
        ho, beginStart_frame (State.onCar_frame (host_touches.wider rfl) rfl) rfl rfl⟩
      exact hst.elim (fun h => nomatch h.symm.trans hi) fun h => nomatch h.symm.trans hi

end Sys2Proof.Machine
end

section
/-! The moments of a car (07 R215 to R226, 06 R177 to R183) and of a shaft's energy store (06 R175, R187, 12 R365). -/

namespace Sys2Proof.Machine

open Sys2Proof

variable {s t u : State} {x : CarCtx} {h n : Nat}

theorem onCarCtx_some {f : CarCtx → State} (hx : carCtx s n = some x) : onCarCtx s n f = f x := by
  unfold onCarCtx
  rw [hx]

/-- An answer leaves motion as it is. -/
theorem refused_motion {r : Request} {d : Nat} {l : List (Nat × Nat × Int)} : (refused s r d l).motion = s.motion :=
  (refused_frame (x := among [.host, .ctr]) SameBut.rfl' rfl rfl).2 .motion rfl

theorem ok_motion {r : Request} {l : List (Nat × Nat × Int)} {d k : Nat} : (ok s r l d k).motion = s.motion :=
  (ok_frame (x := among [.host, .ctr]) SameBut.rfl' rfl rfl).2 .motion rfl

theorem crestEvent_motion {car code : Nat} {v : Int} : (crestEvent s car h code v).motion = s.motion := raise_touches.2 .motion rfl

/-! ### Starts given up (07 R218) -/

/-- A refused inspection request of a car leaves the car but for its move, and the other cars. -/
theorem failInspect_car : (∃ i, (failInspect s n).car n = { s.car n with insp := i }) ∧ OtherCars n s (failInspect s n) := by
  unfold failInspect
  split
  next m _ =>
    split
    · obtain ⟨hc, ho⟩ := car_on (n := n) (f := fun k => { k with insp := none }) refused_motion
      exact ⟨⟨none, hc⟩, ho⟩
    · exact ⟨⟨_, rfl⟩, fun _ _ => rfl⟩
  · exact ⟨⟨_, rfl⟩, fun _ _ => rfl⟩

/-- A start given up: the brake is asked for, and nothing starts. -/
theorem abandonStart_car (hx : x.c.car = n) : let t := abandonStart s x
    (t.car n).braking = true ∧ (t.car n).brakeReq = false ∧ (t.car n).starting = none ∧ OtherCars n s t := by
  subst hx
  obtain ⟨-, ho⟩ := failInspect_car (s := s) (n := x.c.car)
  have hc : (abandonStart s x).car x.c.car = _ := State.car_onCar_same
  dsimp only
  rw [hc]
  exact ⟨rfl, rfl, rfl, ho.trans OtherCars.on⟩

theorem abandonStart_touches : SameBut (among [.host, .ctr, .motion]) s (abandonStart s x) := abandonStart_frame SameBut.rfl' rfl rfl rfl

/-- A start refused for want of energy: given up, with a retry to wait for, and its stop returned with reason 1 (06 R182). -/
theorem refuseEnergy_car {e : Int} (hx : x.c.car = n) : let t := refuseEnergy s x e
    (t.car n).retryWait = true ∧ (t.car n).braking = true ∧ (t.car n).starting = none ∧
    t.disp.updates = s.disp.updates ++ [.returned n 1] ∧ OtherCars n s t := by
  obtain ⟨hb, -, hst, ho⟩ := abandonStart_car (s := s) hx
  have hdisp : (abandonStart s x).disp = s.disp := abandonStart_touches.2 .disp rfl
  subst hx
  unfold refuseEnergy
  extract_lets n v w
  have hv : (v.car n) = { (abandonStart s x).car n with retryWait := true, lastRefused := true } := State.car_onCar_same
  have hw : w.motion.cars = v.motion.cars := rfl
  have hwdisp : w.disp = s.disp := hdisp
  have hcar (k : Nat) : (report (crestEvent w n x.h 1 e) (.returned n 1)).car k = v.car k := by
    refine (car_of_motion (t := w) crestEvent_motion).trans ?_
    rw [State.car, hw, State.car]
  rw [hcar, hv]
  refine ⟨rfl, hb, hst, ?_, fun k hk => (hcar k).trans ((State.car_onCar_ne hk).trans (ho k hk))⟩
  rw [← hwdisp, ← (show (crestEvent w n x.h 1 e).disp = w.disp from raise_touches.2 .disp rfl)]
  rfl

/-- A journey that starts with no inspection move on the car (06 R177). -/
theorem startJourney_car {j : Journey} (hx : x.c.car = n) (hi : (s.car n).insp = none) : let t := startJourney s x j
    (t.car n).state = (if j.kind = .inspection then .inspection else .moving) ∧ (t.car n).journey = some { j with seen := headLanding s n } ∧
    (t.car n).mass = (s.car n).mass ∧ OtherCars n s t := by
  subst hx
  unfold startJourney
  extract_lets n insp spent j' u v w z t
  have hspent : spent = false := by
    unfold spent
    rw [show (s.car n).insp = none from hi]
  have hj' : j' = { j with seen := headLanding s n } := by simp [j', hspent]
  have hu : u.car n = _ := State.car_onCar_same
  have hv : v.motion = u.motion := by
    unfold v
    split <;> rfl
  have hw : w.motion.cars = v.motion.cars := by
    unfold w
    split
    · exact (congrArg MotionSt.cars crestEvent_motion).trans rfl
    · rfl
  have hcars (k : Nat) : w.car k = u.car k := by rw [State.car, hw, hv, State.car]
  have hz : z = w := by
    unfold z
    rw [hcars, hu, show (s.car n).insp = none from hi]
  have ht (k : Nat) : t.car k = u.car k := by
    rw [← hcars, ← hz]
    unfold t
    split <;> rfl
  clear_value t
  rw [ht, hu, hj']
  exact ⟨by simp [insp], rfl, rfl, fun k hk => (ht k).trans (State.car_onCar_ne hk)⟩

theorem weaverFault_motion : (weaverFault s n).motion = s.motion :=
  (weaverFault_frame (x := among [.ctr, .cairn, .rings, .red, .loop, .safety]) SameBut.rfl' rfl rfl rfl rfl rfl rfl).2 .motion rfl

/-- A car's program abandoned, with the count of those in a row. -/
def CarSt.cutOff (m : Nat) (k : CarSt) : CarSt := { k with cut := true, missed := true, missCnt := m }

/-- The program of this window is abandoned and counted for the basket (04 R143). -/
def programCut (s : State) (x : CarCtx) (n m : Nat) : State := bump (s.onCar n (CarSt.cutOff m)) (cBasket (x.c.weaver / 8) 5)

theorem programCut_car {m : Nat} : (programCut s x n m).car n = CarSt.cutOff m (s.car n) := State.car_onCar_same

theorem programCut_touches {m : Nat} : SameBut (among [.motion, .ctr]) s (programCut s x n m) := bump_frame (State.onCar_frame SameBut.rfl' rfl) rfl

/-- A car at rest under its engaged brake. -/
def CarSt.atRest (cycle : Nat) (st : CarState) (k : CarSt) : CarSt :=
  { k with
    state := st, braking := false, journey := none, starting := none, insp := none, holding := false, back := .idle
    ramp := some (cycle, k.f) }

/-- A car that is not to be taken out comes to rest and nothing else happens. -/
theorem backToRest_eq {st : CarState} (hx : x.c.car = n) (hout : (s.car n).takeOut = false) :
    backToRest s x st = s.onCar n (CarSt.atRest s.time.cycle st) := by
  subst hx
  refine if_neg (Bool.eq_false_iff.1 ?_)
  exact (congrArg CarSt.takeOut State.car_onCar_same).trans hout

/-- A car with its mass weighed (06 R177). -/
def weighed (s : State) (x : CarCtx) (n : Nat) : State := s.onCar n fun k => { k with mass := weighedMass s x k }

theorem weighed_car : (weighed s x n).car n = { s.car n with mass := weighedMass s x (s.car n) } := State.car_onCar_same

/-- The end of a weighing: given up under inspection, waiting behind another start, else as the check of the start says. -/
theorem endWeighing_eq {kind : JourneyKind} {l : Nat} (hx : x.c.car = n) (hstart : (s.car n).starting = some (kind, l)) :
    endWeighing s x =
      if (decide (kind ≠ .inspection) && s.safety.image.insp.getLsbD x.h) = true then abandonStart (weighed s x n) x
      else if (decide (kind ≠ .inspection) && (startTaken (weighed s x n) x || (s.car n).retryWait)) = true then weighed s x n
      else match checkStart (weighed s x n) x ((weighed s x n).car n) kind l with
        | .go j => startJourney (weighed s x n) x j
        | .arrived => abandonStart (weighed s x n) x
        | .energy e => refuseEnergy (weighed s x n) x e
        | .separation h => report (carEvent ((abandonStart (weighed s x n) x).onCar n fun k => { k with back := .idle }) n x.h 0x0C h)
            (.returned n 3) := by
  subst hx
  have hs : ((weighed s x x.c.car).car x.c.car).starting = some (kind, l) := (congrArg CarSt.starting weighed_car).trans hstart
  have hr : ((weighed s x x.c.car).car x.c.car).retryWait = (s.car x.c.car).retryWait := (congrArg CarSt.retryWait weighed_car).trans rfl
  change (match ((weighed s x x.c.car).car x.c.car).starting with | none => _ | some (kind, l) => _) = _
  rw [hs, ← hr]
  rfl

/-! ### The moments -/

/-- Settles O42: each moment of a car is one change of that car under the state it stands in. -/
theorem carMomentsFollowTheStates : Obligations.CarMomentsFollowTheStates := by
  intro n s x hx hcar k
  have hengaged (hbrake : k.braking = true) (heng : s.safety.image.eng.getLsbD n = true) :
      ¬ (!k.braking || !s.safety.image.eng.getLsbD n) = true := by simp [hbrake, heng]
  refine ⟨fun hcut hmode hcnt => ⟨fun hlow => ?_, fun hhigh => ?_⟩, fun hcut hmode => ?_, fun hst hbrake => ?_, fun hst hreq hrel => ?_,
    fun hst hreq => ?_, fun hst hbrake => ⟨fun hout => ?_, fun hout => ?_⟩, ?_, fun hst hhold => ?_, fun hbrake heng hout =>
    ⟨fun hst => ?_, fun hst => ?_, fun hst => ?_⟩, fun m j hst hm hj hend hhold => ?_, fun m hst hm => ?_, fun hst hhold => ?_,
    fun hst hcount hbrake kind l hstart s1 hs1 => ⟨fun hkind hinsp => ?_, fun hkind hinsp hwait => ?_, fun hgo =>
    ⟨fun j hj hno => ?_, fun e he => ?_⟩⟩⟩
  · have hmiss : min 255 (k.missCnt + 1) = k.missCnt + 1 := by omega
    have hless : ¬ 3 ≤ min 255 (k.missCnt + 1) := by omega
    have hexec : exec (.carCutoff n) s = .next (programCut s x n (min 255 (k.missCnt + 1))) :=
      congrArg Host.Outcome.next ((onCarCtx_some hx).trans ((if_neg (Bool.eq_false_iff.1 hcut)).trans
        ((if_neg (Bool.eq_false_iff.1 hmode)).trans (if_neg hless))))
    rw [hmiss] at hexec
    exact ⟨_, hexec, programCut_car, countsOne_bump, OtherCars.on, programCut_touches⟩
  · have hmore : 3 ≤ min 255 (k.missCnt + 1) := by omega
    have hexec : exec (.carCutoff n) s = .next ((programCut s x n (min 255 (k.missCnt + 1))).onCar n fun k =>
        { k with stopReq := some (2, s.time.cycle), stopMode := true }) :=
      congrArg Host.Outcome.next ((onCarCtx_some hx).trans ((if_neg (Bool.eq_false_iff.1 hcut)).trans
        ((if_neg (Bool.eq_false_iff.1 hmode)).trans (if_pos hmore))))
    refine ⟨_, hexec, ?_, CountsOne.of_eq (t := programCut s x n (min 255 (k.missCnt + 1))) countsOne_bump rfl rfl,
      OtherCars.trans (t := programCut s x n (min 255 (k.missCnt + 1))) OtherCars.on OtherCars.on, State.onCar_frame programCut_touches rfl⟩
    rw [State.car_onCar_same, programCut_car]
    rfl
  · have hexec : exec (.carCutoff n) s = .next (weaverFault (programCut s x n (min 255 (k.missCnt + 1))) x.c.weaver) :=
      congrArg Host.Outcome.next ((onCarCtx_some hx).trans ((if_neg (Bool.eq_false_iff.1 hcut)).trans (if_pos hmode)))
    have hmotion : (weaverFault (programCut s x n (min 255 (k.missCnt + 1))) x.c.weaver).motion = (programCut s x n (min 255 (k.missCnt + 1))).motion :=
      weaverFault_motion
    exact ⟨_, hexec, congrArg WeaverSt.stopped weaverFault_loop.1, congrArg CarSt.missed ((car_of_motion hmotion).trans programCut_car),
      (car_on (s := s) (n := n) hmotion).2⟩
  · exact ⟨_, congrArg Host.Outcome.next (if_pos ⟨hst, (Bool.not_eq_true' _).mpr hbrake⟩), State.car_onCar_same, OtherCars.on,
      State.onCar_frame SameBut.rfl' rfl⟩
  · exact ⟨_, congrArg Host.Outcome.next (if_pos ⟨hst, hreq, hrel⟩), State.car_onCar_same, OtherCars.on, State.onCar_frame SameBut.rfl' rfl⟩
  · obtain ⟨hb, hr, hs, ho⟩ := abandonStart_car (s := s) hcar
    have hexec : exec (.brktTimeout n) s = .next (report (carEvent (abandonStart s x) n x.h 0x0B x.cfg.geo.brkt) (.returned n 2)) := by
      refine congrArg Host.Outcome.next ((onCarCtx_some hx).trans ?_)
      dsimp only
      rw [show (s.car n).state = .preparing from hst]
      exact if_pos hreq
    have hmotion : (report (carEvent (abandonStart s x) n x.h 0x0B x.cfg.geo.brkt) (.returned n 2)).motion = (abandonStart s x).motion :=
      carEvent_motion
    have hdisp : (carEvent (abandonStart s x) n x.h 0x0B x.cfg.geo.brkt).disp = s.disp :=
      (carEvent_touches.2 .disp rfl : _ = _).trans (abandonStart_touches.2 .disp rfl)
    have hc := car_of_motion (n := n) hmotion
    refine ⟨_, hexec, ?_, ?_, ?_, congrArg (fun d : DispSt => d.updates ++ [Update.returned n 2]) hdisp, ho.trans fun j _ => car_of_motion hmotion⟩ <;>
      rw [hc] <;> assumption
  · have hexec : exec (.brktTimeout n) s = .next (s.onCar n fun k => { k with braking := false, axesOff := true }) := by
      refine congrArg Host.Outcome.next ((onCarCtx_some hx).trans ?_)
      dsimp only
      rw [show (s.car n).state = .tripped from hst]
      exact (if_pos hbrake).trans (if_neg (Bool.eq_false_iff.1 hout))
    exact ⟨_, hexec, State.car_onCar_same, OtherCars.on, State.onCar_frame SameBut.rfl' rfl⟩
  · have hexec : exec (.brktTimeout n) s = .next (takeOutCar (s.onCar n fun k => { k with braking := false, axesOff := true }) x) := by
      refine congrArg Host.Outcome.next ((onCarCtx_some hx).trans ?_)
      dsimp only
      rw [show (s.car n).state = .tripped from hst]
      exact (if_pos hbrake).trans (if_pos hout)
    have hc : (s.onCar n fun k => { k with braking := false, axesOff := true }).car n = _ := State.car_onCar_same
    have hstate : ((s.onCar n fun k => { k with braking := false, axesOff := true }).car n).state ≠ .outOfService := by
      rw [hc]
      exact fun h => nomatch hst.symm.trans h
    rw [takeOutCar_eq hcar hstate] at hexec
    refine ⟨_, hexec, ?_, ?_, OtherCars.on.trans OtherCars.on, report_frame (State.onCar_frame (State.onCar_frame SameBut.rfl' rfl) rfl) rfl⟩
    · exact congrArg CarSt.state State.car_onCar_same
    · exact congrArg CarSt.axesOff State.car_onCar_same
  · exact ⟨_, rfl, State.car_onCar_same, OtherCars.on, State.onCar_frame SameBut.rfl' rfl⟩
  · exact ⟨_, congrArg Host.Outcome.next (if_pos ⟨hst, hhold⟩), State.car_onCar_same, OtherCars.on, State.onCar_frame SameBut.rfl' rfl⟩
  · have hexec : exec (.brakeEngagedFeedback n) s = .next (carEvent (s.onCar n fun k => { k with
        state := .stopped, braking := false, stopProf := none, ramp := some (s.time.cycle, k.f) }) n x.h 2 k.p) := by
      refine congrArg Host.Outcome.next ((onCarCtx_some hx).trans ((if_neg (hengaged hbrake heng)).trans ?_))
      rw [show (s.car n).state = .stopping from hst]
      exact if_neg (Bool.eq_false_iff.1 hout)
    obtain ⟨hc, ho⟩ := car_on (n := n) (s := s) (u := carEvent _ n x.h 2 k.p) carEvent_motion
    exact ⟨_, hexec, hc, ho, carEvent_frame (State.onCar_frame SameBut.rfl' rfl) rfl rfl⟩
  · have hexec : exec (.brakeEngagedFeedback n) s = .next (s.onCar n fun k => { k with braking := false, axesOff := true }) := by
      refine congrArg Host.Outcome.next ((onCarCtx_some hx).trans ((if_neg (hengaged hbrake heng)).trans ?_))
      rw [show (s.car n).state = .tripped from hst]
      exact if_neg (Bool.eq_false_iff.1 hout)
    exact ⟨_, hexec, State.car_onCar_same, OtherCars.on, State.onCar_frame SameBut.rfl' rfl⟩
  · have hexec : exec (.brakeEngagedFeedback n) s = .next (backToRest s x (if k.state = .moving then .idle else k.back)) := by
      refine congrArg Host.Outcome.next ((onCarCtx_some hx).trans ((if_neg (hengaged hbrake heng)).trans ?_))
      rcases hst with h | h | h | h <;> rw [h] <;> rfl
    rw [backToRest_eq hcar hout] at hexec
    exact ⟨_, hexec, congrArg CarSt.state State.car_onCar_same, congrArg CarSt.braking State.car_onCar_same,
      congrArg CarSt.journey State.car_onCar_same, OtherCars.on, State.onCar_frame SameBut.rfl' rfl⟩
  · have hexec : exec (.inspectionHoldExpiry n) s = .next (s.onCar n fun k => { k with
        insp := some { m with ending := true }
        journey := some (repriced s x k.mass j { j with prof := planStop j.lim.blend s.time.cycle (profNow s j.prof) j.lim.a j.lim.j }) }) := by
      refine congrArg Host.Outcome.next ((onCarCtx_some hx).trans ?_)
      rw [show (s.car n).state = .inspection from hst, show (s.car n).insp = some m from hm, show (s.car n).journey = some j from hj]
      exact if_neg (by simp [hend]; exact hhold)
    exact ⟨_, hexec, State.car_onCar_same, OtherCars.on, State.onCar_frame SameBut.rfl' rfl⟩
  · have hexec : exec (.inspectionHoldExpiry n) s = .next (s.onCar n fun k => { k with insp := some { m with ending := true } }) := by
      refine congrArg Host.Outcome.next ((onCarCtx_some hx).trans ?_)
      rw [show (s.car n).insp = some m from hm]
      rcases hst with h | h <;> rw [show (s.car n).state = _ from h]
    exact ⟨_, hexec, State.car_onCar_same, OtherCars.on, State.onCar_frame SameBut.rfl' rfl⟩
  · exact ⟨_, congrArg Host.Outcome.next (if_pos ⟨hst, hhold⟩), State.car_onCar_same, OtherCars.on, State.onCar_frame SameBut.rfl' rfl⟩
  all_goals
    have hexec : exec (.weighingEnd n) s = .next (endWeighing s x) :=
      congrArg Host.Outcome.next ((onCarCtx_some hx).trans (if_pos ⟨hst, hcount, (Bool.not_eq_true' _).mpr hbrake⟩))
    rw [endWeighing_eq hcar hstart] at hexec
    obtain rfl : s1 = weighed s x n := hs1
  · obtain ⟨hb, -, hs, ho⟩ := abandonStart_car (s := weighed s x n) hcar
    exact ⟨_, hexec.trans (congrArg Host.Outcome.next (if_pos (by simp [hkind, hinsp]))), hb, hs, OtherCars.on.trans ho⟩
  · refine hexec.trans (congrArg Host.Outcome.next ((if_neg (by simp [hinsp])).trans (if_pos ?_)))
    rw [decide_eq_true hkind, Bool.true_and, Bool.or_eq_true]
    exact hwait
  all_goals
    have hnow : ¬ (decide (kind ≠ .inspection) && s.safety.image.insp.getLsbD x.h) = true := by
      rcases hgo with h | ⟨h, -⟩ <;> simp [h]
    have hfree : ¬ (decide (kind ≠ .inspection) && (startTaken (weighed s x n) x || (s.car n).retryWait)) = true := by
      rcases hgo with h | ⟨-, h, hr⟩
      · simp [h]
      · rw [h, show (s.car n).retryWait = false from hr]
        simp
    replace hexec := hexec.trans (congrArg Host.Outcome.next ((if_neg hnow).trans (if_neg hfree)))
  · rw [hj] at hexec
    have hmove : ((weighed s x n).car n).insp = none := (congrArg CarSt.insp weighed_car).trans hno
    obtain ⟨hstate, hjour, hmass, ho⟩ := startJourney_car (j := j) hcar hmove
    exact ⟨_, hexec, hstate, hjour, hmass.trans (congrArg CarSt.mass weighed_car), OtherCars.on.trans ho⟩
  · rw [he] at hexec
    obtain ⟨hwait, hbr, hst, hdisp, ho⟩ := refuseEnergy_car (s := weighed s x n) (e := e) hcar
    exact ⟨_, hexec, hwait, hbr, hst, hdisp, OtherCars.on.trans ho⟩

/-! ### The energy store (06 R175, R176, R187, 12 R365) -/

theorem canEvent_can {code chan : Nat} {v : Int} : (canEvent s code chan v).can = s.can :=
  (canEvent_frame (x := among [.ctr, .cairn]) SameBut.rfl' rfl rfl).2 .can rfl

/-- Two states with the same motion part hold the same shafts. -/
theorem shaft_of_motion (hu : u.motion = t.motion) : u.shaft h = t.shaft h := by rw [State.shaft, hu, State.shaft]

/-- Of a motion part with one shaft changed, that shaft and the others. -/
theorem shaft_on {f : ShaftSt → ShaftSt} (hu : u.motion = (s.onShaft h f).motion) : u.shaft h = f (s.shaft h) ∧ OtherShafts h s u :=
  ⟨(shaft_of_motion hu).trans State.shaft_onShaft_same, fun _ hk => (shaft_of_motion hu).trans (State.shaft_onShaft_ne hk)⟩

/-- The instant of a shaft with its energy configured changes that shaft; a fresh report ends its stale state and is no longer fresh. -/
theorem instantEnergy_fresh {c : EnergyCfg} (hc : (s.shaft h).energy = some c) :
    ∃ f, (instantEnergy s h).motion = (s.onShaft h f).motion ∧
      (f (s.shaft h)).en.bmsStale = ((s.shaft h).en.bmsStale && !(s.shaft h).en.bmsFresh) ∧ (f (s.shaft h)).en.bmsFresh = false := by
  unfold instantEnergy
  rw [hc]
  dsimp only
  split
  · exact ⟨_, crestEvent_motion, rfl, rfl⟩
  · exact ⟨_, rfl, rfl, rfl⟩

/-- Settles O43: a report is taken from its object once, rejected where its field is all ones, else pending with its cycle and energy. -/
theorem energyStoresFollowTheirReports : Obligations.EnergyStoresFollowTheirReports := by
  intro h s
  refine ⟨fun m raw hm hen hnew hraw hfit => ?_, fun hen hfresh => ?_, fun c hc => ⟨fun hkind hstale => ?_, fun hres hrest hmet => ?_⟩⟩
  · have hin : ¬ (s.obj m.obj).entry.frame.data.length < m.offset + m.width := by omega
    have hexec : exec (.bmsReport h) s = .next (
        if (s.obj m.obj).entry.frame.data.length < m.offset + m.width ∨ raw = 256 ^ m.width - 1 then
          canEvent ((s.onObj m.obj fun o => { o with new_ := false }).onCan fun c =>
            { c with bmsRej := tabMod c.bmsRej 0 h fun v => satAdd max32 v 1 }) 8 (s.obj m.obj).cfg.chan h
        else (s.onObj m.obj fun o => { o with new_ := false }).onShaft h fun t => { t with en := { t.en with
          bmsPend := some (min (raw * m.scale / 65536) 2147483647, (s.obj m.obj).entry.cycle, tabGet (s.obj m.obj).entry.drawn t.en.drawn h) } }) := by
      subst hm hraw
      exact congrArg Host.Outcome.next (if_neg (by simp [hen, hnew]))
    have htaken : ((s.onObj m.obj fun o => { o with new_ := false }).obj m.obj).new_ = false := congrArg CanObj.new_ State.obj_onObj_same
    refine ⟨fun hall => ⟨_, hexec.trans (congrArg Host.Outcome.next (if_pos (.inr hall))), ?_, ?_, ?_⟩, fun hnot =>
      ⟨_, hexec.trans (congrArg Host.Outcome.next (if_neg (not_or.2 ⟨hin, hnot⟩))), htaken, ?_, ?_, ?_, ?_⟩⟩
    · rw [State.obj, canEvent_can]
      exact htaken
    · rw [canEvent_can]
      exact tabGet_tabMod_same (l := s.can.bmsRej) (k := h) (f := fun v => satAdd max32 v 1)
    · exact (canEvent_frame (x := among [.ctr, .cairn]) SameBut.rfl' rfl rfl).2 .motion rfl
    · exact congrArg ShaftSt.en State.shaft_onShaft_same
    · rw [State.shaft_onShaft_same]
      rfl
    · exact OtherShafts.on
    · exact State.onShaft_frame (State.onObj_frame SameBut.rfl' rfl) rfl
  · obtain ⟨c, hc⟩ := Option.isSome_iff_exists.1 hen
    obtain ⟨f, hmotion, hstale, hf⟩ := instantEnergy_fresh hc
    rw [(shaft_on hmotion).1]
    exact ⟨by rw [hstale, hfresh, Bool.not_true, Bool.and_false], hf⟩
  · have hexec : ∃ age, exec (.bmsStale h) s = .next (crestEvent (bump (s.onShaft h fun t => { t with en := { t.en with bmsStale := true } })
        (cShaft h 11)) 0xFF h 6 age) := by
      refine Exists.imp (fun age h => congrArg Host.Outcome.next h) ?_
      rw [hc]
      exact ⟨_, if_neg (by simp [hkind, hstale])⟩
    obtain ⟨age, hexec⟩ := hexec
    have hmotion : (crestEvent (bump (s.onShaft h fun t => { t with en := { t.en with bmsStale := true } }) (cShaft h 11)) 0xFF h 6 age).motion =
        (s.onShaft h fun t => { t with en := { t.en with bmsStale := true } }).motion := crestEvent_motion
    obtain ⟨hsh, ho⟩ := shaft_on hmotion
    exact ⟨_, hexec, congrArg ShaftSt.en hsh, ho, crestEvent_frame (bump_frame (State.onShaft_frame SameBut.rfl' rfl) rfl) rfl rfl⟩
  · have hexec : exec (.rescueEnd h) s = .next (crestEvent (s.onShaft h fun t => { t with en := { t.en with rescue := false } }) 0xFF h 5
        (eAvail s h)) := by
      refine congrArg Host.Outcome.next ?_
      rw [hc]
      refine if_pos ?_
      rw [hres, decide_eq_true hmet, List.all_eq_true.2 hrest]
      rfl
    obtain ⟨hsh, ho⟩ := shaft_on (s := s) (h := h) (f := fun t => { t with en := { t.en with rescue := false } })
      (crestEvent_motion (s := State.onShaft s h _))
    exact ⟨_, hexec, congrArg ShaftSt.en hsh, ho, crestEvent_frame (State.onShaft_frame SameBut.rfl' rfl) rfl rfl⟩

end Sys2Proof.Machine
end

section
/-! The moves of a door (08 R235 to R241, R249) and the door class (08 R253 to R257). -/

namespace Sys2Proof.Machine

open Sys2Proof

variable {s t u : State} {r : Request} {c : DoorDef} {d n : Nat}

/-! ### Steps of one door -/

/-- A step that changes of the doors one, by a function. -/
structure DoorStep (d : Nat) (f : DoorSt → DoorSt) (s t : State) : Prop where
  own : t.door d = f (s.door d)
  others : OtherDoors d s t

theorem DoorStep.on {f : DoorSt → DoorSt} : DoorStep d f s (s.onDoor d f) := ⟨State.door_onDoor_same, OtherDoors.on⟩

theorem DoorStep.trans {f g : DoorSt → DoorSt} (h : DoorStep d f s t) (k : DoorStep d g t u) : DoorStep d (fun x => g (f x)) s u :=
  ⟨by rw [k.own, h.own], h.others.trans k.others⟩

/-- A change of a door behind what leaves the doors. -/
theorem DoorStep.on_of_eq {f : DoorSt → DoorSt} (h : t.doors = s.doors) : DoorStep d f s (t.onDoor d f) := by
  refine ⟨?_, (OtherDoors.of_eq h).trans OtherDoors.on⟩
  rw [State.door_onDoor_same, State.door, h, State.door]

/-- What follows a step and leaves the doors. -/
theorem DoorStep.then_eq {f : DoorSt → DoorSt} (h : DoorStep d f s t) (hu : u.doors = t.doors) : DoorStep d f s u :=
  ⟨by rw [← h.own, State.door, hu, State.door], h.others.trans (OtherDoors.of_eq hu)⟩

theorem stage_doors {a : Nat} {w : StagedWrite} : (stage s a w).doors = s.doors := (stage_frame (x := among [.loop]) SameBut.rfl' rfl).2 .doors rfl

theorem doorOutput_doors {on : Bool} : (doorOutput s n on).doors = s.doors :=
  (doorOutput_frame (x := among [.field]) SameBut.rfl' rfl).2 .doors rfl

theorem doorEvent_doors {code : Nat} {v : Int} : (doorEvent s d code v).doors = s.doors := raise_touches.2 .doors rfl

/-- The end of nudging stages writes and forgets the arming (08 R249). -/
theorem endNudge_step : DoorStep d (fun x => { x with nudgeArm := false }) s (endNudge s d c) := by
  refine DoorStep.on_of_eq ?_
  split
  · exact each_keeps (get := State.doors) fun _ _ => stage_doors
  · rfl

theorem endNudge_touches : SameBut (among [.doors, .loop]) s (endNudge s d c) :=
  State.onDoor_frame (SameBut.ite (State.each_frame SameBut.rfl' fun _ _ h => stage_frame h rfl) SameBut.rfl') rfl

/-- The nudging output is off afterwards (08 R249). -/
theorem clearNudgeDo_step : DoorStep d (fun x => { x with nudgeOut := false }) s (clearNudgeDo s d c) := by
  unfold clearNudgeDo
  split
  · exact DoorStep.on_of_eq doorOutput_doors
  next h =>
    refine ⟨?_, fun _ _ => rfl⟩
    rw [← Bool.eq_false_iff.2 h]

/-- A door whose move is posted for a cycle. -/
def DoorSt.moved (ns : Nat) (opening : Bool) (x : DoorSt) : DoorSt :=
  { x with
    ns, stopping := false, testHeld := false, tripped := false, opening
    x0 := { x.x0 with t1 := 0, t2 := 0, t3 := 0, sums := [] }
    x1 := { x.x1 with t1 := 0, t2 := 0, t3 := 0, sums := [] } }

theorem moveDoor_step {ns : Nat} {target v a : Int} : DoorStep d (DoorSt.moved ns (decide (0 < target))) s (moveDoor s d c ns target v a) :=
  DoorStep.on_of_eq (each_keeps (get := State.doors) fun _ _ => stage_doors)

/-- A door with its opening started. -/
def DoorSt.openedAt (ns : Nat) (opening : Bool) (st : DoorState) (x : DoorSt) : DoorSt :=
  { DoorSt.moved ns opening { x with nudgeArm := false, nudgeOut := false } with state := st, hold := 0, retry := false, left := false }

theorem startOpen_step {ns : Nat} {st : DoorState} : ∃ b, DoorStep d (DoorSt.openedAt ns b st) s (startOpen s d c ns st) :=
  ⟨_, ((endNudge_step.trans clearNudgeDo_step).trans moveDoor_step).trans
    (DoorStep.on (f := fun x => { x with state := st, hold := 0, retry := false, left := false }))⟩

/-! ### door.open (08 R255) -/

/-- A door at rest or closing that door.open moves. -/
theorem openDoor_step {ns : Nat} {hold : Bool} (h1 : (s.door d).state ≠ .opened) (h2 : (s.door d).state ≠ .opening)
    (h3 : (s.door d).state ≠ .reopening) : ∃ b, DoorStep d (fun x => { DoorSt.openedAt ns b .opening x with
      holdOpen := hold, closePend := false, cmdClose := false, blocked := false }) s (openDoor s d c ns hold) := by
  obtain ⟨b, hb⟩ := startOpen_step (s := s) (d := d) (c := c) (ns := ns) (st := .opening)
  refine ⟨b, ?_⟩
  have hopen : openDoor s d c ns hold = (startOpen s d c ns .opening).onDoor d fun t => { t with
      holdOpen := hold, closePend := false, cmdClose := false, blocked := false } := by
    unfold openDoor
    split
    next h => exact absurd h h1
    next h => exact absurd h h2
    next h => exact absurd h h3
    next => rfl
  rw [hopen]
  exact hb.trans (DoorStep.on (f := fun x => { x with holdOpen := hold, closePend := false, cmdClose := false, blocked := false }))

/-- A request that names one committed door. -/
theorem namedDoors_one (hc : (s.door (rq r 16 2)).def_ = some c) (hflag : bitAt (rq r 18 1) 0 = false) : namedDoors s r = [(rq r 16 2, c)] := by
  unfold namedDoors
  dsimp only
  rw [hflag, hc]
  rfl

/-- A mate that door.open moves is another committed door, at rest or closing. -/
theorem openMates_state {e : Nat × DoorDef} (he : e ∈ openMates s [(d, c)]) :
    (s.door e.1).state ≠ .opened ∧ (s.door e.1).state ≠ .opening ∧ (s.door e.1).state ≠ .reopening := by
  unfold openMates at he
  rw [List.flatMap_cons, List.flatMap_nil, List.append_nil] at he
  have hst := (List.mem_filter.1 he).2
  simp only [Bool.and_eq_true] at hst
  obtain ⟨-, hst⟩ := hst
  refine ⟨fun h => ?_, fun h => ?_, fun h => ?_⟩ <;> rw [h] at hst <;> simp at hst

/-- At most one door moves with the one named. -/
theorem openMates_one : openMates s [(d, c)] = [] ∨ ∃ e, openMates s [(d, c)] = [e] := by
  unfold openMates
  rw [List.flatMap_cons, List.flatMap_nil, List.append_nil]
  cases doorPartner s c with
  | none => exact .inl rfl
  | some e =>
    rw [Option.toList_some, List.filter_cons, List.filter_nil]
    split
    · exact .inr ⟨e, rfl⟩
    · exact .inl rfl

/-- What door.open does to the door named and its mates: each opens at the same NS, no other changes (08 R236, R255). -/
theorem openDoors_spec {hold : Bool} (h1 : (s.door d).state ≠ .opened) (h2 : (s.door d).state ≠ .opening)
    (h3 : (s.door d).state ≠ .reopening) (hmates : ∀ e ∈ openMates s [(d, c)], e.1 ≠ d) :
    let t := (openDoor s d c n hold).each (openMates s [(d, c)]) fun s e => openDoor s e.1 e.2 n false
    (∃ b, t.door d = { DoorSt.openedAt n b .opening (s.door d) with
      holdOpen := hold, closePend := false, cmdClose := false, blocked := false }) ∧
    (∀ e ∈ openMates s [(d, c)], (t.door e.1).state = .opening ∧ (t.door e.1).ns = n) ∧
    ∀ k, k ≠ d → (∀ e ∈ openMates s [(d, c)], e.1 ≠ k) → t.door k = s.door k := by
  obtain ⟨b, hd, ho⟩ := openDoor_step (c := c) (ns := n) (hold := hold) h1 h2 h3
  rcases openMates_one (s := s) (d := d) (c := c) with h | ⟨e, h⟩
  · rw [h]
    exact ⟨⟨b, hd⟩, fun e he => absurd he List.not_mem_nil, fun k hk _ => ho k hk⟩
  · have hne := hmates e (h ▸ List.mem_singleton_self e)
    obtain ⟨g1, g2, g3⟩ := openMates_state (h ▸ List.mem_singleton_self e)
    rw [← ho e.1 hne] at g1 g2 g3
    obtain ⟨b', hd', ho'⟩ := openDoor_step (c := e.2) (ns := n) (hold := false) g1 g2 g3
    rw [h]
    refine ⟨⟨b, (ho' d (Ne.symm hne)).trans hd⟩, fun e' he => ?_, fun k hk hother => ?_⟩
    · rw [List.mem_singleton.1 he]
      exact ⟨congrArg DoorSt.state hd', congrArg DoorSt.ns hd'⟩
    · exact (ho' k (Ne.symm (hother e (List.mem_singleton_self e)))).trans (ho k hk)

/-- What door.open of one door leads to: its opening, and that of its mates. -/
def doorOpened (s : State) (r : Request) (d : Nat) (c : DoorDef) : State :=
  (openDoor s d c (doorNs s c) (bitAt (rq r 18 1) 1)).each (openMates s [(d, c)]) fun t e => openDoor t e.1 e.2 (doorNs s c) false

theorem doorOpened_touches : SameBut (among [.doors, .loop, .field]) s (doorOpened s r d c) :=
  State.each_frame (openDoor_frame SameBut.rfl' rfl rfl rfl) fun _ _ h => openDoor_frame h rfl rfl rfl

/-- An open door is left as it is, and its mates with it. -/
theorem doorOpened_open (h : (s.door d).state = .opened) : doorOpened s r d c = s := by
  have hmates : openMates s [(d, c)] = [] := by
    unfold openMates
    rw [List.flatMap_cons, List.flatMap_nil, List.append_nil, List.filter_eq_nil_iff]
    simp [h]
  unfold doorOpened openDoor
  rw [hmates, h]
  rfl

section
variable (hboth : (loopReady s && actReady s) = true) (hc : (s.door (rq r 16 2)).def_ = some c) (hflag : bitAt (rq r 18 1) 0 = false)
include hboth hc hflag

/-- door.open of one door: refused where it is not taken, else the opening, with the NS of the door in DETAIL. -/
theorem doorOpen_one (hright : hasRight s r.part 0x1410 = true) :
    (openable s (rq r 16 2) c = false → exec (.doorOpen r) s = .next (refused s (withOp r 0x1410))) ∧
    (openable s (rq r 16 2) c = true → exec (.doorOpen r) s = .next (ok (doorOpened s (withOp r 0x1410) (rq r 16 2) c) (withOp r 0x1410)
      (doorStates (doorOpened s (withOp r 0x1410) (rq r 16 2) c) [(rq r 16 2, c)])
      (((doorOpened s (withOp r 0x1410) (rq r 16 2) c).door (rq r 16 2)).ns % 4294967296) (contFor 17))) := by
  have hl : namedDoors s r = [(rq r 16 2, c)] := namedDoors_one hc hflag
  have hl' : namedDoors s { r with opcode := 0x1410 } = [(rq r 16 2, c)] := namedDoors_one (r := withOp r 0x1410) hc hflag
  have hbad : firstBad [(16, !(namedDoors s r).isEmpty)] = none := firstBad_none (by simp [hl])
  refine ⟨fun h => congrArg Host.Outcome.next ((serve_runs_nil hright hboth hbad).trans ?_),
    fun h => congrArg Host.Outcome.next ((serve_runs_nil hright hboth hbad).trans ?_)⟩
  · simp only [hl']
    exact if_neg (by simp [h])
  · simp only [hl']
    refine (if_pos (by simp [h])).trans ?_
    rw [show sharedNs s [(rq r 16 2, c)] = doorNs s c from Nat.zero_max _]
    rfl

/-- door.close of one door: refused where it is not taken, else its MODE. -/
theorem doorClose_one (hright : hasRight s r.part 0x1411 = true) (hmode : rq r 19 1 ≤ 3) :
    (closeable s (rq r 16 2) c (rq r 19 1) = false → exec (.doorClose r) s = .next (refused s (withOp r 0x1411))) ∧
    (closeable s (rq r 16 2) c (rq r 19 1) = true → ∃ fields cont,
      exec (.doorClose r) s = .next (ok (closeDoor s (rq r 16 2) (rq r 19 1)) (withOp r 0x1411) fields 0 cont)) := by
  have hl : namedDoors s r = [(rq r 16 2, c)] := namedDoors_one hc hflag
  have hl' : namedDoors s { r with opcode := 0x1411 } = [(rq r 16 2, c)] := namedDoors_one (r := withOp r 0x1411) hc hflag
  have hbad : firstBad [(16, !(namedDoors s r).isEmpty), (19, decide (rq r 19 1 ≤ 3))] = none := firstBad_none (by simp [hl, hmode])
  refine ⟨fun h => congrArg Host.Outcome.next ((serve_runs_nil hright hboth hbad).trans ?_),
    fun h => Exists.imp (fun fields => Exists.imp fun cont hrun => congrArg Host.Outcome.next ((serve_runs_nil hright hboth hbad).trans hrun)) ?_⟩
  · simp only [hl']
    exact if_neg (by simp [h])
  · simp only [hl']
    exact ⟨_, _, if_pos (by simp [h])⟩

end

theorem closeDoor_others : OtherDoors d s (closeDoor s d n) := by
  unfold closeDoor
  refine (OtherDoors.of_eq ?_).trans OtherDoors.on
  split <;> rfl

/-- MODE 3 returns a door to service, at an end of its travel or short of one. -/
theorem closeDoor_back : ((closeDoor s d 3).door d).service = true := by
  show ((State.onDoor (store s (.service d true)) d fun t => if t.state = .closed ∨ t.state = .opened then { t with service := true }
    else { t with service := true, state := .held, closePend := true }).door d).service = true
  rw [State.door_onDoor_same]
  split <;> rfl

/-! ### door.policy.set (08 R254) -/

/-- Sections above 3 have no fields. -/
theorem policyFields_nil {p : DoorDef} (h : 3 < rq r 18 1) : policyFields p r = [] := by
  unfold policyFields
  dsimp only
  split
  iterate 4 · omega
  rfl

theorem policyEnums_nil {p : DoorDef} (h : 3 < rq r 18 1) : policyEnums s p r = [] := by
  unfold policyEnums
  dsimp only
  split
  iterate 4 · omega
  rfl

section
variable (hboth : (loopReady s && actReady s) = true) (hd : rq r 16 2 ≤ 511) (hright : hasRight s r.part 0x1430 = true)
include hboth hd hright

/-- Section 4 and 5 note no clamp: the request runs on the state as it is. -/
theorem doorPolicySet_runs {run : Request → State → State} (hexec : exec (.doorPolicySet r) s = .next (serve s r 0x1430 (loopReady s && actReady s)
      (firstBad ([(16, decide (rq r 16 2 ≤ 511)), (18, decide (rq r 18 1 ≤ 5))] ++ policyEnums s (s.door (rq r 16 2)).pend r))
      ((policyFields (s.door (rq r 16 2)).pend r).flatMap fun e => clampedN e.1 e.2.2.1 e.2.2.2.1 e.2.2.2.2) run))
    (h3 : 3 < rq r 18 1) (h5 : rq r 18 1 ≤ 5) : exec (.doorPolicySet r) s = .next (run (withOp r 0x1430) s) := by
  have hbad : firstBad ([(16, decide (rq r 16 2 ≤ 511)), (18, decide (rq r 18 1 ≤ 5))] ++ policyEnums s (s.door (rq r 16 2)).pend r) = none := by
    rw [policyEnums_nil h3, decide_eq_true hd, decide_eq_true h5]
    rfl
  rw [hexec, serve_runs hright hboth hbad, policyFields_nil h3]
  rfl

/-- A commit is refused with the first rule that fails (08 R254). -/
theorem doorPolicySet_fails (h4 : rq r 18 1 = 4) {k o : Nat} {b : Bool}
    (hfail : (commitRules s (rq r 16 2)).find? (fun e => !e.2.2) = some (k, o, b)) :
    exec (.doorPolicySet r) s = .next (refused s (withOp r 0x1430) 0 [(16, 1, (k : Int)), (18, 2, (o : Int))]) := by
  refine (doorPolicySet_runs hboth hd hright rfl (by omega) (by omega)).trans (congrArg Host.Outcome.next ?_)
  simp only [h4, hfail]

/-- A commit that passes waits for the release phase (08 R254). -/
theorem doorPolicySet_passes (h4 : rq r 18 1 = 4) (hpass : (commitRules s (rq r 16 2)).find? (fun e => !e.2.2) = none) :
    exec (.doorPolicySet r) s = .next (s.onDoor (rq r 16 2) fun t => { t with
      commits := t.commits ++ [(withOp r 0x1430, { t.pend with edges := t.pend.edges.take t.pend.nEdge })], pend := {}, written := 0 }) := by
  refine (doorPolicySet_runs hboth hd hright rfl (by omega) (by omega)).trans (congrArg Host.Outcome.next ?_)
  simp only [h4, hpass]

/-- Section 5 empties the pending copy (08 R254). -/
theorem doorPolicySet_drop (h5 : rq r 18 1 = 5) : exec (.doorPolicySet r) s =
    .next (ok (s.onDoor (rq r 16 2) fun t => { t with pend := {}, written := 0 }) (withOp r 0x1430)) := by
  refine (doorPolicySet_runs hboth hd hright rfl (by omega) (by omega)).trans (congrArg Host.Outcome.next ?_)
  simp only [h5]

end

/-- A door whose learning starts (08 R244, R257). -/
def learnStarted (s : State) (r : Request) (d : Nat) (c : DoorDef) : State :=
  let t := s.door d
  let y := t.img.ax.getD 0 {}
  let whole := t.state == .closed || (y.inref && decide (iabs y.p * 256 ≤ c.stroke))
  let n := clampN 1 8 (rq r 18 1)
  (moveDoor (clearNudgeDo (endNudge s d c) d c) d c (doorNs s c) c.stroke c.vLearn c.aLearn).onDoor d fun t => { t with
    state := .learning, service := false, hold := 0, learnCycles := n, learnLeft := if whole then 2 * n else 2 * n + 2
    learnWait := 0, learnRef := [], learnMean := [], closePend := false, cmdClose := false, retry := false
    x0 := { t.x0 with lOpen := [], lClose := [], lMass := (0, 0) }, x1 := { t.x1 with lOpen := [], lClose := [], lMass := (0, 0) } }

theorem learnStarted_door : let t := learnStarted s r d c
    (t.door d).state = .learning ∧ (t.door d).service = false ∧ (t.door d).learnCycles = clampN 1 8 (rq r 18 1) ∧
    2 * clampN 1 8 (rq r 18 1) ≤ (t.door d).learnLeft ∧ OtherDoors d s t := by
  intro t
  have ht : t.door d = _ := State.door_onDoor_same
  refine ⟨congrArg DoorSt.state ht, congrArg DoorSt.service ht, congrArg DoorSt.learnCycles ht, ?_,
    ((endNudge_step.trans clearNudgeDo_step).trans moveDoor_step).others.trans OtherDoors.on⟩
  rw [ht]
  dsimp only
  split <;> omega

theorem learnStarted_touches (h : SameBut (among [.doors, .loop, .host, .field]) s t) :
    SameBut (among [.doors, .loop, .host, .field]) s (learnStarted t r d c) :=
  State.onDoor_frame (moveDoor_frame (clearNudgeDo_frame (h.trans (endNudge_touches.wider rfl)) rfl rfl) rfl rfl) rfl

/-- Settles O44: a request that names one committed door is one step of that door, with its mates for an opening. -/
theorem doorRequestsActOnTheDoorNamed : Obligations.DoorRequestsActOnTheDoorNamed := by
  intro r s c hready d x
  refine ⟨fun hc => ⟨fun hright => ?_, fun hright => ?_⟩, fun hact hc hflag => ⟨fun hright => ⟨fun hno => ?_, fun hyes hst => ?_,
    fun hyes h1 h2 h3 hmates => ?_⟩, fun hright hmode => ⟨fun hno => ?_, fun hyes => ?_⟩⟩, fun hact hc hright =>
    ⟨fun hst haxes hmay hinsp => ?_, fun hno => ?_⟩, fun hact hright hd => ⟨fun hsec hbad => ?_, fun hsec =>
    ⟨fun k o b hfail => ?_, fun hpass => ?_⟩, fun hsec => ?_⟩⟩
  · have hbad : firstBad [(16, knownDoor s d)] = none := firstBad_none (by simp [knownDoor, show (s.door d).def_ = some c from hc])
    exact ⟨_, congrArg Host.Outcome.next (serve_runs_nil hright hready hbad), by simp [x, d], by simp [x, d], by simp [x, d],
      by simp [x, d], by simp [x, d]⟩
  · have hbad : firstBad [(16, knownDoor s d)] = none := firstBad_none (by simp [knownDoor, show (s.door d).def_ = some c from hc])
    refine ⟨_, congrArg Host.Outcome.next (serve_runs_nil hright hready hbad), List.mem_cons_self, fun i hi => ⟨?_, ?_⟩⟩ <;>
      refine List.mem_cons_of_mem _ (List.mem_flatMap.2 ⟨i, List.mem_range.2 hi, ?_⟩)
    · exact List.mem_cons_self
    · exact .tail _ (.tail _ (.tail _ (.head _)))
  all_goals have hboth : (loopReady s && actReady s) = true := Bool.and_eq_true_iff.2 ⟨hready, hact⟩
  · exact (doorOpen_one hboth hc hflag hright).1 hno
  · have hsame := doorOpened_open (r := withOp r 0x1410) (d := d) (c := c) hst
    have hexec := (doorOpen_one hboth hc hflag hright).2 hyes
    rw [hsame] at hexec
    exact ⟨_, _, _, hexec⟩
  · obtain ⟨⟨b, hown⟩, hmate, hothers⟩ := openDoors_spec (n := doorNs s c) (hold := bitAt (rq r 18 1) 1) h1 h2 h3 hmates
    refine ⟨_, _, _, _, (doorOpen_one hboth hc hflag hright).2 hyes, ?_, ?_, ?_, ?_, ?_, ?_, hmate, hothers, doorOpened_touches⟩
    · exact congrArg DoorSt.state hown
    · exact congrArg DoorSt.holdOpen hown
    · exact congrArg DoorSt.closePend hown
    · exact (congrArg DoorSt.service hown).trans rfl
    · exact congrArg DoorSt.ns hown
    · exact congrArg (fun x => DoorSt.ns x % 4294967296) hown
  · exact (doorClose_one hboth hc hflag hright hmode).1 hno
  · obtain ⟨fields, cont, hexec⟩ := (doorClose_one hboth hc hflag hright hmode).2 hyes
    refine ⟨_, fields, cont, hexec, fun h => ?_, fun h => ?_, fun h => ?_, fun h => ?_, closeDoor_others, closeDoor_frame SameBut.rfl' rfl rfl⟩
    all_goals rw [h]
    · exact ⟨State.door_onDoor_same, rfl⟩
    · exact ⟨congrArg DoorSt.service State.door_onDoor_same, congrArg DoorSt.closePend State.door_onDoor_same, rfl⟩
    · exact ⟨congrArg DoorSt.state State.door_onDoor_same, congrArg DoorSt.closePend State.door_onDoor_same,
        congrArg DoorSt.refClose State.door_onDoor_same, rfl⟩
    · exact ⟨closeDoor_back, rfl⟩
  · have hbad : firstBad [(16, knownDoor s d)] = none := firstBad_none (by simp [knownDoor, show (s.door d).def_ = some c from hc])
    have hgo : ((outOfServiceRest x || x.state == .notLearned || x.state == .fault) && axesOn s c && mayOpen s c && !doorInsp s c) = true := by
      rw [haxes, hmay, hinsp]
      simpa [or_assoc] using hst
    obtain ⟨h, hexec⟩ : ∃ h, exec (.doorLearn r) s = .next (ok (learnStarted { s with host := h } r d c) (withOp r 0x1420)
        [(16, 1, (clampN 1 8 (rq r 18 1) : Int))]) :=
      exec_noted rfl hright hboth hbad fun h => by
        simp only [show State.door { s with host := h } (rq r 16 2) = x from rfl, hc, Option.getD_some]
        exact if_pos hgo
    obtain ⟨hstate, hserv, hcyc, hleft, hothers⟩ := learnStarted_door (s := { s with host := h }) (r := r) (d := d) (c := c)
    exact ⟨_, hexec, hstate, hserv, hcyc, hleft, hothers, learnStarted_touches (host_touches.wider rfl)⟩
  · have hbad : firstBad [(16, knownDoor s d)] = none := firstBad_none (by simp [knownDoor, show (s.door d).def_ = some c from hc])
    have hgo : ¬ ((outOfServiceRest x || x.state == .notLearned || x.state == .fault) && axesOn s c && mayOpen s c && !doorInsp s c) = true := by
      rcases hno with h | h | h <;> simp [h]
    obtain ⟨h, hexec⟩ : ∃ h, exec (.doorLearn r) s = .next (refused { s with host := h } (withOp r 0x1420)) :=
      exec_noted rfl hright hboth hbad fun h => by
        simp only [show State.door { s with host := h } (rq r 16 2) = x from rfl, hc, Option.getD_some]
        exact if_neg hgo
    exact ⟨_, hexec, host_touches⟩
  · have hlist : firstBad ([(16, decide (d ≤ 511)), (18, decide (rq r 18 1 ≤ 5))] ++ policyEnums s x.pend r) = none := by
      rw [decide_eq_true hd, decide_eq_true (show rq r 18 1 ≤ 5 by omega)]
      exact hbad
    obtain ⟨h, hexec⟩ : ∃ h, exec (.doorPolicySet r) s = .next (ok (State.onDoor { s with host := h } d fun t => { t with
        pend := policyWrite t.pend (withOp r 0x1430) (policyEff (policyFields x.pend r))
        written := t.written ||| BitVec.ofNat 4 (2 ^ rq r 18 1) }) (withOp r 0x1430) (policyPlain x.pend (withOp r 0x1430) ++
          (policyFields x.pend r).map fun e => (e.1, e.2.1, (clampN e.2.2.1 e.2.2.2.1 e.2.2.2.2 : Int)))) := by
      refine exec_noted rfl hright hboth hlist fun h => ?_
      split
      next h4 => omega
      next h5 => omega
      next => rfl
    exact ⟨_, _, hexec, State.door_onDoor_same, OtherDoors.on, State.onDoor_frame (host_touches.wider rfl) rfl⟩
  · exact doorPolicySet_fails hboth hd hright hsec hfail
  · exact ⟨_, doorPolicySet_passes hboth hd hright hsec hpass, State.door_onDoor_same, OtherDoors.on, State.onDoor_frame SameBut.rfl' rfl⟩
  · exact ⟨_, doorPolicySet_drop hboth hd hright hsec, State.door_onDoor_same, OtherDoors.on, State.onDoor_frame SameBut.rfl' rfl⟩

end Sys2Proof.Machine
end

section
/-! The moments of a committed door (08 R232 to R249). -/

namespace Sys2Proof.Machine

open Sys2Proof

variable {s t u : State} {c : DoorDef} {d n k : Nat}

theorem onLive_some {f : DoorDef → State} (h : (s.door d).def_ = some c) : onLive s d f = f c := by
  unfold onLive
  rw [h]

/-- A step behind what leaves the doors. -/
theorem DoorStep.after_eq {f : DoorSt → DoorSt} (h : t.doors = s.doors) (hu : DoorStep d f t u) : DoorStep d f s u :=
  ⟨by rw [hu.own, State.door, h, State.door], (OtherDoors.of_eq h).trans hu.others⟩

/-- A pass of steps of other doors keeps a door. -/
theorem each_keeps_door {l : List (Nat × DoorDef)} {f : State → Nat × DoorDef → State} (hf : ∀ s e, OtherDoors e.1 s (f s e))
    (hl : ∀ e ∈ l, e.1 ≠ k) : (s.each l f).door k = s.door k :=
  each_keeps_of_mem (P := fun t => t.door k = s.door k) (fun e he u hu => (hf u e k (Ne.symm (hl e he))).trans hu) rfl

/-! ### Late evaluations (08 R233) -/

/-- A door that stops posts moves and notes the stop. -/
theorem stopDoorAxes_step : DoorStep d (fun x => { x with stopping := true }) s (stopDoorAxes s d c) := by
  refine DoorStep.on_of_eq (each_keeps (get := State.doors) fun u a => ?_)
  unfold stopAxis
  extract_lets ns q x ahead k
  split
  · rfl
  · split
    · rfl
    · exact stage_doors

/-- A held door. -/
def DoorSt.heldWith (hold : Int) (x : DoorSt) : DoorSt := { leaveLearning x with state := .held, hold }

theorem leaveLearning_late {x : DoorSt} : (leaveLearning x).lateRun = x.lateRun := by
  unfold leaveLearning
  split <;> rfl

theorem holdDoor_step : DoorStep d (fun x => DoorSt.heldWith c.holdF { x with nudgeArm := false, stopping := true }) s (holdDoor s d c) :=
  (endNudge_step.trans stopDoorAxes_step).trans (DoorStep.on (f := DoorSt.heldWith c.holdF))

/-- A door with a late evaluation counted. -/
def DoorSt.lateAgain (n : Nat) (x : DoorSt) : DoorSt := { x with late := satAdd max32 x.late 1, lateRun := n, lateNow := true, okRun := 0 }

/-! ### Nudging (08 R248, R249) -/

theorem armNudge_step : DoorStep d (fun x => { x with nudgeArm := true, nudgeOut := true }) s (armNudge s d c) :=
  DoorStep.then_eq (t := doorOutput (s.onDoor d fun t => { t with nudgeArm := true, nudgeOut := true }) c.nudgeDo true)
    (DoorStep.on.then_eq doorOutput_doors) (doorEvent_doors.trans rfl)

/-- A door with its nudging close started. -/
def DoorSt.nudged (ns : Nat) (x : DoorSt) : DoorSt :=
  { DoorSt.moved ns false x with
    state := .nudging, hold := 0, nudgeArm := false, closePend := false, cmdClose := false, blocked := false, blockNs := 0, heldRep := false
    retry := false }

theorem nudgeDoor_step {ns : Nat} : DoorStep d (DoorSt.nudged ns) s (nudgeDoor s d c ns) := by
  have h : (s.each (doorAxes c) fun s a => stage s a { what := .flim (some (BitVec.ofInt 32 c.fNudge)) }).doors = s.doors :=
    each_keeps (get := State.doors) fun _ _ => stage_doors
  exact DoorStep.after_eq h ((moveDoor_step (target := 0)).trans (DoorStep.on (f := fun t => { t with
    state := .nudging, hold := 0, nudgeArm := false, closePend := false, cmdClose := false, blocked := false, blockNs := 0, heldRep := false
    retry := false })))

/-- Doors that close with a door are others. -/
theorem closeMates_ne {e : Nat × DoorDef} (he : e ∈ closeMates s d c) : e.1 ≠ d := by
  unfold closeMates at he
  dsimp only at he
  split at he
  · split at he
    · exact absurd he List.not_mem_nil
    · have := (List.mem_filter.1 he).2
      simp only [Bool.and_eq_true, bne_iff_ne] at this
      exact this.1.1.1
  · have := (List.mem_filter.1 he).2
    simp only [Bool.and_eq_true, bne_iff_ne] at this
    exact this.1.1.1

/-- The doors of the mates of a nudging close that nudge with it, and those that close with it. -/
def nudgeMates (s : State) (d : Nat) (c : DoorDef) : List (Nat × DoorDef) :=
  (closeMates s d c).filter fun e => (s.door e.1).nudgeArm && nudgeable s e.1 e.2

def closingMates (s : State) (d : Nat) (c : DoorDef) : List (Nat × DoorDef) := (closeMates s d c).filter fun e => closeReady s e.2 (s.door e.1)

/-- The nudging close of a door with its mates (08 R249). -/
def nudgeStarted (s : State) (d : Nat) (c : DoorDef) : State :=
  let ns := sharedNs s ((d, c) :: nudgeMates s d c ++ closingMates s d c)
  (s.each (closingMates s d c) fun s e => beginClose s e.1 e.2 ns).each ((d, c) :: nudgeMates s d c) fun s e => nudgeDoor s e.1 e.2 ns

theorem nudgeStarted_touches : SameBut (among [.doors, .loop]) s (nudgeStarted s d c) :=
  State.each_frame (State.each_frame SameBut.rfl' fun _ _ h => beginClose_frame h rfl rfl) fun _ _ h => nudgeDoor_frame h rfl rfl

theorem beginClose_others {ns : Nat} : OtherDoors d s (beginClose s d c ns) := moveDoor_step.others.trans OtherDoors.on

theorem nudgeStarted_door : let t := nudgeStarted s d c
    (t.door d).state = .nudging ∧ (t.door d).nudgeArm = false ∧ (t.door d).closePend = false ∧ (t.door d).blockNs = 0 ∧
    ∀ k, k ≠ d → (∀ e ∈ closeMates s d c, e.1 ≠ k) → t.door k = s.door k := by
  intro t
  have hclosed (k : Nat) (hk : ∀ e ∈ closeMates s d c, e.1 ≠ k) (ns : Nat) :
      (s.each (closingMates s d c) fun s e => beginClose s e.1 e.2 ns).door k = s.door k :=
    each_keeps_door (fun _ _ => beginClose_others) fun e he => hk e (List.mem_filter.1 he).1
  have hnudged (u : State) (k : Nat) (hk : ∀ e ∈ closeMates s d c, e.1 ≠ k) (ns : Nat) :
      (u.each (nudgeMates s d c) fun s e => nudgeDoor s e.1 e.2 ns).door k = u.door k :=
    each_keeps_door (fun _ _ => nudgeDoor_step.others) fun e he => hk e (List.mem_filter.1 he).1
  have hown : t.door d = DoorSt.nudged (sharedNs s ((d, c) :: nudgeMates s d c ++ closingMates s d c)) (s.door d) :=
    (hnudged _ d (fun _ => closeMates_ne) _).trans (nudgeDoor_step.own.trans (congrArg _ (hclosed d (fun _ => closeMates_ne) _)))
  refine ⟨congrArg DoorSt.state hown, congrArg DoorSt.nudgeArm hown, congrArg DoorSt.closePend hown, congrArg DoorSt.blockNs hown,
    fun k hk hmates => ?_⟩
  exact (hnudged _ k hmates _).trans ((nudgeDoor_step.others k hk).trans (hclosed k hmates _))

/-- Nudging begins at a door and, where it may nudge too, at its partner (08 R236, R248). -/
def nudgesArmed (s : State) (d : Nat) (c : DoorDef) : State :=
  s.each ((d, c) :: (doorPartner s c).toList.filter fun e => nudgeable s e.1 e.2 && !(s.door e.1).nudgeArm) fun s e => armNudge s e.1 e.2

theorem nudgesArmed_door (hpart : ∀ e, doorPartner s c = some e → e.1 ≠ d) : let t := nudgesArmed s d c
    t.door d = { s.door d with nudgeArm := true, nudgeOut := true } ∧
    (∀ e, doorPartner s c = some e → nudgeable s e.1 e.2 = true → (t.door e.1).nudgeArm = true) ∧
    ∀ k, k ≠ d → (∀ e, doorPartner s c = some e → e.1 ≠ k) → t.door k = s.door k := by
  obtain ⟨hown, hothers⟩ := armNudge_step (s := s) (d := d) (c := c)
  unfold nudgesArmed
  cases hp : doorPartner s c with
  | none => exact ⟨hown, fun e he => absurd he (by simp), fun k hk _ => hothers k hk⟩
  | some b =>
    have hne := hpart b hp
    rw [Option.toList_some, List.filter_cons, List.filter_nil]
    cases hb : nudgeable s b.1 b.2 && !(s.door b.1).nudgeArm with
    | true =>
      obtain ⟨hown', hothers'⟩ := armNudge_step (s := armNudge s d c) (d := b.1) (c := b.2)
      refine ⟨(hothers' d (Ne.symm hne)).trans hown, fun e he _ => ?_, fun k hk he => ?_⟩
      · obtain rfl := Option.some.inj he
        exact congrArg DoorSt.nudgeArm hown'
      · exact (hothers' k (Ne.symm (he b rfl))).trans (hothers k hk)
    | false =>
      refine ⟨hown, fun e he hnud => ?_, fun k hk _ => hothers k hk⟩
      obtain rfl := Option.some.inj he
      have harmed : (s.door b.1).nudgeArm = true := by simpa [hnud] using hb
      exact (congrArg DoorSt.nudgeArm (hothers b.1 hne)).trans harmed

/-- A place whose motion is the same has the same car at a door. -/
theorem doorCar_of_motion (h : t.motion = s.motion) : doorCar t c = doorCar s c := by
  unfold doorCar carCtx shaftCars allCars State.car
  rw [h]

/-- A blocked door is reported, to Traverse where it stands for a car (08 R248). -/
def heldReported (s : State) (d : Nat) (c : DoorDef) : State :=
  let u := doorEvent (s.onDoor d fun t => { t with heldRep := true }) d 6 (match closeBlock s c (s.door d) with | .channel i => (i : Int) | _ => 0xFF)
  match doorCar u c with | some x => report u (.doorHeld x.c.car) | none => u

theorem heldReported_step : DoorStep d (fun x => { x with heldRep := true }) s (heldReported s d c) := by
  unfold heldReported
  extract_lets u
  have hu : DoorStep d (fun x => { x with heldRep := true }) s u := DoorStep.on.then_eq doorEvent_doors
  split
  · exact hu.then_eq rfl
  · exact hu

theorem heldReported_touches : SameBut (among [.doors, .disp, .cairn, .ctr]) s (heldReported s d c) := by
  unfold heldReported
  extract_lets u
  have hu : SameBut (among [.doors, .disp, .cairn, .ctr]) s u := doorEvent_frame (State.onDoor_frame SameBut.rfl' rfl) rfl rfl
  split
  · exact report_frame hu rfl
  · exact hu

theorem heldReported_updates {y : CarCtx} (hy : doorCar s c = some y) :
    (heldReported s d c).disp.updates = s.disp.updates ++ [.doorHeld y.c.car] := by
  unfold heldReported
  extract_lets u
  have hu : SameBut (among [.doors, .cairn, .ctr]) s u := doorEvent_frame (State.onDoor_frame SameBut.rfl' rfl) rfl rfl
  rw [(doorCar_of_motion (hu.2 .motion rfl)).trans hy]
  exact congrArg (fun v : DispSt => v.updates ++ [Update.doorHeld y.c.car]) (hu.2 .disp rfl)

/-- Whether an edge's reference has moved by more than NOISE since it was stored, or was never stored (08 R246). -/
def refMoved (c : DoorDef) (e : EdgeSt) : Bool :=
  e.seeded && match e.stored with | some v => decide (c.noise < iabs (e.ref - v)) | none => e.armed

/-- A door with its moved references noted as stored (08 R246). -/
def refStored (c : DoorDef) (now : Nat) (x : DoorSt) : DoorSt :=
  { x with refAt := some now, edges := x.edges.map fun e => if refMoved c e then { e with stored := some e.ref } else e }

/-- The first storing of a door's references (08 R246). -/
theorem edgeRefStore_first (hc : (s.door d).def_ = some c) (href : (s.door d).refAt = none) (hmoved : (s.door d).edges.any (refMoved c) = true) :
    exec (.edgeRefStore d) s = .next (store (s.onDoor d (refStored c s.time.now))
      (.edgeRefs d ((refStored c s.time.now (s.door d)).edges.map (·.stored)))) := by
  have hstored : ((s.onDoor d (refStored c s.time.now)).door d) = refStored c s.time.now (s.door d) := State.door_onDoor_same
  refine congrArg Host.Outcome.next ((onLive_some hc).trans ?_)
  rw [← hstored]
  dsimp only
  rw [href]
  exact if_pos (show (true && (s.door d).edges.any (refMoved c)) = true by rw [hmoved]; rfl)

/-- Settles O46: each moment of a committed door is one step of it, and of the doors that move with it. -/
theorem doorMomentsFollowTheirTimes : Obligations.DoorMomentsFollowTheirTimes := by
  intro d s c hc x
  have hlate (himgs : x.imgs ≠ []) (hnow : x.lateNow = false) : ¬ ((s.door d).imgs.isEmpty || (s.door d).lateNow) = true := by
    simpa [x, hnow] using himgs
  refine ⟨fun im rest himgs => ?_, fun himgs hnow => ⟨fun hrun hmax => ?_, fun hrun => ?_⟩, fun hst hserv hinsp => ?_, fun hpend hserv =>
    ⟨fun h30 hrep => ?_, fun h180 hnud harm hpart => ?_⟩, fun harm => ⟨fun hnud hax => ?_, fun hno => ?_⟩,
    fun hretry hst hhold hinsp hmay hpart => ?_, fun e hedges hseed hstored harmed href => ?_⟩
  · refine congrArg Host.Outcome.next ((onLive_some hc).trans ?_)
    rw [show (s.door d).imgs = im :: rest from himgs]
  · have hn : satAdd max32 (s.door d).lateRun 1 = x.lateRun + 1 := Nat.min_eq_left hmax
    have hexec : exec (.doorEvalLate d) s = .next (s.onDoor d fun t => { t with
        late := satAdd max32 t.late 1, lateRun := satAdd max32 (s.door d).lateRun 1, lateNow := true, okRun := 0 }) :=
      congrArg Host.Outcome.next ((onLive_some hc).trans ((if_neg (hlate himgs hnow)).trans (if_pos (by omega))))
    rw [hn] at hexec
    exact ⟨_, hexec, State.door_onDoor_same, OtherDoors.on, State.onDoor_frame SameBut.rfl' rfl⟩
  · have hn : satAdd max32 (s.door d).lateRun 1 = 3 := by
      rw [show (s.door d).lateRun = 2 from hrun]
      decide
    have hexec : exec (.doorEvalLate d) s = .next (doorEvent ((if doorMoving x then holdDoor (s.onDoor d (DoorSt.lateAgain 3)) d c
        else s.onDoor d (DoorSt.lateAgain 3)).onDoor d fun t => { t with lateHold := true, retry := false }) d 0x0E 3) := by
      refine congrArg Host.Outcome.next ((onLive_some hc).trans ((if_neg (hlate himgs hnow)).trans ?_))
      dsimp only
      rw [hn]
      rfl
    refine ⟨_, hexec, ?_⟩
    cases hmov : doorMoving x with
    | true =>
      obtain ⟨hown, hothers⟩ := (((DoorStep.on (s := s) (d := d) (f := DoorSt.lateAgain 3)).trans (holdDoor_step (c := c))).trans (DoorStep.on
        (f := fun t => { t with lateHold := true, retry := false }))).then_eq (doorEvent_doors (code := 0x0E) (v := 3))
      exact ⟨congrArg DoorSt.lateHold hown, (congrArg DoorSt.lateRun hown).trans leaveLearning_late, fun _ => congrArg DoorSt.state hown,
        fun h => absurd h (by decide), hothers⟩
    | false =>
      obtain ⟨hown, hothers⟩ := ((DoorStep.on (s := s) (d := d) (f := DoorSt.lateAgain 3)).trans (DoorStep.on
        (f := fun t => { t with lateHold := true, retry := false }))).then_eq (doorEvent_doors (code := 0x0E) (v := 3))
      exact ⟨congrArg DoorSt.lateHold hown, congrArg DoorSt.lateRun hown, fun h => absurd h (by decide),
        fun _ => (congrArg DoorSt.state hown).trans rfl,        hothers⟩
  · exact ⟨_, congrArg Host.Outcome.next ((onLive_some hc).trans (if_pos ⟨hst, hserv, (Bool.not_eq_true' _).mpr hinsp⟩)),
      State.door_onDoor_same, OtherDoors.on, State.onDoor_frame SameBut.rfl' rfl⟩
  · have hexec : exec (.blocked30s d) s = .next (heldReported s d c) :=
      congrArg Host.Outcome.next ((onLive_some hc).trans (if_pos ⟨hpend, hserv, h30, (Bool.not_eq_true' _).mpr hrep⟩))
    obtain ⟨hown, hothers⟩ := heldReported_step (s := s) (d := d) (c := c)
    exact ⟨_, hexec, hown, fun y hy => heldReported_updates hy, hothers, heldReported_touches⟩
  · have hexec : exec (.blocked180s d) s = .next (nudgesArmed s d c) :=
      congrArg Host.Outcome.next ((onLive_some hc).trans (if_pos ⟨hnud, h180, (Bool.not_eq_true' _).mpr harm⟩))
    obtain ⟨hown, hpartner, hothers⟩ := nudgesArmed_door (s := s) (d := d) (c := c) hpart
    exact ⟨_, hexec, hown, hpartner, hothers, State.each_frame SameBut.rfl' fun _ _ h => armNudge_frame h rfl rfl rfl rfl⟩
  · obtain ⟨hstate, harm', hpend', hblock, hothers⟩ := nudgeStarted_door (s := s) (d := d) (c := c)
    exact ⟨_, congrArg Host.Outcome.next ((onLive_some hc).trans ((if_pos harm).trans (if_pos ⟨hnud, hax⟩))), hstate, harm', hpend', hblock,
      hothers, nudgeStarted_touches⟩
  · have hgo : ¬ (nudgeable s d c = true ∧ axesOn s c = true) := fun ⟨h1, h2⟩ => by rcases hno with h | h <;> simp_all
    exact ⟨_, congrArg Host.Outcome.next ((onLive_some hc).trans ((if_pos harm).trans (if_neg hgo))), endNudge_step.own, endNudge_step.others,
      endNudge_touches⟩
  · have hexec : exec (.openRetry d) s = .next (startOpen s d c (doorNs s c) .opening) := by
      refine congrArg Host.Outcome.next ((onLive_some hc).trans ((if_pos
        ⟨hretry, hst, (Bool.not_eq_true' _).mpr hhold, (Bool.not_eq_true' _).mpr hinsp, hmay⟩).trans ?_))
      rw [hpart]
    obtain ⟨b, hown, hothers⟩ := startOpen_step (s := s) (d := d) (c := c) (ns := doorNs s c) (st := .opening)
    exact ⟨_, hexec, congrArg DoorSt.state hown, congrArg DoorSt.retry hown, hothers, startOpen_frame SameBut.rfl' rfl rfl rfl⟩
  · have hmoved : refMoved c e = true := by simp [refMoved, hseed, hstored, harmed]
    have hexec := edgeRefStore_first hc href (by simp [show (s.door d).edges = [e] from hedges, hmoved])
    have hnew : (refStored c s.time.now (s.door d)).edges = [{ e with stored := some e.ref }] := by
      simp [refStored, show (s.door d).edges = [e] from hedges, hmoved]
    rw [hnew] at hexec
    exact ⟨_, hexec, congrArg DoorSt.refAt State.door_onDoor_same, (congrArg DoorSt.edges State.door_onDoor_same).trans hnew, rfl, OtherDoors.on,
      store_frame (State.onDoor_frame SameBut.rfl' rfl) rfl⟩

end Sys2Proof.Machine
end

section
/-! The dispatch class and the moments of a call (02 R69, 09). -/

namespace Sys2Proof.Machine

open Sys2Proof

variable {s t u : State} {r : Request} {id n k : Nat} {c : Cand}

/-! ### What changes a call (09 R259, R266) -/

theorem callEvent_disp {code car landing value : Nat} : (callEvent s id code car landing value).disp = s.disp :=
  (callEvent_frame (x := among [.ctr, .cairn]) SameBut.rfl' rfl rfl).2 .disp rfl

theorem ok_disp {l : List (Nat × Nat × Int)} {d m : Nat} : (ok s r l d m).disp = s.disp :=
  (ok_frame (x := among [.host, .ctr]) SameBut.rfl' rfl rfl).2 .disp rfl

/-- Two states with the same dispatch part hold the same calls. -/
theorem call_of_disp (h : t.disp = s.disp) : t.call n = s.call n := by rw [State.call, h, State.call]

/-- The dispatch part but for its stop lists. -/
def dispRest (s : State) : DispSt := { s.disp with lists := [] }

theorem call_of_dispRest (h : dispRest t = dispRest s) : t.call n = s.call n := by
  have hcalls : (dispRest t).calls = (dispRest s).calls := congrArg DispSt.calls h
  rw [State.call, show t.disp.calls = s.disp.calls from hcalls, State.call]

theorem cycle_of_dispRest (h : dispRest t = dispRest s) : t.disp.cycle = s.disp.cycle := by
  have hcycle : (dispRest t).cycle = (dispRest s).cycle := congrArg DispSt.cycle h
  exact hcycle

/-- A call given to a candidate. -/
def Call.given (c : Cand) (x : Call) : Call :=
  { x with state := if x.state = .onBoard then .onBoard else .assigned, car := c.car, wait := msUp c.wait }

/-- Lists put in place leave the rest of the dispatch part. -/
theorem setLists_dispRest {l : List (Nat × List Stop)} : dispRest (s.each l fun s e => setList s e.1 e.2) = dispRest s :=
  each_keeps fun _ _ => rfl

/-- An assignment changes the lists and the call it gives. -/
theorem assignCall_dispRest : dispRest (assignCall s id c) = dispRest (s.onCall id (Call.given c)) := by
  unfold assignCall
  extract_lets u was v
  have hu : dispRest u = dispRest s := setLists_dispRest
  have hv : dispRest v = { dispRest u with calls := tabMod (dispRest u).calls {} id (Call.given c) } := rfl
  rw [dispRest, callEvent_disp]
  exact hv.trans (by rw [hu]; rfl)

theorem assignCall_call : (assignCall s id c).call id = Call.given c (s.call id) :=
  (call_of_dispRest assignCall_dispRest).trans State.call_onCall_same

theorem assignCall_others (h : k ≠ id) : (assignCall s id c).call k = s.call k :=
  (call_of_dispRest assignCall_dispRest).trans (State.call_onCall_ne h)

/-- A call without a car. -/
def Call.carless (x : Call) : Call := { x with state := .unassigned, car := 0xFF, wait := max32, reason := if x.reason = 0 then 11 else x.reason }

theorem unassignCall_disp : (unassignCall s id).disp = (s.onCall id Call.carless).disp := callEvent_disp

theorem abandonCall_disp {reason : Nat} : (abandonCall s id reason).disp = (s.onCall id fun c => { c with state := .abandoned, reason }).disp :=
  callEvent_disp

/-! ### Submission (02 R69, 09 R268) -/

/-- The state with a call made of a request. -/
def callMade (s : State) (r : Request) : State :=
  s.onDisp fun d => { d with
    next := if s.disp.next + 1 = 4294967296 then 1 else s.disp.next + 1, calls := tabSet d.calls s.disp.next (callOf s r) }

theorem callMade_call : (callMade s r).call s.disp.next = callOf s r := tabGet_tabSet_same

section
variable (hroom : (s.disp.calls.filter fun e => outstanding e.2).length < 16384)
  (hreach : ((callCars s (callOf s r)).any fun x => reaches x (callOf s r)) = true)
include hroom hreach

/-- A call that no car can take stays without one. -/
theorem runSubmit_none {policy : Option Nat} (hcands : candidates (callMade s r) s.disp.next none none = []) :
    runSubmit s r policy = submitDone (unassignCall (callMade s r) s.disp.next) r s.disp.next :=
  (if_neg (Nat.not_le.2 hroom)).trans ((if_neg (by simp [hreach])).trans (if_pos (List.isEmpty_iff.2 hcands)))

/-- A call with candidates and no choice of the policy waits for it. -/
theorem runSubmit_waits (hcands : candidates (callMade s r) s.disp.next none none ≠ []) : runSubmit s r none =
    (callMade s r).onDisp fun d => { d with serving := some (r, s.disp.next, candidates (callMade s r) s.disp.next none none) } :=
  (if_neg (Nat.not_le.2 hroom)).trans ((if_neg (by simp [hreach])).trans (if_neg (by rw [List.isEmpty_iff]; exact hcands)))

/-- The policy's choice among the candidates takes the call. -/
theorem runSubmit_chosen (hc : (candidates (callMade s r) s.disp.next none none).find? (fun c => c.car == n) = some c) :
    runSubmit s r (some n) = submitDone (assignCall (callMade s r) s.disp.next c) r s.disp.next := by
  have hne : candidates (callMade s r) s.disp.next none none ≠ [] := fun h => by rw [h] at hc; simp at hc
  refine (if_neg (Nat.not_le.2 hroom)).trans ((if_neg (by simp [hreach])).trans ((if_neg (by rw [List.isEmpty_iff]; exact hne)).trans ?_))
  change (match (candidates (callMade s r) s.disp.next none none).find? (fun c => c.car == n) with | some c => _ | none => _) = _
  rw [hc]
  rfl

end

/-! ### The update of Traverse (09 R269, R276) -/

/-- A call keeps its state where a change of another or of the same keeps states. -/
theorem state_onCall {f : Call → Call} (hf : ∀ x, (f x).state = x.state) : ((s.onCall n f).call k).state = (s.call k).state := by
  by_cases h : k = n
  · subst h
    rw [State.call_onCall_same, hf]
  · rw [State.call_onCall_ne h]

/-- Estimates anew change the waits alone. -/
theorem refreshShaft_state {h : Nat} : ((refreshShaft s h).call k).state = (s.call k).state ∧ (refreshShaft s h).disp.cycle = s.disp.cycle := by
  unfold refreshShaft
  extract_lets lists
  split
  · exact ⟨rfl, rfl⟩
  · split
    · exact ⟨rfl, rfl⟩
    next p _ =>
      have hp : dispRest (s.each p fun s e => setList s e.1 e.2) = dispRest s := setLists_dispRest
      extract_lets u
      have hu : ((u.call k).state, u.disp.cycle) = ((s.call k).state, s.disp.cycle) :=
        Prod.ext (congrArg Call.state (call_of_dispRest hp)) (cycle_of_dispRest hp)
      refine Prod.mk.inj ((each_keeps (get := fun t => ((t.call k).state, t.disp.cycle)) fun v e => ?_).trans hu)
      refine each_keeps (get := fun t => ((t.call k).state, t.disp.cycle)) fun v t => ?_
      exact each_keeps (get := fun t => ((t.call k).state, t.disp.cycle)) fun v i => Prod.ext (state_onCall fun _ => rfl) rfl

/-- An UNASSIGNED call evaluated again changes no other call. -/
theorem evaluateAgain_others {a : Again} (ha : a.only = none) (hk : k ≠ a.id ∨ (s.call k).state ≠ .unassigned) :
    (evaluateAgain s a).call k = s.call k := by
  unfold evaluateAgain
  rw [ha]
  dsimp only
  split
  · rfl
  next hun =>
    have hne : k ≠ a.id := fun h => hk.elim (fun hk => hk h) fun hk => hk (h ▸ Classical.not_not.1 hun)
    split
    · exact assignCall_others hne
    · split
      · rfl
      · exact (call_of_disp unassignCall_disp).trans (State.call_onCall_ne hne)

/-- Calls sorted in are those given and the one put in. -/
theorem mem_insertAgain {a b : Again} {l : List Again} (h : b ∈ insertAgain s a l) : b = a ∨ b ∈ l := by
  induction l with
  | nil => exact .inl (List.mem_singleton.1 h)
  | cons x l ih =>
    unfold insertAgain at h
    split at h
    · exact List.mem_cons.1 h
    · rcases List.mem_cons.1 h with h | h
      · exact .inr (h ▸ List.mem_cons_self)
      · exact (ih h).imp_right (List.mem_cons_of_mem _)

theorem mem_sortAgain {b : Again} {l m : List Again} (h : b ∈ l.foldl (fun m a => insertAgain s a m) m) : b ∈ l ∨ b ∈ m := by
  induction l generalizing m with
  | nil => exact .inr h
  | cons a l ih =>
    rcases ih h with h | h
    · exact .inl (List.mem_cons_of_mem _ h)
    · rcases mem_insertAgain h with rfl | h
      · exact .inl List.mem_cons_self
      · exact .inr h

/-- A call that is not UNASSIGNED stays as it is while those that are due are evaluated. -/
theorem evaluateAll_keeps {l : List Again} (hl : ∀ a ∈ l, a.only = none) (hk : (s.call k).state ≠ .unassigned) :
    (evaluateAll s l).call k = s.call k :=
  each_keeps_of_mem (P := fun t => t.call k = s.call k) (fun a ha _ ht =>
    (evaluateAgain_others (hl a ((mem_sortAgain ha).resolve_right List.not_mem_nil)) (.inr (ht ▸ hk))).trans ht) rfl

theorem dueCalls_only {fresh : List Nat} {a : Again} (h : a ∈ dueCalls s fresh) : a.only = none := by
  obtain ⟨e, -, rfl⟩ := List.mem_map.1 h
  rfl

/-- A cancel of an outstanding call that has no passenger on board is settled (09 R276). -/
theorem settleCancel_call (h : (s.call id).state = .unassigned ∨ (s.call id).state = .assigned) :
    ((settleCancel s r id).call id).state = .cancelled := by
  unfold settleCancel
  extract_lets c u
  have hdone (v : State) (car src : Nat) : ((ok (callEvent (bump (v.onCall id fun c => { c with state := .cancelled }) (cDoor 11)) id 6 car src 0) r
      [(16, 1, (4 : Int))]).call id).state = .cancelled := by
    rw [call_of_disp (ok_disp.trans callEvent_disp)]
    show ((v.onCall id fun c => { c with state := .cancelled }).call id).state = .cancelled
    rw [State.call_onCall_same]
  rcases h with h | h <;> rw [show c.state = _ from h] <;> exact hdone _ _ _

/-! ### The update as a whole -/

/-- The start of an update: what was reported is taken (09 R269). -/
def updateBegun (s : State) : State := s.onDisp fun d => { d with updates := [], owed := false }

/-- The cancels of an update (09 R276). -/
def cancelsSettled (s : State) : State :=
  (s.onDisp fun d => { d with cancels := [] }).each s.disp.cancels fun s e => settleCancel s e.1 e.2

/-- The end of an update: its cycle, and the estimates anew (09 R275, R277). -/
def updateEnded (s : State) : State :=
  (s.onDisp fun d => { d with cycle := s.time.cycle, upAt := nowUs s }).each (List.range 8) refreshShaft

/-- The reports of an update applied, with the calls they return (09 R269, R273). -/
def updateApplied (s : State) : State × List Again :=
  s.disp.updates.foldl (fun (a : State × List Again) u => let (s, m) := applyUpdate a.1 u; (s, a.2 ++ m)) (updateBegun s, [])

/-- The cars at a stop with their doors open have served it (09 R270). -/
def stopsServed (s : State) : State :=
  s.each (allCars s) fun s x =>
    let k := s.car x.c.car
    if k.state == .idle && k.serving && stopOpen s x then serveStop s x.c.car else s

/-- The UNASSIGNED calls that an update evaluates beside those returned (09 R261). -/
def dueNow (s : State) (l : List Again) : List Again :=
  (dueCalls s ((availCars s).filter fun n => !s.disp.avail.contains n)).filter fun a => !l.any fun b => b.id == a.id

/-- The calls returned and due are evaluated (09 R273). -/
def againEvaluated (s : State) (l : List Again) : State :=
  evaluateAll (s.onDisp fun d => { d with due := [], avail := availCars s }) (l ++ dueNow s l)

/-- An update in its stages. -/
theorem applyMotion_eq (h : s.disp.serving = none) : applyMotion s =
    updateEnded (againEvaluated (cancelsSettled (stopsServed (updateApplied s).1)) (updateApplied s).2) := by
  unfold applyMotion
  rw [if_neg (by simp [h])]
  split
  next v l heq =>
  have hp : updateApplied s = (v, l) := heq
  rw [hp]
  extract_lets s₂ cancels s₃ cars due s₄ s₅
  have h₂ : s₂ = stopsServed v := rfl
  have h₃ : s₃ = cancelsSettled s₂ := rfl
  have h₄ : s₄ = againEvaluated s₃ l := rfl
  have h₅ : s₅.each (List.range 8) refreshShaft = updateEnded s₄ := rfl
  rw [h₅, h₄, h₃, h₂]

/-- Estimates anew in any shafts leave the states of calls, the cycle of the update and the time. -/
theorem refreshShafts_keep {l : List Nat} : ((s.each l refreshShaft).call k).state = (s.call k).state ∧
    (s.each l refreshShaft).disp.cycle = s.disp.cycle ∧ (s.each l refreshShaft).time = s.time :=
  ⟨each_keeps (get := fun t => (t.call k).state) fun _ _ => refreshShaft_state.1,
    each_keeps (get := fun t => t.disp.cycle) fun _ _ => (refreshShaft_state (k := 0)).2,
    each_keeps (get := State.time) fun _ _ => (refreshShaft_frame (x := among [.disp]) SameBut.rfl' rfl).2 .time rfl⟩

theorem updateEnded_keeps : (updateEnded s).disp.cycle = s.time.cycle ∧ (updateEnded s).time = s.time ∧
    ((updateEnded s).call k).state = (s.call k).state := by
  unfold updateEnded
  obtain ⟨hstate, hcycle, htime⟩ := refreshShafts_keep (s := s.onDisp fun d => { d with cycle := s.time.cycle, upAt := nowUs s })
    (l := List.range 8) (k := k)
  exact ⟨hcycle, htime, hstate⟩

/-- With nothing reported and no car at a stop, an update begins with the cancels. -/
theorem stopsServed_quiet (hup : s.disp.updates = []) (hcars : ∀ x ∈ allCars s, (s.car x.c.car).serving = false) :
    (updateApplied s).2 = [] ∧ stopsServed (updateApplied s).1 = updateBegun s := by
  have h : updateApplied s = (updateBegun s, []) := by
    unfold updateApplied
    rw [hup]
    rfl
  rw [h]
  refine ⟨rfl, each_keeps_of_mem (P := fun t => t = updateBegun s) (fun x hx t ht => ?_) rfl⟩
  subst ht
  exact if_neg (by simp [show ((updateBegun s).car x.c.car).serving = false from hcars x hx])

/-- A cancel alone in an update, with nothing reported and no car at a stop, is settled at its end (09 R276). -/
theorem applyMotion_cancels (hserving : s.disp.serving = none) (hup : s.disp.updates = [])
    (hcars : ∀ x ∈ allCars s, (s.car x.c.car).serving = false) (hcancels : s.disp.cancels = [(r, id)])
    (hst : (s.call id).state = .unassigned ∨ (s.call id).state = .assigned) : ((applyMotion s).call id).state = .cancelled := by
  obtain ⟨hl, hs⟩ := stopsServed_quiet hup hcars
  have hone : cancelsSettled (updateBegun s) = settleCancel ((updateBegun s).onDisp fun d => { d with cancels := [] }) r id := by
    unfold cancelsSettled
    rw [show (updateBegun s).disp.cancels = [(r, id)] from hcancels]
    rfl
  have hsettled : ((cancelsSettled (updateBegun s)).call id).state = .cancelled := by
    rw [hone]
    exact settleCancel_call hst
  rw [applyMotion_eq hserving, hs, hl, updateEnded_keeps.2.2]
  generalize cancelsSettled (updateBegun s) = u at hsettled
  refine (congrArg Call.state (evaluateAll_keeps (fun a ha => ?_) ?_)).trans hsettled
  · exact dueCalls_only (List.mem_filter.1 ha).1
  · exact fun h => nomatch hsettled.symm.trans h

/-- With no call due, the calls due are none to evaluate. -/
theorem runDue_none (h : s.disp.due = []) : runDue s = s := by
  have hdrop : s.onDisp (fun d => { d with due := [] }) = s := by
    show { s with disp := { s.disp with due := [] } } = s
    rw [← h]
  have hnone : dueCalls s [] = [] := by
    unfold dueCalls
    rw [h]
    simp
  unfold runDue
  rw [hdrop, hnone]
  rfl

/-- A call served at its deadline goes to its candidate with the least WAIT, with nothing else to do (09 R268). -/
theorem policyDeadline_given {cands : List Cand} (hserving : s.disp.serving = some (r, id, cands)) (hwait : s.disp.waiting = [])
    (howed : s.disp.owed = false) (hdue : s.disp.due = []) (hc : leastCand (·.wait) cands = some c) :
    exec .policyDeadline s = .next (submitDone (assignCall (bump (s.onDisp fun d => { d with serving := none }) (cDoor 7)) id c) r id) := by
  show execPolicyDeadline s = _
  unfold execPolicyDeadline
  rw [hserving]
  refine congrArg Host.Outcome.next ?_
  dsimp -zeta only
  extract_lets u v w
  have hv : v = submitDone (assignCall u id c) r id := by
    unfold v
    rw [hc]
  have hrest : dispRest v = dispRest (u.onCall id (Call.given c)) := by
    rw [hv, dispRest, submitDone, ok_disp]
    exact assignCall_dispRest
  have hw : w = v := by
    have howed' : v.disp.owed = false := (show v.disp.owed = s.disp.owed from (congrArg DispSt.owed hrest :)).trans howed
    have hdue' : v.disp.due = [] := (show v.disp.due = s.disp.due from (congrArg DispSt.due hrest :)).trans hdue
    exact (if_neg (by simp [howed'])).trans (runDue_none hdue')
  have hwait' : v.disp.waiting = [] := (show v.disp.waiting = s.disp.waiting from (congrArg DispSt.waiting hrest :)).trans hwait
  rw [hw, hwait', hv]
  rfl

/-- A submission with every field in its enumeration passes the checks (02 R69). -/
theorem firstBad_submit (hkind : rq r 16 1 ≤ 3) (hshafts : ∀ h, h < 8 → bitAt (rq r 17 1) h = true → declaredShaft s h = true)
    (hsrc : landingKnown s (rq r 17 1) (rq r 18 1) = true) (hdst : rq r 16 1 = 3 → landingKnown s (rq r 17 1) (rq r 19 1) = true)
    (honly : rq r 16 1 = 2 → rq r 20 1 ≤ 63 ∧ knownCar s (rq r 20 1) = true) :
    firstBad [(16, decide (rq r 16 1 ≤ 3)), (17, (List.range 8).all fun h => !bitAt (rq r 17 1) h || declaredShaft s h),
      (18, landingKnown s (rq r 17 1) (rq r 18 1)), (19, rq r 16 1 != 3 || landingKnown s (rq r 17 1) (rq r 19 1)),
      (20, rq r 16 1 != 2 || (decide (rq r 20 1 ≤ 63) && knownCar s (rq r 20 1)))] = none := by
  have hall : ((List.range 8).all fun h => !bitAt (rq r 17 1) h || declaredShaft s h) = true := by
    refine List.all_eq_true.2 fun h hh => ?_
    cases hb : bitAt (rq r 17 1) h with
    | false => rfl
    | true => exact hshafts h (List.mem_range.1 hh) hb
  refine firstBad_none fun x hx => ?_
  simp only [List.mem_cons, List.not_mem_nil, or_false] at hx
  rcases hx with rfl | rfl | rfl | rfl | rfl
  · exact decide_eq_true hkind
  · exact hall
  · exact hsrc
  · by_cases h : rq r 16 1 = 3 <;> simp [h, hdst]
  · by_cases h : rq r 16 1 = 2
    · simp [h, honly h]
    · simp [h]

/-- Settles O47: a call's request and its moments each change the call named, by the one lemma about what gives, frees or ends it. -/
theorem callsAreDispatched : Obligations.CallsAreDispatched := by
  intro r s hready
  have hboth (hact : actReady s = true) : (motionReady s && actReady s) = true := Bool.and_eq_true_iff.2 ⟨hready, hact⟩
  refine ⟨fun hright hmay => ?_, fun hright hn hcar hfirst => ?_, fun hact hright hmay => ⟨fun hst => ?_, fun hst => ?_, fun hst => ?_⟩,
    fun policy hact hright hkind hshafts hsrc hdst honly => ⟨fun hserving => ?_, fun hserving hroom y z cands hy hreach hz hcands => ?_⟩,
    fun hserving => ?_,
    fun id cands c hserving hwait howed hdue hc hst => ?_, fun id hhas hst => ⟨fun c hserving hc => ?_, fun e hserving hdue => ?_, ?_⟩,
    fun id hhas hout => ?_, fun hserving => ?_⟩
  · have hbad : firstBad [(16, mayAddress s r.part (rq r 16 4))] = none := firstBad_none (by simp [hmay])
    exact ⟨_, congrArg Host.Outcome.next (serve_runs_nil hright hready hbad), by simp, by simp, by simp, by simp, by simp⟩
  · have hbad : firstBad [(16, decide (rq r 16 1 ≤ 63) && knownCar s (rq r 16 1)), (17, decide (rq r 17 1 ≤ 127))] = none :=
      firstBad_none (by simp [hn, hcar, hfirst])
    obtain ⟨x, hx⟩ := Option.isSome_iff_exists.1 hcar
    obtain ⟨h, hexec⟩ := exec_noted (c := .carStoplist r) rfl hright hready hbad fun h => rfl
    rw [show carCtx { s with host := h } (rq r 16 1) = some x from hx] at hexec
    exact ⟨_, _, _, hexec, List.mem_append_left _ (by simp), List.mem_append_left _ (by simp), host_touches⟩
  · have hexec : exec (.callCancel r) s = .next (s.onDisp fun d => { d with cancels := d.cancels ++ [(withOp r 0x1511, rq r 16 4)] }) := by
      refine congrArg Host.Outcome.next ((serve_runs_nil hright (hboth hact) (firstBad_none (by simp [hmay]))).trans ?_)
      rcases hst with h | h <;> rw [h] <;> rfl
    exact ⟨_, hexec, rfl, State.onDisp_frame SameBut.rfl' rfl⟩
  · refine congrArg Host.Outcome.next ((serve_runs_nil hright (hboth hact) (firstBad_none (by simp [hmay]))).trans ?_)
    rw [hst]
    rfl
  · refine congrArg Host.Outcome.next ((serve_runs_nil hright (hboth hact) (firstBad_none (by simp [hmay]))).trans ?_)
    rcases hst with h | h | h <;> rw [h] <;> rfl
  · obtain ⟨h, hexec⟩ : ∃ h, exec (.callSubmit r policy) s = .next (State.onDisp { s with host := h } fun d => { d with
        waiting := d.waiting ++ [(withOp r 0x1510, policy)] }) :=
      exec_noted rfl hright (hboth hact) (firstBad_submit hkind hshafts hsrc hdst honly) fun h => if_pos hserving
    exact ⟨_, hexec, rfl, State.onDisp_frame (host_touches.wider rfl) rfl⟩
  · have hexec : exec (.callSubmit r policy) s = .next (runSubmit y (withOp r 0x1510) policy) := by
      rw [hy]
      refine congrArg Host.Outcome.next ((serve_runs hright (hboth hact) (firstBad_submit hkind hshafts hsrc hdst honly)).trans (if_neg ?_))
      rw [noteClamps_touches.2 .disp rfl]
      simp [hserving]
    have hdisp : y.disp = s.disp := by
      rw [hy]
      exact noteClamps_touches.2 .disp rfl
    rw [← hdisp] at hroom hcands ⊢
    obtain rfl : z = callMade y (withOp r 0x1510) := hz
    subst hcands
    refine ⟨fun hnone => ?_, fun hsome hpol => ?_, fun n c hpol hc => ?_⟩
    · rw [runSubmit_none hroom hreach hnone] at hexec
      refine ⟨_, _, hexec, ?_, ?_⟩ <;> rw [call_of_disp unassignCall_disp, State.call_onCall_same] <;> rfl
    · subst hpol
      exact hexec.trans (congrArg Host.Outcome.next (runSubmit_waits hroom hreach hsome))
    · subst hpol
      rw [runSubmit_chosen hroom hreach hc] at hexec
      refine ⟨_, _, hexec, ?_, ?_⟩ <;> rw [assignCall_call, callMade_call] <;> rfl
  · refine congrArg Host.Outcome.next ?_
    rw [hserving]
  · have hcall : (assignCall (bump (s.onDisp fun d => { d with serving := none }) (cDoor 7)) id c).call id = Call.given c (s.call id) := assignCall_call
    refine ⟨_, _, policyDeadline_given hserving hwait howed hdue hc, ?_, ?_, ?_⟩
    · exact congrArg DispSt.serving (assignCall_dispRest (s := bump (s.onDisp fun d => { d with serving := none }) (cDoor 7)) (id := id) (c := c))
    · rw [hcall]
      exact if_neg hst
    · rw [hcall]
      rfl
  · have hexec : exec (.callReevalTimer id) s = .next (assignCall s id c) := by
      refine congrArg Host.Outcome.next ((if_neg (by simp [hst, hhas])).trans ((if_neg (by simp [hserving])).trans ?_))
      refine (if_neg (by simp [hst])).trans ?_
      rw [hc]
    refine ⟨_, hexec, ?_, ?_, assignCall_frame SameBut.rfl' rfl rfl rfl⟩
    · rw [assignCall_call]
      exact if_neg (by rw [hst]; decide)
    · rw [assignCall_call]
      rfl
  · exact congrArg Host.Outcome.next ((if_neg (by simp [hst, hhas])).trans ((if_pos (by simp [hserving])).trans
      (if_neg (by rw [hdue]; decide))))
  · have hdisp := abandonCall_disp (s := s) (id := id) (reason := 12)
    refine ⟨_, congrArg Host.Outcome.next (if_pos ⟨hhas, hst⟩), ?_, ?_, fun k hk => ?_, abandonCall_frame SameBut.rfl' rfl rfl rfl⟩
    · exact congrArg Call.state ((call_of_disp hdisp).trans State.call_onCall_same)
    · exact congrArg Call.reason ((call_of_disp hdisp).trans State.call_onCall_same)
    · exact (call_of_disp hdisp).trans (State.call_onCall_ne hk)
  · exact ⟨_, congrArg Host.Outcome.next (if_pos ⟨hhas, (Bool.not_eq_true' _).mpr hout⟩), rfl, State.onDisp_frame SameBut.rfl' rfl⟩
  · have htime : (applyMotion s).time = s.time :=
      (applyMotion_frame (x := among [.host, .ctr, .cairn, .motion, .disp]) SameBut.rfl' rfl rfl rfl rfl rfl).2 .time rfl
    refine ⟨_, rfl, ?_, htime, fun q id hup hcars hcancels hst => applyMotion_cancels hserving hup hcars hcancels hst⟩
    rw [applyMotion_eq hserving]
    obtain ⟨hcycle, hsame, -⟩ := updateEnded_keeps (s := againEvaluated (cancelsSettled (stopsServed (updateApplied s).1)) (updateApplied s).2) (k := 0)
    rw [hcycle, hsame]

end Sys2Proof.Machine
end

section
/-! The field class and the samples, conversions and pulses of the field island (11). -/

namespace Sys2Proof.Machine

open Sys2Proof

variable {s t u : State} {r : Request} {n k : Nat}

/-- What a command answers differs from its state in nothing outside the command's frame. -/
theorem sameBut_of_exec {c : Instr} {m : List Comp} (h : exec c s = .next t) (hm : ((touched c).all m.contains) = true) :
    SameBut (among m) s t := by
  have hends := exec_frame (s := s) c
  rw [h] at hends
  exact hends.holds.wider hm

/-! ### Events leave the field part -/

@[simp] theorem fieldEvent_field {code chan : Nat} {value : Int} : (fieldEvent s code chan value).field = s.field := raise_touches.2 .field rfl

@[simp] theorem bump_field {c v : Nat} : (bump s c v).field = s.field := (bump_frame (x := among [.ctr]) SameBut.rfl' rfl).2 .field rfl

theorem di_of_field (h : t.field = s.field) : t.di n = s.di n := by rw [State.di, h, State.di]
theorem ai_of_field (h : t.field = s.field) : t.ai n = s.ai n := by rw [State.ai, h, State.ai]
theorem sd_of_field (h : t.field = s.field) : t.sd n = s.sd n := by rw [State.sd, h, State.sd]
theorem qa_of_field (h : t.field = s.field) : t.qa n = s.qa n := by rw [State.qa, h, State.qa]
theorem pwm_of_field (h : t.field = s.field) : t.pwm n = s.pwm n := by rw [State.pwm, h, State.pwm]
theorem stp_of_field (h : t.field = s.field) : t.stp n = s.stp n := by rw [State.stp, h, State.stp]

/-- The condition under which a moment of the field island does nothing fails for a channel that exists while the field supply is on. -/
theorem channel_acts {m : Nat} (hon : s.field.on = true) (hn : n < m) : ¬ (m ≤ n ∨ (!s.field.on) = true) := by
  rw [hon]
  exact not_or.2 ⟨Nat.not_le.2 hn, Bool.false_ne_true⟩

/-! ### Digital inputs (11 R322, R323, R346) -/

theorem refFound_di {o i : Nat} {rise : Bool} : (refFound s o i rise).di k = s.di k := by
  unfold refFound
  extract_lets p
  split
  · exact di_of_field (s := s.onStp o _) fieldEvent_field
  · rfl

/-- One input's part of DI_SAMPLE. -/
def sampleDi (raw : BitVec 48) (s : State) (n : Nat) : State :=
  let was := (s.di n).state
  let now := diStep (s.di n) (raw.getLsbD n)
  let s := s.onDi n fun _ => now
  if was = now.state then s else s.each (List.range 8) fun s o => refFound s o n now.state

theorem sampleDi_di {raw : BitVec 48} : (sampleDi raw s n).di k = (s.onDi n fun p => diStep p (raw.getLsbD n)).di k := by
  have hset : (s.onDi n fun _ => diStep (s.di n) (raw.getLsbD n)).di k = (s.onDi n fun p => diStep p (raw.getLsbD n)).di k := by
    rcases Decidable.em (k = n) with rfl | hk
    · rw [State.di_onDi_same, State.di_onDi_same]
    · rw [State.di_onDi_ne hk, State.di_onDi_ne hk]
  unfold sampleDi
  extract_lets was now u
  split
  · exact hset
  · exact (each_keeps (get := fun s => s.di k) fun _ _ => refFound_di).trans hset

/-- DI_SAMPLE steps the filter of every input by its own line. -/
theorem diSample_exec (hon : s.field.on = true) (raw : BitVec 48) :
    ∃ t, exec (.diSample raw) s = .next t ∧ (∀ n, n < 48 → t.di n = diStep (s.di n) (raw.getLsbD n)) ∧ SameBut (among [.field, .cairn, .ctr]) s t := by
  have hexec : exec (.diSample raw) s = .next (s.each (List.range 48) (sampleDi raw)) :=
    congrArg Host.Outcome.next (if_neg (by rw [hon]; exact Bool.false_ne_true))
  refine ⟨_, hexec, fun n hn => ?_, sameBut_of_exec hexec rfl⟩
  obtain ⟨u, hu, heach⟩ := each_at (f := sampleDi raw) (get := fun s => s.di n) (s := s) List.nodup_range (List.mem_range.2 hn)
    fun s b hb => sampleDi_di.trans (State.di_onDi_ne (Ne.symm hb))
  rw [heach, sampleDi_di, State.di_onDi_same, hu]

/-! ### Digital outputs (11 R325, R326) -/

theorem getLsbD_oneBit (hn : n < 24) : (BitVec.ofNat 24 (2 ^ (n % 24))).getLsbD n = true := by
  rw [Nat.mod_eq_of_lt hn, BitVec.getLsbD_ofNat, Nat.testBit_two_pow_self, decide_eq_true hn]
  rfl

theorem doOverload_exec (hon : s.field.on = true) (hn : n < 24) (hclear : s.field.overload.getLsbD n = false) :
    ∃ t, exec (.doOverload n) s = .next t ∧ t.field.overload.getLsbD n = true ∧ t.field.doOut.getLsbD n = false ∧
      t.field.zeroed.getLsbD n = false ∧ SameBut (among [.field, .cairn, .ctr]) s t := by
  have hacts : ¬ (24 ≤ n ∨ (!s.field.on) = true ∨ s.field.overload.getLsbD n = true) := by
    rw [hclear, ← or_assoc]
    exact not_or.2 ⟨channel_acts hon hn, Bool.false_ne_true⟩
  have hexec : exec (.doOverload n) s = .next _ := congrArg Host.Outcome.next (if_neg hacts)
  refine ⟨_, hexec, ?_, ?_, ?_, sameBut_of_exec hexec rfl⟩ <;> rw [fieldEvent_field, bump_field]
  · exact (BitVec.getLsbD_or ..).trans (by rw [getLsbD_oneBit hn, Bool.or_true])
  · exact (BitVec.getLsbD_and ..).trans (by rw [BitVec.getLsbD_not, getLsbD_oneBit hn, Bool.not_true, Bool.and_false, Bool.and_false])
  · exact (BitVec.getLsbD_and ..).trans (by rw [BitVec.getLsbD_not, getLsbD_oneBit hn, Bool.not_true, Bool.and_false, Bool.and_false])

theorem doSilence_exec (hon : s.field.on = true) (hsilent : s.field.silent = false) :
    ∃ t, exec .doSilence s = .next t ∧
      t.field = { s.field with silent := true, wasSilent := true, doOut := s.field.pattern &&& ~~~ s.field.overload } ∧
      CountsOne (cField 1) s t ∧ SameBut (among [.field, .ctr]) s t := by
  have hexec : exec .doSilence s = .next (bump (s.onField fun f => { f with silent := true, wasSilent := true, doOut := f.pattern &&& ~~~ f.overload })
      (cField 1)) := congrArg Host.Outcome.next (if_neg (by rw [hon, hsilent]; decide))
  exact ⟨_, hexec, bump_field, countsOne_bump, sameBut_of_exec hexec rfl⟩

/-! ### Analogue inputs (11 R327, R328) -/

/-- An analogue input after a conversion, its fault flag aside. -/
def aiSampled (s : State) (n : Nat) (code : Int) (atInstant : Bool) : AiSt :=
  let p := s.ai n
  let c := clampI (-32768) 32767 code
  { p with hist := (c :: p.hist).take (if s.sys.rate = 2 then 64 else 96)
           bad := if aiBad p.mode c then min (p.bad + 1) 65535 else 0
           good := if aiBad p.mode c then 0 else min (p.good + 1) 65535
           code := if atInstant && !frontFailed s (2 + n) then c else p.code }

/-- The fault flag after a conversion that leaves the input as `p`. -/
def aiFaultAfter (p : AiSt) : Bool :=
  if p.fault then p.open_ || decide (p.good < 1024) else decide (16 ≤ p.bad)

theorem aiConversion_ai (hon : s.field.on = true) (hn : n < 16) (code : Int) (atInstant : Bool) :
    ∃ t, exec (.aiConversion n code atInstant) s = .next t ∧
      t.ai n = { aiSampled s n code atInstant with fault := aiFaultAfter (aiSampled s n code atInstant) } ∧ ∀ k, k ≠ n → t.ai k = s.ai k := by
  refine ⟨_, congrArg Host.Outcome.next (if_neg (channel_acts hon hn)), ?_⟩
  extract_lets bad good keep p q
  have hq : q = p := rfl
  have hp : aiSampled s n code atInstant = p := rfl
  have hfault : (s.ai n).fault = p.fault := rfl
  have hopen : (s.ai n).open_ = p.open_ := rfl
  rw [hp, hq, hfault, hopen, show bad = p.bad from rfl, show good = p.good from rfl]
  clear_value p
  split
  next h =>
    simp only [Bool.and_eq_true, Bool.not_eq_true'] at h
    rw [ai_of_field (fieldEvent_field.trans bump_field), State.ai_onAi_same, aiFaultAfter, if_neg (Bool.eq_false_iff.1 h.1), h.2]
    exact ⟨rfl, fun k hk => (ai_of_field (fieldEvent_field.trans bump_field)).trans (State.ai_onAi_ne hk)⟩
  next h =>
    split
    next h' =>
      rw [ai_of_field fieldEvent_field, State.ai_onAi_same]
      refine ⟨?_, fun k hk => (ai_of_field fieldEvent_field).trans (State.ai_onAi_ne hk)⟩
      simp only [Bool.and_eq_true, Bool.not_eq_true', decide_eq_true_eq] at h'
      obtain ⟨⟨hset, hclosed⟩, hgood⟩ := h'
      rw [aiFaultAfter, if_pos hset, hclosed, decide_eq_false (Nat.not_lt.2 hgood)]
      rfl
    next h' =>
      rw [State.ai_onAi_same]
      refine ⟨?_, fun k hk => State.ai_onAi_ne hk⟩
      have hkeep : aiFaultAfter p = p.fault := by
        unfold aiFaultAfter
        cases hf : p.fault with
        | true =>
          rw [hf] at h'
          cases ho : p.open_ with
          | true => rfl
          | false => simpa [ho] using h'
        | false => simpa [hf] using h
      rw [hkeep]

theorem aiConversion_exec (hon : s.field.on = true) (hn : n < 16) (code : Int) (atInstant : Bool) :
    ∃ t, exec (.aiConversion n code atInstant) s = .next t ∧
      (t.ai n).code = (if atInstant = true ∧ frontFailed s (2 + n) = false then clampI (-32768) 32767 code else (s.ai n).code) ∧
      (t.ai n).hist = (clampI (-32768) 32767 code :: (s.ai n).hist).take (if s.sys.rate = 2 then 64 else 96) ∧
      (t.ai n).bad = (if aiBad (s.ai n).mode (clampI (-32768) 32767 code) = true then min ((s.ai n).bad + 1) 65535 else 0) ∧
      ((s.ai n).fault = false → ((t.ai n).fault = true ↔ 16 ≤ (t.ai n).bad)) ∧
      ((s.ai n).fault = true → ((t.ai n).fault = false ↔ (s.ai n).open_ = false ∧ 1024 ≤ (t.ai n).good)) ∧
      (∀ k, k ≠ n → t.ai k = s.ai k) ∧ SameBut (among [.field, .cairn, .ctr]) s t := by
  obtain ⟨t, hexec, hai, hothers⟩ := aiConversion_ai hon hn code atInstant
  refine ⟨t, hexec, ?_, ?_, ?_, fun hf => ?_, fun hf => ?_, hothers, sameBut_of_exec hexec rfl⟩ <;> rw [hai]
  · simp [aiSampled]
  · rfl
  · rfl
  · exact (congrArg (· = true) (if_neg (show ¬ (s.ai n).fault = true by rw [hf]; exact Bool.false_ne_true))).to_iff.trans decide_eq_true_iff
  · have hflag : aiFaultAfter (aiSampled s n code atInstant) = ((s.ai n).open_ || decide ((aiSampled s n code atInstant).good < 1024)) := if_pos hf
    simp [hflag]

theorem aiOvercurrent_exec (hon : s.field.on = true) (hn : n < 16) (hmode : (s.ai n).mode ≠ 0) :
    ∃ t, exec (.aiOvercurrent n) s = .next t ∧ t.ai n = { s.ai n with open_ := true, fault := true, good := 0 } ∧
      (∀ k, k ≠ n → t.ai k = s.ai k) ∧ SameBut (among [.field, .cairn, .ctr]) s t := by
  have hacts : ¬ (16 ≤ n ∨ (!s.field.on) = true ∨ (s.ai n).mode = 0) := by
    rw [← or_assoc]
    exact not_or.2 ⟨channel_acts hon hn, hmode⟩
  have hexec : exec (.aiOvercurrent n) s = .next _ := congrArg Host.Outcome.next (if_neg hacts)
  refine ⟨_, hexec, ?_, ?_, sameBut_of_exec hexec rfl⟩
  · dsimp only
    split
    · exact State.ai_onAi_same
    · exact (ai_of_field (fieldEvent_field.trans bump_field)).trans State.ai_onAi_same
  · intro k hk
    dsimp only
    split
    · exact State.ai_onAi_ne hk
    · exact (ai_of_field (fieldEvent_field.trans bump_field)).trans (State.ai_onAi_ne hk)

theorem aiReconnect_exec (hopen : (s.ai n).open_ = true) :
    ∃ t, exec (.aiReconnect n) s = .next t ∧ t.ai n = { s.ai n with open_ := false, good := 0 } ∧
      (∀ k, k ≠ n → t.ai k = s.ai k) ∧ SameBut (among [.field]) s t := by
  have hexec : exec (.aiReconnect n) s = .next (s.onAi n fun p => { p with open_ := false, good := 0 }) := congrArg Host.Outcome.next (if_pos hopen)
  exact ⟨_, hexec, State.ai_onAi_same, fun k hk => State.ai_onAi_ne hk, sameBut_of_exec hexec rfl⟩

/-! ### Sigma-delta inputs (11 R329 to R331) -/

theorem sdFilterOutput_exec (hon : s.field.on = true) (hn : n < 8) (sum : Nat) (run64 : Bool) :
    ∃ t, exec (.sdFilterOutput n sum run64) s = .next t ∧
      (t.sd n).v = ((sum : Int) - 2 ^ (3 * (s.sd n).osr) / 2) * 16777216 / 2 ^ (3 * (s.sd n).osr) ∧
      (t.sd n).good = (if run64 = true then 0 else min ((s.sd n).good + 1) 65535) ∧
      ((t.sd n).fault = true ↔ (s.sd n).fault = true ∧ (t.sd n).good < 1024) ∧
      (∀ k, k ≠ n → t.sd k = s.sd k) ∧ SameBut (among [.field]) s t := by
  have hexec : exec (.sdFilterOutput n sum run64) s = .next _ := congrArg Host.Outcome.next (if_neg (channel_acts hon hn))
  refine ⟨_, hexec, ?_, ?_, ?_, fun k hk => State.sd_onSd_ne hk, sameBut_of_exec hexec rfl⟩ <;> rw [State.sd_onSd_same]
  exact (Bool.and_eq_true ..).to_iff.trans (and_congr_right fun _ => decide_eq_true_iff)

/-- The run of filter outputs beyond the over-current threshold after one more of them. -/
def ocRun (p : SdSt) (vf : Int) : Nat := if p.octh ≠ 0 ∧ p.octh < iabs vf then min (p.above + 1) 255 else 0

/-- The over-current trip of a gate set, with its event. -/
def latchOc (s : State) (i : Nat) (v : Int) : State :=
  fieldEvent (bump (s.onPwm i fun w => { w with oc := true, on := false, carry := [0, 0, 0], legs := [{}, {}, {}] }) (cField 6)) 8 i v

theorem latchOc_sd {i : Nat} {v : Int} : (latchOc s i v).sd n = s.sd n :=
  sd_of_field (s := s.onPwm i _) (fieldEvent_field.trans bump_field)

theorem latchOc_oc {i : Nat} {v : Int} : ((latchOc s i v).pwm i).oc = true :=
  congrArg PwmSt.oc ((pwm_of_field (fieldEvent_field.trans bump_field)).trans State.pwm_onPwm_same)

theorem sdOcOutput_exec (hon : s.field.on = true) (hn : n < 8) (vf : Int) :
    ∃ t, exec (.sdOcOutput n vf) s = .next t ∧ (t.sd n).above = ocRun (s.sd n) vf ∧
      ((s.sd n).ocn ≤ (t.sd n).above → (s.sd n).ocset < 4 → (t.pwm (s.sd n).ocset).oc = true) ∧
      ((t.sd n).above < (s.sd n).ocn → t.field.pwm = s.field.pwm) ∧ SameBut (among [.field, .cairn, .ctr]) s t := by
  let u := s.onSd n fun p => { p with above := ocRun (s.sd n) vf }
  have habove : (u.sd n).above = ocRun (s.sd n) vf := congrArg SdSt.above State.sd_onSd_same
  have hset {i : Nat} : u.pwm i = s.pwm i := rfl
  have hexec : exec (.sdOcOutput n vf) s = .next
      (if (s.sd n).ocn ≤ ocRun (s.sd n) vf ∧ (s.sd n).ocset < 4 ∧ (!(u.pwm (s.sd n).ocset).oc) = true then latchOc u (s.sd n).ocset (iabs vf) else u) :=
    congrArg Host.Outcome.next (if_neg (channel_acts hon hn))
  refine ⟨_, hexec, ?_⟩
  have hframe := sameBut_of_exec hexec (m := [.field, .cairn, .ctr]) rfl
  split at hframe
  next h =>
    rw [if_pos h, latchOc_sd, habove]
    exact ⟨rfl, fun _ _ => latchOc_oc, fun hlt => absurd h.1 (Nat.not_le.2 hlt), hframe⟩
  next h =>
    rw [if_neg h, habove]
    refine ⟨rfl, fun hle hlt => ?_, fun _ => rfl, hframe⟩
    exact Decidable.byContradiction fun hclear => h ⟨hle, hlt, (Bool.not_eq_true' _).mpr (Bool.eq_false_iff.2 hclear)⟩

theorem sdStuckLine_exec (hon : s.field.on = true) (hn : n < 8) :
    ∃ t, exec (.sdStuckLine n) s = .next t ∧ t.sd n = { s.sd n with fault := true, good := 0 } ∧
      (∀ k, k ≠ n → t.sd k = s.sd k) ∧ SameBut (among [.field, .cairn, .ctr]) s t := by
  have hexec : exec (.sdStuckLine n) s = .next (sdFaulty s n) := congrArg Host.Outcome.next (if_neg (channel_acts hon hn))
  refine ⟨_, hexec, ?_, ?_, sameBut_of_exec hexec rfl⟩
  · unfold sdFaulty
    split
    next hf => exact State.sd_onSd_same.trans (by rw [← hf])
    next => exact (sd_of_field (fieldEvent_field.trans bump_field)).trans State.sd_onSd_same
  · intro k hk
    unfold sdFaulty
    split
    · exact State.sd_onSd_ne hk
    · exact (sd_of_field (fieldEvent_field.trans bump_field)).trans (State.sd_onSd_ne hk)

/-! ### Quadrature inputs (11 R332 to R334) -/

theorem quadIndex_same {a b a' b' : Bool} : quadIndex a' b' = quadIndex a b → (a' != a) = false ∧ (b' != b) = false := by
  revert a b a' b'
  decide

theorem quadIndex_forward {a b a' b' : Bool} : quadIndex a' b' = (quadIndex a b + 1) % 4 →
    ((a' != a) != (b' != b)) = true ∧ ((quadIndex a' b' + 4 - quadIndex a b) % 4 == 1) = true := by
  revert a b a' b'
  decide

theorem quadIndex_backward {a b a' b' : Bool} : quadIndex a' b' = (quadIndex a b + 3) % 4 →
    ((a' != a) != (b' != b)) = true ∧ ((quadIndex a' b' + 4 - quadIndex a b) % 4 == 1) = false := by
  revert a b a' b'
  decide

theorem quadIndex_illegal {a b a' b' : Bool} : quadIndex a' b' = (quadIndex a b + 2) % 4 → (a' != a) = true ∧ (b' != b) = true := by
  revert a b a' b'
  decide

/-- The count of an encoder after a sample that leaves its two lines at `a` and `b`, no index seen. -/
def quadCount (q : QaSt) (a b : Bool) : Int :=
  let up := (quadIndex a b + 4 - quadIndex q.fa.level q.fb.level) % 4 == 1
  if (a != q.fa.level) != (b != q.fb.level) then wrap32 (q.count + if up != q.reverse then 1 else -1) else q.count

/-- An encoder after a sample, its fault aside. -/
def quadNext (q : QaSt) (a b z : Bool) : QaSt :=
  let fa := lineStep q.flt q.fa a
  let fb := lineStep q.flt q.fb b
  let fz := lineStep q.flt q.fz z
  let illegal := (fa.level != q.fa.level) && (fb.level != q.fb.level)
  let count := quadCount q fa.level fb.level
  let zed := fz.level && !q.fz.level
  { q with
    fa, fb, fz, lineLow := false, illegal := if illegal then (q.illegal + 1) % 4294967296 else q.illegal
    since := min ((if illegal then 0 else q.since) + 1) 1024
    index := if zed then count else q.index, indexSeen := q.indexSeen || zed
    count := if zed && q.armed then q.zeroVal else count, armed := q.armed && !zed }

/-- An encoder fault changes only the fault flag and its count, of the encoder named. -/
theorem encoderFault_qa : ∃ faults, (encoderFault s n).qa n = { s.qa n with fault := true, faults } ∧ ∀ k, k ≠ n → (encoderFault s n).qa k = s.qa k := by
  unfold encoderFault
  extract_lets q
  split
  next h => exact ⟨q.faults, by rw [← h], fun _ _ => rfl⟩
  next => exact ⟨_, (qa_of_field (fieldEvent_field.trans bump_field)).trans State.qa_onQa_same,
      fun k hk => (qa_of_field (fieldEvent_field.trans bump_field)).trans (State.qa_onQa_ne hk)⟩

/-- `t` holds `q` at encoder `n`, its fault and its number of faults aside, and the other encoders of `s`. -/
def EncoderAt (n : Nat) (q : QaSt) (s t : State) : Prop :=
  (∃ fault faults, t.qa n = { q with fault, faults }) ∧ ∀ k, k ≠ n → t.qa k = s.qa k

theorem EncoderAt.of_field {q : QaSt} (h : EncoderAt n q s t) (hfield : u.field = t.field) : EncoderAt n q s u := by
  obtain ⟨⟨fault, faults, hq⟩, hothers⟩ := h
  exact ⟨⟨fault, faults, (qa_of_field hfield).trans hq⟩, fun k hk => (qa_of_field hfield).trans (hothers k hk)⟩

theorem EncoderAt.encoderFault {q : QaSt} (h : EncoderAt n q s t) : EncoderAt n q s (encoderFault t n) := by
  obtain ⟨⟨fault, faults, hq⟩, hothers⟩ := h
  obtain ⟨faults', hsame, hne⟩ := encoderFault_qa (s := t) (n := n)
  exact ⟨⟨true, faults', hsame.trans (by rw [hq])⟩, fun k hk => (hne k hk).trans (hothers k hk)⟩

theorem EncoderAt.cleared {q : QaSt} (h : EncoderAt n q s t) : EncoderAt n q s (t.onQa n fun q => { q with fault := false }) := by
  obtain ⟨⟨fault, faults, hq⟩, hothers⟩ := h
  exact ⟨⟨false, faults, State.qa_onQa_same.trans (by rw [hq])⟩, fun k hk => (State.qa_onQa_ne hk).trans (hothers k hk)⟩

/-- QUAD_SAMPLE takes the encoder to its next count and lines; only its fault may follow. -/
theorem quadSample_qa (hon : s.field.on = true) (hn : n < 8) (a b z : Bool) :
    ∃ t, exec (.quadSample n a b z) s = .next t ∧ EncoderAt n (quadNext (s.qa n) a b z) s t := by
  refine ⟨_, congrArg Host.Outcome.next (if_neg (channel_acts hon hn)), ?_⟩
  extract_lets u v w q
  have hu : EncoderAt n (quadNext (s.qa n) a b z) s u := ⟨⟨_, _, State.qa_onQa_same⟩, fun k hk => State.qa_onQa_ne hk⟩
  have hv : EncoderAt n (quadNext (s.qa n) a b z) s v := by
    dsimp only [v]
    split
    · exact hu.of_field bump_field
    · exact hu
  have hw : EncoderAt n (quadNext (s.qa n) a b z) s w := by
    dsimp only [w]
    split
    · exact hv.encoderFault
    · exact hv
  split
  · exact hw.cleared.of_field fieldEvent_field
  · exact hw

theorem quadSample_exec (hon : s.field.on = true) (hn : n < 8) (a b z : Bool) :
    ∃ t, exec (.quadSample n a b z) s = .next t ∧
      (t.qa n).fa = lineStep (s.qa n).flt (s.qa n).fa a ∧ (t.qa n).fb = lineStep (s.qa n).flt (s.qa n).fb b ∧
      (t.qa n).fz = lineStep (s.qa n).flt (s.qa n).fz z ∧
      (((t.qa n).fz.level = true → (s.qa n).fz.level = true) →
        let i := quadIndex (s.qa n).fa.level (s.qa n).fb.level
        let j := quadIndex (t.qa n).fa.level (t.qa n).fb.level
        (j = i → (t.qa n).count = (s.qa n).count ∧ (t.qa n).illegal = (s.qa n).illegal) ∧
        (j = (i + 1) % 4 → (t.qa n).count = wrap32 ((s.qa n).count + if (s.qa n).reverse = true then -1 else 1)) ∧
        (j = (i + 3) % 4 → (t.qa n).count = wrap32 ((s.qa n).count + if (s.qa n).reverse = true then 1 else -1)) ∧
        (j = (i + 2) % 4 → (t.qa n).count = (s.qa n).count ∧ (t.qa n).illegal = ((s.qa n).illegal + 1) % 4294967296)) ∧
      (∀ k, k ≠ n → t.qa k = s.qa k) ∧ SameBut (among [.field, .cairn, .ctr]) s t := by
  obtain ⟨t, hexec, ⟨fault, faults, hqa⟩, hothers⟩ := quadSample_qa hon hn a b z
  refine ⟨t, hexec, by rw [hqa]; rfl, by rw [hqa]; rfl, by rw [hqa]; rfl, ?_, hothers, sameBut_of_exec hexec rfl⟩
  rw [hqa]
  dsimp only [quadNext]
  intro hz
  have hzed : ((lineStep (s.qa n).flt (s.qa n).fz z).level && !(s.qa n).fz.level) = false := by
    cases hl : (lineStep (s.qa n).flt (s.qa n).fz z).level with
    | true => rw [hz hl]; rfl
    | false => rfl
  rw [hzed, Bool.false_and, if_neg Bool.false_ne_true]
  refine ⟨fun h => ?_, fun h => ?_, fun h => ?_, fun h => ?_⟩
  · obtain ⟨ha, hb⟩ := quadIndex_same h
    simp [quadCount, ha, hb]
  · obtain ⟨hone, hup⟩ := quadIndex_forward h
    simp only [quadCount, hone, hup, if_true]
    cases (s.qa n).reverse <;> rfl
  · obtain ⟨hone, hup⟩ := quadIndex_backward h
    simp only [quadCount, hone, hup, if_true]
    cases (s.qa n).reverse <;> rfl
  · obtain ⟨ha, hb⟩ := quadIndex_illegal h
    simp [quadCount, ha, hb]

theorem quadLineLow_exec (hon : s.field.on = true) (hn : n < 8) :
    ∃ t, exec (.quadLineLow n) s = .next t ∧ (t.qa n).fault = true ∧ (t.qa n).lineLow = true ∧
      (∀ k, k ≠ n → t.qa k = s.qa k) ∧ SameBut (among [.field, .cairn, .ctr]) s t := by
  have hexec : exec (.quadLineLow n) s = .next _ := congrArg Host.Outcome.next (if_neg (channel_acts hon hn))
  obtain ⟨faults, hsame, hne⟩ := encoderFault_qa (s := s.onQa n fun q => { q with lineLow := true }) (n := n)
  refine ⟨_, hexec, ?_, ?_, fun k hk => (hne k hk).trans (State.qa_onQa_ne hk), sameBut_of_exec hexec rfl⟩ <;> rw [hsame]
  rw [State.qa_onQa_same]

/-! ### Gate sets (11 R335 to R339) -/

theorem pwmPeriod_low {tp : Nat} (h : gatesLow s n = true) : pwmPeriod s n tp = s.onPwm n pwmLow := if_pos h

theorem pwmPeriod_on {tp : Nat} (h : gatesLow s n = false) :
    ((pwmPeriod s n tp).pwm n).on = true ∧ ∀ k, k ≠ n → (pwmPeriod s n tp).pwm k = s.pwm k := by
  unfold pwmPeriod
  extract_lets p
  rw [if_neg (Bool.eq_false_iff.1 h)]
  split
  exact ⟨congrArg PwmSt.on State.pwm_onPwm_same, fun k hk => (State.pwm_onPwm_ne hk).trans (pwm_of_field (bump_field.trans bump_field))⟩

theorem pwmPeriod_exec (hon : s.field.on = true) (hn : n < 4) (tp : Nat) :
    ∃ t, exec (.pwmPeriod n tp) s = .next t ∧
      (gatesLow s n = true → (t.pwm n).on = false ∧ (t.pwm n).legs = [{}, {}, {}] ∧ (t.pwm n).carry = [0, 0, 0]) ∧
      (gatesLow s n = false → (t.pwm n).on = true) ∧ (∀ k, k ≠ n → t.pwm k = s.pwm k) ∧ SameBut (among [.field, .ctr]) s t := by
  have hexec : exec (.pwmPeriod n tp) s = .next (pwmPeriod s n tp) := congrArg Host.Outcome.next (if_neg (channel_acts hon hn))
  refine ⟨_, hexec, fun h => ?_, fun h => (pwmPeriod_on h).1, fun k hk => ?_, sameBut_of_exec hexec rfl⟩
  · rw [pwmPeriod_low h, State.pwm_onPwm_same]
    exact ⟨rfl, rfl, rfl⟩
  · cases h : gatesLow s n with
    | true => rw [pwmPeriod_low h, State.pwm_onPwm_ne hk]
    | false => exact (pwmPeriod_on h).2 k hk

/-! ### Step outputs (11 R340 to R347) -/

theorem stepPulse_exec (hn : n < 8) (hstart : (s.stp n).start = false) (hfront : frontFailed s (38 + n) = false) :
    ∃ t, exec (.stepPulse n) s = .next t ∧ (∀ k, k ≠ n → t.stp k = s.stp k) ∧ SameBut (among [.field]) s t ∧
      ((s.stp n).state = .moving ∧ (s.stp n).pos ≠ (s.stp n).move.target ∨ (s.stp n).state = .decelerating →
        (t.stp n).pos = wrap32 ((s.stp n).pos + if (s.stp n).down = true then -1 else 1)) ∧
      ((s.stp n).state = .referencing → (t.stp n).pos = wrap32 ((s.stp n).pos + if (s.stp n).down = true then -1 else 1) ∧
        (t.stp n).searched = (s.stp n).searched + 1) ∧
      ((s.stp n).state = .axisDriven → (s.stp n).due ≠ 0 → stepDriven s n = true → (t.stp n).pos = wrap32 ((s.stp n).pos + isign (s.stp n).due) ∧
        (t.stp n).due = (s.stp n).due - isign (s.stp n).due) := by
  have hacts : ¬ (8 ≤ n ∨ frontFailed s (38 + n) = true ∨ (s.stp n).start = true) := by
    rw [hfront, hstart]
    exact not_or.2 ⟨Nat.not_le.2 hn, not_or.2 ⟨Bool.false_ne_true, Bool.false_ne_true⟩⟩
  have hexec : exec (.stepPulse n) s = .next _ := congrArg Host.Outcome.next (if_neg hacts)
  refine ⟨_, hexec, ?_, sameBut_of_exec hexec rfl, ?_, ?_, ?_⟩ <;> clear hexec
  · intro k hk
    split
    · split
      · rfl
      · exact State.stp_onStp_ne hk
    · split
      · rfl
      · exact State.stp_onStp_ne hk
    · exact State.stp_onStp_ne hk
    · exact State.stp_onStp_ne hk
    · rfl
  · rintro (⟨hm, hfar⟩ | hd)
    · rw [hm]
      dsimp only
      rw [if_neg hfar, State.stp_onStp_same]
    · rw [hd]
      dsimp only
      rw [State.stp_onStp_same]
  · intro hr
    rw [hr]
    dsimp only
    rw [State.stp_onStp_same]
    exact ⟨rfl, rfl⟩
  · intro ha hdue hdriven
    rw [ha]
    dsimp only
    rw [if_neg (not_or.2 ⟨hdue, by rw [hdriven]; decide⟩), State.stp_onStp_same]
    exact ⟨rfl, rfl⟩

theorem moveEnded_stp : (moveEnded s n).stp n = { s.stp n with state := .idle, rate := 0 } ∧ ∀ k, k ≠ n → (moveEnded s n).stp k = s.stp k :=
  ⟨(stp_of_field fieldEvent_field).trans State.stp_onStp_same, fun _ hk => (stp_of_field fieldEvent_field).trans (State.stp_onStp_ne hk)⟩

theorem stepRateUpdate_exec (hn : n < 8) (hstart : (s.stp n).start = false) :
    ∃ t, exec (.stepRateUpdate n) s = .next t ∧ (∀ k, k ≠ n → t.stp k = s.stp k) ∧ SameBut (among [.field, .cairn, .ctr]) s t ∧
      ((s.stp n).state = .moving → (s.stp n).pos = (s.stp n).move.target → (t.stp n).state = .idle ∧ (t.stp n).rate = 0) ∧
      ((s.stp n).state = .moving → (s.stp n).pos ≠ (s.stp n).move.target →
        (s.stp n).rate * (s.stp n).rate < 2 * (s.stp n).move.acc * ((s.stp n).move.target - (s.stp n).pos).natAbs * 1000000000000 →
        t.stp n = { s.stp n with rate := min ((s.stp n).rate + (s.stp n).move.acc) ((s.stp n).move.vmax * 1000000) }) ∧
      ((s.stp n).state = .decelerating →
        ((s.stp n).rate ≤ (s.stp n).move.acc → (t.stp n).state = .idle ∧ (t.stp n).rate = 0) ∧
        ((s.stp n).move.acc < (s.stp n).rate → t.stp n = { s.stp n with rate := (s.stp n).rate - (s.stp n).move.acc })) := by
  have hacts : ¬ (8 ≤ n ∨ (s.stp n).start = true) := by
    rw [hstart]
    exact not_or.2 ⟨Nat.not_le.2 hn, Bool.false_ne_true⟩
  have hexec : exec (.stepRateUpdate n) s = .next _ := congrArg Host.Outcome.next (if_neg hacts)
  refine ⟨_, hexec, ?_, sameBut_of_exec hexec rfl, ?_, ?_, ?_⟩ <;> clear hexec
  · intro k hk
    split
    · split
      · exact moveEnded_stp.2 k hk
      · split
        · exact State.stp_onStp_ne hk
        · exact State.stp_onStp_ne hk
    · exact State.stp_onStp_ne hk
    · split
      · exact moveEnded_stp.2 k hk
      · exact State.stp_onStp_ne hk
    · rfl
  · intro hm hthere
    rw [hm]
    dsimp only
    rw [if_pos (by rw [hthere, Int.sub_self]; rfl), moveEnded_stp.1]
    exact ⟨rfl, rfl⟩
  · intro hm hfar hroom
    rw [hm]
    dsimp only
    rw [if_neg (fun h => hfar (Int.sub_eq_zero.1 (Int.natAbs_eq_zero.1 h)).symm), if_neg (Nat.not_le.2 hroom), State.stp_onStp_same]
  · intro hd
    rw [hd]
    dsimp only
    refine ⟨fun hle => ?_, fun hlt => ?_⟩
    · rw [if_pos hle, moveEnded_stp.1]
      exact ⟨rfl, rfl⟩
    · rw [if_neg (Nat.not_le.2 hlt), State.stp_onStp_same]

theorem stepSearchExhausted_exec (hstate : (s.stp n).state = .referencing) (hstart : (s.stp n).start = false)
    (hfar : (s.stp n).move.target.natAbs ≤ (s.stp n).searched) :
    ∃ t, exec (.stepSearchExhausted n) s = .next t ∧ t.stp n = { s.stp n with state := .decelerating } ∧
      (∀ k, k ≠ n → t.stp k = s.stp k) ∧ SameBut (among [.field, .cairn, .ctr]) s t := by
  have hexec : exec (.stepSearchExhausted n) s = .next _ :=
    congrArg Host.Outcome.next (if_pos ⟨hstate, (Bool.not_eq_true' _).mpr hstart, hfar⟩)
  exact ⟨_, hexec, (stp_of_field fieldEvent_field).trans State.stp_onStp_same,
    fun k hk => (stp_of_field fieldEvent_field).trans (State.stp_onStp_ne hk), sameBut_of_exec hexec rfl⟩

/-- A stop at once leaves the output idle, its position lost where steps were being emitted. -/
theorem stopAtOnce_stp : (stopAtOnce s n).stp n = { s.stp n with
      state := .idle, due := 0, carried := 0, rate := 0, start := false, unknown := (s.stp n).unknown || stepBusy (s.stp n) } ∧
    (∀ k, k ≠ n → (stopAtOnce s n).stp k = s.stp k) ∧ (stopAtOnce s n).field.movePend = s.field.movePend := by
  unfold stopAtOnce
  extract_lets p lost u
  have hu : u.stp n = { s.stp n with
      state := .idle, due := 0, carried := 0, rate := 0, start := false, unknown := (s.stp n).unknown || stepBusy (s.stp n) } := State.stp_onStp_same
  have hothers {k : Nat} (hk : k ≠ n) : u.stp k = s.stp k := State.stp_onStp_ne hk
  have hmoves : u.field.movePend = s.field.movePend := rfl
  clear_value u
  split
  · exact ⟨(stp_of_field (fieldEvent_field.trans bump_field)).trans hu, fun k hk => (stp_of_field (fieldEvent_field.trans bump_field)).trans (hothers hk),
      (congrArg FieldSt.movePend (fieldEvent_field.trans bump_field)).trans hmoves⟩
  · exact ⟨hu, fun k hk => hothers hk, hmoves⟩

/-! ### Requests of the field class -/

theorem dioRead_exec (hright : hasRight s r.part 0x3001 = true) (hfirst : rq r 16 1 ≤ 47) :
    ∃ u fields, exec (.dioRead r) s = .next (ok u (withOp r 0x3001) fields) ∧ u.field = { s.field with wasSilent := s.field.silent } ∧
      (16, 6, (s.field.diInst.toNat : Int)) ∈ fields ∧ (22, 3, (s.field.doInst.1.toNat : Int)) ∈ fields ∧
      (25, 3, (s.field.doInst.2.1.toNat : Int)) ∈ fields ∧ (28, 3, (s.field.doInst.2.2.toNat : Int)) ∈ fields ∧
      (32, 2, ((s.di (rq r 16 1)).edgesInst : Int)) ∈ fields ∧ SameBut (among [.field]) s u := by
  refine ⟨_, _, congrArg Host.Outcome.next (serve_runs_nil hright rfl (firstBad_none (by simpa using hfirst))), rfl,
    by simp, by simp, by simp, by simp, List.mem_append_right _ (List.mem_map.2 ⟨0, by simp, ?_⟩), State.onField_frame SameBut.rfl' rfl⟩
  exact congrArg (fun v : Int => (32, 2, v)) (if_pos (show rq r 16 1 + 0 < 48 by omega))

theorem aiRead_exec (hright : hasRight s r.part 0x3002 = true) (hfirst : rq r 16 1 ≤ 15) :
    ∃ u fields cont, exec (.aiRead r) s = .next (ok u (withOp r 0x3002) fields 0 cont) ∧
      (16, 1, (clampN 1 (16 - rq r 16 1) (rq r 17 1) : Int)) ∈ fields ∧ (24, 2, (s.ai (rq r 16 1)).code) ∈ fields ∧ SameBut (among [.host]) s u := by
  obtain ⟨h, hexec⟩ := exec_noted (c := .aiRead r) rfl hright rfl (firstBad_none (by simpa using hfirst)) fun h => rfl
  refine ⟨_, _, _, hexec, by simp, List.mem_append_right _ (List.mem_flatMap.2 ⟨0, List.mem_range.2 ?_, ?_⟩), host_touches⟩
  · show 0 < clampN 1 (16 - rq r 16 1) (rq r 17 1)
    unfold clampN
    split
    · omega
    · split <;> omega
  · simp [State.ai]

theorem qencRead_exec (hright : hasRight s r.part 0x3003 = true) (hn : rq r 17 1 ≤ 7) :
    (rq r 16 1 = 0 → ∃ fields, exec (.qencRead r) s = .next (ok s (withOp r 0x3003) fields) ∧ (16, 4, (s.qa (rq r 17 1)).inst) ∈ fields ∧
      (20, 4, (s.qa (rq r 17 1)).index) ∈ fields) ∧
    (rq r 16 1 = 1 → ∃ fields, exec (.qencRead r) s = .next (ok s (withOp r 0x3003) fields) ∧ (16, 4, (s.stp (rq r 17 1)).pos) ∈ fields) := by
  refine ⟨fun hkind => ?_, fun hkind => ?_⟩
  · refine ⟨_, congrArg Host.Outcome.next ((serve_runs_nil hright rfl (firstBad_none (by simp [hkind, hn]))).trans (if_pos hkind)), ?_, ?_⟩ <;> simp
  · refine ⟨_, congrArg Host.Outcome.next ((serve_runs_nil hright rfl (firstBad_none (by simp [hkind, hn]))).trans
      (if_neg (by rw [hkind]; decide))), ?_⟩
    simp

theorem dioWrite_exec (hready : actReady s = true) (hright : hasRight s r.part 0x3010 = true) :
    (BitVec.ofNat 24 (rq r 16 3) &&& s.field.doorOwned = 0 → ∃ t, exec (.dioWrite r) s = .next t ∧
      t.field = { s.field with doPend := s.field.doPend ++ [(some (withOp r 0x3010), BitVec.ofNat 24 (rq r 16 3), BitVec.ofNat 24 (rq r 20 3))] } ∧
      SameBut (among [.field]) s t) ∧
    (BitVec.ofNat 24 (rq r 16 3) &&& s.field.doorOwned ≠ 0 → exec (.dioWrite r) s = .next (refused s (withOp r 0x3010))) := by
  refine ⟨fun h => ⟨_, congrArg Host.Outcome.next ((serve_runs_nil hright hready rfl).trans (if_neg (not_not_intro h))), rfl,
    State.onField_frame SameBut.rfl' rfl⟩, fun h => congrArg Host.Outcome.next ((serve_runs_nil hright hready rfl).trans (if_pos h))⟩

theorem dioSafeSet_exec (hready : actReady s = true) (hright : hasRight s r.part 0x3011 = true) :
    ∃ t, exec (.dioSafeSet r) s = .next t ∧
      t.field = { s.field with safePend := s.field.safePend ++ [(withOp r 0x3011, BitVec.ofNat 24 (rq r 16 3), clampN 1 1000 (rq r 20 2))] } ∧
      SameBut (among [.field, .host]) s t := by
  obtain ⟨h, hexec⟩ := exec_noted (c := .dioSafeSet r) rfl hright hready rfl fun h => rfl
  exact ⟨_, hexec, rfl, State.onField_frame (host_touches.wider rfl) rfl⟩

theorem pwmConfig_exec (hready : actReady s = true) (hright : hasRight s r.part 0x3020 = true) (hbad : pwmConfigBad s r = none)
    (hfree : (fieldCfgOf s (withOp r 0x3020)).2.2 = false) :
    ∃ t fields, exec (.pwmConfig r) s = .next t ∧
      t.field = { s.field with cfgPend := s.field.cfgPend ++ [(withOp r 0x3020, (fieldCfgOf s (withOp r 0x3020)).1, fields)] } ∧
      SameBut (among [.field, .host]) s t := by
  obtain ⟨h, hexec⟩ := exec_noted (c := .pwmConfig r) rfl hright hready hbad fun h => rfl
  change _ = Host.Outcome.next (if (fieldCfgOf s (withOp r 0x3020)).2.2 = true then refused _ _ else State.onField _ _) at hexec
  rw [if_neg (Bool.eq_false_iff.1 hfree)] at hexec
  exact ⟨_, _, hexec, rfl, State.onField_frame (host_touches.wider rfl) rfl⟩

theorem stepMove_exec (hready : actReady s = true) (hright : hasRight s r.part 0x3030 = true) (hn : rq r 16 1 ≤ 7) (hmode : rq r 17 1 ≤ 3)
    (href : rq r 17 1 = 2 → rq r 18 1 ≤ 47 ∧ rq r 19 1 ≤ 1) (haxis : rq r 17 1 ≤ 2 → stepAxis s (rq r 16 1) = none)
    (hknown : rq r 17 1 ≤ 1 → (s.stp (rq r 16 1)).unknown = false)
    (hidle : ∀ a, stepAxis s (rq r 16 1) = some a → (s.axis a).state = .disabled)
    (hbusy : stepBusy (s.stp (rq r 16 1)) = false) (hstart : (s.stp (rq r 16 1)).start = false)
    (hwaits : ∀ m ∈ s.field.movePend, m.1 ≠ rq r 16 1) :
    ∃ u fields m, exec (.stepMove r) s = .next (ok u (withOp r 0x3030) fields (nextRelease s % 4294967296)) ∧
      u.field = { s.field with movePend := s.field.movePend ++ [(rq r 16 1, up4 (clampN 100 10000 (rq r 32 2)), m)] } ∧
      m.mode = rq r 17 1 ∧ m.target = rqI r 20 ∧ m.refPos = rqI r 36 ∧ SameBut (among [.field, .host]) s u := by
  have hnone : (s.field.movePend.any fun x => x.1 == rq r 16 1) = false :=
    List.any_eq_false.2 fun m hm => by simpa using hwaits m hm
  have hfree : (stepBusy (s.stp (rq r 16 1)) || (s.stp (rq r 16 1)).start || s.field.movePend.any fun x => x.1 == rq r 16 1) = false := by
    rw [hbusy, hstart, hnone]
    rfl
  obtain ⟨h, hexec⟩ := exec_noted (c := .stepMove r) rfl hright hready (firstBad_none (by simp; omega)) fun h => if_neg (by
    rintro (⟨hle, hax | hb⟩ | ⟨hle, hu⟩ | ⟨-, hb | hd⟩)
    · exact Bool.false_ne_true ((congrArg Option.isSome (haxis hle)).symm.trans hax)
    · exact Bool.false_ne_true (hfree.symm.trans hb)
    · exact Bool.false_ne_true ((hknown hle).symm.trans hu)
    · exact Bool.false_ne_true (hfree.symm.trans hb)
    · split at hd
      next a ha => exact bne_iff_ne.1 hd (hidle a ha)
      next => exact Bool.false_ne_true hd)
  exact ⟨_, _, _, hexec, rfl, rfl, rfl, rfl, State.onField_frame (host_touches.wider rfl) rfl⟩

theorem stepStop_exec (hready : actReady s = true) (hright : hasRight s r.part 0x3031 = true) (hn : rq r 16 1 ≤ 7) (hmode : rq r 17 1 ≤ 1)
    (haxis : stepAxis s (rq r 16 1) = none) :
    ∃ u, exec (.stepStop r) s = .next (ok u (withOp r 0x3031)) ∧ u.field.movePend = s.field.movePend.filter (fun x => x.1 != rq r 16 1) ∧
      (stepBusy (s.stp (rq r 16 1)) = false → u.stp (rq r 16 1) = s.stp (rq r 16 1)) ∧
      (stepBusy (s.stp (rq r 16 1)) = true → (s.stp (rq r 16 1)).start = true →
        u.stp (rq r 16 1) = { s.stp (rq r 16 1) with state := .idle, start := false }) ∧
      (stepBusy (s.stp (rq r 16 1)) = true → (s.stp (rq r 16 1)).start = false →
        (rq r 17 1 = 0 → (u.stp (rq r 16 1)).state = .idle ∧ (u.stp (rq r 16 1)).unknown = true ∧ (u.stp (rq r 16 1)).rate = 0) ∧
        (rq r 17 1 = 1 → u.stp (rq r 16 1) = { s.stp (rq r 16 1) with state := .decelerating })) ∧
      (∀ k, k ≠ rq r 16 1 → u.stp k = s.stp k) ∧ SameBut (among [.field, .cairn, .ctr]) s u := by
  have hruns : exec (.stepStop r) s = .next _ := congrArg Host.Outcome.next
    ((serve_runs_nil hright hready (firstBad_none (by simp [hn, hmode]))).trans (if_neg (by rw [haxis]; exact Bool.false_ne_true)))
  extract_lets p u at hruns
  have hu : SameBut (among [.field, .cairn, .ctr]) s u := State.onField_frame SameBut.rfl' rfl
  have hstp {k : Nat} : u.stp k = s.stp k := rfl
  have hmoves : u.field.movePend = s.field.movePend.filter (fun x => x.1 != rq r 16 1) := rfl
  change _ = Host.Outcome.next (if (!stepBusy (s.stp (rq r 16 1))) = true then ok u (withOp r 0x3031)
    else if (s.stp (rq r 16 1)).start = true then ok _ (withOp r 0x3031)
    else if rq r 17 1 = 0 then ok _ (withOp r 0x3031) else ok _ (withOp r 0x3031)) at hruns
  clear_value u
  cases hbusy : stepBusy (s.stp (rq r 16 1)) with
  | false =>
    rw [hbusy, if_pos (by decide)] at hruns
    exact ⟨u, hruns, hmoves, fun _ => hstp, nofun, nofun, fun _ _ => hstp, hu⟩
  | true =>
    rw [hbusy, if_neg (by decide)] at hruns
    cases hstart : (s.stp (rq r 16 1)).start with
    | true =>
      rw [if_pos hstart] at hruns
      exact ⟨_, hruns, hmoves, nofun, fun _ _ => State.stp_onStp_same.trans (by rw [hstp]), nofun,
        fun k hk => (State.stp_onStp_ne hk).trans hstp, State.onStp_frame hu rfl⟩
    | false =>
      rw [if_neg (Bool.eq_false_iff.1 hstart)] at hruns
      by_cases hzero : rq r 17 1 = 0
      · rw [if_pos hzero] at hruns
        obtain ⟨hsame, hne, hpend⟩ := stopAtOnce_stp (s := u) (n := rq r 16 1)
        refine ⟨_, hruns, hpend.trans hmoves, nofun, nofun, fun _ _ => ⟨fun _ => ?_, fun h => absurd (hzero.symm.trans h) Nat.zero_ne_one⟩,
          fun k hk => (hne k hk).trans hstp, stopAtOnce_frame hu rfl rfl rfl⟩
        rw [hsame, hstp, hbusy]
        exact ⟨rfl, Bool.or_true _, rfl⟩
      · rw [if_neg hzero] at hruns
        exact ⟨_, hruns, hmoves, nofun, nofun, fun _ _ => ⟨fun h => absurd h hzero, fun _ => State.stp_onStp_same.trans (by rw [hstp])⟩,
          fun k hk => (State.stp_onStp_ne hk).trans hstp, State.onStp_frame hu rfl⟩

/-- Settles O52: the field supply's being on and the number's being in range are what lets each moment act, and an event or a counter leaves the
field part; the requests go by the order of service, the stop of a step output by whether it is busy. -/
theorem fieldChannelsFollowTheirSamples : Obligations.FieldChannelsFollowTheirSamples := by
  unfold Obligations.FieldChannelsFollowTheirSamples
  intro r s
  refine ⟨dioRead_exec, aiRead_exec, qencRead_exec, fun hready => ⟨dioWrite_exec hready, dioSafeSet_exec hready, pwmConfig_exec hready,
    stepMove_exec hready, stepStop_exec hready⟩, fun hon => ⟨diSample_exec hon, fun n hn hclear => doOverload_exec hon hn hclear,
    doSilence_exec hon, fun n code atInstant hn => aiConversion_exec hon hn code atInstant, fun n hn hmode => aiOvercurrent_exec hon hn hmode,
    fun n sum run64 hn => sdFilterOutput_exec hon hn sum run64, fun n vf hn => sdOcOutput_exec hon hn vf, fun n hn => sdStuckLine_exec hon hn,
    fun n a b z hn => quadSample_exec hon hn a b z, fun n hn => quadLineLow_exec hon hn, fun n tp hn => pwmPeriod_exec hon hn tp⟩,
    fun n hopen => aiReconnect_exec hopen, fun n hn hstart => ⟨stepPulse_exec hn hstart, stepRateUpdate_exec hn hstart⟩,
    fun n hstate hstart hfar => stepSearchExhausted_exec hstate hstart hfar⟩

end Sys2Proof.Machine
end

section
/-! The CAN class and the moments of its channels and objects (12). -/

namespace Sys2Proof.Machine

open Sys2Proof

variable {s t u : State} {r : Request} {n k j : Nat} {o : Option Nat} {f : CanFrame} {e : CanEntry}

/-! ### The parts of the CAN part -/

theorem bump_can {c v : Nat} : (bump s c v).can = s.can := (bump_frame (x := among [.ctr]) SameBut.rfl' rfl).2 .can rfl

theorem ok_can {l : List (Nat × Nat × Int)} {d m : Nat} : (ok s r l d m).can = s.can :=
  (ok_frame (x := among [.host, .ctr]) SameBut.rfl' rfl rfl).2 .can rfl

theorem draw_can : (draw s).2.can = s.can := (draw_frame_proj (x := among []) SameBut.rfl').2 .can rfl

theorem ch_of_can (h : t.can = s.can) : t.ch n = s.ch n := by rw [State.ch, h, State.ch]

theorem ch_of_chans (h : t.can.chans = s.can.chans) : t.ch n = s.ch n := by rw [State.ch, h, State.ch]

theorem obj_of_objs (h : t.can.objs = s.can.objs) : t.obj k = s.obj k := by rw [State.obj, h, State.obj]

theorem obj_of_can (h : t.can = s.can) : t.obj k = s.obj k := obj_of_objs (congrArg CanSt.objs h)

theorem inTx_of_objs (h : t.can.objs = s.can.objs) : inTx t n = inTx s n := by
  unfold inTx objsOf
  rw [h]
  exact congrArg (fun p => List.find? p _) (funext fun k => congrArg CanObj.intx (obj_of_objs h))

/-- A channel, its counts aside. -/
def uncounted (c : CanChan) : CanChan := { c with cnt := [] }

theorem countCan_can {i : Nat} : (countCan s n i).can = (s.onCh n fun c => { c with cnt := tabMod c.cnt 0 i fun v => satAdd max32 v 1 }).can := by
  unfold countCan
  extract_lets u
  split
  case h_9 => rfl
  all_goals exact bump_can

theorem countCan_objs {i : Nat} : (countCan s n i).can.objs = s.can.objs := (congrArg CanSt.objs countCan_can).trans rfl

theorem countCan_uncounted {i : Nat} : uncounted ((countCan s n i).ch k) = uncounted (s.ch k) := by
  rw [ch_of_can countCan_can]
  rcases Decidable.em (k = n) with rfl | hk
  · rw [ch_onCh_same]
    rfl
  · rw [ch_onCh_ne hk]

/-! ### Delays, errors and storage (12 R353, R354, R359, R360) -/

theorem endDelays_chans : (endDelays s n o).can.chans = s.can.chans :=
  each_keeps (get := fun s => s.can.chans) fun s k => by
    split <;> rfl

/-- The start of a frame leaves the object that sends it. -/
theorem endDelays_sender : (endDelays s n (some k)).obj k = s.obj k :=
  each_keeps (get := fun s => s.obj k) fun s i => by
    split
    next h => exact State.obj_onObj_ne fun hk => h.2 (congrArg some hk)
    next => rfl

theorem addError_objs {tec rec_ : Nat} : (addError s n tec rec_).can.objs = s.can.objs := by
  unfold addError
  extract_lets c was a b u
  split
  · exact (congrArg CanSt.objs (canEvent_can (s := u))).trans rfl
  · rfl

theorem addError_ch {tec rec_ : Nat} :
    (addError s n tec rec_).ch n = { s.ch n with tec := min 256 ((s.ch n).tec + tec), rec_ := min 255 ((s.ch n).rec_ + rec_) } := by
  unfold addError
  extract_lets c was a b u
  have hu : u.ch n = { s.ch n with tec := a, rec_ := b } := ch_onCh_same
  split
  · exact (ch_of_can canEvent_can).trans hu
  · exact hu

theorem storeFrame_objs : (storeFrame s n e).can.objs = s.can.objs := by
  unfold storeFrame
  extract_lets full e u
  split
  · exact (congrArg CanSt.objs canEvent_can).trans countCan_objs
  · rfl

/-- A frame takes the next number of its channel and a place in its ring while there is one. -/
theorem storeFrame_uncounted : uncounted ((storeFrame s n e).ch n) = uncounted { s.ch n with
    seq := ((s.ch n).seq + 1) % 4294967296
    ring := if 4096 ≤ (s.ch n).ring.length then (s.ch n).ring
      else (s.ch n).ring ++ [{ e with chan := n, seq := (s.ch n).seq, early := decide (s.sys.stage < 2) }] } := by
  unfold storeFrame
  extract_lets full e' u
  have hu : u.ch n = { s.ch n with seq := ((s.ch n).seq + 1) % 4294967296, ring := if full then (s.ch n).ring else (s.ch n).ring ++ [e'] } := ch_onCh_same
  have hfull : (if full then (s.ch n).ring else (s.ch n).ring ++ [e']) = if 4096 ≤ (s.ch n).ring.length then (s.ch n).ring else (s.ch n).ring ++ [e'] := by
    simp [full]
  rw [hfull] at hu
  clear_value u
  split
  · exact (congrArg uncounted (ch_of_can canEvent_can)).trans (countCan_uncounted.trans (congrArg uncounted hu))
  · exact congrArg uncounted hu

theorem capture_uncounted : uncounted ((capture s k e).ch n) = uncounted (s.ch n) := by
  unfold capture
  extract_lets o overrun u v
  have hover (w : State) : uncounted ((overrun w).ch n) = uncounted (w.ch n) := (congrArg uncounted (ch_of_can canEvent_can)).trans countCan_uncounted
  clear_value overrun
  split
  · split
    · exact (hover u).trans rfl
    · rfl
  · split
    · exact (hover v).trans rfl
    · rfl

/-! ### Arming an object and ending an attempt (12 R358, R360, R367) -/

/-- An object armed with a frame, with the request that waits for the sending. -/
def armed (o : CanObj) (f : CanFrame) (req : Option Request) : CanObj :=
  let same := o.entry.frame.id == f.id && o.entry.frame.ide == f.ide
  { o with pend := true, intx := false, next := none, coll := if same then o.coll else 0, backoff := if same then o.backoff else none
           entry := { o.entry with frame := f }, req }

/-- A state with an object armed. -/
def arm (s : State) (k : Nat) (f : CanFrame) (req : Option Request) : State :=
  let o := s.obj k
  let same := o.entry.frame.id == f.id && o.entry.frame.ide == f.ide
  s.onObj k fun o => { o with
    pend := true, intx := false, next := none, coll := if same then o.coll else 0, backoff := if same then o.backoff else none
    entry := { o.entry with frame := f }, req }

theorem arm_obj {req : Option Request} : (arm s k f req).obj k = armed (s.obj k) f req := State.obj_onObj_same

theorem arm_ne {req : Option Request} (h : j ≠ k) : (arm s k f req).obj j = s.obj j := State.obj_onObj_ne h

theorem armObj_none : armObj s k f none = arm s k f none := rfl

theorem armObj_waits (h : bitAt (rq r 17 1) 1 = true) : armObj s k f (some r) = arm s k f (some r) := by
  unfold armObj
  dsimp only
  rw [h]
  rfl

theorem armObj_completes (h : bitAt (rq r 17 1) 1 = false) : armObj s k f (some r) = ok (arm s k f none) r [(16, 1, (f.data.length : Int))] := by
  unfold armObj
  dsimp only
  rw [h]
  rfl

theorem endAttempt_of_none (h : (s.obj k).next = none) : endAttempt s k = s.onObj k fun o => { o with intx := false } := by
  unfold endAttempt
  rw [h]

/-! ### Moments of a channel (12 R353 to R363) -/

/-- The condition under which a moment of a channel does nothing fails for a channel that takes part in the bus. -/
theorem listens_acts (hn : n < 8) (hl : chListens (s.ch n) = true) : ¬ (8 ≤ n ∨ (!chListens (s.ch n)) = true) := by
  rw [hl]
  exact not_or.2 ⟨Nat.not_le.2 hn, Bool.false_ne_true⟩

theorem canFrameRx_exec (hn : n < 8) (hl : chListens (s.ch n) = true) (f : CanFrame) (sof : Nat) :
    ∃ t, exec (.canFrameRx n f sof) s = .next t ∧ (t.ch n).seq = ((s.ch n).seq + 1) % 4294967296 ∧
      ((s.ch n).ring.length < 4096 → ∃ e, (t.ch n).ring = (s.ch n).ring ++ [e] ∧ e.frame = f ∧ e.time = sof ∧ e.seq = (s.ch n).seq ∧ e.chan = n) ∧
      (4096 ≤ (s.ch n).ring.length → (t.ch n).ring = (s.ch n).ring) ∧
      (t.ch n).rec_ = (if 127 < (s.ch n).rec_ then 127 else (s.ch n).rec_ - 1) ∧ SameBut (among [.can, .cairn, .ctr]) s t := by
  have hexec : exec (.canFrameRx n f sof) s = .next _ := congrArg Host.Outcome.next (if_neg (listens_acts hn hl))
  extract_lets hit e a b c at hexec
  have ha : a.ch n = { s.ch n with rec_ := if 127 < (s.ch n).rec_ then 127 else (s.ch n).rec_ - 1 } := ch_onCh_same
  have hb : b.ch n = a.ch n := ch_of_chans endDelays_chans
  have hc : uncounted (c.ch n) = uncounted ((storeFrame b n e).ch n) := countCan_uncounted
  rw [storeFrame_uncounted, hb, ha] at hc
  have hframe : e.frame = f := rfl
  have htime : e.time = sof := rfl
  clear_value c b e hit
  dsimp only at hc
  obtain ⟨t, ht, hu⟩ : ∃ t, exec (.canFrameRx n f sof) s = .next t ∧ uncounted (t.ch n) = uncounted (c.ch n) := by
    cases hit with
    | none => exact ⟨c, hexec, rfl⟩
    | some k => exact ⟨_, hexec, capture_uncounted⟩
  replace hu := hu.trans hc
  have hring := (congrArg CanChan.ring hu :)
  dsimp only [uncounted] at hring
  refine ⟨t, ht, (congrArg CanChan.seq hu :), fun hlt => ?_, fun hle => hring.trans (if_pos hle), (congrArg CanChan.rec_ hu :), sameBut_of_exec ht rfl⟩
  exact ⟨_, hring.trans (if_neg (Nat.not_le.2 hlt)), hframe, htime, rfl, rfl⟩

theorem canErrorDetected_receiving (hn : n < 8) (hl : chListens (s.ch n) = true) :
    ∃ t, exec (.canErrorDetected n false) s = .next t ∧ (t.ch n).rec_ = min 255 ((s.ch n).rec_ + 1) ∧ (t.ch n).tec = min 256 (s.ch n).tec := by
  refine ⟨addError (endDelays (countCan s n 3) n none) n 0 1, congrArg Host.Outcome.next (if_neg (listens_acts hn hl)), ?_⟩
  have hch : uncounted ((endDelays (countCan s n 3) n none).ch n) = uncounted (s.ch n) :=
    (congrArg uncounted (ch_of_chans endDelays_chans)).trans countCan_uncounted
  rw [addError_ch, show ((endDelays (countCan s n 3) n none).ch n).rec_ = (s.ch n).rec_ from (congrArg CanChan.rec_ hch :),
    show ((endDelays (countCan s n 3) n none).ch n).tec = (s.ch n).tec from (congrArg CanChan.tec hch :)]
  exact ⟨rfl, rfl⟩

theorem canErrorDetected_transmitting (hn : n < 8) (hl : chListens (s.ch n) = true) (hno : inTx s n = none) :
    ∃ t, exec (.canErrorDetected n true) s = .next t ∧ (t.ch n).tec = min 256 ((s.ch n).tec + 8) := by
  have hexec : exec (.canErrorDetected n true) s = .next _ := congrArg Host.Outcome.next (if_neg (listens_acts hn hl))
  dsimp only at hexec
  rw [if_pos rfl, inTx_of_objs (addError_objs.trans countCan_objs), hno] at hexec
  refine ⟨_, hexec, ?_⟩
  rw [addError_ch]
  exact congrArg (fun v => min 256 (v + 8)) (congrArg CanChan.tec (countCan_uncounted (s := s) (n := n) (k := n) (i := 3)) :)

theorem canBusOff_exec (hn : n < 8) (hl : chListens (s.ch n) = true) (hno : inTx s n = none) :
    ∃ t, exec (.canBusOff n) s = .next t ∧ (t.ch n).busOff = true ∧ (t.ch n).recovering = false ∧ (t.ch n).refLast = none ∧
      SameBut (among [.can, .cairn, .ctr]) s t := by
  have hexec : exec (.canBusOff n) s = .next _ := congrArg Host.Outcome.next (if_neg (listens_acts hn hl))
  dsimp only at hexec
  rw [hno] at hexec
  let u := s.onCh n fun c => { c with busOff := true, recovering := false, refLast := none }
  have hu : u.ch n = { s.ch n with busOff := true, recovering := false, refLast := none } := ch_onCh_same
  have hch : uncounted ((canEvent (countCan u n 6) 2 n (s.ch n).tec).ch n) = uncounted (u.ch n) :=
    (congrArg uncounted (ch_of_can canEvent_can)).trans countCan_uncounted
  rw [hu] at hch
  exact ⟨_, hexec, (congrArg CanChan.busOff hch :), (congrArg CanChan.recovering hch :), (congrArg CanChan.refLast hch :),
    canEvent_frame (countCan_frame (State.onCh_frame SameBut.rfl' rfl) rfl rfl) rfl rfl⟩

theorem canRecoveryDone_exec (hr : (s.ch n).recovering = true) :
    ∃ t, exec (.canRecoveryDone n) s = .next t ∧
      t.ch n = { s.ch n with busOff := false, recovering := false, recReq := none, tec := 0, rec_ := 0 } ∧ ∀ k, k ≠ n → t.ch k = s.ch k := by
  have hexec : exec (.canRecoveryDone n) s = .next _ := congrArg Host.Outcome.next (if_neg (by rw [hr]; decide))
  refine ⟨_, hexec, ?_, fun k hk => ?_⟩
  · dsimp only
    split
    · exact (ch_of_can ok_can).trans ch_onCh_same
    · exact (ch_of_can canEvent_can).trans ch_onCh_same
  · dsimp only
    split
    · exact (ch_of_can ok_can).trans (ch_onCh_ne hk)
    · exact (ch_of_can canEvent_can).trans (ch_onCh_ne hk)

theorem canWake_exec (hasleep : (s.ch n).asleep = true) (hmode : (s.ch n).wake.wmode ≠ 0) (hpow : s.pow.mode ≠ 1) :
    ∃ t, exec (.canWake n) s = .next t ∧ t.ch n = { s.ch n with woken := true, waking := (s.ch n).cfg.mode == 4 } ∧
      (∀ k, k ≠ n → t.ch k = s.ch k) ∧ SameBut (among [.can, .cairn, .ctr]) s t :=
  ⟨_, congrArg Host.Outcome.next ((if_neg (not_or.2 ⟨by rw [hasleep]; decide, hmode⟩)).trans (if_neg hpow)),
    (ch_of_can canEvent_can).trans ch_onCh_same, fun _ hk => (ch_of_can canEvent_can).trans (ch_onCh_ne hk),
    canEvent_frame (State.onCh_frame SameBut.rfl' rfl) rfl rfl⟩

theorem canDrain_exec (hn : n < 8) (hdrain : s.can.drain = true) (count : Nat) :
    ∃ t, exec (.canDrain n count) s = .next t ∧ (t.ch n).ring = (s.ch n).ring.drop count ∧
      (t.ch n).hist = (((s.ch n).ring.take count).reverse ++ (s.ch n).hist).take 65536 ∧ (∀ k, k ≠ n → t.ch k = s.ch k) ∧
      SameBut (among [.can]) s t := by
  have hexec : exec (.canDrain n count) s = .next _ :=
    congrArg Host.Outcome.next (if_neg (not_or.2 ⟨by rw [hdrain]; decide, Nat.not_le.2 hn⟩))
  exact ⟨_, hexec, congrArg CanChan.ring ch_onCh_same, congrArg CanChan.hist ch_onCh_same, fun _ hk => ch_onCh_ne hk, sameBut_of_exec hexec rfl⟩

/-! ### Bus idle (12 R351, R358, R360) -/

/-- An item that the filter of a pass meets nowhere leaves nothing to do. -/
theorem filter_objs_nil {p : Nat → Bool} (h : ∀ k ∈ objsOf s n 2, p k = false) : (objsOf s n 2).filter p = [] :=
  List.filter_eq_nil_iff.2 fun k hk => Bool.eq_false_iff.1 (h k hk)

/-- The channel begins to send the object that it offers, if it offers one. -/
def sendOffered (u : State) (n : Nat) : Option Nat → State
  | some k => endDelays (u.onObj k fun o => { o with intx := true }) n (some k)
  | none => u

/-- The last part of CAN_BUS_IDLE: a channel that may send begins with the object that it offers. -/
def beginFrame (u : State) (n : Nat) : State := if (!chSends u n) = true then u else sendOffered u n (offered u n)

theorem canBusIdle_idle (hn : n < 8) (hon : (s.ch n).on = true) (hrest : ∀ k ∈ objsOf s n 2, (s.obj k).intx = false ∧ (s.obj k).redraw = false) :
    exec (.canBusIdle n) s = .next (beginFrame (applyCan s n) n) := by
  have hacts : ¬ (8 ≤ n ∨ (!(s.ch n).on) = true) := by
    rw [hon]
    exact not_or.2 ⟨Nat.not_le.2 hn, Bool.false_ne_true⟩
  have hends : s.each ((objsOf s n 2).filter fun k => (s.obj k).intx) endAttempt = s := by
    rw [filter_objs_nil fun k hk => (hrest k hk).1]
    rfl
  have hdraws : (applyCan s n).each ((objsOf (applyCan s n) n 2).filter fun k => ((applyCan s n).obj k).redraw) drawBackoff = applyCan s n := by
    rw [show (objsOf (applyCan s n) n 2).filter (fun k => ((applyCan s n).obj k).redraw) = [] from filter_objs_nil (s := s) fun k hk => (hrest k hk).2]
    rfl
  have hexec : exec (.canBusIdle n) s = .next (let u := applyCan (s.each ((objsOf s n 2).filter fun k => (s.obj k).intx) endAttempt) n
      beginFrame (u.each ((objsOf u n 2).filter fun k => (u.obj k).redraw) drawBackoff) n) := congrArg Host.Outcome.next (if_neg hacts)
  rw [hends] at hexec
  dsimp only at hexec
  rw [hdraws] at hexec
  exact hexec

theorem sendOffered_ch {o : Option Nat} : (sendOffered u n o).ch j = u.ch j := by
  cases o with
  | none => rfl
  | some k => exact (ch_of_chans endDelays_chans).trans rfl

/-- With nothing that waits for bus idle the channels are as before. -/
theorem applyCan_ch (hnext : (s.ch n).cfgNext = none) (hwaking : (s.ch n).waking = false) : (applyCan s n).ch j = s.ch j := by
  rcases Decidable.em (j = n) with rfl | hj
  · refine ch_onCh_same.trans ?_
    rw [hnext]
    exact if_neg (Bool.eq_false_iff.1 hwaking)
  · exact ch_onCh_ne hj

theorem applyCan_cfgNext {g : CanCfg} (hnext : (s.ch n).cfgNext = some g) (hready : actReady s = true) (hwaking : (s.ch n).waking = false) :
    (applyCan s n).ch n = { s.ch n with cfg := g, cfgNext := none, asleep := g.mode == 4 } := by
  refine ch_onCh_same.trans ?_
  rw [hnext]
  dsimp only
  rw [if_pos hready]
  exact if_neg (Bool.eq_false_iff.1 hwaking)

theorem canBusIdle_exec (hn : n < 8) (hon : (s.ch n).on = true) (hrest : ∀ k ∈ objsOf s n 2, (s.obj k).intx = false ∧ (s.obj k).redraw = false)
    (hwaking : (s.ch n).waking = false) :
    (∀ g, (s.ch n).cfgNext = some g → actReady s = true → ∃ t, exec (.canBusIdle n) s = .next t ∧ (t.ch n).cfg = g ∧ (t.ch n).cfgNext = none) ∧
    (∀ k, (s.ch n).cfgNext = none → chSends s n = true → offered s n = some k → ∃ t, exec (.canBusIdle n) s = .next t ∧
      (t.obj k).intx = true ∧ (∀ j, t.ch j = s.ch j) ∧ SameBut (among [.can]) s t) := by
  have hexec := canBusIdle_idle hn hon hrest
  refine ⟨fun g hnext hready => ⟨_, hexec, ?_⟩, fun k hnext hsends hoffered => ?_⟩
  · have hch := applyCan_cfgNext hnext hready hwaking
    unfold beginFrame
    split
    · rw [hch]
      exact ⟨rfl, rfl⟩
    · rw [sendOffered_ch, hch]
      exact ⟨rfl, rfl⟩
  · have hch (j : Nat) : (applyCan s n).ch j = s.ch j := applyCan_ch hnext hwaking
    have hsends' : chSends (applyCan s n) n = true := by
      rw [chSends, hch]
      exact hsends
    rw [beginFrame, hsends', if_neg (by decide), show offered (applyCan s n) n = some k from hoffered] at hexec
    refine ⟨_, hexec, ?_, fun j => sendOffered_ch.trans (hch j), endDelays_frame (State.onObj_frame (applyCan_frame SameBut.rfl' rfl) rfl) rfl⟩
    exact congrArg CanObj.intx (endDelays_sender.trans State.obj_onObj_same)

/-! ### The end of an attempt (12 R353, R358 to R360, R367) -/

theorem canTxSuccess_exec (sof : Nat) (htx : inTx s n = some k) (hnext : (s.obj k).next = none) :
    ∃ t, exec (.canTxSuccess n sof) s = .next t ∧ (t.obj k).pend = false ∧ (t.obj k).intx = false ∧ (t.obj k).coll = 0 ∧ (t.obj k).req = none ∧
      (t.ch n).tec = (s.ch n).tec - 1 ∧ (t.ch n).seq = ((s.ch n).seq + 1) % 4294967296 := by
  have hexec : exec (.canTxSuccess n sof) s = .next _ := rfl
  rw [htx] at hexec
  dsimp -zeta only at hexec
  extract_lets o e a b c d at hexec
  have ho : o.next = none := hnext
  rw [ho] at hexec
  have hd : d.can = c.can := by
    dsimp only [d]
    split
    · exact ok_can
    · rfl
  have hobj : d.obj k = { a.obj k with pend := false, intx := false, coll := 0, backoff := none, redraw := false, req := none, next := none } :=
    (obj_of_can hd).trans State.obj_onObj_same
  have hb : b.ch n = _ := ch_onCh_same
  have hch : d.ch n = b.ch n := (ch_of_can hd).trans rfl
  have ha : uncounted (a.ch n) = _ := countCan_uncounted.trans storeFrame_uncounted
  refine ⟨d, hexec, ?_, ?_, ?_, ?_, ?_, ?_⟩
  · rw [hobj]
  · rw [hobj]
  · rw [hobj]
  · rw [hobj]
  · rw [hch, hb]
    exact congrArg (· - 1) (congrArg CanChan.tec ha :)
  · rw [hch, hb]
    exact (congrArg CanChan.seq ha :)

/-- A delay drawn for an object changes its delay alone; it is below 16. -/
theorem drawBackoff_obj : ∃ b, b < 16 ∧ (drawBackoff s k).obj k = { s.obj k with backoff := some b, redraw := false } :=
  ⟨Config.choice (draw s).1 % 65536 % 16, Nat.mod_lt _ (by decide), (obj_of_objs countCan_objs).trans State.obj_onObj_same⟩

/-- An object after a collision. -/
def collided (o : CanObj) : CanObj := { o with coll := min 15 (o.coll + 1), intx := false }

theorem canCollision_exec (htx : inTx s n = some k) (hnext : (s.obj k).next = none) :
    ∃ t, exec (.canCollision n) s = .next t ∧ (t.obj k).intx = false ∧ (t.obj k).coll = min 15 ((s.obj k).coll + 1) ∧
      ((s.obj k).coll < 2 → (t.obj k).backoff = (s.obj k).backoff) ∧
      (2 ≤ (s.obj k).coll → ∃ b, b < 16 ∧ (t.obj k).backoff = some b) := by
  have hexec : exec (.canCollision n) s = .next _ := rfl
  rw [htx] at hexec
  dsimp -zeta only at hexec
  extract_lets f m a b id c at hexec
  have hb : b.obj k = collided (s.obj k) :=
    (obj_of_objs (addError_objs.trans (countCan_objs.trans countCan_objs))).trans State.obj_onObj_same
  have hm : m = min 15 ((s.obj k).coll + 1) := rfl
  obtain ⟨w, hw, hdraw⟩ := drawBackoff_obj (s := b) (k := k)
  rw [hb] at hdraw
  by_cases hlt : (s.obj k).coll < 2
  · have hc : c.obj k = collided (s.obj k) := by
      dsimp only [c]
      rw [if_pos (by omega), hb]
    rw [endAttempt_of_none (by rw [hc]; exact hnext)] at hexec
    refine ⟨_, hexec, ?_, ?_, fun _ => ?_, fun hle => absurd hlt (Nat.not_lt.2 hle)⟩ <;> rw [State.obj_onObj_same, hc]
    · rfl
    · rfl
  · have hc : c.obj k = { collided (s.obj k) with backoff := some w, redraw := false } := by
      dsimp only [c]
      rw [if_neg (by omega)]
      split
      · exact (obj_of_can canEvent_can).trans hdraw
      · exact (obj_of_can (recordOnly_touches.2 .can rfl)).trans hdraw
    rw [endAttempt_of_none (by rw [hc]; exact hnext)] at hexec
    refine ⟨_, hexec, ?_, ?_, fun h => absurd h hlt, fun _ => ⟨w, hw, ?_⟩⟩ <;> rw [State.obj_onObj_same, hc]
    · rfl

/-! ### Reference messages and objects (12 R357, R358, R360, R364) -/

theorem canReferenceDue_exec (hn : n < 8) (hon : (s.ch n).ref.enable = true) (htx : s.can.tx = true) (hl : chListens (s.ch n) = true)
    (htime : (s.ch n).ref.format = 0 → 2 ≤ s.time.tstate) :
    ∃ t, exec (.canReferenceDue n) s = .next t ∧ ((s.obj (s.ch n).ref.obj).intx = false → (t.obj (s.ch n).ref.obj).pend = true ∧
      (t.obj (s.ch n).ref.obj).entry.frame.id = (s.ch n).ref.id ∧ (t.obj (s.ch n).ref.obj).entry.frame.data = refPayload s n) := by
  have hacts : ¬ (8 ≤ n ∨ (!(s.ch n).ref.enable) = true ∨ (!s.can.tx) = true ∨ (!chListens (s.ch n)) = true ∨
      ((s.ch n).ref.format = 0 ∧ s.time.tstate < 2)) := by
    rw [hon, htx, hl]
    rintro (h | h | h | h | ⟨hf, h⟩)
    · exact Nat.not_le.2 hn h
    · exact Bool.false_ne_true h
    · exact Bool.false_ne_true h
    · exact Bool.false_ne_true h
    · exact Nat.not_lt.2 (htime hf) h
  refine ⟨_, congrArg Host.Outcome.next (if_neg hacts), fun hidle => ?_⟩
  dsimp only
  rw [if_neg (Bool.eq_false_iff.1 hidle), armObj_none, arm_obj]
  exact ⟨rfl, rfl, rfl⟩

theorem objArm_exec (f : CanFrame) (hkind : (s.obj k).cfg.kind = 2) :
    ∃ t, exec (.objArm k f) s = .next t ∧
      ((s.obj k).intx = true → t.obj k = { s.obj k with next := some (f, none) }) ∧
      ((s.obj k).intx = false → (t.obj k).pend = true ∧ (t.obj k).entry.frame = f ∧ (t.obj k).req = none) ∧
      (∀ j, j ≠ k → t.obj j = s.obj j) ∧ SameBut (among [.can]) s t := by
  have hexec : exec (.objArm k f) s = .next _ := congrArg Host.Outcome.next (if_neg (not_not_intro hkind))
  cases hsends : (s.obj k).intx with
  | true =>
    rw [if_pos hsends] at hexec
    exact ⟨_, hexec, fun _ => State.obj_onObj_same, nofun, fun _ hj => State.obj_onObj_ne hj, State.onObj_frame SameBut.rfl' rfl⟩
  | false =>
    rw [if_neg (Bool.eq_false_iff.1 hsends), armObj_none] at hexec
    refine ⟨_, hexec, nofun, fun _ => ?_, fun _ hj => arm_ne hj, State.onObj_frame SameBut.rfl' rfl⟩
    rw [arm_obj]
    exact ⟨rfl, rfl, rfl⟩

theorem canBackoffEnd_exec (hdelay : (s.obj k).backoff.isSome = true) :
    ∃ t, exec (.canBackoffEnd k) s = .next t ∧ t.obj k = { s.obj k with backoff := none } ∧
      (∀ j, j ≠ k → t.obj j = s.obj j) ∧ SameBut (among [.can]) s t := by
  obtain ⟨b, hb⟩ := Option.isSome_iff_exists.1 hdelay
  have hexec : exec (.canBackoffEnd k) s = .next _ := congrArg Host.Outcome.next (if_neg (by rw [hb]; exact Bool.false_ne_true))
  exact ⟨_, hexec, State.obj_onObj_same, fun _ hj => State.obj_onObj_ne hj, sameBut_of_exec hexec rfl⟩

theorem objWord0Read_exec (hk : k < 128) :
    ∃ t, exec (.objWord0Read k) s = .next t ∧ t.obj k = { s.obj k with locked := true, lockExp := false } ∧ (∀ j, j ≠ k → t.obj j = s.obj j) ∧
      SameBut (among [.can]) s t := by
  have hexec : exec (.objWord0Read k) s = .next _ := congrArg Host.Outcome.next (if_neg (Nat.not_le.2 hk))
  exact ⟨_, hexec, State.obj_onObj_same, fun _ hj => State.obj_onObj_ne hj, sameBut_of_exec hexec rfl⟩

/-- Taking the shadow leaves none, and keeps the lock, the overrun and the expiry of an object. -/
theorem takeShadow_rest {o : CanObj} : (takeShadow o).shadow = none ∧ (takeShadow o).locked = o.locked ∧ (takeShadow o).ovr = o.ovr ∧
    (takeShadow o).lockExp = o.lockExp := by
  unfold takeShadow
  split
  · exact ⟨rfl, rfl, rfl, rfl⟩
  next h => exact ⟨h, rfl, rfl, rfl⟩

theorem takeShadow_none {o : CanObj} (h : o.shadow = none) : takeShadow o = o := by
  unfold takeShadow
  rw [h]

theorem takeShadow_some {o : CanObj} (h : o.shadow = some e) : takeShadow o = { o with entry := e, new_ := true, shadow := none } := by
  unfold takeShadow
  rw [h]

/-- An object whose lock a read of its last word releases. -/
def released (o : CanObj) : CanObj := { o with locked := false, new_ := false, ovr := false }

theorem objWord22Read_exec (hk : k < 128) :
    ∃ t, exec (.objWord22Read k) s = .next t ∧ (∀ j, j ≠ k → t.obj j = s.obj j) ∧ SameBut (among [.can]) s t ∧
      ((s.obj k).locked = false → t.obj k = { s.obj k with ovr := false, lockExp := false }) ∧
      ((s.obj k).locked = true → (t.obj k).locked = false ∧ (t.obj k).ovr = false ∧ (t.obj k).shadow = none ∧
        ((s.obj k).shadow = none → (t.obj k).new_ = false ∧ (t.obj k).entry = (s.obj k).entry) ∧
        (∀ e, (s.obj k).shadow = some e → (t.obj k).new_ = true ∧ (t.obj k).entry = e)) := by
  have hexec : exec (.objWord22Read k) s = .next _ := congrArg Host.Outcome.next (if_neg (Nat.not_le.2 hk))
  refine ⟨_, hexec, fun _ hj => State.obj_onObj_ne hj, sameBut_of_exec hexec rfl, fun h => ?_, fun h => ?_⟩
  · rw [State.obj_onObj_same, if_neg (Bool.eq_false_iff.1 h)]
  · rw [State.obj_onObj_same, if_pos h]
    change (takeShadow (released (s.obj k))).locked = false ∧ (takeShadow (released (s.obj k))).ovr = false ∧
      (takeShadow (released (s.obj k))).shadow = none ∧ (_ → (takeShadow (released (s.obj k))).new_ = false ∧ (takeShadow (released (s.obj k))).entry = _) ∧
      ∀ e, _ → (takeShadow (released (s.obj k))).new_ = true ∧ (takeShadow (released (s.obj k))).entry = e
    obtain ⟨hshadow, hlocked, hovr, -⟩ := takeShadow_rest (o := released (s.obj k))
    refine ⟨hlocked, hovr, hshadow, fun hnone => ?_, fun e hsome => ?_⟩
    · rw [takeShadow_none (show (released (s.obj k)).shadow = none from hnone)]
      exact ⟨rfl, rfl⟩
    · rw [takeShadow_some (show (released (s.obj k)).shadow = some e from hsome)]
      exact ⟨rfl, rfl⟩

theorem objLockExpiry_exec (hlocked : (s.obj k).locked = true) :
    ∃ t, exec (.objLockExpiry k) s = .next t ∧ (t.obj k).locked = false ∧ (t.obj k).lockExp = true ∧
      (t.obj k).shadow = none ∧ (∀ j, j ≠ k → t.obj j = s.obj j) ∧ SameBut (among [.can, .ctr]) s t := by
  have hexec : exec (.objLockExpiry k) s = .next _ := congrArg Host.Outcome.next (if_pos hlocked)
  obtain ⟨hshadow, hfree, -, hexp⟩ := takeShadow_rest (o := { s.obj k with locked := false, lockExp := true })
  refine ⟨_, hexec, ?_, ?_, ?_, fun j hj => (obj_of_objs countCan_objs).trans (State.obj_onObj_ne hj), sameBut_of_exec hexec rfl⟩ <;>
    rw [obj_of_objs countCan_objs, State.obj_onObj_same]
  · exact hfree
  · exact hexp
  · exact hshadow

/-! ### Requests of the CAN class (12 R366 to R370) -/

theorem canStatus_exec (hright : hasRight s r.part 0x3101 = true) (hn : rq r 16 1 ≤ 7) :
    ∃ u fields, exec (.canStatus r) s = .next (ok u (withOp r 0x3101) fields) ∧
      (16, 1, (rq r 16 1 : Int)) ∈ fields ∧ (17, 1, ((s.ch (rq r 16 1)).cfg.mode : Int)) ∈ fields ∧
      (18, 1, (canStateCode (s.ch (rq r 16 1)) : Int)) ∈ fields ∧ (20, 1, ((min (s.ch (rq r 16 1)).tec 255 : Nat) : Int)) ∈ fields ∧
      (21, 1, ((s.ch (rq r 16 1)).rec_ : Int)) ∈ fields ∧ u.ch (rq r 16 1) = { s.ch (rq r 16 1) with woken := false } ∧
      (∀ k, k ≠ rq r 16 1 → u.ch k = s.ch k) ∧ SameBut (among [.can]) s u := by
  have hexec : exec (.canStatus r) s = .next _ := congrArg Host.Outcome.next (serve_runs_nil hright rfl (firstBad_none (by simpa using hn)))
  refine ⟨(draw s).2.onCh (rq r 16 1) fun c => { c with woken := false }, _, hexec, by simp, by simp, by simp, by simp, by simp,
    ch_onCh_same.trans ?_, fun k hk => (ch_onCh_ne hk).trans (ch_of_can draw_can), State.onCh_frame (draw_frame_proj SameBut.rfl') rfl⟩
  rw [ch_of_can draw_can]

theorem canRxRead_exec (hright : hasRight s r.part 0x3102 = true) :
    (rq r 16 1 = 0 → rq r 17 1 < 8 → ∃ u fields cont, exec (.canRxRead r) s = .next (ok u (withOp r 0x3102) fields 0 cont) ∧ SameBut (among [.host]) s u) ∧
    (rq r 16 1 = 1 → rq r 17 1 < 128 → ∃ u fields cont, exec (.canRxRead r) s = .next (ok u (withOp r 0x3102) fields 0 cont) ∧
      (32, 8, ((s.obj (rq r 17 1)).entry.time : Int)) ∈ fields ∧
      ((s.obj (rq r 17 1)).locked = true → u.obj (rq r 17 1) = s.obj (rq r 17 1)) ∧
      ((s.obj (rq r 17 1)).locked = false → u.obj (rq r 17 1) =
        { s.obj (rq r 17 1) with new_ := (s.obj (rq r 17 1)).new_ && objOwned s (rq r 17 1), ovr := false }) ∧
      (∀ k, k ≠ rq r 17 1 → u.obj k = s.obj k) ∧ SameBut (among [.host, .can]) s u) := by
  refine ⟨fun hkind hn => ?_, fun hkind hn => ?_⟩
  · obtain ⟨h, hexec⟩ := exec_noted (c := .canRxRead r) rfl hright rfl (firstBad_none (by simp [hkind, hn])) fun h => if_pos hkind
    exact ⟨_, _, _, hexec, host_touches⟩
  · obtain ⟨h, hexec⟩ := exec_noted (c := .canRxRead r) rfl hright rfl (firstBad_none (by simp [hkind, hn])) fun h =>
      if_neg (show ¬ rq r 16 1 = 0 by omega)
    refine ⟨_, _, _, hexec, List.mem_append_right _ (by simp [entryFields, State.obj]), fun hl => ?_, fun hl => ?_, fun k hk => ?_,
      SameBut.ite (host_touches.wider rfl) (State.onObj_frame (host_touches.wider rfl) rfl)⟩
    · exact (congrArg (State.obj · (rq r 17 1)) (if_pos hl)).trans rfl
    · refine (congrArg (State.obj · (rq r 17 1)) (if_neg (Bool.eq_false_iff.1 hl))).trans (State.obj_onObj_same.trans ?_)
      exact congrArg (fun b => { s.obj (rq r 17 1) with new_ := (s.obj (rq r 17 1)).new_ && b, ovr := false }) (Bool.not_not _)
    · split
      · rfl
      · exact State.obj_onObj_ne hk

/-- What lands depends, of the state, on the CAN part alone. -/
theorem landCan1_can {c : CanPend} (h : t.can = s.can) : (landCan1 t c).can = (landCan1 s c).can := by
  have hpart : (landCan1 t c).can = (landCan1 { s with can := t.can } c).can := by cases c <;> rfl
  rw [hpart, h]

/-- What the accepted sections lead to depends on the CAN part alone. -/
theorem canPlanned_can (h : t.can = s.can) : (canPlanned t).can = (canPlanned s).can := by
  unfold canPlanned State.each
  rw [h]
  generalize s.can.cfgPend = l
  induction l generalizing s t with
  | nil => exact h
  | cons a l ih => exact ih (landCan1_can h)

theorem canRefused_can {c : CanPend} (h : t.can = s.can) : canRefused t c = canRefused s c := by
  have hpart : canRefused t c = canRefused { s with can := t.can } c := by cases c <;> rfl
  rw [hpart, h]

/-- Whether a section is refused does not depend on the host part. -/
theorem canRefused_planned_host {c : CanPend} {h : HostSt} : canRefused (canPlanned { s with host := h }) c = canRefused (canPlanned s) c :=
  canRefused_can (canPlanned_can rfl)

theorem canConfig_exec (hready : actReady s = true) (hright : hasRight s r.part 0x3110 = true) (hbad : canConfigBad s r = none) :
    (canRefused (canPlanned s) (canPendOf r) = true → ∃ u, exec (.canConfig r) s = .next (refused u (withOp r 0x3110)) ∧ SameBut (among [.host]) s u) ∧
    (canRefused (canPlanned s) (canPendOf r) = false → ∃ t fields, exec (.canConfig r) s = .next t ∧
      t.can = { s.can with cfgPend := s.can.cfgPend ++ [(withOp r 0x3110, canPendOf r, fields)] } ∧ SameBut (among [.host, .can]) s t) := by
  refine ⟨fun hno => ?_, fun hok => ?_⟩
  · obtain ⟨h, hexec⟩ := exec_noted (c := .canConfig r) rfl hright hready hbad fun h => if_pos (canRefused_planned_host.trans hno)
    exact ⟨_, hexec, host_touches⟩
  · obtain ⟨h, hexec⟩ := exec_noted (c := .canConfig r) rfl hright hready hbad fun h =>
      if_neg (Bool.eq_false_iff.1 (canRefused_planned_host.trans hok))
    exact ⟨_, _, hexec, rfl, State.onCan_frame (host_touches.wider rfl) rfl⟩

theorem canWakeSet_exec (hready : actReady s = true) (w : WakeCfg) (hright : hasRight s r.part 0x3130 = true) (hn : rq r 16 1 ≤ 7)
    (hmode : rq r 17 1 ≤ 2) (hw : w = { wmode := rq r 17 1, wdlc := clampN 0 8 (rq r 18 1), ide := bitAt (rq r 19 1) 0
                                        wid := rq r 20 4 % 536870912, wmask := rq r 24 4 % 536870912, dmask := rq r 28 8 })
    (hok : canRefused (canPlanned s) (.wake (rq r 16 1) w) = false) :
    ∃ t fields, exec (.canWakeSet r) s = .next t ∧
      t.can = { s.can with cfgPend := s.can.cfgPend ++ [(withOp r 0x3130, .wake (rq r 16 1) w, fields)] } ∧ SameBut (among [.host, .can]) s t := by
  subst hw
  obtain ⟨h, hexec⟩ := exec_noted (c := .canWakeSet r) rfl hright hready (firstBad_none (by simp [hn, hmode])) fun h =>
    if_neg (Bool.eq_false_iff.1 (canRefused_planned_host.trans hok))
  exact ⟨_, _, hexec, rfl, State.onCan_frame (host_touches.wider rfl) rfl⟩

theorem canBusoffRecover_exec (hready : actReady s = true) (hright : hasRight s r.part 0x3120 = true) (hn : rq r 16 1 ≤ 7)
    (hoff : (s.ch (rq r 16 1)).busOff = true) (hrec : (s.ch (rq r 16 1)).recovering = false) :
    ∃ t, exec (.canBusoffRecover r) s = .next t ∧
      t.ch (rq r 16 1) = { s.ch (rq r 16 1) with recovering := true, recReq := some (withOp r 0x3120) } ∧
      (∀ k, k ≠ rq r 16 1 → t.ch k = s.ch k) ∧ (bitAt (rq r 17 1) 0 = false → t.can.objs = s.can.objs) ∧ SameBut (among [.can]) s t := by
  have hexec : exec (.canBusoffRecover r) s = .next _ := congrArg Host.Outcome.next
    ((serve_runs_nil hright hready (firstBad_none (by simpa using hn))).trans (if_neg (by rw [hoff, hrec]; decide)))
  let u := if bitAt (rq r 17 1) 0 = true then
      s.each (objsOf s (rq r 16 1) 2) fun s k => s.onObj k fun o => { o with pend := false, intx := false, next := none, req := none }
    else s
  have hchans : u.can.chans = s.can.chans := by
    dsimp only [u]
    split
    · exact each_keeps (get := fun s => s.can.chans) fun _ _ => rfl
    · rfl
  have hframe : SameBut (among [.can]) s u := SameBut.ite (State.each_frame SameBut.rfl' fun _ _ h => State.onObj_frame h rfl) SameBut.rfl'
  refine ⟨u.onCh (rq r 16 1) fun c => { c with recovering := true, recReq := some (withOp r 0x3120) }, hexec, ch_onCh_same.trans ?_,
    fun k hk => (ch_onCh_ne hk).trans (ch_of_chans hchans), fun hkeep => ?_, State.onCh_frame hframe rfl⟩
  · rw [ch_of_chans hchans]
  · exact congrArg (fun s => s.can.objs) (if_neg (Bool.eq_false_iff.1 hkeep) : u = s)

/-- The frame of a can.send. -/
def sentFrame (r : Request) : CanFrame :=
  let fl := rq r 17 1
  let fdf := bitAt fl 2
  let len := if fdf then fdLen (rq r 18 1) else min 8 (rq r 18 1)
  { id := rq r 20 4, ide := bitAt fl 5, rtr := bitAt fl 4, fdf, brs := bitAt fl 3 && fdf
    data := (rqBytes r 24 (min len (rq r 18 1))) ++ List.replicate (len - rq r 18 1) 0 }

theorem canSend_exec (hready : actReady s = true) (hright : hasRight s r.part 0x3111 = true) (hk : rq r 16 1 ≤ 127)
    (hid : rq r 20 4 ≤ (if bitAt (rq r 17 1) 5 = true then 0x1FFFFFFF else 0x7FF))
    (hkind : (s.obj (rq r 16 1)).cfg.kind = 2) (hown : objOwned s (rq r 16 1) = false) (htx : s.can.tx = true)
    (hmode : (s.ch (s.obj (rq r 16 1)).cfg.chan).cfg.mode = 1) (hon : (s.ch (s.obj (rq r 16 1)).cfg.chan).on = true)
    (hoff : (s.ch (s.obj (rq r 16 1)).cfg.chan).busOff = false)
    (hfd : bitAt (rq r 17 1) 2 = true → (s.ch (s.obj (rq r 16 1)).cfg.chan).cfg.fd = true ∧ bitAt (rq r 17 1) 4 = false)
    (hpend : (s.obj (rq r 16 1)).pend = true → bitAt (rq r 17 1) 0 = true) :
    ∃ f : CanFrame, f.id = rq r 20 4 ∧ f.ide = bitAt (rq r 17 1) 5 ∧
      ((s.obj (rq r 16 1)).intx = true → ∃ t, exec (.canSend r) s = .next t ∧
        t.obj (rq r 16 1) = { s.obj (rq r 16 1) with next := some (f, some (withOp r 0x3111)) } ∧ SameBut (among [.host, .can]) s t) ∧
      ((s.obj (rq r 16 1)).intx = false → ∃ u, (u.obj (rq r 16 1)).pend = true ∧ (u.obj (rq r 16 1)).entry.frame = f ∧
        (u.obj (rq r 16 1)).intx = false ∧ (∀ k, k ≠ rq r 16 1 → u.obj k = s.obj k) ∧ SameBut (among [.host, .can]) s u ∧
        (bitAt (rq r 17 1) 1 = true → exec (.canSend r) s = .next u ∧ (u.obj (rq r 16 1)).req = some (withOp r 0x3111)) ∧
        (bitAt (rq r 17 1) 1 = false → exec (.canSend r) s = .next (ok u (withOp r 0x3111) [(16, 1, (f.data.length : Int))]) ∧
          (u.obj (rq r 16 1)).req = none)) := by
  obtain ⟨h, hexec⟩ : ∃ h, exec (.canSend r) s = .next (if (s.obj (rq r 16 1)).intx = true
      then State.onObj { s with host := h } (rq r 16 1) fun o => { o with next := some (sentFrame r, some (withOp r 0x3111)) }
      else armObj { s with host := h } (rq r 16 1) (sentFrame r) (some (withOp r 0x3111))) :=
    exec_noted rfl hright hready (firstBad_none (by simpa using ⟨hk, hid⟩)) fun h => if_neg (by
      rintro (h | h | h | h | h | h | ⟨h, h' | h'⟩ | ⟨h, h'⟩)
      · exact h hkind
      · exact Bool.false_ne_true (hown.symm.trans h)
      · exact h hmode
      · exact Bool.false_ne_true ((congrArg not hon).symm.trans h)
      · exact Bool.false_ne_true (hoff.symm.trans h)
      · exact Bool.false_ne_true ((congrArg not htx).symm.trans h)
      · exact Bool.false_ne_true ((congrArg not (hfd h).1).symm.trans h')
      · exact Bool.false_ne_true ((hfd h).2.symm.trans h')
      · exact Bool.false_ne_true ((congrArg not (hpend h)).symm.trans h'))
  refine ⟨sentFrame r, rfl, rfl, fun hsends => ?_, fun hidle => ?_⟩
  · rw [if_pos hsends] at hexec
    exact ⟨_, hexec, State.obj_onObj_same, State.onObj_frame (host_touches.wider rfl) rfl⟩
  · rw [if_neg (Bool.eq_false_iff.1 hidle)] at hexec
    let req := if bitAt (rq r 17 1) 1 = true then some (withOp r 0x3111) else none
    have hobj : (arm { s with host := h } (rq r 16 1) (sentFrame r) req).obj (rq r 16 1) = armed (s.obj (rq r 16 1)) (sentFrame r) req := arm_obj
    refine ⟨arm { s with host := h } (rq r 16 1) (sentFrame r) req, ?_, ?_, ?_, fun k hk => arm_ne hk,
      State.onObj_frame (host_touches.wider rfl) rfl, fun hwait => ?_, fun hnow => ?_⟩ <;> rw [hobj]
    · rfl
    · rfl
    · rfl
    · have hreq : req = some (withOp r 0x3111) := if_pos hwait
      rw [hreq]
      exact ⟨hexec.trans (congrArg _ (armObj_waits hwait)), rfl⟩
    · have hreq : req = none := if_neg (Bool.eq_false_iff.1 hnow)
      rw [hreq]
      exact ⟨hexec.trans (congrArg _ (armObj_completes hnow)), rfl⟩

/-- Settles O53: what the moments add to a channel besides their own change is a count, which `uncounted` leaves out, and an event, which leaves the
CAN part; an object changes only by being armed, by the end of its attempt, or by its lock. -/
theorem canChannelsFollowTheirFrames : Obligations.CanChannelsFollowTheirFrames := by
  unfold Obligations.CanChannelsFollowTheirFrames
  intro r s
  refine ⟨canStatus_exec, canRxRead_exec, fun hready => ⟨canConfig_exec hready, canWakeSet_exec hready, canSend_exec hready, canBusoffRecover_exec hready⟩,
    fun n hn hl => ⟨canFrameRx_exec hn hl, canErrorDetected_receiving hn hl, canErrorDetected_transmitting hn hl, canBusOff_exec hn hl⟩,
    fun n hn hon hrest hwaking => canBusIdle_exec hn hon hrest hwaking, fun n k sof htx hnext => ⟨canTxSuccess_exec sof htx hnext, canCollision_exec htx hnext⟩,
    fun n hr => canRecoveryDone_exec hr, fun n hasleep hmode hpow => canWake_exec hasleep hmode hpow, fun n count hn hdrain => canDrain_exec hn hdrain count,
    fun n hn hon htx hl htime => canReferenceDue_exec hn hon htx hl htime, fun k f hkind => objArm_exec f hkind, fun k hdelay => canBackoffEnd_exec hdelay,
    fun k hk => ⟨objWord0Read_exec hk, objWord22Read_exec hk⟩, fun k hlocked => objLockExpiry_exec hlocked⟩

end Sys2Proof.Machine
end

section
/-! Redundancy: role requests, heartbeats, checkpoints, journal, take-over, hand-over and rejoin (13). -/

namespace Sys2Proof.Machine

open Sys2Proof

variable {s t u : State} {r : Request} {k : Nat} {h : Heartbeat} {c : CheckpointIn}

/-! ### What leaves the redundancy part -/

theorem redEvent_red {code member : Nat} {v : Int} : (redEvent s code member v).red = s.red :=
  (redEvent_frame (x := among [.ctr, .cairn]) SameBut.rfl' rfl rfl).2 .red rfl

theorem bump_red {i v : Nat} : (bump s i v).red = s.red := (bump_frame (x := among [.ctr]) SameBut.rfl' rfl).2 .red rfl

theorem becomeStandby_red {joining : Bool} : (becomeStandby s joining).red =
    { s.red with role := .standby, goodCk := 0, goodWin := none, joining, exchLost := false } := rfl

/-- The state a standby takes over with keeps its redundancy part. -/
theorem loadLead_red {last : Nat} : (leadAll (loadCheckpoint s last)).red = s.red :=
  (leadAll_frame (x := among [.loop, .motion, .rings]) (loadCheckpoint_frame SameBut.rfl' rfl rfl) rfl).2 .red rfl

/-- What a journal entry changes is outside the redundancy part. -/
theorem applyChange_red {c : JournalChange} : (applyChange s c).red = s.red := by
  cases c <;> rfl

/-! ### The role requests (13 R372, R393 to R395) -/

theorem redStatus_exec (hright : hasRight s r.part 0x5001 = true)
    (hpair : rq r 16 1 = 0 ∨ (rq r 16 1 ≤ 4 ∧ (witnessedPair s (rq r 16 1)).isSome = true)) :
    ∃ fields, exec (.redStatus r) s = .next (ok s (withOp r 0x5001) fields) ∧
      (tabHas s.red.snap (rq r 16 1) = true → fields = tabGet s.red.snap [] (rq r 16 1)) :=
  ⟨_, congrArg Host.Outcome.next (serve_runs_nil hright rfl (firstBad_none (by simpa using hpair))), fun hsnap => if_pos hsnap⟩

/-- A request whose fields are all within their limits is served without a clamp. -/
theorem serve_runs_of_nil {op : Nat} {ready : Bool} {bad : Option Nat} {clamps : List Nat} {run : Request → State → State}
    (hright : hasRight s r.part op = true) (hready : ready = true) (hbad : bad = none) (hclamps : clamps = []) :
    serve s r op ready bad clamps run = run (withOp r op) s := by
  rw [hclamps]
  exact serve_runs_nil hright hready hbad

theorem handOver_exec (hright : hasRight s r.part 0x5010 = true) (hpaired : paired s = true) (haction : rq r 16 1 = 0)
    (hmay : mayHandOver s = true) :
    ∃ t, exec (.redRoleRequest r) s = .next t ∧
      t.red = { s.red with target := some (s.time.cycle + handoverAhead s (rq r 20 4)), request := some (withOp r 0x5010) } ∧
      SameBut (among [.host, .red]) s t := by
  obtain ⟨h, hexec⟩ := exec_noted (c := .redRoleRequest r) rfl hright hpaired (firstBad_none (by simp [haction])) fun h => rfl
  rw [haction] at hexec
  exact ⟨_, hexec.trans (congrArg Host.Outcome.next (if_pos hmay)), rfl, State.onRed_frame (host_touches.wider rfl) rfl⟩

/-- What an ACTION other than 0 of a role request does, by its number. -/
theorem roleRequest_runs (hright : hasRight s r.part 0x5010 = true) (hpaired : paired s = true) (hle : rq r 16 1 ≤ 3) (hne : rq r 16 1 ≠ 0) :
    (rq r 16 1 = 1 → exec (.redRoleRequest r) s = .next (if s.red.role = .standby then
        ok (s.onRed fun d => { d with role := .withdrawn, goodCk := 0, speculative := false }) (withOp r 0x5010) [(17, 1, 4)]
      else refused s (withOp r 0x5010))) ∧
    (rq r 16 1 = 2 → exec (.redRoleRequest r) s = .next (if s.red.role = .fenced ∨ s.red.role = .withdrawn then
        ok (rejoinRole s) (withOp r 0x5010) [(17, 1, (roleCode (rejoinRole s).red.role : Int))]
      else refused s (withOp r 0x5010))) ∧
    (rq r 16 1 = 3 → exec (.redRoleRequest r) s = .next
      (if (s.red.role = .standby ∨ s.red.role = .fenced ∨ s.red.role = .withdrawn) ∧ partnerSilent s = true then
        ok (startAsActive s) (withOp r 0x5010) [(17, 1, (roleCode (startAsActive s).red.role : Int))]
      else refused s (withOp r 0x5010))) := by
  have hexec : exec (.redRoleRequest r) s = .next _ := congrArg Host.Outcome.next
    (serve_runs_of_nil hright hpaired (firstBad_none (by simpa using hle)) (if_neg fun h => hne h.1))
  refine ⟨fun ha => ?_, fun ha => ?_, fun ha => ?_⟩ <;> rw [ha] at hexec <;> exact hexec

/-- A module that leaves FENCED or WITHDRAWN follows its partner or looks for its role anew. -/
theorem rejoinRole_red : ((rejoinRole s).red.role = .standby ∨ (rejoinRole s).red.role = .undecided) ∧ (rejoinRole s).red.failed = false ∧
    ((rejoinRole s).red.role = .standby → (rejoinRole s).red.joining = true ∧ (rejoinRole s).red.goodCk = 0) := by
  unfold rejoinRole
  extract_lets leads u
  split
  · exact ⟨.inl rfl, rfl, fun _ => ⟨rfl, rfl⟩⟩
  · exact ⟨.inr rfl, rfl, fun h => nomatch (show Role.undecided = .standby from h)⟩

theorem roleRequest_exec (hright : hasRight s r.part 0x5010 = true) (hpaired : paired s = true) :
    (rq r 16 1 = 0 → mayHandOver s = true → ∃ t, exec (.redRoleRequest r) s = .next t ∧
      t.red = { s.red with target := some (s.time.cycle + handoverAhead s (rq r 20 4)), request := some (withOp r 0x5010) } ∧
      SameBut (among [.host, .red]) s t) ∧
    (rq r 16 1 = 1 →
      (s.red.role = .standby → ∃ u, exec (.redRoleRequest r) s = .next (ok u (withOp r 0x5010) [(17, 1, 4)]) ∧
        u.red = { s.red with role := .withdrawn, goodCk := 0, speculative := false } ∧ SameBut (among [.red]) s u) ∧
      (s.red.role ≠ .standby → exec (.redRoleRequest r) s = .next (refused s (withOp r 0x5010)))) ∧
    (rq r 16 1 = 2 →
      (s.red.role = .fenced ∨ s.red.role = .withdrawn → ∃ u,
        exec (.redRoleRequest r) s = .next (ok u (withOp r 0x5010) [(17, 1, (roleCode u.red.role : Int))]) ∧
        (u.red.role = .standby ∨ u.red.role = .undecided) ∧ u.red.failed = false ∧ (u.red.role = .standby → u.red.joining = true ∧ u.red.goodCk = 0) ∧
        SameBut (among [.red, .can]) s u) ∧
      (s.red.role ≠ .fenced → s.red.role ≠ .withdrawn → exec (.redRoleRequest r) s = .next (refused s (withOp r 0x5010)))) ∧
    (rq r 16 1 = 3 → (s.red.role = .standby ∨ s.red.role = .fenced ∨ s.red.role = .withdrawn) →
      (partnerSilent s = true → ∃ u, exec (.redRoleRequest r) s = .next (ok u (withOp r 0x5010) [(17, 1, 1)]) ∧
        u.red.role = .active ∧ u.red.failed = false) ∧
      (partnerSilent s = false → exec (.redRoleRequest r) s = .next (refused s (withOp r 0x5010)))) := by
  refine ⟨handOver_exec hright hpaired, fun ha => ?_, fun ha => ?_, fun ha hrole => ?_⟩
  · have hexec := (roleRequest_runs hright hpaired (by omega) (by omega)).1 ha
    exact ⟨fun hs => ⟨_, hexec.trans (congrArg Host.Outcome.next (if_pos hs)), rfl, State.onRed_frame SameBut.rfl' rfl⟩,
      fun hs => hexec.trans (congrArg Host.Outcome.next (if_neg hs))⟩
  · have hexec := (roleRequest_runs hright hpaired (by omega) (by omega)).2.1 ha
    obtain ⟨hrole, hfailed, hjoining⟩ := rejoinRole_red (s := s)
    exact ⟨fun hs => ⟨_, hexec.trans (congrArg Host.Outcome.next (if_pos hs)), hrole, hfailed, hjoining, rejoinRole_frame SameBut.rfl' rfl rfl⟩,
      fun hf hw => hexec.trans (congrArg Host.Outcome.next (if_neg (not_or.2 ⟨hf, hw⟩)))⟩
  · have hexec := (roleRequest_runs hright hpaired (by omega) (by omega)).2.2 ha
    exact ⟨fun hs => ⟨_, hexec.trans (congrArg Host.Outcome.next (if_pos ⟨hrole, hs⟩)), rfl, rfl⟩,
      fun hs => hexec.trans (congrArg Host.Outcome.next (if_neg fun h => Bool.eq_false_iff.1 hs h.2))⟩

/-! ### Heartbeats missed (13 R380, R381, R386, R387) -/

/-- The last window captured lies within the 32 after the base. -/
theorem lastCaptured_le {base : Nat} : lastCaptured s base ≤ base + 32 := by
  unfold lastCaptured
  refine List.foldlRecOn (motive := fun m => m ≤ base + 32) _ _ (Nat.le_add_right ..) fun m hm i hi => ?_
  have hlt := List.mem_range.1 hi
  split
  · omega
  · exact hm

/-- A speculative take-over goes from the latest good window on, over 32 windows at most. -/
theorem speculate_red (hck : s.red.checkpoint.isSome = true) : ∃ last, (speculate s).red =
      { s.red with speculative := true, replayed := false, lastWindow := last } ∧
    s.red.goodWin.getD s.red.ckWin ≤ last ∧ last ≤ s.red.goodWin.getD s.red.ckWin + 32 := by
  have hsome : ¬ s.red.checkpoint.isNone = true := by
    rw [Option.isNone_iff_eq_none]
    exact Option.isSome_iff_ne_none.1 hck
  refine ⟨_, congrArg State.red (if_neg hsome), Nat.le_max_left .., Nat.max_le.2 ⟨Nat.le_add_right .., ?_⟩⟩
  exact Nat.le_trans (Nat.min_le_left ..) lastCaptured_le

/-- A speculative take-over changes nothing else of the redundancy part. -/
theorem speculate_rest : ∃ speculative replayed lastWindow, (speculate s).red = { s.red with speculative, replayed, lastWindow } := by
  unfold speculate
  split
  · exact ⟨_, _, _, rfl⟩
  · exact ⟨_, _, _, rfl⟩

/-- The state with the miss of the partner's heartbeat counted. -/
def missed (s : State) : State :=
  bump (s.onRed fun d => { d with missPartner := s.red.missPartner + 1, hbMiss := tabMod d.hbMiss 0 0 fun v => satAdd max32 v 1 }) (cMem 11)

theorem missed_red : (missed s).red =
    { s.red with missPartner := s.red.missPartner + 1, hbMiss := tabMod s.red.hbMiss 0 0 fun v => satAdd max32 v 1 } := bump_red

theorem missPartner_red : (missPartner s).red =
    if s.red.role = .standby ∧ s.red.missPartner = 0 then (speculate (missed s)).red else (missed s).red := by
  have hrole : (missed s).red.role = s.red.role := (congrArg RedSt.role missed_red :)
  by_cases hspec : s.red.role = .standby ∧ s.red.missPartner = 0
  · rw [if_pos hspec]
    exact congrArg State.red (if_pos ⟨hrole.trans hspec.1, by rw [hspec.2]⟩)
  · rw [if_neg hspec]
    refine (congrArg State.red (if_neg fun h => hspec ⟨hrole.symm.trans h.1, Nat.succ.inj h.2⟩)).trans ?_
    split
    · exact redEvent_red
    · rfl

theorem missPartner_exec (hpaired : paired s = true) :
    ∃ t, exec (.heartbeatMiss .partner) s = .next t ∧ t.red.missPartner = s.red.missPartner + 1 ∧ t.red.role = s.red.role ∧
      (s.red.role = .standby → s.red.missPartner = 0 → s.red.checkpoint.isSome = true → t.red.speculative = true ∧ t.red.replayed = false ∧
        s.red.goodWin.getD s.red.ckWin ≤ t.red.lastWindow ∧ t.red.lastWindow ≤ s.red.goodWin.getD s.red.ckWin + 32) ∧
      (s.red.role ≠ .standby → t.red.speculative = s.red.speculative) ∧ SameBut (among [.red, .ctr, .cairn]) s t := by
  refine ⟨missPartner s, congrArg Host.Outcome.next (if_pos hpaired), ?_, ?_, fun hrole hmiss hck => ?_, fun hrole => ?_,
    missPartner_frame SameBut.rfl' rfl rfl rfl⟩
  · obtain ⟨a, b, l, hspec⟩ := speculate_rest (s := missed s)
    rw [missPartner_red, hspec, missed_red]
    split <;> rfl
  · obtain ⟨a, b, l, hspec⟩ := speculate_rest (s := missed s)
    rw [missPartner_red, hspec, missed_red]
    split <;> rfl
  · obtain ⟨last, hspec, hlow, hhigh⟩ := speculate_red (s := missed s) (by rw [missed_red]; exact hck)
    rw [missPartner_red, if_pos ⟨hrole, hmiss⟩, hspec]
    rw [missed_red] at hlow hhigh
    exact ⟨rfl, rfl, hlow, hhigh⟩
  · rw [missPartner_red, if_neg fun h => hrole h.1, missed_red]

theorem missWitness_exec (hpaired : paired s = true) (hwitness : s.sys.manifest.witness ≠ 0) :
    ∃ t, exec (.heartbeatMiss .witness) s = .next t ∧ t.red = { s.red with missWitness := s.red.missWitness + 1 } ∧
      SameBut (among [.red, .ctr, .cairn]) s t := by
  have hboth : (paired s && s.sys.manifest.witness != 0) = true := by
    rw [hpaired, bne_iff_ne.2 hwitness]
    rfl
  have hexec : exec (.heartbeatMiss .witness) s = .next _ := congrArg Host.Outcome.next (if_pos hboth)
  refine ⟨_, hexec, ?_, sameBut_of_exec hexec rfl⟩
  dsimp only
  split
  · exact redEvent_red
  · rfl

/-- A declaration leaves the counts of the heartbeats missed. -/
theorem declare_missPairs : (declare s k).red.missPairs = s.red.missPairs := by
  unfold declare
  split
  · rfl
  next a b hpair =>
    extract_lets hb
    split
    · exact (congrArg RedSt.missPairs redEvent_red :)
    · rfl

theorem missActive_exec (hpair : (witnessedPair s k).isSome = true) :
    ∃ t, exec (.heartbeatMiss (.pairActive k)) s = .next t ∧ t.red.missPairs = tabSet s.red.missPairs (2 * k) (tabGet s.red.missPairs 0 (2 * k) + 1) ∧
      (tabGet s.red.missPairs 0 (2 * k) = 0 → t.red.declared = s.red.declared) ∧ SameBut (among [.red, .ctr, .cairn]) s t := by
  have hexec : exec (.heartbeatMiss (.pairActive k)) s = .next _ := congrArg Host.Outcome.next (if_pos hpair)
  refine ⟨_, hexec, ?_, fun hfirst => ?_, sameBut_of_exec hexec rfl⟩
  · dsimp only
    split
    · exact declare_missPairs
    · rfl
  · dsimp only
    rw [hfirst, if_neg (by decide)]
    rfl

theorem missStandby_exec (hpair : (witnessedPair s k).isSome = true) :
    ∃ t, exec (.heartbeatMiss (.pairStandby k)) s = .next t ∧ t.red = { s.red with missPairs := tabMod s.red.missPairs 0 (2 * k + 1) (· + 1) } ∧
      SameBut (among [.red]) s t :=
  ⟨_, congrArg Host.Outcome.next (if_pos hpair), rfl, State.onRed_frame SameBut.rfl' rfl⟩

/-! ### Heartbeats received (13 R380, R383, R384, R394) -/

/-- A heartbeat of the partner with a good CRC is taken as such. -/
theorem heartbeatIn_partner (hcrc : h.crcOk = true) (hpaired : paired s = true) (hmember : h.member = s.sys.manifest.partner) :
    exec (.heartbeatRx h) s = .next (takePartner s h) :=
  congrArg Host.Outcome.next ((if_neg (by rw [hcrc]; decide)).trans (if_pos (by rw [hpaired, hmember, beq_self_eq_true]; rfl)))

/-- One of the witness, when it is not the partner, likewise. -/
theorem heartbeatIn_witness (hcrc : h.crcOk = true) (hpaired : paired s = true) (hmember : h.member = s.sys.manifest.witness)
    (hne : s.sys.manifest.witness ≠ s.sys.manifest.partner) : exec (.heartbeatRx h) s = .next (takeWitness s h) := by
  have hother : ¬ (paired s && h.member == s.sys.manifest.partner) = true := by
    rw [hpaired, hmember, beq_false_of_ne hne]
    decide
  exact congrArg Host.Outcome.next ((if_neg (by rw [hcrc]; decide)).trans ((if_neg hother).trans
    (if_pos (by rw [hpaired, hmember, beq_self_eq_true]; rfl))))

theorem takePartner_exec (hcrc : h.crcOk = true) (hpaired : paired s = true) (hmember : h.member = s.sys.manifest.partner) :
    ∃ t, exec (.heartbeatRx h) s = .next t ∧ t.red.partnerHb = some h ∧ t.red.missPartner = 0 ∧ t.red.partnerSeen = some s.time.cycle ∧
      SameBut (among [.red, .can]) s t ∧ (s.red.role = .undecided → h.role = 1 → t.red.role = .standby ∧ t.red.joining = true) ∧
      (s.red.role ≠ .undecided → t.red.role = s.red.role) := by
  refine ⟨takePartner s h, heartbeatIn_partner hcrc hpaired hmember, ?_⟩
  have hframe : SameBut (among [.red, .can]) s (takePartner s h) := takePartner_frame SameBut.rfl' rfl rfl
  revert hframe
  unfold takePartner
  extract_lets u
  intro hframe
  by_cases hjoin : u.red.role = .undecided ∧ h.role = 1
  · rw [if_pos hjoin] at hframe ⊢
    exact ⟨rfl, rfl, rfl, hframe, fun _ _ => ⟨rfl, rfl⟩, fun hne => absurd hjoin.1 hne⟩
  · rw [if_neg hjoin] at hframe ⊢
    exact ⟨rfl, rfl, rfl, hframe, fun hu hone => absurd ⟨hu, hone⟩ hjoin, fun _ => rfl⟩

/-- A standby that acts on a declaration changes its speculation and confirms. -/
theorem confirmFailed_red : ∃ speculative replayed lastWindow, (confirmFailed s).red =
    { s.red with speculative, replayed, lastWindow, confirmed := true } := by
  unfold confirmFailed
  split
  · exact ⟨_, _, _, rfl⟩
  · obtain ⟨a, b, l, hspec⟩ := speculate_rest (s := s)
    exact ⟨a, b, l, congrArg (fun d : RedSt => { d with confirmed := true }) hspec⟩

theorem takeWitness_exec (hcrc : h.crcOk = true) (hpaired : paired s = true) (hmember : h.member = s.sys.manifest.witness)
    (hne : s.sys.manifest.witness ≠ s.sys.manifest.partner) :
    ∃ t, exec (.heartbeatRx h) s = .next t ∧ t.red.witnessHb = some h ∧ t.red.missWitness = 0 ∧ t.red.role = s.red.role ∧
      (h.decl = 0 → t.red.confirmed = s.red.confirmed ∧ t.red.fenceDue = s.red.fenceDue) ∧
      (h.decl ≠ 0 → h.decl = s.sys.manifest.member → s.red.role = .active → s.red.fenceDue = none → t.red.fenceDue = some 2) ∧
      (h.decl ≠ 0 → h.decl ≠ s.sys.manifest.member → h.decl = s.sys.manifest.partner → s.red.role = .standby → s.red.partnerFrame = none →
        t.red.confirmed = true) := by
  refine ⟨takeWitness s h, heartbeatIn_witness hcrc hpaired hmember hne, ?_⟩
  unfold takeWitness
  extract_lets m u
  have hfail : (confirmFailed u).red.witnessHb = some h ∧ (confirmFailed u).red.missWitness = 0 ∧ (confirmFailed u).red.role = s.red.role ∧
      (confirmFailed u).red.confirmed = true := by
    obtain ⟨a, b, l, hred⟩ := confirmFailed_red (s := u)
    rw [hred]
    exact ⟨rfl, rfl, rfl, rfl⟩
  by_cases h0 : h.decl = 0
  · rw [if_pos h0]
    exact ⟨rfl, rfl, rfl, fun _ => ⟨rfl, rfl⟩, fun hd => absurd h0 hd, fun hd => absurd h0 hd⟩
  rw [if_neg h0]
  by_cases hself : h.decl = m.member
  · rw [if_pos hself]
    split
    · exact ⟨rfl, rfl, rfl, fun hd => absurd hd h0, fun _ _ _ hfree => if_pos hfree, fun _ hd => absurd hself hd⟩
    next hrole => exact ⟨rfl, rfl, rfl, fun hd => absurd hd h0, fun _ _ hactive => absurd hactive hrole, fun _ hd => absurd hself hd⟩
  rw [if_neg hself]
  by_cases hpartner : h.decl = m.partner ∧ u.red.role = .standby
  · rw [if_pos hpartner]
    split
    next c ring hframe =>
      have hseen (t : State) (hno : s.red.partnerFrame = none) : t.red.confirmed = true := nomatch hframe.symm.trans hno
      split
      · split
        · exact ⟨rfl, rfl, rfl, fun hd => absurd hd h0, fun _ hd => absurd hd hself, fun _ _ _ _ => hseen _⟩
        · rw [redEvent_red]
          exact ⟨rfl, rfl, rfl, fun hd => absurd hd h0, fun _ hd => absurd hd hself, fun _ _ _ _ => hseen (State.onRed u _)⟩
      · exact ⟨hfail.1, hfail.2.1, hfail.2.2.1, fun hd => absurd hd h0, fun _ hd => absurd hd hself, fun _ _ _ _ => hseen _⟩
    · exact ⟨hfail.1, hfail.2.1, hfail.2.2.1, fun hd => absurd hd h0, fun _ hd => absurd hd hself, fun _ _ _ _ _ => hfail.2.2.2⟩
  · rw [if_neg hpartner]
    exact ⟨rfl, rfl, rfl, fun hd => absurd hd h0, fun _ hd => absurd hd hself, fun _ _ hp hs => absurd ⟨hp, hs⟩ hpartner⟩

/-! ### Fencing, take-over and the witness's faults (13 R382, R384, R386 to R388) -/

theorem setFailed_active (hrole : s.red.role = .active) (hfree : s.red.fenceDue = none) :
    (setFailed s).red = { s.red with failed := true, fenceDue := some 1 } := by
  refine (congrArg State.red (if_pos hrole)).trans ?_
  exact congrArg (fun d => { s.red with failed := true, fenceDue := d }) (if_pos hfree)

theorem failedSet_exec {c : FailCause} :
    (s.red.role = .active → s.red.fenceDue = none → ∃ t, exec (.failedSet c) s = .next t ∧ t.red = { s.red with failed := true, fenceDue := some 1 } ∧
      SameBut (among [.red, .ctr]) s t) ∧
    (s.red.role ≠ .active → ∃ t, exec (.failedSet c) s = .next t ∧ SameBut (among [.ctr]) s t) := by
  obtain ⟨u, hexec, hred, hframe⟩ : ∃ u, exec (.failedSet c) s = .next (setFailed u) ∧ u.red = s.red ∧ SameBut (among [.ctr]) s u := by
    cases c with
    | eccError => exact ⟨_, rfl, bump_red, bump_frame SameBut.rfl' rfl⟩
    | _ => exact ⟨s, rfl, rfl, SameBut.rfl'⟩
  refine ⟨fun hrole hfree => ⟨_, hexec, ?_, setFailed_frame (hframe.wider rfl) rfl⟩, fun hrole => ⟨u, hexec.trans ?_, hframe⟩⟩
  · rw [setFailed_active (by rw [hred]; exact hrole) (by rw [hred]; exact hfree), hred]
  · exact congrArg Host.Outcome.next (if_neg (by rw [hred]; exact hrole))

theorem replayComplete_exec (hrole : s.red.role = .standby) (hspec : s.red.speculative = true) :
    ∃ t, exec .replayComplete s = .next t ∧ t.red = { s.red with replayed := true } ∧ SameBut (among [.red]) s t :=
  ⟨_, congrArg Host.Outcome.next (if_pos ⟨hrole, hspec⟩), rfl, State.onRed_frame SameBut.rfl' rfl⟩

theorem takeoverCycle_exec (hrole : s.red.role = .standby) (hspec : s.red.speculative = true) (hreplayed : s.red.replayed = true)
    (hconfirmed : s.red.confirmed = true) :
    ∃ t, exec .takeoverCycle s = .next t ∧ t.red = { s.red with
      role := .takingOver, speculative := false, replayed := false, confirmed := false, goodCk := 0, target := none
      switchovers := satAdd max32 s.red.switchovers 1, swCycle := s.time.cycle, lastGap := s.time.cycle - s.red.lastWindow } := by
  refine ⟨_, congrArg Host.Outcome.next (if_pos ⟨hrole, hspec, hreplayed, hconfirmed⟩), bump_red.trans ?_⟩
  exact congrArg (fun d : RedSt => { d with
    role := .takingOver, speculative := false, replayed := false, confirmed := false, goodCk := 0, target := none
    switchovers := satAdd max32 d.switchovers 1, swCycle := s.time.cycle, lastGap := s.time.cycle - d.lastWindow }) loadLead_red

theorem heartbeatPathFault_exec {a b : Nat} (hpair : pairMembers s k = some (a, b)) (hdeclared : tabGet s.red.declared 0 k ≠ 0) :
    ∃ t, exec (.heartbeatPathFault k) s = .next t ∧
      t.red = { s.red with pathSecs := tabSet s.red.pathSecs k (tabGet s.red.pathSecs 0 k + 1) } ∧ SameBut (among [.red, .ctr, .cairn]) s t := by
  have hexec : exec (.heartbeatPathFault k) s = .next _ := rfl
  rw [hpair] at hexec
  dsimp only at hexec
  rw [if_neg hdeclared] at hexec
  exact ⟨_, hexec, redEvent_red, sameBut_of_exec hexec rfl⟩

/-! ### Checkpoints, the journal, hand-over and rejoin (13 R376 to R379, R386, R393, R394) -/

theorem checkpointTake_exec (hrole : s.red.role = .active) (hwhen : s.time.cycle % 32 = 0 ∨ s.red.target = some (s.time.cycle + 2)) :
    ∃ t, exec .checkpointTake s = .next t ∧ t.red = { s.red with ckWin := s.time.cycle, ckOut := some (checkpointOf s) } ∧
      SameBut (among [.red]) s t :=
  ⟨_, congrArg Host.Outcome.next (if_pos ⟨hrole, hwhen⟩), rfl, State.onRed_frame SameBut.rfl' rfl⟩

/-- A checkpoint of a 32nd window is judged by a standby that is not copying. -/
theorem checkpointRx_judges (hrole : s.red.role = .standby) (hjoining : s.red.joining = false) (hwindow : c.window % 32 = 0) :
    exec (.checkpointRx c) s = .next (judgeCheckpoint s c) := by
  refine congrArg Host.Outcome.next ((if_neg (not_or.2 ⟨not_not_intro hrole, ?_⟩)).trans (if_neg fun h => h.2 hwindow))
  rw [hjoining]
  exact Bool.false_ne_true

theorem takeLevels_red {l : List Nat} : (takeLevels s l).red = s.red :=
  (takeLevels_frame (x := among [.pow, .ctr, .dbg, .cairn]) SameBut.rfl' rfl rfl rfl rfl).2 .red rfl

theorem checkpointRx_exec (hrole : s.red.role = .standby) (hjoining : s.red.joining = false) (hwindow : c.window % 32 = 0) :
    (ckFault s c = 0 → ∃ t, exec (.checkpointRx c) s = .next t ∧
      t.red = { s.red with
        goodCk := satAdd max32 s.red.goodCk 1, inelig := 0, ckWin := c.window, goodWin := some c.window, checkpoint := some c, exchLost := false } ∧
      SameBut (among [.red, .pow, .dbg, .ctr, .cairn]) s t) ∧
    (ckFault s c ≠ 0 → ∃ t, exec (.checkpointRx c) s = .next t ∧
      t.red = { s.red with goodCk := 0, inelig := ckFault s c, badCk := satAdd max32 s.red.badCk 1, goodWin := none, exchLost := false } ∧
      SameBut (among [.red, .ctr, .cairn]) s t) := by
  have hexec := checkpointRx_judges hrole hjoining hwindow
  refine ⟨fun hgood => ⟨_, hexec, ?_, judgeCheckpoint_frame SameBut.rfl' rfl rfl rfl rfl rfl⟩,
    fun hbad => ⟨_, hexec.trans (congrArg Host.Outcome.next (if_neg hbad)), ?_, ?_⟩⟩
  · refine (congrArg State.red (if_pos hgood)).trans ?_
    dsimp only
    split
    · exact redEvent_red.trans takeLevels_red
    · exact takeLevels_red
  · dsimp only
    split
    · exact redEvent_red.trans bump_red
    · exact bump_red
  · exact SameBut.ite (redEvent_frame (bump_frame (State.onRed_frame SameBut.rfl' rfl) rfl) rfl rfl) (bump_frame (State.onRed_frame SameBut.rfl' rfl) rfl)

theorem journalEntryRx_exec {q : Nat} {c : JournalChange} (hrole : s.red.role = .standby) (hnew : s.red.journal.contains q = false) (hlt : s.red.jseq < q) :
    ∃ t, exec (.journalEntryRx q c) s = .next t ∧
      t.red.jseq = advanceJseq (q :: s.red.journal) (q :: s.red.journal).length s.red.jseq ∧ t.red.role = .standby ∧
      (q = s.red.jseq + 1 → s.red.journal = [] → t.red.jseq = q ∧ t.red.journal = []) := by
  have hacts : ¬ (s.red.role ≠ .standby ∨ s.red.journal.contains q = true ∨ q ≤ s.red.jseq) :=
    not_or.2 ⟨not_not_intro hrole, not_or.2 ⟨Bool.eq_false_iff.1 hnew, Nat.not_le.2 hlt⟩⟩
  refine ⟨_, congrArg Host.Outcome.next (if_neg hacts), ?_⟩
  dsimp only [State.onRed]
  rw [applyChange_red]
  refine ⟨rfl, hrole, fun hnext hempty => ?_⟩
  rw [hempty, hnext]
  have hseq : advanceJseq [s.red.jseq + 1] 1 s.red.jseq = s.red.jseq + 1 := by simp [advanceJseq]
  refine ⟨hseq, ?_⟩
  simp [hseq]

theorem ok_red {l : List (Nat × Nat × Int)} {d m : Nat} : (ok s r l d m).red = s.red :=
  (ok_frame (x := among [.host, .ctr]) SameBut.rfl' rfl rfl).2 .red rfl

theorem forwardOnly_red : (forwardOnly s).red = s.red := (forwardOnly_frame (x := among [.rings]) SameBut.rfl' rfl).2 .red rfl

theorem handoverTarget_exec (htarget : s.red.target = some s.time.cycle) :
    (s.red.role = .active → ∃ t, exec .handoverTarget s = .next t ∧ t.red.role = .standby ∧ t.red.target = none ∧ t.red.request = none) ∧
    (s.red.role = .standby → s.red.missPartner = 0 → ∃ t, exec .handoverTarget s = .next t ∧ t.red.role = .active ∧ t.red.target = none ∧
      t.red.goodCk = 0) ∧
    (s.red.role = .standby → s.red.missPartner ≠ 0 → exec .handoverTarget s = .next (s.onRed fun d => { d with target := none })) := by
  refine ⟨fun hrole => ?_, fun hrole hmiss => ?_, fun hrole hmiss => ?_⟩
  · have hexec : exec .handoverTarget s = .next _ := congrArg Host.Outcome.next ((if_neg (not_not_intro htarget)).trans (if_pos hrole))
    extract_lets q u v at hexec
    have hv : v.red = { s.red with role := .standby, goodCk := 0, goodWin := none, joining := false, exchLost := false, target := none, request := none } := by
      refine redEvent_red.trans (becomeStandby_red.trans ?_)
      rw [forwardOnly_red]
      rfl
    clear_value q v
    refine ⟨_, hexec, ?_⟩
    cases q with
    | some r =>
      dsimp only
      rw [ok_red, hv]
      exact ⟨rfl, rfl, rfl⟩
    | none =>
      dsimp only
      rw [hv]
      exact ⟨rfl, rfl, rfl⟩
  · have hno : ¬ s.red.role = .active := by
      rw [hrole]
      decide
    refine ⟨_, congrArg Host.Outcome.next ((if_neg (not_not_intro htarget)).trans ((if_neg hno).trans ((if_neg fun h => h.2 hmiss).trans (if_pos hrole)))), ?_⟩
    rw [redEvent_red]
    exact ⟨rfl, rfl, rfl⟩
  · have hno : ¬ s.red.role = .active := by
      rw [hrole]
      decide
    exact congrArg Host.Outcome.next ((if_neg (not_not_intro htarget)).trans ((if_neg hno).trans (if_pos ⟨hrole, hmiss⟩)))

theorem rejoinCopyDone_exec (hrole : s.red.role = .standby) (hjoining : s.red.joining = true) :
    ∃ t, exec .rejoinCopyDone s = .next t ∧ t.red.joining = false ∧ t.red.goodCk = 0 ∧ t.red.goodWin = none ∧ t.red.journal = [] ∧
      SameBut (among [.red]) s t :=
  ⟨_, congrArg Host.Outcome.next (if_pos ⟨hrole, hjoining⟩), rfl, rfl, rfl, rfl, State.onRed_frame SameBut.rfl' rfl⟩

/-- Settles O54: each moment is one change of the redundancy part, which events, counters and the loading of a checkpoint leave; a role request with
an ACTION other than 0 has nothing to clamp, so its completion is that of the state as it was. -/
theorem redundancyFollowsItsMoments : Obligations.RedundancyFollowsItsMoments := by
  unfold Obligations.RedundancyFollowsItsMoments
  intro r s
  refine ⟨redStatus_exec, roleRequest_exec, missPartner_exec, missWitness_exec, fun k hpair => ⟨missActive_exec hpair, missStandby_exec hpair⟩,
    fun h => ⟨fun hbad => ?_, takePartner_exec, takeWitness_exec⟩, fun c => failedSet_exec,
    fun hrole hspec => ⟨replayComplete_exec hrole hspec, takeoverCycle_exec hrole hspec⟩, fun k a b => heartbeatPathFault_exec, checkpointTake_exec,
    fun c => checkpointRx_exec, fun q c => journalEntryRx_exec, handoverTarget_exec, rejoinCopyDone_exec⟩
  exact congrArg Host.Outcome.next (if_pos ((Bool.not_eq_true' _).mpr hbad))

end Sys2Proof.Machine
end

section
/-! Between modules: side links, trunk slots, time sources, leap seconds and zone records (14). -/

namespace Sys2Proof.Machine

open Sys2Proof

variable {s t u : State} {link member ring k n : Nat} {recs : List TrunkRec} {src : TimeSrc} {h : Heartbeat}

/-! ### Time records and counts leave the time part (14 R421, R549) -/

theorem bumpPath_time {i : Nat} : (bumpPath s src i).time = s.time := (bumpPath_frame (x := among [.ctr]) SameBut.rfl' rfl).2 .time rfl

theorem timeRecord_time {code subject : Nat} {v : Int} : (timeRecord s code subject v).time = s.time :=
  (timeRecord_frame (x := among [.ctr, .cairn]) SameBut.rfl' rfl rfl).2 .time rfl

/-- A change of the time writes records and counts besides. -/
theorem setTime_time {f : TimeSt → TimeSt} : (setTime s f).time = f s.time := by
  unfold setTime
  extract_lets old a t b c
  have hb : b.time = a.time := by
    dsimp only [b]
    split
    · exact bumpPath_time.trans timeRecord_time
    · rfl
  have hc : c.time = b.time := by
    dsimp only [c]
    split
    · exact timeRecord_time
    · rfl
  have ha : a.time = f s.time := rfl
  clear_value a b c
  split
  · exact timeRecord_time.trans (hc.trans (hb.trans ha))
  · exact hc.trans (hb.trans ha)

/-- A leap second added changes the table and the value in force. -/
theorem addLeap_rest {e : Leap} : ∃ leaps utcOff, (addLeap s e).time = { s.time with leaps, utcOff } := by
  unfold addLeap
  split
  · exact ⟨_, _, rfl⟩
  · exact ⟨_, _, timeRecord_time⟩

theorem addLeap_new {e : Leap} (h : s.time.leaps.contains e = false) : (addLeap s e).time.leaps = (e :: s.time.leaps).take 64 := by
  rw [addLeap, if_neg (Bool.eq_false_iff.1 h)]
  exact (congrArg TimeSt.leaps timeRecord_time :)

theorem learnUtc_rest {v : Int} : ∃ leaps utcOff, (learnUtc s v).time = { s.time with leaps, utcOff } := by
  unfold learnUtc
  split
  · exact ⟨_, _, rfl⟩
  · exact addLeap_rest

/-! ### Records received (14 R397, R399, R402, R403) -/

/-- Whether a record is not for this module, or of no known type. -/
def PassedOver (s : State) (x : TrunkRec) : Prop := (x.dest ≠ 0xFFFF ∧ x.dest ≠ s.sys.manifest.member) ∨ ∃ n, x.body = .unknown n

theorem takeRecord_passedOver {x : TrunkRec} (h : PassedOver s x) : takeRecord src member s x = s := by
  unfold takeRecord
  rcases h with h | ⟨n, h⟩
  · exact if_pos h
  · rw [h]
    exact ite_self s

theorem takeRecords_passedOver (h : ∀ x ∈ recs, PassedOver s x) : s.each recs (takeRecord src member) = s :=
  each_keeps_of_mem (P := fun t => t = s) (fun x hx t ht => by rw [ht, takeRecord_passedOver (h x hx)]) rfl

/-- A record for this module or for all is delivered. -/
theorem takeRecord_here {x : TrunkRec} (h : x.dest = 0xFFFF ∨ x.dest = s.sys.manifest.member) : ¬ (x.dest ≠ 0xFFFF ∧ x.dest ≠ s.sys.manifest.member) :=
  fun hno => h.elim hno.1 hno.2

theorem sideRecordFrameRx_exec (member : Nat) (m : Int) (recs : List TrunkRec) (hlink : link < 2) (hup : (s.link link).up = true) :
    ((∀ x ∈ recs, PassedOver s x) → ∃ t, exec (.sideRecordFrameRx link member m true recs) s = .next t ∧
      t.link link = { s.link link with m := m } ∧ (∀ k, k ≠ link → t.link k = s.link k) ∧ SameBut (among [.links]) s t) ∧
    (∀ v, ∃ t, exec (.sideRecordFrameRx link member m true [{ dest := 0xFFFF, body := .linkTime v }]) s = .next t ∧
      t.link link = { s.link link with m := m, valid := true, phase2 := v - m, delay2 := v + m } ∧ (∀ k, k ≠ link → t.link k = s.link k) ∧
      SameBut (among [.links]) s t) ∧
    exec (.sideRecordFrameRx link member m false recs) s = .next s := by
  let u := s.onLink link fun l => { l with m := m }
  have hu : SameBut (among [.links]) s u := State.onLink_frame SameBut.rfl' rfl
  have hexec (recs : List TrunkRec) : exec (.sideRecordFrameRx link member m true recs) s = .next (u.each recs (takeRecord (.side link) member)) :=
    congrArg Host.Outcome.next (if_pos ⟨hlink, hup, rfl⟩)
  refine ⟨fun hpass => ⟨u, (hexec recs).trans (congrArg Host.Outcome.next (takeRecords_passedOver (s := u) hpass)), State.link_onLink_same,
    fun k hk => State.link_onLink_ne hk, hu⟩, fun v => ?_, congrArg Host.Outcome.next (if_neg fun h => Bool.false_ne_true h.2.2)⟩
  refine ⟨u.onLink link fun l => { l with valid := true, phase2 := v - l.m, delay2 := v + l.m },
    (hexec _).trans (congrArg Host.Outcome.next (if_neg (t := u) (takeRecord_here (s := u) (x := { dest := 0xFFFF, body := .linkTime v }) (.inl rfl)))), ?_,
    fun k hk => (State.link_onLink_ne hk).trans (State.link_onLink_ne hk), State.onLink_frame hu rfl⟩
  rw [State.link_onLink_same, State.link_onLink_same]

/-- Place of the count of a kind of bulk frame. -/
def bulkPlace : BulkKind → Nat
  | .checkpoint => 0
  | .journal => 1
  | .configCopy => 2

theorem bulkFrameRx_exec (kind : BulkKind) (hlink : link < 2) (hup : (s.link link).up = true) :
    ∃ t, exec (.bulkFrameRx link kind) s = .next t ∧
      t.link link = { s.link link with bulk := tabMod (s.link link).bulk 0 (bulkPlace kind) (· + 1) } ∧
      (∀ k, k ≠ link → t.link k = s.link k) ∧ SameBut (among [.links]) s t := by
  have hexec : exec (.bulkFrameRx link kind) s = .next (s.onLink link fun l => { l with bulk := tabMod l.bulk 0 (bulkPlace kind) (· + 1) }) := by
    cases kind <;> exact congrArg Host.Outcome.next (if_pos ⟨hlink, hup⟩)
  exact ⟨_, hexec, State.link_onLink_same, fun k hk => State.link_onLink_ne hk, State.onLink_frame SameBut.rfl' rfl⟩

/-! ### Slots of a trunk ring (14 R402, R403, R413, R415) -/

section Trunk

variable (hmode : (s.ring ring).cfg.mode = 1) (hlive : ringLive (s.ring ring) = true)
include hmode hlive

theorem trunkSlotRx_exec : exec (.trunkSlotRx ring member recs) s = .next (s.each recs (takeRecord (.ring ring) member)) :=
  congrArg Host.Outcome.next (if_pos ⟨hmode, hlive⟩)

theorem trunkHeartbeat_exec : exec (.trunkSlotRx ring member [{ dest := s.sys.manifest.member, body := .heartbeat h }]) s = exec (.heartbeatRx h) s :=
  (trunkSlotRx_exec hmode hlive).trans (congrArg Host.Outcome.next (if_neg (takeRecord_here (.inr rfl))))

theorem trunkZoneDown_exec {z part last : Nat} {l : List ZoneDownEntry} :
    exec (.trunkSlotRx ring member [{ dest := s.sys.manifest.member, body := .zoneDown z part last l }]) s =
      .next (zoneDownIn s (.ring ring) member z part l) :=
  (trunkSlotRx_exec hmode hlive).trans (congrArg Host.Outcome.next (if_neg (takeRecord_here (.inr rfl))))

theorem trunkZoneDown_closed {z p last : Nat} {l : List ZoneDownEntry} (hshaft : zoneShaftOf s member z = some p) (htime : s.time.tstate < 2) :
    exec (.trunkSlotRx ring member [{ dest := s.sys.manifest.member, body := .zoneDown z 0 last l }]) s = .next (bumpPath s (.ring ring) 0) := by
  have hclosed : zoneOpen s (.ring ring) member = false := by
    rw [zoneOpen, decide_eq_false (Nat.not_le.2 htime)]
    rfl
  rw [trunkZoneDown_exec hmode hlive, zoneDownIn, hshaft]
  exact congrArg Host.Outcome.next (if_pos ((Bool.not_eq_true' _).mpr hclosed))

theorem trunkZoneDown_open {z p last : Nat} {e : ZoneDownEntry} (hshaft : zoneShaftOf s member z = some p)
    (hopen : zoneOpen s (.ring ring) member = true) :
    ∃ t, exec (.trunkSlotRx ring member [{ dest := s.sys.manifest.member, body := .zoneDown z 0 last [e] }]) s = .next t ∧
      (t.axis e.axis).shareNext = { force := e.force, angle := e.angle.toNat, pos := e.tabPos, vel := e.vel } ∧
      (∀ k, k ≠ e.axis → t.axis k = s.axis k) ∧ tabGet t.multi.named [] p = [e.axis] ∧
      tabGet t.multi.wasNamed [] p = tabGet s.multi.named [] p ∧ SameBut (among [.multi, .loop]) s t := by
  rw [trunkZoneDown_exec hmode hlive, zoneDownIn, hshaft]
  let u := s.onMulti fun m => { m with
    wasNamed := tabSet m.wasNamed p (tabGet m.named [] p), named := tabSet m.named p [], upFlag := tabDel m.upFlag p }
  let v := u.onAxis e.axis fun x => { x with shareNext := { force := e.force, angle := e.angle.toNat, pos := e.tabPos, vel := e.vel } }
  have hnamed : tabGet (tabMod v.multi.named [] p fun l => if l.contains e.axis then l else l ++ [e.axis]) [] p = [e.axis] := by
    rw [tabGet_tabMod_same, show tabGet v.multi.named [] p = [] from tabGet_tabSet_same]
    rfl
  refine ⟨v.onMulti fun m => { m with
    downMiss := tabDel m.downMiss e.axis, named := tabMod m.named [] p fun l => if l.contains e.axis then l else l ++ [e.axis] },
    congrArg Host.Outcome.next (if_neg (by rw [hopen]; decide)), congrArg AxisSt.shareNext (State.axis_onAxis_same (s := u)),
    fun k hk => State.axis_onAxis_ne (s := u) hk, hnamed, tabGet_tabSet_same,
    State.onMulti_frame (State.onAxis_frame (State.onMulti_frame SameBut.rfl' rfl) rfl) rfl⟩

end Trunk

/-! ### The master's sources and the choice of a reference (14 R406, R409, R411, R549) -/

/-- The master's time as a PTP message sets it. -/
def onPtp (s : State) (p : PtpMsg) : State :=
  setTime s fun t => { t with ptp := true, tstate := 3, offset := p.offsetNs, err := roundDiv (p.offsetNs * 100) 128 }

theorem onPtp_time {p : PtpMsg} : (onPtp s p).time =
    { s.time with ptp := true, tstate := 3, offset := p.offsetNs, err := roundDiv (p.offsetNs * 100) 128 } := setTime_time

theorem ptpMessage_invalid {p : PtpMsg} (hmaster : s.time.isMaster = true) (hvalid : p.utcValid = false) :
    exec (.ptpMessage p) s = .next (onPtp s p) := by
  refine (congrArg Host.Outcome.next (if_pos hmaster)).trans (congrArg Host.Outcome.next ?_)
  rw [hvalid]
  cases p.leap <;> rfl

theorem ptpMessage_plain {p : PtpMsg} (hmaster : s.time.isMaster = true) (hvalid : p.utcValid = true) (hleap : p.leap = none) :
    exec (.ptpMessage p) s = .next (learnUtc (onPtp s p) p.utcOff) := by
  refine (congrArg Host.Outcome.next (if_pos hmaster)).trans (congrArg Host.Outcome.next ?_)
  rw [hleap]
  exact if_pos hvalid

theorem ptpMessage_leap {p : PtpMsg} {l : Leap} (hmaster : s.time.isMaster = true) (hvalid : p.utcValid = true) (hleap : p.leap = some l) :
    exec (.ptpMessage p) s = .next (addLeap (learnUtc (onPtp s p) p.utcOff) l) := by
  refine (congrArg Host.Outcome.next (if_pos hmaster)).trans (congrArg Host.Outcome.next ?_)
  rw [hleap]
  exact (if_pos hvalid).trans (congrArg (addLeap · l) (if_pos hvalid))

theorem ptpMessage_exec (p : PtpMsg) (hmaster : s.time.isMaster = true) :
    ∃ t, exec (.ptpMessage p) s = .next t ∧ t.time.ptp = true ∧ t.time.tstate = 3 ∧ t.time.offset = p.offsetNs ∧
      (p.utcValid = false → t.time.leaps = s.time.leaps) ∧
      (p.utcValid = true → p.leap = none → p.utcOff = s.time.utcOff → t.time.leaps = s.time.leaps) ∧
      (p.utcValid = true → p.leap = none → p.utcOff ≠ s.time.utcOff → s.time.leaps.contains { value := p.utcOff, fromNs := s.time.now } = false →
        t.time.leaps = ({ value := p.utcOff, fromNs := s.time.now } :: s.time.leaps).take 64) ∧
      SameBut (among [.time, .ctr, .cairn]) s t := by
  obtain ⟨l₁, o₁, hlearn⟩ := learnUtc_rest (s := onPtp s p) (v := p.utcOff)
  cases hvalid : p.utcValid with
  | false =>
    have hexec := ptpMessage_invalid hmaster hvalid
    refine ⟨_, hexec, ?_, ?_, ?_, fun _ => ?_, nofun, nofun, sameBut_of_exec hexec rfl⟩ <;> rw [onPtp_time]
  | true =>
    cases hleap : p.leap with
    | none =>
      have hexec := ptpMessage_plain hmaster hvalid hleap
      refine ⟨_, hexec, ?_, ?_, ?_, nofun, fun _ _ hsame => ?_, fun _ _ hother hnew => ?_, sameBut_of_exec hexec rfl⟩
      · rw [hlearn, onPtp_time]
      · rw [hlearn, onPtp_time]
      · rw [hlearn, onPtp_time]
      · rw [learnUtc, if_pos (by rw [onPtp_time]; exact hsame), onPtp_time]
      · rw [learnUtc, if_neg (by rw [onPtp_time]; exact hother), onPtp_time, addLeap_new (by rw [onPtp_time]; exact hnew), onPtp_time]
    | some l =>
      have hexec := ptpMessage_leap hmaster hvalid hleap
      obtain ⟨l₂, o₂, hadd⟩ := addLeap_rest (s := learnUtc (onPtp s p) p.utcOff) (e := l)
      refine ⟨_, hexec, ?_, ?_, ?_, nofun, nofun, nofun, sameBut_of_exec hexec rfl⟩ <;> rw [hadd, hlearn, onPtp_time]

theorem ptpUnavailable_exec (hmaster : s.time.isMaster = true) (hptp : s.time.ptp = true) :
    ∃ t, exec .ptpUnavailable s = .next t ∧ t.time = { s.time with ptp := false, tstate := 4, err := 0 } ∧ SameBut (among [.time, .ctr, .cairn]) s t :=
  ⟨_, congrArg Host.Outcome.next (if_pos ⟨hmaster, hptp⟩), setTime_time, setTime_frame SameBut.rfl' rfl rfl rfl⟩

/-- With no source held the reference is chosen by the manifest alone. -/
theorem chooseSource_none (h : s.time.heard = []) :
    chooseSource s = if s.sys.manifest.master = s.sys.manifest.member then actMaster s else freeRun s := by
  rw [chooseSource, show bestSource s = none by rw [bestSource, h]; rfl]

theorem actMaster_time : (actMaster s).time = { s.time with
    isMaster := true, src := .self, srcMember := 0, master := s.sys.manifest.member, depth := 0, tstate := if s.time.ptp then 3 else 4, err := 0 } :=
  setTime_time

theorem freeRun_time : (freeRun s).time = { s.time with src := .none, srcMember := 0, master := 0, depth := 0xFF, tstate := 0, err := 0 } :=
  setTime_time

theorem timeSourceLoss_exec (hsome : s.time.src ≠ .none) (hself : s.time.src ≠ .self)
    (hheard : ∀ h ∈ s.time.heard, h.src = s.time.src ∧ h.member = s.time.srcMember) :
    (s.sys.manifest.master ≠ s.sys.manifest.member → ∃ t, exec .timeSourceLoss s = .next t ∧ t.time.src = .none ∧ t.time.tstate = 0 ∧
      t.time.depth = 0xFF ∧ t.time.cycle = s.time.cycle ∧ t.time.now = s.time.now ∧ SameBut (among [.time, .ctr, .cairn]) s t) ∧
    (s.sys.manifest.master = s.sys.manifest.member → ∃ t, exec .timeSourceLoss s = .next t ∧ t.time.src = .self ∧ t.time.isMaster = true ∧
      t.time.tstate = (if s.time.ptp = true then 3 else 4) ∧ SameBut (among [.time, .ctr, .cairn]) s t) := by
  let u := s.onTime fun t => { t with heard := t.heard.filter fun h => h.src != t.src || h.member != t.srcMember }
  have hempty : u.time.heard = [] := List.filter_eq_nil_iff.2 fun h hh => by
    obtain ⟨hsrc, hmember⟩ := hheard h hh
    rw [hsrc, hmember, bne_self_eq_false, bne_self_eq_false]
    decide
  have hu : SameBut (among [.time, .ctr, .cairn]) s u := State.onTime_frame SameBut.rfl' rfl
  have hexec : exec .timeSourceLoss s = .next (chooseSource u) := congrArg Host.Outcome.next (if_neg (not_or.2 ⟨hsome, hself⟩))
  rw [chooseSource_none hempty] at hexec
  refine ⟨fun hother => ⟨_, hexec.trans (congrArg Host.Outcome.next (if_neg hother)), ?_⟩,
    fun hown => ⟨_, hexec.trans (congrArg Host.Outcome.next (if_pos hown)), ?_⟩⟩
  · rw [freeRun_time]
    exact ⟨rfl, rfl, rfl, rfl, rfl, freeRun_frame hu rfl rfl rfl⟩
  · rw [actMaster_time]
    exact ⟨rfl, rfl, rfl, actMaster_frame hu rfl rfl rfl⟩

theorem backupMasterTakeover_exec (hnamed : s.sys.manifest.backup ≠ 0) (hself : s.sys.manifest.backup = s.sys.manifest.member)
    (hnot : s.time.isMaster = false) :
    ∃ t, exec .backupMasterTakeover s = .next t ∧ t.time.isMaster = true ∧ t.time.src = .self ∧ t.time.depth = 0 ∧
      t.time.master = s.sys.manifest.member ∧ t.time.tstate = (if s.time.ptp = true then 3 else 4) ∧ t.time.cycle = s.time.cycle ∧
      SameBut (among [.time, .ctr, .cairn]) s t := by
  refine ⟨actMaster s, congrArg Host.Outcome.next (if_pos ⟨hnamed, hself, Bool.eq_false_iff.1 hnot⟩), ?_⟩
  rw [actMaster_time]
  exact ⟨rfl, rfl, rfl, rfl, rfl, rfl, actMaster_frame SameBut.rfl' rfl rfl rfl⟩

/-! ### Zone records that fail to come, and a side link that goes down (14 R397, R409, R416) -/

theorem zoneDownMissing_exec {a : Nat} (hloaded : (s.axis a).state ≠ .unloaded) (href : dRef (s.axis a).desc = 1) (hchan : 0x40 ≤ dChan (s.axis a).desc) :
    ∃ t, exec (.zoneDownMissing a) s = .next t ∧
      tabGet t.multi.downMiss 0 a = tabGet s.multi.downMiss 0 a + 1 ∧ tabGet t.multi.upFlag false (dChan (s.axis a).desc - 0x40) = true ∧
      (tabGet s.multi.downMiss 0 a < 2 → t.axis a = s.axis a) ∧
      (2 ≤ tabGet s.multi.downMiss 0 a → (t.axis a).shareNext = { (s.axis a).shareNext with force := 0 }) ∧
      (∀ k, k ≠ a → t.axis k = s.axis k) ∧ SameBut (among [.multi, .loop]) s t := by
  have hexec : exec (.zoneDownMissing a) s = .next _ :=
    congrArg Host.Outcome.next (if_neg (not_or.2 ⟨hloaded, not_or.2 ⟨not_not_intro href, Nat.not_lt.2 hchan⟩⟩))
  have hframe := sameBut_of_exec hexec (m := [.multi, .loop]) rfl
  refine ⟨_, hexec, ?_⟩
  dsimp only at hframe ⊢
  split at hframe
  next hlong =>
    rw [if_pos hlong]
    exact ⟨tabGet_tabSet_same, tabGet_tabSet_same, fun hlt => absurd hlong (by omega), fun _ => congrArg AxisSt.shareNext State.axis_onAxis_same,
      fun k hk => State.axis_onAxis_ne hk, hframe⟩
  next hshort =>
    rw [if_neg hshort]
    exact ⟨tabGet_tabSet_same, tabGet_tabSet_same, fun _ => rfl, fun hle => absurd hle (by omega), fun k hk => rfl, hframe⟩

theorem zoneUp_onZoneUp_same {f : ZoneUpSt → ZoneUpSt} : tabGet (onZoneUp s k f).multi.zoneUp {} k = f (tabGet s.multi.zoneUp {} k) :=
  tabGet_tabMod_same

theorem zoneUp_onZoneUp_ne {f : ZoneUpSt → ZoneUpSt} (hk : n ≠ k) : tabGet (onZoneUp s k f).multi.zoneUp {} n = tabGet s.multi.zoneUp {} n :=
  tabGet_tabMod_ne hk

theorem zoneUpMissing_exec {shaft p : Nat} (hp : p < 8) (hpartner : tabHas s.sys.manifest.zonePartners (8 * shaft + p) = true) :
    ∃ t, exec (.zoneUpMissing shaft p) s = .next t ∧
      (tabGet t.multi.zoneUp {} (8 * shaft + p)).missing = true ∧ 2 ≤ (tabGet t.multi.zoneUp {} (8 * shaft + p)).bad ∧
      (∀ k, k ≠ 8 * shaft + p → tabGet t.multi.zoneUp {} k = tabGet s.multi.zoneUp {} k) ∧ SameBut (among [.multi]) s t := by
  have hbad : 2 ≤ (tabGet (onZoneUp s (8 * shaft + p) fun z => { z with bad := max 2 (z.bad + 1), missing := true }).multi.zoneUp {} (8 * shaft + p)).bad := by
    rw [zoneUp_onZoneUp_same]
    exact Nat.le_max_left ..
  exact ⟨_, congrArg Host.Outcome.next (if_pos ⟨hpartner, hp⟩), congrArg ZoneUpSt.missing zoneUp_onZoneUp_same,
    hbad, fun k hk => zoneUp_onZoneUp_ne hk, State.onMulti_frame SameBut.rfl' rfl⟩

theorem link_of_links (h : t.links = s.links) : t.link n = s.link n := by rw [State.link, h, State.link]

theorem sideLinkDown_exec (hlink : link < 2) (hup : (s.link link).up = true) :
    ∃ t, exec (.sideLinkDown link) s = .next t ∧ t.link link = { bulk := (s.link link).bulk } ∧
      (∀ k, k ≠ link → t.link k = s.link k) ∧ (s.time.src ≠ .side link → CountsOne (cSide link 6) s t ∧
        t.time = { s.time with heard := s.time.heard.filter fun h => h.src != .side link }) ∧
      SameBut (among [.links, .time, .ctr, .cairn]) s t := by
  let u := (bump (s.onLink link fun l => { bulk := l.bulk }) (cSide link 6)).onTime fun t => { t with heard := t.heard.filter fun h => h.src != .side link }
  have hexec : exec (.sideLinkDown link) s = .next (if u.time.src = .side link then chooseSource u else u) :=
    congrArg Host.Outcome.next (if_pos ⟨hlink, hup⟩)
  have hframe := sameBut_of_exec hexec (m := [.links, .time, .ctr, .cairn]) rfl
  refine ⟨_, hexec, ?_⟩
  have hlinks : (if u.time.src = .side link then chooseSource u else u).links = u.links := by
    split
    · exact (chooseSource_frame (x := among [.time, .ctr, .cairn]) SameBut.rfl' rfl rfl rfl).2 .links rfl
    · rfl
  refine ⟨?_, fun k hk => ?_, fun hother => ?_, hframe⟩
  · exact (link_of_links hlinks).trans (State.link_onLink_same (s := s) (f := fun l => { bulk := l.bulk }))
  · exact (link_of_links hlinks).trans (State.link_onLink_ne (s := s) (f := fun l => { bulk := l.bulk }) hk)
  · rw [if_neg (show ¬ u.time.src = .side link from hother)]
    exact ⟨countsOne_bump.of_eq rfl rfl, rfl⟩

/-- Settles O55: records that are passed over leave the state, the others are delivered as the frame or slot brings them; every change of the time
goes through `setTime`, which besides only records and counts. -/
theorem timeAndZonesFollowTheirRecords : Obligations.TimeAndZonesFollowTheirRecords := by
  unfold Obligations.TimeAndZonesFollowTheirRecords
  intro s
  refine ⟨fun link member m recs hlink hup => sideRecordFrameRx_exec member m recs hlink hup, fun link kind hlink hup => ?_,
    fun ring member hmode hlive => ⟨fun h => ⟨trunkHeartbeat_exec hmode hlive, fun hcrc hpaired hmember => ?_⟩,
      fun z p l e hshaft hopen => trunkZoneDown_open hmode hlive hshaft hopen,
      fun z p l e hshaft htime => trunkZoneDown_closed hmode hlive hshaft htime,
      fun recs hpass => (trunkSlotRx_exec hmode hlive).trans (congrArg Host.Outcome.next (takeRecords_passedOver hpass))⟩,
    fun p => ⟨fun hnot => congrArg Host.Outcome.next (if_neg (Bool.eq_false_iff.1 hnot)), ptpMessage_exec p⟩, ptpUnavailable_exec,
    timeSourceLoss_exec, backupMasterTakeover_exec, fun a hloaded href hchan => zoneDownMissing_exec hloaded href hchan,
    fun h p hp hpartner => zoneUpMissing_exec hp hpartner, fun link hlink hup => sideLinkDown_exec hlink hup⟩
  · cases kind <;> exact bulkFrameRx_exec _ hlink hup
  · rw [trunkHeartbeat_exec hmode hlive]
    obtain ⟨t, hexec, hhb, hmiss, hseen, hframe, -⟩ := takePartner_exec hcrc hpaired hmember
    exact ⟨t, hexec, hhb, hmiss, hseen, hframe⟩

end Sys2Proof.Machine
end

section
/-! The recorder: queries, triggers and cursors, records, pages, drives, the mirror and stored settings (17, 15 R550). -/

namespace Sys2Proof.Machine

open Sys2Proof

variable {s t u : State} {r : Request} {d k n time : Nat} {e : Event} {h : Record}

/-! ### The recorder part, its intake aside -/

/-- The recorder part without what an event raised changes of it (17 R457). -/
def recorded (s : State) : RecSt := { s.cairn with intake := [], drop := 0, dropPend := 0 }

theorem recorded_of_cairn (h : t.cairn = s.cairn) : recorded t = recorded s := by rw [recorded, h, recorded]

theorem bump_cairn {i v : Nat} : (bump s i v).cairn = s.cairn := (bump_frame (x := among [.ctr]) SameBut.rfl' rfl).2 .cairn rfl

theorem raise_recorded : recorded (raise s e) = recorded s := by
  unfold raise
  extract_lets e'
  split
  · rfl
  · split
    · exact (recorded_of_cairn bump_cairn).trans rfl
    · rfl

theorem recEvent_recorded {code subject : Nat} {v : Int} : recorded (recEvent s code subject v) = recorded s := raise_recorded

theorem drive_of_recorded (h : recorded t = recorded s) : t.drive n = s.drive n := by
  rw [State.drive, show t.cairn.drives = s.cairn.drives from (congrArg RecSt.drives h :), State.drive]

theorem stored_of_recorded (h : recorded t = recorded s) : t.cairn.stored = s.cairn.stored := (congrArg RecSt.stored h :)

theorem sector_of_recorded (h : recorded t = recorded s) : t.sector n = s.sector n := by
  rw [State.sector, show t.cairn.sectors = s.cairn.sectors from (congrArg RecSt.sectors h :), State.sector]

/-! ### Queries, triggers and cursors (17 R462, R463, R467, R473, R474) -/

theorem recStatus_exec (hright : hasRight s r.part 0x7001 = true) : ∃ fields, exec (.recStatus r) s = .next (ok s (withOp r 0x7001) fields) ∧
    (16, 4, (s.cairn.newest : Int)) ∈ fields ∧ (20, 4, (s.cairn.oldest : Int)) ∈ fields ∧ (24, 4, (s.cairn.spill : Int)) ∈ fields ∧
    (28, 4, (s.cairn.mirror : Int)) ∈ fields ∧ (32, 4, (s.cairn.lost : Int)) ∈ fields := by
  refine ⟨_, congrArg Host.Outcome.next (serve_runs_nil hright rfl rfl), ?_, ?_, ?_, ?_, ?_⟩ <;> simp

theorem storeHealth_exec (hright : hasRight s r.part 0x7002 = true) (hdrive : rq r 16 1 ≤ 3) :
    ∃ fields, exec (.storeHealth r) s = .next (ok s (withOp r 0x7002) fields) ∧
      (16, 1, ((s.drive (rq r 16 1)).state : Int)) ∈ fields ∧ (17, 1, ((s.drive (rq r 16 1)).pct : Int)) ∈ fields ∧
      (28, 8, ((s.drive (rq r 16 1)).written : Int)) ∈ fields := by
  refine ⟨_, congrArg Host.Outcome.next (serve_runs_nil hright rfl (firstBad_none (by simpa using hdrive))), ?_, ?_, ?_⟩ <;> simp

theorem setTrigger_exec (hright : hasRight s r.part 0x7010 = true) (hsection : rq r 16 1 = 0) (hlow : 1 ≤ rq r 20 1) (hhigh : rq r 20 1 ≤ 0x10) :
    ((bitAt (rq r 22 1) 0 = false ∨ alwaysRecorded (rq r 20 1) = false) → ∃ u fields, exec (.recTriggerSet r) s = .next (ok u (withOp r 0x7010) fields) ∧
      u.cairn.triggers = (s.cairn.triggers.filter fun x => !(x.source == rq r 20 1 && x.code == rq r 21 1)) ++ [triggerOfReq r] ∧
      SameBut (among [.host, .cairn, .nor]) s u) ∧
    (bitAt (rq r 22 1) 0 = true → alwaysRecorded (rq r 20 1) = true →
      ∃ u, exec (.recTriggerSet r) s = .next (refused u (withOp r 0x7010)) ∧ SameBut (among [.host]) s u) := by
  have hfields : firstBad [(16, decide (rq r 16 1 ≤ 1)), (20, if rq r 16 1 = 0 then decide (1 ≤ rq r 20 1 ∧ rq r 20 1 ≤ 0x10)
      else rq r 16 1 != 1 || decide (rq r 20 1 ≤ 2))] = none := firstBad_none (by simp [hsection, hlow, hhigh])
  refine ⟨fun hmay => ?_, fun hsuppress halways => ?_⟩
  · have hset : ¬ (bitAt (rq r 22 1) 0 = true ∧ alwaysRecorded (rq r 20 1) = true) := fun hno =>
      hmay.elim (fun hf => Bool.eq_false_iff.1 hf hno.1) fun hf => Bool.eq_false_iff.1 hf hno.2
    obtain ⟨h, hexec⟩ := exec_noted (c := .recTriggerSet r) rfl hright rfl hfields fun h => (if_pos hsection).trans (if_neg hset)
    exact ⟨_, _, hexec, rfl, store_frame (State.onRec_frame (host_touches.wider rfl) rfl) rfl⟩
  · obtain ⟨h, hexec⟩ := exec_noted (c := .recTriggerSet r) rfl hright rfl hfields fun h => (if_pos hsection).trans (if_pos ⟨hsuppress, halways⟩)
    exact ⟨_, hexec, host_touches⟩

theorem setTrace_exec (hright : hasRight s r.part 0x7010 = true) (hsection : rq r 16 1 = 1) (hmode : rq r 20 1 ≤ 2)
    (hworn : rq r 20 1 = 1 → anyWorn s = false)
    (hdrives : ((readyDrives s).isEmpty = true ∧ rq r 20 1 = 0) ∨ ((readyDrives s).isEmpty = false ∧ drivesMeet s = true)) :
    ∃ t w, exec (.recTriggerSet r) s = .next t ∧ t.cairn = { s.cairn with tracePend := s.cairn.tracePend ++ [(withOp r 0x7010, w)] } ∧
      w.mode = rq r 20 1 ∧ w.dec = clampN 2 256 (rq r 22 2) ∧ SameBut (among [.host, .cairn]) s t := by
  have hfields : firstBad [(16, decide (rq r 16 1 ≤ 1)), (20, if rq r 16 1 = 0 then decide (1 ≤ rq r 20 1 ∧ rq r 20 1 ≤ 0x10)
      else rq r 16 1 != 1 || decide (rq r 20 1 ≤ 2))] = none := firstBad_none (by simp [hsection, hmode])
  have hmay : ¬ ((rq r 20 1 = 1 ∧ anyWorn s = true) ∨ (!(readyDrives s).isEmpty && !drivesMeet s) = true ∨
      ((readyDrives s).isEmpty = true ∧ rq r 20 1 ≠ 0)) := by
    rintro (⟨hone, hw⟩ | hfew | ⟨hnone, hzero⟩)
    · exact Bool.false_ne_true ((hworn hone).symm.trans hw)
    · rcases hdrives with ⟨hempty, -⟩ | ⟨hsome, hmeet⟩
      · rw [hempty] at hfew
        exact Bool.false_ne_true hfew
      · rw [hsome, hmeet] at hfew
        exact Bool.false_ne_true hfew
    · rcases hdrives with ⟨-, hz⟩ | ⟨hsome, -⟩
      · exact hzero hz
      · exact Bool.false_ne_true (hsome.symm.trans hnone)
  obtain ⟨h, hexec⟩ := exec_noted (c := .recTriggerSet r) rfl hright rfl hfields fun h =>
    (if_neg (show ¬ rq r 16 1 = 0 by omega)).trans (if_neg hmay)
  exact ⟨_, _, hexec, rfl, rfl, rfl, State.onRec_frame (host_touches.wider rfl) rfl⟩

/-- The drives that a cursor of the ring does not need, and those of the store and the trace do. -/
theorem cursor_ready (hdrives : rq r 16 1 = 0 ∨ (readyDrives s).isEmpty = false) :
    (rq r 16 1 == 0 || decide (2 < rq r 16 1) || !(readyDrives s).isEmpty) = true := by
  rcases hdrives with h | h <;> simp [h]

theorem recCursorSet_exec (hright : hasRight s r.part 0x7011 = true) (hdrives : rq r 16 1 = 0 ∨ (readyDrives s).isEmpty = false) :
    (rq r 16 1 = 0 → rq r 17 1 ≤ 1 → ∃ u fields, exec (.recCursorSet r) s = .next (ok u (withOp r 0x7011) fields) ∧
      u.pstat r.part = { s.pstat r.part with
        cursor := if rq r 17 1 = 0 then rq r 20 4 else ringAfter s (rq r 24 8), winSource := 0 } ∧ SameBut (among [.host]) s u) ∧
    (rq r 16 1 = 1 → rq r 17 1 ≤ 1 → ∃ u fields, exec (.recCursorSet r) s = .next (ok u (withOp r 0x7011) fields) ∧
      u.pstat r.part = { s.pstat r.part with
        winSource := 1, winValid := ((storeSlots s (rq r 17 1) (rq r 20 4) (rq r 24 8)).take 63).length,
        staged := ((storeSlots s (rq r 17 1) (rq r 20 4) (rq r 24 8)).take 63).flatMap slotBytes } ∧ SameBut (among [.host]) s u) ∧
    (rq r 16 1 = 2 → rq r 17 1 = 1 → s.cairn.trace.axes.contains (rq r 18 2) = true → ∃ u fields,
      exec (.recCursorSet r) s = .next (ok u (withOp r 0x7011) fields) ∧ (u.pstat r.part).winSource = 2 ∧ (u.pstat r.part).winValid ≤ 126 ∧
      SameBut (among [.host]) s u) := by
  have hready := cursor_ready hdrives
  refine ⟨fun hsrc hmode => ?_, fun hsrc hmode => ?_, fun hsrc hmode haxis => ?_⟩
  · exact ⟨_, _, congrArg Host.Outcome.next ((serve_runs_of_nil hright hready (firstBad_none (by simp [hsrc, hmode]))
      (if_neg (by omega))).trans (if_pos hsrc)), State.pstat_onPstat, State.onPstat_frame SameBut.rfl' rfl⟩
  · exact ⟨_, _, congrArg Host.Outcome.next ((serve_runs_of_nil hright hready (firstBad_none (by simp [hsrc, hmode]))
      (if_neg (by omega))).trans ((if_neg (by omega)).trans (if_pos hsrc))), State.pstat_onPstat, State.onPstat_frame SameBut.rfl' rfl⟩
  · obtain ⟨h, hexec⟩ := exec_noted (c := .recCursorSet r) rfl hright hready (firstBad_none (by simp [hsrc, hmode]; simpa using haxis)) fun h =>
      (if_neg (show ¬ rq r 16 1 = 0 by omega)).trans (if_neg (show ¬ rq r 16 1 = 1 by omega))
    exact ⟨_, _, hexec, congrArg PartSt.winSource State.pstat_onPstat,
      Nat.le_trans (Nat.le_of_eq (congrArg PartSt.winValid State.pstat_onPstat)) (List.length_take_le ..), State.onPstat_frame host_touches rfl⟩

/-! ### Events leaving the intake (17 R457 to R462) -/

theorem recEventIntake_stopped (hstopped : s.cairn.running = false) : exec (.recEventIntake time none) s = .next s :=
  congrArg Host.Outcome.next (if_pos ((Bool.not_eq_true' _).mpr hstopped))

/-- A corrected memory error counts for its region, whether or not the recorder runs. -/
theorem recEventIntake_corrected (hstopped : s.cairn.running = false) (hsource : e.source = 3) (hcode : e.code = 0) :
    ∃ u, exec (.recEventIntake time (some e)) s = .next u ∧ CountsOne (cMem (e.subject % 8)) s u ∧ SameBut (among [.ctr]) s u := by
  have hcount : (if e.source = 3 ∧ e.code = 0 then countMemory s e else raise (countMemory s e) e) = bump s (cMem (e.subject % 8)) := by
    rw [if_pos ⟨hsource, hcode⟩, countMemory, if_neg (not_not_intro hsource), if_pos hcode]
  have hstop : (!(if e.source = 3 ∧ e.code = 0 then countMemory s e else raise (countMemory s e) e).cairn.running) = true := by
    rw [hcount, bump_cairn, hstopped]
    rfl
  have hexec : exec (.recEventIntake time (some e)) s = .next _ := congrArg Host.Outcome.next (if_pos hstop)
  exact ⟨_, hexec.trans (congrArg Host.Outcome.next hcount), countsOne_bump, bump_frame SameBut.rfl' rfl⟩

/-- The state that the oldest entry of the intake has left. -/
def taken (s : State) (rest : List Event) : State := s.onRec fun c => { c with intake := rest }

theorem postEvent_cairn : (postEvent s e).cairn = s.cairn := (postEvent_frame (x := among [.host, .ctr]) SameBut.rfl' rfl rfl).2 .cairn rfl

/-- An event without a trigger is recorded with no snapshots. -/
theorem takeEvent_records (hrecord : e.record = true) (hdropped : e.dropped = false) (hpend : s.cairn.dropPend = 0)
    (htrigger : triggerOf s e.source e.code = none) : takeEvent s time e = recordEvent (postEvent s e) time e [] := by
  have hdrops : recordDrops (postEvent s e) time = postEvent s e := if_pos (by rw [postEvent_cairn]; exact hpend)
  unfold takeEvent
  dsimp only
  rw [htrigger, if_neg (by rw [hrecord, hdropped]; decide), hdrops]
  exact if_neg Bool.false_ne_true

theorem openHead_of_ring (hring : t.cairn.ring = s.cairn.ring) : openHead t = openHead s := by rw [openHead, hring, openHead]

theorem writeSlot_recorded {x : RecSlot} : (writeSlot s x).cairn.newest = slotSeq x ∧
    (writeSlot s x).cairn.ring = tabSet s.cairn.ring (slotSeq x % 65536) x := by
  unfold writeSlot
  extract_lets q k above old lost u
  have hu : u.cairn.newest = slotSeq x ∧ u.cairn.ring = tabSet s.cairn.ring (slotSeq x % 65536) x := ⟨rfl, rfl⟩
  clear_value u
  split
  · rw [bump_cairn]
    exact hu
  · exact hu

/-- The head of a new record of an event (17 R459). -/
def newHead (s : State) (time : Nat) (e : Event) : Record :=
  { time := time / 2 * 2, seq := s.cairn.next, cycle := e.cycle % 4294967296, source := e.source, code := e.code, subject := e.subject
    quality := timeQuality s.time.tstate, snapFail := false, value := e.value, lastValue := e.value, snaps := [] }

/-- With no record open an event without snapshots writes a new head. -/
theorem recordEvent_new (hopen : openHead s = none) : recorded (recordEvent s time e []) = recorded (writeSlot s (.head (newHead s time e))) := by
  have hseal : sealOpen s = s := by rw [sealOpen, hopen]
  have hwrite : writeRecord s time e [] false = writeSlot s (.head (newHead s time e)) := by
    unfold writeRecord
    rw [hseal]
    exact if_neg (Nat.not_lt_zero _)
  unfold recordEvent
  rw [hopen]
  change recorded (if (writeRecord s time e [] false).cairn.losing = true ∧ ¬ s.cairn.losing = true then recEvent _ 7 _ _
    else writeRecord s time e [] false) = _
  rw [hwrite]
  split
  · exact recEvent_recorded
  · rfl

/-- Within a second of an open record of the same source, code and subject the event is a repeat of it. -/
theorem recordEvent_again (hopen : openHead s = some h) (hsource : h.source = e.source) (hcode : h.code = e.code) (hsubject : h.subject = e.subject)
    (hsoon : time < h.time + 1000000000) : recordEvent s time e [] = repeatRecord s h time e := by
  unfold recordEvent
  rw [hopen]
  exact if_pos ⟨hsource, hcode, hsubject, hsoon⟩

section Intake

variable {rest : List Event} (hruns : s.cairn.running = true) (hintake : s.cairn.intake = e :: rest)
include hruns hintake

/-- A running recorder takes the oldest entry of the intake. -/
theorem recEventIntake_takes : exec (.recEventIntake time none) s = .next (takeEvent (taken s rest) time e) := by
  have hexec : exec (.recEventIntake time none) s = .next _ := congrArg Host.Outcome.next (if_neg (by rw [hruns]; decide))
  rw [hintake] at hexec
  exact hexec

theorem recEventIntake_unrecorded (hrecord : e.record = false) :
    ∃ u, exec (.recEventIntake time none) s = .next u ∧ u.cairn = { s.cairn with intake := rest } ∧ SameBut (among [.cairn, .host, .ctr]) s u := by
  have htake : takeEvent (taken s rest) time e = postEvent (taken s rest) e := if_pos (by rw [hrecord]; rfl)
  refine ⟨_, recEventIntake_takes hruns hintake, ?_, ?_⟩ <;> rw [htake]
  · exact postEvent_cairn
  · exact postEvent_frame (State.onRec_frame SameBut.rfl' rfl) rfl rfl

section Recorded

variable (hrecord : e.record = true) (hdropped : e.dropped = false) (hpend : s.cairn.dropPend = 0) (htrigger : triggerOf s e.source e.code = none)
include hrecord hdropped hpend htrigger

theorem recEventIntake_new (hopen : openHead s = none) :
    ∃ u h, exec (.recEventIntake time none) s = .next u ∧ u.cairn.newest = s.cairn.next ∧
      tabGet u.cairn.ring (.ext 0 0 []) (s.cairn.next % 65536) = .head h ∧ h.seq = s.cairn.next ∧ h.time = time / 2 * 2 ∧ h.source = e.source ∧
      h.code = e.code ∧ h.subject = e.subject ∧ h.value = e.value ∧ h.repeats = 1 := by
  have hexec := recEventIntake_takes (time := time) hruns hintake
  have hcairn : (postEvent (taken s rest) e).cairn = { s.cairn with intake := rest } := postEvent_cairn
  rw [takeEvent_records (s := taken s rest) hrecord hdropped hpend htrigger] at hexec
  have hnew := recordEvent_new (time := time) (e := e) ((openHead_of_ring (congrArg RecSt.ring hcairn :)).trans hopen)
  obtain ⟨hnewest, hring⟩ := writeSlot_recorded (s := postEvent (taken s rest) e) (x := .head (newHead (postEvent (taken s rest) e) time e))
  have hseq : (newHead (postEvent (taken s rest) e) time e).seq = s.cairn.next := (congrArg RecSt.next hcairn :)
  refine ⟨_, newHead (postEvent (taken s rest) e) time e, hexec, ?_, ?_, hseq, rfl, rfl, rfl, rfl, rfl, rfl⟩
  · exact (congrArg RecSt.newest hnew :).trans (hnewest.trans hseq)
  · have hwritten := (congrArg RecSt.ring hnew :).trans hring
    rw [slotSeq, hseq] at hwritten
    exact (congrArg (fun l => tabGet l (.ext 0 0 []) (s.cairn.next % 65536)) hwritten :).trans tabGet_tabSet_same

theorem recEventIntake_again (hopen : openHead s = some h) (hsource : h.source = e.source) (hcode : h.code = e.code) (hsubject : h.subject = e.subject)
    (hsoon : time < h.time + 1000000000) :
    ∃ u, exec (.recEventIntake time none) s = .next u ∧ u.cairn.newest = s.cairn.newest ∧ tabGet u.cairn.ring (.ext 0 0 []) (h.seq % 65536) =
      .head { h with repeats := satAdd max32 h.repeats 1, lastValue := e.value, lastDelta := min ((time - h.time) / 1000) max32 } := by
  have hexec := recEventIntake_takes (time := time) hruns hintake
  have hcairn : (postEvent (taken s rest) e).cairn = { s.cairn with intake := rest } := postEvent_cairn
  rw [takeEvent_records (s := taken s rest) hrecord hdropped hpend htrigger,
    recordEvent_again ((openHead_of_ring (congrArg RecSt.ring hcairn :)).trans hopen) hsource hcode hsubject hsoon] at hexec
  exact ⟨_, hexec, (congrArg RecSt.newest hcairn :), tabGet_tabSet_same⟩

end Recorded

end Intake

/-! ### Sealing, pages and the flush (17 R461, R468, R469) -/

theorem recSealTimer_exec (hopen : openHead s = some h) :
    ∃ t, exec .recSealTimer s = .next t ∧ tabGet t.cairn.ring (.ext 0 0 []) (h.seq % 65536) = .head { h with isOpen := false } ∧
      t.cairn.unmirrored = s.cairn.unmirrored ++ [{ h with isOpen := false }] ∧
      t.cairn.unspilled = s.cairn.unspilled ++ (if 4 < h.snaps.length then [h.seq, nextSeq h.seq] else [h.seq]) ∧ SameBut (among [.cairn]) s t := by
  have hexec : exec .recSealTimer s = .next (sealOpen s) := rfl
  have hframe := sameBut_of_exec hexec (m := [.cairn]) rfl
  rw [sealOpen, hopen] at hexec hframe
  exact ⟨_, hexec, tabGet_tabSet_same, rfl, rfl, hframe⟩

/-- Rows streamed to a drive change the trace alone. -/
theorem spillTrace_rest : ∃ staging gap stored, (spillTrace s d).cairn = { s.cairn with staging, gap, stored } := by
  unfold spillTrace
  split
  · exact ⟨_, _, _, rfl⟩
  · exact ⟨_, _, _, rfl⟩

theorem drive_of_drives (h : t.cairn.drives = s.cairn.drives) : t.drive n = s.drive n := by rw [State.drive, h, State.drive]

theorem recPageSpill_exec (hturn : turnDrive s = some d) (hpage : nextPage s ≠ []) :
    ∃ t, exec (.recPageSpill d) s = .next t ∧ t.cairn.page = s.cairn.page + 1 ∧
      t.cairn.unspilled = s.cairn.unspilled.drop 63 ∧ t.cairn.turn = (d + 1) % 4 ∧
      t.drive d = { s.drive d with writing := (s.drive d).writing ++ [(s.cairn.page + 1, nextPage s)] } ∧ (∀ k, k ≠ d → t.drive k = s.drive k) ∧
      SameBut (among [.cairn]) s t := by
  have hexec : exec (.recPageSpill d) s = .next (spillTrace (spillPage s d) d) := congrArg Host.Outcome.next (if_pos hturn)
  have hframe := sameBut_of_exec hexec (m := [.cairn]) rfl
  obtain ⟨a, b, c, hrest⟩ := spillTrace_rest (s := spillPage s d) (d := d)
  have hspill : spillPage s d = _ := if_neg fun h => hpage (List.isEmpty_iff.1 h)
  refine ⟨_, hexec, ?_, ?_, ?_, ?_, fun k hk => ?_, hframe⟩
  · rw [hrest, hspill]
    rfl
  · rw [hrest, hspill]
    rfl
  · rw [hrest, hspill]
    rfl
  · rw [drive_of_drives (congrArg RecSt.drives hrest :), hspill]
    exact State.drive_onDrive_same
  · rw [drive_of_drives (congrArg RecSt.drives hrest :), hspill]
    exact State.drive_onDrive_ne hk

/-- A Flush issued to a ready drive is outstanding from then on. -/
theorem issueFlush_ready (hready : driveReady (s.drive n) = true) : ((issueFlush s n).drive n).flushing = true := by
  unfold issueFlush
  rw [State.drive_onDrive_same, hready]
  split
  next h => simpa using h
  next => rfl

theorem issueFlush_ne (hk : k ≠ n) : (issueFlush s n).drive k = s.drive k := State.drive_onDrive_ne hk

theorem nvmeFlushTimer_exec : ∃ t, exec .nvmeFlushTimer s = .next t ∧ (∀ d, d < 4 → driveReady (s.drive d) = true → (t.drive d).flushing = true) ∧
    SameBut (among [.cairn]) s t := by
  refine ⟨flushAll s, rfl, fun d hd hready => ?_, flushAll_frame SameBut.rfl' rfl⟩
  obtain ⟨u, hu, heach⟩ := each_at (f := issueFlush) (get := fun s => s.drive d) (s := s) List.nodup_range (List.mem_range.2 hd)
    fun s b hb => issueFlush_ne (Ne.symm hb)
  rw [flushAll, heach, issueFlush_ready (by rw [hu]; exact hready)]

theorem nvmeFlushDone_exec (hflushing : (s.drive d).flushing = true) :
    ∃ t, exec (.nvmeFlushDone d) s = .next t ∧ t.drive d = { s.drive d with flushing := false, flushSeq := 0 } ∧
      t.cairn.spill = (if (s.drive d).flushSeq = 0 then s.cairn.spill else if s.cairn.spill = 0 then (s.drive d).flushSeq
        else laterSeq s.cairn.spill (s.drive d).flushSeq) ∧ SameBut (among [.cairn]) s t := by
  have hexec : exec (.nvmeFlushDone d) s = .next _ := congrArg Host.Outcome.next (if_pos hflushing)
  exact ⟨_, hexec, (drive_of_drives (s := s.onDrive d fun d => { d with flushing := false, flushSeq := 0 }) rfl).trans State.drive_onDrive_same, rfl,
    sameBut_of_exec hexec rfl⟩

/-! ### Drives: writes, wear, attaching and failing (17 R464 to R470) -/

/-- Timing a write changes the drive's times and 99th percentile alone (17 R466). -/
theorem timeWrite_drive {us : Nat} : ∃ times window p99 slow99 slowHour,
    (timeWrite s d us).drive d = { s.drive d with times, window, p99, slow99, slowHour } := by
  unfold timeWrite
  extract_lets w sec p slow hour u v
  have hu : u.drive d = _ := State.drive_onDrive_same
  split
  · exact ⟨_, _, _, _, _, State.drive_onDrive_same⟩
  · refine ⟨_, _, _, _, _, .trans ?_ hu⟩
    split
    · rfl
    · split
      · exact drive_of_drives (congrArg RecSt.drives bump_cairn)
      · exact (drive_of_recorded recEvent_recorded).trans (drive_of_drives (congrArg RecSt.drives bump_cairn))

theorem reduceTrace_recorded : ∃ w, recorded (reduceTrace s k) = { recorded s with trace := w } := by
  unfold reduceTrace
  extract_lets dec
  split
  · exact ⟨_, rfl⟩
  · exact ⟨_, recEvent_recorded⟩

theorem reduceTrace_drive : (reduceTrace s k).drive n = s.drive n := by
  obtain ⟨w, h⟩ := reduceTrace_recorded (s := s) (k := k)
  rw [State.drive, show (reduceTrace s k).cairn.drives = s.cairn.drives from (congrArg RecSt.drives h :), State.drive]

/-- What is left of a drive that failed. -/
def failedDrive (d : Drive) : Drive := { d with state := 3, writing := [], unflushed := [], flushing := false, pages := [], times := [] }

/-- A drive that fails gives its unwritten slots back and loses what the store held on it (17 R470). -/
theorem failDrive_recorded : ∃ w, recorded (failDrive s d k) = { recorded (s.onDrive d failedDrive) with
    trace := w, unspilled := ((s.drive d).writing.flatMap fun p => p.2.map slotSeq) ++ s.cairn.unspilled
    stored := s.cairn.stored.filter fun c => c.drive != d } := by
  unfold failDrive
  extract_lets back u v w
  have hw : recorded w = recorded v := recEvent_recorded
  split
  · exact ⟨_, hw⟩
  · obtain ⟨x, hx⟩ := reduceTrace_recorded (s := w) (k := 0xFFFF)
    exact ⟨x, hx.trans (congrArg (fun c : RecSt => { c with trace := x }) hw)⟩

theorem failDrive_drive : (failDrive s d k).drive d = failedDrive (s.drive d) := by
  obtain ⟨w, h⟩ := failDrive_recorded (s := s) (d := d) (k := k)
  exact (congrArg (fun c : RecSt => tabGet c.drives {} d) h :).trans State.drive_onDrive_same

theorem retireStripe_retired : ((retireStripe s d).drive d).retired = (s.drive d).retired + 1 := by
  unfold retireStripe
  extract_lets w u v
  have hu : (u.drive d).retired = (s.drive d).retired + 1 := congrArg Drive.retired State.drive_onDrive_same
  have hv : (v.drive d).retired = (s.drive d).retired + 1 :=
    (congrArg Drive.retired ((drive_of_recorded recEvent_recorded).trans (drive_of_drives (congrArg RecSt.drives bump_cairn)))).trans hu
  split
  · exact (congrArg Drive.retired failDrive_drive).trans hv
  · exact hv

section WriteDone

variable {us : Nat} {p : Nat × List RecSlot} {rest : List (Nat × List RecSlot)} (hwriting : (s.drive d).writing = p :: rest)
include hwriting

theorem nvmeWriteDone_written : ∃ t, exec (.nvmeWriteDone d us true) s = .next t ∧ (t.drive d).writing = rest ∧
    (t.drive d).pages = p :: (s.drive d).pages ∧ (t.drive d).unflushed = (s.drive d).unflushed ++ [p] ∧ (t.drive d).retried = false := by
  obtain ⟨times, window, p99, slow99, slowHour, htime⟩ := timeWrite_drive (s := s) (d := d) (us := us)
  have hexec : exec (.nvmeWriteDone d us true) s = .next _ := rfl
  rw [hwriting] at hexec
  refine ⟨_, hexec, congrArg Drive.writing State.drive_onDrive_same, (congrArg Drive.pages State.drive_onDrive_same).trans ?_,
    (congrArg Drive.unflushed State.drive_onDrive_same).trans ?_, congrArg Drive.retried State.drive_onDrive_same⟩ <;> rw [htime]

/-- A page that does not verify on a worn drive is written once more. -/
theorem nvmeWriteDone_retry (hstate : (s.drive d).state = 2) (hretried : (s.drive d).retried = false) :
    ∃ t, exec (.nvmeWriteDone d us false) s = .next t ∧ (t.drive d).retried = true ∧ (t.drive d).writing = p :: rest ∧
      (t.drive d).verifyFail = satAdd max32 (s.drive d).verifyFail 1 := by
  obtain ⟨times, window, p99, slow99, slowHour, htime⟩ := timeWrite_drive (s := s) (d := d) (us := us)
  have hexec : exec (.nvmeWriteDone d us false) s = .next _ := rfl
  rw [hwriting] at hexec
  dsimp only at hexec
  rw [if_neg Bool.false_ne_true, if_pos hstate, if_neg (by rw [hretried]; decide)] at hexec
  have hcounted : (bump ((timeWrite s d us).onDrive d fun d => { d with verifyFail := satAdd max32 d.verifyFail 1 }) (cRec 8)).drive d =
      { (timeWrite s d us).drive d with verifyFail := satAdd max32 ((timeWrite s d us).drive d).verifyFail 1 } :=
    (drive_of_drives (congrArg RecSt.drives bump_cairn)).trans State.drive_onDrive_same
  rw [htime] at hcounted
  refine ⟨_, hexec, congrArg Drive.retried State.drive_onDrive_same, (congrArg Drive.writing State.drive_onDrive_same).trans ?_,
    (congrArg Drive.verifyFail State.drive_onDrive_same).trans ?_⟩
  · exact (congrArg Drive.writing hcounted).trans hwriting
  · exact (congrArg Drive.verifyFail hcounted :)

theorem nvmeWriteDone_retires (hstate : (s.drive d).state ≠ 2) :
    ∃ t, exec (.nvmeWriteDone d us false) s = .next t ∧ (t.drive d).retired = (s.drive d).retired + 1 := by
  obtain ⟨times, window, p99, slow99, slowHour, htime⟩ := timeWrite_drive (s := s) (d := d) (us := us)
  have hexec : exec (.nvmeWriteDone d us false) s = .next _ := rfl
  rw [hwriting] at hexec
  dsimp only at hexec
  rw [if_neg Bool.false_ne_true, if_neg hstate] at hexec
  exact ⟨_, hexec, retireStripe_retired.trans (congrArg (fun x => Drive.retired x + 1) htime :)⟩

end WriteDone

theorem smartPoll_exec {log : SmartLog} (hready : driveReady (s.drive d) = true) :
    ∃ t, exec (.smartPoll d log) s = .next t ∧ (t.drive d).pct = min 255 log.pctUsed ∧
      (t.drive d).spare = log.spare ∧ (t.drive d).written = log.unitsWritten * 512000 ∧
      (100 < min 255 log.pctUsed → (t.drive d).state = 2) ∧ (min 255 log.pctUsed ≤ 100 → (t.drive d).state = (s.drive d).state) := by
  have hstate : (s.drive d).state = 1 ∨ (s.drive d).state = 2 := by simpa [driveReady] using hready
  let polled := s.onDrive d fun d => { d with
    pct := min 255 log.pctUsed, spare := log.spare, written := log.unitsWritten * 512000, mediaErr := log.mediaErr % 4294967296 }
  let u := if wearSteps (s.drive d).pct < wearSteps (min 255 log.pctUsed) then recEvent polled 1 d (min 255 log.pctUsed : Nat) else polled
  have hu : u.drive d = _ := (by
    dsimp only [u]
    split
    · exact drive_of_recorded recEvent_recorded
    · rfl : u.drive d = polled.drive d).trans State.drive_onDrive_same
  have hexec : exec (.smartPoll d log) s = .next (if 100 < min 255 log.pctUsed ∧ (s.drive d).state = 1 then
      reduceTrace (recEvent (u.onDrive d fun d => { d with state := 2 }) 2 d (min 255 log.pctUsed : Nat)) d else u) :=
    congrArg Host.Outcome.next (if_neg (by rw [hready]; decide))
  clear_value u
  refine ⟨_, hexec, ?_⟩
  split
  next hworn =>
    rw [reduceTrace_drive, drive_of_recorded recEvent_recorded, State.drive_onDrive_same, hu]
    exact ⟨rfl, rfl, rfl, fun _ => rfl, fun hle => by omega⟩
  next hkept =>
    rw [hu]
    exact ⟨rfl, rfl, rfl, fun hover => show (s.drive d).state = 2 by omega, fun _ => rfl⟩

theorem driveAttach_exec {info : DriveInfo} (hports : s.sys.rootPorts = true) (hslot : d ≤ 3) (hleast : 500000000000 ≤ info.capacity)
    (hmost : info.capacity ≤ 16000000000000) :
    ∃ t, exec (.driveAttach d info) s = .next t ∧ driveReady (t.drive d) = true ∧ (t.drive d).capacity = info.capacity ∧
      (t.drive d).mbs = info.writeMBs ∧ (info.headerSerial ≠ some Config.serial → (t.drive d).pages = [] ∧ ∀ c ∈ t.cairn.stored, c.drive ≠ d) := by
  have hexec : exec (.driveAttach d info) s = .next _ := congrArg Host.Outcome.next (if_neg (by rw [hports]; simp; omega))
  by_cases hown : info.headerSerial = some Config.serial
  · simp only [hown, beq_self_eq_true, if_true] at hexec
    refine ⟨_, hexec, ?_⟩
    rw [State.drive_onDrive_same]
    exact ⟨by split <;> rfl, rfl, rfl, fun hne => absurd hown hne⟩
  · have hforeign : (info.headerSerial == some Config.serial) = false := beq_eq_false_iff_ne.2 hown
    simp only [hforeign, Bool.false_eq_true, if_false] at hexec
    refine ⟨_, hexec, ?_⟩
    rw [drive_of_recorded recEvent_recorded, State.drive_onDrive_same]
    refine ⟨rfl, rfl, rfl, fun _ => ⟨rfl, fun c hc => ?_⟩⟩
    rw [stored_of_recorded recEvent_recorded] at hc
    simpa using (List.mem_filter.1 hc).2

theorem driveFail_exec (hready : driveReady (s.drive d) = true) : ∃ t, exec (.driveFail d n) s = .next t ∧ (t.drive d).state = 3 ∧
    (t.drive d).writing = [] ∧ t.cairn.unspilled = ((s.drive d).writing.flatMap fun p => p.2.map slotSeq) ++ s.cairn.unspilled ∧
    (∀ c ∈ t.cairn.stored, c.drive ≠ d) := by
  have hexec : exec (.driveFail d n) s = .next _ := congrArg Host.Outcome.next (if_pos hready)
  obtain ⟨w, hfailed⟩ := failDrive_recorded (s := s) (d := d) (k := n)
  have hstored : (failDrive s d n).cairn.stored = _ := (congrArg RecSt.stored hfailed :)
  refine ⟨_, hexec, congrArg Drive.state failDrive_drive, congrArg Drive.writing failDrive_drive, (congrArg RecSt.unspilled hfailed :), fun c hc => ?_⟩
  rw [hstored] at hc
  simpa using (List.mem_filter.1 hc).2

/-! ### The NOR mirror and stored settings (17 R471, 15 R550) -/

theorem nextSector_keeps : (nextSector s).cairn.unmirrored = s.cairn.unmirrored ∧ ((nextSector s).sector n).retired = (s.sector n).retired := by
  unfold nextSector
  split
  · exact ⟨rfl, rfl⟩
  · next k _ =>
    refine ⟨rfl, ?_⟩
    change ((s.onSector k fun x => { x with erases := x.erases + 1, used := 0 }).sector n).retired = _
    rcases Decidable.em (n = k) with rfl | hne
    · rw [State.sector_onSector_same]
    · rw [State.sector_onSector_ne hne]

/-- A sector whose programming does not read back is retired, and nothing waiting for the mirror is lost (17 R471). -/
theorem retireSector_keeps : (retireSector s).cairn.unmirrored = s.cairn.unmirrored ∧
    ((retireSector s).sector s.cairn.sector).retired = true := by
  unfold retireSector
  extract_lets k u v m
  have hu : recorded u = recorded (s.onSector k fun x => { x with retired := true }) :=
    recorded_of_cairn (bump_cairn (s := s.onSector k fun x => { x with retired := true }) (i := cRec 11) (v := 1))
  have hv : recorded v = _ := recEvent_recorded.trans hu
  have hunmirrored : v.cairn.unmirrored = s.cairn.unmirrored := (congrArg RecSt.unmirrored hv :)
  have hretired : (v.sector k).retired = true :=
    (congrArg Sector.retired ((sector_of_recorded hv).trans State.sector_onSector_same) :)
  clear_value v
  split
  · have hfail := recEvent_recorded (s := v.onRec fun c => { c with mirrorFail := true }) (code := 0x0A) (subject := 0xFFFF) (v := m)
    exact ⟨(congrArg RecSt.unmirrored hfail :).trans hunmirrored, (congrArg (fun c : RecSt => (tabGet c.sectors {} k).retired) hfail :).trans hretired⟩
  · exact ⟨(nextSector_keeps (n := k)).1.trans hunmirrored, nextSector_keeps.2.trans hretired⟩

section Mirror

variable (hpulses : n ≤ 16) (hworks : s.cairn.mirrorFail = false) (hsome : s.cairn.unmirrored ≠ []) (hfew : s.cairn.unmirrored.length ≤ 400)
  (hroom : (s.sector s.cairn.sector).used + 4 ≤ 1023)
include hpulses hworks hsome hfew hroom

/-- With room in the sector a pulse count within its limit programs up to four records from the front. -/
theorem programPage_inRoom {good : Bool} : programPage s n good = if good = true then
    (s.onSector s.cairn.sector fun x => { x with used := x.used + min 4 s.cairn.unmirrored.length }).onRec fun c => { c with
      unmirrored := s.cairn.unmirrored.drop (min 4 s.cairn.unmirrored.length)
      mirrored := (s.cairn.unmirrored.take (min 4 s.cairn.unmirrored.length)).reverse ++ c.mirrored
      mirror := (s.cairn.unmirrored.take (min 4 s.cairn.unmirrored.length)).foldl (fun q r => if q = 0 then r.seq else laterSeq q r.seq) c.mirror }
    else retireSector s := by
  have hshed : shedMirror s = s := by
    rw [shedMirror, hworks]
    exact if_pos hfew
  have hcount : min (min 4 s.cairn.unmirrored.length) (1023 - (s.sector s.cairn.sector).used) = min 4 s.cairn.unmirrored.length := by omega
  have hfull : ¬ 1023 ≤ (s.sector s.cairn.sector).used := by omega
  have hcalm : decide (400 < s.cairn.unmirrored.length) = false := decide_eq_false (by omega)
  have hfast : decide (16 < n) = false := decide_eq_false (by omega)
  simp only [programPage, hshed, hworks, hsome, hfull, hcalm, hfast, hcount, Bool.false_eq_true, false_or, false_and, if_false]

theorem mirrorProgram_good : ∃ t, exec (.mirrorProgram n true) s = .next t ∧
    t.cairn.unmirrored = s.cairn.unmirrored.drop (min 4 s.cairn.unmirrored.length) ∧
    t.cairn.mirrored = (s.cairn.unmirrored.take (min 4 s.cairn.unmirrored.length)).reverse ++ s.cairn.mirrored ∧ SameBut (among [.cairn]) s t :=
  ⟨_, congrArg Host.Outcome.next ((programPage_inRoom hpulses hworks hsome hfew hroom).trans (if_pos rfl)), rfl, rfl,
    State.onRec_frame (State.onRec_frame SameBut.rfl' rfl) rfl⟩

theorem mirrorProgram_bad : ∃ t, exec (.mirrorProgram n false) s = .next t ∧ (t.sector s.cairn.sector).retired = true ∧
    t.cairn.unmirrored = s.cairn.unmirrored :=
  ⟨_, congrArg Host.Outcome.next ((programPage_inRoom hpulses hworks hsome hfew hroom).trans (if_neg Bool.false_ne_true)),
    retireSector_keeps.2, retireSector_keeps.1⟩

end Mirror

/-- A stored setting changes the NOR part as its item says (15 R550). -/
theorem applyStore_nor {i : StoreItem} : (applyStore s i).nor = norAfter s.nor i := by cases i <;> rfl

theorem configStoreDone_exec {i : StoreItem} {rest : List StoreItem} (hqueue : s.nor.queue = i :: rest) :
    ∃ t, exec .configStoreDone s = .next t ∧ t.nor = norAfter { s.nor with queue := rest } i ∧ SameBut (among [.nor, .field, .can]) s t := by
  have hexec : exec .configStoreDone s = .next (storeDone s) := rfl
  have hframe := sameBut_of_exec hexec (m := [.nor, .field, .can]) rfl
  have hdone : storeDone s = applyStore { s with nor := { s.nor with queue := rest } } i := by
    rw [storeDone, hqueue]
  exact ⟨_, hexec, by rw [hdone]; exact applyStore_nor, hframe⟩

/-- Settles O57: each query, trigger, cursor and moment of the recorder by its own lemma above. -/
theorem recorderKeepsEventsPagesAndDrives : Obligations.RecorderKeepsEventsPagesAndDrives := by
  unfold Obligations.RecorderKeepsEventsPagesAndDrives
  intro r s
  refine ⟨recStatus_exec, storeHealth_exec, fun hright => ⟨?_, ?_, ?_⟩, recCursorSet_exec, fun time => recEventIntake_stopped,
    fun time e => recEventIntake_corrected, fun time e rest hruns hintake => ⟨?_, ?_, ?_⟩, fun h => recSealTimer_exec, fun d => recPageSpill_exec,
    nvmeFlushTimer_exec, fun d => nvmeFlushDone_exec, fun d us p rest hwriting => ⟨?_, ?_, ?_⟩, fun d log => smartPoll_exec,
    fun d info => driveAttach_exec, fun d n => driveFail_exec, fun n hpulses hworks hsome hfew hroom => ⟨?_, ?_⟩,
    fun k => ⟨_, rfl, rfl, State.onRec_frame SameBut.rfl' rfl⟩, fun i rest => configStoreDone_exec⟩
  · exact fun hsection hlow hhigh => (setTrigger_exec hright hsection hlow hhigh).1
  · exact fun hsection hlow hhigh => (setTrigger_exec hright hsection hlow hhigh).2
  · exact setTrace_exec hright
  · exact recEventIntake_unrecorded hruns hintake
  · exact recEventIntake_new hruns hintake
  · exact fun h hrecord hdropped hpend htrigger => recEventIntake_again hruns hintake hrecord hdropped hpend htrigger
  · exact nvmeWriteDone_written hwriting
  · exact nvmeWriteDone_retry hwriting
  · exact nvmeWriteDone_retires hwriting
  · exact mirrorProgram_good hpulses hworks hsome hfew hroom
  · exact mirrorProgram_bad hpulses hworks hsome hfew hroom


end Sys2Proof.Machine
end
